-- ==== Sys2Proof/Word.lean ====
section
/-! DEFINITION. Bytes and the plainest arithmetic over them. Registers, packet fields and counts are natural numbers
and integers, narrowed at the place where the manual narrows them (00_scope.md R6). -/

namespace Sys2Proof

/-- One byte of memory, of a packet, of a flit or of a record. -/
abbrev Byte := BitVec 8

/-- The low `w` bits of a number. -/
def low (w n : Nat) : Nat := n % 2 ^ w

/-- The low `w` bits of an integer, as a pattern. -/
def pat (w : Nat) (i : Int) : Nat := (i % (2 ^ w : Nat)).toNat

/-- A `w`-bit pattern read as two's complement. -/
def sgn (w n : Nat) : Int := if low w n < 2 ^ (w - 1) then (low w n : Int) else (low w n : Int) - (2 ^ w : Nat)

/-- Bits `[lo + w - 1 : lo]` of a number. -/
def bits (n lo w : Nat) : Nat := n / 2 ^ lo % 2 ^ w

/-- Bit `i` of a number. -/
def bit (n i : Nat) : Bool := n / 2 ^ i % 2 = 1

end Sys2Proof
end

