-- ==== Sys2Proof/Syntax.lean ====
section
/-! DEFINITION. The commands of the block: `Instr` has one constructor per row of spec/opcode_table.json. A host
command carries the header of its packet (02_command_packets.md R33) and its parameters; a register write or an event
carries what the sender supplies with it and, as `t`, the instant at which it happens (log 2). -/

namespace Sys2Proof

/-- The interface a host command arrives on (R38, R39). -/
inductive Iface where
  | uplink
  | spi
  deriving DecidableEq, Repr

/-- The header of a command packet (R33), with the interface it arrives on and the instant of its arrival in TB1 steps
of 1.25 ns. -/
structure Hdr where
  iface    : Iface
  tag      : Nat
  target   : Nat
  flags    : Nat
  status   : Nat
  sequence : Nat
  reserved : Nat
  at_      : Nat
  deriving DecidableEq, Repr

/-- A transaction of the link (17_link_transactions.md R377); LEN is the length of `body`. -/
structure Trans where
  ttype : Nat
  dest  : Nat
  src   : Nat
  flags : Nat
  tag   : Nat
  body  : List Byte
  deriving DecidableEq, Repr

/-- The result of training or tracking one DRAM channel (12_raster_memory.md R265 to R268): read and write eye widths
and centres per DQ in taps, the codes accepted for VREF_DQ and VREF_CA, the WCK-to-DQ oscillator count, and the tap
values it computes. -/
structure TrainMeas where
  readEyes  : List Nat
  writeEyes : List Nat
  centres   : List Int
  vrefDq    : Nat
  vrefCa    : Nat
  osc       : Nat
  taps      : List Int
  deriving DecidableEq, Repr

/-- The measurement of one tap unit (21_thermal_calibration.md R449, R451): its eye width and its tap values. -/
structure TapMeas where
  unit : Nat
  eye  : Nat
  taps : List Int
  deriving DecidableEq, Repr

/-- What the converters of one axis give for one profile update (13_motion_axes.md R284, R304), in 1/16 code: for each
phase the mean winding voltage, the mean current, and the current at the start and at the end of the update. -/
structure AxisMeas where
  vA     : Int
  iA     : Int
  startA : Int
  endA   : Int
  vB     : Int
  iB     : Int
  startB : Int
  endB   : Int
  deriving DecidableEq, Repr

/-- The opcodes with their parameters (02_command_packets.md, the opcode tables). -/
inductive HostCmd where
  /-- 0x0000 NOP -/
  | nop
  /-- 0x0001 GET_INFO -/
  | getInfo
  /-- 0x0002 REG_READ -/
  | regRead (addr : Nat) (count : Nat)
  /-- 0x0003 REG_WRITE -/
  | regWrite (addr : Nat) (words : List Nat)
  /-- 0x0004 REG_MODIFY -/
  | regModify (addr : Nat) (mask : Nat) (value : Nat)
  /-- 0x0005 RESET -/
  | reset (kind : Nat) (force : Nat)
  /-- 0x0006 GET_STATUS -/
  | getStatus (clear : Nat)
  /-- 0x0100 MEM_FILL -/
  | memFill (addr : Nat) (len : Nat) (pattern : Nat)
  /-- 0x0101 MEM_MODE -/
  | memMode (mode : Nat)
  /-- 0x0102 DMA_START -/
  | dmaStart (channel : Nat) (toShadow : Nat) (desc : List Byte)
  /-- 0x0103 DMA_ABORT -/
  | dmaAbort (channel : Nat)
  /-- 0x0200 PACK_START -/
  | packStart (slot : Nat) (level : Nat) (src : Nat) (dst : Nat) (srcLen : Nat) (dstLen : Nat)
  /-- 0x0201 UNPACK_START -/
  | unpackStart (slot : Nat) (level : Nat) (src : Nat) (dst : Nat) (srcLen : Nat) (dstLen : Nat)
  /-- 0x0202 PACK_RESUME -/
  | packResume (slot : Nat) (dst : Nat) (dstLen : Nat)
  /-- 0x0203 PACK_SLOT -/
  | packSlot (slot : Nat) (release : Nat)
  /-- 0x0300 JOB_DEFINE -/
  | jobDefine (jobId : Nat) (planeMask : Nat) (endMode : Nat) (endValue : Nat) (bindings : List Byte)
  /-- 0x0301 JOB_START -/
  | jobStart (jobId : Nat) (arm : Nat) (source : Nat) (position : Int)
  /-- 0x0302 JOB_STOP -/
  | jobStop (when : Nat) (dropQueued : Nat)
  /-- 0x0303 JOB_STATUS -/
  | jobStatus
  /-- 0x0304 STREAM_COMMIT -/
  | streamCommit (plane : Nat) (writeOffset : Nat)
  /-- 0x0400 LAYER_SET -/
  | layerSet (plane : Nat) (layer : Nat) (enable : Nat) (alpha : Nat) (premult : Nat) (flipAt : Nat) (addr : Nat) (width : Nat) (height : Nat) (stride : Nat)
  /-- 0x0401 KITE_MOVE -/
  | kiteMove (plane : Nat) (flipAt : Nat) (kiteX : Nat) (kiteY : Nat)
  /-- 0x0402 PLOAD -/
  | pload (plane : Nat) (rects : Nat) (src : Nat) (len : Nat)
  /-- 0x0403 PLOCK -/
  | plock (plane : Nat)
  /-- 0x0404 PUNLOCK -/
  | punlock (plane : Nat) (token : Nat)
  /-- 0x0405 TABLE_LOAD -/
  | tableLoad (plane : Nat) (table : Nat) (flipAt : Nat) (src : Nat) (len : Nat)
  /-- 0x0500 HEAD_PROFILE -/
  | headProfile (plane : Nat) (record : List Byte)
  /-- 0x0501 HEAD_MAP -/
  | headMap (plane : Nat) (ports : List Nat)
  /-- 0x0502 PORT_ENABLE -/
  | portEnable (portMask : Nat) (enable : Nat)
  /-- 0x0503 PORT_CLEAR -/
  | portClear (portMask : Nat)
  /-- 0x0504 HEAD_READ -/
  | headRead (port : Nat)
  /-- 0x0505 PREHEAT_TARGET -/
  | preheatTarget (plane : Nat) (target : Int)
  /-- 0x0600 ENC_CONFIG -/
  | encConfig (enc : Nat) (filter : Nat) (bandwidth : Nat) (standstillMs : Nat) (relayEnable : Nat)
  /-- 0x0601 ENC_REFERENCE -/
  | encReference (enc : Nat) (count : Int)
  /-- 0x0602 ENC_READ -/
  | encRead (enc : Nat)
  /-- 0x0603 LINE_CONFIG -/
  | lineConfig (plane : Nat) (enc : Nat) (pitch : Nat) (delay : Nat) (cpl : Nat) (wobble : Nat) (lookahead : Nat)
  /-- 0x0604 HEAD_OFFSET -/
  | headOffset (plane : Nat) (first : Nat) (offsets : List Int)
  /-- 0x0605 COMPARE_SET -/
  | compareSet (unit : Nat) (source : Nat) (direction : Nat) (position : Int)
  /-- 0x0606 WSPD_CONFIG -/
  | wspdConfig (enable : Nat) (margin : Nat) (highWm : Nat)
  /-- 0x0700 CAM_CONFIG -/
  | camConfig (port : Nat) (record : List Byte)
  /-- 0x0701 CAM_INLINE -/
  | camInline (port : Nat)
  /-- 0x0702 ROI_SET -/
  | roiSet (first : Nat) (records : List Byte)
  /-- 0x0703 STATS_READ -/
  | statsRead (first : Nat) (count : Nat)
  /-- 0x0704 LOOP_CTRL -/
  | loopCtrl (loop : Nat) (mode : Nat) (stepLimit : Nat)
  /-- 0x0705 ALIGN_READ -/
  | alignRead (plane : Nat)
  /-- 0x0706 ALIGN_RESTORE -/
  | alignRestore (plane : Nat) (record : List Byte)
  /-- 0x0800 AXIS_CONFIG -/
  | axisConfig (axis : Nat) (record : List Byte)
  /-- 0x0801 AXIS_MOVE -/
  | axisMove (axis : Nat) (target : Int) (vmax : Nat) (accel : Nat) (decel : Nat)
  /-- 0x0802 AXIS_TABLE -/
  | axisTable (axis : Nat) (first : Nat) (last : Nat) (segments : List Byte)
  /-- 0x0803 AXIS_STOP -/
  | axisStop (axis : Nat) (mode : Nat)
  /-- 0x0804 AXIS_READ -/
  | axisRead (axis : Nat)
  /-- 0x0805 AXIS_SET_POS -/
  | axisSetPos (axis : Nat) (position : Int)
  /-- 0x0806 SWITCH_CONFIG -/
  | switchConfig (sw : Nat) (edge : Nat) (stuckMs : Nat)
  /-- 0x0900 TIME_READ -/
  | timeRead (tb : Nat)
  /-- 0x0901 TIME_SET -/
  | timeSet (tb : Nat) (seconds : Nat) (ns : Nat)
  /-- 0x0902 TIME_ADJUST -/
  | timeAdjust (tb : Nat) (rate : Int) (offset : Int)
  /-- 0x0903 TRIGGER_SET -/
  | triggerSet (trigger : Nat) (tb : Nat) (startS : Nat) (startNs : Nat) (periodNs : Nat)
  /-- 0x0A00 THERM_READ -/
  | thermRead
  /-- 0x0A01 HK_READ -/
  | hkRead (first : Nat) (count : Nat)
  /-- 0x0A02 CAL_RUN -/
  | calRun (targets : Nat)
  /-- 0x0A03 CAL_DT -/
  | calDt (dt : Nat)
  /-- 0x0B00 LINK_CONFIG -/
  | linkConfig (port : Nat) (lanes : Nat) (rate : Nat) (pre : Nat) (main : Nat) (post : Nat)
  /-- 0x0B01 LINK_RESTART -/
  | linkRestart (port : Nat)
  /-- 0x0B02 LINK_STATUS -/
  | linkStatus (port : Nat)
  /-- 0x0B03 HIER_READ -/
  | hierRead
  /-- 0x0C00 PAIR_CONFIG -/
  | pairConfig (enable : Nat) (strings : Nat)
  /-- 0x0C01 PAIR_STATUS -/
  | pairStatus
  /-- 0x0C02 PAIR_HANDOVER -/
  | pairHandover
  /-- 0x0C03 PAIR_REJOIN -/
  | pairRejoin
  /-- 0x0D00 OTP_READ -/
  | otpRead
  /-- 0x0D01 OTP_BURN -/
  | otpBurn (record : List Byte)
  /-- 0x0D02 KEY_BURN -/
  | keyBurn (slot : Nat) (hash : List Byte)
  /-- 0x0D03 PATCH_LOAD -/
  | patchLoad (offset : Nat) (data : List Byte)
  /-- 0x0D04 PATCH_ACTIVATE -/
  | patchActivate (size : Nat) (signature : List Byte)
  /-- 0x0E00 LADDER_SET -/
  | ladderSet (state : Nat) (wakePort : Nat)
  /-- 0x0E01 LADDER_STATUS -/
  | ladderStatus
  /-- 0x0E02 VCORE_FLOOR -/
  | vcoreFloor (floor : Nat)
  /-- 0x0F00 LOG_READ -/
  | logRead (first : Nat) (count : Nat)
  /-- 0x0F01 LOG_CLEAR -/
  | logClear (counters : Nat)
  /-- 0x0F02 ECHO -/
  | echo (data : List Byte)
  /-- 0x0F03 COUNTERS_READ -/
  | countersRead (block : Nat)
  deriving DecidableEq, Repr

/-- The opcode of a command (02_command_packets.md, the opcode tables). -/
def HostCmd.opcode : HostCmd → Nat
  | .nop => 0x0000
  | .getInfo => 0x0001
  | .regRead .. => 0x0002
  | .regWrite .. => 0x0003
  | .regModify .. => 0x0004
  | .reset .. => 0x0005
  | .getStatus .. => 0x0006
  | .memFill .. => 0x0100
  | .memMode .. => 0x0101
  | .dmaStart .. => 0x0102
  | .dmaAbort .. => 0x0103
  | .packStart .. => 0x0200
  | .unpackStart .. => 0x0201
  | .packResume .. => 0x0202
  | .packSlot .. => 0x0203
  | .jobDefine .. => 0x0300
  | .jobStart .. => 0x0301
  | .jobStop .. => 0x0302
  | .jobStatus => 0x0303
  | .streamCommit .. => 0x0304
  | .layerSet .. => 0x0400
  | .kiteMove .. => 0x0401
  | .pload .. => 0x0402
  | .plock .. => 0x0403
  | .punlock .. => 0x0404
  | .tableLoad .. => 0x0405
  | .headProfile .. => 0x0500
  | .headMap .. => 0x0501
  | .portEnable .. => 0x0502
  | .portClear .. => 0x0503
  | .headRead .. => 0x0504
  | .preheatTarget .. => 0x0505
  | .encConfig .. => 0x0600
  | .encReference .. => 0x0601
  | .encRead .. => 0x0602
  | .lineConfig .. => 0x0603
  | .headOffset .. => 0x0604
  | .compareSet .. => 0x0605
  | .wspdConfig .. => 0x0606
  | .camConfig .. => 0x0700
  | .camInline .. => 0x0701
  | .roiSet .. => 0x0702
  | .statsRead .. => 0x0703
  | .loopCtrl .. => 0x0704
  | .alignRead .. => 0x0705
  | .alignRestore .. => 0x0706
  | .axisConfig .. => 0x0800
  | .axisMove .. => 0x0801
  | .axisTable .. => 0x0802
  | .axisStop .. => 0x0803
  | .axisRead .. => 0x0804
  | .axisSetPos .. => 0x0805
  | .switchConfig .. => 0x0806
  | .timeRead .. => 0x0900
  | .timeSet .. => 0x0901
  | .timeAdjust .. => 0x0902
  | .triggerSet .. => 0x0903
  | .thermRead => 0x0A00
  | .hkRead .. => 0x0A01
  | .calRun .. => 0x0A02
  | .calDt .. => 0x0A03
  | .linkConfig .. => 0x0B00
  | .linkRestart .. => 0x0B01
  | .linkStatus .. => 0x0B02
  | .hierRead => 0x0B03
  | .pairConfig .. => 0x0C00
  | .pairStatus => 0x0C01
  | .pairHandover => 0x0C02
  | .pairRejoin => 0x0C03
  | .otpRead => 0x0D00
  | .otpBurn .. => 0x0D01
  | .keyBurn .. => 0x0D02
  | .patchLoad .. => 0x0D03
  | .patchActivate .. => 0x0D04
  | .ladderSet .. => 0x0E00
  | .ladderStatus => 0x0E01
  | .vcoreFloor .. => 0x0E02
  | .logRead .. => 0x0F00
  | .logClear .. => 0x0F01
  | .echo .. => 0x0F02
  | .countersRead .. => 0x0F03

/-- The commands of the block, one constructor per row of spec/opcode_table.json. -/
inductive Instr where
  /-- NOP (R36). Command that does nothing beyond the common checks and its reply. -/
  | nop (h : Hdr)
  /-- GET_INFO (R36). Command that returns the device id, firmware versions, hierarchy id, pair role, ladder state and silicon revision. -/
  | getInfo (h : Hdr)
  /-- REG_READ (R49). Command that reads COUNT words of one region of the address map in ascending order. -/
  | regRead (h : Hdr) (addr : Nat) (count : Nat)
  /-- REG_WRITE (R49). Command that checks every word of a range against the state earlier words leave, then writes all of them or none. -/
  | regWrite (h : Hdr) (addr : Nat) (words : List Nat)
  /-- REG_MODIFY (R74). Command that atomically reads a register, merges VALUE under MASK and writes the result back. -/
  | regModify (h : Hdr) (addr : Nat) (mask : Nat) (value : Nat)
  /-- RESET (R50). Command that replies and then performs a firmware restart (KIND 0) or a full device reset (KIND 1). -/
  | reset (h : Hdr) (kind : Nat) (force : Nat)
  /-- GET_STATUS (R50). Command that returns fault groups, outstanding commands, queued and lost events and CRC errors, optionally clearing the fault groups. -/
  | getStatus (h : Hdr) (clear : Nat)
  /-- MEM_FILL (R503). Command that checks a DRAM range and starts filling it with a repeated 32-bit pattern, replying ST_ACCEPTED. -/
  | memFill (h : Hdr) (addr : Nat) (len : Nat) (pattern : Nat)
  /-- MEM_MODE (R271). Command that switches the DRAM between normal service and initialisation mode. -/
  | memMode (h : Hdr) (mode : Nat)
  /-- DMA_START (R319). Command that checks a descriptor and makes it active on an idle channel or stores it in the shadow. -/
  | dmaStart (h : Hdr) (channel : Nat) (toShadow : Nat) (desc : List Byte)
  /-- DMA_ABORT (R325). Command that stops a channel starting bursts, discards its shadow, waits for bursts in flight and replies BYTES_DONE. -/
  | dmaAbort (h : Hdr) (channel : Nat)
  /-- PACK_START (R333). Command that checks and starts a packing job in a free compression slot. -/
  | packStart (h : Hdr) (slot : Nat) (level : Nat) (src : Nat) (dst : Nat) (srcLen : Nat) (dstLen : Nat)
  /-- UNPACK_START (R333). Command that checks and starts an unpacking job in a free compression slot. -/
  | unpackStart (h : Hdr) (slot : Nat) (level : Nat) (src : Nat) (dst : Nat) (srcLen : Nat) (dstLen : Nat)
  /-- PACK_RESUME (R338). Command that continues a stopped compression job into a new destination part. -/
  | packResume (h : Hdr) (slot : Nat) (dst : Nat) (dstLen : Nat)
  /-- PACK_SLOT (R51). Command that reports a slot's state and counts and optionally releases a stopped slot. -/
  | packSlot (h : Hdr) (slot : Nat) (release : Nat)
  /-- JOB_DEFINE (R132). Command that checks and stores a job definition with its plane bindings and ring state. -/
  | jobDefine (h : Hdr) (jobId : Nat) (planeMask : Nat) (endMode : Nat) (endValue : Nat) (bindings : List Byte)
  /-- JOB_START (R145). Command that checks a job and queues it to start immediately, at a web position, at a switch mark or at the next repeat boundary. -/
  | jobStart (h : Hdr) (jobId : Nat) (arm : Nat) (source : Nat) (position : Int)
  /-- JOB_STOP (R149). Command that sets the end line of the running job and optionally drops the queued job. -/
  | jobStop (h : Hdr) (when : Nat) (dropQueued : Nat)
  /-- JOB_STATUS (R151). Command that returns the running and queued jobs, repeats done, line indices and underrun counts. -/
  | jobStatus (h : Hdr)
  /-- STREAM_COMMIT (R139). Command that advances a plane's committed row count up to a write offset and replies the ring level. -/
  | streamCommit (h : Hdr) (plane : Nat) (writeOffset : Nat)
  /-- LAYER_SET (R155). Command that checks and writes the shadow settings of a variable, overlay or kite layer and its flip point. -/
  | layerSet (h : Hdr) (plane : Nat) (layer : Nat) (enable : Nat) (alpha : Nat) (premult : Nat) (flipAt : Nat) (addr : Nat) (width : Nat) (height : Nat) (stride : Nat)
  /-- KITE_MOVE (R158). Command that writes the kite position shadow of a plane and its flip point. -/
  | kiteMove (h : Hdr) (plane : Nat) (flipAt : Nat) (kiteX : Nat) (kiteY : Nat)
  /-- PLOAD (R160). Command that checks a protected-layer staging area and starts the loader copying it into the plane's protected area. -/
  | pload (h : Hdr) (plane : Nat) (rects : Nat) (src : Nat) (len : Nat)
  /-- PLOCK (R164). Command that locks a loaded protected layer and returns a fresh token and the layer CRC. -/
  | plock (h : Hdr) (plane : Nat)
  /-- PUNLOCK (R165). Command that unlocks a protected layer with the right token, or counts a wrong token. -/
  | punlock (h : Hdr) (plane : Nat) (token : Nat)
  /-- TABLE_LOAD (R179). Command that checks and starts copying a halftoner table into the plane's shadow bank. -/
  | tableLoad (h : Hdr) (plane : Nat) (table : Nat) (flipAt : Nat) (src : Nat) (len : Nat)
  /-- HEAD_PROFILE (R188). Command that checks and stores a plane's head profile, resetting the pre-heat of its ports. -/
  | headProfile (h : Hdr) (plane : Nat) (record : List Byte)
  /-- HEAD_MAP (R189). Command that assigns head ports to a plane in cross-web order. -/
  | headMap (h : Hdr) (plane : Nat) (ports : List Nat)
  /-- PORT_ENABLE (R190). Command that enables or disables the head ports of a mask, restarting enabled ports afresh. -/
  | portEnable (h : Hdr) (portMask : Nat) (enable : Nat)
  /-- PORT_CLEAR (R215). Command that clears non-persisting fault causes of head ports and returns those still faulted. -/
  | portClear (h : Hdr) (portMask : Nat)
  /-- HEAD_READ (R205). Command that returns a head port's temperature, pre-heat, fault bits and SRET error count. -/
  | headRead (h : Hdr) (port : Nat)
  /-- PREHEAT_TARGET (R208). Command that sets the head temperature target of every port of a plane. -/
  | preheatTarget (h : Hdr) (plane : Nat) (target : Int)
  /-- ENC_CONFIG (R109). Command that writes an encoder's filter, observer bandwidth, standstill time and relay enable. -/
  | encConfig (h : Hdr) (enc : Nat) (filter : Nat) (bandwidth : Nat) (standstillMs : Nat) (relayEnable : Nat)
  /-- ENC_REFERENCE (R83). Command that loads an encoder counter at one sampler instant, shifting the observer, S and H and clearing INVALID. -/
  | encReference (h : Hdr) (enc : Nat) (count : Int)
  /-- ENC_READ (R84). Command that returns one simultaneous capture of an encoder's count, index latch, velocity and flags. -/
  | encRead (h : Hdr) (enc : Nat)
  /-- LINE_CONFIG (R131). Command that sets a plane's encoder, pitch, delay, counts per line, wobble and lookahead. -/
  | lineConfig (h : Hdr) (plane : Nat) (enc : Nat) (pitch : Nat) (delay : Nat) (cpl : Nat) (wobble : Nat) (lookahead : Nat)
  /-- HEAD_OFFSET (R112). Command that checks and writes along-web base offsets of a range of heads into the head-offset shadow. -/
  | headOffset (h : Hdr) (plane : Nat) (first : Nat) (offsets : List Int)
  /-- COMPARE_SET (R102). Command that arms a compare unit at a position and reports whether the position is already passed. -/
  | compareSet (h : Hdr) (unit : Nat) (source : Nat) (direction : Nat) (position : Int)
  /-- WSPD_CONFIG (R124). Command that sets the WSPD enable, overspeed margin and stream high-water mark. -/
  | wspdConfig (h : Hdr) (enable : Nat) (margin : Nat) (highWm : Nat)
  /-- CAM_CONFIG (R218). Command that checks and writes a camera port record. -/
  | camConfig (h : Hdr) (port : Nat) (record : List Byte)
  /-- CAM_INLINE (R231). Command that chooses the in-line camera port, effective at the next frame boundary. -/
  | camInline (h : Hdr) (port : Nat)
  /-- ROI_SET (R235). Command that checks and writes a range of ROI records. -/
  | roiSet (h : Hdr) (first : Nat) (records : List Byte)
  /-- STATS_READ (R237). Command that returns the mean and variance of a range of ROIs, coherently per port frame. -/
  | statsRead (h : Hdr) (first : Nat) (count : Nat)
  /-- LOOP_CTRL (R238). Command that sets the mode and step limit of the colour, nozzle or alignment loop. -/
  | loopCtrl (h : Hdr) (loop : Nat) (mode : Nat) (stepLimit : Nat)
  /-- ALIGN_READ (R256). Command that returns a plane's alignment record. -/
  | alignRead (h : Hdr) (plane : Nat)
  /-- ALIGN_RESTORE (R257). Command that checks and applies an alignment record to a plane. -/
  | alignRestore (h : Hdr) (plane : Nat) (record : List Byte)
  /-- AXIS_CONFIG (R311). Command that checks and writes an axis record, energising or de-energising the axis. -/
  | axisConfig (h : Hdr) (axis : Nat) (record : List Byte)
  /-- AXIS_MOVE (R293). Command that checks and starts or replaces a target move of an axis. -/
  | axisMove (h : Hdr) (axis : Nat) (target : Int) (vmax : Nat) (accel : Nat) (decel : Nat)
  /-- AXIS_TABLE (R298). Command that writes segments into an axis's shadow set and optionally commits the table. -/
  | axisTable (h : Hdr) (axis : Nat) (first : Nat) (last : Nat) (segments : List Byte)
  /-- AXIS_STOP (R302). Command that stops an axis at the next update by braking, at once, or with de-energising. -/
  | axisStop (h : Hdr) (axis : Nat) (mode : Nat)
  /-- AXIS_READ (R291). Command that returns an axis's position, velocity, load angle and flags. -/
  | axisRead (h : Hdr) (axis : Nat)
  /-- AXIS_SET_POS (R306). Command that sets an axis position and clears LOST, STALL and OVERSHOOT. -/
  | axisSetPos (h : Hdr) (axis : Nat) (position : Int)
  /-- SWITCH_CONFIG (R309). Command that sets a switch's active edge and stuck time, re-evaluating ARMED. -/
  | switchConfig (h : Hdr) (sw : Nat) (edge : Nat) (stuckMs : Nat)
  /-- TIME_READ (R428). Command that returns one capture of a time base. -/
  | timeRead (h : Hdr) (tb : Nat)
  /-- TIME_SET (R426). Command that steps TB0 or TB3 to a value and cancels any slew. -/
  | timeSet (h : Hdr) (tb : Nat) (seconds : Nat) (ns : Nat)
  /-- TIME_ADJUST (R427). Command that sets the rate offset of TB0 or TB3 and replaces its slew. -/
  | timeAdjust (h : Hdr) (tb : Nat) (rate : Int) (offset : Int)
  /-- TRIGGER_SET (R434). Command that arms, re-arms or disarms a time trigger. -/
  | triggerSet (h : Hdr) (trigger : Nat) (tb : Nat) (startS : Nat) (startNs : Nat) (periodNs : Nat)
  /-- THERM_READ (R440). Command that returns the used sensor values, the broken sensors and the thermal level. -/
  | thermRead (h : Hdr)
  /-- HK_READ (R437). Command that returns housekeeping channel values of the last completed round. -/
  | hkRead (h : Hdr) (first : Nat) (count : Nat)
  /-- CAL_RUN (R449). Command that starts calibration of the DRAM, lanes, head ports or D-PHY receivers. -/
  | calRun (h : Hdr) (targets : Nat)
  /-- CAL_DT (R450). Command that sets the temperature change that triggers tap tracking. -/
  | calDt (h : Hdr) (dt : Nat)
  /-- LINK_CONFIG (R355). Command that checks and stores a port's width, rate and equalisation for the next restart. -/
  | linkConfig (h : Hdr) (port : Nat) (lanes : Nat) (rate : Nat) (pre : Nat) (main : Nat) (post : Nat)
  /-- LINK_RESTART (R360). Command that takes a port down, applies its stored configuration and starts training. -/
  | linkRestart (h : Hdr) (port : Nat)
  /-- LINK_STATUS (R372). Command that returns a port's state, width, rate, CRC errors and replays. -/
  | linkStatus (h : Hdr) (port : Nat)
  /-- HIER_READ (R394). Command that returns the entries of the device's subtree table. -/
  | hierRead (h : Hdr)
  /-- PAIR_CONFIG (R406). Command that enables or disables pairing and its strings and starts the role decision. -/
  | pairConfig (h : Hdr) (enable : Nat) (strings : Nat)
  /-- PAIR_STATUS (R407). Command that returns the pair role, partner state, strings and the last gap. -/
  | pairStatus (h : Hdr)
  /-- PAIR_HANDOVER (R417). Command that makes the active member hand over to a READY standby with fault code 5. -/
  | pairHandover (h : Hdr)
  /-- PAIR_REJOIN (R423). Command that puts an UNSYNCED standby into RESYNC and starts the background copy. -/
  | pairRejoin (h : Hdr)
  /-- OTP_READ (R453). Command that returns the device id, the record in force, its generation, key slots and locks. -/
  | otpRead (h : Hdr)
  /-- OTP_BURN (R454). Command that burns a configuration record into the lowest blank generation and verifies it. -/
  | otpBurn (h : Hdr) (record : List Byte)
  /-- KEY_BURN (R456). Command that burns a public-key hash into a blank key slot and verifies it. -/
  | keyBurn (h : Hdr) (slot : Nat) (hash : List Byte)
  /-- PATCH_LOAD (R458). Command that writes bytes into the patch staging RAM. -/
  | patchLoad (h : Hdr) (offset : Nat) (data : List Byte)
  /-- PATCH_ACTIVATE (R460). Command that checks and verifies a staged patch, then replies and restarts the firmware from it. -/
  | patchActivate (h : Hdr) (size : Nat) (signature : List Byte)
  /-- LADDER_SET (R475). Command that sets AUTO_L1 or checks and orders entry into L2, L3 or L4 with a wake port. -/
  | ladderSet (h : Hdr) (state : Nat) (wakePort : Nat)
  /-- LADDER_STATUS (R472). Command that returns the ladder state, VCORE and the VCORE floor. -/
  | ladderStatus (h : Hdr)
  /-- VCORE_FLOOR (R471). Command that sets the VCORE floor and requests it at once when it lies above the voltage in force. -/
  | vcoreFloor (h : Hdr) (floor : Nat)
  /-- LOG_READ (R60). Command that returns a range of log entries as they stood at execution. -/
  | logRead (h : Hdr) (first : Nat) (count : Nat)
  /-- LOG_CLEAR (R59). Command that empties the log, re-arms EVT_LOG_FULL and optionally clears CMD.ERR_COUNT. -/
  | logClear (h : Hdr) (counters : Nat)
  /-- ECHO (R36). Command that returns its parameter bytes unchanged. -/
  | echo (h : Hdr) (data : List Byte)
  /-- COUNTERS_READ (R61). Command that returns the counter record of one register block. -/
  | countersRead (h : Hdr) (block : Nat)
  /-- REGISTER_FIELD_WRITE (R73). Write by REG_WRITE or REG_MODIFY of a register field that has no row of its own, applying its access type. -/
  | registerFieldWrite (addr : Nat) (value : Nat) (t : Nat)
  /-- CLR_MIN (R18). Write of SYS.PACE_CTRL.CLR_MIN that resets every PACEe.MIN to 0xFFFF. -/
  | clrMin (t : Nat)
  /-- GPIO_DIR_WRITE (R23). Write of SYS.GPIO_DIR, refused when it would make an output of a pin used as a DMA level request. -/
  | gpioDirWrite (value : Nat) (t : Nat)
  /-- CLK_STATUS_LOST_CLEAR (R16). Clear of SYS.CLK_STATUS.LOST that returns the edge units to REFCLK_SYS timing. -/
  | clkStatusLostClear (t : Nat)
  /-- CMP_POS_LO_WRITE (R102). Write of a compare unit's POS_LO that commits the position and evaluates PASSED. -/
  | cmpPosLoWrite (u : Fin 8) (value : Nat) (t : Nat)
  /-- Z_FAULT_CLEAR (R90). Clear of ENCe.STATUS.Z_FAULT that resumes the index latch once WIRE_Z is clear. -/
  | zFaultClear (e : Fin 4) (t : Nat)
  /-- SSI_START (R108). Write of 1 to an SSI port's TIMING.START that begins one frame. -/
  | ssiStart (k : Fin 2) (t : Nat)
  /-- CPL_HI_WRITE (R111). Write of a plane's CPL_HI that checks and commits both halves of CPL. -/
  | cplHiWrite (p : Fin 4) (value : Nat) (t : Nat)
  /-- DEFECT_POP (R121). Write of DEFECT_POP that removes the oldest defect log entry. -/
  | defectPop (t : Nat)
  /-- UE_POP (R278). Write of ECC.UE_POP that removes the oldest uncorrectable-error log entry. -/
  | uePop (t : Nat)
  /-- INVAL_GO (R270). Write of GO to MEMCTL.INVAL_CTRL that clears the valid bits of a range of regions. -/
  | invalGo (t : Nat)
  /-- RECOVER_ACTIVE_WRITE (R273). Write of MEMCTL.RECOVER_FIRST.ACTIVE that opens or closes a recovery range. -/
  | recoverActiveWrite (active : Bool) (t : Nat)
  /-- TABLE_COMMIT (R298). Write of GO to an axis TABLE_COMMIT that commits the shadow segment table. -/
  | tableCommit (a : Fin 4) (t : Nat)
  /-- DMA_COMMIT (R320). Write of GO to a DMA channel COMMIT that commits SHADOW0 to SHADOW7 as DMA_START with TO_SHADOW 1. -/
  | dmaCommit (ch : Fin 32) (t : Nat)
  /-- ZPHY_PORT_RESTART (R360). Write of 1 to ZPHY PORTp.CONFIG.RESTART that restarts the port. -/
  | zphyPortRestart (p : Fin 4) (t : Nat)
  /-- ZPHY_PORT_DISABLE (R359). Write of 0 to ZPHY PORTp.CONFIG.ENABLE that takes the port down with CAUSE 7. -/
  | zphyPortDisable (p : Fin 4) (t : Nat)
  /-- BROKEN_CLEAR (R439). Write of 1 to a THERM.BROKEN bit that clears the mark and streak of a sensor. -/
  | brokenClear (mask : Nat) (t : Nat)
  /-- PMBUS_FAULT_CLEAR (R472). Clear of PMBUS_STATUS.FAULT that allows further VCORE requests. -/
  | pmbusFaultClear (t : Nat)
  /-- SPI_WRITE_FRAME (R62). SPI frame 0x5A that delivers one command packet, discarded and counted if cut short. -/
  | spiWriteFrame (bytes : List Byte) (t : Nat)
  /-- SPI_STATUS_FRAME (R62). SPI frame 0xA5 that returns OUT_READY, IN_FULL, READY and NEXT_LEN. -/
  | spiStatusFrame (t : Nat)
  /-- SPI_READ_FRAME (R63). SPI frame 0xC3 that returns the next out item, removed only when MSPI_CS_N rises after its last byte. -/
  | spiReadFrame (clocked : Nat) (t : Nat)
  /-- SPI_UNKNOWN_FRAME (R64). SPI frame with an unknown frame byte, ignored until MSPI_CS_N rises. -/
  | spiUnknownFrame (frame : Byte) (t : Nat)
  /-- COMMAND_EXECUTE (R38). Start of execution of the next outstanding command in arrival order, with its opcode checks. -/
  | commandExecute (t : Nat)
  /-- EVENT_WINDOW_END (R501). End of a rate-limit window that raises one event for the occurrences held in it. -/
  | eventWindowEnd (code : Nat) (unit : Nat) (t : Nat)
  /-- REFCLK_SYS_LOST (R15). Declared loss of REFCLK_SYS that moves timing to the IRO, finishes the train, stops firing and raises EVT_REFCLK_LOST. -/
  | refclkSysLost (t : Nat)
  /-- PACE_WINDOW (R18). End of a 1 ms IRO window that updates engine paces, the print margin and the pace cap. -/
  | paceWindow (work : List (Option Nat)) (t : Nat)
  /-- ENC_EDGE_ACCEPTED (R81). Accepted edge on an encoder A or B input that counts plus or minus one. `levels` are what the
  receivers of A, B and Z show one after another up to `t`, in bits 0 to 2; `samples` for how many samples of 2.5 ns each stood. -/
  | encEdgeAccepted (e : Fin 4) (levels : List (Fin 8)) (samples : List Nat) (t : Nat)
  /-- INDEX_LATCH (R85). Accepted Z edge that latches the counter, records direction and runs the drift check. `levels` and
  `samples` as for ENC_EDGE_ACCEPTED. -/
  | indexLatch (e : Fin 4) (levels : List (Fin 8)) (samples : List Nat) (t : Nat)
  /-- WIRE_FAULT (R88). Fail-safe detection of a weak differential input for 1 µs on A, B or Z, setting INVALID or Z_FAULT. -/
  | wireFault (e : Fin 4) (ch : Fin 3) (t : Nat)
  /-- STANDSTILL (R95). Expiry of STANDSTILL_MS without edges that zeroes v and a and stops observer ticks. -/
  | standstill (e : Fin 4) (t : Nat)
  /-- SETTLING_END (R96). Expiry of the settling tick count that clears SETTLING. -/
  | settlingEnd (e : Fin 4) (t : Nat)
  /-- OBSERVER_TICK (R92). 10 µs tick that updates each encoder's observer and runs the line generator for its planes. -/
  | observerTick (t : Nat)
  /-- LINE_ISSUE (R113). Issue of the next line index of a plane to the pixel path once its issue position is reached and a FIFO has room. -/
  | lineIssue (p : Fin 4) (t : Nat)
  /-- LINE_TO_FIFO (R8). Writing of a composited and halftoned line into a head port's elastic FIFO once it has room. -/
  | lineToFifo (q : Fin 48) (t : Nat)
  /-- SHIFT_START (R197). Start of a line's shift at its deadline S(k), with the readiness decision. -/
  | shiftStart (q : Fin 48) (t : Nat)
  /-- LATCH (R199). LAT pulse of a shifted line into its row once the shift has ended and the row is free. -/
  | latch (q : Fin 48) (t : Nat)
  /-- STROBE_TRAIN_START (R200). Start of a line's strobe train at its committed time if LAT fell early enough, or its miss. -/
  | strobeTrainStart (q : Fin 48) (t : Nat)
  /-- STROBE_TRAIN_END (R202). End of a strobe train when its last fire window falls. -/
  | strobeTrainEnd (q : Fin 48) (rowB : Bool) (t : Nat)
  /-- DEFECT_MARK_RELEASE (R120). End of a DEFECT_MARK assertion at the next line fired at every head and after MIN_US. -/
  | defectMarkRelease (p : Fin 4) (t : Nat)
  /-- JOB_TAKEOVER (R147). Change-over from the running job to the queued job once each plane has finished its lines before B. -/
  | jobTakeover (t : Nat)
  /-- JOB_END (R148). End of a job when every plane has fired or missed its last line, raising EVT_JOB_END. -/
  | jobEnd (t : Nat)
  /-- WSPD_PERIOD (R123). Start of a 50 µs WSPD period that sets DUTY from the speed-request terms. -/
  | wspdPeriod (t : Nat)
  /-- SRET_FRAME (R204). Valid or broken SRET frame from a head, giving temperature and status. -/
  | sretFrame (q : Fin 48) (frame : List Byte) (broken : Bool) (t : Nat)
  /-- SRET_TIMEOUT (R207). Expiry of SRET_TIMEOUT without a valid frame that sets SRET_LOST and zeroes pre-heat. -/
  | sretTimeout (q : Fin 48) (t : Nat)
  /-- STROBE_WATCHDOG (R212). Expiry of STB_MAX with a strobe pad active that cuts the pad and sets STB_WD. -/
  | strobeWatchdog (q : Fin 48) (rowB : Bool) (stuck : Bool) (t : Nat)
  /-- STROBE_HW_LIMIT (R213). Expiry of the fixed 8.5 to 10 µs limit with a strobe pad active that cuts it and sets STB_HW. -/
  | strobeHwLimit (q : Fin 48) (rowB : Bool) (stuck : Bool) (t : Nat)
  /-- CSI_FRAME_START (R220). Frame Start packet that begins a framed-mode frame and takes a raw slot or drops the frame. -/
  | csiFrameStart (c : Fin 4) (vc : Nat) (ecc : Fin 3) (t : Nat)
  /-- CSI_FRAME_END (R220). Frame End packet that ends a framed-mode frame. -/
  | csiFrameEnd (c : Fin 4) (vc : Nat) (ecc : Fin 3) (t : Nat)
  /-- CSI_LONG_PACKET (R224). Long packet received whole, accepted as a line or discarded as foreign or ECC-failed. -/
  | csiLongPacket (c : Fin 4) (vc : Nat) (dt : Nat) (ecc : Fin 3) (pix : List Nat) (crcOk : Bool) (overflow : Bool) (t : Nat)
  /-- CAM_LINE_TIMEOUT (R220). Expiry of LINE_TIMEOUT_US without a line that ends an open frame. -/
  | camLineTimeout (c : Fin 4) (t : Nat)
  /-- PIPELINE_LINE (R228). Processing of one line in the camera pipeline, in line with precedence or from memory. -/
  | pipelineLine (t : Nat)
  /-- FRAME_PROCESSED (R230). End of a frame's processing that frees its slot, writes the output ring and updates statistics. -/
  | frameProcessed (c : Fin 4) (t : Nat)
  /-- PROFILE_UPDATE (R290). 50 µs motion update that advances target moves and segment tables and evaluates stalls, limits and compares. -/
  | profileUpdate (meas : List AxisMeas) (t : Nat)
  /-- MICROSTEP_ADVANCE (R290). Change of an axis microstep index when the linear position crosses an integer. -/
  | microstepAdvance (a : Fin 4) (t : Nat)
  /-- CHOP_HIGH_THRESHOLD (R285). Crossing of the upper threshold that switches a phase from drive to decay. -/
  | chopHighThreshold (a : Fin 4) (onB : Bool) (cur : Int) (t : Nat)
  /-- CHOP_CYCLE_END (R285). Crossing of the lower threshold that ends a chopping cycle and adapts offset and band. -/
  | chopCycleEnd (a : Fin 4) (onB : Bool) (cur : Int) (mean : Int) (t : Nat)
  /-- CHOP_BLANK_END (R285). End of the blanking time after a phase change. -/
  | chopBlankEnd (a : Fin 4) (onB : Bool) (t : Nat)
  /-- LONG_CYCLE (R286). Expiry of the maximum cycle length that ends a chopping cycle without adaptation. -/
  | longCycle (a : Fin 4) (onB : Bool) (t : Nat)
  /-- OVERCURRENT (R287). Current above OC_LIMIT at two samples that puts the axis in SLOW and de-energises it. -/
  | overcurrent (a : Fin 4) (onB : Bool) (cur : Int) (t : Nat)
  /-- HOLD_DELAY_EXPIRY (R292). Expiry of HOLD_DELAY_MS after motion that switches the current scale to IHOLD. -/
  | holdDelayExpiry (a : Fin 4) (t : Nat)
  /-- SWITCH_LEVEL_ACCEPTED (R308). New switch level accepted after 1 µs, latching or re-arming the switch. -/
  | switchLevelAccepted (k : Fin 8) (level : Bool) (t : Nat)
  /-- EVT_SWITCH_STUCK (R309). Expiry of STUCK_MS with the switch still active after a latch. -/
  | evtSwitchStuck (k : Fin 8) (t : Nat)
  /-- COMPARE_PULSE_END (R104). End of a compare unit's output pulse after PULSE_WIDTH. -/
  | comparePulseEnd (u : Fin 8) (t : Nat)
  /-- SSI_FRAME_PERIOD (R108). Start of a periodic SSI frame every PERIOD_US. -/
  | ssiFramePeriod (k : Fin 2) (t : Nat)
  /-- SSI_FRAME_DONE (R107). End of an SSI frame that stores the position or records a parity error. -/
  | ssiFrameDone (k : Fin 2) (start : Nat) (frame : List Bool) (t : Nat)
  /-- DMA_BURST_START (R315). Start of a DMA burst when pacing allows and fewer than 8 are in flight. -/
  | dmaBurstStart (ch : Fin 32) (pin : Bool) (t : Nat)
  /-- DMA_WRITE_ACK (R321). Acknowledgement of a channel's write that advances BYTES_DONE and may raise EVT_DMA_HALF. -/
  | dmaWriteAck (ch : Fin 32) (t : Nat)
  /-- DMA_TRANSFER_COMPLETE (R312). Completion point of a transfer that raises EVT_DMA_DONE and flips in the shadow or repeats. -/
  | dmaTransferComplete (ch : Fin 32) (t : Nat)
  /-- DMA_READ_ERROR (R324). Uncorrectable read of a transfer that stops the channel with ST_MEM_UNCORRECTABLE. -/
  | dmaReadError (ch : Fin 32) (t : Nat)
  /-- EVT_PACK_DONE (R51). End of a compression job with its status, counts and slot release or stop. -/
  | evtPackDone (slot : Fin 8) (t : Nat)
  /-- MEM_FILL_DONE (R503). Completion of a fill once every write is acknowledged, raising EVT_CMD_DONE. -/
  | memFillDone (t : Nat)
  /-- TABLE_COPY_DONE (R180). End of a halftoner table copy that raises EVT_CMD_DONE, sets PENDING and flips at once on an idle plane. -/
  | tableCopyDone (p : Fin 4) (table : Fin 6) (t : Nat)
  /-- PLOAD_COPY_DONE (R160). End of the protected-layer copy that sets LOADED and raises EVT_CMD_DONE with the CRC. -/
  | ploadCopyDone (p : Fin 4) (t : Nat)
  /-- CHECK_PASS_DONE (R167). End of a check pass that compares its CRC with the layer CRC. -/
  | checkPassDone (p : Fin 4) (t : Nat)
  /-- MEM_WRITE_ACK (R313). Commitment of a write to DRAM by the memory controller. -/
  | memWriteAck (ch : Fin 8) (t : Nat)
  /-- ZERO_FILL_DONE (R269). End of the zero fill of an invalid region that sets its valid bit and commits the waiting write. -/
  | zeroFillDone (region : Nat) (t : Nat)
  /-- CORRECTED_READ (R275). Read that finds a corrected error, delivers corrected data and queues a rewrite. -/
  | correctedRead (addr : Nat) (t : Nat)
  /-- SCRUB_REWRITE (R275). Out-of-turn read-correct-write of a block with a corrected error. -/
  | scrubRewrite (addr : Nat) (t : Nat)
  /-- UNCORRECTABLE_READ (R276). Read of an uncorrectable block that gives each requester its response and logs the error. -/
  | uncorrectableRead (addr : Nat) (requester : Nat) (unit : Nat) (line : Nat) (t : Nat)
  /-- SCRUB_BLOCK (R274). Scrubber read of the next block in a P3 slot after SCRUB_GAP. -/
  | scrubBlock (corrected : Bool) (bad : Bool) (t : Nat)
  /-- DRAM_TRAINING (R265). Start-up training of all DRAM channels with retries, or BOOT_FAIL. -/
  | dramTraining (results : List (List TrainMeas)) (t : Nat)
  /-- DRAM_TAP_STEP (R267). Step of a DRAM tap one tap toward its target, at most once per 1 ms. -/
  | dramTapStep (ch : Fin 8) (t : Nat)
  /-- DRAM_RETRAIN_DONE (R266). End of CAL_RUN DRAM retraining that raises EVT_CMD_DONE. -/
  | dramRetrainDone (results : List TrainMeas) (t : Nat)
  /-- EVT_READY (R265). End of start-up once training is accepted, leaving initialisation mode and raising EVT_READY. -/
  | evtReady (t : Nat)
  /-- ALIGNMENT_MARKER (R357). Valid alignment marker on a lane that loads the scrambler and advances marker lock and SEEN state. -/
  | alignmentMarker (l : Fin 16) (marker : Nat) (pad : Nat) (stuffs : Nat) (stuffErrs : Nat) (skew : Nat) (t : Nat)
  /-- MARKER_WINDOW_MISS (R353). End of a marker search window without a valid marker. -/
  | markerWindowMiss (l : Fin 16) (t : Nat)
  /-- REFCLK_ZL_LOST (R346). Declared loss of REFCLK_ZL that takes every enabled port down with CAUSE 4. -/
  | refclkZlLost (ppm : Int) (t : Nat)
  /-- REFCLK_ZL_RESTORED (R346). REFCLK_ZL valid again for 1 ms, restarting bring-up of enabled ports. -/
  | refclkZlRestored (ppm : Int) (t : Nat)
  /-- LANE_ACTIVITY_LOST (R359). Loss of lane activity for 1 µs without IDLE_NEXT, taking the port down with CAUSE 5. -/
  | laneActivityLost (l : Fin 16) (t : Nat)
  /-- WINDUP_UNANSWERED (R359). Expiry of 2 ms after a wind-up burst without an answer, taking the port down with CAUSE 6. -/
  | windupUnanswered (p : Fin 4) (t : Nat)
  /-- WIND_UP_BURST_RX (R365). Reception of a wind-up burst on a resting or idle port that brings it up again. -/
  | windUpBurstRx (p : Fin 4) (powered : Bool) (t : Nat)
  /-- IDLE_ENTRY (R388). Sending of the IDLE_NEXT marker once flits are acknowledged or 10 µs after the order. -/
  | idleEntry (p : Fin 4) (t : Nat)
  /-- IDLE_EXIT (R364). Exit from idle with a wind-up burst when the ladder state ends or data is ready. -/
  | idleExit (p : Fin 4) (t : Nat)
  /-- FLIT_RECEIVED (R368). Flit received whole, checked by CRC, with ACK and credits taken. -/
  | flitReceived (p : Fin 4) (flit : List Byte) (t : Nat)
  /-- INIT_RECEIVED (R369). Valid INIT flit that activates the port and carries the peer's id and credits. -/
  | initReceived (p : Fin 4) (payload : List Byte) (t : Nat)
  /-- NAK_RECEIVED (R372). NAK that acknowledges up to its ACK and starts a replay. -/
  | nakReceived (p : Fin 4) (ack : Nat) (t : Nat)
  /-- REPLAY_TIMEOUT (R372). Expiry of REPLAY_TIMEOUT_US without ACK progress that replays unacknowledged flits. -/
  | replayTimeout (p : Fin 4) (t : Nat)
  /-- NAK_REPEAT (R371). Expiry of REPLAY_TIMEOUT_US with a NAK outstanding that sends a further NAK. -/
  | nakRepeat (p : Fin 4) (t : Nat)
  /-- INIT_TIMEOUT (R375). Port not active 1 ms after coming up, a link-layer failure with LL_CAUSE 1. -/
  | initTimeout (p : Fin 4) (t : Nat)
  /-- FLIT_TRANSMIT (R383). Choice of the next flit of a port among replays, strings, beacons and transactions. -/
  | flitTransmit (p : Fin 4) (t : Nat)
  /-- CMD_TRANSACTION (R378). CMD transaction received whole, routed and handled as a command packet. -/
  | cmdTransaction (p : Fin 4) (x : Trans) (t : Nat)
  /-- UPSTREAM_FORWARD (R379). REPLY or EVENT transaction to the host received on a downlink and forwarded on ZP0, updating the subtree table. -/
  | upstreamForward (p : Fin 4) (x : Trans) (t : Nat)
  /-- MEMWR (R381). MEMWR transaction received whole and written, or refused with a MEMCPL. -/
  | memwr (p : Fin 4) (x : Trans) (t : Nat)
  /-- MEMRD (R381). MEMRD transaction received whole and answered with a MEMCPL. -/
  | memrd (p : Fin 4) (x : Trans) (t : Nat)
  /-- MEMCPL (R381). MEMCPL transaction received on the pair port and consumed. -/
  | memcpl (p : Fin 4) (x : Trans) (t : Nat)
  /-- BCAST (R384). Beacon received whole, used and restamped on forwarding. -/
  | bcast (p : Fin 4) (x : Trans) (t : Nat)
  /-- BEACON_SEND (R399). Manager's origination of a time beacon and optional line beacon every PERIOD_US. -/
  | beaconSend (t : Nat)
  /-- EVT_BEACON_LOST (R431). Expiry of BEACON_TIMEOUT_MS without a beacon that sets HOLDOVER. -/
  | evtBeaconLost (t : Nat)
  /-- TIME_TRIGGER_EVENT (R433). Event of a time trigger at its instant, pulsing CAM_TRIG and feeding DMA, motion or housekeeping. -/
  | timeTriggerEvent (k : Fin 5) (t : Nat)
  /-- CAM_TRIG_PULSE_END (R234). End of a time-trigger pulse on CAM_TRIG after its WIDTH. -/
  | camTrigPulseEnd (k : Fin 4) (t : Nat)
  /-- HK_ROUND_START (R438). Start of a housekeeping round on trigger 4, or its count as late. -/
  | hkRoundStart (t : Nat)
  /-- HK_ROUND_END (R438). End of a housekeeping round that publishes results and runs its eight checks in order. -/
  | hkRoundEnd (raw : List Int) (hk : List Nat) (dram : List (Option TrainMeas)) (t : Nat)
  /-- CAL_MEASURE_DONE (R449). End of a tap measurement that accepts or rejects each unit and raises its events. -/
  | calMeasureDone (target : Fin 3) (results : List TapMeas) (t : Nat)
  /-- TAP_STEP (R448). Step of an in-service tap one tap toward its target, at most once per 1 ms. -/
  | tapStep (target : Fin 3) (unit : Nat) (t : Nat)
  /-- STRING_RECEIVED (R385). STRING transaction from the partner with its role, fault code and checkpoint sequence. -/
  | stringReceived (x : Trans) (partner : Fin 3) (t : Nat)
  /-- STRING_SEND (R414). Sending of a message STRING every 100 µs or out of schedule on a fault. -/
  | stringSend (t : Nat)
  /-- WIRE_STRING_TOGGLE (R414). Change of STRING_OUT level every 100 µs, or every 10 µs to signal a fault. -/
  | wireStringToggle (t : Nat)
  /-- STRING_IN_EDGE (R415). Edge on STRING_IN, judged for the wire fault pattern. -/
  | stringInEdge (t : Nat)
  /-- STRING_SILENT (R415). Expiry of 400 µs without an edge or a valid STRING that declares a string silent. -/
  | stringSilent (wire : Bool) (t : Nat)
  /-- ILK_IN_CHANGE (R403). Change of ILK_IN that gates head drivers and detects collisions. -/
  | ilkInChange (level : Bool) (t : Nat)
  /-- ILK_RAISE (R403). Raising of ILK_OUT after ILK_IN has been low for 20 µs. -/
  | ilkRaise (t : Nat)
  /-- HWDOG_EXPIRY (R404). Expiry of the hardware pair watchdog that drops ILK_OUT until reset. -/
  | hwdogExpiry (t : Nat)
  /-- PAIR_LISTEN_END (R406). End of the 400 µs listen that makes the device active or standby. -/
  | pairListenEnd (t : Nat)
  /-- CHECKPOINT_SEND (R411). Sending of a checkpoint after 256 lines or 10 ms. -/
  | checkpointSend (t : Nat)
  /-- CKPT_RECEIVED (R387). CKPT transaction stored in the idle half, making the checkpoint current or discarding it. -/
  | ckptReceived (x : Trans) (t : Nat)
  /-- EVT_STANDBY_READY (R423). End of the resynchronisation copy with a current checkpoint, making the standby READY. -/
  | evtStandbyReady (t : Nat)
  /-- DOZE_TIMEOUT (R413). Expiry of DOZE.US without mirror traffic that returns a standby to L2. -/
  | dozeTimeout (t : Nat)
  /-- AUTO_L1_ENTRY (R474). Entry into L1 after IDLE_US without work or DRAM requests. -/
  | autoL1Entry (t : Nat)
  /-- L1_EXIT (R474). Return from L1 to L0 on a request. -/
  | l1Exit (t : Nat)
  /-- LADDER_ENTRY (R475). Entry into L2, L3 or L4 after the links have entered idle. -/
  | ladderEntry (t : Nat)
  /-- EVT_LADDER_WAKE (R476). Wake from L2 to L4 on the wake port, a switch or a trigger, reaching L1. -/
  | evtLadderWake (cause : Nat) (t : Nat)
  /-- RESET_N_FALL (R467). Fall of RESET_N that places every pin in its reset state. -/
  | resetNFall (t : Nat)
  /-- RESET_N_RISE (R468). Rise of RESET_N that resets registers, reads OTP and starts boot. -/
  | resetNRise (pwrgood : Bool) (side : Bool) (t : Nat)
  /-- PWRGOOD_FALL (R466). Fall of PWRGOOD that acts as a fall of RESET_N. -/
  | pwrgoodFall (t : Nat)
  /-- PMBUS_ALERT (R469). Assertion of PMBUS_ALERT_N that reads STATUS_WORD. -/
  | pmbusAlert (t : Nat)
  /-- VSETTLE_EXPIRY (R470). Expiry of VSETTLE_US after a VCORE write, after which the voltage is in force and read back. -/
  | vsettleExpiry (t : Nat)
  /-- BYPASS (R487). Boundary-scan instruction selecting the bypass register. -/
  | bypass (trst : Bool) (di : List Bool) (t : Nat)
  /-- IDCODE (R487). Boundary-scan instruction that shifts out the IDCODE. -/
  | idcode (trst : Bool) (di : List Bool) (t : Nat)
  /-- SAMPLE_PRELOAD (R487). Boundary-scan instruction that samples or preloads the boundary register. -/
  | samplePreload (trst : Bool) (pins : List (Bool × Bool)) (di : List Bool) (t : Nat)
  /-- EXTEST (R488). Boundary-scan instruction that drives outputs from the boundary register, head ports only with the interlock closed. -/
  | extest (trst : Bool) (pins : List (Bool × Bool)) (di : List Bool) (t : Nat)
  /-- CLAMP (R487). Boundary-scan instruction that holds outputs while bypassing. -/
  | clamp (trst : Bool) (di : List Bool) (t : Nat)
  /-- HIGHZ (R487). Boundary-scan instruction that sets outputs high-impedance. -/
  | highz (trst : Bool) (di : List Bool) (t : Nat)
  /-- REFCLK_SYS_RETURN (R14). End of the first complete 2 µs IRO window in which REFCLK_SYS meets the test again after a loss, setting SYS.CLK_STATUS.REFCLK_OK. -/
  | refclkSysReturn (t : Nat)
  /-- WIRE_FAULT_END (R88). Return of an A, B or Z differential input above the fail-safe threshold, clearing the live WIRE_A, WIRE_B or WIRE_Z bit. -/
  | wireFaultEnd (e : Fin 4) (ch : Fin 3) (t : Nat)
  /-- DI_STUCK (R107). Expiry of MONO_US after an SSI frame falls due with the data input still low, skipping the frame and setting DI_STUCK. -/
  | diStuck (k : Fin 2) (t : Nat)
  /-- LANE_CLOCK_SETTLED (R360). End of the SEEN 0 blocks and of the lane clock settling after a restart or reset, upon which the port sends its wind-up burst and begins training blocks. -/
  | laneClockSettled (p : Fin 4) (t : Nat)
  /-- BIT_LOCK (R357). Recovery of a lane receiver's clock from the incoming bits, setting LANEl.STATUS.BIT_LOCK so that the marker search can begin. -/
  | bitLock (l : Fin 16) (t : Nat)
  /-- SUPPLY_OPERATING_RANGE (R98). Entry of VAUX or VIO into, or departure from, its operating range, which starts or stops the encoder relay and releases or drives the axis bridge outputs. -/
  | supplyOperatingRange (inside : Bool) (t : Nat)
  /-- PMBUS_TRANSACTION_END (R472). Completion of a PMBus write or read to the regulator, with acknowledgement, NACK or PEC error. -/
  | pmbusTransactionEnd (ok : Bool) (value : Nat) (t : Nat)
  deriving DecidableEq, Repr

end Sys2Proof
end

