-- ==== Sys2Proof/Machine/Bytes.lean ====
section
/-! DEFINITION. Little-endian fields of packets, records and memory (00_scope.md R1), fixed-point helpers, and the
CRC-32C of 02_command_packets.md R34. -/

namespace Sys2Proof.Machine

/-- The little-endian value of a list of bytes. -/
def leNat : List Byte → Nat
  | [] => 0
  | b :: bs => b.toNat + 256 * leNat bs

/-- `n` little-endian bytes of a number. -/
def leBytes : Nat → Nat → List Byte
  | 0, _ => []
  | n + 1, x => BitVec.ofNat 8 x :: leBytes n (x / 256)

/-- The unsigned field of `n` bytes at offset `o`; bytes beyond the end read 0. -/
def uAt (b : List Byte) (o n : Nat) : Nat := leNat ((b.drop o).take n)

/-- The signed field of `n` bytes at offset `o`. -/
def iAt (b : List Byte) (o n : Nat) : Int := sgn (8 * n) (uAt b o n)

/-- A byte. -/
def u8 (b : List Byte) (o : Nat) : Nat := uAt b o 1
/-- A 16-bit field. -/
def u16 (b : List Byte) (o : Nat) : Nat := uAt b o 2
/-- A 32-bit field. -/
def u32 (b : List Byte) (o : Nat) : Nat := uAt b o 4
/-- A 64-bit field. -/
def u64 (b : List Byte) (o : Nat) : Nat := uAt b o 8

/-- Little-endian bytes of a signed value. -/
def leInt (n : Nat) (i : Int) : List Byte := leBytes n (pat (8 * n) i)

/-- Whether the bytes from `o` on, `n` of them, are all 0. -/
def zerosAt (b : List Byte) (o n : Nat) : Bool := ((b.drop o).take n).all (fun x => x == 0)

/-- The 32-bit words of a byte list. -/
def wordsOf : List Byte → List Nat
  | a :: b :: c :: d :: r => leNat [a, b, c, d] :: wordsOf r
  | _ => []

/-- One bit step of the reflected CRC-32C division. -/
def crcBit (c : Nat) : Nat := if c % 2 = 1 then (c / 2) ^^^ 0x82F63B78 else c / 2

/-- One byte into the CRC-32C. -/
def crcByte (c : Nat) (b : Byte) : Nat :=
  crcBit (crcBit (crcBit (crcBit (crcBit (crcBit (crcBit (crcBit (c ^^^ b.toNat))))))))

/-- A CRC-32C carried over some bytes, before the final XOR. -/
def crcRun (c : Nat) : List Byte → Nat
  | [] => c
  | b :: bs => crcRun (crcByte c b) bs

/-- The CRC-32C of R34. -/
def crc32c (bs : List Byte) : Nat := crcRun 0xFFFFFFFF bs ^^^ 0xFFFFFFFF

/-- Clamp an integer to a range. -/
def clampI (lo hi x : Int) : Int := if x < lo then lo else if hi < x then hi else x

/-- Clamp a natural number to a range. -/
def clampN (lo hi x : Nat) : Nat := if x < lo then lo else if hi < x then hi else x

/-- Arithmetic shift right, toward minus infinity (00_scope.md, pseudocode operators). -/
def sar (x : Int) (n : Nat) : Int := x / (2 ^ n : Nat)

/-- Saturation to an unsigned width. -/
def satU (w : Nat) (x : Int) : Nat := (clampI 0 (2 ^ w - 1 : Nat) x).toNat

/-- Saturation to a signed width. -/
def satS (w : Nat) (x : Int) : Int := clampI (-(2 ^ (w - 1) : Nat)) ((2 ^ (w - 1) : Nat) - 1) x

/-- Keep an integer's low `w` bits, two's complement (R6). -/
def wrapS (w : Nat) (x : Int) : Int := sgn w (pat w x)

/-- Integer division that truncates toward zero (00_scope.md, pseudocode operators). -/
def tdiv (a b : Int) : Int := a.tdiv b

/-- Update the element at an index of a list. -/
def modAt {α : Type} (f : α → α) : Nat → List α → List α
  | _, [] => []
  | 0, a :: l => f a :: l
  | n + 1, a :: l => a :: modAt f n l

/-- Overwrite the bytes from an offset on. -/
def spliceAt {α : Type} (l : List α) (o : Nat) (v : List α) : List α := l.take o ++ v ++ l.drop (o + v.length)

end Sys2Proof.Machine
end

