-- ==== Sys2Proof/Machine/Flags.lean ====
section
/-! DEFINITION. Status codes, event codes and the attributes of events (02_command_packets.md, the status and event
tables). -/

namespace Sys2Proof.Machine

/-! ### Status codes -/

def stOk : Nat := 0x0000
def stAccepted : Nat := 0x0001
def stBadOpcode : Nat := 0x0010
def stBadParam : Nat := 0x0011
def stBadState : Nat := 0x0012
def stBusy : Nat := 0x0013
def stNoSpace : Nat := 0x0020
def stNotSmaller : Nat := 0x0021
def stCheckFail : Nat := 0x0022
def stBadStream : Nat := 0x0023
def stMemUncorrectable : Nat := 0x0030
def stProtected : Nat := 0x0031
def stPositionPassed : Nat := 0x0040
def stLinkDown : Nat := 0x0050
def stNotOwner : Nat := 0x0060
def stOtpExhausted : Nat := 0x0070
def stSignatureFail : Nat := 0x0071
def stCalRejected : Nat := 0x0080

/-! ### Event codes -/

def evReady : Nat := 0x8000
def evCmdDone : Nat := 0x8001
def evCmdDropped : Nat := 0x8002
def evRefclkLost : Nat := 0x8003
def evPaceLow : Nat := 0x8004
def evDmaHalf : Nat := 0x8100
def evDmaDone : Nat := 0x8101
def evMemUncorrectable : Nat := 0x8102
def evScrubLap : Nat := 0x8103
def evPackDone : Nat := 0x8200
def evJobStart : Nat := 0x8300
def evJobEnd : Nat := 0x8301
def evUnderrun : Nat := 0x8302
def evStreamLow : Nat := 0x8303
def evProtectedFault : Nat := 0x8400
def evTableFlip : Nat := 0x8401
def evPortFault : Nat := 0x8500
def evHeadTemp : Nat := 0x8501
def evEncOverrun : Nat := 0x8600
def evOverspeed : Nat := 0x8601
def evLineLate : Nat := 0x8602
def evReversal : Nat := 0x8603
def evCompare : Nat := 0x8604
def evCamFrame : Nat := 0x8700
def evCamDrop : Nat := 0x8701
def evLoopStep : Nat := 0x8702
def evLoopLimit : Nat := 0x8703
def evNozzleDead : Nat := 0x8704
def evAlignNew : Nat := 0x8705
def evAxisDone : Nat := 0x8800
def evTargetReversal : Nat := 0x8801
def evAxisStall : Nat := 0x8802
def evAxisOvershoot : Nat := 0x8803
def evSwitchLatch : Nat := 0x8804
def evSwitchStuck : Nat := 0x8805
def evBeaconLost : Nat := 0x8900
def evThermWarn : Nat := 0x8A00
def evThermThrottle : Nat := 0x8A01
def evThermCrit : Nat := 0x8A02
def evSensorBroken : Nat := 0x8A03
def evCalRejected : Nat := 0x8A04
def evCalDone : Nat := 0x8A05
def evLinkUp : Nat := 0x8B00
def evLinkDown : Nat := 0x8B01
def evWorkerJoined : Nat := 0x8B02
def evPairTakeover : Nat := 0x8C00
def evPairHandover : Nat := 0x8C01
def evStringFault : Nat := 0x8C02
def evStandbyReady : Nat := 0x8C03
def evLadderWake : Nat := 0x8E00
def evLogFull : Nat := 0x8F00

/-- The Fault column of the event table. -/
def evtIsFault (code : Nat) : Bool :=
  code ∈ [evRefclkLost, evMemUncorrectable, evProtectedFault, evPortFault, evEncOverrun, evAxisStall, evThermCrit,
    evLinkDown, evPairTakeover, evPairHandover, evStringFault]

/-- The group of an event: bits [11:8] of its code (R52). -/
def evtGroup (code : Nat) : Nat := bits code 8 4

/-- The SOURCE byte (R504); `unit` is the port of a head-port event and is not used otherwise. -/
def evtSource (code unit : Nat) : Nat :=
  if code ∈ [evReady, evCmdDone, evCmdDropped] then 2
  else if code ∈ [evRefclkLost, evPaceLow] then 0
  else if code ∈ [evDmaHalf, evDmaDone] then 10
  else if code = evMemUncorrectable then 9
  else if code = evScrubLap then 8
  else if code = evPackDone then 11
  else if code ∈ [evJobStart, evJobEnd, evUnderrun, evStreamLow] then 14
  else if code = evProtectedFault then 15
  else if code = evTableFlip then 16
  else if code ∈ [evPortFault, evHeadTemp] then 17 + unit / 12
  else if code ∈ [evEncOverrun, evCompare] then 12
  else if code ∈ [evOverspeed, evLineLate, evReversal] then 13
  else if code ∈ [evCamFrame, evCamDrop] then 21
  else if code ∈ [evLoopStep, evLoopLimit, evNozzleDead, evAlignNew] then 23
  else if code ∈ [evAxisDone, evTargetReversal, evAxisStall, evAxisOvershoot, evSwitchLatch, evSwitchStuck] then 24
  else if code = evBeaconLost then 4
  else if code ∈ [evThermWarn, evThermThrottle, evThermCrit, evSensorBroken] then 5
  else if code ∈ [evCalRejected, evCalDone] then 6
  else if code ∈ [evLinkUp, evLinkDown] then 25
  else if code = evWorkerJoined then 27
  else if code ∈ [evPairTakeover, evPairHandover, evStringFault, evStandbyReady] then 28
  else if code = evLadderWake then 1
  else 3

/-! ### Header flags (R33, FLAGS byte) -/

def flagReply : Nat := 0
def flagQuiet : Nat := 1
def flagFwd : Nat := 2
def flagDupTag : Nat := 3

end Sys2Proof.Machine
end

