-- ==== Sys2Proof/Config.lean ====
section
/-! DEFINITION. What an implementation fixes, and the free values of the model: constants with no body, so that a
statement about them holds for every value. Log 4 says how free values are used. -/

namespace Sys2Proof

/-- A free value of the stated kind, read with the counter `State.free` (log 4). (Mark: DESIGN CHOICE, log 4) -/
opaque Config.free : Nat → Nat

/-- A byte of memory that holds undefined data, by counter and address (12_raster_memory.md R271); log 4.
(Mark: DESIGN CHOICE, log 4) -/
opaque Config.freeByte : Nat → Nat → Byte

/-- The DEVICE_ID that the factory wrote (22_otp_firmware_security.md, OTP areas); log 6.
(Mark: DESIGN CHOICE, log 6) -/
opaque Config.deviceId : Nat

/-- FW_MAJOR of the firmware in ROM (22_otp_firmware_security.md R458); log 6. (Mark: DESIGN CHOICE, log 6) -/
opaque Config.fwMajor : Nat

/-- FW_MINOR of the firmware in ROM; log 6. (Mark: DESIGN CHOICE, log 6) -/
opaque Config.fwMinor : Nat

/-- The error of the internal reference oscillator in ppb; used within 200,000 of 0 (20_time_bases.md R425); log 6.
(Mark: DESIGN CHOICE, log 6; DESIGN CHOICE, log 148) -/
opaque Config.iroPpb : Int

/-- The factory coefficients C0, C1 and C2 of the oscillator's compensation (21_thermal_calibration.md R446); log 6.
(Mark: DESIGN CHOICE, log 6) -/
opaque Config.iroC0 : Int
/-- Mark: DESIGN CHOICE, log 6. -/
opaque Config.iroC1 : Int
/-- Mark: DESIGN CHOICE, log 6. -/
opaque Config.iroC2 : Int

/-- The factory coefficients of the chopper DAC reference (0 to 2) and of the converter reference (3 to 5)
(21_thermal_calibration.md R447); log 6. (Mark: DESIGN CHOICE, log 6) -/
opaque Config.refCoeff : Nat → Int

end Sys2Proof
end

