-- ==== Sys2Proof/Machine/Sparse.lean ====
section
/-! DEFINITION. Sparse stores: lists of (key, value) pairs with strictly rising keys, and no entry equal to what an
unlisted key reads as. Device memory, table memory and the register store are held so. -/

namespace Sys2Proof.Machine

/-- The value at a key, `d` where the list has none. -/
def Sparse.get {β : Type} (d : β) : List (Nat × β) → Nat → β
  | [], _ => d
  | (j, v) :: m, k => if j = k then v else Sparse.get d m k

/-- Put a value at a key, in order. -/
def Sparse.ins {β : Type} (k : Nat) (v : β) : List (Nat × β) → List (Nat × β)
  | [] => [(k, v)]
  | (j, w) :: m => if k < j then (k, v) :: (j, w) :: m else if j = k then (k, v) :: m else (j, w) :: Sparse.ins k v m

/-- Take a key out. -/
def Sparse.del {β : Type} (k : Nat) : List (Nat × β) → List (Nat × β)
  | [] => []
  | (j, w) :: m => if j = k then Sparse.del k m else (j, w) :: Sparse.del k m

/-- Write a value at a key whose unlisted value is `d`: the entry is listed only when it differs from `d`. -/
def Sparse.put {β : Type} [DecidableEq β] (d : β) (m : List (Nat × β)) (k : Nat) (v : β) : List (Nat × β) :=
  if v = d then Sparse.del k m else Sparse.ins k v m

/-- The keys rise strictly. -/
def Sparse.sorted {β : Type} : List (Nat × β) → Bool
  | [] => true
  | [_] => true
  | (j, _) :: (k, w) :: m => decide (j < k) && Sparse.sorted ((k, w) :: m)

/-- The canonical form: strictly rising keys, and no entry equal to what an unlisted key reads as. -/
def Sparse.wf {β : Type} [DecidableEq β] (d : Nat → β) (m : List (Nat × β)) : Bool :=
  Sparse.sorted m && m.all (fun e => decide (e.2 ≠ d e.1))

/-- The entries that values from key `a` on need. -/
def Sparse.listed {β : Type} [DecidableEq β] (d : Nat → β) (a : Nat) : List β → List (Nat × β)
  | [] => []
  | v :: vs => if v = d a then Sparse.listed d (a + 1) vs else (a, v) :: Sparse.listed d (a + 1) vs

/-- Write values from key `a` on, in place of what the range held. -/
def Sparse.putRange {β : Type} [DecidableEq β] (d : Nat → β) (m : List (Nat × β)) (a : Nat) (vs : List β) :
    List (Nat × β) :=
  m.filter (fun e => decide (e.1 < a)) ++ Sparse.listed d a vs ++ m.filter (fun e => decide (a + vs.length ≤ e.1))

/-- The values at `n` keys from `a` on, along entries whose keys are not below `a`. -/
def Sparse.walk {β : Type} (d : Nat → β) : List (Nat × β) → Nat → Nat → List β
  | _, _, 0 => []
  | [], a, n + 1 => d a :: Sparse.walk d [] (a + 1) n
  | (k, v) :: m, a, n + 1 =>
    if k = a then v :: Sparse.walk d m (a + 1) n else d a :: Sparse.walk d ((k, v) :: m) (a + 1) n

/-- The values at `n` keys from `a` on. -/
def Sparse.slice {β : Type} (d : Nat → β) (m : List (Nat × β)) (a n : Nat) : List β :=
  Sparse.walk d (m.filter (fun e => decide (a ≤ e.1))) a n

/-- Drop every entry whose key lies in `[a, b)`. -/
def Sparse.dropRange {β : Type} (a b : Nat) (m : List (Nat × β)) : List (Nat × β) :=
  m.filter (fun e => decide (e.1 < a ∨ b ≤ e.1))

end Sys2Proof.Machine
end

