-- ==== Sys2Proof/Machine/PrintUnits.lean ====
section
/-! DEFINITION. The parts of the state that belong to the print path and to the DMA engine: encoders, compare units,
SSI ports, jobs, rings, planes, issued lines and head ports (04 to 09 and 14 of spec/). -/

namespace Sys2Proof.Machine

/-! ### Web position (04_web_position.md) -/

/-- An encoder: its counter and observer, and what its rules remember. `p`, `v` and `a` are raw values with 64 fraction
bits (R92). -/
structure Enc where
  /-- The counter, 64-bit signed (R82). -/
  count : Int
  p : Int
  v : Int
  a : Int
  /-- The index latch (R85). -/
  latch : Int
  /-- Instants of the last accepted edge of A and of B (R87). -/
  lastA : Option Nat
  lastB : Option Nat
  /-- Instant of the last accepted edge, or of the last standstill exit (R95). -/
  lastEdge : Nat
  /-- Direction of the last counted edge: true is backward (R85). -/
  backward : Bool
  /-- Channel of the present run of edges, true for B, and its length (R91). -/
  runOnB : Bool
  run : Nat
  /-- Ticks for which SETTLING stays set (R96, R97). -/
  settle : Nat
  /-- BANDWIDTH in force; a change takes effect at the next tick (R97). -/
  bandwidth : Nat
  /-- COUNT_HI, INDEX_LO, INDEX_HI, VELOCITY, POS_FRAC and STATUS as the last read of COUNT_LO captured them (R84). -/
  cap : Option (List Nat)
  /-- Changes of the last 1 µs: instant, counter and INVALID before the change; switch captures look back over them
  (R308). -/
  hist : List (Nat × Int × Bool)
  /-- Levels of the receivers of A, B and Z before the sampler, in bits 0, 1 and 2 (R98). -/
  raw : Nat
  /-- For A, B and Z: samples for which the receiver has stood at its present level (R79). -/
  held : List Nat
  deriving DecidableEq, Repr

/-- The settings of a compare unit before a write of POSITION, in force for a crossing at the instant of the write: that
instant, SOURCE, DIRECTION, ARMED and POSITION, and whether COMPARE_SET wrote (R102). -/
structure CmpOld where
  at_ : Nat
  source : Nat
  backward : Bool
  armed : Bool
  pos : Int
  bySet : Bool
  deriving DecidableEq, Repr

/-- A compare unit: its committed POSITION, the end of its pulse, whether POS_HI holds a value that no write of POS_LO has
committed yet, and the settings before the last write (R102 to R104). -/
structure Cmp where
  pos : Int
  pulseEnd : Option Nat
  hiHeld : Bool
  old : Option CmpOld
  deriving DecidableEq, Repr

/-- An SSI port: the instant at which the frame in progress fell due, the end of the wait after the last frame, and the
next periodic start (R106 to R108). -/
structure Ssi where
  due : Option Nat
  readyAt : Nat
  nextAt : Nat
  deriving DecidableEq, Repr

/-! ### Jobs and rings (06_jobs_raster.md) -/

/-- A plane binding (R133). -/
structure Binding where
  baseEn : Bool
  use : Nat
  x600 : Bool
  y600 : Bool
  upscale : Bool
  repeatLines : Nat
  baseAddr : Nat
  width : Nat
  stride : Nat
  xOrigin : Nat
  lowWm : Nat
  ringAddr : Nat
  ringRows : Nat
  deriving DecidableEq, Repr

/-- A job definition; a binding for each plane of the mask. -/
structure JobDef where
  planeMask : Nat
  endMode : Nat
  endValue : Nat
  binds : List (Option Binding)
  deriving DecidableEq, Repr

/-- What a job keeps for a plane: the high-water mark H (raw, 64 fraction bits), the next line index, the reversed
state of a plane that has no job of its own, and whether a re-reference has happened since the last tick (R113, R114,
R122). -/
structure JobPlane where
  hwm : Int
  next : Nat
  reversed : Bool
  afterRef : Bool
  /-- Lines fired or missed in index order: the index after the last (R151). -/
  done : Nat
  underrun : Nat
  /-- Ring row that the job's row 0 is: Q when its line 0 was issued. -/
  ringBase : Nat
  deriving DecidableEq, Repr

/-- A job that is running or queued. -/
structure JobRun where
  /-- Number of the job instance. -/
  seq : Nat
  id : Nat
  defn : JobDef
  arm : Nat
  /-- The armed switch of ARM 2. -/
  source : Nat
  /-- Start position S, raw with 32 fraction bits, once known (R128). -/
  start : Option Int
  /-- The job has started (R128, R147). -/
  started : Bool
  /-- Line index at which the running job gives way to the queued one (R147). -/
  takeAt : Option Nat
  /-- Encoder and CPL of the job's planes, its lead plane (R146), and the plane whose lines count repeats (R151): R131 keeps
  them from JOB_START on. -/
  enc : Nat
  cpl : Nat
  lead : Nat
  lag : Nat
  /-- End line E, and the CAUSE that it stands for (R148, R149). -/
  stopAt : Option Nat
  stopCause : Nat
  /-- P0 bytes per output line over the job's planes, as a fraction (R32). -/
  p0Num : Nat
  p0Den : Nat
  planes : List JobPlane
  deriving DecidableEq, Repr

/-- A plane's stream ring: C and Q, and whether EVT_STREAM_LOW has been raised since LEVEL was last high enough at a
commit (R138, R144). -/
structure Ring where
  committed : Nat
  consumed : Nat
  lowRaised : Bool
  /-- The other ring registers as the last read of COMMITTED_LO captured them. -/
  cap : Option (List Nat)
  deriving DecidableEq, Repr

/-- Jobs. -/
structure JobSt where
  defs : List (Option JobDef)
  running : Option JobRun
  queued : Option JobRun
  /-- The job that ended last (R151). -/
  last : Option JobRun
  nextSeq : Nat
  rings : List Ring
  /-- REPEATS_HI, END_LO and END_HI as the last read of REPEATS_LO captured them. -/
  cap : Option (List Nat)
  deriving DecidableEq, Repr, Inhabited

/-! ### Lines (05_line_placement.md, 09_head_ports.md) -/

/-- How far a line has come at a head. -/
inductive HeadPhase where
  | waiting | shifting | latched | fired | missed
  deriving DecidableEq, Repr

/-- A line at one head: its data have come to the port, its committed firing time, how far it has come, and whether it has
used its slot in the port's pipeline, by a shift or as a late line (R197, R198). -/
structure HeadLine where
  ready  : Bool
  commit : Option Nat
  phase  : HeadPhase
  slot   : Bool
  deriving DecidableEq, Repr

/-- An issued line. -/
structure Line where
  /-- Job instance and line index. -/
  seq : Nat
  k : Nat
  /-- Firing row (R171). -/
  row : Nat
  issuedAt : Nat
  /-- Whether it is the last line of its job on the plane. -/
  last : Bool
  /-- ref(k), raw with 64 fraction bits (R110). -/
  ref : Int
  /-- Head offsets in force for the line, and CPL. -/
  offs : List Int
  cpl : Nat
  /-- The ring row was not committed (R142). -/
  under : Bool
  late : Bool
  isOver : Bool
  /-- CAUSE of the first miss (R120). -/
  cause : Option Nat
  /-- Drop levels for every head (R174), and the line at every head. -/
  levels : List (List Nat)
  heads : List HeadLine
  /-- Every head has fired or missed it, and it is counted so. -/
  settled : Bool
  deriving DecidableEq, Repr

/-- A run of missed lines of one plane and one cause (R121). -/
structure MissRun where
  cause : Nat
  first : Nat
  lines : Nat
  start : Int
  deriving DecidableEq, Repr

/-- An entry of the defect log (R121). -/
structure DefectEnt where
  plane : Nat
  cause : Nat
  first : Nat
  lines : Nat
  start : Int
  stop  : Int
  deriving DecidableEq, Repr

/-- An assertion of DEFECT_MARK: its start, the line that it stands for (job and index), and its end, once known: the
committed time of the next line that fired at every head (R120), or a position that the web must pass (R150, R421). -/
structure Mark where
  start : Nat
  seq : Nat
  k : Nat
  stop : Option Nat
  pos : Option Int
  deriving DecidableEq, Repr

/-- A protected load that copies: who asked, RECTS, SRC, LEN and the records as they were checked (R160). -/
structure Pload where
  tag : Nat
  iface : Iface
  rects : Nat
  src : Nat
  len : Nat
  head : List Byte
  deriving DecidableEq, Repr

/-- A plane in the line generator. -/
structure PlaneSt where
  /-- HEAD_PROFILE record, and HEAD_MAP: the ports in cross-web order (R187, R189). -/
  profile : Option (List Byte)
  map : List Nat
  /-- Along-web alignment values ALONG_h, and those in force (R252). -/
  along : List Int
  alongUse : List Int
  /-- Issued lines, oldest first, until every head has fired or missed them and has used their data. -/
  lines : List Line
  miss : Option MissRun
  /-- The first tick after a re-reference: lines issued at it are judged too (R122). -/
  refTick : Option Nat
  /-- Assertions of DEFECT_MARK by the plane (R120). -/
  marks : List Mark
  /-- HWM_HI, NEXT_LO and NEXT_HI as the last read of HWM_LO captured them. -/
  cap : Option (List Nat)
  /-- Check pass in progress: the repeat in which it started (R167, R169). -/
  pass : Option Nat
  /-- Token of the protected layer, 0 none (R164). -/
  token : Nat
  /-- Protected load being copied (R160). -/
  pload : Option Pload
  /-- The plane is in a switch-over gap: the line index at which it began (R421). -/
  gapFrom : Option Nat
  deriving DecidableEq, Repr

/-- The line generator. -/
structure LineSt where
  planes : List PlaneSt
  defects : List DefectEnt
  /-- WSPD_CTRL.ENABLE has been set since power-up (R126). -/
  wspdSeen : Bool
  /-- WSPD output: high for DUTY steps of the present period. -/
  wspdDuty : Nat
  /-- The stream and overspeed terms of the last tick, as fractions (R123). -/
  wspdStream : Nat × Nat
  wspdOverspeed : Nat × Nat
  deriving DecidableEq, Repr, Inhabited

/-- A halftoner table load that copies (R179, R180): plane, table, the base and the size of the plane's share when the load
was executed (R178), SRC, LEN, who asked, the bytes read before the reply, and whether a firmware loop asked. -/
structure TableCopy where
  plane : Nat
  table : Nat
  base : Nat
  size : Nat
  src : Nat
  len : Nat
  tag : Nat
  iface : Iface
  head : List Byte
  loop : Bool
  deriving DecidableEq, Repr

/-- The halftoner's loads: copies under way, and XOFF values waiting with the stitch table's flip. -/
structure ToneSt where
  copies : List TableCopy
  xoffs : List (List Int)
  deriving DecidableEq, Repr, Inhabited

/-! ### Head ports (09_head_ports.md) -/

/-- A row of a port: the line its latch holds, the fall of that LAT, the instant from which its latch may be written
again, the train in progress with its end, the last firing time, and the pre-heat count and width of that train (R202). -/
structure RowSt where
  line : Option (Nat × Nat)
  fall : Option Nat
  freeAt : Nat
  trainEnd : Option Nat
  lastFired : Option Nat
  heat : Nat × Nat
  deriving DecidableEq, Repr

/-- A head port. -/
structure HeadPort where
  /-- A(k) of R197 for the next line. -/
  shiftFrom : Nat
  /-- The line in the shift register (job, index, row) and the start of its shift. -/
  shift : Option (Nat × Nat × Nat × Nat)
  /-- Bits that the last shift sent on each pair (R194). -/
  bits : List (List Bool)
  rowA : RowSt
  rowB : RowSt
  /-- End of the trains in whose middle the port was disabled, which takes effect there (R190). -/
  closing : Option Nat
  /-- The instant at which the port was last disabled or faulted (R120). -/
  downAt : Nat
  /-- Consecutive valid frames with a head flag, and at or above PH_CUTOFF (R210). -/
  flagged : Nat
  hot : Nat
  /-- TEMP was outside its band at the last valid frame (R209). -/
  outside : Bool
  /-- Start of the SRET timeout, and whether it has run out since (R207). -/
  sretFrom : Nat
  sretOut : Bool
  /-- A strobe pad was left active after a watchdog cut it. -/
  padA : Bool
  padB : Bool
  /-- The last housekeeping round found the bank out of range (R210). -/
  bankBad : Bool
  deriving DecidableEq, Repr

/-! ### DMA (14_dma.md) -/

/-- A burst that has started and is not yet acknowledged: its offset and length in the transfer, its writes still to be issued
(R315), and the uncorrectable blocks met, with the number of bytes before the first of them. -/
structure DmaBurst where
  off : Nat
  len : Nat
  todo : List (Nat × List Byte)
  bad : List Nat
  good : Nat
  deriving DecidableEq, Repr

/-- A DMA channel beside its registers. -/
structure DmaCh where
  /-- The shadow registers hold a committed descriptor (R320). -/
  committed : Bool
  /-- Number of the present pass, which its writes carry. -/
  pass : Nat
  /-- Next byte of the transfer to start. -/
  next : Nat
  /-- BYTES_DONE (R321). -/
  done : Nat
  halfRaised : Bool
  flight : List DmaBurst
  /-- DMA_ABORT stops the channel (R325). -/
  aborting : Bool
  capHi : Nat
  deriving DecidableEq, Repr

end Sys2Proof.Machine
end

