-- ==== Sys2Proof/Machine/RegMap.lean ====
section
/-! DEFINITION. The register map: one definition per register field of the register tables of spec/, and the list of
the fields of every register block (03_address_map.md gives the block bases, 00_scope.md R3 the access types).
An address here is counted from 0x20_0000_0000. -/

namespace Sys2Proof.Machine

/-- Register access types (00_scope.md R3). -/
inductive Acc where
  | ro | rw | rwf | w1c | wo
  deriving DecidableEq, Repr

/-- A register field: the word's address from the base of the register region, its lowest bit, its width, its access
type, its reset value, and whether its table describes it as wrapping or saturating (R61). -/
structure Fld where
  addr  : Nat
  lo    : Nat
  w     : Nat
  acc   : Acc
  reset : Nat
  cnt   : Bool := false
  deriving DecidableEq, Repr

/-- The key of a field in the register store. -/
def Fld.key (f : Fld) : Nat := f.addr * 32 + f.lo

/-- Reset of word `w` of a camera port record: WB at 1.0 and a unit matrix (10_camera_pipeline.md R218). -/
def camRecordReset (w : Nat) : Nat :=
  if w = 6 ∨ w = 7 then 0x10001000 else if w = 14 ∨ w = 16 ∨ w = 18 then 0x4000 else 0

/-- Reset of word `w` of an axis record (13_motion_axes.md, the axis record table). -/
def axisRecordReset (w : Nat) : Nat :=
  match w with
  | 0 => 2 * 2 ^ 8 + 128 * 2 ^ 16 + 64 * 2 ^ 24
  | 1 => 200 + 1000 * 2 ^ 16
  | 2 => 256000
  | 3 => 10240000
  | 4 => 1024000
  | 5 => 16384
  | 6 => 20 + 60 * 2 ^ 8 + 50 * 2 ^ 16 + 3 * 2 ^ 24
  | 7 => 700 + 4 * 2 ^ 16
  | 8 => 0xFF + 0xFF * 2 ^ 8
  | 11 => 51200
  | _ => 0

/-- SYS.PACE.RATE: 01_architecture. R18 -/
def Reg.SYS_PACE_RATE (e : Nat) : Fld := ⟨0x100 + 4 * e, 0, 16, .ro, 0, false⟩

/-- SYS.PACE.MIN: 01_architecture. -/
def Reg.SYS_PACE_MIN (e : Nat) : Fld := ⟨0x100 + 4 * e, 16, 16, .ro, 65535, false⟩

/-- SYS.PACE_CTRL.CLR_MIN: 01_architecture. -/
def Reg.SYS_PACE_CTRL_CLR_MIN : Fld := ⟨0x130, 0, 1, .wo, 0, false⟩

/-- SYS.PACE_CTRL.VREQ_EN: 01_architecture. R19 -/
def Reg.SYS_PACE_CTRL_VREQ_EN : Fld := ⟨0x130, 1, 1, .rw, 1, false⟩

/-- SYS.PACE_CTRL.MARGIN_LOW: 01_architecture. -/
def Reg.SYS_PACE_CTRL_MARGIN_LOW : Fld := ⟨0x130, 8, 16, .rw, 294, false⟩

/-- SYS.PRINT_MARGIN.MARGIN: 01_architecture. -/
def Reg.SYS_PRINT_MARGIN_MARGIN : Fld := ⟨0x134, 0, 16, .ro, 65535, false⟩

/-- SYS.PRINT_MARGIN.PACE_CAP: 01_architecture. -/
def Reg.SYS_PRINT_MARGIN_PACE_CAP : Fld := ⟨0x134, 16, 16, .ro, 65535, false⟩

/-- SYS.CLK_STATUS.REFCLK_OK: 01_architecture. R14 -/
def Reg.SYS_CLK_STATUS_REFCLK_OK : Fld := ⟨0x138, 0, 1, .ro, 0, false⟩

/-- SYS.CLK_STATUS.IRO_TIMING: 01_architecture. -/
def Reg.SYS_CLK_STATUS_IRO_TIMING : Fld := ⟨0x138, 1, 1, .ro, 0, false⟩

/-- SYS.CLK_STATUS.LOST: 01_architecture. -/
def Reg.SYS_CLK_STATUS_LOST : Fld := ⟨0x138, 2, 1, .w1c, 0, false⟩

/-- SYS.LINE_LATE_TOTAL.COUNT: 01_architecture. -/
def Reg.SYS_LINE_LATE_TOTAL_COUNT : Fld := ⟨0x13C, 0, 32, .ro, 0, true⟩

/-- SYS.GPIO_DIR.OUT_EN: 01_architecture. R22 R23 -/
def Reg.SYS_GPIO_DIR_OUT_EN : Fld := ⟨0x200, 0, 16, .rw, 0, false⟩

/-- SYS.GPIO_OUT.LEVEL: 01_architecture. -/
def Reg.SYS_GPIO_OUT_LEVEL : Fld := ⟨0x204, 0, 16, .rw, 0, false⟩

/-- SYS.GPIO_IN.LEVEL: 01_architecture. -/
def Reg.SYS_GPIO_IN_LEVEL : Fld := ⟨0x208, 0, 16, .ro, 0, false⟩

/-- LOG.CTRL.GROUP_MASK: 02_command_packets. R58 -/
def Reg.LOG_CTRL_GROUP_MASK : Fld := ⟨0x30000, 0, 16, .rw, 0, false⟩

/-- LOG.CTRL.FULL_MARK: 02_command_packets. -/
def Reg.LOG_CTRL_FULL_MARK : Fld := ⟨0x30000, 16, 11, .rw, 960, false⟩

/-- LOG.STATUS.ENTRIES: 02_command_packets. -/
def Reg.LOG_STATUS_ENTRIES : Fld := ⟨0x30004, 0, 11, .ro, 0, false⟩

/-- LOG.STATUS.DROPPED: 02_command_packets. R59 -/
def Reg.LOG_STATUS_DROPPED : Fld := ⟨0x30004, 16, 16, .ro, 0, true⟩

/-- LOG.ENTRY.WORD: 02_command_packets. -/
def Reg.LOG_ENTRY_WORD (i : Nat) (w : Nat) : Fld := ⟨0x38000 + 32 * i + 4 * w, 0, 32, .ro, 0, false⟩

/-- CMD.STATUS.OUTSTANDING: 02_command_packets. -/
def Reg.CMD_STATUS_OUTSTANDING : Fld := ⟨0x20000, 0, 7, .ro, 0, false⟩

/-- CMD.STATUS.EVT_QUEUED: 02_command_packets. -/
def Reg.CMD_STATUS_EVT_QUEUED : Fld := ⟨0x20000, 8, 9, .ro, 0, false⟩

/-- CMD.STATUS.READY: 02_command_packets. -/
def Reg.CMD_STATUS_READY : Fld := ⟨0x20000, 17, 1, .ro, 0, false⟩

/-- CMD.EVT_CTRL.ROUTE: 02_command_packets. -/
def Reg.CMD_EVT_CTRL_ROUTE : Fld := ⟨0x20004, 0, 2, .rw, 2, false⟩

/-- CMD.EVT_CTRL.IRQ_ON_REPLY: 02_command_packets. -/
def Reg.CMD_EVT_CTRL_IRQ_ON_REPLY : Fld := ⟨0x20004, 2, 1, .rw, 0, false⟩

/-- CMD.EVT_CTRL.GROUP_MASK: 02_command_packets. -/
def Reg.CMD_EVT_CTRL_GROUP_MASK : Fld := ⟨0x20004, 4, 16, .rw, 65535, false⟩

/-- CMD.ERR_COUNT.CRC: 02_command_packets. R35 R62 -/
def Reg.CMD_ERR_COUNT_CRC : Fld := ⟨0x20008, 0, 16, .ro, 0, true⟩

/-- CMD.ERR_COUNT.EVT_LOST: 02_command_packets. R55 -/
def Reg.CMD_ERR_COUNT_EVT_LOST : Fld := ⟨0x20008, 16, 16, .ro, 0, true⟩

/-- ENC.ENC.CONFIG.FILTER: 04_web_position. R79 -/
def Reg.ENC_CONFIG_FILTER (e : Nat) : Fld := ⟨0xC0000 + 256 * e, 0, 3, .rw, 2, false⟩

/-- ENC.ENC.CONFIG.REVERSE: 04_web_position. -/
def Reg.ENC_CONFIG_REVERSE (e : Nat) : Fld := ⟨0xC0000 + 256 * e, 3, 1, .rw, 0, false⟩

/-- ENC.ENC.CONFIG.Z_POL: 04_web_position. -/
def Reg.ENC_CONFIG_Z_POL (e : Nat) : Fld := ⟨0xC0000 + 256 * e, 4, 1, .rw, 0, false⟩

/-- ENC.ENC.CONFIG.RELAY_EN: 04_web_position. R99 -/
def Reg.ENC_CONFIG_RELAY_EN (e : Nat) : Fld := ⟨0xC0000 + 256 * e, 5, 1, .rw, 1, false⟩

/-- ENC.ENC.CONFIG.Z_EN: 04_web_position. -/
def Reg.ENC_CONFIG_Z_EN (e : Nat) : Fld := ⟨0xC0000 + 256 * e, 6, 1, .rw, 1, false⟩

/-- ENC.ENC.CONFIG.BANDWIDTH: 04_web_position. -/
def Reg.ENC_CONFIG_BANDWIDTH (e : Nat) : Fld := ⟨0xC0000 + 256 * e, 16, 11, .rw, 200, false⟩

/-- ENC.ENC.STANDSTILL.STANDSTILL_MS: 04_web_position. -/
def Reg.ENC_STANDSTILL_STANDSTILL_MS (e : Nat) : Fld := ⟨0xC0004 + 256 * e, 0, 16, .rw, 20, false⟩

/-- ENC.ENC.COUNT_LO.VALUE: 04_web_position. R84 -/
def Reg.ENC_COUNT_LO (e : Nat) : Fld := ⟨0xC0008 + 256 * e, 0, 32, .ro, 0, false⟩

/-- ENC.ENC.COUNT_HI.VALUE: 04_web_position. -/
def Reg.ENC_COUNT_HI (e : Nat) : Fld := ⟨0xC000C + 256 * e, 0, 32, .ro, 0, false⟩

/-- ENC.ENC.INDEX_LO.VALUE: 04_web_position. -/
def Reg.ENC_INDEX_LO (e : Nat) : Fld := ⟨0xC0010 + 256 * e, 0, 32, .ro, 0, false⟩

/-- ENC.ENC.INDEX_HI.VALUE: 04_web_position. -/
def Reg.ENC_INDEX_HI (e : Nat) : Fld := ⟨0xC0014 + 256 * e, 0, 32, .ro, 0, false⟩

/-- ENC.ENC.INDEX_EXPECT.VALUE: 04_web_position. -/
def Reg.ENC_INDEX_EXPECT (e : Nat) : Fld := ⟨0xC0018 + 256 * e, 0, 32, .rw, 0, false⟩

/-- ENC.ENC.INDEX_TOL.VALUE: 04_web_position. -/
def Reg.ENC_INDEX_TOL (e : Nat) : Fld := ⟨0xC001C + 256 * e, 0, 16, .rw, 0, false⟩

/-- ENC.ENC.INDEX_ERR.VALUE: 04_web_position. R86 -/
def Reg.ENC_INDEX_ERR (e : Nat) : Fld := ⟨0xC0020 + 256 * e, 0, 32, .ro, 0, false⟩

/-- ENC.ENC.VELOCITY.VALUE: 04_web_position. R94 -/
def Reg.ENC_VELOCITY (e : Nat) : Fld := ⟨0xC0024 + 256 * e, 0, 32, .ro, 0, false⟩

/-- ENC.ENC.POS_FRAC.VALUE: 04_web_position. R93 -/
def Reg.ENC_POS_FRAC (e : Nat) : Fld := ⟨0xC0028 + 256 * e, 0, 32, .ro, 2147483648, false⟩

/-- ENC.ENC.GLITCHES.VALUE: 04_web_position. -/
def Reg.ENC_GLITCHES (e : Nat) : Fld := ⟨0xC0030 + 256 * e, 0, 32, .ro, 0, true⟩

/-- ENC.ENC.INDEX_COUNT.VALUE: 04_web_position. -/
def Reg.ENC_INDEX_COUNT (e : Nat) : Fld := ⟨0xC0034 + 256 * e, 0, 32, .ro, 0, true⟩

/-- ENC.ENC.STATUS.INVALID: 04_web_position. R89 -/
def Reg.ENC_STATUS_INVALID (e : Nat) : Fld := ⟨0xC002C + 256 * e, 0, 1, .ro, 0, false⟩

/-- ENC.ENC.STATUS.SETTLING: 04_web_position. R96 R97 -/
def Reg.ENC_STATUS_SETTLING (e : Nat) : Fld := ⟨0xC002C + 256 * e, 1, 1, .ro, 0, false⟩

/-- ENC.ENC.STATUS.DIRECTION: 04_web_position. R94 -/
def Reg.ENC_STATUS_DIRECTION (e : Nat) : Fld := ⟨0xC002C + 256 * e, 2, 1, .ro, 0, false⟩

/-- ENC.ENC.STATUS.STANDSTILL: 04_web_position. R95 -/
def Reg.ENC_STATUS_STANDSTILL (e : Nat) : Fld := ⟨0xC002C + 256 * e, 3, 1, .ro, 1, false⟩

/-- ENC.ENC.STATUS.OVERRUN: 04_web_position. R87 -/
def Reg.ENC_STATUS_OVERRUN (e : Nat) : Fld := ⟨0xC002C + 256 * e, 4, 1, .w1c, 0, false⟩

/-- ENC.ENC.STATUS.WIRE: 04_web_position. -/
def Reg.ENC_STATUS_WIRE (e : Nat) : Fld := ⟨0xC002C + 256 * e, 5, 1, .w1c, 0, false⟩

/-- ENC.ENC.STATUS.INDEX_VALID: 04_web_position. R86 -/
def Reg.ENC_STATUS_INDEX_VALID (e : Nat) : Fld := ⟨0xC002C + 256 * e, 6, 1, .ro, 0, false⟩

/-- ENC.ENC.STATUS.INDEX_DIR: 04_web_position. -/
def Reg.ENC_STATUS_INDEX_DIR (e : Nat) : Fld := ⟨0xC002C + 256 * e, 7, 1, .ro, 0, false⟩

/-- ENC.ENC.STATUS.DRIFT: 04_web_position. -/
def Reg.ENC_STATUS_DRIFT (e : Nat) : Fld := ⟨0xC002C + 256 * e, 8, 1, .w1c, 0, false⟩

/-- ENC.ENC.STATUS.Z_FAULT: 04_web_position. R90 -/
def Reg.ENC_STATUS_Z_FAULT (e : Nat) : Fld := ⟨0xC002C + 256 * e, 9, 1, .w1c, 0, false⟩

/-- ENC.ENC.STATUS.ONE_SIDED: 04_web_position. R91 -/
def Reg.ENC_STATUS_ONE_SIDED (e : Nat) : Fld := ⟨0xC002C + 256 * e, 10, 1, .ro, 0, false⟩

/-- ENC.ENC.STATUS.WIRE_A: 04_web_position. -/
def Reg.ENC_STATUS_WIRE_A (e : Nat) : Fld := ⟨0xC002C + 256 * e, 16, 1, .ro, 0, false⟩

/-- ENC.ENC.STATUS.WIRE_B: 04_web_position. -/
def Reg.ENC_STATUS_WIRE_B (e : Nat) : Fld := ⟨0xC002C + 256 * e, 17, 1, .ro, 0, false⟩

/-- ENC.ENC.STATUS.WIRE_Z: 04_web_position. -/
def Reg.ENC_STATUS_WIRE_Z (e : Nat) : Fld := ⟨0xC002C + 256 * e, 18, 1, .ro, 0, false⟩

/-- ENC.ENC.STATUS.LEVEL: 04_web_position. -/
def Reg.ENC_STATUS_LEVEL (e : Nat) : Fld := ⟨0xC002C + 256 * e, 19, 3, .ro, 0, false⟩

/-- ENC.SSI.CONFIG.BITS: 04_web_position. -/
def Reg.ENC_SSI_CONFIG_BITS (s : Nat) : Fld := ⟨0xC0400 + 64 * s, 0, 6, .rw, 25, false⟩

/-- ENC.SSI.CONFIG.GRAY: 04_web_position. -/
def Reg.ENC_SSI_CONFIG_GRAY (s : Nat) : Fld := ⟨0xC0400 + 64 * s, 6, 1, .rw, 0, false⟩

/-- ENC.SSI.CONFIG.PARITY: 04_web_position. -/
def Reg.ENC_SSI_CONFIG_PARITY (s : Nat) : Fld := ⟨0xC0400 + 64 * s, 7, 2, .rw, 0, false⟩

/-- ENC.SSI.CONFIG.CLK_DIV: 04_web_position. R106 -/
def Reg.ENC_SSI_CONFIG_CLK_DIV (s : Nat) : Fld := ⟨0xC0400 + 64 * s, 16, 8, .rw, 49, false⟩

/-- ENC.SSI.CONFIG.MONO_US: 04_web_position. -/
def Reg.ENC_SSI_CONFIG_MONO_US (s : Nat) : Fld := ⟨0xC0400 + 64 * s, 24, 8, .rw, 20, false⟩

/-- ENC.SSI.TIMING.PERIOD_US: 04_web_position. R108 -/
def Reg.ENC_SSI_TIMING_PERIOD_US (s : Nat) : Fld := ⟨0xC0404 + 64 * s, 0, 16, .rw, 0, false⟩

/-- ENC.SSI.TIMING.SAMPLE_DELAY: 04_web_position. -/
def Reg.ENC_SSI_TIMING_SAMPLE_DELAY (s : Nat) : Fld := ⟨0xC0404 + 64 * s, 16, 4, .rw, 0, false⟩

/-- ENC.SSI.TIMING.START: 04_web_position. -/
def Reg.ENC_SSI_TIMING_START (s : Nat) : Fld := ⟨0xC0404 + 64 * s, 20, 1, .wo, 0, false⟩

/-- ENC.SSI.POS_LO.VALUE: 04_web_position. -/
def Reg.ENC_SSI_POS_LO (s : Nat) : Fld := ⟨0xC0408 + 64 * s, 0, 32, .ro, 0, false⟩

/-- ENC.SSI.POS_HI.VALUE: 04_web_position. -/
def Reg.ENC_SSI_POS_HI (s : Nat) : Fld := ⟨0xC040C + 64 * s, 0, 8, .ro, 0, false⟩

/-- ENC.SSI.STATUS.VALID: 04_web_position. -/
def Reg.ENC_SSI_STATUS_VALID (s : Nat) : Fld := ⟨0xC0410 + 64 * s, 0, 1, .ro, 0, false⟩

/-- ENC.SSI.STATUS.PARITY_ERR: 04_web_position. R107 -/
def Reg.ENC_SSI_STATUS_PARITY_ERR (s : Nat) : Fld := ⟨0xC0410 + 64 * s, 1, 1, .w1c, 0, false⟩

/-- ENC.SSI.STATUS.DI_STUCK: 04_web_position. R107 -/
def Reg.ENC_SSI_STATUS_DI_STUCK (s : Nat) : Fld := ⟨0xC0410 + 64 * s, 2, 1, .w1c, 0, false⟩

/-- ENC.SSI.STATUS.FRAMES: 04_web_position. -/
def Reg.ENC_SSI_STATUS_FRAMES (s : Nat) : Fld := ⟨0xC0410 + 64 * s, 16, 16, .ro, 0, true⟩

/-- ENC.SSI.STAMP.VALUE: 04_web_position. R107 -/
def Reg.ENC_SSI_STAMP (s : Nat) : Fld := ⟨0xC0414 + 64 * s, 0, 32, .ro, 0, false⟩

/-- ENC.CMP.CTRL.SOURCE: 04_web_position. -/
def Reg.ENC_CMP_CTRL_SOURCE (u : Nat) : Fld := ⟨0xC0800 + 32 * u, 0, 3, .rw, 0, false⟩

/-- ENC.CMP.CTRL.DIRECTION: 04_web_position. -/
def Reg.ENC_CMP_CTRL_DIRECTION (u : Nat) : Fld := ⟨0xC0800 + 32 * u, 3, 1, .rw, 0, false⟩

/-- ENC.CMP.CTRL.ARMED: 04_web_position. -/
def Reg.ENC_CMP_CTRL_ARMED (u : Nat) : Fld := ⟨0xC0800 + 32 * u, 4, 1, .rw, 0, false⟩

/-- ENC.CMP.CTRL.EVT_EN: 04_web_position. -/
def Reg.ENC_CMP_CTRL_EVT_EN (u : Nat) : Fld := ⟨0xC0800 + 32 * u, 5, 1, .rw, 1, false⟩

/-- ENC.CMP.CTRL.PULSE_EN: 04_web_position. -/
def Reg.ENC_CMP_CTRL_PULSE_EN (u : Nat) : Fld := ⟨0xC0800 + 32 * u, 6, 1, .rw, 0, false⟩

/-- ENC.CMP.CTRL.PULSE_TARGET: 04_web_position. -/
def Reg.ENC_CMP_CTRL_PULSE_TARGET (u : Nat) : Fld := ⟨0xC0800 + 32 * u, 7, 5, .rw, 0, false⟩

/-- ENC.CMP.CTRL.PULSE_WIDTH: 04_web_position. -/
def Reg.ENC_CMP_CTRL_PULSE_WIDTH (u : Nat) : Fld := ⟨0xC0800 + 32 * u, 16, 16, .rw, 10, false⟩

/-- ENC.CMP.POS_LO.VALUE: 04_web_position. R102 -/
def Reg.ENC_CMP_POS_LO (u : Nat) : Fld := ⟨0xC0804 + 32 * u, 0, 32, .rw, 0, false⟩

/-- ENC.CMP.POS_HI.VALUE: 04_web_position. -/
def Reg.ENC_CMP_POS_HI (u : Nat) : Fld := ⟨0xC0808 + 32 * u, 0, 32, .rw, 0, false⟩

/-- ENC.CMP.PERIOD.VALUE: 04_web_position. R103 -/
def Reg.ENC_CMP_PERIOD (u : Nat) : Fld := ⟨0xC080C + 32 * u, 0, 32, .rw, 0, false⟩

/-- ENC.CMP.STATUS.PASSED: 04_web_position. R102 -/
def Reg.ENC_CMP_STATUS_PASSED (u : Nat) : Fld := ⟨0xC0810 + 32 * u, 0, 1, .ro, 0, false⟩

/-- ENC.CMP.STATUS.FIRED: 04_web_position. -/
def Reg.ENC_CMP_STATUS_FIRED (u : Nat) : Fld := ⟨0xC0810 + 32 * u, 1, 1, .w1c, 0, false⟩

/-- ENC.CMP.HITS.VALUE: 04_web_position. -/
def Reg.ENC_CMP_HITS (u : Nat) : Fld := ⟨0xC0814 + 32 * u, 0, 32, .ro, 0, true⟩

/-- ENC.CMP.MISSED.VALUE: 04_web_position. -/
def Reg.ENC_CMP_MISSED (u : Nat) : Fld := ⟨0xC0818 + 32 * u, 0, 32, .ro, 0, true⟩

/-- LINEGEN.PL.CONFIG.ENC: 05_line_placement. -/
def Reg.LINEGEN_PL_CONFIG_ENC (p : Nat) : Fld := ⟨0xD0000 + 256 * p, 0, 2, .rw, 0, false⟩

/-- LINEGEN.PL.CONFIG.PITCH: 05_line_placement. -/
def Reg.LINEGEN_PL_CONFIG_PITCH (p : Nat) : Fld := ⟨0xD0000 + 256 * p, 2, 1, .rw, 0, false⟩

/-- LINEGEN.PL.CONFIG.LOOKAHEAD: 05_line_placement. R7 -/
def Reg.LINEGEN_PL_CONFIG_LOOKAHEAD (p : Nat) : Fld := ⟨0xD0000 + 256 * p, 8, 8, .rw, 16, false⟩

/-- LINEGEN.PL.CONFIG.WOBBLE: 05_line_placement. R114 -/
def Reg.LINEGEN_PL_CONFIG_WOBBLE (p : Nat) : Fld := ⟨0xD0000 + 256 * p, 16, 16, .rw, 64, false⟩

/-- LINEGEN.PL.CPL_LO.VALUE: 05_line_placement. R111 -/
def Reg.LINEGEN_PL_CPL_LO (p : Nat) : Fld := ⟨0xD0004 + 256 * p, 0, 32, .rw, 0, false⟩

/-- LINEGEN.PL.CPL_HI.VALUE: 05_line_placement. -/
def Reg.LINEGEN_PL_CPL_HI (p : Nat) : Fld := ⟨0xD0008 + 256 * p, 0, 32, .rw, 2, false⟩

/-- LINEGEN.PL.DELAY.VALUE: 05_line_placement. -/
def Reg.LINEGEN_PL_DELAY (p : Nat) : Fld := ⟨0xD000C + 256 * p, 0, 20, .rw, 0, false⟩

/-- LINEGEN.PL.START_FRAC.VALUE: 05_line_placement. -/
def Reg.LINEGEN_PL_START_FRAC (p : Nat) : Fld := ⟨0xD0010 + 256 * p, 0, 32, .ro, 0, false⟩

/-- LINEGEN.PL.START_LO.VALUE: 05_line_placement. -/
def Reg.LINEGEN_PL_START_LO (p : Nat) : Fld := ⟨0xD0014 + 256 * p, 0, 32, .ro, 0, false⟩

/-- LINEGEN.PL.START_HI.VALUE: 05_line_placement. -/
def Reg.LINEGEN_PL_START_HI (p : Nat) : Fld := ⟨0xD0018 + 256 * p, 0, 32, .ro, 0, false⟩

/-- LINEGEN.PL.HWM_LO.VALUE: 05_line_placement. -/
def Reg.LINEGEN_PL_HWM_LO (p : Nat) : Fld := ⟨0xD001C + 256 * p, 0, 32, .ro, 0, false⟩

/-- LINEGEN.PL.HWM_HI.VALUE: 05_line_placement. -/
def Reg.LINEGEN_PL_HWM_HI (p : Nat) : Fld := ⟨0xD0020 + 256 * p, 0, 32, .ro, 0, false⟩

/-- LINEGEN.PL.NEXT_LO.VALUE: 05_line_placement. -/
def Reg.LINEGEN_PL_NEXT_LO (p : Nat) : Fld := ⟨0xD0024 + 256 * p, 0, 32, .ro, 0, false⟩

/-- LINEGEN.PL.NEXT_HI.VALUE: 05_line_placement. -/
def Reg.LINEGEN_PL_NEXT_HI (p : Nat) : Fld := ⟨0xD0028 + 256 * p, 0, 32, .ro, 0, false⟩

/-- LINEGEN.PL.OVERSPEED.VALUE: 05_line_placement. R119 -/
def Reg.LINEGEN_PL_OVERSPEED (p : Nat) : Fld := ⟨0xD0030 + 256 * p, 0, 32, .ro, 0, true⟩

/-- LINEGEN.PL.MISSED.VALUE: 05_line_placement. -/
def Reg.LINEGEN_PL_MISSED (p : Nat) : Fld := ⟨0xD0034 + 256 * p, 0, 32, .ro, 0, true⟩

/-- LINEGEN.PL.STATUS.PRINTING: 05_line_placement. -/
def Reg.LINEGEN_PL_STATUS_PRINTING (p : Nat) : Fld := ⟨0xD002C + 256 * p, 0, 1, .ro, 0, false⟩

/-- LINEGEN.PL.STATUS.ARMED: 05_line_placement. -/
def Reg.LINEGEN_PL_STATUS_ARMED (p : Nat) : Fld := ⟨0xD002C + 256 * p, 1, 1, .ro, 0, false⟩

/-- LINEGEN.PL.STATUS.REVERSED: 05_line_placement. R114 -/
def Reg.LINEGEN_PL_STATUS_REVERSED (p : Nat) : Fld := ⟨0xD002C + 256 * p, 2, 1, .ro, 0, false⟩

/-- LINEGEN.PL.STATUS.HALTED: 05_line_placement. R122 -/
def Reg.LINEGEN_PL_STATUS_HALTED (p : Nat) : Fld := ⟨0xD002C + 256 * p, 3, 1, .ro, 0, false⟩

/-- LINEGEN.PL.STATUS.LA_USED: 05_line_placement. R7 -/
def Reg.LINEGEN_PL_STATUS_LA_USED (p : Nat) : Fld := ⟨0xD002C + 256 * p, 8, 8, .ro, 16, false⟩

/-- LINEGEN.PL.HOFF.OFFSET: 05_line_placement. R112 R252 -/
def Reg.LINEGEN_PL_HOFF_OFFSET (p : Nat) (h : Nat) : Fld := ⟨0xD1000 + 256 * p + 4 * h, 0, 32, .rwf, 0, false⟩

/-- LINEGEN.WSPD_CTRL.ENABLE: 05_line_placement. R126 -/
def Reg.LINEGEN_WSPD_CTRL_ENABLE : Fld := ⟨0xD0800, 0, 1, .rw, 0, false⟩

/-- LINEGEN.WSPD_CTRL.FIXED_DUTY: 05_line_placement. -/
def Reg.LINEGEN_WSPD_CTRL_FIXED_DUTY : Fld := ⟨0xD0800, 4, 12, .rw, 0, false⟩

/-- LINEGEN.WSPD_CTRL.MARGIN: 05_line_placement. R124 -/
def Reg.LINEGEN_WSPD_CTRL_MARGIN : Fld := ⟨0xD0800, 16, 16, .rw, 50, false⟩

/-- LINEGEN.WSPD_HIGH_WM.VALUE: 05_line_placement. R125 -/
def Reg.LINEGEN_WSPD_HIGH_WM : Fld := ⟨0xD0804, 0, 32, .rw, 65536, false⟩

/-- LINEGEN.WSPD_NOMINAL.VALUE: 05_line_placement. -/
def Reg.LINEGEN_WSPD_NOMINAL : Fld := ⟨0xD0808, 0, 24, .rw, 78740, false⟩

/-- LINEGEN.WSPD_RISE.VALUE: 05_line_placement. -/
def Reg.LINEGEN_WSPD_RISE : Fld := ⟨0xD080C, 0, 12, .rw, 8, false⟩

/-- LINEGEN.WSPD_DUTY.DUTY: 05_line_placement. -/
def Reg.LINEGEN_WSPD_DUTY_DUTY : Fld := ⟨0xD0810, 0, 12, .ro, 0, false⟩

/-- LINEGEN.WSPD_DUTY.LIMIT: 05_line_placement. -/
def Reg.LINEGEN_WSPD_DUTY_LIMIT : Fld := ⟨0xD0810, 12, 2, .ro, 0, false⟩

/-- LINEGEN.WSPD_TERMS.STREAM: 05_line_placement. -/
def Reg.LINEGEN_WSPD_TERMS_STREAM : Fld := ⟨0xD0814, 0, 12, .ro, 4000, false⟩

/-- LINEGEN.WSPD_TERMS.OVERSPEED: 05_line_placement. -/
def Reg.LINEGEN_WSPD_TERMS_OVERSPEED : Fld := ⟨0xD0814, 12, 12, .ro, 4000, false⟩

/-- LINEGEN.WSPD_THERMAL.VALUE: 05_line_placement. -/
def Reg.LINEGEN_WSPD_THERMAL : Fld := ⟨0xD0818, 0, 12, .ro, 4000, false⟩

/-- LINEGEN.MARK_OFFSET_LO.VALUE: 05_line_placement. R128 -/
def Reg.LINEGEN_MARK_OFFSET_LO : Fld := ⟨0xD0820, 0, 32, .rw, 0, false⟩

/-- LINEGEN.MARK_OFFSET_HI.VALUE: 05_line_placement. -/
def Reg.LINEGEN_MARK_OFFSET_HI : Fld := ⟨0xD0824, 0, 32, .rw, 0, false⟩

/-- LINEGEN.ARM_STATUS.ARMED: 05_line_placement. -/
def Reg.LINEGEN_ARM_STATUS_ARMED : Fld := ⟨0xD0828, 0, 1, .ro, 0, false⟩

/-- LINEGEN.ARM_STATUS.KIND: 05_line_placement. -/
def Reg.LINEGEN_ARM_STATUS_KIND : Fld := ⟨0xD0828, 1, 2, .ro, 0, false⟩

/-- LINEGEN.ARM_STATUS.MARKS_LATE: 05_line_placement. R129 -/
def Reg.LINEGEN_ARM_STATUS_MARKS_LATE : Fld := ⟨0xD0828, 16, 16, .ro, 0, true⟩

/-- LINEGEN.DEFECT_CTRL.MIN_US: 05_line_placement. -/
def Reg.LINEGEN_DEFECT_CTRL_MIN_US : Fld := ⟨0xD0830, 0, 8, .rw, 10, false⟩

/-- LINEGEN.DEFECT_LOG_STATUS.ENTRIES: 05_line_placement. -/
def Reg.LINEGEN_DEFECT_LOG_STATUS_ENTRIES : Fld := ⟨0xD0834, 0, 5, .ro, 0, false⟩

/-- LINEGEN.DEFECT_LOG_STATUS.OVERFLOW: 05_line_placement. -/
def Reg.LINEGEN_DEFECT_LOG_STATUS_OVERFLOW : Fld := ⟨0xD0834, 16, 16, .ro, 0, true⟩

/-- LINEGEN.DEFECT_POP.POP: 05_line_placement. -/
def Reg.LINEGEN_DEFECT_POP_POP : Fld := ⟨0xD0838, 0, 1, .wo, 0, false⟩

/-- LINEGEN.DEFECT.HEAD0.PLANE: 05_line_placement. -/
def Reg.LINEGEN_DEFECT_HEAD0_PLANE : Fld := ⟨0xD0840, 0, 8, .ro, 0, false⟩

/-- LINEGEN.DEFECT.HEAD0.CAUSE: 05_line_placement. R120 -/
def Reg.LINEGEN_DEFECT_HEAD0_CAUSE : Fld := ⟨0xD0840, 8, 8, .ro, 0, false⟩

/-- LINEGEN.DEFECT.FIRST_LINE.VALUE: 05_line_placement. -/
def Reg.LINEGEN_DEFECT_FIRST_LINE : Fld := ⟨0xD0844, 0, 32, .ro, 0, false⟩

/-- LINEGEN.DEFECT.LINES.VALUE: 05_line_placement. -/
def Reg.LINEGEN_DEFECT_LINES : Fld := ⟨0xD0848, 0, 32, .ro, 0, false⟩

/-- LINEGEN.DEFECT.START_LO.VALUE: 05_line_placement. -/
def Reg.LINEGEN_DEFECT_START_LO : Fld := ⟨0xD0850, 0, 32, .ro, 0, false⟩

/-- LINEGEN.DEFECT.START_HI.VALUE: 05_line_placement. -/
def Reg.LINEGEN_DEFECT_START_HI : Fld := ⟨0xD0854, 0, 32, .ro, 0, false⟩

/-- LINEGEN.DEFECT.END_LO.VALUE: 05_line_placement. -/
def Reg.LINEGEN_DEFECT_END_LO : Fld := ⟨0xD0858, 0, 32, .ro, 0, false⟩

/-- LINEGEN.DEFECT.END_HI.VALUE: 05_line_placement. -/
def Reg.LINEGEN_DEFECT_END_HI : Fld := ⟨0xD085C, 0, 32, .ro, 0, false⟩

/-- JOB.STATE.RUNNING_ID: 06_jobs_raster. -/
def Reg.JOB_STATE_RUNNING_ID : Fld := ⟨0xE0000, 0, 3, .ro, 7, false⟩

/-- JOB.STATE.QUEUED_ID: 06_jobs_raster. -/
def Reg.JOB_STATE_QUEUED_ID : Fld := ⟨0xE0000, 4, 3, .ro, 7, false⟩

/-- JOB.STATE.QUEUED_ARM: 06_jobs_raster. -/
def Reg.JOB_STATE_QUEUED_ARM : Fld := ⟨0xE0000, 8, 2, .ro, 0, false⟩

/-- JOB.STATE.END_SET: 06_jobs_raster. -/
def Reg.JOB_STATE_END_SET : Fld := ⟨0xE0000, 10, 1, .ro, 0, false⟩

/-- JOB.REPEATS_LO.VALUE: 06_jobs_raster. -/
def Reg.JOB_REPEATS_LO : Fld := ⟨0xE0008, 0, 32, .ro, 0, false⟩

/-- JOB.REPEATS_HI.VALUE: 06_jobs_raster. -/
def Reg.JOB_REPEATS_HI : Fld := ⟨0xE000C, 0, 32, .ro, 0, false⟩

/-- JOB.END_LO.VALUE: 06_jobs_raster. -/
def Reg.JOB_END_LO : Fld := ⟨0xE0010, 0, 32, .ro, 4294967295, false⟩

/-- JOB.END_HI.VALUE: 06_jobs_raster. -/
def Reg.JOB_END_HI : Fld := ⟨0xE0014, 0, 32, .ro, 4294967295, false⟩

/-- JOB.REPEAT_LINES.VALUE: 06_jobs_raster. -/
def Reg.JOB_REPEAT_LINES : Fld := ⟨0xE0018, 0, 32, .ro, 0, false⟩

/-- JOB.RING.COMMITTED_LO.VALUE: 06_jobs_raster. -/
def Reg.JOB_RING_COMMITTED_LO (p : Nat) : Fld := ⟨0xE0100 + 64 * p, 0, 32, .ro, 0, false⟩

/-- JOB.RING.COMMITTED_HI.VALUE: 06_jobs_raster. -/
def Reg.JOB_RING_COMMITTED_HI (p : Nat) : Fld := ⟨0xE0104 + 64 * p, 0, 32, .ro, 0, false⟩

/-- JOB.RING.CONSUMED_LO.VALUE: 06_jobs_raster. -/
def Reg.JOB_RING_CONSUMED_LO (p : Nat) : Fld := ⟨0xE0108 + 64 * p, 0, 32, .ro, 0, false⟩

/-- JOB.RING.CONSUMED_HI.VALUE: 06_jobs_raster. -/
def Reg.JOB_RING_CONSUMED_HI (p : Nat) : Fld := ⟨0xE010C + 64 * p, 0, 32, .ro, 0, false⟩

/-- JOB.RING.LEVEL.VALUE: 06_jobs_raster. R141 -/
def Reg.JOB_RING_LEVEL (p : Nat) : Fld := ⟨0xE0110 + 64 * p, 0, 32, .ro, 0, true⟩

/-- JOB.RING.DEBT.VALUE: 06_jobs_raster. R141 -/
def Reg.JOB_RING_DEBT (p : Nat) : Fld := ⟨0xE0114 + 64 * p, 0, 32, .ro, 0, true⟩

/-- JOB.RING.UNDERRUN.VALUE: 06_jobs_raster. -/
def Reg.JOB_RING_UNDERRUN (p : Nat) : Fld := ⟨0xE0118 + 64 * p, 0, 32, .ro, 0, true⟩

/-- JOB.RING.STATUS.BOUND: 06_jobs_raster. -/
def Reg.JOB_RING_STATUS_BOUND (p : Nat) : Fld := ⟨0xE011C + 64 * p, 0, 1, .ro, 0, false⟩

/-- JOB.RING.STATUS.LOW: 06_jobs_raster. -/
def Reg.JOB_RING_STATUS_LOW (p : Nat) : Fld := ⟨0xE011C + 64 * p, 1, 1, .ro, 0, false⟩

/-- JOB.RING.STATUS.UNDERRUN_SEEN: 06_jobs_raster. -/
def Reg.JOB_RING_STATUS_UNDERRUN_SEEN (p : Nat) : Fld := ⟨0xE011C + 64 * p, 2, 1, .w1c, 0, false⟩

/-- COMPOSE.PL.VAR_CTRL.ENABLE: 07_composition. -/
def Reg.COMPOSE_PL_VAR_CTRL_ENABLE (p : Nat) : Fld := ⟨0xF0000 + 256 * p, 0, 1, .rwf, 0, false⟩

/-- COMPOSE.PL.OVL_CTRL.ENABLE: 07_composition. -/
def Reg.COMPOSE_PL_OVL_CTRL_ENABLE (p : Nat) : Fld := ⟨0xF0020 + 256 * p, 0, 1, .rwf, 0, false⟩

/-- COMPOSE.PL.KITE_CTRL.ENABLE: 07_composition. -/
def Reg.COMPOSE_PL_KITE_CTRL_ENABLE (p : Nat) : Fld := ⟨0xF0040 + 256 * p, 0, 1, .rwf, 0, false⟩

/-- COMPOSE.PL.OVL_CTRL.PREMULT: 07_composition. -/
def Reg.COMPOSE_PL_OVL_CTRL_PREMULT (p : Nat) : Fld := ⟨0xF0020 + 256 * p, 1, 1, .rwf, 0, false⟩

/-- COMPOSE.PL.KITE_CTRL.PREMULT: 07_composition. -/
def Reg.COMPOSE_PL_KITE_CTRL_PREMULT (p : Nat) : Fld := ⟨0xF0040 + 256 * p, 1, 1, .rwf, 0, false⟩

/-- COMPOSE.PL.VAR_CTRL.MODE: 07_composition. -/
def Reg.COMPOSE_PL_VAR_CTRL_MODE (p : Nat) : Fld := ⟨0xF0000 + 256 * p, 2, 2, .rwf, 0, false⟩

/-- COMPOSE.PL.KITE_CTRL.ANCHOR: 07_composition. R157 -/
def Reg.COMPOSE_PL_KITE_CTRL_ANCHOR (p : Nat) : Fld := ⟨0xF0040 + 256 * p, 4, 1, .rwf, 0, false⟩

/-- COMPOSE.PL.VAR_CTRL.LAYER_ALPHA: 07_composition. -/
def Reg.COMPOSE_PL_VAR_CTRL_LAYER_ALPHA (p : Nat) : Fld := ⟨0xF0000 + 256 * p, 8, 8, .rwf, 255, false⟩

/-- COMPOSE.PL.OVL_CTRL.LAYER_ALPHA: 07_composition. -/
def Reg.COMPOSE_PL_OVL_CTRL_LAYER_ALPHA (p : Nat) : Fld := ⟨0xF0020 + 256 * p, 8, 8, .rwf, 255, false⟩

/-- COMPOSE.PL.KITE_CTRL.LAYER_ALPHA: 07_composition. -/
def Reg.COMPOSE_PL_KITE_CTRL_LAYER_ALPHA (p : Nat) : Fld := ⟨0xF0040 + 256 * p, 8, 8, .rwf, 255, false⟩

/-- COMPOSE.PL.VAR_CTRL.KEY: 07_composition. -/
def Reg.COMPOSE_PL_VAR_CTRL_KEY (p : Nat) : Fld := ⟨0xF0000 + 256 * p, 16, 8, .rwf, 0, false⟩

/-- COMPOSE.PL.VAR_ADDR_LO.VALUE: 07_composition. R155 -/
def Reg.COMPOSE_PL_VAR_ADDR_LO (p : Nat) : Fld := ⟨0xF0004 + 256 * p, 0, 32, .rwf, 0, false⟩

/-- COMPOSE.PL.OVL_ADDR_LO.VALUE: 07_composition. R155 -/
def Reg.COMPOSE_PL_OVL_ADDR_LO (p : Nat) : Fld := ⟨0xF0024 + 256 * p, 0, 32, .rwf, 0, false⟩

/-- COMPOSE.PL.KITE_ADDR_LO.VALUE: 07_composition. R155 -/
def Reg.COMPOSE_PL_KITE_ADDR_LO (p : Nat) : Fld := ⟨0xF0044 + 256 * p, 0, 32, .rwf, 0, false⟩

/-- COMPOSE.PL.VAR_ADDR_HI.VALUE: 07_composition. -/
def Reg.COMPOSE_PL_VAR_ADDR_HI (p : Nat) : Fld := ⟨0xF0008 + 256 * p, 0, 8, .rwf, 0, false⟩

/-- COMPOSE.PL.OVL_ADDR_HI.VALUE: 07_composition. -/
def Reg.COMPOSE_PL_OVL_ADDR_HI (p : Nat) : Fld := ⟨0xF0028 + 256 * p, 0, 8, .rwf, 0, false⟩

/-- COMPOSE.PL.KITE_ADDR_HI.VALUE: 07_composition. -/
def Reg.COMPOSE_PL_KITE_ADDR_HI (p : Nat) : Fld := ⟨0xF0048 + 256 * p, 0, 8, .rwf, 0, false⟩

/-- COMPOSE.PL.VAR_WIDTH.VALUE: 07_composition. -/
def Reg.COMPOSE_PL_VAR_WIDTH (p : Nat) : Fld := ⟨0xF000C + 256 * p, 0, 32, .rwf, 0, false⟩

/-- COMPOSE.PL.OVL_WIDTH.VALUE: 07_composition. -/
def Reg.COMPOSE_PL_OVL_WIDTH (p : Nat) : Fld := ⟨0xF002C + 256 * p, 0, 32, .rwf, 0, false⟩

/-- COMPOSE.PL.VAR_HEIGHT.VALUE: 07_composition. -/
def Reg.COMPOSE_PL_VAR_HEIGHT (p : Nat) : Fld := ⟨0xF0010 + 256 * p, 0, 32, .rwf, 0, false⟩

/-- COMPOSE.PL.OVL_HEIGHT.VALUE: 07_composition. -/
def Reg.COMPOSE_PL_OVL_HEIGHT (p : Nat) : Fld := ⟨0xF0030 + 256 * p, 0, 32, .rwf, 0, false⟩

/-- COMPOSE.PL.VAR_STRIDE.VALUE: 07_composition. -/
def Reg.COMPOSE_PL_VAR_STRIDE (p : Nat) : Fld := ⟨0xF0014 + 256 * p, 0, 32, .rwf, 0, false⟩

/-- COMPOSE.PL.OVL_STRIDE.VALUE: 07_composition. -/
def Reg.COMPOSE_PL_OVL_STRIDE (p : Nat) : Fld := ⟨0xF0034 + 256 * p, 0, 32, .rwf, 0, false⟩

/-- COMPOSE.PL.KITE_STRIDE.VALUE: 07_composition. -/
def Reg.COMPOSE_PL_KITE_STRIDE (p : Nat) : Fld := ⟨0xF0050 + 256 * p, 0, 32, .rwf, 0, false⟩

/-- COMPOSE.PL.OVL_X.VALUE: 07_composition. -/
def Reg.COMPOSE_PL_OVL_X (p : Nat) : Fld := ⟨0xF0038 + 256 * p, 0, 19, .rwf, 0, false⟩

/-- COMPOSE.PL.KITE_SIZE.WIDTH: 07_composition. -/
def Reg.COMPOSE_PL_KITE_SIZE_WIDTH (p : Nat) : Fld := ⟨0xF004C + 256 * p, 0, 10, .rwf, 0, false⟩

/-- COMPOSE.PL.KITE_SIZE.HEIGHT: 07_composition. -/
def Reg.COMPOSE_PL_KITE_SIZE_HEIGHT (p : Nat) : Fld := ⟨0xF004C + 256 * p, 16, 10, .rwf, 0, false⟩

/-- COMPOSE.PL.KITE_X.VALUE: 07_composition. R158 -/
def Reg.COMPOSE_PL_KITE_X (p : Nat) : Fld := ⟨0xF0058 + 256 * p, 0, 32, .rwf, 0, false⟩

/-- COMPOSE.PL.KITE_Y.VALUE: 07_composition. R157 -/
def Reg.COMPOSE_PL_KITE_Y (p : Nat) : Fld := ⟨0xF005C + 256 * p, 0, 32, .rwf, 0, false⟩

/-- COMPOSE.PL.FLIP_SEL.VAR: 07_composition. -/
def Reg.COMPOSE_PL_FLIP_SEL_VAR (p : Nat) : Fld := ⟨0xF0060 + 256 * p, 0, 1, .rw, 0, false⟩

/-- COMPOSE.PL.FLIP_SEL.OVL: 07_composition. -/
def Reg.COMPOSE_PL_FLIP_SEL_OVL (p : Nat) : Fld := ⟨0xF0060 + 256 * p, 1, 1, .rw, 0, false⟩

/-- COMPOSE.PL.FLIP_SEL.KITE_LAYER: 07_composition. -/
def Reg.COMPOSE_PL_FLIP_SEL_KITE_LAYER (p : Nat) : Fld := ⟨0xF0060 + 256 * p, 2, 1, .rw, 0, false⟩

/-- COMPOSE.PL.FLIP_SEL.KITE_POS: 07_composition. -/
def Reg.COMPOSE_PL_FLIP_SEL_KITE_POS (p : Nat) : Fld := ⟨0xF0060 + 256 * p, 3, 1, .rw, 0, false⟩

/-- COMPOSE.PL.PROT_STATUS.LOADED: 07_composition. -/
def Reg.COMPOSE_PL_PROT_STATUS_LOADED (p : Nat) : Fld := ⟨0xF0080 + 256 * p, 0, 1, .ro, 0, false⟩

/-- COMPOSE.PL.PROT_STATUS.LOCKED: 07_composition. R164 -/
def Reg.COMPOSE_PL_PROT_STATUS_LOCKED (p : Nat) : Fld := ⟨0xF0080 + 256 * p, 1, 1, .ro, 0, false⟩

/-- COMPOSE.PL.PROT_STATUS.COPYING: 07_composition. -/
def Reg.COMPOSE_PL_PROT_STATUS_COPYING (p : Nat) : Fld := ⟨0xF0080 + 256 * p, 2, 1, .ro, 0, false⟩

/-- COMPOSE.PL.PROT_STATUS.CHECKING: 07_composition. -/
def Reg.COMPOSE_PL_PROT_STATUS_CHECKING (p : Nat) : Fld := ⟨0xF0080 + 256 * p, 3, 1, .ro, 0, false⟩

/-- COMPOSE.PL.PROT_STATUS.FAULT: 07_composition. R169 R166 -/
def Reg.COMPOSE_PL_PROT_STATUS_FAULT (p : Nat) : Fld := ⟨0xF0080 + 256 * p, 4, 1, .ro, 0, false⟩

/-- COMPOSE.PL.PROT_STATUS.SLOW: 07_composition. R168 -/
def Reg.COMPOSE_PL_PROT_STATUS_SLOW (p : Nat) : Fld := ⟨0xF0080 + 256 * p, 5, 1, .w1c, 0, false⟩

/-- COMPOSE.PL.PROT_STATUS.CLIPPED: 07_composition. R163 -/
def Reg.COMPOSE_PL_PROT_STATUS_CLIPPED (p : Nat) : Fld := ⟨0xF0080 + 256 * p, 6, 1, .w1c, 0, false⟩

/-- COMPOSE.PL.PROT_STATUS.RECTS: 07_composition. -/
def Reg.COMPOSE_PL_PROT_STATUS_RECTS (p : Nat) : Fld := ⟨0xF0080 + 256 * p, 8, 7, .ro, 0, false⟩

/-- COMPOSE.PL.PROT_STATUS.BAD_TOKENS: 07_composition. R165 -/
def Reg.COMPOSE_PL_PROT_STATUS_BAD_TOKENS (p : Nat) : Fld := ⟨0xF0080 + 256 * p, 16, 5, .ro, 0, false⟩

/-- COMPOSE.PL.PROT_CRC.VALUE: 07_composition. R161 -/
def Reg.COMPOSE_PL_PROT_CRC (p : Nat) : Fld := ⟨0xF0084 + 256 * p, 0, 32, .ro, 0, false⟩

/-- COMPOSE.PL.PROT_LAST.VALUE: 07_composition. -/
def Reg.COMPOSE_PL_PROT_LAST (p : Nat) : Fld := ⟨0xF0088 + 256 * p, 0, 32, .ro, 0, false⟩

/-- COMPOSE.PL.PROT_PASSES.VALUE: 07_composition. -/
def Reg.COMPOSE_PL_PROT_PASSES (p : Nat) : Fld := ⟨0xF008C + 256 * p, 0, 32, .ro, 0, true⟩

/-- COMPOSE.PL.PROT_LEN.VALUE: 07_composition. -/
def Reg.COMPOSE_PL_PROT_LEN (p : Nat) : Fld := ⟨0xF0090 + 256 * p, 0, 32, .ro, 0, false⟩

/-- HTONE.PL.GEOM.OVERLAP: 08_halftone_density. R173 -/
def Reg.HTONE_PL_GEOM_OVERLAP (p : Nat) : Fld := ⟨0x100000 + 256 * p, 0, 10, .rw, 0, false⟩

/-- HTONE.PL.GEOM.SCREEN_X: 08_halftone_density. -/
def Reg.HTONE_PL_GEOM_SCREEN_X (p : Nat) : Fld := ⟨0x100000 + 256 * p, 16, 8, .rw, 0, false⟩

/-- HTONE.PL.GEOM.SCREEN_Y: 08_halftone_density. -/
def Reg.HTONE_PL_GEOM_SCREEN_Y (p : Nat) : Fld := ⟨0x100000 + 256 * p, 24, 8, .rw, 0, false⟩

/-- HTONE.PL.SHAPE.N: 08_halftone_density. R172 -/
def Reg.HTONE_PL_SHAPE_N (p : Nat) : Fld := ⟨0x100004 + 256 * p, 0, 19, .ro, 0, false⟩

/-- HTONE.PL.SHAPE.HEADS: 08_halftone_density. -/
def Reg.HTONE_PL_SHAPE_HEADS (p : Nat) : Fld := ⟨0x100004 + 256 * p, 20, 6, .ro, 0, false⟩

/-- HTONE.PL.SHAPE.ROWS2: 08_halftone_density. -/
def Reg.HTONE_PL_SHAPE_ROWS2 (p : Nat) : Fld := ⟨0x100004 + 256 * p, 26, 1, .ro, 0, false⟩

/-- HTONE.PL.SHAPE.BITS2: 08_halftone_density. -/
def Reg.HTONE_PL_SHAPE_BITS2 (p : Nat) : Fld := ⟨0x100004 + 256 * p, 27, 1, .ro, 0, false⟩

/-- HTONE.PL.DENS_BASE.ENTRY: 08_halftone_density. -/
def Reg.HTONE_PL_DENS_BASE_ENTRY (p : Nat) : Fld := ⟨0x100008 + 256 * p, 0, 20, .rw, 0, false⟩

/-- HTONE.PL.STITCH_BASE.BYTE: 08_halftone_density. -/
def Reg.HTONE_PL_STITCH_BASE_BYTE (p : Nat) : Fld := ⟨0x10000C + 256 * p, 0, 19, .rw, 0, false⟩

/-- HTONE.PL.DEAD_BASE.BIT: 08_halftone_density. -/
def Reg.HTONE_PL_DEAD_BASE_BIT (p : Nat) : Fld := ⟨0x100010 + 256 * p, 0, 20, .rw, 0, false⟩

/-- HTONE.PL.TABLES.BANK: 08_halftone_density. -/
def Reg.HTONE_PL_TABLES_BANK (p : Nat) : Fld := ⟨0x100014 + 256 * p, 0, 6, .ro, 0, false⟩

/-- HTONE.PL.TABLES.PENDING: 08_halftone_density. -/
def Reg.HTONE_PL_TABLES_PENDING (p : Nat) : Fld := ⟨0x100014 + 256 * p, 8, 6, .ro, 0, false⟩

/-- HTONE.PL.TABLES.COPYING: 08_halftone_density. -/
def Reg.HTONE_PL_TABLES_COPYING (p : Nat) : Fld := ⟨0x100014 + 256 * p, 16, 6, .ro, 0, false⟩

/-- HTONE.PL.TABLES.FLIP_SEL: 08_halftone_density. -/
def Reg.HTONE_PL_TABLES_FLIP_SEL (p : Nat) : Fld := ⟨0x100014 + 256 * p, 24, 6, .rw, 0, false⟩

/-- HTONE.PL.DEAD_COUNT.NOZZLES: 08_halftone_density. -/
def Reg.HTONE_PL_DEAD_COUNT_NOZZLES (p : Nat) : Fld := ⟨0x100018 + 256 * p, 0, 20, .ro, 0, false⟩

/-- HTONE.PL.UNCOVERED.POSITIONS: 08_halftone_density. -/
def Reg.HTONE_PL_UNCOVERED_POSITIONS (p : Nat) : Fld := ⟨0x10001C + 256 * p, 0, 19, .ro, 0, false⟩

/-- HTONE.PL.FLIPS.COUNT: 08_halftone_density. -/
def Reg.HTONE_PL_FLIPS_COUNT (p : Nat) : Fld := ⟨0x100020 + 256 * p, 0, 32, .ro, 0, true⟩

/-- HTONE.PL.XOFF.OFFSET: 08_halftone_density. R172 -/
def Reg.HTONE_PL_XOFF_OFFSET (p : Nat) (h : Nat) : Fld := ⟨0x101000 + 256 * p + 4 * h, 0, 32, .ro, 0, false⟩

/-- HEADPORT.HP.CTRL.ENABLE: 09_head_ports. R190 -/
def Reg.HEADPORT_HP_CTRL_ENABLE (p : Nat) : Fld := ⟨0x110000 + p / 12 * 0x10000 + p % 12 * 0x1000, 0, 1, .rw, 0, false⟩

/-- HEADPORT.HP.CTRL.PLANE: 09_head_ports. -/
def Reg.HEADPORT_HP_CTRL_PLANE (p : Nat) : Fld := ⟨0x110000 + p / 12 * 0x10000 + p % 12 * 0x1000, 8, 2, .ro, 0, false⟩

/-- HEADPORT.HP.CTRL.MAPPED: 09_head_ports. -/
def Reg.HEADPORT_HP_CTRL_MAPPED (p : Nat) : Fld := ⟨0x110000 + p / 12 * 0x10000 + p % 12 * 0x1000, 10, 1, .ro, 0, false⟩

/-- HEADPORT.HP.CTRL.MAP_POS: 09_head_ports. -/
def Reg.HEADPORT_HP_CTRL_MAP_POS (p : Nat) : Fld := ⟨0x110000 + p / 12 * 0x10000 + p % 12 * 0x1000, 16, 6, .ro, 0, false⟩

/-- HEADPORT.HP.FAULT.CAUSES: 09_head_ports. R210 -/
def Reg.HEADPORT_HP_FAULT_CAUSES (p : Nat) : Fld := ⟨0x110004 + p / 12 * 0x10000 + p % 12 * 0x1000, 0, 5, .ro, 0, false⟩

/-- HEADPORT.HP.FAULT.SRET_LOST: 09_head_ports. R207 -/
def Reg.HEADPORT_HP_FAULT_SRET_LOST (p : Nat) : Fld := ⟨0x110004 + p / 12 * 0x10000 + p % 12 * 0x1000, 16, 1, .ro, 0, false⟩

/-- HEADPORT.HP.FAULT.FAULTED: 09_head_ports. -/
def Reg.HEADPORT_HP_FAULT_FAULTED (p : Nat) : Fld := ⟨0x110004 + p / 12 * 0x10000 + p % 12 * 0x1000, 17, 1, .ro, 0, false⟩

/-- HEADPORT.HP.TEMP.TEMP: 09_head_ports. R205 -/
def Reg.HEADPORT_HP_TEMP (p : Nat) : Fld := ⟨0x110008 + p / 12 * 0x10000 + p % 12 * 0x1000, 0, 16, .ro, 32768, false⟩

/-- HEADPORT.HP.TEMP.TARGET: 09_head_ports. R208 -/
def Reg.HEADPORT_HP_TEMP_TARGET (p : Nat) : Fld := ⟨0x110008 + p / 12 * 0x10000 + p % 12 * 0x1000, 16, 16, .ro, 0, false⟩

/-- HEADPORT.HP.PREHEAT.COUNT: 09_head_ports. R206 -/
def Reg.HEADPORT_HP_PREHEAT_COUNT (p : Nat) : Fld := ⟨0x11000C + p / 12 * 0x10000 + p % 12 * 0x1000, 0, 4, .ro, 0, false⟩

/-- HEADPORT.HP.PREHEAT.WIDTH: 09_head_ports. R206 -/
def Reg.HEADPORT_HP_PREHEAT_WIDTH (p : Nat) : Fld := ⟨0x11000C + p / 12 * 0x10000 + p % 12 * 0x1000, 16, 9, .ro, 0, false⟩

/-- HEADPORT.HP.INTEG.VALUE: 09_head_ports. R206 -/
def Reg.HEADPORT_HP_INTEG (p : Nat) : Fld := ⟨0x110010 + p / 12 * 0x10000 + p % 12 * 0x1000, 0, 32, .ro, 0, false⟩

/-- HEADPORT.HP.FIRED.VALUE: 09_head_ports. -/
def Reg.HEADPORT_HP_FIRED (p : Nat) : Fld := ⟨0x110014 + p / 12 * 0x10000 + p % 12 * 0x1000, 0, 32, .ro, 0, true⟩

/-- HEADPORT.HP.LATE.VALUE: 09_head_ports. R10 -/
def Reg.HEADPORT_HP_LATE (p : Nat) : Fld := ⟨0x110018 + p / 12 * 0x10000 + p % 12 * 0x1000, 0, 32, .ro, 0, true⟩

/-- HEADPORT.HP.SKIPPED.VALUE: 09_head_ports. R200 -/
def Reg.HEADPORT_HP_SKIPPED (p : Nat) : Fld := ⟨0x11001C + p / 12 * 0x10000 + p % 12 * 0x1000, 0, 32, .ro, 0, true⟩

/-- HEADPORT.HP.SRET_ERRORS.VALUE: 09_head_ports. R204 -/
def Reg.HEADPORT_HP_SRET_ERRORS (p : Nat) : Fld := ⟨0x110020 + p / 12 * 0x10000 + p % 12 * 0x1000, 0, 32, .ro, 0, true⟩

/-- HEADPORT.HP.WD_CUTS.VALUE: 09_head_ports. R212 -/
def Reg.HEADPORT_HP_WD_CUTS (p : Nat) : Fld := ⟨0x110024 + p / 12 * 0x10000 + p % 12 * 0x1000, 0, 32, .ro, 0, true⟩

/-- HEADPORT.HP.DESKEW.CK: 09_head_ports. -/
def Reg.HEADPORT_HP_DESKEW_CK (p : Nat) : Fld := ⟨0x110028 + p / 12 * 0x10000 + p % 12 * 0x1000, 0, 6, .ro, 32, false⟩

/-- HEADPORT.HP.DESKEW.D0: 09_head_ports. -/
def Reg.HEADPORT_HP_DESKEW_D0 (p : Nat) : Fld := ⟨0x110028 + p / 12 * 0x10000 + p % 12 * 0x1000, 8, 6, .ro, 32, false⟩

/-- HEADPORT.HP.DESKEW.D1: 09_head_ports. -/
def Reg.HEADPORT_HP_DESKEW_D1 (p : Nat) : Fld := ⟨0x110028 + p / 12 * 0x10000 + p % 12 * 0x1000, 16, 6, .ro, 32, false⟩

/-- HEADPORT.GRP.STB_MAX.VALUE: 09_head_ports. R214 -/
def Reg.HEADPORT_GRP_STB_MAX (g : Nat) : Fld := ⟨0x11C000 + 65536 * g, 0, 13, .rw, 3200, false⟩

/-- HEADPORT.GRP.BANK.VHEAD_NOM: 09_head_ports. R186 -/
def Reg.HEADPORT_GRP_BANK_VHEAD_NOM (g : Nat) : Fld := ⟨0x11C004 + 65536 * g, 0, 12, .rw, 0, false⟩

/-- HEADPORT.GRP.BANK.VHEAD_MV: 09_head_ports. -/
def Reg.HEADPORT_GRP_BANK_VHEAD_MV (g : Nat) : Fld := ⟨0x11C004 + 65536 * g, 16, 12, .ro, 0, false⟩

/-- HEADPORT.GRP.BANK.VHEAD_OK: 09_head_ports. -/
def Reg.HEADPORT_GRP_BANK_VHEAD_OK (g : Nat) : Fld := ⟨0x11C004 + 65536 * g, 28, 1, .ro, 0, false⟩

/-- HEADPORT.GRP.FAULTED.PORTS: 09_head_ports. -/
def Reg.HEADPORT_GRP_FAULTED_PORTS (g : Nat) : Fld := ⟨0x11C008 + 65536 * g, 0, 12, .ro, 0, false⟩

/-- CAMRX.PORT.STATUS.RECEIVING: 10_camera_pipeline. R226 -/
def Reg.CAMRX_PORT_STATUS_RECEIVING (c : Nat) : Fld := ⟨0x150060 + 256 * c, 0, 1, .ro, 0, false⟩

/-- CAMRX.PORT.STATUS.INLINE: 10_camera_pipeline. -/
def Reg.CAMRX_PORT_STATUS_INLINE (c : Nat) : Fld := ⟨0x150060 + 256 * c, 1, 1, .ro, 0, false⟩

/-- CAMRX.PORT.STATUS.HS_ACTIVE: 10_camera_pipeline. -/
def Reg.CAMRX_PORT_STATUS_HS_ACTIVE (c : Nat) : Fld := ⟨0x150060 + 256 * c, 2, 1, .ro, 0, false⟩

/-- CAMRX.PORT.STATUS.FRAME_OPEN: 10_camera_pipeline. -/
def Reg.CAMRX_PORT_STATUS_FRAME_OPEN (c : Nat) : Fld := ⟨0x150060 + 256 * c, 3, 1, .ro, 0, false⟩

/-- CAMRX.PORT.STATUS.RAW_USED: 10_camera_pipeline. -/
def Reg.CAMRX_PORT_STATUS_RAW_USED (c : Nat) : Fld := ⟨0x150060 + 256 * c, 8, 8, .ro, 0, false⟩

/-- CAMRX.PORT.FRAMES.VALUE: 10_camera_pipeline. R220 -/
def Reg.CAMRX_PORT_FRAMES (c : Nat) : Fld := ⟨0x150064 + 256 * c, 0, 32, .ro, 0, true⟩

/-- CAMRX.PORT.SHORT.VALUE: 10_camera_pipeline. R221 -/
def Reg.CAMRX_PORT_SHORT (c : Nat) : Fld := ⟨0x150068 + 256 * c, 0, 32, .ro, 0, true⟩

/-- CAMRX.PORT.LONG.VALUE: 10_camera_pipeline. R222 -/
def Reg.CAMRX_PORT_LONG (c : Nat) : Fld := ⟨0x15006C + 256 * c, 0, 32, .ro, 0, true⟩

/-- CAMRX.PORT.DROPS.VALUE: 10_camera_pipeline. R229 -/
def Reg.CAMRX_PORT_DROPS (c : Nat) : Fld := ⟨0x150070 + 256 * c, 0, 32, .ro, 0, true⟩

/-- CAMRX.PORT.ECC_CORR.VALUE: 10_camera_pipeline. R217 -/
def Reg.CAMRX_PORT_ECC_CORR (c : Nat) : Fld := ⟨0x150074 + 256 * c, 0, 32, .ro, 0, true⟩

/-- CAMRX.PORT.ECC_FAIL.VALUE: 10_camera_pipeline. R217 -/
def Reg.CAMRX_PORT_ECC_FAIL (c : Nat) : Fld := ⟨0x150078 + 256 * c, 0, 32, .ro, 0, true⟩

/-- CAMRX.PORT.CRC_ERR.VALUE: 10_camera_pipeline. R224 -/
def Reg.CAMRX_PORT_CRC_ERR (c : Nat) : Fld := ⟨0x15007C + 256 * c, 0, 32, .ro, 0, true⟩

/-- CAMRX.PORT.LEN_ERR.VALUE: 10_camera_pipeline. R224 -/
def Reg.CAMRX_PORT_LEN_ERR (c : Nat) : Fld := ⟨0x150080 + 256 * c, 0, 32, .ro, 0, true⟩

/-- CAMRX.PORT.FOREIGN.VALUE: 10_camera_pipeline. R217 -/
def Reg.CAMRX_PORT_FOREIGN (c : Nat) : Fld := ⟨0x150084 + 256 * c, 0, 32, .ro, 0, true⟩

/-- CAMRX.PORT.OUT_LAST.SLOT: 10_camera_pipeline. -/
def Reg.CAMRX_PORT_OUT_LAST_SLOT (c : Nat) : Fld := ⟨0x150088 + 256 * c, 0, 8, .ro, 0, false⟩

/-- CAMRX.PORT.OUT_LAST.FRAME: 10_camera_pipeline. -/
def Reg.CAMRX_PORT_OUT_LAST_FRAME (c : Nat) : Fld := ⟨0x150088 + 256 * c, 8, 24, .ro, 0, false⟩

/-- CAMRX.TRIG.WIDTH: 10_camera_pipeline. -/
def Reg.CAMRX_TRIG_WIDTH (c : Nat) : Fld := ⟨0x150400 + 16 * c, 0, 16, .rw, 100, false⟩

/-- ISP.INLINE.PORT: 10_camera_pipeline. -/
def Reg.ISP_INLINE_PORT : Fld := ⟨0x160000, 0, 3, .ro, 7, false⟩

/-- ISP.INLINE.NEXT: 10_camera_pipeline. R231 -/
def Reg.ISP_INLINE_NEXT : Fld := ⟨0x160000, 4, 3, .ro, 7, false⟩

/-- ISP.MEM.PORT: 10_camera_pipeline. -/
def Reg.ISP_MEM_PORT : Fld := ⟨0x160004, 0, 3, .ro, 7, false⟩

/-- ISP.MEM.QUEUED: 10_camera_pipeline. -/
def Reg.ISP_MEM_QUEUED : Fld := ⟨0x160004, 8, 8, .ro, 0, false⟩

/-- ISP.YIELDS.VALUE: 10_camera_pipeline. R228 -/
def Reg.ISP_YIELDS : Fld := ⟨0x160008, 0, 32, .ro, 0, true⟩

/-- MEASURE.FRAME.VALUE: 10_camera_pipeline. -/
def Reg.MEASURE_FRAME (c : Nat) : Fld := ⟨0x170000 + 4 * c, 0, 32, .ro, 4294967295, false⟩

/-- MEASURE.ROI_INFO.FRAME: 10_camera_pipeline. -/
def Reg.MEASURE_ROI_INFO_FRAME (i : Nat) : Fld := ⟨0x170400 + 4 * i, 0, 24, .ro, 0, false⟩

/-- MEASURE.ROI_INFO.VALID: 10_camera_pipeline. -/
def Reg.MEASURE_ROI_INFO_VALID (i : Nat) : Fld := ⟨0x170400 + 4 * i, 24, 1, .ro, 0, false⟩

/-- MEASURE.ROI_INFO.STALE: 10_camera_pipeline. R236 -/
def Reg.MEASURE_ROI_INFO_STALE (i : Nat) : Fld := ⟨0x170400 + 4 * i, 25, 1, .ro, 0, false⟩

/-- MEASURE.ROI_INFO.SUSPECT: 10_camera_pipeline. R236 -/
def Reg.MEASURE_ROI_INFO_SUSPECT (i : Nat) : Fld := ⟨0x170400 + 4 * i, 26, 1, .ro, 0, false⟩

/-- MEASURE.ROI_INFO.CLIPPED: 10_camera_pipeline. R236 -/
def Reg.MEASURE_ROI_INFO_CLIPPED (i : Nat) : Fld := ⟨0x170400 + 4 * i, 27, 1, .ro, 0, false⟩

/-- MEASURE.LOOP_MODE.COLOUR: 11_colour_alignment_loop. R239 -/
def Reg.MEASURE_LOOP_MODE_COLOUR : Fld := ⟨0x171000, 0, 2, .ro, 0, false⟩

/-- MEASURE.LOOP_MODE.NOZZLE: 11_colour_alignment_loop. -/
def Reg.MEASURE_LOOP_MODE_NOZZLE : Fld := ⟨0x171000, 2, 2, .ro, 0, false⟩

/-- MEASURE.LOOP_MODE.ALIGN: 11_colour_alignment_loop. -/
def Reg.MEASURE_LOOP_MODE_ALIGN : Fld := ⟨0x171000, 4, 2, .ro, 0, false⟩

/-- MEASURE.ALIGN_REF.PLANE: 11_colour_alignment_loop. -/
def Reg.MEASURE_ALIGN_REF_PLANE : Fld := ⟨0x171004, 0, 2, .rw, 0, false⟩

/-- MEASURE.WORK_LO.VALUE: 11_colour_alignment_loop. -/
def Reg.MEASURE_WORK_LO : Fld := ⟨0x171008, 0, 32, .rw, 0, false⟩

/-- MEASURE.WORK_HI.VALUE: 11_colour_alignment_loop. -/
def Reg.MEASURE_WORK_HI : Fld := ⟨0x17100C, 0, 8, .rw, 0, false⟩

/-- MEASURE.WORK_HI.VALID: 11_colour_alignment_loop. R241 -/
def Reg.MEASURE_WORK_HI_VALID : Fld := ⟨0x17100C, 31, 1, .rw, 0, false⟩

/-- MEASURE.COLOUR_LIMIT.VALUE: 11_colour_alignment_loop. -/
def Reg.MEASURE_COLOUR_LIMIT : Fld := ⟨0x171010, 0, 14, .ro, 100, false⟩

/-- MEASURE.NOZZLE_LIMIT.VALUE: 11_colour_alignment_loop. -/
def Reg.MEASURE_NOZZLE_LIMIT : Fld := ⟨0x171014, 0, 13, .ro, 64, false⟩

/-- MEASURE.ALIGN_LIMIT.VALUE: 11_colour_alignment_loop. -/
def Reg.MEASURE_ALIGN_LIMIT : Fld := ⟨0x171018, 0, 9, .ro, 64, false⟩

/-- MEASURE.COLOUR_CFG.CORR_MAX: 11_colour_alignment_loop. -/
def Reg.MEASURE_COLOUR_CFG_CORR_MAX : Fld := ⟨0x17101C, 0, 13, .rw, 1500, false⟩

/-- MEASURE.COLOUR_CFG.GAIN: 11_colour_alignment_loop. -/
def Reg.MEASURE_COLOUR_CFG_GAIN : Fld := ⟨0x17101C, 16, 8, .rw, 128, false⟩

/-- MEASURE.PL.CTRL.COLOUR_EN: 11_colour_alignment_loop. -/
def Reg.MEASURE_PL_CTRL_COLOUR_EN (p : Nat) : Fld := ⟨0x171100 + 128 * p, 0, 1, .rw, 0, false⟩

/-- MEASURE.PL.CTRL.NOZZLE_EN: 11_colour_alignment_loop. -/
def Reg.MEASURE_PL_CTRL_NOZZLE_EN (p : Nat) : Fld := ⟨0x171100 + 128 * p, 1, 1, .rw, 0, false⟩

/-- MEASURE.PL.CTRL.ALIGN_EN: 11_colour_alignment_loop. -/
def Reg.MEASURE_PL_CTRL_ALIGN_EN (p : Nat) : Fld := ⟨0x171100 + 128 * p, 2, 1, .rw, 0, false⟩

/-- MEASURE.PL.CTRL.FLIP_REPEAT: 11_colour_alignment_loop. -/
def Reg.MEASURE_PL_CTRL_FLIP_REPEAT (p : Nat) : Fld := ⟨0x171100 + 128 * p, 3, 1, .rw, 0, false⟩

/-- MEASURE.PL.CTRL.PORT: 11_colour_alignment_loop. -/
def Reg.MEASURE_PL_CTRL_PORT (p : Nat) : Fld := ⟨0x171100 + 128 * p, 4, 2, .rw, 0, false⟩

/-- MEASURE.PL.CTRL.CH: 11_colour_alignment_loop. -/
def Reg.MEASURE_PL_CTRL_CH (p : Nat) : Fld := ⟨0x171100 + 128 * p, 6, 2, .rw, 3, false⟩

/-- MEASURE.PL.CTRL.LAT_AXIS: 11_colour_alignment_loop. R255 -/
def Reg.MEASURE_PL_CTRL_LAT_AXIS (p : Nat) : Fld := ⟨0x171100 + 128 * p, 8, 2, .rw, 0, false⟩

/-- MEASURE.PL.CTRL.LAT_EN: 11_colour_alignment_loop. -/
def Reg.MEASURE_PL_CTRL_LAT_EN (p : Nat) : Fld := ⟨0x171100 + 128 * p, 10, 1, .rw, 0, false⟩

/-- MEASURE.PL.CTRL.LEN_BASE: 11_colour_alignment_loop. R253 -/
def Reg.MEASURE_PL_CTRL_LEN_BASE (p : Nat) : Fld := ⟨0x171100 + 128 * p, 16, 10, .rw, 128, false⟩

/-- MEASURE.PL.X0.VALUE: 11_colour_alignment_loop. -/
def Reg.MEASURE_PL_X0 (p : Nat) : Fld := ⟨0x171104 + 128 * p, 0, 32, .rw, 0, false⟩

/-- MEASURE.PL.XS.VALUE: 11_colour_alignment_loop. -/
def Reg.MEASURE_PL_XS (p : Nat) : Fld := ⟨0x171108 + 128 * p, 0, 32, .rw, 0, false⟩

/-- MEASURE.PL.YS.VALUE: 11_colour_alignment_loop. -/
def Reg.MEASURE_PL_YS (p : Nat) : Fld := ⟨0x17110C + 128 * p, 0, 32, .rw, 0, false⟩

/-- MEASURE.PL.CAM_DIST.VALUE: 11_colour_alignment_loop. -/
def Reg.MEASURE_PL_CAM_DIST (p : Nat) : Fld := ⟨0x171110 + 128 * p, 0, 32, .rw, 0, false⟩

/-- MEASURE.PL.LADDER_LINE.VALUE: 11_colour_alignment_loop. R247 -/
def Reg.MEASURE_PL_LADDER_LINE (p : Nat) : Fld := ⟨0x171114 + 128 * p, 0, 32, .rw, 0, false⟩

/-- MEASURE.PL.TICK_LINE.VALUE: 11_colour_alignment_loop. R250 -/
def Reg.MEASURE_PL_TICK_LINE (p : Nat) : Fld := ⟨0x171118 + 128 * p, 0, 32, .rw, 0, false⟩

/-- MEASURE.PL.LADDER.S: 11_colour_alignment_loop. -/
def Reg.MEASURE_PL_LADDER_S (p : Nat) : Fld := ⟨0x17111C + 128 * p, 0, 6, .rw, 32, false⟩

/-- MEASURE.PL.LADDER.DASH: 11_colour_alignment_loop. -/
def Reg.MEASURE_PL_LADDER_DASH (p : Nat) : Fld := ⟨0x17111C + 128 * p, 8, 6, .rw, 24, false⟩

/-- MEASURE.PL.LADDER.GAP: 11_colour_alignment_loop. -/
def Reg.MEASURE_PL_LADDER_GAP (p : Nat) : Fld := ⟨0x17111C + 128 * p, 16, 6, .rw, 24, false⟩

/-- MEASURE.PL.LADDER.MISSES: 11_colour_alignment_loop. -/
def Reg.MEASURE_PL_LADDER_MISSES (p : Nat) : Fld := ⟨0x17111C + 128 * p, 24, 4, .rw, 3, false⟩

/-- MEASURE.PL.RATIO.DEAD_RATIO: 11_colour_alignment_loop. -/
def Reg.MEASURE_PL_RATIO_DEAD_RATIO (p : Nat) : Fld := ⟨0x171120 + 128 * p, 0, 8, .rw, 96, false⟩

/-- MEASURE.PL.TICK.TW: 11_colour_alignment_loop. -/
def Reg.MEASURE_PL_TICK_TW (p : Nat) : Fld := ⟨0x171124 + 128 * p, 0, 9, .rw, 64, false⟩

/-- MEASURE.PL.TICK.TL: 11_colour_alignment_loop. -/
def Reg.MEASURE_PL_TICK_TL (p : Nat) : Fld := ⟨0x171124 + 128 * p, 16, 6, .rw, 32, false⟩

/-- MEASURE.PL.TICK.WIN: 11_colour_alignment_loop. -/
def Reg.MEASURE_PL_TICK_WIN (p : Nat) : Fld := ⟨0x171124 + 128 * p, 24, 8, .rw, 16, false⟩

/-- MEASURE.PL.MSTEP.VALUE: 11_colour_alignment_loop. -/
def Reg.MEASURE_PL_MSTEP (p : Nat) : Fld := ⟨0x171128 + 128 * p, 0, 32, .rw, 0, false⟩

/-- MEASURE.PL.LAT_HOME.VALUE: 11_colour_alignment_loop. -/
def Reg.MEASURE_PL_LAT_HOME (p : Nat) : Fld := ⟨0x17112C + 128 * p, 0, 32, .rw, 0, false⟩

/-- MEASURE.PL.CORR.VALUE: 11_colour_alignment_loop. -/
def Reg.MEASURE_PL_CORR (p : Nat) (z : Nat) : Fld := ⟨0x171130 + 128 * p + 4 * z, 0, 32, .ro, 0, false⟩

/-- MEASURE.PL.BAD_MAP.VALUE: 11_colour_alignment_loop. R242 R247 -/
def Reg.MEASURE_PL_BAD_MAP (p : Nat) : Fld := ⟨0x171150 + 128 * p, 0, 1, .ro, 0, false⟩

/-- MEASURE.PL.STATUS.REF_SEEN: 11_colour_alignment_loop. -/
def Reg.MEASURE_PL_STATUS_REF_SEEN (p : Nat) : Fld := ⟨0x171150 + 128 * p, 1, 1, .ro, 0, false⟩

/-- MEASURE.PL.SKIPPED.VALUE: 11_colour_alignment_loop. R242 -/
def Reg.MEASURE_PL_SKIPPED (p : Nat) : Fld := ⟨0x171154 + 128 * p, 0, 32, .ro, 0, true⟩

/-- MEASURE.PL.COUNTS.LADDER_SPLIT: 11_colour_alignment_loop. -/
def Reg.MEASURE_PL_COUNTS_LADDER_SPLIT (p : Nat) : Fld := ⟨0x171158 + 128 * p, 0, 16, .ro, 0, true⟩

/-- MEASURE.PL.COUNTS.REJECTED: 11_colour_alignment_loop. R248 -/
def Reg.MEASURE_PL_COUNTS_REJECTED (p : Nat) : Fld := ⟨0x171158 + 128 * p, 16, 16, .ro, 0, true⟩

/-- MEASURE.PL.TICKS_LOST.VALUE: 11_colour_alignment_loop. R250 -/
def Reg.MEASURE_PL_TICKS_LOST (p : Nat) : Fld := ⟨0x17115C + 128 * p, 0, 32, .ro, 0, true⟩

/-- MEASURE.PATCH.CFG.ROI: 11_colour_alignment_loop. -/
def Reg.MEASURE_PATCH_CFG_ROI (i : Nat) : Fld := ⟨0x172000 + 16 * i, 0, 8, .rw, 0, false⟩

/-- MEASURE.PATCH.CFG.PLANE: 11_colour_alignment_loop. -/
def Reg.MEASURE_PATCH_CFG_PLANE (i : Nat) : Fld := ⟨0x172000 + 16 * i, 8, 2, .rw, 0, false⟩

/-- MEASURE.PATCH.CFG.ZONE: 11_colour_alignment_loop. -/
def Reg.MEASURE_PATCH_CFG_ZONE (i : Nat) : Fld := ⟨0x172000 + 16 * i, 16, 4, .rw, 0, false⟩

/-- MEASURE.PATCH.CFG.ENABLE: 11_colour_alignment_loop. R243 -/
def Reg.MEASURE_PATCH_CFG_ENABLE (i : Nat) : Fld := ⟨0x172000 + 16 * i, 24, 1, .rw, 0, false⟩

/-- MEASURE.PATCH.TARGET.TARGET: 11_colour_alignment_loop. -/
def Reg.MEASURE_PATCH_TARGET (i : Nat) : Fld := ⟨0x172004 + 16 * i, 0, 16, .rw, 0, false⟩

/-- MEASURE.PATCH.TARGET.SLOPE: 11_colour_alignment_loop. -/
def Reg.MEASURE_PATCH_TARGET_SLOPE (i : Nat) : Fld := ⟨0x172004 + 16 * i, 16, 16, .rw, 0, false⟩

/-- MEASURE.PATCH.BAND.DEAD_BAND: 11_colour_alignment_loop. -/
def Reg.MEASURE_PATCH_BAND_DEAD_BAND (i : Nat) : Fld := ⟨0x172008 + 16 * i, 0, 16, .rw, 0, false⟩

/-- MEMCTL.MODE.INIT: 12_raster_memory. R271 -/
def Reg.MEMCTL_MODE_INIT : Fld := ⟨0x80000, 0, 1, .ro, 1, false⟩

/-- MEMCTL.MODE.TRAINED: 12_raster_memory. -/
def Reg.MEMCTL_MODE_TRAINED : Fld := ⟨0x80000, 1, 1, .ro, 0, false⟩

/-- MEMCTL.MODE.BOOT_FAIL: 12_raster_memory. R265 -/
def Reg.MEMCTL_MODE_BOOT_FAIL : Fld := ⟨0x80000, 2, 1, .ro, 0, false⟩

/-- MEMCTL.WRITE_WM.HIGH: 12_raster_memory. R263 -/
def Reg.MEMCTL_WRITE_WM_HIGH : Fld := ⟨0x80004, 0, 6, .ro, 48, false⟩

/-- MEMCTL.WRITE_WM.LOW: 12_raster_memory. -/
def Reg.MEMCTL_WRITE_WM_LOW : Fld := ⟨0x80004, 8, 6, .ro, 16, false⟩

/-- MEMCTL.WRITE_WM.DEPTH: 12_raster_memory. -/
def Reg.MEMCTL_WRITE_WM_DEPTH : Fld := ⟨0x80004, 16, 7, .ro, 64, false⟩

/-- MEMCTL.VALID_COUNT.REGIONS: 12_raster_memory. -/
def Reg.MEMCTL_VALID_COUNT_REGIONS : Fld := ⟨0x80008, 0, 18, .ro, 0, false⟩

/-- MEMCTL.INVAL_FIRST.REGION: 12_raster_memory. R270 -/
def Reg.MEMCTL_INVAL_FIRST_REGION : Fld := ⟨0x80010, 0, 18, .rw, 0, false⟩

/-- MEMCTL.INVAL_CTRL.COUNT: 12_raster_memory. -/
def Reg.MEMCTL_INVAL_CTRL_COUNT : Fld := ⟨0x80014, 0, 18, .rw, 0, false⟩

/-- MEMCTL.INVAL_CTRL.GO: 12_raster_memory. R270 -/
def Reg.MEMCTL_INVAL_CTRL_GO : Fld := ⟨0x80014, 31, 1, .wo, 0, false⟩

/-- MEMCTL.RECOVER_FIRST.REGION: 12_raster_memory. R273 -/
def Reg.MEMCTL_RECOVER_FIRST_REGION : Fld := ⟨0x80018, 0, 18, .rw, 0, false⟩

/-- MEMCTL.RECOVER_FIRST.ACTIVE: 12_raster_memory. -/
def Reg.MEMCTL_RECOVER_FIRST_ACTIVE : Fld := ⟨0x80018, 31, 1, .rw, 0, false⟩

/-- MEMCTL.RECOVER_COUNT.REGIONS: 12_raster_memory. -/
def Reg.MEMCTL_RECOVER_COUNT_REGIONS : Fld := ⟨0x8001C, 0, 18, .rw, 0, false⟩

/-- MEMCTL.SCRUB_CTRL.EN: 12_raster_memory. -/
def Reg.MEMCTL_SCRUB_CTRL_EN : Fld := ⟨0x80020, 0, 1, .rw, 1, false⟩

/-- MEMCTL.SCRUB_CTRL.GAP: 12_raster_memory. -/
def Reg.MEMCTL_SCRUB_CTRL_GAP : Fld := ⟨0x80020, 8, 8, .rw, 10, false⟩

/-- MEMCTL.SCRUB_POS.REGION: 12_raster_memory. -/
def Reg.MEMCTL_SCRUB_POS_REGION : Fld := ⟨0x80024, 0, 18, .ro, 0, false⟩

/-- MEMCTL.SCRUB_LAP.MS: 12_raster_memory. -/
def Reg.MEMCTL_SCRUB_LAP_MS : Fld := ⟨0x80028, 0, 32, .ro, 4294967295, true⟩

/-- MEMCTL.FILLS.COUNT: 12_raster_memory. R269 -/
def Reg.MEMCTL_FILLS_COUNT : Fld := ⟨0x8002C, 0, 32, .ro, 0, true⟩

/-- MEMCTL.PROT_REFUSED.COUNT: 12_raster_memory. R280 -/
def Reg.MEMCTL_PROT_REFUSED_COUNT : Fld := ⟨0x80030, 0, 32, .ro, 0, true⟩

/-- MEMCTL.CH.STATUS.READS: 12_raster_memory. -/
def Reg.MEMCTL_CH_STATUS_READS (c : Nat) : Fld := ⟨0x80100 + 32 * c, 0, 7, .ro, 0, false⟩

/-- MEMCTL.CH.STATUS.WRITES: 12_raster_memory. -/
def Reg.MEMCTL_CH_STATUS_WRITES (c : Nat) : Fld := ⟨0x80100 + 32 * c, 8, 7, .ro, 0, false⟩

/-- MEMCTL.CH.STATUS.DRAIN: 12_raster_memory. R263 -/
def Reg.MEMCTL_CH_STATUS_DRAIN (c : Nat) : Fld := ⟨0x80100 + 32 * c, 15, 1, .ro, 0, false⟩

/-- MEMCTL.CH.STATUS.REFRESH: 12_raster_memory. -/
def Reg.MEMCTL_CH_STATUS_REFRESH (c : Nat) : Fld := ⟨0x80100 + 32 * c, 16, 2, .ro, 0, false⟩

/-- MEMCTL.CH.DRAINS.COUNT: 12_raster_memory. -/
def Reg.MEMCTL_CH_DRAINS_COUNT (c : Nat) : Fld := ⟨0x80104 + 32 * c, 0, 32, .ro, 0, true⟩

/-- MEMCTL.CH.TRAIN.EYE_MIN: 12_raster_memory. -/
def Reg.MEMCTL_CH_TRAIN_EYE_MIN (c : Nat) : Fld := ⟨0x80108 + 32 * c, 0, 8, .ro, 0, false⟩

/-- MEMCTL.CH.TRAIN.VREF_DQ: 12_raster_memory. -/
def Reg.MEMCTL_CH_TRAIN_VREF_DQ (c : Nat) : Fld := ⟨0x80108 + 32 * c, 8, 7, .ro, 0, false⟩

/-- MEMCTL.CH.TRAIN.VREF_CA: 12_raster_memory. -/
def Reg.MEMCTL_CH_TRAIN_VREF_CA (c : Nat) : Fld := ⟨0x80108 + 32 * c, 16, 7, .ro, 0, false⟩

/-- MEMCTL.CH.TRAIN.REJECTED: 12_raster_memory. R266 R268 -/
def Reg.MEMCTL_CH_TRAIN_REJECTED (c : Nat) : Fld := ⟨0x80108 + 32 * c, 23, 1, .w1c, 0, false⟩

/-- MEMCTL.CH.TRAIN_TEMP.TEMP: 12_raster_memory. -/
def Reg.MEMCTL_CH_TRAIN_TEMP_TEMP (c : Nat) : Fld := ⟨0x8010C + 32 * c, 0, 16, .ro, 0, false⟩

/-- MEMCTL.CH.TAP_STEPS.COUNT: 12_raster_memory. R267 -/
def Reg.MEMCTL_CH_TAP_STEPS_COUNT (c : Nat) : Fld := ⟨0x80110 + 32 * c, 0, 32, .ro, 0, true⟩

/-- ECC.CE_COUNT.VALUE: 12_raster_memory. -/
def Reg.ECC_CE_COUNT : Fld := ⟨0x90000, 0, 32, .ro, 0, true⟩

/-- ECC.UE_COUNT.VALUE: 12_raster_memory. R276 -/
def Reg.ECC_UE_COUNT : Fld := ⟨0x90004, 0, 32, .ro, 0, true⟩

/-- ECC.INIT_ERRORS.VALUE: 12_raster_memory. R272 -/
def Reg.ECC_INIT_ERRORS : Fld := ⟨0x90008, 0, 32, .ro, 0, true⟩

/-- ECC.CE_LAST_LO.VALUE: 12_raster_memory. -/
def Reg.ECC_CE_LAST_LO : Fld := ⟨0x9000C, 0, 32, .ro, 0, false⟩

/-- ECC.CE_LAST_HI.VALUE: 12_raster_memory. -/
def Reg.ECC_CE_LAST_HI : Fld := ⟨0x90010, 0, 8, .ro, 0, false⟩

/-- ECC.UE_LOG_STATUS.ENTRIES: 12_raster_memory. -/
def Reg.ECC_UE_LOG_STATUS_ENTRIES : Fld := ⟨0x90014, 0, 4, .ro, 0, false⟩

/-- ECC.UE_LOG_STATUS.OVERFLOW: 12_raster_memory. R278 -/
def Reg.ECC_UE_LOG_STATUS_OVERFLOW : Fld := ⟨0x90014, 16, 16, .ro, 0, true⟩

/-- ECC.UE_POP.POP: 12_raster_memory. R278 -/
def Reg.ECC_UE_POP_POP : Fld := ⟨0x90018, 0, 1, .wo, 0, false⟩

/-- ECC.UE_ADDR_LO.VALUE: 12_raster_memory. -/
def Reg.ECC_UE_ADDR_LO : Fld := ⟨0x90020, 0, 32, .ro, 0, false⟩

/-- ECC.UE_INFO.ADDR_HI: 12_raster_memory. -/
def Reg.ECC_UE_INFO_ADDR_HI : Fld := ⟨0x90024, 0, 8, .ro, 0, false⟩

/-- ECC.UE_INFO.CHANNEL: 12_raster_memory. R260 -/
def Reg.ECC_UE_INFO_CHANNEL : Fld := ⟨0x90024, 8, 3, .ro, 0, false⟩

/-- ECC.UE_INFO.REQUESTER: 12_raster_memory. R276 -/
def Reg.ECC_UE_INFO_REQUESTER : Fld := ⟨0x90024, 16, 8, .ro, 0, false⟩

/-- ECC.UE_INFO.PLANE: 12_raster_memory. -/
def Reg.ECC_UE_INFO_PLANE : Fld := ⟨0x90024, 24, 2, .ro, 0, false⟩

/-- ECC.UE_LINE.VALUE: 12_raster_memory. -/
def Reg.ECC_UE_LINE : Fld := ⟨0x90028, 0, 32, .ro, 0, false⟩

/-- ECC.UE_WEB_LO.VALUE: 12_raster_memory. R277 -/
def Reg.ECC_UE_WEB_LO : Fld := ⟨0x9002C, 0, 32, .ro, 0, false⟩

/-- ECC.UE_WEB_HI.VALUE: 12_raster_memory. R277 -/
def Reg.ECC_UE_WEB_HI : Fld := ⟨0x90030, 0, 32, .ro, 0, false⟩

/-- ECC.UE_STAMP.VALUE: 12_raster_memory. -/
def Reg.ECC_UE_STAMP : Fld := ⟨0x90034, 0, 32, .ro, 0, false⟩

/-- ECC.UE_REPEATS.VALUE: 12_raster_memory. R278 -/
def Reg.ECC_UE_REPEATS : Fld := ⟨0x90038, 0, 32, .ro, 0, true⟩

/-- MOTION.AX.POS_LO.VALUE: 13_motion_axes. -/
def Reg.MOTION_AX_POS_LO (a : Nat) : Fld := ⟨0x180040 + 256 * a, 0, 32, .ro, 0, false⟩

/-- MOTION.AX.POS_HI.VALUE: 13_motion_axes. -/
def Reg.MOTION_AX_POS_HI (a : Nat) : Fld := ⟨0x180044 + 256 * a, 0, 32, .ro, 0, false⟩

/-- MOTION.AX.POS_FRAC.VALUE: 13_motion_axes. -/
def Reg.MOTION_AX_POS_FRAC (a : Nat) : Fld := ⟨0x180048 + 256 * a, 0, 32, .ro, 0, false⟩

/-- MOTION.AX.VELOCITY.VALUE: 13_motion_axes. R291 -/
def Reg.MOTION_AX_VELOCITY (a : Nat) : Fld := ⟨0x18004C + 256 * a, 0, 32, .ro, 0, false⟩

/-- MOTION.AX.TARGET_LO.VALUE: 13_motion_axes. -/
def Reg.MOTION_AX_TARGET_LO (a : Nat) : Fld := ⟨0x180050 + 256 * a, 0, 32, .ro, 0, false⟩

/-- MOTION.AX.TARGET_HI.VALUE: 13_motion_axes. -/
def Reg.MOTION_AX_TARGET_HI (a : Nat) : Fld := ⟨0x180054 + 256 * a, 0, 32, .ro, 0, false⟩

/-- MOTION.AX.STATUS.LOST: 13_motion_axes. -/
def Reg.MOTION_AX_STATUS_LOST (a : Nat) : Fld := ⟨0x180058 + 256 * a, 0, 1, .ro, 1, false⟩

/-- MOTION.AX.STATUS.STALL: 13_motion_axes. R305 -/
def Reg.MOTION_AX_STATUS_STALL (a : Nat) : Fld := ⟨0x180058 + 256 * a, 1, 1, .ro, 0, false⟩

/-- MOTION.AX.STATUS.COMPARE_PASSED: 13_motion_axes. -/
def Reg.MOTION_AX_STATUS_COMPARE_PASSED (a : Nat) : Fld := ⟨0x180058 + 256 * a, 2, 1, .ro, 0, false⟩

/-- MOTION.AX.STATUS.MOVING: 13_motion_axes. R291 -/
def Reg.MOTION_AX_STATUS_MOVING (a : Nat) : Fld := ⟨0x180058 + 256 * a, 3, 1, .ro, 0, false⟩

/-- MOTION.AX.STATUS.ENERGISED: 13_motion_axes. -/
def Reg.MOTION_AX_STATUS_ENERGISED (a : Nat) : Fld := ⟨0x180058 + 256 * a, 4, 1, .ro, 0, false⟩

/-- MOTION.AX.STATUS.HOLD: 13_motion_axes. -/
def Reg.MOTION_AX_STATUS_HOLD (a : Nat) : Fld := ⟨0x180058 + 256 * a, 5, 1, .ro, 0, false⟩

/-- MOTION.AX.STATUS.OVERSHOOT: 13_motion_axes. R295 -/
def Reg.MOTION_AX_STATUS_OVERSHOOT (a : Nat) : Fld := ⟨0x180058 + 256 * a, 6, 1, .ro, 0, false⟩

/-- MOTION.AX.STATUS.LIMIT_NEG: 13_motion_axes. R303 -/
def Reg.MOTION_AX_STATUS_LIMIT_NEG (a : Nat) : Fld := ⟨0x180058 + 256 * a, 7, 1, .w1c, 0, false⟩

/-- MOTION.AX.STATUS.LIMIT_POS: 13_motion_axes. R303 -/
def Reg.MOTION_AX_STATUS_LIMIT_POS (a : Nat) : Fld := ⟨0x180058 + 256 * a, 8, 1, .w1c, 0, false⟩

/-- MOTION.AX.STATUS.STARVED: 13_motion_axes. R301 -/
def Reg.MOTION_AX_STATUS_STARVED (a : Nat) : Fld := ⟨0x180058 + 256 * a, 9, 1, .w1c, 0, false⟩

/-- MOTION.AX.STATUS.OVERCURRENT: 13_motion_axes. R287 -/
def Reg.MOTION_AX_STATUS_OVERCURRENT (a : Nat) : Fld := ⟨0x180058 + 256 * a, 10, 1, .w1c, 0, false⟩

/-- MOTION.AX.STATUS.WAIT_TRIG: 13_motion_axes. -/
def Reg.MOTION_AX_STATUS_WAIT_TRIG (a : Nat) : Fld := ⟨0x180058 + 256 * a, 11, 1, .ro, 0, false⟩

/-- MOTION.AX.STATUS.MODE: 13_motion_axes. -/
def Reg.MOTION_AX_STATUS_MODE (a : Nat) : Fld := ⟨0x180058 + 256 * a, 12, 2, .ro, 0, false⟩

/-- MOTION.AX.LOAD.ANGLE: 13_motion_axes. R304 -/
def Reg.MOTION_AX_LOAD_ANGLE (a : Nat) : Fld := ⟨0x18005C + 256 * a, 0, 11, .ro, 0, false⟩

/-- MOTION.AX.LOAD.ANGLE_VALID: 13_motion_axes. -/
def Reg.MOTION_AX_LOAD_ANGLE_VALID (a : Nat) : Fld := ⟨0x18005C + 256 * a, 16, 1, .ro, 0, false⟩

/-- MOTION.AX.CHOP.BAND_A: 13_motion_axes. -/
def Reg.MOTION_AX_CHOP_BAND_A (a : Nat) : Fld := ⟨0x180060 + 256 * a, 0, 7, .ro, 16, false⟩

/-- MOTION.AX.CHOP.BAND_B: 13_motion_axes. -/
def Reg.MOTION_AX_CHOP_BAND_B (a : Nat) : Fld := ⟨0x180060 + 256 * a, 8, 7, .ro, 16, false⟩

/-- MOTION.AX.CHOP.FREQ_A: 13_motion_axes. -/
def Reg.MOTION_AX_CHOP_FREQ_A (a : Nat) : Fld := ⟨0x180060 + 256 * a, 16, 8, .ro, 0, false⟩

/-- MOTION.AX.CHOP.FREQ_B: 13_motion_axes. -/
def Reg.MOTION_AX_CHOP_FREQ_B (a : Nat) : Fld := ⟨0x180060 + 256 * a, 24, 8, .ro, 0, false⟩

/-- MOTION.AX.OFS.A: 13_motion_axes. -/
def Reg.MOTION_AX_OFS_A (a : Nat) : Fld := ⟨0x180064 + 256 * a, 0, 16, .ro, 0, false⟩

/-- MOTION.AX.OFS.B: 13_motion_axes. -/
def Reg.MOTION_AX_OFS_B (a : Nat) : Fld := ⟨0x180064 + 256 * a, 16, 16, .ro, 0, false⟩

/-- MOTION.AX.TABLE.ACTIVE_SET: 13_motion_axes. -/
def Reg.MOTION_AX_TABLE_ACTIVE_SET (a : Nat) : Fld := ⟨0x180068 + 256 * a, 0, 1, .ro, 0, false⟩

/-- MOTION.AX.TABLE.RUNNING: 13_motion_axes. -/
def Reg.MOTION_AX_TABLE_RUNNING (a : Nat) : Fld := ⟨0x180068 + 256 * a, 1, 1, .ro, 0, false⟩

/-- MOTION.AX.TABLE.SHADOW: 13_motion_axes. -/
def Reg.MOTION_AX_TABLE_SHADOW (a : Nat) : Fld := ⟨0x180068 + 256 * a, 2, 2, .ro, 0, false⟩

/-- MOTION.AX.TABLE.SEGMENT: 13_motion_axes. -/
def Reg.MOTION_AX_TABLE_SEGMENT (a : Nat) : Fld := ⟨0x180068 + 256 * a, 8, 8, .ro, 0, false⟩

/-- MOTION.AX.TABLE.LAST: 13_motion_axes. -/
def Reg.MOTION_AX_TABLE_LAST (a : Nat) : Fld := ⟨0x180068 + 256 * a, 16, 8, .ro, 0, false⟩

/-- MOTION.AX.TABLE_COMMIT.LAST_INDEX: 13_motion_axes. -/
def Reg.MOTION_AX_TABLE_COMMIT_LAST_INDEX (a : Nat) : Fld := ⟨0x18006C + 256 * a, 0, 8, .rw, 0, false⟩

/-- MOTION.AX.TABLE_COMMIT.GO: 13_motion_axes. R298 -/
def Reg.MOTION_AX_TABLE_COMMIT_GO (a : Nat) : Fld := ⟨0x18006C + 256 * a, 31, 1, .wo, 0, false⟩

/-- MOTION.AX.COUNTS.STALLS: 13_motion_axes. -/
def Reg.MOTION_AX_COUNTS_STALLS (a : Nat) : Fld := ⟨0x180070 + 256 * a, 0, 16, .ro, 0, true⟩

/-- MOTION.AX.COUNTS.LONG_CYCLES: 13_motion_axes. R286 -/
def Reg.MOTION_AX_COUNTS_LONG_CYCLES (a : Nat) : Fld := ⟨0x180070 + 256 * a, 16, 16, .ro, 0, true⟩

/-- MOTION.SW.CTRL.EDGE: 13_motion_axes. R308 -/
def Reg.MOTION_SW_CTRL_EDGE (s : Nat) : Fld := ⟨0x180800 + 128 * s, 0, 1, .rw, 0, false⟩

/-- MOTION.SW.CTRL.LATCH_SRC: 13_motion_axes. -/
def Reg.MOTION_SW_CTRL_LATCH_SRC (s : Nat) : Fld := ⟨0x180800 + 128 * s, 1, 3, .rw, 0, false⟩

/-- MOTION.SW.CTRL.STOP_MASK: 13_motion_axes. R310 -/
def Reg.MOTION_SW_CTRL_STOP_MASK (s : Nat) : Fld := ⟨0x180800 + 128 * s, 4, 4, .rw, 0, false⟩

/-- MOTION.SW.CTRL.STOP_MODE: 13_motion_axes. R310 -/
def Reg.MOTION_SW_CTRL_STOP_MODE (s : Nat) : Fld := ⟨0x180800 + 128 * s, 8, 1, .rw, 0, false⟩

/-- MOTION.SW.CTRL.STUCK_MS: 13_motion_axes. R309 -/
def Reg.MOTION_SW_CTRL_STUCK_MS (s : Nat) : Fld := ⟨0x180800 + 128 * s, 16, 16, .rw, 1000, false⟩

/-- MOTION.SW.STATUS.LEVEL: 13_motion_axes. -/
def Reg.MOTION_SW_STATUS_LEVEL (s : Nat) : Fld := ⟨0x180804 + 128 * s, 0, 1, .ro, 0, false⟩

/-- MOTION.SW.STATUS.ARMED: 13_motion_axes. R309 -/
def Reg.MOTION_SW_STATUS_ARMED (s : Nat) : Fld := ⟨0x180804 + 128 * s, 1, 1, .ro, 1, false⟩

/-- MOTION.SW.STATUS.LATCHED: 13_motion_axes. R308 -/
def Reg.MOTION_SW_STATUS_LATCHED (s : Nat) : Fld := ⟨0x180804 + 128 * s, 2, 1, .w1c, 0, false⟩

/-- MOTION.SW.STATUS.STUCK: 13_motion_axes. R309 -/
def Reg.MOTION_SW_STATUS_STUCK (s : Nat) : Fld := ⟨0x180804 + 128 * s, 3, 1, .w1c, 0, false⟩

/-- MOTION.SW.STATUS.ENC_INVALID: 13_motion_axes. R308 -/
def Reg.MOTION_SW_STATUS_ENC_INVALID (s : Nat) : Fld := ⟨0x180804 + 128 * s, 8, 4, .ro, 0, false⟩

/-- MOTION.SW.LATCHES.VALUE: 13_motion_axes. -/
def Reg.MOTION_SW_LATCHES (s : Nat) : Fld := ⟨0x180808 + 128 * s, 0, 32, .ro, 0, true⟩

/-- MOTION.SW.CAP_TB1.VALUE: 13_motion_axes. -/
def Reg.MOTION_SW_CAP_TB1 (s : Nat) : Fld := ⟨0x18080C + 128 * s, 0, 32, .ro, 0, false⟩

/-- MOTION.SW.CAP_LO.VALUE: 13_motion_axes. -/
def Reg.MOTION_SW_CAP_LO (s : Nat) (k : Nat) : Fld := ⟨0x180810 + 128 * s + 8 * k, 0, 32, .ro, 0, false⟩

/-- MOTION.SW.CAP_HI.VALUE: 13_motion_axes. -/
def Reg.MOTION_SW_CAP_HI (s : Nat) (k : Nat) : Fld := ⟨0x180814 + 128 * s + 8 * k, 0, 32, .ro, 0, false⟩

/-- DMA.CH.ACTIVE.VALUE: 14_dma. R314 -/
def Reg.DMA_CH_ACTIVE (n : Nat) (w : Nat) : Fld := ⟨0xA0000 + 128 * n + 4 * w, 0, 32, .ro, 0, false⟩

/-- DMA.CH.SHADOW.VALUE: 14_dma. -/
def Reg.DMA_CH_SHADOW (n : Nat) (w : Nat) : Fld := ⟨0xA0020 + 128 * n + 4 * w, 0, 32, .rwf, 0, false⟩

/-- DMA.CH.STATUS.RUNNING: 14_dma. -/
def Reg.DMA_CH_STATUS_RUNNING (n : Nat) : Fld := ⟨0xA0040 + 128 * n, 0, 1, .ro, 0, false⟩

/-- DMA.CH.STATUS.SHADOW: 14_dma. -/
def Reg.DMA_CH_STATUS_SHADOW (n : Nat) : Fld := ⟨0xA0040 + 128 * n, 1, 1, .ro, 0, false⟩

/-- DMA.CH.STATUS.ERROR: 14_dma. R324 -/
def Reg.DMA_CH_STATUS_ERROR (n : Nat) : Fld := ⟨0xA0040 + 128 * n, 2, 1, .w1c, 0, false⟩

/-- DMA.CH.STATUS.THROTTLED: 14_dma. -/
def Reg.DMA_CH_STATUS_THROTTLED (n : Nat) : Fld := ⟨0xA0040 + 128 * n, 3, 1, .ro, 0, false⟩

/-- DMA.CH.STATUS.IN_FLIGHT: 14_dma. -/
def Reg.DMA_CH_STATUS_IN_FLIGHT (n : Nat) : Fld := ⟨0xA0040 + 128 * n, 4, 4, .ro, 0, false⟩

/-- DMA.CH.COMMIT.GO: 14_dma. -/
def Reg.DMA_CH_COMMIT_GO (n : Nat) : Fld := ⟨0xA0044 + 128 * n, 31, 1, .wo, 0, false⟩

/-- DMA.CH.DONE_LO.VALUE: 14_dma. -/
def Reg.DMA_CH_DONE_LO (n : Nat) : Fld := ⟨0xA0048 + 128 * n, 0, 32, .ro, 0, false⟩

/-- DMA.CH.DONE_HI.VALUE: 14_dma. -/
def Reg.DMA_CH_DONE_HI (n : Nat) : Fld := ⟨0xA004C + 128 * n, 0, 8, .ro, 0, false⟩

/-- DMA.CH.REQ.CREDITS: 14_dma. R317 -/
def Reg.DMA_CH_REQ_CREDITS (n : Nat) : Fld := ⟨0xA0050 + 128 * n, 0, 8, .ro, 0, false⟩

/-- DMA.CH.REQ.OVERRUN: 14_dma. R317 -/
def Reg.DMA_CH_REQ_OVERRUN (n : Nat) : Fld := ⟨0xA0050 + 128 * n, 16, 16, .ro, 0, true⟩

/-- DMA.CH.PASSES.VALUE: 14_dma. -/
def Reg.DMA_CH_PASSES (n : Nat) : Fld := ⟨0xA0054 + 128 * n, 0, 32, .ro, 0, true⟩

/-- DMA.BUSY.CHANNELS: 14_dma. -/
def Reg.DMA_BUSY_CHANNELS : Fld := ⟨0xA1000, 0, 32, .ro, 0, false⟩

/-- DMA.SHADOWED.CHANNELS: 14_dma. -/
def Reg.DMA_SHADOWED_CHANNELS : Fld := ⟨0xA1004, 0, 32, .ro, 0, false⟩

/-- PACK.SLOT.STATE.STATE: 15_compression. -/
def Reg.PACK_SLOT_STATE (s : Nat) : Fld := ⟨0xB0000 + 64 * s, 0, 2, .ro, 0, false⟩

/-- PACK.SLOT.STATE.UNPACK: 15_compression. -/
def Reg.PACK_SLOT_STATE_UNPACK (s : Nat) : Fld := ⟨0xB0000 + 64 * s, 2, 1, .ro, 0, false⟩

/-- PACK.SLOT.STATE.THROTTLED: 15_compression. R342 -/
def Reg.PACK_SLOT_STATE_THROTTLED (s : Nat) : Fld := ⟨0xB0000 + 64 * s, 3, 1, .ro, 0, false⟩

/-- PACK.SLOT.STATE.LEVEL: 15_compression. -/
def Reg.PACK_SLOT_STATE_LEVEL (s : Nat) : Fld := ⟨0xB0000 + 64 * s, 4, 4, .ro, 0, false⟩

/-- PACK.SLOT.STATE.TAG: 15_compression. -/
def Reg.PACK_SLOT_STATE_TAG (s : Nat) : Fld := ⟨0xB0000 + 64 * s, 16, 16, .ro, 0, false⟩

/-- PACK.SLOT.LAST.STATUS: 15_compression. -/
def Reg.PACK_SLOT_LAST_STATUS (s : Nat) : Fld := ⟨0xB0004 + 64 * s, 0, 16, .ro, 0, false⟩

/-- PACK.SLOT.SRC_LO.VALUE: 15_compression. -/
def Reg.PACK_SLOT_SRC_LO (s : Nat) : Fld := ⟨0xB0008 + 64 * s, 0, 32, .ro, 0, false⟩

/-- PACK.SLOT.SRC_HI.VALUE: 15_compression. -/
def Reg.PACK_SLOT_SRC_HI (s : Nat) : Fld := ⟨0xB000C + 64 * s, 0, 8, .ro, 0, false⟩

/-- PACK.SLOT.DST_LO.VALUE: 15_compression. -/
def Reg.PACK_SLOT_DST_LO (s : Nat) : Fld := ⟨0xB0010 + 64 * s, 0, 32, .ro, 0, false⟩

/-- PACK.SLOT.DST_HI.VALUE: 15_compression. -/
def Reg.PACK_SLOT_DST_HI (s : Nat) : Fld := ⟨0xB0014 + 64 * s, 0, 8, .ro, 0, false⟩

/-- PACK.SLOT.SRC_LEN.VALUE: 15_compression. -/
def Reg.PACK_SLOT_SRC_LEN (s : Nat) : Fld := ⟨0xB0018 + 64 * s, 0, 32, .ro, 0, false⟩

/-- PACK.SLOT.DST_LEN.VALUE: 15_compression. -/
def Reg.PACK_SLOT_DST_LEN (s : Nat) : Fld := ⟨0xB001C + 64 * s, 0, 32, .ro, 0, false⟩

/-- PACK.SLOT.CONSUMED.VALUE: 15_compression. R335 -/
def Reg.PACK_SLOT_CONSUMED (s : Nat) : Fld := ⟨0xB0020 + 64 * s, 0, 32, .ro, 0, false⟩

/-- PACK.SLOT.PRODUCED.VALUE: 15_compression. R335 -/
def Reg.PACK_SLOT_PRODUCED (s : Nat) : Fld := ⟨0xB0024 + 64 * s, 0, 32, .ro, 0, false⟩

/-- PACK.SLOT.ORIG_LEN.VALUE: 15_compression. -/
def Reg.PACK_SLOT_ORIG_LEN (s : Nat) : Fld := ⟨0xB0028 + 64 * s, 0, 32, .ro, 0, false⟩

/-- PACK.JOBS_OK.COUNT: 15_compression. -/
def Reg.PACK_JOBS_OK_COUNT : Fld := ⟨0xB0400, 0, 32, .ro, 0, true⟩

/-- PACK.NOT_SMALLER.COUNT: 15_compression. R336 -/
def Reg.PACK_NOT_SMALLER_COUNT : Fld := ⟨0xB0404, 0, 32, .ro, 0, true⟩

/-- PACK.STREAM_ERRORS.COUNT: 15_compression. R339 R340 -/
def Reg.PACK_STREAM_ERRORS_COUNT : Fld := ⟨0xB0408, 0, 32, .ro, 0, true⟩

/-- PACK.STOPS.COUNT: 15_compression. R337 -/
def Reg.PACK_STOPS_COUNT : Fld := ⟨0xB040C, 0, 32, .ro, 0, true⟩

/-- ZPHY.PORT.CONFIG.ENABLE: 16_link_physical. -/
def Reg.ZPHY_PORT_CONFIG_ENABLE (p : Nat) : Fld := ⟨0x190000 + 256 * p, 0, 1, .rw, 0, false⟩

/-- ZPHY.PORT.CONFIG.WIDTH: 16_link_physical. -/
def Reg.ZPHY_PORT_CONFIG_WIDTH (p : Nat) : Fld := ⟨0x190000 + 256 * p, 1, 2, .rw, 0, false⟩

/-- ZPHY.PORT.CONFIG.RATE: 16_link_physical. -/
def Reg.ZPHY_PORT_CONFIG_RATE (p : Nat) : Fld := ⟨0x190000 + 256 * p, 4, 2, .rw, 0, false⟩

/-- ZPHY.PORT.CONFIG.RESTART: 16_link_physical. R360 -/
def Reg.ZPHY_PORT_CONFIG_RESTART (p : Nat) : Fld := ⟨0x190000 + 256 * p, 31, 1, .wo, 0, false⟩

/-- ZPHY.PORT.EQ.PRE: 16_link_physical. R355 -/
def Reg.ZPHY_PORT_EQ_PRE (p : Nat) : Fld := ⟨0x190004 + 256 * p, 0, 4, .rw, 3, false⟩

/-- ZPHY.PORT.EQ.MAIN: 16_link_physical. -/
def Reg.ZPHY_PORT_EQ_MAIN (p : Nat) : Fld := ⟨0x190004 + 256 * p, 8, 6, .rw, 48, false⟩

/-- ZPHY.PORT.EQ.POST: 16_link_physical. -/
def Reg.ZPHY_PORT_EQ_POST (p : Nat) : Fld := ⟨0x190004 + 256 * p, 16, 5, .rw, 12, false⟩

/-- ZPHY.PORT.STATUS.STATE: 16_link_physical. -/
def Reg.ZPHY_PORT_STATUS_STATE (p : Nat) : Fld := ⟨0x190008 + 256 * p, 0, 2, .ro, 0, false⟩

/-- ZPHY.PORT.STATUS.WIDTH_USED: 16_link_physical. -/
def Reg.ZPHY_PORT_STATUS_WIDTH_USED (p : Nat) : Fld := ⟨0x190008 + 256 * p, 2, 2, .ro, 0, false⟩

/-- ZPHY.PORT.STATUS.RATE_USED: 16_link_physical. -/
def Reg.ZPHY_PORT_STATUS_RATE_USED (p : Nat) : Fld := ⟨0x190008 + 256 * p, 4, 2, .ro, 0, false⟩

/-- ZPHY.PORT.STATUS.IDLE: 16_link_physical. R363 -/
def Reg.ZPHY_PORT_STATUS_IDLE (p : Nat) : Fld := ⟨0x190008 + 256 * p, 6, 1, .ro, 0, false⟩

/-- ZPHY.PORT.STATUS.WIDTH_MISMATCH: 16_link_physical. -/
def Reg.ZPHY_PORT_STATUS_WIDTH_MISMATCH (p : Nat) : Fld := ⟨0x190008 + 256 * p, 7, 1, .ro, 0, false⟩

/-- ZPHY.PORT.STATUS.LANE_ORDER: 16_link_physical. -/
def Reg.ZPHY_PORT_STATUS_LANE_ORDER (p : Nat) : Fld := ⟨0x190008 + 256 * p, 8, 1, .ro, 0, false⟩

/-- ZPHY.PORT.STATUS.SKEW_ERR: 16_link_physical. R362 -/
def Reg.ZPHY_PORT_STATUS_SKEW_ERR (p : Nat) : Fld := ⟨0x190008 + 256 * p, 9, 1, .ro, 0, false⟩

/-- ZPHY.PORT.STATUS.LOCKED: 16_link_physical. -/
def Reg.ZPHY_PORT_STATUS_LOCKED (p : Nat) : Fld := ⟨0x190008 + 256 * p, 16, 4, .ro, 0, false⟩

/-- ZPHY.PORT.STATUS.SEEN_RX: 16_link_physical. -/
def Reg.ZPHY_PORT_STATUS_SEEN_RX (p : Nat) : Fld := ⟨0x190008 + 256 * p, 20, 4, .ro, 0, false⟩

/-- ZPHY.PORT.STATUS.LAST_CAUSE: 16_link_physical. -/
def Reg.ZPHY_PORT_STATUS_LAST_CAUSE (p : Nat) : Fld := ⟨0x190008 + 256 * p, 24, 3, .ro, 0, false⟩

/-- ZPHY.PORT.UPS.COUNT: 16_link_physical. -/
def Reg.ZPHY_PORT_UPS_COUNT (p : Nat) : Fld := ⟨0x19000C + 256 * p, 0, 32, .ro, 0, true⟩

/-- ZPHY.PORT.DOWNS.COUNT: 16_link_physical. -/
def Reg.ZPHY_PORT_DOWNS_COUNT (p : Nat) : Fld := ⟨0x190010 + 256 * p, 0, 32, .ro, 0, true⟩

/-- ZPHY.PORT.UP_TIME.NS: 16_link_physical. -/
def Reg.ZPHY_PORT_UP_TIME_NS (p : Nat) : Fld := ⟨0x190014 + 256 * p, 0, 32, .ro, 0, true⟩

/-- ZPHY.LANE.STATUS.BIT_LOCK: 16_link_physical. -/
def Reg.ZPHY_LANE_STATUS_BIT_LOCK (l : Nat) : Fld := ⟨0x190800 + 64 * l, 0, 1, .ro, 0, false⟩

/-- ZPHY.LANE.STATUS.MARKER_LOCK: 16_link_physical. R357 -/
def Reg.ZPHY_LANE_STATUS_MARKER_LOCK (l : Nat) : Fld := ⟨0x190800 + 64 * l, 1, 1, .ro, 0, false⟩

/-- ZPHY.LANE.STATUS.POL_INV: 16_link_physical. R351 -/
def Reg.ZPHY_LANE_STATUS_POL_INV (l : Nat) : Fld := ⟨0x190800 + 64 * l, 2, 1, .ro, 0, false⟩

/-- ZPHY.LANE.STATUS.SEEN_RX: 16_link_physical. -/
def Reg.ZPHY_LANE_STATUS_SEEN_RX (l : Nat) : Fld := ⟨0x190800 + 64 * l, 3, 1, .ro, 0, false⟩

/-- ZPHY.LANE.STATUS.IDLE_RX: 16_link_physical. -/
def Reg.ZPHY_LANE_STATUS_IDLE_RX (l : Nat) : Fld := ⟨0x190800 + 64 * l, 4, 1, .ro, 0, false⟩

/-- ZPHY.LANE.STATUS.ACTIVITY: 16_link_physical. -/
def Reg.ZPHY_LANE_STATUS_ACTIVITY (l : Nat) : Fld := ⟨0x190800 + 64 * l, 5, 1, .ro, 0, false⟩

/-- ZPHY.LANE.STATUS.LANE_RX: 16_link_physical. -/
def Reg.ZPHY_LANE_STATUS_LANE_RX (l : Nat) : Fld := ⟨0x190800 + 64 * l, 6, 2, .ro, 0, false⟩

/-- ZPHY.LANE.STATUS.SKEW: 16_link_physical. R362 -/
def Reg.ZPHY_LANE_STATUS_SKEW (l : Nat) : Fld := ⟨0x190800 + 64 * l, 16, 9, .ro, 0, false⟩

/-- ZPHY.LANE.MARKER_ERR.COUNT: 16_link_physical. -/
def Reg.ZPHY_LANE_MARKER_ERR_COUNT (l : Nat) : Fld := ⟨0x190804 + 64 * l, 0, 32, .ro, 0, true⟩

/-- ZPHY.LANE.STUFF_ERR.COUNT: 16_link_physical. R354 -/
def Reg.ZPHY_LANE_STUFF_ERR_COUNT (l : Nat) : Fld := ⟨0x190808 + 64 * l, 0, 32, .ro, 0, true⟩

/-- ZPHY.LANE.SEED_ERR.COUNT: 16_link_physical. R350 -/
def Reg.ZPHY_LANE_SEED_ERR_COUNT (l : Nat) : Fld := ⟨0x19080C + 64 * l, 0, 32, .ro, 0, true⟩

/-- ZPHY.LANE.PAD_MAX.BITS: 16_link_physical. -/
def Reg.ZPHY_LANE_PAD_MAX_BITS (l : Nat) : Fld := ⟨0x190810 + 64 * l, 0, 10, .ro, 0, false⟩

/-- ZPHY.LANE.STUFFS.COUNT: 16_link_physical. -/
def Reg.ZPHY_LANE_STUFFS_COUNT (l : Nat) : Fld := ⟨0x190814 + 64 * l, 0, 32, .ro, 0, true⟩

/-- ZPHY.REFCLK.OK: 16_link_physical. R346 -/
def Reg.ZPHY_REFCLK_OK : Fld := ⟨0x191000, 0, 1, .ro, 0, false⟩

/-- ZPHY.REFCLK.LOST: 16_link_physical. -/
def Reg.ZPHY_REFCLK_LOST : Fld := ⟨0x191000, 1, 1, .w1c, 0, false⟩

/-- ZPHY.REFCLK.FREQ_PPM: 16_link_physical. -/
def Reg.ZPHY_REFCLK_FREQ_PPM : Fld := ⟨0x191000, 16, 16, .ro, 0, false⟩

/-- ZLINK.PORT.CFG.REPLAY_TIMEOUT_US: 17_link_transactions. R371 R372 -/
def Reg.ZLINK_PORT_CFG_REPLAY_TIMEOUT_US (p : Nat) : Fld := ⟨0x1A0000 + 256 * p, 0, 8, .rw, 20, false⟩

/-- ZLINK.PORT.CFG.REPLAY_LIMIT: 17_link_transactions. R375 -/
def Reg.ZLINK_PORT_CFG_REPLAY_LIMIT (p : Nat) : Fld := ⟨0x1A0000 + 256 * p, 8, 4, .rw, 4, false⟩

/-- ZLINK.PORT.STATUS.LL_STATE: 17_link_transactions. -/
def Reg.ZLINK_PORT_STATUS_LL_STATE (p : Nat) : Fld := ⟨0x1A0004 + 256 * p, 0, 2, .ro, 0, false⟩

/-- ZLINK.PORT.STATUS.PAIR: 17_link_transactions. R380 -/
def Reg.ZLINK_PORT_STATUS_PAIR (p : Nat) : Fld := ⟨0x1A0004 + 256 * p, 2, 1, .ro, 0, false⟩

/-- ZLINK.PORT.STATUS.PEER_HOST: 17_link_transactions. -/
def Reg.ZLINK_PORT_STATUS_PEER_HOST (p : Nat) : Fld := ⟨0x1A0004 + 256 * p, 3, 1, .ro, 0, false⟩

/-- ZLINK.PORT.STATUS.PEER_ID: 17_link_transactions. -/
def Reg.ZLINK_PORT_STATUS_PEER_ID (p : Nat) : Fld := ⟨0x1A0004 + 256 * p, 8, 8, .ro, 255, false⟩

/-- ZLINK.PORT.STATUS.LL_CAUSE: 17_link_transactions. R375 -/
def Reg.ZLINK_PORT_STATUS_LL_CAUSE (p : Nat) : Fld := ⟨0x1A0004 + 256 * p, 16, 3, .ro, 0, false⟩

/-- ZLINK.PORT.STATUS.PEER_FW: 17_link_transactions. -/
def Reg.ZLINK_PORT_STATUS_PEER_FW (p : Nat) : Fld := ⟨0x1A0004 + 256 * p, 24, 8, .ro, 0, false⟩

/-- ZLINK.PORT.CRC_ERRORS.COUNT: 17_link_transactions. R368 -/
def Reg.ZLINK_PORT_CRC_ERRORS_COUNT (p : Nat) : Fld := ⟨0x1A0008 + 256 * p, 0, 32, .ro, 0, true⟩

/-- ZLINK.PORT.REPLAYS.COUNT: 17_link_transactions. R372 -/
def Reg.ZLINK_PORT_REPLAYS_COUNT (p : Nat) : Fld := ⟨0x1A000C + 256 * p, 0, 32, .ro, 0, true⟩

/-- ZLINK.PORT.NAKS_SENT.COUNT: 17_link_transactions. R371 -/
def Reg.ZLINK_PORT_NAKS_SENT_COUNT (p : Nat) : Fld := ⟨0x1A0010 + 256 * p, 0, 32, .ro, 0, true⟩

/-- ZLINK.PORT.TIMEOUTS.COUNT: 17_link_transactions. R372 -/
def Reg.ZLINK_PORT_TIMEOUTS_COUNT (p : Nat) : Fld := ⟨0x1A0014 + 256 * p, 0, 32, .ro, 0, true⟩

/-- ZLINK.PORT.DISCARDS.COUNT: 17_link_transactions. R378 R379 R380 R387 -/
def Reg.ZLINK_PORT_DISCARDS_COUNT (p : Nat) : Fld := ⟨0x1A0018 + 256 * p, 0, 32, .ro, 0, true⟩

/-- ZLINK.PORT.MEMWR_REFUSED.COUNT: 17_link_transactions. R381 -/
def Reg.ZLINK_PORT_MEMWR_REFUSED_COUNT (p : Nat) : Fld := ⟨0x1A001C + 256 * p, 0, 32, .ro, 0, true⟩

/-- ZLINK.PORT.TX_FLITS.COUNT: 17_link_transactions. -/
def Reg.ZLINK_PORT_TX_FLITS_COUNT (p : Nat) : Fld := ⟨0x1A0020 + 256 * p, 0, 32, .ro, 0, true⟩

/-- ZLINK.PORT.RX_FLITS.COUNT: 17_link_transactions. -/
def Reg.ZLINK_PORT_RX_FLITS_COUNT (p : Nat) : Fld := ⟨0x1A0024 + 256 * p, 0, 32, .ro, 0, true⟩

/-- ZLINK.PORT.UNACKED.FLITS: 17_link_transactions. -/
def Reg.ZLINK_PORT_UNACKED_FLITS (p : Nat) : Fld := ⟨0x1A0028 + 256 * p, 0, 9, .ro, 0, false⟩

/-- ZLINK.PORT.PEER_CREDITS.P: 17_link_transactions. -/
def Reg.ZLINK_PORT_PEER_CREDITS_P (p : Nat) : Fld := ⟨0x1A002C + 256 * p, 0, 8, .ro, 0, false⟩

/-- ZLINK.PORT.PEER_CREDITS.N: 17_link_transactions. -/
def Reg.ZLINK_PORT_PEER_CREDITS_N (p : Nat) : Fld := ⟨0x1A002C + 256 * p, 8, 8, .ro, 0, false⟩

/-- ZLINK.PORT.PEER_CREDITS.C: 17_link_transactions. -/
def Reg.ZLINK_PORT_PEER_CREDITS_C (p : Nat) : Fld := ⟨0x1A002C + 256 * p, 16, 8, .ro, 0, false⟩

/-- ZLINK.CKPT_STATUS.CURRENT_HALF: 17_link_transactions. -/
def Reg.ZLINK_CKPT_STATUS_CURRENT_HALF : Fld := ⟨0x1A0800, 0, 1, .ro, 0, false⟩

/-- ZLINK.CKPT_STATUS.VALID: 17_link_transactions. -/
def Reg.ZLINK_CKPT_STATUS_VALID : Fld := ⟨0x1A0800, 1, 1, .ro, 0, false⟩

/-- ZLINK.CKPT_STATUS.RECEIVING: 17_link_transactions. -/
def Reg.ZLINK_CKPT_STATUS_RECEIVING : Fld := ⟨0x1A0800, 2, 1, .ro, 0, false⟩

/-- ZLINK.CKPT_SEQ.VALUE: 17_link_transactions. -/
def Reg.ZLINK_CKPT_SEQ : Fld := ⟨0x1A0804, 0, 32, .ro, 0, false⟩

/-- ZLINK.CKPT_ERRORS.COUNT: 17_link_transactions. R387 -/
def Reg.ZLINK_CKPT_ERRORS_COUNT : Fld := ⟨0x1A0808, 0, 32, .ro, 0, true⟩

/-- HIER.ID.ID: 18_hierarchy. -/
def Reg.HIER_ID : Fld := ⟨0x1B0000, 0, 8, .ro, 255, false⟩

/-- HIER.ID.MANAGER: 18_hierarchy. -/
def Reg.HIER_ID_MANAGER : Fld := ⟨0x1B0000, 8, 1, .ro, 0, false⟩

/-- HIER.ID.PATH: 18_hierarchy. R391 -/
def Reg.HIER_ID_PATH : Fld := ⟨0x1B0000, 9, 1, .ro, 0, false⟩

/-- HIER.PARENT.ID: 18_hierarchy. -/
def Reg.HIER_PARENT_ID : Fld := ⟨0x1B0004, 0, 8, .ro, 255, false⟩

/-- HIER.PARENT.PORT: 18_hierarchy. -/
def Reg.HIER_PARENT_PORT : Fld := ⟨0x1B0004, 8, 2, .ro, 0, false⟩

/-- HIER.WEIGHTS.SELF: 18_hierarchy. R397 -/
def Reg.HIER_WEIGHTS_SELF : Fld := ⟨0x1B0008, 0, 8, .ro, 1, false⟩

/-- HIER.WEIGHTS.ZP1: 18_hierarchy. -/
def Reg.HIER_WEIGHTS_ZP1 : Fld := ⟨0x1B0008, 8, 8, .ro, 0, false⟩

/-- HIER.WEIGHTS.ZP2: 18_hierarchy. -/
def Reg.HIER_WEIGHTS_ZP2 : Fld := ⟨0x1B0008, 16, 8, .ro, 0, false⟩

/-- HIER.WEIGHTS.ZP3: 18_hierarchy. -/
def Reg.HIER_WEIGHTS_ZP3 : Fld := ⟨0x1B0008, 24, 8, .ro, 0, false⟩

/-- HIER.BEACON.PERIOD_US: 18_hierarchy. R399 -/
def Reg.HIER_BEACON_PERIOD_US : Fld := ⟨0x1B000C, 0, 16, .rw, 1000, false⟩

/-- HIER.BEACON.LINE_EN: 18_hierarchy. -/
def Reg.HIER_BEACON_LINE_EN : Fld := ⟨0x1B000C, 16, 1, .rw, 0, false⟩

/-- HIER.BEACON.LINE_ENC: 18_hierarchy. -/
def Reg.HIER_BEACON_LINE_ENC : Fld := ⟨0x1B000C, 17, 2, .rw, 0, false⟩

/-- HIER.LINE_DIFF.VALUE: 18_hierarchy. R400 -/
def Reg.HIER_LINE_DIFF : Fld := ⟨0x1B0010, 0, 32, .ro, 0, false⟩

/-- HIER.LINE_TOL.VALUE: 18_hierarchy. -/
def Reg.HIER_LINE_TOL : Fld := ⟨0x1B0014, 0, 16, .rw, 4, false⟩

/-- HIER.STATUS.LINE_MISMATCH: 18_hierarchy. R400 -/
def Reg.HIER_STATUS_LINE_MISMATCH : Fld := ⟨0x1B0018, 0, 1, .w1c, 0, false⟩

/-- HIER.STATUS.DUP_ID: 18_hierarchy. R395 -/
def Reg.HIER_STATUS_DUP_ID : Fld := ⟨0x1B0018, 1, 1, .w1c, 0, false⟩

/-- HIER.STATUS.NODES: 18_hierarchy. -/
def Reg.HIER_STATUS_NODES : Fld := ⟨0x1B0018, 8, 6, .ro, 0, false⟩

/-- HIER.BEACONS_RX.COUNT: 18_hierarchy. -/
def Reg.HIER_BEACONS_RX_COUNT : Fld := ⟨0x1B001C, 0, 32, .ro, 0, true⟩

/-- HIER.NODE.ENTRY: 18_hierarchy. -/
def Reg.HIER_NODE_ENTRY (i : Nat) : Fld := ⟨0x1B0100 + 4 * i, 0, 32, .ro, 4294967295, false⟩

/-- PAIR.CTRL.ENABLE: 19_redundant_pair. R406 -/
def Reg.PAIR_CTRL_ENABLE : Fld := ⟨0x1C0000, 0, 1, .rw, 0, false⟩

/-- PAIR.CTRL.WIRE: 19_redundant_pair. -/
def Reg.PAIR_CTRL_WIRE : Fld := ⟨0x1C0000, 1, 1, .rw, 1, false⟩

/-- PAIR.CTRL.MSG: 19_redundant_pair. -/
def Reg.PAIR_CTRL_MSG : Fld := ⟨0x1C0000, 2, 1, .rw, 1, false⟩

/-- PAIR.STATUS.ROLE: 19_redundant_pair. -/
def Reg.PAIR_STATUS_ROLE : Fld := ⟨0x1C0004, 0, 2, .ro, 0, false⟩

/-- PAIR.STATUS.STATE: 19_redundant_pair. -/
def Reg.PAIR_STATUS_STATE : Fld := ⟨0x1C0004, 2, 2, .ro, 0, false⟩

/-- PAIR.STATUS.PARTNER: 19_redundant_pair. R407 -/
def Reg.PAIR_STATUS_PARTNER : Fld := ⟨0x1C0004, 4, 2, .ro, 0, false⟩

/-- PAIR.STATUS.STRINGS_OK: 19_redundant_pair. R415 -/
def Reg.PAIR_STATUS_STRINGS_OK : Fld := ⟨0x1C0004, 6, 2, .ro, 0, false⟩

/-- PAIR.STATUS.SIDE: 19_redundant_pair. R402 -/
def Reg.PAIR_STATUS_SIDE : Fld := ⟨0x1C0004, 8, 1, .ro, 0, false⟩

/-- PAIR.STATUS.ILK_OUT: 19_redundant_pair. -/
def Reg.PAIR_STATUS_ILK_OUT : Fld := ⟨0x1C0004, 9, 1, .ro, 0, false⟩

/-- PAIR.STATUS.ILK_IN: 19_redundant_pair. -/
def Reg.PAIR_STATUS_ILK_IN : Fld := ⟨0x1C0004, 10, 1, .ro, 0, false⟩

/-- PAIR.STATUS.HWDOG: 19_redundant_pair. R404 -/
def Reg.PAIR_STATUS_HWDOG : Fld := ⟨0x1C0004, 11, 1, .ro, 0, false⟩

/-- PAIR.STATUS.SIDE_CLASH: 19_redundant_pair. R403 -/
def Reg.PAIR_STATUS_SIDE_CLASH : Fld := ⟨0x1C0004, 12, 1, .w1c, 0, false⟩

/-- PAIR.GAP_START_LO.VALUE: 19_redundant_pair. R420 -/
def Reg.PAIR_GAP_START_LO : Fld := ⟨0x1C0008, 0, 32, .ro, 0, false⟩

/-- PAIR.GAP_START_HI.VALUE: 19_redundant_pair. R420 -/
def Reg.PAIR_GAP_START_HI : Fld := ⟨0x1C000C, 0, 32, .ro, 0, false⟩

/-- PAIR.GAP_END_LO.VALUE: 19_redundant_pair. R420 -/
def Reg.PAIR_GAP_END_LO : Fld := ⟨0x1C0010, 0, 32, .ro, 0, false⟩

/-- PAIR.GAP_END_HI.VALUE: 19_redundant_pair. R420 -/
def Reg.PAIR_GAP_END_HI : Fld := ⟨0x1C0014, 0, 32, .ro, 0, false⟩

/-- PAIR.DOZE.US: 19_redundant_pair. R413 -/
def Reg.PAIR_DOZE_US : Fld := ⟨0x1C0018, 0, 16, .rw, 1000, false⟩

/-- PAIR.COUNTS.TAKEOVERS: 19_redundant_pair. -/
def Reg.PAIR_COUNTS_TAKEOVERS : Fld := ⟨0x1C001C, 0, 16, .ro, 0, true⟩

/-- PAIR.COUNTS.STRING_FAULTS: 19_redundant_pair. -/
def Reg.PAIR_COUNTS_STRING_FAULTS : Fld := ⟨0x1C001C, 16, 16, .ro, 0, true⟩

/-- PAIR.ENC_OFFSET.VALUE: 19_redundant_pair. R411 -/
def Reg.PAIR_ENC_OFFSET (e : Nat) : Fld := ⟨0x1C0020 + 4 * e, 0, 32, .ro, 0, false⟩

/-- PAIR.RESYNC_DONE.BYTES: 19_redundant_pair. -/
def Reg.PAIR_RESYNC_DONE_BYTES : Fld := ⟨0x1C0030, 0, 32, .ro, 0, true⟩

/-- TIME.TB.S_LO.VALUE: 20_time_bases. R428 -/
def Reg.TIME_TB_S_LO (n : Nat) : Fld := ⟨0x40000 + 32 * n, 0, 32, .ro, 0, false⟩

/-- TIME.TB.S_HI.VALUE: 20_time_bases. -/
def Reg.TIME_TB_S_HI (n : Nat) : Fld := ⟨0x40004 + 32 * n, 0, 16, .ro, 0, false⟩

/-- TIME.TB.NS.VALUE: 20_time_bases. -/
def Reg.TIME_TB_NS (n : Nat) : Fld := ⟨0x40008 + 32 * n, 0, 30, .ro, 0, false⟩

/-- TIME.TB.RATE.PPB: 20_time_bases. -/
def Reg.TIME_TB_RATE_PPB (n : Nat) : Fld := ⟨0x4000C + 32 * n, 0, 32, .ro, 0, false⟩

/-- TIME.TB.SLEW_LEFT.NS: 20_time_bases. R427 -/
def Reg.TIME_TB_SLEW_LEFT_NS (n : Nat) : Fld := ⟨0x40010 + 32 * n, 0, 32, .ro, 0, true⟩

/-- TIME.CTRL.BEACON_SYNC: 20_time_bases. R429 -/
def Reg.TIME_CTRL_BEACON_SYNC : Fld := ⟨0x40100, 0, 1, .rw, 1, false⟩

/-- TIME.CTRL.FSHIFT: 20_time_bases. R429 -/
def Reg.TIME_CTRL_FSHIFT : Fld := ⟨0x40100, 1, 3, .rw, 4, false⟩

/-- TIME.STEP_NS.VALUE: 20_time_bases. R429 -/
def Reg.TIME_STEP_NS : Fld := ⟨0x40104, 0, 32, .rw, 1000000, false⟩

/-- TIME.BEACON_LAT_NS.VALUE: 20_time_bases. R430 -/
def Reg.TIME_BEACON_LAT_NS : Fld := ⟨0x40108, 0, 16, .rw, 500, false⟩

/-- TIME.BEACON_TIMEOUT_MS.VALUE: 20_time_bases. R431 -/
def Reg.TIME_BEACON_TIMEOUT_MS : Fld := ⟨0x4010C, 0, 16, .rw, 10, false⟩

/-- TIME.STATUS.UNSYNC: 20_time_bases. R431 -/
def Reg.TIME_STATUS_UNSYNC : Fld := ⟨0x40110, 0, 1, .ro, 1, false⟩

/-- TIME.STATUS.HOLDOVER: 20_time_bases. R431 -/
def Reg.TIME_STATUS_HOLDOVER : Fld := ⟨0x40110, 1, 1, .ro, 0, false⟩

/-- TIME.LAST_ERR.NS: 20_time_bases. R429 -/
def Reg.TIME_LAST_ERR_NS : Fld := ⟨0x40114, 0, 32, .ro, 0, false⟩

/-- TIME.STEPS.COUNT: 20_time_bases. -/
def Reg.TIME_STEPS_COUNT : Fld := ⟨0x40118, 0, 32, .ro, 0, true⟩

/-- TIME.TRIG.CTRL.TB: 20_time_bases. -/
def Reg.TIME_TRIG_CTRL_TB (t : Nat) : Fld := ⟨0x40200 + 32 * t, 0, 2, .ro, (if t = 4 then 1 else 0), false⟩

/-- TIME.TRIG.CTRL.ARMED: 20_time_bases. -/
def Reg.TIME_TRIG_CTRL_ARMED (t : Nat) : Fld := ⟨0x40200 + 32 * t, 2, 1, .ro, (if t = 4 then 1 else 0), false⟩

/-- TIME.TRIG.NEXT_S_LO.VALUE: 20_time_bases. -/
def Reg.TIME_TRIG_NEXT_S_LO (t : Nat) : Fld := ⟨0x40204 + 32 * t, 0, 32, .ro, 0, false⟩

/-- TIME.TRIG.NEXT_S_HI.VALUE: 20_time_bases. -/
def Reg.TIME_TRIG_NEXT_S_HI (t : Nat) : Fld := ⟨0x40208 + 32 * t, 0, 16, .ro, 0, false⟩

/-- TIME.TRIG.NEXT_NS.VALUE: 20_time_bases. -/
def Reg.TIME_TRIG_NEXT_NS (t : Nat) : Fld := ⟨0x4020C + 32 * t, 0, 30, .ro, (if t = 4 then 8000000 else 0), false⟩

/-- TIME.TRIG.PERIOD.NS: 20_time_bases. -/
def Reg.TIME_TRIG_PERIOD_NS (t : Nat) : Fld := ⟨0x40210 + 32 * t, 0, 32, .ro, (if t = 4 then 8000000 else 0), false⟩

/-- TIME.TRIG.FIRED.COUNT: 20_time_bases. -/
def Reg.TIME_TRIG_FIRED_COUNT (t : Nat) : Fld := ⟨0x40214 + 32 * t, 0, 32, .ro, 0, true⟩

/-- TIME.TRIG.MISSED.COUNT: 20_time_bases. R435 -/
def Reg.TIME_TRIG_MISSED_COUNT (t : Nat) : Fld := ⟨0x40218 + 32 * t, 0, 32, .ro, 0, true⟩

/-- THERM.SENSOR.USED: 21_thermal_calibration. R439 -/
def Reg.THERM_SENSOR_USED (i : Nat) : Fld := ⟨0x50000 + 4 * i, 0, 16, .ro, 0, false⟩

/-- THERM.SENSOR.RAW: 21_thermal_calibration. -/
def Reg.THERM_SENSOR_RAW (i : Nat) : Fld := ⟨0x50000 + 4 * i, 16, 16, .ro, 0, false⟩

/-- THERM.BROKEN.SENSORS: 21_thermal_calibration. R439 -/
def Reg.THERM_BROKEN_SENSORS : Fld := ⟨0x50060, 0, 20, .w1c, 0, false⟩

/-- THERM.STATUS.LEVEL: 21_thermal_calibration. R442 -/
def Reg.THERM_STATUS_LEVEL : Fld := ⟨0x50064, 0, 2, .ro, 0, false⟩

/-- THERM.STATUS.REF_FAULT: 21_thermal_calibration. R441 -/
def Reg.THERM_STATUS_REF_FAULT : Fld := ⟨0x50064, 2, 1, .w1c, 0, false⟩

/-- THERM.STATUS.HOTTEST: 21_thermal_calibration. -/
def Reg.THERM_STATUS_HOTTEST : Fld := ⟨0x50064, 8, 8, .ro, 0, false⟩

/-- THERM.STATUS.TJ: 21_thermal_calibration. -/
def Reg.THERM_STATUS_TJ : Fld := ⟨0x50064, 16, 16, .ro, 0, false⟩

/-- THERM.THRESH.WARN: 21_thermal_calibration. -/
def Reg.THERM_THRESH_WARN : Fld := ⟨0x50068, 0, 16, .rw, 1000, false⟩

/-- THERM.THRESH.THROTTLE: 21_thermal_calibration. -/
def Reg.THERM_THRESH_THROTTLE : Fld := ⟨0x50068, 16, 16, .rw, 1050, false⟩

/-- THERM.CRIT.VALUE: 21_thermal_calibration. -/
def Reg.THERM_CRIT : Fld := ⟨0x5006C, 0, 16, .ro, 1150, false⟩

/-- THERM.HYST.VALUE: 21_thermal_calibration. -/
def Reg.THERM_HYST : Fld := ⟨0x50070, 0, 8, .rw, 30, false⟩

/-- THERM.THROTTLE.STEP: 21_thermal_calibration. -/
def Reg.THERM_THROTTLE_STEP : Fld := ⟨0x50074, 0, 8, .rw, 26, false⟩

/-- THERM.THROTTLE.MAX: 21_thermal_calibration. -/
def Reg.THERM_THROTTLE_MAX : Fld := ⟨0x50074, 8, 8, .rw, 230, false⟩

/-- THERM.THROTTLE.P: 21_thermal_calibration. R443 -/
def Reg.THERM_THROTTLE_P : Fld := ⟨0x50074, 16, 8, .ro, 0, false⟩

/-- THERM.WSPD_CFG.TW_START: 21_thermal_calibration. -/
def Reg.THERM_WSPD_CFG_TW_START : Fld := ⟨0x50078, 0, 16, .rw, 1050, false⟩

/-- THERM.WSPD_CFG.TW_FLOOR: 21_thermal_calibration. -/
def Reg.THERM_WSPD_CFG_TW_FLOOR : Fld := ⟨0x50078, 16, 12, .rw, 1000, false⟩

/-- THERM.IRO_CORR.PPB: 21_thermal_calibration. R446 -/
def Reg.THERM_IRO_CORR_PPB : Fld := ⟨0x5007C, 0, 32, .ro, 0, false⟩

/-- THERM.ROUNDS.COUNT: 21_thermal_calibration. -/
def Reg.THERM_ROUNDS_COUNT : Fld := ⟨0x50080, 0, 16, .ro, 0, true⟩

/-- THERM.ROUNDS.LATE: 21_thermal_calibration. R438 -/
def Reg.THERM_ROUNDS_LATE : Fld := ⟨0x50080, 16, 16, .ro, 0, true⟩

/-- THERM.HK.VALUE: 21_thermal_calibration. R437 -/
def Reg.THERM_HK (j : Nat) : Fld := ⟨0x50100 + 4 * j, 0, 16, .ro, 0, false⟩

/-- CAL.CTRL.CAL_DT: 21_thermal_calibration. R450 -/
def Reg.CAL_CTRL_CAL_DT : Fld := ⟨0x60000, 0, 16, .rw, 50, false⟩

/-- CAL.STATUS.MEASURING: 21_thermal_calibration. -/
def Reg.CAL_STATUS_MEASURING : Fld := ⟨0x60004, 0, 4, .ro, 0, false⟩

/-- CAL.STATUS.STEPPING: 21_thermal_calibration. -/
def Reg.CAL_STATUS_STEPPING : Fld := ⟨0x60004, 4, 4, .ro, 0, false⟩

/-- CAL.T_RUNS.COUNT: 21_thermal_calibration. -/
def Reg.CAL_T_RUNS_COUNT (t : Nat) : Fld := ⟨0x60020 + 16 * t, 0, 32, .ro, 0, true⟩

/-- CAL.T_REJECTS.COUNT: 21_thermal_calibration. -/
def Reg.CAL_T_REJECTS_COUNT (t : Nat) : Fld := ⟨0x60024 + 16 * t, 0, 32, .ro, 0, true⟩

/-- CAL.T_LAST_REJECT.UNIT: 21_thermal_calibration. -/
def Reg.CAL_T_LAST_REJECT_UNIT (t : Nat) : Fld := ⟨0x60028 + 16 * t, 0, 8, .ro, 255, false⟩

/-- CAL.T_STEPS.COUNT: 21_thermal_calibration. -/
def Reg.CAL_T_STEPS_COUNT (t : Nat) : Fld := ⟨0x6002C + 16 * t, 0, 32, .ro, 0, true⟩

/-- OTP.ID_LO.VALUE: 22_otp_firmware_security. -/
def Reg.OTP_ID_LO : Fld := ⟨0x70000, 0, 32, .ro, 0, false⟩

/-- OTP.ID_HI.VALUE: 22_otp_firmware_security. -/
def Reg.OTP_ID_HI : Fld := ⟨0x70004, 0, 32, .ro, 0, false⟩

/-- OTP.STATUS.ACTIVE_GEN: 22_otp_firmware_security. R453 -/
def Reg.OTP_STATUS_ACTIVE_GEN : Fld := ⟨0x70008, 0, 2, .ro, 0, false⟩

/-- OTP.STATUS.RECORD_VALID: 22_otp_firmware_security. -/
def Reg.OTP_STATUS_RECORD_VALID : Fld := ⟨0x70008, 2, 1, .ro, 0, false⟩

/-- OTP.STATUS.USED: 22_otp_firmware_security. -/
def Reg.OTP_STATUS_USED : Fld := ⟨0x70008, 4, 4, .ro, 0, false⟩

/-- OTP.STATUS.KEY_SLOTS: 22_otp_firmware_security. -/
def Reg.OTP_STATUS_KEY_SLOTS : Fld := ⟨0x70008, 8, 2, .ro, 0, false⟩

/-- OTP.STATUS.LOCKS: 22_otp_firmware_security. -/
def Reg.OTP_STATUS_LOCKS : Fld := ⟨0x70008, 10, 3, .ro, 0, false⟩

/-- OTP.STATUS.SIGNED: 22_otp_firmware_security. R460 -/
def Reg.OTP_STATUS_SIGNED : Fld := ⟨0x70008, 13, 1, .ro, 0, false⟩

/-- OTP.RECORD.VALUE: 22_otp_firmware_security. -/
def Reg.OTP_RECORD (w : Nat) : Fld := ⟨0x70100 + 4 * w, 0, 32, .ro, 0, false⟩

/-- OTP.PATCH.ID: 22_otp_firmware_security. -/
def Reg.OTP_PATCH_ID : Fld := ⟨0x70200, 0, 16, .ro, 0, false⟩

/-- OTP.PATCH.ACTIVE: 22_otp_firmware_security. -/
def Reg.OTP_PATCH_ACTIVE : Fld := ⟨0x70200, 16, 1, .ro, 0, false⟩

/-- OTP.PATCH_FAILS.COUNT: 22_otp_firmware_security. R460 -/
def Reg.OTP_PATCH_FAILS_COUNT : Fld := ⟨0x70204, 0, 32, .ro, 0, true⟩

/-- LADDER.CTRL.AUTO_L1: 23_power_reset_ladder. R474 -/
def Reg.LADDER_CTRL_AUTO_L1 : Fld := ⟨0x10000, 0, 1, .rw, 1, false⟩

/-- LADDER.CTRL.IDLE_US: 23_power_reset_ladder. R474 -/
def Reg.LADDER_CTRL_IDLE_US : Fld := ⟨0x10000, 8, 8, .rw, 10, false⟩

/-- LADDER.STATE.STATE: 23_power_reset_ladder. -/
def Reg.LADDER_STATE : Fld := ⟨0x10004, 0, 3, .ro, 0, false⟩

/-- LADDER.STATE.VCORE_LOW: 23_power_reset_ladder. -/
def Reg.LADDER_STATE_VCORE_LOW : Fld := ⟨0x10004, 3, 1, .w1c, 0, false⟩

/-- LADDER.STATE.LAST_WAKE: 23_power_reset_ladder. -/
def Reg.LADDER_STATE_LAST_WAKE : Fld := ⟨0x10004, 8, 8, .ro, 255, false⟩

/-- LADDER.STATE.FROM: 23_power_reset_ladder. -/
def Reg.LADDER_STATE_FROM : Fld := ⟨0x10004, 16, 3, .ro, 0, false⟩

/-- LADDER.WAKE_CFG.WAKE_PORT: 23_power_reset_ladder. -/
def Reg.LADDER_WAKE_CFG_WAKE_PORT : Fld := ⟨0x10008, 0, 3, .ro, 0, false⟩

/-- LADDER.WAKE_CFG.SW_MASK: 23_power_reset_ladder. R476 -/
def Reg.LADDER_WAKE_CFG_SW_MASK : Fld := ⟨0x10008, 8, 8, .rw, 0, false⟩

/-- LADDER.WAKE_CFG.TRIG_MASK: 23_power_reset_ladder. R476 -/
def Reg.LADDER_WAKE_CFG_TRIG_MASK : Fld := ⟨0x10008, 16, 4, .rw, 0, false⟩

/-- LADDER.PMBUS_CFG.ENABLE: 23_power_reset_ladder. R472 -/
def Reg.LADDER_PMBUS_CFG_ENABLE : Fld := ⟨0x1000C, 0, 1, .rw, 1, false⟩

/-- LADDER.PMBUS_CFG.PEC: 23_power_reset_ladder. R469 -/
def Reg.LADDER_PMBUS_CFG_PEC : Fld := ⟨0x1000C, 1, 1, .rw, 0, false⟩

/-- LADDER.PMBUS_CFG.FAST: 23_power_reset_ladder. -/
def Reg.LADDER_PMBUS_CFG_FAST : Fld := ⟨0x1000C, 2, 1, .rw, 1, false⟩

/-- LADDER.PMBUS_CFG.ADDR: 23_power_reset_ladder. -/
def Reg.LADDER_PMBUS_CFG_ADDR : Fld := ⟨0x1000C, 8, 7, .rw, 64, false⟩

/-- LADDER.PMBUS_CFG.VSETTLE_US: 23_power_reset_ladder. R470 -/
def Reg.LADDER_PMBUS_CFG_VSETTLE_US : Fld := ⟨0x1000C, 16, 16, .rw, 50, false⟩

/-- LADDER.VCORE.REQ_MV: 23_power_reset_ladder. -/
def Reg.LADDER_VCORE_REQ_MV : Fld := ⟨0x10010, 0, 12, .ro, 0, false⟩

/-- LADDER.VCORE.MEAS_MV: 23_power_reset_ladder. -/
def Reg.LADDER_VCORE_MEAS_MV : Fld := ⟨0x10010, 16, 12, .ro, 0, false⟩

/-- LADDER.FLOOR.MV: 23_power_reset_ladder. R471 -/
def Reg.LADDER_FLOOR_MV : Fld := ⟨0x10014, 0, 12, .rw, 780, false⟩

/-- LADDER.PMBUS_STATUS.FAULT: 23_power_reset_ladder. R472 -/
def Reg.LADDER_PMBUS_STATUS_FAULT : Fld := ⟨0x10018, 0, 1, .w1c, 0, false⟩

/-- LADDER.PMBUS_STATUS.ERRORS: 23_power_reset_ladder. R472 -/
def Reg.LADDER_PMBUS_STATUS_ERRORS : Fld := ⟨0x10018, 16, 16, .ro, 0, true⟩

/-- LADDER.IOUT.CENTIAMPS: 23_power_reset_ladder. -/
def Reg.LADDER_IOUT_CENTIAMPS : Fld := ⟨0x1001C, 0, 16, .ro, 0, false⟩

/-- LADDER.RESET_CAUSE.POWER_ON: 23_power_reset_ladder. -/
def Reg.LADDER_RESET_CAUSE_POWER_ON : Fld := ⟨0x10020, 0, 1, .ro, 1, false⟩

/-- LADDER.RESET_CAUSE.PIN: 23_power_reset_ladder. -/
def Reg.LADDER_RESET_CAUSE_PIN : Fld := ⟨0x10020, 1, 1, .ro, 0, false⟩

/-- LADDER.RESET_CAUSE.PWRGOOD: 23_power_reset_ladder. R466 -/
def Reg.LADDER_RESET_CAUSE_PWRGOOD : Fld := ⟨0x10020, 2, 1, .ro, 0, false⟩

/-- LADDER.RESET_CAUSE.COMMAND: 23_power_reset_ladder. -/
def Reg.LADDER_RESET_CAUSE_COMMAND : Fld := ⟨0x10020, 3, 1, .ro, 0, false⟩

/-- LADDER.RESET_CAUSE.L4_EXIT: 23_power_reset_ladder. -/
def Reg.LADDER_RESET_CAUSE_L4_EXIT : Fld := ⟨0x10020, 4, 1, .ro, 0, false⟩

/-- LADDER.RESET_CAUSE.FW_RESTART: 23_power_reset_ladder. R502 -/
def Reg.LADDER_RESET_CAUSE_FW_RESTART : Fld := ⟨0x10020, 5, 1, .ro, 0, false⟩

/-- LADDER.WAKES.COUNT: 23_power_reset_ladder. -/
def Reg.LADDER_WAKES_COUNT : Fld := ⟨0x10024, 0, 32, .ro, 0, true⟩

/-- CAMRX.PORT.REC.WORD: 10_camera_pipeline. R218 -/
def Reg.CAMRX_PORT_REC_WORD (c : Nat) (w : Nat) : Fld := ⟨0x150000 + 256 * c + 4 * w, 0, 32, .rwf, (camRecordReset w), false⟩

/-- HEADPORT.GRP.PROFILE.WORD: 09_head_ports. R187 -/
def Reg.HEADPORT_GRP_PROFILE_WORD (g : Nat) (p : Nat) (w : Nat) : Fld := ⟨0x11D000 + 65536 * g + 64 * p + 4 * w, 0, 32, .ro, 0, false⟩

/-- MOTION.AX.CFG.WORD: 13_motion_axes. R311 -/
def Reg.MOTION_AX_CFG_WORD (a : Nat) (w : Nat) : Fld := ⟨0x180000 + 256 * a + 4 * w, 0, 32, .rw, (axisRecordReset w), false⟩

/-- A family of one field. -/
def fam0 (base : Nat) (f : Fld) (a : Nat) : Option Fld := if a = base then some f else none

/-- The unit that an offset from a base falls to, of `n` units `stride` apart, exactly at the unit's start. -/
def unitAt (n stride off : Nat) : Option Nat := if off % stride = 0 ∧ off / stride < n then some (off / stride) else none

/-- A family of fields, one per unit. -/
def fam1 (base n s : Nat) (f : Nat → Fld) (a : Nat) : Option Fld :=
  if a < base then none else (unitAt n s (a - base)).map f

/-- A family of fields over two indices, the first with the larger stride. -/
def fam2 (base n s m t : Nat) (f : Nat → Nat → Fld) (a : Nat) : Option Fld :=
  if a < base ∨ n ≤ (a - base) / s then none
  else (unitAt m t ((a - base) % s)).map (f ((a - base) / s))

/-- A family of fields over three indices. -/
def fam3 (base n s m t k u : Nat) (f : Nat → Nat → Nat → Fld) (a : Nat) : Option Fld :=
  if a < base ∨ n ≤ (a - base) / s then none
  else fam2 0 m t k u (f ((a - base) / s)) ((a - base) % s)

/-- Register block 0, families of its fields, part 0. -/
def famsOf0_0 : List (Nat → Option Fld) := [
  fam1 0x100 9 0x4 Reg.SYS_PACE_RATE,
  fam1 0x100 9 0x4 Reg.SYS_PACE_MIN,
  fam0 0x130 Reg.SYS_PACE_CTRL_CLR_MIN,
  fam0 0x130 Reg.SYS_PACE_CTRL_VREQ_EN,
  fam0 0x130 Reg.SYS_PACE_CTRL_MARGIN_LOW,
  fam0 0x134 Reg.SYS_PRINT_MARGIN_MARGIN,
  fam0 0x134 Reg.SYS_PRINT_MARGIN_PACE_CAP,
  fam0 0x138 Reg.SYS_CLK_STATUS_REFCLK_OK,
  fam0 0x138 Reg.SYS_CLK_STATUS_IRO_TIMING,
  fam0 0x138 Reg.SYS_CLK_STATUS_LOST,
  fam0 0x13C Reg.SYS_LINE_LATE_TOTAL_COUNT,
  fam0 0x200 Reg.SYS_GPIO_DIR_OUT_EN,
  fam0 0x204 Reg.SYS_GPIO_OUT_LEVEL,
  fam0 0x208 Reg.SYS_GPIO_IN_LEVEL]

/-- Register block 0. -/
def famsOf0 : List (Nat → Option Fld) := famsOf0_0

/-- Register block 1, families of its fields, part 0. -/
def famsOf1_0 : List (Nat → Option Fld) := [
  fam0 0x10000 Reg.LADDER_CTRL_AUTO_L1,
  fam0 0x10000 Reg.LADDER_CTRL_IDLE_US,
  fam0 0x10004 Reg.LADDER_STATE,
  fam0 0x10004 Reg.LADDER_STATE_VCORE_LOW,
  fam0 0x10004 Reg.LADDER_STATE_LAST_WAKE,
  fam0 0x10004 Reg.LADDER_STATE_FROM,
  fam0 0x10008 Reg.LADDER_WAKE_CFG_WAKE_PORT,
  fam0 0x10008 Reg.LADDER_WAKE_CFG_SW_MASK,
  fam0 0x10008 Reg.LADDER_WAKE_CFG_TRIG_MASK,
  fam0 0x1000C Reg.LADDER_PMBUS_CFG_ENABLE,
  fam0 0x1000C Reg.LADDER_PMBUS_CFG_PEC,
  fam0 0x1000C Reg.LADDER_PMBUS_CFG_FAST,
  fam0 0x1000C Reg.LADDER_PMBUS_CFG_ADDR,
  fam0 0x1000C Reg.LADDER_PMBUS_CFG_VSETTLE_US,
  fam0 0x10010 Reg.LADDER_VCORE_REQ_MV,
  fam0 0x10010 Reg.LADDER_VCORE_MEAS_MV,
  fam0 0x10014 Reg.LADDER_FLOOR_MV,
  fam0 0x10018 Reg.LADDER_PMBUS_STATUS_FAULT,
  fam0 0x10018 Reg.LADDER_PMBUS_STATUS_ERRORS,
  fam0 0x1001C Reg.LADDER_IOUT_CENTIAMPS]

/-- Register block 1, families of its fields, part 1. -/
def famsOf1_1 : List (Nat → Option Fld) := [
  fam0 0x10020 Reg.LADDER_RESET_CAUSE_POWER_ON,
  fam0 0x10020 Reg.LADDER_RESET_CAUSE_PIN,
  fam0 0x10020 Reg.LADDER_RESET_CAUSE_PWRGOOD,
  fam0 0x10020 Reg.LADDER_RESET_CAUSE_COMMAND,
  fam0 0x10020 Reg.LADDER_RESET_CAUSE_L4_EXIT,
  fam0 0x10020 Reg.LADDER_RESET_CAUSE_FW_RESTART,
  fam0 0x10024 Reg.LADDER_WAKES_COUNT]

/-- Register block 1. -/
def famsOf1 : List (Nat → Option Fld) := famsOf1_0 ++ famsOf1_1

/-- Register block 2, families of its fields, part 0. -/
def famsOf2_0 : List (Nat → Option Fld) := [
  fam0 0x20000 Reg.CMD_STATUS_OUTSTANDING,
  fam0 0x20000 Reg.CMD_STATUS_EVT_QUEUED,
  fam0 0x20000 Reg.CMD_STATUS_READY,
  fam0 0x20004 Reg.CMD_EVT_CTRL_ROUTE,
  fam0 0x20004 Reg.CMD_EVT_CTRL_IRQ_ON_REPLY,
  fam0 0x20004 Reg.CMD_EVT_CTRL_GROUP_MASK,
  fam0 0x20008 Reg.CMD_ERR_COUNT_CRC,
  fam0 0x20008 Reg.CMD_ERR_COUNT_EVT_LOST]

/-- Register block 2. -/
def famsOf2 : List (Nat → Option Fld) := famsOf2_0

/-- Register block 3, families of its fields, part 0. -/
def famsOf3_0 : List (Nat → Option Fld) := [
  fam0 0x30000 Reg.LOG_CTRL_GROUP_MASK,
  fam0 0x30000 Reg.LOG_CTRL_FULL_MARK,
  fam0 0x30004 Reg.LOG_STATUS_ENTRIES,
  fam0 0x30004 Reg.LOG_STATUS_DROPPED,
  fam2 0x38000 1024 0x20 8 0x4 Reg.LOG_ENTRY_WORD]

/-- Register block 3. -/
def famsOf3 : List (Nat → Option Fld) := famsOf3_0

/-- Register block 4, families of its fields, part 0. -/
def famsOf4_0 : List (Nat → Option Fld) := [
  fam1 0x40000 4 0x20 Reg.TIME_TB_S_LO,
  fam1 0x40004 4 0x20 Reg.TIME_TB_S_HI,
  fam1 0x40008 4 0x20 Reg.TIME_TB_NS,
  fam1 0x4000C 4 0x20 Reg.TIME_TB_RATE_PPB,
  fam1 0x40010 4 0x20 Reg.TIME_TB_SLEW_LEFT_NS,
  fam0 0x40100 Reg.TIME_CTRL_BEACON_SYNC,
  fam0 0x40100 Reg.TIME_CTRL_FSHIFT,
  fam0 0x40104 Reg.TIME_STEP_NS,
  fam0 0x40108 Reg.TIME_BEACON_LAT_NS,
  fam0 0x4010C Reg.TIME_BEACON_TIMEOUT_MS,
  fam0 0x40110 Reg.TIME_STATUS_UNSYNC,
  fam0 0x40110 Reg.TIME_STATUS_HOLDOVER,
  fam0 0x40114 Reg.TIME_LAST_ERR_NS,
  fam0 0x40118 Reg.TIME_STEPS_COUNT,
  fam1 0x40200 5 0x20 Reg.TIME_TRIG_CTRL_TB,
  fam1 0x40200 5 0x20 Reg.TIME_TRIG_CTRL_ARMED,
  fam1 0x40204 5 0x20 Reg.TIME_TRIG_NEXT_S_LO,
  fam1 0x40208 5 0x20 Reg.TIME_TRIG_NEXT_S_HI,
  fam1 0x4020C 5 0x20 Reg.TIME_TRIG_NEXT_NS,
  fam1 0x40210 5 0x20 Reg.TIME_TRIG_PERIOD_NS]

/-- Register block 4, families of its fields, part 1. -/
def famsOf4_1 : List (Nat → Option Fld) := [
  fam1 0x40214 5 0x20 Reg.TIME_TRIG_FIRED_COUNT,
  fam1 0x40218 5 0x20 Reg.TIME_TRIG_MISSED_COUNT]

/-- Register block 4. -/
def famsOf4 : List (Nat → Option Fld) := famsOf4_0 ++ famsOf4_1

/-- Register block 5, families of its fields, part 0. -/
def famsOf5_0 : List (Nat → Option Fld) := [
  fam1 0x50000 20 0x4 Reg.THERM_SENSOR_USED,
  fam1 0x50000 20 0x4 Reg.THERM_SENSOR_RAW,
  fam0 0x50060 Reg.THERM_BROKEN_SENSORS,
  fam0 0x50064 Reg.THERM_STATUS_LEVEL,
  fam0 0x50064 Reg.THERM_STATUS_REF_FAULT,
  fam0 0x50064 Reg.THERM_STATUS_HOTTEST,
  fam0 0x50064 Reg.THERM_STATUS_TJ,
  fam0 0x50068 Reg.THERM_THRESH_WARN,
  fam0 0x50068 Reg.THERM_THRESH_THROTTLE,
  fam0 0x5006C Reg.THERM_CRIT,
  fam0 0x50070 Reg.THERM_HYST,
  fam0 0x50074 Reg.THERM_THROTTLE_STEP,
  fam0 0x50074 Reg.THERM_THROTTLE_MAX,
  fam0 0x50074 Reg.THERM_THROTTLE_P,
  fam0 0x50078 Reg.THERM_WSPD_CFG_TW_START,
  fam0 0x50078 Reg.THERM_WSPD_CFG_TW_FLOOR,
  fam0 0x5007C Reg.THERM_IRO_CORR_PPB,
  fam0 0x50080 Reg.THERM_ROUNDS_COUNT,
  fam0 0x50080 Reg.THERM_ROUNDS_LATE,
  fam1 0x50100 64 0x4 Reg.THERM_HK]

/-- Register block 5. -/
def famsOf5 : List (Nat → Option Fld) := famsOf5_0

/-- Register block 6, families of its fields, part 0. -/
def famsOf6_0 : List (Nat → Option Fld) := [
  fam0 0x60000 Reg.CAL_CTRL_CAL_DT,
  fam0 0x60004 Reg.CAL_STATUS_MEASURING,
  fam0 0x60004 Reg.CAL_STATUS_STEPPING,
  fam1 0x60020 4 0x10 Reg.CAL_T_RUNS_COUNT,
  fam1 0x60024 4 0x10 Reg.CAL_T_REJECTS_COUNT,
  fam1 0x60028 4 0x10 Reg.CAL_T_LAST_REJECT_UNIT,
  fam1 0x6002C 4 0x10 Reg.CAL_T_STEPS_COUNT]

/-- Register block 6. -/
def famsOf6 : List (Nat → Option Fld) := famsOf6_0

/-- Register block 7, families of its fields, part 0. -/
def famsOf7_0 : List (Nat → Option Fld) := [
  fam0 0x70000 Reg.OTP_ID_LO,
  fam0 0x70004 Reg.OTP_ID_HI,
  fam0 0x70008 Reg.OTP_STATUS_ACTIVE_GEN,
  fam0 0x70008 Reg.OTP_STATUS_RECORD_VALID,
  fam0 0x70008 Reg.OTP_STATUS_USED,
  fam0 0x70008 Reg.OTP_STATUS_KEY_SLOTS,
  fam0 0x70008 Reg.OTP_STATUS_LOCKS,
  fam0 0x70008 Reg.OTP_STATUS_SIGNED,
  fam1 0x70100 16 0x4 Reg.OTP_RECORD,
  fam0 0x70200 Reg.OTP_PATCH_ID,
  fam0 0x70200 Reg.OTP_PATCH_ACTIVE,
  fam0 0x70204 Reg.OTP_PATCH_FAILS_COUNT]

/-- Register block 7. -/
def famsOf7 : List (Nat → Option Fld) := famsOf7_0

/-- Register block 8, families of its fields, part 0. -/
def famsOf8_0 : List (Nat → Option Fld) := [
  fam0 0x80000 Reg.MEMCTL_MODE_INIT,
  fam0 0x80000 Reg.MEMCTL_MODE_TRAINED,
  fam0 0x80000 Reg.MEMCTL_MODE_BOOT_FAIL,
  fam0 0x80004 Reg.MEMCTL_WRITE_WM_HIGH,
  fam0 0x80004 Reg.MEMCTL_WRITE_WM_LOW,
  fam0 0x80004 Reg.MEMCTL_WRITE_WM_DEPTH,
  fam0 0x80008 Reg.MEMCTL_VALID_COUNT_REGIONS,
  fam0 0x80010 Reg.MEMCTL_INVAL_FIRST_REGION,
  fam0 0x80014 Reg.MEMCTL_INVAL_CTRL_COUNT,
  fam0 0x80014 Reg.MEMCTL_INVAL_CTRL_GO,
  fam0 0x80018 Reg.MEMCTL_RECOVER_FIRST_REGION,
  fam0 0x80018 Reg.MEMCTL_RECOVER_FIRST_ACTIVE,
  fam0 0x8001C Reg.MEMCTL_RECOVER_COUNT_REGIONS,
  fam0 0x80020 Reg.MEMCTL_SCRUB_CTRL_EN,
  fam0 0x80020 Reg.MEMCTL_SCRUB_CTRL_GAP,
  fam0 0x80024 Reg.MEMCTL_SCRUB_POS_REGION,
  fam0 0x80028 Reg.MEMCTL_SCRUB_LAP_MS,
  fam0 0x8002C Reg.MEMCTL_FILLS_COUNT,
  fam0 0x80030 Reg.MEMCTL_PROT_REFUSED_COUNT,
  fam1 0x80100 8 0x20 Reg.MEMCTL_CH_STATUS_READS]

/-- Register block 8, families of its fields, part 1. -/
def famsOf8_1 : List (Nat → Option Fld) := [
  fam1 0x80100 8 0x20 Reg.MEMCTL_CH_STATUS_WRITES,
  fam1 0x80100 8 0x20 Reg.MEMCTL_CH_STATUS_DRAIN,
  fam1 0x80100 8 0x20 Reg.MEMCTL_CH_STATUS_REFRESH,
  fam1 0x80104 8 0x20 Reg.MEMCTL_CH_DRAINS_COUNT,
  fam1 0x80108 8 0x20 Reg.MEMCTL_CH_TRAIN_EYE_MIN,
  fam1 0x80108 8 0x20 Reg.MEMCTL_CH_TRAIN_VREF_DQ,
  fam1 0x80108 8 0x20 Reg.MEMCTL_CH_TRAIN_VREF_CA,
  fam1 0x80108 8 0x20 Reg.MEMCTL_CH_TRAIN_REJECTED,
  fam1 0x8010C 8 0x20 Reg.MEMCTL_CH_TRAIN_TEMP_TEMP,
  fam1 0x80110 8 0x20 Reg.MEMCTL_CH_TAP_STEPS_COUNT]

/-- Register block 8. -/
def famsOf8 : List (Nat → Option Fld) := famsOf8_0 ++ famsOf8_1

/-- Register block 9, families of its fields, part 0. -/
def famsOf9_0 : List (Nat → Option Fld) := [
  fam0 0x90000 Reg.ECC_CE_COUNT,
  fam0 0x90004 Reg.ECC_UE_COUNT,
  fam0 0x90008 Reg.ECC_INIT_ERRORS,
  fam0 0x9000C Reg.ECC_CE_LAST_LO,
  fam0 0x90010 Reg.ECC_CE_LAST_HI,
  fam0 0x90014 Reg.ECC_UE_LOG_STATUS_ENTRIES,
  fam0 0x90014 Reg.ECC_UE_LOG_STATUS_OVERFLOW,
  fam0 0x90018 Reg.ECC_UE_POP_POP,
  fam0 0x90020 Reg.ECC_UE_ADDR_LO,
  fam0 0x90024 Reg.ECC_UE_INFO_ADDR_HI,
  fam0 0x90024 Reg.ECC_UE_INFO_CHANNEL,
  fam0 0x90024 Reg.ECC_UE_INFO_REQUESTER,
  fam0 0x90024 Reg.ECC_UE_INFO_PLANE,
  fam0 0x90028 Reg.ECC_UE_LINE,
  fam0 0x9002C Reg.ECC_UE_WEB_LO,
  fam0 0x90030 Reg.ECC_UE_WEB_HI,
  fam0 0x90034 Reg.ECC_UE_STAMP,
  fam0 0x90038 Reg.ECC_UE_REPEATS]

/-- Register block 9. -/
def famsOf9 : List (Nat → Option Fld) := famsOf9_0

/-- Register block 10, families of its fields, part 0. -/
def famsOf10_0 : List (Nat → Option Fld) := [
  fam2 0xA0000 32 0x80 8 0x4 Reg.DMA_CH_ACTIVE,
  fam2 0xA0020 32 0x80 8 0x4 Reg.DMA_CH_SHADOW,
  fam1 0xA0040 32 0x80 Reg.DMA_CH_STATUS_RUNNING,
  fam1 0xA0040 32 0x80 Reg.DMA_CH_STATUS_SHADOW,
  fam1 0xA0040 32 0x80 Reg.DMA_CH_STATUS_ERROR,
  fam1 0xA0040 32 0x80 Reg.DMA_CH_STATUS_THROTTLED,
  fam1 0xA0040 32 0x80 Reg.DMA_CH_STATUS_IN_FLIGHT,
  fam1 0xA0044 32 0x80 Reg.DMA_CH_COMMIT_GO,
  fam1 0xA0048 32 0x80 Reg.DMA_CH_DONE_LO,
  fam1 0xA004C 32 0x80 Reg.DMA_CH_DONE_HI,
  fam1 0xA0050 32 0x80 Reg.DMA_CH_REQ_CREDITS,
  fam1 0xA0050 32 0x80 Reg.DMA_CH_REQ_OVERRUN,
  fam1 0xA0054 32 0x80 Reg.DMA_CH_PASSES,
  fam0 0xA1000 Reg.DMA_BUSY_CHANNELS,
  fam0 0xA1004 Reg.DMA_SHADOWED_CHANNELS]

/-- Register block 10. -/
def famsOf10 : List (Nat → Option Fld) := famsOf10_0

/-- Register block 11, families of its fields, part 0. -/
def famsOf11_0 : List (Nat → Option Fld) := [
  fam1 0xB0000 8 0x40 Reg.PACK_SLOT_STATE,
  fam1 0xB0000 8 0x40 Reg.PACK_SLOT_STATE_UNPACK,
  fam1 0xB0000 8 0x40 Reg.PACK_SLOT_STATE_THROTTLED,
  fam1 0xB0000 8 0x40 Reg.PACK_SLOT_STATE_LEVEL,
  fam1 0xB0000 8 0x40 Reg.PACK_SLOT_STATE_TAG,
  fam1 0xB0004 8 0x40 Reg.PACK_SLOT_LAST_STATUS,
  fam1 0xB0008 8 0x40 Reg.PACK_SLOT_SRC_LO,
  fam1 0xB000C 8 0x40 Reg.PACK_SLOT_SRC_HI,
  fam1 0xB0010 8 0x40 Reg.PACK_SLOT_DST_LO,
  fam1 0xB0014 8 0x40 Reg.PACK_SLOT_DST_HI,
  fam1 0xB0018 8 0x40 Reg.PACK_SLOT_SRC_LEN,
  fam1 0xB001C 8 0x40 Reg.PACK_SLOT_DST_LEN,
  fam1 0xB0020 8 0x40 Reg.PACK_SLOT_CONSUMED,
  fam1 0xB0024 8 0x40 Reg.PACK_SLOT_PRODUCED,
  fam1 0xB0028 8 0x40 Reg.PACK_SLOT_ORIG_LEN,
  fam0 0xB0400 Reg.PACK_JOBS_OK_COUNT,
  fam0 0xB0404 Reg.PACK_NOT_SMALLER_COUNT,
  fam0 0xB0408 Reg.PACK_STREAM_ERRORS_COUNT,
  fam0 0xB040C Reg.PACK_STOPS_COUNT]

/-- Register block 11. -/
def famsOf11 : List (Nat → Option Fld) := famsOf11_0

/-- Register block 12, families of its fields, part 0. -/
def famsOf12_0 : List (Nat → Option Fld) := [
  fam1 0xC0000 4 0x100 Reg.ENC_CONFIG_FILTER,
  fam1 0xC0000 4 0x100 Reg.ENC_CONFIG_REVERSE,
  fam1 0xC0000 4 0x100 Reg.ENC_CONFIG_Z_POL,
  fam1 0xC0000 4 0x100 Reg.ENC_CONFIG_RELAY_EN,
  fam1 0xC0000 4 0x100 Reg.ENC_CONFIG_Z_EN,
  fam1 0xC0000 4 0x100 Reg.ENC_CONFIG_BANDWIDTH,
  fam1 0xC0004 4 0x100 Reg.ENC_STANDSTILL_STANDSTILL_MS,
  fam1 0xC0008 4 0x100 Reg.ENC_COUNT_LO,
  fam1 0xC000C 4 0x100 Reg.ENC_COUNT_HI,
  fam1 0xC0010 4 0x100 Reg.ENC_INDEX_LO,
  fam1 0xC0014 4 0x100 Reg.ENC_INDEX_HI,
  fam1 0xC0018 4 0x100 Reg.ENC_INDEX_EXPECT,
  fam1 0xC001C 4 0x100 Reg.ENC_INDEX_TOL,
  fam1 0xC0020 4 0x100 Reg.ENC_INDEX_ERR,
  fam1 0xC0024 4 0x100 Reg.ENC_VELOCITY,
  fam1 0xC0028 4 0x100 Reg.ENC_POS_FRAC,
  fam1 0xC0030 4 0x100 Reg.ENC_GLITCHES,
  fam1 0xC0034 4 0x100 Reg.ENC_INDEX_COUNT,
  fam1 0xC002C 4 0x100 Reg.ENC_STATUS_INVALID,
  fam1 0xC002C 4 0x100 Reg.ENC_STATUS_SETTLING]

/-- Register block 12, families of its fields, part 1. -/
def famsOf12_1 : List (Nat → Option Fld) := [
  fam1 0xC002C 4 0x100 Reg.ENC_STATUS_DIRECTION,
  fam1 0xC002C 4 0x100 Reg.ENC_STATUS_STANDSTILL,
  fam1 0xC002C 4 0x100 Reg.ENC_STATUS_OVERRUN,
  fam1 0xC002C 4 0x100 Reg.ENC_STATUS_WIRE,
  fam1 0xC002C 4 0x100 Reg.ENC_STATUS_INDEX_VALID,
  fam1 0xC002C 4 0x100 Reg.ENC_STATUS_INDEX_DIR,
  fam1 0xC002C 4 0x100 Reg.ENC_STATUS_DRIFT,
  fam1 0xC002C 4 0x100 Reg.ENC_STATUS_Z_FAULT,
  fam1 0xC002C 4 0x100 Reg.ENC_STATUS_ONE_SIDED,
  fam1 0xC002C 4 0x100 Reg.ENC_STATUS_WIRE_A,
  fam1 0xC002C 4 0x100 Reg.ENC_STATUS_WIRE_B,
  fam1 0xC002C 4 0x100 Reg.ENC_STATUS_WIRE_Z,
  fam1 0xC002C 4 0x100 Reg.ENC_STATUS_LEVEL,
  fam1 0xC0400 2 0x40 Reg.ENC_SSI_CONFIG_BITS,
  fam1 0xC0400 2 0x40 Reg.ENC_SSI_CONFIG_GRAY,
  fam1 0xC0400 2 0x40 Reg.ENC_SSI_CONFIG_PARITY,
  fam1 0xC0400 2 0x40 Reg.ENC_SSI_CONFIG_CLK_DIV,
  fam1 0xC0400 2 0x40 Reg.ENC_SSI_CONFIG_MONO_US,
  fam1 0xC0404 2 0x40 Reg.ENC_SSI_TIMING_PERIOD_US,
  fam1 0xC0404 2 0x40 Reg.ENC_SSI_TIMING_SAMPLE_DELAY]

/-- Register block 12, families of its fields, part 2. -/
def famsOf12_2 : List (Nat → Option Fld) := [
  fam1 0xC0404 2 0x40 Reg.ENC_SSI_TIMING_START,
  fam1 0xC0408 2 0x40 Reg.ENC_SSI_POS_LO,
  fam1 0xC040C 2 0x40 Reg.ENC_SSI_POS_HI,
  fam1 0xC0410 2 0x40 Reg.ENC_SSI_STATUS_VALID,
  fam1 0xC0410 2 0x40 Reg.ENC_SSI_STATUS_PARITY_ERR,
  fam1 0xC0410 2 0x40 Reg.ENC_SSI_STATUS_DI_STUCK,
  fam1 0xC0410 2 0x40 Reg.ENC_SSI_STATUS_FRAMES,
  fam1 0xC0414 2 0x40 Reg.ENC_SSI_STAMP,
  fam1 0xC0800 8 0x20 Reg.ENC_CMP_CTRL_SOURCE,
  fam1 0xC0800 8 0x20 Reg.ENC_CMP_CTRL_DIRECTION,
  fam1 0xC0800 8 0x20 Reg.ENC_CMP_CTRL_ARMED,
  fam1 0xC0800 8 0x20 Reg.ENC_CMP_CTRL_EVT_EN,
  fam1 0xC0800 8 0x20 Reg.ENC_CMP_CTRL_PULSE_EN,
  fam1 0xC0800 8 0x20 Reg.ENC_CMP_CTRL_PULSE_TARGET,
  fam1 0xC0800 8 0x20 Reg.ENC_CMP_CTRL_PULSE_WIDTH,
  fam1 0xC0804 8 0x20 Reg.ENC_CMP_POS_LO,
  fam1 0xC0808 8 0x20 Reg.ENC_CMP_POS_HI,
  fam1 0xC080C 8 0x20 Reg.ENC_CMP_PERIOD,
  fam1 0xC0810 8 0x20 Reg.ENC_CMP_STATUS_PASSED,
  fam1 0xC0810 8 0x20 Reg.ENC_CMP_STATUS_FIRED]

/-- Register block 12, families of its fields, part 3. -/
def famsOf12_3 : List (Nat → Option Fld) := [
  fam1 0xC0814 8 0x20 Reg.ENC_CMP_HITS,
  fam1 0xC0818 8 0x20 Reg.ENC_CMP_MISSED]

/-- Register block 12. -/
def famsOf12 : List (Nat → Option Fld) := famsOf12_0 ++ famsOf12_1 ++ famsOf12_2 ++ famsOf12_3

/-- Register block 13, families of its fields, part 0. -/
def famsOf13_0 : List (Nat → Option Fld) := [
  fam1 0xD0000 4 0x100 Reg.LINEGEN_PL_CONFIG_ENC,
  fam1 0xD0000 4 0x100 Reg.LINEGEN_PL_CONFIG_PITCH,
  fam1 0xD0000 4 0x100 Reg.LINEGEN_PL_CONFIG_LOOKAHEAD,
  fam1 0xD0000 4 0x100 Reg.LINEGEN_PL_CONFIG_WOBBLE,
  fam1 0xD0004 4 0x100 Reg.LINEGEN_PL_CPL_LO,
  fam1 0xD0008 4 0x100 Reg.LINEGEN_PL_CPL_HI,
  fam1 0xD000C 4 0x100 Reg.LINEGEN_PL_DELAY,
  fam1 0xD0010 4 0x100 Reg.LINEGEN_PL_START_FRAC,
  fam1 0xD0014 4 0x100 Reg.LINEGEN_PL_START_LO,
  fam1 0xD0018 4 0x100 Reg.LINEGEN_PL_START_HI,
  fam1 0xD001C 4 0x100 Reg.LINEGEN_PL_HWM_LO,
  fam1 0xD0020 4 0x100 Reg.LINEGEN_PL_HWM_HI,
  fam1 0xD0024 4 0x100 Reg.LINEGEN_PL_NEXT_LO,
  fam1 0xD0028 4 0x100 Reg.LINEGEN_PL_NEXT_HI,
  fam1 0xD0030 4 0x100 Reg.LINEGEN_PL_OVERSPEED,
  fam1 0xD0034 4 0x100 Reg.LINEGEN_PL_MISSED,
  fam1 0xD002C 4 0x100 Reg.LINEGEN_PL_STATUS_PRINTING,
  fam1 0xD002C 4 0x100 Reg.LINEGEN_PL_STATUS_ARMED,
  fam1 0xD002C 4 0x100 Reg.LINEGEN_PL_STATUS_REVERSED,
  fam1 0xD002C 4 0x100 Reg.LINEGEN_PL_STATUS_HALTED]

/-- Register block 13, families of its fields, part 1. -/
def famsOf13_1 : List (Nat → Option Fld) := [
  fam1 0xD002C 4 0x100 Reg.LINEGEN_PL_STATUS_LA_USED,
  fam2 0xD1000 4 0x100 48 0x4 Reg.LINEGEN_PL_HOFF_OFFSET,
  fam0 0xD0800 Reg.LINEGEN_WSPD_CTRL_ENABLE,
  fam0 0xD0800 Reg.LINEGEN_WSPD_CTRL_FIXED_DUTY,
  fam0 0xD0800 Reg.LINEGEN_WSPD_CTRL_MARGIN,
  fam0 0xD0804 Reg.LINEGEN_WSPD_HIGH_WM,
  fam0 0xD0808 Reg.LINEGEN_WSPD_NOMINAL,
  fam0 0xD080C Reg.LINEGEN_WSPD_RISE,
  fam0 0xD0810 Reg.LINEGEN_WSPD_DUTY_DUTY,
  fam0 0xD0810 Reg.LINEGEN_WSPD_DUTY_LIMIT,
  fam0 0xD0814 Reg.LINEGEN_WSPD_TERMS_STREAM,
  fam0 0xD0814 Reg.LINEGEN_WSPD_TERMS_OVERSPEED,
  fam0 0xD0818 Reg.LINEGEN_WSPD_THERMAL,
  fam0 0xD0820 Reg.LINEGEN_MARK_OFFSET_LO,
  fam0 0xD0824 Reg.LINEGEN_MARK_OFFSET_HI,
  fam0 0xD0828 Reg.LINEGEN_ARM_STATUS_ARMED,
  fam0 0xD0828 Reg.LINEGEN_ARM_STATUS_KIND,
  fam0 0xD0828 Reg.LINEGEN_ARM_STATUS_MARKS_LATE,
  fam0 0xD0830 Reg.LINEGEN_DEFECT_CTRL_MIN_US,
  fam0 0xD0834 Reg.LINEGEN_DEFECT_LOG_STATUS_ENTRIES]

/-- Register block 13, families of its fields, part 2. -/
def famsOf13_2 : List (Nat → Option Fld) := [
  fam0 0xD0834 Reg.LINEGEN_DEFECT_LOG_STATUS_OVERFLOW,
  fam0 0xD0838 Reg.LINEGEN_DEFECT_POP_POP,
  fam0 0xD0840 Reg.LINEGEN_DEFECT_HEAD0_PLANE,
  fam0 0xD0840 Reg.LINEGEN_DEFECT_HEAD0_CAUSE,
  fam0 0xD0844 Reg.LINEGEN_DEFECT_FIRST_LINE,
  fam0 0xD0848 Reg.LINEGEN_DEFECT_LINES,
  fam0 0xD0850 Reg.LINEGEN_DEFECT_START_LO,
  fam0 0xD0854 Reg.LINEGEN_DEFECT_START_HI,
  fam0 0xD0858 Reg.LINEGEN_DEFECT_END_LO,
  fam0 0xD085C Reg.LINEGEN_DEFECT_END_HI]

/-- Register block 13. -/
def famsOf13 : List (Nat → Option Fld) := famsOf13_0 ++ famsOf13_1 ++ famsOf13_2

/-- Register block 14, families of its fields, part 0. -/
def famsOf14_0 : List (Nat → Option Fld) := [
  fam0 0xE0000 Reg.JOB_STATE_RUNNING_ID,
  fam0 0xE0000 Reg.JOB_STATE_QUEUED_ID,
  fam0 0xE0000 Reg.JOB_STATE_QUEUED_ARM,
  fam0 0xE0000 Reg.JOB_STATE_END_SET,
  fam0 0xE0008 Reg.JOB_REPEATS_LO,
  fam0 0xE000C Reg.JOB_REPEATS_HI,
  fam0 0xE0010 Reg.JOB_END_LO,
  fam0 0xE0014 Reg.JOB_END_HI,
  fam0 0xE0018 Reg.JOB_REPEAT_LINES,
  fam1 0xE0100 4 0x40 Reg.JOB_RING_COMMITTED_LO,
  fam1 0xE0104 4 0x40 Reg.JOB_RING_COMMITTED_HI,
  fam1 0xE0108 4 0x40 Reg.JOB_RING_CONSUMED_LO,
  fam1 0xE010C 4 0x40 Reg.JOB_RING_CONSUMED_HI,
  fam1 0xE0110 4 0x40 Reg.JOB_RING_LEVEL,
  fam1 0xE0114 4 0x40 Reg.JOB_RING_DEBT,
  fam1 0xE0118 4 0x40 Reg.JOB_RING_UNDERRUN,
  fam1 0xE011C 4 0x40 Reg.JOB_RING_STATUS_BOUND,
  fam1 0xE011C 4 0x40 Reg.JOB_RING_STATUS_LOW,
  fam1 0xE011C 4 0x40 Reg.JOB_RING_STATUS_UNDERRUN_SEEN]

/-- Register block 14. -/
def famsOf14 : List (Nat → Option Fld) := famsOf14_0

/-- Register block 15, families of its fields, part 0. -/
def famsOf15_0 : List (Nat → Option Fld) := [
  fam1 0xF0000 4 0x100 Reg.COMPOSE_PL_VAR_CTRL_ENABLE,
  fam1 0xF0020 4 0x100 Reg.COMPOSE_PL_OVL_CTRL_ENABLE,
  fam1 0xF0040 4 0x100 Reg.COMPOSE_PL_KITE_CTRL_ENABLE,
  fam1 0xF0020 4 0x100 Reg.COMPOSE_PL_OVL_CTRL_PREMULT,
  fam1 0xF0040 4 0x100 Reg.COMPOSE_PL_KITE_CTRL_PREMULT,
  fam1 0xF0000 4 0x100 Reg.COMPOSE_PL_VAR_CTRL_MODE,
  fam1 0xF0040 4 0x100 Reg.COMPOSE_PL_KITE_CTRL_ANCHOR,
  fam1 0xF0000 4 0x100 Reg.COMPOSE_PL_VAR_CTRL_LAYER_ALPHA,
  fam1 0xF0020 4 0x100 Reg.COMPOSE_PL_OVL_CTRL_LAYER_ALPHA,
  fam1 0xF0040 4 0x100 Reg.COMPOSE_PL_KITE_CTRL_LAYER_ALPHA,
  fam1 0xF0000 4 0x100 Reg.COMPOSE_PL_VAR_CTRL_KEY,
  fam1 0xF0004 4 0x100 Reg.COMPOSE_PL_VAR_ADDR_LO,
  fam1 0xF0024 4 0x100 Reg.COMPOSE_PL_OVL_ADDR_LO,
  fam1 0xF0044 4 0x100 Reg.COMPOSE_PL_KITE_ADDR_LO,
  fam1 0xF0008 4 0x100 Reg.COMPOSE_PL_VAR_ADDR_HI,
  fam1 0xF0028 4 0x100 Reg.COMPOSE_PL_OVL_ADDR_HI,
  fam1 0xF0048 4 0x100 Reg.COMPOSE_PL_KITE_ADDR_HI,
  fam1 0xF000C 4 0x100 Reg.COMPOSE_PL_VAR_WIDTH,
  fam1 0xF002C 4 0x100 Reg.COMPOSE_PL_OVL_WIDTH,
  fam1 0xF0010 4 0x100 Reg.COMPOSE_PL_VAR_HEIGHT]

/-- Register block 15, families of its fields, part 1. -/
def famsOf15_1 : List (Nat → Option Fld) := [
  fam1 0xF0030 4 0x100 Reg.COMPOSE_PL_OVL_HEIGHT,
  fam1 0xF0014 4 0x100 Reg.COMPOSE_PL_VAR_STRIDE,
  fam1 0xF0034 4 0x100 Reg.COMPOSE_PL_OVL_STRIDE,
  fam1 0xF0050 4 0x100 Reg.COMPOSE_PL_KITE_STRIDE,
  fam1 0xF0038 4 0x100 Reg.COMPOSE_PL_OVL_X,
  fam1 0xF004C 4 0x100 Reg.COMPOSE_PL_KITE_SIZE_WIDTH,
  fam1 0xF004C 4 0x100 Reg.COMPOSE_PL_KITE_SIZE_HEIGHT,
  fam1 0xF0058 4 0x100 Reg.COMPOSE_PL_KITE_X,
  fam1 0xF005C 4 0x100 Reg.COMPOSE_PL_KITE_Y,
  fam1 0xF0060 4 0x100 Reg.COMPOSE_PL_FLIP_SEL_VAR,
  fam1 0xF0060 4 0x100 Reg.COMPOSE_PL_FLIP_SEL_OVL,
  fam1 0xF0060 4 0x100 Reg.COMPOSE_PL_FLIP_SEL_KITE_LAYER,
  fam1 0xF0060 4 0x100 Reg.COMPOSE_PL_FLIP_SEL_KITE_POS,
  fam1 0xF0080 4 0x100 Reg.COMPOSE_PL_PROT_STATUS_LOADED,
  fam1 0xF0080 4 0x100 Reg.COMPOSE_PL_PROT_STATUS_LOCKED,
  fam1 0xF0080 4 0x100 Reg.COMPOSE_PL_PROT_STATUS_COPYING,
  fam1 0xF0080 4 0x100 Reg.COMPOSE_PL_PROT_STATUS_CHECKING,
  fam1 0xF0080 4 0x100 Reg.COMPOSE_PL_PROT_STATUS_FAULT,
  fam1 0xF0080 4 0x100 Reg.COMPOSE_PL_PROT_STATUS_SLOW,
  fam1 0xF0080 4 0x100 Reg.COMPOSE_PL_PROT_STATUS_CLIPPED]

/-- Register block 15, families of its fields, part 2. -/
def famsOf15_2 : List (Nat → Option Fld) := [
  fam1 0xF0080 4 0x100 Reg.COMPOSE_PL_PROT_STATUS_RECTS,
  fam1 0xF0080 4 0x100 Reg.COMPOSE_PL_PROT_STATUS_BAD_TOKENS,
  fam1 0xF0084 4 0x100 Reg.COMPOSE_PL_PROT_CRC,
  fam1 0xF0088 4 0x100 Reg.COMPOSE_PL_PROT_LAST,
  fam1 0xF008C 4 0x100 Reg.COMPOSE_PL_PROT_PASSES,
  fam1 0xF0090 4 0x100 Reg.COMPOSE_PL_PROT_LEN]

/-- Register block 15. -/
def famsOf15 : List (Nat → Option Fld) := famsOf15_0 ++ famsOf15_1 ++ famsOf15_2

/-- Register block 16, families of its fields, part 0. -/
def famsOf16_0 : List (Nat → Option Fld) := [
  fam1 0x100000 4 0x100 Reg.HTONE_PL_GEOM_OVERLAP,
  fam1 0x100000 4 0x100 Reg.HTONE_PL_GEOM_SCREEN_X,
  fam1 0x100000 4 0x100 Reg.HTONE_PL_GEOM_SCREEN_Y,
  fam1 0x100004 4 0x100 Reg.HTONE_PL_SHAPE_N,
  fam1 0x100004 4 0x100 Reg.HTONE_PL_SHAPE_HEADS,
  fam1 0x100004 4 0x100 Reg.HTONE_PL_SHAPE_ROWS2,
  fam1 0x100004 4 0x100 Reg.HTONE_PL_SHAPE_BITS2,
  fam1 0x100008 4 0x100 Reg.HTONE_PL_DENS_BASE_ENTRY,
  fam1 0x10000C 4 0x100 Reg.HTONE_PL_STITCH_BASE_BYTE,
  fam1 0x100010 4 0x100 Reg.HTONE_PL_DEAD_BASE_BIT,
  fam1 0x100014 4 0x100 Reg.HTONE_PL_TABLES_BANK,
  fam1 0x100014 4 0x100 Reg.HTONE_PL_TABLES_PENDING,
  fam1 0x100014 4 0x100 Reg.HTONE_PL_TABLES_COPYING,
  fam1 0x100014 4 0x100 Reg.HTONE_PL_TABLES_FLIP_SEL,
  fam1 0x100018 4 0x100 Reg.HTONE_PL_DEAD_COUNT_NOZZLES,
  fam1 0x10001C 4 0x100 Reg.HTONE_PL_UNCOVERED_POSITIONS,
  fam1 0x100020 4 0x100 Reg.HTONE_PL_FLIPS_COUNT,
  fam2 0x101000 4 0x100 48 0x4 Reg.HTONE_PL_XOFF_OFFSET]

/-- Register block 16. -/
def famsOf16 : List (Nat → Option Fld) := famsOf16_0

/-- Register block 17, families of its fields, part 0. -/
def famsOf17_0 : List (Nat → Option Fld) := [
  fam2 0x110000 4 0x10000 12 0x1000 (fun g q => Reg.HEADPORT_HP_CTRL_ENABLE (12 * g + q)),
  fam2 0x110000 4 0x10000 12 0x1000 (fun g q => Reg.HEADPORT_HP_CTRL_PLANE (12 * g + q)),
  fam2 0x110000 4 0x10000 12 0x1000 (fun g q => Reg.HEADPORT_HP_CTRL_MAPPED (12 * g + q)),
  fam2 0x110000 4 0x10000 12 0x1000 (fun g q => Reg.HEADPORT_HP_CTRL_MAP_POS (12 * g + q)),
  fam2 0x110004 4 0x10000 12 0x1000 (fun g q => Reg.HEADPORT_HP_FAULT_CAUSES (12 * g + q)),
  fam2 0x110004 4 0x10000 12 0x1000 (fun g q => Reg.HEADPORT_HP_FAULT_SRET_LOST (12 * g + q)),
  fam2 0x110004 4 0x10000 12 0x1000 (fun g q => Reg.HEADPORT_HP_FAULT_FAULTED (12 * g + q)),
  fam2 0x110008 4 0x10000 12 0x1000 (fun g q => Reg.HEADPORT_HP_TEMP (12 * g + q)),
  fam2 0x110008 4 0x10000 12 0x1000 (fun g q => Reg.HEADPORT_HP_TEMP_TARGET (12 * g + q)),
  fam2 0x11000C 4 0x10000 12 0x1000 (fun g q => Reg.HEADPORT_HP_PREHEAT_COUNT (12 * g + q)),
  fam2 0x11000C 4 0x10000 12 0x1000 (fun g q => Reg.HEADPORT_HP_PREHEAT_WIDTH (12 * g + q)),
  fam2 0x110010 4 0x10000 12 0x1000 (fun g q => Reg.HEADPORT_HP_INTEG (12 * g + q)),
  fam2 0x110014 4 0x10000 12 0x1000 (fun g q => Reg.HEADPORT_HP_FIRED (12 * g + q)),
  fam2 0x110018 4 0x10000 12 0x1000 (fun g q => Reg.HEADPORT_HP_LATE (12 * g + q)),
  fam2 0x11001C 4 0x10000 12 0x1000 (fun g q => Reg.HEADPORT_HP_SKIPPED (12 * g + q)),
  fam2 0x110020 4 0x10000 12 0x1000 (fun g q => Reg.HEADPORT_HP_SRET_ERRORS (12 * g + q)),
  fam2 0x110024 4 0x10000 12 0x1000 (fun g q => Reg.HEADPORT_HP_WD_CUTS (12 * g + q)),
  fam2 0x110028 4 0x10000 12 0x1000 (fun g q => Reg.HEADPORT_HP_DESKEW_CK (12 * g + q)),
  fam2 0x110028 4 0x10000 12 0x1000 (fun g q => Reg.HEADPORT_HP_DESKEW_D0 (12 * g + q)),
  fam2 0x110028 4 0x10000 12 0x1000 (fun g q => Reg.HEADPORT_HP_DESKEW_D1 (12 * g + q))]

/-- Register block 17, families of its fields, part 1. -/
def famsOf17_1 : List (Nat → Option Fld) := [
  fam1 0x11C000 4 0x10000 Reg.HEADPORT_GRP_STB_MAX,
  fam1 0x11C004 4 0x10000 Reg.HEADPORT_GRP_BANK_VHEAD_NOM,
  fam1 0x11C004 4 0x10000 Reg.HEADPORT_GRP_BANK_VHEAD_MV,
  fam1 0x11C004 4 0x10000 Reg.HEADPORT_GRP_BANK_VHEAD_OK,
  fam1 0x11C008 4 0x10000 Reg.HEADPORT_GRP_FAULTED_PORTS,
  fam3 0x11D000 4 0x10000 4 0x40 16 0x4 Reg.HEADPORT_GRP_PROFILE_WORD]

/-- Register block 17. -/
def famsOf17 : List (Nat → Option Fld) := famsOf17_0 ++ famsOf17_1

/-- Register block 21, families of its fields, part 0. -/
def famsOf21_0 : List (Nat → Option Fld) := [
  fam1 0x150060 4 0x100 Reg.CAMRX_PORT_STATUS_RECEIVING,
  fam1 0x150060 4 0x100 Reg.CAMRX_PORT_STATUS_INLINE,
  fam1 0x150060 4 0x100 Reg.CAMRX_PORT_STATUS_HS_ACTIVE,
  fam1 0x150060 4 0x100 Reg.CAMRX_PORT_STATUS_FRAME_OPEN,
  fam1 0x150060 4 0x100 Reg.CAMRX_PORT_STATUS_RAW_USED,
  fam1 0x150064 4 0x100 Reg.CAMRX_PORT_FRAMES,
  fam1 0x150068 4 0x100 Reg.CAMRX_PORT_SHORT,
  fam1 0x15006C 4 0x100 Reg.CAMRX_PORT_LONG,
  fam1 0x150070 4 0x100 Reg.CAMRX_PORT_DROPS,
  fam1 0x150074 4 0x100 Reg.CAMRX_PORT_ECC_CORR,
  fam1 0x150078 4 0x100 Reg.CAMRX_PORT_ECC_FAIL,
  fam1 0x15007C 4 0x100 Reg.CAMRX_PORT_CRC_ERR,
  fam1 0x150080 4 0x100 Reg.CAMRX_PORT_LEN_ERR,
  fam1 0x150084 4 0x100 Reg.CAMRX_PORT_FOREIGN,
  fam1 0x150088 4 0x100 Reg.CAMRX_PORT_OUT_LAST_SLOT,
  fam1 0x150088 4 0x100 Reg.CAMRX_PORT_OUT_LAST_FRAME,
  fam1 0x150400 4 0x10 Reg.CAMRX_TRIG_WIDTH,
  fam2 0x150000 4 0x100 24 0x4 Reg.CAMRX_PORT_REC_WORD]

/-- Register block 21. -/
def famsOf21 : List (Nat → Option Fld) := famsOf21_0

/-- Register block 22, families of its fields, part 0. -/
def famsOf22_0 : List (Nat → Option Fld) := [
  fam0 0x160000 Reg.ISP_INLINE_PORT,
  fam0 0x160000 Reg.ISP_INLINE_NEXT,
  fam0 0x160004 Reg.ISP_MEM_PORT,
  fam0 0x160004 Reg.ISP_MEM_QUEUED,
  fam0 0x160008 Reg.ISP_YIELDS]

/-- Register block 22. -/
def famsOf22 : List (Nat → Option Fld) := famsOf22_0

/-- Register block 23, families of its fields, part 0. -/
def famsOf23_0 : List (Nat → Option Fld) := [
  fam1 0x170000 4 0x4 Reg.MEASURE_FRAME,
  fam1 0x170400 256 0x4 Reg.MEASURE_ROI_INFO_FRAME,
  fam1 0x170400 256 0x4 Reg.MEASURE_ROI_INFO_VALID,
  fam1 0x170400 256 0x4 Reg.MEASURE_ROI_INFO_STALE,
  fam1 0x170400 256 0x4 Reg.MEASURE_ROI_INFO_SUSPECT,
  fam1 0x170400 256 0x4 Reg.MEASURE_ROI_INFO_CLIPPED,
  fam0 0x171000 Reg.MEASURE_LOOP_MODE_COLOUR,
  fam0 0x171000 Reg.MEASURE_LOOP_MODE_NOZZLE,
  fam0 0x171000 Reg.MEASURE_LOOP_MODE_ALIGN,
  fam0 0x171004 Reg.MEASURE_ALIGN_REF_PLANE,
  fam0 0x171008 Reg.MEASURE_WORK_LO,
  fam0 0x17100C Reg.MEASURE_WORK_HI,
  fam0 0x17100C Reg.MEASURE_WORK_HI_VALID,
  fam0 0x171010 Reg.MEASURE_COLOUR_LIMIT,
  fam0 0x171014 Reg.MEASURE_NOZZLE_LIMIT,
  fam0 0x171018 Reg.MEASURE_ALIGN_LIMIT,
  fam0 0x17101C Reg.MEASURE_COLOUR_CFG_CORR_MAX,
  fam0 0x17101C Reg.MEASURE_COLOUR_CFG_GAIN,
  fam1 0x171100 4 0x80 Reg.MEASURE_PL_CTRL_COLOUR_EN,
  fam1 0x171100 4 0x80 Reg.MEASURE_PL_CTRL_NOZZLE_EN]

/-- Register block 23, families of its fields, part 1. -/
def famsOf23_1 : List (Nat → Option Fld) := [
  fam1 0x171100 4 0x80 Reg.MEASURE_PL_CTRL_ALIGN_EN,
  fam1 0x171100 4 0x80 Reg.MEASURE_PL_CTRL_FLIP_REPEAT,
  fam1 0x171100 4 0x80 Reg.MEASURE_PL_CTRL_PORT,
  fam1 0x171100 4 0x80 Reg.MEASURE_PL_CTRL_CH,
  fam1 0x171100 4 0x80 Reg.MEASURE_PL_CTRL_LAT_AXIS,
  fam1 0x171100 4 0x80 Reg.MEASURE_PL_CTRL_LAT_EN,
  fam1 0x171100 4 0x80 Reg.MEASURE_PL_CTRL_LEN_BASE,
  fam1 0x171104 4 0x80 Reg.MEASURE_PL_X0,
  fam1 0x171108 4 0x80 Reg.MEASURE_PL_XS,
  fam1 0x17110C 4 0x80 Reg.MEASURE_PL_YS,
  fam1 0x171110 4 0x80 Reg.MEASURE_PL_CAM_DIST,
  fam1 0x171114 4 0x80 Reg.MEASURE_PL_LADDER_LINE,
  fam1 0x171118 4 0x80 Reg.MEASURE_PL_TICK_LINE,
  fam1 0x17111C 4 0x80 Reg.MEASURE_PL_LADDER_S,
  fam1 0x17111C 4 0x80 Reg.MEASURE_PL_LADDER_DASH,
  fam1 0x17111C 4 0x80 Reg.MEASURE_PL_LADDER_GAP,
  fam1 0x17111C 4 0x80 Reg.MEASURE_PL_LADDER_MISSES,
  fam1 0x171120 4 0x80 Reg.MEASURE_PL_RATIO_DEAD_RATIO,
  fam1 0x171124 4 0x80 Reg.MEASURE_PL_TICK_TW,
  fam1 0x171124 4 0x80 Reg.MEASURE_PL_TICK_TL]

/-- Register block 23, families of its fields, part 2. -/
def famsOf23_2 : List (Nat → Option Fld) := [
  fam1 0x171124 4 0x80 Reg.MEASURE_PL_TICK_WIN,
  fam1 0x171128 4 0x80 Reg.MEASURE_PL_MSTEP,
  fam1 0x17112C 4 0x80 Reg.MEASURE_PL_LAT_HOME,
  fam2 0x171130 4 0x80 8 0x4 Reg.MEASURE_PL_CORR,
  fam1 0x171150 4 0x80 Reg.MEASURE_PL_BAD_MAP,
  fam1 0x171150 4 0x80 Reg.MEASURE_PL_STATUS_REF_SEEN,
  fam1 0x171154 4 0x80 Reg.MEASURE_PL_SKIPPED,
  fam1 0x171158 4 0x80 Reg.MEASURE_PL_COUNTS_LADDER_SPLIT,
  fam1 0x171158 4 0x80 Reg.MEASURE_PL_COUNTS_REJECTED,
  fam1 0x17115C 4 0x80 Reg.MEASURE_PL_TICKS_LOST,
  fam1 0x172000 64 0x10 Reg.MEASURE_PATCH_CFG_ROI,
  fam1 0x172000 64 0x10 Reg.MEASURE_PATCH_CFG_PLANE,
  fam1 0x172000 64 0x10 Reg.MEASURE_PATCH_CFG_ZONE,
  fam1 0x172000 64 0x10 Reg.MEASURE_PATCH_CFG_ENABLE,
  fam1 0x172004 64 0x10 Reg.MEASURE_PATCH_TARGET,
  fam1 0x172004 64 0x10 Reg.MEASURE_PATCH_TARGET_SLOPE,
  fam1 0x172008 64 0x10 Reg.MEASURE_PATCH_BAND_DEAD_BAND]

/-- Register block 23. -/
def famsOf23 : List (Nat → Option Fld) := famsOf23_0 ++ famsOf23_1 ++ famsOf23_2

/-- Register block 24, families of its fields, part 0. -/
def famsOf24_0 : List (Nat → Option Fld) := [
  fam1 0x180040 4 0x100 Reg.MOTION_AX_POS_LO,
  fam1 0x180044 4 0x100 Reg.MOTION_AX_POS_HI,
  fam1 0x180048 4 0x100 Reg.MOTION_AX_POS_FRAC,
  fam1 0x18004C 4 0x100 Reg.MOTION_AX_VELOCITY,
  fam1 0x180050 4 0x100 Reg.MOTION_AX_TARGET_LO,
  fam1 0x180054 4 0x100 Reg.MOTION_AX_TARGET_HI,
  fam1 0x180058 4 0x100 Reg.MOTION_AX_STATUS_LOST,
  fam1 0x180058 4 0x100 Reg.MOTION_AX_STATUS_STALL,
  fam1 0x180058 4 0x100 Reg.MOTION_AX_STATUS_COMPARE_PASSED,
  fam1 0x180058 4 0x100 Reg.MOTION_AX_STATUS_MOVING,
  fam1 0x180058 4 0x100 Reg.MOTION_AX_STATUS_ENERGISED,
  fam1 0x180058 4 0x100 Reg.MOTION_AX_STATUS_HOLD,
  fam1 0x180058 4 0x100 Reg.MOTION_AX_STATUS_OVERSHOOT,
  fam1 0x180058 4 0x100 Reg.MOTION_AX_STATUS_LIMIT_NEG,
  fam1 0x180058 4 0x100 Reg.MOTION_AX_STATUS_LIMIT_POS,
  fam1 0x180058 4 0x100 Reg.MOTION_AX_STATUS_STARVED,
  fam1 0x180058 4 0x100 Reg.MOTION_AX_STATUS_OVERCURRENT,
  fam1 0x180058 4 0x100 Reg.MOTION_AX_STATUS_WAIT_TRIG,
  fam1 0x180058 4 0x100 Reg.MOTION_AX_STATUS_MODE,
  fam1 0x18005C 4 0x100 Reg.MOTION_AX_LOAD_ANGLE]

/-- Register block 24, families of its fields, part 1. -/
def famsOf24_1 : List (Nat → Option Fld) := [
  fam1 0x18005C 4 0x100 Reg.MOTION_AX_LOAD_ANGLE_VALID,
  fam1 0x180060 4 0x100 Reg.MOTION_AX_CHOP_BAND_A,
  fam1 0x180060 4 0x100 Reg.MOTION_AX_CHOP_BAND_B,
  fam1 0x180060 4 0x100 Reg.MOTION_AX_CHOP_FREQ_A,
  fam1 0x180060 4 0x100 Reg.MOTION_AX_CHOP_FREQ_B,
  fam1 0x180064 4 0x100 Reg.MOTION_AX_OFS_A,
  fam1 0x180064 4 0x100 Reg.MOTION_AX_OFS_B,
  fam1 0x180068 4 0x100 Reg.MOTION_AX_TABLE_ACTIVE_SET,
  fam1 0x180068 4 0x100 Reg.MOTION_AX_TABLE_RUNNING,
  fam1 0x180068 4 0x100 Reg.MOTION_AX_TABLE_SHADOW,
  fam1 0x180068 4 0x100 Reg.MOTION_AX_TABLE_SEGMENT,
  fam1 0x180068 4 0x100 Reg.MOTION_AX_TABLE_LAST,
  fam1 0x18006C 4 0x100 Reg.MOTION_AX_TABLE_COMMIT_LAST_INDEX,
  fam1 0x18006C 4 0x100 Reg.MOTION_AX_TABLE_COMMIT_GO,
  fam1 0x180070 4 0x100 Reg.MOTION_AX_COUNTS_STALLS,
  fam1 0x180070 4 0x100 Reg.MOTION_AX_COUNTS_LONG_CYCLES,
  fam1 0x180800 8 0x80 Reg.MOTION_SW_CTRL_EDGE,
  fam1 0x180800 8 0x80 Reg.MOTION_SW_CTRL_LATCH_SRC,
  fam1 0x180800 8 0x80 Reg.MOTION_SW_CTRL_STOP_MASK,
  fam1 0x180800 8 0x80 Reg.MOTION_SW_CTRL_STOP_MODE]

/-- Register block 24, families of its fields, part 2. -/
def famsOf24_2 : List (Nat → Option Fld) := [
  fam1 0x180800 8 0x80 Reg.MOTION_SW_CTRL_STUCK_MS,
  fam1 0x180804 8 0x80 Reg.MOTION_SW_STATUS_LEVEL,
  fam1 0x180804 8 0x80 Reg.MOTION_SW_STATUS_ARMED,
  fam1 0x180804 8 0x80 Reg.MOTION_SW_STATUS_LATCHED,
  fam1 0x180804 8 0x80 Reg.MOTION_SW_STATUS_STUCK,
  fam1 0x180804 8 0x80 Reg.MOTION_SW_STATUS_ENC_INVALID,
  fam1 0x180808 8 0x80 Reg.MOTION_SW_LATCHES,
  fam1 0x18080C 8 0x80 Reg.MOTION_SW_CAP_TB1,
  fam2 0x180810 8 0x80 8 0x8 Reg.MOTION_SW_CAP_LO,
  fam2 0x180814 8 0x80 8 0x8 Reg.MOTION_SW_CAP_HI,
  fam2 0x180000 4 0x100 16 0x4 Reg.MOTION_AX_CFG_WORD]

/-- Register block 24. -/
def famsOf24 : List (Nat → Option Fld) := famsOf24_0 ++ famsOf24_1 ++ famsOf24_2

/-- Register block 25, families of its fields, part 0. -/
def famsOf25_0 : List (Nat → Option Fld) := [
  fam1 0x190000 4 0x100 Reg.ZPHY_PORT_CONFIG_ENABLE,
  fam1 0x190000 4 0x100 Reg.ZPHY_PORT_CONFIG_WIDTH,
  fam1 0x190000 4 0x100 Reg.ZPHY_PORT_CONFIG_RATE,
  fam1 0x190000 4 0x100 Reg.ZPHY_PORT_CONFIG_RESTART,
  fam1 0x190004 4 0x100 Reg.ZPHY_PORT_EQ_PRE,
  fam1 0x190004 4 0x100 Reg.ZPHY_PORT_EQ_MAIN,
  fam1 0x190004 4 0x100 Reg.ZPHY_PORT_EQ_POST,
  fam1 0x190008 4 0x100 Reg.ZPHY_PORT_STATUS_STATE,
  fam1 0x190008 4 0x100 Reg.ZPHY_PORT_STATUS_WIDTH_USED,
  fam1 0x190008 4 0x100 Reg.ZPHY_PORT_STATUS_RATE_USED,
  fam1 0x190008 4 0x100 Reg.ZPHY_PORT_STATUS_IDLE,
  fam1 0x190008 4 0x100 Reg.ZPHY_PORT_STATUS_WIDTH_MISMATCH,
  fam1 0x190008 4 0x100 Reg.ZPHY_PORT_STATUS_LANE_ORDER,
  fam1 0x190008 4 0x100 Reg.ZPHY_PORT_STATUS_SKEW_ERR,
  fam1 0x190008 4 0x100 Reg.ZPHY_PORT_STATUS_LOCKED,
  fam1 0x190008 4 0x100 Reg.ZPHY_PORT_STATUS_SEEN_RX,
  fam1 0x190008 4 0x100 Reg.ZPHY_PORT_STATUS_LAST_CAUSE,
  fam1 0x19000C 4 0x100 Reg.ZPHY_PORT_UPS_COUNT,
  fam1 0x190010 4 0x100 Reg.ZPHY_PORT_DOWNS_COUNT,
  fam1 0x190014 4 0x100 Reg.ZPHY_PORT_UP_TIME_NS]

/-- Register block 25, families of its fields, part 1. -/
def famsOf25_1 : List (Nat → Option Fld) := [
  fam1 0x190800 16 0x40 Reg.ZPHY_LANE_STATUS_BIT_LOCK,
  fam1 0x190800 16 0x40 Reg.ZPHY_LANE_STATUS_MARKER_LOCK,
  fam1 0x190800 16 0x40 Reg.ZPHY_LANE_STATUS_POL_INV,
  fam1 0x190800 16 0x40 Reg.ZPHY_LANE_STATUS_SEEN_RX,
  fam1 0x190800 16 0x40 Reg.ZPHY_LANE_STATUS_IDLE_RX,
  fam1 0x190800 16 0x40 Reg.ZPHY_LANE_STATUS_ACTIVITY,
  fam1 0x190800 16 0x40 Reg.ZPHY_LANE_STATUS_LANE_RX,
  fam1 0x190800 16 0x40 Reg.ZPHY_LANE_STATUS_SKEW,
  fam1 0x190804 16 0x40 Reg.ZPHY_LANE_MARKER_ERR_COUNT,
  fam1 0x190808 16 0x40 Reg.ZPHY_LANE_STUFF_ERR_COUNT,
  fam1 0x19080C 16 0x40 Reg.ZPHY_LANE_SEED_ERR_COUNT,
  fam1 0x190810 16 0x40 Reg.ZPHY_LANE_PAD_MAX_BITS,
  fam1 0x190814 16 0x40 Reg.ZPHY_LANE_STUFFS_COUNT,
  fam0 0x191000 Reg.ZPHY_REFCLK_OK,
  fam0 0x191000 Reg.ZPHY_REFCLK_LOST,
  fam0 0x191000 Reg.ZPHY_REFCLK_FREQ_PPM]

/-- Register block 25. -/
def famsOf25 : List (Nat → Option Fld) := famsOf25_0 ++ famsOf25_1

/-- Register block 26, families of its fields, part 0. -/
def famsOf26_0 : List (Nat → Option Fld) := [
  fam1 0x1A0000 4 0x100 Reg.ZLINK_PORT_CFG_REPLAY_TIMEOUT_US,
  fam1 0x1A0000 4 0x100 Reg.ZLINK_PORT_CFG_REPLAY_LIMIT,
  fam1 0x1A0004 4 0x100 Reg.ZLINK_PORT_STATUS_LL_STATE,
  fam1 0x1A0004 4 0x100 Reg.ZLINK_PORT_STATUS_PAIR,
  fam1 0x1A0004 4 0x100 Reg.ZLINK_PORT_STATUS_PEER_HOST,
  fam1 0x1A0004 4 0x100 Reg.ZLINK_PORT_STATUS_PEER_ID,
  fam1 0x1A0004 4 0x100 Reg.ZLINK_PORT_STATUS_LL_CAUSE,
  fam1 0x1A0004 4 0x100 Reg.ZLINK_PORT_STATUS_PEER_FW,
  fam1 0x1A0008 4 0x100 Reg.ZLINK_PORT_CRC_ERRORS_COUNT,
  fam1 0x1A000C 4 0x100 Reg.ZLINK_PORT_REPLAYS_COUNT,
  fam1 0x1A0010 4 0x100 Reg.ZLINK_PORT_NAKS_SENT_COUNT,
  fam1 0x1A0014 4 0x100 Reg.ZLINK_PORT_TIMEOUTS_COUNT,
  fam1 0x1A0018 4 0x100 Reg.ZLINK_PORT_DISCARDS_COUNT,
  fam1 0x1A001C 4 0x100 Reg.ZLINK_PORT_MEMWR_REFUSED_COUNT,
  fam1 0x1A0020 4 0x100 Reg.ZLINK_PORT_TX_FLITS_COUNT,
  fam1 0x1A0024 4 0x100 Reg.ZLINK_PORT_RX_FLITS_COUNT,
  fam1 0x1A0028 4 0x100 Reg.ZLINK_PORT_UNACKED_FLITS,
  fam1 0x1A002C 4 0x100 Reg.ZLINK_PORT_PEER_CREDITS_P,
  fam1 0x1A002C 4 0x100 Reg.ZLINK_PORT_PEER_CREDITS_N,
  fam1 0x1A002C 4 0x100 Reg.ZLINK_PORT_PEER_CREDITS_C]

/-- Register block 26, families of its fields, part 1. -/
def famsOf26_1 : List (Nat → Option Fld) := [
  fam0 0x1A0800 Reg.ZLINK_CKPT_STATUS_CURRENT_HALF,
  fam0 0x1A0800 Reg.ZLINK_CKPT_STATUS_VALID,
  fam0 0x1A0800 Reg.ZLINK_CKPT_STATUS_RECEIVING,
  fam0 0x1A0804 Reg.ZLINK_CKPT_SEQ,
  fam0 0x1A0808 Reg.ZLINK_CKPT_ERRORS_COUNT]

/-- Register block 26. -/
def famsOf26 : List (Nat → Option Fld) := famsOf26_0 ++ famsOf26_1

/-- Register block 27, families of its fields, part 0. -/
def famsOf27_0 : List (Nat → Option Fld) := [
  fam0 0x1B0000 Reg.HIER_ID,
  fam0 0x1B0000 Reg.HIER_ID_MANAGER,
  fam0 0x1B0000 Reg.HIER_ID_PATH,
  fam0 0x1B0004 Reg.HIER_PARENT_ID,
  fam0 0x1B0004 Reg.HIER_PARENT_PORT,
  fam0 0x1B0008 Reg.HIER_WEIGHTS_SELF,
  fam0 0x1B0008 Reg.HIER_WEIGHTS_ZP1,
  fam0 0x1B0008 Reg.HIER_WEIGHTS_ZP2,
  fam0 0x1B0008 Reg.HIER_WEIGHTS_ZP3,
  fam0 0x1B000C Reg.HIER_BEACON_PERIOD_US,
  fam0 0x1B000C Reg.HIER_BEACON_LINE_EN,
  fam0 0x1B000C Reg.HIER_BEACON_LINE_ENC,
  fam0 0x1B0010 Reg.HIER_LINE_DIFF,
  fam0 0x1B0014 Reg.HIER_LINE_TOL,
  fam0 0x1B0018 Reg.HIER_STATUS_LINE_MISMATCH,
  fam0 0x1B0018 Reg.HIER_STATUS_DUP_ID,
  fam0 0x1B0018 Reg.HIER_STATUS_NODES,
  fam0 0x1B001C Reg.HIER_BEACONS_RX_COUNT,
  fam1 0x1B0100 63 0x4 Reg.HIER_NODE_ENTRY]

/-- Register block 27. -/
def famsOf27 : List (Nat → Option Fld) := famsOf27_0

/-- Register block 28, families of its fields, part 0. -/
def famsOf28_0 : List (Nat → Option Fld) := [
  fam0 0x1C0000 Reg.PAIR_CTRL_ENABLE,
  fam0 0x1C0000 Reg.PAIR_CTRL_WIRE,
  fam0 0x1C0000 Reg.PAIR_CTRL_MSG,
  fam0 0x1C0004 Reg.PAIR_STATUS_ROLE,
  fam0 0x1C0004 Reg.PAIR_STATUS_STATE,
  fam0 0x1C0004 Reg.PAIR_STATUS_PARTNER,
  fam0 0x1C0004 Reg.PAIR_STATUS_STRINGS_OK,
  fam0 0x1C0004 Reg.PAIR_STATUS_SIDE,
  fam0 0x1C0004 Reg.PAIR_STATUS_ILK_OUT,
  fam0 0x1C0004 Reg.PAIR_STATUS_ILK_IN,
  fam0 0x1C0004 Reg.PAIR_STATUS_HWDOG,
  fam0 0x1C0004 Reg.PAIR_STATUS_SIDE_CLASH,
  fam0 0x1C0008 Reg.PAIR_GAP_START_LO,
  fam0 0x1C000C Reg.PAIR_GAP_START_HI,
  fam0 0x1C0010 Reg.PAIR_GAP_END_LO,
  fam0 0x1C0014 Reg.PAIR_GAP_END_HI,
  fam0 0x1C0018 Reg.PAIR_DOZE_US,
  fam0 0x1C001C Reg.PAIR_COUNTS_TAKEOVERS,
  fam0 0x1C001C Reg.PAIR_COUNTS_STRING_FAULTS,
  fam1 0x1C0020 4 0x4 Reg.PAIR_ENC_OFFSET]

/-- Register block 28, families of its fields, part 1. -/
def famsOf28_1 : List (Nat → Option Fld) := [
  fam0 0x1C0030 Reg.PAIR_RESYNC_DONE_BYTES]

/-- Register block 28. -/
def famsOf28 : List (Nat → Option Fld) := famsOf28_0 ++ famsOf28_1

/-- The field families of a register block. -/
def famsOf (n : Nat) : List (Nat → Option Fld) :=
  match n with
  | 0 => famsOf0
  | 1 => famsOf1
  | 2 => famsOf2
  | 3 => famsOf3
  | 4 => famsOf4
  | 5 => famsOf5
  | 6 => famsOf6
  | 7 => famsOf7
  | 8 => famsOf8
  | 9 => famsOf9
  | 10 => famsOf10
  | 11 => famsOf11
  | 12 => famsOf12
  | 13 => famsOf13
  | 14 => famsOf14
  | 15 => famsOf15
  | 16 => famsOf16
  | 17 => famsOf17
  | 18 => famsOf17
  | 19 => famsOf17
  | 20 => famsOf17
  | 21 => famsOf21
  | 22 => famsOf22
  | 23 => famsOf23
  | 24 => famsOf24
  | 25 => famsOf25
  | 26 => famsOf26
  | 27 => famsOf27
  | 28 => famsOf28
  | _ => []

/-- The fields of the register word at an address, none where no register is defined (R73). -/
def fieldsAt (a : Nat) : List Fld := (famsOf (a / 0x10000)).filterMap (fun f => f a)

end Sys2Proof.Machine
end

