-- ==== Sys2Proof/Machine/SideUnits.lean ====
section
/-! DEFINITION. The parts of the state that belong to the cameras, the closed loops, the motion axes and the compression
engine: frames, loop state, axes, switches and job slots (10, 11, 13 and 15 of spec/). -/

namespace Sys2Proof.Machine

/-! ### Cameras (10_camera_pipeline.md) -/

/-- A frame, from its beginning to the end of its processing (R220 to R233). -/
structure CamFrame where
  port : Nat
  /-- Frame number (R220). -/
  num : Nat
  /-- The first line has been accepted: the record, the place and the capture below hold. -/
  placed : Bool
  /-- Record in force when its first line was accepted (R227). -/
  record : List Byte
  /-- It flows from the receiver into the pipeline; otherwise it goes through a raw slot (R228, R229). -/
  inline_ : Bool
  /-- Dropped whole (R229). -/
  dropped : Bool
  /-- Raw slot and its address. -/
  slot : Nat
  slotAddr : Nat
  /-- TB1 in ns and the counter of ENC_SEL at the first line. -/
  firstNs : Nat
  web : Int
  /-- Lines kept and lines discarded beyond FRAME_LINES. -/
  kept : Nat
  excess : Nat
  /-- Flags CRC, LEN and FIXED_ECC of the slot header. -/
  crc : Bool
  len : Bool
  fixed : Bool
  /-- Instant of the last accepted line, or of the beginning. -/
  lastAt : Nat
  /-- The frame has ended. -/
  ended : Bool
  /-- Last kept line as received, for a line whose CRC fails (R224). -/
  prev : List Nat
  /-- Lines held by the pipeline, and lines it has put out, three samples a column. -/
  rows : List (List Nat)
  outs : List (List Nat)
  /-- ROI records of its port when its processing began, by index. -/
  rois : Option (List (Nat × List Byte))
  /-- Slot of the output ring that it is written to, and its address. -/
  outSlot : Nat
  outAddr : Nat
  deriving DecidableEq, Repr

/-- A camera port. -/
structure CamPort where
  /-- The open frame. -/
  open_ : Option CamFrame
  /-- Next raw and output slots. -/
  rawNext : Nat
  outNext : Nat
  /-- End of the time-trigger pulse on CAM_TRIG (R234). -/
  trigEnd : Option Nat
  deriving DecidableEq, Repr

/-- Camera ports, pipeline and statistics. -/
structure CamSt where
  ports : List CamPort
  /-- Ended in-line frames whose processing has not ended, in order. -/
  inl : List CamFrame
  /-- Ended frames in raw rings, in the order of their processing (R230). -/
  queue : List CamFrame
  /-- A CAM_INLINE that waits for the end of the present in-line frame; `none` inside is no port (R231). -/
  change : Option (Option Nat)
  /-- MEAN and VARIANCE of each ROI (R236). -/
  stats : List (Nat × Nat)
  deriving DecidableEq, Repr

/-! ### Loops (11_colour_alignment_loop.md) -/

/-- A job on a plane as the camera may still see it: its sequence number, S, the plane's CPL and DELAY, the lines of a
repeat, and the lines that the plane has issued (R247, R250). -/
structure JobView where
  seq : Nat
  start : Int
  cpl : Nat
  delay : Nat
  repeatLines : Nat
  lines : Nat
  deriving DecidableEq, Repr

/-- The loops' state of a plane, beside its registers and the work area in DRAM. -/
structure LoopPlane where
  /-- WAIT_p, and whether the next line issued sets it (R242). -/
  wait : Int
  waitDue : Bool
  /-- Lines issued by the plane, and that count at each zone's previous evaluation (R244). -/
  issued : Nat
  evalAt : List Nat
  /-- CORR, B, LAST and PREV_D of each zone, and the zones whose EVT_LOOP_LIMIT has been raised (R244). -/
  corr : List Int
  budget : List Nat
  last : List Int
  prevD : List Int
  atLimit : List Bool
  /-- A tone load and a stitch load that still have to be issued (R245, R254). -/
  toneDue : Bool
  stitchDue : Bool
  /-- New dead nozzles, as (row, head × M + nozzle), whose load is due or under way; their events follow its flip
  (R248). -/
  dead : List (Nat × Nat)
  /-- Tables with a load of the loops copying or pending. -/
  loads : List Nat
  /-- Web spans of missed lines (R120, R242). -/
  spans : List (Int × Int)
  /-- Job and repeat whose split ladder was counted last (R247). -/
  split : Option (Nat × Nat)
  /-- Jobs that have ended on the plane. -/
  past : List JobView
  /-- CROSS of each head, ramps of each zone as (RAMP_START, RAMP_LEN), BAR and CUSTOM (R256). -/
  cross : List Int
  ramps : List (Nat × Nat)
  bar : Int
  custom : Bool
  /-- Consecutive frames that ask for a wide and for a narrow ramp (R253). -/
  wide : List Nat
  narrow : List Nat
  /-- mx and my of the latest frame measured, as fractions (R251). -/
  mx : Option (Int × Nat)
  my : Option (Int × Nat)
  /-- A bar move of the loop is under way on its axis (R255). -/
  barMove : Option Nat
  deriving DecidableEq, Repr

/-- The loops: planes, and for each patch the frame of the result last used (R243). -/
structure LoopSt where
  planes : List LoopPlane
  patches : List (Option Nat)
  /-- The alignment loop has entered run since it was off, and the reference plane has been measured since then
  (R251). -/
  ran : Bool
  refSeen : Bool
  deriving DecidableEq, Repr, Inhabited

/-! ### Motion (13_motion_axes.md) -/

/-- A target move: TARGET, and its limits in raw per-update units (R295). -/
structure Move where
  target : Int
  vm : Int
  ac : Int
  dc : Int
  tag : Nat
  deriving DecidableEq, Repr

/-- What an axis runs. -/
inductive AxisRun where
  | rest
  /-- A target move. -/
  | move (m : Move)
  /-- A table: its tag, segment, update within the segment, and where the segment started. -/
  | table (tag seg n : Nat) (p0 : Int) (v0 : Int)
  /-- Braking to rest; EVT_AXIS_DONE with the tag follows, unless there is none. -/
  | brake (tag : Option Nat)
  deriving DecidableEq, Repr

/-- One phase of an axis's chopper (R285). -/
inductive ChopPhase where
  | slow | drive | decay
  deriving DecidableEq, Repr

/-- A phase: its part of the cycle, the target of the cycle and of the one before, the start of the cycle, and the end of
the blanking time under way. -/
structure Chop where
  phase : ChopPhase
  ts : Int
  prevT : Nat
  start : Nat
  blank : Option Nat
  /-- The decay is FAST. -/
  fast : Bool
  /-- The microstep table entry in force (R289). -/
  entry : Nat
  /-- Sign of the present current as the comparators last showed it (R282). -/
  sense : Int
  /-- The correction of the DAC reference in force (R447). -/
  dacRef : Int
  deriving DecidableEq, Repr

/-- An axis. -/
structure Axis where
  /-- p and v, raw with 32 fraction bits. -/
  p : Int
  v : Int
  /-- p at the update before, from which the position runs to p (R290). -/
  pOld : Int
  /-- The axis record in force (R311). -/
  record : List Byte
  run : AxisRun
  brk : Bool
  ovs : Bool
  rev : Bool
  /-- A move that waits for the next update or for a trigger, and the tag of a table that waits to start. -/
  next : Option Move
  tableTag : Option Nat
  /-- The event of the awaited trigger has come (R293). -/
  trigSeen : Bool
  /-- AXIS_STOP or a switch stop for the next update: the mode (R302, R310). -/
  stop : Option Nat
  /-- Last segment of the committed shadow. -/
  shadowLast : Nat
  /-- Microstep index that the chopper follows (R290). -/
  index : Int
  /-- Changes of POSITION in the last 1 µs: the instant of each and the value before it (R308). -/
  hist : List (Nat × Int)
  /-- Consecutive updates above STALL_ANGLE (R305). -/
  stalls : Nat
  /-- MOVING cleared at this instant; IHOLD follows (R292). -/
  restAt : Option Nat
  phA : Chop
  phB : Chop
  /-- The captured words of the last read of POS_LO. -/
  cap : Option (List Nat)
  deriving DecidableEq, Repr

/-- A switch: no level has been accepted since reset, and the instant since which its active level has held after a
latch (R308, R309). -/
structure Switch where
  fresh : Bool
  since : Option Nat
  deriving DecidableEq, Repr

/-- Axes and switches. -/
structure MotionSt where
  axes : List Axis
  switches : List Switch
  /-- Instant of the last profile update. -/
  updateAt : Nat
  deriving DecidableEq, Repr

/-! ### What a checkpoint names (19_redundant_pair.md R412) -/

/-- A table load, PLOAD, PLOCK or PUNLOCK that a checkpoint names, for the standby to perform: a table's load with its
source, a load of the protected layer with RECTS, SRC and LEN, a lock with its token, an unlock. -/
inductive CkptOp where
  | load (plane table src len : Nat)
  | pload (plane rects src len : Nat)
  | plock (plane token : Nat)
  | punlock (plane : Nat)
  deriving DecidableEq, Repr

/-! ### Compression (15_compression.md) -/

/-- A job of a slot beside its registers: who asked, the part of the stream it is in (0 header, 1 tokens, 2 trailer), the
source position, the start of the pending literal run, the bytes used of the destination part, the CRC so far, and the
last 65,536 bytes of output of an unpacking job. -/
structure PackJob where
  tag : Nat
  unpack : Bool
  level : Nat
  src : Nat
  srcLen : Nat
  dst : Nat
  dstLen : Nat
  used : Nat
  part : Nat
  pos : Nat
  runFrom : Nat
  crc : Nat
  origLen : Nat
  consumed : Nat
  produced : Nat
  window : List Byte
  deriving DecidableEq, Repr

/-- The compression engine: a job in each slot that is not free, and PRODUCED as the last read of CONSUMED captured
it. -/
structure PackSt where
  slots : List (Option PackJob)
  caps : List (Option Nat)
  deriving DecidableEq, Repr

end Sys2Proof.Machine
end

