-- ==== Sys2Proof/Machine/Units.lean ====
section
/-! DEFINITION. The parts of the state that are not register fields, unit by unit: queues, counters and captures that
the rules of spec/ give the block. Every type here is plain data. -/

namespace Sys2Proof.Machine

/-! ### Packets, replies and events (02_command_packets.md) -/

/-- A reply packet before its trailer (R33, R37). -/
structure Reply where
  opcode   : Nat
  tag      : Nat
  target   : Nat
  flags    : Nat
  status   : Nat
  sequence : Nat
  data     : List Byte
  deriving DecidableEq, Repr

/-- An event packet (R52); `seq` is EVT_SEQ, `stamp` is STAMP and `args` are the 16 bytes of ARGS. -/
structure Evt where
  code   : Nat
  source : Nat
  device : Nat
  seq    : Nat
  lost   : Bool
  unsync : Bool
  fault  : Bool
  argLen : Nat
  stamp  : Nat
  args   : List Byte
  deriving DecidableEq, Repr

/-- An item on its way to the host: a reply for one interface, or an event with the interfaces it still has to leave
on (R39, R56). -/
inductive OutItem where
  | reply (on : Iface) (r : Reply)
  | event (up spi : Bool) (e : Evt)
  deriving DecidableEq, Repr

/-- An outstanding command (R38, R40), with the SRC that its link transaction carried (R382). -/
structure Cmd where
  h   : Hdr
  c   : HostCmd
  src : Nat
  deriving DecidableEq, Repr

/-- A command forwarded on a downlink and not yet answered (R46). -/
structure Fwd where
  port   : Nat
  opcode : Nat
  h      : Hdr
  deriving DecidableEq, Repr

/-- A rate-limit window of R501: the event code and the unit, the end of the window, the arguments of the first held
occurrence and the number held. -/
structure RWin where
  code  : Nat
  unit  : Nat
  endAt : Nat
  held  : Nat
  args  : List Byte
  deriving DecidableEq, Repr

/-- The command interpreter: outstanding and forwarded commands, out-queues, event numbering, the log and the windows
of R501. -/
structure HostIf where
  /-- Outstanding commands in arrival order, at most 64 (R38, R40). -/
  outstanding : List Cmd
  /-- A command under execution that waits to reply: DMA_ABORT until its bursts in flight have ended (R325). -/
  waiting : Option Cmd
  /-- Commands forwarded on downlinks, at most 64 for each (R46). -/
  forwarded : List Fwd
  /-- Forwarded commands answered because their downlink went down, and whose replies may still arrive (R46). -/
  late : List Fwd
  /-- Replies and events in the order they were produced (R39, R55). -/
  out : List OutItem
  /-- A discard under R55 that the next event queued reports as LOST. -/
  lostPending : Bool
  /-- EVT_SEQ of the next event (R52), 16 bits. -/
  evtSeq : Nat
  /-- FAULT_GROUPS of R50, 16 bits. -/
  faultGroups : Nat
  /-- Rate-limit windows in progress (R501). -/
  windows : List RWin
  /-- Log entries, oldest first, at most 1,024 (R58). -/
  log : List Evt
  /-- EVT_LOG_FULL has been raised since the last LOG_CLEAR (R59). -/
  logFullRaised : Bool
  /-- The bytes the device returned on the SPI in the last frame (R62, R63). -/
  spiReturned : List Byte
  /-- The reply that left just before a device reset (R50). -/
  parting : Option OutItem
  deriving DecidableEq, Repr

/-! ### Time bases (20_time_bases.md) -/

/-- A rate-corrected base, TB0 or TB3: its value in units of 1.25 attoseconds (a step of 1.25 ns is 10^9 units, so a
rate in ppb adds whole units), its rate offset in ppb and the slew left in the same units (R424, R427). -/
structure TBase where
  value : Nat
  rate  : Int
  slew  : Int
  deriving DecidableEq, Repr

/-- Time: `now` counts TB1 in steps of 1.25 ns since the last full reset. -/
structure TimeSt where
  now : Nat
  tb0 : TBase
  tb3 : TBase
  /-- Instant of the last time beacon on ZP0 (R429, R431). -/
  lastBeacon : Option Nat
  /-- A REFCLK_SYS loss that `CLK_STATUS.LOST` still reports holds firing off until a new print start (R16). -/
  fireInhibit : Bool
  deriving DecidableEq, Repr

/-! ### Zodan lanes, flits and transactions (16_link_physical.md, 17_link_transactions.md) -/

/-- A lane's receiver. -/
structure Lane where
  /-- Valid markers found in a row (R357). -/
  good : Nat
  /-- Consecutive blocks without a valid marker (R359 cause 1). -/
  missed : Nat
  /-- Consecutive valid markers with SEEN 1 (R358). -/
  seen1 : Nat
  /-- Consecutive valid markers with SEEN 0 (R359 cause 2). -/
  seen0 : Nat
  /-- Receiver scrambler state before the next block's payload, where known (R350). -/
  scr : Option Nat
  /-- Blocks counted since the first one accepted with SEEN 1 (R366). -/
  rxBlocks : Nat
  /-- The last valid marker's LANE was not the lane's position, its WIDTH was not the port's, and its skew passed 400 UI
  (PORTp.STATUS). -/
  badLane : Bool
  badWidth : Bool
  far : Bool
  /-- Transmitter scrambler state before the payload of the block in progress (R349). -/
  txScr : Nat
  /-- Marker of the block in progress (R351). -/
  txMarker : Nat
  /-- The transmitter's `last` and `run` at the end of the block before it (R354). -/
  txLast : Option Bool
  txRun : Nat
  /-- Line bits of the last block sent whole, stuffed bits and pad among them, in line order (R348, R352). -/
  txLine : List Bool
  deriving DecidableEq, Repr

/-- What a port is doing on its lanes (R358 to R365). -/
inductive PortPhase where
  /-- Disabled: lanes rest. -/
  | off
  /-- Held with its transmitters in electrical idle: REFCLK_ZL is not valid (R346), or the device rests (R363). -/
  | held
  /-- SEEN 0 blocks and lane clock settling before the wind-up burst (R360, steps 2 and 3). -/
  | settling
  /-- Training (R358). -/
  | training
  /-- Up (R358). -/
  | up
  /-- Idle (R363). -/
  | idle
  /-- Leaving idle: a wind-up burst was sent or received, and the port is not up again yet (R364, R365). -/
  | waking
  deriving DecidableEq, Repr

/-- A transaction class (R373). -/
structure Credit where
  /-- Limit from the peer's INIT. -/
  limit : Nat
  /-- DATA flits of the class sent since activation. -/
  sent : Nat
  /-- Latest CCOUNT received for the class. -/
  freed : Nat
  /-- DATA flits of the class received since activation. -/
  rx : Nat
  /-- Flits of the class freed since activation. -/
  rxFreed : Nat
  deriving DecidableEq, Repr

/-- A DATA flit in the replay buffer: its payload, and whether a transaction ends with it (R370). -/
structure Held where
  payload : List Byte
  ends    : Bool
  deriving DecidableEq, Repr

/-- A port: physical state and link layer. -/
structure Port where
  phase : PortPhase
  /-- The markers of the block in progress have SEEN 1 (R357). -/
  seenTx : Bool
  /-- Every lane is locked and the port deskewed: SEEN 1 follows from the next marker on (R357). -/
  seenDue : Bool
  /-- Blocks with SEEN 0 still owed after a link-down (R359). -/
  zeros : Nat
  /-- The port has taken its configuration into use since reset (R361). -/
  applied : Bool
  /-- WIDTH and RATE codes with which the transmitter sends (R344, R351). -/
  txWidth : Nat
  txRate : Nat
  /-- A wind-up burst precedes the marker of the block in progress (R364). -/
  txBurst : Bool
  /-- Payload bytes of the block in progress given so far (R347). -/
  txBlock : List Byte
  /-- Flits received since the first block accepted with SEEN 1 (R366). -/
  rxFlits : Nat
  /-- Start of the bring-up in progress, step 1 (UP_TIME). -/
  startAt : Nat
  /-- Instant at which the port last came up from training (R375 cause 1). -/
  upAt : Nat
  /-- PRE, MAIN, POST in use (R360). -/
  eqUsed : Nat × Nat × Nat
  /-- Order to enter idle in force since this instant (R388). -/
  idleOrder : Option Nat
  /-- Wind-up burst sent from idle and not yet answered, since this instant (R359 cause 6). -/
  burstAt : Option Nat
  /-- The port woke by its activity detector and locks by R357 without the SEEN 0 handshake (R365). -/
  woken : Bool
  /-- INIT flits still to send before the link layer needs no more of them (R369, R392). -/
  initOwed : Bool
  /-- A valid INIT has been received since the port came up (R369). -/
  initRx : Bool
  /-- DATA flits sent for the first time since activation (SEQ is this modulo 1,024). -/
  sentSeq : Nat
  /-- DATA flits acknowledged since activation. -/
  acked : Nat
  /-- The replay buffer: flits `acked` to `sentSeq − 1` (R370). -/
  replay : List Held
  /-- Index in `replay` of the next flit of a replay in progress (R372). -/
  replayAt : Option Nat
  /-- ACK named by the NAK whose replay is in progress (R372). -/
  replayAck : Option Nat
  /-- Number of consecutive replays that begin at `acked` (R375 cause 3). -/
  sameReplays : Nat
  /-- Instant since which the oldest unacknowledged flit has seen no ACK progress (R372). -/
  ackAt : Nat
  /-- Next SEQ expected (R371). -/
  rxNext : Nat
  /-- A NAK is outstanding (R371). -/
  nakOut : Bool
  /-- A NAK flit is to be sent. -/
  nakOwed : Bool
  /-- Instant of the last NAK caused (R371). -/
  nakAt : Nat
  /-- Credits of classes P, N and C. -/
  credP : Credit
  credN : Credit
  credC : Credit
  /-- Class whose CCOUNT the next flit carries (R373). -/
  turn : Nat
  /-- Transactions to send, with the source that offered each: 0 the device; on ZP0 1 to 3 a downlink, on a
  downlink 1 the uplink (R383). -/
  txq : List (Nat × Trans)
  /-- Flits of the transaction in progress still to send (R374). -/
  cur : List Held
  /-- Class of the transaction in progress: 0 P, 1 N, 2 C, 3 none. -/
  curClass : Nat
  /-- REPLY and EVENT transactions sent and not fully acknowledged, with the count of flits that acknowledges each
  (R376). -/
  unacked : List (Nat × Trans)
  /-- MEMRD and MEMWR forwarded and not fully acknowledged, likewise (R376). -/
  fwdMem : List (Nat × Trans)
  /-- A STRING that is due (R383, R385). -/
  strDue : Option Trans
  /-- Bytes of the transaction received in part (R376). -/
  rxPart : List Byte
  /-- Transactions received whole that no command has consumed yet. -/
  rxDone : List Trans
  /-- Those of them received before the last link-down: they stand, outside the credits (R376). -/
  rxOld : List Trans
  /-- REPLY and EVENT transactions to send again first, in their original order (R376). -/
  again : List Trans
  /-- Rotation pointer and grants left of its branch in the present round (R27, R397). -/
  arbPtr : Nat
  arbLeft : Nat
  /-- The flit last sent (R366). -/
  txFlit : List Byte
  /-- A LINK_RESTART was answered, and its EVT_LINK_UP is still to come (R475). -/
  ordered : Bool
  deriving DecidableEq, Repr

/-- A node of the subtree table (18_hierarchy.md R394, R395). -/
structure Node where
  id     : Nat
  parent : Nat
  port   : Nat
  depth  : Nat
  deriving DecidableEq, Repr

/-- Hierarchy: the subtree table, and the sequence numbers of the manager's beacons (R399). -/
structure HierSt where
  nodes : List Node
  /-- TB0 in ns when the manager last sent beacons (R399). -/
  beaconAt : Option Nat
  seqTime : Nat
  seqLine : Nat
  deriving DecidableEq, Repr

/-! ### Memory (12_raster_memory.md) -/

/-- A write that waits for the zero fill of its region (R269). -/
structure HeldWrite where
  addr : Nat
  data : List Byte
  deriving DecidableEq, Repr

/-- A write accepted and not yet acknowledged (R263, R313): its memory channel, whether it is mirrored to the standby (R410),
its bytes, for a MEMWR of ZP0 its SRC and the instant of its arrival (R382), for a DMA channel's write that channel and its
pass, and whether it is a read-modify-write of a block that was uncorrectable when it was queued (R262). -/
structure WReq where
  ch     : Nat
  mirror : Bool
  addr   : Nat
  data   : List Byte
  src    : Option (Nat × Nat)
  chan   : Option (Nat × Nat)
  rmw    : Bool
  deriving DecidableEq, Repr

/-- An entry of the uncorrectable-error log (R278). -/
structure UeEnt where
  addr      : Nat
  requester : Nat
  plane     : Nat
  line      : Nat
  web       : Int
  at_       : Nat
  repeats   : Nat
  deriving DecidableEq, Repr

/-- A MEM_FILL under way (R503): who asked, what it writes, and the bytes it has written so far. -/
structure MemFill where
  tag     : Nat
  iface   : Iface
  addr    : Nat
  len     : Nat
  pattern : Nat
  done    : Nat
  deriving DecidableEq, Repr

/-- Training values of a channel (R265 to R268): accepted centres per DQ, the oscillator baseline, tap values and
their targets, the instant of the last tap step, and whether a tracking run is under way. -/
structure Chan where
  centres : List Int
  osc     : Nat
  taps    : List Int
  targets : List Int
  stepAt  : Option Nat
  running : Bool
  deriving DecidableEq, Repr

/-- The memory controller. -/
structure MemSt where
  /-- Valid bits of the 229,376 regions (R269). -/
  valid : List (Nat × Bool)
  /-- Ranges of bytes, from the first to before the last, that hold undefined data, rising with gaps between them (R271,
  R272, R324). -/
  undef : List (Nat × Nat)
  /-- Block addresses that are uncorrectable, and that hold a correctable error (R261). -/
  ue : List Nat
  ce : List Nat
  /-- Uncorrectable reads that are counted already: the instant, the requester and the block (R276). -/
  met : List (Nat × Nat × Nat)
  /-- Blocks whose out-of-turn rewrite is pending (R275). -/
  rewrites : List Nat
  /-- Regions being filled with zeros, and the writes that wait for them (R269). -/
  filling : List Nat
  held : List HeldWrite
  /-- Writes accepted and not acknowledged, oldest first (R263). -/
  writes : List WReq
  /-- Next block of the scrubber, start of its lap, and blocks corrected in it (R274). -/
  scrubNext : Nat
  lapStart : Nat
  lapCorrected : Nat
  /-- The uncorrectable-error log, oldest first, at most 8 (R278). -/
  ueLog : List UeEnt
  fills : List MemFill
  chans : List Chan
  deriving DecidableEq, Repr

/-! ### Temperature and calibration (21_thermal_calibration.md) -/

/-- A tap unit of R448: its last accepted values, the taps in use, the sensor's used value at the last accepted result,
and the instant of its last step. -/
structure TapUnit where
  accepted : List Int
  taps     : List Int
  temp     : Option Int
  stepAt   : Option Nat
  deriving DecidableEq, Repr

/-- A CAL_RUN whose measurements have not all ended (R449): the targets left, by bit, and whether a unit was
rejected. -/
structure CalRun where
  tag      : Nat
  iface    : Iface
  left     : Nat
  rejected : Bool
  deriving DecidableEq, Repr

/-- The housekeeping round and the tap units. -/
structure ThermSt where
  /-- A round is running (R438). -/
  round : Bool
  /-- Streak of each of the 20 sensors (R439). -/
  streak : List Nat
  /-- Consecutive rounds with a reference fault (R441). -/
  refFaults : Nat
  /-- Tap units: 16 lanes, 48 head ports, 16 D-PHY lanes (R448). -/
  lanes : List TapUnit
  heads : List TapUnit
  dphy  : List TapUnit
  /-- CAL_RUN commands measuring (R449). -/
  runs : List CalRun
  /-- Units of targets 1 to 3 that a tracking run measures, as (target, unit) (R450). -/
  tracking : List (Nat × Nat)
  /-- Corrections of the chopper DAC reference and of the converter reference as the last round computed them, and that of
  the converter reference in force (R447). -/
  dacNext : Int
  adcNext : Int
  adcRef : Int
  deriving DecidableEq, Repr

/-! ### Redundant pair (19_redundant_pair.md) -/

/-- One string as received (R415). -/
structure StringSt where
  /-- Instant of the last edge, or of the last valid STRING; before the first, the start of the string. -/
  last : Option Nat
  /-- An edge has been seen (wire string). -/
  edge : Bool
  /-- Consecutive intervals below 25 µs (wire string). -/
  short : Nat
  silent  : Bool
  faulted : Bool
  /-- EVT_STRING_FAULT has been raised and the string is not normal again. -/
  raised : Bool
  deriving DecidableEq, Repr

/-- The pair. -/
structure PairSt where
  /-- End of the listen of R406. -/
  listenEnd : Option Nat
  /-- ILK_IN has been low without interruption since this instant (R403). -/
  ilkLowSince : Option Nat
  /-- Instant ILK_OUT was raised (R403). -/
  ilkRaised : Option Nat
  /-- A device that hands over keeps ILK_OUT high up to this instant, for its trains in progress (R418). -/
  ilkHold : Nat
  /-- ILK_OUT is to be raised as soon as R403 allows. -/
  ilkWanted : Bool
  /-- After the pending raise the device takes over (R419). -/
  takeover : Bool
  wire : StringSt
  msg  : StringSt
  /-- Level of STRING_OUT (R414). -/
  strOut : Bool
  /-- Instant at which the last STRING of the schedule became due; none before the first (R414). -/
  strAt : Option Nat
  strSeq : Nat
  /-- FAULT_CODE being signalled, 0 none (R414). -/
  faultCode : Nat
  /-- CAUSE of the switch-over in progress, while its gap is open (R421). -/
  gapCause : Option Nat
  /-- While the gap is open: the lead plane's GAP_START and its interpolated position at the decision to take over, raw
  with 64 fraction bits (R421). -/
  gapStart : Int
  gapDecision : Int
  /-- CKPT_SEQ of the last checkpoint sent, its instant, and the lines issued since (R411). -/
  ckptSeq : Nat
  ckptAt : Nat
  ckptLines : Nat
  /-- CKPT_SEQ the standby's last STRING reported (R412). -/
  peerCkpt : Nat
  /-- Table flips held for a READY standby: plane, table, and the CKPT_SEQ that releases the flip (R412). -/
  heldFlips : List (Nat × Nat × Nat)
  /-- Checkpoint being received: CKPT_SEQ and the next OFFSET (R387). -/
  ckptRx : Option (Nat × Nat)
  /-- Encoder counters latched at the FIRST flit of the checkpoint being received, and at the one current. -/
  latchRx : List Int
  /-- The standby lost ZP3 or a checkpoint and returns to RESYNC once ZP3 is active (R412). -/
  lost : Bool
  /-- Encoder counters that the active latched at the FIRST flit of the checkpoint it sent last (R411). -/
  latchTx : List Int
  /-- Start of RESYNC, and whether a checkpoint has become current since (R423). -/
  resyncAt : Option Nat
  ckptNew : Bool
  /-- The active's copy for a rejoining standby: the next 4,096-byte piece of DRAM to send. -/
  copyNext : Option Nat
  /-- The copy for the standby's present RESYNC has been sent whole. -/
  copyOver : Bool
  /-- Last mirror or checkpoint traffic while a standby is awake (R413). -/
  dozeFrom : Nat
  /-- Last edge on STRING_OUT, from which the hardware watchdog runs (R404). -/
  wdogAt : Nat
  /-- A collision was met and ILK_IN has not fallen since (R403). -/
  clash : Option Nat
  /-- Interpolated positions of the encoders at the last sign of life of the partner (R420). -/
  lifePos : List Int
  deriving DecidableEq, Repr

/-! ### OTP, firmware, supplies and the power ladder (22_otp_firmware_security.md, 23_power_reset_ladder.md) -/

/-- OTP and patches. -/
structure OtpSt where
  /-- Generations 0 to 3, 64 bytes each (R452). -/
  gens : List (List Byte)
  /-- Key slots, 32 bytes each (R456). -/
  keys : List (List Byte)
  /-- RECORD, KEYS, PATCH_OFF (R457). -/
  locks : Nat
  /-- The record in force and the generation it came from (R453). -/
  active : List Byte
  activeGen : Option Nat
  /-- Staging RAM of PATCH_LOAD, 256 KiB (R458). -/
  staging : List Host.Cell
  /-- Patch RAM, and the patch in force: PATCH_ID and FW_MINOR (R461). -/
  patchRam : List Host.Cell
  patch : Option (Nat × Nat)
  deriving DecidableEq, Repr

/-- A PMBus transaction in progress (R469). -/
inductive PmOp where
  | operation
  | voutMode
  | voutCommand (mv : Nat)
  | readVout
  | readIout
  | statusWord
  deriving DecidableEq, Repr

/-- Supplies, reset and the ladder. -/
structure PowerSt where
  /-- Levels of RESET_N and PWRGOOD. -/
  resetN : Bool
  pwrGood : Bool
  /-- VAUX and VIO are within their operating range: the relay runs and the bridge outputs are released (R98, R283). -/
  supplyOk : Bool
  /-- PWRGOOD has fallen since the last rise of RESET_N (RESET_CAUSE). -/
  causePwrgood : Bool
  /-- The boot in progress is a start-up, which trains the DRAM, and not a firmware restart (R265, R502). -/
  startup : Bool
  /-- PMBus transactions to make, the first in progress (R469, R470). -/
  pmQueue : List PmOp
  /-- Exponent read with VOUT_MODE (R469), and the code of the last VOUT_COMMAND where that exponent was known (R470). -/
  voutExp : Option Int
  voutCode : Option Nat
  /-- Voltage in force in mV, and the instant from which a commanded one is (R470). -/
  vcore : Nat
  settleAt : Option (Nat × Nat)
  /-- Consecutive windows with a low and with a high print margin (R19). -/
  lowWindows : Nat
  highWindows : Nat
  /-- Pixels for which the raster fetch, the compositor and the halftoner count in the last window: those it did, or its RATE
  in a window without work; none before the first window with work (R18). -/
  paceWork : List (Option Nat)
  /-- Pixel-path pace of the last 8 windows, in pixels per second (R21). -/
  paceHist : List Nat
  /-- Consecutive rounds in which channel 28 read below 720 mV (R472). -/
  lowRounds : Nat
  /-- Entry into a ladder state that has been answered: state and wake port (R475). -/
  entry : Option (Nat × Nat)
  /-- A wake held until entry completes (R476). -/
  wakeHeld : Option Nat
  /-- The standby rests in L2 by itself (R413). -/
  dozing : Bool
  /-- L1 was reached from L2 to L4, and no LADDER_SET has come since (R476). -/
  stay : Bool
  deriving DecidableEq, Repr

/-! ### Boundary scan (24_package_balls.md) -/

/-- The six instructions of R487. -/
inductive TapInstr where
  | bypass | idcode | samplePreload | extest | clamp | highz
  deriving DecidableEq, Repr

/-- The test access port: the instruction in force, the boundary register's update latches in scan order, what its
cells captured last (none: high-impedance), and the bits last shifted out on TDO. -/
structure TapSt where
  instr : TapInstr
  boundary : List Bool
  captured : List (Option Bool)
  shifted : List Bool
  deriving DecidableEq, Repr

end Sys2Proof.Machine
end

