-- ==== Sys2Proof/Machine/State.lean ====
section
/-! DEFINITION. The state of the block, the reasons for which a step stops, and the state right after reset. -/

namespace Sys2Proof.Machine

/-- Faults. The spec gives the block no way to stop: every error is a status, an event or a register bit. -/
inductive Fault where
  /-- Raised by nothing: no rule of spec/ halts the block. Safe. -/
  | halted
  deriving DecidableEq, Repr

/-- Refusals. -/
inductive Refusal where
  /-- Answered by the dispatch for a command that has no meaning yet, named by its mnemonic. Safe: the run stops. -/
  | notModelled (mnemonic : String)
  deriving DecidableEq, Repr

/-- The state. `pending` and `free` are the model's own; every other field is state that spec/ gives the block. -/
structure State where
  /-- Waiting commands, first in, first out. -/
  pending : List Instr
  /-- Counter that free values are taken from (log 4). -/
  free : Nat
  /-- Time bases (20_time_bases.md). -/
  time : TimeSt
  /-- Register fields that differ from their reset value, by field key: what a read returns (00_scope.md R3). -/
  regs : List (Nat × Nat)
  /-- For each write-1-to-clear field that hardware has set: the instant at which it last did, and the bits set then. They
  stay set over a clearing write of the same instant (00_scope.md R3). -/
  just : List (Nat × Nat × Nat)
  /-- Values in force of flipped (RWF) register fields that differ from their reset value (00_scope.md R4). -/
  act : List (Nat × Nat)
  /-- DRAM bytes that are not 0 (12_raster_memory.md). -/
  dram : List Host.Cell
  /-- Table memory bytes in bank 0, and in bank 1 of the banked tables, that differ from their reset contents
  (03_address_map.md R68). -/
  tab0 : List Host.Cell
  tab1 : List Host.Cell
  mem : MemSt
  encs : List Enc
  cmps : List Cmp
  ssis : List Ssi
  job : JobSt
  line : LineSt
  tone : ToneSt
  heads : List HeadPort
  dma : List DmaCh
  cam : CamSt
  loops : LoopSt
  motion : MotionSt
  pack : PackSt
  host : HostIf
  lanes : List Lane
  ports : List Port
  hier : HierSt
  pair : PairSt
  otp : OtpSt
  power : PowerSt
  therm : ThermSt
  tap : TapSt
  deriving DecidableEq, Repr

/-! ### Reset -/

/-- A base that starts from 0 s (R424). -/
def TBase.zero : TBase := ⟨0, 0, 0⟩

/-- Mark: DESIGN CHOICE, log 5. -/
def HostIf.init : HostIf := ⟨[], none, [], [], [], false, 0, 0, [], [], false, [], none⟩

/-- Mark: DESIGN CHOICE, log 5. -/
def TimeSt.init : TimeSt := ⟨0, .zero, .zero, none, false⟩

/-- A lane before its first marker; the transmitter's state is R349's for lane `k` of its port. -/
def Lane.init (k : Nat) : Lane :=
  { good := 0, missed := 0, seen1 := 0, seen0 := 0, scr := none, rxBlocks := 0, badLane := false, badWidth := false,
    far := false, txScr := 0x1D0C5A71 ^^^ k, txMarker := 0, txLast := none, txRun := 0, txLine := [] }

def Credit.init : Credit := ⟨0, 0, 0, 0, 0⟩

/-- A port at reset: an enabled port waits for REFCLK_ZL (R346, R361).
(Mark: DESIGN CHOICE, log 5; DEDUCED, log 13) -/
def Port.init (enabled : Bool) : Port :=
  { phase := if enabled then .held else .off, seenTx := false, seenDue := false, zeros := 0,
    applied := false, txWidth := 0, txRate := 0, txBurst := false, txBlock := [], rxFlits := 0, startAt := 0,
    upAt := 0, ackAt := 0, nakAt := 0, rxOld := [], again := [], eqUsed := (3, 48, 12), idleOrder := none,
    burstAt := none, woken := false, initOwed := false, initRx := false, sentSeq := 0, acked := 0, replay := [],
    replayAt := none, replayAck := none, sameReplays := 0, rxNext := 0, nakOut := false, nakOwed := false,
    credP := .init, credN := .init, credC := .init, turn := 0, txq := [], cur := [], curClass := 3, unacked := [],
    fwdMem := [], strDue := none, rxPart := [], rxDone := [], arbPtr := 0, arbLeft := 0, txFlit := [], ordered := false }

def HierSt.init : HierSt := ⟨[], none, 0, 0⟩

def StringSt.init : StringSt := ⟨none, false, 0, false, false, false⟩

/-- Mark: DESIGN CHOICE, log 5. -/
def PairSt.init : PairSt :=
  { listenEnd := none, ilkLowSince := some 0, ilkRaised := none, ilkWanted := false, takeover := false, wire := .init,
    msg := .init, strOut := false, strSeq := 0, faultCode := 0, gapCause := none, gapStart := 0, gapDecision := 0, ckptSeq := 0,
    ckptAt := 0, ckptLines := 0, ilkHold := 0, strAt := none, latchTx := [0, 0, 0, 0], peerCkpt := 0, heldFlips := [], ckptRx := none, latchRx := [0, 0, 0, 0], lost := false, resyncAt := none,
    ckptNew := false, copyNext := none, copyOver := false, dozeFrom := 0, wdogAt := 0,
    clash := none, lifePos := [0, 0, 0, 0] }

/-- Bytes 0 to 59 of the record that the blank defaults form (R452, R453). -/
def blankBody : List Byte :=
  [1, 0xFF, 0x04, 0] ++ leBytes 4 1 ++ List.replicate 12 0 ++ leBytes 2 0 ++ leBytes 2 800 ++ leBytes 2 0 ++
    List.replicate 34 0

/-- The record that the blank defaults form, with its CRC (R453). -/
def blankRecord : List Byte := blankBody ++ leBytes 4 (crc32c blankBody)

/-- A blank device as shipped (22_otp_firmware_security.md). (Mark: DESIGN CHOICE, log 5) -/
def OtpSt.init : OtpSt :=
  { gens := List.replicate 4 (List.replicate 64 0), keys := List.replicate 2 (List.replicate 32 0), locks := 0,
    active := blankRecord, activeGen := none, staging := [], patchRam := [], patch := none }

/-- Supplies right after the rise of RESET_N: the device commands VCORE to the floor (boot table, step 4).
(Mark: DESIGN CHOICE, log 5; DEDUCED, log 114) -/
def PowerSt.init : PowerSt :=
  { resetN := true, pwrGood := true, supplyOk := true, causePwrgood := false, startup := true,
    pmQueue := [.operation, .voutCommand 780], voutExp := none, voutCode := none, vcore := 780, settleAt := none,
    lowWindows := 0, highWindows := 0, paceWork := List.replicate 3 none, paceHist := [], lowRounds := 0, entry := none, wakeHeld := none,
    dozing := false, stay := false }

/-- An encoder at reset (R82, R95). (Mark: DESIGN CHOICE, log 5) -/
def Enc.init : Enc :=
  { count := 0, p := 2 ^ 63, v := 0, a := 0, latch := 0, lastA := none, lastB := none, lastEdge := 0, backward := false,
    runOnB := false, run := 0, settle := 0, bandwidth := 200, cap := none, hist := [],
    raw := 0, held := [0, 0, 0] }

def Cmp.init : Cmp := ⟨0, none, false, none⟩

def Ssi.init : Ssi := ⟨none, 0, 0⟩

def Ring.init : Ring := ⟨0, 0, false, none⟩

/-- Mark: DESIGN CHOICE, log 5. -/
def JobSt.init : JobSt :=
  { defs := List.replicate 4 none, running := none, queued := none, last := none, nextSeq := 0,
    rings := List.replicate 4 .init, cap := none }

/-- Mark: DESIGN CHOICE, log 5. -/
def PlaneSt.init : PlaneSt :=
  { profile := none, map := [], along := List.replicate 48 0,
    alongUse := List.replicate 48 0, lines := [], miss := none, refTick := none, marks := [], cap := none, pass := none,
    token := 0, pload := none, gapFrom := none }

def LineSt.init : LineSt := ⟨List.replicate 4 .init, [], false, 0, (1, 1), (1, 1)⟩

def ToneSt.init : ToneSt := ⟨[], List.replicate 4 []⟩

def RowSt.init : RowSt := ⟨none, none, 0, none, none, (0, 0)⟩

def HeadPort.init : HeadPort :=
  { shiftFrom := 0, shift := none, bits := [], rowA := .init, rowB := .init, closing := none, downAt := 0,
    flagged := 0, hot := 0, outside := false, sretFrom := 0, sretOut := false, padA := false, padB := false, bankBad := false }

def DmaCh.init : DmaCh := ⟨false, 0, 0, 0, false, [], false, 0⟩

def Chan.init : Chan := ⟨[], 0, [], [], none, false⟩

/-- Mark: DESIGN CHOICE, log 5. -/
def MemSt.init : MemSt :=
  { valid := [], undef := [(0, 0x380000000)], ue := [], ce := [], met := [], rewrites := [], filling := [], held := [],
    writes := [], scrubNext := 0, lapStart := 0, lapCorrected := 0, ueLog := [], fills := [],
    chans := List.replicate 8 .init }

def TapUnit.init : TapUnit := ⟨[], [], none, none⟩

/-- Mark: DESIGN CHOICE, log 5. -/
def ThermSt.init : ThermSt :=
  { round := false, streak := List.replicate 20 0, refFaults := 0, lanes := List.replicate 16 .init,
    heads := List.replicate 48 .init, dphy := List.replicate 16 .init, runs := [], tracking := [],
    dacNext := 0, adcNext := 0, adcRef := 0 }

/-- Mark: DESIGN CHOICE, log 5. -/
def TapSt.init : TapSt := ⟨.idcode, [], [], []⟩

/-- Mark: DESIGN CHOICE, log 5; DEDUCED, log 64. -/
def CamSt.init : CamSt := ⟨List.replicate 4 ⟨none, 0, 0, none⟩, [], [], none, List.replicate 256 (0, 0)⟩

/-- Mark: DESIGN CHOICE, log 5. -/
def LoopPlane.init : LoopPlane :=
  { wait := 0, waitDue := false, issued := 0, evalAt := List.replicate 16 0, corr := List.replicate 16 0,
    budget := List.replicate 16 0, last := List.replicate 16 0, prevD := List.replicate 16 0,
    atLimit := List.replicate 16 false, toneDue := false, stitchDue := false, dead := [], loads := [], spans := [],
    split := none, past := [], cross := List.replicate 48 0, ramps := List.replicate 48 (0, 0), bar := 0, custom := false,
    wide := List.replicate 48 0, narrow := List.replicate 48 0, mx := none, my := none, barMove := none }

def LoopSt.init : LoopSt := ⟨List.replicate 4 .init, List.replicate 64 none, false, false⟩

def Chop.init : Chop := ⟨.slow, 0, 0, 0, none, false, 0, 0, 0⟩

/-- An axis at reset: de-energised with p = 0 (R306), and the record of its table. (Mark: DESIGN CHOICE, log 5) -/
def Axis.init : Axis :=
  { p := 0, v := 0, pOld := 0, record := ((List.range 16).map axisRecordReset).flatMap (leBytes 4), run := .rest,
    brk := false, ovs := false, rev := false, next := none, tableTag := none, trigSeen := false, stop := none,
    shadowLast := 0, index := 0, hist := [], stalls := 0, restAt := none, phA := .init, phB := .init, cap := none }

/-- Mark: DESIGN CHOICE, log 5. -/
def MotionSt.init : MotionSt := ⟨List.replicate 4 .init, List.replicate 8 ⟨true, none⟩, 0⟩

/-- Mark: DESIGN CHOICE, log 5. -/
def PackSt.init : PackSt := ⟨List.replicate 8 none, List.replicate 8 none⟩

/-- The machine right after reset: the rise of RESET_N on a blank device after power-up.
(Mark: DESIGN CHOICE, log 5; DESIGN CHOICE, log 162) -/
def State.reset : State :=
  { pending := [], free := 0, time := .init, regs := [((Reg.ZPHY_PORT_CONFIG_ENABLE 0).key, 1)],
    just := [],
    act := [], dram := [], tab0 := [], tab1 := [], mem := .init, encs := List.replicate 4 .init,
    cmps := List.replicate 8 .init, ssis := List.replicate 2 .init, job := .init, line := .init, tone := .init,
    heads := List.replicate 48 .init, dma := List.replicate 32 .init,
    cam := .init, loops := .init, motion := .init, pack := .init, host := .init,
    lanes := (List.range 16).map (fun l => Lane.init (l % 4)),
    ports := [.init true, .init false, .init false, .init false],
    hier := .init, pair := .init, otp := .init, power := .init, therm := .init, tap := .init }

end Sys2Proof.Machine
end

