-- ==== Sys2Proof/Machine/Ops.lean ====
section
/-! DEFINITION. The operations every unit shares: register fields, free values, time, the log, the event queue, rate
windows and replies. -/

namespace Sys2Proof.Machine

/-! ### Register fields (00_scope.md R3, R4) -/

/-- The value of a register field. -/
def State.get (s : State) (f : Fld) : Nat := Sparse.get f.reset s.regs f.key

/-- A one-bit field. -/
def State.flag (s : State) (f : Fld) : Bool := decide (s.get f = 1)

/-- A field read as two's complement. -/
def State.getS (s : State) (f : Fld) : Int := sgn f.w (s.get f)

/-- Bits of a write-1-to-clear field that hardware has set at the present instant (R3). -/
def State.justSet (s : State) (f : Fld) : Nat :=
  let r := Sparse.get (0, 0) s.just f.key
  if r.1 = s.time.now then r.2 else 0

/-- What `just` holds once hardware gives a field the value `v`: the bits of a write-1-to-clear field that it sets; all of
`v` counts where the field is one bit (R3). -/
def State.noteSet (s : State) (f : Fld) (v : Nat) : List (Nat × Nat × Nat) :=
  if f.acc = .w1c ∧ v ≠ 0 then
    let old := Sparse.get f.reset s.regs f.key
    Sparse.put (0, 0) s.just f.key (s.time.now, s.justSet f ||| (if f.w = 1 then 1 else v - (v &&& old)))
  else s.just

/-- Set a field; the value keeps the low bits that fit. -/
def State.set (s : State) (f : Fld) (v : Nat) : State :=
  { s with regs := Sparse.put f.reset s.regs f.key (low f.w v), just := s.noteSet f (low f.w v) }

/-- A write of ones to a write-1-to-clear field: each clears its bit, but a bit that hardware set at this very instant
stays set (R3). -/
def State.clearOnes (s : State) (f : Fld) (x : Nat) : State :=
  let x := x - (x &&& s.justSet f)
  let old := s.get f
  { s with regs := Sparse.put f.reset s.regs f.key (old - (old &&& x)) }

/-- Set a one-bit field. -/
def State.setB (s : State) (f : Fld) (b : Bool) : State := s.set f b.toNat

/-- Set a two's-complement field. -/
def State.setS (s : State) (f : Fld) (i : Int) : State := s.set f (pat f.w i)

/-- Count in a field that wraps. -/
def State.inc (s : State) (f : Fld) : State := s.set f (s.get f + 1)

/-- Count `n` in a field that saturates. -/
def State.incSat (s : State) (f : Fld) (n : Nat) : State := s.set f (min (s.get f + n) (2 ^ f.w - 1))

/-- The value in force of a flipped field (R4). -/
def State.getA (s : State) (f : Fld) : Nat := Sparse.get f.reset s.act f.key

/-- A flipped one-bit field in force. -/
def State.flagA (s : State) (f : Fld) : Bool := decide (s.getA f = 1)

/-- A flipped two's-complement field in force. -/
def State.getAS (s : State) (f : Fld) : Int := sgn f.w (s.getA f)

/-- Hand the shadow value of a field over to the active set (R4). -/
def State.flip (s : State) (f : Fld) : State :=
  { s with act := Sparse.put f.reset s.act f.key (s.get f) }

/-- Flip a group of fields. -/
def State.flipAll (s : State) (fs : List Fld) : State := fs.foldl State.flip s

/-! ### Free values (log 4) -/

/-- A free value, and the state in which the next one is a different free value. (Mark: DESIGN CHOICE, log 4) -/
def State.fresh (s : State) : Nat := Config.free s.free

/-- Use one free value up. (Mark: DESIGN CHOICE, log 4) -/
def State.used (s : State) : State := { s with free := s.free + 1 }

/-! ### Time (20_time_bases.md R424 to R427) -/

/-- Steps of 1.25 ns in a microsecond and in a millisecond (R12). -/
def usSteps : Nat := 800
def msSteps : Nat := 800000

/-- Units of a rate-corrected base in a step and in a nanosecond. -/
def stepUnits : Nat := 1000000000
def nsUnits : Nat := 800000000

/-- Nanoseconds of a count of steps. -/
def stepsNs (n : Nat) : Nat := n * 5 / 4

/-- A rate-corrected base `n` steps later: the rate offset at all times, and the slew at 500 ppm until it is applied
whole (R427). -/
def TBase.advance (b : TBase) (n : Nat) : TBase :=
  let d := clampI (-(500000 * n : Nat)) (500000 * n : Nat) b.slew
  { value := ((b.value : Int) + n * ((stepUnits : Int) + b.rate) + d).toNat, rate := b.rate, slew := b.slew - d }

/-- Let time run to an instant; time never runs backward (log 2).
(Mark: DESIGN CHOICE, log 2; DESIGN CHOICE, log 148) -/
def State.elapse (s : State) (t : Nat) : State :=
  if t ≤ s.time.now then s
  else { s with time := { s.time with
    now := t,
    tb0 := s.time.tb0.advance (t - s.time.now),
    tb3 := s.time.tb3.advance (t - s.time.now) } }

/-- The present instant. -/
def State.now (s : State) : Nat := s.time.now

/-- The present value of a time base in ns (R425). TB2 counts 5 ns steps of the IRO, within 200 ppm of TB1. -/
def State.tbNs (s : State) (k : Nat) : Nat :=
  match k with
  | 0 => s.time.tb0.value / nsUnits
  | 1 => stepsNs s.time.now
  | 2 => ((stepsNs s.time.now : Int) * (1000000000 + clampI (-200000) 200000 Config.iroPpb) / 5000000000 * 5).toNat
  | _ => s.time.tb3.value / nsUnits

/-- Nanoseconds in a second. -/
def secNs : Nat := 1000000000

/-! ### Events and the log (02_command_packets.md R52 to R60, R501) -/

/-- Events of the queue (R55). -/
def OutItem.evt? : OutItem → Option Evt
  | .event _ _ e => some e
  | .reply _ _ => none

/-- Events in the queue. -/
def State.queued (s : State) : List Evt := s.host.out.filterMap OutItem.evt?

/-- STAMP: TB0 as the sequencer reads it, at most 20 µs after the occurrence; the delay is a free value (R53).
(Mark: DESIGN CHOICE, log 4) -/
def State.stamp (s : State) : Nat :=
  let ns := s.tbNs 0 + s.fresh % 20001
  low 34 (ns / secNs) * 2 ^ 30 + ns % secNs

/-- Drop the first item that satisfies a condition. -/
def dropFirst {α : Type} (p : α → Bool) : List α → List α
  | [] => []
  | a :: l => if p a then l else a :: dropFirst p l

/-- Whether an out item is a non-fault event. (Mark: DEDUCED, log 11) -/
def OutItem.nonFault : OutItem → Bool
  | .event _ _ e => !e.fault
  | .reply _ _ => false

/-- Count a discarded event, and mark the next one queued (R55). (Mark: DEDUCED, log 11) -/
def State.discardEvt (s : State) : State :=
  let s := s.incSat Reg.CMD_ERR_COUNT_EVT_LOST 1
  { s with host := { s.host with lostPending := true } }

/-- Append an event to the queue for the route in force; it carries a pending LOST (R55, R56).
(Mark: DEDUCED, log 11) -/
def State.pushEvt (s : State) (e : Evt) : State :=
  let r := s.get Reg.CMD_EVT_CTRL_ROUTE
  { s with host := { s.host with
    out := s.host.out ++ [.event (r != 1) (r != 0) { e with lost := s.host.lostPending }],
    lostPending := false } }

/-- Queue an event: the mask, the 240 entries open to every event and the 16 kept for faults (R55, R56).
(Mark: DEDUCED, log 11) -/
def State.queueEvt (s : State) (e : Evt) : State :=
  let q := s.queued
  let nf := (q.filter (fun x => x.fault)).length
  let nn := q.length - nf
  if e.fault then
    if q.length < 256 then s.pushEvt e
    else if nn = 0 then s.discardEvt
    else
      let s := { s with host := { s.host with out := dropFirst OutItem.nonFault s.host.out } }
      s.discardEvt.pushEvt e
  else if !bit (s.get Reg.CMD_EVT_CTRL_GROUP_MASK) (evtGroup e.code) then s
  else if 240 ≤ nn + (nf - 16) then s.discardEvt
  else s.pushEvt e

/-- Enter an event into the log, or count it dropped (R58, R59). -/
def State.logEvt (s : State) (e : Evt) : State :=
  if e.code = evLogFull then s
  else if e.fault || bit (s.get Reg.LOG_CTRL_GROUP_MASK) (evtGroup e.code) then
    if 1024 ≤ s.host.log.length then s.incSat Reg.LOG_STATUS_DROPPED 1
    else { s with host := { s.host with log := s.host.log ++ [e] } }
  else s

/-- The event as it is raised: its packet (R52). -/
def State.mkEvt (s : State) (code unit : Nat) (args : List Byte) : Evt :=
  { code := code, source := evtSource code unit, device := s.get Reg.HIER_ID, seq := s.host.evtSeq,
    lost := s.host.lostPending, unsync := s.flag Reg.TIME_STATUS_UNSYNC, fault := evtIsFault code,
    argLen := args.length, stamp := s.stamp, args := args ++ List.replicate (16 - args.length) 0 }

/-- Raise one event: number it, note its fault group, log it and queue it. -/
def State.raise1 (s : State) (code unit : Nat) (args : List Byte) : State :=
  let e := s.mkEvt code unit args
  let s := { s.used with host := { s.host with
    evtSeq := (s.host.evtSeq + 1) % 65536,
    faultGroups := if e.fault then s.host.faultGroups ||| 2 ^ evtGroup code else s.host.faultGroups } }
  (s.logEvt e).queueEvt e

/-- FULL_MARK in use: 0 acts as 1, values above 1,024 as 1,024 (LOG.CTRL). -/
def State.fullMark (s : State) : Nat := clampN 1 1024 (s.get Reg.LOG_CTRL_FULL_MARK)

/-- Raise an event; when it brings the log to FULL_MARK for the first time, EVT_LOG_FULL follows (R59).
(Mark: DESIGN CHOICE, log 169) -/
def State.raise (s : State) (code unit : Nat) (args : List Byte) : State :=
  let s := s.raise1 code unit args
  if !s.host.logFullRaised && decide (s.fullMark ≤ s.host.log.length) then
    { s with host := { s.host with logFullRaised := true } }.raise1 evLogFull 0 (leBytes 2 s.host.log.length)
  else s

/-- The arguments of a limited event as they stand when it is raised: a count of occurrences, or a running total
(R501). -/
def State.limitedArgs (s : State) (code : Nat) (n : Nat) (args : List Byte) : List Byte :=
  if code ∈ [evUnderrun, evOverspeed, evLineLate, evCamDrop] then spliceAt args 4 (leBytes 4 n)
  else if code = evCmdDropped then spliceAt args 0 (leBytes 4 (s.get Reg.CMD_ERR_COUNT_CRC))
  else args

/-- The window of a code and a unit. -/
def State.window? (s : State) (code unit : Nat) : Option RWin :=
  s.host.windows.find? (fun w => w.code == code && w.unit == unit)

/-- Put a window in place of any other of its code and unit. -/
def State.putWindow (s : State) (w : RWin) : State :=
  { s with host := { s.host with
    windows := w :: s.host.windows.filter (fun x => !(x.code == w.code && x.unit == w.unit)) } }

/-- Remove the window of a code and a unit. -/
def State.dropWindow (s : State) (code unit : Nat) : State :=
  { s with host := { s.host with
    windows := s.host.windows.filter (fun x => !(x.code == code && x.unit == unit)) } }

/-- The window, in TB1 steps, of each event that a rule limits. -/
def limitWindow (code : Nat) : Nat :=
  if code ∈ [evCmdDropped, evPaceLow, evHeadTemp] then 100 * msSteps else msSteps

/-- The end of a window: one event for the occurrences held, from which a new window starts (R501).
(Mark: DEDUCED, log 136) -/
def State.windowEnd (s : State) (code unit : Nat) : State :=
  match s.window? code unit with
  | none => s
  | some w =>
    if w.held = 0 then s.dropWindow code unit
    else (s.raise code unit (s.limitedArgs code w.held w.args)).putWindow
      { w with endAt := w.endAt + limitWindow code, held := 0, args := [] }

/-- An occurrence of a limited event: `n` things it counts, with its arguments (R501). -/
def State.raiseLimited (s : State) (code unit n : Nat) (args : List Byte) : State :=
  let s := match s.window? code unit with
    | some w => if w.endAt ≤ s.now then s.windowEnd code unit else s
    | none => s
  match s.window? code unit with
  | some w =>
    if s.now < w.endAt then s.putWindow { w with held := w.held + n, args := if w.held = 0 then args else w.args }
    else (s.raise code unit (s.limitedArgs code n args)).putWindow ⟨code, unit, s.now + limitWindow code, 0, []⟩
  | none => (s.raise code unit (s.limitedArgs code n args)).putWindow ⟨code, unit, s.now + limitWindow code, 0, []⟩

/-! ### Replies (R33, R37, R39, R40) -/

/-- Commands outstanding (R40): those that wait, the one that executes, and a DMA_ABORT that waits to reply. -/
def State.outCount (s : State) : Nat := s.host.outstanding.length + s.host.waiting.isSome.toNat

/-- A bit of the FLAGS byte of a header. -/
def hdrFlag (h : Hdr) (i : Nat) : Bool := bit h.flags i

/-- Queue a reply; QUIET suppresses one of status ST_OK. -/
def State.reply (s : State) (h : Hdr) (op status : Nat) (dup : Bool) (data : List Byte) : State :=
  if hdrFlag h flagQuiet && status == stOk then s
  else { s with host := { s.host with out := s.host.out ++ [.reply h.iface
    { opcode := op, tag := h.tag, target := s.get Reg.HIER_ID, flags := 1 + 8 * dup.toNat, status := status,
      sequence := h.sequence, data := data }] } }

/-- The result of a command: its status, its reply data, the state it leaves, and whether its reply waits. -/
structure Res where
  status : Nat
  data   : List Byte
  s      : State
  waits  : Bool := false

/-- ST_OK without data. -/
def Res.ok (s : State) : Res := ⟨stOk, [], s, false⟩
/-- ST_OK with data. -/
def Res.okData (d : List Byte) (s : State) : Res := ⟨stOk, d, s, false⟩
/-- Another status, without data. -/
def Res.err (st : Nat) (s : State) : Res := ⟨st, [], s, false⟩

/-- A command whose check must hold. -/
def Res.guard (ok : Bool) (st : Nat) (s : State) (k : Res) : Res := if ok then k else Res.err st s

/-- The first failed check of a list decides the status; none failed runs the command. -/
def Res.checks (l : List (Bool × Nat)) (s : State) (k : Res) : Res :=
  match l.find? (fun c => !c.1) with
  | some c => Res.err c.2 s
  | none => k

/-- EVT_CMD_DONE (event table): the opcode, tag, status, interface and result of a command that was accepted. -/
def State.cmdDone (s : State) (op tag status : Nat) (on : Iface) (result : Nat) : State :=
  s.raise evCmdDone 0 (leBytes 2 op ++ leBytes 2 tag ++ leBytes 2 status ++ [if on = .spi then 1 else 0, 0] ++
    leBytes 8 result)

/-! ### The form of an event's meaning -/

/-- What an event does at its instant. While RESET_N is low the device holds its pins and nothing else happens (R467).
(Mark: DESIGN CHOICE, log 2; DESIGN CHOICE, log 3) -/
def event (t : Nat) (f : State → State) (s : State) : Host.Outcome State Fault Refusal :=
  .next (if s.power.resetN then f (s.elapse t) else s.elapse t)

/-- The device runs: it is out of reset and in ladder state L0 or L1 (23_power_reset_ladder.md, ladder states). -/
def State.awake (s : State) : Bool := decide (s.get Reg.LADDER_STATE < 2)

/-- THERM LEVEL is 3: the throttled engines stand still (21_thermal_calibration.md R443). (Mark: DEDUCED, log 102) -/
def State.critical (s : State) : Bool := s.get Reg.THERM_STATUS_LEVEL == 3

/-- An event of an engine that runs in L0 and L1 only. (Mark: DESIGN CHOICE, log 2; DESIGN CHOICE, log 3) -/
def eventAwake (t : Nat) (f : State → State) (s : State) : Host.Outcome State Fault Refusal :=
  event t (fun s => if s.awake then f s else s) s

/-- An effect under the condition that makes the event occur; otherwise nothing happens (log 3).
(Mark: DESIGN CHOICE, log 3) -/
def State.when (s : State) (c : Bool) (f : State → State) : State := if c then f s else s

end Sys2Proof.Machine
end

