-- ==== Sys2Proof/Machine/Memory.lean ====
section
/-! DEFINITION. DRAM: valid bits, initialisation mode, fills, reads and writes of bytes, uncorrectable blocks
(12_raster_memory.md). -/

namespace Sys2Proof.Machine

/-- First address beyond DRAM, first of the protected window (03_address_map.md). -/
def dramEnd : Nat := 0x380000000
def protBase : Nat := 0x378000000
/-- Bytes of a region, number of regions, first protected region (R269, R270). -/
def regionBytes : Nat := 0x10000
def numRegions : Nat := 229376
def protRegion : Nat := 227328

/-- A byte range that lies in DRAM. -/
def inDram (a n : Nat) : Bool := decide (a + n ≤ dramEnd)
/-- A byte range that touches the protected window (R66, R67). -/
def touchesProt (a n : Nat) : Bool := decide (0 < n ∧ protBase < a + n ∧ a < dramEnd)

/-- The channel of a block address (R260). -/
def channelOf (a : Nat) : Nat := bits a 9 3
/-- The block that a byte lies in. -/
def blockOf (a : Nat) : Nat := a / 64 * 64

/-- The valid bit of a region (R269). -/
def State.validRegion (s : State) (r : Nat) : Bool := Sparse.get false s.mem.valid r

/-- Set or clear a region's valid bit. -/
def State.setValid (s : State) (r : Nat) (b : Bool) : State :=
  { s with mem := { s.mem with valid := Sparse.put false s.mem.valid r b } }

/-- Whether a region is in initialisation mode: all are in mode INIT, else those of an open recovery range (R271,
R273). (Mark: DEDUCED, log 10) -/
def State.initRegion (s : State) (r : Nat) : Bool :=
  s.flag Reg.MEMCTL_MODE_INIT ||
  (s.flag Reg.MEMCTL_RECOVER_FIRST_ACTIVE &&
    decide (s.get Reg.MEMCTL_RECOVER_FIRST_REGION ≤ r ∧
      r < s.get Reg.MEMCTL_RECOVER_FIRST_REGION + s.get Reg.MEMCTL_RECOVER_COUNT_REGIONS))

/-- Whether a byte holds defined data. (Mark: DEDUCED, log 10) -/
def State.definedByte (s : State) (a : Nat) : Bool := s.mem.undef.all (fun r => decide (a < r.1 ∨ r.2 ≤ a))

/-- A range less the bytes from `a` to before `b`. -/
def cutRange (a b : Nat) (r : Nat × Nat) : List (Nat × Nat) :=
  [(r.1, min r.2 a), (max r.1 b, r.2)].filter (fun x => decide (x.1 < x.2))

/-- The ranges less the bytes from `a` to before `b`. -/
def cutRanges (a b : Nat) (l : List (Nat × Nat)) : List (Nat × Nat) := if a < b then l.flatMap (cutRange a b) else l

/-- The ranges with the bytes from `a` to before `b`: one range takes in all that meet or touch them. -/
def joinRange (a b : Nat) (l : List (Nat × Nat)) : List (Nat × Nat) :=
  let near := l.filter (fun r => decide (a ≤ r.2 ∧ r.1 ≤ b))
  l.filter (fun r => decide (r.2 < a)) ++ (near.foldl (fun x r => min x r.1) a, near.foldl (fun x r => max x r.2) b) ::
    l.filter (fun r => decide (b < r.1))

/-- The canonical form of a list of ranges: none empty, rising, with a gap between any two. -/
def rangesWf (l : List (Nat × Nat)) : Bool :=
  l.all (fun r => decide (r.1 < r.2)) && decide (l.Pairwise (fun x y => x.2 < y.1))

/-- Bytes from an address on hold defined data. (Mark: DEDUCED, log 10) -/
def State.define (s : State) (a n : Nat) : State :=
  { s with mem := { s.mem with undef := cutRanges a (a + n) s.mem.undef } }

/-- Bytes from an address on hold undefined data. (Mark: DEDUCED, log 10) -/
def State.undefine (s : State) (a n : Nat) : State :=
  if n = 0 then s else { s with mem := { s.mem with undef := joinRange a (a + n) s.mem.undef } }

/-- What a read of one byte of DRAM returns: zero from an invalid region in normal service, a free value where the data
is undefined, else the byte held (R269, R271). (Mark: DEDUCED, log 10) -/
def State.shownByte (s : State) (a : Nat) (held : Byte) : Byte :=
  let r := a / regionBytes
  if s.validRegion r || s.initRegion r then (if s.definedByte a then held else Config.freeByte s.free a) else 0

/-- A read of one byte of DRAM. -/
def State.byteAt (s : State) (a : Nat) : Byte := s.shownByte a (Sparse.get 0 s.dram a)

/-- A range of DRAM as a read returns it. -/
def State.readMem (s : State) (a n : Nat) : List Byte :=
  (Sparse.slice (fun _ => 0) s.dram a n).zipIdx.map (fun x => s.shownByte (a + x.2) x.1)

/-- Whether reading a block reaches the DRAM: a read of an invalid region in normal service does not (R269). -/
def State.reaches (s : State) (a : Nat) : Bool := s.validRegion (a / regionBytes) || s.initRegion (a / regionBytes)

/-- The blocks of a range, in order. -/
def blocksIn (a n : Nat) : List Nat :=
  if n = 0 then [] else (List.range ((a + n - 1) / 64 - a / 64 + 1)).map (fun i => blockOf a + 64 * i)

/-- The uncorrectable blocks that a read of a range meets. -/
def State.badBlocks (s : State) (a n : Nat) : List Nat :=
  (blocksIn a n).filter (fun b => b ∈ s.mem.ue && s.reaches b)

/-- A range as a read returns it when every uncorrectable block reads as zeros (R276 requesters 0 and 6). -/
def State.readZeroed (s : State) (a n : Nat) : List Byte :=
  (s.readMem a n).zipIdx.map (fun x => if blockOf (a + x.2) ∈ s.mem.ue && s.reaches (a + x.2) then 0 else x.1)

/-- Store bytes from an address on. -/
def State.putBytes (s : State) (a : Nat) (bs : List Byte) : State :=
  { s with dram := Sparse.putRange (fun _ => 0) s.dram a bs }

/-- The pieces of a write, one for each block it touches; `n` bounds the recursion by the number of bytes. -/
def piecesOf : Nat → Nat → List Byte → List (Nat × List Byte)
  | 0, _, _ => []
  | n + 1, a, bs =>
    if bs.isEmpty then []
    else (a, bs.take (64 - a % 64)) :: piecesOf n (a + (64 - a % 64)) (bs.drop (64 - a % 64))

/-- A piece that covers a whole aligned block is written without reading (R262). -/
def wholeBlock (p : Nat × List Byte) : Bool := p.1 % 64 == 0 && p.2.length == 64

/-- Forget the errors of a block that has been written whole. -/
def State.cleanBlock (s : State) (b : Nat) : State :=
  { s with mem := { s.mem with
                               ue := s.mem.ue.filter (· != b), ce := s.mem.ce.filter (· != b),
                               rewrites := s.mem.rewrites.filter (· != b) } }

/-- Start the zero fill of an invalid region (R269). -/
def State.startFill (s : State) (r : Nat) : State :=
  if r ∈ s.mem.filling then s else { s with mem := { s.mem with filling := s.mem.filling ++ [r] } }

/-- Write one piece whose region needs no fill. In initialisation mode the write sets the region's valid bit, and the other
bytes of a block written in part take undefined values (R271). -/
def State.storePiece (s : State) (p : Nat × List Byte) : State :=
  let r := p.1 / regionBytes
  let s := if s.initRegion r then s.setValid r true else s
  let s := if wholeBlock p then s.cleanBlock p.1 else if s.initRegion r then s.undefine (blockOf p.1) 64 else s
  (s.define p.1 p.2.length).putBytes p.1 p.2

/-- A normal read that finds a corrected error (R275). -/
def State.meetCe (s : State) (b : Nat) : State :=
  let s := (s.incSat Reg.ECC_CE_COUNT 1).set Reg.ECC_CE_LAST_LO b
  let s := s.set Reg.ECC_CE_LAST_HI (b / 2 ^ 32)
  if b ∈ s.mem.rewrites then s else { s with mem := { s.mem with rewrites := s.mem.rewrites ++ [b] } }

/-- The read of a read-modify-write finds a corrected error: it is counted, and the block is written back corrected (R262,
R275). -/
def State.rmwRead (s : State) (b : Nat) : State :=
  if b ∈ s.mem.ce then
    let s := s.meetCe b
    { s with mem := { s.mem with ce := s.mem.ce.filter (· != b) } }
  else s

/-- Write one piece (R262, R269, R271). The Boolean says whether the block was refused because it is uncorrectable and
the write covers a part of it only. -/
def State.writePiece (s : State) (p : Nat × List Byte) : State × Bool :=
  let r := p.1 / regionBytes
  if s.initRegion r then (s.storePiece p, false)
  else if s.validRegion r then
    if wholeBlock p then (s.storePiece p, false)
    else if blockOf p.1 ∈ s.mem.ue then (s, true)
    else ((s.rmwRead (blockOf p.1)).storePiece p, false)
  else
    let s := s.startFill r
    ({ s with mem := { s.mem with held := s.mem.held ++ [⟨p.1, p.2⟩] } }, false)

/-- Write pieces in order; the blocks refused. -/
def State.writePieces (s : State) : List (Nat × List Byte) → State × List Nat
  | [] => (s, [])
  | p :: ps =>
    let (s, bad) := s.writePiece p
    let (s, l) := s.writePieces ps
    (s, if bad then blockOf p.1 :: l else l)

/-- A region's bytes all become zero, and its valid bit is set (R269). -/
def State.zeroFill (s : State) (r : Nat) : State :=
  let s := (s.setValid r true).inc Reg.MEMCTL_FILLS_COUNT
  let a := r * regionBytes
  { s with
    dram := Sparse.dropRange a (a + regionBytes) s.dram,
    mem := { s.mem with
      undef := cutRanges a (a + regionBytes) s.mem.undef,
      ue := s.mem.ue.filter (fun b => b / regionBytes != r),
      ce := s.mem.ce.filter (fun b => b / regionBytes != r),
      filling := s.mem.filling.filter (· != r) } }

/-- The end of a fill: zeros, the valid bit, then the writes that waited, in order (R269). -/
def State.finishFill (s : State) (r : Nat) : State :=
  if r ∈ s.mem.filling then
    let mine := s.mem.held.filter (fun h => h.addr / regionBytes == r)
    let s := s.zeroFill r
    let s := { s with mem := { s.mem with held := s.mem.held.filter (fun h => h.addr / regionBytes != r) } }
    mine.foldl (fun s h => s.storePiece (h.addr, h.data)) s
  else s

/-- A reader that meets a region being filled waits for the end of the fill (R269). -/
def State.waitFills (s : State) (a n : Nat) : State :=
  (s.mem.filling.filter (fun r => decide (r * regionBytes < a + n ∧ a < (r + 1) * regionBytes))).foldl
    State.finishFill s

/-- Every fill under way ends. -/
def State.waitAllFills (s : State) : State := s.mem.filling.foldl State.finishFill s

/-- Show the number of writes of each channel; a drain starts at 48 of them (R263). -/
def State.showQueues (s : State) : State :=
  (List.range 8).foldl (fun s c =>
    let n := (s.mem.writes.filter (fun w => w.ch == c)).length
    let s := s.set (Reg.MEMCTL_CH_STATUS_WRITES c) (min n 64)
    if 48 ≤ n && !s.flag (Reg.MEMCTL_CH_STATUS_DRAIN c) then
      (s.setB (Reg.MEMCTL_CH_STATUS_DRAIN c) true).inc (Reg.MEMCTL_CH_DRAINS_COUNT c)
    else s) s

/-- Accept writes into the queues of their channels, to be acknowledged by MEM_WRITE_ACK (R263, R313).
(Mark: DEDUCED, log 9) -/
def State.queueReqs (s : State) (ws : List WReq) : State :=
  { s with mem := { s.mem with writes := s.mem.writes ++ ws } }.showQueues

/-- The request of a piece of a write. -/
def reqOf (mirror : Bool) (p : Nat × List Byte) : WReq := ⟨channelOf p.1, mirror, p.1, p.2, none, none, false⟩

/-- Write bytes of DRAM as a source does: the pieces take effect, or wait for a fill, and enter the write queues. The
list holds the uncorrectable blocks that refused a partial write. (Mark: DEDUCED, log 9) -/
def State.writeMem (s : State) (mirror : Bool) (a : Nat) (bs : List Byte) : State × List Nat :=
  let ps := piecesOf bs.length a bs
  let (s, bad) := s.writePieces ps
  (s.queueReqs ((ps.filter (fun p => blockOf p.1 ∉ bad)).map (reqOf mirror)), bad)

/-- Write bytes whose acknowledgement is part of the same command's effect. -/
def State.writeAcked (s : State) (a : Nat) (bs : List Byte) : State × List Nat :=
  let (s, bad) := s.writePieces (piecesOf bs.length a bs)
  (s.waitFills a bs.length, bad)

/-- Enter an uncorrectable error in the ECC log (R278). -/
def State.logUe (s : State) (b req plane line : Nat) (web : Int) : State :=
  match s.mem.ueLog.getLast? with
  | some e =>
    if e.addr = b ∧ s.now ≤ e.at_ + 100 * msSteps then
      { s with mem := { s.mem with
        ueLog := s.mem.ueLog.dropLast ++ [{ e with repeats := min (e.repeats + 1) (2 ^ 32 - 1) }] } }
    else if 8 ≤ s.mem.ueLog.length then s.incSat Reg.ECC_UE_LOG_STATUS_OVERFLOW 1
    else
      let s := { s with mem := { s.mem with ueLog := s.mem.ueLog ++ [(⟨b, req, plane, line, web, s.now, 0⟩ : UeEnt)] } }
      s.raiseLimited evMemUncorrectable 0 1 (leBytes 8 b ++ leBytes 1 req ++ leBytes 1 plane ++ [0, 0] ++ leBytes 4 line)
  | none =>
    let s := { s with mem := { s.mem with ueLog := [(⟨b, req, plane, line, web, s.now, 0⟩ : UeEnt)] } }
    s.raiseLimited evMemUncorrectable 0 1 (leBytes 8 b ++ leBytes 1 req ++ leBytes 1 plane ++ [0, 0] ++ leBytes 4 line)

/-- An uncorrectable read by a requester: counted and logged in normal service (R276, R278), counted apart in initialisation
mode (R272), and not again where UNCORRECTABLE_READ has told of it at this instant. (Mark: DEDUCED, log 119) -/
def State.meetUe (s : State) (b req plane line : Nat) (web : Int) : State :=
  if (s.now, req, b) ∈ s.mem.met then s
  else if s.initRegion (b / regionBytes) then s.incSat Reg.ECC_INIT_ERRORS 1
  else (s.incSat Reg.ECC_UE_COUNT 1).logUe b req plane line web

/-- Uncorrectable reads of several blocks, not print fetches. -/
def State.meetUes (s : State) (bs : List Nat) (req : Nat) : State :=
  bs.foldl (fun s b => s.meetUe b req 0 0xFFFFFFFF 0) s

/-- The corrected errors that a read of a range finds. -/
def State.meetCes (s : State) (a n : Nat) : State :=
  ((blocksIn a n).filter (fun b => b ∈ s.mem.ce && s.reaches b)).foldl State.meetCe s

/-- A read of a range by a source: it waits for fills, corrects what it can, and reports the uncorrectable blocks. -/
def State.fetch (s : State) (a n : Nat) : State × List Byte × List Nat :=
  let s := s.waitFills a n
  let bad := s.badBlocks a n
  let d := s.readMem a n
  ((s.meetCes a n).used, d, bad)

/-- Repeat a 32-bit pattern over `n` words (R503). -/
def patternBytes (n p : Nat) : List Byte := (List.replicate n (leBytes 4 p)).flatten

end Sys2Proof.Machine
end

