-- ==== Sys2Proof/Machine/Link.lean ====
section
/-! DEFINITION. Zodan ports: lanes and markers, flits, sequence numbers, replay and credits, transactions and the
subtree table (16_link_physical.md, 17_link_transactions.md, 18_hierarchy.md). -/

namespace Sys2Proof.Machine

/-! ### Access -/

def State.port (s : State) (p : Nat) : Port := s.ports.getD p (Port.init false)

def State.modPort (s : State) (p : Nat) (f : Port → Port) : State := { s with ports := modAt f p s.ports }

def State.lane (s : State) (l : Nat) : Lane := s.lanes.getD l (Lane.init 0)

def State.modLane (s : State) (l : Nat) (f : Lane → Lane) : State := { s with lanes := modAt f l s.lanes }

/-- Lanes of a width code; 3 is treated as 2 (PORTp.CONFIG.WIDTH). -/
def widthOf (code : Nat) : Nat := if code = 0 then 1 else if code = 1 then 2 else 4

/-- The lanes a port uses (R344). -/
def State.lanesOf (s : State) (p : Nat) : List Nat :=
  (List.range (widthOf (s.get (Reg.ZPHY_PORT_STATUS_WIDTH_USED p)))).map (4 * p + ·)

/-- ZP3 is the pair port while PAIR_CONFIG has ENABLE set (R380). -/
def State.isPairPort (s : State) (p : Nat) : Bool := p == 3 && s.flag Reg.PAIR_CTRL_ENABLE

/-- The device is the standby member of a pair (R77, R409). -/
def State.standby (s : State) : Bool := s.get Reg.PAIR_STATUS_ROLE == 2

/-- The standby has come out of UNSYNCED (R407). (Mark: DEDUCED, log 109) -/
def State.synced (s : State) : Bool := s.get Reg.PAIR_STATUS_STATE != 0

/-- The link layer of a port is active (R369). -/
def State.active (s : State) (p : Nat) : Bool := s.get (Reg.ZLINK_PORT_STATUS_LL_STATE p) == 2

/-- A port counts as up: up, idle or leaving idle (R363). (Mark: DEDUCED, log 17) -/
def Port.isUp (q : Port) : Bool := q.phase = .up ∨ q.phase = .idle ∨ q.phase = .waking

/-- Own id, 0xFF while unassigned (R393). -/
def State.myId (s : State) : Nat := s.get Reg.HIER_ID

/-! ### Transactions (R377, R378) -/

def ttCmd : Nat := 1
def ttReply : Nat := 2
def ttEvent : Nat := 3
def ttMemWr : Nat := 4
def ttMemRd : Nat := 5
def ttMemCpl : Nat := 6
def ttBcast : Nat := 7
def ttString : Nat := 8
def ttCkpt : Nat := 9

/-- The class of a type: 0 P, 1 N, 2 C, 3 none. -/
def classOf (tt : Nat) : Nat :=
  if tt = ttCmd ∨ tt = ttMemRd then 1 else if tt = ttReply ∨ tt = ttMemCpl then 2 else if tt = ttString then 3 else 0

/-- The 8-byte header followed by the body. -/
def transBytes (x : Trans) : List Byte :=
  leBytes 1 x.ttype ++ leBytes 1 x.dest ++ leBytes 1 x.src ++ leBytes 1 x.flags ++ leBytes 2 x.body.length ++
    leBytes 2 x.tag ++ x.body

/-- The flits that a transaction occupies. -/
def flitCount (x : Trans) : Nat := (8 + x.body.length + 55) / 56

/-- The payloads of a transaction's flits; the bytes after the body are 0. -/
def transFlits (x : Trans) : List Held :=
  let n := flitCount x
  let b := transBytes x ++ List.replicate 56 0
  (List.range n).map (fun i => ⟨(b.drop (56 * i)).take 56, i + 1 == n⟩)

/-- The transaction that payload bytes hold. -/
def parseTrans (b : List Byte) : Trans :=
  ⟨u8 b 0, u8 b 1, u8 b 2, u8 b 3, u16 b 6, (b.drop 8).take (u16 b 4)⟩

/-- The Body and LEN columns of the type table, and the reserved fields (R378). -/
def transOk (x : Trans) : Bool :=
  let n := x.body.length
  (x.flags / 2 == 0 || (x.ttype == ttMemCpl && x.flags / 4 == 0)) &&
  (x.tag == 0 || x.ttype == ttMemWr || x.ttype == ttMemRd || x.ttype == ttMemCpl) &&
  (if x.ttype = ttCmd ∨ x.ttype = ttReply then decide (20 ≤ n ∧ n ≤ 4096)
   else if x.ttype = ttEvent then n == 32
   else if x.ttype = ttMemWr then decide (9 ≤ n ∧ n ≤ 4104)
   else if x.ttype = ttMemRd then n == 16 && zerosAt x.body 12 4 && decide (1 ≤ u32 x.body 8 ∧ u32 x.body 8 ≤ 4096)
   else if x.ttype = ttMemCpl then decide (8 ≤ n) && n == 8 + u32 x.body 4 && zerosAt x.body 2 2
   else if x.ttype = ttBcast then
     n == 40 && decide (u8 x.body 0 ≤ 1) && zerosAt x.body 4 4 && zerosAt x.body 21 3 && zerosAt x.body 32 8 &&
       zerosAt x.body 14 2
   else if x.ttype = ttString then n == 16 && zerosAt x.body 8 8
   else if x.ttype = ttCkpt then
     decide (32 ≤ n ∧ n ≤ 4088) && n == 24 + u16 x.body 10 && zerosAt x.body 13 3 && u8 x.body 12 / 4 == 0 &&
       u16 x.body 10 % 8 == 0 && u32 x.body 4 % 8 == 0
   else false)

/-- Count a discarded transaction (R378 to R380). -/
def State.discard (s : State) (p : Nat) : State := s.incSat (Reg.ZLINK_PORT_DISCARDS_COUNT p) 1

/-- Offer a transaction to a port, from a source (R383). -/
def State.sendTrans (s : State) (p src : Nat) (x : Trans) : State :=
  s.modPort p (fun q => { q with txq := q.txq ++ [(src, x)] })

/-- What a port accepts by type (R380). -/
def State.accepts (s : State) (p : Nat) (x : Trans) : Bool :=
  if p = 0 then x.ttype ∈ [ttCmd, ttMemRd, ttMemWr, ttBcast]
  else if s.isPairPort p then x.ttype ∈ [ttMemRd, ttMemWr, ttMemCpl, ttString, ttCkpt]
  else x.dest == 0xFE

/-- Where a transaction goes (R379). -/
inductive Route where
  | here
  | everyone
  | down (port : Nat)
  | up
  | nowhere
  deriving DecidableEq, Repr

/-- The downlink toward an id of the subtree table (R394 to R396). -/
def State.downlink? (s : State) (id : Nat) : Option Nat := (s.hier.nodes.find? (fun n => n.id == id)).map (·.port)

/-- Routing of a transaction that arrives on a port (R379). -/
def State.route (s : State) (p : Nat) (x : Trans) : Route :=
  if x.dest = 0xFE then (if p ≠ 0 ∧ !s.isPairPort p then .up else .nowhere)
  else if x.dest = 0xFD then (if s.isPairPort p then .here else .nowhere)
  else if x.dest = 63 then (if x.ttype = ttCmd ∨ x.ttype = ttBcast then .everyone else .nowhere)
  else if x.dest = s.myId ∧ s.myId ≠ 0xFF then .here
  else match s.downlink? x.dest with
    | some q => .down q
    | none => .nowhere

/-- Downlinks that a broadcast goes on: those that are active, and not the pair port (R47, R379, R396).
(Mark: DEDUCED, log 12) -/
def State.bcastPorts (s : State) : List Nat := [1, 2, 3].filter (fun q => !s.isPairPort q && s.active q)

/-- A MEMCPL toward the source of a memory transaction (R381). -/
def State.sendCpl (s : State) (p : Nat) (x : Trans) (status : Nat) (data : List Byte) : State :=
  let wr := if x.ttype = ttMemWr then 2 else 0
  let src := if x.src = 0xFD then 0xFD else s.myId
  s.sendTrans (if x.src = 0xFD then 3 else p) 0
    ⟨ttMemCpl, x.src, src, wr, x.tag, leBytes 2 status ++ [0, 0] ++ leBytes 4 data.length ++ data⟩

/-! ### Packets on the link -/

/-- A reply packet with its trailer (R33, R34). -/
def replyBytes (r : Reply) : List Byte :=
  let b := leBytes 2 r.opcode ++ leBytes 2 r.tag ++ leBytes 1 r.target ++ leBytes 1 r.flags ++
    leBytes 2 r.data.length ++ leBytes 2 r.status ++ leBytes 2 r.sequence ++ [0, 0, 0, 0] ++ r.data
  b ++ leBytes 4 (crc32c b)

/-- An event packet (R52). -/
def evtBytes (e : Evt) : List Byte :=
  leBytes 2 e.code ++ leBytes 1 e.source ++ leBytes 1 e.device ++ leBytes 2 e.seq ++
    leBytes 1 (e.lost.toNat + 2 * e.unsync.toNat + 4 * e.fault.toNat) ++ leBytes 1 e.argLen ++ leBytes 8 e.stamp ++
    e.args

/-- A command packet with its trailer; a forwarded one has FWD set (R33, R45). -/
def cmdBytes (op : Nat) (h : Hdr) (fwd : Bool) (params : List Byte) : List Byte :=
  let fl := if fwd then h.flags ||| 4 else h.flags
  let b := leBytes 2 op ++ leBytes 2 h.tag ++ leBytes 1 h.target ++ leBytes 1 fl ++ leBytes 2 params.length ++
    leBytes 2 h.status ++ leBytes 2 h.sequence ++ leBytes 4 h.reserved ++ params
  b ++ leBytes 4 (crc32c b)

/-- An out item that waits for the uplink, as a transaction (R377). -/
def State.outTrans (s : State) : OutItem → Option Trans
  | .reply .uplink r => some ⟨ttReply, 0xFE, s.myId, 0, 0, replyBytes r⟩
  | .reply .spi _ => none
  | .event true _ e => some ⟨ttEvent, 0xFE, s.myId, 0, 0, evtBytes e⟩
  | .event false _ _ => none

/-- An out item with the uplink served: nothing is left of it, or the SPI still waits for it (R56). -/
def OutItem.sentUp : OutItem → Option OutItem
  | .reply .uplink _ => none
  | .event true true e => some (.event false true e)
  | .event true false _ => none
  | i => some i

/-- Take the first item that waits for the uplink out of the queue. -/
def State.takeUp (s : State) : List OutItem → List OutItem
  | [] => []
  | i :: l => if (s.outTrans i).isSome then (match OutItem.sentUp i with | some j => j :: l | none => l)
              else i :: s.takeUp l

/-! ### Port down and up -/

/-- A port stops its link layer: what it had in flight is discarded, sent again or answered, and what it has received
whole stands (R376); over the pair port the partner is UNSYNCED then, and the copy begins again (R412, R423). Of what it had not sent yet, mirror writes and checkpoints go too, since the partner starts over
(R412). (Mark: DEDUCED, log 19; DESIGN CHOICE, log 112; DEDUCED, log 127) -/
def State.llDown (s : State) (p : Nat) : State :=
  let q := s.port p
  let keep := q.txq.filter (fun e => e.2.ttype ∈ [ttReply, ttEvent, ttMemCpl, ttBcast])
  let lostMem := (q.fwdMem.map (·.2) ++ (q.txq.filter (fun e => e.1 != 0)).map (·.2)).filter
    (fun x => x.ttype == ttMemRd || x.ttype == ttMemWr)
  let fwds := s.host.forwarded.filter (fun f => f.port == p)
  let s := s.modPort p (fun q => { q with
    initOwed := false, initRx := false, sentSeq := 0, acked := 0, replay := [], replayAt := none, replayAck := none,
    sameReplays := 0, rxNext := 0, nakOut := false, nakOwed := false, credP := .init, credN := .init, credC := .init,
    turn := 0, txq := keep, again := q.unacked.map (·.2) ++ q.again, cur := [], curClass := 3, unacked := [],
    fwdMem := [], rxPart := [], rxDone := [], rxOld := q.rxOld ++ q.rxDone })
  let s := (s.set (Reg.ZLINK_PORT_STATUS_LL_STATE p) 0).set (Reg.ZLINK_PORT_UNACKED_FLITS p) 0
  let s := lostMem.foldl (fun s x => s.sendCpl 0 x stLinkDown []) s
  let s := { s with host := { s.host with
    forwarded := s.host.forwarded.filter (fun f => f.port != p), late := s.host.late ++ fwds } }
  let s := fwds.foldl (fun s f => s.reply f.h f.opcode stLinkDown false []) s
  if p == 3 && s.isPairPort 3 then
    let s := s.setB Reg.ZLINK_CKPT_STATUS_RECEIVING false
    let s := { s with pair := { s.pair with ckptRx := none } }
    if s.standby then
      { s with pair := { s.pair with lost := s.pair.lost || s.synced } }.set Reg.PAIR_STATUS_STATE 0
    else if s.get Reg.PAIR_STATUS_PARTNER = 2 then
      { s with pair := { s.pair with copyNext := none, copyOver := false } }.set Reg.PAIR_STATUS_PARTNER 1
    else { s with pair := { s.pair with copyNext := none, copyOver := false } }
  else s

/-- A flag of a lane's receiver for each lane of a port. -/
def State.laneFlags (s : State) (p : Nat) (f : Lane → Bool) : Bool :=
  (List.range 4).any (fun k => f (s.lane (4 * p + k)))

/-- Mask of the lanes of a port that satisfy a register flag. -/
def State.laneMask (s : State) (p : Nat) (f : Nat → Fld) : Nat :=
  ((List.range 4).filter (fun k => s.flag (f (4 * p + k)))).foldl (fun m k => m + 2 ^ k) 0

/-- PORTp.STATUS follows the lanes: LOCKED and SEEN_RX, and a disagreement that any lane shows (R358, R362). -/
def State.portMasks (s : State) (p : Nat) : State :=
  let s := (s.set (Reg.ZPHY_PORT_STATUS_LOCKED p) (s.laneMask p Reg.ZPHY_LANE_STATUS_MARKER_LOCK)).set
    (Reg.ZPHY_PORT_STATUS_SEEN_RX p) (s.laneMask p Reg.ZPHY_LANE_STATUS_SEEN_RX)
  let s := s.setB (Reg.ZPHY_PORT_STATUS_LANE_ORDER p) (s.laneFlags p (·.badLane))
  (s.setB (Reg.ZPHY_PORT_STATUS_WIDTH_MISMATCH p) (s.laneFlags p (·.badWidth))).setB (Reg.ZPHY_PORT_STATUS_SKEW_ERR p)
    (s.laneFlags p (·.far))

/-- A lane loses marker lock, and its polarity with it (R357, R362). -/
def State.loseLock (s : State) (l : Nat) : State :=
  (s.setB (Reg.ZPHY_LANE_STATUS_MARKER_LOCK l) false).setB (Reg.ZPHY_LANE_STATUS_POL_INV l) false

/-- A lane forgets its markers. -/
def Lane.afresh (x : Lane) : Lane := { x with good := 0, missed := 0, seen1 := 0, seen0 := 0, scr := none, rxBlocks := 0 }

/-- The lanes of a port forget their markers; the receivers of lanes that it does not use are off (R344). -/
def State.lanesReset (s : State) (p : Nat) : State :=
  let used := s.lanesOf p
  let s := (List.range 4).foldl (fun s k =>
    let l := 4 * p + k
    let s := ((s.modLane l Lane.afresh).loseLock l).setB (Reg.ZPHY_LANE_STATUS_SEEN_RX l) false
    let s := s.setB (Reg.ZPHY_LANE_STATUS_IDLE_RX l) false
    if l ∈ used ∧ (s.port p).phase ≠ .off then s
    else (s.setB (Reg.ZPHY_LANE_STATUS_BIT_LOCK l) false).setB (Reg.ZPHY_LANE_STATUS_ACTIVITY l) false) s
  (s.modPort p (fun q => { q with rxFlits := 0 })).portMasks p

/-- A port leaves up or idle for another phase: its link layer stops, and where its lanes are still active it owes 4
blocks with SEEN 0 (R359). -/
def State.leaveUp (s : State) (p : Nat) (next : PortPhase) : State :=
  let was := s.port p
  let s := s.modPort p (fun q => { q with
    phase := next, seenDue := false, startAt := s.now, idleOrder := none, burstAt := none, woken := false,
    zeros := if (q.phase = .up ∨ q.phase = .waking) ∧ (next = .training ∨ next = .settling) then 4 else 0,
    txBlock := if next = .training ∨ next = .settling then q.txBlock else [] })
  let s := (s.set (Reg.ZPHY_PORT_STATUS_STATE p) (if next = .off then 0 else 1)).setB (Reg.ZPHY_PORT_STATUS_IDLE p) false
  let s := s.lanesReset p
  if was.isUp then s.llDown p else s

/-- A port goes down: EVT_LINK_DOWN once where it was up or idle, and the phase it falls to (R359). -/
def State.linkDown (s : State) (p cause : Nat) (next : PortPhase) : State :=
  let wasUp := (s.port p).isUp
  let s := s.leaveUp p next
  if wasUp then
    let s := (s.set (Reg.ZPHY_PORT_STATUS_LAST_CAUSE p) cause).inc (Reg.ZPHY_PORT_DOWNS_COUNT p)
    s.raise evLinkDown p (leBytes 1 p ++ leBytes 1 cause)
  else s

/-- A link-layer failure takes the port down with CAUSE 3 (R375). -/
def State.llFail (s : State) (p llCause : Nat) : State :=
  (s.set (Reg.ZLINK_PORT_STATUS_LL_CAUSE p) llCause).linkDown p 3 .training

/-- Take the stored configuration into use (R360). -/
def State.applyConfig (s : State) (p : Nat) : State :=
  let w := s.get (Reg.ZPHY_PORT_CONFIG_WIDTH p)
  let s := (s.set (Reg.ZPHY_PORT_STATUS_WIDTH_USED p) (if w = 3 then 2 else w)).set (Reg.ZPHY_PORT_STATUS_RATE_USED p)
    (s.get (Reg.ZPHY_PORT_CONFIG_RATE p))
  let eq := (s.get (Reg.ZPHY_PORT_EQ_PRE p), s.get (Reg.ZPHY_PORT_EQ_MAIN p), s.get (Reg.ZPHY_PORT_EQ_POST p))
  s.modPort p (fun q => { q with eqUsed := eq, applied := true })

/-- Start bring-up with the configuration in use: the lane clocks settle once REFCLK_ZL is valid (R346, R358, R360).
(Mark: DEDUCED, log 13) -/
def State.bringUp (s : State) (p : Nat) : State :=
  let ok := s.flag Reg.ZPHY_REFCLK_OK
  let s := s.modPort p (fun q => { q with
    phase := if ok then .settling else .held, seenDue := false, startAt := s.now, idleOrder := none, burstAt := none,
    woken := false, zeros := if q.phase = .settling then q.zeros else 0 })
  let s := (List.range 4).foldl (fun s k =>
    (s.modLane (4 * p + k) (fun x => { x with badLane := false, badWidth := false, far := false })).setB
      (Reg.ZPHY_LANE_STATUS_BIT_LOCK (4 * p + k)) false) s
  (s.set (Reg.ZPHY_PORT_STATUS_STATE p) 1).lanesReset p

/-- LINK_RESTART and CONFIG.RESTART: down with CAUSE 0 if up or idle, and bring-up with the stored values (R360). -/
def State.restartPort (s : State) (p : Nat) : State :=
  let s := if (s.port p).isUp then s.linkDown p 0 .settling else s
  ((s.setB (Reg.ZPHY_PORT_CONFIG_ENABLE p) true).applyConfig p).bringUp p

/-- Bring-up begins again with the present configuration; the first one after reset takes the stored one (R346, R359,
R361). (Mark: DEDUCED, log 13) -/
def State.resumePort (s : State) (p : Nat) : State :=
  if (s.port p).applied then s.bringUp p else (s.applyConfig p).bringUp p

/-- The port is up after training: the event, the counts, and the start of the link layer (R358, R369). -/
def State.linkUp (s : State) (p : Nat) : State :=
  let q := s.port p
  let s := s.modPort p (fun q => { q with
    phase := .up, initOwed := true, initRx := false, ordered := false, upAt := s.now })
  let s := (s.set (Reg.ZPHY_PORT_STATUS_STATE p) 2).inc (Reg.ZPHY_PORT_UPS_COUNT p)
  let s := s.set (Reg.ZPHY_PORT_UP_TIME_NS p) (min (stepsNs (s.now - q.startAt)) (2 ^ 32 - 1))
  let s := s.set (Reg.ZLINK_PORT_STATUS_LL_STATE p) 1
  s.raise evLinkUp p (leBytes 1 p ++ leBytes 1 (widthOf (s.get (Reg.ZPHY_PORT_STATUS_WIDTH_USED p))) ++
    leBytes 1 (s.get (Reg.ZPHY_PORT_STATUS_RATE_USED p)))

/-- The port is up again after idle; the link layer goes on (R365). (Mark: DEDUCED, log 17) -/
def State.linkAgain (s : State) (p : Nat) : State :=
  (s.modPort p (fun q => { q with phase := .up, burstAt := none, woken := false })).setB
    (Reg.ZPHY_PORT_STATUS_IDLE p) false

/-! ### Hierarchy (R390 to R397) -/

/-- Record an id below a downlink. An id that the table holds under another downlink that is up is not recorded, and
DUP_ID is set (R395). (Mark: DEDUCED, log 126) -/
def State.recordNode (s : State) (id parent port depth : Nat) : State :=
  match s.hier.nodes.find? (fun n => n.id == id) with
  | some n =>
    if n.port = port ∨ !(s.port n.port).isUp then
      { s with hier := { s.hier with nodes := s.hier.nodes.map (fun m => if m.id = id then ⟨id, parent, port, depth⟩ else m) } }
    else s.setB Reg.HIER_STATUS_DUP_ID true
  | none => { s with hier := { s.hier with nodes := s.hier.nodes ++ [⟨id, parent, port, depth⟩] } }

/-- Links from the manager to the device itself; 0xFF where they are not known (NODEi.DEPTH). -/
def State.ownDepth (s : State) : Nat :=
  if s.myId = 0 then 0
  else if s.flag Reg.HIER_ID_PATH then
    (if s.myId ≤ 3 then 1 else if s.myId ≤ 12 then 2 else if s.myId ≤ 39 then 3 else 4)
  else 0xFF

/-- Depth of a node below a parent: one more than the parent's, where it is known (NODEi.DEPTH). -/
def State.depthBelow (s : State) (parent : Nat) : Nat :=
  let d := if parent = s.myId then s.ownDepth
    else ((s.hier.nodes.find? (fun n => n.id == parent)).map (·.depth)).getD 0xFF
  if d = 0xFF then 0xFF else d + 1

/-- A child's id joins under a downlink, with its event (R394); an unassigned device records it and raises none (R393). An
id that replaces another child's on the same port takes its entry. (Mark: DEDUCED, log 126) -/
def State.join (s : State) (p id : Nat) : State :=
  let s := { s with hier := { s.hier with
    nodes := s.hier.nodes.filter (fun n => !(n.port == p && n.parent == s.myId && n.id != id)) } }
  (s.recordNode id s.myId p (s.depthBelow s.myId)).when (s.myId != 0xFF) (fun s =>
    s.raise evWorkerJoined 0 (leBytes 1 id ++ leBytes 1 s.myId))

/-- A device in path mode takes its id from a valid INIT on ZP0 (R391); an id that changes is passed to the active
downlinks (R392). (Mark: DEDUCED, log 126) -/
def State.takeId (s : State) (payload : List Byte) : State :=
  let s := (s.set Reg.HIER_PARENT_ID (u8 payload 1)).set Reg.HIER_PARENT_PORT (u8 payload 3)
  if u8 s.otp.active 1 ≠ 0xFF then s
  else
    let host := bit (u8 payload 2) 0
    let id := 3 * u8 payload 1 + u8 payload 3
    let new := if host then 0
      else if u8 payload 1 ≤ 62 ∧ 1 ≤ u8 payload 3 ∧ u8 payload 3 ≤ 3 ∧ id ≤ 62 then id else 0xFF
    let old := s.myId
    let s := ((s.set Reg.HIER_ID new).setB Reg.HIER_ID_MANAGER (new == 0)).setB Reg.HIER_ID_PATH (new != 0xFF)
    let s := { s with hier := { s.hier with
      nodes := s.hier.nodes.map (fun n => if n.parent = old then { n with parent := new } else n) } }
    if new = old then s
    else [1, 2, 3].foldl (fun s q => if s.active q && !s.isPairPort q then s.modPort q (fun x => { x with initOwed := true }) else s) s

/-! ### INIT, ACK, NAK (R369 to R372) -/

/-- The port becomes active: sequence numbers and credits start from zero, queued replies and events follow, a child
joins, and a lost pair link resumes (R369, R376, R394, R412). -/
def State.activate (s : State) (p : Nat) : State :=
  let s := s.set (Reg.ZLINK_PORT_STATUS_LL_STATE p) 2
  let s := s.modPort p (fun q => { q with initOwed := false })
  let peer := s.get (Reg.ZLINK_PORT_STATUS_PEER_ID p)
  if p = 0 then s
  else if s.isPairPort p then
    if s.standby ∧ s.pair.lost then
      { s with pair := { s.pair with lost := false, resyncAt := some s.now, ckptNew := false } }.set
        Reg.PAIR_STATUS_STATE 1
    else s
  else if peer < 63 then s.join p peer else s

/-- A valid INIT flit (R369, R375 cause 2, R391, R394). -/
def State.onInit (s : State) (p : Nat) (payload : List Byte) : State :=
  let cr := [u8 payload 4, u8 payload 5, u8 payload 6]
  if u8 payload 0 ≠ 1 ∨ cr.any (fun c => decide (c < 74 ∨ 127 < c)) then s.llFail p 2
  else
    let old := s.get (Reg.ZLINK_PORT_STATUS_PEER_ID p)
    let wasActive := s.active p
    let s := (s.set (Reg.ZLINK_PORT_STATUS_PEER_ID p) (u8 payload 1)).setB (Reg.ZLINK_PORT_STATUS_PEER_HOST p)
      (bit (u8 payload 2) 0)
    let s := s.set (Reg.ZLINK_PORT_STATUS_PEER_FW p) (u16 payload 8)
    let s := if wasActive then s.modPort p (fun q => { q with initOwed := true })
      else
        let s := s.modPort p (fun q => { q with
          initRx := true, initOwed := true,
          credP := { Credit.init with limit := u8 payload 4 }, credN := { Credit.init with limit := u8 payload 5 },
          credC := { Credit.init with limit := u8 payload 6 } })
        ((s.set (Reg.ZLINK_PORT_PEER_CREDITS_P p) (u8 payload 4)).set (Reg.ZLINK_PORT_PEER_CREDITS_N p)
          (u8 payload 5)).set (Reg.ZLINK_PORT_PEER_CREDITS_C p) (u8 payload 6)
    if p = 0 then s.takeId payload
    else if wasActive ∧ !s.isPairPort p ∧ u8 payload 1 < 63 ∧ u8 payload 1 ≠ old then
      s.join p (u8 payload 1)
    else s

/-- Where a replay goes on once `d` more flits are acknowledged; none where nothing is left of it (R372). -/
def Port.replayFrom (q : Port) (d i : Nat) : Option Nat := if max i d < q.replay.length then some (i - d) else none

/-- An ACK of `a` acknowledges every DATA flit up to `a`; one that lies outside is a link-layer failure (R370, R375
cause 4). -/
def State.onAck (s : State) (p a : Nat) : State :=
  let q := s.port p
  let d := (a + 1 + 1024 - q.acked % 1024) % 1024
  if q.replay.length < d then s.llFail p 4
  else
    let s := s.modPort p (fun q => { q with
      acked := q.acked + d, replay := q.replay.drop d, replayAt := q.replayAt.bind (q.replayFrom d),
      replayAck := if (q.replayAt.bind (q.replayFrom d)).isSome then q.replayAck else none,
      sameReplays := if d = 0 then q.sameReplays else 0, ackAt := if d = 0 then q.ackAt else s.now,
      unacked := q.unacked.filter (fun e => decide (q.acked + d < e.1)),
      fwdMem := q.fwdMem.filter (fun e => decide (q.acked + d < e.1)) })
    s.set (Reg.ZLINK_PORT_UNACKED_FLITS p) (q.replay.length - d)

/-- REPLAY_LIMIT, 0 treated as 1. -/
def State.replayLimit (s : State) (p : Nat) : Nat := max 1 (s.get (Reg.ZLINK_PORT_CFG_REPLAY_LIMIT p))

/-- Start a replay of every unacknowledged flit (R372); too many that begin at one SEQ are a failure (R375 cause 3).
(Mark: DEDUCED, log 18) -/
def State.startReplay (s : State) (p : Nat) (ack : Option Nat) : State :=
  if (s.port p).replay.isEmpty then s
  else
    let s := s.modPort p (fun q => { q with
      replayAt := some 0, replayAck := ack, sameReplays := q.sameReplays + 1, ackAt := s.now })
    let s := s.incSat (Reg.ZLINK_PORT_REPLAYS_COUNT p) 1
    if s.replayLimit p ≤ (s.port p).sameReplays then s.llFail p 3 else s

/-- A NAK with ACK `a` (R372). -/
def State.onNak (s : State) (p a : Nat) : State :=
  let s := s.onAck p a
  if !s.active p then s
  else if (s.port p).replayAt.isSome ∧ (s.port p).replayAck = some a then s
  else s.startReplay p (some a)

/-- A discarded flit causes a NAK unless one is outstanding (R371). -/
def State.causeNak (s : State) (p : Nat) : State :=
  if (s.port p).nakOut then s else s.modPort p (fun q => { q with
    nakOut := true, nakOwed := true, nakAt := s.now })

/-! ### Credits -/

/-- A class's credit record. -/
def Port.cred (q : Port) (c : Nat) : Credit := if c = 0 then q.credP else if c = 1 then q.credN else q.credC

/-- Change a class's credit record; class 3 has none. -/
def Port.modCred (q : Port) (c : Nat) (f : Credit → Credit) : Port :=
  if c = 0 then { q with credP := f q.credP } else if c = 1 then { q with credN := f q.credN }
  else if c = 2 then { q with credC := f q.credC } else q

/-- Whether a class's credits cover a transaction (R373). -/
def Port.covers (q : Port) (c n : Nat) : Bool :=
  c == 3 || decide (n + (((q.cred c).sent + 128 - (q.cred c).freed % 128) % 128) ≤ (q.cred c).limit)

/-- Flits of each class that the device's receive buffer holds (INIT payload, CREDITS). -/
def ownCredits : Nat := 96

/-- Free the flits of a transaction that has been consumed, where it came through the receive buffer (R373). -/
def State.consume (s : State) (p : Nat) (x : Trans) : State :=
  if x ∈ (s.port p).rxDone then
    s.modPort p (fun q => { q.modCred (classOf x.ttype) (fun c => { c with rxFreed := c.rxFreed + flitCount x }) with
      rxDone := q.rxDone.erase x })
  else s.modPort p (fun q => { q with rxOld := q.rxOld.erase x })

/-- A transaction that the port has received whole may be handled: the port is active, or it was received before the port
went down (R376). -/
def State.holds (s : State) (p : Nat) (x : Trans) : Bool := s.active p || decide (x ∈ (s.port p).rxOld)

/-- A transaction that no row of the port takes up: of a type outside the table, or a STRING or CKPT elsewhere than on ZP3. -/
def strayOn (p : Nat) (x : Trans) : Bool :=
  x.ttype == 0 || decide (ttCkpt < x.ttype) || (p != 3 && (x.ttype == ttString || x.ttype == ttCkpt))

/-- Such a transaction is discarded, or goes on by the uplink where it is for the ancestor (R378 to R380). -/
def State.strayTrans (s : State) (p : Nat) (x : Trans) : State :=
  if transOk x ∧ s.accepts p x ∧ s.route p x = .up then s.sendTrans 0 p x else s.discard p

/-- Deliver a DATA flit's payload to the transaction being received (R371, R374, R377); a LEN above 4,112 and flits
beyond the credits given are failures (R375). -/
def State.deliver (s : State) (p : Nat) (payload : List Byte) : State :=
  let q := s.port p
  let part := q.rxPart ++ payload
  let len := u16 part 4
  let c := classOf (u8 part 0)
  if 4112 < len then s.llFail p 6
  else
    let q' := q.modCred c (fun k => { k with rx := k.rx + 1 })
    if c ≠ 3 ∧ ownCredits < (q'.cred c).rx - (q'.cred c).rxFreed then s.llFail p 5
    else if part.length < 8 + len then s.modPort p (fun _ => { q' with rxPart := part })
    else
      let x := parseTrans part
      if strayOn p x then
        (s.modPort p (fun _ => { q'.modCred c (fun k => { k with rxFreed := k.rxFreed + flitCount x }) with
          rxPart := [] })).strayTrans p x
      else
      let done := if x.ttype = ttString ∧ 2 ≤ (q'.rxDone.filter (fun y => y.ttype == ttString)).length then
          dropFirst (fun y => y.ttype == ttString) q'.rxDone else q'.rxDone
      s.modPort p (fun _ => { q' with rxPart := [], rxDone := done ++ [x] })

/-- A DATA flit with a matching CRC (R371). -/
def State.onData (s : State) (p seq : Nat) (payload : List Byte) : State :=
  let q := s.port p
  if seq = q.rxNext % 1024 then
    let s := s.modPort p (fun q => { q with rxNext := q.rxNext + 1, nakOut := false, nakOwed := false })
    (s.inc (Reg.ZLINK_PORT_RX_FLITS_COUNT p)).deliver p payload
  else
    let behind := (q.rxNext + 1024 - seq) % 1024
    if 1 ≤ behind ∧ behind ≤ 256 then s else s.causeNak p

/-! ### Flits -/

/-- A flit: header, payload and CRC (R367). -/
def mkFlit (hdr : Nat) (payload : List Byte) : List Byte :=
  let b := leBytes 4 hdr ++ payload
  b ++ leBytes 4 (crc32c b)

/-- A flit header. (Mark: DEDUCED, log 20) -/
def flitHdr (seq ack kind cclass ccount : Nat) : Nat :=
  low 10 seq + 2 ^ 10 * low 10 ack + 2 ^ 20 * kind + 2 ^ 23 * cclass + 2 ^ 25 * low 7 ccount

/-- The INIT payload that the device sends (R369). -/
def State.initPayload (s : State) (p : Nat) : List Byte :=
  leBytes 1 1 ++ leBytes 1 s.myId ++ leBytes 1 (2 * (s.isPairPort p).toNat) ++ leBytes 1 p ++
    leBytes 1 ownCredits ++ leBytes 1 ownCredits ++ leBytes 1 ownCredits ++ [0] ++ leBytes 2 (low 16 Config.fwMajor) ++
    List.replicate 46 0

/-- A whole flit as received: CRC, ACK and credits, then what its KIND asks for (R368, R371, R375). -/
def State.onFlit (s : State) (p : Nat) (f : List Byte) : State :=
  let hdr := u32 f 0
  let payload := (f.drop 4).take 56
  if crc32c (f.take 60) ≠ u32 f 60 then
    let s := s.incSat (Reg.ZLINK_PORT_CRC_ERRORS_COUNT p) 1
    if s.active p then s.causeNak p else s
  else
    let kind := bits hdr 20 3
    if 3 < kind then s.llFail p 6
    else if kind = 3 then s.onInit p payload
    else if !s.active p then s
    else
      let cc := bits hdr 23 2
      let s := s.modPort p (fun q => q.modCred cc (fun c => { c with freed := bits hdr 25 7 }))
      if kind = 2 then s.onNak p (bits hdr 10 10)
      else
        let s := s.onAck p (bits hdr 10 10)
        if !s.active p then s
        else if kind = 1 then s.onData p (bits hdr 0 10) payload else s

/-! ### Choosing what to send (R383, R397) -/

/-- Weight of a source of a port under R27: on ZP0 the device has 1 and each downlink that is up the number of ids
recorded under it, 1 where none is; on other ports each source has 1. (Mark: DEDUCED, log 164) -/
def State.srcWeight (s : State) (p src : Nat) : Nat :=
  if p ≠ 0 ∨ src = 0 then 1
  else if !(s.port src).isUp ∨ s.isPairPort src then 0
  else max 1 (s.hier.nodes.filter (fun n => n.port == src)).length

/-- The transactions that a port has to send, in order, the device's own replies and events of ZP0 among them. -/
def State.offers (s : State) (p : Nat) : List (Nat × Trans) :=
  (s.port p).txq ++ (if p = 0 then (s.host.out.filterMap s.outTrans).take 1 |>.map (fun x => (0, x)) else [])

/-- A transaction may go before an earlier one that waits: another SRC's, or, as a REPLY or MEMCPL, a CMD or MEMRD of its own
(R382). -/
def mayPass (x y : Trans) : Bool :=
  x.src != y.src || ((x.ttype == ttReply || x.ttype == ttMemCpl) && (y.ttype == ttCmd || y.ttype == ttMemRd))

/-- The first transaction with credits that goes before no earlier one which it may not overtake (R382, R383). -/
def State.firstFree (s : State) (p : Nat) : List Trans → List Trans → Option Trans
  | _, [] => none
  | before, x :: l =>
    if (s.port p).covers (classOf x.ttype) (flitCount x) && before.all (mayPass x) then some x
    else s.firstFree p (x :: before) l

/-- The transaction a source may start (R382, R383). -/
def State.candidate (s : State) (p src : Nat) : Option Trans :=
  s.firstFree p [] (((s.offers p).filter (fun e => e.1 == src)).map (·.2))

/-- The grant of R27: the branch at the pointer while it has grants left and a request, else the next branch, once
round. (Mark: DEDUCED, log 164) -/
def State.arbitrate (s : State) (p : Nat) : Nat → Option (Nat × Nat × Trans)
  | 0 => none
  | n + 1 =>
    let q := s.port p
    let i := 4 - n
    let src := (q.arbPtr + i) % 4
    let left := if i = 0 then q.arbLeft else s.srcWeight p src
    match s.candidate p src with
    | some x => if 0 < left then some (src, left - 1, x) else s.arbitrate p n
    | none => s.arbitrate p n

/-- Take a transaction that starts out of the queue it stood in. -/
def State.takeOffer (s : State) (p src : Nat) (x : Trans) : State :=
  if (src, x) ∈ (s.port p).txq then s.modPort p (fun q => { q with txq := q.txq.erase (src, x) })
  else { s with host := { s.host with out := s.takeUp s.host.out } }

end Sys2Proof.Machine
end

