-- ==== Sys2Proof/Machine/Dma.lean ====
section
/-! DEFINITION. General-purpose pins (01_architecture.md R22, R23) and the DMA engine (14_dma.md), with the commitment
of queued DRAM writes and their mirror to a standby (12_raster_memory.md R263; 19_redundant_pair.md R410). -/

namespace Sys2Proof.Machine

/-! ### Commitment of writes -/

/-- The device mirrors the writes of its sources: it is the active member of a pair and ZP3 is active (R410). -/
def State.mirrors (s : State) : Bool := s.get Reg.PAIR_STATUS_ROLE == 1 && s.isPairPort 3 && s.active 3

/-- The mirror of a committed write, as MEMWR to 0xFD (R410). -/
def State.mirrorWrite (s : State) (w : WReq) : State :=
  if w.mirror ∧ s.mirrors then s.sendTrans 3 0 ⟨ttMemWr, 0xFD, 0xFD, 0, 0, leBytes 8 w.addr ++ w.data⟩ else s

/-- Show the number of writes of each channel, and end a drain (R263). -/
def State.showWrites (s : State) : State :=
  (List.range 8).foldl (fun s c =>
    let n := (s.mem.writes.filter (fun w => w.ch == c)).length
    let s := s.set (Reg.MEMCTL_CH_STATUS_WRITES c) (min n 64)
    if n ≤ 16 then s.setB (Reg.MEMCTL_CH_STATUS_DRAIN c) false else s) s

/-! ### Pins -/

/-- Compare units that drive a GPIO pin (R22). -/
def State.pinUnits (s : State) (i : Nat) : List Nat :=
  (List.range 8).filter (fun u => s.flag (Reg.ENC_CMP_CTRL_PULSE_EN u) && s.get (Reg.ENC_CMP_CTRL_PULSE_TARGET u) == i)

/-- A compare unit's pulse is high (R104). -/
def State.pulseHigh (s : State) (u : Nat) : Bool :=
  match (s.cmps.getD u .init).pulseEnd with | some e => decide (s.now < e) | none => false

/-- A pin is an output (R22). -/
def State.pinOut (s : State) (i : Nat) : Bool :=
  bit (s.get Reg.SYS_GPIO_DIR_OUT_EN) i || !(s.pinUnits i).isEmpty

/-- The level at a pin: compare units first, then GPIO_OUT; an input carries the level given (R22).
(Mark: DEDUCED, log 161) -/
def State.pinLevel (s : State) (i : Nat) (ext : Bool) : Bool :=
  if !(s.pinUnits i).isEmpty then (s.pinUnits i).any s.pulseHigh
  else if bit (s.get Reg.SYS_GPIO_DIR_OUT_EN) i then bit (s.get Reg.SYS_GPIO_OUT_LEVEL) i
  else ext

/-! ### Descriptors (R314) -/

def State.dmaCh (s : State) (n : Nat) : DmaCh := s.dma.getD n .init

def State.modDma (s : State) (n : Nat) (f : DmaCh → DmaCh) : State := { s with dma := modAt f n s.dma }

/-- The words of the active descriptor. -/
def State.dmaActive (s : State) (n : Nat) : List Nat := (List.range 8).map (fun w => s.get (Reg.DMA_CH_ACTIVE n w))

/-- The words of the shadow registers. -/
def State.dmaShadow (s : State) (n : Nat) : List Nat := (List.range 8).map (fun w => s.get (Reg.DMA_CH_SHADOW n w))

/-- A 64-bit field of a descriptor. -/
def word64 (d : List Nat) (i : Nat) : Nat := d.getD i 0 + 2 ^ 32 * d.getD (i + 1) 0

def dSrc (d : List Nat) : Nat := word64 d 0
def dDst (d : List Nat) : Nat := word64 d 2
def dLen (d : List Nat) : Nat := word64 d 4
def dCtrl (d : List Nat) : Nat := d.getD 6 0
def dBurst (d : List Nat) : Nat := bits (dCtrl d) 8 7
def dReq (d : List Nat) : Nat := bits (dCtrl d) 16 5

/-- The fields of a descriptor lie within R314. -/
def descOk (d : List Nat) : Bool :=
  d.length == 8 && decide (dSrc d < 2 ^ 40 ∧ dDst d < 2 ^ 40 ∧ 1 ≤ dLen d ∧ dLen d ≤ 0x380000000) &&
    decide (1 ≤ dBurst d ∧ dBurst d ≤ 64 ∧ dReq d ≤ 28) &&
    bits (dCtrl d) 4 4 == 0 && bits (dCtrl d) 15 1 == 0 && bits (dCtrl d) 22 10 == 0 && d.getD 7 0 == 0

/-- The GPIO pin of a level request. -/
def dPin (d : List Nat) : Option Nat := if 1 ≤ dReq d ∧ dReq d ≤ 16 then some (dReq d - 1) else none

def State.dmaRunning (s : State) (n : Nat) : Bool := s.flag (Reg.DMA_CH_STATUS_RUNNING n)

/-- Show RUNNING and SHADOW of a channel in its status and in the device registers. -/
def State.dmaMarks (s : State) (n : Nat) (run : Bool) : State :=
  let sh := (s.dmaCh n).committed
  let s := (s.setB (Reg.DMA_CH_STATUS_RUNNING n) run).setB (Reg.DMA_CH_STATUS_SHADOW n) sh
  let put := fun (x : Nat) (b : Bool) => (x - (x &&& 2 ^ n)) + (if b then 2 ^ n else 0)
  (s.set Reg.DMA_BUSY_CHANNELS (put (s.get Reg.DMA_BUSY_CHANNELS) run)).set Reg.DMA_SHADOWED_CHANNELS
    (put (s.get Reg.DMA_SHADOWED_CHANNELS) sh)

/-- A burst is in flight until its last write is issued (R315). -/
def DmaBurst.inFlight (b : DmaBurst) : Bool := !b.todo.isEmpty

/-- Show the bursts in flight and BYTES_DONE of a channel. -/
def State.dmaShow (s : State) (n : Nat) : State :=
  let c := s.dmaCh n
  ((s.set (Reg.DMA_CH_STATUS_IN_FLIGHT n) (c.flight.filter DmaBurst.inFlight).length).set (Reg.DMA_CH_DONE_LO n) c.done).set
    (Reg.DMA_CH_DONE_HI n) (c.done / 2 ^ 32)

/-- A pass begins: BYTES_DONE starts again from 0, and acknowledgements of the pass before no longer count (R321, R322). -/
def State.dmaPass (s : State) (n : Nat) : State :=
  s.modDma n (fun c => { c with next := 0, done := 0, halfRaised := false, flight := [], pass := c.pass + 1 })

/-- A descriptor becomes active: credits are 0 and BYTES_DONE starts again (R317, R320). -/
def State.dmaActivate (s : State) (n : Nat) (d : List Nat) : State :=
  let s := (List.range 8).foldl (fun s w => s.set (Reg.DMA_CH_ACTIVE n w) (d.getD w 0)) s
  let s := s.set (Reg.DMA_CH_REQ_CREDITS n) 0
  let s := (s.dmaPass n).modDma n (fun c => { c with aborting := false })
  (s.dmaMarks n true).dmaShow n

/-- The checks of R319 in their order; 0 is none failed. -/
def State.dmaCheck (s : State) (n toShadow : Nat) (d : List Nat) : Nat :=
  if 31 < n ∨ 1 < toShadow ∨ !descOk d then stBadParam
  else if (match dPin d with | some i => s.pinOut i | none => false) then stBadParam
  else if s.standby then stNotOwner
  else if !inDram (dSrc d) (dLen d) || !inDram (dDst d) (dLen d) then stBadParam
  else if dSrc d < dDst d + dLen d ∧ dDst d < dSrc d + dLen d then stBadParam
  else if touchesProt (dDst d) (dLen d) then stProtected
  else if s.dmaRunning n && (toShadow == 0 || (s.dmaCh n).committed) then stBusy
  else stOk

/-- DMA_START after its checks (R320). (Mark: DESIGN CHOICE, log 99) -/
def State.dmaStart (s : State) (n : Nat) (d : List Nat) : State :=
  if s.dmaRunning n then
    let s := (List.range 8).foldl (fun s w => s.set (Reg.DMA_CH_SHADOW n w) (d.getD w 0)) s
    (s.modDma n (fun c => { c with committed := true })).dmaMarks n true
  else s.dmaActivate n d

/-- DMA_START. -/
def cmdDmaStart (channel toShadow : Nat) (desc : List Byte) (s : State) : Res :=
  let d := wordsOf desc
  let st := s.dmaCheck channel toShadow d
  if st = stOk then Res.ok (s.dmaStart channel d) else Res.err st s

/-- COMMIT.GO (R320): as DMA_START with TO_SHADOW 1 and the words of the shadow registers.
(Mark: DESIGN CHOICE, log 99) -/
def State.dmaCommit (s : State) (n : Nat) : Nat × State :=
  let d := s.dmaShadow n
  let st := s.dmaCheck n 1 d
  if st = stOk then (stOk, s.dmaStart n d) else (st, s)

/-! ### Pacing (R316, R317) -/

/-- One edge of a request source: a credit for every running channel that it paces. -/
def State.dmaEdge (s : State) (req : Nat) : State :=
  (List.range 32).foldl (fun s n =>
    if s.dmaRunning n && dReq (s.dmaActive n) == req then
      if s.get (Reg.DMA_CH_REQ_CREDITS n) < 255 then s.inc (Reg.DMA_CH_REQ_CREDITS n)
      else s.incSat (Reg.DMA_CH_REQ_OVERRUN n) 1
    else s) s

/-- The edge of compare unit `u`, and of time trigger `k`. -/
def State.dmaCompareEdge (s : State) (u : Nat) : State := s.dmaEdge (17 + u)
def State.dmaTriggerEdge (s : State) (k : Nat) : State := s.dmaEdge (25 + k)

/-- Whether a channel's request lets its next burst start; `pin` is the level at its pin from outside. -/
def State.dmaRequest (s : State) (n : Nat) (pin : Bool) : Bool :=
  let d := s.dmaActive n
  match dPin d with
  | some i => xor (s.pinLevel i pin) (bit (dCtrl d) 21)
  | none => dReq d == 0 || decide (0 < s.get (Reg.DMA_CH_REQ_CREDITS n))

/-! ### Bursts (R315, R321) -/

/-- The end offset of the burst that starts at an offset. -/
def burstEnd (d : List Nat) (o : Nat) : Nat :=
  let u := dBurst d * 64
  min (dLen d) (((dDst d + o) / u + 1) * u - dDst d)

/-- A burst may start. (Mark: DEDUCED, log 161) -/
def State.dmaMayStart (s : State) (n : Nat) (pin : Bool) : Bool :=
  let c := s.dmaCh n
  s.dmaRunning n && !c.aborting && decide ((c.flight.filter DmaBurst.inFlight).length < 8 ∧ c.next < dLen (s.dmaActive n)) &&
    c.flight.all (fun b => b.bad.isEmpty) && !(decide (16 ≤ n) && s.critical) && s.dmaRequest n pin

/-- The parts of a piece of a copy that come from source blocks not among the bad ones; whole where all do. -/
def goodParts (src dst : Nat) (bad : List Nat) (p : Nat × List Byte) : List (Nat × List Byte) :=
  let a := src + (p.1 - dst)
  let n := 64 - a % 64
  if (blocksIn a p.2.length).all (· ∉ bad) then [p]
  else ([(p.1, p.2.take n), (p.1 + n, p.2.drop n)].filter (fun x => !x.2.isEmpty)).filter (fun x =>
    decide (blockOf (src + (x.1 - dst)) ∉ bad))

/-- The pieces of a copy, one for each destination block, so that a block covered whole is written whole (R262), without the
bytes of bad source blocks (R324). -/
def copyPieces (src dst : Nat) (data : List Byte) (bad : List Nat) : List (Nat × List Byte) :=
  (piecesOf data.length dst data).flatMap (goodParts src dst bad)

/-- Bytes from the start of a range that precede its first bad block. -/
def goodPrefix (a n : Nat) (bad : List Nat) : Nat :=
  bad.foldl (fun g b => min g (b - a)) n

/-- Put a write of a DMA channel into a queue. A read-modify-write of a block that is uncorrectable now is decided when it is
committed (R262, R313). (Mark: DEDUCED, log 9) -/
def State.dmaPut (s : State) (n : Nat) (p : Nat × List Byte) : State :=
  let r := p.1 / regionBytes
  let late := !wholeBlock p && s.validRegion r && !s.initRegion r && decide (blockOf p.1 ∈ s.mem.ue)
  let s := if late then s else (s.writePiece p).1
  s.queueReqs [{ reqOf s.mirrors p with chan := some (n, (s.dmaCh n).pass), rmw := late }]

/-- A channel's queue has room for a write (R263). -/
def State.queueRoom (s : State) (c : Nat) : Bool := decide ((s.mem.writes.filter (fun w => w.ch == c)).length < 64)

/-- Take the first write out of the first burst that has one. -/
def takeTodo : List DmaBurst → Option ((Nat × List Byte) × List DmaBurst)
  | [] => none
  | b :: l => match b.todo with
    | p :: ps => some (p, { b with todo := ps } :: l)
    | [] => (takeTodo l).map (fun x => (x.1, b :: x.2))

/-- Issue a channel's writes in order while their queues have room, or all of them; `k` bounds the recursion (R263, R264). -/
def State.dmaIssue (s : State) (n : Nat) (all : Bool) : Nat → State
  | 0 => s
  | k + 1 => match takeTodo (s.dmaCh n).flight with
    | none => s
    | some (p, fl) =>
      if !all && !s.queueRoom (channelOf p.1) then s
      else ((s.modDma n (fun c => { c with flight := fl })).dmaPut n p).dmaIssue n all k

/-- Issue what can be issued. -/
def State.dmaPush (s : State) (n : Nat) (all : Bool) : State :=
  s.dmaIssue n all (((s.dmaCh n).flight.map (fun b => b.todo.length)).sum)

/-- Start a burst: read its source bytes, and issue its writes as far as the queues have room; uncorrectable blocks are
counted (R276, R315). (Mark: DEDUCED, log 9) -/
def State.dmaBurst (s : State) (n : Nat) : State :=
  let d := s.dmaActive n
  let o := (s.dmaCh n).next
  let e := burstEnd d o
  let s := if 17 ≤ dReq d then s.set (Reg.DMA_CH_REQ_CREDITS n) (s.get (Reg.DMA_CH_REQ_CREDITS n) - 1) else s
  let (s, data, bad) := s.fetch (dSrc d + o) (e - o)
  let b : DmaBurst := ⟨o, e - o, copyPieces (dSrc d + o) (dDst d + o) data bad, bad, goodPrefix (dSrc d + o) (e - o) bad⟩
  let s := (s.meetUes bad 3).modDma n (fun c => { c with next := e, flight := c.flight ++ [b] })
  (s.dmaPush n false).dmaShow n

/-- EVT_DMA_HALF, once for a pass, when BYTES_DONE first reaches half of LEN (R321). (Mark: DEDUCED, log 100) -/
def State.dmaHalf (s : State) (n : Nat) : State :=
  let d := s.dmaActive n
  let c := s.dmaCh n
  if bit (dCtrl d) 0 && !c.halfRaised && decide ((dLen d + 1) / 2 ≤ c.done) then
    (s.modDma n (fun c => { c with halfRaised := true })).raise evDmaHalf 0
      (leBytes 8 n ++ leBytes 8 c.done)
  else s

/-- The reply of a DMA_ABORT that waits, once its channel has no burst that is not acknowledged (R325). -/
def State.dmaAbortReply (s : State) (n : Nat) : State :=
  match s.host.waiting with
  | some ⟨h, .dmaAbort ch, _⟩ =>
    if ch = n ∧ (s.dmaCh n).flight.isEmpty then
      let done := (s.dmaCh n).done
      let s := s.modDma n (fun c => { c with aborting := false, next := 0 })
      let s := { s.dmaMarks n false with host := { s.host with waiting := none } }
      s.reply h 0x0103 stOk false (leBytes 8 done)
    else s
  | _ => s

/-! ### Acknowledgement (R313, R321) -/

/-- A write of a burst lies in the burst's destination. -/
def inBurst (d : List Nat) (b : DmaBurst) (w : WReq) : Bool :=
  decide (dDst d + b.off ≤ w.addr ∧ w.addr < dDst d + b.off + b.len)

/-- Every write of a burst of a channel's present pass is issued and acknowledged. -/
def State.burstAcked (s : State) (n : Nat) (b : DmaBurst) : Bool :=
  b.todo.isEmpty && b.bad.isEmpty &&
    s.mem.writes.all (fun w => w.chan != some (n, (s.dmaCh n).pass) || !inBurst (s.dmaActive n) b w)

/-- BYTES_DONE covers the bursts acknowledged from the start of the transfer on, and EVT_DMA_HALF and a waiting DMA_ABORT
follow it (R321, R325). -/
def State.dmaProgress (s : State) (n : Nat) : State :=
  let fl := (s.dmaCh n).flight
  let gone := fl.takeWhile (s.burstAcked n)
  match gone.getLast? with
  | none => s
  | some b =>
    let s := s.modDma n (fun c => { c with flight := fl.drop gone.length, done := b.off + b.len })
    ((s.dmaHalf n).dmaShow n).dmaAbortReply n

/-- A read-modify-write of a DMA channel fails when it is committed: it is counted, and the burst of the present pass that
issued it has met the block (R262, R323, R324). -/
def State.rmwFails (s : State) (w : WReq) : State :=
  let s := s.meetUe (blockOf w.addr) 3 0 0xFFFFFFFF 0
  match w.chan with
  | none => s
  | some (n, pass) =>
    let d := s.dmaActive n
    if pass ≠ (s.dmaCh n).pass ∨ !s.dmaRunning n then s
    else s.modDma n (fun c => { c with flight := c.flight.map (fun b =>
      if inBurst d b w then { b with bad := b.bad ++ [blockOf w.addr],
                                     good := min b.good (goodPrefix (dDst d + b.off) b.len [blockOf w.addr]) } else b) })

/-- Commit a write that has left its queue: a fill that it waits for ends first, and it is mirrored (R269, R313, R410). -/
def State.commitWrite (s : State) (w : WReq) : State :=
  let s := s.waitFills w.addr w.data.length
  if w.rmw then
    let r := s.writePiece (w.addr, w.data)
    if r.2 then r.1.rmwFails w else r.1.mirrorWrite w
  else s.mirrorWrite w

/-- The DMA channels after an acknowledgement: writes that waited for room are issued, and progress shows. -/
def State.dmaAcked (s : State) : State :=
  (List.range 32).foldl (fun (s : State) n =>
    if (s.dmaCh n).flight.isEmpty then s else ((s.dmaPush n false).dmaShow n).dmaProgress n) s

/-- Commit the queued writes that satisfy a condition, oldest first. (Mark: DEDUCED, log 9) -/
def State.commitWrites (s : State) (p : WReq → Bool) : State :=
  let gone := s.mem.writes.filter p
  let s := { s with mem := { s.mem with writes := s.mem.writes.filter (fun w => !p w) } }
  (gone.foldl State.commitWrite s).showWrites.dmaAcked

/-- Commit the oldest queued write of a channel (R263, R313); a write that waits for a fill is committed at its end. -/
def State.commitOldest (s : State) (c : Nat) : State :=
  match s.mem.writes.find? (fun w => w.ch == c) with
  | some w => ({ s with mem := { s.mem with writes := s.mem.writes.erase w } }.commitWrite w).showWrites.dmaAcked
  | none => s

/-- The writes of the oldest burst that is not acknowledged are acknowledged (R313, R321). -/
def State.dmaAck (s : State) (n : Nat) : State :=
  match (s.dmaCh n).flight with
  | [] => s
  | b :: _ =>
    let d := s.dmaActive n
    let pass := (s.dmaCh n).pass
    s.commitWrites (fun w => w.chan == some (n, pass) && inBurst d b w)

/-! ### Completion and errors (R312, R320 to R325) -/

/-- What the read-back of a data channel cannot read: the block of the last destination byte, once every write is
acknowledged (R312, R313). (Mark: DEDUCED, log 101) -/
def State.backBad (s : State) (n : Nat) : List Nat :=
  let d := s.dmaActive n
  let c := s.dmaCh n
  if n < 16 ∧ c.next = dLen d ∧ c.flight.isEmpty then s.badBlocks (dDst d + dLen d - 1) 1 else []

/-- The completion point of R312 is reached: every burst has started, and its writes are issued on a user channel without
BARRIER, and acknowledged elsewhere; a data channel has read its last block back. -/
def State.dmaComplete? (s : State) (n : Nat) : Bool :=
  let d := s.dmaActive n
  let c := s.dmaCh n
  s.dmaRunning n && !c.aborting && decide (c.next = dLen d) && c.flight.all (fun b => b.bad.isEmpty && b.todo.isEmpty) &&
    (c.flight.isEmpty || (decide (16 ≤ n) && !bit (dCtrl d) 2)) && (s.backBad n).isEmpty

/-- The shadow flips in as it was last written (R4, R320). Words written after the commit that fail the checks of R319 do not
start: the channel goes idle. (Mark: DESIGN CHOICE, log 99) -/
def State.dmaFlip (s : State) (n : Nat) : State :=
  let s := (s.modDma n (fun c => { c with committed := false })).dmaMarks n false
  if s.dmaCheck n 1 (s.dmaShadow n) = stOk then s.dmaActivate n (s.dmaShadow n) else s.dmaShow n

/-- Completion of a pass: the read-back of a data channel, EVT_DMA_DONE, then the committed shadow, a repeat, or idle (R313,
R320 to R322). (Mark: DEDUCED, log 100) -/
def State.dmaFinish (s : State) (n : Nat) : State :=
  let d := s.dmaActive n
  let c := s.dmaCh n
  let s := if n < 16 then s.meetCes (dDst d + dLen d - 1) 1 else s
  let s := if bit (dCtrl d) 0 && !c.halfRaised then
      (s.modDma n (fun c => { c with halfRaised := true })).raise evDmaHalf 0 (leBytes 8 n ++ leBytes 8 c.done)
    else s
  let s := s.inc (Reg.DMA_CH_PASSES n)
  let s := if bit (dCtrl d) 1 then
      s.raise evDmaDone 0 (leBytes 2 n ++ leBytes 2 stOk ++ [0, 0, 0, 0] ++ leBytes 8 c.done)
    else s
  if c.committed then s.dmaFlip n
  else if bit (dCtrl d) 3 then (s.dmaPass n).dmaShow n
  else (s.dmaMarks n false).dmaShow n

/-- The writes of a channel's bursts all take place. -/
def State.dmaDrain (s : State) (n : Nat) : State :=
  let pass := (s.dmaCh n).pass
  (s.dmaPush n true).commitWrites (fun w => w.chan == some (n, pass))

/-- A transfer that met an uncorrectable block ends: the bursts that have started complete, the shadow is discarded, the
destination past BYTES_DONE is undefined, and the event tells (R324). -/
def State.dmaError (s : State) (n : Nat) : State :=
  let s := s.dmaDrain n
  let d := s.dmaActive n
  let done := match (s.dmaCh n).flight.find? (fun b => !b.bad.isEmpty) with
    | some b => b.off + b.good
    | none => (s.dmaCh n).done
  let s := s.modDma n (fun c => { c with done := done, flight := [], committed := false, next := 0 })
  let s := ((s.undefine (dDst d + done) (dLen d - done)).dmaHalf n).dmaShow n
  let s := (s.setB (Reg.DMA_CH_STATUS_ERROR n) true).dmaMarks n false
  (s.raise evDmaDone 0 (leBytes 2 n ++ leBytes 2 stMemUncorrectable ++ [0, 0, 0, 0] ++ leBytes 8 done)).dmaAbortReply n

/-- DMA_ABORT (R325): the reply waits until the bursts that have started are acknowledged. -/
def cmdDmaAbort (channel : Nat) (s : State) : Res :=
  if 31 < channel then Res.err stBadParam s
  else if !s.dmaRunning channel then Res.okData (leBytes 8 0) s
  else
    let done := (s.dmaCh channel).done
    let s := s.modDma channel (fun c => { c with committed := false })
    if (s.dmaCh channel).flight.isEmpty then
      Res.okData (leBytes 8 done) ((s.modDma channel (fun c => { c with next := 0 })).dmaMarks channel false)
    else { status := stOk, data := [], s := (s.modDma channel (fun c => { c with
           aborting := true })).dmaMarks channel true,
           waits := true }

/-! ### Rows -/

/-- DMA_BURST_START (R315): `pin` is the level outside the pin of a level request. -/
def execDmaBurstStart (ch : Fin 32) (pin : Bool) (t : Nat) (s : State) : Host.Outcome State Fault Refusal :=
  eventAwake t (fun s => s.when (s.dmaMayStart ch pin) (·.dmaBurst ch)) s

/-- DMA_WRITE_ACK (R321). -/
def execDmaWriteAck (ch : Fin 32) (t : Nat) (s : State) : Host.Outcome State Fault Refusal :=
  eventAwake t (·.dmaAck ch) s

/-- DMA_TRANSFER_COMPLETE (R312, R320 to R322). -/
def execDmaTransferComplete (ch : Fin 32) (t : Nat) (s : State) : Host.Outcome State Fault Refusal :=
  eventAwake t (fun s => s.when (s.dmaComplete? ch) (·.dmaFinish ch)) s

/-- DMA_READ_ERROR (R324): a burst has met an uncorrectable block, or the read-back meets one, which is counted.
(Mark: DEDUCED, log 101) -/
def execDmaReadError (ch : Fin 32) (t : Nat) (s : State) : Host.Outcome State Fault Refusal :=
  eventAwake t (fun s => s.when (s.dmaRunning ch) (fun s =>
    if (s.dmaCh ch).flight.any (fun b => !b.bad.isEmpty) then s.dmaError ch
    else if (s.backBad ch).isEmpty then s else (s.meetUes (s.backBad ch) 3).dmaError ch)) s

/-- GPIO_DIR refused while a running channel or a committed descriptor takes a level request from a pin that it would
make an output (R23). -/
def State.gpioDirBusy (s : State) (v : Nat) : Bool :=
  (List.range 32).any (fun n =>
    (s.dmaRunning n && (match dPin (s.dmaActive n) with | some i => bit v i | none => false)) ||
    ((s.dmaCh n).committed && match dPin (s.dmaShadow n) with | some i => bit v i | none => false))

/-- A write of GPIO_DIR (R23): its status and the state after it. -/
def State.writeGpioDir (s : State) (v : Nat) : Nat × State :=
  if s.gpioDirBusy v then (stBusy, s) else (stOk, s.set Reg.SYS_GPIO_DIR_OUT_EN v)

end Sys2Proof.Machine
end

