-- ==== Sys2Proof/Machine/Encoder.lean ====
section
/-! DEFINITION. Web position: encoder counters, the tracking observer, the index check, compare units and SSI ports
(04_web_position.md). -/

namespace Sys2Proof.Machine

def State.enc (s : State) (e : Nat) : Enc := s.encs.getD e .init

def State.modEnc (s : State) (e : Nat) (f : Enc → Enc) : State := { s with encs := modAt f e s.encs }

def State.cmp (s : State) (u : Nat) : Cmp := s.cmps.getD u .init

def State.modCmp (s : State) (u : Nat) (f : Cmp → Cmp) : State := { s with cmps := modAt f u s.cmps }

/-- The counter of an encoder is valid (R89). -/
def State.encValid (s : State) (e : Nat) : Bool := !s.flag (Reg.ENC_STATUS_INVALID e)

/-! ### The observer (R92 to R97) -/

/-- The gains k1, k2 and k3 for a bandwidth (R92). -/
def gains (bw : Nat) : Nat × Nat × Nat :=
  let w := bw * 269861
  (low 64 (3 * w * 2 ^ 32), low 64 (3 * w * w), low 64 (w * w * w / 2 ^ 32))

/-- One tick of the observer at the counter value `c` (R92). -/
def observe (bw : Nat) (p v a c : Int) : Int × Int × Int :=
  let (k1, k2, k3) := gains bw
  let pp := wrapS 128 (p + v + sar a 1)
  let vp := wrapS 96 (v + a)
  let m := wrapS 128 (c * 2 ^ 64 + 2 ^ 63)
  let e := wrapS 128 (m - pp)
  (wrapS 128 (pp + sar (k1 * e) 64), wrapS 96 (vp + sar (k2 * e) 64), wrapS 96 (a + sar (k3 * e) 64))

/-- The interpolated position: p within the present count cell (R93). -/
def Enc.pos (x : Enc) : Int := clampI (x.count * 2 ^ 64) (x.count * 2 ^ 64 + 2 ^ 64 - 1) x.p

/-- VELOCITY in counts per second (R94). -/
def Enc.velocity (x : Enc) : Int := satS 32 (sar (x.v * 100000 + 2 ^ 63) 64)

/-- POS_FRAC (R93). -/
def Enc.posFrac (x : Enc) : Nat := bits (pat 128 x.pos) 32 32

/-- The value of 0.01 nearest in 64 fraction bits (R94). -/
def dirBand : Int := 184467440737095516

/-- BANDWIDTH as the device uses it. -/
def State.bandwidth (s : State) (e : Nat) : Nat := clampN 20 2000 (s.get (Reg.ENC_CONFIG_BANDWIDTH e))

/-- Ticks of settling for a bandwidth: round_half_up(300,000 / BANDWIDTH) (R96). -/
def settleTicks (bw : Nat) : Nat := (600000 + bw) / (2 * bw)

/-- DIRECTION, with its hysteresis (R94). -/
def State.showDirection (s : State) (e : Nat) : State :=
  let v := (s.enc e).v
  if v < -dirBand then s.setB (Reg.ENC_STATUS_DIRECTION e) true
  else if dirBand < v then s.setB (Reg.ENC_STATUS_DIRECTION e) false
  else s

/-- One tick of an encoder's observer (R92 to R97). -/
def State.encTick (s : State) (e : Nat) : State :=
  let bw := s.bandwidth e
  let s := if (s.enc e).bandwidth = bw then s.modEnc e (fun x => { x with settle := x.settle - 1 })
    else (s.modEnc e (fun x => { x with bandwidth := bw, settle := settleTicks bw })).setB
      (Reg.ENC_STATUS_SETTLING e) true
  if s.flag (Reg.ENC_STATUS_STANDSTILL e) then s
  else
    let x := s.enc e
    let (p, v, a) := observe bw x.p x.v x.a x.count
    (s.modEnc e (fun x => { x with p := p, v := v, a := a })).showDirection e

/-! ### Compare units (R101 to R105) -/

/-- The value that a compare unit's source has: an encoder's counter or an axis position. -/
def State.cmpSource (s : State) (axis : Nat → Int) (u : Nat) : Int :=
  let src := s.get (Reg.ENC_CMP_CTRL_SOURCE u)
  if src < 4 then (s.enc src).count else axis (src - 4)

/-- Commit a unit's POSITION, as POS_LO and POS_HI show it. (Mark: DEDUCED, log 25) -/
def State.putCmpPos (s : State) (u : Nat) (pos : Int) : State :=
  let s := s.modCmp u (fun c => { c with pos := pos, hiHeld := false })
  (s.set (Reg.ENC_CMP_POS_LO u) (pat 64 pos)).set (Reg.ENC_CMP_POS_HI u) (pat 64 pos / 2 ^ 32)

/-- POSITION moved by the unit itself: a value that POS_HI holds for POS_LO stays held (R103).
(Mark: DEDUCED, log 25) -/
def State.moveCmpPos (s : State) (u : Nat) (pos : Int) : State :=
  let s := s.modCmp u (fun c => { c with pos := pos })
  let s := s.set (Reg.ENC_CMP_POS_LO u) (pat 64 pos)
  if (s.cmp u).hiHeld then s else s.set (Reg.ENC_CMP_POS_HI u) (pat 64 pos / 2 ^ 32)

/-- A source at or beyond POSITION in the armed direction (R102). (Mark: DEDUCED, log 24) -/
def State.cmpPassed (s : State) (u : Nat) (x : Int) : Bool :=
  if s.flag (Reg.ENC_CMP_CTRL_DIRECTION u) then decide (x ≤ (s.cmp u).pos) else decide ((s.cmp u).pos ≤ x)

/-- Keep a unit's settings for a crossing at this same instant; of several writes at one instant the first counts
(R102). -/
def State.cmpKeep (s : State) (u : Nat) (bySet : Bool) : State :=
  let now : CmpOld := ⟨s.now, s.get (Reg.ENC_CMP_CTRL_SOURCE u), s.flag (Reg.ENC_CMP_CTRL_DIRECTION u),
    s.flag (Reg.ENC_CMP_CTRL_ARMED u), (s.cmp u).pos, bySet⟩
  let old : CmpOld := match (s.cmp u).old with
    | some o => if o.at_ = s.now then { o with bySet := o.bySet || bySet } else now
    | none => now
  s.modCmp u (fun c => { c with old := some old })

/-- The settings by which a crossing at this instant is judged, where a write has come at the same instant (R102). -/
def State.cmpOld? (s : State) (u : Nat) : Option CmpOld :=
  match (s.cmp u).old with
  | some o => if o.at_ = s.now then some o else none
  | none => none

/-- A write of POSITION, evaluated at once against a source value (R102). -/
def State.writeCmpPos (s : State) (u : Nat) (pos x : Int) : State :=
  let s := s.putCmpPos u pos
  s.setB (Reg.ENC_CMP_STATUS_PASSED u) (s.cmpPassed u x)

/-- POSITION moves by whole periods until it lies ahead of the source again (R103).
(Mark: DEDUCED, log 24; DEDUCED, log 25) -/
def State.cmpMove (s : State) (u : Nat) (x : Int) : State :=
  let per : Int := s.get (Reg.ENC_CMP_PERIOD u)
  let pos := (s.cmp u).pos
  let n : Int := if s.flag (Reg.ENC_CMP_CTRL_DIRECTION u) then (pos - x + per - 1) / per else (x - pos) / per + 1
  let s := s.moveCmpPos u (if s.flag (Reg.ENC_CMP_CTRL_DIRECTION u) then pos - n * per else pos + n * per)
  s.incSat (Reg.ENC_CMP_MISSED u) (n - 1).toNat

/-- What every firing does: HITS, FIRED, the event with the POSITION that fired, the pulse (R104). -/
def State.cmpHit (s : State) (u : Nat) (pos : Int) : State :=
  let s := (s.inc (Reg.ENC_CMP_HITS u)).setB (Reg.ENC_CMP_STATUS_FIRED u) true
  let s := if s.flag (Reg.ENC_CMP_CTRL_EVT_EN u) then s.raiseLimited evCompare u 1 (leBytes 8 u ++ leInt 8 pos) else s
  let s := if s.flag (Reg.ENC_CMP_CTRL_PULSE_EN u) && decide (s.get (Reg.ENC_CMP_CTRL_PULSE_TARGET u) < 20) then
      let w := max 1 (s.get (Reg.ENC_CMP_CTRL_PULSE_WIDTH u))
      s.modCmp u (fun c => { c with pulseEnd := some (s.now + 8 * w) })
    else s
  s.dmaCompareEdge u

/-- A unit fires (R103, R104). (Mark: DEDUCED, log 24) -/
def State.cmpFire (s : State) (u : Nat) (x : Int) : State :=
  let s := s.cmpHit u (s.cmp u).pos
  if s.get (Reg.ENC_CMP_PERIOD u) = 0 then s.setB (Reg.ENC_CMP_CTRL_ARMED u) false else s.cmpMove u x

/-- A source changes from below a position to it or above, or the other way (R101). -/
def crossesUp (pos old new : Int) : Bool := decide (old < pos ∧ pos ≤ new)
def crossesDown (pos old new : Int) : Bool := decide (pos ≤ old ∧ new < pos)

/-- A change of a source at the instant of a write of POSITION: a crossing is judged by the settings before the write,
which then stands, and PASSED is that of the new settings (R102). A one-shot unit that fires so disarms, unless COMPARE_SET
armed it anew. (Mark: DEDUCED, log 24) -/
def State.cmpEvalOld (s : State) (u src : Nat) (o : CmpOld) (valid : Bool) (old new : Int) : State :=
  let hit := if o.backward then crossesDown o.pos old new else crossesUp o.pos old new
  let s := if o.source == src && hit && valid && o.armed then
      let s := s.cmpHit u o.pos
      if s.get (Reg.ENC_CMP_PERIOD u) = 0 ∧ !o.bySet then s.setB (Reg.ENC_CMP_CTRL_ARMED u) false else s
    else s
  if s.get (Reg.ENC_CMP_CTRL_SOURCE u) = src then s.setB (Reg.ENC_CMP_STATUS_PASSED u) (s.cmpPassed u new) else s

/-- Evaluate a unit on a change of its source (R101, R102); `valid` is false while its encoder is INVALID (R89).
(Mark: DEDUCED, log 24) -/
def State.cmpEval (s : State) (u : Nat) (valid : Bool) (old new : Int) : State :=
  let pos := (s.cmp u).pos
  let fwd := crossesUp pos old new
  let bwd := crossesDown pos old new
  let s := if fwd || bwd then s.setB (Reg.ENC_CMP_STATUS_PASSED u) false else s
  let hit := if s.flag (Reg.ENC_CMP_CTRL_DIRECTION u) then bwd else fwd
  if hit && valid && s.flag (Reg.ENC_CMP_CTRL_ARMED u) then s.cmpFire u new else s

/-- Evaluate every unit that watches a source, or watched it before a write at this same instant (R102). -/
def State.cmpEvalAll (s : State) (src : Nat) (valid : Bool) (old new : Int) : State :=
  (List.range 8).foldl (fun s u =>
    match s.cmpOld? u with
    | some o => s.cmpEvalOld u src o valid old new
    | none => if s.get (Reg.ENC_CMP_CTRL_SOURCE u) = src then s.cmpEval u valid old new else s) s

/-- A jump of a source is no crossing: PASSED is evaluated again (R105). -/
def State.cmpJump (s : State) (src : Nat) (x : Int) : State :=
  (List.range 8).foldl (fun s u =>
    if s.get (Reg.ENC_CMP_CTRL_SOURCE u) = src then s.setB (Reg.ENC_CMP_STATUS_PASSED u) (s.cmpPassed u x) else s) s

/-- COMPARE_SET (R102). -/
def State.compareSet (s : State) (axis : Nat → Int) (u src dir : Nat) (pos : Int) : Res :=
  let s := s.cmpKeep u true
  let s := (s.set (Reg.ENC_CMP_CTRL_SOURCE u) src).set (Reg.ENC_CMP_CTRL_DIRECTION u) dir
  let s := s.setB (Reg.ENC_CMP_CTRL_ARMED u) true
  let s := s.writeCmpPos u pos (s.cmpSource axis u)
  Res.okData (leBytes 1 (s.get (Reg.ENC_CMP_STATUS_PASSED u))) s

/-- A write of POS_LO commits POS_HI and POS_LO together (R102). -/
def State.writeCmpLo (s : State) (axis : Nat → Int) (u v : Nat) : State :=
  let hi := s.get (Reg.ENC_CMP_POS_HI u)
  let s := s.cmpKeep u false
  s.writeCmpPos u (sgn 64 (low 32 v + 2 ^ 32 * hi)) (s.cmpSource axis u)

/-- A write of POS_HI is held until POS_LO is written. -/
def State.holdCmpHi (s : State) (u v : Nat) : State :=
  (s.set (Reg.ENC_CMP_POS_HI u) v).modCmp u (fun c => { c with hiHeld := true })

/-- COMPARE_PULSE_END (R104). -/
def execComparePulseEnd (u : Fin 8) (t : Nat) (s : State) : Host.Outcome State Fault Refusal :=
  event t (fun s => s.when (match (s.cmp u).pulseEnd with | some e => decide (e ≤ s.now) | none => false)
    (·.modCmp u (fun c => { c with pulseEnd := none }))) s

/-! ### Edges (R79 to R91) -/

/-- A filtered level of an encoder: 0 is A, 1 is B, 2 is Z. -/
def State.encLevel (s : State) (e ch : Nat) : Bool := bit (s.get (Reg.ENC_STATUS_LEVEL e)) ch

/-- Set a filtered level. -/
def State.putEncLevel (s : State) (e ch : Nat) (b : Bool) : State :=
  let l := s.get (Reg.ENC_STATUS_LEVEL e)
  s.set (Reg.ENC_STATUS_LEVEL e) (l - (l &&& 2 ^ ch) + (if b then 2 ^ ch else 0))

/-- Toggle a filtered level. -/
def State.flipEncLevel (s : State) (e ch : Nat) : State := s.putEncLevel e ch (!s.encLevel e ch)

/-- The count of an edge just accepted on A or B: A leads B forward, and REVERSE swaps the sense (R81). -/
def State.edgeForward (s : State) (e ch : Nat) : Bool :=
  let lead := xor (s.encLevel e 0) (s.encLevel e 1)
  xor (if ch = 0 then lead else !lead) (s.flag (Reg.ENC_CONFIG_REVERSE e))

/-- Fewer than 7 samples of 2.5 ns lie between an earlier edge and now (R87). -/
def State.tooClose (s : State) (o : Option Nat) : Bool :=
  match o with | some t => decide (s.now / 2 < t / 2 + 7) | none => false

/-- The run of edges on one channel (R91). (Mark: DEDUCED, log 23) -/
def State.edgeRun (s : State) (e : Nat) (onB : Bool) : State :=
  let x := s.enc e
  if x.runOnB = onB ∧ 0 < x.run then
    let s := s.modEnc e (fun x => { x with run := min 64 (x.run + 1) })
    if 64 ≤ x.run + 1 then s.setB (Reg.ENC_STATUS_ONE_SIDED e) true else s
  else
    let s := s.modEnc e (fun x => { x with runOnB := onB, run := 1 })
    if x.run = 0 then s else s.setB (Reg.ENC_STATUS_ONE_SIDED e) false

/-- The first edge after a standstill: p at the boundary just crossed (R96). (Mark: DEDUCED, log 23) -/
def State.leaveStandstill (s : State) (e : Nat) (fwd : Bool) : State :=
  if s.flag (Reg.ENC_STATUS_STANDSTILL e) then
    let bw := s.bandwidth e
    let s := s.modEnc e (fun x => { x with
      p := if fwd then x.count * 2 ^ 64 else x.count * 2 ^ 64 + 2 ^ 64 - 1, v := 0, a := 0, settle := settleTicks bw })
    (s.setB (Reg.ENC_STATUS_STANDSTILL e) false).setB (Reg.ENC_STATUS_SETTLING e) true
  else s

/-- Note the counter and INVALID as they stand before a change (R308). (Mark: DEDUCED, log 75) -/
def State.encNote (s : State) (e : Nat) : State :=
  s.modEnc e (fun x => { x with
    hist := x.hist.filter (fun h => decide (s.now < h.1 + 801)) ++ [(s.now, x.count, !s.encValid e)] })

/-- The counter and INVALID of an encoder at an instant at most 1 µs ago. (Mark: DEDUCED, log 75) -/
def State.encAt (s : State) (e t : Nat) : Int × Bool :=
  match (s.enc e).hist.find? (fun h => decide (t < h.1)) with
  | some h => (h.2.1, h.2.2)
  | none => ((s.enc e).count, !s.encValid e)

/-- A fault of an encoder: INVALID, and its cause bit with the event when the bit was clear (R89). -/
def State.encFault (s : State) (e : Nat) (cause : Fld) (last : Int) : State :=
  let s' := (s.encNote e).setB (Reg.ENC_STATUS_INVALID e) true
  if s.flag cause then s' else (s'.setB cause true).raise evEncOverrun 0 (leBytes 8 e ++ leInt 8 last)

/-- The counter of an encoder after a counted edge; compare units see it (R81, R101). (Mark: DEDUCED, log 23) -/
def State.countEdge (s : State) (e : Nat) (fwd : Bool) : State :=
  let old := (s.enc e).count
  let new := wrapS 64 (if fwd then old + 1 else old - 1)
  let s := (s.encNote e).modEnc e (fun x => { x with count := new, backward := !fwd })
  (s.leaveStandstill e fwd).cmpEvalAll e (s.encValid e) old new

/-- An accepted edge on A, on B, or on both in one sample, without what an invalid encoder does to its planes.
(Mark: DEDUCED, log 23) -/
def State.encEdge (s : State) (e ch : Nat) : State :=
  let x := s.enc e
  let t := s.now
  let tooFast := ch == 2 || s.tooClose x.lastA || s.tooClose x.lastB
  let s := if tooFast then s.encFault e (Reg.ENC_STATUS_OVERRUN e) x.count else s
  let s := s.modEnc e (fun x => { x with lastEdge := t })
  if ch = 0 then
    let s := ((s.flipEncLevel e 0).modEnc e (fun x => { x with lastA := some t })).edgeRun e false
    s.countEdge e (s.edgeForward e 0)
  else if ch = 1 then
    let s := ((s.flipEncLevel e 1).modEnc e (fun x => { x with lastB := some t })).edgeRun e true
    s.countEdge e (s.edgeForward e 1)
  else
    ((s.flipEncLevel e 0).flipEncLevel e 1).modEnc e (fun x => { x with lastA := some t, lastB := some t, run := 0 })
      |>.setB (Reg.ENC_STATUS_ONE_SIDED e) false

/-! ### The sampler (R79) -/

/-- N of an input filter setting: samples for which a new level must hold; 6 and 7 act as 5 (R79). -/
def filterN (f : Nat) : Nat := 2 ^ min f 5

/-- A channel over `n` samples at one level of its receiver, from the level and the hold before: the hold after, whether a
change reverted before it was accepted, and the sample, counted back from the last, at which a level unlike the accepted
one is accepted (R79). -/
def sampleRun (need : Nat) (acc raw lvl : Bool) (held n : Nat) : Nat × Bool × Option Nat :=
  let h := if lvl = raw then held + n else n
  (h, lvl != raw && raw != acc, if lvl != acc && decide (need ≤ h) then some (min (h - need) (n - 1)) else none)

/-- A number put among others in falling order, once. -/
def insFall (a : Nat) : List Nat → List Nat
  | [] => [a]
  | b :: l => if b < a then a :: b :: l else if a = b then b :: l else b :: insFall a l

/-- What the sampler of an encoder makes of `n` samples at the levels `lvl` of A, B and Z: the holds after them, the
changes rejected, and for each channel the sample at which its level is accepted (R79). -/
def State.sampled (s : State) (e lvl n : Nat) : List (Nat × Bool × Option Nat) :=
  let x := s.enc e
  (List.range 3).map (fun c => sampleRun (filterN (s.get (Reg.ENC_CONFIG_FILTER e))) (s.encLevel e c) (bit x.raw c)
    (bit lvl c) (x.held.getD c 0) n)

/-- The receivers' levels while the sampler does not run: no hold is counted. -/
def State.encRaw (s : State) (e lvl : Nat) : State := s.modEnc e (fun x => { x with raw := lvl, held := [0, 0, 0] })

/-- The drift check of a latch (R86). -/
def State.driftCheck (s : State) (e : Nat) (new old : Int) : State :=
  let err := satS 32 (((new - old).natAbs : Int) - s.get (Reg.ENC_INDEX_EXPECT e))
  let s := s.setS (Reg.ENC_INDEX_ERR e) err
  if s.get (Reg.ENC_INDEX_EXPECT e) ≠ 0 ∧ s.get (Reg.ENC_INDEX_TOL e) < err.natAbs then
    s.setB (Reg.ENC_STATUS_DRIFT e) true
  else s

/-- An index latch (R85, R86). -/
def State.indexLatch (s : State) (e : Nat) : State :=
  let x := s.enc e
  let same := s.flag (Reg.ENC_STATUS_INDEX_VALID e) && s.flag (Reg.ENC_STATUS_INDEX_DIR e) == x.backward
  let s := if same then s.driftCheck e x.count x.latch else s
  let s := (s.modEnc e (fun x => { x with latch := x.count })).inc (Reg.ENC_INDEX_COUNT e)
  (s.setB (Reg.ENC_STATUS_INDEX_DIR e) x.backward).setB (Reg.ENC_STATUS_INDEX_VALID e) true

/-- Encoders count in ladder states L0 to L2 (R82). -/
def State.encCounts (s : State) : Bool := decide (s.get Reg.LADDER_STATE < 3)

/-- An accepted edge of Z (R85). -/
def State.zEdge (s : State) (e : Nat) : State :=
  let s := s.flipEncLevel e 2
  s.when (s.encLevel e 2 != s.flag (Reg.ENC_CONFIG_Z_POL e) && s.flag (Reg.ENC_CONFIG_Z_EN e) && s.encValid e &&
    !s.flag (Reg.ENC_STATUS_Z_FAULT e)) (·.indexLatch e)

/-- WIRE_FAULT_END (R88). -/
def execWireFaultEnd (e : Fin 4) (ch : Fin 3) (t : Nat) (s : State) : Host.Outcome State Fault Refusal :=
  event t (fun s => s.setB (if ch = 0 then Reg.ENC_STATUS_WIRE_A e else if ch = 1 then Reg.ENC_STATUS_WIRE_B e
    else Reg.ENC_STATUS_WIRE_Z e) false) s

/-- STANDSTILL (R95). -/
def execStandstill (e : Fin 4) (t : Nat) (s : State) : Host.Outcome State Fault Refusal :=
  event t (fun s => s.when (s.encCounts && !s.flag (Reg.ENC_STATUS_STANDSTILL e) &&
      decide ((s.enc e).lastEdge + max 1 (s.get (Reg.ENC_STANDSTILL_STANDSTILL_MS e)) * msSteps ≤ s.now))
    (fun s => (s.modEnc e (fun x => { x with v := 0, a := 0 })).setB (Reg.ENC_STATUS_STANDSTILL e) true)) s

/-- SETTLING_END (R96). -/
def execSettlingEnd (e : Fin 4) (t : Nat) (s : State) : Host.Outcome State Fault Refusal :=
  event t (fun s => s.when (s.encCounts && (s.enc e).settle == 0) (·.setB (Reg.ENC_STATUS_SETTLING e) false)) s

/-- A write that would clear Z_FAULT has no effect while WIRE_Z is 1; the first latch after the clear forms no delta
(R90). -/
def State.clearZFault (s : State) (e : Nat) : State :=
  if s.flag (Reg.ENC_STATUS_WIRE_Z e) then s else s.clearOnes (Reg.ENC_STATUS_Z_FAULT e) 1

/-- Z_FAULT_CLEAR (R90). -/
def execZFaultClear (e : Fin 4) (t : Nat) (s : State) : Host.Outcome State Fault Refusal :=
  eventAwake t (·.clearZFault e) s

/-! ### Captures and commands (R83, R84) -/

/-- COUNT_HI, INDEX_LO, INDEX_HI, VELOCITY, POS_FRAC as they stand (R84). (Mark: DEDUCED, log 22) -/
def State.encWords (s : State) (e : Nat) : List Nat :=
  let x := s.enc e
  [low 32 (pat 64 x.count / 2 ^ 32), low 32 (pat 64 x.latch), low 32 (pat 64 x.latch / 2 ^ 32), pat 32 x.velocity, x.posFrac]

/-- ENC_CONFIG; refused while a plane prints from the encoder (R109). -/
def State.encConfig (s : State) (prints : Bool) (e filter bw ms relay : Nat) : Res :=
  if prints then Res.err stBadState s
  else
    let s := (s.set (Reg.ENC_CONFIG_FILTER e) filter).set (Reg.ENC_CONFIG_BANDWIDTH e) bw
    Res.ok ((s.set (Reg.ENC_CONFIG_RELAY_EN e) relay).set (Reg.ENC_STANDSTILL_STANDSTILL_MS e) ms)

/-- The counter, the observer and the marks of an encoder at ENC_REFERENCE (R83). -/
def State.encLoad (s : State) (e : Nat) (count : Int) : State :=
  let off := count - (s.enc e).count
  let s := (s.encNote e).modEnc e (fun x => { x with count := count, p := wrapS 128 (x.p + off * 2 ^ 64) })
  let s := (s.setB (Reg.ENC_STATUS_INVALID e) false).setB (Reg.ENC_STATUS_INDEX_VALID e) false
  s.cmpJump e count

/-- ENC_READ (R84). (Mark: DEDUCED, log 22) -/
def cmdEncRead (e : Nat) (s : State) : Res :=
  let x := s.enc e
  let fl := s.get (Reg.ENC_STATUS_INVALID e) + 2 * s.get (Reg.ENC_STATUS_SETTLING e) +
    4 * s.get (Reg.ENC_STATUS_DIRECTION e) + 8 * s.get (Reg.ENC_STATUS_STANDSTILL e)
  Res.okData (leInt 8 x.count ++ leInt 8 x.latch ++ leInt 4 x.velocity ++ leBytes 1 fl) s

/-! ### Relay (R98, R99) -/

/-- RELAY_EN as the relay sees it; its reset value of 1 holds while RESET_N is low (R98, R99). -/
def State.relayEn (s : State) (e : Nat) : Bool := !s.power.resetN || s.flag (Reg.ENC_CONFIG_RELAY_EN e)

/-- The level that EOUTe drives on A (0), B (1) or Z (2): that of the receiver before the sampler, low while RELAY_EN is 0,
in reset and in every ladder state; `none` while VIO or VAUX is out of range, where nothing says what the output does
(R98, R99). -/
def State.eout (s : State) (e ch : Nat) : Option Bool :=
  if s.power.supplyOk then some (s.relayEn e && bit (s.enc e).raw ch) else none

/-! ### SSI ports (R106 to R108) -/

def State.ssi (s : State) (k : Nat) : Ssi := s.ssis.getD k .init

def State.modSsi (s : State) (k : Nat) (f : Ssi → Ssi) : State := { s with ssis := modAt f k s.ssis }

/-- Data bits of a frame, 8 to 40. -/
def State.ssiBits (s : State) (k : Nat) : Nat := clampN 8 40 (s.get (Reg.ENC_SSI_CONFIG_BITS k))

/-- PARITY, 3 treated as 0. -/
def State.ssiParity (s : State) (k : Nat) : Nat :=
  let p := s.get (Reg.ENC_SSI_CONFIG_PARITY k)
  if p = 3 then 0 else p

/-- MONO_US, 0 treated as 1, in steps. -/
def State.ssiMono (s : State) (k : Nat) : Nat := max 1 (s.get (Reg.ENC_SSI_CONFIG_MONO_US k)) * usSteps

/-- PERIOD_US in steps, values 1 to 9 treated as 10; 0 is off (R108). -/
def State.ssiPeriod (s : State) (k : Nat) : Nat :=
  let p := s.get (Reg.ENC_SSI_TIMING_PERIOD_US k)
  if p = 0 then 0 else max 10 p * usSteps

/-- A frame falls due; one that falls due during a frame is ignored (R108). (Mark: DESIGN CHOICE, log 26) -/
def State.ssiDue (s : State) (k : Nat) : State :=
  if (s.ssi k).due.isSome then s else s.modSsi k (fun x => { x with due := some s.now })

/-- The value of bits, most significant first, with or without Gray conversion (R107). -/
def ssiValue (gray : Bool) : Bool → List Bool → Nat → Nat
  | _, [], n => n
  | prev, b :: bs, n =>
    let v := if gray then xor prev b else b
    ssiValue gray v bs (2 * n + v.toNat)

/-- The frame's parity agrees (R107). -/
def ssiParityOk (mode : Nat) (frame : List Bool) : Bool :=
  let ones := (frame.filter id).length
  mode == 0 || (if mode = 1 then ones % 2 == 0 else ones % 2 == 1)

/-- A frame ends: the value is stored, or a parity error noted (R107). -/
def State.ssiDone (s : State) (k start : Nat) (frame : List Bool) : State :=
  let s := s.modSsi k (fun x => { x with due := none, readyAt := s.now + s.ssiMono k })
  if ssiParityOk (s.ssiParity k) frame then
    let v := ssiValue (s.flag (Reg.ENC_SSI_CONFIG_GRAY k)) false (frame.take (s.ssiBits k)) 0
    let s := (s.set (Reg.ENC_SSI_POS_LO k) v).set (Reg.ENC_SSI_POS_HI k) (v / 2 ^ 32)
    ((s.setB (Reg.ENC_SSI_STATUS_VALID k) true).inc (Reg.ENC_SSI_STATUS_FRAMES k)).set (Reg.ENC_SSI_STAMP k) (stepsNs start)
  else s.setB (Reg.ENC_SSI_STATUS_PARITY_ERR k) true

/-- SSI_START (R108). (Mark: DESIGN CHOICE, log 26) -/
def execSsiStart (k : Fin 2) (t : Nat) (s : State) : Host.Outcome State Fault Refusal := eventAwake t (·.ssiDue k) s

/-- SSI_FRAME_PERIOD (R108). (Mark: DESIGN CHOICE, log 26) -/
def execSsiFramePeriod (k : Fin 2) (t : Nat) (s : State) : Host.Outcome State Fault Refusal :=
  eventAwake t (fun s => s.when (s.ssiPeriod k != 0 && decide ((s.ssi k).nextAt ≤ s.now)) (fun s =>
    (s.modSsi k (fun x => { x with nextAt := s.now + s.ssiPeriod k })).ssiDue k)) s

/-- SSI_FRAME_DONE (R107): a frame that started at `start`, with its bits in order, the parity bit last.
(Mark: DESIGN CHOICE, log 26) -/
def execSsiFrameDone (k : Fin 2) (start : Nat) (frame : List Bool) (t : Nat) (s : State) :
    Host.Outcome State Fault Refusal :=
  eventAwake t (fun s => s.when (match (s.ssi k).due with
      | some d => decide (d ≤ start ∧ (s.ssi k).readyAt ≤ start ∧ start ≤ s.now) &&
          frame.length == s.ssiBits k + (if s.ssiParity k = 0 then 0 else 1)
      | none => false)
    (·.ssiDone k start frame)) s

/-- DI_STUCK (R107): the frame is skipped. -/
def execDiStuck (k : Fin 2) (t : Nat) (s : State) : Host.Outcome State Fault Refusal :=
  eventAwake t (fun s => s.when (match (s.ssi k).due with
      | some d => decide (max d (s.ssi k).readyAt + s.ssiMono k ≤ s.now) | none => false)
    (fun s => (s.modSsi k (fun x => { x with due := none })).setB (Reg.ENC_SSI_STATUS_DI_STUCK k) true)) s

end Sys2Proof.Machine
end

