-- ==== Sys2Proof/Machine/Tables.lean ====
section
/-! DEFINITION. Table memory: its reset contents, its two banks and the host's view of it (03_address_map.md R68 to
R71; 08_halftone_density.md R177, R178, R182, R183; 10_camera_pipeline.md R226; 13_motion_axes.md R288). -/

namespace Sys2Proof.Machine

/-- First address of table memory. -/
def tabBase : Nat := 0x1000000000

/-! ### Reset contents -/

/-- The rank of the Solcel screen (R177). -/
def solcelRank (x y : Nat) : Nat :=
  let a := x ^^^ y
  (List.range 8).foldl (fun q i => q ||| (bits a i 1 * 2 ^ (15 - 2 * i)) ||| (bits y i 1 * 2 ^ (14 - 2 * i))) 0

/-- The Solcel screen (R177). -/
def solcel (l x y : Nat) : Nat := 85 * (l - 1) + solcelRank x y * 85 / 65536

/-- MAG of entries 0 to 63 (R288). -/
def sine0 : List Nat := [
  0, 6, 13, 19, 25, 31, 38, 44, 50, 56, 63, 69, 75, 82, 88, 94, 100, 107, 113, 119, 125, 131, 138, 144, 150, 156, 163,
  169, 175, 181, 187, 193, 200, 206, 212, 218, 224, 230, 236, 242, 249, 255, 261, 267, 273, 279, 285, 291, 297, 303,
  309, 315, 321, 327, 333, 339, 345, 351, 356, 362, 368, 374, 380, 386]

/-- MAG of entries 64 to 127 (R288). -/
def sine1 : List Nat := [
  391, 397, 403, 409, 415, 420, 426, 432, 437, 443, 449, 454, 460, 466, 471, 477, 482, 488, 493, 499, 504, 510, 515,
  521, 526, 531, 537, 542, 547, 553, 558, 563, 568, 574, 579, 584, 589, 594, 599, 604, 609, 614, 619, 624, 629, 634,
  639, 644, 649, 654, 659, 663, 668, 673, 678, 682, 687, 692, 696, 701, 705, 710, 714, 719]

/-- MAG of entries 128 to 191 (R288). -/
def sine2 : List Nat := [
  723, 728, 732, 737, 741, 745, 750, 754, 758, 762, 766, 771, 775, 779, 783, 787, 791, 795, 799, 803, 806, 810, 814,
  818, 822, 825, 829, 833, 836, 840, 844, 847, 851, 854, 858, 861, 864, 868, 871, 874, 877, 881, 884, 887, 890, 893,
  896, 899, 902, 905, 908, 911, 914, 917, 919, 922, 925, 927, 930, 933, 935, 938, 940, 943]

/-- MAG of entries 192 to 255 (R288). -/
def sine3 : List Nat := [
  945, 948, 950, 952, 954, 957, 959, 961, 963, 965, 967, 969, 971, 973, 975, 977, 979, 981, 983, 984, 986, 988, 989,
  991, 992, 994, 995, 997, 998, 999, 1001, 1002, 1003, 1005, 1006, 1007, 1008, 1009, 1010, 1011, 1012, 1013, 1014,
  1015, 1015, 1016, 1017, 1017, 1018, 1019, 1019, 1020, 1020, 1021, 1021, 1021, 1022, 1022, 1022, 1023, 1023, 1023,
  1023, 1023]

/-- MAG of entries 256 to 256 (R288). -/
def sine4 : List Nat := [
  1023]

/-- The quarter wave of the reset microstep table. -/
def sineQuarter : List Nat := sine0 ++ sine1 ++ sine2 ++ sine3 ++ sine4

/-- Entry `e` of a microstep table at reset (R288). -/
def microstepReset (e : Nat) : Nat :=
  let h := e % 512
  let mag := sineQuarter.getD (if h ≤ 256 then h else 512 - h) 0
  mag + (if 513 ≤ e then 2 ^ 15 else 0)

/-- A byte of a 16-bit value. -/
def byte16 (v o : Nat) : Byte := BitVec.ofNat 8 (if o % 2 = 0 then v else v / 256)

/-- The byte of table memory at an address after reset, in either bank (R177, R183, R226, R288). -/
def tabReset (addr : Nat) : Byte :=
  let o := addr - tabBase
  if o < 0x100000 then
    let q := o % 0x40000
    if q < 196608 then BitVec.ofNat 8 (solcel (q / 65536 + 1) (q % 256) (q / 256 % 256)) else 0
  else if o < 0x280000 then (if o % 2 = 1 then 0x80 else 0)
  else if o < 0x300000 then 128
  else if o < 0x320000 then 0
  else if o < 0x328000 then byte16 (o % 512 / 2 * 256) o
  else if o < 0x328100 then (if o % 64 < 2 then 0x40 else 0)
  else if o < 0x400000 then 0
  else if o < 0x440000 then byte16 (if o % 4 < 2 then 0x4000 else 0) o
  else if o < 0x448000 then (if o % 0x2000 < 6144 then byte16 (64 * (o % 2048 / 2)) o else 0)
  else if o < 0x500000 then 0
  else if o < 0x502000 then byte16 (microstepReset (o % 0x800 / 2)) o
  else 0

/-- The regions of table memory, as offset ranges (R68). -/
def tabRegions : List (Nat × Nat) :=
  [(0, 0x328100), (0x330000, 0x331000), (0x400000, 0x449000), (0x500000, 0x502000),
   (0x508000, 0x510000), (0x800000, 0x840000)]

/-- An address of table memory that a region covers (R68). (Mark: DEDUCED, log 52) -/
def tabMapped (addr : Nat) : Bool :=
  decide (tabBase ≤ addr) && tabRegions.any (fun r => decide (r.1 ≤ addr - tabBase ∧ addr - tabBase < r.2))

/-- Bytes of the threshold region beyond the 196,608 of a plane, and of the dead-map region beyond 98,304: they read 0 and
writes to them are ignored (R178). -/
def tabUnused (addr : Nat) : Bool :=
  let o := addr - tabBase
  decide ((o < 0x100000 ∧ 196608 ≤ o % 0x40000) ∨ (0x300000 + 98304 ≤ o ∧ o < 0x320000))

/-! ### Banks -/

/-- A byte of a bank. -/
def State.tabByte (s : State) (bank1 : Bool) (addr : Nat) : Byte :=
  Sparse.get (tabReset addr) (if bank1 then s.tab1 else s.tab0) addr

/-- Write bytes of a bank from an address on. -/
def State.putTabs (s : State) (bank1 : Bool) (addr : Nat) (bs : List Byte) : State :=
  if bank1 then { s with tab1 := Sparse.putRange tabReset s.tab1 addr bs }
  else { s with tab0 := Sparse.putRange tabReset s.tab0 addr bs }

/-- Read bytes of a bank. -/
def State.readTab (s : State) (bank1 : Bool) (addr n : Nat) : List Byte :=
  Sparse.slice tabReset (if bank1 then s.tab1 else s.tab0) addr n

/-- The bank in use of a plane's table (R179). -/
def State.bankOf (s : State) (p table : Nat) : Bool := bit (s.get (Reg.HTONE_PL_TABLES_BANK p)) table

/-- A byte of a plane's table in use. -/
def State.planeTab (s : State) (p table addr : Nat) : Nat := (s.tabByte (s.bankOf p table) addr).toNat

/-! ### Canonical form -/

/-- Every memory of the block is in canonical form: DRAM with what is defined of it, table memory, the staging RAM and the
patch RAM. Equal memories are then equal data. -/
def Memory.wf (s : State) : Bool :=
  Sparse.wf (fun _ => 0) s.dram && Sparse.wf (fun _ => false) s.mem.valid && rangesWf s.mem.undef &&
  Sparse.wf tabReset s.tab0 && Sparse.wf tabReset s.tab1 &&
  Sparse.wf (fun _ => 0) s.otp.staging && Sparse.wf (fun _ => 0) s.otp.patchRam

end Sys2Proof.Machine
end

