-- ==== Sys2Proof/Machine/Compose.lean ====
section
/-! DEFINITION. Samples of the base and of the ring, the blend of the layers, layer geometry and flips, and the
protected layer (06_jobs_raster.md R136; 07_composition.md). -/

namespace Sys2Proof.Machine

def State.plane (s : State) (p : Nat) : PlaneSt := s.line.planes.getD p .init

def State.modPlane (s : State) (p : Nat) (f : PlaneSt → PlaneSt) : State :=
  { s with line := { s.line with planes := modAt f p s.line.planes } }

def State.ring (s : State) (p : Nat) : Ring := s.job.rings.getD p .init

def State.modRing (s : State) (p : Nat) (f : Ring → Ring) : State :=
  { s with job := { s.job with rings := modAt f p s.job.rings } }

/-! ### Groups that flip (07_composition.md R156; 03_address_map.md, flip groups) -/

def varGroup (p : Nat) : List Fld :=
  [Reg.COMPOSE_PL_VAR_CTRL_ENABLE p, Reg.COMPOSE_PL_VAR_CTRL_MODE p, Reg.COMPOSE_PL_VAR_CTRL_LAYER_ALPHA p,
   Reg.COMPOSE_PL_VAR_CTRL_KEY p, Reg.COMPOSE_PL_VAR_ADDR_LO p, Reg.COMPOSE_PL_VAR_ADDR_HI p, Reg.COMPOSE_PL_VAR_WIDTH p,
   Reg.COMPOSE_PL_VAR_HEIGHT p, Reg.COMPOSE_PL_VAR_STRIDE p]

def ovlGroup (p : Nat) : List Fld :=
  [Reg.COMPOSE_PL_OVL_CTRL_ENABLE p, Reg.COMPOSE_PL_OVL_CTRL_PREMULT p, Reg.COMPOSE_PL_OVL_CTRL_LAYER_ALPHA p,
   Reg.COMPOSE_PL_OVL_ADDR_LO p, Reg.COMPOSE_PL_OVL_ADDR_HI p, Reg.COMPOSE_PL_OVL_WIDTH p, Reg.COMPOSE_PL_OVL_HEIGHT p,
   Reg.COMPOSE_PL_OVL_STRIDE p, Reg.COMPOSE_PL_OVL_X p]

def kiteGroup (p : Nat) : List Fld :=
  [Reg.COMPOSE_PL_KITE_CTRL_ENABLE p, Reg.COMPOSE_PL_KITE_CTRL_PREMULT p, Reg.COMPOSE_PL_KITE_CTRL_ANCHOR p,
   Reg.COMPOSE_PL_KITE_CTRL_LAYER_ALPHA p, Reg.COMPOSE_PL_KITE_ADDR_LO p, Reg.COMPOSE_PL_KITE_ADDR_HI p,
   Reg.COMPOSE_PL_KITE_SIZE_WIDTH p, Reg.COMPOSE_PL_KITE_SIZE_HEIGHT p, Reg.COMPOSE_PL_KITE_STRIDE p]

def kitePosGroup (p : Nat) : List Fld := [Reg.COMPOSE_PL_KITE_X p, Reg.COMPOSE_PL_KITE_Y p]

/-- A layer's group: 1 variable, 2 overlay, 3 kite. -/
def layerGroup (p layer : Nat) : List Fld := if layer = 1 then varGroup p else if layer = 2 then ovlGroup p else kiteGroup p

/-- The base along-web offsets of a plane. -/
def hoffGroup (p : Nat) : List Fld := (List.range 48).map (Reg.LINEGEN_PL_HOFF_OFFSET p)

/-- The flips of a line about to be issued; `rep` says that it is the first line of a repeat (R75).
(Mark: DEDUCED, log 159) -/
def State.lineFlips (s : State) (p : Nat) (rep : Bool) : State :=
  let go := fun (s : State) (sel : Fld) (g : List Fld) => if !s.flag sel || rep then s.flipAll g else s
  let s := go s (Reg.COMPOSE_PL_FLIP_SEL_VAR p) (varGroup p)
  let s := go s (Reg.COMPOSE_PL_FLIP_SEL_OVL p) (ovlGroup p)
  let s := go s (Reg.COMPOSE_PL_FLIP_SEL_KITE_LAYER p) (kiteGroup p)
  let s := go s (Reg.COMPOSE_PL_FLIP_SEL_KITE_POS p) (kitePosGroup p)
  s.flipAll (hoffGroup p)

/-! ### Layer settings -/

/-- Settings of the variable, overlay or kite layer. -/
structure Layer where
  enable : Bool
  premult : Bool
  mode : Nat
  anchor : Bool
  alpha : Nat
  key : Nat
  addr : Nat
  width : Nat
  height : Nat
  stride : Nat
  x : Nat

/-- The settings of a layer as read through `g`: the shadow or the values in force. -/
def layerOf (g : Fld → Nat) (p layer : Nat) : Layer :=
  if layer = 1 then
    { enable := g (Reg.COMPOSE_PL_VAR_CTRL_ENABLE p) == 1, premult := false,
      mode := g (Reg.COMPOSE_PL_VAR_CTRL_MODE p), anchor := false, alpha := g (Reg.COMPOSE_PL_VAR_CTRL_LAYER_ALPHA p),
      key := g (Reg.COMPOSE_PL_VAR_CTRL_KEY p),
      addr := g (Reg.COMPOSE_PL_VAR_ADDR_LO p) + 2 ^ 32 * g (Reg.COMPOSE_PL_VAR_ADDR_HI p),
      width := g (Reg.COMPOSE_PL_VAR_WIDTH p), height := g (Reg.COMPOSE_PL_VAR_HEIGHT p),
      stride := g (Reg.COMPOSE_PL_VAR_STRIDE p), x := 0 }
  else if layer = 2 then
    { enable := g (Reg.COMPOSE_PL_OVL_CTRL_ENABLE p) == 1, premult := g (Reg.COMPOSE_PL_OVL_CTRL_PREMULT p) == 1,
      mode := 0, anchor := false, alpha := g (Reg.COMPOSE_PL_OVL_CTRL_LAYER_ALPHA p), key := 0,
      addr := g (Reg.COMPOSE_PL_OVL_ADDR_LO p) + 2 ^ 32 * g (Reg.COMPOSE_PL_OVL_ADDR_HI p),
      width := g (Reg.COMPOSE_PL_OVL_WIDTH p), height := g (Reg.COMPOSE_PL_OVL_HEIGHT p),
      stride := g (Reg.COMPOSE_PL_OVL_STRIDE p), x := g (Reg.COMPOSE_PL_OVL_X p) }
  else
    { enable := g (Reg.COMPOSE_PL_KITE_CTRL_ENABLE p) == 1, premult := g (Reg.COMPOSE_PL_KITE_CTRL_PREMULT p) == 1,
      mode := 0, anchor := g (Reg.COMPOSE_PL_KITE_CTRL_ANCHOR p) == 1,
      alpha := g (Reg.COMPOSE_PL_KITE_CTRL_LAYER_ALPHA p), key := 0,
      addr := g (Reg.COMPOSE_PL_KITE_ADDR_LO p) + 2 ^ 32 * g (Reg.COMPOSE_PL_KITE_ADDR_HI p),
      width := g (Reg.COMPOSE_PL_KITE_SIZE_WIDTH p), height := g (Reg.COMPOSE_PL_KITE_SIZE_HEIGHT p),
      stride := g (Reg.COMPOSE_PL_KITE_STRIDE p), x := g (Reg.COMPOSE_PL_KITE_X p) }

/-- The status that a layer's geometry gives (R155, layer geometry limits). -/
def geomStatus (layer addr width height stride : Nat) : Nat :=
  let maxW := if layer = 3 then 512 else 393216
  let maxH := if layer = 3 then 512 else 0xFFFFFFFF
  let need := if layer = 1 then width else 2 * width
  if width = 0 ∨ maxW < width ∨ height = 0 ∨ maxH < height ∨ stride % 256 ≠ 0 ∨ stride < need ∨ 0x1000000 < stride ∨
      addr % 256 ≠ 0 then stBadParam
  else if !inDram addr (height * stride) then stBadParam
  else if touchesProt addr (height * stride) then stProtected
  else stOk

/-! ### Samples (R136) -/

/-- Columns of the output that a binding's rows cover. -/
def Binding.wout (b : Binding) : Nat := if b.x600 then 2 * b.width else b.width

/-- Rows of the base. -/
def Binding.rows (b : Binding) : Nat := if b.y600 then b.repeatLines / 2 else b.repeatLines

/-- The row that a line reads first. -/
def Binding.rowOf (b : Binding) (k : Nat) : Nat := if b.y600 then k / 2 else k

/-- The line reads the row after as well. -/
def Binding.twoRows (b : Binding) (k : Nat) : Bool := b.y600 && b.upscale && k % 2 == 1

/-- A sample; `src` gives the address of a row, and `rd` reads a byte. -/
def sample (rd : Nat → Nat) (b : Binding) (src : Nat → Nat) (k : Nat) (u : Int) : Nat :=
  if u < 0 ∨ (b.wout : Int) ≤ u then 0
  else
    let c := u.toNat
    let i := if b.x600 then c / 2 else c
    let hx := b.x600 && b.upscale && c % 2 == 1
    let vy := b.twoRows k
    let px := fun (r i : Nat) => rd (r + min i (b.width - 1))
    let r0 := src (b.rowOf k)
    let r1 := src (b.rowOf k + 1)
    if !hx && !vy then px r0 i
    else if hx && !vy then (px r0 i + px r0 (i + 1) + 1) / 2
    else if vy && !hx then (px r0 i + px r1 i + 1) / 2
    else (px r0 i + px r0 (i + 1) + px r1 i + px r1 (i + 1) + 2) / 4

/-- Address of a base row; the row after the last is row 0. (Mark: DEDUCED, log 176) -/
def Binding.baseRow (b : Binding) (j : Nat) : Nat := b.baseAddr + j % b.rows * b.stride

/-- Address of a ring row. -/
def Binding.ringRow (b : Binding) (j : Nat) : Nat := b.ringAddr + j % b.ringRows * b.stride

/-! ### Blend (R153) -/

/-- round_half_up of a fraction. -/
def roundHalfUp (n d : Nat) : Nat := (2 * n + d) / (2 * d)

/-- The blend of a layer's value with what lies beneath it. -/
def blend (src dst a la : Nat) (premult : Bool) : Nat :=
  let w := a * la
  let n := (if premult then src * la * 255 else src * w) + dst * (65025 - w)
  min 255 (roundHalfUp n 65025)

/-! ### The protected layer (R159 to R163) -/

/-- First address of a plane's protected area and of its index (03_address_map.md R66, R68). -/
def protArea (p : Nat) : Nat := protBase + p * 0x2000000
def protIndex (p : Nat) : Nat := tabBase + 0x330000 + p * 0x400

/-- A rectangle record. -/
structure Rect where
  x : Nat
  y : Nat
  width : Nat
  height : Nat
  layout : Nat

/-- The record at an offset of a record table. -/
def rectAt (b : List Byte) (i : Nat) : Rect :=
  let r := (b.drop (16 * i)).take 16
  ⟨u32 r 0, u32 r 4, u16 r 8, u16 r 10, u32 r 12⟩

/-- DATA_OFF, ONCE and the row stride of a rectangle. -/
def Rect.dataOff (r : Rect) : Nat := bits r.layout 0 17
def Rect.once (r : Rect) : Bool := bit r.layout 24
def Rect.rowBytes (r : Rect) : Nat := (r.width + 63) / 64 * 64
/-- Units of 256 bytes that a rectangle occupies. -/
def Rect.units (r : Rect) : Nat := (r.height * r.rowBytes + 255) / 256

/-- The row of a rectangle that a line shows, where it shows any (R162). -/
def Rect.row (r : Rect) (k rep : Nat) : Option Nat :=
  if r.once then (if k < r.y ∨ r.height ≤ k - r.y then none else some (k - r.y))
  else
    let q := ((k : Int) - r.y) % (rep : Int)
    if (r.height : Int) ≤ q then none else some q.toNat

/-- The address of the byte with which a rectangle covers a pixel (R162). -/
def Rect.covers (r : Rect) (p k rep n : Nat) : Option Nat :=
  if n < r.x ∨ r.x + r.width ≤ n then none
  else (r.row k rep).map (fun q => protArea p + 256 * r.dataOff + q * r.rowBytes + (n - r.x))

/-- The records of a plane's index in table memory. -/
def State.rects (s : State) (p : Nat) : List Rect :=
  let b := s.readTab false (protIndex p) 1024
  (List.range (s.get (Reg.COMPOSE_PL_PROT_STATUS_RECTS p))).map (rectAt b)

/-- The protected layer of a plane is composited (R163). -/
def State.protShown (s : State) (p : Nat) : Bool :=
  s.flag (Reg.COMPOSE_PL_PROT_STATUS_LOCKED p) && !s.flag (Reg.COMPOSE_PL_PROT_STATUS_FAULT p)

/-! ### The line (R154) -/

/-- What a line of a plane is composed from. -/
structure Stack where
  b : Binding
  k : Nat
  /-- Ring row of the job's row 0, and whether the line is the job's last. -/
  ringBase : Nat
  last : Bool
  var : Layer
  /-- The variable layer reads an area, and its geometry holds (R155). -/
  varOk : Bool
  ovl : Layer
  kite : Layer
  kiteY : Nat
  rects : List Rect
  plane : Nat

/-- The address of a ring row for the line: at the job's last line the row after is the row itself.
(Mark: DEDUCED, log 35) -/
def Stack.ringSrc (x : Stack) (j : Nat) : Nat :=
  let j0 := x.b.rowOf x.k
  x.b.ringRow (x.ringBase + (if x.last then min j j0 else j))

/-- The kite row of the line (R157). -/
def Stack.kiteRow (x : Stack) : Option Nat :=
  if x.kite.anchor then (if x.k < x.kiteY then none else some (x.k - x.kiteY))
  else some (((x.k : Int) - x.kiteY) % (x.b.repeatLines : Int)).toNat

/-- The variable layer's value at a nozzle position, where it is present. -/
def Stack.varValue (x : Stack) (rd : Nat → Nat) (n : Nat) : Option Nat :=
  let u : Int := (n : Int) - x.b.xOrigin
  if x.b.use = 1 then (if u < 0 ∨ (x.b.wout : Int) ≤ u then none else some (sample rd x.b x.ringSrc x.k u))
  else if x.varOk ∧ n < x.var.width then some (rd (x.var.addr + x.k % x.var.height * x.var.stride + n))
  else none

/-- The variable layer over what lies beneath. -/
def Stack.putVar (x : Stack) (rd : Nat → Nat) (n d : Nat) : Nat :=
  if !x.var.enable then d
  else match x.varValue rd n with
    | none => d
    | some v =>
      if x.var.mode = 1 then (if v = x.var.key then d else blend v d 255 x.var.alpha false)
      else if x.var.mode = 2 then blend (max v d) d 255 x.var.alpha false
      else blend v d 255 x.var.alpha false

/-- The overlay over what lies beneath. -/
def Stack.putOvl (x : Stack) (rd : Nat → Nat) (n d : Nat) : Nat :=
  if !x.ovl.enable ∨ n < x.ovl.x ∨ x.ovl.x + x.ovl.width ≤ n ∨ x.ovl.height = 0 then d
  else
    let a := x.ovl.addr + x.k % x.ovl.height * x.ovl.stride + 2 * (n - x.ovl.x)
    blend (rd a) d (rd (a + 1)) x.ovl.alpha x.ovl.premult

/-- The kite over what lies beneath. -/
def Stack.putKite (x : Stack) (rd : Nat → Nat) (n d : Nat) : Nat :=
  if !x.kite.enable ∨ n < x.kite.x ∨ x.kite.x + x.kite.width ≤ n then d
  else match x.kiteRow with
    | none => d
    | some r =>
      if r < x.kite.height then
        let a := x.kite.addr + r * x.kite.stride + 2 * (n - x.kite.x)
        blend (rd a) d (rd (a + 1)) x.kite.alpha x.kite.premult
      else d

/-- The protected layer: the rectangle with the highest index. -/
def Stack.putProt (x : Stack) (rd : Nat → Nat) (n d : Nat) : Nat :=
  x.rects.foldl (fun d r => match r.covers x.plane x.k x.b.repeatLines n with | some a => rd a | none => d) d

/-- The composited value at a nozzle position (R154). -/
def Stack.compose (x : Stack) (rd : Nat → Nat) (n : Nat) : Nat :=
  let u : Int := (n : Int) - x.b.xOrigin
  let d := if x.b.baseEn then sample rd x.b x.b.baseRow x.k u else 0
  let d := if x.b.use = 2 then sample rd x.b x.ringSrc x.k u else d
  x.putProt rd n (x.putKite rd n (x.putOvl rd n (x.putVar rd n d)))

/-- What line `k` of a plane is composed from, with the settings in force. -/
def State.stack (s : State) (p : Nat) (b : Binding) (k ringBase : Nat) (last : Bool) : Stack :=
  let g := s.getA
  let v := layerOf g p 1
  { b := b, k := k, ringBase := ringBase, last := last, var := v,
    varOk := geomStatus 1 v.addr v.width v.height v.stride == stOk, ovl := layerOf g p 2, kite := layerOf g p 3,
    kiteY := g (Reg.COMPOSE_PL_KITE_Y p), rects := if s.protShown p then s.rects p else [], plane := p }

/-- The ranges of DRAM that a line reads over `w` nozzle positions: whole rows (R137). -/
def Stack.ranges (x : Stack) (w : Nat) : List (Nat × Nat) :=
  let rows := fun (src : Nat → Nat) =>
    (src (x.b.rowOf x.k), x.b.width) :: (if x.b.twoRows x.k then [(src (x.b.rowOf x.k + 1), x.b.width)] else [])
  (if x.b.baseEn then rows x.b.baseRow else []) ++
  (if x.b.use ≠ 0 then rows x.ringSrc else []) ++
  (if x.b.use ≠ 1 ∧ x.var.enable ∧ x.varOk then
    [(x.var.addr + x.k % x.var.height * x.var.stride, min x.var.width w)] else []) ++
  (if x.ovl.enable ∧ x.ovl.height ≠ 0 then
    [(x.ovl.addr + x.k % x.ovl.height * x.ovl.stride, 2 * x.ovl.width)] else []) ++
  (match x.kiteRow with
    | some r => if x.kite.enable ∧ r < x.kite.height then [(x.kite.addr + r * x.kite.stride, 2 * x.kite.width)] else []
    | none => []) ++
  (x.rects.filterMap (fun r => (r.row x.k x.b.repeatLines).map (fun q =>
    (protArea x.plane + 256 * r.dataOff + q * r.rowBytes, r.width))))

/-! ### Loading and locking (R159, R160, R164 to R169) -/

/-- The records and LEN of a staging area keep R159. -/
def stagingOk (rects len : Nat) (head : List Byte) : Bool :=
  let rs := (List.range rects).map (rectAt head)
  let ok := fun (r : Rect) => decide (r.x ≤ 393215 ∧ 1 ≤ r.width ∧ r.width ≤ 8192 ∧ 1 ≤ r.height) &&
    bits r.layout 17 7 == 0 && bits r.layout 25 7 == 0
  let units := rs.foldl (fun (acc : Bool × Nat) r => (acc.1 && decide (r.dataOff = acc.2), acc.2 + r.units)) (true, 0)
  rs.all ok && units.1 && zerosAt head (16 * rects) (1024 - 16 * rects) && decide (len = 1024 + 256 * units.2) &&
    decide (256 * units.2 ≤ 33554432)

/-- No load in place: no index, no rectangles, no CRC, no length. (Mark: DEDUCED, log 48) -/
def State.emptyProt (s : State) (p : Nat) : State :=
  [Reg.COMPOSE_PL_PROT_STATUS_LOADED p, Reg.COMPOSE_PL_PROT_STATUS_RECTS p, Reg.COMPOSE_PL_PROT_CRC p,
    Reg.COMPOSE_PL_PROT_LEN p].foldl (fun s f => s.set f 0)
    { s with tab0 := Sparse.dropRange (protIndex p) (protIndex p + 1024) s.tab0 }

/-- An unlocked, empty layer: RESET and every exit from L3 or L4 leave it so (R166). (Mark: DEDUCED, log 48) -/
def State.clearProt (s : State) (p : Nat) : State :=
  let s := (s.emptyProt p).modPlane p (fun x => { x with token := 0, pload := none, pass := none })
  [Reg.COMPOSE_PL_PROT_STATUS_LOCKED p, Reg.COMPOSE_PL_PROT_STATUS_COPYING p,
   Reg.COMPOSE_PL_PROT_STATUS_CHECKING p, Reg.COMPOSE_PL_PROT_STATUS_FAULT p,
   Reg.COMPOSE_PL_PROT_STATUS_BAD_TOKENS p].foldl (fun s f => s.set f 0) s

/-- PLOAD (R160); `prints` says that the plane is printing. -/
def State.pload (s : State) (prints : Bool) (p rects src len tag : Nat) (on : Iface) : Res :=
  if s.flag (Reg.COMPOSE_PL_PROT_STATUS_LOCKED p) then Res.err stProtected s
  else if prints then Res.err stBadState s
  else if (s.plane p).pload.isSome then Res.err stBusy s
  else if src % 256 ≠ 0 ∨ len < 1024 ∨ protBase < src + len ∨ rects < 1 ∨ 64 < rects then Res.err stBadParam s
  else
    let (s, head, bad) := s.fetch src 1024
    if !bad.isEmpty then Res.err stMemUncorrectable (s.meetUes bad 2)
    else if !stagingOk rects len head then Res.err stBadParam s
    else
      let s := s.modPlane p (fun x => { x with pload := some ⟨tag, on, rects, src, len, head⟩ })
      ⟨stAccepted, [], (s.setB (Reg.COMPOSE_PL_PROT_STATUS_LOADED p) false).setB (Reg.COMPOSE_PL_PROT_STATUS_COPYING p) true,
        false⟩

/-- The loader's copy of a staging area into a plane's area and index, with the records `head` (R160, R161): the result
and the CRC of the layer. One that meets an uncorrectable block leaves the area with free contents. -/
def State.loadProt (s : State) (p rects src len : Nat) (head : List Byte) : State × Nat × Nat :=
  let (s, body, bad) := s.fetch (src + 1024) (len - 1024)
  if !bad.isEmpty then
    let s := (s.meetUes bad 2).emptyProt p
    ((s.writeAcked (protArea p) ((List.range body.length).map (Config.freeByte s.free))).1.used, stMemUncorrectable, 0)
  else
    let s := s.putTabs false (protIndex p) head
    let (s, _) := s.writeAcked (protArea p) body
    let crc := crc32c (head ++ body)
    let s := (s.setB (Reg.COMPOSE_PL_PROT_STATUS_LOADED p) true).set (Reg.COMPOSE_PL_PROT_STATUS_RECTS p) rects
    ((s.set (Reg.COMPOSE_PL_PROT_CRC p) crc).set (Reg.COMPOSE_PL_PROT_LEN p) len, stOk, crc)

/-- The end of a load (R160, R161). -/
def State.ploadDone (s : State) (p : Nat) : State :=
  match (s.plane p).pload with
  | none => s
  | some x =>
    let s := (s.modPlane p (fun y => { y with pload := none })).setB (Reg.COMPOSE_PL_PROT_STATUS_COPYING p) false
    let (s, st, crc) := s.loadProt p x.rects x.src x.len x.head
    s.cmdDone 0x0402 x.tag st x.iface crc

/-- PLOCK (R164): the token is a free value that is never 0. -/
def State.plock (s : State) (prints : Bool) (p : Nat) : Res :=
  if !s.flag (Reg.COMPOSE_PL_PROT_STATUS_LOADED p) || s.flag (Reg.COMPOSE_PL_PROT_STATUS_LOCKED p) || prints then
    Res.err stBadState s
  else
    let token := s.fresh % (2 ^ 64 - 1) + 1
    let s := (s.used.modPlane p (fun x => { x with token := token })).setB (Reg.COMPOSE_PL_PROT_STATUS_LOCKED p) true
    Res.okData (leBytes 8 token ++ leBytes 4 (s.get (Reg.COMPOSE_PL_PROT_CRC p))) s

/-- The layer is unlocked (R165). -/
def State.unlockProt (s : State) (p : Nat) : State :=
  let s := s.modPlane p (fun x => { x with token := 0, pass := none })
  let s := (s.setB (Reg.COMPOSE_PL_PROT_STATUS_LOCKED p) false).setB (Reg.COMPOSE_PL_PROT_STATUS_FAULT p) false
  (s.setB (Reg.COMPOSE_PL_PROT_STATUS_CHECKING p) false).set (Reg.COMPOSE_PL_PROT_STATUS_BAD_TOKENS p) 0

/-- PUNLOCK (R163, R165). -/
def State.punlock (s : State) (prints : Bool) (p token : Nat) : Res :=
  if prints ∨ !s.flag (Reg.COMPOSE_PL_PROT_STATUS_LOCKED p) then Res.err stBadState s
  else if 16 ≤ s.get (Reg.COMPOSE_PL_PROT_STATUS_BAD_TOKENS p) then Res.err stProtected s
  else if token = (s.plane p).token then Res.ok (s.unlockProt p)
  else Res.err stProtected (s.inc (Reg.COMPOSE_PL_PROT_STATUS_BAD_TOKENS p))

/-- A check pass starts at line 0 and at each repeat boundary, or SLOW tells that one is still running (R167, R168). -/
def State.startPass (s : State) (p rep : Nat) : State :=
  if !s.flag (Reg.COMPOSE_PL_PROT_STATUS_LOCKED p) || s.flag (Reg.COMPOSE_PL_PROT_STATUS_FAULT p) then s
  else if (s.plane p).pass.isSome then s.setB (Reg.COMPOSE_PL_PROT_STATUS_SLOW p) true
  else (s.modPlane p (fun x => { x with pass := some rep })).setB (Reg.COMPOSE_PL_PROT_STATUS_CHECKING p) true

/-- The end of a check pass: the CRC found, and whether it is a protected fault, with the repeat it started in (R167,
R169). -/
def State.passDone (s : State) (p : Nat) : State × Option (Nat × Nat) :=
  match (s.plane p).pass with
  | none => (s, none)
  | some rep =>
    let s := (s.modPlane p (fun x => { x with pass := none })).setB (Reg.COMPOSE_PL_PROT_STATUS_CHECKING p) false
    let (s, body, bad) := s.fetch (protArea p) (s.get (Reg.COMPOSE_PL_PROT_LEN p) - 1024)
    let s := s.inc (Reg.COMPOSE_PL_PROT_PASSES p)
    if !bad.isEmpty then
      let s := (s.meetUes bad 2).set (Reg.COMPOSE_PL_PROT_LAST p) 0
      (s.setB (Reg.COMPOSE_PL_PROT_STATUS_FAULT p) true, some (0, rep))
    else
      let crc := crc32c (s.readTab false (protIndex p) 1024 ++ body)
      let s := s.set (Reg.COMPOSE_PL_PROT_LAST p) crc
      if crc = s.get (Reg.COMPOSE_PL_PROT_CRC p) then (s, none)
      else (s.setB (Reg.COMPOSE_PL_PROT_STATUS_FAULT p) true, some (crc, rep))

end Sys2Proof.Machine
end

