-- ==== Sys2Proof/Machine/LoopBase.lean ====
section
/-! DEFINITION. What the loops keep of a plane, their work area in DRAM, and what a table flip changes in it
(11_colour_alignment_loop.md R241, R242, R246, R248, R249, R254). -/

namespace Sys2Proof.Machine

def State.loop (s : State) (p : Nat) : LoopPlane := s.loops.planes.getD p .init

def State.modLoop (s : State) (p : Nat) (f : LoopPlane → LoopPlane) : State :=
  { s with loops := { s.loops with planes := modAt f p s.loops.planes } }

/-- The next line that the plane issues sets WAIT_p (R242). (Mark: DEDUCED, log 84) -/
def State.waitMark (s : State) (p : Nat) : State := s.modLoop p (fun x => { x with waitDue := true })

/-- The work area of a plane (R241). (Mark: DEDUCED, log 86) -/
def State.workAddr (s : State) (p : Nat) : Nat :=
  s.get Reg.MEASURE_WORK_LO + 2 ^ 32 * s.get Reg.MEASURE_WORK_HI + p * 0x100000

/-- A write of the loops; without a work area nothing is written. (Mark: DEDUCED, log 86) -/
def State.workWrite (s : State) (p off : Nat) (bs : List Byte) : State :=
  if s.flag Reg.MEASURE_WORK_HI_VALID then
    let (s, bad) := s.writeMem s.mirrors (s.workAddr p + off) bs
    s.meetUes bad 9
  else s

/-- The tone curves in use become REF (R240, R246). -/
def State.takeRef (s : State) (p : Nat) : State :=
  s.workWrite p 0x2000 (s.readTab (s.bankOf p 0) (tabBase + 0x320000 + p * 0x2000) 8192)

/-- Show CORR of the zones of a plane. -/
def State.showCorr (s : State) (p : Nat) : State :=
  (List.range 8).foldl (fun s i => s.set (Reg.MEASURE_PL_CORR p i)
    (pat 16 ((s.loop p).corr.getD (2 * i) 0) + 65536 * pat 16 ((s.loop p).corr.getD (2 * i + 1) 0))) s

/-- Corrections, budgets, LAST and PREV_D of a plane become 0 (R240, R246). -/
def State.zeroCorr (s : State) (p : Nat) : State :=
  (s.modLoop p (fun x => { x with
    corr := List.replicate 16 0, budget := List.replicate 16 0, last := List.replicate 16 0,
    prevD := List.replicate 16 0, atLimit := List.replicate 16 false })).showCorr p

/-- The miss counts of a plane become 0 (R240, R249). -/
def State.zeroMisses (s : State) (p : Nat) : State := s.workWrite p 0x40000 (List.replicate 393216 0)

/-- What a flip of a table changes in the loops: the wait position, and what follows a load of the host (R242, R246,
R249, R254). `xoff` holds the offsets that a stitch table brought. -/
def State.loopFlip (s : State) (p table : Nat) (xoff : List Int) : State :=
  let own := table ∈ (s.loop p).loads
  let s := s.modLoop p (fun x => { x with loads := x.loads.filter (· != table) })
  let s := if table = 0 ∨ table = 3 ∨ table = 4 then s.waitMark p else s
  if own then s
  else if table = 0 ∧ s.get Reg.MEASURE_LOOP_MODE_COLOUR ≠ 0 then (s.takeRef p).zeroCorr p
  else if table = 3 then s.modLoop p (fun x => { x with cross := xoff, custom := true })
  else if table = 4 then s.zeroMisses p
  else s

end Sys2Proof.Machine
end

