-- ==== Sys2Proof/Machine/Halftone.lean ====
section
/-! DEFINITION. Head profiles, plane geometry, the halftoner, and its tables' shares, loads and flips
(08_halftone_density.md; 09_head_ports.md R187). -/

namespace Sys2Proof.Machine

/-! ### Head profiles (R187) -/

/-- Fields of a profile record. -/
def pRows (r : List Byte) : Nat := u8 r 0
def pBits (r : List Byte) : Nat := u8 r 1
def pPairs (r : List Byte) : Nat := u8 r 2
def pOrder (r : List Byte) : Nat := u8 r 3
def pNozzles (r : List Byte) : Nat := u16 r 4
def pClkDiv (r : List Byte) : Nat := u8 r 6
def pFireCount (r : List Byte) : Nat := u8 r 7
def pMaxRate (r : List Byte) : Nat := u32 r 8
/-- LAT width of row `row`. -/
def pLatW (r : List Byte) (row : Nat) : Nat := if row = 0 then u16 r 12 else u16 r 14
def pTsl (r : List Byte) : Nat := u16 r 16
def pTls (r : List Byte) : Nat := u16 r 18
def pTtl (r : List Byte) : Nat := u16 r 20
def pPhCount (r : List Byte) : Nat := u8 r 22
def pPhPitch (r : List Byte) : Nat := u16 r 24
def pPhMin (r : List Byte) : Nat := u16 r 26
def pPhMax (r : List Byte) : Nat := u16 r 28
def pFireGap (r : List Byte) : Nat := u16 r 30
/-- Width of fire window `i`, from 0. -/
def pFireW (r : List Byte) (i : Nat) : Nat := u16 r (32 + 2 * i)
def pKp (r : List Byte) : Nat := u8 r 38
def pKi (r : List Byte) : Nat := u8 r 39
def pSretBit (r : List Byte) : Nat := u16 r 40
def pSretBytes (r : List Byte) : Nat := u8 r 42
def pTempPos (r : List Byte) : Nat := u8 r 43
def pTempScale (r : List Byte) : Nat := u16 r 44
def pTempOffset (r : List Byte) : Int := iAt r 46 2
def pStatusPos (r : List Byte) : Nat := u8 r 48
def pFaultMask (r : List Byte) : Nat := u8 r 49
def pCheck (r : List Byte) : Nat := u8 r 50
def pSretTimeout (r : List Byte) : Nat := u16 r 52
def pTempBand (r : List Byte) : Nat := u16 r 54

/-- Bits per pair, and the values that the device derives from a record. -/
def pQ (r : List Byte) : Nat := pNozzles r * pBits r / pPairs r
def pTShift (r : List Byte) : Nat := (pQ r + 1) / 2 * 2 * pClkDiv r
def pFireDelay (r : List Byte) : Nat := pPhCount r * pPhPitch r
def pTrain (r : List Byte) : Nat :=
  pFireDelay r + ((List.range (pFireCount r)).map (pFireW r)).sum + (pFireCount r - 1) * pFireGap r
def pMinPeriod (r : List Byte) : Nat := (800000000 + pMaxRate r - 1) / pMaxRate r
def pTPort (r : List Byte) (row : Nat) : Nat := 8 + pTShift r + pTsl r + pLatW r row

/-- Bytes of one line of a row in a port's FIFO (R7, R8). -/
def pLineBytes (r : List Byte) : Nat := (pNozzles r * pBits r + 7) / 8

/-- The record's fields lie within their limits (R187, R188 check 3); `energy` is PH_ENERGY_MAX. -/
def profileOk (r : List Byte) (energy : Nat) : Bool :=
  let two := pRows r == 2
  decide (1 ≤ pRows r ∧ pRows r ≤ 2 ∧ 1 ≤ pBits r ∧ pBits r ≤ 2 ∧ 1 ≤ pPairs r ∧ pPairs r ≤ 2 ∧ pOrder r < 32) &&
  decide (1 ≤ pNozzles r ∧ pNozzles r ≤ 8192 ∧ (pPairs r = 2 → pNozzles r % 2 = 0)) &&
  decide (1 ≤ pClkDiv r ∧ pClkDiv r ≤ 16 ∧ 1 ≤ pFireCount r ∧ pFireCount r ≤ 3 ∧ (pBits r = 1 → pFireCount r = 1)) &&
  decide (100 ≤ pMaxRate r ∧ pMaxRate r ≤ 160000) &&
  decide (8 ≤ pLatW r 0 ∧ pLatW r 0 ≤ 800 ∧ 8 ≤ pLatW r 1 ∧ pLatW r 1 ≤ 800) &&
  (!two || decide (pLatW r 0 + 16 ≤ pLatW r 1)) &&
  decide (8 ≤ pTsl r ∧ pTsl r ≤ 800 ∧ 8 ≤ pTls r ∧ pTls r ≤ 8000 ∧ 8 ≤ pTtl r ∧ pTtl r ≤ 8000) &&
  decide (pPhCount r ≤ 8 ∧ pPhMax r + 40 ≤ pPhPitch r ∧ 40 ≤ pPhMin r ∧ pPhMin r ≤ 400 ∧ pPhMin r ≤ pPhMax r ∧
    pPhMax r ≤ 400) &&
  decide (240 ≤ pFireGap r ∧ pFireGap r ≤ 8000) &&
  (List.range 3).all (fun i => if i < pFireCount r then
    decide (400 ≤ pFireW r i ∧ pFireW r i ≤ 2000 ∧ pPhMax r < pFireW r i) else pFireW r i == 0) &&
  decide (pSretBit r = 0 ∨ 80 ≤ pSretBit r) && decide (2 ≤ pSretBytes r ∧ pSretBytes r ≤ 8) &&
  decide (pTempPos r + 2 ≤ pSretBytes r ∧ pStatusPos r < pSretBytes r ∧ pCheck r ≤ 1) &&
  decide (1 ≤ pSretTimeout r ∧ pSretTimeout r ≤ 1000) && u8 r 23 == 0 && u8 r 51 == 0 && zerosAt r 56 8 &&
  decide (pTrain r + pTtl r + pLatW r (if two then 1 else 0) + pTls r ≤ pMinPeriod r) &&
  decide (pTPort r 0 + (if two then pTPort r 1 else 0) ≤ pMinPeriod r) &&
  decide (pPhCount r * pPhMax r ≤ energy)

/-! ### Plane geometry (R171 to R173) -/

/-- The profile of a plane; an empty record where it has none. -/
def State.profile (s : State) (p : Nat) : List Byte := (s.plane p).profile.getD []

/-- A plane has HEAD_PROFILE and HEAD_MAP. -/
def State.mapped (s : State) (p : Nat) : Bool := (s.plane p).profile.isSome && !(s.plane p).map.isEmpty

def State.heads' (s : State) (p : Nat) : Nat := (s.plane p).map.length
def State.overlap (s : State) (p : Nat) : Nat := s.get (Reg.HTONE_PL_GEOM_OVERLAP p)

/-- M − O, from one head to the next; an overlap larger than a head makes it negative (R172). -/
def State.headStep (s : State) (p : Nat) : Int := (pNozzles (s.profile p) : Int) - s.overlap p

/-- N: the nozzle positions of a plane; a sum below 0 counts as none (R172). (Mark: DESIGN CHOICE, log 166) -/
def State.positions (s : State) (p : Nat) : Nat :=
  if s.mapped p then (pNozzles (s.profile p) + ((s.heads' p : Int) - 1) * s.headStep p).toNat else 0

/-- P(h): the position of nozzle 0 of a head. -/
def State.headPos (s : State) (p h : Nat) : Int := h * s.headStep p + s.getS (Reg.HTONE_PL_XOFF_OFFSET p h)

/-- The firing row of a line (R171). -/
def firingRow (rows k : Nat) : Nat := if rows = 2 then k % 2 else 0

/-- The geometry limits of R173. -/
def State.geometryOk (s : State) (p : Nat) : Bool :=
  let m := pNozzles (s.profile p)
  let o := s.overlap p
  decide (o ≤ 512 ∧ o + 1 ≤ m ∧ (3 ≤ s.heads' p → 2 * o + 510 ≤ m))

/-! ### Shares (R178, R182, R184) -/

/-- Size of a plane's share of tables 1, 3 and 4, in entries, bytes and bits. -/
def State.shareSize (s : State) (p table : Nat) : Nat :=
  let r := pRows (s.profile p)
  if table = 1 then r * s.positions p
  else if table = 3 then (s.heads' p - 1) * r * s.overlap p
  else s.heads' p * r * pNozzles (s.profile p)

/-- First entry, byte or bit of a plane's share. -/
def State.shareBase (s : State) (p table : Nat) : Nat :=
  if table = 1 then s.get (Reg.HTONE_PL_DENS_BASE_ENTRY p)
  else if table = 3 then s.get (Reg.HTONE_PL_STITCH_BASE_BYTE p)
  else s.get (Reg.HTONE_PL_DEAD_BASE_BIT p)

/-- Size of a pool. -/
def poolSize (table : Nat) : Nat := if table = 1 then 786432 else if table = 3 then 524288 else 786432

/-- The share lies within its pool. -/
def State.shareFits (s : State) (p table : Nat) : Bool :=
  decide (s.shareBase p table + s.shareSize p table ≤ poolSize table)

/-- Two planes' shares of a pool overlap; an empty share overlaps none. -/
def State.sharesMeet (s : State) (table p q : Nat) : Bool :=
  decide (0 < s.shareSize p table ∧ 0 < s.shareSize q table ∧ s.shareBase p table < s.shareBase q table + s.shareSize q table ∧
    s.shareBase q table < s.shareBase p table + s.shareSize p table)

/-- The byte range of a plane's table in table memory, given its share; of the dead map, the bytes that its bits touch. -/
def tableBytes (p table base size : Nat) : Nat × Nat :=
  if table = 0 then (tabBase + 0x320000 + p * 0x2000, 8192)
  else if table = 1 then (tabBase + 0x100000 + 2 * base, 2 * size)
  else if table = 2 then (tabBase + p * 0x40000, 196608)
  else if table = 3 then (tabBase + 0x280000 + base, size)
  else if table = 4 then (tabBase + 0x300000 + base / 8, (size + 31) / 32 * 4)
  else (tabBase + 0x328000 + p * 0x40, 64)

/-- The byte range of a plane's table at its present share. -/
def State.shareBytes (s : State) (p table : Nat) : Nat × Nat :=
  tableBytes p table (s.shareBase p table) (s.shareSize p table)

/-- The table whose region an address lies in, among the six of R178. -/
def tableAt (addr : Nat) : Option Nat :=
  let o := addr - tabBase
  if o < 0x100000 then some 2 else if o < 0x280000 then some 1 else if o < 0x300000 then some 3
  else if o < 0x320000 then some 4 else if o < 0x328000 then some 0 else if o < 0x328100 then some 5 else none

/-- The planes whose share covers any byte of a word. -/
def State.wordPlanes (s : State) (addr : Nat) : List Nat :=
  match tableAt addr with
  | none => []
  | some t => (List.range 4).filter (fun p =>
      (t == 0 || t == 2 || t == 5 || s.mapped p) &&
      decide ((s.shareBytes p t).1 < addr + 4 ∧ addr < (s.shareBytes p t).1 + (s.shareBytes p t).2))

/-- The bank that a host access of a word reaches (R69, R182). -/
def State.wordBank (s : State) (addr : Nat) : Bool :=
  match tableAt addr, s.wordPlanes addr with
  | some t, p :: _ => s.bankOf p t
  | _, _ => false

/-! ### The halftoner (R174) -/

/-- The tables and geometry of a plane for one line. -/
structure Tone where
  p : Nat
  n : Nat
  m : Nat
  o : Nat
  h : Nat
  r : Nat
  row : Nat
  bits : Nat
  /-- P(h) of every head. -/
  pos : List Int

/-- Saturation to 0 to 255. -/
def clampU8 (x : Int) : Nat := (clampI 0 255 x).toNat

/-- A tone entry. -/
def State.toneEntry (s : State) (p z v : Nat) : Nat :=
  let a := tabBase + 0x320000 + p * 0x2000 + 512 * z + 2 * v
  s.planeTab p 0 a + 256 * s.planeTab p 0 (a + 1)

/-- Step 1: the zone tone curve, in Q8.8. -/
def State.toneValue (s : State) (x : Tone) (v n : Nat) : Nat :=
  let q : Int := (((2 * n + 1) * 2048 / x.n : Nat) : Int) - 128
  let z := if 3840 ≤ q then 15 else if 0 < q then q.toNat / 256 else 0
  let f := if 3840 ≤ q then 0 else if 0 < q then q.toNat % 256 else 0
  let c0 := s.toneEntry x.p z v
  let c1 := if f = 0 then c0 else s.toneEntry x.p (z + 1) v
  low 16 ((c0 * (256 - f) + c1 * f + 128) / 256)

/-- Step 2: the density correction. -/
def State.density (s : State) (x : Tone) (t n : Nat) : Nat :=
  let a := tabBase + 0x100000 + 2 * (s.get (Reg.HTONE_PL_DENS_BASE_ENTRY x.p) + x.row * x.n + n)
  let y : Int := sar (t * s.planeTab x.p 1 (a + 1) + 64) 7 + sgn 8 (s.planeTab x.p 1 a) * 256
  clampU8 (sar (y + 128) 8)

/-- A nozzle is live: its bit of the dead map is 0. -/
def State.live (s : State) (x : Tone) (h j : Nat) : Bool :=
  let b := s.get (Reg.HTONE_PL_DEAD_BASE_BIT x.p) + (h * x.r + x.row) * x.m + j
  !bit (s.planeTab x.p 4 (tabBase + 0x300000 + b / 8)) (b % 8)

/-- The heads that cover a position with a live nozzle, ascending. -/
def State.liveHeads (s : State) (x : Tone) (n : Nat) : List Nat :=
  (List.range x.h).filter (fun h =>
    let p := x.pos.getD h 0
    decide (p ≤ (n : Int) ∧ (n : Int) < p + x.m) && s.live x h ((n : Int) - p).toNat)

/-- A position that no live nozzle prints. -/
def State.deadPos (s : State) (x : Tone) (n : Nat) : Bool := (s.liveHeads x n).isEmpty

/-- A dead weight applied to a corrected value (R176). -/
def shareOf (c w : Nat) : Nat := (c * w + 64) / 128

/-- Step 3: the value of a position after redistribution. -/
def State.redistribute (s : State) (x : Tone) (c : List Nat) (dead : List Bool) (n : Nat) : Nat :=
  let wPrev := s.planeTab x.p 5 (tabBase + 0x328000 + x.p * 0x40)
  let wNext := s.planeTab x.p 5 (tabBase + 0x328000 + x.p * 0x40 + 1)
  if dead.getD n false then 0
  else c.getD n 0 +
    (if n + 1 < x.n ∧ dead.getD (n + 1) false then shareOf (c.getD (n + 1) 0) wPrev else 0) +
    (if 0 < n ∧ dead.getD (n - 1) false then shareOf (c.getD (n - 1) 0) wNext else 0)

/-- Step 4: the level of a position. -/
def State.level (s : State) (x : Tone) (k n e : Nat) : Nat :=
  let v := min 255 e
  let sx := (n + s.get (Reg.HTONE_PL_GEOM_SCREEN_X x.p)) % 256
  let sy := (k + s.get (Reg.HTONE_PL_GEOM_SCREEN_Y x.p)) % 256
  let th := fun (l : Nat) => s.planeTab x.p 2 (tabBase + x.p * 0x40000 + l * 65536 + 256 * sy + sx)
  let l := (decide (th 0 < v)).toNat + (decide (th 1 < v)).toNat + (decide (th 2 < v)).toNat
  if x.bits = 1 then min l 1 else l

/-- The stitching dither (R174). -/
def dither (k n : Nat) : Nat :=
  let i := (k % 256) * 256 + n % 256
  let g := low 16 (i * 40503)
  let g := g ^^^ (g / 128)
  low 16 (g * 40503) / 256

/-- The stitch weight of a position between heads `g1` − 1 and `g1` (R174). -/
def State.stitchAt (s : State) (x : Tone) (g1 n : Nat) : Nat :=
  let i : Int := (n : Int) - g1 * ((x.m : Int) - x.o)
  if i < 0 then 255 else if (x.o : Int) ≤ i then 0
  else s.planeTab x.p 3 (tabBase + 0x280000 + s.get (Reg.HTONE_PL_STITCH_BASE_BYTE x.p) +
    ((g1 - 1) * x.r + x.row) * x.o + i.toNat)

/-- Step 5: the level of nozzle `j` of head `h`. -/
def State.nozzle (s : State) (x : Tone) (k : Nat) (lev : List Nat) (h j : Nat) : Nat :=
  let n : Int := x.pos.getD h 0 + j
  if n < 0 ∨ (x.n : Int) ≤ n ∨ !s.live x h j then 0
  else match s.liveHeads x n.toNat with
    | [g0, g1] =>
      let w := s.stitchAt x g1 n.toNat
      let low := w == 255 || decide (dither k n.toNat < w)
      if low == (h == g0) then lev.getD n.toNat 0 else 0
    | _ => lev.getD n.toNat 0

/-- The geometry of a plane for a line. -/
def State.toneOf (s : State) (p k : Nat) : Tone :=
  let r := s.profile p
  { p := p, n := s.positions p, m := pNozzles r, o := s.overlap p, h := s.heads' p, r := pRows r,
    row := firingRow (pRows r) k, bits := pBits r, pos := (List.range (s.heads' p)).map (s.headPos p) }

/-- Steps 1 to 4: the level of every position, from the composited line (R174). -/
def State.levels (s : State) (x : Tone) (k : Nat) (d : List Nat) : List Nat :=
  let c := (List.range x.n).map (fun n => s.density x (s.toneValue x (d.getD n 0) n) n)
  let dead := (List.range x.n).map (s.deadPos x)
  (List.range x.n).map (fun n => s.level x k n (s.redistribute x c dead n))

/-- A composited line of a plane as drop levels for every nozzle of every head (R174). -/
def State.halftone (s : State) (p k : Nat) (d : List Nat) : List (List Nat) :=
  let x := s.toneOf p k
  let lev := s.levels x k d
  (List.range x.h).map (fun h => (List.range x.m).map (s.nozzle x k lev h))

/-- UNCOVERED: positions that no head covers (R173). -/
def State.uncovered (s : State) (p : Nat) : Nat :=
  let x := s.toneOf p 0
  ((List.range x.n).filter (fun (n : Nat) => x.pos.all (fun q => !decide (q ≤ (n : Int) ∧ (n : Int) < q + x.m)))).length

/-- DEAD_COUNT: bits set in the dead share in use. -/
def State.deadCount (s : State) (p : Nat) : Nat :=
  if !s.mapped p then 0 else
  ((List.range (s.shareSize p 4)).filter (fun i =>
    let b := s.shareBase p 4 + i
    bit (s.planeTab p 4 (tabBase + 0x300000 + b / 8)) (b % 8))).length

/-! ### Loads and flips (R178 to R182) -/

/-- LEN that R178 requires. -/
def State.tableLen (s : State) (p table : Nat) : Nat :=
  if table = 0 then 8192
  else if table = 1 then 2 * s.shareSize p 1
  else if table = 2 then 196608
  else if table = 3 then 128 + s.shareSize p 3
  else if table = 4 then 4 * ((s.shareSize p 4 + 31) / 32)
  else 64

/-- A bit of one of the fields BANK, PENDING, COPYING and FLIP_SEL. -/
def State.tabBit (s : State) (f : Fld) (table : Nat) : Bool := bit (s.get f) table

/-- Set a bit of one of those fields. -/
def State.putTabBit (s : State) (f : Fld) (table : Nat) (b : Bool) : State :=
  s.set f (s.get f - (s.get f &&& 2 ^ table) + (if b then 2 ^ table else 0))

/-- XOFF values of a stitch table's header. -/
def xoffsOf (head : List Byte) : List Int := (List.range 48).map (fun h => iAt head (2 * h) 2)

/-- The bytes of a load that are read before the reply keep R178. -/
def tableHeadOk (table : Nat) (head : List Byte) : Bool :=
  if table = 3 then (xoffsOf head).all (fun x => decide (-255 ≤ x ∧ x ≤ 255)) && zerosAt head 96 32
  else if table = 5 then zerosAt head 2 62
  else true

/-- Bytes of a table that are read before the reply (R179). -/
def tableHeadLen (table : Nat) : Nat := if table = 3 then 128 else if table = 5 then 64 else 0

/-- A load of the table is copying or waits for its flip. -/
def State.tableBusy (s : State) (p table : Nat) : Bool :=
  s.tabBit (Reg.HTONE_PL_TABLES_COPYING p) table || s.tabBit (Reg.HTONE_PL_TABLES_PENDING p) table

/-- TABLE_LOAD (R179), of the host or of a firmware loop. -/
def State.tableLoad (s : State) (loop : Bool) (p table flipAt src len tag : Nat) (on : Iface) : Res :=
  let screen := table == 2 && src == 0
  let shared := table == 1 || table == 3 || table == 4
  if s.tableBusy p table then Res.err stBusy s
  else if shared && !s.mapped p then Res.err stBadState s
  else if (!screen && (len != s.tableLen p table || src % 64 != 0 || !inDram src len)) ||
      (shared && (!s.shareFits p table ||
        (List.range 4).any (fun q => q != p && s.mapped q && s.sharesMeet table p q))) then Res.err stBadParam s
  else
    let (s, head, bad) := s.fetch src (tableHeadLen table)
    if !bad.isEmpty then Res.err stMemUncorrectable (s.meetUes bad 1)
    else if !tableHeadOk table head then Res.err stBadParam s
    else
      let s := (s.putTabBit (Reg.HTONE_PL_TABLES_COPYING p) table true).putTabBit (Reg.HTONE_PL_TABLES_FLIP_SEL p) table
        (flipAt == 1)
      ⟨stAccepted, [], { s with tone := { s.tone with
        copies := s.tone.copies ++
          [⟨p, table, s.shareBase p table, s.shareSize p table, src, len, tag, on, head, loop⟩] } }, false⟩

/-- Write a dead map's bits into a bank: only the share's bits change. -/
def State.putDeadBits (s : State) (bank : Bool) (base : Nat) (data : List Byte) (n : Nat) : State :=
  let a := tabBase + 0x300000 + base / 8
  let o := base % 8
  s.putTabs bank a (((s.readTab bank a ((o + n + 7) / 8)).zipIdx).map (fun x =>
    BitVec.ofNat 8 (((List.range 8).map (fun q =>
      let i := 8 * x.2 + q
      let b := if o ≤ i && decide (i < o + n) then bit (data.getD ((i - o) / 8) 0).toNat ((i - o) % 8)
        else bit x.1.toNat q
      if b then 2 ^ q else 0)).sum)))

/-- The Solcel screen into the bank not in use: it is the reset content of the array (R177, R183). -/
def State.storeScreen (s : State) (p : Nat) : State :=
  let a := tabBase + p * 0x40000
  if s.bankOf p 2 then { s with tab0 := Sparse.dropRange a (a + 196608) s.tab0 }
  else { s with tab1 := Sparse.dropRange a (a + 196608) s.tab1 }

/-- Copy a table's whole content into the bank not in use, at the share that the load was executed with (R178). -/
def State.storeTable (s : State) (c : TableCopy) (data : List Byte) : State :=
  let bank := !s.bankOf c.plane c.table
  if c.table = 4 then s.putDeadBits bank c.base data c.size
  else
    let s := s.putTabs bank (tableBytes c.plane c.table c.base c.size).1 (if c.table = 3 then data.drop 128 else data)
    if c.table = 3 then { s with tone := { s.tone with xoffs := modAt (fun _ => xoffsOf data) c.plane s.tone.xoffs } } else s

/-- Bit of a dead nozzle, given as (row, head × M + nozzle), in the share of its plane (R176). -/
def State.deadIndex (s : State) (p : Nat) (d : Nat × Nat) : Nat :=
  let m := pNozzles (s.profile p)
  ((d.2 / m) * pRows (s.profile p) + d.1) * m + d.2 % m

/-- EVT_NOZZLE_DEAD for the nozzles that a dead map of the nozzle loop has added (R248); `total` is DEAD_COUNT after the
flip. A nozzle found after that map was built stays due. (Mark: DEDUCED, log 88) -/
def State.deadEvents (s : State) (p total : Nat) : State :=
  let set_ := fun (d : Nat × Nat) =>
    let b := s.shareBase p 4 + s.deadIndex p d
    bit (s.planeTab p 4 (tabBase + 0x300000 + b / 8)) (b % 8)
  let l := (s.loop p).dead.filter set_
  l.foldl (fun s x => s.raise evNozzleDead 0 (leBytes 1 p ++ leBytes 1 x.1 ++ [0, 0] ++ leBytes 4 x.2 ++ leBytes 4 total))
    (s.modLoop p (fun x => { x with dead := x.dead.filter (fun d => !set_ d) }))

/-- A table flips: BANK toggles, XOFF values of a stitch load take effect, and the event tells the first line that uses
the new set (R180). -/
def State.tableFlip (s : State) (p table line : Nat) : State :=
  let s := s.putTabBit (Reg.HTONE_PL_TABLES_BANK p) table (!s.tabBit (Reg.HTONE_PL_TABLES_BANK p) table)
  let s := (s.putTabBit (Reg.HTONE_PL_TABLES_PENDING p) table false).inc (Reg.HTONE_PL_FLIPS_COUNT p)
  let s := if table = 3 then
      (List.range 48).foldl (fun s h => s.setS (Reg.HTONE_PL_XOFF_OFFSET p h) ((s.tone.xoffs.getD p []).getD h 0)) s
    else s
  let s := s.raise evTableFlip 0 (leBytes 1 p ++ leBytes 1 table ++ [0, 0, 0, 0, 0, 0] ++ leBytes 8 line)
  let own := table ∈ (s.loop p).loads
  let s := s.loopFlip p table (s.tone.xoffs.getD p [])
  if own ∧ table = 4 then s.deadEvents p (s.deadCount p) else s

/-- The line that EVT_TABLE_FLIP carries on an idle plane. -/
def noLine : Nat := 0xFFFFFFFFFFFFFFFF

/-- The partner is a standby in READY, as its last STRING told (R407, R412). -/
def State.partnerReady (s : State) : Bool := s.mirrors && s.get Reg.PAIR_STATUS_PARTNER == 2

/-- A pending flip is held for a READY standby; no flip is held for a partner that has ceased to be READY (R412). -/
def State.flipHeld (s : State) (p table : Nat) : Bool :=
  s.partnerReady && s.pair.heldFlips.any (fun h => h.1 == p && h.2.1 == table)

/-- Tables of a plane that flip before a line: those set to line boundaries, and at the first line of a repeat those
set to repeat boundaries as well (R75, R180). -/
def State.tableFlips (s : State) (p line : Nat) (rep : Bool) : State :=
  (List.range 6).foldl (fun s t =>
    if s.tabBit (Reg.HTONE_PL_TABLES_PENDING p) t && (!s.tabBit (Reg.HTONE_PL_TABLES_FLIP_SEL p) t || rep) &&
      !s.flipHeld p t then s.tableFlip p t line else s) s

/-- Tables that still wait when their plane stops printing flip at that moment (R180). -/
def State.idleFlips (s : State) (p : Nat) : State :=
  (List.range 6).foldl (fun s t =>
    if s.tabBit (Reg.HTONE_PL_TABLES_PENDING p) t && !s.flipHeld p t then s.tableFlip p t noLine else s) s

/-- EVT_CMD_DONE of a load; what TAG and INTERFACE carry for a load that a firmware loop issued is free (R180, R181).
(Mark: DESIGN CHOICE, log 4; DESIGN CHOICE, log 167) -/
def State.loadDone (s : State) (c : TableCopy) (st : Nat) : State :=
  if c.loop then s.used.cmdDone 0x0405 (low 16 s.fresh) st (if bit s.fresh 16 then .spi else .uplink) 0
  else s.cmdDone 0x0405 c.tag st c.iface 0

/-- The end of a copy (R180, R181); `prints` says that the plane is printing. (Mark: DEDUCED, log 9) -/
def State.tableCopied (s : State) (prints : Bool) (p table : Nat) : State :=
  match s.tone.copies.find? (fun c => c.plane == p && c.table == table) with
  | none => s
  | some c =>
    let s := { s with tone := { s.tone with copies := s.tone.copies.erase c } }
    let s := s.putTabBit (Reg.HTONE_PL_TABLES_COPYING p) table false
    let (s, data, bad) :=
      if table = 2 ∧ c.src = 0 then (s, [], [])
      else
        let (s, d, bad) := s.fetch c.src c.len
        (s, spliceAt d 0 c.head, bad)
    if !bad.isEmpty then
      ((s.meetUes bad 1).modLoop p (fun x => { x with loads := x.loads.filter (· != table) })).loadDone c stMemUncorrectable
    else
      let s := (if table == 2 && data.isEmpty then s.storeScreen p else s.storeTable c data).loadDone c stOk
      let s := s.putTabBit (Reg.HTONE_PL_TABLES_PENDING p) table true
      let s := if s.partnerReady then
          { s with pair := { s.pair with heldFlips := (p, table, s.pair.ckptSeq + 1) :: s.pair.heldFlips } }
        else s
      if prints then s else s.idleFlips p

/-- The density, stitch and dead-map shares of a plane lie within their pools (R184). -/
def State.sharesFit (s : State) (p : Nat) : Bool := [1, 3, 4].all (s.shareFits p)

/-- Show a plane's geometry (PLp.SHAPE). (Mark: DEDUCED, log 53) -/
def State.showShape (s : State) (p : Nat) : State :=
  let on := s.mapped p
  let s := (s.set (Reg.HTONE_PL_SHAPE_N p) (s.positions p)).set (Reg.HTONE_PL_SHAPE_HEADS p) (s.heads' p)
  (s.setB (Reg.HTONE_PL_SHAPE_ROWS2 p) (on && pRows (s.profile p) == 2)).setB (Reg.HTONE_PL_SHAPE_BITS2 p)
    (on && pBits (s.profile p) == 2)

end Sys2Proof.Machine
end

