-- ==== Sys2Proof/Machine/Lines.lean ====
section
/-! DEFINITION. Line positions, missed lines and the defect log, firing times, and the head ports' line pipeline
(05_line_placement.md R110 to R122; 09_head_ports.md R194 to R203; 01_architecture.md R7 to R11). -/

namespace Sys2Proof.Machine

/-! ### Settings of a plane -/

def State.encOf (s : State) (p : Nat) : Nat := s.get (Reg.LINEGEN_PL_CONFIG_ENC p)

/-- CPL in force, Q32.32: both halves as CPL_HI last committed them (R111). -/
def State.cpl (s : State) (p : Nat) : Nat :=
  s.getA (Reg.LINEGEN_PL_CPL_LO p) + 2 ^ 32 * s.getA (Reg.LINEGEN_PL_CPL_HI p)

/-- CPL lies from 0.25 to 65,536 (R111). -/
def cplOk (c : Nat) : Bool := decide (0x40000000 ≤ c ∧ c ≤ 0x1000000000000)

/-- Commit both halves of CPL. -/
def State.commitCpl (s : State) (p : Nat) : State :=
  (s.flip (Reg.LINEGEN_PL_CPL_LO p)).flip (Reg.LINEGEN_PL_CPL_HI p)

/-- The along-web offset in use of a head: BASE_h + ALONG_h (R252). -/
def State.offset (s : State) (p h : Nat) : Int :=
  s.getAS (Reg.LINEGEN_PL_HOFF_OFFSET p h) + (s.plane p).alongUse.getD h 0

/-- Offsets of the plane's heads. -/
def State.offsets (s : State) (p : Nat) : List Int := (List.range (s.heads' p)).map (s.offset p)

/-- The offsets that the plane's next issued line takes: a flip that waits applies to it (R75). -/
def State.nextOffsets (s : State) (p : Nat) : List Int :=
  (List.range (s.heads' p)).map (fun h => s.getS (Reg.LINEGEN_PL_HOFF_OFFSET p h) + (s.plane p).along.getD h 0)

/-- min(0, off_min) of the next line. -/
def State.offMin (s : State) (p : Nat) : Int := (s.nextOffsets p).foldl min 0

/-- The lookahead in use (R7). -/
def State.lookahead (s : State) (p : Nat) : Nat :=
  let la := clampN 4 64 (s.get (Reg.LINEGEN_PL_CONFIG_LOOKAHEAD p))
  match (s.plane p).profile with
  | some r => min la (32768 / pLineBytes r)
  | none => la

/-- Show the lookahead in use. -/
def State.showLookahead (s : State) (p : Nat) : State := s.set (Reg.LINEGEN_PL_STATUS_LA_USED p) (s.lookahead p)

/-! ### Positions (R110, R113) -/

/-- ref(k), raw with 64 fraction bits; `start` is S, raw with 32. -/
def refPos (start : Int) (cpl delay k : Nat) : Int := start * 2 ^ 32 + ((k + delay) * cpl * 2 ^ 32 : Nat)

/-- The firing position of a line at a head. -/
def Line.firePos (l : Line) (h : Nat) : Int := l.ref + l.offs.getD h 0 * l.cpl * 2 ^ 24

/-- ref(k) of a plane of a job that starts at `start`. -/
def State.ref (s : State) (p : Nat) (start : Int) (k : Nat) : Int :=
  refPos start (s.cpl p) (s.get (Reg.LINEGEN_PL_DELAY p)) k

/-- issue_pos(k) (R113). -/
def State.issuePos (s : State) (p : Nat) (start : Int) (k : Nat) : Int :=
  s.ref p start k - (s.lookahead p * s.cpl p * 2 ^ 32 : Nat) + s.offMin p * s.cpl p * 2 ^ 24

/-- The interpolated position of a plane's encoder (R93). -/
def State.webPos (s : State) (p : Nat) : Int := (s.enc (s.encOf p)).pos

/-- The integer part of a position with 64 fraction bits. -/
def intPart (x : Int) : Int := sar x 64

/-! ### Jobs of a plane (R147, R505) -/

/-- A job includes a plane. -/
def JobRun.has (j : JobRun) (p : Nat) : Bool := bit j.defn.planeMask p

/-- Planes of a job, in order. -/
def JobRun.planeList (j : JobRun) : List Nat := (List.range 4).filter j.has

def JobRun.plane (j : JobRun) (p : Nat) : JobPlane := j.planes.getD p ⟨0, 0, false, false, 0, 0, 0⟩

def JobRun.modPlane (j : JobRun) (p : Nat) (f : JobPlane → JobPlane) : JobRun := { j with planes := modAt f p j.planes }

/-- First line index that the job does not issue: the takeover or the end, whichever is lower (R147, R148). -/
def JobRun.limit (j : JobRun) : Option Nat :=
  match j.takeAt, j.stopAt with
  | some a, some b => some (min a b)
  | some a, none => some a
  | none, b => b

/-- A line index lies below the job's limit. -/
def JobRun.below (j : JobRun) (k : Nat) : Bool := match j.limit with | some n => decide (k < n) | none => true

def JobRun.binding (j : JobRun) (p : Nat) : Option Binding := (j.defn.binds.getD p none)

/-- REPEAT_LINES of a job: all its planes share it (R133). -/
def JobDef.repeatLines (d : JobDef) : Nat :=
  match d.binds.findSome? id with | some b => b.repeatLines | none => 1

/-- The lead plane of some planes: the smallest DELAY, then the lowest number (R146). -/
def State.leadPlane (s : State) : List Nat → Nat
  | [] => 0
  | p :: l => l.foldl (fun b q => if s.get (Reg.LINEGEN_PL_DELAY q) < s.get (Reg.LINEGEN_PL_DELAY b) then q else b) p

/-- A started job has lines to issue on a plane of its own. -/
def JobRun.liveOn (j : JobRun) (p : Nat) : Bool := j.has p && j.started && j.below (j.plane p).next

/-- An issued line of the plane is still to fire or to be missed at some head. -/
def State.linesWait (s : State) (p : Nat) : Bool := (s.plane p).lines.any (fun l => !l.settled)

/-- A plane is printing: from the start of a job that includes it until the job ends on the plane, that is until the plane
has fired or missed the last line it issues (R505, R147, R148). (Mark: DEDUCED, log 170) -/
def State.prints (s : State) (p : Nat) : Bool :=
  s.job.running.any (·.liveOn p) || s.job.queued.any (·.liveOn p) || s.linesWait p

/-- A plane is armed (R505). -/
def State.armed (s : State) (p : Nat) : Bool :=
  (match s.job.queued with | some j => j.has p | none => false) && !s.prints p

/-- A plane prints or is armed. -/
def State.inUse (s : State) (p : Nat) : Bool := s.prints p || s.armed p

/-- A printing plane counts from the encoder. -/
def State.encPrints (s : State) (e : Nat) : Bool := (List.range 4).any (fun p => s.prints p && s.encOf p == e)

/-- Show PRINTING and ARMED of every plane and what the JOB block shows of the jobs. (Mark: DEDUCED, log 55) -/
def State.showJobs (s : State) : State :=
  let s := (List.range 4).foldl (fun s p =>
    let s := (s.setB (Reg.LINEGEN_PL_STATUS_PRINTING p) (s.prints p)).setB (Reg.LINEGEN_PL_STATUS_ARMED p) (s.armed p)
    if s.prints p then s
    else (s.setB (Reg.LINEGEN_PL_STATUS_HALTED p) false).setB (Reg.LINEGEN_PL_STATUS_REVERSED p) false) s
  let s := s.set Reg.JOB_STATE_RUNNING_ID (match s.job.running with | some j => j.id | none => 7)
  let s := s.set Reg.JOB_STATE_QUEUED_ID (match s.job.queued with | some j => j.id | none => 7)
  let s := s.set Reg.JOB_STATE_QUEUED_ARM (match s.job.queued with | some j => j.arm | none => 0)
  let s := s.setB Reg.JOB_STATE_END_SET (match s.job.running with | some j => j.stopAt.isSome | none => false)
  let s := s.set Reg.JOB_REPEAT_LINES (match s.job.running with | some j => j.defn.repeatLines | none => 0)
  let s := s.setB Reg.LINEGEN_ARM_STATUS_ARMED s.job.queued.isSome
  s.set Reg.LINEGEN_ARM_STATUS_KIND (match s.job.queued with | some j => j.arm | none => 0)

/-- Change the running or the queued job. -/
def State.modRunning (s : State) (f : JobRun → JobRun) : State :=
  { s with job := { s.job with running := s.job.running.map f } }
def State.modQueued (s : State) (f : JobRun → JobRun) : State :=
  { s with job := { s.job with queued := s.job.queued.map f } }
/-- Change the job of a number. -/
def State.modJob (s : State) (seq : Nat) (f : JobRun → JobRun) : State :=
  (s.modRunning (fun j => if j.seq = seq then f j else j)).modQueued (fun j => if j.seq = seq then f j else j)

/-! ### DEFECT_MARK and the defect log (R120, R121) -/

/-- One assertion for a line, from the earliest start that is known. -/
def addMark (seq k at_ : Nat) (ms : List Mark) : List Mark :=
  match ms.find? (fun m => m.seq == seq && m.k == k) with
  | some m => { m with start := min m.start at_ } :: ms.erase m
  | none => ⟨at_, seq, k, none, none⟩ :: ms

/-- Assert DEFECT_MARK for a line of a plane from an instant on; the assertion lasts until a later line fires at every head
(R120). (Mark: DEDUCED, log 31) -/
def State.mark (s : State) (p seq k at_ : Nat) : State :=
  s.modPlane p (fun x => { x with marks := addMark seq k at_ x.marks })

/-- The end of an assertion is not known, and the line for which it stands is `l` or comes before it. -/
def Mark.openAt (m : Mark) (l : Line) : Bool :=
  m.stop.isNone && m.pos.isNone && decide (m.seq < l.seq ∨ (m.seq = l.seq ∧ m.k ≤ l.k))

/-- A line fired at every head, the last of them at `t`, gives the assertions before it their end (R120). -/
def endMarks (l : Line) (t : Nat) (ms : List Mark) : List Mark :=
  ms.map (fun m => if m.openAt l then { m with stop := some t } else m)

/-- A missed line carries the open assertions before it on: the next line fired at every head ends them all. -/
def joinMarks (l : Line) (ms : List Mark) : List Mark :=
  match ms.filter (·.openAt l) with
  | [] => ms
  | m :: rest => ⟨rest.foldl (fun t x => min t x.start) m.start, l.seq, l.k, none, none⟩ ::
      ms.filter (fun m => !m.openAt l)

/-- Every assertion of a plane ends at a position (R150, R421). -/
def marksTo (pos : Int) (ms : List Mark) : List Mark := ms.map (fun m => { m with pos := some pos })

/-- The positions that end assertions move with a re-referenced counter (R122). -/
def shiftMarks (off : Int) (ms : List Mark) : List Mark := ms.map (fun m => { m with pos := m.pos.map (· + off * 2 ^ 64) })

/-- DEFECT_MARK is high (R120): the spans of all planes are combined. (Mark: DEDUCED, log 31) -/
def State.defectMark (s : State) : Bool :=
  (List.range 4).any (fun p => (s.plane p).marks.any (fun m => decide (m.start ≤ s.now)))

/-- DEFECT_CTRL.MIN_US in steps. (Mark: DEDUCED, log 31) -/
def State.markMin (s : State) : Nat := max 1 (s.get Reg.LINEGEN_DEFECT_CTRL_MIN_US) * usSteps

/-- Write an entry of the defect log, or count it dropped (R121). -/
def State.putDefect (s : State) (d : DefectEnt) : State :=
  if 16 ≤ s.line.defects.length then s.incSat Reg.LINEGEN_DEFECT_LOG_STATUS_OVERFLOW 1
  else
    let s := { s with line := { s.line with defects := s.line.defects ++ [d] } }
    s.set Reg.LINEGEN_DEFECT_LOG_STATUS_ENTRIES s.line.defects.length

/-- The run of missed lines of a plane ends at a position. (Mark: DEDUCED, log 30) -/
def State.closeRun (s : State) (p : Nat) (stop : Int) : State :=
  match (s.plane p).miss with
  | none => s
  | some r =>
    let s := s.modLoop p (fun x => { x with spans := x.spans ++ [(r.start, stop)] })
    (s.modPlane p (fun x => { x with miss := none })).putDefect ⟨p, r.cause, r.first, r.lines, r.start, stop⟩

/-- A missed line joins the run of its cause, or ends it and begins another. (Mark: DEDUCED, log 30) -/
def State.missRun (s : State) (p cause k : Nat) (ref : Int) : State :=
  match (s.plane p).miss with
  | some r =>
    if r.cause = cause then s.modPlane p (fun x => { x with miss := some { r with lines := r.lines + 1 } })
    else (s.closeRun p (intPart ref)).modPlane p (fun x => { x with miss := some ⟨cause, k, 1, intPart ref⟩ })
  | none => s.modPlane p (fun x => { x with miss := some ⟨cause, k, 1, intPart ref⟩ })

/-- DEFECT_POP (R121). -/
def State.defectPop (s : State) : State :=
  let s := { s with line := { s.line with defects := s.line.defects.drop 1 } }
  s.set Reg.LINEGEN_DEFECT_LOG_STATUS_ENTRIES s.line.defects.length

/-! ### Lines at heads -/

def HeadLine.init : HeadLine := ⟨false, none, .waiting, false⟩

def Line.head (l : Line) (h : Nat) : HeadLine := l.heads.getD h .init

def Line.modHead (l : Line) (h : Nat) (f : HeadLine → HeadLine) : Line := { l with heads := modAt f h l.heads }

/-- The line has been fired or missed at a head. -/
def HeadPhase.done : HeadPhase → Bool
  | .fired | .missed => true
  | _ => false

/-- Change one issued line of a plane. -/
def State.modLine (s : State) (p seq k : Nat) (f : Line → Line) : State :=
  s.modPlane p (fun x => { x with lines := x.lines.map (fun l => if l.seq = seq ∧ l.k = k then f l else l) })

def State.lineOf (s : State) (p seq k : Nat) : Option Line :=
  (s.plane p).lines.find? (fun l => l.seq == seq && l.k == k)

/-! ### Head ports -/

def State.head (s : State) (q : Nat) : HeadPort := s.heads.getD q .init

def State.modHead (s : State) (q : Nat) (f : HeadPort → HeadPort) : State := { s with heads := modAt f q s.heads }

def HeadPort.row (x : HeadPort) (row : Nat) : RowSt := if row = 0 then x.rowA else x.rowB

def HeadPort.modRow (x : HeadPort) (row : Nat) (f : RowSt → RowSt) : HeadPort :=
  if row = 0 then { x with rowA := f x.rowA } else { x with rowB := f x.rowB }

/-- The port is enabled, or its disable waits for the end of a train, and it is not faulted (R190).
(Mark: DEDUCED, log 28; DEDUCED, log 41) -/
def State.portUp (s : State) (q : Nat) : Bool :=
  (s.flag (Reg.HEADPORT_HP_CTRL_ENABLE q) || (s.head q).closing.isSome) && !s.flag (Reg.HEADPORT_HP_FAULT_FAULTED q)

/-- The plane and head of a mapped port. -/
def State.headOf (s : State) (q : Nat) : Option (Nat × Nat) :=
  if s.flag (Reg.HEADPORT_HP_CTRL_MAPPED q) then
    some (s.get (Reg.HEADPORT_HP_CTRL_PLANE q), s.get (Reg.HEADPORT_HP_CTRL_MAP_POS q))
  else none

/-- The port of a head. -/
def State.portOf (s : State) (p h : Nat) : Nat := (s.plane p).map.getD h 0

/-! ### Missed lines and lines fired everywhere -/

/-- A line is missed at a head, with CAUSE 5 while the plane is in a switch-over gap (R421): its first cause, MISSED once
for the line, and DEFECT_MARK from the start of its span (R120). A port that is down has no use for its data.
(Mark: DEDUCED, log 171) -/
def State.missHead (s : State) (p seq k h cause at_ : Nat) : State :=
  match s.lineOf p seq k with
  | none => s
  | some l =>
    if (l.head h).phase.done then s
    else
      let cause := if (s.plane p).gapFrom.isSome then 5 else cause
      let down := !s.portUp (s.portOf p h)
      let s := if l.cause.isNone then s.incSat (Reg.LINEGEN_PL_MISSED p) 1 else s
      let s := s.modLine p seq k (fun l => { l.modHead h (fun x => { x with phase := .missed, slot := x.slot || down }) with
        cause := l.cause.orElse (fun _ => some cause) })
      s.mark p seq k at_

/-- A line has fired at every head of a plane in a switch-over gap: the gap ends there. On the lead plane GAP_END is set,
EVT_PAIR_HANDOVER follows, and DEFECT_MARK lasts the length of the gap (R420, R421). (Mark: DEDUCED, log 111) -/
def State.gapEnds (s : State) (p : Nat) (ref : Int) : State :=
  if (s.plane p).gapFrom.isNone then s
  else
    let s := s.modPlane p (fun x => { x with gapFrom := none })
    match s.pair.gapCause, s.job.running with
    | some c, some j =>
      if p = j.lead then
        let e := intPart ref
        let stop := ref + (s.pair.gapDecision - s.pair.gapStart)
        let s := s.modPlane p (fun x => { x with marks := marksTo stop x.marks })
        let s := { s with pair := { s.pair with gapCause := none } }
        let s := (s.set Reg.PAIR_GAP_END_LO (pat 64 e)).set Reg.PAIR_GAP_END_HI (pat 64 e / 2 ^ 32)
        s.raise evPairHandover 0 (leBytes 8 c ++ leInt 8 e)
      else s
    | _, _ => s

/-- A line that every head has fired or missed: a run of missed lines grows or ends, and a line fired at every head lets
DEFECT_MARK end (R120, R121). -/
def State.settleLine (s : State) (p : Nat) (l : Line) : State :=
  let s := s.modLine p l.seq l.k (fun l => { l with settled := true })
  let s := s.modJob l.seq (·.modPlane p (fun x => { x with done := l.k + 1 }))
  match l.cause with
  | some c => (s.missRun p c l.k l.ref).modPlane p (fun x => { x with marks := joinMarks l x.marks })
  | none =>
    let t := l.heads.foldl (fun (m : Nat) (x : HeadLine) => max m (x.commit.getD 0)) 0
    ((s.closeRun p (intPart l.ref)).modPlane p (fun x => { x with marks := endMarks l t x.marks })).gapEnds p l.ref

/-- Lines that every head has fired or missed are settled in order. `n` bounds the recursion. -/
def State.settle (s : State) (p : Nat) : Nat → State
  | 0 => s
  | n + 1 =>
    match (s.plane p).lines.find? (fun l => !l.settled) with
    | none => s
    | some l => if l.heads.all (fun x => x.phase.done) then (s.settleLine p l).settle p n else s

/-- Settled lines whose data no port awaits or holds leave the plane. -/
def State.forget (s : State) (p : Nat) : State :=
  s.modPlane p (fun x => { x with lines := x.lines.filter (fun l =>
    !(l.settled && l.heads.all (fun x => x.ready && x.slot))) })

/-- A plane stops printing: an open run ends at the counter's value, and tables that wait flip (R121, R180).
(Mark: DEDUCED, log 30; DEDUCED, log 36) -/
def State.planeStops (s : State) (p : Nat) : State :=
  if s.prints p then s else (s.closeRun p ((s.enc (s.encOf p)).count)).idleFlips p

/-- Settle a plane's lines; the last of them may end the job on the plane (R505). (Mark: DEDUCED, log 170) -/
def State.settled (s : State) (p : Nat) : State :=
  let r := (s.settle p (s.plane p).lines.length).forget p
  if s.prints p && !r.prints p then (r.planeStops p).showJobs else r

/-! ### The pipeline of a port -/

/-- Bytes that a port's FIFO holds: lines whose data have come and which have not used their slot (R8).
(Mark: DEDUCED, log 42) -/
def State.fifoBytes (s : State) (p h : Nat) : Nat :=
  ((s.plane p).lines.filter (fun l => (l.head h).ready && !(l.head h).slot && !l.under)).length * pLineBytes (s.profile p)

/-- The bits of a line for one pair (R194). -/
def pairBits (r : List Byte) (lv : List Nat) (pr : Nat) : List Bool :=
  (List.range (pQ r)).map (fun b =>
    let slot := b / pBits r
    let t := b % pBits r
    let m := if bit (pOrder r) 2 then pr * (pNozzles r / pPairs r) + slot else slot * pPairs r + pr
    let j := if bit (pOrder r) 1 then pNozzles r - 1 - m else m
    let v := if pBits r = 1 then min (lv.getD j 0) 1 else lv.getD j 0
    bit v (if bit (pOrder r) 0 then t else pBits r - 1 - t))

/-- The shift data of a line at a head, for every pair (R194). -/
def shiftData (r : List Byte) (lv : List Nat) : List (List Bool) := (List.range (pPairs r)).map (pairBits r lv)

/-- The next line that a port has to shift: each line of the plane in order, one that is missed already too (R197). -/
def State.nextShift (s : State) (p h : Nat) : Option Line := (s.plane p).lines.find? (fun l => !(l.head h).slot)

/-- The running or queued job of a number. -/
def State.jobOf (s : State) (seq : Nat) : Option JobRun :=
  (s.job.running.toList ++ s.job.queued.toList).find? (fun j => j.seq == seq)

/-- B(k) of R197 has come: line k + ⌊LA/2⌋ or the job's last line has been issued, or line k is committed. -/
def State.shiftDue (s : State) (p h : Nat) (l : Line) : Bool :=
  (l.head h).commit.isSome || match s.jobOf l.seq with
    | none => true
    | some j => decide (l.k + s.lookahead p / 2 < (j.plane p).next) || !j.below (j.plane p).next

/-- A line uses its slot in a port's pipeline. -/
def State.useSlot (s : State) (p h : Nat) (l : Line) : State :=
  s.modLine p l.seq l.k (·.modHead h (fun x => { x with slot := true }))

/-- A line that is not ready at its deadline is late: it uses its slot in the pipeline, and its data are discarded when they
come (R10, R198). (Mark: DEDUCED, log 29) -/
def State.lateLine (s : State) (q p h : Nat) (l : Line) : State :=
  let r := s.profile p
  let s := (s.incSat (Reg.HEADPORT_HP_LATE q) 1).incSat Reg.SYS_LINE_LATE_TOTAL_COUNT 1
  let s := (s.useSlot p h l).missHead p l.seq l.k h 0 s.now
  let s := s.modHead q (fun x => { x with shiftFrom := s.now + pTShift r + pTsl r + pLatW r l.row + 8 })
  let s := if l.late then s
    else (s.modLine p l.seq l.k (fun l => { l with late := true })).raiseLimited evLineLate p 1
      (leBytes 8 p ++ leBytes 8 l.k)
  s.settled p

/-- The start of a line's shift at its deadline (R9, R197). (Mark: DEDUCED, log 29) -/
def State.shiftStart (s : State) (q : Nat) : State :=
  match s.headOf q with
  | none => s
  | some (p, h) =>
    match s.nextShift p h with
    | none => s
    | some l =>
      if !s.portUp q || (s.head q).shift.isSome || decide (s.now < (s.head q).shiftFrom) || !s.shiftDue p h l then s
      else if (l.head h).ready then
        let s := (s.useSlot p h l).modLine p l.seq l.k (·.modHead h (fun x =>
          { x with phase := if x.phase = .waiting then .shifting else x.phase }))
        (s.modHead q (fun x => { x with
          shift := some (l.seq, l.k, l.row, s.now), bits := shiftData (s.profile p) (l.levels.getD h []) })).forget p
      else s.lateLine q p h l

/-- A row's latch may be written: its line is fired with its train at an end, or missed (R199). -/
def State.rowFree (s : State) (q p h row : Nat) : Bool :=
  let x := (s.head q).row row
  decide (x.freeAt ≤ s.now) && x.trainEnd.isNone &&
    match x.line with
    | none => true
    | some (seq, k) => match s.lineOf p seq k with
      | some l => (l.head h).phase.done
      | none => true

/-- LAT of a shifted line rises: the line is in its row's latch when it falls, missed or not (R196, R199, R201). -/
def State.latch (s : State) (q : Nat) : State :=
  match s.headOf q, (s.head q).shift with
  | some (p, h), some (seq, k, row, start) =>
    let r := s.profile p
    if !s.portUp q || decide (s.now < start + pTShift r + pTsl r) || !s.rowFree q p h row then s
    else
      let fall := s.now + pLatW r row
      let s := s.modLine p seq k (·.modHead h (fun x =>
        { x with phase := if x.phase = .shifting then .latched else x.phase }))
      s.modHead q (fun x => { x.modRow row (fun y => { y with line := some (seq, k), fall := some fall }) with
        shift := none, shiftFrom := fall + 8 })
  | _, _ => s

/-- The next line at a head whose committed time has come. -/
def State.nextFire (s : State) (p h : Nat) : Option (Line × Nat) :=
  (s.plane p).lines.findSome? (fun l =>
    let x := l.head h
    match x.commit with
    | some t => if x.phase.done then none else if t ≤ s.now then some (l, t) else none
    | none => none)

/-- The moment of a miss frees the row's latch for its next LAT (R199). -/
def State.freeRow (s : State) (q row at_ : Nat) : State :=
  s.modHead q (fun x => x.modRow row (fun y => { y with freeAt := max y.freeAt at_ }))

/-- A line skipped at a head: OVERSPEED once for the line, and its event (R118, R119, R200). -/
def State.overspeed (s : State) (p seq k : Nat) : State :=
  match s.lineOf p seq k with
  | none => s
  | some l =>
    if l.isOver then s
    else
      let s := (s.modLine p seq k (fun l => { l with isOver := true })).incSat (Reg.LINEGEN_PL_OVERSPEED p) 1
      s.raiseLimited evOverspeed p 1 (leBytes 8 p ++ leBytes 8 k)

/-- The train of a line starts at its committed time, or the line is missed there (R200, R142, R191; R16).
(Mark: DEDUCED, log 27; DEDUCED, log 28; DEDUCED, log 37; DEDUCED, log 38) -/
def State.fire (s : State) (q p h : Nat) (l : Line) (t : Nat) : State :=
  let r := s.profile p
  let inLatch := (l.head h).phase == .latched && ((s.head q).row l.row).line == some (l.seq, l.k)
  let early := match ((s.head q).row l.row).fall with | some f => decide (f + pTls r ≤ t) | none => false
  let missAs := fun (c at_ : Nat) => ((s.missHead p l.seq l.k h c at_).freeRow q l.row s.now).settled p
  if s.time.fireInhibit then missAs 6 t
  else if !s.portUp q then missAs 4 (max l.issuedAt (s.head q).downAt)
  else if l.under then missAs 2 t
  else if inLatch && early then
    let s := s.modLine p l.seq l.k (·.modHead h (fun x => { x with phase := .fired }))
    let n := (s.get (Reg.HEADPORT_HP_PREHEAT_COUNT q), s.get (Reg.HEADPORT_HP_PREHEAT_WIDTH q))
    ((s.modHead q (·.modRow l.row (fun y => { y with
      trainEnd := some (t + pTrain r), lastFired := some t, heat := n }))).inc (Reg.HEADPORT_HP_FIRED q)).settled p
  else
    let s := (s.incSat (Reg.HEADPORT_HP_SKIPPED q) 1).overspeed p l.seq l.k
    ((s.missHead p l.seq l.k h 1 t).freeRow q l.row s.now).settled p

/-- The start of a strobe train, or its miss (R200). -/
def State.trainStart (s : State) (q : Nat) : State :=
  match s.headOf q with
  | none => s
  | some (p, h) => match s.nextFire p h with
    | some (l, t) => s.fire q p h l t
    | none => s

/-- The strobe pulses of a train as (rise, fall), in steps from its start (R202). -/
def trainPulses (r : List Byte) (n w : Nat) : List (Nat × Nat) :=
  ((List.range (pPhCount r)).filter (fun i => decide (pPhCount r ≤ i + n))).map
      (fun i => (i * pPhPitch r, i * pPhPitch r + w)) ++
  (List.range (pFireCount r)).map (fun i =>
    let rise := pFireDelay r + ((List.range i).map (fun a => pFireW r a + pFireGap r)).sum
    (rise, rise + pFireW r i))

/-- The line that a plane has to fire next: its job and index (R211). -/
def State.lineAhead (s : State) (p : Nat) : Nat × Nat :=
  match (s.plane p).lines.find? (fun l => !l.settled) with
  | some l => (l.seq, l.k)
  | none => match (s.job.running.toList ++ s.job.queued.toList).find? (·.liveOn p) with
    | some j => (j.seq, (j.plane p).next)
    | none => (0, 0)

/-- What a port fault leaves of a train at an instant: a pulse under way completes, but not where a watchdog has cut the pad
(R211 to R213). -/
def RowSt.cut (r : List Byte) (now : Nat) (pad : Bool) (x : RowSt) : RowSt :=
  match x.trainEnd, x.lastFired with
  | some _, some t =>
    match (trainPulses r x.heat.1 x.heat.2).find? (fun c => decide (t + c.1 ≤ now ∧ now < t + c.2)) with
    | some c => if pad then { x with trainEnd := none, freeAt := now + pTtl r } else { x with trainEnd := some (t + c.2) }
    | none => { x with trainEnd := none, freeAt := now + pTtl r }
  | _, _ => x

/-- A LAT pulse under way ends with its port: the row's latch keeps its older content, which never fires (R211). -/
def RowSt.noLat (now : Nat) (x : RowSt) : RowSt :=
  match x.fall with
  | some f => if now < f then { x with line := none, fall := none } else x
  | none => x

/-- A port goes down: the shift and the LAT pulse stop, and the lines held in its shift register or a latch are missed with
CAUSE 4. On a printing plane DEFECT_MARK is asserted from now on (R190, R191, R211). (Mark: DEDUCED, log 28) -/
def State.dropPort (s : State) (q : Nat) : State :=
  let s := s.modHead q (fun x => { x with
    shift := none, closing := none, downAt := s.now, rowA := x.rowA.noLat s.now, rowB := x.rowB.noLat s.now })
  match s.headOf q with
  | none => s
  | some (p, h) =>
    let held := (s.plane p).lines.filter (fun l => (l.head h).phase == .shifting || (l.head h).phase == .latched)
    let s := held.foldl (fun s l => s.missHead p l.seq l.k h 4 s.now) s
    let s := if s.prints p then s.mark p (s.lineAhead p).1 (s.lineAhead p).2 s.now else s
    s.settled p

/-- The end of a strobe train (R202), and of a disable that waited for it (R190). (Mark: DEDUCED, log 41) -/
def State.trainStop (s : State) (q row : Nat) : State :=
  match ((s.head q).row row).trainEnd, s.headOf q with
  | some e, some (p, _) =>
    if s.now < e then s
    else
      let s := s.modHead q (·.modRow row (fun y => { y with trainEnd := none, freeAt := e + pTtl (s.profile p) }))
      match (s.head q).closing with
      | some c => if c ≤ s.now then s.dropPort q else s
      | none => s
  | _, _ => s

/-- A port has no use for the lines that it has missed. -/
def State.skipMissed (s : State) (p h : Nat) : State :=
  s.modPlane p (fun x => { x with lines := x.lines.map (fun l =>
    l.modHead h (fun y => { y with slot := y.slot || y.phase == .missed })) })

/-- The port starts afresh: its next line may shift from now on, and lines missed before are past (R197). -/
def State.freshPort (s : State) (q : Nat) : State :=
  let s := s.modHead q (fun x => { x with
    shiftFrom := s.now, shift := none,
    rowA := { x.rowA with line := none, fall := none, freeAt := s.now },
    rowB := { x.rowB with line := none, fall := none, freeAt := s.now } })
  match s.headOf q with
  | some (p, h) => (s.skipMissed p h).forget p
  | none => s

/-! ### Firing times (R116 to R118) -/

/-- The prediction of R116, in steps; `none` is no firing time. -/
def predict (f x v a : Int) : Option Int :=
  let d := sar (f - x) 32
  let v1 := sar v 32
  let a1 := sar a 32
  if v1 ≤ 0 then none
  else if d ≤ 0 then some 0
  else if 4 * v1 ≤ d then none
  else
    let t1 := tdiv (d * 8000) v1
    let vm := v1 + tdiv (a1 * t1) 16000
    if vm ≤ 0 then none else some (tdiv (d * 8000) vm)

/-- The latest firing time at a head on a row: the last line fired, or a line committed and not missed (R118).
(Mark: DEDUCED, log 27) -/
def State.lastFire (s : State) (q p h row : Nat) : Option Nat :=
  (s.plane p).lines.foldl (fun m l =>
    if l.row = row ∧ (l.head h).phase ≠ .missed ∧ !l.under then
      match (l.head h).commit with | some t => some (max t (m.getD 0)) | none => m
    else m) ((s.head q).row row).lastFired

/-- A committed time breaks the row period or the 160 kHz floor (R118). (Mark: DEDUCED, log 27) -/
def State.tooFast (s : State) (q p h row t : Nat) : Bool :=
  let near := fun (o : Option Nat) (n : Nat) => match o with | some u => decide (t < u + n) | none => false
  near (s.lastFire q p h row) (pMinPeriod (s.profile p)) || near (s.lastFire q p h 0) 5000 ||
    near (s.lastFire q p h 1) 5000

/-- Commit one line at a head, or skip it there (R117, R118). (Mark: DEDUCED, log 27) -/
def State.commitLine (s : State) (p h : Nat) (l : Line) (t : Nat) : State :=
  let q := s.portOf p h
  if s.tooFast q p h l.row t then
    (((s.overspeed p l.seq l.k).missHead p l.seq l.k h 1 t).freeRow q l.row s.now).modLine p l.seq l.k
      (·.modHead h (fun x => { x with commit := some t }))
  else s.modLine p l.seq l.k (·.modHead h (fun x => { x with commit := some t }))

/-- Commit a head's lines in ascending order while the prediction lies below 16,000 steps (R116). -/
def State.commitHead (s : State) (p h : Nat) (x v a : Int) : List Line → State
  | [] => s
  | l :: ls =>
    if (l.head h).commit.isSome ∨ (l.head h).phase.done then s.commitHead p h x v a ls
    else match predict (l.firePos h) x v a with
      | none => s
      | some t => if t < 16000 then (s.commitLine p h l (s.now + (max t 400).toNat)).commitHead p h x v a ls else s

/-- Commit the lines of a plane at every head (R116). -/
def State.commitPlane (s : State) (p : Nat) : State :=
  let e := s.enc (s.encOf p)
  ((List.range (s.heads' p)).foldl (fun s h => s.commitHead p h e.pos e.v e.a (s.plane p).lines) s).settled p

/-! ### Invalid encoders (R122) -/

/-- Committed firings of an encoder's printing planes are withdrawn, and those lines missed with CAUSE 3; DEFECT_MARK is
asserted from now on (R120, R122). -/
def State.encHalt (s : State) (e : Nat) : State :=
  (List.range 4).foldl (fun s p =>
    if s.prints p ∧ s.encOf p = e then
      let s := s.setB (Reg.LINEGEN_PL_STATUS_HALTED p) true
      let s := (s.plane p).lines.foldl (fun s l =>
        (List.range l.heads.length).foldl (fun s h =>
          if (l.head h).commit.isSome then s.missHead p l.seq l.k h 3 s.now else s) s) s
      (s.mark p (s.lineAhead p).1 (s.lineAhead p).2 s.now).settled p
    else s) s

/-- A job's S, H and issued lines move with a re-referenced counter (R122). (Mark: DEDUCED, log 33) -/
def State.shiftJob (s : State) (seq : Nat) (off : Int) : State :=
  let s := s.modJob seq (fun j => { j with
    start := j.start.map (· + off * 2 ^ 32),
    planes := j.planes.map (fun x => { x with hwm := x.hwm + off * 2 ^ 64, afterRef := true }) })
  (List.range 4).foldl (fun s p => s.modPlane p (fun x => { x with
    lines := x.lines.map (fun l => if l.seq = seq then { l with ref := l.ref + off * 2 ^ 64 } else l) })) s

/-- ENC_REFERENCE (R83, R122): refused while a wire fault on A or B persists, and while a plane prints from a valid
encoder. (Mark: DEDUCED, log 33) -/
def State.encReference (s : State) (e : Nat) (count : Int) : Res :=
  if s.flag (Reg.ENC_STATUS_WIRE_A e) || s.flag (Reg.ENC_STATUS_WIRE_B e) ||
      (s.encPrints e && s.encValid e) then Res.err stBadState s
  else
    let off := count - (s.enc e).count
    let s := s.encLoad e count
    let on := fun (j : JobRun) => j.enc == e
    let run := match s.job.running with | some j => on j | none => false
    let s := match s.job.running with | some j => if on j then s.shiftJob j.seq off else s | none => s
    let s := match s.job.queued with
      | some j => if on j ∧ (run ∨ j.started) then s.shiftJob j.seq off else s
      | none => s
    Res.ok ((List.range 4).foldl (fun s p =>
      if s.encOf p = e then (s.setB (Reg.LINEGEN_PL_STATUS_HALTED p) false).modPlane p (fun x =>
        { x with marks := shiftMarks off x.marks }) else s) s)

/-- The first tick after a re-reference: issued lines at or behind the web at a head are missed there (R122).
(Mark: DEDUCED, log 34) -/
def State.dropPassed (s : State) (p : Nat) : State :=
  let x := s.webPos p
  let s := (s.plane p).lines.foldl (fun s l =>
    (List.range l.heads.length).foldl (fun s h =>
      if l.firePos h ≤ x then s.missHead p l.seq l.k h 3 s.now else s) s) s
  s.settled p

end Sys2Proof.Machine
end

