-- ==== Sys2Proof/Machine/Thermal.lean ====
section
/-! DEFINITION. Temperatures, the housekeeping round's arithmetic, DRAM training limits and tap calibration
(21_thermal_calibration.md; 12_raster_memory.md R265 to R268). -/

namespace Sys2Proof.Machine

/-! ### Sensors (R436, R439, R440) -/

/-- The neighbours of a sensor (R436). -/
def neighbours (i : Nat) : List Nat :=
  if i < 16 then
    (if 4 ≤ i then [i - 4] else []) ++ (if i < 12 then [i + 4] else []) ++
      (if i % 4 ≠ 0 then [i - 1] else []) ++ (if i % 4 ≠ 3 then [i + 1] else [])
  else [16, 17, 18, 19].filter (· != i)

/-- Insertion into an ascending list. -/
def insertAsc (x : Int) : List Int → List Int
  | [] => [x]
  | y :: l => if x ≤ y then x :: y :: l else y :: insertAsc x l

/-- A list in ascending order. -/
def sortAsc (l : List Int) : List Int := l.foldr insertAsc []

/-- The median of R439: the middle value, or the mean of the middle pair rounded down. -/
def medianAsc (l : List Int) : Int :=
  let m := l.length
  if m % 2 = 1 then l.getD (m / 2) 0 else sar (l.getD (m / 2 - 1) 0 + l.getD (m / 2) 0) 1

/-- Whether a sensor deviates from its neighbours in a round (R439). (Mark: DEDUCED, log 117) -/
def deviates (raw : List Int) (broken : Nat) (i : Nat) : Bool :=
  let nb := ((neighbours i).filter (fun j => !bit broken j)).map (fun j => raw.getD j 0)
  if nb.length < 2 then false else decide (100 < (raw.getD i 0 - medianAsc (sortAsc nb)).natAbs)

/-- The value of a sensor that its round uses (R439). -/
def usedValue (raw : List Int) (broken : Nat) (dev : Nat → Bool) (i : Nat) : Int :=
  let ok := ((neighbours i).filter (fun j => !bit broken j && !dev j)).map (fun j => raw.getD j 0)
  if (bit broken i || dev i) && !ok.isEmpty then tdiv ok.sum ok.length else raw.getD i 0

/-- The cross-check of a round: streaks, sensors marked broken with their events, raw and used values (R439).
(Mark: DEDUCED, log 117) -/
def State.crossCheck (s : State) (raw : List Int) : State :=
  let broken := s.get Reg.THERM_BROKEN_SENSORS
  let dev := deviates raw broken
  let streak := (List.range 20).map (fun i => if dev i then s.therm.streak.getD i 0 + 1 else 0)
  let s := { s with therm := { s.therm with streak := streak } }
  let newly := (List.range 20).filter (fun i => streak.getD i 0 == 3 && !bit broken i)
  let s := newly.foldl (fun s i =>
    (s.set Reg.THERM_BROKEN_SENSORS (s.get Reg.THERM_BROKEN_SENSORS ||| 2 ^ i)).raise evSensorBroken 0 (leBytes 1 i)) s
  let broken := s.get Reg.THERM_BROKEN_SENSORS
  (List.range 20).foldl (fun s i =>
    (s.setS (Reg.THERM_SENSOR_RAW i) (raw.getD i 0)).setS (Reg.THERM_SENSOR_USED i) (usedValue raw broken dev i)) s

/-- The used value of a sensor. -/
def State.temp (s : State) (i : Nat) : Int := s.getS (Reg.THERM_SENSOR_USED i)

/-- The sensor with the highest used value, the lowest index among equals. -/
def State.hottest (s : State) : Nat :=
  (List.range 20).foldl (fun h i => if s.temp h < s.temp i then i else h) 0

/-- Tj: the highest used value (R440). -/
def State.tj (s : State) : Int := s.temp s.hottest

/-- Publish Tj. -/
def State.publishTj (s : State) : State :=
  (s.set Reg.THERM_STATUS_HOTTEST s.hottest).setS Reg.THERM_STATUS_TJ s.tj

/-! ### Level, throttle, thermal term, compensation (R441 to R447) -/

/-- The threshold of a level. -/
def State.threshold (s : State) (lv : Nat) : Int :=
  if lv = 1 then s.get Reg.THERM_THRESH_WARN else if lv = 2 then s.get Reg.THERM_THRESH_THROTTLE else s.get Reg.THERM_CRIT

/-- The highest level whose threshold Tj has reached. -/
def State.levelOf (s : State) (tj : Int) : Nat :=
  if s.threshold 3 ≤ tj then 3 else if s.threshold 2 ≤ tj then 2 else if s.threshold 1 ≤ tj then 1 else 0

/-- The event of a level. (Mark: DEDUCED, log 16) -/
def levelEvent (lv : Nat) : Nat := if lv = 1 then evThermWarn else if lv = 2 then evThermThrottle else evThermCrit

/-- LEVEL at the end of a round, with its event when it rises (R442). (Mark: DEDUCED, log 15; DEDUCED, log 16) -/
def State.updateLevel (s : State) : State :=
  let tj := s.tj
  let lv := s.get Reg.THERM_STATUS_LEVEL
  let new := s.levelOf tj
  if lv < new then
    (s.set Reg.THERM_STATUS_LEVEL new).raise (levelEvent new) 0 (leBytes 2 s.hottest ++ leInt 2 tj)
  else if 0 < lv ∧ tj < s.threshold lv - s.get Reg.THERM_HYST then s.set Reg.THERM_STATUS_LEVEL (lv - 1)
  else s

/-- The throttle fraction (R443). (Mark: DEDUCED, log 15) -/
def State.updateThrottle (s : State) : State :=
  if s.get Reg.THERM_STATUS_LEVEL < 2 then s.set Reg.THERM_THROTTLE_P 0
  else
    let mx := min 240 (s.get Reg.THERM_THROTTLE_MAX)
    let p := (tdiv (s.tj - s.threshold 2) 10 + 1) * s.get Reg.THERM_THROTTLE_STEP
    s.set Reg.THERM_THROTTLE_P (clampI 0 mx p).toNat

/-- The thermal term of WSPD (R445). -/
def State.thermalTerm (s : State) : Nat :=
  if s.get Reg.THERM_STATUS_LEVEL = 3 then 0
  else
    let start : Int := s.get Reg.THERM_WSPD_CFG_TW_START
    let x := clampI 0 4000 (tdiv (4000 * (1150 - s.tj)) (1150 - start))
    max x.toNat (s.get Reg.THERM_WSPD_CFG_TW_FLOOR)

/-- The IRO correction from sensor 13 and the factory coefficients (R446). -/
def State.iroCorrection (s : State) : Int :=
  Config.iroC0 + Config.iroC1 * s.temp 13 + Config.iroC2 * s.temp 13 * s.temp 13

/-- A reference's correction from sensor 14 and its own coefficients, from number `k` on (R447).
(Mark: DESIGN CHOICE, log 178) -/
def State.refCorrection (s : State) (k : Nat) : Int :=
  Config.refCoeff k + Config.refCoeff (k + 1) * s.temp 14 + Config.refCoeff (k + 2) * s.temp 14 * s.temp 14

/-- The corrections of the chopper DAC reference and of the converter reference: each chopping cycle and the next round
take them (R447). (Mark: DESIGN CHOICE, log 178) -/
def State.correctRefs (s : State) : State :=
  { s with therm := { s.therm with dacNext := s.refCorrection 0, adcNext := s.refCorrection 3 } }

/-- The converter's own check channels lie within their limits (R441). -/
def refsOk (hk : List Nat) : Bool :=
  decide (588 ≤ hk.getD 40 0 ∧ hk.getD 40 0 ≤ 612 ∧ hk.getD 41 0 ≤ 82 ∧ 4013 ≤ hk.getD 42 0)

/-- The round's results are published together: the channels, with the used values for the sensors (R437, R438). -/
def State.publishHk (s : State) (hk : List Nat) : State :=
  (List.range 64).foldl (fun s j =>
    s.set (Reg.THERM_HK j) (if 8 ≤ j ∧ j < 28 then pat 16 (s.temp (j - 8)) else if 43 ≤ j then 0 else hk.getD j 0)) s

/-! ### DRAM training limits (R265, R267, R268) -/

/-- The spread of the centres of a byte's eight DQs. -/
def spreadOk (limit : Nat) (cs : List Int) : Bool :=
  cs.all (fun a => cs.all (fun b => decide ((a - b).natAbs ≤ limit)))

/-- The centres of each byte lie within the limit of each other. -/
def bytesSpreadOk (limit : Nat) (cs : List Int) : Bool := spreadOk limit (cs.take 8) && spreadOk limit (cs.drop 8)

/-- No centre has changed by more than a limit. -/
def changeOk (limit : Nat) (old new : List Int) : Bool :=
  (old.zip new).all (fun e => decide ((e.2 - e.1).natAbs ≤ limit))

/-- The limits of full training; the changes are not judged at start-up (R268). -/
def trainOk (start : Bool) (c : Chan) (oldDq : Nat) (m : TrainMeas) : Bool :=
  m.readEyes.all (fun e => decide (4 ≤ e)) && m.writeEyes.all (fun e => decide (4 ≤ e)) &&
  bytesSpreadOk 24 m.centres && decide (10 ≤ m.vrefDq ∧ m.vrefDq ≤ 110 ∧ 10 ≤ m.vrefCa ∧ m.vrefCa ≤ 110) &&
  (start || (changeOk 16 c.centres m.centres && decide (((m.vrefDq : Int) - oldDq).natAbs ≤ 8)))

/-- The limits of a tracking measurement (R268). -/
def trackOk (c : Chan) (m : TrainMeas) : Bool :=
  m.readEyes.all (fun e => decide (4 ≤ e)) && bytesSpreadOk 24 m.centres && changeOk 4 c.centres m.centres &&
  decide (75 * c.osc ≤ 100 * m.osc ∧ 100 * m.osc ≤ 125 * c.osc)

def State.chan (s : State) (c : Nat) : Chan := s.mem.chans.getD c .init

def State.modChan (s : State) (c : Nat) (f : Chan → Chan) : State :=
  { s with mem := { s.mem with chans := modAt f c s.mem.chans } }

/-- The stack sensor of a channel (21_thermal_calibration.md, sensor table). -/
def stackSensor (c : Nat) : Nat := 16 + c / 2

/-- Take an accepted full training of a channel: its values are set at once, which ends a tracking run that still steps
(R266, R267). (Mark: DEDUCED, log 179) -/
def State.acceptTraining (s : State) (c : Nat) (m : TrainMeas) : State :=
  let s := if (s.chan c).running then s.raise evCalDone 0 (leBytes 1 1) else s
  let s := s.modChan c (fun x => { x with
    centres := m.centres, osc := m.osc, taps := m.taps, targets := m.taps, running := false })
  let s := s.set (Reg.MEMCTL_CH_TRAIN_EYE_MIN c) ((m.readEyes ++ m.writeEyes).foldl min 255)
  let s := (s.set (Reg.MEMCTL_CH_TRAIN_VREF_DQ c) m.vrefDq).set (Reg.MEMCTL_CH_TRAIN_VREF_CA c) m.vrefCa
  s.setS (Reg.MEMCTL_CH_TRAIN_TEMP_TEMP c) (s.temp (stackSensor c))

/-- A rejected result of a channel (R266, R268, R451). -/
def State.rejectChannel (s : State) (c : Nat) : State :=
  ((s.setB (Reg.MEMCTL_CH_TRAIN_REJECTED c) true).incSat (Reg.CAL_T_REJECTS_COUNT 0) 1).set (Reg.CAL_T_LAST_REJECT_UNIT 0) c

/-- A tracking measurement: new tap targets, or a rejection with its event, which ends the run (R267, R268, R450).
(Mark: DEDUCED, log 179) -/
def State.track (s : State) (c : Nat) (m : TrainMeas) : State :=
  if trackOk (s.chan c) m then
    let s := s.modChan c (fun x => { x with centres := m.centres, targets := m.taps, running := true })
    let s := s.set (Reg.MEMCTL_CH_TRAIN_EYE_MIN c) (m.readEyes.foldl min 255)
    (s.setS (Reg.MEMCTL_CH_TRAIN_TEMP_TEMP c) (s.temp (stackSensor c))).inc (Reg.CAL_T_RUNS_COUNT 0)
  else ((s.rejectChannel c).raise evCalRejected 0 (leBytes 1 0 ++ leBytes 1 c)).raise evCalDone 0 (leBytes 1 1)

/-- Whether a channel's stack has moved by more than CAL_DT since its last accepted run (R267, R450). -/
def State.trackDue (s : State) (c : Nat) : Bool :=
  let dt := s.get Reg.CAL_CTRL_CAL_DT
  dt != 0 && s.flag Reg.MEMCTL_MODE_TRAINED &&
    decide (dt < (s.temp (stackSensor c) - s.getS (Reg.MEMCTL_CH_TRAIN_TEMP_TEMP c)).natAbs)

/-- One tap toward its target. -/
def stepTap (cur target : Int) : Int := if cur < target then cur + 1 else if target < cur then cur - 1 else cur

/-- Taps toward their targets, one tap each. -/
def stepTaps : List Int → List Int → List Int
  | c :: cs, x :: xs => stepTap c x :: stepTaps cs xs
  | cs, _ => cs

/-- One step of a channel's taps; at the end of the run EVT_CAL_DONE (R267). (Mark: DEDUCED, log 179) -/
def State.dramTapStep (s : State) (c : Nat) : State :=
  let x := s.chan c
  let due := match x.stepAt with | some a => decide (a + msSteps ≤ s.now) | none => true
  if !x.running ∨ !due then s
  else
    let taps := if x.taps.length = x.targets.length then stepTaps x.taps x.targets else x.targets
    let done := taps == x.targets
    let s := s.modChan c (fun y => { y with taps := taps, stepAt := some s.now, running := !done })
    let s := if taps = x.taps then s else (s.inc (Reg.MEMCTL_CH_TAP_STEPS_COUNT c)).inc (Reg.CAL_T_STEPS_COUNT 0)
    if done then s.raise evCalDone 0 (leBytes 1 1) else s

/-! ### Tap units of targets 1 to 3 (R448 to R451) -/

/-- The units of a target. -/
def State.tapUnits (s : State) (t : Nat) : List TapUnit :=
  if t = 1 then s.therm.lanes else if t = 2 then s.therm.heads else s.therm.dphy

/-- Change one unit of a target. -/
def State.modTap (s : State) (t u : Nat) (f : TapUnit → TapUnit) : State :=
  { s with therm :=
    if t = 1 then { s.therm with lanes := modAt f u s.therm.lanes }
    else if t = 2 then { s.therm with heads := modAt f u s.therm.heads }
    else { s.therm with dphy := modAt f u s.therm.dphy } }

/-- The sensor that serves a unit (tap unit table, sensor table). -/
def tapSensor (t u : Nat) : Nat :=
  if t = 1 then (if u / 4 < 2 then 4 else 7) else if t = 2 then u / 12 else 8

/-- The limits of R451 for one unit's result. The spread within a unit's taps is the spread within its port.
(Mark: DEDUCED, log 21) -/
def tapOk (tracking : Bool) (u : TapUnit) (m : TapMeas) : Bool :=
  decide (4 ≤ m.eye) && m.taps.all (fun x => decide (2 ≤ x ∧ x ≤ 61)) && spreadOk 24 m.taps &&
  (u.accepted.isEmpty || changeOk (if tracking then 4 else 16) u.accepted m.taps)

/-- The spread of a lane port's or camera port's lanes as a result would leave them (R451, spread within a port).
(Mark: DEDUCED, log 21) -/
def State.portSpreadOk (s : State) (t : Nat) (m : TapMeas) : Bool :=
  t == 2 || spreadOk 24 (m.taps ++ ((List.range 4).filter (fun k => 4 * (m.unit / 4) + k != m.unit)).flatMap
    (fun k => ((s.tapUnits t).getD (4 * (m.unit / 4) + k) .init).accepted))

/-- A unit's accepted values are set at once out of service, and stepped toward in service (R448). -/
def State.acceptTap (s : State) (t : Nat) (inService : Bool) (m : TapMeas) : State :=
  s.modTap t m.unit (fun u => { u with
    accepted := m.taps, taps := if inService then (if u.taps.isEmpty then m.taps else u.taps) else m.taps,
    temp := some (s.temp (tapSensor t m.unit)) })

/-- A rejected unit (R451). -/
def State.rejectTap (s : State) (t u : Nat) : State :=
  let s := (s.incSat (Reg.CAL_T_REJECTS_COUNT t) 1).set (Reg.CAL_T_LAST_REJECT_UNIT t) u
  s.raise evCalRejected 0 (leBytes 1 t ++ leBytes 1 u)

/-- A target has units whose taps have not reached their accepted values. (Mark: DEDUCED, log 158) -/
def State.stepping (s : State) (t : Nat) : Bool := (s.tapUnits t).any (fun u => u.taps != u.accepted)

/-- Units whose sensor has moved by more than CAL_DT since their last accepted result (R450). -/
def State.tapsDue (s : State) (t : Nat) : List Nat :=
  let dt := s.get Reg.CAL_CTRL_CAL_DT
  if dt = 0 then [] else
  (List.range (s.tapUnits t).length).filter (fun u =>
    match ((s.tapUnits t).getD u .init).temp with
    | some x => decide (dt < (s.temp (tapSensor t u) - x).natAbs)
    | none => false)

/-- THERM_READ (R440). -/
def cmdThermRead (s : State) : Res :=
  Res.okData (((List.range 20).map (fun i => leInt 2 (s.temp i))).flatten ++
    leBytes 4 (s.get Reg.THERM_BROKEN_SENSORS) ++ leBytes 1 (s.get Reg.THERM_STATUS_LEVEL)) s

/-- HK_READ (R437). -/
def cmdHkRead (first count : Nat) (s : State) : Res :=
  if 1 ≤ count ∧ count ≤ 64 ∧ first + count ≤ 64 then
    Res.okData (((List.range count).map (fun i => leBytes 2 (s.get (Reg.THERM_HK (first + i))))).flatten) s
  else Res.err stBadParam s

/-- CAL_DT must be 0 or 10 to 500 (R450). -/
def calDtOk (dt : Nat) : Bool := dt == 0 || decide (10 ≤ dt ∧ dt ≤ 500)

/-- CAL_DT. -/
def cmdCalDt (dt : Nat) (s : State) : Res :=
  if calDtOk dt then Res.ok (s.set Reg.CAL_CTRL_CAL_DT dt) else Res.err stBadParam s

/-- BROKEN_CLEAR (R439): the marks named and their streaks are cleared. -/
def State.clearBroken (s : State) (mask : Nat) : State :=
  let mask := mask - (mask &&& s.justSet Reg.THERM_BROKEN_SENSORS)
  let s := s.clearOnes Reg.THERM_BROKEN_SENSORS mask
  { s with therm := { s.therm with
    streak := (List.range 20).map (fun i => if bit mask i then 0 else s.therm.streak.getD i 0) } }

/-- BROKEN_CLEAR. -/
def execBrokenClear (mask t : Nat) (s : State) : Host.Outcome State Fault Refusal :=
  eventAwake t (fun s => s.clearBroken mask) s

/-- The start of a round (R438): a round starts, or the trigger is counted late. (Mark: DESIGN CHOICE, log 178) -/
def State.roundStart (s : State) : State :=
  if s.therm.round then s.incSat Reg.THERM_ROUNDS_LATE 1 else { s with therm := { s.therm with round := true, adcRef := s.therm.adcNext } }

/-- DRAM_TAP_STEP (R267). -/
def execDramTapStep (ch : Fin 8) (t : Nat) (s : State) : Host.Outcome State Fault Refusal :=
  eventAwake t (fun s => s.dramTapStep ch) s

end Sys2Proof.Machine
end

