-- ==== Sys2Proof/Machine/Jobs.lean ====
section
/-! DEFINITION. Jobs, stream rings, issuing of lines, the line generator's tick and the speed request
(05_line_placement.md R113 to R130; 06_jobs_raster.md). -/

namespace Sys2Proof.Machine

/-! ### Definitions (R132 to R134, R138) -/

/-- The binding at parameter offset 16 + 64 p, relative to offset 16 (R133). -/
def bindingAt (b : List Byte) (p : Nat) : Binding :=
  let r := (b.drop (64 * p)).take 64
  let src := u8 r 0
  { baseEn := bit src 0, use := bits src 1 2, x600 := bit src 3, y600 := bit src 4, upscale := bit src 5,
    repeatLines := u32 r 4, baseAddr := u64 r 8, width := u32 r 16, stride := u32 r 20, xOrigin := u32 r 24,
    lowWm := u32 r 28, ringAddr := u64 r 32, ringRows := u32 r 40 }

/-- An area in general DRAM. -/
def inGeneral (a n : Nat) : Bool := decide (a + n ≤ protBase)

/-- Bytes of a binding's ring and of its base. -/
def Binding.ringBytes (b : Binding) : Nat := b.ringRows * b.stride
def Binding.baseBytes (b : Binding) : Nat := b.rows * b.stride

/-- The raw binding keeps its table (R133). -/
def bindingOk (b : List Byte) (p : Nat) : Bool :=
  let r := (b.drop (64 * p)).take 64
  let x := bindingAt b p
  bits (u8 r 0) 6 2 == 0 && !(x.use == 2 && x.baseEn) && x.use != 3 && zerosAt r 44 20 && zerosAt r 1 3 &&
    decide (1 ≤ x.repeatLines ∧ (x.y600 = true → x.repeatLines % 2 = 0)) &&
    decide (1 ≤ x.width ∧ x.width ≤ (if x.x600 then 196608 else 393216)) &&
    decide (x.stride % 256 = 0 ∧ x.width ≤ x.stride ∧ x.stride ≤ 0x1000000 ∧ x.xOrigin ≤ 393215) &&
    (!x.baseEn || (x.baseAddr % 256 == 0 && inGeneral x.baseAddr x.baseBytes)) &&
    decide (256 ≤ x.ringRows ∧ x.ringRows ≤ 0x1000000) &&
    (x.use == 0 || (x.ringAddr % 256 == 0 && inDram x.ringAddr x.ringBytes))

/-- A ring touches the protected window (R134). -/
def ringProtected (b : List Byte) (p : Nat) : Bool :=
  let x := bindingAt b p
  x.use != 0 && touchesProt x.ringAddr x.ringBytes

/-- The bindings of a job that is running or queued, with their planes. -/
def State.liveBindings (s : State) : List (Nat × Binding) :=
  ((s.job.running.toList ++ s.job.queued.toList).flatMap (fun j =>
    j.planeList.filterMap (fun p => (j.binding p).map (fun b => (p, b)))))

/-- A running or queued job binds a ring on the plane. (Mark: DEDUCED, log 175) -/
def State.ringBound (s : State) (p : Nat) : Bool := s.liveBindings.any (fun x => x.1 == p && x.2.use != 0)

/-- Two byte ranges overlap. -/
def rangesMeet (a n b m : Nat) : Bool := decide (a < b + m ∧ b < a + n)

/-- A new ring meets the rules of R134 and R138 against the jobs that are running or queued. -/
def State.ringOk (s : State) (p : Nat) (b : Binding) : Bool :=
  b.use == 0 ||
  (s.liveBindings.all (fun x => x.1 == p || x.2.use == 0 ||
      !rangesMeet b.ringAddr b.ringBytes x.2.ringAddr x.2.ringBytes) &&
    s.liveBindings.all (fun x => x.1 != p || x.2.use == 0 ||
      (x.2.ringAddr == b.ringAddr && x.2.ringRows == b.ringRows && x.2.stride == b.stride)))

/-- JOB_DEFINE (R132 to R134, R138): every ST_BAD_PARAM comes before ST_PROTECTED (R67). (Mark: DEDUCED, log 172) -/
def cmdJobDefine (id mask endMode endValue : Nat) (bindings : List Byte) (s : State) : Res :=
  let ps := (List.range 4).filter (bit mask)
  let reps := ps.map (fun p => (bindingAt bindings p).repeatLines)
  if s.standby then Res.err stNotOwner s
  else if mask = 0 ∨ 16 ≤ mask ∨ 2 < endMode ∨ (endMode < 2 ∧ endValue = 0) ∨ !ps.all (bindingOk bindings) ∨
      reps.any (fun r => r != reps.headD 0) ∨ !ps.all (fun p => s.ringOk p (bindingAt bindings p)) then
    Res.err stBadParam s
  else if ps.any (ringProtected bindings) then Res.err stProtected s
  else if (match s.job.running with | some j => j.id == id | none => false) ||
      (match s.job.queued with | some j => j.id == id | none => false) then Res.err stBadState s
  else
    let d : JobDef := ⟨mask, endMode, endValue,
      (List.range 4).map (fun p => if bit mask p then some (bindingAt bindings p) else none)⟩
    let s := ps.foldl (fun s p =>
      if (bindingAt bindings p).use = 0 ∨ s.ringBound p then s
      else s.modRing p (fun r => { r with committed := 0, consumed := 0 })) s
    Res.ok { s with job := { s.job with defs := modAt (fun _ => some d) id s.job.defs } }

/-! ### Rings (R139 to R144) -/

/-- The binding that a plane's ring state serves: the running job's, else the queued one's.
(Mark: DEDUCED, log 175) -/
def State.ringBinding (s : State) (p : Nat) : Option Binding :=
  (s.liveBindings.find? (fun x => x.1 == p && x.2.use != 0)).map (·.2)

/-- LEVEL in output lines (R141). -/
def State.ringLevel (s : State) (p : Nat) : Nat :=
  let r := s.ring p
  (r.committed - r.consumed) * (match s.ringBinding p with | some b => if b.y600 then 2 else 1 | none => 1)

/-- Show BOUND and LOW. -/
def State.showRing (s : State) (p : Nat) : State :=
  let low := match s.ringBinding p with | some b => decide (s.ringLevel p < b.lowWm) | none => false
  (s.setB (Reg.JOB_RING_STATUS_BOUND p) (s.ringBound p)).setB (Reg.JOB_RING_STATUS_LOW p) low

def State.showRings (s : State) : State := (List.range 4).foldl State.showRing s

/-- Rows that a commit at a write offset adds, by the geometry of the ring's binding (R139). -/
def commitRows (b : Binding) (r : Ring) (w : Nat) : Nat :=
  (w / b.stride + b.ringRows - r.committed % b.ringRows) % b.ringRows

/-- STREAM_COMMIT (R139, R144). -/
def cmdStreamCommit (p w : Nat) (s : State) : Res :=
  let r := s.ring p
  if s.standby then Res.err stNotOwner s
  else match s.ringBinding p with
  | none => Res.err stBadState s
  | some b =>
    let n := commitRows b r w
    if w % b.stride ≠ 0 ∨ b.ringRows ≤ w / b.stride ∨ b.ringRows - 1 + r.consumed < r.committed + n then
      Res.err stBadParam s
    else
      let s := s.modRing p (fun r => { r with committed := r.committed + n })
      let lv := s.ringLevel p
      let s := if lv < b.lowWm then s else s.modRing p (fun r => { r with lowRaised := false })
      Res.okData (leBytes 4 (min lv (2 ^ 32 - 1))) (s.showRing p)

/-- EVT_STREAM_LOW after a fetch (R144). -/
def State.streamLow (s : State) (p : Nat) (b : Binding) : State :=
  let lv := s.ringLevel p
  let s := s.showRing p
  if b.lowWm = 0 ∨ b.lowWm ≤ lv ∨ (s.ring p).lowRaised then s
  else (s.modRing p (fun r => { r with lowRaised := true })).raise evStreamLow 0 (leBytes 4 p ++ leBytes 4 (min lv (2 ^ 32 - 1)))

/-! ### Starting and stopping -/

/-- P0 bytes per output line of a plane, in halves (R32). -/
def State.p0Halves (s : State) (p : Nat) (b : Binding) : Nat :=
  let per := fun (n : Nat) => if b.y600 then n else 2 * n
  let g := s.getA
  (if b.baseEn then per b.width else 0) +
  (if b.use = 2 then per b.width else 0) +
  (if g (Reg.COMPOSE_PL_VAR_CTRL_ENABLE p) = 1 then
    (if b.use = 1 then per b.width else 2 * g (Reg.COMPOSE_PL_VAR_WIDTH p)) else 0) +
  (if g (Reg.COMPOSE_PL_OVL_CTRL_ENABLE p) = 1 then 4 * g (Reg.COMPOSE_PL_OVL_WIDTH p) else 0) +
  (if g (Reg.COMPOSE_PL_KITE_CTRL_ENABLE p) = 1 then 4 * g (Reg.COMPOSE_PL_KITE_SIZE_WIDTH p) else 0) +
  (if s.protShown p then 2 * s.positions p else 0)

/-- The lead of a job in counts (R128). -/
def State.leadOf (s : State) (ps : List Nat) : Nat :=
  ps.foldl (fun m p =>
    let x := ((s.lookahead p + 1) * 256 + (-(s.offMin p)).toNat) * s.cpl p
    max m ((x + 2 ^ 40 - 1) / 2 ^ 40)) 0

/-- The next repeat boundary of the running job (R146). -/
def JobRun.nextBoundary (j : JobRun) : Nat :=
  let rep := j.defn.repeatLines
  ((j.plane j.lead).next + rep - 1) / rep * rep

/-- Checks 3 and 4 of R145 on a plane; `strobe` is the condition of R214. -/
def State.planeStartOk (s : State) (p : Nat) : Bool :=
  let r := s.profile p
  s.geometryOk p && s.sharesFit p && (s.plane p).map.all (fun q =>
    (List.range (pFireCount r)).all (fun i => decide (pFireW r i < s.get (Reg.HEADPORT_GRP_STB_MAX (q / 12)))))

/-- The plane whose lines count repeats: the largest DELAY, then the lowest number (R151). -/
def State.lagPlane (s : State) : List Nat → Nat
  | [] => 0
  | p :: l => l.foldl (fun b q => if s.get (Reg.LINEGEN_PL_DELAY b) < s.get (Reg.LINEGEN_PL_DELAY q) then q else b) p

/-- A new job instance with its H at the present positions (R128). -/
def State.newJob (s : State) (id arm source : Nat) (d : JobDef) : JobRun :=
  let ps := (List.range 4).filter (bit d.planeMask)
  { seq := s.job.nextSeq, id := id, defn := d, arm := arm, source := source, start := none, started := false,
    takeAt := none, enc := s.encOf (ps.headD 0), cpl := s.cpl (ps.headD 0), lead := s.leadPlane ps, lag := s.lagPlane ps,
    stopAt := if d.endMode = 0 then some d.endValue else if d.endMode = 1 then some (d.endValue * d.repeatLines) else none,
    stopCause := if d.endMode = 1 then 1 else 0,
    p0Num := 0, p0Den := 2,
    planes := (List.range 4).map (fun p => ⟨s.webPos p, 0, false, false, 0, 0, 0⟩) }

/-- The line at which a running job gives way to one armed at a position: the first whose position, without DELAY, is at or
after it (R130). -/
def JobRun.lineAt (r : JobRun) (position : Int) : Option Nat :=
  r.start.map (fun st => Int.toNat ((position * 2 ^ 32 - st + r.cpl - 1) / (r.cpl : Int)))

/-- S of a job that takes over at line `b` of the running one (R128, R146). -/
def JobRun.startAt (r : JobRun) (b : Nat) : Option Int := r.start.map (· + ((b * r.cpl : Nat) : Int))

/-- The line at which an ARM 3 job takes over: the next repeat boundary, or the end before it (R146, R147). -/
def JobRun.boundary (r : JobRun) : Nat :=
  match r.stopAt with | some n => min n r.nextBoundary | none => r.nextBoundary

/-- JOB_START (R127, R128, R145). (Mark: DEDUCED, log 132) -/
def cmdJobStart (id arm source : Nat) (position : Int) (s : State) : Res :=
  if s.standby then Res.err stNotOwner s
  else match s.job.defs.getD id none with
  | none => Res.err stBadParam s
  | some d =>
    let ps := (List.range 4).filter (bit d.planeMask)
    let e := s.encOf (ps.headD 0)
    let cpl := s.cpl (ps.headD 0)
    let running := s.job.running
    if (match running with | some j => j.id == id | none => false) || ((arm == 0 || arm == 2) && running.isSome) ||
        (arm == 3 && running.isNone) || s.job.queued.isSome then Res.err stBadState s
    else if !ps.all s.mapped then Res.err stBadState s
    else if ps.any (fun p => s.encOf p != e || s.cpl p != cpl ||
          s.get (Reg.LINEGEN_PL_CONFIG_PITCH p) != s.get (Reg.LINEGEN_PL_CONFIG_PITCH (ps.headD 0))) ||
        (arm == 1 && source != e) || (arm == 2 && decide (7 < source)) || !ps.all s.planeStartOk then Res.err stBadParam s
    else if !s.encValid e then Res.err stBadState s
    else
      let c := (s.enc e).count
      let lead : Int := s.leadOf ps
      if arm = 1 ∧ position - c < lead then Res.err stPositionPassed s
      else
        let j := s.newJob id arm source d
        let s := { s with job := { s.job with nextSeq := s.job.nextSeq + 1 } }
        let (j, s) :=
          if arm = 0 then ({ j with start := some ((c + lead) * 2 ^ 32) }, s)
          else if arm = 1 then
            ({ j with start := some (position * 2 ^ 32) },
              s.modRunning (fun r => { r with takeAt := r.lineAt position }))
          else if arm = 3 then
            match running with
            | some r =>
              ({ j with start := r.startAt r.boundary }, s.modRunning (fun r => { r with takeAt := some r.boundary }))
            | none => (j, s)
          else (j, s)
        Res.ok ({ s with job := { s.job with queued := some j } }.showJobs.showRings)

/-- The latch of the armed switch sets S, or the mark is refused as late (R128, R129). -/
def State.armLatch (s : State) (sw : Nat) (latched : Int) : State :=
  match s.job.queued with
  | none => s
  | some j =>
    if j.arm ≠ 2 ∨ j.source ≠ sw ∨ j.start.isSome then s
    else
      let off := sgn 64 (s.get Reg.LINEGEN_MARK_OFFSET_LO + 2 ^ 32 * s.get Reg.LINEGEN_MARK_OFFSET_HI)
      let at_ := latched + off
      if at_ - (s.enc j.enc).count < (s.leadOf j.planeList : Int) then s.incSat Reg.LINEGEN_ARM_STATUS_MARKS_LATE 1
      else s.modQueued (fun j => { j with
        start := some (at_ * 2 ^ 32),
        planes := (List.range 4).map (fun p => { j.plane p with hwm := s.webPos p }) })

/-- A lower end for a job: a queued job with ARM 3 then takes over there (R147, R149). -/
def State.lowerEnd (s : State) (n cause : Nat) : State :=
  match s.job.running with
  | none => s
  | some j =>
    let lower := match j.stopAt with | some m => decide (n ≤ m) | none => true
    if !lower then s
    else
      let s := s.modRunning (fun j => { j with stopAt := some n, stopCause := cause })
      match s.job.queued, j.takeAt with
      | some q, some b =>
        if q.arm = 3 ∧ n < b then
          (s.modRunning (fun j => { j with takeAt := some n })).modQueued (fun q => { q with start := j.startAt n })
        else s
      | _, _ => s

/-- Drop the queued job. The running job no longer gives way; where the dropped job has issued lines, which fire, the running
job ends at the line at which they took over. (Mark: DEDUCED, log 36) -/
def State.dropQueued (s : State) : State :=
  match s.job.queued with
  | none => s
  | some q =>
    let s := { s with job := { s.job with queued := none } }
    let s := s.modRunning (fun j => if q.started then { j with stopAt := j.limit, stopCause := 2 } else j)
    s.modRunning (fun j => { j with takeAt := none })

/-- Planes that have stopped printing since `was` was told of them (R505). (Mark: DEDUCED, log 170) -/
def State.planesStop (s : State) (was : List Nat) : State := (was.foldl State.planeStops s).showJobs.showRings

/-- Planes that print. -/
def State.printing (s : State) : List Nat := (List.range 4).filter s.prints

/-- JOB_STOP (R149). (Mark: DEDUCED, log 36) -/
def cmdJobStop (when_ drop : Nat) (s : State) : Res :=
  if s.standby then Res.err stNotOwner s
  else
    let queued := s.job.queued.isSome
    match s.job.running with
    | none => if drop = 1 ∧ queued then Res.ok (s.dropQueued.planesStop s.printing) else Res.err stBadState s
    | some j =>
      let n := if when_ = 0 then (j.plane j.lead).next else j.nextBoundary
      Res.ok (((if drop = 1 then s.dropQueued else s).lowerEnd n 2).planesStop s.printing)

/-- REPEATS_DONE (R151). -/
def JobRun.repeatsDone (j : JobRun) : Nat := (j.plane j.lag).done / j.defn.repeatLines

/-- JOB_STATUS (R151). -/
def cmdJobStatus (s : State) : Res :=
  let j := s.job.running.orElse (fun _ => s.job.last)
  let id := match s.job.running with | some j => j.id | none => 0xFF
  let qid := match s.job.queued with | some j => j.id | none => 0xFF
  let reps := match j with | some j => j.repeatsDone | none => 0
  let idx := (List.range 4).map (fun p => match j with
    | some j => if j.has p then (j.plane p).next else 0
    | none => 0)
  let und := (List.range 4).map (fun p => match j with | some j => (j.plane p).underrun | none => 0)
  Res.okData (leBytes 1 id ++ leBytes 1 qid ++ leBytes 6 0 ++ leBytes 8 reps ++ (idx.map (leBytes 8)).flatten ++
    (und.map (leBytes 4)).flatten) s

/-- CLIPPED at the start of a job on a plane whose locked layer has a column past N − 1 (R163). -/
def State.clipCheck (s : State) (p : Nat) : State :=
  if s.flag (Reg.COMPOSE_PL_PROT_STATUS_LOCKED p) &&
      (s.rects p).any (fun r => decide (s.positions p < r.x + r.width)) then
    s.setB (Reg.COMPOSE_PL_PROT_STATUS_CLIPPED p) true
  else s

/-- A job starts: its planes print from now on, and CLIPPED is judged (R505, R163). -/
def State.begin (s : State) (j : JobRun) : State :=
  if j.started then s
  else j.planeList.foldl State.clipCheck (s.modJob j.seq (fun j => { j with started := true }))

/-- A job on a plane as the camera sees it (R247). -/
def State.viewOf (s : State) (p : Nat) (j : JobRun) : JobView :=
  ⟨j.seq, j.start.getD 0, s.cpl p, s.get (Reg.LINEGEN_PL_DELAY p), j.defn.repeatLines, (j.plane p).next⟩

/-- The lines of a job that has ended still pass the camera (R247, R250). -/
def State.keepView (s : State) (j : JobRun) (p : Nat) : State :=
  if (j.plane p).next = 0 then s else s.modLoop p (fun x => { x with past := x.past ++ [s.viewOf p j] })

/-- EVT_JOB_END, and the job leaves (R148). (Mark: DEDUCED, log 30) -/
def State.endJob (s : State) (j : JobRun) (cause : Nat) (pos : Int) : State :=
  let s := { s with job := { s.job with running := none, last := some j } }
  let s := j.planeList.foldl (fun s p => s.keepView j p) s
  let s := s.raise evJobEnd 0 (leBytes 1 j.id ++ leBytes 1 cause ++ leBytes 6 0 ++ leInt 8 pos)
  s.planesStop j.planeList

/-- EVT_JOB_START (R128), and the P0 bytes per line of the job (R32); the job's ports start afresh unless it takes over from
another (R197). (Mark: DEDUCED, log 38) -/
def State.jobStarts (s : State) (fresh : Bool) : State :=
  match s.job.queued with
  | none => s
  | some j =>
    let p0 := (j.planeList.map (fun p => match j.binding p with | some b => s.p0Halves p b | none => 0)).sum
    let s := s.begin j
    let s := { s with job := { s.job with running := s.job.queued.map (fun (j : JobRun) => { j with p0Num := p0 }), queued := none } }
    let s := { s with time := { s.time with fireInhibit := s.time.fireInhibit && s.flag Reg.SYS_CLK_STATUS_LOST } }
    let s := if fresh then j.planeList.foldl (fun s p => (s.plane p).map.foldl State.freshPort s) s else s
    let s := s.raise evJobStart 0 (leBytes 8 j.id ++ leInt 8 (match j.start with | some x => sar x 32 | none => 0))
    s.showJobs.showRings

/-- The firing position of the last issued line of a plane at the head that it reaches last (R150). -/
def State.lastPos (s : State) (p : Nat) : Option Int :=
  let far := fun (l : Line) => (List.range l.heads.length).foldl (fun m h => max m (l.firePos h)) (l.firePos 0)
  match (s.plane p).lines.getLast? with
  | some l => some (far l)
  | none => s.job.running.bind (fun j =>
      let n := (j.plane p).next
      if !j.has p || n == 0 then none
      else some ((s.offsets p).foldl (fun m o => max m (s.ref p (j.start.getD 0) (n - 1) + o * s.cpl p * 2 ^ 24))
        (s.ref p (j.start.getD 0) (n - 1) + (s.offsets p).headD 0 * s.cpl p * 2 ^ 24)))

/-- A plane at a fault that stops its job: issued lines are missed with CAUSE 6, and DEFECT_MARK is asserted from now on until
the web has passed the last issued line, and for MIN_US at least (R150). -/
def State.planeFault (s : State) (p : Nat) : State :=
  if !s.prints p then s
  else
    let far := s.lastPos p
    let a := s.lineAhead p
    let s := (s.plane p).lines.foldl (fun s l => (List.range l.heads.length).foldl (fun s h =>
      s.missHead p l.seq l.k h 6 s.now) s) s
    let s := (s.settled p).mark p a.1 a.2 s.now
    s.modPlane p (fun x => { x with marks := marksTo (far.getD (s.webPos p - 1)) x.marks })

/-- A job is stopped at once by a fault: its lines are missed with CAUSE 6, and the queued job is dropped (R150).
(Mark: DEDUCED, log 36) -/
def State.faultStop (s : State) : State :=
  match s.job.running with
  | none => s
  | some j =>
    let was := s.printing
    let s := (List.range 4).foldl State.planeFault s
    let s := { s with job := { s.job with queued := none } }
    (s.endJob (s.job.running.getD j) 3 (s.enc j.enc).count).planesStop was

/-! ### Issue (R113, R137, R142 to R147) -/

/-- The job from which a plane's next line comes: the running one below its limit, else the queued one that takes over
(R147). (Mark: DEDUCED, log 35) -/
def State.issueJob (s : State) (p : Nat) : Option JobRun :=
  let fromQueued := match s.job.running, s.job.queued with
    | some r, some q =>
      if q.has p ∧ q.start.isSome ∧ r.takeAt.isSome ∧
        (!r.has p || match r.takeAt with | some n => decide (n ≤ (r.plane p).next) | none => false) then some q else none
    | _, _ => none
  match s.job.running with
  | some r => if r.has p ∧ r.below (r.plane p).next then some r else fromQueued
  | none => none

/-- A line has room in the FIFO of every head of the plane (R8). (Mark: DEDUCED, log 42) -/
def State.issueRoom (s : State) (p : Nat) : Bool :=
  (List.range (s.heads' p)).all (fun h => decide (s.fifoBytes p h + pLineBytes (s.profile p) ≤ 32768))

/-- The plane's next line may be issued (R113). (Mark: DEDUCED, log 42) -/
def State.mayIssue (s : State) (p : Nat) : Option JobRun :=
  match s.issueJob p with
  | none => none
  | some j =>
    match j.start with
    | none => none
    | some st =>
      let x := j.plane p
      if s.encValid (s.encOf p) ∧ !s.flag (Reg.LINEGEN_PL_STATUS_HALTED p) ∧ !x.reversed ∧ j.below x.next ∧
          s.issuePos p st x.next ≤ x.hwm ∧ s.issueRoom p then some j else none

/-- Ring rows that a line needs (R142). (Mark: DEDUCED, log 35; DEDUCED, log 176) -/
def ringRowsOf (b : Binding) (k base : Nat) (last : Bool) : List Nat :=
  let j := base + b.rowOf k
  if b.twoRows k ∧ !last then [j, j + 1] else [j]

/-- The line as issued: every head waits for its data. -/
def State.newLine (s : State) (p : Nat) (j : JobRun) (k : Nat) (last under : Bool) (levels : List (List Nat)) : Line :=
  let r := s.profile p
  { seq := j.seq, k := k, row := firingRow (pRows r) k, issuedAt := s.now, last := last,
    ref := s.ref p (j.start.getD 0) k, offs := s.offsets p, cpl := s.cpl p, under := under, late := false,
    isOver := false, cause := none, levels := levels,
    heads := List.replicate (s.heads' p) { HeadLine.init with ready := under }, settled := false }

/-- Consume ring rows behind a line (R141). (Mark: DEDUCED, log 35; DEDUCED, log 177) -/
def State.consumeRing (s : State) (p : Nat) (b : Binding) (k base : Nat) (last : Bool) : State :=
  let q := if b.y600 then base + (k + 1) / 2 + (if last ∧ k % 2 = 0 then 1 else 0) else base + k + 1
  s.modRing p (fun r => { r with consumed := max r.consumed q })

/-- An underrun line (R142). (Mark: DEDUCED, log 37) -/
def State.underrun (s : State) (p : Nat) (j : JobRun) (k : Nat) : State :=
  let s := (s.incSat (Reg.JOB_RING_UNDERRUN p) 1).setB (Reg.JOB_RING_STATUS_UNDERRUN_SEEN p) true
  let s := s.modJob j.seq (·.modPlane p (fun x => { x with underrun := min (x.underrun + 1) (2 ^ 32 - 1) }))
  s.raiseLimited evUnderrun p 1 (leBytes 8 p ++ leBytes 8 k)

/-- The raster fetch of a line, its composition and halftoning: errors are logged with the plane, the line and its web
position, and uncorrectable blocks read as zeros (R137, R277). (Mark: DEDUCED, log 37) -/
def State.produce (s : State) (p : Nat) (b : Binding) (k base : Nat) (last : Bool) (ref : Int) :
    State × List (List Nat) × Bool :=
  let x := s.stack p b k base last
  let n := s.positions p
  let rs := x.ranges n
  let bad := (rs.flatMap (fun r => s.badBlocks r.1 r.2)).eraseDups
  let rd := fun (a : Nat) => if blockOf a ∈ bad then 0 else (s.byteAt a).toNat
  let d := (List.range n).map (x.compose rd)
  let levels := s.halftone p k d
  let s := rs.foldl (fun s r => s.meetCes r.1 r.2) s
  let s := bad.foldl (fun s a => s.meetUe a 0 p (low 32 k) (intPart ref)) s
  (s.used, levels, !bad.isEmpty)

/-- What the loops keep of an issued line: the count, and WAIT_p when the line is the first to use a change (R242,
R244). -/
def State.loopIssue (s : State) (p : Nat) (ref : Int) : State :=
  s.modLoop p (fun x =>
    let x := { x with issued := x.issued + 1 }
    if x.waitDue then { x with wait := ref + s.get (Reg.MEASURE_PL_CAM_DIST p), waitDue := false } else x)

/-- Issue the next line of a plane for a job; the Boolean says that its fetch met an uncorrectable block (R277).
(Mark: DEDUCED, log 54) -/
def State.issue (s : State) (p : Nat) (j : JobRun) (b : Binding) : State × Bool :=
  let k := (j.plane p).next
  let rep := k % b.repeatLines == 0
  let last := !j.below (k + 1)
  let s := (s.begin j).showJobs
  let s := (s.lineFlips p rep).tableFlips p k rep
  let s := s.modPlane p (fun x => { x with alongUse := x.along })
  let s := s.loopIssue p (intPart (s.ref p (j.start.getD 0) k))
  let s := if k = 0 then s.modJob j.seq (·.modPlane p (fun x => { x with ringBase := (s.ring p).consumed })) else s
  let s := if rep then s.startPass p (k / b.repeatLines) else s
  let base := if k = 0 then (s.ring p).consumed else (j.plane p).ringBase
  let under := b.use != 0 && (ringRowsOf b k base last).any (fun r => decide ((s.ring p).committed ≤ r))
  let ref := s.ref p (j.start.getD 0) k
  let (s, levels, ue) := if under then (s.underrun p j k, [], false) else s.produce p b k base last ref
  let s := s.modPlane p (fun x => { x with lines := x.lines ++ [s.newLine p j k last under levels] })
  let s := s.modJob j.seq (·.modPlane p (fun x => { x with next := k + 1 }))
  let s := if p = j.lead then { s with pair := { s.pair with ckptLines := s.pair.ckptLines + 1 } } else s
  (if b.use = 0 then s else (s.consumeRing p b k base last).streamLow p b, ue)

/-- LINE_ISSUE's effect (R113). A line issued at the first tick after a re-reference that lies behind the web is missed
(R122). -/
def State.lineIssue (s : State) (p : Nat) : State × Bool :=
  match s.mayIssue p with
  | none => (s, false)
  | some j => match j.binding p with
    | none => (s, false)
    | some b =>
      let r := s.issue p j b
      (if (s.plane p).refTick = some s.now then r.1.dropPassed p else r.1, r.2)

/-- A line's data reach a head port's FIFO, or are discarded where the line has used its slot there (R8, R10). -/
def State.toFifo (s : State) (q : Nat) : State :=
  match s.headOf q with
  | none => s
  | some (p, h) =>
    match (s.plane p).lines.find? (fun l => !(l.head h).ready) with
    | none => s
    | some l =>
      if !(l.head h).slot ∧ 32768 < s.fifoBytes p h + pLineBytes (s.profile p) then s
      else (s.modLine p l.seq l.k (·.modHead h (fun x => { x with ready := true }))).forget p

/-! ### The tick (R113 to R116, R128) -/

/-- The reversed state and the high-water mark of a plane at a tick (R113, R114). -/
def stepHwm (x wobble : Int) (j : JobPlane) : JobPlane :=
  if j.reversed then (if j.hwm < x then { j with reversed := false, hwm := x } else j)
  else if x < j.hwm - wobble * 2 ^ 64 then { j with reversed := true }
  else { j with hwm := max j.hwm x }

/-- REVERSED as shown: of the job that prints on the plane. (Mark: DEDUCED, log 55) -/
def State.reversedNow (s : State) (p : Nat) : Bool :=
  (match s.job.running with | some j => j.has p && j.started && (j.plane p).reversed | none => false) ||
  (match s.job.queued with | some j => j.has p && j.started && (j.plane p).reversed | none => false)

/-- A plane of a job at a tick: lines behind the web after a re-reference, then H and the reversed state, with
EVT_REVERSAL for the first plane of its encoder (R114, R115, R122). (Mark: DEDUCED, log 34) -/
def State.planeTick (s : State) (seq : Nat) (started : Bool) (p : Nat) (x : JobPlane) : State :=
  let s := if x.afterRef then (s.dropPassed p).modPlane p (fun z => { z with refTick := some s.now }) else s
  let y := stepHwm (s.webPos p) (s.get (Reg.LINEGEN_PL_CONFIG_WOBBLE p)) { x with afterRef := false }
  let first := !((List.range 4).any (fun q => s.encOf q == s.encOf p && s.flag (Reg.LINEGEN_PL_STATUS_REVERSED q)))
  let s := s.modJob seq (·.modPlane p (fun z => { z with hwm := y.hwm, reversed := y.reversed, afterRef := false }))
  let s := s.setB (Reg.LINEGEN_PL_STATUS_REVERSED p) (s.reversedNow p)
  if started ∧ y.reversed ∧ !x.reversed ∧ first then
    s.raise evReversal 0 (leBytes 8 (s.encOf p) ++ leInt 8 (intPart x.hwm))
  else s

/-- The planes of a job at a tick. -/
def State.jobTick (s : State) (j : Option JobRun) : State :=
  match j with
  | none => s
  | some j => j.planeList.foldl (fun s p => s.planeTick j.seq j.started p (j.plane p)) s

/-- A queued job with no other running starts when the issue point of its earliest plane is crossed (R128). -/
def State.startTick (s : State) : State :=
  match s.job.running, s.job.queued with
  | none, some j =>
    match j.start with
    | none => s
    | some st =>
      if j.planeList.any (fun p => s.encValid (s.encOf p) && !(j.plane p).reversed &&
          decide (s.issuePos p st 0 ≤ (j.plane p).hwm)) then s.jobStarts true else s
  | _, _ => s

/-- Commit the lines of every printing plane that is not reversed and whose encoder is valid (R116).
(Mark: DEDUCED, log 54) -/
def State.commitTick (s : State) : State :=
  (List.range 4).foldl (fun s p =>
    if s.prints p ∧ s.encValid (s.encOf p) ∧ !s.flag (Reg.LINEGEN_PL_STATUS_REVERSED p) then
      s.commitPlane p else s) s

/-! ### The speed request (R123 to R126, R21) -/

/-- Reference factor of a plane: 2 at 1/600 in (R123). -/
def State.refFactor (s : State) (p : Nat) : Nat := if s.flag (Reg.LINEGEN_PL_CONFIG_PITCH p) then 2 else 1

/-- The lower of two fractions of positive denominators. -/
def minFrac (a b : Nat × Nat) : Nat × Nat := if a.1 * b.2 ≤ b.1 * a.2 then a else b

/-- The maximum line rate f_max, as a fraction in lines per second (R21). -/
def State.maxRate (s : State) : Nat × Nat :=
  let ps := s.printing
  let prof := ps.foldl (fun m p => min m (min 160000 (pMaxRate (s.profile p) * pRows (s.profile p)))) 160000
  let n := (ps.map s.positions).sum
  let pace := s.power.paceHist.foldl (fun m x => match m with | none => some x | some y => some (min x y)) (none : Option Nat)
  let caps := (match pace with | some x => if n = 0 then [] else [(x, n)] | none => []) ++
    (match s.job.running with
      | some j => if j.p0Num = 0 then [] else [(96000000000 * j.p0Den, j.p0Num)]
      | none => [])
  caps.foldl minFrac (prof, 1)

/-- The overspeed term, as a fraction of a positive denominator (R124). -/
def State.overspeedTerm (s : State) : Nat × Nat :=
  let ps := s.printing
  if ps.isEmpty then (1, 1)
  else
    let eMin := ps.foldl (fun m p => min m (s.refFactor p)) 2
    let fm := s.maxRate
    let lim : Nat × Nat := (fm.1 * eMin * 1000, fm.2 * (1000 + s.get Reg.LINEGEN_WSPD_CTRL_MARGIN))
    let static := minFrac (1, 1) (lim.1, lim.2 * max 1 (s.get Reg.LINEGEN_WSPD_NOMINAL))
    let pred := ps.foldl (fun (m : Nat × Nat) p =>
      let e := s.enc (s.encOf p)
      let f : Nat × Nat := (((e.v + 1000 * e.a) * 100000 * s.refFactor p).toNat, 2 ^ 32 * s.cpl p)
      if m.1 * f.2 < f.1 * m.2 then f else m) (0, 1)
    if lim.1 * pred.2 < pred.1 * lim.2 then
      minFrac static (s.get Reg.LINEGEN_WSPD_DUTY_DUTY * lim.1 * pred.2, 4000 * lim.2 * pred.1)
    else static

/-- The stream term, as a fraction of a positive denominator (R125). (Mark: DEDUCED, log 175) -/
def State.streamTerm (s : State) : Nat × Nat :=
  s.printing.foldl (fun m p =>
    if s.ringBound p then minFrac m (s.ringLevel p, max 1 (s.get Reg.LINEGEN_WSPD_HIGH_WM)) else m) (1, 1)

/-- A term in units of 1/4,000, rounded down. -/
def termFloor (x : Nat × Nat) : Nat := 4000 * x.1 / x.2

/-- The terms of a tick. (Mark: DEDUCED, log 47) -/
def State.wspdTerms (s : State) : State :=
  let st := s.streamTerm
  let ov := s.overspeedTerm
  let s := (s.set Reg.LINEGEN_WSPD_TERMS_STREAM (termFloor st)).set Reg.LINEGEN_WSPD_TERMS_OVERSPEED (termFloor ov)
  { s with line := { s.line with wspdStream := st, wspdOverspeed := ov } }

/-- The start of a WSPD period: while ENABLE is 1, DUTY falls at once and rises by WSPD_RISE at most; while it is 0 the
duty is FIXED_DUTY, and 0 before ENABLE is first set; the standby drives 4,000 (R123, R126, R409).
(Mark: DEDUCED, log 47) -/
def State.wspdPeriod (s : State) : State :=
  let th : Nat × Nat := (s.get Reg.LINEGEN_WSPD_THERMAL, 4000)
  let m := minFrac s.line.wspdStream (minFrac s.line.wspdOverspeed th)
  let want := termFloor m
  let prev := s.get Reg.LINEGEN_WSPD_DUTY_DUTY
  let rise := if want ≤ prev then want else min want (prev + max 1 (s.get Reg.LINEGEN_WSPD_RISE))
  let names := if m.2 ≤ m.1 then 0 else if m = s.line.wspdStream then 1 else if m = s.line.wspdOverspeed then 2 else 3
  let x := if s.standby then (4000, 0)
    else if s.flag Reg.LINEGEN_WSPD_CTRL_ENABLE then (rise, names)
    else if !s.line.wspdSeen then (0, 0)
    else (min 4000 (s.get Reg.LINEGEN_WSPD_CTRL_FIXED_DUTY), 0)
  let s := (s.set Reg.LINEGEN_WSPD_DUTY_DUTY x.1).set Reg.LINEGEN_WSPD_DUTY_LIMIT x.2
  { s with line := { s.line with wspdDuty := x.1 } }

/-- Tables whose flip is no longer held flip on planes that do not print (R180). (Mark: DEDUCED, log 173) -/
def State.freeFlips (s : State) : State :=
  (List.range 4).foldl (fun s p => if s.prints p then s else s.idleFlips p) s

/-- One tick (R92, R113 to R116): observers, planes, the start of a job, commits, and the terms of the speed request. -/
def State.tick (s : State) : State :=
  let s := (List.range 4).foldl State.encTick s
  let s := s.jobTick s.job.running
  let s := s.jobTick s.job.queued
  s.freeFlips.startTick.commitTick.wspdTerms

/-! ### Ends (R147, R148, R120) -/

/-- Every plane of a job has fired or missed its last line. -/
def State.jobDone (s : State) (j : JobRun) : Bool :=
  j.limit.isSome && j.planeList.all (fun p => !j.below (j.plane p).next &&
    (s.plane p).lines.all (fun l => l.settled || l.seq != j.seq))

/-- The running job's takeover line comes at or before its end. (Mark: DEDUCED, log 32) -/
def JobRun.takesOver (j : JobRun) : Bool :=
  match j.takeAt, j.stopAt with | some a, some b => decide (a ≤ b) | some _, none => true | none, _ => false

/-- floor(S + k × CPL) of a job. (Mark: DEDUCED, log 32) -/
def JobRun.endPos (j : JobRun) (k : Nat) : Int := sar ((j.startAt k).getD 0) 32

/-- CAUSE of a job that gives way: 0, but that of its end line where an ARM 3 job takes over at an end before the repeat
boundary (R147, R149). (Mark: DEDUCED, log 32) -/
def JobRun.giveCause (j : JobRun) (arm : Nat) : Nat :=
  if arm = 3 ∧ j.takeAt = j.stopAt ∧ j.takeAt.getD 0 % j.defn.repeatLines ≠ 0 then j.stopCause else 0

/-- JOB_TAKEOVER's effect (R147). (Mark: DEDUCED, log 32) -/
def State.takeover (s : State) : State :=
  match s.job.running, s.job.queued with
  | some j, some q =>
    if j.takesOver ∧ s.jobDone j then (s.endJob j (j.giveCause q.arm) (j.endPos (j.takeAt.getD 0))).jobStarts false
    else s
  | _, _ => s

/-- JOB_END's effect (R148). -/
def State.jobEnd (s : State) : State :=
  match s.job.running with
  | none => s
  | some j =>
    if !j.takesOver ∧ s.jobDone j then s.endJob j j.stopCause (j.endPos (j.stopAt.getD 0)) else s

/-- An assertion of DEFECT_MARK is over (R120, R150). (Mark: DEDUCED, log 31) -/
def State.markOver (s : State) (p : Nat) (m : Mark) : Bool :=
  decide (m.start + s.markMin ≤ s.now) && match m.pos with
    | some f => decide (f < s.webPos p)
    | none => match m.stop with | some e => decide (e ≤ s.now) | none => false

/-- DEFECT_MARK of a plane ends where its assertions are over (R120, R150). (Mark: DEDUCED, log 31) -/
def State.markRelease (s : State) (p : Nat) : State :=
  s.modPlane p (fun x => { x with marks := x.marks.filter (fun m => !s.markOver p m) })

/-! ### Settings of the line generator -/

/-- LINE_CONFIG (R111, R131). -/
def cmdLineConfig (p enc pitch delay cpl wobble la : Nat) (s : State) : Res :=
  if s.standby then Res.err stNotOwner s
  else if s.inUse p then Res.err stBadState s
  else if !cplOk cpl then Res.err stBadParam s
  else
    let s := (s.set (Reg.LINEGEN_PL_CONFIG_ENC p) enc).set (Reg.LINEGEN_PL_CONFIG_PITCH p) pitch
    let s := (s.set (Reg.LINEGEN_PL_DELAY p) delay).set (Reg.LINEGEN_PL_CONFIG_WOBBLE p) wobble
    let s := (s.set (Reg.LINEGEN_PL_CONFIG_LOOKAHEAD p) la).set (Reg.LINEGEN_PL_CPL_LO p) cpl
    Res.ok (((s.set (Reg.LINEGEN_PL_CPL_HI p) (cpl / 2 ^ 32)).commitCpl p).showLookahead p)

/-- A base offset with its head's alignment value lies within R112. -/
def State.offsetOk (s : State) (p h : Nat) (v : Int) : Bool :=
  let sum := v + (s.plane p).along.getD h 0
  decide (-32767 ≤ v ∧ v ≤ 32767 ∧ -32767 ≤ sum ∧ sum ≤ 32767)

/-- HEAD_OFFSET (R112): all of its values, or none. -/
def cmdHeadOffset (p first : Nat) (offsets : List Int) (s : State) : Res :=
  if s.standby then Res.err stNotOwner s
  else if !((List.range offsets.length).all (fun i => s.offsetOk p (first + i) (offsets.getD i 0))) then Res.err stBadParam s
  else
    let s := (List.range offsets.length).foldl (fun s i =>
      s.setS (Reg.LINEGEN_PL_HOFF_OFFSET p (first + i)) (offsets.getD i 0)) s
    Res.ok ((if s.prints p then s else s.flipAll (hoffGroup p)).waitMark p)

/-- WSPD_CONFIG. -/
def cmdWspdConfig (enable margin highWm : Nat) (s : State) : Res :=
  if s.standby then Res.err stNotOwner s
  else
    let s := (s.set Reg.LINEGEN_WSPD_CTRL_ENABLE enable).set Reg.LINEGEN_WSPD_CTRL_MARGIN margin
    let s := { s with line := { s.line with wspdSeen := s.line.wspdSeen || enable == 1 } }
    Res.ok (s.set Reg.LINEGEN_WSPD_HIGH_WM highWm)

/-! ### Layers -/

/-- A layer change takes effect at once on a plane that does not print (R156). -/
def State.layerNow (s : State) (p : Nat) (g : List Fld) : State := if s.prints p then s else s.flipAll g

/-- The geometry of the variable layer is not checked while a running or queued job binds a ring to it (R155). -/
def State.geomFree (s : State) (p layer : Nat) : Bool :=
  layer == 1 && s.liveBindings.any (fun x => x.1 == p && x.2.use == 1)

/-- LAYER_SET (R155, R156). (Mark: DEDUCED, log 159) -/
def cmdLayerSet (p layer enable alpha premult flipAt addr width height stride : Nat) (s : State) : Res :=
  let st := if enable = 1 ∧ !s.geomFree p layer then geomStatus layer addr width height stride else stOk
  if s.standby then Res.err stNotOwner s
  else if st ≠ stOk then Res.err st s
  else
    let put := fun (s : State) (fs : List (Fld × Nat)) => fs.foldl (fun s f => s.set f.1 f.2) s
    let s :=
      if layer = 1 then put s [(Reg.COMPOSE_PL_VAR_CTRL_ENABLE p, enable), (Reg.COMPOSE_PL_VAR_CTRL_LAYER_ALPHA p, alpha),
        (Reg.COMPOSE_PL_VAR_ADDR_LO p, addr), (Reg.COMPOSE_PL_VAR_ADDR_HI p, addr / 2 ^ 32),
        (Reg.COMPOSE_PL_VAR_WIDTH p, width), (Reg.COMPOSE_PL_VAR_HEIGHT p, height),
        (Reg.COMPOSE_PL_VAR_STRIDE p, stride), (Reg.COMPOSE_PL_FLIP_SEL_VAR p, flipAt)]
      else if layer = 2 then put s [(Reg.COMPOSE_PL_OVL_CTRL_ENABLE p, enable),
        (Reg.COMPOSE_PL_OVL_CTRL_PREMULT p, premult), (Reg.COMPOSE_PL_OVL_CTRL_LAYER_ALPHA p, alpha),
        (Reg.COMPOSE_PL_OVL_ADDR_LO p, addr), (Reg.COMPOSE_PL_OVL_ADDR_HI p, addr / 2 ^ 32),
        (Reg.COMPOSE_PL_OVL_WIDTH p, width), (Reg.COMPOSE_PL_OVL_HEIGHT p, height),
        (Reg.COMPOSE_PL_OVL_STRIDE p, stride), (Reg.COMPOSE_PL_FLIP_SEL_OVL p, flipAt)]
      else put s [(Reg.COMPOSE_PL_KITE_CTRL_ENABLE p, enable), (Reg.COMPOSE_PL_KITE_CTRL_PREMULT p, premult),
        (Reg.COMPOSE_PL_KITE_CTRL_LAYER_ALPHA p, alpha), (Reg.COMPOSE_PL_KITE_ADDR_LO p, addr),
        (Reg.COMPOSE_PL_KITE_ADDR_HI p, addr / 2 ^ 32), (Reg.COMPOSE_PL_KITE_SIZE_WIDTH p, width),
        (Reg.COMPOSE_PL_KITE_SIZE_HEIGHT p, height), (Reg.COMPOSE_PL_KITE_STRIDE p, stride),
        (Reg.COMPOSE_PL_FLIP_SEL_KITE_LAYER p, flipAt)]
    Res.ok (s.layerNow p (layerGroup p layer))

/-- KITE_MOVE (R158). (Mark: DEDUCED, log 159) -/
def cmdKiteMove (p flipAt x y : Nat) (s : State) : Res :=
  if s.standby then Res.err stNotOwner s
  else
    let s := (s.set (Reg.COMPOSE_PL_KITE_X p) x).set (Reg.COMPOSE_PL_KITE_Y p) y
    Res.ok ((s.set (Reg.COMPOSE_PL_FLIP_SEL_KITE_POS p) flipAt).layerNow p (kitePosGroup p))

/-! ### Opcodes of units that a printing plane locks -/

/-- PLOAD. -/
def cmdPload (p rects src len tag : Nat) (on : Iface) (s : State) : Res :=
  if s.standby then Res.err stNotOwner s else s.pload (s.prints p) p rects src len tag on

/-- PLOCK. -/
def cmdPlock (p : Nat) (s : State) : Res := if s.standby then Res.err stNotOwner s else s.plock (s.prints p) p

/-- PUNLOCK. -/
def cmdPunlock (p token : Nat) (s : State) : Res :=
  if s.standby then Res.err stNotOwner s else s.punlock (s.prints p) p token

/-- TABLE_LOAD. -/
def cmdTableLoad (p table flipAt src len tag : Nat) (on : Iface) (s : State) : Res :=
  if s.standby then Res.err stNotOwner s else s.tableLoad false p table flipAt src len tag on

/-- ENC_CONFIG. -/
def cmdEncConfig (e filter bw ms relay : Nat) (s : State) : Res := s.encConfig (s.encPrints e) e filter bw ms relay

end Sys2Proof.Machine
end

