-- ==== Sys2Proof/Machine/Crypto.lean ====
section
/-! DEFINITION. SHA-256 and the verification of an ECDSA P-256 signature, which 22_otp_firmware_security.md R456 and R460
name. Their definitions are those of the public standards (FIPS 180-4, FIPS 186); the spec names them only (log 7). -/

namespace Sys2Proof.Machine

/-! ### SHA-256 -/

/-- A 32-bit word of SHA-256. -/
abbrev W32 := BitVec 32

/-- No number below the root of 312 divides a candidate below 312. -/
def smallPrime (n : Nat) : Bool := decide (2 ≤ n) && (List.range 18).all (fun d => decide (d < 2 ∨ n ≤ d) || n % d != 0)

/-- The first 64 primes. -/
def shaPrimes : List Nat := (List.range 312).filter smallPrime

/-- The largest number whose `k`th power is not above `n`, bit by bit below a bit position. -/
def intRoot (k n : Nat) : Nat → Nat → Nat
  | 0, r => r
  | b + 1, r => intRoot k n b (if (r + 2 ^ b) ^ k ≤ n then r + 2 ^ b else r)

/-- The first 32 bits of the fractional part of the `k`th root of a prime. (Mark: PRESUMED, log 7) -/
def rootWord (k p : Nat) : W32 := BitVec.ofNat 32 (intRoot k (p * 2 ^ (32 * k)) 36 0)

/-- The working variables as two sequences, newest first: a new value enters each at every round, and the four newest of
both are the eight variables. -/
structure Sha where
  as : List W32
  es : List W32
  deriving DecidableEq, Repr

/-- The initial value: square roots of the first eight primes. (Mark: PRESUMED, log 7) -/
def Sha.init : Sha :=
  let r := (shaPrimes.take 8).map (rootWord 2)
  ⟨r.take 4, r.drop 4⟩

/-- The exclusive or of a word turned right by each of three distances. -/
def turns (x : W32) (l : List Nat) : W32 := l.foldl (fun r n => r ^^^ x.rotateRight n) 0

/-- What the values of one sequence give at a round: a choice of the older two by the newest, or their majority. -/
def choose (x y z : W32) : W32 := z ^^^ (x &&& (y ^^^ z))
def major (x y z : W32) : W32 := (x &&& (y ||| z)) ||| (y &&& z)

/-- One round, with the sum of its constant and its schedule word. -/
def Sha.round (v : Sha) (kw : W32) : Sha :=
  let u := fun (i : Nat) => v.es.getD i 0
  let x := fun (i : Nat) => v.as.getD i 0
  let t := kw + u 3 + choose (u 0) (u 1) (u 2) + turns (u 0) [6, 11, 25]
  ⟨(t + major (x 0) (x 1) (x 2) + turns (x 0) [2, 13, 22]) :: v.as.take 3, (x 3 + t) :: v.es.take 3⟩

/-- The message schedule of a block from its sixteen words, `n` words more. -/
def shaSchedule (m : List W32) : Nat → List W32
  | 0 => m
  | n + 1 =>
    let w := shaSchedule m n
    let x := w.getD (n + 1) 0
    let y := w.getD (n + 14) 0
    w ++ [w.getD n 0 + w.getD (n + 9) 0 + (turns x [7, 18] ^^^ (x >>> 3)) + (turns y [17, 19] ^^^ (y >>> 10))]

/-- A block into the chaining value: 64 rounds with the cube roots of the first 64 primes. (Mark: PRESUMED, log 7) -/
def Sha.block (v : Sha) (m : List W32) : Sha :=
  let kws := List.zipWith (fun p w => rootWord 3 p + w) shaPrimes (shaSchedule m 48)
  let r := kws.foldl Sha.round v
  ⟨List.zipWith (· + ·) v.as r.as, List.zipWith (· + ·) v.es r.es⟩

/-- The number that bytes spell, most significant first. -/
def beNat (l : List Byte) : Nat := l.foldl (fun n b => 256 * n + b.toNat) 0

/-- A message with its one bit, zeros to the last 8 bytes of a block, and its length in bits. -/
def shaPad (msg : List Byte) : List Byte :=
  let zeros := (119 - msg.length % 64) % 64
  msg ++ 0x80 :: (List.replicate zeros 0 ++ (leBytes 8 (8 * msg.length)).reverse)

/-- SHA-256 of a byte string as a number, most significant byte first. (Mark: PRESUMED, log 7) -/
def sha256 (msg : List Byte) : Nat :=
  let b := shaPad msg
  let words := (List.range (b.length / 4)).map (fun i => BitVec.ofNat 32 (beNat ((b.drop (4 * i)).take 4)))
  let v := (List.range (words.length / 16)).foldl (fun (v : Sha) i => v.block ((words.drop (16 * i)).take 16)) .init
  (v.as ++ v.es).foldl (fun n w => n * 2 ^ 32 + w.toNat) 0

/-! ### P-256 -/

/-- The prime of the field. (Mark: PRESUMED, log 7) -/
def p256P : Nat := 0xffffffff00000001000000000000000000000000ffffffffffffffffffffffff

/-- The order of the base point. (Mark: PRESUMED, log 7) -/
def p256N : Nat := 0xffffffff00000000ffffffffffffffffbce6faada7179e84f3b9cac2fc632551

/-- The coefficient b of the curve y² = x³ − 3x + b. (Mark: PRESUMED, log 7) -/
def p256B : Nat := 0x5ac635d8aa3a93e7b3ebbd55769886bc651d06b0cc53b0f63bce3c3e27d2604b

/-- The base point. (Mark: PRESUMED, log 7) -/
def p256G : Nat × Nat :=
  (0x6b17d1f2e12c4247f8bce6e563a440f277037d812deb33a0f4a13945d898c296,
   0x4fe342e2fe1a7f9b8ee7eb4a7c0f9e162bce33576b315ececbb6406837bf51f5)

/-- `b` to the power `e`, modulo `m`, for an exponent below 2 to the `n`. -/
def powMod (b m : Nat) : Nat → Nat → Nat
  | 0, _ => 1 % m
  | n + 1, e =>
    let r := powMod (b * b % m) m n (e / 2)
    if e % 2 = 1 then b * r % m else r

/-- The inverse modulo a prime below 2 to the 256. -/
def invMod (x m : Nat) : Nat := powMod (x % m) m 256 (m - 2)

/-- A point of the curve; none is the point at infinity. -/
abbrev Point := Option (Nat × Nat)

/-- The point on the line of slope `l` through two points of the curve. -/
def chord (l x1 y1 x2 : Nat) : Point :=
  let x := (l * l + 2 * p256P - x1 - x2) % p256P
  some (x, (l * ((x1 + p256P - x) % p256P) + p256P - y1) % p256P)

/-- The sum of two points. -/
def addPoint : Point → Point → Point
  | none, q => q
  | p, none => p
  | some (x1, y1), some (x2, y2) =>
    if x1 ≠ x2 then
      chord ((y2 + p256P - y1) * invMod (x2 + p256P - x1) p256P % p256P) x1 y1 x2
    else if y1 = y2 ∧ y1 ≠ 0 then
      chord ((3 * x1 * x1 + p256P - 3) * invMod (2 * y1) p256P % p256P) x1 y1 x2
    else none

/-- `k` times a point, for `k` below 2 to the `n`. -/
def mulPoint (p : Point) : Nat → Nat → Point
  | 0, _ => none
  | n + 1, k =>
    let r := mulPoint (addPoint p p) n (k / 2)
    if k % 2 = 1 then addPoint p r else r

/-- A pair of coordinates is a point of the curve. -/
def onCurve (x y : Nat) : Bool :=
  decide (x < p256P ∧ y < p256P) && (y * y) % p256P == (x * x * x + (p256P - 3) * x + p256B) % p256P

/-- Whether (r, s) is an ECDSA signature of a message under a public key (x, y), SHA-256 of the message taken.
(Mark: PRESUMED, log 7) -/
def ecdsaOk (key msg sig : List Byte) : Bool :=
  let x := beNat (key.take 32)
  let y := beNat ((key.drop 32).take 32)
  let r := beNat (sig.take 32)
  let s := beNat ((sig.drop 32).take 32)
  onCurve x y && decide (0 < r ∧ r < p256N ∧ 0 < s ∧ s < p256N) &&
    (let w := invMod s p256N
     match addPoint (mulPoint (some p256G) 256 (sha256 msg * w % p256N)) (mulPoint (some (x, y)) 256 (r * w % p256N)) with
     | some (vx, _) => vx % p256N == r
     | none => false)

end Sys2Proof.Machine
end

