-- ==== Sys2Proof/Machine/Otp.lean ====
section
/-! DEFINITION. OTP, its configuration record, key slots and locks, and patch images (22_otp_firmware_security.md). -/

namespace Sys2Proof.Machine

/-- A lane preset of the record: its reserved bits are 0 (R452). -/
def presetOk (w : Nat) : Bool := bits w 3 1 == 0 && bits w 22 10 == 0

/-- The limits of the configuration record (R452). -/
def recordFieldsOk (r : List Byte) : Bool :=
  u8 r 0 == 1 && (decide (u8 r 1 ≤ 62) || u8 r 1 == 0xFF) && bits (u8 r 2) 6 2 == 0 && decide (bits (u8 r 2) 1 2 ≤ 2) &&
  zerosAt r 3 1 && (List.range 4).all (fun p => presetOk (u32 r (4 + 4 * p))) &&
  decide (u16 r 20 ≤ 3200) && decide (100 ≤ iAt r 22 2 ∧ iAt r 22 2 ≤ 1200) &&
  decide (0 ≤ iAt r 24 2 ∧ iAt r 24 2 < iAt r 22 2) && zerosAt r 26 34

/-- A generation is valid when its CRC matches and its fields meet R452 (R453). -/
def recordValid (r : List Byte) : Bool :=
  r.length == 64 && crc32c (r.take 60) == u32 r 60 && recordFieldsOk r

/-- All bits 0 (R454, R456). -/
def isBlank (r : List Byte) : Bool := r.all (· == 0)

/-- The valid generation with the highest number (R453). -/
def OtpSt.best (o : OtpSt) : Option Nat :=
  ((List.range 4).filter (fun g => recordValid (o.gens.getD g []))).getLast?

/-- Read the configuration area: the record in force, or the blank defaults (R453). -/
def OtpSt.readArea (o : OtpSt) : OtpSt :=
  match o.best with
  | some g => { o with active := o.gens.getD g [], activeGen := some g }
  | none => { o with active := blankRecord, activeGen := none }

/-- Fields of the record in force that other chapters use. -/
def State.recHierId (s : State) : Nat := u8 s.otp.active 1
def State.recSideInv (s : State) : Bool := bit (u8 s.otp.active 2) 0
def State.recBootIf (s : State) : Nat := bits (u8 s.otp.active 2) 1 2
def State.recPreset (s : State) (p : Nat) : Nat := u32 s.otp.active (4 + 4 * p)
def State.recPhEnergyMax (s : State) : Nat := u16 s.otp.active 20
def State.recPhCutoff (s : State) : Int := iAt s.otp.active 22 2
def State.recPhTargetMax (s : State) : Int := iAt s.otp.active 24 2

/-- Registers whose reset value the record gives (OTP reset column; R390, R452). -/
def State.applyRecord (s : State) : State :=
  let s := s.set Reg.CMD_EVT_CTRL_ROUTE s.recBootIf
  let id := s.recHierId
  let s := (s.set Reg.HIER_ID id).setB Reg.HIER_ID_MANAGER (id == 0)
  (List.range 4).foldl (fun s p =>
    let w := s.recPreset p
    let s := ((s.set (Reg.ZPHY_PORT_CONFIG_ENABLE p) (bits w 0 1)).set (Reg.ZPHY_PORT_CONFIG_WIDTH p) (bits w 1 2)).set
      (Reg.ZPHY_PORT_CONFIG_RATE p) (bits w 4 2)
    if bit w 21 then
      ((s.set (Reg.ZPHY_PORT_EQ_PRE p) (bits w 6 4)).set (Reg.ZPHY_PORT_EQ_MAIN p) (bits w 10 6)).set
        (Reg.ZPHY_PORT_EQ_POST p) (bits w 16 5)
    else s) s

/-- OTP.STATUS.USED, KEY_SLOTS (OTP registers). -/
def OtpSt.used (o : OtpSt) : Nat :=
  ((List.range 4).filter (fun g => !isBlank (o.gens.getD g []))).foldl (fun m g => m + 2 ^ g) 0
def OtpSt.keySlots (o : OtpSt) : Nat :=
  ((List.range 2).filter (fun k => !isBlank (o.keys.getD k []))).foldl (fun m k => m + 2 ^ k) 0

/-- The device is signed when a key slot is not blank (R460). -/
def OtpSt.signed (o : OtpSt) : Bool := o.keySlots != 0

/-- OTP_READ (R453). -/
def cmdOtpRead (s : State) : Res :=
  Res.okData (leBytes 8 (low 64 Config.deviceId) ++ s.otp.active ++
    leBytes 1 (s.otp.activeGen.getD 0xFF) ++ leBytes 1 s.otp.keySlots ++ leBytes 1 s.otp.locks) s

/-- Conditions under which OTP cannot be burned: THERM LEVEL 2 or above, or Tj below 0 °C (R454 step 2). -/
def State.burnForbidden (s : State) : Bool :=
  decide (2 ≤ s.get Reg.THERM_STATUS_LEVEL) || decide (s.getS Reg.THERM_STATUS_TJ < 0)

/-- Whether the bits burned read back as asked: a free value (log 8). (Mark: DESIGN CHOICE, log 8) -/
def State.burnReadsBack (s : State) : Bool := s.fresh % 2 == 0

/-- A generation after a burn that did not read back: neither blank nor valid (R454, R455); its bits are not readable
(log 8). (Mark: DESIGN CHOICE, log 8) -/
def spoiled : List Byte := List.replicate 64 0xFF

/-- A key slot after a burn that did not read back holds free bytes (R456, log 8). (Mark: DESIGN CHOICE, log 8) -/
def State.spoiledKey (s : State) : List Byte := (List.range 32).map (Config.freeByte s.free)

/-- OTP_BURN (R454, R455, R457). (Mark: DESIGN CHOICE, log 8) -/
def cmdOtpBurn (record : List Byte) (s : State) : Res :=
  match (List.range 4).find? (fun g => isBlank (s.otp.gens.getD g [])) with
  | none =>
    if !recordValid record then Res.err stBadParam s
    else if bit s.otp.locks 0 ∨ s.burnForbidden then Res.err stBadState s
    else Res.err stOtpExhausted s
  | some g =>
    if !recordValid record then Res.err stBadParam s
    else if bit s.otp.locks 0 ∨ s.burnForbidden then Res.err stBadState s
    else if s.burnReadsBack then
      let s := { s.used with otp := { s.otp with
        gens := modAt (fun _ => record) g s.otp.gens, locks := s.otp.locks ||| bits (u8 record 2) 3 3 } }
      Res.okData (leBytes 1 g) s
    else
      Res.err stCheckFail { s.used with otp := { s.otp with gens := modAt (fun _ => spoiled) g s.otp.gens } }

/-- KEY_BURN (R456, R457). (Mark: DESIGN CHOICE, log 8) -/
def cmdKeyBurn (slot : Nat) (hash : List Byte) (s : State) : Res :=
  if 1 < slot ∨ isBlank hash then Res.err stBadParam s
  else if bit s.otp.locks 1 ∨ s.burnForbidden then Res.err stBadState s
  else if !isBlank (s.otp.keys.getD slot []) then Res.err stOtpExhausted s
  else if s.burnReadsBack then
    Res.ok { s.used with otp := { s.otp with keys := modAt (fun _ => hash) slot s.otp.keys } }
  else Res.err stCheckFail { s.used with otp := { s.otp with keys := modAt (fun _ => s.spoiledKey) slot s.otp.keys } }

/-- Bytes of the staging RAM (R458). -/
def stagingBytes : Nat := 262144

/-- Write bytes of the staging RAM. -/
def putStaging (m : List Host.Cell) (o : Nat) : List Byte → List Host.Cell
  | [] => m
  | v :: vs => putStaging (Sparse.put 0 m o v) (o + 1) vs

/-- PATCH_LOAD (R458). -/
def cmdPatchLoad (offset : Nat) (data : List Byte) (s : State) : Res :=
  if 1 ≤ data.length ∧ data.length ≤ 4068 ∧ offset + data.length ≤ stagingBytes then
    Res.ok { s with otp := { s.otp with staging := putStaging s.otp.staging offset data } }
  else Res.err stBadParam s

/-- A range of the staging RAM. -/
def OtpSt.stage (o : OtpSt) (a n : Nat) : List Byte := (List.range n).map (fun i => Sparse.get 0 o.staging (a + i))

/-- The layout of the patch image in the staging RAM (R459). -/
def OtpSt.imageOk (o : OtpSt) (size : Nat) : Bool :=
  let h := o.stage 0 64
  decide (h.take 4 = [0x4C, 0x59, 0x50, 0x54]) && decide (1 ≤ u16 h 4) && u16 h 6 == low 16 Config.fwMajor &&
  zerosAt h 10 2 && u32 h 12 == size && decide (128 ≤ size ∧ size ≤ stagingBytes) && size % 4 == 0 &&
  u32 h 16 % 4 == 0 && decide (u32 h 16 < size) && zerosAt h 20 44

/-- The signature check of a signed device (R460 step 3). SHA-256 and the curve are those of the public standards (log 7).
(Mark: PRESUMED, log 7) -/
def OtpSt.signatureOk (o : OtpSt) (size : Nat) (signature : List Byte) : Bool :=
  let key := o.stage 64 64
  !o.signed ||
  ((List.range 2).any (fun k => !isBlank (o.keys.getD k []) &&
      sha256 key == beNat (o.keys.getD k [])) &&
    ecdsaOk key (o.stage 0 size) signature)

/-- FW_MINOR and PATCH_ID that the device reports (R461). -/
def State.fwMinor (s : State) : Nat := match s.otp.patch with | some p => p.2 | none => low 16 Config.fwMinor
def State.patchId (s : State) : Nat := match s.otp.patch with | some p => p.1 | none => 0

/-- Put the image of the staging RAM into force (R461). -/
def State.takePatch (s : State) : State :=
  let h := s.otp.stage 0 16
  let s := { s with otp := { s.otp with patchRam := s.otp.staging, patch := some (u16 h 4, u16 h 8) } }
  (s.set Reg.OTP_PATCH_ID (u16 h 4)).setB Reg.OTP_PATCH_ACTIVE true

end Sys2Proof.Machine
end

