-- ==== Sys2Proof/Machine/Heads.lean ====
section
/-! DEFINITION. Head ports beside the line pipeline: profiles and maps, enabling and clearing ports, the head's status
return with the pre-heat, and port faults (09_head_ports.md R186 to R193, R204 to R215). -/

namespace Sys2Proof.Machine

/-! ### Profiles and maps (R187 to R189) -/

/-- Show a plane's profile record in every HEADPORT block (HEADPORT registers). -/
def State.showProfile (s : State) (p : Nat) : State :=
  (List.range 4).foldl (fun s g => (List.range 16).foldl (fun s w =>
    s.set (Reg.HEADPORT_GRP_PROFILE_WORD g p w) (u32 (s.profile p) (4 * w))) s) s

/-- The pre-heat of a port. -/
def State.putPreheat (s : State) (q n w : Nat) : State :=
  (s.set (Reg.HEADPORT_HP_PREHEAT_COUNT q) n).set (Reg.HEADPORT_HP_PREHEAT_WIDTH q) w

/-- The SRET timeout of a port runs from now (R207). -/
def State.sretRun (s : State) (q : Nat) : State := s.modHead q (fun x => { x with sretFrom := s.now, sretOut := false })

/-- The SRET timeout of a port runs from now, and its temperature counts as within its band (R207, R209). -/
def State.sretAfresh (s : State) (q : Nat) : State := (s.sretRun q).modHead q (fun x => { x with outside := false })

/-- HEAD_PROFILE (R188). -/
def cmdHeadProfile (p : Nat) (record : List Byte) (s : State) : Res :=
  if s.standby then Res.err stNotOwner s
  else if 3 < p ∨ record.length ≠ 64 then Res.err stBadParam s
  else if s.inUse p then Res.err stBadState s
  else if !profileOk record s.recPhEnergyMax then Res.err stBadParam s
  else
    let s := (s.modPlane p (fun x => { x with profile := some record, lines := [] })).showProfile p
    let s := (s.plane p).map.foldl (fun s q => (s.putPreheat q 0 0).sretAfresh q) s
    Res.ok ((s.showShape p).showLookahead p)

/-- Show whether a port is in a head map, and where. -/
def State.showPort (s : State) (q : Nat) : State :=
  match (List.range 4).find? (fun p => q ∈ (s.plane p).map) with
  | some p =>
    ((s.setB (Reg.HEADPORT_HP_CTRL_MAPPED q) true).set (Reg.HEADPORT_HP_CTRL_PLANE q) p).set
      (Reg.HEADPORT_HP_CTRL_MAP_POS q) ((s.plane p).map.idxOf q)
  | none =>
    ((s.setB (Reg.HEADPORT_HP_CTRL_MAPPED q) false).set (Reg.HEADPORT_HP_CTRL_PLANE q) 0).set
      (Reg.HEADPORT_HP_CTRL_MAP_POS q) 0

/-- A port that enters the map of a plane: its timeout runs from now, and its pre-heat keeps to the plane's profile, 0 where
SRET_BIT is 0 (R204, R206, R207). (Mark: DEDUCED, log 174) -/
def State.enterMap (s : State) (p q : Nat) : State :=
  let r := s.profile p
  let on := pSretBit r != 0
  (s.putPreheat q (if on then min (s.get (Reg.HEADPORT_HP_PREHEAT_COUNT q)) (pPhCount r) else 0)
    (if on then min (s.get (Reg.HEADPORT_HP_PREHEAT_WIDTH q)) (pPhMax r) else 0)).sretRun q

/-- A list holds no value twice. -/
def distinct : List Nat → Bool
  | [] => true
  | a :: l => decide (a ∉ l) && distinct l

/-- HEAD_MAP (R189). (Mark: DEDUCED, log 174) -/
def cmdHeadMap (p : Nat) (ports : List Nat) (s : State) : Res :=
  if s.standby then Res.err stNotOwner s
  else if s.inUse p then Res.err stBadState s
  else if ports.any (fun q => decide (47 < q)) || !distinct ports ||
      (List.range 4).any (fun r => r != p && ports.any (fun q => decide (q ∈ (s.plane r).map))) then Res.err stBadParam s
  else
    let old := (s.plane p).map
    let s := s.modPlane p (fun x => { x with map := ports, lines := [] })
    let s := (old ++ ports).foldl State.showPort s
    let s := (ports.filter (fun q => decide (q ∉ old))).foldl (State.enterMap · p ·) s
    Res.ok ((s.showShape p).showLookahead p)

/-! ### Enabling (R190) -/

/-- The last end of the trains in progress at a port. (Mark: DEDUCED, log 41) -/
def HeadPort.trainsEnd (x : HeadPort) : Option Nat :=
  match x.rowA.trainEnd, x.rowB.trainEnd with
  | some a, some b => some (max a b)
  | a, b => a.orElse (fun _ => b)

/-- ENABLE of a port becomes 1 or 0; a disable in the middle of a train takes effect at its end (R190).
(Mark: DEDUCED, log 41) -/
def State.enablePort (s : State) (q : Nat) (on : Bool) : State :=
  let was := s.flag (Reg.HEADPORT_HP_CTRL_ENABLE q)
  let s := s.setB (Reg.HEADPORT_HP_CTRL_ENABLE q) on
  if on ∧ !was then
    let s := if (s.head q).closing.isSome then s.dropPort q else s
    ((s.set (Reg.HEADPORT_HP_INTEG q) 0).freshPort q).sretAfresh q
  else if !on ∧ was then
    match (s.head q).trainsEnd with
    | some e => s.modHead q (fun x => { x with closing := some e })
    | none => s.dropPort q
  else s

/-- The ports of a mask. -/
def portsOf (mask : Nat) : List Nat := (List.range 48).filter (bit mask)

/-- PORT_ENABLE. -/
def cmdPortEnable (mask enable : Nat) (s : State) : Res :=
  if s.standby then Res.err stNotOwner s
  else Res.ok ((portsOf mask).foldl (fun s q => s.enablePort q (enable == 1)) s)

/-! ### Faults (R210, R211, R215) -/

/-- The HPp.FAULT word. -/
def State.faultWord (s : State) (q : Nat) : Nat :=
  s.get (Reg.HEADPORT_HP_FAULT_CAUSES q) + 2 ^ 16 * s.get (Reg.HEADPORT_HP_FAULT_SRET_LOST q) +
    2 ^ 17 * s.get (Reg.HEADPORT_HP_FAULT_FAULTED q)

/-- Set FAULTED of a port and its bit in its group. -/
def State.putFaulted (s : State) (q : Nat) (b : Bool) : State :=
  let f := Reg.HEADPORT_GRP_FAULTED_PORTS (q / 12)
  let m := 2 ^ (q % 12)
  (s.setB (Reg.HEADPORT_HP_FAULT_FAULTED q) b).set f (s.get f - (s.get f &&& m) + (if b then m else 0))

/-- The line that a port fault names: the one whose train or shift is in progress, else the plane's next line (R211).
(Mark: DEDUCED, log 45) -/
def State.faultLine (s : State) (q : Nat) : Nat :=
  match s.headOf q with
  | none => 0
  | some (p, h) =>
    let x := s.head q
    let inTrain := fun (y : RowSt) => if y.trainEnd.isSome then y.line.map Prod.snd else none
    match inTrain x.rowA, inTrain x.rowB, x.shift with
    | some k, _, _ => k
    | none, some k, _ => k
    | none, none, some (_, k, _, _) => k
    | none, none, none => match (s.plane p).lines.find? (fun l => !(l.head h).phase.done) with
      | some l => l.k
      | none => (s.lineAhead p).2

/-- A port fault drops the rest of the trains in progress; `pads` tells which strobe pads a watchdog has cut (R211). -/
def State.cutTrains (s : State) (q : Nat) (pads : Bool × Bool) : State :=
  match s.headOf q with
  | none => s
  | some (p, _) => s.modHead q (fun x => { x with
      rowA := x.rowA.cut (s.profile p) s.now pads.1, rowB := x.rowB.cut (s.profile p) s.now pads.2 })

/-- Port fault: causes are added; the first of them drops what the port holds; the event carries the line and the
FAULT bits (R211). (Mark: DEDUCED, log 45) -/
def State.portFault (s : State) (q causes : Nat) (pads : Bool × Bool) : State :=
  let old := s.get (Reg.HEADPORT_HP_FAULT_CAUSES q)
  let new := old ||| causes
  if new = old then s
  else
    let line := s.faultLine q
    let was := s.flag (Reg.HEADPORT_HP_FAULT_FAULTED q)
    let s := (s.set (Reg.HEADPORT_HP_FAULT_CAUSES q) new).putFaulted q true
    let s := if was then s else (s.cutTrains q pads).dropPort q
    s.raise evPortFault q (leBytes 4 q ++ leBytes 4 (s.faultWord q) ++ leBytes 8 line)

/-- The causes of a port that persist (R210). Whether a pad that a watchdog left active still is active is a free
value. (Mark: DESIGN CHOICE, log 40) -/
def State.persisting (s : State) (q : Nat) : Nat :=
  let x := s.head q
  let pad := (x.padA || x.padB) && s.fresh % 2 == 1
  (if pad then 3 else 0) + (if 0 < x.flagged then 4 else 0) + (if 0 < x.hot then 8 else 0) + (if x.bankBad then 16 else 0)

/-- PORT_CLEAR of one port (R215). (Mark: DESIGN CHOICE, log 40) -/
def State.clearPort (s : State) (q : Nat) : State :=
  if !s.flag (Reg.HEADPORT_HP_FAULT_FAULTED q) then s
  else
    let keep := s.persisting q
    let left := s.get (Reg.HEADPORT_HP_FAULT_CAUSES q) &&& keep
    let s := (s.used.modHead q (fun x => { x with
      padA := x.padA && bit keep 0, padB := x.padB && bit keep 0 })).set (Reg.HEADPORT_HP_FAULT_CAUSES q) left
    if left = 0 then ((s.putFaulted q false).set (Reg.HEADPORT_HP_INTEG q) 0).freshPort q else s

/-- The mask of the faulted ports among some. -/
def State.stillFaulted (s : State) (mask : Nat) : Nat :=
  (portsOf mask).foldl (fun m q => if s.flag (Reg.HEADPORT_HP_FAULT_FAULTED q) then m + 2 ^ q else m) 0

/-- PORT_CLEAR (R215). -/
def cmdPortClear (mask : Nat) (s : State) : Res :=
  if s.standby then Res.err stNotOwner s
  else
    let s := (portsOf mask).foldl State.clearPort s
    Res.okData (leBytes 8 (s.stillFaulted mask)) s

/-- HEAD_READ. -/
def cmdHeadRead (q : Nat) (s : State) : Res :=
  Res.okData (leBytes 2 (s.get (Reg.HEADPORT_HP_TEMP q)) ++ leBytes 2 (s.get (Reg.HEADPORT_HP_PREHEAT_COUNT q)) ++
    leBytes 4 (s.get (Reg.HEADPORT_HP_PREHEAT_WIDTH q)) ++ leBytes 4 (s.faultWord q) ++
    leBytes 4 (s.get (Reg.HEADPORT_HP_SRET_ERRORS q))) s

/-- PREHEAT_TARGET (R208). -/
def cmdPreheatTarget (p : Nat) (target : Int) (s : State) : Res :=
  if s.standby then Res.err stNotOwner s
  else if target < 0 ∨ s.recPhTargetMax < target then Res.err stBadParam s
  else Res.ok ((s.plane p).map.foldl (fun s q => s.setS (Reg.HEADPORT_HP_TEMP_TARGET q) target) s)

/-! ### SRET (R204 to R209) -/

/-- EVT_HEAD_TEMP, at most once per port per 100 ms (R209). -/
def State.headTemp (s : State) (q : Nat) (temp : Int) : State :=
  s.raiseLimited evHeadTemp q 1 (leBytes 2 q ++ leInt 2 temp ++ leInt 2 (s.getS (Reg.HEADPORT_HP_TEMP_TARGET q)))

/-- TEMP of a frame (R205). -/
def frameTemp (r frame : List Byte) : Int :=
  satS 16 (pTempOffset r + ((u16 frame (pTempPos r) * pTempScale r + 128) / 256 : Nat))

/-- The pre-heat of R206: the integrator, the count and the width. -/
def preheat (r : List Byte) (energy : Nat) (cutoff i target temp : Int) : Int × Nat × Nat :=
  let umax : Int := (min (pPhCount r * pPhMax r) energy : Nat)
  let e := target - temp
  let i' := if cutoff ≤ temp then 0 else clampI 0 (umax * 256) (i + pKi r * e)
  let u := if cutoff ≤ temp then 0 else (clampI 0 umax (sar i' 8 + sar (pKp r * e) 4)).toNat
  if 2 * u < pPhMin r then (i', 0, 0)
  else
    let n := max 1 ((u + pPhMax r - 1) / pPhMax r)
    (i', n, max (pPhMin r) ((u + n / 2) / n))

/-- The frame is whole and passes its check (R204). (Mark: DEDUCED, log 46) -/
def frameOk (r frame : List Byte) : Bool :=
  frame.length == pSretBytes r && (pCheck r == 0 || frame.foldl (· ^^^ ·) 0 == 0)

/-- A valid frame (R205 to R207, R209, R210). (Mark: DEDUCED, log 46) -/
def State.sretFrame (s : State) (q : Nat) (r frame : List Byte) : State :=
  let temp := frameTemp r frame
  let target := s.getS (Reg.HEADPORT_HP_TEMP_TARGET q)
  let s := (s.setS (Reg.HEADPORT_HP_TEMP q) temp).setB (Reg.HEADPORT_HP_FAULT_SRET_LOST q) false
  let (i, n, w) := preheat r s.recPhEnergyMax s.recPhCutoff (s.getS (Reg.HEADPORT_HP_INTEG q)) target temp
  let s := (s.setS (Reg.HEADPORT_HP_INTEG q) i).putPreheat q n w
  let x := s.head q
  let flagged := if u8 frame (pStatusPos r) &&& pFaultMask r = 0 then 0 else x.flagged + 1
  let hot := if s.recPhCutoff ≤ temp then x.hot + 1 else 0
  let out := decide (pTempBand r < (temp - target).natAbs)
  let s := s.modHead q (fun x => { x with flagged := flagged, hot := hot, outside := out, sretFrom := s.now, sretOut := false })
  let s := if out ∧ !x.outside then s.headTemp q temp else s
  s.portFault q ((if 2 ≤ flagged then 4 else 0) + (if 3 ≤ hot then 8 else 0)) (false, false)

/-- EVT_READY has been raised (CMD.STATUS.READY). -/
def State.ready (s : State) : Bool := s.flag Reg.CMD_STATUS_READY

/-- The port listens to SRET: it has a profile with a bit time, and the boot is over (R192, R204). -/
def State.sretOn (s : State) (q : Nat) : Bool :=
  s.ready && match s.headOf q with
    | some (p, _) => (s.plane p).profile.isSome && pSretBit (s.profile p) != 0
    | none => false

/-- The profile of a port's plane. -/
def State.portProfile (s : State) (q : Nat) : List Byte := match s.headOf q with | some (p, _) => s.profile p | none => []

/-- SRET_FRAME (R204): a frame as it ended, or one that is broken. -/
def execSretFrame (q : Fin 48) (frame : List Byte) (broken : Bool) (t : Nat) (s : State) :
    Host.Outcome State Fault Refusal :=
  eventAwake t (fun s => s.when (s.sretOn q) (fun s =>
    if broken ∨ !frameOk (s.portProfile q) frame then s.incSat (Reg.HEADPORT_HP_SRET_ERRORS q) 1
    else s.sretFrame q (s.portProfile q) frame)) s

/-- SRET_TIMEOUT (R207). -/
def execSretTimeout (q : Fin 48) (t : Nat) (s : State) : Host.Outcome State Fault Refusal :=
  eventAwake t (fun s => s.when (s.sretOn q && s.flag (Reg.HEADPORT_HP_CTRL_ENABLE q) &&
      !(s.head q).sretOut &&
      decide ((s.head q).sretFrom + pSretTimeout (s.portProfile q) * msSteps ≤ s.now)) (fun s =>
    let s := (s.setB (Reg.HEADPORT_HP_FAULT_SRET_LOST q) true).putPreheat q 0 0
    (s.modHead q (fun x => { x with outside := false, sretOut := true })).headTemp q (-32768))) s

/-! ### Outputs (R192, R195, R202) -/

/-- Level of ILK_OUT: a device that hands over keeps it high while its trains in progress end (R418).
(Mark: DEDUCED, log 107) -/
def State.ilkOut (s : State) : Bool := s.flag Reg.PAIR_STATUS_ILK_OUT || decide (s.now < s.pair.ilkHold)

/-- The head-port drivers are enabled: the interlock is closed (R192, R403). -/
def State.headDriven (s : State) : Bool := s.ilkOut && !s.flag Reg.PAIR_STATUS_ILK_IN

/-- The end of the last train in progress; the present instant where there is none. -/
def State.trainsEnd (s : State) : Nat :=
  (s.heads.map (fun h => max (h.rowA.trainEnd.getD 0) (h.rowB.trainEnd.getD 0))).foldl max s.now

/-- Levels of a port's outputs: of the _P side of the pairs CK, D0 and D1, and of LAT, STA and STB. -/
structure PortPads where
  ck : Bool
  data : List Bool
  lat : Bool
  sta : Bool
  stb : Bool
  deriving DecidableEq, Repr

/-- CK `x` half steps after the start of a shift: low, with a change of level at the middle of every bit time, of which there
are `q` rounded up to even (R195). -/
def ckLevel (r : List Byte) (x : Nat) : Bool :=
  (min ((x + pClkDiv r) / (2 * pClkDiv r)) (pTShift r / pClkDiv r)) % 2 == 1

/-- A data pair `x` half steps after the start of a shift: it changes at the start of each bit time, and is low in the further
bit time of an odd `q` (R195). -/
def dataLevel (r : List Byte) (bits : List Bool) (x : Nat) : Bool := bits.getD (x / (2 * pClkDiv r)) false

/-- A row's strobe is at its active level: within a pulse of the train in progress, or left so by a watchdog (R202, R211). -/
def strobeOn (r : List Byte) (now : Nat) (x : RowSt) (stuck : Bool) : Bool :=
  stuck || match x.trainEnd, x.lastFired with
    | some e, some t => decide (now < e) &&
      (trainPulses r x.heat.1 x.heat.2).any (fun c => decide (t + c.1 ≤ now ∧ now < t + c.2))
    | _, _ => false

/-- LAT of a row is at its active level: from its rise to its fall (R196, R199). -/
def latOn (r : List Byte) (now row : Nat) (x : RowSt) : Bool :=
  match x.fall with
  | some f => decide (now < f ∧ f ≤ now + pLatW r row)
  | none => false

/-- The outputs of a port `half` half steps after the present instant; `none` is high-impedance: in reset, in boot before
EVT_READY, and while the interlock is open. A pair between shifts is low, a single-ended signal inactive (R192). -/
def State.portPads (s : State) (q half : Nat) : Option PortPads :=
  if !s.power.resetN || !s.ready || !s.headDriven then none
  else
    let r := s.portProfile q
    let x := s.head q
    let on := match x.shift with
      | some (_, _, _, start) =>
        let n := 2 * (s.now - start) + half
        if n < 2 * pTShift r then some n else none
      | none => none
    some {
      ck := match on with | some n => ckLevel r n | none => false
      data := (List.range 2).map (fun i => match on with | some n => dataLevel r (x.bits.getD i []) n | none => false)
      lat := (latOn r s.now 0 x.rowA || latOn r s.now 1 x.rowB) != bit (pOrder r) 3
      sta := strobeOn r s.now x.rowA x.padA != bit (pOrder r) 4
      stb := strobeOn r s.now x.rowB x.padB != bit (pOrder r) 4 }

/-! ### Watchdogs and bank voltages (R186, R212, R213) -/

/-- A watchdog drives a strobe pad inactive; `stuck` tells that the pad stays active even so.
(Mark: DESIGN CHOICE, log 40) -/
def State.cutPad (s : State) (q : Nat) (rowB stuck : Bool) : State :=
  s.modHead q (fun x => if rowB then { x with padB := stuck } else { x with padA := stuck })

/-- The strobe watchdog's fault (R212). (Mark: DEDUCED, log 27; DEDUCED, log 45) -/
def State.strobeWd (s : State) (q : Nat) (rowB stuck : Bool) : State :=
  ((s.cutPad q rowB stuck).incSat (Reg.HEADPORT_HP_WD_CUTS q) 1).portFault q 1 (!rowB, rowB)

/-- The fixed limit's fault (R213). (Mark: DEDUCED, log 45) -/
def State.strobeHw (s : State) (q : Nat) (rowB stuck : Bool) : State := (s.cutPad q rowB stuck).portFault q 2 (!rowB, rowB)

/-- A bank's measurement lies within 10 % of its nominal value, which is set (R186). (Mark: DEDUCED, log 44) -/
def vheadOk (nom mv : Nat) : Bool := decide (nom ≠ 0 ∧ 9 * nom ≤ 10 * mv ∧ 10 * mv ≤ 11 * nom)

/-- The bank voltages of a housekeeping round, channels 33 to 36 (R186). (Mark: DEDUCED, log 44) -/
def State.vheadCheck (s : State) (hk : List Nat) : State :=
  (List.range 4).foldl (fun s g =>
    let mv := hk.getD (33 + g) 0
    let ok := vheadOk (s.get (Reg.HEADPORT_GRP_BANK_VHEAD_NOM g)) mv
    let s := (s.set (Reg.HEADPORT_GRP_BANK_VHEAD_MV g) mv).setB (Reg.HEADPORT_GRP_BANK_VHEAD_OK g) ok
    (List.range 12).foldl (fun s i =>
      let q := 12 * g + i
      let s := s.modHead q (fun x => { x with bankBad := !ok })
      if !ok ∧ s.flag (Reg.HEADPORT_HP_CTRL_ENABLE q) then s.portFault q 16 (false, false) else s) s) s

/-- A write of BANK.VHEAD_NOM (R186): its status and the state after it. (Mark: DEDUCED, log 44) -/
def State.writeVheadNom (s : State) (g v : Nat) : Nat × State :=
  if v ≠ 0 ∧ (v < 1800 ∨ 3300 < v) then (stBadParam, s)
  else
    let s := s.set (Reg.HEADPORT_GRP_BANK_VHEAD_NOM g) v
    (stOk, s.setB (Reg.HEADPORT_GRP_BANK_VHEAD_OK g) (vheadOk v (s.get (Reg.HEADPORT_GRP_BANK_VHEAD_MV g))))

/-- A write of STB_MAX (R214). -/
def State.writeStbMax (s : State) (g v : Nat) : Nat × State :=
  let short := (List.range 4).any (fun p => s.inUse p && (s.plane p).map.any (fun q => decide (q / 12 = g)) &&
    !(List.range (pFireCount (s.profile p))).all (fun i => decide (pFireW (s.profile p) i < v)))
  if v < 800 ∨ 6400 < v ∨ short then (stBadParam, s) else (stOk, s.set (Reg.HEADPORT_GRP_STB_MAX g) v)

end Sys2Proof.Machine
end

