-- ==== Sys2Proof/Machine/Camera.lean ====
section
/-! DEFINITION. Camera ports, frames, the image pipeline and its statistics (10_camera_pipeline.md). -/

namespace Sys2Proof.Machine

def CamPort.init : CamPort := ⟨none, 0, 0, none⟩

def State.camPort (s : State) (c : Nat) : CamPort := s.cam.ports.getD c .init

def State.modCam (s : State) (c : Nat) (f : CamPort → CamPort) : State :=
  { s with cam := { s.cam with ports := modAt f c s.cam.ports } }

/-! ### The port record (R218, R219) -/

def cLanes (r : List Byte) : Nat := u8 r 0
def cVc (r : List Byte) : Nat := u8 r 1
def cDt (r : List Byte) : Nat := u8 r 2
def cCounted (r : List Byte) : Bool := bit (u8 r 3) 0
def cKind (r : List Byte) : Nat := bits (u8 r 3) 1 2
def cCfa (r : List Byte) : Nat := bits (u8 r 3) 3 2
def cInWidth (r : List Byte) : Nat := u16 r 4
def cLines (r : List Byte) : Nat := u16 r 6
def cColStart (r : List Byte) : Nat := u16 r 8
def cOutWidth (r : List Byte) : Nat := u16 r 10
def cBin (r : List Byte) : Nat := u8 r 12
def cEnable (r : List Byte) : Nat := u8 r 13
def cTimeout (r : List Byte) : Nat := u16 r 14
def cBlack (r : List Byte) (i : Nat) : Nat := u16 r (16 + 2 * i)
def cWb (r : List Byte) (i : Nat) : Nat := u16 r (24 + 2 * i)
def cTriD (r : List Byte) (i : Nat) : Nat := u8 r (32 + i)
def cOutFmt (r : List Byte) : Nat := bits (u8 r 35) 0 2
def cOutCh (r : List Byte) : Nat := bits (u8 r 35) 2 2
def cRawSlots (r : List Byte) : Nat := u8 r 36
def cOutSlots (r : List Byte) : Nat := u8 r 37
def cEncSel (r : List Byte) : Nat := u8 r 38
def cRawAddr (r : List Byte) : Nat := u64 r 40
def cOutAddr (r : List Byte) : Nat := u64 r 48
def cMatrix (r : List Byte) (i j : Nat) : Int := iAt r (56 + 2 * (3 * i + j)) 2

/-- Samples of a received pixel. -/
def cComps (r : List Byte) : Nat := if cDt r = 0x24 then 3 else 1

/-- Bytes of a sample in a raw ring: one sample per u16 for RAW10 and RAW12. -/
def cSampleBytes (r : List Byte) : Nat := if cDt r = 0x2B ∨ cDt r = 0x2C then 2 else 1

/-- Round up to a multiple of 256. -/
def up256 (n : Nat) : Nat := (n + 255) / 256 * 256

/-- The raw stride and the output stride (R219). -/
def cRawStride (r : List Byte) : Nat := up256 (cInWidth r * cComps r * cSampleBytes r)
def cOutStride (r : List Byte) : Nat := up256 (cOutWidth r * (if cOutCh r = 0 then 3 else 1) * cOutFmt r)

/-- Slot sizes. -/
def cRawSlot (r : List Byte) : Nat := 256 + cLines r * cRawStride r
def cOutSlot (r : List Byte) : Nat := 256 + cLines r * cOutStride r

/-- A ring's address keeps its limits: a multiple of 256, in DRAM. -/
def ringAddrOk (a n : Nat) : Bool := a % 256 == 0 && (n == 0 || inDram a n)

/-- The record's fields and their combinations keep R218. -/
def camRecordOk (r : List Byte) : Bool :=
  let k := cKind r
  decide (cLanes r ∈ [1, 2, 4] ∧ cVc r ≤ 3 ∧ cDt r ∈ [0x2A, 0x2B, 0x2C, 0x24] ∧ bits (u8 r 3) 5 3 = 0) &&
  decide (1 ≤ cInWidth r ∧ cInWidth r ≤ 16384 ∧ 1 ≤ cLines r ∧ cColStart r < cInWidth r) &&
  decide (1 ≤ cOutWidth r ∧ cOutWidth r ≤ 16384 ∧ cBin r ≤ 2 ∧ cEnable r = 1) &&
  (List.range 3).all (fun i => decide (cTriD r i ≤ 15)) &&
  decide (cOutFmt r ≤ 2 ∧ bits (u8 r 35) 4 4 = 0 ∧ (cOutFmt r ≠ 0 → 1 ≤ cOutSlots r) ∧ cEncSel r ≤ 3) &&
  u8 r 39 == 0 && zerosAt r 74 22 &&
  ringAddrOk (cRawAddr r) (cRawSlots r * cRawSlot r) && ringAddrOk (cOutAddr r) (cOutSlots r * cOutSlot r) &&
  (if k ≤ 1 then cDt r != 0x24 else cDt r == 0x24) &&
  (k != 1 || decide (cBin r = 0 ∧ 2 ≤ cOutWidth r ∧ cColStart r % 2 = 0)) &&
  decide (cColStart r + cOutWidth r * 2 ^ cBin r ≤ cInWidth r)

/-- The record that a port's words hold. -/
def State.camRecord (s : State) (c : Nat) : List Byte :=
  (List.range 24).flatMap (fun w => leBytes 4 (s.get (Reg.CAMRX_PORT_REC_WORD c w)))

/-- Frames of a port that wait for processing or are in it. -/
def State.camWaiting (s : State) (c : Nat) : List CamFrame := (s.cam.inl ++ s.cam.queue).filter (fun f => f.port == c)

/-- A port is receiving (R226). -/
def State.camReceiving (s : State) (c : Nat) : Bool :=
  cEnable (s.camRecord c) == 1 || (s.camPort c).open_.isSome || !(s.camWaiting c).isEmpty

/-- Raw slots of a port that are occupied. (Mark: DEDUCED, log 65) -/
def State.rawUsed (s : State) (c : Nat) : List Nat :=
  (((s.camPort c).open_.toList ++ s.cam.queue.filter (fun f => f.port == c)).filter (fun f =>
    f.placed && !f.inline_ && !f.dropped)).map (·.slot)

/-- Show a port's STATUS. HS_ACTIVE follows the clock lane, which no command moves. -/
def State.showCam (s : State) (c : Nat) : State :=
  let s := (s.setB (Reg.CAMRX_PORT_STATUS_RECEIVING c) (s.camReceiving c)).setB (Reg.CAMRX_PORT_STATUS_INLINE c)
    (s.get Reg.ISP_INLINE_PORT == c)
  let s := (s.setB (Reg.CAMRX_PORT_STATUS_FRAME_OPEN c) (s.camPort c).open_.isSome).set (Reg.CAMRX_PORT_STATUS_RAW_USED c)
    (s.rawUsed c).length
  let s := s.set Reg.ISP_MEM_QUEUED s.cam.queue.length
  s.set Reg.ISP_MEM_PORT (match s.cam.queue with | f :: _ => if f.rois.isSome then f.port else 7 | [] => 7)

/-- Show every port. -/
def State.showCams (s : State) : State := (List.range 4).foldl State.showCam s

/-! ### The in-line port (R231) -/

/-- The in-line port has an open frame that is in line, or will be at its first line. -/
def State.inlineOpen (s : State) : Bool :=
  s.cam.ports.any (fun x => match x.open_ with
    | some f => f.inline_ && (f.placed || f.port == s.get Reg.ISP_INLINE_PORT)
    | none => false)

/-- A waiting CAM_INLINE takes effect: the old port ceases to be in line, and the new one waits for the first line of its
next frame. (Mark: DEDUCED, log 66) -/
def State.takeInline (s : State) : State :=
  match s.cam.change with
  | none => s
  | some n =>
    if s.inlineOpen then s
    else
      let s := { s with cam := { s.cam with change := none } }.set Reg.ISP_INLINE_PORT 7
      (s.set Reg.ISP_INLINE_NEXT (n.getD 7)).showCams

/-- CAM_INLINE (R231): 0xFF is no port. -/
def cmdCamInline (port : Nat) (s : State) : Res :=
  if port ≠ 0xFF ∧ 3 < port then Res.err stBadParam s
  else if port = s.get Reg.ISP_INLINE_PORT then
    Res.ok ({ s with cam := { s.cam with change := none } }.set Reg.ISP_INLINE_NEXT 7)
  else
    let n := if port = 0xFF then none else some port
    let s := { s with cam := { s.cam with change := some n } }.set Reg.ISP_INLINE_NEXT (n.getD 7)
    Res.ok s.takeInline

/-! ### Slots (R219) -/

/-- A slot header. (Mark: DEDUCED, log 61) -/
def CamFrame.header (f : CamFrame) (short long : Bool) : List Byte :=
  let flags := short.toNat + 2 * long.toNat + 4 * f.crc.toNat + 8 * f.len.toNat + 16 * f.fixed.toNat
  leBytes 4 f.num ++ leBytes 4 f.kept ++ leBytes 1 flags ++ leBytes 1 f.port ++ [0, 0] ++ leBytes 4 f.excess ++
    leBytes 8 (low 48 (f.firstNs / secNs)) ++ leBytes 4 (f.firstNs % secNs) ++ [0, 0, 0, 0] ++ leInt 8 f.web ++ List.replicate 216 0

/-- The camera writer: its writes are not mirrored; a partial write to an uncorrectable block is left out and marks the
frame (R276, R410). -/
def State.camWrite (s : State) (f : CamFrame) (a : Nat) (bs : List Byte) : State × CamFrame :=
  let (s, bad) := s.writeMem false a bs
  (s.meetUes bad 5, { f with crc := f.crc || !bad.isEmpty })

/-- A frame is short, and long. -/
def CamFrame.short (f : CamFrame) : Bool := decide (f.kept < cLines f.record)
def CamFrame.long (f : CamFrame) : Bool := decide (0 < f.excess)

/-! ### Frames (R220 to R224, R229) -/

/-- A frame begins (R220). It may flow in line where its port is the in-line port or waits for the role: a frame that
had begun before that completes into its raw ring (R231). (Mark: DEDUCED, log 66) -/
def State.frameBegin (s : State) (c : Nat) : State :=
  let inl := s.get Reg.ISP_INLINE_PORT == c || (s.cam.change.isNone && s.get Reg.ISP_INLINE_NEXT == c)
  let f : CamFrame :=
    { port := c, num := s.get (Reg.CAMRX_PORT_FRAMES c), placed := false, record := [],
      inline_ := inl, dropped := false, slot := 0, slotAddr := 0, firstNs := 0, web := 0, kept := 0, excess := 0,
      crc := false, len := false, fixed := false, lastAt := s.now, ended := false, prev := [], rows := [], outs := [],
      rois := none, outSlot := 0, outAddr := 0 }
  ((s.inc (Reg.CAMRX_PORT_FRAMES c)).modCam c (fun x => { x with open_ := some f })).showCam c

/-- EVT_CAM_DROP and DROPS (R229). (Mark: DEDUCED, log 58) -/
def State.camDrop (s : State) (c : Nat) : State :=
  (s.incSat (Reg.CAMRX_PORT_DROPS c) 1).raiseLimited evCamDrop c 1 (leBytes 8 c)

/-- The first line of a frame: the record in force, the in-line role, and the raw slot or the drop (R227, R229, R231).
(Mark: DEDUCED, log 65; DEDUCED, log 66) -/
def State.framePlace (s : State) (f : CamFrame) : State × CamFrame :=
  let c := f.port
  let r := s.camRecord c
  let s := if f.inline_ ∧ s.cam.change.isNone ∧ s.get Reg.ISP_INLINE_NEXT = c then
      ((s.set Reg.ISP_INLINE_PORT c).set Reg.ISP_INLINE_NEXT 7)
    else s
  let inl := f.inline_ && s.get Reg.ISP_INLINE_PORT == c
  let f := { f with
    placed := true, record := r, inline_ := inl, firstNs := s.tbNs 1, web := (s.enc (cEncSel r)).count }
  if inl then (s, f)
  else
    let n := cRawSlots r
    let k := (s.camPort c).rawNext % max 1 n
    if n = 0 ∨ k ∈ s.rawUsed c then (s.camDrop c, { f with dropped := true })
    else
      let f := { f with slot := k, slotAddr := cRawAddr r + k * cRawSlot r }
      let s := s.modCam c (fun x => { x with rawNext := (k + 1) % n })
      s.camWrite f f.slotAddr (leBytes 4 0xFFFFFFFF)

/-- Bits of a received sample (R216). -/
def cDepth (r : List Byte) : Nat := if cDt r = 0x2B then 10 else if cDt r = 0x2C then 12 else 8

/-- A received line cut or padded to IN_WIDTH (R224). (Mark: DESIGN CHOICE, log 56) -/
def fitLine (r : List Byte) (pix : List Nat) : List Nat :=
  let n := cInWidth r * cComps r
  (pix.take n).map (low (cDepth r)) ++ List.replicate (n - pix.length) 0

/-- The bytes of a row in a raw ring. (Mark: DESIGN CHOICE, log 56; DEDUCED, log 57) -/
def rawBytes (r : List Byte) (pix : List Nat) : List Byte := pix.flatMap (leBytes (cSampleBytes r))

/-- Samples of a row of a raw ring. (Mark: DEDUCED, log 57) -/
def rawSamples (r : List Byte) (bs : List Byte) : List Nat :=
  (List.range (cInWidth r * cComps r)).map (fun i => uAt bs (i * cSampleBytes r) (cSampleBytes r))

/-- A line joins its frame (R222, R224, R229). -/
def State.frameLine (s : State) (f : CamFrame) (pix : List Nat) (crcOk fixed : Bool) : State × CamFrame :=
  let c := f.port
  let r := f.record
  if f.kept = cLines r then (s, { f with excess := f.excess + 1, lastAt := s.now })
  else
    let odd := pix.length != cInWidth r * cComps r
    let s := if odd then s.incSat (Reg.CAMRX_PORT_LEN_ERR c) 1 else s
    let s := if crcOk then s else s.incSat (Reg.CAMRX_PORT_CRC_ERR c) 1
    let row := if crcOk then fitLine r pix else if f.kept = 0 then fitLine r [] else f.prev
    let y := f.kept
    let f := { f with
      kept := y + 1, len := f.len || odd, crc := f.crc || !crcOk, fixed := f.fixed || fixed, lastAt := s.now, prev := row }
    if f.dropped then (s, f)
    else if f.inline_ then (s, { f with rows := f.rows ++ [row] })
    else s.camWrite f (f.slotAddr + 256 + y * cRawStride r) (rawBytes r row)

/-- The queue of raw frames keeps the order of the last lines, then of the ports (R230). (Mark: DEDUCED, log 58) -/
def queueFrame (f : CamFrame) : List CamFrame → List CamFrame
  | [] => [f]
  | g :: l =>
    if g.rois.isNone ∧ (f.lastAt < g.lastAt ∨ (f.lastAt = g.lastAt ∧ f.port < g.port)) then f :: g :: l
    else g :: queueFrame f l

/-- EVT_CAM_FRAME for a short or long frame (R221 to R223). -/
def State.frameEvents (s : State) (f : CamFrame) (short long : Bool) : State :=
  let arg := fun (kind : Nat) => leBytes 1 f.port ++ leBytes 3 kind ++ leBytes 4 f.kept ++ leBytes 4 f.num
  let s := if short then
      (s.incSat (Reg.CAMRX_PORT_SHORT f.port) 1).raiseLimited evCamFrame f.port 1 (arg 0) else s
  if long then (s.incSat (Reg.CAMRX_PORT_LONG f.port) 1).raiseLimited evCamFrame f.port 1 (arg 1) else s

/-- The open frame of a port ends (R220). A frame without a line has nothing to process.
(Mark: DEDUCED, log 58; DEDUCED, log 59) -/
def State.frameEnd (s : State) (c : Nat) : State :=
  match (s.camPort c).open_ with
  | none => s
  | some f =>
    let s := s.modCam c (fun x => { x with open_ := none })
    let f := { f with ended := true }
    let s :=
      if !f.placed then s.frameEvents f true false
      else if f.dropped then s
      else
        let s := s.frameEvents f f.short f.long
        if f.inline_ then { s with cam := { s.cam with inl := s.cam.inl ++ [f] } }
        else
          let (s, f) := s.camWrite f f.slotAddr (f.header f.short f.long)
          { s with cam := { s.cam with queue := queueFrame f s.cam.queue } }
    s.takeInline.showCams

/-- A line accepted on a port (R220): in counted mode it begins a frame where none is open, and the frame ends with its
last line. `overflow` tells that the frame's lines overflow the receive buffer before they reach memory (R229). -/
def State.camLine (s : State) (c : Nat) (pix : List Nat) (crcOk fixed overflow : Bool) : State :=
  let s := if (s.camPort c).open_.isNone ∧ cCounted (s.camRecord c) then s.frameBegin c else s
  match (s.camPort c).open_ with
  | none => s
  | some f =>
    let (s, f) := if f.placed then (s, f) else s.framePlace f
    let (s, f) := s.frameLine f pix crcOk fixed
    let spill := overflow && !f.inline_ && !f.dropped
    let (s, f) := if spill then (s.camDrop c, { f with dropped := true }) else (s, f)
    let s := (s.modCam c (fun x => { x with open_ := some f })).showCam c
    if cCounted f.record ∧ f.kept = cLines f.record then s.frameEnd c else s

/-- The record that a packet meets: the open frame's, else the port's (R227). -/
def State.camRecordNow (s : State) (c : Nat) : List Byte :=
  match (s.camPort c).open_ with
  | some f => if f.placed then f.record else s.camRecord c
  | none => s.camRecord c

/-- The header of a packet: 0 whole, 1 corrected, 2 uncorrectable (R217). The Boolean says that the packet is used.
(Mark: DEDUCED, log 61) -/
def State.camHeader (s : State) (c : Nat) (ecc : Fin 3) : State × Bool :=
  if ecc = 0 then (s, true)
  else if ecc = 1 then (s.incSat (Reg.CAMRX_PORT_ECC_CORR c) 1, true)
  else (s.incSat (Reg.CAMRX_PORT_ECC_FAIL c) 1, false)

/-- The receiver of a port is on. -/
def State.camOn (s : State) (c : Nat) : Bool := cEnable (s.camRecordNow c) == 1

/-- A Frame Start in framed mode ends an open frame and begins another. -/
def State.camStart (s : State) (c vc : Nat) (ecc : Fin 3) : State :=
  let r := s.camRecordNow c
  let (s, use) := s.camHeader c ecc
  if use ∧ vc = cVc r ∧ !cCounted r then (s.frameEnd c).frameBegin c else s

/-- A Frame End in framed mode. -/
def State.camStop (s : State) (c vc : Nat) (ecc : Fin 3) : State :=
  let r := s.camRecordNow c
  let (s, use) := s.camHeader c ecc
  if use ∧ vc = cVc r ∧ !cCounted r then s.frameEnd c else s

/-- A long packet (R217). (Mark: DEDUCED, log 60) -/
def State.camLong (s : State) (c vc dt : Nat) (ecc : Fin 3) (pix : List Nat) (crcOk overflow : Bool) : State :=
  let r := s.camRecordNow c
  let (s, use) := s.camHeader c ecc
  if !use then s
  else if vc ≠ cVc r ∨ dt ≠ cDt r then s.incSat (Reg.CAMRX_PORT_FOREIGN c) 1
  else s.camLine c pix crcOk (ecc == 1) overflow

/-- CSI_FRAME_START (R220). -/
def execCsiFrameStart (c : Fin 4) (vc : Nat) (ecc : Fin 3) (t : Nat) (s : State) : Host.Outcome State Fault Refusal :=
  eventAwake t (fun s => s.when (s.camOn c) (·.camStart c vc ecc)) s

/-- CSI_FRAME_END (R220). -/
def execCsiFrameEnd (c : Fin 4) (vc : Nat) (ecc : Fin 3) (t : Nat) (s : State) : Host.Outcome State Fault Refusal :=
  eventAwake t (fun s => s.when (s.camOn c) (·.camStop c vc ecc)) s

/-- CSI_LONG_PACKET (R224): the samples of its payload, and whether its CRC-16 matches.
(Mark: DESIGN CHOICE, log 56) -/
def execCsiLongPacket (c : Fin 4) (vc dt : Nat) (ecc : Fin 3) (pix : List Nat) (crcOk overflow : Bool) (t : Nat)
    (s : State) : Host.Outcome State Fault Refusal :=
  eventAwake t (fun s => s.when (s.camOn c) (·.camLong c vc dt ecc pix crcOk overflow)) s

/-- CAM_LINE_TIMEOUT (R220). -/
def execCamLineTimeout (c : Fin 4) (t : Nat) (s : State) : Host.Outcome State Fault Refusal :=
  eventAwake t (fun s => s.when (match (s.camPort c).open_ with
    | some f =>
      let us := cTimeout (s.camRecordNow c)
      us != 0 && decide (f.lastAt + us * usSteps ≤ s.now)
    | none => false) (·.frameEnd c)) s

/-! ### CAM_CONFIG (R218, R232) -/

/-- A record written to a port, by CAM_CONFIG or to its words: its status and the state after it.
(Mark: DEDUCED, log 59; DEDUCED, log 62) -/
def State.writeCam (s : State) (c : Nat) (r : List Byte) : Nat × State :=
  if cEnable r ≠ 0 ∧ !camRecordOk r then (stBadParam, s)
  else if cEnable r ≠ 0 ∧ (touchesProt (cRawAddr r) (cRawSlots r * cRawSlot r) ||
      touchesProt (cOutAddr r) (cOutSlots r * cOutSlot r)) then (stProtected, s)
  else if s.get Reg.ISP_INLINE_PORT = c ∧ s.camReceiving c then (stBadState, s)
  else
    let s := (List.range 24).foldl (fun s w => s.set (Reg.CAMRX_PORT_REC_WORD c w) (u32 r (4 * w))) s
    (stOk, (if cEnable r = 0 then s.frameEnd c else s).showCams)

/-- CAM_CONFIG. (Mark: DEDUCED, log 62) -/
def cmdCamConfig (c : Nat) (record : List Byte) (s : State) : Res :=
  if 3 < c ∨ record.length ≠ 96 then Res.err stBadParam s
  else
    let (st, s) := s.writeCam c record
    ⟨st, [], s, false⟩

/-! ### The pipeline (R225) -/

/-- Saturation to 16 bits. -/
def clampU16 (x : Int) : Nat := (clampI 0 65535 x).toNat

/-- A sample at 16-bit full scale. -/
def scaleSample (r : List Byte) (v : Nat) : Nat :=
  if cDt r = 0x2A ∨ cDt r = 0x24 then v * 256 else if cDt r = 0x2B then v * 64 else v * 16

/-- The frame sizer. -/
def sized (r : List Byte) (row : List Nat) (x ch : Nat) : Nat :=
  let b := 2 ^ cBin r
  let k := cComps r
  let t := ((List.range b).map (fun i => scaleSample r (row.getD ((cColStart r + x * b + i) * k + (if k = 3 then ch else 0)) 0))).sum
  (t + b / 2) / b

/-- The colour of a Bayer site: 0 R, 1 G, 2 B. -/
def siteColour (r : List Byte) (y x : Nat) : Nat :=
  let i := (y % 2) * 2 + (x + cColStart r) % 2
  (match cCfa r with
    | 0 => [0, 1, 1, 2]
    | 1 => [1, 0, 2, 1]
    | 2 => [1, 2, 0, 1]
    | _ => [2, 1, 1, 0]).getD i 1

/-- A row of sites that holds R sites. -/
def redRow (r : List Byte) (y : Nat) : Bool := siteColour r y 0 == 0 || siteColour r y 1 == 0

/-- The colour index for BLACK and WB. -/
def cidx (r : List Byte) (y x ch : Nat) : Nat :=
  match cKind r with
  | 0 => 1
  | 1 => let c := siteColour r y x
         if c = 0 then 0 else if c = 2 then 3 else if redRow r y then 1 else 2
  | _ => if ch = 0 then 0 else if ch = 1 then 1 else 3

/-- GAIN and OFFSET of a column, and a tone entry (R226). -/
def State.ffGain (s : State) (c x : Nat) : Nat := leNat (s.readTab false (tabBase + 0x400000 + c * 0x10000 + 4 * x) 2)
def State.ffOffset (s : State) (c x : Nat) : Int := iAt (s.readTab false (tabBase + 0x400000 + c * 0x10000 + 4 * x + 2) 2) 0 2
def State.camTone (s : State) (c k i : Nat) : Nat :=
  leNat (s.readTab false (tabBase + 0x440000 + c * 0x2000 + 2048 * k + 2 * i) 2)

/-- Black level, flat field and white balance. -/
def State.camPre (s : State) (f : CamFrame) (y x ch : Nat) : Nat :=
  let r := f.record
  let i := cidx r y x ch
  let v : Int := max 0 ((sized r (f.rows.getD y []) x ch : Int) - cBlack r i)
  let v := clampU16 (sar (v * s.ffGain f.port x + 8192) 14 + s.ffOffset f.port x)
  clampU16 (sar (v * cWb r i + 2048) 12)

/-- A coordinate mirrored at the edges of a length. (Mark: DEDUCED, log 63) -/
def mirror (n : Nat) (i : Int) : Nat :=
  if i < 0 then (-i).toNat else if (n : Int) ≤ i then (2 * (n : Int) - 2 - i).toNat else i.toNat

/-- The demosaic of a Bayer frame of `n` lines. (Mark: DEDUCED, log 63) -/
def State.bayer (s : State) (f : CamFrame) (n y x c : Nat) : Nat :=
  let r := f.record
  if siteColour r y x = c then s.camPre f y x 0
  else
    let near := [((-1 : Int), (-1 : Int)), (-1, 0), (-1, 1), (0, -1), (0, 1), (1, -1), (1, 0), (1, 1)].filter (fun d =>
      siteColour r ((y : Int) + d.1 + 2).toNat ((x : Int) + d.2 + 2).toNat == c)
    let vs := near.map (fun d =>
      if n = 1 ∧ d.1 ≠ 0 then 0 else s.camPre f (mirror n (y + d.1)) (mirror (cOutWidth r) (x + d.2)) 0)
    (vs.sum + near.length / 2) / max 1 near.length

/-- Demosaic or alignment: the three colours of a pixel. -/
def State.camRgb (s : State) (f : CamFrame) (n y x : Nat) : List Nat :=
  let r := f.record
  match cKind r with
  | 0 => let g := s.camPre f y x 0
         [g, g, g]
  | 1 => [s.bayer f n y x 0, s.bayer f n y x 1, s.bayer f n y x 2]
  | 2 => [s.camPre f y x 0, s.camPre f y x 1, s.camPre f y x 2]
  | _ => (List.range 3).map (fun ch => s.camPre f (y - cTriD r ch) x ch)

/-- The matrix and the tone curves. -/
def State.camOut (s : State) (f : CamFrame) (n y x : Nat) : List Nat :=
  let rgb := s.camRgb f n y x
  (List.range 3).map (fun k =>
    let m := (List.range 3).map (fun j => cMatrix f.record k j * ((rgb.getD j 0 : Nat) : Int))
    let o := clampU16 (sar (m.sum + 8192) 14)
    let i := o / 64
    let q := o % 64
    (s.camTone f.port k i * (64 - q) + s.camTone f.port k (min (i + 1) 1023) * q + 32) / 64)

/-- A line as the pipeline puts it out. -/
def State.camRow (s : State) (f : CamFrame) (n y : Nat) : List Nat :=
  (List.range (cOutWidth f.record)).flatMap (s.camOut f n y)

/-- The bytes of a row in the output ring (R233). -/
def outBytes (r : List Byte) (row : List Nat) : List Byte :=
  let vs := if cOutCh r = 0 then row
    else (List.range (cOutWidth r)).map (fun x => row.getD (3 * x + (cOutCh r - 1)) 0)
  if cOutFmt r = 1 then vs.map (fun v => BitVec.ofNat 8 (v / 256)) else vs.flatMap (leBytes 2)

/-! ### Processing (R228 to R230, R233) -/

/-- ROI records of a port, by index (R235). -/
def State.roisOf (s : State) (c : Nat) : List (Nat × List Byte) :=
  ((List.range 256).map (fun i => (i, s.readTab false (tabBase + 0x448000 + 16 * i) 16))).filter (fun x =>
    u8 x.2 11 == 1 && u8 x.2 8 == c)

/-- Processing of a frame begins: its ROI records, and its slot of the output ring. -/
def State.beginFrame (s : State) (f : CamFrame) : State × CamFrame :=
  if f.rois.isSome then (s, f)
  else
    let f := { f with rois := some (s.roisOf f.port) }
    let r := f.record
    if cOutFmt r = 0 then (s, f)
    else
      let k := (s.camPort f.port).outNext % max 1 (cOutSlots r)
      let f := { f with outSlot := k, outAddr := cOutAddr r + k * cOutSlot r }
      let s := s.modCam f.port (fun x => { x with outNext := (k + 1) % max 1 (cOutSlots r) })
      s.camWrite f f.outAddr (leBytes 4 0xFFFFFFFF)

/-- The pipeline has the lines that line `y` of a frame needs. (Mark: DEDUCED, log 63) -/
def CamFrame.lineReady (f : CamFrame) (y : Nat) : Bool :=
  decide (y < f.rows.length) && (cKind f.record != 1 || f.ended || decide (y + 1 < f.rows.length))

/-- Read the next row of a raw slot: pixels of an uncorrectable block read 0 and mark the frame (R276). -/
def State.readRaw (s : State) (f : CamFrame) : State × CamFrame :=
  let y := f.rows.length
  if f.kept ≤ y then (s, f)
  else
    let a := f.slotAddr + 256 + y * cRawStride f.record
    let n := cInWidth f.record * cComps f.record * cSampleBytes f.record
    let s := s.waitFills a n
    let bad := s.badBlocks a n
    let bs := s.readZeroed a n
    let s := ((s.meetCes a n).used.meetUes bad 6)
    (s, { f with rows := f.rows ++ [rawSamples f.record bs], crc := f.crc || !bad.isEmpty })

/-- One line through the pipeline. -/
def State.procLine (s : State) (f : CamFrame) : State × CamFrame :=
  let y := f.outs.length
  let row := s.camRow f f.rows.length y
  let f := { f with outs := f.outs ++ [row] }
  if cOutFmt f.record = 0 then (s, f)
  else s.camWrite f (f.outAddr + 256 + y * cOutStride f.record) (outBytes f.record row)

/-- An in-line frame with a line that the pipeline can process: the first that has ended, else the open one. -/
def CamFrame.hasLine (f : CamFrame) : Bool := f.placed && f.inline_ && f.lineReady f.outs.length

/-- Put a frame back where it stands. -/
def State.putFrame (s : State) (f : CamFrame) : State :=
  if !f.ended then s.modCam f.port (fun x => { x with open_ := some f })
  else { s with cam := { s.cam with
    inl := s.cam.inl.map (fun g => if g.port = f.port ∧ g.num = f.num then f else g),
    queue := s.cam.queue.map (fun g => if g.port = f.port ∧ g.num = f.num then f else g) } }

/-- One line of the in-line frame, which has precedence (R228). -/
def State.inlineLine (s : State) (f : CamFrame) : State :=
  let s := match s.cam.queue with
    | g :: _ => if g.rois.isSome ∧ g.outs.length < g.kept then s.inc Reg.ISP_YIELDS else s
    | [] => s
  let (s, f) := s.beginFrame f
  let (s, f) := s.procLine f
  s.putFrame f

/-- One line of the first frame in the raw rings (R228, R230). -/
def State.memLine (s : State) (f : CamFrame) : State :=
  let (s, f) := s.beginFrame f
  let (s, f) := s.readRaw f
  let (s, f) := if cKind f.record = 1 ∧ f.rows.length ≤ f.outs.length + 1 then s.readRaw f else (s, f)
  let (s, f) := s.procLine f
  (s.putFrame f).showCams

/-- PIPELINE_LINE's effect. -/
def State.pipelineLine (s : State) : State :=
  match (s.cam.inl ++ s.cam.ports.filterMap (·.open_)).find? CamFrame.hasLine with
  | some f => s.inlineLine f
  | none => match s.cam.queue with
    | f :: _ => if f.outs.length < f.kept ∧ !s.critical then s.memLine f else s
    | [] => s

/-- PIPELINE_LINE (R228); processing from memory stands still at LEVEL 3 (R443). -/
def execPipelineLine (t : Nat) (s : State) : Host.Outcome State Fault Refusal := eventAwake t State.pipelineLine s

/-! ### Statistics (R235 to R237) -/

/-- A record keeps the limits of R235. -/
def roiOk (r : List Byte) : Bool :=
  u8 r 11 == 0 ||
  (u8 r 11 == 1 && decide (1 ≤ u16 r 2 ∧ u16 r 0 + u16 r 2 ≤ 16384 ∧ 1 ≤ u16 r 6 ∧ u16 r 4 + u16 r 6 ≤ 65536) &&
    decide (u8 r 8 ≤ 3 ∧ u8 r 9 ≤ 3 ∧ u8 r 10 ≤ 3) && zerosAt r 12 4)

/-- The records of a parameter block. -/
def roisIn (b : List Byte) : List (List Byte) := (List.range (b.length / 16)).map (fun i => (b.drop (16 * i)).take 16)

/-- ROI_SET (R235). -/
def cmdRoiSet (first : Nat) (records : List Byte) (s : State) : Res :=
  if 256 < first + records.length / 16 ∨ !(roisIn records).all roiOk then Res.err stBadParam s
  else Res.ok (s.putTabs false (tabBase + 0x448000 + 16 * first) records)

/-- A channel of an output pixel; 3 is luma. -/
def channel (row : List Nat) (x ch : Nat) : Nat :=
  if ch < 3 then row.getD (3 * x + ch) 0
  else (77 * row.getD (3 * x) 0 + 150 * row.getD (3 * x + 1) 0 + 29 * row.getD (3 * x + 2) 0 + 128) / 256

/-- MEAN and VARIANCE of samples (R236). -/
def roiStats (vs : List Nat) : Nat × Nat :=
  let n := vs.length
  let s1 := vs.sum
  let s2 := (vs.map (fun v => v * v)).sum
  ((s1 * 131072 + n) / (2 * n), min ((((n * s2 - s1 * s1) * 2) + n * n) / (2 * n * n)) (2 ^ 32 - 1))

/-- The sampled values of a ROI in a frame. -/
def roiValues (f : CamFrame) (r : List Byte) : List Nat :=
  let step := 2 ^ u8 r 10
  let cols := ((List.range (u16 r 2)).filter (fun i => i % step == 0)).map (fun i => u16 r 0 + i)
  let rows := ((List.range (u16 r 6)).filter (fun i => i % step == 0)).map (fun i => u16 r 4 + i)
  rows.flatMap (fun y => (cols.filter (fun x => decide (x < cOutWidth f.record))).map (fun x =>
    channel (f.outs.getD y []) x (u8 r 9)))

/-- One ROI at the end of a frame (R236). (Mark: DEDUCED, log 67) -/
def State.roiUpdate (s : State) (f : CamFrame) (i : Nat) (r : List Byte) : State :=
  let vs := roiValues f r
  let cut := decide (cOutWidth f.record < u16 r 0 + u16 r 2)
  if f.outs.length < u16 r 4 + u16 r 6 ∨ vs.isEmpty then
    let s := s.setB (Reg.MEASURE_ROI_INFO_STALE i) true
    if cut then s.setB (Reg.MEASURE_ROI_INFO_CLIPPED i) true else s
  else
    let s := { s with cam := { s.cam with stats := modAt (fun _ => roiStats vs) i s.cam.stats } }
    let s := (s.set (Reg.MEASURE_ROI_INFO_FRAME i) f.num).setB (Reg.MEASURE_ROI_INFO_VALID i) true
    let s := (s.setB (Reg.MEASURE_ROI_INFO_STALE i) false).setB (Reg.MEASURE_ROI_INFO_SUSPECT i) (f.crc || f.len)
    s.setB (Reg.MEASURE_ROI_INFO_CLIPPED i) cut

/-- The results of a port are updated together (R237). -/
def State.roiUpdates (s : State) (f : CamFrame) : State :=
  ((f.rois.getD []).foldl (fun s x => s.roiUpdate f x.1 x.2) s).set (Reg.MEASURE_FRAME f.port) f.num

/-- STATS_READ. (Mark: DEDUCED, log 64) -/
def cmdStatsRead (first count : Nat) (s : State) : Res :=
  if 1 ≤ count ∧ first + count ≤ 256 then
    Res.okData ((List.range count).flatMap (fun i =>
      let x := s.cam.stats.getD (first + i) (0, 0)
      leBytes 4 x.1 ++ leBytes 4 x.2)) s
  else Res.err stBadParam s

/-- A frame whose processing has ended: an in-line one first, else the first of the raw rings. -/
def State.doneFrame (s : State) (c : Nat) : Option CamFrame :=
  match s.cam.inl.find? (fun f => f.port == c && f.outs.length == f.kept) with
  | some f => some f
  | none => match s.cam.queue with
    | f :: _ => if f.port = c ∧ f.outs.length = f.kept then some f else none
    | [] => none

/-- The end of a frame's processing: the output header and OUT_LAST, the slot, and the statistics (R230, R233, R237). -/
def State.finishFrame (s : State) (f : CamFrame) : State × CamFrame :=
  let (s, f) := if cOutFmt f.record = 0 then (s, f) else s.camWrite f f.outAddr (f.header f.short f.long)
  let s := if cOutFmt f.record = 0 then s
    else (s.set (Reg.CAMRX_PORT_OUT_LAST_SLOT f.port) f.outSlot).set (Reg.CAMRX_PORT_OUT_LAST_FRAME f.port) f.num
  let other := fun (g : CamFrame) => !(g.port == f.port && g.num == f.num)
  let s := { s with cam := { s.cam with inl := s.cam.inl.filter other, queue := s.cam.queue.filter other } }
  ((s.roiUpdates f).showCams, f)

/-! ### CAM_TRIG (R234) -/

/-- A time-trigger event of trigger `c` drives CAM_TRIG high. -/
def State.camPulse (s : State) (c : Nat) : State :=
  s.modCam c (fun x => { x with trigEnd := some (s.now + 8 * max 1 (s.get (Reg.CAMRX_TRIG_WIDTH c))) })

/-- The level of CAM_TRIGc. -/
def State.camTrig (s : State) (c : Nat) : Bool :=
  (match (s.camPort c).trigEnd with | some e => decide (s.now < e) | none => false) ||
    (s.pinUnits (16 + c)).any s.pulseHigh

/-- CAM_TRIG_PULSE_END (R234). -/
def execCamTrigPulseEnd (k : Fin 4) (t : Nat) (s : State) : Host.Outcome State Fault Refusal :=
  event t (fun s => s.when (match (s.camPort k).trigEnd with | some e => decide (e ≤ s.now) | none => false)
    (·.modCam k (fun x => { x with trigEnd := none }))) s

end Sys2Proof.Machine
end

