-- ==== Sys2Proof/Machine/LaneLine.lean ====
section
/-! DEFINITION. The line of a lane: scrambler, markers, blocks, stuffing, pad and wind-up burst, as a port sends them and
as a receiver undoes them (16_link_physical.md R344 to R355, R364). -/

namespace Sys2Proof.Machine

/-! ### Scrambler (R349) -/

/-- One step of the PRBS31 generator: the state after it. -/
def prbsStep (x : Nat) : Nat := low 31 (x * 2 + (bits x 30 1 + bits x 27 1) % 2)

/-- The bit that the step gives. -/
def prbsBit (x : Nat) : Bool := xor (bit x 30) (bit x 27)

/-- `n` steps. -/
def prbsAdv : Nat → Nat → Nat
  | 0, x => x
  | n + 1, x => prbsAdv n (prbsStep x)

/-- Scramble, or descramble, payload bits. -/
def scramble : Nat → List Bool → List Bool
  | _, [] => []
  | x, b :: bs => xor b (prbsBit x) :: scramble (prbsStep x) bs

/-! ### Stuffing (R354) -/

/-- The transmitter's stuffing: `last` undefined at the start, and the run so far. -/
def stuff : Option Bool → Nat → List Bool → List Bool
  | _, _, [] => []
  | last, run, b :: bs =>
    let run := if last = some b then run + 1 else 1
    if run = 31 then b :: (!b) :: stuff (some (!b)) 1 bs else b :: stuff (some b) run bs

/-- `last` and `run` after line bits, stuffed bits among them. -/
def lineRun : Option Bool → Nat → List Bool → Option Bool × Nat
  | last, run, [] => (last, run)
  | last, run, b :: bs => lineRun (some b) (if last = some b then run + 1 else 1) bs

/-- The receiver's destuffing: the bits delivered, and the number of stuffed bits equal to the run before them. -/
def destuff : Option Bool → Nat → Bool → List Bool → List Bool × Nat
  | _, _, _, [] => ([], 0)
  | last, run, drop, b :: bs =>
    if drop then
      let (d, e) := destuff (some b) 1 false bs
      (d, if last = some b then e + 1 else e)
    else
      let run := if last = some b then run + 1 else 1
      let (d, e) := destuff (some b) run (run == 31) bs
      (b :: d, e)

/-! ### Alignment marker (R351) -/

/-- An odd number of ones in the low `n` bits. -/
def oddOnes : Nat → Nat → Bool
  | 0, _ => false
  | n + 1, x => xor (bit x n) (oddOnes n x)

/-- SYNC of a marker and its complement. -/
def markerSync : Nat := 0xD52B1C
def markerAnti : Nat := 0x2AD4E3

/-- SYNC, CHECK and a non-zero SEED are all correct. -/
def markerValid (m : Nat) : Bool := bits m 0 24 == markerSync && oddOnes 64 m && bits m 32 31 != 0

/-- The marker that lane `k` of a port sends. -/
def markWord (k : Nat) (seen idle : Bool) (width rate seed : Nat) : Nat :=
  let m := markerSync + 2 ^ 24 * low 2 k + 2 ^ 26 * seen.toNat + 2 ^ 27 * idle.toNat + 2 ^ 28 * low 2 width +
    2 ^ 30 * low 2 rate + 2 ^ 32 * low 31 seed
  if oddOnes 63 m then m else m + 2 ^ 63

/-! ### Blocks (R347, R348, R352, R364) -/

/-- Payload bits, and bytes, of a block on one lane (R347). -/
def blockBits : Nat := 16320
def blockBytes : Nat := 2040

/-- The low `n` bits of a word, least significant first. -/
def lsbBits (n w : Nat) : List Bool := (List.range n).map (bit w)

/-- The payload bits of lane `k` of `w`: byte i of the port's stream goes to lane i mod w (R347). -/
def lanePayload (w k : Nat) (block : List Byte) : List Bool :=
  (List.range blockBytes).flatMap (fun i => lsbBits 8 (block.getD (w * i + k) 0).toNat)

/-- UI 0 to 447 of the wind-up burst; the marker of the block that follows is its end (R364). -/
def windUp : List Bool := (List.range 448).map (fun i => if i < 256 then i % 2 == 0 else (i - 256) / 8 % 2 == 0)

/-- Pad bits: each is the complement of the line bit before it (R352). -/
def padBits : Bool → Nat → List Bool
  | _, 0 => []
  | last, n + 1 => (!last) :: padBits (!last) n

/-- The pad of a lane whose line ends before the longest of its port: at most 529 bits (R352).
(Mark: DESIGN CHOICE, log 163) -/
def padLen (longest len : Nat) : Nat := min 529 (longest - len)

/-- Bytes of the port's stream in one block. -/
def Port.blockLen (q : Port) : Nat := blockBytes * widthOf q.txWidth

/-- Lanes on which the port sends (R344). -/
def Port.txLanes (q : Port) : List Nat := List.range (widthOf q.txWidth)

/-- The lanes of a port are active: it sends blocks. Every other lane holds its transmitter in electrical idle (R344,
R346, R359, R363). -/
def Port.sends (q : Port) : Bool :=
  q.phase == .training || q.phase == .up || q.phase == .waking || (q.phase == .settling && q.zeros != 0)

/-- A lane's line for the block in progress, pad excluded: the burst where one precedes it, the marker and the scrambled
payload, all of it stuffed (R348). (Mark: DESIGN CHOICE, log 163) -/
def State.laneLine (s : State) (p k : Nat) (block : List Byte) : List Bool :=
  let q := s.port p
  let x := s.lane (4 * p + k)
  stuff x.txLast x.txRun ((if q.txBurst then windUp else []) ++ lsbBits 64 x.txMarker ++
    scramble x.txScr (lanePayload (widthOf q.txWidth) k block))

/-- A lane has sent line bits. -/
def Lane.sent (x : Lane) (line : List Bool) : Lane :=
  let r := lineRun x.txLast x.txRun line
  { x with txLine := line, txLast := r.1, txRun := r.2 }

/-- The block in progress ends: each lane's line with its pad, and the scramblers after the payload (R349, R352). -/
def State.endBlock (s : State) (p : Nat) (block : List Byte) : State :=
  let q := s.port p
  let longest := (q.txLanes.map (fun k => (s.laneLine p k block).length)).foldl max 0
  let put := fun (r : State) (k : Nat) =>
    let line := s.laneLine p k block
    r.modLane (4 * p + k) (fun x =>
      { x.sent (line ++ padBits (line.getLastD false) (padLen longest line.length)) with
        txScr := prbsAdv blockBits x.txScr })
  (q.txLanes.foldl put s).modPort p (fun q => { q with
    txBurst := false, txBlock := [], zeros := if q.seenTx then q.zeros else q.zeros - 1 })

/-- SEEN of the markers that a port sends next (R351, R357, R359, R364). -/
def Port.nextSeen (q : Port) : Bool :=
  q.phase == .up || q.phase == .waking || (q.phase == .training && q.seenDue && q.zeros == 0)

/-- The markers of the next block, with the scrambler states before its payload (R349, R351). -/
def State.startBlock (s : State) (p : Nat) (idle : Bool) : State :=
  let q := s.port p
  (q.txLanes.foldl (fun r k => r.modLane (4 * p + k) (fun x => { x with
    txMarker := markWord k q.nextSeen idle q.txWidth q.txRate x.txScr })) s).modPort p (fun q => { q with
      seenTx := q.nextSeen })

/-- A port starts with a wind-up burst: stuffing starts afresh (R354), and its marker starts the first block (R364).
(Mark: DESIGN CHOICE, log 163) -/
def State.sendBurst (s : State) (p : Nat) : State :=
  let s := (List.range 4).foldl (fun s k => s.modLane (4 * p + k) (fun x => { x with
    txLast := none, txRun := 0, txLine := [], txMarker := 0 })) s
  (s.modPort p (fun q => { q with txBurst := true, txBlock := [] })).startBlock p false

/-- Bytes of the port's payload stream leave; a block that they complete ends, and the next one starts (R347). -/
def State.sendBytes (s : State) (p : Nat) (bs : List Byte) : State :=
  let b := (s.port p).txBlock ++ bs
  let n := (s.port p).blockLen
  if b.length < n then s.modPort p (fun q => { q with txBlock := b })
  else ((s.endBlock p (b.take n)).startBlock p false).modPort p (fun q => { q with txBlock := b.drop n })

/-- Payload bytes whose content the spec leaves open. (Mark: DESIGN CHOICE, log 163) -/
def State.fillBytes (s : State) (n : Nat) : List Byte := (List.range n).map (Config.freeByte s.free)

/-- The IDLE_NEXT marker on every lane, with no payload after it: the rest of the block in progress has gone out before it
(R363). (Mark: DESIGN CHOICE, log 163) -/
def State.sendIdleNext (s : State) (p : Nat) : State :=
  let q := s.port p
  let s := ((s.endBlock p (q.txBlock ++ s.fillBytes (q.blockLen - q.txBlock.length))).used).startBlock p true
  q.txLanes.foldl (fun r k => r.modLane (4 * p + k) (fun x =>
    x.sent (stuff x.txLast x.txRun (lsbBits 64 x.txMarker)))) s

/-! ### The receiver's side of a line (R348, R353) -/

/-- The marker that starts destuffed bits, and the bits after it. -/
def takeMarker (bs : List Bool) : Nat × List Bool :=
  ((bs.take 64).foldr (fun b m => b.toNat + 2 * m) 0, bs.drop 64)

/-- The first position where SYNC matches within `n` bits: the pad before it, the marker, and the bits after it (R353). -/
def seekMarker : Nat → Nat → List Bool → Option (Nat × Nat × List Bool)
  | 0, _, _ => none
  | n + 1, pad, bs =>
    let m := takeMarker bs
    if bits m.1 0 24 = markerSync then some (pad, m.1, m.2)
    else match bs with
      | [] => none
      | _ :: l => seekMarker n (pad + 1) l

/-- The window of R353: the search goes no further than 544 bits past the end of the payload. -/
def padLimit : Nat := 544

/-- A block out of a lane's line: destuffing, marker search, descrambling (R348). (Mark: DESIGN CHOICE, log 163) -/
def readBlock (last : Option Bool) (run : Nat) (line : List Bool) : Option (Nat × List Bool) :=
  (seekMarker (padLimit + 1) 0 (destuff last run false line).1).map (fun r =>
    (r.2.1, scramble (bits r.2.1 32 31) (r.2.2.take blockBits)))

/-! ### Transmit equalisation (R355) -/

/-- A line bit taken as ±1. -/
def pm (b : Bool) : Int := if b then 1 else -1

/-- V(n) of a line bit, in units of VFS / 63: from the next bit, the bit and the one before it. -/
def tapLevel (e : Nat × Nat × Nat) (next cur prev : Bool) : Int :=
  -(e.1 : Int) * pm next + e.2.1 * pm cur - e.2.2 * pm prev

/-- The levels of the inner bits of a lane's last block (R355). -/
def State.laneLevels (s : State) (p k : Nat) : List Int :=
  let l := (s.lane (4 * p + k)).txLine
  (l.zip ((l.drop 1).zip (l.drop 2))).map (fun x => tapLevel (s.port p).eqUsed x.2.2 x.2.1 x.1)

end Sys2Proof.Machine
end

