-- ==== Sys2Proof/Machine/Lanes.lean ====
section
/-! DEFINITION. What happens on the lanes and in the link layer of a port: markers, activity, wind-up bursts, idle,
flits received, time-outs and replays (16_link_physical.md, 17_link_transactions.md R366 to R376, R388). -/

namespace Sys2Proof.Machine

/-! ### Alignment markers (R350 to R358, R362, R363, R365) -/

/-- The marker as the receiver sees it after polarity: an inverted lane is inverted back; a complement of SYNC inverts
the lane from then on (R351). -/
def State.orient (s : State) (l m : Nat) : State × Nat :=
  let inv := s.flag (Reg.ZPHY_LANE_STATUS_POL_INV l)
  let m := if inv then 2 ^ 64 - 1 - low 64 m else low 64 m
  if bits m 0 24 = markerAnti then (s.setB (Reg.ZPHY_LANE_STATUS_POL_INV l) (!inv), 2 ^ 64 - 1 - m) else (s, m)

/-- Every lane of a port satisfies a condition. -/
def State.allLanes (s : State) (p : Nat) (f : Nat → Bool) : Bool := (s.lanesOf p).all f

/-- A block passes on a lane: it counts from the first one accepted with SEEN 1 (R366). -/
def Lane.block (x : Lane) (seen : Bool) : Lane :=
  { x with rxBlocks := if seen || x.rxBlocks != 0 then x.rxBlocks + 1 else 0 }

/-- A search window that ends without a valid marker (R353); at the fourth block in a row an up port goes down
(R359 cause 1). (Mark: DEDUCED, log 18) -/
def State.markerMiss (s : State) (l : Nat) : State :=
  let p := l / 4
  let s := s.incSat (Reg.ZPHY_LANE_MARKER_ERR_COUNT l) 1
  let s := s.modLane l (fun x => { x.block false with
    good := 0, missed := x.missed + 1, seen1 := 0, seen0 := 0, scr := x.scr.map (prbsAdv blockBits) })
  if 4 ≤ (s.lane l).missed then
    let s := (s.loseLock l).portMasks p
    if (s.port p).phase = .up then s.linkDown p 1 .training else s.modPort p (fun q => { q with seenDue := false })
  else s

/-- SEED of an accepted marker: loaded always, and counted where it differs from the state that the receiver would
have continued with (R350). -/
def State.loadSeed (s : State) (l seed : Nat) : State :=
  let s := match (s.lane l).scr with
    | some x => if prbsAdv blockBits x = seed then s else s.incSat (Reg.ZPHY_LANE_SEED_ERR_COUNT l) 1
    | none => s
  s.modLane l (fun x => { x with scr := some seed })

/-- A port that trains comes up once its own markers have SEEN 1 and 2 consecutive valid markers on every lane had it
(R358). -/
def State.tryUp (s : State) (p : Nat) : State :=
  let q := s.port p
  if q.phase = .training ∧ q.seenTx ∧ q.seenDue ∧ q.zeros = 0 ∧ s.allLanes p (fun k => 2 ≤ (s.lane k).seen1) then
    s.linkUp p
  else s

/-- What a port does once a lane's marker has been taken: deskew and SEEN, up, up again, training for want of lock, down
by SEEN 0, or idle (R357 to R359, R362, R363, R365). (Mark: DEDUCED, log 17; DEDUCED, log 128) -/
def State.afterMarker (s : State) (p l : Nat) : State :=
  let q := s.port p
  let locked := s.allLanes p (fun k => s.flag (Reg.ZPHY_LANE_STATUS_MARKER_LOCK k))
  match q.phase with
  | .training => (s.modPort p (fun q => { q with seenDue := locked })).tryUp p
  | .waking =>
    if q.woken then (if locked ∧ s.allLanes p (fun k => 2 ≤ (s.lane k).seen1) then s.linkAgain p else s)
    else if locked ∧ s.allLanes p (fun k => 2 ≤ (s.lane k).good) then s.linkAgain p else s
  | .up =>
    if !locked then s.leaveUp p .training
    else if 2 ≤ (s.lane l).seen0 then s.linkDown p 2 .training
    else if s.allLanes p (fun k => s.flag (Reg.ZPHY_LANE_STATUS_IDLE_RX k)) then
      (s.modPort p (fun q => { q with phase := .idle, idleOrder := none, txBlock := [] })).setB
        (Reg.ZPHY_PORT_STATUS_IDLE p) true
    else s
  | _ => s

/-- A valid marker's SEED, fields and skew on the lane (R350, R351, R357, R358, R362, R366). -/
def State.acceptMarker (s : State) (l m skew : Nat) : State :=
  let p := l / 4
  let s := s.loadSeed l (bits m 32 31)
  let seen := bit m 26
  let bad := bits m 24 2 != l % 4
  let width := bits m 28 2 != s.get (Reg.ZPHY_PORT_STATUS_WIDTH_USED p)
  let far := decide (400 < skew)
  let s := (s.set (Reg.ZPHY_LANE_STATUS_LANE_RX l) (bits m 24 2)).setB (Reg.ZPHY_LANE_STATUS_SEEN_RX l) seen
  let s := (s.setB (Reg.ZPHY_LANE_STATUS_IDLE_RX l) (bit m 27)).set (Reg.ZPHY_LANE_STATUS_SKEW l) (min skew 511)
  s.modLane l (fun x => { x.block seen with
    good := if bad || width || far then 0 else x.good + 1, missed := 0, badLane := bad, badWidth := width, far := far,
    seen1 := if seen then x.seen1 + 1 else 0, seen0 := if seen then 0 else x.seen0 + 1 })

/-- Marker lock after a valid marker: kept, gained by 3 in a row or, at a powered receiver, by the burst's marker, and
lost by skew (R357, R362, R365). A woken receiver counts SEEN 1 from its lock on. -/
def State.judgeLock (s : State) (l : Nat) : State :=
  let q := s.port (l / 4)
  let x := s.lane l
  let had := s.flag (Reg.ZPHY_LANE_STATUS_MARKER_LOCK l)
  if x.far then s.loseLock l
  else if had then s
  else if 3 ≤ x.good ∨ (q.phase = .waking ∧ !q.woken ∧ 1 ≤ x.good) then
    (s.setB (Reg.ZPHY_LANE_STATUS_MARKER_LOCK l) true).when (q.phase == .waking && q.woken) (·.modLane l (fun x => { x with seen1 := 0 }))
  else s

/-- A marker that a lane's receiver takes, with what it measured since the one before: pad bits, stuffed bits removed,
stuffed bits in error, and the lane's deskew delay. A pad beyond the window of R353 is a miss.
(Mark: DEDUCED, log 18; DEDUCED, log 128; DESIGN CHOICE, log 163) -/
def State.onMarker (s : State) (l marker pad stuffs stuffErrs skew : Nat) : State :=
  let p := l / 4
  if (s.port p).phase ∉ [.training, .up, .waking] ∨ l ∉ s.lanesOf p then s
  else
    let s := (s.set (Reg.ZPHY_LANE_STUFFS_COUNT l) (s.get (Reg.ZPHY_LANE_STUFFS_COUNT l) + stuffs)).incSat
      (Reg.ZPHY_LANE_STUFF_ERR_COUNT l) stuffErrs
    let (s, m) := s.orient l marker
    if !markerValid m || decide (padLimit < pad) then s.markerMiss l
    else
      let s := s.set (Reg.ZPHY_LANE_PAD_MAX_BITS l) (max (s.get (Reg.ZPHY_LANE_PAD_MAX_BITS l)) pad)
      (((s.acceptMarker l m skew).judgeLock l).portMasks p).afterMarker p l

/-- ALIGNMENT_MARKER. -/
def execAlignmentMarker (l : Fin 16) (marker pad stuffs stuffErrs skew t : Nat) (s : State) :
    Host.Outcome State Fault Refusal :=
  event t (fun s => s.onMarker l marker pad stuffs stuffErrs skew) s

/-- MARKER_WINDOW_MISS (R353). -/
def execMarkerWindowMiss (l : Fin 16) (t : Nat) (s : State) : Host.Outcome State Fault Refusal :=
  event t (fun s => s.when (l.val ∈ s.lanesOf (l / 4) && (s.port (l / 4)).phase ∈ [.training, .up, .waking])
    (fun s => s.markerMiss l)) s

/-- BIT_LOCK (R357). -/
def execBitLock (l : Fin 16) (t : Nat) (s : State) : Host.Outcome State Fault Refusal :=
  event t (fun s => s.when (l.val ∈ s.lanesOf (l / 4) && (s.port (l / 4)).phase ∈ [.training, .up, .waking])
    (fun s => (s.setB (Reg.ZPHY_LANE_STATUS_BIT_LOCK l) true).setB (Reg.ZPHY_LANE_STATUS_ACTIVITY l) true)) s

/-! ### Clock, activity, idle (R346, R359 to R365, R388) -/

/-- Ports that are enabled. -/
def State.enabledPorts (s : State) : List Nat :=
  (List.range 4).filter (fun p => s.flag (Reg.ZPHY_PORT_CONFIG_ENABLE p))

/-- REFCLK_ZL_LOST (R346): every enabled port goes down with CAUSE 4 and rests. (Mark: DEDUCED, log 13) -/
def execRefclkZlLost (ppm : Int) (t : Nat) (s : State) : Host.Outcome State Fault Refusal :=
  event t (fun s =>
    let s := ((s.setB Reg.ZPHY_REFCLK_OK false).setB Reg.ZPHY_REFCLK_LOST true).setS Reg.ZPHY_REFCLK_FREQ_PPM ppm
    s.enabledPorts.foldl (fun s p => s.linkDown p 4 .held) s) s

/-- REFCLK_ZL_RESTORED (R346, R361): every enabled port restarts bring-up. -/
def execRefclkZlRestored (ppm : Int) (t : Nat) (s : State) : Host.Outcome State Fault Refusal :=
  event t (fun s =>
    let s := (s.setB Reg.ZPHY_REFCLK_OK true).setS Reg.ZPHY_REFCLK_FREQ_PPM ppm
    s.enabledPorts.foldl (fun s p => if (s.port p).phase = .held then s.resumePort p else s) s) s

/-- The lane clocks have settled: the port starts with its scramblers of R349 and the configuration in use, and sends its
wind-up burst and blocks with SEEN 0. -/
def State.startTraining (s : State) (p : Nat) : State :=
  let s := s.modPort p (fun q => { q with
    phase := .training, seenDue := false, txWidth := s.get (Reg.ZPHY_PORT_STATUS_WIDTH_USED p),
    txRate := s.get (Reg.ZPHY_PORT_STATUS_RATE_USED p) })
  ((List.range 4).foldl (fun s k => s.modLane (4 * p + k) (fun x => { x with txScr := (Lane.init k).txScr })) s).sendBurst p

/-- LANE_CLOCK_SETTLED (R360): it follows the blocks with SEEN 0 that a link-down left owed (R359). -/
def execLaneClockSettled (p : Fin 4) (t : Nat) (s : State) : Host.Outcome State Fault Refusal :=
  event t (fun s => s.when ((s.port p).phase == .settling && (s.port p).zeros == 0) (·.startTraining p)) s

/-- LANE_ACTIVITY_LOST (R359 cause 5). -/
def execLaneActivityLost (l : Fin 16) (t : Nat) (s : State) : Host.Outcome State Fault Refusal :=
  event t (fun s =>
    let p := l.val / 4
    let s := (s.setB (Reg.ZPHY_LANE_STATUS_ACTIVITY l) false).setB (Reg.ZPHY_LANE_STATUS_BIT_LOCK l) false
    if l.val ∈ s.lanesOf p ∧ (s.port p).phase = .up ∧ !s.flag (Reg.ZPHY_LANE_STATUS_IDLE_RX l) then
      s.linkDown p 5 .training else s) s

/-- WINDUP_UNANSWERED (R359 cause 6): 2 ms after the burst. -/
def execWindupUnanswered (p : Fin 4) (t : Nat) (s : State) : Host.Outcome State Fault Refusal :=
  event t (fun s => match (s.port p).burstAt with
    | some b => s.when (decide (b + 2 * msSteps ≤ s.now)) (fun s => s.linkDown p 6 .training)
    | none => s) s

/-- The port in idle sends its wind-up burst, and its lanes' runs of markers start again (R364). -/
def State.windUpPort (s : State) (p : Nat) (burst : Option Nat) (woken : Bool) : State :=
  ((s.modPort p (fun q => { q with phase := .waking, woken := woken, burstAt := burst })).lanesReset p).sendBurst p

/-- A port sends its wind-up burst (R364). -/
def State.leaveIdle (s : State) (p : Nat) : State :=
  if (s.port p).phase = .idle then s.windUpPort p (some s.now) false else s

/-- A powered receiver accepts the burst's marker as marker lock, and as a block with SEEN 1 (R365, R366). -/
def State.burstLock (s : State) (p : Nat) : State :=
  ((s.lanesOf p).foldl (fun s l => (s.modLane l (fun x => { x.block true with good := x.good + 1, seen1 := x.seen1 + 1 })).setB
    (Reg.ZPHY_LANE_STATUS_MARKER_LOCK l) true) s).portMasks p

/-- The wake port in force: ZP3 for a standby that dozes (R413). (Mark: DEDUCED, log 146) -/
def State.wakePort (s : State) : Nat := if s.power.dozing then 3 else s.get Reg.LADDER_WAKE_CFG_WAKE_PORT

/-- WIND_UP_BURST_RX (R364, R365): at a powered receiver, or at the wake port, whose activity detector woke it; another
resting port does not answer. (Mark: DEDUCED, log 17) -/
def execWindUpBurstRx (p : Fin 4) (powered : Bool) (t : Nat) (s : State) : Host.Outcome State Fault Refusal :=
  event t (fun s =>
    let on := powered && decide (s.get Reg.LADDER_STATE < 2)
    s.when (on || p.val == s.wakePort) (fun s =>
      let s := match (s.port p).phase with
        | .idle => s.windUpPort p none (!on)
        | .waking => s.modPort p (fun q => { q with burstAt := none })
        | _ => s
      s.when (on && (s.port p).phase == .waking && !(s.port p).woken) (·.burstLock p))) s

/-- IDLE_EXIT (R364). -/
def execIdleExit (p : Fin 4) (t : Nat) (s : State) : Host.Outcome State Fault Refusal :=
  event t (fun s => s.leaveIdle p) s

/-- IDLE_ENTRY (R363, R388): the IDLE_NEXT marker leaves on every lane once every DATA flit sent has been acknowledged, or 10 µs after the order. -/
def execIdleEntry (p : Fin 4) (t : Nat) (s : State) : Host.Outcome State Fault Refusal :=
  event t (fun s => match (s.port p).idleOrder with
    | some o => s.when ((s.port p).phase == .up &&
        ((s.port p).replay.isEmpty || decide (o + 10 * usSteps ≤ s.now)))
        (fun s => ((s.sendIdleNext p).modPort p (fun q => { q with
          phase := .idle, idleOrder := none })).setB (Reg.ZPHY_PORT_STATUS_IDLE p) true)
    | none => s) s

/-! ### Flits and time-outs (R368 to R375) -/

/-- The link layer exchanges flits: the port is up, or shares flits while its partner wakes. -/
def State.flits (s : State) (p : Nat) : Bool :=
  (s.port p).phase == .up && s.get (Reg.ZLINK_PORT_STATUS_LL_STATE p) != 0

/-- Stream bytes in the blocks that a port has counted (R366). -/
def State.rxBytes (s : State) (p : Nat) : Nat :=
  let ls := s.lanesOf p
  blockBytes * ls.length * ((ls.map (fun l => (s.lane l).rxBlocks)).min?.getD 0)

/-- A whole flit has been received: the next 64 stream bytes lie in blocks that have begun (R366). -/
def State.flitHere (s : State) (p : Nat) : Bool := decide (64 * ((s.port p).rxFlits + 1) ≤ s.rxBytes p)

/-- A flit slot of the receiver, and what a flit in it does where the link layer runs (R366).
(Mark: DESIGN CHOICE, log 163) -/
def State.rxSlot (s : State) (p : Nat) (act : State → State) : State :=
  s.when (s.flitHere p) (fun s =>
    (s.modPort p (fun q => { q with rxFlits := q.rxFlits + 1 })).when (s.flits p) act)

/-- FLIT_RECEIVED. -/
def execFlitReceived (p : Fin 4) (flit : List Byte) (t : Nat) (s : State) : Host.Outcome State Fault Refusal :=
  event t (fun s => s.rxSlot p (·.onFlit p flit)) s

/-- INIT_RECEIVED (R369). -/
def execInitReceived (p : Fin 4) (payload : List Byte) (t : Nat) (s : State) : Host.Outcome State Fault Refusal :=
  event t (fun s => s.rxSlot p (·.onInit p payload)) s

/-- NAK_RECEIVED (R372). -/
def execNakReceived (p : Fin 4) (ack t : Nat) (s : State) : Host.Outcome State Fault Refusal :=
  event t (fun s => s.rxSlot p (fun s => s.when (s.active p) (·.onNak p ack))) s

/-- REPLAY_TIMEOUT_US in steps, 0 treated as 1. -/
def State.replayTime (s : State) (p : Nat) : Nat := max 1 (s.get (Reg.ZLINK_PORT_CFG_REPLAY_TIMEOUT_US p)) * usSteps

/-- REPLAY_TIMEOUT (R372): the oldest unacknowledged flit has seen no ACK progress, and every one is replayed.
(Mark: DEDUCED, log 18) -/
def execReplayTimeout (p : Fin 4) (t : Nat) (s : State) : Host.Outcome State Fault Refusal :=
  event t (fun s => s.when (s.flits p && s.active p && !(s.port p).replay.isEmpty &&
      decide ((s.port p).ackAt + s.replayTime p ≤ s.now))
    (fun s => (s.incSat (Reg.ZLINK_PORT_TIMEOUTS_COUNT p) 1).startReplay p (some (((s.port p).acked + 1023) % 1024)))) s

/-- NAK_REPEAT (R371). -/
def execNakRepeat (p : Fin 4) (t : Nat) (s : State) : Host.Outcome State Fault Refusal :=
  event t (fun s => s.when (s.flits p && (s.port p).nakOut &&
      decide ((s.port p).nakAt + s.replayTime p ≤ s.now))
    (fun s => s.modPort p (fun q => { q with nakOwed := true, nakAt := s.now }))) s

/-- INIT_TIMEOUT (R375 cause 1). -/
def execInitTimeout (p : Fin 4) (t : Nat) (s : State) : Host.Outcome State Fault Refusal :=
  event t (fun s => s.when (s.get (Reg.ZLINK_PORT_STATUS_LL_STATE p) == 1 &&
    decide ((s.port p).upAt + msSteps ≤ s.now)) (fun s => s.llFail p 1)) s

/-! ### Commands and registers of ZPHY (R355, R360) -/

/-- The limits of R355 on a port's setting. -/
def eqOk (pre main post : Nat) : Bool :=
  decide (pre ≤ 15 ∧ post ≤ 31 ∧ pre + main + post ≤ 63 ∧ pre + post ≤ main)

/-- LINK_CONFIG (R355, R360): stored, and applied at a restart. -/
def cmdLinkConfig (port lanes rate pre main post : Nat) (s : State) : Res :=
  if port ≤ 3 ∧ (lanes = 1 ∨ lanes = 2 ∨ lanes = 4) ∧ rate ≤ 3 ∧ eqOk pre main post then
    let s := (s.set (Reg.ZPHY_PORT_CONFIG_WIDTH port) (lanes / 2)).set (Reg.ZPHY_PORT_CONFIG_RATE port) rate
    Res.ok (((s.set (Reg.ZPHY_PORT_EQ_PRE port) pre).set (Reg.ZPHY_PORT_EQ_MAIN port) main).set
      (Reg.ZPHY_PORT_EQ_POST port) post)
  else Res.err stBadParam s

/-- LINK_STATUS (R363, R372). -/
def cmdLinkStatus (port : Nat) (s : State) : Res :=
  if 3 < port then Res.err stBadParam s
  else Res.okData (leBytes 1 (s.get (Reg.ZPHY_PORT_STATUS_STATE port)) ++
    leBytes 1 (widthOf (s.get (Reg.ZPHY_PORT_STATUS_WIDTH_USED port))) ++
    leBytes 2 (s.get (Reg.ZPHY_PORT_STATUS_RATE_USED port)) ++
    leBytes 4 (s.get (Reg.ZLINK_PORT_CRC_ERRORS_COUNT port)) ++
    leBytes 4 (s.get (Reg.ZLINK_PORT_REPLAYS_COUNT port))) s

/-- ZPHY_PORT_RESTART (R360). -/
def execZphyPortRestart (p : Fin 4) (t : Nat) (s : State) : Host.Outcome State Fault Refusal :=
  eventAwake t (fun s => s.restartPort p) s

/-- Disable a port (R359 cause 7). -/
def State.disablePort (s : State) (p : Nat) : State :=
  (s.setB (Reg.ZPHY_PORT_CONFIG_ENABLE p) false).linkDown p 7 .off

/-- ZPHY_PORT_DISABLE. -/
def execZphyPortDisable (p : Fin 4) (t : Nat) (s : State) : Host.Outcome State Fault Refusal :=
  eventAwake t (fun s => s.disablePort p) s

end Sys2Proof.Machine
end

