-- ==== Sys2Proof/Machine/TimeBase.lean ====
section
/-! DEFINITION. Time bases: reading, setting, adjusting and disciplining them (20_time_bases.md R424 to R431), and the
time trigger's next instant. -/

namespace Sys2Proof.Machine

/-- A rate-corrected base by its number; only 0 and 3 are. -/
def State.tb (s : State) (k : Nat) : TBase := if k = 0 then s.time.tb0 else s.time.tb3

/-- Replace a rate-corrected base. -/
def State.putTb (s : State) (k : Nat) (b : TBase) : State :=
  if k = 0 then { s with time := { s.time with tb0 := b } } else { s with time := { s.time with tb3 := b } }

/-- Seconds and nanoseconds of a base (R424). -/
def State.tbSec (s : State) (k : Nat) : Nat × Nat := (s.tbNs k / secNs, s.tbNs k % secNs)

/-- The slew left of a base in ns, saturated to its register (R427). -/
def State.slewNs (s : State) (k : Nat) : Int :=
  if k = 0 ∨ k = 3 then satS 32 ((s.tb k).slew.tdiv nsUnits) else 0

/-- Capture S_HI and NS of a base at one instant (R428). -/
def State.captureTb (s : State) (k : Nat) : State :=
  let (sec, ns) := s.tbSec k
  ((s.set (Reg.TIME_TB_S_LO k) sec).set (Reg.TIME_TB_S_HI k) (sec / 2 ^ 32)).set (Reg.TIME_TB_NS k) ns

/-- Step a base to an instant in ns; a slew in progress is cancelled and the rate stays (R426). -/
def State.stepTb (s : State) (k : Nat) (ns : Nat) : State :=
  s.putTb k { s.tb k with value := ns * nsUnits, slew := 0 }

/-- Replace the slew of a base by an offset in ns (R427). -/
def State.slewTb (s : State) (k : Nat) (ns : Int) : State :=
  s.putTb k { s.tb k with slew := ns * nsUnits }

/-- Set a base's rate offset, as its RATE register shows it. -/
def State.rateTb (s : State) (k : Nat) (ppb : Int) : State :=
  (s.putTb k { s.tb k with rate := ppb }).setS (Reg.TIME_TB_RATE_PPB k) ppb

/-- TIME_READ (R428). -/
def cmdTimeRead (tb : Nat) (s : State) : Res :=
  if 3 < tb then Res.err stBadParam s
  else
    let (sec, ns) := s.tbSec tb
    Res.okData (leBytes 8 (low 48 sec) ++ leBytes 4 ns) (s.captureTb tb)

/-- TIME_SET (R426): TB0 also ceases to be unsynchronised (R431). (Mark: DEDUCED, log 14) -/
def cmdTimeSet (tb seconds ns : Nat) (s : State) : Res :=
  if (tb = 0 ∨ tb = 3) ∧ ns < secNs ∧ seconds < 2 ^ 48 then
    let s := s.stepTb tb (seconds * secNs + ns)
    Res.ok (if tb = 0 then s.setB Reg.TIME_STATUS_UNSYNC false else s)
  else Res.err stBadParam s

/-- TIME_ADJUST (R427). (Mark: DEDUCED, log 14) -/
def cmdTimeAdjust (tb : Nat) (rate offset : Int) (s : State) : Res :=
  if (tb = 0 ∨ tb = 3) ∧ -200000 ≤ rate ∧ rate ≤ 200000 ∧ -1000000000 ≤ offset ∧ offset ≤ 1000000000 then
    let s := (s.rateTb tb rate).slewTb tb offset
    Res.ok (if tb = 0 then s.setB Reg.TIME_STATUS_UNSYNC false else s)
  else Res.err stBadParam s

/-- A worker's TB0 at a time beacon whose first line bit arrives now (R429); the next beacon ends HOLDOVER (R431).
The quotient by an interval of 0 is a free value. (Mark: DEDUCED, log 14) -/
def State.discipline (s : State) (stampNs : Nat) : State :=
  let s0 := s
  let s := { s with time := { s.time with lastBeacon := some s.now } }.setB Reg.TIME_STATUS_HOLDOVER false
  if !s.flag Reg.TIME_CTRL_BEACON_SYNC then s
  else
    let e : Int := (stampNs : Int) + s.get Reg.TIME_BEACON_LAT_NS - s.tbNs 0
    let s := s.setS Reg.TIME_LAST_ERR_NS (satS 32 e)
    if s.flag Reg.TIME_STATUS_UNSYNC || decide (s.get Reg.TIME_STEP_NS < e.natAbs) || s0.time.lastBeacon.isNone then
      let s := s.putTb 0 { s.tb 0 with value := ((s.time.tb0.value : Int) + e * nsUnits).toNat, slew := 0 }
      (s.setB Reg.TIME_STATUS_UNSYNC false).inc Reg.TIME_STEPS_COUNT
    else
      let p : Int := stepsNs (s.now - s0.time.lastBeacon.getD 0)
      let q := if p = 0 then sgn 32 s.fresh else tdiv (e * 1000000000) p
      let s := if p = 0 then s.used else s
      (s.slewTb 0 e).rateTb 0
        (clampI (-200000) 200000 (s.time.tb0.rate + sar q (s.get Reg.TIME_CTRL_FSHIFT)))

/-- The instant, in ns of its base, of a trigger's next event. -/
def State.trigNext (s : State) (k : Nat) : Nat :=
  (s.get (Reg.TIME_TRIG_NEXT_S_LO k) + 2 ^ 32 * s.get (Reg.TIME_TRIG_NEXT_S_HI k)) * secNs +
    s.get (Reg.TIME_TRIG_NEXT_NS k)

/-- Set a trigger's next instant. -/
def State.putTrigNext (s : State) (k ns : Nat) : State :=
  ((s.set (Reg.TIME_TRIG_NEXT_S_LO k) (ns / secNs)).set (Reg.TIME_TRIG_NEXT_S_HI k) (ns / secNs / 2 ^ 32)).set
    (Reg.TIME_TRIG_NEXT_NS k) (ns % secNs)

/-- The checks of R434 in their order, and the setting that a trigger takes; `none` is ST_OK with the trigger
disarmed. -/
def State.setTrigger (s : State) (k tb startS startNs periodNs : Nat) : Nat × State :=
  if 4 < k ∨ (3 < tb ∧ tb ≠ 0xFF) ∨ secNs ≤ startNs ∨ 2 ^ 48 ≤ startS ∨
      (k < 4 ∧ 1 ≤ periodNs ∧ periodNs ≤ 999) ∨ (k = 4 ∧ periodNs < 8000000) then (stBadParam, s)
  else if tb = 0xFF then
    if k = 4 then (stBadParam, s) else (stOk, s.setB (Reg.TIME_TRIG_CTRL_ARMED k) false)
  else if startS * secNs + startNs ≤ s.tbNs tb then (stBadParam, s)
  else
    let s := (s.set (Reg.TIME_TRIG_CTRL_TB k) tb).setB (Reg.TIME_TRIG_CTRL_ARMED k) true
    (stOk, (s.putTrigNext k (startS * secNs + startNs)).set (Reg.TIME_TRIG_PERIOD_NS k) periodNs)

/-- Whether a trigger's instant has been reached. -/
def State.trigDue (s : State) (k : Nat) : Bool :=
  s.flag (Reg.TIME_TRIG_CTRL_ARMED k) && decide (s.trigNext k ≤ s.tbNs (s.get (Reg.TIME_TRIG_CTRL_TB k)))

/-- One event of a trigger: it counts, the events its base has been carried past are missed, and the next event is the
first still ahead; a period of 0 disarms (R433, R435). -/
def State.fireTrigger (s : State) (k : Nat) : State :=
  let per := s.get (Reg.TIME_TRIG_PERIOD_NS k)
  let v := s.tbNs (s.get (Reg.TIME_TRIG_CTRL_TB k))
  let s1 := s.inc (Reg.TIME_TRIG_FIRED_COUNT k)
  if per = 0 then s1.setB (Reg.TIME_TRIG_CTRL_ARMED k) false
  else
    let skipped := (v - s.trigNext k) / per
    (s1.incSat (Reg.TIME_TRIG_MISSED_COUNT k) skipped).putTrigNext k (s.trigNext k + (skipped + 1) * per)

end Sys2Proof.Machine
end

