-- ==== Sys2Proof/Machine/Motion.lean ====
section
/-! DEFINITION. Motion axes, their choppers, and the switches (13_motion_axes.md). -/

namespace Sys2Proof.Machine

def State.axis (s : State) (a : Nat) : Axis := s.motion.axes.getD a .init

def State.modAxis (s : State) (a : Nat) (f : Axis → Axis) : State :=
  { s with motion := { s.motion with axes := modAt f a s.motion.axes } }

/-! ### The axis record (R311) -/

def aEnable (r : List Byte) : Bool := bit (u8 r 0) 0
def aInvert (r : List Byte) : Bool := bit (u8 r 0) 1
def aDecay (r : List Byte) : Nat := u8 r 1
def aIrun (r : List Byte) : Nat := u8 r 2
def aIhold (r : List Byte) : Nat := u8 r 3
def aHoldMs (r : List Byte) : Nat := u16 r 4
def aOcLimit (r : List Byte) : Nat := u16 r 6
def aVmaxAbs (r : List Byte) : Nat := u32 r 8
def aDmax (r : List Byte) : Nat := u32 r 12
def aDecelStop (r : List Byte) : Nat := u32 r 16
def aVSafe (r : List Byte) : Nat := u32 r 20
def aFLo (r : List Byte) : Nat := u8 r 24
def aFHi (r : List Byte) : Nat := u8 r 25
def aBlank (r : List Byte) : Nat := u8 r 26
def aOfsShift (r : List Byte) : Nat := u8 r 27
def aStallAngle (r : List Byte) : Nat := u16 r 28
def aStallCount (r : List Byte) : Nat := u8 r 30
def aStartTrig (r : List Byte) : Nat := u8 r 31
def aLimNeg (r : List Byte) : Nat := u8 r 32
def aLimPos (r : List Byte) : Nat := u8 r 33
def aStallVmin (r : List Byte) : Nat := u32 r 44

/-- R_WIND, IS_SCALE and VS_SCALE are all set (R304). -/
def aAngleSet (r : List Byte) : Bool := u16 r 34 != 0 && u16 r 38 != 0 && u16 r 40 != 0

/-- The fields of a record lie within their limits. -/
def axisRecordOk (r : List Byte) : Bool :=
  decide (u8 r 0 < 4 ∧ aDecay r ≤ 2 ∧ 1 ≤ aIrun r ∧ 1 ≤ aOcLimit r ∧ aOcLimit r ≤ 1023) &&
  decide (1 ≤ aVmaxAbs r ∧ aVmaxAbs r ≤ 2560000 ∧ 1 ≤ aDmax r ∧ aDmax r ≤ 1000000000) &&
  decide (1 ≤ aDecelStop r ∧ aDecelStop r ≤ aDmax r ∧ aVSafe r ≤ aVmaxAbs r) &&
  decide (5 ≤ aFLo r ∧ aFLo r ≤ aFHi r ∧ aFHi r ≤ 100 ∧ 10 ≤ aBlank r ∧ aBlank r ≤ 200 ∧ aOfsShift r ≤ 7) &&
  decide (aStallAngle r = 0 ∨ 100 ≤ aStallAngle r ∧ aStallAngle r ≤ 1800) &&
  decide (1 ≤ aStallCount r ∧ aStartTrig r ≤ 4 ∧ (aLimNeg r ≤ 7 ∨ aLimNeg r = 0xFF) ∧
    (aLimPos r ≤ 7 ∨ aLimPos r = 0xFF)) &&
  zerosAt r 42 2 && zerosAt r 48 16

/-- The record that an axis's words hold. -/
def State.axisRecord (s : State) (a : Nat) : List Byte :=
  (List.range 16).flatMap (fun w => leBytes 4 (s.get (Reg.MOTION_AX_CFG_WORD a w)))

/-! ### Position and speed (R290, R291) -/

/-- Updates are 50 µs apart, in steps. -/
def updateSteps : Nat := 40000

/-- POSITION. -/
def Axis.position (x : Axis) : Int := sar x.p 32

/-- VELOCITY in microsteps per second. -/
def Axis.velocity (x : Axis) : Int := sar ((x.p - x.pOld) * 20000 + 2 ^ 31) 32

/-- A speed, and an acceleration, in raw per-update units (R295). -/
def rawSpeed (v : Nat) : Int := ((2 * v * 2 ^ 32 + 20000) / 40000 : Nat)
def rawAccel (v : Nat) : Int := ((2 * v * 2 ^ 32 + 400000000) / 800000000 : Nat)

def State.moving (s : State) (a : Nat) : Bool := s.flag (Reg.MOTION_AX_STATUS_MOVING a)
def State.energised (s : State) (a : Nat) : Bool := s.flag (Reg.MOTION_AX_STATUS_ENERGISED a)

/-- Positions of the axes, as compare units see them. -/
def State.axisPos (s : State) (a : Nat) : Int := (s.axis a).position

/-- A compare unit on the axis has PASSED set. -/
def State.axisPassed (s : State) (a : Nat) : Bool :=
  (List.range 8).any (fun u => s.get (Reg.ENC_CMP_CTRL_SOURCE u) == 4 + a && s.flag (Reg.ENC_CMP_STATUS_PASSED u))

/-- MODE of an axis. (Mark: DEDUCED, log 76) -/
def AxisRun.mode : AxisRun → Nat
  | .rest => 0
  | .move _ => 1
  | .table .. => 2
  | .brake _ => 3

/-- Note POSITION as it stands before a change (R308). (Mark: DEDUCED, log 75) -/
def State.axisNote (s : State) (a : Nat) : State :=
  s.modAxis a (fun x => { x with
    hist := x.hist.filter (fun h => decide (s.now < h.1 + 801)) ++ [(s.now, x.position)] })

/-- Show position, speed and what the axis runs. (Mark: DEDUCED, log 76) -/
def State.showAxis (s : State) (a : Nat) : State :=
  let x := s.axis a
  let s := (s.set (Reg.MOTION_AX_POS_LO a) (pat 64 x.position)).set (Reg.MOTION_AX_POS_HI a) (pat 64 x.position / 2 ^ 32)
  let s := (s.set (Reg.MOTION_AX_POS_FRAC a) (pat 32 x.p)).setS (Reg.MOTION_AX_VELOCITY a) (satS 32 x.velocity)
  let s := s.set (Reg.MOTION_AX_STATUS_MODE a) x.run.mode
  let s := s.setB (Reg.MOTION_AX_TABLE_RUNNING a) (x.run.mode == 2)
  match x.run with
  | .move m =>
    (s.set (Reg.MOTION_AX_TARGET_LO a) (pat 64 m.target)).set (Reg.MOTION_AX_TARGET_HI a) (pat 64 m.target / 2 ^ 32)
  | .table _ seg _ _ _ => s.set (Reg.MOTION_AX_TABLE_SEGMENT a) seg
  | _ => s

/-! ### Events and rest -/

/-- EVT_AXIS_DONE. -/
def State.axisDone (s : State) (a tag : Nat) : State :=
  s.raise evAxisDone 0 (leBytes 2 a ++ leBytes 2 tag ++ [0, 0, 0, 0] ++ leInt 8 (s.axisPos a))

/-- An event that carries the position of an axis. -/
def State.axisEvt (s : State) (code a : Nat) : State := s.raise code 0 (leBytes 8 a ++ leInt 8 (s.axisPos a))

/-- A bar move of the alignment loop on the axis has ended (R242, R255). -/
def State.barEnds (s : State) (a : Nat) : State :=
  { s with loops := { s.loops with planes := s.loops.planes.map (fun x =>
    if x.barMove = some a then { x with barMove := none, waitDue := true } else x) } }

/-- The axis comes to rest: MOVING clears, and IRUN goes on for HOLD_DELAY_MS from there; a command that waits for its
trigger keeps MOVING and WAIT_TRIG set (R291, R292, R294). (Mark: DEDUCED, log 69) -/
def State.axisRest (s : State) (a : Nat) : State :=
  let waits := s.flag (Reg.MOTION_AX_STATUS_WAIT_TRIG a)
  let clears := s.moving a && !waits
  let s := s.modAxis a (fun x => { x with
    run := .rest, v := 0, brk := false, ovs := false, rev := false, restAt := if clears then some s.now else x.restAt })
  (s.setB (Reg.MOTION_AX_STATUS_MOVING a) waits).barEnds a

/-- Discard a committed shadow table. -/
def State.dropShadow (s : State) (a : Nat) : State :=
  let s := if s.get (Reg.MOTION_AX_TABLE_SHADOW a) = 2 then s.set (Reg.MOTION_AX_TABLE_SHADOW a) 0 else s
  s.modAxis a (fun x => { x with tableTag := none })

/-- De-energise an axis: both phases in SLOW (R283). (Mark: DEDUCED, log 68) -/
def State.deEnergise (s : State) (a : Nat) : State :=
  let off := fun (c : Chop) => { c with phase := .slow, ts := 0, blank := none }
  let s := s.modAxis a (fun x => { x with phA := off x.phA, phB := off x.phB, restAt := none })
  ((s.setB (Reg.MOTION_AX_STATUS_ENERGISED a) false).setB (Reg.MOTION_AX_STATUS_LOST a) true).setB
    (Reg.MOTION_AX_STATUS_HOLD a) false

/-! ### The chopper (R285 to R288) -/

/-- An entry of an axis's microstep table (R288). -/
def State.microEntry (s : State) (a : Nat) (x : Int) : Nat :=
  leNat (s.readTab false (tabBase + 0x500000 + a * 0x800 + 2 * (x % 1024).toNat) 2)

/-- target() of R285. -/
def chopTarget (e cs : Nat) : Int :=
  let m : Int := ((e % 1024 * cs + 128) / 256 : Nat)
  if bit e 15 then -m else m

/-- The current scale in use (R292). -/
def State.axisScale (s : State) (a : Nat) : Nat :=
  if s.flag (Reg.MOTION_AX_STATUS_HOLD a) then aIhold (s.axis a).record else aIrun (s.axis a).record

def Axis.chop (x : Axis) (onB : Bool) : Chop := if onB then x.phB else x.phA

/-- Both phases take their entries of the table at the present microstep index; B takes the one 256 further on (R288,
R289). (Mark: DEDUCED, log 68) -/
def State.loadEntries (s : State) (a : Nat) : State :=
  let x := (s.axis a).index
  s.modAxis a (fun ax => { ax with
    phA := { ax.phA with entry := s.microEntry a x }, phB := { ax.phB with entry := s.microEntry a (x + 256) } })

/-- The microstep index takes a value; a change loads the table's entries as they then stand (R289, R290). -/
def State.setIndex (s : State) (a : Nat) (x : Int) : State :=
  if (s.axis a).index = x then s else (s.modAxis a (fun ax => { ax with index := x })).loadEntries a

/-- The position on the line between two updates, raw (R290). -/
def State.linear (s : State) (a : Nat) : Int :=
  let x := s.axis a
  x.pOld + (x.p - x.pOld) * (min (s.now - s.motion.updateAt) updateSteps : Nat) / updateSteps

/-- The microstep index at a position (R290). -/
def indexAt (r : List Byte) (p : Int) : Int := if aInvert r then -(sar p 32) else sar p 32

/-- The microstep index follows the linear position (R290). -/
def State.followIndex (s : State) (a : Nat) : State := s.setIndex a (indexAt (s.axis a).record (s.linear a))

/-- The target code of a phase (R285, R288). -/
def State.phaseTarget (s : State) (a : Nat) (onB : Bool) : Int :=
  chopTarget ((s.axis a).chop onB).entry (s.axisScale a)

/-- The levels of the two legs of a phase: DRIVE in the target's direction, SLOW, or FAST against the present current
(R282). (Mark: DESIGN CHOICE, log 78) -/
def Chop.legs (c : Chop) : Bool × Bool :=
  match c.phase with
  | .slow => (false, false)
  | .drive => (decide (0 < c.ts), decide (c.ts < 0))
  | .decay => if c.fast then (decide (c.sense < 0), decide (0 < c.sense)) else (false, false)

/-- What the bridge outputs of a phase carry; `none` is high-impedance, while VAUX is out of range (R282, R283). -/
def State.bridge (s : State) (a : Nat) (onB : Bool) : Option (Bool × Bool) :=
  if !s.power.supplyOk then none
  else if s.energised a && s.power.resetN then some ((s.axis a).chop onB).legs
  else some (false, false)

/-- The comparators show the sign of the present current; 0 leaves the last one. (Mark: DESIGN CHOICE, log 78) -/
def Chop.sensed (c : Chop) (i : Int) : Chop := if i = 0 then c else { c with sense := i.sign }

def State.modChop (s : State) (a : Nat) (onB : Bool) (f : Chop → Chop) : State :=
  s.modAxis a (fun x => if onB then { x with phB := f x.phB } else { x with phA := f x.phA })

/-- band and ofs of a phase. -/
def bandOf (a : Nat) (onB : Bool) : Fld := if onB then Reg.MOTION_AX_CHOP_BAND_B a else Reg.MOTION_AX_CHOP_BAND_A a
def ofsOf (a : Nat) (onB : Bool) : Fld := if onB then Reg.MOTION_AX_OFS_B a else Reg.MOTION_AX_OFS_A a
/-- Mark: DEDUCED, log 77. -/
def freqOf (a : Nat) (onB : Bool) : Fld := if onB then Reg.MOTION_AX_CHOP_FREQ_B a else Reg.MOTION_AX_CHOP_FREQ_A a

/-- The blanking time in steps. -/
def State.blankSteps (s : State) (a : Nat) : Nat := 8 * aBlank (s.axis a).record

/-- A cycle begins with the target and the reference correction in force; a target of 0 leaves the phase in SLOW (R285,
R447). (Mark: DESIGN CHOICE, log 178) -/
def State.chopStart (s : State) (a : Nat) (onB : Bool) : State :=
  let ts := s.phaseTarget a onB
  let bl := s.now + s.blankSteps a
  s.modChop a onB (fun c => { c with
    prevT := c.ts.natAbs, ts := ts, start := s.now, dacRef := s.therm.dacNext,
    phase := if ts = 0 then .slow else .drive, blank := if ts = 0 then none else some bl })

/-- A phase that waits on a target of 0 begins a cycle when its target changes. -/
def State.chopWake (s : State) (a : Nat) (onB : Bool) : State :=
  if s.energised a ∧ ((s.axis a).chop onB).ts = 0 ∧ s.phaseTarget a onB ≠ 0 then s.chopStart a onB else s

def State.chopWakes (s : State) (a : Nat) : State := (s.chopWake a false).chopWake a true

/-- The axis becomes energised: band 16, ofs 0, and the entry of the present index at IHOLD (R285, R306).
(Mark: DEDUCED, log 68) -/
def State.energise (s : State) (a : Nat) : State :=
  if s.energised a then s
  else
    let s := (s.setB (Reg.MOTION_AX_STATUS_ENERGISED a) true).setB (Reg.MOTION_AX_STATUS_HOLD a) true
    let s := [false, true].foldl (fun s b => (s.set (bandOf a b) 16).setS (ofsOf a b) 0) s
    let s := ((s.modAxis a (fun x => { x with record := s.axisRecord a })).followIndex a).loadEntries a
    (s.chopStart a false).chopStart a true

/-- The blanking of a phase has ended. -/
def State.unblanked (s : State) (a : Nat) (onB : Bool) : Bool := ((s.axis a).chop onB).blank.isNone

/-- decay(t): whether it is FAST. -/
def State.fastDecay (s : State) (a : Nat) (onB : Bool) : Bool :=
  let c := (s.axis a).chop onB
  let d := aDecay (s.axis a).record
  d == 1 || (d == 2 && decide (c.ts.natAbs + s.get (bandOf a onB) / 2 < c.prevT))

/-- The thresholds hi and lo. -/
def State.chopHi (s : State) (a : Nat) (onB : Bool) : Int :=
  ((s.axis a).chop onB).ts.natAbs + s.get (bandOf a onB) / 2 - sar (s.getS (ofsOf a onB)) 4
def State.chopLo (s : State) (a : Nat) (onB : Bool) : Int :=
  max 0 ((((s.axis a).chop onB).ts.natAbs : Int) - s.get (bandOf a onB) / 2 - sar (s.getS (ofsOf a onB)) 4)

/-- The high threshold is reached: the phase decays. -/
def State.chopHigh (s : State) (a : Nat) (onB : Bool) (i : Int) : State :=
  let c := (s.axis a).chop onB
  if c.phase = .drive ∧ s.unblanked a onB ∧ i.sign = c.ts.sign ∧ s.chopHi a onB ≤ i.natAbs then
    let fast := s.fastDecay a onB
    let bl := s.now + s.blankSteps a
    s.modChop a onB (fun c => { c with phase := .decay, fast := fast, blank := some bl }.sensed i)
  else s

/-- The end of a cycle: ofs and band adapt, FREQ shows the cycle, and the next cycle begins (R285). `mean` is the mean of
i over the cycle in 1/16 code. (Mark: DEDUCED, log 77) -/
def State.chopEnd (s : State) (a : Nat) (onB : Bool) (i mean : Int) : State :=
  let c := (s.axis a).chop onB
  let r := (s.axis a).record
  if c.phase = .decay ∧ s.unblanked a onB ∧ (i.sign ≠ c.ts.sign ∨ (i.natAbs : Int) ≤ s.chopLo a onB) then
    let m16 := c.ts.sign * mean
    let ofs := clampI (-4096) 4096 (s.getS (ofsOf a onB) + sar (m16 - c.ts.natAbs * 16) (aOfsShift r))
    let f := 100000000 / max 1 ((s.now - c.start) / 8)
    let band := s.get (bandOf a onB)
    let band := if 1000 * aFHi r < f then min (band + 2) 64 else band
    let band := if f < 1000 * aFLo r then max (band - 2) 2 else band
    let s := ((s.setS (ofsOf a onB) ofs).set (bandOf a onB) band).set (freqOf a onB) (min 255 (f / 1000))
    s.chopStart a onB
  else s.modChop a onB (·.sensed i)

/-- CHOP_BLANK_END (R285). (Mark: DESIGN CHOICE, log 78) -/
def execChopBlankEnd (a : Fin 4) (onB : Bool) (t : Nat) (s : State) : Host.Outcome State Fault Refusal :=
  eventAwake t (fun s => s.when (match ((s.axis a).chop onB).blank with | some e => decide (e ≤ s.now) | none => false)
    (·.modChop a onB (fun c => { c with blank := none }))) s

/-- CHOP_HIGH_THRESHOLD (R285): `i` is the live sense code. (Mark: DESIGN CHOICE, log 78) -/
def execChopHighThreshold (a : Fin 4) (onB : Bool) (i : Int) (t : Nat) (s : State) : Host.Outcome State Fault Refusal :=
  eventAwake t (fun s => s.when (s.energised a) (·.chopHigh a onB i)) s

/-- CHOP_CYCLE_END (R285). (Mark: DESIGN CHOICE, log 78) -/
def execChopCycleEnd (a : Fin 4) (onB : Bool) (i mean : Int) (t : Nat) (s : State) :
    Host.Outcome State Fault Refusal :=
  eventAwake t (fun s => s.when (s.energised a) (·.chopEnd a onB i mean)) s

/-- LONG_CYCLE (R286): neither ofs nor band changes; FREQ shows the cycle.
(Mark: DEDUCED, log 77; DESIGN CHOICE, log 78) -/
def execLongCycle (a : Fin 4) (onB : Bool) (t : Nat) (s : State) : Host.Outcome State Fault Refusal :=
  eventAwake t (fun s => s.when (s.energised a && ((s.axis a).chop onB).ts != 0 &&
      decide (((s.axis a).chop onB).start + 8 * (200000 / max 1 (aFLo (s.axis a).record)) ≤ s.now))
    (fun s =>
      let f := 100000000 / max 1 ((s.now - ((s.axis a).chop onB).start) / 8)
      ((s.incSat (Reg.MOTION_AX_COUNTS_LONG_CYCLES a) 1).set (freqOf a onB) (min 255 (f / 1000))).chopStart a onB)) s

/-- An overcurrent (R287): the move or table ends with EVT_AXIS_STALL. -/
def State.overcurrent (s : State) (a : Nat) : State :=
  let s := (((s.dropShadow a).modAxis a (fun x => { x with next := none, stop := none })).setB
    (Reg.MOTION_AX_STATUS_WAIT_TRIG a) false).axisRest a
  let s := ((s.deEnergise a).setB (Reg.MOTION_AX_STATUS_OVERCURRENT a) true).showAxis a
  s.raise evAxisStall 0 (leBytes 2 a ++ leBytes 2 0xFFFF ++ [0, 0, 0, 0] ++ leInt 8 (s.axisPos a))

/-- OVERCURRENT (R287): the code of a phase at two consecutive samples outside blanking.
(Mark: DESIGN CHOICE, log 78) -/
def execOvercurrent (a : Fin 4) (onB : Bool) (i : Int) (t : Nat) (s : State) : Host.Outcome State Fault Refusal :=
  eventAwake t (fun s => s.when (s.energised a && s.unblanked a onB && decide (aOcLimit (s.axis a).record < i.natAbs))
    (·.overcurrent a)) s

/-- HOLD_DELAY_EXPIRY (R292). -/
def execHoldDelayExpiry (a : Fin 4) (t : Nat) (s : State) : Host.Outcome State Fault Refusal :=
  eventAwake t (fun s => s.when (s.energised a && !s.moving a && (match (s.axis a).restAt with
      | some r => decide (r + aHoldMs (s.axis a).record * msSteps ≤ s.now)
      | none => false))
    (fun s => ((s.modAxis a (fun x => { x with restAt := none })).setB (Reg.MOTION_AX_STATUS_HOLD a) true).chopWakes a)) s

/-- MICROSTEP_ADVANCE (R290): the index follows the linear position. -/
def execMicrostepAdvance (a : Fin 4) (t : Nat) (s : State) : Host.Outcome State Fault Refusal :=
  eventAwake t (fun s => (s.followIndex a).chopWakes a) s

/-! ### Segments (R297, R300) -/

/-- First address of a set of segments. -/
def segBase (a : Nat) (setB : Bool) : Nat := tabBase + 0x508000 + a * 0x2000 + (if setB then 0x1000 else 0)

/-- A segment's bytes. -/
def State.segment (s : State) (a : Nat) (setB : Bool) (i : Nat) : List Byte := s.readTab false (segBase a setB + 16 * i) 16

def sDuration (g : List Byte) : Nat := u32 g 0
def sEndVel (g : List Byte) : Int := iAt g 4 4
def sEndPos (g : List Byte) : Int := iAt g 8 8

/-- A segment keeps R297 and the speed limit. -/
def segOk (vmax : Nat) (g : List Byte) : Bool :=
  decide (1 ≤ sDuration g ∧ sDuration g < 2 ^ 24 ∧ (sEndVel g).natAbs ≤ vmax)

/-- seg_pos() of R300, raw; each assignment keeps the variable's bits (R6). -/
def segPos (p0 v0 p1 v1 : Int) (tt n : Nat) : Int :=
  let t : Int := tt
  let n : Int := n
  let k := wrapS 128 (3 * n * n * t - 2 * n * n * n)
  let ka := wrapS 128 (n * n * n - 2 * n * n * t + n * t * t)
  let kb := wrapS 128 (n * n * n - n * n * t)
  let num := wrapS 128 (20000 * (p1 - p0) * k + t * (v0 * ka + v1 * kb) * 2 ^ 32)
  let den := wrapS 128 (20000 * t * t * t)
  wrapS 96 (p0 + wrapS 128 (wrapS 128 (2 * num + den) / wrapS 128 (2 * den)))

/-- The active set is B; the shadow is the other. -/
def State.activeB (s : State) (a : Nat) : Bool := s.flag (Reg.MOTION_AX_TABLE_ACTIVE_SET a)

/-- A committed shadow becomes the active set, and its table runs from a position and a speed (R299). -/
def State.tableStart (s : State) (a : Nat) (p0 v0 : Int) : State :=
  let x := s.axis a
  let s := s.setB (Reg.MOTION_AX_TABLE_ACTIVE_SET a) (!s.activeB a)
  let s := (s.set (Reg.MOTION_AX_TABLE_SHADOW a) 0).set (Reg.MOTION_AX_TABLE_LAST a) x.shadowLast
  let s := s.modAxis a (fun x => { x with
    run := .table (x.tableTag.getD 0) 0 0 p0 v0, tableTag := none, restAt := none, brk := false, ovs := false,
    rev := false })
  (s.setB (Reg.MOTION_AX_STATUS_MOVING a) true).setB (Reg.MOTION_AX_STATUS_WAIT_TRIG a)
    (x.next.isSome && s.flag (Reg.MOTION_AX_STATUS_WAIT_TRIG a))

/-- A committed table waits to start. -/
def State.tableDue (s : State) (a : Nat) : Bool := s.get (Reg.MOTION_AX_TABLE_SHADOW a) == 2

/-! ### Limits (R293, R303) -/

/-- A switch's active level: high for EDGE 0, low for EDGE 1 (R308). -/
def State.swActive (s : State) (k : Nat) : Bool :=
  s.flag (Reg.MOTION_SW_STATUS_LEVEL k) != s.flag (Reg.MOTION_SW_CTRL_EDGE k)

/-- The switch that bars a direction is active. -/
def State.barred (s : State) (a : Nat) (d : Int) : Bool :=
  let r := (s.axis a).record
  (decide (d < 0 ∧ aLimNeg r ≤ 7) && s.swActive (aLimNeg r)) || (decide (0 < d ∧ aLimPos r ≤ 7) && s.swActive (aLimPos r))

/-- LIMIT_NEG or LIMIT_POS. -/
def State.limitFlag (s : State) (a : Nat) (d : Int) : State :=
  s.setB (if d < 0 then Reg.MOTION_AX_STATUS_LIMIT_NEG a else Reg.MOTION_AX_STATUS_LIMIT_POS a) true

/-! ### Stops (R302) -/

/-- The tag of the move or table that runs, if any. -/
def AxisRun.tag? : AxisRun → Option Nat
  | .rest => none
  | .move m => some m.tag
  | .table tag _ _ _ _ => some tag
  | .brake t => t

/-- The tag of the move or table that a stop ends at an update: the move that runs from this update, else the one that
runs. (Mark: DEDUCED, log 72) -/
def Axis.stopTag (x : Axis) : Option Nat := (x.next.map (·.tag)).orElse (fun _ => x.run.tag?)

/-- EVT_AXIS_DONE where a command ends. -/
def State.doneFor (s : State) (a : Nat) : Option Nat → State
  | some t => s.axisDone a t
  | none => s

/-- A move or table that waits for its trigger ends with EVT_AXIS_DONE; a committed shadow table is discarded (R294).
(Mark: DEDUCED, log 72) -/
def State.endWait (s : State) (a : Nat) : State :=
  if s.flag (Reg.MOTION_AX_STATUS_WAIT_TRIG a) then
    let x := s.axis a
    let tag := (x.next.map (·.tag)).orElse (fun _ => x.tableTag)
    ((((s.dropShadow a).modAxis a (fun x => { x with next := none })).setB (Reg.MOTION_AX_STATUS_WAIT_TRIG a) false)).doneFor a tag
  else s

/-- Everything the axis runs or waits with ends at once, at speed 0. -/
def State.endAll (s : State) (a : Nat) : State :=
  (((s.dropShadow a).modAxis a (fun x => { x with pOld := x.p, next := none })).setB
    (Reg.MOTION_AX_STATUS_WAIT_TRIG a) false).axisRest a

/-- A stop as MODE 1 (R302): speed 0, the event, and LOST where VELOCITY exceeded V_SAFE. (Mark: DEDUCED, log 73) -/
def State.stopNow (s : State) (a : Nat) (tag : Option Nat) : State :=
  let fast := decide (aVSafe (s.axis a).record < (s.getS (Reg.MOTION_AX_VELOCITY a)).natAbs)
  let s := s.endAll a
  ((if fast then s.setB (Reg.MOTION_AX_STATUS_LOST a) true else s).showAxis a).doneFor a tag

/-- A stop for the next update; of several, the one of the highest mode acts, which does what the others do (R302,
R310); a move accepted before that update does not take it back. (Mark: DEDUCED, log 72) -/
def State.askStop (s : State) (a mode : Nat) : State :=
  s.modAxis a (fun x => { x with stop := some (max mode (x.stop.getD 0)) })

/-- A stop at an update ends what waits for a trigger, then what runs or was to run from this update. MODE 0 brakes and
never sets LOST (R294, R302). (Mark: DEDUCED, log 72) -/
def State.takeStop (s : State) (a mode : Nat) : State :=
  let s := (s.modAxis a (fun x => { x with stop := none })).endWait a
  let x := s.axis a
  let tag := x.stopTag
  if mode = 0 then
    if x.v = 0 then ((s.endAll a).showAxis a).doneFor a tag
    else (s.dropShadow a).modAxis a (fun x => { x with run := .brake tag, next := none, brk := false, ovs := false, rev := false })
  else
    let s := s.stopNow a tag
    if mode = 2 then s.deEnergise a else s

/-! ### Updates (R294 to R301) -/

/-- finish() of R295: the move ends at its target; a committed table starts. -/
def State.moveFinish (s : State) (a tag : Nat) : State :=
  let s := (s.axisRest a).axisDone a tag
  if s.tableDue a then s.tableStart a (s.axis a).p 0 else s

/-- turn() of R295. -/
def State.moveTurn (s : State) (a : Nat) : State :=
  let x := s.axis a
  let s := if x.ovs then (s.axisEvt evAxisOvershoot a).setB (Reg.MOTION_AX_STATUS_OVERSHOOT a) true else s
  let s := if x.rev then s.axisEvt evTargetReversal a else s
  s.modAxis a (fun x => { x with brk := false, ovs := false, rev := false })

/-- Put p and v after an update, in SQ64.32 and SQ32.32 (R6). -/
def State.putPv (s : State) (a : Nat) (p v : Int) : State :=
  s.modAxis a (fun x => { x with p := wrapS 96 p, v := wrapS 64 v })

/-- The end of an update of a move: p advances by the mean of the speeds, and the axis may turn. -/
def State.moveStep (s : State) (a : Nat) (v0 v : Int) : State :=
  let s := s.putPv a ((s.axis a).p + sar (v0 + v) 1) v
  if v0 ≠ 0 ∧ v = 0 then s.moveTurn a else s

/-- The braking branch of update_move(): `u` is the speed, `r` the way to go. (Mark: DEDUCED, log 73) -/
def State.moveBrake (s : State) (a : Nat) (m : Move) (v0 r : Int) : State :=
  let dm := rawAccel (aDmax (s.axis a).record)
  let sd : Int := wrapS 96 r.natAbs
  let u : Int := wrapS 64 v0.natAbs
  let need := wrapS 64 (u * u / (2 * sd))
  let s := if dm < need then s.modAxis a (fun x => { x with ovs := true }) else s
  let d := if need < m.dc then 0 else min need dm
  let un := wrapS 64 (max 0 (u - d))
  if !(s.axis a).ovs ∧ sd ≤ sar (u + un) 1 then (s.putPv a (m.target * 2 ^ 32) 0).moveFinish a m.tag
  else s.moveStep a v0 (r.sign * un)

/-- update_move() of R295. -/
def State.moveUpdate (s : State) (a : Nat) (m : Move) : State :=
  let x := s.axis a
  let dm := rawAccel (aDmax x.record)
  let r := wrapS 96 (m.target * 2 ^ 32 - x.p)
  let sd : Int := wrapS 96 r.natAbs
  let u : Int := wrapS 64 x.v.natAbs
  if x.v ≠ 0 ∧ (r = 0 ∨ r.sign ≠ x.v.sign) then
    s.moveStep a x.v (x.v.sign * max 0 (u - (if x.ovs then dm else m.dc)))
  else if r = 0 then s.moveFinish a m.tag
  else if x.brk then s.moveBrake a m x.v r
  else
    let un := wrapS 64 (if u < m.vm then min (u + m.ac) m.vm else max (u - m.dc) m.vm)
    if 0 < u ∧ 2 * m.dc * sd ≤ un * un then (s.modAxis a (fun x => { x with brk := true })).moveBrake a m x.v r
    else s.moveStep a x.v (r.sign * un)

/-- Braking by DECEL_STOP to rest (R301, R302). -/
def State.brakeUpdate (s : State) (a : Nat) (tag : Option Nat) : State :=
  let x := s.axis a
  let v := x.v.sign * max 0 ((x.v.natAbs : Int) - rawAccel (aDecelStop x.record))
  let s := s.putPv a (x.p + sar (x.v + v) 1) v
  if v = 0 then
    (s.axisRest a).doneFor a tag
  else s

/-- The end of a table (R301). -/
def State.tableEnd (s : State) (a tag : Nat) (p1 v1 : Int) : State :=
  if s.tableDue a then s.tableStart a p1 v1
  else if v1 = 0 then (s.axisRest a).axisDone a tag
  else (s.modAxis a (fun x => { x with run := .brake (some tag) })).setB (Reg.MOTION_AX_STATUS_STARVED a) true

/-- One update of a table (R300, R301, R303). (Mark: DEDUCED, log 73) -/
def State.tableUpdate (s : State) (a tag seg n : Nat) (p0 v0 : Int) : State :=
  let g := s.segment a (s.activeB a) seg
  let p1 := sEndPos g * 2 ^ 32
  let p := segPos p0 v0 p1 (sEndVel g) (sDuration g) (n + 1)
  let x := s.axis a
  if s.barred a (p - x.p) then (s.limitFlag a (p - x.p)).takeStop a 1
  else
    let s := s.putPv a p (p - x.p)
    if n + 1 < sDuration g then s.modAxis a (fun x => { x with run := .table tag seg (n + 1) p0 v0 })
    else if seg < s.get (Reg.MOTION_AX_TABLE_LAST a) then
      s.modAxis a (fun x => { x with run := .table tag (seg + 1) 0 p1 (sEndVel g) })
    else s.tableEnd a tag p1 (sEndVel g)

/-- A new move takes over (R296). -/
def State.moveStart (s : State) (a : Nat) (m : Move) : State :=
  let x := s.axis a
  let same := match x.run with | .move o => o.target == m.target | _ => false
  let away := x.v != 0 && (wrapS 96 (m.target * 2 ^ 32 - x.p)).sign != x.v.sign
  let s := if x.run.mode = 2 then s.dropShadow a else s
  let s := s.modAxis a (fun x => { x with
    run := .move m, next := none, brk := x.brk && same, ovs := false, rev := away, restAt := none })
  (s.setB (Reg.MOTION_AX_STATUS_MOVING a) true).setB (Reg.MOTION_AX_STATUS_WAIT_TRIG a) false

/-- The wait for a trigger is cancelled (R294); an axis that moves meanwhile goes on with what it runs.
(Mark: DEDUCED, log 69) -/
def State.cancelWait (s : State) (a : Nat) : State :=
  if (s.axis a).run = .rest then (s.endWait a).axisRest a else s.endWait a

/-- A waiting move or table starts at an update, or its wait is cancelled (R293, R294, R299). -/
def State.takeNext (s : State) (a : Nat) : State :=
  let x := s.axis a
  let waits := s.flag (Reg.MOTION_AX_STATUS_WAIT_TRIG a)
  if waits ∧ !x.trigSeen then
    if s.flag (Reg.TIME_TRIG_CTRL_ARMED (aStartTrig x.record - 1)) then s else s.cancelWait a
  else
    match x.next with
    | some m => s.moveStart a m
    | none => if x.run = .rest ∧ s.tableDue a then s.tableStart a x.p 0 else s

/-- What the axis runs advances by one update. -/
def State.axisRun (s : State) (a : Nat) : State :=
  match (s.axis a).run with
  | .rest => s
  | .move m => s.moveUpdate a m
  | .table tag seg n p0 v0 => s.tableUpdate a tag seg n p0 v0
  | .brake tag => s.brakeUpdate a tag

/-- Back-EMF of a phase (R304) in 1/16 nV: v less the drops over R_WIND (mΩ) and L_WIND (µH), with i in 1/16 code of
IS_SCALE µA and v in 1/16 code of VS_SCALE mV; the current changes from `i0` to `i1` within 50 µs.
(Mark: DESIGN CHOICE, log 74) -/
def backEmf (r : List Byte) (v i i0 i1 : Int) : Int :=
  v * u16 r 40 * 1000000 - u16 r 34 * i * u16 r 38 - 20 * u16 r 36 * (i1 - i0) * u16 r 38

/-- atan(2^-i) in 10^-9 of a tenth of a degree, by which the angle of a vector is found. -/
def atanSteps : List Int :=
  [450000000000, 265650511771, 140362434679, 71250163489, 35763343750, 17899106082, 8951737102, 4476141709, 2238105004,
   1119056771, 559528919, 279764526, 139882271, 69941137, 34970569, 17485284, 8742642, 4371321, 2185661, 1092830]

/-- Turn a vector with x ≥ 0 onto the x axis by the steps from 2^-i on; the angle turned, in 10^-9 of a tenth of a
degree. -/
def turnBy : Nat → List Int → Int → Int → Int
  | _, [], _, _ => 0
  | i, a :: l, x, y =>
    if 0 ≤ y then a + turnBy (i + 1) l (x + y / 2 ^ i) (y - x / 2 ^ i) else turnBy (i + 1) l (x - y / 2 ^ i) (y + x / 2 ^ i) - a

/-- The angle of a vector that is not zero in tenths of a degree, from -1,800 to 1,800; the spec does not say how it is
rounded, so `up` chooses between the two nearest values. (Mark: DESIGN CHOICE, log 74) -/
def angleOf (x y : Int) (up : Nat) : Int :=
  let scale : Int := 2 ^ 40
  let z := if 0 ≤ x then turnBy 0 atanSteps (scale * x) (scale * y)
    else turnBy 0 atanSteps (-(scale * x)) (-(scale * y)) + (if 0 ≤ y then 1800000000000 else -1800000000000)
  z / 1000000000 + up % 2

/-- φ of R304 in tenths of a degree: the angle from the current vector to the back-EMF vector in the direction of motion.
Its rounding is a free value, and so is all of it where one of the vectors is zero. (Mark: DESIGN CHOICE, log 74) -/
def State.phi (s : State) (a : Nat) (m : AxisMeas) : Int :=
  let x := s.axis a
  let eA := backEmf x.record m.vA m.iA m.startA m.endA
  let eB := backEmf x.record m.vB m.iB m.startB m.endB
  let dot := m.iA * eA + m.iB * eB
  let cross := m.iA * eB - m.iB * eA
  if dot = 0 ∧ cross = 0 then sgn 32 s.fresh
  else angleOf dot (if x.velocity < 0 then -cross else cross) s.fresh

/-- The load angle of an update (R304). (Mark: DESIGN CHOICE, log 74) -/
def State.loadAngle (s : State) (a : Nat) (m : AxisMeas) : State :=
  let x := s.axis a
  let ok := aAngleSet x.record && decide ((aStallVmin x.record : Int) ≤ x.velocity.natAbs)
  let angle := (clampI 0 1800 (900 - s.phi a m)).toNat
  let s := s.setB (Reg.MOTION_AX_LOAD_ANGLE_VALID a) ok
  if ok then s.used.set (Reg.MOTION_AX_LOAD_ANGLE a) angle else s

/-- The stall test (R305): the axis stops as MODE 1, with EVT_AXIS_STALL in place of EVT_AXIS_DONE. -/
def State.stallTest (s : State) (a : Nat) : State :=
  let x := s.axis a
  let ang := s.get (Reg.MOTION_AX_LOAD_ANGLE a)
  let above := aStallAngle x.record != 0 && s.flag (Reg.MOTION_AX_LOAD_ANGLE_VALID a) && decide (aStallAngle x.record < ang)
  let n := if above then x.stalls + 1 else 0
  let s := s.modAxis a (fun x => { x with stalls := n })
  if n < aStallCount x.record ∨ !above then s
  else
    let s := (s.modAxis a (fun x => { x with stalls := 0, stop := none })).stopNow a none
    let s := s.modAxis a (fun x => { x with restAt := none })
    let s := ((s.setB (Reg.MOTION_AX_STATUS_STALL a) true).setB (Reg.MOTION_AX_STATUS_LOST a) true).incSat
      (Reg.MOTION_AX_COUNTS_STALLS a) 1
    s.raise evAxisStall 0 (leBytes 2 a ++ leBytes 2 ang ++ [0, 0, 0, 0] ++ leInt 8 (s.axisPos a))

/-- One update of one axis, with what its converters give (R290 to R305). -/
def State.axisUpdate (s : State) (a : Nat) (m : AxisMeas) : State :=
  let old := s.axisPos a
  let s := (s.axisNote a).modAxis a (fun x => { x with record := s.axisRecord a })
  let s := match (s.axis a).stop with
    | some m => s.takeStop a m
    | none => s.takeNext a
  let s := s.modAxis a (fun x => { x with pOld := x.p })
  let s := s.axisRun a
  let s := (if s.moving a then (s.modAxis a (fun x => { x with restAt := none })).setB (Reg.MOTION_AX_STATUS_HOLD a) false
    else s).showAxis a
  let s := s.cmpEvalAll (4 + a) true old (s.axisPos a)
  (((s.loadAngle a m).stallTest a).followIndex a).chopWakes a

/-- PROFILE_UPDATE (R290), with what the converters of the four axes give. (Mark: DESIGN CHOICE, log 74) -/
def execProfileUpdate (meas : List AxisMeas) (t : Nat) (s : State) : Host.Outcome State Fault Refusal :=
  eventAwake t (fun s =>
    let s := { s with motion := { s.motion with updateAt := s.now } }
    (List.range 4).foldl (fun s a => s.axisUpdate a (meas.getD a ⟨0, 0, 0, 0, 0, 0, 0, 0⟩)) s) s

/-! ### Commands -/

/-- A record written to an axis, by AXIS_CONFIG or to its words (R306, R311): its status and the state after it.
(Mark: DEDUCED, log 68) -/
def State.writeAxis (s : State) (a : Nat) (r : List Byte) : Nat × State :=
  let was := aEnable (s.axisRecord a)
  if s.moving a then (stBadState, s)
  else if !axisRecordOk r then (stBadParam, s)
  else
    let s := (List.range 16).foldl (fun s w => s.set (Reg.MOTION_AX_CFG_WORD a w) (u32 r (4 * w))) s
    (stOk, if aEnable r then s.energise a else if was then s.deEnergise a else s)

/-- AXIS_CONFIG. -/
def cmdAxisConfig (a : Nat) (record : List Byte) (s : State) : Res :=
  let (st, s) := s.writeAxis a record
  ⟨st, [], s, false⟩

/-- The trigger that a command waits for, by START_TRIG: a move always, a table where it will start from rest, after a
braking too (R293, R294, R299). (Mark: DEDUCED, log 69) -/
def State.startTrig (s : State) (a : Nat) (move : Bool) : Option Nat :=
  let x := s.axis a
  let k := aStartTrig (s.axisRecord a)
  let fromRest := x.next.isNone && (x.run.mode == 0 || x.run.mode == 3)
  if k = 0 ∨ !(move || fromRest) then none else some (k - 1)

/-- A start that would wait for a trigger that is not armed (R294). (Mark: DEDUCED, log 69) -/
def State.trigUnarmed (s : State) (a : Nat) (move : Bool) : Bool :=
  match s.startTrig a move with
  | some k => !s.flag (Reg.TIME_TRIG_CTRL_ARMED k)
  | none => false

/-- Mark an axis as moving or waiting once a command is accepted (R291, R294). -/
def State.markWait (s : State) (a : Nat) (move : Bool) : State :=
  match s.startTrig a move with
  | some _ =>
    let s := s.modAxis a (fun x => { x with trigSeen := false })
    (s.setB (Reg.MOTION_AX_STATUS_WAIT_TRIG a) true).setB (Reg.MOTION_AX_STATUS_MOVING a) true
  | none => if move then s.setB (Reg.MOTION_AX_STATUS_MOVING a) true else s

/-- The checks of AXIS_MOVE, and the move (R293, R294). (Mark: DEDUCED, log 69) -/
def State.axisMove (s : State) (a : Nat) (target : Int) (vmax accel decel tag : Nat) : Nat × State :=
  let r := s.axisRecord a
  if vmax = 0 ∨ aVmaxAbs r < vmax ∨ accel = 0 ∨ aDmax r < accel ∨ decel = 0 ∨ aDmax r < decel then (stBadParam, s)
  else if !s.energised a ∨ s.flag (Reg.MOTION_AX_STATUS_LOST a) then (stBadState, s)
  else if s.barred a (target - s.axisPos a) then (stBadState, s)
  else if s.trigUnarmed a true then (stBadState, s)
  else
    let m : Move := ⟨target, rawSpeed vmax, rawAccel accel, rawAccel decel, tag⟩
    (stAccepted, (s.markWait a true).modAxis a (fun x => { x with next := some m }))

/-- AXIS_MOVE: a host's move replaces a bar move of the loop (R255). -/
def cmdAxisMove (a : Nat) (target : Int) (vmax accel decel tag : Nat) (s : State) : Res :=
  let (st, s') := s.axisMove a target vmax accel decel tag
  if st = stAccepted then
    Res.err st { s' with loops := { s'.loops with planes := s'.loops.planes.map (fun x =>
      if x.barMove = some a then { x with barMove := none, waitDue := true } else x) } }
  else Res.err st s

/-- Commit the shadow table with its last segment (R298, R299). (Mark: DEDUCED, log 70) -/
def State.commitTable (s : State) (a last tag : Nat) : State :=
  ((s.set (Reg.MOTION_AX_TABLE_SHADOW a) 2).modAxis a (fun x => { x with
    shadowLast := last, tableTag := some tag })).markWait a false

/-- Segments 0 to `last` of the shadow keep R298. (Mark: DEDUCED, log 71) -/
def State.shadowOk (s : State) (a last : Nat) : Bool :=
  (List.range (last + 1)).all (fun i => segOk (aVmaxAbs (s.axisRecord a)) (s.segment a (!s.activeB a) i))

/-- AXIS_TABLE (R298). (Mark: DEDUCED, log 71) -/
def cmdAxisTable (a first last : Nat) (segs : List Byte) (tag : Nat) (s : State) : Res :=
  let n := segs.length / 16
  if s.get (Reg.MOTION_AX_TABLE_SHADOW a) = 2 then Res.err stBusy s
  else if 256 < first + n then Res.err stBadParam s
  else
    let s' := s.putTabs false (segBase a (!s.activeB a) + 16 * first) segs
    if last = 1 ∧ !s'.shadowOk a (first + n - 1) then Res.err stBadParam s
    else if !s.energised a ∨ s.flag (Reg.MOTION_AX_STATUS_LOST a) ∨ (last = 1 ∧ s.trigUnarmed a false) then Res.err stBadState s
    else if last = 1 then Res.ok (s'.commitTable a (first + n - 1) tag)
    else Res.ok (s'.set (Reg.MOTION_AX_TABLE_SHADOW a) 1)

/-- GO of TABLE_COMMIT (R298): its status and the state after it. (Mark: DEDUCED, log 70) -/
def State.tableGo (s : State) (a : Nat) : Nat × State :=
  let last := s.get (Reg.MOTION_AX_TABLE_COMMIT_LAST_INDEX a)
  if s.get (Reg.MOTION_AX_TABLE_SHADOW a) = 2 then (stBusy, s)
  else if !s.shadowOk a last then (stBadParam, s)
  else if !s.energised a ∨ s.flag (Reg.MOTION_AX_STATUS_LOST a) ∨ s.trigUnarmed a false then (stBadState, s)
  else (stOk, s.commitTable a last 0)

/-- AXIS_STOP (R302): it acts at the next update. An axis at rest with nothing waiting raises no event. -/
def cmdAxisStop (a mode : Nat) (s : State) : Res := Res.ok (s.askStop a mode)

/-- AXIS_READ. -/
def cmdAxisRead (a : Nat) (s : State) : Res :=
  let fl := s.get (Reg.MOTION_AX_STATUS_LOST a) + 2 * s.get (Reg.MOTION_AX_STATUS_STALL a) +
    4 * (s.axisPassed a).toNat + 8 * s.get (Reg.MOTION_AX_STATUS_MOVING a)
  Res.okData (leInt 8 (s.axisPos a) ++ leInt 4 (satS 32 (s.axis a).velocity) ++
    leBytes 2 (s.get (Reg.MOTION_AX_LOAD_ANGLE a)) ++ leBytes 1 fl) s

/-- AXIS_SET_POS (R306). -/
def cmdAxisSetPos (a : Nat) (position : Int) (s : State) : Res :=
  if s.moving a then Res.err stBadState s
  else
    let s := (s.axisNote a).modAxis a (fun x => { x with p := position * 2 ^ 32, pOld := position * 2 ^ 32 })
    let s := (s.setB (Reg.MOTION_AX_STATUS_LOST a) false).setB (Reg.MOTION_AX_STATUS_STALL a) false
    let s := (s.setB (Reg.MOTION_AX_STATUS_OVERSHOOT a) false).showAxis a
    Res.ok (((s.cmpJump (4 + a) position).followIndex a).chopWakes a)

/-! ### Switches (R308 to R310) -/

def State.modSwitch (s : State) (k : Nat) (f : Switch → Switch) : State :=
  { s with motion := { s.motion with switches := modAt f k s.motion.switches } }

/-- The capture of a source at an instant at most 1 µs ago: encoder counters, then axis positions.
(Mark: DEDUCED, log 75) -/
def State.sourceAt (s : State) (k t : Nat) : Int :=
  if k < 4 then (s.encAt k t).1
  else
    match (s.axis (k - 4)).hist.find? (fun h => decide (t < h.1)) with
    | some h => h.2
    | none => s.axisPos (k - 4)

/-- The stop of the axes in STOP_MASK at their next update (R310). (Mark: DEDUCED, log 72) -/
def State.latchStops (s : State) (k : Nat) : State :=
  (List.range 4).foldl (fun s a =>
    if bit (s.get (Reg.MOTION_SW_CTRL_STOP_MASK k)) a then
      s.askStop a (s.get (Reg.MOTION_SW_CTRL_STOP_MODE k))
    else s) s

/-- A latch (R308, R310), with the print mark of a job armed on the switch (R129). -/
def State.swLatch (s : State) (k : Nat) : State :=
  let t := s.now - 800
  let caps := (List.range 8).map (fun i => s.sourceAt i t)
  let inv := (List.range 4).foldl (fun m e => if (s.encAt e t).2 then m + 2 ^ e else m) 0
  let s := (List.range 8).foldl (fun s i =>
    (s.set (Reg.MOTION_SW_CAP_LO k i) (pat 64 (caps.getD i 0))).set (Reg.MOTION_SW_CAP_HI k i) (pat 64 (caps.getD i 0) / 2 ^ 32)) s
  let s := (s.set (Reg.MOTION_SW_CAP_TB1 k) (stepsNs t)).set (Reg.MOTION_SW_STATUS_ENC_INVALID k) inv
  let s := ((s.setB (Reg.MOTION_SW_STATUS_LATCHED k) true).inc (Reg.MOTION_SW_LATCHES k)).setB
    (Reg.MOTION_SW_STATUS_ARMED k) false
  let s := s.modSwitch k (fun x => { x with since := some s.now })
  let s := s.raise evSwitchLatch 0 (leBytes 8 k ++ leInt 8 (caps.getD (s.get (Reg.MOTION_SW_CTRL_LATCH_SRC k)) 0))
  let s := s.latchStops k
  match s.job.queued with
  | some j => s.armLatch k (caps.getD (s.encOf (j.planeList.headD 0)) 0)
  | none => s

/-- A limit switch becomes active while its axis moves that way (R303). (Mark: DEDUCED, log 72) -/
def State.limitStops (s : State) (k : Nat) : State :=
  (List.range 4).foldl (fun s a =>
    let x := s.axis a
    if (x.v < 0 ∧ aLimNeg x.record = k) ∨ (0 < x.v ∧ aLimPos x.record = k) then
      (s.limitFlag a x.v).askStop a 1
    else s) s

/-- A write of EDGE (R309): no latch; a level that stays active keeps its time since the latch, and one that becomes
active bars its direction (R303). (Mark: DEDUCED, log 157) -/
def State.writeEdge (s : State) (k v : Nat) : State :=
  let was := s.swActive k
  let s := s.set (Reg.MOTION_SW_CTRL_EDGE k) v
  let now := s.swActive k
  let s := s.modSwitch k (fun x => { x with since := if now then x.since else none })
  let s := s.setB (Reg.MOTION_SW_STATUS_ARMED k) (!now)
  if now && !was then s.limitStops k else s

/-- SWITCH_CONFIG. -/
def cmdSwitchConfig (k edge stuckMs : Nat) (s : State) : Res :=
  Res.ok ((s.writeEdge k edge).set (Reg.MOTION_SW_CTRL_STUCK_MS k) stuckMs)

/-- A level accepted after it has held for 1 µs (R308, R309). (Mark: DEDUCED, log 75) -/
def State.swLevel (s : State) (k : Nat) (level : Bool) : State :=
  let x := s.motion.switches.getD k ⟨true, none⟩
  let was := s.swActive k
  let armed := s.flag (Reg.MOTION_SW_STATUS_ARMED k)
  let s := (s.setB (Reg.MOTION_SW_STATUS_LEVEL k) level).modSwitch k (fun x => { x with fresh := false })
  let now := s.swActive k
  if !now then (s.setB (Reg.MOTION_SW_STATUS_ARMED k) true).modSwitch k (fun x => { x with since := none })
  else if x.fresh then s.setB (Reg.MOTION_SW_STATUS_ARMED k) false
  else
    let s := if was then s else s.limitStops k
    if armed ∧ !was then s.swLatch k else s

/-- SWITCH_LEVEL_ACCEPTED (R308). -/
def execSwitchLevelAccepted (k : Fin 8) (level : Bool) (t : Nat) (s : State) : Host.Outcome State Fault Refusal :=
  eventAwake t (fun s => s.swLevel k level) s

/-- EVT_SWITCH_STUCK (R309), once for a latch. -/
def execEvtSwitchStuck (k : Fin 8) (t : Nat) (s : State) : Host.Outcome State Fault Refusal :=
  eventAwake t (fun s =>
    let ms := s.get (Reg.MOTION_SW_CTRL_STUCK_MS k)
    s.when (ms != 0 && (match (s.motion.switches.getD k ⟨true, none⟩).since with
        | some a => decide (a + ms * msSteps ≤ s.now)
        | none => false))
      (fun s => ((s.modSwitch k (fun x => { x with since := none })).setB (Reg.MOTION_SW_STATUS_STUCK k) true).raise
        evSwitchStuck 0 (leBytes 1 k))) s

/-- An event of time trigger `k` lets the axes that wait for it start (R293). -/
def State.axisTrigger (s : State) (k : Nat) : State :=
  (List.range 4).foldl (fun s a =>
    if s.flag (Reg.MOTION_AX_STATUS_WAIT_TRIG a) && aStartTrig (s.axisRecord a) == k + 1 then
      s.modAxis a (fun x => { x with trigSeen := true })
    else s) s

end Sys2Proof.Machine
end

