-- ==== Sys2Proof/Machine/Loops.lean ====
section
/-! DEFINITION. The colour, nozzle and alignment loops, and the alignment record (11_colour_alignment_loop.md). -/

namespace Sys2Proof.Machine

/-! ### Modes (R238 to R240) -/

/-- Mode and step limit of a loop, by its number. -/
def loopMode (l : Nat) : Fld :=
  if l = 0 then Reg.MEASURE_LOOP_MODE_COLOUR else if l = 1 then Reg.MEASURE_LOOP_MODE_NOZZLE
  else Reg.MEASURE_LOOP_MODE_ALIGN
def loopLimit (l : Nat) : Fld :=
  if l = 0 then Reg.MEASURE_COLOUR_LIMIT else if l = 1 then Reg.MEASURE_NOZZLE_LIMIT else Reg.MEASURE_ALIGN_LIMIT

/-- The largest STEP_LIMIT of a loop. -/
def loopTop (l : Nat) : Nat := if l = 0 then 10000 else if l = 1 then 4096 else 256

def State.loopRuns (s : State) (l : Nat) : Bool := s.get (loopMode l) == 1

/-- A change from off to run (R240). (Mark: DEDUCED, log 89) -/
def State.loopReset (s : State) (l : Nat) : State :=
  let s := if l = 2 then { s with loops := { s.loops with refSeen := false } } else s
  (List.range 4).foldl (fun s p =>
    if l = 0 then (s.takeRef p).zeroCorr p
    else if l = 1 then
      (s.zeroMisses p).modLoop p (fun x => { x with dead := if 4 ∈ x.loads then x.dead else [] })
    else (s.modLoop p (fun x => { x with
      wide := List.replicate 48 0, narrow := List.replicate 48 0 })).setB (Reg.MEASURE_PL_STATUS_REF_SEEN p) false) s

/-- A change to run: the wait positions, and the lines since the last evaluation (R242, R244).
(Mark: DEDUCED, log 89; DEDUCED, log 90) -/
def State.loopEnters (s : State) (l : Nat) : State :=
  (List.range 4).foldl (fun s p => (s.waitMark p).modLoop p (fun x =>
    { x with evalAt := if l = 0 then List.replicate 16 x.issued else x.evalAt })) s

/-- LOOP_CTRL (R238, R240). -/
def cmdLoopCtrl (l mode limit : Nat) (s : State) : Res :=
  if 2 < l ∨ 2 < mode ∨ loopTop l < limit then Res.err stBadParam s
  else if mode = 1 ∧ !s.flag Reg.MEASURE_WORK_HI_VALID then Res.err stBadState s
  else
    let old := s.get (loopMode l)
    let s := if limit = 0 then s else s.set (loopLimit l) limit
    let s := if old = 0 ∧ mode = 1 then s.loopReset l else s
    let s := if old ≠ 1 ∧ mode = 1 then s.loopEnters l else s
    let s := if l = 2 ∧ mode ≠ 2 then { s with loops := { s.loops with ran := mode == 1 } } else s
    Res.ok (s.set (loopMode l) mode)

/-! ### Frames that qualify (R242) -/

/-- The web range of a frame at a plane's bar; the length is a free value while YS is 0 (log 4). -/
def State.frameRange (s : State) (p : Nat) (f : CamFrame) : Int × Int :=
  let a := f.web - s.get (Reg.MEASURE_PL_CAM_DIST p)
  let ys := s.get (Reg.MEASURE_PL_YS p)
  let n := if ys = 0 then s.fresh else (f.kept * 2 ^ 24 + ys - 1) / ys
  (a, a + n - 1)

/-- A span of missed lines of the plane meets a web range. -/
def State.missedIn (s : State) (p : Nat) (r : Int × Int) : Bool :=
  (s.loop p).spans.any (fun x => decide (x.1 ≤ r.2 ∧ r.1 < x.2)) ||
    match (s.plane p).miss with | some m => decide (m.start ≤ r.2) | none => false

/-- A frame may be used for a plane. (Mark: DEDUCED, log 84) -/
def State.frameUsed (s : State) (p : Nat) (f : CamFrame) : Bool :=
  cEncSel f.record == s.encOf p && !(s.loop p).waitDue && decide ((s.loop p).wait ≤ f.web) &&
    !s.missedIn p (s.frameRange p f)

/-! ### Loads of the loops (R245, R248, R254) -/

/-- Stage a table in the work area and load it; the Boolean says that the load was accepted.
(Mark: DEDUCED, log 86) -/
def State.loopLoad (s : State) (p table off : Nat) (data : List Byte) : Bool × State :=
  if !s.flag Reg.MEASURE_WORK_HI_VALID || s.tableBusy p table then (false, s)
  else
    let s := s.workWrite p off data
    let r := s.tableLoad true p table (s.get (Reg.MEASURE_PL_CTRL_FLIP_REPEAT p)) (s.workAddr p + off) data.length 0 .uplink
    if r.status = stAccepted then (true, r.s.modLoop p (fun x => { x with loads := table :: x.loads })) else (false, r.s)

/-- EVT_LOOP_LIMIT. -/
def State.loopLimitEvt (s : State) (l p z : Nat) : State :=
  s.raise evLoopLimit 0 (leBytes 1 l ++ leBytes 1 p ++ leBytes 1 z)

/-! ### Colour (R243 to R245) -/

/-- The patches of a plane that the port of a frame measures. -/
def State.patchesOf (s : State) (p : Nat) (f : CamFrame) : List Nat :=
  (List.range 64).filter (fun i => s.flag (Reg.MEASURE_PATCH_CFG_ENABLE i) && s.get (Reg.MEASURE_PATCH_CFG_PLANE i) == p &&
    (f.rois.getD []).any (fun r => r.1 == s.get (Reg.MEASURE_PATCH_CFG_ROI i)))

/-- The ROI result of a patch comes from the frame and may be used. -/
def State.patchFresh (s : State) (f : CamFrame) (i : Nat) : Bool :=
  let r := s.get (Reg.MEASURE_PATCH_CFG_ROI i)
  s.flag (Reg.MEASURE_ROI_INFO_VALID r) && !s.flag (Reg.MEASURE_ROI_INFO_STALE r) &&
    !s.flag (Reg.MEASURE_ROI_INFO_SUSPECT r) && s.get (Reg.MEASURE_ROI_INFO_FRAME r) == low 24 f.num &&
    s.loops.patches.getD i none != some f.num

/-- The change that a patch asks for, in 0.01 %; a free value where SLOPE is 0 (log 4). -/
def State.patchStep (s : State) (i : Nat) : Int :=
  let mean := (s.cam.stats.getD (s.get (Reg.MEASURE_PATCH_CFG_ROI i)) (0, 0)).1 / 65536
  let e : Int := (mean : Int) - s.get (Reg.MEASURE_PATCH_TARGET i)
  let slope := s.getS (Reg.MEASURE_PATCH_TARGET_SLOPE i)
  if e.natAbs ≤ s.get (Reg.MEASURE_PATCH_BAND_DEAD_BAND i) then 0
  else if slope = 0 then sgn 32 (Config.free (s.free + i))
  else tdiv (-(e * 100 * s.get Reg.MEASURE_COLOUR_CFG_GAIN)) (slope * 256)

/-- Lines of a plane in 100 m of web. (Mark: DEDUCED, log 90) -/
def State.lines100 (s : State) (p : Nat) : Nat := if s.flag (Reg.LINEGEN_PL_CONFIG_PITCH p) then 2362205 else 4724409

/-- One zone, from the steps that its patches ask for (R244). (Mark: DEDUCED, log 90) -/
def State.colourZone (s : State) (p z : Nat) (ds : List Int) : State :=
  let x := s.loop p
  let l100 := s.lines100 p
  let lim := s.get Reg.MEASURE_COLOUR_LIMIT
  let cmax : Int := s.get Reg.MEASURE_COLOUR_CFG_CORR_MAX
  let d := tdiv (wrapS 32 ds.sum) ds.length
  let b := min (x.budget.getD z 0 + lim * (x.issued - x.evalAt.getD z 0)) (lim * l100)
  let a : Int := (b / l100 : Nat)
  let step := clampI (-a) a d
  let last := x.last.getD z 0
  let step := if step ≠ 0 ∧ last ≠ 0 ∧ step.sign ≠ last.sign ∧ (x.prevD.getD z 0).sign ≠ step.sign then 0 else step
  let corr := x.corr.getD z 0
  let c := clampI (-cmax) cmax (corr + step)
  let cut := step ≠ 0 ∧ c ≠ corr + step
  let step := c - corr
  let bound := c = cmax ∨ c = -cmax
  let seen := x.atLimit.getD z false
  let s := s.modLoop p (fun x => { x with
    prevD := modAt (fun _ => d) z x.prevD,
    budget := modAt (fun _ => pat 64 (b - step.natAbs * l100 : Int)) z x.budget,
    evalAt := modAt (fun _ => x.issued) z x.evalAt,
    corr := modAt (fun _ => c) z x.corr,
    last := if step = 0 then x.last else modAt (fun _ => step) z x.last,
    toneDue := x.toneDue || decide (step ≠ 0),
    atLimit := modAt (fun _ => decide (bound ∧ (cut ∨ seen))) z x.atLimit })
  let s := if step = 0 then s
    else (s.showCorr p).raise evLoopStep 0 (leBytes 1 p ++ leBytes 1 z ++ leInt 2 step)
  if cut ∧ !seen then s.loopLimitEvt 0 p z else s

/-- The tone curves that the corrections make of REF (R245). -/
def tonesOf (ref : List Byte) (corr : List Int) : List Byte :=
  (List.range 4096).flatMap (fun i =>
    let r : Int := u16 ref (2 * i)
    leInt 2 (min 0xFF00 (tdiv (r * (10000 + corr.getD (i / 256) 0) + 5000) 10000)))

/-- Load the tone curves of a plane; an uncorrectable REF abandons the evaluation, and the state is then `s0`
(R276). (Mark: DEDUCED, log 87) -/
def State.toneLoad (s s0 : State) (p : Nat) : State :=
  let (s, ref, bad) := s.fetch (s.workAddr p + 0x2000) 8192
  if !bad.isEmpty then s0.meetUes bad 9
  else
    let (ok, s) := s.loopLoad p 0 0 (tonesOf ref (s.loop p).corr)
    s.modLoop p (fun x => { x with toneDue := !ok })

/-- The colour loop on a plane at the end of a frame that qualifies. (Mark: DEDUCED, log 87; DEDUCED, log 93) -/
def State.colourFrame (s0 : State) (p : Nat) (f : CamFrame) : State :=
  let is := (s0.patchesOf p f).filter (s0.patchFresh f)
  if is.isEmpty ∨ !s0.loopRuns 0 then s0
  else
    let s := (List.range 16).foldl (fun s z =>
      let zs := is.filter (fun i => s0.get (Reg.MEASURE_PATCH_CFG_ZONE i) == z)
      if zs.isEmpty then s else s.colourZone p z (zs.map s0.patchStep)) s0
    let s := { s with
      free := s.free + 64,
      loops := { s.loops with
      patches := is.foldl (fun l i => modAt (fun _ => some f.num) i l) s.loops.patches } }
    if (s.loop p).toneDue then s.toneLoad s0 p else s

/-! ### Where the camera sees the web (R247) -/

/-- The jobs whose lines the camera may see: those that have ended on the plane, and those that print on it. -/
def State.jobViews (s : State) (p : Nat) : List JobView :=
  (s.loop p).past ++
    ((s.job.running.toList ++ s.job.queued.toList).filter (fun j => j.has p && j.started)).map (s.viewOf p)

/-- The repeats of a job that the plane has begun. -/
def JobView.repeats (v : JobView) : List Nat := List.range (v.lines / max 1 v.repeatLines + 1)

/-- ref(k) of a line of a job on the plane. -/
def JobView.ref (v : JobView) (k : Nat) : Int := refPos v.start v.cpl v.delay k

/-- The camera line of a line of the raster, and the camera column of a nozzle position. (Mark: DEDUCED, log 79) -/
def State.lineY (s : State) (p : Nat) (f : CamFrame) (v : JobView) (k : Nat) : Int :=
  sar ((intPart (v.ref k) + s.get (Reg.MEASURE_PL_CAM_DIST p) - f.web) * s.get (Reg.MEASURE_PL_YS p) + 2 ^ 23) 24
/-- Mark: DEDUCED, log 79. -/
def State.columnX (s : State) (p n : Nat) : Nat :=
  (s.get (Reg.MEASURE_PL_X0 p) * 256 + n * s.get (Reg.MEASURE_PL_XS p) + 2 ^ 23) / 2 ^ 24

/-- Jobs whose last line has passed the camera before a frame are forgotten. -/
def State.dropViews (s : State) (p : Nat) (f : CamFrame) : State :=
  s.modLoop p (fun x => { x with past := x.past.filter (fun v => decide (0 ≤ s.lineY p f v v.lines)) })

/-- The output ring of the frame holds the channel that the plane reads. (Mark: DEDUCED, log 81) -/
def State.outSuits (s : State) (p : Nat) (f : CamFrame) : Bool :=
  let ch := s.get (Reg.MEASURE_PL_CTRL_CH p)
  cOutFmt f.record == 2 && (cOutCh f.record == 0 || (decide (ch < 3) && cOutCh f.record == ch + 1))

/-- Bytes of a pixel in the output ring, and where it stands. -/
def outPixel (f : CamFrame) : Nat := if cOutCh f.record = 0 then 6 else 2
def outPixelAddr (f : CamFrame) (y x : Nat) : Nat :=
  f.outAddr + 256 + y * cOutStride f.record + x * outPixel f

/-- A sample of the output ring in a plane's channel. -/
def State.ringSample (s : State) (p : Nat) (f : CamFrame) (y x : Nat) : Nat :=
  let b := s.readMem (outPixelAddr f y x) (outPixel f)
  let ch := s.get (Reg.MEASURE_PL_CTRL_CH p)
  if cOutCh f.record = 0 then channel [u16 b 0, u16 b 2, u16 b 4] 0 ch else u16 b 0

/-- The uncorrectable blocks that reading samples meets. -/
def State.badSamples (s : State) (f : CamFrame) (yx : List (Nat × Nat)) : List Nat :=
  (yx.flatMap (fun a => s.badBlocks (outPixelAddr f a.1 a.2) (outPixel f))).eraseDups

/-- Samples are read: fills of their regions end first, corrected errors are counted once a block, and the uncorrectable
blocks are reported (R269, R275, R276). -/
def State.readSamples (s : State) (f : CamFrame) (yx : List (Nat × Nat)) : State × List Nat :=
  let s := yx.foldl (fun s a => s.waitFills (outPixelAddr f a.1 a.2) (outPixel f)) s
  let bs := (yx.flatMap (fun a => blocksIn (outPixelAddr f a.1 a.2) (outPixel f))).eraseDups
  ((bs.filter (fun b => b ∈ s.mem.ce && s.reaches b)).foldl State.meetCe s, s.badSamples f yx)

/-- A camera line of the frame. (Mark: DEDUCED, log 80) -/
def inFrame (f : CamFrame) (y : Int) : Bool := decide (0 ≤ y ∧ y < (f.kept : Int))

/-! ### Nozzle health (R247 to R249) -/

/-- The centre lines of the dash and the gap of a rung, from the first line of the ladder. (Mark: DEDUCED, log 79) -/
def State.rungLines (s : State) (p q : Nat) : Nat × Nat :=
  let d := s.get (Reg.MEASURE_PL_LADDER_DASH p)
  let g := s.get (Reg.MEASURE_PL_LADDER_GAP p)
  (q * (d + g) + d / 2, q * (d + g) + d + g / 2)

/-- Rungs of a ladder, and its lines. -/
def State.rungs (s : State) (p : Nat) : Nat := pRows (s.profile p) * s.get (Reg.MEASURE_PL_LADDER_S p)
def State.ladderLines (s : State) (p : Nat) : Nat :=
  s.rungs p * (s.get (Reg.MEASURE_PL_LADDER_DASH p) + s.get (Reg.MEASURE_PL_LADDER_GAP p))

/-- The head and nozzle that print a position, where it is judged. -/
def State.judgedNozzle (s : State) (x : Tone) (n : Nat) : Option (Nat × Nat) :=
  let at_ := fun (h : Nat) => (h, ((n : Int) - x.pos.getD h 0).toNat)
  match s.liveHeads x n with
  | [h] => some (at_ h)
  | [g0, g1] =>
    let w := s.stitchAt x g1 n
    if w = 255 then some (at_ g0) else if w = 0 then some (at_ g1) else none
  | _ => none

/-- The camera lines of the dash and gap of every rung of a repeat's ladder. -/
def State.ladderYs (s : State) (p : Nat) (f : CamFrame) (v : JobView) (first : Nat) : List (Int × Int) :=
  (List.range (s.rungs p)).map (fun q =>
    let c := s.rungLines p q
    (s.lineY p f v (first + c.1), s.lineY p f v (first + c.2)))

/-- A judged position: its row, position, head and nozzle, and whether it is a candidate. -/
structure Judged where
  row : Nat
  n : Nat
  head : Nat
  nozzle : Nat
  candidate : Bool

/-- The positions of a rung that are judged, with their columns. (Mark: DEDUCED, log 80) -/
def State.rungPositions (s : State) (p : Nat) (f : CamFrame) (q : Nat) : List (Nat × Nat × Nat × Nat) :=
  let sMod := s.get (Reg.MEASURE_PL_LADDER_S p)
  let x := { s.toneOf p 0 with row := q / sMod }
  (List.range x.n).filterMap (fun n =>
    if n % sMod = q % sMod ∧ s.columnX p n < cOutWidth f.record then
      (s.judgedNozzle x n).map (fun hj => (n, s.columnX p n, hj.1, hj.2))
    else none)

/-- Judge a rung. (Mark: DEDUCED, log 80) -/
def State.judgeRung (s : State) (p : Nat) (f : CamFrame) (q : Nat) (y : Int × Int) : List Judged :=
  let ps := (s.rungPositions p f q).map (fun a =>
    (a, (s.ringSample p f y.2.toNat a.2.1 : Int) - s.ringSample p f y.1.toNat a.2.1))
  let med := medianAsc (sortAsc (ps.map (·.2)))
  ps.map (fun a => ⟨q / s.get (Reg.MEASURE_PL_LADDER_S p), a.1.1, a.1.2.2.1, a.1.2.2.2,
    decide (256 * a.2 < s.get (Reg.MEASURE_PL_RATIO_DEAD_RATIO p) * med)⟩)

/-- A nibble of the miss counts, and its new value. (Mark: DEDUCED, log 88) -/
def nibble (b : List Byte) (i : Nat) : Nat := bits (b.getD (i / 2) 0).toNat (4 * (i % 2)) 4
def putNibble (b : List Byte) (i v : Nat) : List Byte :=
  modAt (fun x => BitVec.ofNat 8 (if i % 2 = 0 then x.toNat / 16 * 16 + v else v * 16 + x.toNat % 16)) (i / 2) b

/-- The dead map in use with the new dead nozzles of a plane. (Mark: DEDUCED, log 88) -/
def State.newDeadMap (s : State) (p : Nat) : List Byte :=
  let new := (s.loop p).dead.map (s.deadIndex p)
  (List.range (s.tableLen p 4)).map (fun j => BitVec.ofNat 8 (((List.range 8).map (fun k =>
    let i := 8 * j + k
    let b := s.shareBase p 4 + i
    if i < s.shareSize p 4 ∧ (i ∈ new ∨ bit (s.planeTab p 4 (tabBase + 0x300000 + b / 8)) (b % 8)) then 2 ^ k
    else 0)).sum))

/-- Load the dead map while new dead nozzles are due (R248). (Mark: DEDUCED, log 86; DEDUCED, log 88) -/
def State.deadLoad (s : State) (p : Nat) : State :=
  if (s.loop p).dead.isEmpty ∨ 4 ∈ (s.loop p).loads then s else (s.loopLoad p 4 0x10000 (s.newDeadMap p)).2

/-- The miss counts after a ladder, and in run the new dead nozzles (R239, R248).
(Mark: DEDUCED, log 88; DEDUCED, log 93) -/
def State.ladderCounts (s : State) (p : Nat) (js : List Judged) : State :=
  let n := s.positions p
  let len := (pRows (s.profile p) * n + 1) / 2
  let top := s.get (Reg.MEASURE_PL_LADDER_MISSES p)
  let (s, old, bad) := s.fetch (s.workAddr p + 0x40000) len
  if !bad.isEmpty then s.meetUes bad 9
  else
    let cnt := fun (j : Judged) => if j.candidate then min top (nibble old (j.row * n + j.n) + 1) else 0
    let dead := js.filter (fun j => j.candidate && cnt j == top)
    let above := s.get Reg.MEASURE_NOZZLE_LIMIT < dead.length
    let new := js.foldl (fun b j =>
      putNibble b (j.row * n + j.n) (if above ∧ j.candidate ∧ cnt j = top then top - 1 else cnt j)) old
    let s := s.workWrite p 0x40000 new
    if above then (s.incSat (Reg.MEASURE_PL_COUNTS_REJECTED p) 1).loopLimitEvt 1 p 0xFF
    else if !s.loopRuns 1 then s
    else
      let m := pNozzles (s.profile p)
      (s.modLoop p (fun x => { x with
        dead := (x.dead ++ dead.map (fun j => (j.row, j.head * m + j.nozzle))).eraseDups })).deadLoad p

/-- A ladder of a frame: split, or read and judged (R247). (Mark: DEDUCED, log 82) -/
def State.ladder (s : State) (p : Nat) (f : CamFrame) (v : JobView) (rep : Nat) : State :=
  let first := rep * v.repeatLines + s.get (Reg.MEASURE_PL_LADDER_LINE p)
  let ys := s.ladderYs p f v first
  if !ys.any (fun y => inFrame f y.1 || inFrame f y.2) then s
  else if !ys.all (fun y => inFrame f y.1 && inFrame f y.2) ∨
      v.repeatLines < s.get (Reg.MEASURE_PL_LADDER_LINE p) + s.ladderLines p then
    if (s.loop p).split = some (v.seq, rep) then s
    else (s.modLoop p (fun x => { x with split := some (v.seq, rep) })).incSat (Reg.MEASURE_PL_COUNTS_LADDER_SPLIT p) 1
  else
    let qs := List.range (s.rungs p)
    let reads := qs.flatMap (fun q => (s.rungPositions p f q).flatMap (fun a =>
      let y := ys.getD q (0, 0)
      [(y.1.toNat, a.2.1), (y.2.toNat, a.2.1)]))
    let (s, bad) := s.readSamples f reads
    if !bad.isEmpty then s.meetUes bad 9
    else s.used.ladderCounts p (qs.flatMap (fun q => s.judgeRung p f q (ys.getD q (0, 0))))

/-- The nozzle loop on a plane at the end of a frame that qualifies: the ladders of every job that the frame may show.
(Mark: DEDUCED, log 93) -/
def State.nozzleFrame (s : State) (p : Nat) (f : CamFrame) : State :=
  let s := if s.loopRuns 1 then s.deadLoad p else s
  (s.jobViews p).foldl (fun s v => v.repeats.foldl (fun s r => s.ladder p f v r) s) s

/-! ### Alignment: ticks (R250) -/

/-- The nozzle position of a head's tick. (Mark: DEDUCED, log 79) -/
def State.tickPos (s : State) (p h : Nat) : Nat :=
  let m := pNozzles (s.profile p)
  h * (m - s.overlap p) + m / 2

/-- A window of samples around an expected centre lies in the frame. (Mark: DEDUCED, log 84) -/
def windowIn (f : CamFrame) (x y : Int) (w : Nat) : Bool :=
  decide (w ≤ x ∧ x + w < (cOutWidth f.record : Int) ∧ w ≤ y ∧ y + w < (f.kept : Int))

/-- The samples of a window as (column, line). (Mark: DEDUCED, log 79) -/
def windowOf (x y : Int) (w : Nat) : List (Nat × Nat) :=
  (List.range (2 * w + 1)).flatMap (fun (i : Nat) => (List.range (2 * w + 1)).map (fun (j : Nat) =>
    ((x - w + (j : Nat)).toNat, (y - w + (i : Nat)).toNat)))

/-- The weighted centroid of a window, and whether the tick is measured (R250). -/
def centroid (x y : Int) (w : Nat) (vs : List ((Nat × Nat) × Nat)) : Option (Rat × Rat) :=
  let edge := fun (a : Nat × Nat) => (a.1 : Int) == x - w || (a.1 : Int) == x + w || (a.2 : Int) == y - w || (a.2 : Int) == y + w
  let bs := (vs.filter (fun a => edge a.1)).map (·.2)
  let b : Rat := (bs.sum : Rat) / (bs.length : Rat)
  let ws := vs.map (fun a => (a.1, max 0 (b - (a.2 : Rat))))
  let t := (ws.map (·.2)).sum
  if t = 0 then none
  else
    let xc := (ws.map (fun a => (a.1.1 : Rat) * a.2)).sum / t
    let yc := (ws.map (fun a => (a.1.2 : Rat) * a.2)).sum / t
    if xc ≤ (x : Rat) - w + 2 ∨ (x : Rat) + w - 2 ≤ xc ∨ yc ≤ (y : Rat) - w + 2 ∨ (y : Rat) + w - 2 ≤ yc then none
    else some (xc, yc)

/-- The errors e_x and e_y of a measured tick, the `i`-th of its frame; a free value where a scale is 0 (log 4). -/
def State.tickErrors (s : State) (p n i : Nat) (yExp : Int) (c : Rat × Rat) : Rat × Rat :=
  let any := Config.free (s.free + i)
  let xs := s.get (Reg.MEASURE_PL_XS p)
  let ys := s.get (Reg.MEASURE_PL_YS p)
  let x0 : Rat := (s.get (Reg.MEASURE_PL_X0 p) : Rat) / 65536
  let ex : Rat := if xs = 0 then (sgn 32 any : Rat)
    else (c.1 - x0) / ((xs : Rat) / 2 ^ 24) - ((n : Rat) - 1 / 2)
  let ey : Rat := if ys = 0 then (sgn 32 (any / 2 ^ 32) : Rat)
    else (c.2 - yExp) / (((ys : Rat) / 2 ^ 24) * ((s.cpl p : Rat) / 2 ^ 32))
  (ex, ey)

/-- The expected lines of the ticks that a frame shows: every repeat of every job with its centre line in the frame
(R250). (Mark: DEDUCED, log 79) -/
def State.tickLines (s : State) (p : Nat) (f : CamFrame) : List Int :=
  (s.jobViews p).flatMap (fun v => (v.repeats.map (fun r => s.lineY p f v (r * v.repeatLines +
    s.get (Reg.MEASURE_PL_TICK_LINE p) + s.get (Reg.MEASURE_PL_TICK_TL p) / 2))).filter (inFrame f))

/-- The tick of a head, the `i`-th of its frame: its errors, unless it is not measured. -/
def State.tickOf (s : State) (p : Nat) (f : CamFrame) (i : Nat) (yExp : Int) (h : Nat) : Option (Rat × Rat) :=
  let n := s.tickPos p h
  let x : Int := s.columnX p n
  let w := s.get (Reg.MEASURE_PL_TICK_WIN p)
  if !windowIn f x yExp w then none
  else
    (centroid x yExp w ((windowOf x yExp w).map (fun a => (a, s.ringSample p f a.2 a.1)))).map
      (s.tickErrors p n i yExp)

/-- The samples that the ticks of a plane read. -/
def State.tickReads (s : State) (p : Nat) (f : CamFrame) (yExp : Int) : List (Nat × Nat) :=
  (List.range (s.heads' p)).flatMap (fun h =>
    let x : Int := s.columnX p (s.tickPos p h)
    let w := s.get (Reg.MEASURE_PL_TICK_WIN p)
    if windowIn f x yExp w then (windowOf x yExp w).map (fun a => (a.2, a.1)) else [])

/-! ### Alignment: corrections (R251 to R255) -/

/-- Round half up, as `round` of the spec. -/
def roundR (x : Rat) : Int := (x + 1 / 2).floor

/-- The mean of a list of errors. -/
def meanOf (l : List Rat) : Rat := l.sum / (l.length : Rat)

/-- A stored mean. -/
def fromMean (m : Int × Nat) : Rat := (m.1 : Rat) / (m.2 : Rat)

/-- ALONG_h of a head (R251); the Boolean says that it changed. -/
def State.alongStep (s : State) (p h : Nat) (e : Rat) : State × Bool :=
  let lim : Int := s.get Reg.MEASURE_ALIGN_LIMIT
  let d := roundR (e * 256)
  if d.natAbs ≤ 16 then (s, false)
  else
    let old := (s.plane p).along.getD h 0
    let base := s.getS (Reg.LINEGEN_PL_HOFF_OFFSET p h)
    let want := old - clampI (-lim) lim d
    let new := clampI (-32767 - base) (32767 - base) want
    let s := s.modPlane p (fun x => { x with along := modAt (fun _ => new) h x.along })
    let s := if new = old then s else s.waitMark p
    (if new = want then s else s.loopLimitEvt 2 p h, decide (new ≠ old))

/-- CROSS_h of a head (R251). (Mark: DEDUCED, log 89) -/
def State.crossStep (s : State) (p h : Nat) (r : Rat) : State × Bool :=
  let step : Int := if (3 : Rat) / 4 ≤ r then 1 else if r ≤ -(3 : Rat) / 4 then -1 else 0
  if step = 0 then (s, false)
  else
    let old := (s.loop p).cross.getD h 0
    let new := clampI (-255) 255 (old + step)
    let s := s.modLoop p (fun x => { x with
      cross := modAt (fun _ => new) h x.cross, stitchDue := x.stitchDue || decide (new ≠ old) })
    (if new = old + step then s else s.loopLimitEvt 2 p h, decide (new ≠ old))

/-- Start the axis move that BAR stands for (R255). -/
def State.barGo (s : State) (p : Nat) : State :=
  let a := s.get (Reg.MEASURE_PL_CTRL_LAT_AXIS p)
  let target := s.getS (Reg.MEASURE_PL_LAT_HOME p) + sar ((s.loop p).bar * s.get (Reg.MEASURE_PL_MSTEP p) + 2 ^ 23) 24
  let r := s.axisRecord a
  let (st, s) := s.axisMove a target (aVmaxAbs r) (aDmax r) (aDmax r) 0
  if st = stAccepted then s.modLoop p (fun x => { x with barMove := some a }) else s

/-- The bar of a plane other than the reference (R251, R255). -/
def State.barStep (s : State) (p : Nat) (e : Rat) : State :=
  let a := s.get (Reg.MEASURE_PL_CTRL_LAT_AXIS p)
  let lim : Int := s.get Reg.MEASURE_ALIGN_LIMIT
  let d := roundR (e * 256)
  if d.natAbs ≤ 32 ∨ s.moving a ∨ s.flag (Reg.MOTION_AX_STATUS_LOST a) then s
  else
    let old := (s.loop p).bar
    let want := old + clampI (-lim) lim d
    let new := clampI (-2147483648) 2147483647 want
    let s := if new = want then s else s.loopLimitEvt 2 p 0xFF
    if new = old then s
    else
      let s := (s.modLoop p (fun x => { x with bar := new })).barGo p
      s.raise evAlignNew 0 (leBytes 1 p ++ leBytes 1 0xFF)

/-- The ramp of a zone (R253). (Mark: DEDUCED, log 83) -/
def State.rampStep (s : State) (p z : Nat) (d : Rat) : State :=
  let x := s.loop p
  let o := s.overlap p
  let w := if (1 : Rat) / 4 ≤ d then min 3 (x.wide.getD z 0 + 1) else 0
  let n := if d < (1 : Rat) / 8 then min 3 (x.narrow.getD z 0 + 1) else 0
  let len := min (s.get (Reg.MEASURE_PL_CTRL_LEN_BASE p)) o
  let old := x.ramps.getD z (0, 0)
  let new := if x.custom then old else if w = 3 then (0, o) else if n = 3 then ((o - len) / 2, len) else old
  s.modLoop p (fun x => { x with
    wide := modAt (fun _ => w) z x.wide, narrow := modAt (fun _ => n) z x.narrow,
    ramps := modAt (fun _ => new) z x.ramps, stitchDue := x.stitchDue || decide (new ≠ old) })

/-- A stitch weight of a ramp (R253). -/
def rampWeight (r : Nat × Nat) (i : Nat) : Nat :=
  if i < r.1 then 255 else if r.1 + r.2 ≤ i then 0
  else (255 * (2 * (r.1 + r.2 - i) - 1) + r.2) / (2 * r.2)

/-- The stitch table that the record makes: XOFF values, then the weights of the ramps, or those in use while CUSTOM is
1 (R254). (Mark: DEDUCED, log 91) -/
def State.stitchData (s : State) (p : Nat) : List Byte :=
  let x := s.loop p
  let o := s.overlap p
  let per := pRows (s.profile p) * o
  let head := (List.range 48).flatMap (fun h => leInt 2 (if h < s.heads' p then x.cross.getD h 0 else 0))
  head ++ List.replicate 32 0 ++ (List.range (s.shareSize p 3)).map (fun i =>
    if x.custom then s.tabByte (s.bankOf p 3) (tabBase + 0x280000 + s.shareBase p 3 + i)
    else BitVec.ofNat 8 (rampWeight (x.ramps.getD (i / per) (0, 0)) (i % o)))

/-- Load the stitch table of a plane while a change is due (R254). -/
def State.stitchLoad (s : State) (p : Nat) : State :=
  if !(s.loop p).stitchDue then s
  else
    let (ok, s) := s.loopLoad p 3 0x4000 (s.stitchData p)
    s.modLoop p (fun x => { x with stitchDue := !ok })

/-- The changes that a plane's measured ticks make (R251 to R254). (Mark: DEDUCED, log 89) -/
def State.alignPlane (s : State) (p : Nat) (ts : List (Option (Rat × Rat))) (mx : Rat) : State :=
  let rp := s.get Reg.MEASURE_ALIGN_REF_PLANE
  let ref := s.loop rp
  let other := rp != p
  let lat := s.flag (Reg.MEASURE_PL_CTRL_LAT_EN p)
  let off := match ref.mx with | some m => mx - fromMean m | none => 0
  let r := ts.map (fun t => t.map (fun e => e.1 - mx + (if other && !lat then off else 0)))
  let s := (List.range ts.length).foldl (fun s h =>
    match ts.getD h none with
    | none => s
    | some e =>
      let (s, a) := match s.loops.refSeen, ref.my with
        | true, some m => s.alongStep p h (e.2 - fromMean m)
        | _, _ => (s, false)
      let (s, c) := s.crossStep p h ((r.getD h none).getD 0)
      if a || c then s.raise evAlignNew 0 (leBytes 1 p ++ leBytes 1 h) else s) s
  let s := if other && lat && s.loops.refSeen && ref.mx.isSome then s.barStep p off else s
  let s := (List.range (ts.length - 1)).foldl (fun s z =>
    match r.getD z none, r.getD (z + 1) none with
    | some a, some b => s.rampStep p z (if a < b then b - a else a - b)
    | _, _ => s.modLoop p (fun x => { x with
        wide := modAt (fun _ => 0) z x.wide, narrow := modAt (fun _ => 0) z x.narrow })) s
  s.stitchLoad p

/-- The measured ticks of a frame, by head: a head with several takes their mean. (Mark: DEDUCED, log 79) -/
def State.headTicks (s : State) (p : Nat) (f : CamFrame) (ys : List Int) (h : Nat) : List (Rat × Rat) :=
  ys.zipIdx.filterMap (fun y => s.tickOf p f (y.2 * s.heads' p + h) y.1 h)

/-- The alignment loop on a plane at the end of a frame that qualifies (R250, R251).
(Mark: DEDUCED, log 91; DEDUCED, log 93) -/
def State.alignFrame (s : State) (p : Nat) (f : CamFrame) : State :=
  let ys := s.tickLines p f
  if ys.isEmpty then s
  else
    let (s, bad) := s.readSamples f (ys.flatMap (s.tickReads p f))
    if !bad.isEmpty then s.meetUes bad 9
    else
      let hs := s.heads' p
      let per := (List.range hs).map (s.headTicks p f ys)
      let es := per.flatten
      let s := { s with free := s.free + ys.length * hs }.incSat (Reg.MEASURE_PL_TICKS_LOST p) (ys.length * hs - es.length)
      if es.isEmpty then s
      else
        let mx := meanOf (es.map (·.1))
        let my := meanOf (es.map (·.2))
        let s := s.modLoop p (fun x => { x with mx := some (mx.num, mx.den), my := some (my.num, my.den) })
        let s := if p = s.get Reg.MEASURE_ALIGN_REF_PLANE ∧ s.loops.ran then
            (List.range 4).foldl (fun s q => s.setB (Reg.MEASURE_PL_STATUS_REF_SEEN q) true)
              { s with loops := { s.loops with refSeen := true } }
          else s
        let ts := per.map (fun l => if l.isEmpty then none else some (meanOf (l.map (·.1)), meanOf (l.map (·.2))))
        if s.loopRuns 2 then s.alignPlane p ts mx else s

/-! ### A processed frame (R239, R242) -/

/-- A loop acts on a plane: its mode is not off, the plane prints and takes part. (Mark: DEDUCED, log 93) -/
def State.loopActs (s : State) (l p : Nat) : Bool :=
  s.get (loopMode l) != 0 && s.prints p && s.flag (if l = 0 then Reg.MEASURE_PL_CTRL_COLOUR_EN p
    else if l = 1 then Reg.MEASURE_PL_CTRL_NOZZLE_EN p else Reg.MEASURE_PL_CTRL_ALIGN_EN p)

/-- One plane at the end of a frame: the frame is used, or it is skipped and counted. (Mark: DEDUCED, log 85) -/
def State.planeFrame (s : State) (f : CamFrame) (p : Nat) : State :=
  let mine := s.get (Reg.MEASURE_PL_CTRL_PORT p) == f.port
  let patches := s.patchesOf p f
  let colour := s.loopActs 0 p && !patches.isEmpty
  let nozzle := s.loopActs 1 p && mine
  let align := s.loopActs 2 p && mine
  if !(colour || nozzle || align) then s
  else
    let suits := s.outSuits p f
    let s := s.setB (Reg.MEASURE_PL_BAD_MAP p) (cEncSel f.record != s.encOf p || ((nozzle || align) && !suits))
    let stale := colour && patches.any (fun i =>
      let r := s.get (Reg.MEASURE_PATCH_CFG_ROI i)
      s.flag (Reg.MEASURE_ROI_INFO_STALE r) || s.flag (Reg.MEASURE_ROI_INFO_SUSPECT r))
    let used := s.frameUsed p f && !stale
    let s := (if used then s else s.incSat (Reg.MEASURE_PL_SKIPPED p) 1).used
    if !used then s
    else
      let s := if colour then s.colourFrame p f else s
      let s := if nozzle && suits then s.nozzleFrame p f else s
      (if align && suits then s.alignFrame p f else s).dropViews p f

/-- FRAME_PROCESSED's effect: the frame's processing ends, and the loops look at it (R230, R237, R242).
(Mark: DEDUCED, log 85) -/
def State.frameProcessed (s : State) (c : Nat) : State :=
  match s.doneFrame c with
  | none => s
  | some f =>
    let (s, f) := s.finishFrame f
    (List.range 4).foldl (fun s p => s.planeFrame f p) s

/-- FRAME_PROCESSED (R230). -/
def execFrameProcessed (c : Fin 4) (t : Nat) (s : State) : Host.Outcome State Fault Refusal :=
  eventAwake t (·.frameProcessed c) s

/-! ### The alignment record (R256, R257) -/

/-- ALIGN_READ (R256). -/
def cmdAlignRead (p : Nat) (s : State) : Res :=
  let x := s.loop p
  let hs := s.heads' p
  Res.okData ([1, BitVec.ofNat 8 hs] ++ leBytes 2 (s.overlap p) ++ leBytes 4 x.custom.toNat ++ leInt 4 x.bar ++
    leBytes 4 0 ++ (List.range hs).flatMap (fun h =>
      let r := if h + 1 < hs then x.ramps.getD h (0, 0) else (0, 0)
      leInt 2 ((s.plane p).along.getD h 0) ++ leInt 2 (x.cross.getD h 0) ++ leBytes 2 r.1 ++ leBytes 2 r.2)) s

/-- The record of a head. -/
def recHead (b : List Byte) (h : Nat) : List Byte := (b.drop (16 + 8 * h)).take 8

/-- The checks of R257 on a record. (Mark: DEDUCED, log 92) -/
def State.alignOk (s : State) (p : Nat) (b : List Byte) : Bool :=
  let hs := s.heads' p
  decide (b.length = 16 + 8 * hs) && u8 b 0 == 1 && u8 b 1 == hs && u16 b 2 == s.overlap p && decide (u8 b 4 ≤ 1) &&
    zerosAt b 5 3 && zerosAt b 12 4 &&
    (List.range hs).all (fun h =>
      let r := recHead b h
      decide (-255 ≤ iAt r 2 2 ∧ iAt r 2 2 ≤ 255) && decide (u16 r 4 + u16 r 6 ≤ s.overlap p) &&
        decide (h + 1 < hs ∨ (u16 r 4 = 0 ∧ u16 r 6 = 0)) &&
        (let sum := s.getS (Reg.LINEGEN_PL_HOFF_OFFSET p h) + iAt r 0 2
         decide (-32767 ≤ sum ∧ sum ≤ 32767)))

/-- ALIGN_RESTORE (R257). (Mark: DEDUCED, log 92) -/
def cmdAlignRestore (p : Nat) (b : List Byte) (s : State) : Res :=
  if !s.alignOk p b then Res.err stBadParam s
  else if s.loopRuns 2 then Res.err stBadState s
  else if s.tableBusy p 3 then Res.err stBusy s
  else
    let hs := List.range (s.heads' p)
    let field := fun (old : List Int) (f : Nat → Int) => hs.foldl (fun l h => modAt (fun _ => f h) h l) old
    let s := s.modPlane p (fun x => { x with along := field x.along (fun h => iAt (recHead b h) 0 2) })
    let s := (if s.prints p then s else s.modPlane p (fun x => { x with alongUse := x.along })).waitMark p
    let s := s.modLoop p (fun x => { x with
      cross := field x.cross (fun h => iAt (recHead b h) 2 2),
      ramps := hs.foldl (fun l h => modAt (fun _ => (u16 (recHead b h) 4, u16 (recHead b h) 6)) h l) x.ramps,
      custom := u8 b 4 == 1, bar := iAt b 8 4, stitchDue := true })
    let s := if s.mapped p then s.stitchLoad p else s.modLoop p (fun x => { x with stitchDue := false })
    Res.ok (if s.flag (Reg.MEASURE_PL_CTRL_LAT_EN p) then s.barGo p else s)

end Sys2Proof.Machine
end

