-- ==== Sys2Proof/Machine/Pair.lean ====
section
/-! DEFINITION. The redundant pair: interlock, roles, strings, checkpoints, handover and takeover
(19_redundant_pair.md; 17_link_transactions.md R385 to R387). -/

namespace Sys2Proof

/-! What a checkpoint describes. Its contents are opaque (R386, R411), so the state that a standby restores from its
bytes is a free value (log 4). -/

/-- Jobs, lines, halftoner loads and loops. (Mark: DESIGN CHOICE, log 4) -/
opaque Config.ckptJob : List Byte → Machine.JobSt
/-- Mark: DESIGN CHOICE, log 4. -/
opaque Config.ckptLine : List Byte → Machine.LineSt
/-- Mark: DESIGN CHOICE, log 4. -/
opaque Config.ckptTone : List Byte → Machine.ToneSt
/-- Mark: DESIGN CHOICE, log 4. -/
opaque Config.ckptLoops : List Byte → Machine.LoopSt

/-- The value, and the value in force, of a register field, by its key. (Mark: DESIGN CHOICE, log 4) -/
opaque Config.ckptReg : List Byte → Nat → Nat
/-- Mark: DESIGN CHOICE, log 4. -/
opaque Config.ckptAct : List Byte → Nat → Nat

/-- A byte of table memory, by bank and address. (Mark: DESIGN CHOICE, log 4) -/
opaque Config.ckptTable : List Byte → Bool → Nat → Byte

/-- The loads, locks and unlocks that it names and that the standby has not performed yet (R412).
(Mark: DESIGN CHOICE, log 103) -/
opaque Config.ckptOps : List Byte → List Machine.CkptOp

/-- The counter of an encoder as the active latched it. (Mark: DESIGN CHOICE, log 4) -/
opaque Config.ckptLatch : List Byte → Nat → Int

namespace Machine

/-! ### The interlock (R192, R403) -/

/-- Change the pair's internal state. -/
def State.modPair (s : State) (f : PairSt → PairSt) : State := { s with pair := f s.pair }

/-- ILK_OUT falls. (Mark: DEDUCED, log 107) -/
def State.dropIlk (s : State) : State :=
  (s.setB Reg.PAIR_STATUS_ILK_OUT false).modPair (fun x => { x with ilkWanted := false, ilkRaised := none, clash := none })

/-- After a collision both members keep ILK_OUT: they have the same side (R403). (Mark: DEDUCED, log 108) -/
def State.clashCheck (s : State) : State :=
  match s.pair.clash with
  | some a =>
    if a + 80 ≤ s.now ∧ s.flag Reg.PAIR_STATUS_ILK_IN ∧ s.flag Reg.PAIR_STATUS_ILK_OUT then
      s.setB Reg.PAIR_STATUS_SIDE_CLASH true else s
  | none => s

/-! ### Roles (R405 to R409) -/

/-- Every port leaves idle, and a port that rests starts training (R363, R364). -/
def State.wakePorts (s : State) : State :=
  (List.range 4).foldl (fun s p =>
    if (s.port p).phase = .held ∧ s.flag (Reg.ZPHY_PORT_CONFIG_ENABLE p) then s.resumePort p else s.leaveIdle p) s

/-- L1 is reached from a deeper state: its status, and EVT_LADDER_WAKE (R476). -/
def State.reachL1 (s : State) (deep port : Nat) : State :=
  ((((s.set Reg.LADDER_STATE 1).set Reg.LADDER_STATE_LAST_WAKE port).set Reg.LADDER_STATE_FROM deep).inc
    Reg.LADDER_WAKES_COUNT).raise evLadderWake 0 (leBytes 1 deep ++ leBytes 1 port)

/-- A standby in L2 comes to L1 (R413). (Mark: DEDUCED, log 146) -/
def State.wakeDoze (s : State) : State :=
  let s := s.modPair (fun x => { x with dozeFrom := s.now })
  if s.power.dozing then ({ s with power := { s.power with dozing := false } }.wakePorts).reachL1 2 3 else s

/-- The device becomes an UNSYNCED standby: ILK_OUT falls and no job goes on. (Mark: DEDUCED, log 107) -/
def State.toStandby (s : State) : State :=
  let s := s.dropIlk.faultStop
  ((s.set Reg.PAIR_STATUS_ROLE 2).set Reg.PAIR_STATUS_STATE 0).modPair (fun x => { x with
    listenEnd := none, takeover := false, gapCause := none, lost := false, copyNext := none, dozeFrom := s.now })

/-- The device leaves the standby role: no checkpoint is current. -/
def State.leaveStandby (s : State) : State :=
  (s.setB Reg.ZLINK_CKPT_STATUS_VALID false).set Reg.PAIR_STATUS_STATE 0

/-- A string as it stands when the strings start: its 400 µs run from now. -/
def StringSt.start (now : Nat) : StringSt := { StringSt.init with last := some now }

/-- PAIR_CONFIG, and a write of PAIR.CTRL (R405, R406). (Mark: DEDUCED, log 105; DEDUCED, log 106) -/
def cmdPairConfig (enable strings : Nat) (s : State) : Res :=
  if 1 < enable ∨ 3 < strings then Res.err stBadParam s
  else if s.job.running.isSome then Res.err stBadState s
  else
    let was := s.flag Reg.PAIR_CTRL_ENABLE
    let new := fun (k : Nat) (f : Fld) => bit strings k && !s.flag f
    let s := s.modPair (fun x => { x with
      wire := if new 0 Reg.PAIR_CTRL_WIRE then .start s.now else x.wire,
      msg := if new 1 Reg.PAIR_CTRL_MSG then .start s.now else x.msg,
      wdogAt := if new 0 Reg.PAIR_CTRL_WIRE then s.now else x.wdogAt,
      strAt := if new 1 Reg.PAIR_CTRL_MSG then none else x.strAt })
    let s := (s.set Reg.PAIR_CTRL_WIRE (bits strings 0 1)).set Reg.PAIR_CTRL_MSG (bits strings 1 1)
    let s := s.set Reg.PAIR_CTRL_ENABLE enable
    if enable = 1 ∧ !was then
      Res.ok ((s.set Reg.PAIR_STATUS_STRINGS_OK 0).modPair (fun x => { x with
        listenEnd := some (s.now + 400 * usSteps), wire := .start s.now, msg := .start s.now, faultCode := 0,
        wdogAt := s.now, strAt := none }))
    else if enable = 0 ∧ was then
      let s := s.leaveStandby
      let s := if s.flag Reg.PAIR_STATUS_ILK_IN then s.dropIlk else s
      let s := ((s.set Reg.PAIR_STATUS_ROLE 0).set Reg.PAIR_STATUS_PARTNER 0).set Reg.PAIR_STATUS_STRINGS_OK 0
      Res.ok (s.modPair (fun x => { x with
        listenEnd := none, takeover := false, faultCode := 0, copyNext := none, lost := false, heldFlips := [],
        ilkWanted := !s.flag Reg.PAIR_STATUS_ILK_OUT }))
    else Res.ok s

/-- PAIR_LISTEN_END (R406). (Mark: DEDUCED, log 105) -/
def execPairListenEnd (t : Nat) (s : State) : Host.Outcome State Fault Refusal :=
  event t (fun s => s.when (match s.pair.listenEnd with | some e => decide (e ≤ s.now) | none => false) (fun s =>
    if s.flag Reg.PAIR_STATUS_ILK_IN then s.toStandby
    else (s.set Reg.PAIR_STATUS_ROLE 1).modPair (fun x => { x with
      listenEnd := none, ckptAt := s.now, ilkWanted := x.ilkWanted || !s.flag Reg.PAIR_STATUS_ILK_OUT }))) s

/-- PAIR_STATUS. -/
def cmdPairStatus (s : State) : Res :=
  let g := fun (lo hi : Fld) => leBytes 4 (s.get lo) ++ leBytes 4 (s.get hi)
  Res.okData (leBytes 1 (s.get Reg.PAIR_STATUS_ROLE) ++ leBytes 1 (s.get Reg.PAIR_STATUS_PARTNER) ++
    leBytes 6 (s.get Reg.PAIR_STATUS_STRINGS_OK) ++ g Reg.PAIR_GAP_START_LO Reg.PAIR_GAP_START_HI ++
    g Reg.PAIR_GAP_END_LO Reg.PAIR_GAP_END_HI) s

/-- PAIR_REJOIN (R408, R423). (Mark: DEDUCED, log 106; DEDUCED, log 109) -/
def cmdPairRejoin (s : State) : Res :=
  if !s.standby ∨ s.get Reg.PAIR_STATUS_STATE ≠ 0 then Res.err stBadState s
  else Res.err stAccepted ((s.set Reg.PAIR_STATUS_STATE 1).modPair (fun x => { x with
    resyncAt := some s.now, lost := false, faultCode := 0, ckptNew := false }))

/-! ### Strings (R385, R414, R415) -/

/-- The STRING that the device sends; while it listens it has no role yet, and sends 0.
(Mark: DESIGN CHOICE, log 180) -/
def State.mkString (s : State) : Trans :=
  let seq := if s.standby then (if s.flag Reg.ZLINK_CKPT_STATUS_VALID then s.get Reg.ZLINK_CKPT_SEQ else 0)
    else s.pair.ckptSeq
  ⟨ttString, 0xFD, 0xFD, 0, 0, leBytes 1 (s.get Reg.PAIR_STATUS_ROLE) ++ leBytes 1 s.pair.faultCode ++
    leBytes 2 (low 16 s.pair.strSeq) ++ leBytes 4 (low 32 seq) ++ leBytes 8 0⟩

/-- The strings run: pairing is enabled. -/
def State.stringOn (s : State) (wire : Bool) : Bool :=
  s.flag Reg.PAIR_CTRL_ENABLE && s.flag (if wire then Reg.PAIR_CTRL_WIRE else Reg.PAIR_CTRL_MSG)

/-- A STRING is due on the pair port. -/
def State.stringDue (s : State) : State :=
  if s.stringOn false then
    (s.modPort 3 (fun q => { q with strDue := some s.mkString })).modPair (fun x => { x with
      strSeq := (x.strSeq + 1) % 65536 })
  else s

/-- STRING_SEND (R385, R414): every 100 µs. -/
def execStringSend (t : Nat) (s : State) : Host.Outcome State Fault Refusal :=
  event t (fun s => s.when (s.ready && s.stringOn false &&
      (match s.pair.strAt with | some a => decide (a + 100 * usSteps ≤ s.now) | none => true)) (fun s =>
    s.clashCheck.stringDue.modPair (fun x => { x with strAt := some s.now }))) s

/-- The interval between the edges on STRING_OUT, a fault being signalled or not (R414). -/
def State.wireInterval (s : State) : Nat := (if s.pair.faultCode = 0 then 100 else 10) * usSteps

/-- WIRE_STRING_TOGGLE (R404, R414). -/
def execWireStringToggle (t : Nat) (s : State) : Host.Outcome State Fault Refusal :=
  event t (fun s => s.when (s.ready && s.stringOn true && decide (s.pair.wdogAt + s.wireInterval ≤ s.now)) (fun s =>
    s.clashCheck.modPair (fun x => { x with strOut := !x.strOut, wdogAt := s.now }))) s

/-- HWDOG_EXPIRY (R404). (Mark: DEDUCED, log 107) -/
def execHwdogExpiry (t : Nat) (s : State) : Host.Outcome State Fault Refusal :=
  event t (fun s => s.when (s.stringOn true && decide (s.pair.wdogAt + 250 * usSteps ≤ s.now)) (fun s =>
    s.dropIlk.setB Reg.PAIR_STATUS_HWDOG true)) s

/-! ### Handover (R416 to R418) -/

/-- Release of the role by an active whose partner is READY (R418). (Mark: DEDUCED, log 107; DEDUCED, log 113) -/
def State.handOver (s : State) (code : Nat) : State :=
  let hold := if s.ilkOut then s.trainsEnd else 0
  (s.toStandby.modPair (fun x => { x with ilkHold := hold })).raise evPairHandover 0
    (leBytes 8 code ++ leBytes 8 0x8000000000000000)

/-- A fault of codes 1 to 5 on the active: it is signalled, and a READY partner takes the role (R414, R416).
(Mark: DEDUCED, log 106) -/
def State.pairFault (s : State) (code : Nat) : State :=
  if s.get Reg.PAIR_STATUS_ROLE ≠ 1 then s
  else
    let s := (s.modPair (fun x => { x with faultCode := code })).stringDue
    if s.get Reg.PAIR_STATUS_PARTNER = 2 then s.handOver code else s

/-- An active that does not hold the interlock, and whose partner has taken the role, becomes an UNSYNCED standby (R407,
R418). (Mark: DEDUCED, log 107) -/
def State.passedOver (s : State) : State :=
  s.when (s.get Reg.PAIR_STATUS_ROLE == 1 && !s.ilkOut) (fun s => s.handOver s.pair.faultCode)

/-- PAIR_HANDOVER (R417): the handover follows the reply. (Mark: DEDUCED, log 113) -/
def cmdPairHandover (s : State) : Res :=
  if s.standby then Res.err stNotOwner s
  else if s.get Reg.PAIR_STATUS_ROLE ≠ 1 ∨ s.get Reg.PAIR_STATUS_PARTNER ≠ 2 then Res.err stBadState s
  else Res.err stAccepted s

/-! ### Restoring a checkpoint (R411, R419 to R421) -/

/-- The bytes of the current checkpoint. -/
def State.ckptBytes (s : State) : List Byte :=
  s.readTab false (tabBase + 0x800000 + s.get Reg.ZLINK_CKPT_STATUS_CURRENT_HALF * 0x20000) 131072

/-- The register fields that a checkpoint describes: the JOB, LINEGEN, COMPOSE, HTONE and loop registers, and enable,
map and pre-heat of the head ports. (Mark: DESIGN CHOICE, log 103) -/
def ckptFields : List Fld :=
  ([13, 14, 15, 16, 23].flatMap (fun n => (List.range 16384).flatMap (fun i => fieldsAt (n * 0x10000 + 4 * i)))) ++
  (List.range 48).flatMap (fun q => [Reg.HEADPORT_HP_CTRL_ENABLE q, Reg.HEADPORT_HP_CTRL_PLANE q,
    Reg.HEADPORT_HP_CTRL_MAPPED q, Reg.HEADPORT_HP_CTRL_MAP_POS q, Reg.HEADPORT_HP_TEMP_TARGET q,
    Reg.HEADPORT_HP_PREHEAT_COUNT q, Reg.HEADPORT_HP_PREHEAT_WIDTH q, Reg.HEADPORT_HP_INTEG q])

/-- Fields of the protected layers: the standby's own loader has brought them to the active's state (R166, R412).
(Mark: DESIGN CHOICE, log 103) -/
def protFields : List Fld :=
  (List.range 4).flatMap (fun p => [Reg.COMPOSE_PL_PROT_STATUS_LOADED p, Reg.COMPOSE_PL_PROT_STATUS_RECTS p,
    Reg.COMPOSE_PL_PROT_STATUS_LOCKED p, Reg.COMPOSE_PL_PROT_CRC p, Reg.COMPOSE_PL_PROT_LEN p])

/-- The standby performs a command that a checkpoint names, from its mirrored DRAM and with no event of its own: a load
copies into the bank not in use, its own loader rebuilds a protected layer, and a lock takes the active's token (R166,
R412). (Mark: DEDUCED, log 43; DESIGN CHOICE, log 103) -/
def State.performOp (s : State) : CkptOp → State
  | .load p t src len =>
    if t = 2 ∧ src = 0 then s.storeScreen p
    else
      let (s, data, _) := s.fetch src len
      s.storeTable ⟨p, t, s.shareBase p t, s.shareSize p t, src, len, 0, .uplink, data.take (tableHeadLen t), true⟩ data
  | .pload p rects src len =>
    let (s, head, _) := s.fetch src 1024
    (s.loadProt p rects src len head).1
  | .plock p token =>
    (s.modPlane p (fun x => { x with token := token })).setB (Reg.COMPOSE_PL_PROT_STATUS_LOCKED p) true
  | .punlock p => s.unlockProt p

/-- The state that a checkpoint's bytes describe replaces the device's own, but for the protected layers that its loader
has rebuilt. (Mark: DESIGN CHOICE, log 103) -/
def State.restore (s : State) (b : List Byte) : State :=
  let tokens := (List.range 4).map (fun p => (s.plane p).token)
  let prot := protFields.map s.get
  let s := { s with
                    job := Config.ckptJob b, line := Config.ckptLine b, tone := Config.ckptTone b,
                    loops := Config.ckptLoops b }
  let s := (List.range 4).foldl (fun (s : State) p => s.modPlane p (fun x => { x with token := tokens.getD p 0 })) s
  let s := ckptFields.foldl (fun s f =>
    { s.set f (Config.ckptReg b f.key) with
      act := Sparse.put f.reset s.act f.key (low f.w (Config.ckptAct b f.key)) }) s
  let s := (protFields.zip prot).foldl (fun s x => s.set x.1 x.2) s
  [false, true].foldl (fun s bank => s.putTabs bank tabBase
    ((List.range 0x328100).map (fun i => Config.ckptTable b bank (tabBase + i)))) s

/-- The web offset of an encoder (R411). -/
def State.webOffset (s : State) (e : Nat) : Int := s.getS (Reg.PAIR_ENC_OFFSET e)

/-- A restored job in the device's own counters, with H of every plane at the interpolated position (R419). -/
def State.rebase (s : State) (j : JobRun) : JobRun :=
  let off := s.webOffset (s.encOf (j.planeList.headD 0))
  { j with
    start := j.start.map (· + off * 2 ^ 32),
    planes := (List.range 4).map (fun p => { j.plane p with hwm := s.webPos p, reversed := false, afterRef := false }) }

/-- The other positions that a plane keeps, in the device's own counters (R419). -/
def State.rebasePlane (s : State) (p : Nat) : State :=
  let off := s.webOffset (s.encOf p)
  let s := s.modPlane p (fun x => { x with
    miss := x.miss.map (fun r => { r with start := r.start + off }), marks := shiftMarks off x.marks })
  let s := s.modLoop p (fun x => { x with
    wait := x.wait + off, spans := x.spans.map (fun r => (r.1 + off, r.2 + off)),
    past := x.past.map (fun v => { v with start := v.start + off * 2 ^ 32 }) })
  { s with line := { s.line with defects := s.line.defects.map (fun d =>
    if d.plane = p then { d with start := d.start + off, stop := d.stop + off } else d) } }

/-- The first line of a plane whose position, with an offset in 1/256 line, lies at or after a position; `n` is one more
than the largest distance searched. -/
def lineAfter (ref0 : Int) (cpl : Nat) (pos : Int) : Nat :=
  ((pos - ref0 + cpl * 2 ^ 32 - 1) / ((cpl * 2 ^ 32 : Nat) : Int)).toNat

/-- A plane in the gap: lines that the old active has left behind are not issued, and those from GAP_START on are missed
with CAUSE 5 (R421). (Mark: DEDUCED, log 110) -/
def State.openGap (s : State) (j : JobRun) (gaps : List Int) (p : Nat) : State :=
  let ref0 := s.ref p (j.start.getD 0) 0
  let cap := fun (k : Nat) => match j.limit with | some n => min k n | none => k
  let first := cap (lineAfter ref0 (s.cpl p) (gaps.getD (s.encOf p) 0))
  let next := cap (max first (lineAfter (ref0 + s.offMin p * s.cpl p * 2 ^ 24) (s.cpl p) (s.webPos p + 1)))
  let s := s.modPlane p (fun x => { x with
    lines := [], gapFrom := some first,
    miss := if first < next then some ⟨5, first, next - first, intPart (s.ref p (j.start.getD 0) first)⟩ else none })
  (s.modJob j.seq (·.modPlane p (fun x => { x with next := next, done := next }))).incSat (Reg.LINEGEN_PL_MISSED p)
    (next - first)

/-- GAP_START of each encoder: after a fault, the position less 10 µs of travel; after silence, the position at the last
sign of life (R420). (Mark: DEDUCED, log 110) -/
def State.gapStarts (s : State) (fault : Bool) : List Int :=
  (List.range 4).map (fun e => if fault then (s.enc e).pos - (s.enc e).v else s.pair.lifePos.getD e 0)

/-- A READY standby decides to take over: it restores its checkpoint, continues the jobs and wants ILK_OUT (R416, R419 to
R421). (Mark: DEDUCED, log 110) -/
def State.takeOver (s : State) (cause : Nat) : State :=
  let gaps := s.gapStarts (cause != 0)
  let s := s.wakeDoze
  let s := s.restore s.ckptBytes
  let s := (List.range 4).foldl State.rebasePlane ((s.modRunning s.rebase).modQueued s.rebase)
  let s := { s with job := { s.job with last := s.job.last.map s.rebase } }
  let lead := match s.job.running with | some j => j.lead | none => 0
  let g := gaps.getD (s.encOf lead) 0
  let s := s.modPair (fun x => { x with
    takeover := true, ilkWanted := true, gapCause := some cause, gapStart := g, gapDecision := s.webPos lead,
    ckptLines := 0 })
  let s := (s.set Reg.PAIR_GAP_START_LO (pat 64 (intPart g))).set Reg.PAIR_GAP_START_HI (pat 64 (intPart g) / 2 ^ 32)
  let s := match s.job.running with
    | some j =>
      let s := j.planeList.foldl (fun (s : State) p => s.openGap j gaps p) s
      s.mark lead (s.lineAhead lead).1 (s.lineAhead lead).2 s.now
    | none => s
  s.showJobs.showRings

/-- The takeover is complete when ILK_OUT rises (R419). (Mark: DESIGN CHOICE, log 103; DEDUCED, log 106) -/
def State.becomeActive (s : State) : State :=
  let s := s.leaveStandby
  let s := ((s.set Reg.PAIR_STATUS_ROLE 1).set Reg.PAIR_STATUS_PARTNER 0).incSat Reg.PAIR_COUNTS_TAKEOVERS 1
  let s := s.modPair (fun x => { x with takeover := false, faultCode := 0, ckptAt := s.now, copyNext := none, copyOver := false })
  s.raise evPairTakeover 0 (leBytes 8 (s.pair.gapCause.getD 0) ++ leBytes 4 (s.get Reg.PAIR_GAP_START_LO) ++
    leBytes 4 (s.get Reg.PAIR_GAP_START_HI))

/-- A READY standby takes over once. (Mark: DEDUCED, log 110) -/
def State.mayTakeOver (s : State) : Bool := s.standby && s.get Reg.PAIR_STATUS_STATE == 2 && !s.pair.takeover

/-- EVT_STRING_FAULT, once until the string is normal again (R415). (Mark: DEDUCED, log 106) -/
def State.stringFault (s : State) (wire : Bool) (code : Nat) : State :=
  let x := if wire then s.pair.wire else s.pair.msg
  let s := s.set Reg.PAIR_STATUS_STRINGS_OK (s.get Reg.PAIR_STATUS_STRINGS_OK -
    (s.get Reg.PAIR_STATUS_STRINGS_OK &&& (if wire then 1 else 2)))
  if x.raised then s
  else
    let s := s.modPair (fun y => if wire then { y with wire := { y.wire with raised := true } }
      else { y with msg := { y.msg with raised := true } })
    (s.incSat Reg.PAIR_COUNTS_STRING_FAULTS 1).raise evStringFault 0
      (leBytes 1 (if wire then 0 else 1) ++ leBytes 1 code)

/-- A string is normal: STRINGS_OK. -/
def State.stringOk (s : State) (wire : Bool) : State :=
  s.set Reg.PAIR_STATUS_STRINGS_OK (s.get Reg.PAIR_STATUS_STRINGS_OK ||| (if wire then 1 else 2))

/-- A sign of life of the partner (R420). (Mark: DEDUCED, log 110) -/
def State.alive (s : State) : State :=
  s.modPair (fun x => { x with lifePos := (List.range 4).map (fun e => (s.enc e).pos) })

/-- STRING_IN_EDGE (R415). -/
def execStringInEdge (t : Nat) (s : State) : Host.Outcome State Fault Refusal :=
  event t (fun s => s.when (s.stringOn true) (fun s =>
    let x := s.pair.wire
    let fast := x.edge && (match x.last with | some a => decide (s.now < a + 25 * usSteps) | none => false)
    let short := if fast then x.short + 1 else 0
    let faulted := decide (4 ≤ short)
    let s := s.alive.modPair (fun y => { y with
      wire := { x with
                       last := some s.now, edge := true, short := short, silent := false, faulted := faulted,
                       raised := x.raised && fast } })
    if faulted then
      let s := s.stringFault true 0xFF
      if s.mayTakeOver then s.takeOver 0xFF else s
    else if fast then s else s.stringOk true)) s

/-- Every enabled string is silent: the partner is absent (R407, R416). -/
def State.partnerSilent (s : State) : Bool :=
  (!s.stringOn true || s.pair.wire.silent) && (!s.stringOn false || s.pair.msg.silent)

/-- STRING_SILENT (R407, R415, R416). -/
def execStringSilent (wire : Bool) (t : Nat) (s : State) : Host.Outcome State Fault Refusal :=
  event t (fun s =>
    let x := if wire then s.pair.wire else s.pair.msg
    s.when (s.stringOn wire && !x.silent && decide (x.last.getD 0 + 400 * usSteps ≤ s.now)) (fun s =>
      let s := s.modPair (fun y => if wire then { y with wire := { y.wire with silent := true } }
        else { y with msg := { y.msg with silent := true } })
      let s := s.stringFault wire 0
      let both := s.partnerSilent
      let s := if both then ((s.set Reg.PAIR_STATUS_PARTNER 0).modPair (fun y => { y with copyNext := none })).freeFlips
        else s
      if both ∧ s.mayTakeOver then s.takeOver 0 else s)) s

/-- Flips that the standby's CKPT_SEQ releases: those on planes that do not print happen at once (R180, R412). -/
def State.releaseFlips (s : State) : State :=
  let s := s.modPair (fun x => { x with heldFlips := x.heldFlips.filter (fun h => decide (x.peerCkpt < h.2.2)) })
  s.freeFlips

/-- A valid STRING; `partner` is the standby's state as the active learns it. An active that has a fault hands over once
its partner is READY (R416). (Mark: DESIGN CHOICE, log 104) -/
def State.onString (s : State) (b : List Byte) (partner : Nat) : State :=
  let code := u8 b 1
  let s := s.clashCheck.alive
  let x := s.pair.msg
  let s := s.modPair (fun y => { y with
    peerCkpt := u32 b 4,
    msg := { x with last := some s.now, silent := false, faulted := code != 0, raised := x.raised && code != 0 } })
  let s := if s.pair.listenEnd.isSome ∧ u8 b 0 = 1 then s.toStandby else if u8 b 0 = 1 ∧ !s.pair.ilkWanted then s.passedOver else s
  let s := if s.get Reg.PAIR_STATUS_ROLE = 1 ∧ u8 b 0 = 2 then
      let s := s.set Reg.PAIR_STATUS_PARTNER (if partner = 2 then 2 else 1)
      (s.modPair (fun y => { y with
        copyNext := if partner = 1 ∧ y.copyNext.isNone ∧ !y.copyOver then some 0 else y.copyNext,
        copyOver := y.copyOver && partner == 1 })).releaseFlips
    else s
  let own := s.pair.faultCode
  let s := if s.get Reg.PAIR_STATUS_ROLE = 1 ∧ s.get Reg.PAIR_STATUS_PARTNER = 2 ∧ 1 ≤ own ∧ own ≤ 4 then s.handOver own
    else s
  if !s.stringOn false then s
  else if code = 0 then s.stringOk false
  else
    let s := s.stringFault false code
    if s.mayTakeOver then s.takeOver code else s

/-- STRING_RECEIVED (R385, R407, R415); one for the ancestor's uplink goes on by it (R379).
(Mark: DESIGN CHOICE, log 104) -/
def execStringReceived (x : Trans) (partner : Fin 3) (t : Nat) (s : State) : Host.Outcome State Fault Refusal :=
  event t (fun s => s.when (s.holds 3 x) (fun s =>
    let s := s.consume 3 x
    if !transOk x ∨ !s.accepts 3 x ∨ x.ttype ≠ ttString then s.discard 3
    else if s.route 3 x = .up then s.sendTrans 0 3 x
    else if x.dest ≠ 0xFD ∨ x.src ≠ 0xFD then s.discard 3
    else s.onString x.body partner)) s

/-! ### ILK_IN and ILK_OUT (R403) -/

/-- ILK_IN_CHANGE (R403). (Mark: DEDUCED, log 108) -/
def execIlkInChange (level : Bool) (t : Nat) (s : State) : Host.Outcome State Fault Refusal :=
  event t (fun s =>
    let rose := level && !s.flag Reg.PAIR_STATUS_ILK_IN
    let s := (s.setB Reg.PAIR_STATUS_ILK_IN level).modPair (fun x => { x with
      ilkLowSince := if level then none else some (x.ilkLowSince.getD s.now),
      clash := if level then x.clash else none })
    let s := if rose then s.passedOver else s
    let hit := rose && s.flag Reg.PAIR_STATUS_ILK_OUT && (match s.pair.ilkRaised with
      | some a => decide (s.now ≤ a + usSteps)
      | none => false)
    if !hit then s
    else if s.flag Reg.PAIR_STATUS_SIDE then
      if s.flag Reg.PAIR_CTRL_ENABLE then s.toStandby
      else s.dropIlk.modPair (fun x => { x with ilkWanted := true })
    else s.modPair (fun x => { x with clash := some s.now })) s

/-- ILK_RAISE (R403, R419). -/
def execIlkRaise (t : Nat) (s : State) : Host.Outcome State Fault Refusal :=
  event t (fun s => s.when (s.pair.ilkWanted && !s.ilkOut && !s.flag Reg.PAIR_STATUS_HWDOG &&
      (match s.pair.ilkLowSince with | some a => decide (a + 20 * usSteps ≤ s.now) | none => false)) (fun s =>
    let s := (s.setB Reg.PAIR_STATUS_ILK_OUT true).modPair (fun x => { x with
      ilkWanted := false, ilkRaised := some s.now })
    if s.pair.takeover then s.becomeActive else s)) s

/-! ### Checkpoints (R386, R387, R411 to R413, R423) -/

/-- The transactions of a checkpoint of `total` bytes, whose contents are free values. -/
def ckptTrans (free seq total : Nat) : List Trans :=
  let data := (List.range total).map (Config.freeByte free)
  let n := (total + 4063) / 4064
  (List.range n).map (fun i =>
    let off := 4064 * i
    let d := (data.drop off).take 4064
    let last := i + 1 == n
    ⟨ttCkpt, 0xFD, 0xFD, 0, 0, leBytes 4 (low 32 seq) ++ leBytes 4 off ++ leBytes 2 (low 16 Config.fwMajor) ++
      leBytes 2 d.length ++ leBytes 1 ((i == 0).toNat + 2 * last.toNat) ++ [0, 0, 0] ++ leBytes 4 total ++
      leBytes 4 (if last then crc32c data else 0) ++ d⟩)

/-- CHECKPOINT_SEND (R411). -/
def execCheckpointSend (t : Nat) (s : State) : Host.Outcome State Fault Refusal :=
  eventAwake t (fun s => s.when (s.mirrors && (decide (256 ≤ s.pair.ckptLines) ||
      decide (s.pair.ckptAt + 10 * msSteps ≤ s.now))) (fun s =>
    let seq := s.pair.ckptSeq + 1
    let total := 8 * (1 + s.fresh % 16384)
    let ts := ckptTrans s.free seq total
    (ts.foldl (fun s x => s.sendTrans 3 0 x) s.used).modPair (fun x => { x with
      ckptSeq := seq, ckptAt := s.now, ckptLines := 0 }))) s

/-- A checkpoint is discarded and counted (R387). (Mark: DEDUCED, log 19; DEDUCED, log 109) -/
def State.ckptDiscard (s : State) : State :=
  ((s.incSat Reg.ZLINK_CKPT_ERRORS_COUNT 1).setB Reg.ZLINK_CKPT_STATUS_RECEIVING false).modPair (fun x => { x with
    ckptRx := none })

/-- A checkpoint is discarded: the standby becomes UNSYNCED (R387, R412). (Mark: DEDUCED, log 19; DEDUCED, log 109) -/
def State.ckptDrop (s : State) : State :=
  let s := s.ckptDiscard
  (s.set Reg.PAIR_STATUS_STATE 0).modPair (fun x => { x with lost := x.lost || s.synced })

/-- A whole checkpoint that passes R387 becomes current, once what it names is performed, with the web offsets of R411
(R412). -/
def State.ckptCurrent (s : State) (half seq : Nat) (data : List Byte) : State :=
  let s := (Config.ckptOps data).foldl State.performOp s
  let s := ((s.set Reg.ZLINK_CKPT_STATUS_CURRENT_HALF half).setB Reg.ZLINK_CKPT_STATUS_VALID true).setB
    Reg.ZLINK_CKPT_STATUS_RECEIVING false
  let s := (s.set Reg.ZLINK_CKPT_SEQ seq).modPair (fun x => { x with ckptRx := none, ckptNew := true })
  (List.range 4).foldl (fun s e =>
    s.setS (Reg.PAIR_ENC_OFFSET e) (wrapS 32 (s.pair.latchRx.getD e 0 - Config.ckptLatch data e))) s

/-- One CKPT transaction on a standby (R387); a standby that rejoins stays in RESYNC while FW_MAJOR differs (R423). -/
def State.onCkpt (s : State) (b : List Byte) : State :=
  let seq := u32 b 0
  let off := u32 b 4
  let n := u16 b 10
  let first := bit (u8 b 12) 0
  let last := bit (u8 b 12) 1
  let half := 1 - s.get Reg.ZLINK_CKPT_STATUS_CURRENT_HALF
  let s := if first ∧ s.pair.ckptRx.isSome then s.ckptDrop else s
  let s := if first then s.modPair (fun x => { x with
      ckptRx := some (seq, 0), latchRx := (List.range 4).map (fun e => (s.enc e).count) })
    else s
  let s := s.setB Reg.ZLINK_CKPT_STATUS_RECEIVING s.pair.ckptRx.isSome
  match s.pair.ckptRx with
  | none => s
  | some (q, next) =>
    if q ≠ seq ∨ next ≠ off ∨ 131072 < off + n ∨ last ≠ decide (off + n = u32 b 16) then s.ckptDrop
    else
      let base := tabBase + 0x800000 + half * 0x20000
      let s := s.putTabs false (base + off) ((b.drop 24).take n)
      if !last then s.modPair (fun x => { x with ckptRx := some (seq, off + n) })
      else
        let data := s.readTab false base (u32 b 16)
        if crc32c data ≠ u32 b 20 then s.ckptDrop
        else if u16 b 8 = low 16 Config.fwMajor then s.ckptCurrent half seq data
        else if s.get Reg.PAIR_STATUS_STATE = 1 then s.ckptDiscard
        else s.ckptDrop

/-- CKPT_RECEIVED (R387, R413); one for the ancestor's uplink goes on by it (R379). -/
def execCkptReceived (x : Trans) (t : Nat) (s : State) : Host.Outcome State Fault Refusal :=
  event t (fun s => s.when (s.holds 3 x) (fun s =>
    let s := s.consume 3 x
    if !transOk x ∨ !s.accepts 3 x ∨ x.ttype ≠ ttCkpt then s.discard 3
    else if s.route 3 x = .up then s.sendTrans 0 3 x
    else if x.dest ≠ 0xFD ∨ x.src ≠ 0xFD ∨ !s.standby then s.discard 3
    else s.wakeDoze.onCkpt x.body)) s

/-- EVT_STANDBY_READY (R407, R423); a standby that becomes READY while its partner is silent takes over (R416).
(Mark: DEDUCED, log 110; DESIGN CHOICE, log 112) -/
def execEvtStandbyReady (t : Nat) (s : State) : Host.Outcome State Fault Refusal :=
  event t (fun s => s.when (s.standby && s.get Reg.PAIR_STATUS_STATE == 1 && s.flag Reg.ZLINK_CKPT_STATUS_VALID &&
      s.pair.ckptNew) (fun s =>
    let s := s.set Reg.PAIR_STATUS_STATE 2
    let s := s.raise evStandbyReady 0 (leBytes 4 ((s.now - s.pair.resyncAt.getD s.now) / msSteps))
    if (s.stringOn true || s.stringOn false) && s.partnerSilent && s.mayTakeOver then s.takeOver 0 else s)) s

/-- DOZE.US, 0 treated as 1. -/
def State.dozeUs (s : State) : Nat := max 1 (s.get Reg.PAIR_DOZE_US)

/-- A port that trains when the device enters idle stops without a marker (R363). (Mark: DEDUCED, log 143) -/
def State.restTraining (s : State) (p : Nat) : State :=
  if (s.port p).phase = .training ∨ (s.port p).phase = .settling then
    (s.modPort p (fun q => { q with phase := .held, seenDue := false, zeros := 0, txBlock := [] })).lanesReset p
  else s

/-- An up port is ordered into idle (R388). (Mark: DEDUCED, log 143) -/
def State.orderIdle (s : State) (p : Nat) : State :=
  if (s.port p).phase = .up ∨ (s.port p).phase = .waking then s.modPort p (fun q => { q with idleOrder := some s.now })
  else s

/-- DOZE_TIMEOUT (R413): the standby rests in L2, with ZP3 up. -/
def execDozeTimeout (t : Nat) (s : State) : Host.Outcome State Fault Refusal :=
  eventAwake t (fun s => s.when (s.standby && !s.pair.takeover && decide (s.pair.dozeFrom + s.dozeUs * usSteps ≤ s.now))
    (fun s =>
      let s := [0, 1, 2].foldl (fun s p => (s.orderIdle p).restTraining p) s
      { s with power := { s.power with dozing := true } }.set Reg.LADDER_STATE 2)) s

end Machine

end Sys2Proof
end

