-- ==== Sys2Proof/Machine/Vcore.lean ====
section
/-! DEFINITION. Core voltage over PMBus: requests, transactions, settling and the floor (23_power_reset_ladder.md R469
to R472). -/

namespace Sys2Proof.Machine

/-- Change the supplies' part of the state. -/
def State.modPower (s : State) (f : PowerSt → PowerSt) : State := { s with power := f s.power }

/-- The PMBus is in use (R472). -/
def State.pmbusOn (s : State) : Bool := s.flag Reg.LADDER_PMBUS_CFG_ENABLE

/-- A transaction that writes a voltage. -/
def PmOp.isVout : PmOp → Bool
  | .voutCommand _ => true
  | _ => false

/-- A request may be made: PMBUS_STATUS.FAULT is clear, and no voltage is on its way or settling (R470, R472). -/
def State.mayRequest (s : State) : Bool :=
  s.pmbusOn && !s.flag Reg.LADDER_PMBUS_STATUS_FAULT && s.power.settleAt.isNone && !s.power.pmQueue.any PmOp.isVout

/-- Queue PMBus transactions. -/
def State.pmPut (s : State) (ops : List PmOp) : State :=
  if s.pmbusOn then s.modPower (fun x => { x with pmQueue := x.pmQueue ++ ops }) else s

/-- Request a voltage, never below the floor or above 850 mV, and not upward while LEVEL is 2 or above (R470, R471). -/
def State.requestVcore (s : State) (mv : Nat) : State :=
  let mv := clampN (s.get Reg.LADDER_FLOOR_MV) 850 mv
  if s.mayRequest ∧ (mv ≤ s.power.vcore ∨ s.get Reg.THERM_STATUS_LEVEL < 2) then s.pmPut [.voutCommand mv] else s

/-- A floor above the voltage in force is requested at once (R471). (Mark: DEDUCED, log 114) -/
def State.raiseToFloor (s : State) : State :=
  if s.power.vcore < s.get Reg.LADDER_FLOOR_MV then s.requestVcore (s.get Reg.LADDER_FLOOR_MV) else s

/-- A new floor, by VCORE_FLOOR or by a write of LADDER.FLOOR (R471, R478). -/
def State.putFloor (s : State) (mv : Nat) : Nat × State :=
  if mv < 720 ∨ 850 < mv then (stBadParam, s) else (stOk, (s.set Reg.LADDER_FLOOR_MV mv).raiseToFloor)

/-- VCORE_FLOOR (R471). -/
def cmdVcoreFloor (mv : Nat) (s : State) : Res :=
  let r := s.putFloor mv
  Res.err r.1 r.2

/-- The code of a voltage in the exponent that VOUT_MODE gave, to the nearest (R470). -/
def voutCodeOf (e : Int) (mv : Nat) : Nat :=
  if e < 0 then (2 * mv * 2 ^ e.natAbs + 1000) / 2000 else (2 * mv + 1000 * 2 ^ e.natAbs) / (2000 * 2 ^ e.natAbs)

/-- Millivolts of a code. -/
def voutMv (e : Int) (code : Nat) : Nat :=
  if e < 0 then (2000 * code + 2 ^ e.natAbs) / (2 * 2 ^ e.natAbs) else 1000 * code * 2 ^ e.natAbs

/-- A NACK, a PEC error or a fault bit of STATUS_WORD: the fault is counted, and no request follows (R472). -/
def State.pmFault (s : State) : State :=
  ((s.setB Reg.LADDER_PMBUS_STATUS_FAULT true).incSat Reg.LADDER_PMBUS_STATUS_ERRORS 1).modPower (fun x =>
    { x with pmQueue := x.pmQueue.filter (fun o => !o.isVout) })

/-- What an acknowledged transaction does. READ_VOUT carries its code, READ_IOUT the current in 0.01 A, VOUT_MODE its
byte, STATUS_WORD its fault bits. (Mark: DEDUCED, log 114; DESIGN CHOICE, log 115) -/
def State.pmDone (s : State) (value : Nat) : PmOp → State
  | .operation => s
  | .voutMode => s.modPower (fun x => { x with voutExp := some (sgn 5 value) })
  | .voutCommand mv => s.modPower (fun x => { x with
      settleAt := some (mv, s.now + max 1 (s.get Reg.LADDER_PMBUS_CFG_VSETTLE_US) * usSteps) })
  | .readVout =>
    match s.power.voutExp with
    | some e => s.set Reg.LADDER_VCORE_MEAS_MV (min 4095 (voutMv e (low 16 value)))
    | none => s.used.set Reg.LADDER_VCORE_MEAS_MV s.fresh
  | .readIout => s.set Reg.LADDER_IOUT_CENTIAMPS value
  | .statusWord => if low 16 value = 0 then s else s.pmFault

/-- The end of the transaction in progress (R469, R470, R472). -/
def State.pmEnd (s : State) (ok : Bool) (value : Nat) : State :=
  match s.power.pmQueue with
  | [] => s
  | op :: rest =>
    let s := s.modPower (fun x => { x with pmQueue := rest })
    let s := match op with
      | .voutCommand mv => (s.set Reg.LADDER_VCORE_REQ_MV mv).modPower (fun x => { x with
          voutCode := x.voutExp.map (fun e => voutCodeOf e mv) })
      | _ => s
    if ok then s.pmDone value op else s.pmFault

/-- PMBUS_TRANSACTION_END. (Mark: DESIGN CHOICE, log 115) -/
def execPmbusTransactionEnd (ok : Bool) (value t : Nat) (s : State) : Host.Outcome State Fault Refusal :=
  event t (fun s => s.when s.pmbusOn (·.pmEnd ok value)) s

/-- PMBUS_ALERT: STATUS_WORD is read (R469). -/
def execPmbusAlert (t : Nat) (s : State) : Host.Outcome State Fault Refusal := event t (·.pmPut [.statusWord]) s

/-- VSETTLE_EXPIRY: the voltage is in force and is read back; a floor set meanwhile is requested (R470, R471).
(Mark: DEDUCED, log 114) -/
def State.settleVcore (s : State) : State :=
  match s.power.settleAt with
  | none => s
  | some (mv, t) =>
    if s.now < t then s
    else ((s.modPower (fun x => { x with vcore := mv, settleAt := none })).pmPut [.readVout, .readIout]).raiseToFloor

/-- VSETTLE_EXPIRY. -/
def execVsettleExpiry (t : Nat) (s : State) : Host.Outcome State Fault Refusal := event t State.settleVcore s

end Sys2Proof.Machine
end

