-- ==== Sys2Proof/Machine/Events.lean ====
section
/-! DEFINITION. The print path's events: encoder edges and wire faults, ticks, the stages of a line, the ends of jobs and
copies, watchdogs; and the loss of REFCLK_SYS and the pace windows (01, 04 to 09 of spec/). -/

namespace Sys2Proof.Machine

/-! ### Encoders (R81 to R90, R122) -/

/-- A fault that makes the encoder invalid halts the planes that print from it (R122). -/
def State.haltIfNew (s : State) (e : Nat) (was : Bool) : State :=
  if !was && s.flag (Reg.ENC_STATUS_INVALID e) then s.encHalt e else s

/-- An accepted edge of A (`ch` 0), of B (1) or of both in one sample (2), and what a fault does to the planes (R81, R87,
R122). -/
def State.abEdge (s : State) (e ch : Nat) : State :=
  let was := s.flag (Reg.ENC_STATUS_INVALID e)
  (s.encEdge e ch).haltIfNew e was

/-- The edges accepted at one sample, of Z first. (Mark: DESIGN CHOICE, log 165) -/
def State.acceptAt (s : State) (e : Nat) (a b z : Bool) : State :=
  let s := if z then s.zEdge e else s
  if a && b then s.abEdge e 2 else if a then s.abEdge e 0 else if b then s.abEdge e 1 else s

/-- `n` samples of an encoder, the last at the instant `t`, at the levels `lvl` of its receivers A, B and Z in bits 0 to 2:
each edge that the filter accepts has its effect at its own sample, and changes that revert are counted (R79, R81). -/
def State.encRun (s : State) (e lvl n t : Nat) : State :=
  let r := s.sampled e lvl n
  let at_ := fun c => (r.getD c (0, false, none)).2.2
  let s := s.modEnc e (fun x => { x with raw := lvl, held := r.map Prod.fst })
  let s := s.incSat (Reg.ENC_GLITCHES e) (r.filter (fun x => x.2.1)).length
  (((r.filterMap (fun x => x.2.2)).foldr insFall []).foldl (fun (s : State) o =>
    (s.elapse (t - 2 * o)).acceptAt e (at_ 0 == some o) (at_ 1 == some o) (at_ 2 == some o)) s)

/-- Runs of samples, the last of which ends at `t`; a sample lasts two steps (R79). -/
def State.encRuns (s : State) (e t : Nat) : List (Fin 8 × Nat) → State
  | [] => s
  | (lvl, n) :: rest => (s.encRun e lvl n (t - 2 * (rest.map Prod.snd).sum)).encRuns e t rest

/-- What the receivers of an encoder see up to `t`: the sampler runs in L0 to L2; in reset, in L3 and in L4 only the relay
repeats the levels (R79, R82, R98). -/
def encInput (e : Nat) (runs : List (Fin 8 × Nat)) (t : Nat) (s : State) : Host.Outcome State Fault Refusal :=
  .next ((if s.power.resetN && s.encCounts then s.encRuns e t runs
    else runs.foldl (fun (s : State) r => s.encRaw e r.1) s).elapse t)

/-- ENC_EDGE_ACCEPTED: the samples up to the edge's acceptance (R79, R81). -/
def execEncEdgeAccepted (e : Fin 4) (levels : List (Fin 8)) (samples : List Nat) (t : Nat) (s : State) :
    Host.Outcome State Fault Refusal :=
  encInput e (levels.zip samples) t s

/-- INDEX_LATCH: the samples up to the acceptance of an edge of Z (R79, R85). -/
def execIndexLatch (e : Fin 4) (levels : List (Fin 8)) (samples : List Nat) (t : Nat) (s : State) :
    Host.Outcome State Fault Refusal :=
  encInput e (levels.zip samples) t s

/-- A wire fault on A or B (R88, R89). -/
def State.wireFault (s : State) (e : Nat) (onB : Bool) : State :=
  let was := s.flag (Reg.ENC_STATUS_INVALID e)
  let s := s.setB (if onB then Reg.ENC_STATUS_WIRE_B e else Reg.ENC_STATUS_WIRE_A e) true
  (s.encFault e (Reg.ENC_STATUS_WIRE e) (s.enc e).count).haltIfNew e was

/-- A wire fault on Z (R90). -/
def State.zWireFault (s : State) (e : Nat) : State :=
  ((s.setB (Reg.ENC_STATUS_WIRE_Z e) true).setB (Reg.ENC_STATUS_Z_FAULT e) true).setB (Reg.ENC_STATUS_INDEX_VALID e) false

/-- WIRE_FAULT: `ch` 0 is A, 1 is B, 2 is Z. -/
def execWireFault (e : Fin 4) (ch : Fin 3) (t : Nat) (s : State) : Host.Outcome State Fault Refusal :=
  event t (fun s => s.when s.encCounts (fun s =>
    if ch.val = 2 then s.zWireFault e else s.wireFault e (ch.val = 1))) s

/-- OBSERVER_TICK (R92). (Mark: DEDUCED, log 54) -/
def execObserverTick (t : Nat) (s : State) : Host.Outcome State Fault Refusal :=
  event t (fun s => s.when s.encCounts State.tick) s

/-! ### The stages of a line -/

/-- LINE_ISSUE (R113); an uncorrectable block met by the raster fetch is a pair fault of code 2 (R276, R414).
(Mark: DEDUCED, log 54) -/
def execLineIssue (p : Fin 4) (t : Nat) (s : State) : Host.Outcome State Fault Refusal :=
  eventAwake t (fun s =>
    let r := s.lineIssue p
    if r.2 then r.1.pairFault 2 else r.1) s

/-- LINE_TO_FIFO (R8). -/
def execLineToFifo (q : Fin 48) (t : Nat) (s : State) : Host.Outcome State Fault Refusal := eventAwake t (·.toFifo q) s

/-- SHIFT_START (R197). -/
def execShiftStart (q : Fin 48) (t : Nat) (s : State) : Host.Outcome State Fault Refusal := eventAwake t (·.shiftStart q) s

/-- LATCH (R199). -/
def execLatch (q : Fin 48) (t : Nat) (s : State) : Host.Outcome State Fault Refusal := eventAwake t (·.latch q) s

/-- STROBE_TRAIN_START (R200). -/
def execStrobeTrainStart (q : Fin 48) (t : Nat) (s : State) : Host.Outcome State Fault Refusal :=
  eventAwake t (·.trainStart q) s

/-- STROBE_TRAIN_END (R202). -/
def execStrobeTrainEnd (q : Fin 48) (rowB : Bool) (t : Nat) (s : State) : Host.Outcome State Fault Refusal :=
  eventAwake t (·.trainStop q rowB.toNat) s

/-- DEFECT_MARK_RELEASE (R120). -/
def execDefectMarkRelease (p : Fin 4) (t : Nat) (s : State) : Host.Outcome State Fault Refusal :=
  eventAwake t (·.markRelease p) s

/-- JOB_TAKEOVER (R147). -/
def execJobTakeover (t : Nat) (s : State) : Host.Outcome State Fault Refusal := eventAwake t State.takeover s

/-- JOB_END (R148). -/
def execJobEnd (t : Nat) (s : State) : Host.Outcome State Fault Refusal := eventAwake t State.jobEnd s

/-- WSPD_PERIOD (R123). -/
def execWspdPeriod (t : Nat) (s : State) : Host.Outcome State Fault Refusal := eventAwake t State.wspdPeriod s

/-- STROBE_WATCHDOG (R212), at the pad of any port, a pair fault of code 1 (R414). -/
def execStrobeWatchdog (q : Fin 48) (rowB stuck : Bool) (t : Nat) (s : State) : Host.Outcome State Fault Refusal :=
  eventAwake t (fun s => (s.strobeWd q rowB stuck).pairFault 1) s

/-- STROBE_HW_LIMIT (R213), at the pad of any port, a pair fault of code 1 (R414). -/
def execStrobeHwLimit (q : Fin 48) (rowB stuck : Bool) (t : Nat) (s : State) : Host.Outcome State Fault Refusal :=
  event t (fun s => (s.strobeHw q rowB stuck).pairFault 1) s

/-! ### Copies and check passes -/

/-- TABLE_COPY_DONE (R180). -/
def execTableCopyDone (p : Fin 4) (table : Fin 6) (t : Nat) (s : State) : Host.Outcome State Fault Refusal :=
  eventAwake t (fun s => s.tableCopied (s.prints p) p table) s

/-- PLOAD_COPY_DONE (R160). -/
def execPloadCopyDone (p : Fin 4) (t : Nat) (s : State) : Host.Outcome State Fault Refusal := eventAwake t (·.ploadDone p) s

/-- The end of a check pass; a protected fault raises its event and stops the job (R167, R169). -/
def State.checkPass (s : State) (p : Nat) : State :=
  match s.passDone p with
  | (s, none) => s
  | (s, some (crc, rep)) =>
    (s.raise evProtectedFault 0 (leBytes 1 p ++ [0, 0, 0] ++ leBytes 4 crc ++ leBytes 8 rep)).faultStop

/-- CHECK_PASS_DONE. -/
def execCheckPassDone (p : Fin 4) (t : Nat) (s : State) : Host.Outcome State Fault Refusal := eventAwake t (·.checkPass p) s

/-! ### Supplies of the relay and of the bridges -/

/-- SUPPLY_OPERATING_RANGE (R98, R283). -/
def execSupplyOperatingRange (inside : Bool) (t : Nat) (s : State) : Host.Outcome State Fault Refusal :=
  .next ((s.elapse t).modPower (fun x => { x with supplyOk := inside }))

/-! ### REFCLK_SYS (R14 to R16) -/

/-- The declared loss of REFCLK_SYS. (Mark: DEDUCED, log 38; DEDUCED, log 116) -/
def State.refclkLost (s : State) : State :=
  let s := (s.setB Reg.SYS_CLK_STATUS_REFCLK_OK false).setB Reg.SYS_CLK_STATUS_IRO_TIMING true
  let s := s.setB Reg.SYS_CLK_STATUS_LOST true
  let s := { s with time := { s.time with fireInhibit := true } }
  ((s.raise evRefclkLost 0 (leBytes 8 (s.tbNs 1))).faultStop).pairFault 4

/-- REFCLK_SYS_LOST (R15). -/
def execRefclkSysLost (t : Nat) (s : State) : Host.Outcome State Fault Refusal := event t State.refclkLost s

/-- The edge units return to REFCLK_SYS once it is back and LOST is clear (R16). (Mark: DEDUCED, log 116) -/
def State.refclkBack (s : State) : State :=
  if s.flag Reg.SYS_CLK_STATUS_REFCLK_OK && !s.flag Reg.SYS_CLK_STATUS_LOST then
    s.setB Reg.SYS_CLK_STATUS_IRO_TIMING false
  else s

/-- REFCLK_SYS_RETURN (R14, R16). -/
def execRefclkSysReturn (t : Nat) (s : State) : Host.Outcome State Fault Refusal :=
  event t (fun s => (s.setB Reg.SYS_CLK_STATUS_REFCLK_OK true).refclkBack) s

/-! ### Pace (R17 to R21) -/

/-- Work of a 1 ms window at the guaranteed rate: pixels of the five pixel engines, bits of input at level 1, bytes,
grants, instructions (R17). (Mark: DEDUCED, log 49) -/
def paceUnit (e : Nat) : Nat :=
  [24000000, 24000000, 24000000, 1600000, 1600000, 8000000, 40000000, 1800000, 280000].getD e 1

/-- RATE and MIN of an engine after a window with `w` units of work. (Mark: DEDUCED, log 49) -/
def State.paceRate (s : State) (e w : Nat) : State :=
  let r := min 0xFFFF (w * 256 / paceUnit e)
  let s := s.modPower (fun x => { x with paceWork := modAt (fun _ => some w) e x.paceWork })
  let s := s.set (Reg.SYS_PACE_RATE e) r
  s.set (Reg.SYS_PACE_MIN e) (min (s.get (Reg.SYS_PACE_MIN e)) r)

/-- An engine after a window without work: it counts at its RATE, a multiple of 1/256 of the guaranteed rate, once it has
had a window with work (R18). (Mark: DEDUCED, log 49) -/
def State.paceIdle (s : State) (e : Nat) : State :=
  s.modPower (fun x => { x with
    paceWork := modAt (Option.map (fun _ => s.get (Reg.SYS_PACE_RATE e) * (paceUnit e / 256))) e x.paceWork })

/-- The engines after a window: what each did, absent where it had no work (R17, R18). -/
def State.paceEngines (s : State) (work : List (Option Nat)) : State :=
  (List.range 9).foldl (fun (s : State) e => match work.getD e none with
    | some w => s.paceRate e w
    | none => s.paceIdle e) s

/-- The pace of a pixel-path engine in pixels per second, the guaranteed one before its first window with work (R18).
(Mark: DEDUCED, log 49) -/
def State.paceOf (s : State) (e : Nat) : Nat := 1000 * (s.power.paceWork.getD e none).getD (paceUnit e)

/-- The lowest pace of the pixel path, and the first engine that has it (R18, R20). (Mark: DEDUCED, log 49) -/
def State.pixelPace (s : State) : Nat × Nat :=
  [1, 2].foldl (fun m e => if s.paceOf e < m.1 then (s.paceOf e, e) else m) (s.paceOf 0, 0)

/-- The present line rate of a plane in lines per second (R18). (Mark: DEDUCED, log 51) -/
def State.lineRate (s : State) (p : Nat) : Rat :=
  let e := s.encOf p
  if !s.encValid e || s.reversedNow p || s.flag (Reg.ENC_STATUS_STANDSTILL e) then 0
  else mkRat ((s.enc e).velocity * 2 ^ 32) (s.cpl p)

/-- The pixel demand in pixels per second (R18). (Mark: DEDUCED, log 50) -/
def State.demand (s : State) : Rat := (s.printing.map (fun p => (s.positions p : Rat) * s.lineRate p)).sum

/-- The print margin times 256, exact; `none` without demand (R18). (Mark: DEDUCED, log 49; DEDUCED, log 50) -/
def State.margin (s : State) (pace : Nat) : Option Rat :=
  if s.demand ≤ 0 then none else some ((pace : Rat) * 256 / s.demand)

/-- The print margin as PRINT_MARGIN shows it, in Q8.8. -/
def shownMargin : Option Rat → Nat
  | none => 0xFFFF
  | some m => if m.floor < 0x10000 then m.floor.toNat else 0xFFFF

/-- A margin below a threshold in Q8.8, and one above it, compared exactly. (Mark: DEDUCED, log 49) -/
def marginBelow (m : Option Rat) (n : Nat) : Bool := match m with | some r => decide (r < n) | none => false
/-- Mark: DEDUCED, log 49. -/
def marginAbove (m : Option Rat) (n : Nat) : Bool := match m with | some r => decide ((n : Rat) < r) | none => true

/-- The pace cap in units of 10 lines per second (R21, PRINT_MARGIN). -/
def State.paceCap (s : State) : Nat :=
  let n := (s.printing.map s.positions).sum
  if n = 0 then 0xFFFF
  else min 0xFFFF (s.power.paceHist.foldl min (2 ^ 64) / n / 10)

/-- Requests of VCORE: 10 mV up after 3 windows below MARGIN_LOW, up to 0.85 V; 10 mV down after 100 windows above
MARGIN_LOW + 0.25, down to the floor (R19). (Mark: DEDUCED, log 49; DEDUCED, log 50) -/
def State.paceRequests (s : State) (m : Option Rat) : State :=
  let ml := s.get Reg.SYS_PACE_CTRL_MARGIN_LOW
  let low := if marginBelow m ml then s.power.lowWindows + 1 else 0
  let high := if marginAbove m (ml + 64) then s.power.highWindows + 1 else 0
  let on := s.flag Reg.SYS_PACE_CTRL_VREQ_EN
  let up := on && decide (3 ≤ low)
  let down := on && decide (100 ≤ high)
  let s := s.modPower (fun x => { x with
    lowWindows := if up then 0 else min low 3, highWindows := if down then 0 else min high 100 })
  if up ∧ s.power.vcore < 850 then s.requestVcore (s.power.vcore + 10)
  else if down ∧ s.get Reg.LADDER_FLOOR_MV < s.power.vcore then s.requestVcore (s.power.vcore - 10)
  else s

/-- The end of a window: RATE and MIN of the engines that had work, the margin, the cap, requests of VCORE, and
EVT_PACE_LOW at the highest voltage (R18 to R21). (Mark: DEDUCED, log 49) -/
def State.paceWindow (s : State) (work : List (Option Nat)) : State :=
  let s := s.paceEngines work
  let pace := s.pixelPace
  let s := s.modPower (fun x => { x with paceHist := (pace.1 :: x.paceHist).take 8 })
  let m := s.margin pace.1
  let s := (s.set Reg.SYS_PRINT_MARGIN_MARGIN (shownMargin m)).set Reg.SYS_PRINT_MARGIN_PACE_CAP s.paceCap
  let s := s.paceRequests m
  if marginBelow m 256 ∧ 850 ≤ s.power.vcore then
    s.raiseLimited evPaceLow 0 1 (leBytes 2 (shownMargin m) ++ leBytes 1 pace.2)
  else s

/-- PACE_WINDOW: the work of each engine in the window, absent where it had none. -/
def execPaceWindow (work : List (Option Nat)) (t : Nat) (s : State) : Host.Outcome State Fault Refusal :=
  eventAwake t (·.paceWindow work) s

end Sys2Proof.Machine
end

