-- ==== Sys2Proof/Machine/MemEvents.lean ====
section
/-! DEFINITION. The memory controller's commands and events: fills, modes, acknowledgements, errors, the scrubber,
training, and EVT_READY (12_raster_memory.md; 02_command_packets.md R503). -/

namespace Sys2Proof.Machine

/-- Change the memory controller's part of the state. -/
def State.modMem (s : State) (f : MemSt → MemSt) : State := { s with mem := f s.mem }

/-! ### Fills and modes -/

/-- MEM_FILL (R503); on a standby it writes DRAM for the host (R77). (Mark: DEDUCED, log 43; DEDUCED, log 118) -/
def cmdMemFill (addr len pattern tag : Nat) (on : Iface) (s : State) : Res :=
  if len = 0 ∨ addr % 64 ≠ 0 ∨ len % 64 ≠ 0 ∨ !inDram addr len then Res.err stBadParam s
  else if s.standby then Res.err stNotOwner (s.incSat Reg.MEMCTL_PROT_REFUSED_COUNT 1)
  else if touchesProt addr len then Res.err stProtected (s.incSat Reg.MEMCTL_PROT_REFUSED_COUNT 1)
  else Res.err stAccepted (s.modMem (fun m => { m with fills := m.fills ++ [⟨tag, on, addr, len, pattern, 0⟩] }))

/-- The oldest fill writes its next `n` bytes, in ascending order (R503). -/
def State.fillMore (s : State) (f : MemFill) (n : Nat) : State :=
  (s.writeMem true (f.addr + f.done) (patternBytes (n / 4) f.pattern)).1.waitFills (f.addr + f.done) n

/-- A channel acknowledges a block of the oldest fill: the block is written as the fill reaches it, where it is the next of
the fill and lies in the channel (R503). (Mark: DEDUCED, log 118) -/
def State.fillBlock (s : State) (c : Nat) : State :=
  match s.mem.fills with
  | [] => s
  | f :: rest =>
    if f.done < f.len ∧ channelOf (f.addr + f.done) = c then
      ((s.fillMore f 64).modMem (fun m => { m with fills := { f with done := f.done + 64 } :: rest })).commitOldest c
    else s

/-- The end of the oldest fill: every word holds the pattern and every write is acknowledged (R503).
(Mark: DEDUCED, log 118) -/
def State.fillDone (s : State) : State :=
  match s.mem.fills with
  | [] => s
  | f :: rest =>
    let s := s.modMem (fun m => { m with fills := rest })
    let s := (s.fillMore f (f.len - f.done)).commitWrites (fun w => decide (f.addr ≤ w.addr ∧ w.addr < f.addr + f.len))
    s.cmdDone 0x0100 f.tag stOk f.iface 0

/-- MEM_FILL_DONE. -/
def execMemFillDone (t : Nat) (s : State) : Host.Outcome State Fault Refusal := eventAwake t State.fillDone s

/-- MEM_MODE (R271, R272). (Mark: DEDUCED, log 10) -/
def cmdMemMode (mode : Nat) (s : State) : Res :=
  if s.job.running.isSome then Res.err stBadState s
  else if mode = 1 ∧ !s.flag Reg.MEMCTL_MODE_INIT then
    Res.ok ((s.waitAllFills.undefine 0 dramEnd).set Reg.MEMCTL_MODE_INIT 1)
  else Res.ok (s.set Reg.MEMCTL_MODE_INIT mode)

/-- A channel acknowledges its oldest write; where none waits, the next block of a fill that lies in it (R263, R313,
R503). (Mark: DEDUCED, log 118) -/
def State.writeAck (s : State) (c : Nat) : State :=
  if s.mem.writes.any (fun w => w.ch == c) then s.commitOldest c else s.fillBlock c

/-- MEM_WRITE_ACK. -/
def execMemWriteAck (ch : Fin 8) (t : Nat) (s : State) : Host.Outcome State Fault Refusal :=
  eventAwake t (·.writeAck ch) s

/-- ZERO_FILL_DONE (R269). -/
def execZeroFillDone (region t : Nat) (s : State) : Host.Outcome State Fault Refusal := eventAwake t (·.finishFill region) s

/-- A write of GO to INVAL_CTRL: the writes accepted before commit, then the valid bits clear (R270). -/
def State.invalidate (s : State) (count : Nat) : Nat × State :=
  let first := s.get Reg.MEMCTL_INVAL_FIRST_REGION
  if count = 0 ∨ numRegions < first + count then (stBadParam, s)
  else if protRegion < first + count then (stProtected, s)
  else if s.flag Reg.MEMCTL_MODE_INIT then (stBadState, s)
  else
    let s := s.waitAllFills.commitWrites (fun _ => true)
    (stOk, s.modMem (fun m => { m with valid := Sparse.dropRange first (first + count) m.valid }))

/-- A recovery range opens: fills in it end first, and what the DRAM holds in its invalid regions is undefined (R271, R273).
(Mark: DEDUCED, log 10) -/
def State.openRange (s : State) (first count : Nat) : State :=
  (List.range count).foldl (fun (s : State) i =>
    let r := first + i
    let s := s.finishFill r
    if s.validRegion r then s else s.undefine (r * regionBytes) regionBytes) s

/-- A write of ACTIVE in RECOVER_FIRST, with the REGION of the same word (R273). (Mark: DEDUCED, log 10) -/
def State.recover (s : State) (active : Bool) (first : Nat) : Nat × State :=
  let count := s.get Reg.MEMCTL_RECOVER_COUNT_REGIONS
  if !active then (stOk, (s.setB Reg.MEMCTL_RECOVER_FIRST_ACTIVE false).set Reg.MEMCTL_RECOVER_FIRST_REGION first)
  else if count = 0 ∨ numRegions < first + count then (stBadParam, s)
  else if protRegion < first + count then (stProtected, s)
  else if s.flag Reg.MEMCTL_RECOVER_FIRST_ACTIVE then (stBusy, s)
  else (stOk, ((s.openRange first count).set Reg.MEMCTL_RECOVER_FIRST_REGION first).setB Reg.MEMCTL_RECOVER_FIRST_ACTIVE
    true)

/-! ### Errors -/

/-- A normal read finds a corrected error in a block (R275). -/
def State.correctedRead (s : State) (b : Nat) : State :=
  if b < dramEnd ∧ s.reaches b then
    (s.modMem (fun m => { m with ce := if b ∈ m.ce then m.ce else m.ce ++ [b] })).meetCe b
  else s

/-- CORRECTED_READ. -/
def execCorrectedRead (addr t : Nat) (s : State) : Host.Outcome State Fault Refusal :=
  eventAwake t (·.correctedRead (blockOf addr)) s

/-- SCRUB_REWRITE: the rewrite pending for a block commits (R275). -/
def execScrubRewrite (addr t : Nat) (s : State) : Host.Outcome State Fault Refusal :=
  eventAwake t (fun s => s.when (blockOf addr ∈ s.mem.rewrites) (·.modMem (fun m => { m with
    ce := m.ce.filter (· != blockOf addr), rewrites := m.rewrites.filter (· != blockOf addr) }))) s

/-- floor(ref(k)) of a plane's line in the job that prints on it, 0 without one (R110, R277). -/
def State.lineWeb (s : State) (p k : Nat) : Int :=
  match s.job.running with
  | some j => if j.has p then intPart (s.ref p (j.start.getD 0) k) else 0
  | none => 0

/-! ### The scrubber (R274) -/

/-- The scrubber reads a region: valid, and outside an open recovery range. -/
def State.scrubs (s : State) (r : Nat) : Bool :=
  s.validRegion r && !(s.flag Reg.MEMCTL_RECOVER_FIRST_ACTIVE && decide (s.get Reg.MEMCTL_RECOVER_FIRST_REGION ≤ r ∧
    r < s.get Reg.MEMCTL_RECOVER_FIRST_REGION + s.get Reg.MEMCTL_RECOVER_COUNT_REGIONS))

/-- The first block at or after an address that the scrubber reads. (Mark: DEDUCED, log 120) -/
def State.scrubFrom (s : State) (a : Nat) : Option Nat :=
  if s.scrubs (a / regionBytes) then some a
  else ((s.mem.valid.map (·.1)).find? (fun r => decide (a / regionBytes < r) && s.scrubs r)).map (· * regionBytes)

/-- The end of a lap. (Mark: DEDUCED, log 120) -/
def State.scrubLap (s : State) : State :=
  let ms := min (2 ^ 32 - 1) ((s.now - s.mem.lapStart) / msSteps)
  let n := s.mem.lapCorrected
  let s := (s.modMem (fun m => { m with scrubNext := 0, lapStart := s.now, lapCorrected := 0 })).set Reg.MEMCTL_SCRUB_LAP_MS ms
  s.raise evScrubLap 0 (leBytes 4 ms ++ leBytes 4 n)

/-- The scrubber's read of a block: a corrected error is rewritten, an uncorrectable block is left.
(Mark: DEDUCED, log 119) -/
def State.scrubRead (s : State) (a : Nat) (corrected bad : Bool) : State :=
  let s := s.set Reg.MEMCTL_SCRUB_POS_REGION (a / regionBytes)
  if bad || a ∈ s.mem.ue then
    (s.modMem (fun m => { m with ue := if a ∈ m.ue then m.ue else m.ue ++ [a] })).meetUe a 10 0 0xFFFFFFFF 0
  else if corrected || a ∈ s.mem.ce then
    let s := ((s.incSat Reg.ECC_CE_COUNT 1).set Reg.ECC_CE_LAST_LO a).set Reg.ECC_CE_LAST_HI (a / 2 ^ 32)
    s.modMem (fun m => { m with
                                ce := m.ce.filter (· != a), rewrites := m.rewrites.filter (· != a),
                                lapCorrected := m.lapCorrected + 1 })
  else s

/-- The scrubber's next block; after the last block of the last valid region the lap ends. (Mark: DEDUCED, log 120) -/
def State.scrubBlock (s : State) (corrected bad : Bool) : State :=
  match s.scrubFrom s.mem.scrubNext with
  | none => if s.mem.scrubNext = 0 then s else s.scrubLap
  | some a =>
    let s := s.scrubRead a corrected bad
    match s.scrubFrom (a + 64) with
    | some b => s.modMem (fun m => { m with scrubNext := b })
    | none => s.scrubLap

/-- SCRUB_BLOCK: `corrected` and `bad` tell what the read finds beyond the errors already present. -/
def execScrubBlock (corrected bad : Bool) (t : Nat) (s : State) : Host.Outcome State Fault Refusal :=
  eventAwake t (fun s => s.when (s.flag Reg.MEMCTL_SCRUB_CTRL_EN && !s.flag Reg.MEMCTL_MODE_INIT && !s.critical)
    (·.scrubBlock corrected bad)) s

/-! ### Training (R265, R266) -/

/-- The first of a channel's attempts at start-up that keeps the limits; there are four at most.
(Mark: DEDUCED, log 160) -/
def startResult (c : Chan) (ms : List TrainMeas) : Option TrainMeas := (ms.take 4).find? (trainOk true c 0)

/-- Start-up training of all channels, or BOOT_FAIL with its event for each channel that fails (R265).
(Mark: DEDUCED, log 160) -/
def State.trainAll (s : State) (results : List (List TrainMeas)) : State :=
  let s := (List.range 8).foldl (fun s c =>
    match startResult (s.chan c) (results.getD c []) with
    | some m => s.acceptTraining c m
    | none => (s.setB Reg.MEMCTL_MODE_BOOT_FAIL true).raise evCalRejected 0 (leBytes 1 0 ++ leBytes 1 c)) s
  if s.flag Reg.MEMCTL_MODE_BOOT_FAIL then s else s.setB Reg.MEMCTL_MODE_TRAINED true

/-- A start-up whose DRAM is not trained yet (R265, R468). -/
def State.untrained (s : State) : Bool :=
  s.power.startup && !s.flag Reg.MEMCTL_MODE_TRAINED && !s.flag Reg.MEMCTL_MODE_BOOT_FAIL

/-- DRAM_TRAINING: the attempts of each channel. -/
def execDramTraining (results : List (List TrainMeas)) (t : Nat) (s : State) : Host.Outcome State Fault Refusal :=
  eventAwake t (fun s => s.when s.untrained (·.trainAll results)) s

/-- The runs that measure a target, after the target's measurement has ended; runs with nothing left raise
EVT_CMD_DONE (R449). -/
def State.runsMeasured (s : State) (target : Nat) (rejected : Bool) : State :=
  let runs := s.therm.runs.map (fun r =>
    if bit r.left target then { r with left := r.left - 2 ^ target, rejected := r.rejected || rejected } else r)
  let s := { s with therm := { s.therm with runs := runs.filter (fun r => r.left != 0) } }
  (runs.filter (fun r => r.left == 0)).foldl (fun s r =>
    s.cmdDone 0x0A02 r.tag (if r.rejected then stCalRejected else stOk) r.iface 0) s

/-- A CAL_RUN measures a target. -/
def State.runMeasures (s : State) (target : Nat) : Bool := s.therm.runs.any (fun r => bit r.left target)

/-- The end of a CAL_RUN of the DRAM: each channel's result is accepted or rejected (R266, R268).
(Mark: DEDUCED, log 121) -/
def State.retrained (s : State) (results : List TrainMeas) : State :=
  let go (x : State × Bool) (c : Nat) : State × Bool :=
    match results[c]? with
    | some m =>
      if trainOk false (x.1.chan c) (x.1.get (Reg.MEMCTL_CH_TRAIN_VREF_DQ c)) m then (x.1.acceptTraining c m, x.2)
      else (x.1.rejectChannel c, true)
    | none => (x.1.rejectChannel c, true)
  let r := (List.range 8).foldl go (s, false)
  (if r.2 then r.1 else r.1.inc (Reg.CAL_T_RUNS_COUNT 0)).runsMeasured 0 r.2

/-- DRAM_RETRAIN_DONE. -/
def execDramRetrainDone (results : List TrainMeas) (t : Nat) (s : State) : Host.Outcome State Fault Refusal :=
  eventAwake t (fun s => s.when (s.runMeasures 0) (·.retrained results)) s

/-! ### EVT_READY (R265, R269, R271, R405, R469, R502) -/

/-- The end of a boot: normal service with every valid bit clear where it is a start-up; VOUT_MODE is read, and a single
device asks for the interlock. -/
def State.bootReady (s : State) : State :=
  let s := if s.power.startup then
      ({ s with dram := [] }.modMem (fun m => { m with
        valid := [], undef := [], ue := [], ce := [], met := [], rewrites := [], filling := [], held := [],
        writes := [], scrubNext := 0, lapStart := s.now, lapCorrected := 0 })).setB Reg.MEMCTL_MODE_INIT false
    else s
  let s := (s.modPower (fun x => { x with startup := false })).setB Reg.CMD_STATUS_READY true
  let s := s.raise evReady 0 (leBytes 2 (low 16 Config.fwMajor) ++ leBytes 2 s.fwMinor ++ leBytes 2 s.patchId)
  let s := s.pmPut [.voutMode]
  if s.flag Reg.PAIR_CTRL_ENABLE then s else s.modPair (fun x => { x with ilkWanted := !s.flag Reg.PAIR_STATUS_ILK_OUT })

/-- EVT_READY. -/
def execEvtReady (t : Nat) (s : State) : Host.Outcome State Fault Refusal :=
  eventAwake t (fun s => s.when (!s.flag Reg.CMD_STATUS_READY && (s.flag Reg.MEMCTL_MODE_TRAINED || !s.power.startup))
    State.bootReady) s

end Sys2Proof.Machine
end

