-- ==== Sys2Proof/Machine/Packet.lean ====
section
/-! DEFINITION. The parameter layouts of the opcodes (02_command_packets.md, the opcode tables), both ways: the bytes
of a command's parameters, and the command that parameter bytes spell. A length other than the one the parameters
define, or a reserved byte that is not 0, spells none (R36 check 5, R506). -/

namespace Sys2Proof.Machine

/-- Reserved parameter bytes. -/
def zeros (n : Nat) : List Byte := List.replicate n 0

/-- One byte per element. -/
def bytesOf (l : List Nat) : List Byte := l.map (BitVec.ofNat 8)

/-- Little-endian words of unsigned elements. -/
def u32sOf : List Nat → List Byte
  | [] => []
  | x :: l => leBytes 4 x ++ u32sOf l

/-- Little-endian words of signed elements. -/
def i32sOf : List Int → List Byte
  | [] => []
  | x :: l => leInt 4 x ++ i32sOf l

/-- A command where its parameters have the layout its opcode gives. -/
def guardC (ok : Bool) (c : HostCmd) : Option HostCmd := if ok then some c else none

/-- The parameter bytes of a command. -/
def encodeParams : HostCmd → List Byte
  | .nop => []
  | .getInfo => []
  | .regRead addr count => leBytes 8 addr ++ leBytes 2 count
  | .regWrite addr words => leBytes 8 addr ++ leBytes 2 (words.length) ++ zeros 2 ++ u32sOf words
  | .regModify addr mask value => leBytes 8 addr ++ leBytes 4 mask ++ leBytes 4 value
  | .reset kind force => leBytes 1 kind ++ leBytes 1 force
  | .getStatus clear => leBytes 1 clear
  | .memFill addr len pattern => leBytes 8 addr ++ leBytes 8 len ++ leBytes 4 pattern
  | .memMode mode => leBytes 1 mode
  | .dmaStart channel toShadow desc => leBytes 1 channel ++ leBytes 1 toShadow ++ zeros 6 ++ desc
  | .dmaAbort channel => leBytes 1 channel
  | .packStart slot level src dst srcLen dstLen => leBytes 1 slot ++ leBytes 1 level ++ zeros 6 ++ leBytes 8 src ++ leBytes 8 dst ++ leBytes 4 srcLen ++ leBytes 4 dstLen
  | .unpackStart slot level src dst srcLen dstLen => leBytes 1 slot ++ leBytes 1 level ++ zeros 6 ++ leBytes 8 src ++ leBytes 8 dst ++ leBytes 4 srcLen ++ leBytes 4 dstLen
  | .packResume slot dst dstLen => leBytes 1 slot ++ zeros 7 ++ leBytes 8 dst ++ leBytes 4 dstLen
  | .packSlot slot release => leBytes 1 slot ++ leBytes 1 release
  | .jobDefine jobId planeMask endMode endValue bindings => leBytes 1 jobId ++ leBytes 1 planeMask ++ leBytes 1 endMode ++ zeros 5 ++ leBytes 8 endValue ++ bindings
  | .jobStart jobId arm source position => leBytes 1 jobId ++ leBytes 1 arm ++ leBytes 1 source ++ zeros 5 ++ leInt 8 position
  | .jobStop when dropQueued => leBytes 1 when ++ leBytes 1 dropQueued
  | .jobStatus => []
  | .streamCommit plane writeOffset => leBytes 1 plane ++ zeros 7 ++ leBytes 8 writeOffset
  | .layerSet plane layer enable alpha premult flipAt addr width height stride => leBytes 1 plane ++ leBytes 1 layer ++ leBytes 1 enable ++ leBytes 1 alpha ++ leBytes 1 premult ++ leBytes 1 flipAt ++ zeros 2 ++ leBytes 8 addr ++ leBytes 4 width ++ leBytes 4 height ++ leBytes 4 stride
  | .kiteMove plane flipAt kiteX kiteY => leBytes 1 plane ++ leBytes 1 flipAt ++ zeros 2 ++ leBytes 4 kiteX ++ leBytes 4 kiteY
  | .pload plane rects src len => leBytes 1 plane ++ leBytes 1 rects ++ zeros 6 ++ leBytes 8 src ++ leBytes 4 len
  | .plock plane => leBytes 1 plane
  | .punlock plane token => leBytes 1 plane ++ zeros 7 ++ leBytes 8 token
  | .tableLoad plane table flipAt src len => leBytes 1 plane ++ leBytes 1 table ++ leBytes 1 flipAt ++ zeros 5 ++ leBytes 8 src ++ leBytes 4 len
  | .headProfile plane record => leBytes 1 plane ++ zeros 3 ++ record
  | .headMap plane ports => leBytes 1 plane ++ leBytes 1 (ports.length) ++ zeros 2 ++ bytesOf ports
  | .portEnable portMask enable => leBytes 8 portMask ++ leBytes 1 enable
  | .portClear portMask => leBytes 8 portMask
  | .headRead port => leBytes 1 port
  | .preheatTarget plane target => leBytes 1 plane ++ zeros 1 ++ leInt 2 target
  | .encConfig enc filter bandwidth standstillMs relayEnable => leBytes 1 enc ++ leBytes 1 filter ++ leBytes 2 bandwidth ++ leBytes 2 standstillMs ++ leBytes 1 relayEnable
  | .encReference enc count => leBytes 1 enc ++ zeros 7 ++ leInt 8 count
  | .encRead enc => leBytes 1 enc
  | .lineConfig plane enc pitch delay cpl wobble lookahead => leBytes 1 plane ++ leBytes 1 enc ++ leBytes 1 pitch ++ zeros 1 ++ leBytes 4 delay ++ leBytes 8 cpl ++ leBytes 2 wobble ++ leBytes 1 lookahead
  | .headOffset plane first offsets => leBytes 1 plane ++ leBytes 1 first ++ leBytes 1 (offsets.length) ++ zeros 1 ++ i32sOf offsets
  | .compareSet unit source direction position => leBytes 1 unit ++ leBytes 1 source ++ leBytes 1 direction ++ zeros 5 ++ leInt 8 position
  | .wspdConfig enable margin highWm => leBytes 1 enable ++ zeros 1 ++ leBytes 2 margin ++ leBytes 4 highWm
  | .camConfig port record => leBytes 1 port ++ zeros 3 ++ record
  | .camInline port => leBytes 1 port
  | .roiSet first records => leBytes 1 first ++ zeros 1 ++ leBytes 2 (records.length / 16) ++ records
  | .statsRead first count => leBytes 1 first ++ zeros 1 ++ leBytes 2 count
  | .loopCtrl loop mode stepLimit => leBytes 1 loop ++ leBytes 1 mode ++ zeros 2 ++ leBytes 4 stepLimit
  | .alignRead plane => leBytes 1 plane
  | .alignRestore plane record => leBytes 1 plane ++ zeros 3 ++ record
  | .axisConfig axis record => leBytes 1 axis ++ zeros 3 ++ record
  | .axisMove axis target vmax accel decel => leBytes 1 axis ++ zeros 7 ++ leInt 8 target ++ leBytes 4 vmax ++ leBytes 4 accel ++ leBytes 4 decel
  | .axisTable axis first last segments => leBytes 1 axis ++ leBytes 1 first ++ leBytes 2 (segments.length / 16) ++ leBytes 1 last ++ zeros 3 ++ segments
  | .axisStop axis mode => leBytes 1 axis ++ leBytes 1 mode
  | .axisRead axis => leBytes 1 axis
  | .axisSetPos axis position => leBytes 1 axis ++ zeros 7 ++ leInt 8 position
  | .switchConfig sw edge stuckMs => leBytes 1 sw ++ leBytes 1 edge ++ leBytes 2 stuckMs
  | .timeRead tb => leBytes 1 tb
  | .timeSet tb seconds ns => leBytes 1 tb ++ zeros 7 ++ leBytes 8 seconds ++ leBytes 4 ns
  | .timeAdjust tb rate offset => leBytes 1 tb ++ zeros 3 ++ leInt 4 rate ++ leInt 8 offset
  | .triggerSet trigger tb startS startNs periodNs => leBytes 1 trigger ++ leBytes 1 tb ++ zeros 6 ++ leBytes 8 startS ++ leBytes 4 startNs ++ leBytes 4 periodNs
  | .thermRead => []
  | .hkRead first count => leBytes 1 first ++ leBytes 1 count
  | .calRun targets => leBytes 1 targets
  | .calDt dt => leBytes 2 dt
  | .linkConfig port lanes rate pre main post => leBytes 1 port ++ leBytes 1 lanes ++ leBytes 1 rate ++ zeros 1 ++ leBytes 1 pre ++ leBytes 1 main ++ leBytes 1 post
  | .linkRestart port => leBytes 1 port
  | .linkStatus port => leBytes 1 port
  | .hierRead => []
  | .pairConfig enable strings => leBytes 1 enable ++ leBytes 1 strings
  | .pairStatus => []
  | .pairHandover => []
  | .pairRejoin => []
  | .otpRead => []
  | .otpBurn record => record
  | .keyBurn slot hash => leBytes 1 slot ++ zeros 3 ++ hash
  | .patchLoad offset data => leBytes 4 offset ++ leBytes 2 (data.length) ++ zeros 2 ++ data
  | .patchActivate size signature => leBytes 4 size ++ signature
  | .ladderSet state wakePort => leBytes 1 state ++ leBytes 1 wakePort
  | .ladderStatus => []
  | .vcoreFloor floor => leBytes 2 floor
  | .logRead first count => leBytes 2 first ++ leBytes 2 count
  | .logClear counters => leBytes 1 counters
  | .echo data => data
  | .countersRead block => leBytes 1 block

/-- Whether an opcode is in the opcode tables (R36 check 3). -/
def opcodeDefined (op : Nat) : Bool :=
  op ∈ [0x0000, 0x0001, 0x0002, 0x0003, 0x0004, 0x0005, 0x0006, 0x0100, 0x0101, 0x0102, 0x0103, 0x0200, 0x0201, 0x0202, 0x0203, 0x0300, 0x0301, 0x0302, 0x0303, 0x0304, 0x0400, 0x0401, 0x0402, 0x0403, 0x0404, 0x0405, 0x0500, 0x0501, 0x0502, 0x0503, 0x0504, 0x0505, 0x0600, 0x0601, 0x0602, 0x0603, 0x0604, 0x0605, 0x0606, 0x0700, 0x0701, 0x0702, 0x0703, 0x0704, 0x0705, 0x0706, 0x0800, 0x0801, 0x0802, 0x0803, 0x0804, 0x0805, 0x0806, 0x0900, 0x0901, 0x0902, 0x0903, 0x0A00, 0x0A01, 0x0A02, 0x0A03, 0x0B00, 0x0B01, 0x0B02, 0x0B03, 0x0C00, 0x0C01, 0x0C02, 0x0C03, 0x0D00, 0x0D01, 0x0D02, 0x0D03, 0x0D04, 0x0E00, 0x0E01, 0x0E02, 0x0F00, 0x0F01, 0x0F02, 0x0F03]

/-- The command that an opcode and parameter bytes spell (R36 check 5). (Mark: DEDUCED, log 131) -/
def decodeParams (op : Nat) (b : List Byte) : Option HostCmd :=
  match op with
  | 0x0000 => guardC (decide (b.length = 0)) (.nop)
  | 0x0001 => guardC (decide (b.length = 0)) (.getInfo)
  | 0x0002 => guardC (decide (b.length = 10)) (.regRead (u64 b 0) (u16 b 8))
  | 0x0003 => guardC (decide (b.length = 12 + 4 * u16 b 8) && zerosAt b 10 2) (.regWrite (u64 b 0) (wordsOf (b.drop 12)))
  | 0x0004 => guardC (decide (b.length = 16)) (.regModify (u64 b 0) (u32 b 8) (u32 b 12))
  | 0x0005 => guardC (decide (b.length = 2)) (.reset (u8 b 0) (u8 b 1))
  | 0x0006 => guardC (decide (b.length = 1)) (.getStatus (u8 b 0))
  | 0x0100 => guardC (decide (b.length = 20)) (.memFill (u64 b 0) (u64 b 8) (u32 b 16))
  | 0x0101 => guardC (decide (b.length = 1)) (.memMode (u8 b 0))
  | 0x0102 => guardC (decide (b.length = 40) && zerosAt b 2 6) (.dmaStart (u8 b 0) (u8 b 1) ((b.drop 8).take 32))
  | 0x0103 => guardC (decide (b.length = 1)) (.dmaAbort (u8 b 0))
  | 0x0200 => guardC (decide (b.length = 32) && zerosAt b 2 6) (.packStart (u8 b 0) (u8 b 1) (u64 b 8) (u64 b 16) (u32 b 24) (u32 b 28))
  | 0x0201 => guardC (decide (b.length = 32) && zerosAt b 2 6) (.unpackStart (u8 b 0) (u8 b 1) (u64 b 8) (u64 b 16) (u32 b 24) (u32 b 28))
  | 0x0202 => guardC (decide (b.length = 20) && zerosAt b 1 7) (.packResume (u8 b 0) (u64 b 8) (u32 b 16))
  | 0x0203 => guardC (decide (b.length = 2)) (.packSlot (u8 b 0) (u8 b 1))
  | 0x0300 => guardC (decide (b.length = 272) && zerosAt b 3 5) (.jobDefine (u8 b 0) (u8 b 1) (u8 b 2) (u64 b 8) ((b.drop 16).take 256))
  | 0x0301 => guardC (decide (b.length = 16) && zerosAt b 3 5) (.jobStart (u8 b 0) (u8 b 1) (u8 b 2) (iAt b 8 8))
  | 0x0302 => guardC (decide (b.length = 2)) (.jobStop (u8 b 0) (u8 b 1))
  | 0x0303 => guardC (decide (b.length = 0)) (.jobStatus)
  | 0x0304 => guardC (decide (b.length = 16) && zerosAt b 1 7) (.streamCommit (u8 b 0) (u64 b 8))
  | 0x0400 => guardC (decide (b.length = 28) && zerosAt b 6 2) (.layerSet (u8 b 0) (u8 b 1) (u8 b 2) (u8 b 3) (u8 b 4) (u8 b 5) (u64 b 8) (u32 b 16) (u32 b 20) (u32 b 24))
  | 0x0401 => guardC (decide (b.length = 12) && zerosAt b 2 2) (.kiteMove (u8 b 0) (u8 b 1) (u32 b 4) (u32 b 8))
  | 0x0402 => guardC (decide (b.length = 20) && zerosAt b 2 6) (.pload (u8 b 0) (u8 b 1) (u64 b 8) (u32 b 16))
  | 0x0403 => guardC (decide (b.length = 1)) (.plock (u8 b 0))
  | 0x0404 => guardC (decide (b.length = 16) && zerosAt b 1 7) (.punlock (u8 b 0) (u64 b 8))
  | 0x0405 => guardC (decide (b.length = 20) && zerosAt b 3 5) (.tableLoad (u8 b 0) (u8 b 1) (u8 b 2) (u64 b 8) (u32 b 16))
  | 0x0500 => guardC (decide (b.length = 68) && zerosAt b 1 3) (.headProfile (u8 b 0) ((b.drop 4).take 64))
  | 0x0501 => guardC (decide (b.length = 4 + 1 * u8 b 1) && zerosAt b 2 2) (.headMap (u8 b 0) ((b.drop 4).map BitVec.toNat))
  | 0x0502 => guardC (decide (b.length = 9)) (.portEnable (u64 b 0) (u8 b 8))
  | 0x0503 => guardC (decide (b.length = 8)) (.portClear (u64 b 0))
  | 0x0504 => guardC (decide (b.length = 1)) (.headRead (u8 b 0))
  | 0x0505 => guardC (decide (b.length = 4) && zerosAt b 1 1) (.preheatTarget (u8 b 0) (iAt b 2 2))
  | 0x0600 => guardC (decide (b.length = 7)) (.encConfig (u8 b 0) (u8 b 1) (u16 b 2) (u16 b 4) (u8 b 6))
  | 0x0601 => guardC (decide (b.length = 16) && zerosAt b 1 7) (.encReference (u8 b 0) (iAt b 8 8))
  | 0x0602 => guardC (decide (b.length = 1)) (.encRead (u8 b 0))
  | 0x0603 => guardC (decide (b.length = 19) && zerosAt b 3 1) (.lineConfig (u8 b 0) (u8 b 1) (u8 b 2) (u32 b 4) (u64 b 8) (u16 b 16) (u8 b 18))
  | 0x0604 => guardC (decide (b.length = 4 + 4 * u8 b 2) && zerosAt b 3 1) (.headOffset (u8 b 0) (u8 b 1) ((wordsOf (b.drop 4)).map (sgn 32)))
  | 0x0605 => guardC (decide (b.length = 16) && zerosAt b 3 5) (.compareSet (u8 b 0) (u8 b 1) (u8 b 2) (iAt b 8 8))
  | 0x0606 => guardC (decide (b.length = 8) && zerosAt b 1 1) (.wspdConfig (u8 b 0) (u16 b 2) (u32 b 4))
  | 0x0700 => guardC (decide (b.length = 100) && zerosAt b 1 3) (.camConfig (u8 b 0) ((b.drop 4).take 96))
  | 0x0701 => guardC (decide (b.length = 1)) (.camInline (u8 b 0))
  | 0x0702 => guardC (decide (b.length = 4 + 16 * u16 b 2) && zerosAt b 1 1) (.roiSet (u8 b 0) (b.drop 4))
  | 0x0703 => guardC (decide (b.length = 4) && zerosAt b 1 1) (.statsRead (u8 b 0) (u16 b 2))
  | 0x0704 => guardC (decide (b.length = 8) && zerosAt b 2 2) (.loopCtrl (u8 b 0) (u8 b 1) (u32 b 4))
  | 0x0705 => guardC (decide (b.length = 1)) (.alignRead (u8 b 0))
  | 0x0706 => guardC (decide (4 ≤ b.length) && zerosAt b 1 3) (.alignRestore (u8 b 0) (b.drop 4))
  | 0x0800 => guardC (decide (b.length = 68) && zerosAt b 1 3) (.axisConfig (u8 b 0) ((b.drop 4).take 64))
  | 0x0801 => guardC (decide (b.length = 28) && zerosAt b 1 7) (.axisMove (u8 b 0) (iAt b 8 8) (u32 b 16) (u32 b 20) (u32 b 24))
  | 0x0802 => guardC (decide (b.length = 8 + 16 * u16 b 2) && zerosAt b 5 3) (.axisTable (u8 b 0) (u8 b 1) (u8 b 4) (b.drop 8))
  | 0x0803 => guardC (decide (b.length = 2)) (.axisStop (u8 b 0) (u8 b 1))
  | 0x0804 => guardC (decide (b.length = 1)) (.axisRead (u8 b 0))
  | 0x0805 => guardC (decide (b.length = 16) && zerosAt b 1 7) (.axisSetPos (u8 b 0) (iAt b 8 8))
  | 0x0806 => guardC (decide (b.length = 4)) (.switchConfig (u8 b 0) (u8 b 1) (u16 b 2))
  | 0x0900 => guardC (decide (b.length = 1)) (.timeRead (u8 b 0))
  | 0x0901 => guardC (decide (b.length = 20) && zerosAt b 1 7) (.timeSet (u8 b 0) (u64 b 8) (u32 b 16))
  | 0x0902 => guardC (decide (b.length = 16) && zerosAt b 1 3) (.timeAdjust (u8 b 0) (iAt b 4 4) (iAt b 8 8))
  | 0x0903 => guardC (decide (b.length = 24) && zerosAt b 2 6) (.triggerSet (u8 b 0) (u8 b 1) (u64 b 8) (u32 b 16) (u32 b 20))
  | 0x0A00 => guardC (decide (b.length = 0)) (.thermRead)
  | 0x0A01 => guardC (decide (b.length = 2)) (.hkRead (u8 b 0) (u8 b 1))
  | 0x0A02 => guardC (decide (b.length = 1)) (.calRun (u8 b 0))
  | 0x0A03 => guardC (decide (b.length = 2)) (.calDt (u16 b 0))
  | 0x0B00 => guardC (decide (b.length = 7) && zerosAt b 3 1) (.linkConfig (u8 b 0) (u8 b 1) (u8 b 2) (u8 b 4) (u8 b 5) (u8 b 6))
  | 0x0B01 => guardC (decide (b.length = 1)) (.linkRestart (u8 b 0))
  | 0x0B02 => guardC (decide (b.length = 1)) (.linkStatus (u8 b 0))
  | 0x0B03 => guardC (decide (b.length = 0)) (.hierRead)
  | 0x0C00 => guardC (decide (b.length = 2)) (.pairConfig (u8 b 0) (u8 b 1))
  | 0x0C01 => guardC (decide (b.length = 0)) (.pairStatus)
  | 0x0C02 => guardC (decide (b.length = 0)) (.pairHandover)
  | 0x0C03 => guardC (decide (b.length = 0)) (.pairRejoin)
  | 0x0D00 => guardC (decide (b.length = 0)) (.otpRead)
  | 0x0D01 => guardC (decide (b.length = 64)) (.otpBurn ((b.drop 0).take 64))
  | 0x0D02 => guardC (decide (b.length = 36) && zerosAt b 1 3) (.keyBurn (u8 b 0) ((b.drop 4).take 32))
  | 0x0D03 => guardC (decide (b.length = 8 + 1 * u16 b 4) && zerosAt b 6 2) (.patchLoad (u32 b 0) (b.drop 8))
  | 0x0D04 => guardC (decide (b.length = 68)) (.patchActivate (u32 b 0) ((b.drop 4).take 64))
  | 0x0E00 => guardC (decide (b.length = 2)) (.ladderSet (u8 b 0) (u8 b 1))
  | 0x0E01 => guardC (decide (b.length = 0)) (.ladderStatus)
  | 0x0E02 => guardC (decide (b.length = 2)) (.vcoreFloor (u16 b 0))
  | 0x0F00 => guardC (decide (b.length = 4)) (.logRead (u16 b 0) (u16 b 2))
  | 0x0F01 => guardC (decide (b.length = 1)) (.logClear (u8 b 0))
  | 0x0F02 => guardC (true) (.echo (b.drop 0))
  | 0x0F03 => guardC (decide (b.length = 1)) (.countersRead (u8 b 0))
  | _ => none

end Sys2Proof.Machine
end

