-- ==== Sys2Proof/Machine/ThermEvents.lean ====
section
/-! DEFINITION. The end of a housekeeping round with its eight steps, CAL_RUN, and the measurements and steps of the tap
units (21_thermal_calibration.md). -/

namespace Sys2Proof.Machine

/-- Change the part of the state that belongs to the round and the tap units. -/
def State.modTherm (s : State) (f : ThermSt → ThermSt) : State := { s with therm := f s.therm }

/-! ### The round (R438 to R447) -/

/-- LEVEL has risen to 3: the running job stops, and an active member hands over (R444). -/
def State.critStops (s : State) (was : Nat) : State :=
  if s.critical ∧ was < 3 then s.faultStop.pairFault 3 else s

/-- The reference self-check failed: the round's temperatures are discarded; at the third round in a row the device acts
as at T_crit (R441). (Mark: DEDUCED, log 15) -/
def State.refFault (s : State) : State :=
  let s := (s.setB Reg.THERM_STATUS_REF_FAULT true).modTherm (fun x => { x with refFaults := x.refFaults + 1 })
  if s.therm.refFaults < 3 then s
  else
    let was := s.get Reg.THERM_STATUS_LEVEL
    let s := s.set Reg.THERM_STATUS_LEVEL 3
    let s := if s.therm.refFaults = 3 then s.raise evThermCrit 0 [0xFF, 0, 0x00, 0x80] else s
    s.critStops was

/-- A good round: the cross-check, Tj and LEVEL (R439, R440, R442). (Mark: DEDUCED, log 15) -/
def State.goodRound (s : State) (raw : List Int) : State :=
  let s := (s.modTherm (fun x => { x with refFaults := 0 })).crossCheck raw
  let was := s.get Reg.THERM_STATUS_LEVEL
  s.publishTj.updateLevel.critStops was

/-- The DRAM channels whose stack has moved are measured (R267). -/
def State.dramTracking (s : State) (dram : List (Option TrainMeas)) : State :=
  (List.range 8).foldl (fun s c => match dram.getD c none with
    | some m => if s.trackDue c then s.track c m else s
    | none => s) s

/-- The units whose sensor has moved start a tracking measurement (R450). -/
def State.startTracking (s : State) : State :=
  let due := [1, 2, 3].flatMap (fun k => (s.tapsDue k).map (fun u => (k, u)))
  s.modTherm (fun x => { x with tracking := x.tracking ++ due.filter (· ∉ x.tracking) })

/-- VCORE at the balls, in two rounds in a row (R472). -/
def State.vcoreCheck (s : State) (mv : Nat) : State :=
  let n := if mv < 720 then min 2 (s.power.lowRounds + 1) else 0
  let s := s.modPower (fun x => { x with lowRounds := n })
  if n = 2 then s.setB Reg.LADDER_STATE_VCORE_LOW true else s

/-- The end of a round: its results, the eight steps in their order, the banks, VCORE and the regulator's readings. -/
def State.roundEnd (s : State) (raw : List Int) (hk : List Nat) (dram : List (Option TrainMeas)) : State :=
  let s := (s.modTherm (fun x => { x with round := false })).inc Reg.THERM_ROUNDS_COUNT
  let s := if refsOk hk then s.goodRound raw else s.refFault
  let s := (s.publishHk hk).updateThrottle
  let s := s.set Reg.LINEGEN_WSPD_THERMAL s.thermalTerm
  let s := (s.setS Reg.THERM_IRO_CORR_PPB s.iroCorrection).correctRefs
  let s := (s.dramTracking dram).startTracking
  ((s.vheadCheck hk).vcoreCheck (hk.getD 28 0)).pmPut [.readVout, .readIout]

/-- HK_ROUND_END: raw sensor values, the 64 channels, and the tracking measurements of channels due. -/
def execHkRoundEnd (raw : List Int) (hk : List Nat) (dram : List (Option TrainMeas)) (t : Nat) (s : State) :
    Host.Outcome State Fault Refusal :=
  eventAwake t (fun s => s.when s.therm.round (·.roundEnd raw hk dram)) s

/-! ### Calibration (R448 to R451) -/

/-- CAL_RUN (R266, R449); a run that names no target has nothing to measure, and
its event follows the reply. (Mark: DEDUCED, log 121) -/
def cmdCalRun (targets tag : Nat) (on : Iface) (s : State) : Res :=
  if 16 ≤ targets then Res.err stBadParam s
  else if bit targets 0 && s.job.running.isSome then Res.err stBadState s
  else if (List.range 4).any (fun k => bit targets k && s.runMeasures k) then Res.err stBusy s
  else if targets = 0 then Res.err stAccepted s
  else Res.err stAccepted (s.modTherm (fun x => { x with runs := x.runs ++ [(⟨tag, on, targets, false⟩ : CalRun)] }))

/-- A unit is in service (R448). -/
def State.tapInService (s : State) (target u : Nat) : Bool :=
  if target = 1 then (List.range 4).any (fun p => u ∈ s.lanesOf p && (s.port p).isUp)
  else if target = 2 then s.flag (Reg.HEADPORT_HP_CTRL_ENABLE u)
  else s.camReceiving (u / 4)

/-- The DESKEW fields follow a head port's taps. -/
def State.showDeskew (s : State) (target u : Nat) : State :=
  if target = 2 then
    match (s.therm.heads.getD u .init).taps with
    | [a, b, c] => ((s.setS (Reg.HEADPORT_HP_DESKEW_CK u) a).setS (Reg.HEADPORT_HP_DESKEW_D0 u) b).setS
        (Reg.HEADPORT_HP_DESKEW_D1 u) c
    | _ => s
  else s

/-- One unit's result, or the want of one: accepted or rejected (R449, R451). (Mark: DEDUCED, log 121) -/
def State.judgeTap (s : State) (target : Nat) (tracking : Bool) (results : List TapMeas) (u : Nat) : State × Bool :=
  match results.find? (fun m => m.unit == u) with
  | some m =>
    if tapOk tracking ((s.tapUnits target).getD u .init) m && s.portSpreadOk target m then
      ((s.acceptTap target (s.tapInService target u) m).showDeskew target u, false)
    else (s.rejectTap target u, true)
  | none => (s.rejectTap target u, true)

/-- Judge units in order; whether one was rejected. -/
def State.judgeTaps (s : State) (target : Nat) (tracking : Bool) (results : List TapMeas) : List Nat → State × Bool
  | [] => (s, false)
  | u :: us =>
    let a := s.judgeTap target tracking results u
    let b := a.1.judgeTaps target tracking results us
    (b.1, a.2 || b.2)

/-- The end of a target's measurement: of a CAL_RUN, which measures every unit, else of a tracking run (R449, R450).
(Mark: DEDUCED, log 121) -/
def State.measured (s : State) (target : Nat) (results : List TapMeas) : State :=
  let mine := (s.therm.tracking.filter (fun x => x.1 == target)).map (·.2)
  let clear (s : State) : State := s.modTherm (fun x => { x with tracking := x.tracking.filter (fun x => x.1 != target) })
  if s.runMeasures target then
    let r := s.judgeTaps target false results (List.range (s.tapUnits target).length)
    ((clear (if r.2 then r.1 else r.1.inc (Reg.CAL_T_RUNS_COUNT target))).runsMeasured target r.2).when (!mine.isEmpty)
      (·.raise evCalDone 0 (leBytes 1 (2 ^ target)))
  else if mine.isEmpty then s
  else
    let r := s.judgeTaps target true results mine
    (clear (if r.2 then r.1 else r.1.inc (Reg.CAL_T_RUNS_COUNT target))).raise evCalDone 0 (leBytes 1 (2 ^ target))

/-- CAL_MEASURE_DONE: target 1 lanes, 2 head ports, 3 D-PHY, with the results of the units that gave one. -/
def execCalMeasureDone (target : Fin 3) (results : List TapMeas) (t : Nat) (s : State) : Host.Outcome State Fault Refusal :=
  eventAwake t (·.measured (target.val + 1) results) s

/-- A head port stands between two shifts. -/
def State.betweenShifts (s : State) (q : Nat) : Bool :=
  match (s.head q).shift with
  | some (_, _, _, start) => decide (start + pTShift (s.portProfile q) ≤ s.now)
  | none => true

/-- One step of an in-service unit's taps toward their targets, at most once in 1 ms, and of a head port's only between
two shifts (R448). -/
def State.tapStep (s : State) (target u : Nat) : State :=
  let x := (s.tapUnits target).getD u .init
  let due : Bool := match x.stepAt with | some a => decide (a + msSteps ≤ s.now) | none => true
  if due = true ∧ x.taps ≠ x.accepted ∧ (target ≠ 2 ∨ s.betweenShifts u = true) then
    let taps := if x.taps.length = x.accepted.length then stepTaps x.taps x.accepted else x.accepted
    ((s.modTap target u (fun x => { x with taps := taps, stepAt := some s.now })).inc (Reg.CAL_T_STEPS_COUNT target)).showDeskew
      target u
  else s

/-- TAP_STEP. -/
def execTapStep (target : Fin 3) (u t : Nat) (s : State) : Host.Outcome State Fault Refusal :=
  eventAwake t (·.tapStep (target.val + 1) u) s

end Sys2Proof.Machine
end

