-- ==== Sys2Proof/Machine/LinkEvents.lean ====
section
/-! DEFINITION. The link layer's transmitter, memory transactions, upstream forwarding and beacons
(17_link_transactions.md, 18_hierarchy.md), and the events of the time triggers (20_time_bases.md). -/

namespace Sys2Proof.Machine

/-! ### Transmitting flits (R366 to R374, R383) -/

/-- Form the next flit of a port with its ACK, credits and CRC, and send it (R367, R368, R373).
(Mark: DEDUCED, log 20) -/
def State.emit (s : State) (p kind seq : Nat) (payload : List Byte) : State :=
  let q := s.port p
  let pay := payload ++ List.replicate (56 - payload.length) 0
  let hdr := if kind = 3 then flitHdr 0 0 3 3 0
    else flitHdr seq (q.rxNext + 1023) kind q.turn ((q.cred q.turn).rxFreed)
  (s.modPort p (fun q => { q with
    txFlit := mkFlit hdr pay, turn := if kind = 3 then q.turn else (q.turn + 1) % 3 })).sendBytes p (mkFlit hdr pay)

/-- Send one INIT; the port becomes active once it has received one and sent one after it (R369). -/
def State.sendInit (s : State) (p : Nat) : State :=
  let s := (s.emit p 3 0 (s.initPayload p)).modPort p (fun q => { q with initOwed := false })
  if !s.active p ∧ (s.port p).initRx then s.activate p else s

/-- Send a NAK (R371). -/
def State.sendNak (s : State) (p : Nat) : State :=
  ((s.emit p 2 0 []).modPort p (fun q => { q with nakOwed := false })).incSat (Reg.ZLINK_PORT_NAKS_SENT_COUNT p) 1

/-- Send a DATA flit. -/
def State.sendData (s : State) (p seq : Nat) (h : Held) : State :=
  (s.emit p 1 seq h.payload).inc (Reg.ZLINK_PORT_TX_FLITS_COUNT p)

/-- Send the next flit of a replay (R372). -/
def State.sendReplay (s : State) (p i : Nat) (h : Held) : State :=
  let s := s.sendData p ((s.port p).acked + i) h
  s.modPort p (fun q => { q with
    replayAt := if i + 1 < q.replay.length then some (i + 1) else none,
    replayAck := if i + 1 < q.replay.length then q.replayAck else none })

/-- Send the next flit of the transaction in progress, and hold it for replay (R370, R374). -/
def State.sendNext (s : State) (p : Nat) (h : Held) : State :=
  let s := s.sendData p (s.port p).sentSeq h
  let s := s.modPort p (fun q => { (q.modCred q.curClass (fun c => { c with sent := c.sent + 1 })) with
    sentSeq := q.sentSeq + 1, replay := q.replay ++ [h], cur := q.cur.drop 1,
    ackAt := if q.replay.isEmpty then s.now else q.ackAt })
  s.set (Reg.ZLINK_PORT_UNACKED_FLITS p) (s.port p).replay.length

/-- A beacon as it leaves: the sender's TB0 and, for a line beacon, its counter (R384). -/
def State.stampBeacon (s : State) (x : Trans) : Trans :=
  let b := spliceAt x.body 8 (leBytes 8 (low 48 (s.tbSec 0).1) ++ leBytes 4 (s.tbSec 0).2)
  { x with body := if u8 b 0 = 1 then spliceAt b 24 (leInt 8 (s.enc (u8 b 20)).count) else b }

/-- Start a transaction: its first flit leaves at once, and what R376 asks for is remembered; a checkpoint's FIRST latches
the encoder counters (R411). -/
def State.startTrans (s : State) (p src : Nat) (x : Trans) : State :=
  let y := if x.ttype = ttBcast then s.stampBeacon x else x
  let fl := transFlits y
  let s := s.modPort p (fun q =>
    let mark := (q.sentSeq + fl.length, x)
    { q with
      cur := fl, curClass := classOf x.ttype,
      unacked := if x.ttype = ttReply ∨ x.ttype = ttEvent then q.unacked ++ [mark] else q.unacked,
      fwdMem := if (x.ttype = ttMemRd ∨ x.ttype = ttMemWr) ∧ src ≠ 0 then q.fwdMem ++ [mark] else q.fwdMem })
  let s := if x.ttype = ttCkpt ∧ bit (u8 x.body 12) 0 then { s with pair := { s.pair with
    latchTx := (List.range 4).map (fun e => (s.enc e).count) } } else s
  match fl with
  | h :: _ => s.sendNext p h
  | [] => s

/-- The next piece of the copy for a rejoining standby: the first at or after `n` that lies in a valid region of general
DRAM (R423). (Mark: DESIGN CHOICE, log 112) -/
def State.copyPiece (s : State) (n : Nat) : Option Nat :=
  if n < 16 * protRegion ∧ s.validRegion (n / 16) then some n
  else ((s.mem.valid.map (·.1)).find? (fun r => decide (n / 16 < r ∧ r < protRegion) && s.validRegion r)).map (16 * ·)

/-- One piece of the copy, where the pair port has nothing else to send; at the end the copy is over (R423).
(Mark: DESIGN CHOICE, log 112) -/
def State.sendCopy (s : State) : State :=
  match s.pair.copyNext with
  | none => s.emit 3 0 0 []
  | some n =>
    match s.copyPiece n with
    | none => (s.modPair (fun x => { x with copyNext := none, copyOver := true })).emit 3 0 0 []
    | some n =>
      let a := 4096 * n
      let x := fun (d : List Byte) => (⟨ttMemWr, 0xFD, 0xFD, 0, 0, leBytes 8 a ++ d⟩ : Trans)
      if !(s.port 3).covers 0 (flitCount (x (List.replicate 4096 0))) then s.emit 3 0 0 []
      else
        let (s, d, bad) := s.fetch a 4096
        let s := (s.meetUes bad 11).modPair (fun y => { y with copyNext := some (n + 1) })
        let s := if n % 16 = 15 then s.inc Reg.PAIR_RESYNC_DONE_BYTES else s
        s.startTrans 3 0 (x d)

/-- The first BCAST that waits with its credits. -/
def State.beaconDue (s : State) (p : Nat) : Option (Nat × Trans) :=
  (s.port p).txq.find? (fun e => e.2.ttype == ttBcast && (s.port p).covers 0 (flitCount e.2))

/-- A transaction that R376 sends again starts, once its credits cover it; nothing else goes before it. -/
def State.sendAgain (s : State) (p : Nat) (x : Trans) : State :=
  if (s.port p).covers (classOf x.ttype) (flitCount x) then
    (s.modPort p (fun q => { q with again := q.again.drop 1 })).startTrans p 0 x
  else s.emit p 0 0 []

/-- A slot that starts no DATA flit of a transaction in progress, with nothing to send again (R383). -/
def State.freshSlot (s : State) (p : Nat) : State :=
  match (s.port p).strDue, s.beaconDue p with
  | some x, _ => (s.modPort p (fun q => { q with strDue := none })).startTrans p 0 x
  | none, some (src, x) => (s.takeOffer p src x).startTrans p src x
  | none, none =>
    match s.arbitrate p 5 with
    | some (src, left, x) =>
      ((s.takeOffer p src x).modPort p (fun q => { q with arbPtr := src, arbLeft := left })).startTrans p src x
    | none => if p = 3 ∧ s.mirrors then s.sendCopy else s.emit p 0 0 []

/-- A slot that starts no DATA flit of a transaction in progress (R376, R383). -/
def State.freeSlot (s : State) (p : Nat) : State :=
  match (s.port p).again with
  | x :: _ => s.sendAgain p x
  | [] => s.freshSlot p

/-- A flit slot of a port whose link layer runs. (Mark: DEDUCED, log 20) -/
def State.flitSlot (s : State) (p : Nat) : State :=
  let q := s.port p
  if !s.active p ∨ q.initOwed then s.sendInit p
  else if q.nakOwed then s.sendNak p
  else match q.replayAt.bind (fun i => (q.replay[i]?).map (fun h => (i, h))) with
    | some (i, h) => s.sendReplay p i h
    | none =>
      if 256 ≤ q.replay.length then s.emit p 0 0 []
      else match q.cur with
        | h :: _ => s.sendNext p h
        | [] => s.freeSlot p

/-- A slot of a port that sends blocks but no flits: payload up to the end of the block before the stream of R366 starts,
and 64 bytes of it after. (Mark: DESIGN CHOICE, log 163) -/
def State.fillSlot (s : State) (p : Nat) : State :=
  let q := s.port p
  let n := if q.seenTx then 64 else min 64 (q.blockLen - q.txBlock.length)
  ((s.sendBytes p (s.fillBytes n)).used).tryUp p

/-- FLIT_TRANSMIT (R366, R383). -/
def execFlitTransmit (p : Fin 4) (t : Nat) (s : State) : Host.Outcome State Fault Refusal :=
  event t (fun s =>
    if s.flits p then s.flitSlot p
    else s.when ((s.port p).sends) (·.fillSlot p)) s

/-! ### Memory transactions (R379 to R381) -/

/-- A range lies within one aligned 4,096-byte piece. -/
def onePage (a n : Nat) : Bool := n != 0 && a / 4096 == (a + n - 1) / 4096

/-- A memory transaction for this device, one to forward, or one that goes nowhere (R379, R396). -/
def State.routeMem (s : State) (p : Nat) (x : Trans) (here : State → State) : State :=
  match s.route p x with
  | .here => here s
  | .down q =>
    if s.active q ∧ !s.isPairPort q then s.sendTrans q 1 { x with flags := x.flags ||| 1 }
    else s.sendCpl p x stLinkDown []
  | .up => s.sendTrans 0 p x
  | _ => (s.discard p).sendCpl p x stBadParam []

/-- Count a refused MEMWR, and tell its source (R381). -/
def State.refuseWr (s : State) (p : Nat) (x : Trans) (st : Nat) : State :=
  (s.incSat (Reg.ZLINK_PORT_MEMWR_REFUSED_COUNT p) 1).sendCpl p x st []

/-- Addresses of the checkpoint SRAM (R68). (Mark: DEDUCED, log 123) -/
def inCkptSram (a n : Nat) : Bool := decide (tabBase + 0x800000 ≤ a ∧ a + n ≤ tabBase + 0x840000)

/-- The write requests after the first `old` come from a MEMWR of ZP0 that arrives now (R382). -/
def State.writesFrom (s : State) (old src : Nat) : State :=
  { s with mem := { s.mem with
    writes := s.mem.writes.take old ++ (s.mem.writes.drop old).map (fun w => { w with src := some (src, s.now) }) } }

/-- A MEMWR that this device consumes (R76, R77, R381). (Mark: DEDUCED, log 123) -/
def State.takeWr (s : State) (p : Nat) (x : Trans) : State :=
  let a := u64 x.body 0
  let d := x.body.drop 8
  let pair := s.isPairPort p
  if !onePage a d.length || (pair && !s.standby) then s.refuseWr p x stBadParam
  else if pair && inCkptSram a d.length && a % 4 == 0 && d.length % 4 == 0 then s.putTabs false a d
  else if !inDram a d.length then s.refuseWr p x stBadParam
  else if !pair && s.standby then (s.incSat Reg.MEMCTL_PROT_REFUSED_COUNT 1).refuseWr p x stNotOwner
  else if touchesProt a d.length then (s.incSat Reg.MEMCTL_PROT_REFUSED_COUNT 1).refuseWr p x stProtected
  else
    let old := s.mem.writes.length
    let (s, bad) := s.writeMem (!pair) a d
    let s := if pair then s else s.writesFrom old x.src
    if bad.isEmpty then s else (s.meetUes bad (if pair then 11 else 8)).sendCpl p x stMemUncorrectable []

/-- MEMWR: received whole on a port. -/
def execMemwr (p : Fin 4) (x : Trans) (t : Nat) (s : State) : Host.Outcome State Fault Refusal :=
  event t (fun s => s.when (s.holds p x && x.ttype == ttMemWr) (fun s =>
    let s := s.consume p x
    let s := if s.isPairPort p then s.wakeDoze else s
    if !transOk x || !s.accepts p x then s.discard p else s.routeMem p x (·.takeWr p x))) s

/-- A MEMRD that this device consumes (R76, R381). (Mark: DEDUCED, log 123) -/
def State.takeRd (s : State) (p : Nat) (x : Trans) : State :=
  let a := u64 x.body 0
  let n := u32 x.body 8
  if s.isPairPort p || !onePage a n || !inDram a n then s.sendCpl p x stBadParam []
  else
    let (s, d, bad) := s.fetch a n
    if bad.isEmpty then s.sendCpl p x stOk d else (s.meetUes bad 8).sendCpl p x stMemUncorrectable []

/-- MEMRD: received whole on a port. -/
def execMemrd (p : Fin 4) (x : Trans) (t : Nat) (s : State) : Host.Outcome State Fault Refusal :=
  event t (fun s => s.when (s.holds p x && x.ttype == ttMemRd) (fun s =>
    let s := s.consume p x
    if !transOk x || !s.accepts p x then s.discard p else s.routeMem p x (·.takeRd p x))) s

/-- MEMCPL: consumed on the pair port, forwarded to the host from a downlink, discarded elsewhere (R379, R380). -/
def execMemcpl (p : Fin 4) (x : Trans) (t : Nat) (s : State) : Host.Outcome State Fault Refusal :=
  event t (fun s => s.when (s.holds p x && x.ttype == ttMemCpl) (fun s =>
    let s := s.consume p x
    if !transOk x || !s.accepts p x then s.discard p
    else match s.route p x with
      | .here => s
      | .up => s.sendTrans 0 p x
      | _ => s.discard p)) s

/-! ### Upstream traffic (R46, R54, R379, R395) -/

/-- Whether a reply packet answers a forwarded command. -/
def Fwd.answeredBy (f : Fwd) (p : Nat) (b : List Byte) : Bool :=
  f.port == p && f.opcode == u16 b 0 && f.h.tag == u16 b 2 && f.h.target == u8 b 4

/-- A reply on its way up: it ends the tracking of its command; one for a command already answered is discarded.
(Mark: DEDUCED, log 12) -/
def State.replyUp (s : State) (p : Nat) (x : Trans) : State :=
  if s.host.forwarded.any (·.answeredBy p x.body) then
    { s with host := { s.host with forwarded := dropFirst (·.answeredBy p x.body) s.host.forwarded } }.sendTrans 0 p x
  else if s.host.late.any (·.answeredBy p x.body) then
    { s with host := { s.host with late := dropFirst (·.answeredBy p x.body) s.host.late } }
  else s.sendTrans 0 p x

/-- An event on its way up: a joining worker is recorded (R395). -/
def State.eventUp (s : State) (p : Nat) (x : Trans) : State :=
  let s := if u16 x.body 0 = evWorkerJoined then
      s.recordNode (u8 x.body 16) (u8 x.body 17) p (s.depthBelow (u8 x.body 17))
    else s
  s.sendTrans 0 p x

/-- UPSTREAM_FORWARD. -/
def execUpstreamForward (p : Fin 4) (x : Trans) (t : Nat) (s : State) : Host.Outcome State Fault Refusal :=
  event t (fun s => s.when (s.holds p x && (x.ttype == ttReply || x.ttype == ttEvent)) (fun s =>
    let s := s.consume p x
    if !transOk x || !s.accepts p x || s.route p x != .up then s.discard p
    else if x.ttype = ttReply then s.replyUp p x else s.eventUp p x)) s

/-- HIER_READ: the device itself, then the subtree table in order (NODE registers). (Mark: DEDUCED, log 125) -/
def State.nodeList (s : State) : List Node :=
  ⟨s.myId, s.get Reg.HIER_PARENT_ID, 0xFF, s.ownDepth⟩ :: s.hier.nodes

/-- An entry of the table as a word. -/
def Node.word (n : Node) : Nat := low 8 n.id + 2 ^ 8 * low 8 n.parent + 2 ^ 16 * low 8 n.port + 2 ^ 24 * low 8 n.depth

/-- HIER_READ. (Mark: DEDUCED, log 125) -/
def cmdHierRead (s : State) : Res := Res.okData ((s.nodeList.take 63).flatMap (fun n => leBytes 4 n.word)) s

/-! ### Beacons (R384, R399, R400, R429, R431) -/

/-- The device is a worker. -/
def State.worker (s : State) : Bool := s.myId != 0

/-- A worker's use of a line beacon (R400). (Mark: DEDUCED, log 124) -/
def State.lineBeacon (s : State) (e : Nat) (count : Int) : State :=
  if !s.encValid e then s
  else
    let d := wrapS 32 ((s.enc e).count - count)
    let s := s.setS Reg.HIER_LINE_DIFF d
    if s.get Reg.HIER_LINE_TOL < d.natAbs then s.setB Reg.HIER_STATUS_LINE_MISMATCH true else s

/-- A beacon that this device consumes: it counts, and a worker uses it. -/
def State.useBeacon (s : State) (x : Trans) : State :=
  let b := x.body
  let s := s.inc Reg.HIER_BEACONS_RX_COUNT
  if !s.worker then s
  else if u8 b 0 = 0 then s.discipline (low 48 (u64 b 8) * secNs + u32 b 16)
  else s.lineBeacon (u8 b 20 % 4) (iAt b 24 8)

/-- A beacon for every device: consumed, and forwarded on every downlink that is up. -/
def State.beacon (s : State) (x : Trans) : State :=
  let s := s.useBeacon x
  s.bcastPorts.foldl (fun s q => s.sendTrans q 1 { x with flags := x.flags ||| 1 }) s

/-- BCAST (R379, R384). One for a downlink that is down is lost, as in R376. (Mark: DEDUCED, log 124) -/
def execBcast (p : Fin 4) (x : Trans) (t : Nat) (s : State) : Host.Outcome State Fault Refusal :=
  event t (fun s => s.when (s.holds p x && x.ttype == ttBcast) (fun s =>
    let s := s.consume p x
    if !transOk x || !s.accepts p x then s.discard p
    else match s.route p x with
      | .here => s.useBeacon x
      | .everyone => s.beacon x
      | .down q => s.when (s.active q && !s.isPairPort q) (·.sendTrans q 1 { x with flags := x.flags ||| 1 })
      | .up => s.sendTrans 0 p x
      | .nowhere => s.discard p)) s

/-- A beacon of the manager; it is stamped as it leaves. -/
def beaconTrans (kind seq enc : Nat) : Trans :=
  ⟨ttBcast, 63, 0, 0, 0, leBytes 1 kind ++ leBytes 1 0 ++ leBytes 2 seq ++ List.replicate 16 0 ++ leBytes 4 enc ++
    List.replicate 16 0⟩

/-- The manager originates a time beacon, and a line beacon after it where LINE_EN is set (R399). -/
def State.sendBeacons (s : State) : State :=
  let ps := s.bcastPorts
  let put (s : State) (x : Trans) : State := ps.foldl (fun s q => s.sendTrans q 0 x) s
  let s := put s (beaconTrans 0 s.hier.seqTime 0)
  let s := { s with hier := { s.hier with seqTime := (s.hier.seqTime + 1) % 65536 } }
  if s.flag Reg.HIER_BEACON_LINE_EN then
    let s := put s (beaconTrans 1 s.hier.seqLine (s.get Reg.HIER_BEACON_LINE_ENC))
    { s with hier := { s.hier with seqLine := (s.hier.seqLine + 1) % 65536 } }
  else s

/-- The manager's beacons are due: PERIOD_US of TB0 have passed since the last ones, values 1 to 99 treated as 100; a TB0
that has been set back counts afresh. (Mark: DEDUCED, log 124) -/
def State.beaconsDue (s : State) : Bool :=
  let p := s.get Reg.HIER_BEACON_PERIOD_US
  !s.worker && p != 0 && match s.hier.beaconAt with
    | some a => decide (a + 1000 * max 100 p ≤ s.tbNs 0 ∨ s.tbNs 0 < a)
    | none => true

/-- BEACON_SEND (R399). -/
def execBeaconSend (t : Nat) (s : State) : Host.Outcome State Fault Refusal :=
  eventAwake t (fun s => s.when s.beaconsDue (fun s =>
    { s.sendBeacons with hier := { s.sendBeacons.hier with beaconAt := some (s.tbNs 0) } })) s

/-- EVT_BEACON_LOST (R431). (Mark: DEDUCED, log 124) -/
def execEvtBeaconLost (t : Nat) (s : State) : Host.Outcome State Fault Refusal :=
  event t (fun s =>
    let since := s.now - s.time.lastBeacon.getD 0
    s.when (s.worker && !s.flag Reg.TIME_STATUS_UNSYNC && !s.flag Reg.TIME_STATUS_HOLDOVER &&
        decide (max 1 (s.get Reg.TIME_BEACON_TIMEOUT_MS) * msSteps ≤ since)) (fun s =>
      (s.setB Reg.TIME_STATUS_HOLDOVER true).raise evBeaconLost 0 (leBytes 4 (since / msSteps)))) s

/-! ### Time triggers (R433, R435, R438) -/

/-- An event of a trigger: it counts; triggers 0 to 3 pulse CAM_TRIG, give DMA credits and start axes, and trigger 4
starts a housekeeping round. (Mark: DEDUCED, log 122) -/
def State.triggerEvent (s : State) (k : Nat) : State :=
  if !s.trigDue k then s
  else
    let s := s.fireTrigger k
    if !s.awake then s
    else if k = 4 then s.roundStart
    else ((s.camPulse k).dmaTriggerEdge k).axisTrigger k

/-- TIME_TRIGGER_EVENT. (Mark: DEDUCED, log 122) -/
def execTimeTriggerEvent (k : Fin 5) (t : Nat) (s : State) : Host.Outcome State Fault Refusal := event t (·.triggerEvent k) s

/-- HK_ROUND_START: the event of trigger 4 (R438). (Mark: DEDUCED, log 122) -/
def execHkRoundStart (t : Nat) (s : State) : Host.Outcome State Fault Refusal := event t (·.triggerEvent 4) s

/-- TRIGGER_SET (R434). -/
def cmdTriggerSet (k tb startS startNs periodNs : Nat) (s : State) : Res :=
  let r := s.setTrigger k tb startS startNs periodNs
  Res.err r.1 r.2

end Sys2Proof.Machine
end

