-- ==== Sys2Proof/Machine/Pack.lean ====
section
/-! DEFINITION. The compression engine: the packed format, packing and unpacking jobs, and their commands
(15_compression.md), and the response of every engine to an uncorrectable block (12_raster_memory.md R276). A job's work
between two stops is one effect, at its EVT_PACK_DONE. -/

namespace Sys2Proof.Machine

/-! ### The format (R327 to R330) -/

/-- The header of a stream (R327). -/
def packHeader (level n : Nat) : List Byte :=
  leBytes 4 0x4B50594C ++ [1, BitVec.ofNat 8 level, 0, 0] ++ leBytes 4 n ++ leBytes 4 0

/-- A literal run, and a match (R328). -/
def litToken (bs : List Byte) : List Byte := BitVec.ofNat 8 (bs.length - 1) :: bs
def matchToken (l d : Nat) : List Byte :=
  if l ≤ 130 then BitVec.ofNat 8 (0x80 + (l - 4)) :: leBytes 2 (d - 1)
  else [0xFF, BitVec.ofNat 8 (l - 131)] ++ leBytes 2 (d - 1)

/-- A token read from a stream. -/
inductive PackTok where
  | lit (n : Nat)
  | copy (len dist size : Nat)
  /-- E above 127 (R339). -/
  | bad

/-- Bytes of a token that begins with a tag byte, and the token. -/
def tokSize (g : Nat) : Nat := if g < 0x80 then g + 2 else if g < 0xFF then 3 else 4
def tokOf (b : List Byte) : PackTok :=
  let g := u8 b 0
  if g < 0x80 then .lit (g + 1)
  else if g < 0xFF then .copy (g % 128 + 4) (u16 b 1 + 1) 3
  else if 127 < u8 b 1 then .bad else .copy (131 + u8 b 1) (u16 b 2 + 1) 4

/-- Output of a match, byte by byte from the output so far (R329). -/
def copyOut : Nat → Nat → List Byte → List Byte
  | 0, _, w => w
  | n + 1, d, w => copyOut n d (w ++ [w.getD (w.length - d) 0])

/-! ### Slots -/

def State.packSlot (s : State) (k : Nat) : Option PackJob := s.pack.slots.getD k none

def State.putPack (s : State) (k : Nat) (j : Option PackJob) : State :=
  { s with pack := { s.pack with slots := modAt (fun _ => j) k s.pack.slots } }

/-- Show what a slot's registers hold of a job. -/
def State.showPack (s : State) (k : Nat) (j : PackJob) : State :=
  let s := (s.setB (Reg.PACK_SLOT_STATE_UNPACK k) j.unpack).set (Reg.PACK_SLOT_STATE_LEVEL k) j.level
  let s := (s.set (Reg.PACK_SLOT_STATE_TAG k) j.tag).set (Reg.PACK_SLOT_SRC_LO k) j.src
  let s := (s.set (Reg.PACK_SLOT_SRC_HI k) (j.src / 2 ^ 32)).set (Reg.PACK_SLOT_DST_LO k) j.dst
  let s := (s.set (Reg.PACK_SLOT_DST_HI k) (j.dst / 2 ^ 32)).set (Reg.PACK_SLOT_SRC_LEN k) j.srcLen
  let s := (s.set (Reg.PACK_SLOT_DST_LEN k) j.dstLen).set (Reg.PACK_SLOT_CONSUMED k) j.consumed
  (s.set (Reg.PACK_SLOT_PRODUCED k) j.produced).set (Reg.PACK_SLOT_ORIG_LEN k) j.origLen

/-! ### Pieces -/

/-- How a job's run ends: a status, with ST_NO_SPACE for a stop. -/
structure PackEnd where
  status : Nat
  /-- Uncorrectable blocks met. -/
  bad : List Nat
  job : PackJob
  s : State

/-- The blocks of a part of the source that cannot be read. (Mark: DEDUCED, log 95) -/
def State.packBad (s : State) (j : PackJob) (o n : Nat) : List Nat := s.badBlocks (j.src + o) n

/-- The blocks that a search up to a position reads and cannot: the window before the run, and what a match may cover
(R331, R334). (Mark: DEDUCED, log 95) -/
def State.windowBad (s : State) (j : PackJob) (p : Nat) : List Nat :=
  s.packBad j (j.runFrom - 65536) (min j.srcLen (p + 258) - (j.runFrom - 65536))

/-- Destination blocks that a write covers in part, that are read for it and are uncorrectable (R262, R271).
(Mark: DEDUCED, log 95; DEDUCED, log 96) -/
def State.packRefused (s : State) (a : Nat) (bs : List Byte) : List Nat :=
  ((piecesOf bs.length a bs).filter (fun p => !wholeBlock p && decide (blockOf p.1 ∈ s.mem.ue) &&
    s.validRegion (p.1 / regionBytes) && !s.initRegion (p.1 / regionBytes))).map
    (fun p => blockOf p.1)

/-- Write a piece to the destination, or end the job: no space (R337), or an uncorrectable block (R341); `k` goes on.
(Mark: DEDUCED, log 96) -/
def State.putPiece (s : State) (j : PackJob) (bs : List Byte) (next : PackJob → PackJob)
    (k : State → PackJob → PackEnd) : PackEnd :=
  if j.dstLen < j.used + bs.length then ⟨stNoSpace, [], j, s⟩
  else
    let bad := s.packRefused (j.dst + j.used) bs
    if !bad.isEmpty then ⟨stMemUncorrectable, bad, j, s⟩
    else
      let (s, _) := s.writeMem s.mirrors (j.dst + j.used) bs
      k s (next { j with used := j.used + bs.length, produced := j.produced + bs.length })

/-! ### Packing (R331, R336) -/

/-- Length of the common prefix of the source at two positions, at most `n`. -/
def prefixLen (x : Nat → Byte) : Nat → Nat → Nat → Nat
  | 0, _, _ => 0
  | n + 1, q, p => if x q = x p then prefixLen x n (q + 1) (p + 1) + 1 else 0

/-- The longest match among the `c` nearest candidates, from the nearest down; a tie keeps the nearer. The first
argument counts the positions left. -/
def searchMatch (x : Nat → Byte) (p cap : Nat) : Nat → Nat → Nat → Nat × Nat → Nat × Nat
  | 0, _, _, best => best
  | _ + 1, _, 0, best => best
  | n + 1, q, c + 1, best =>
    if prefixLen x 4 q p = 4 then
      let l := prefixLen x cap q p
      searchMatch x p cap n (q - 1) c (if best.1 < l then (l, q) else best)
    else searchMatch x p cap n (q - 1) (c + 1) best

/-- L and Q at a position (R331). -/
def findMatch (x : Nat → Byte) (n level p : Nat) : Nat × Nat :=
  if n - p < 4 then (0, 0)
  else searchMatch x p (min 258 (n - p)) (min p 65536) (p - 1) (4 * 2 ^ (level - 1)) (0, 0)

/-- What the parse emits next from a position with a pending run: the end of a run, a match, or nothing more. -/
inductive PackNext where
  | run (stop : Nat)
  | hit (len dist : Nat)
  | finish

/-- The next token (R331). The first argument bounds the positions that a run can take. -/
def nextToken (x : Nat → Byte) (n level : Nat) : Nat → Nat → Nat → PackNext
  | 0, runFrom, p => if runFrom < p then .run p else .finish
  | f + 1, runFrom, p =>
    if n ≤ p then (if runFrom < p then .run p else .finish)
    else
      let m := findMatch x n level p
      if 4 ≤ m.1 then (if runFrom < p then .run p else .hit m.1 (p - m.2))
      else if p + 1 - runFrom = 128 then .run (p + 1)
      else nextToken x n level f runFrom (p + 1)

/-- A packing job from where it stands. The first argument bounds the pieces.
(Mark: DEDUCED, log 94; DEDUCED, log 95) -/
def State.packRun : Nat → State → PackJob → PackEnd
  | 0, s, j => ⟨stOk, [], j, s⟩
  | f + 1, s, j =>
    let x := fun (i : Nat) => s.byteAt (j.src + i)
    if j.part = 0 then
      if j.srcLen ≤ 24 then ⟨stNotSmaller, [], j, s⟩
      else s.putPiece j (packHeader j.level j.srcLen) (fun j => { j with part := 1 }) (State.packRun f)
    else if j.part = 1 then
      match nextToken x j.srcLen j.level 128 j.runFrom j.runFrom with
      | .finish => State.packRun f s { j with part := 2 }
      | .run p =>
        let bad := s.windowBad j p
        let lits := (List.range (p - j.runFrom)).map (fun i => x (j.runFrom + i))
        if !bad.isEmpty then ⟨stMemUncorrectable, bad.take 1, j, s⟩
        else if j.srcLen ≤ j.produced + (lits.length + 1) + 8 then ⟨stNotSmaller, [], j, s⟩
        else s.putPiece j (litToken lits) (fun j =>
          { j with runFrom := p, pos := p, consumed := p, crc := crcRun j.crc lits }) (State.packRun f)
      | .hit l d =>
        let bad := s.windowBad j j.runFrom
        let t := matchToken l d
        if !bad.isEmpty then ⟨stMemUncorrectable, bad.take 1, j, s⟩
        else if j.srcLen ≤ j.produced + t.length + 8 then ⟨stNotSmaller, [], j, s⟩
        else
          let p := j.runFrom + l
          s.putPiece j t (fun j => { j with
            runFrom := p, pos := p, consumed := p,
            crc := crcRun j.crc ((List.range l).map (fun i => x (j.runFrom + i))) }) (State.packRun f)
    else
      s.putPiece j (leBytes 4 (j.crc ^^^ 0xFFFFFFFF) ++ leBytes 4 j.srcLen) id (fun s j => ⟨stOk, [], j, s⟩)

/-! ### Unpacking (R332, R339, R340) -/

/-- Output of a token, checked against what has been produced. -/
def PackJob.output (j : PackJob) (b : List Byte) : Option (List Byte) :=
  match tokOf b with
  | .bad => none
  | .lit n => if j.origLen < j.produced + n then none else some ((b.drop 1).take n)
  | .copy l d _ =>
    if j.produced < d ∨ j.origLen < j.produced + l then none
    else some ((copyOut l d j.window).drop j.window.length)

/-- An unpacking job from where it stands. (Mark: DEDUCED, log 94; DEDUCED, log 97) -/
def State.unpackRun : Nat → State → PackJob → PackEnd
  | 0, s, j => ⟨stOk, [], j, s⟩
  | f + 1, s, j =>
    let need := fun (n : Nat) (k : List Byte → PackEnd) =>
      if j.srcLen < j.pos + n then ⟨stBadStream, [], j, s⟩
      else
        let bad := s.packBad j j.pos n
        if !bad.isEmpty then ⟨stMemUncorrectable, bad.take 1, j, s⟩ else k (s.readMem (j.src + j.pos) n)
    if j.part = 0 then
      need 16 (fun b =>
        if u32 b 0 ≠ 0x4B50594C ∨ u8 b 4 ≠ 1 ∨ !zerosAt b 6 2 ∨ !zerosAt b 12 4 then ⟨stBadStream, [], j, s⟩
        else State.unpackRun f s { j with part := 1, pos := 16, consumed := 16, origLen := u32 b 8 })
    else if j.produced = j.origLen then
      need 8 (fun b =>
        if u32 b 4 ≠ j.origLen then ⟨stBadStream, [], j, s⟩
        else
          let j' := { j with consumed := j.pos + 8, pos := j.pos + 8 }
          if u32 b 0 ≠ j.crc ^^^ 0xFFFFFFFF then ⟨stCheckFail, [], j', s⟩ else ⟨stOk, [], j', s⟩)
    else
      need 1 (fun g =>
        need (tokSize (u8 g 0)) (fun b =>
          match j.output b with
          | none => ⟨stBadStream, [], j, s⟩
          | some out => s.putPiece j out (fun j =>
            let w := j.window ++ out
            { j with
                     pos := j.pos + tokSize (u8 g 0), consumed := j.pos + tokSize (u8 g 0),
                     crc := crcRun j.crc out, window := w.drop (w.length - 65536) }) (State.unpackRun f)))

/-! ### Jobs (R333 to R341) -/

/-- The end or stop of a job's run, with its event (R51, R337). (Mark: DEDUCED, log 98) -/
def State.packEnds (s : State) (k st : Nat) (j : PackJob) : State :=
  let s := s.showPack k j
  let s :=
    if st = stNoSpace then ((s.putPack k (some j)).set (Reg.PACK_SLOT_STATE k) 2).inc Reg.PACK_STOPS_COUNT
    else
      let s := ((s.putPack k none).set (Reg.PACK_SLOT_STATE k) 0).set (Reg.PACK_SLOT_LAST_STATUS k) st
      if st = stOk then s.inc Reg.PACK_JOBS_OK_COUNT
      else if st = stNotSmaller then s.incSat Reg.PACK_NOT_SMALLER_COUNT 1
      else if st = stBadStream ∨ st = stCheckFail then s.incSat Reg.PACK_STREAM_ERRORS_COUNT 1
      else s
  s.raise evPackDone 0 (leBytes 2 j.tag ++ leBytes 2 st ++ leBytes 4 j.consumed ++ leBytes 4 j.produced ++ leBytes 1 k)

/-- A running job's work up to its end or stop; the corrected errors of the source it consumed count (R275).
(Mark: DEDUCED, log 9) -/
def State.packWork (s : State) (k : Nat) (j : PackJob) : State :=
  let s := s.waitFills j.src j.srcLen
  let r := if j.unpack then State.unpackRun (j.srcLen + 3) s j else State.packRun (j.srcLen + 3) s j
  let s := (r.s.meetCes (j.src + j.consumed) (r.job.consumed - j.consumed)).used
  (s.meetUes r.bad 4).packEnds k r.status r.job

/-- EVT_PACK_DONE (R51, R337, R339 to R341); a paused job ends nothing (R342). (Mark: DEDUCED, log 94) -/
def execEvtPackDone (slot : Fin 8) (t : Nat) (s : State) : Host.Outcome State Fault Refusal :=
  eventAwake t (fun s =>
    match s.packSlot slot with
    | some j =>
      s.when (s.get (Reg.PACK_SLOT_STATE slot) == 1 && !s.critical) (·.packWork slot j)
    | none => s) s

/-- Steps 1 to 3 of R333 for a destination, with the source it must not overlap; ST_OK where they hold. -/
def State.packRanges (s : State) (src n dst m : Nat) : Nat :=
  if s.standby then stNotOwner
  else if !inDram src n ∨ !inDram dst m ∨ (src < dst + m ∧ dst < src + n) then stBadParam
  else if touchesProt dst m then stProtected
  else stOk

/-- A job that starts (R333). -/
def State.packBegin (s : State) (k : Nat) (j : PackJob) : State :=
  ((s.putPack k (some j)).set (Reg.PACK_SLOT_STATE k) 1).showPack k j

/-- The checks of R333, and the start. -/
def packAccept (unpack : Bool) (slot level src dst n m tag : Nat) (s : State) : Res :=
  if 7 < slot ∨ (!unpack ∧ (level = 0 ∨ 9 < level)) ∨ n = 0 ∨ m < 512 then Res.err stBadParam s
  else
    let st := s.packRanges src n dst m
    if st ≠ stOk then Res.err st s
    else if s.get (Reg.PACK_SLOT_STATE slot) ≠ 0 then Res.err stBusy s
    else Res.err stAccepted (s.packBegin slot
      { tag := tag, unpack := unpack, level := if unpack then 0 else level, src := src, srcLen := n, dst := dst,
        dstLen := m, used := 0, part := 0, pos := 0, runFrom := 0, crc := 0xFFFFFFFF,
        origLen := if unpack then 0 else n, consumed := 0, produced := 0, window := [] })

/-- PACK_START (R333). -/
def cmdPackStart (slot level src dst n m tag : Nat) (s : State) : Res := packAccept false slot level src dst n m tag s

/-- UNPACK_START (R333). -/
def cmdUnpackStart (slot level src dst n m tag : Nat) (s : State) : Res := packAccept true slot level src dst n m tag s

/-- PACK_RESUME (R338). -/
def cmdPackResume (slot dst m tag : Nat) (s : State) : Res :=
  if 7 < slot ∨ m < 512 then Res.err stBadParam s
  else
    match s.packSlot slot with
    | some j =>
      let st := s.packRanges j.src j.srcLen dst m
      if st ≠ stOk then Res.err st s
      else if s.get (Reg.PACK_SLOT_STATE slot) ≠ 2 then Res.err stBadState s
      else Res.err stAccepted (s.packBegin slot { j with dst := dst, dstLen := m, used := 0, tag := tag })
    | none =>
      if s.standby then Res.err stNotOwner s
      else if !inDram dst m then Res.err stBadParam s
      else if touchesProt dst m then Res.err stProtected s
      else Res.err stBadState s

/-- PACK_SLOT: STATE, CONSUMED and PRODUCED as they stand, then the release (R51). (Mark: DEDUCED, log 98) -/
def cmdPackSlot (slot release : Nat) (s : State) : Res :=
  if 7 < slot ∨ 1 < release then Res.err stBadParam s
  else
    let st := s.get (Reg.PACK_SLOT_STATE slot)
    if release = 1 ∧ st = 1 then Res.err stBadState s
    else
      Res.okData (leBytes 4 st ++ leBytes 4 (s.get (Reg.PACK_SLOT_CONSUMED slot)) ++
          leBytes 4 (s.get (Reg.PACK_SLOT_PRODUCED slot)))
        (if release = 1 ∧ st = 2 then (s.putPack slot none).set (Reg.PACK_SLOT_STATE slot) 0 else s)

/-! ### Uncorrectable blocks (R261, R276 to R278, R414) -/

/-- A DMA channel's read of the rest of its transfer meets an uncorrectable block (R324). -/
def State.dmaMeets (s : State) (n b : Nat) : State :=
  let d := s.dmaActive n
  let c := s.dmaCh n
  if s.dmaRunning n && c.next < dLen d && decide (b ∈ blocksIn (dSrc d + c.next) (dLen d - c.next)) then
    (s.modDma n (fun c => { c with flight := c.flight ++ [⟨c.next, 0, [], [b], 0⟩] })).dmaError n
  else s

/-- A block lies in a range. -/
def inBlocks (b a n : Nat) : Bool := decide (b < a + n ∧ a < b + 64)

/-- The response of a requester whose operation is under way; `u` is its plane, channel or slot. The response of a requester
that reads within its own row is made there (R276). (Mark: DEDUCED, log 119) -/
def State.ueResponse (s : State) (b req u : Nat) : State :=
  match req with
  | 0 => s.pairFault 2
  | 1 => (s.tone.copies.filter (fun c => c.plane == u && inBlocks b c.src c.len)).foldl
      (fun (s : State) c => s.tableCopied (s.prints u) u c.table) s
  | 2 => match (s.plane u).pload with
    | some x => if inBlocks b (x.src + 1024) (x.len - 1024) then s.ploadDone u else s
    | none =>
      if (s.plane u).pass.isSome && inBlocks b (protArea u) (s.get (Reg.COMPOSE_PL_PROT_LEN u) - 1024) then s.checkPass u
      else s
  | 3 => s.dmaMeets u b
  | 4 => match s.packSlot u with
    | some j => if s.get (Reg.PACK_SLOT_STATE u) == 1 && inBlocks b j.src j.srcLen then s.packWork u j else s
    | none => s
  | _ => s

/-- A read finds a block uncorrectable: it is counted and logged once for its requester, which gets its response.
(Mark: DEDUCED, log 119) -/
def State.uncorrectable (s : State) (b req u line : Nat) : State :=
  if b < dramEnd ∧ s.reaches b then
    let s := s.modMem (fun m => { m with ue := if b ∈ m.ue then m.ue else m.ue ++ [b], ce := m.ce.filter (· != b) })
    let s := if req = 0 then s.meetUe b 0 u line (s.lineWeb u line) else s.meetUe b req 0 0xFFFFFFFF 0
    (s.modMem (fun m => { m with
      met := (s.now, req, b) :: m.met.filter (fun x => decide (x.1 = s.now)) })).ueResponse b req u
  else s

/-- UNCORRECTABLE_READ: the block address, the requester, its plane, channel or slot, and for a raster fetch the line. -/
def execUncorrectableRead (addr requester u line t : Nat) (s : State) : Host.Outcome State Fault Refusal :=
  eventAwake t (·.uncorrectable (blockOf addr) requester u line) s

end Sys2Proof.Machine
end

