-- ==== Sys2Proof/Machine/PowerEvents.lean ====
section
/-! DEFINITION. Reset, firmware restart and the power ladder (23_power_reset_ladder.md), patch activation
(22_otp_firmware_security.md), LINK_RESTART, and boundary scan (24_package_balls.md). -/

namespace Sys2Proof.Machine

/-! ### Full reset (R466 to R468) -/

/-- Fields that show the level of a pin. (Mark: DEDUCED, log 141) -/
def pinFields : List Fld :=
  Reg.PAIR_STATUS_ILK_IN :: (List.range 4).flatMap (fun e => [Reg.ENC_STATUS_LEVEL e, Reg.ENC_STATUS_WIRE_A e,
    Reg.ENC_STATUS_WIRE_B e, Reg.ENC_STATUS_WIRE_Z e])

/-- Fields of another state, taken over. -/
def State.keepFields (r s : State) (fs : List Fld) : State := fs.foldl (fun (r : State) f => r.set f (s.get f)) r

/-- The level of PAIR_SIDE, from the side that it gave (R402). (Mark: DEDUCED, log 141) -/
def State.sidePin (s : State) : Bool := s.flag Reg.PAIR_STATUS_SIDE != s.recSideInv

/-- The rise of RESET_N, and what acts like it: registers and memories at reset, the OTP record `otp` in force, and the
causes in RESET_CAUSE (R468). (Mark: DEDUCED, log 141) -/
def State.fullReset (s : State) (otp : OtpSt) (causes : List Fld) (side : Bool) : State :=
  let r := { State.reset with
    pending := s.pending, free := s.free, tap := s.tap, otp := otp,
    encs := s.encs.map (fun (x : Enc) => { Enc.init with raw := x.raw }),
    power := { PowerSt.init with supplyOk := s.power.supplyOk, vcore := s.power.vcore } }
  let r := r.applyRecord
  let r := { r with ports := (List.range 4).map (fun p => Port.init (r.flag (Reg.ZPHY_PORT_CONFIG_ENABLE p))) }
  let r := (r.keepFields s pinFields).setB Reg.PAIR_STATUS_SIDE (side != r.recSideInv)
  let r := { r with pair := { r.pair with
    ilkLowSince := if r.flag Reg.PAIR_STATUS_ILK_IN then none else some 0 } }
  causes.foldl (fun (r : State) f => r.setB f true) (r.setB Reg.LADDER_RESET_CAUSE_POWER_ON false)

/-- The OTP as a full reset reads it: what was burned stays, and the staging RAM starts empty (R453). -/
def State.otpRead (s : State) : OtpSt :=
  { OtpSt.init with gens := s.otp.gens, keys := s.otp.keys, locks := s.otp.locks }.readArea

/-- The pins at a fall of RESET_N: ILK_OUT, STRING_OUT, DEFECT_MARK and WSPD low, strobes inactive, axis phases in SLOW
(R467, R484). -/
def State.holdPins (s : State) : State :=
  let s := s.dropIlk.modPair (fun x => { x with strOut := false, ilkHold := 0 })
  let s := (List.range 4).foldl (fun (s : State) p =>
    (s.modPlane p (fun x => { x with marks := [] })).deEnergise p) s
  let s := (List.range 48).foldl (fun (s : State) q => s.modHead q (fun x => { x with padA := false, padB := false })) s
  { s with line := { s.line with wspdDuty := 0 } }

/-- RESET_N falls. -/
def State.resetFalls (s : State) : State := s.holdPins.modPower (fun x => { x with resetN := false })

/-- RESET_N_FALL (R467). -/
def execResetNFall (t : Nat) (s : State) : Host.Outcome State Fault Refusal := event t State.resetFalls s

/-- PWRGOOD_FALL: it acts as a fall of RESET_N (R466). -/
def execPwrgoodFall (t : Nat) (s : State) : Host.Outcome State Fault Refusal :=
  let s := s.elapse t
  let s := if s.power.resetN then s.resetFalls else s
  .next (s.modPower (fun x => { x with pwrGood := false, causePwrgood := true }))

/-- RESET_N_RISE: `pwrgood` is the level of PWRGOOD, and while it is low the rise is ignored (R466, R468); `side` is the
level of PAIR_SIDE. (Mark: DEDUCED, log 141) -/
def execResetNRise (pwrgood side : Bool) (t : Nat) (s : State) : Host.Outcome State Fault Refusal :=
  let s := s.elapse t
  .next (s.when (!s.power.resetN && pwrgood) (fun s => s.fullReset s.otpRead
    (if s.power.causePwrgood then [Reg.LADDER_RESET_CAUSE_POWER_ON, Reg.LADDER_RESET_CAUSE_PWRGOOD]
      else [Reg.LADDER_RESET_CAUSE_PIN]) side))

/-! ### Firmware restart (R166, R502) -/

/-- Run something whose events are not raised. -/
def State.quietly (s : State) (f : State → State) : State :=
  { f { s with host := HostIf.init } with host := s.host }

/-- A DMA channel stops as by DMA_ABORT, its bursts in flight done. (Mark: DEDUCED, log 140) -/
def State.dmaStop (s : State) (n : Nat) : State :=
  let s := (s.dmaDrain n).modDma n (fun c => { c with flight := [], committed := false, next := 0, aborting := false })
  (s.dmaMarks n false).dmaShow n

/-- Step 1 of a firmware restart: a running job stops as on a fault, with its event; other work stops, and no completion
event is raised. (Mark: DEDUCED, log 39; DEDUCED, log 140) -/
def State.stopWork (s : State) : State :=
  s.faultStop.quietly (fun s =>
    let s := { s with job := { s.job with queued := none } }.showJobs.showRings
    let s := (List.range 8).foldl (fun (s : State) k =>
      if (s.packSlot k).isSome then (s.putPack k none).set (Reg.PACK_SLOT_STATE k) 0 else s) s
    let s := (List.range 32).foldl (fun (s : State) n =>
      if s.dmaRunning n || (s.dmaCh n).committed then s.dmaStop n else s) s
    (List.range 4).foldl (fun (s : State) a => if s.moving a then s.stopNow a none else s) s)

/-- A firmware restart: work stops, protected layers empty, and the firmware boots anew; VCORE is commanded to the floor
(R502). EVT_READY ends it. (Mark: DEDUCED, log 39; DEDUCED, log 140) -/
def State.fwRestart (s : State) : State :=
  let s := (List.range 4).foldl State.clearProt s.stopWork
  let s := (s.setB Reg.CMD_STATUS_READY false).setB Reg.LADDER_RESET_CAUSE_FW_RESTART true
  if s.flag Reg.LADDER_PMBUS_STATUS_FAULT then s else s.pmPut [.voutCommand (s.get Reg.LADDER_FLOOR_MV)]

/-- RESET: its checks. The reply is sent before it acts (R50). (Mark: DEDUCED, log 142) -/
def cmdReset (kind force : Nat) (s : State) : Res :=
  if 1 < kind ∨ 1 < force then Res.err stBadParam s
  else if s.job.running.isSome ∧ force = 0 then Res.err stBadState s
  else Res.ok s

/-- The last item that the device sent or has to send. (Mark: DEDUCED, log 142) -/
def State.lastReply (s : State) : Option OutItem :=
  match s.host.out.getLast? with
  | some (.reply i r) => some (.reply i r)
  | _ => none

/-- What RESET does after its reply (R50, R468, R502). (Mark: DEDUCED, log 142) -/
def State.resetActs (s : State) (kind : Nat) : State :=
  if kind = 0 then s.fwRestart
  else
    let r := s.fullReset s.otpRead [Reg.LADDER_RESET_CAUSE_COMMAND] s.sidePin
    { r with host := { r.host with parting := s.lastReply } }

/-- PATCH_ACTIVATE: the checks of R460, and the patch in force (R461). -/
def cmdPatchActivate (size : Nat) (signature : List Byte) (s : State) : Res :=
  if bit s.otp.locks 2 ∨ s.job.running.isSome then Res.err stBadState s
  else if !s.otp.imageOk size then Res.err stBadParam s
  else if !s.otp.signatureOk size signature then Res.err stSignatureFail (s.incSat Reg.OTP_PATCH_FAILS_COUNT 1)
  else Res.ok s

/-- What PATCH_ACTIVATE does after its reply (R461). -/
def State.patchActs (s : State) : State := s.takePatch.fwRestart

/-! ### LADDER_SET and LADDER_STATUS (R474, R475, R478) -/

/-- A command has replied ST_ACCEPTED and not raised its completion event. -/
def State.acceptedWork (s : State) : Bool :=
  !s.mem.fills.isEmpty || s.tone.copies.any (fun c => !c.loop) || s.line.planes.any (fun x => x.pload.isSome) ||
  !s.therm.runs.isEmpty || s.ports.any (·.ordered)

/-- The work of R475 step 2 that keeps the device from L2 to L4 (R307, R326, R343). -/
def State.working (s : State) : Bool :=
  s.job.running.isSome || s.job.queued.isSome || (List.range 4).any s.energised ||
  (List.range 32).any (fun n => s.dmaRunning n || (s.dmaCh n).committed) || s.pack.slots.any (·.isSome) ||
  s.acceptedWork || s.flag Reg.PAIR_CTRL_ENABLE

/-- LADDER_SET with STATE 1 or 0, and a write of CTRL.AUTO_L1 (R474, R478). -/
def State.setAutoL1 (s : State) (on : Bool) : State :=
  let s := (s.setB Reg.LADDER_CTRL_AUTO_L1 on).modPower (fun x => { x with stay := false })
  if !on && s.get Reg.LADDER_STATE == 1 then s.set Reg.LADDER_STATE 0 else s

/-- LADDER_SET. (Mark: DEDUCED, log 143) -/
def cmdLadderSet (state wakePort : Nat) (s : State) : Res :=
  if 4 < state ∨ 4 < wakePort then Res.err stBadParam s
  else if state < 2 then Res.ok (s.setAutoL1 (state == 1))
  else if wakePort < 4 ∧ !(s.port wakePort).isUp then Res.err stBadParam s
  else if s.working then Res.err stBadState s
  else
    let s := (s.set Reg.LADDER_WAKE_CFG_WAKE_PORT wakePort).modPower (fun x => { x with entry := some (state, wakePort), stay := false })
    Res.ok ((List.range 4).foldl State.orderIdle s)

/-- LADDER_STATUS; without PMBus the voltage reads 0 (R472). -/
def cmdLadderStatus (s : State) : Res :=
  Res.okData (leBytes 4 (s.get Reg.LADDER_STATE) ++ leBytes 4 (if s.pmbusOn then s.power.vcore else 0) ++
    leBytes 4 (s.get Reg.LADDER_FLOOR_MV)) s

/-! ### L1 (R474) -/

/-- No engine has work. (Mark: DESIGN CHOICE, log 147) -/
def State.restful (s : State) : Bool :=
  s.job.running.isNone && s.job.queued.isNone && (List.range 32).all (fun n => !s.dmaRunning n) &&
  s.pack.slots.all (·.isNone) && (List.range 4).all (fun a => !s.moving a) && s.host.outstanding.isEmpty &&
  s.host.waiting.isNone && !s.acceptedWork && s.tone.copies.isEmpty && s.mem.writes.isEmpty &&
  s.cam.inl.isEmpty && s.cam.queue.isEmpty && s.cam.ports.all (fun x => x.open_.isNone)

/-- AUTO_L1_ENTRY. (Mark: DESIGN CHOICE, log 147) -/
def execAutoL1Entry (t : Nat) (s : State) : Host.Outcome State Fault Refusal :=
  event t (fun s => s.when (s.flag Reg.LADDER_CTRL_AUTO_L1 && s.get Reg.LADDER_STATE == 0 && s.restful)
    (fun s => s.set Reg.LADDER_STATE 1)) s

/-- L1_EXIT: a request returns the device to L0, but not where a wake has brought it to L1 (R474, R476). -/
def execL1Exit (t : Nat) (s : State) : Host.Outcome State Fault Refusal :=
  event t (fun s => s.when (s.get Reg.LADDER_STATE == 1 && !s.power.stay) (fun s => s.set Reg.LADDER_STATE 0)) s

/-! ### L2 to L4 (R475, R476, R166, R281) -/

/-- The register blocks that L3 keeps. (Mark: DEDUCED, log 145) -/
def keptInL3 (addr : Nat) : Bool :=
  let n := addr / 0x10000
  decide (n ≤ 9) || n == 12 || decide (25 ≤ n ∧ n ≤ 28)

/-- What L3 loses takes its reset values: every other block, table memory, protected layers and the patch.
(Mark: DEDUCED, log 145) -/
def State.sleep3 (s : State) : State :=
  let keep := fun (m : List (Nat × Nat)) => m.filter (fun e => keptInL3 (e.1 / 32))
  let s := { s with
    regs := keep s.regs, act := keep s.act, tab0 := [], tab1 := [], job := .init, line := .init, tone := .init,
    heads := List.replicate 48 .init, dma := List.replicate 32 .init, cam := .init, loops := .init,
    motion := { MotionSt.init with updateAt := s.now }, pack := .init,
    otp := { s.otp with patchRam := [], patch := none } }
  (s.set Reg.OTP_PATCH_ID 0).setB Reg.OTP_PATCH_ACTIVE false

/-- The state is entered: ports that train stop, and what the state loses is lost. L4's losses show at its exit, which is
a full reset. -/
def State.enter (s : State) (state : Nat) : State :=
  let s := (List.range 4).foldl State.restTraining s
  let s := (s.set Reg.LADDER_STATE state).modPower (fun x => { x with entry := none })
  if state = 3 then s.sleep3 else s

/-- LADDER_ENTRY: the links have entered idle. (Mark: DEDUCED, log 143) -/
def execLadderEntry (t : Nat) (s : State) : Host.Outcome State Fault Refusal :=
  event t (fun s =>
    match s.power.entry with
    | some (state, _) =>
      s.when (s.ports.all (fun q => q.phase != .up && q.phase != .waking)) (·.enter state)
    | none => s) s

/-- On exit from L3 and from L4 the counters of the encoders are not valid (R82). (Mark: DEDUCED, log 145) -/
def State.lostCounts (s : State) : State :=
  (List.range 4).foldl (fun (s : State) e => s.setB (Reg.ENC_STATUS_INVALID e) true) s

/-- Register addresses that L4 keeps: HIER.ID, the time bases, and ZPHY and ZLINK of the wake port.
(Mark: DEDUCED, log 145) -/
def keptInL4 (port addr : Nat) : Bool :=
  addr == 0x1B0000 || decide (0x40000 ≤ addr ∧ addr < 0x40080) || addr == 0x40110 ||
  decide (port < 4) && (decide (0x190000 + 256 * port ≤ addr ∧ addr < 0x190100 + 256 * port) ||
    decide (0x190800 + 256 * port ≤ addr ∧ addr < 0x190900 + 256 * port) ||
    decide (0x1A0000 + 256 * port ≤ addr ∧ addr < 0x1A0100 + 256 * port))

/-- Exit from L4: a full reset but for what L4 keeps (R281, R468). (Mark: DEDUCED, log 145) -/
def State.exitL4 (s : State) : State :=
  let w := s.get Reg.LADDER_WAKE_CFG_WAKE_PORT
  let otp := { OtpSt.init with
    gens := s.otp.gens, keys := s.otp.keys, locks := s.otp.locks, active := s.otp.active, activeGen := s.otp.activeGen }
  let r := s.fullReset otp [Reg.LADDER_RESET_CAUSE_L4_EXIT] s.sidePin
  let kept := s.regs.filter (fun e => keptInL4 w (e.1 / 32))
  let regs := kept.foldl (fun m e => Sparse.ins e.1 e.2 m) (r.regs.filter (fun e => !keptInL4 w (e.1 / 32)))
  let r := { r with
    regs := regs, time := { s.time with fireInhibit := false },
    ports := (List.range 4).map (fun p => if p = w then s.port p else r.port p),
    lanes := (List.range 16).map (fun l => if l / 4 = w then s.lane l else r.lane l) }
  let r := { r with pair := { r.pair with ilkLowSince := r.pair.ilkLowSince.map (fun _ => r.now) } }
  (r.keepFields s ((List.range 4).map Reg.ENC_CONFIG_RELAY_EN)).lostCounts

/-- What may wake the device: its wake port, a switch of SW_MASK in L2, a trigger of TRIG_MASK (R476). -/
def State.wakes (s : State) (cause : Nat) : Bool :=
  cause == s.wakePort ||
  (decide (0x10 ≤ cause ∧ cause < 0x18) && s.get Reg.LADDER_STATE == 2 &&
    bit (s.get Reg.LADDER_WAKE_CFG_SW_MASK) (cause - 0x10)) ||
  (decide (0x20 ≤ cause ∧ cause < 0x24) && bit (s.get Reg.LADDER_WAKE_CFG_TRIG_MASK) (cause - 0x20))

/-- The device leaves L2 to L4 and reaches L1, where it stays until the next LADDER_SET (R476). -/
def State.wake (s : State) (cause : Nat) : State :=
  let deep := s.get Reg.LADDER_STATE
  let s := if deep = 3 then s.lostCounts else if deep = 4 then s.exitL4 else s
  ((s.modPower (fun x => { x with dozing := false, wakeHeld := none, stay := true })).wakePorts).reachL1 deep cause

/-- A wake: held while entry is under way, and taken once it has completed (R476). (Mark: DEDUCED, log 143) -/
def State.wakeEvent (s : State) (cause : Nat) : State :=
  if s.power.entry.isSome then s.modPower (fun x => { x with wakeHeld := some (x.wakeHeld.getD cause) })
  else if s.get Reg.LADDER_STATE < 2 then s
  else match s.power.wakeHeld with
    | some c => s.wake c
    | none => if s.wakes cause then s.wake cause else s

/-- EVT_LADDER_WAKE. -/
def execEvtLadderWake (cause t : Nat) (s : State) : Host.Outcome State Fault Refusal := event t (·.wakeEvent cause) s

/-! ### LINK_RESTART (R360) -/

/-- LINK_RESTART: its reply is sent before the restart. (Mark: DEDUCED, log 144) -/
def cmdLinkRestart (port : Nat) (s : State) : Res :=
  if 3 < port then Res.err stBadParam s else Res.err stAccepted s

/-- What LINK_RESTART does after its reply. (Mark: DEDUCED, log 144) -/
def State.linkRestartActs (s : State) (port : Nat) : State :=
  (s.restartPort port).modPort port (fun q => { q with ordered := true })

/-! ### Boundary scan (R487, R488) -/

/-- The TAP acts while RESET_N is low, or while TRST_N has risen after RESET_N (R488). -/
def State.tapOn (s : State) (trst : Bool) : Bool := !s.power.resetN || trst

/-- Instructions that drive the outputs from the boundary register. -/
def TapInstr.drives : TapInstr → Bool
  | .extest => true
  | .clamp => true
  | _ => false

/-- The boundary register drives an output; a head-port output only while the interlock is closed (R488).
(Mark: DESIGN CHOICE, log 149) -/
def State.tapDrives (s : State) (headPort : Bool) : Bool :=
  s.tap.instr.drives && (!headPort || s.headDriven)

/-- What a cell captures: `pin` tells whether it belongs to a head-port output, and its level; a head-port output is
captured as high-impedance while the interlock is open (R488). (Mark: DESIGN CHOICE, log 149) -/
def State.tapCapture (s : State) (pin : Bool × Bool) : Option Bool :=
  if pin.1 && !s.headDriven then none else some pin.2

/-- The bits of a register that captured `cap` and shifts `di` in: those shifted out, and those it holds then. -/
def scan (cap di : List Bool) : List Bool × List Bool := ((cap ++ di).take di.length, (cap ++ di).drop di.length)

/-- An instruction that selects a register which holds `cap` at capture. (Mark: DESIGN CHOICE, log 149) -/
def State.tapScan (s : State) (i : TapInstr) (cap di : List Bool) : State :=
  { s with tap := { s.tap with instr := i, shifted := (scan cap di).1 } }

/-- The bit that a captured cell shifts out; a high-impedance one gives a free value. -/
def State.cellBit (s : State) (c : Option Bool) : Bool := c.getD (s.fresh % 2 == 1)

/-- An instruction that selects the boundary register: capture, shift and update. (Mark: DESIGN CHOICE, log 149) -/
def State.tapBoundary (s : State) (i : TapInstr) (pins : List (Bool × Bool)) (di : List Bool) : State :=
  let cap := pins.map s.tapCapture
  let r := scan (cap.map s.cellBit) di
  { s.used with tap := ⟨i, r.2, cap, r.1⟩ }

/-- A TAP instruction: time runs, and the TAP acts where it may. -/
def tapStepOf (trst : Bool) (t : Nat) (f : State → State) (s : State) : Host.Outcome State Fault Refusal :=
  .next ((s.elapse t).when (s.tapOn trst) f)

/-- The IDCODE's bits, least significant first. -/
def idcodeBits : List Bool := (List.range 32).map (bit 0x148203A5)

/-- BYPASS: the bypass register, of one bit. -/
def execBypass (trst : Bool) (di : List Bool) (t : Nat) (s : State) : Host.Outcome State Fault Refusal :=
  tapStepOf trst t (·.tapScan .bypass [false] di) s

/-- IDCODE. -/
def execIdcode (trst : Bool) (di : List Bool) (t : Nat) (s : State) : Host.Outcome State Fault Refusal :=
  tapStepOf trst t (·.tapScan .idcode idcodeBits di) s

/-- SAMPLE/PRELOAD. -/
def execSamplePreload (trst : Bool) (pins : List (Bool × Bool)) (di : List Bool) (t : Nat) (s : State) :
    Host.Outcome State Fault Refusal :=
  tapStepOf trst t (·.tapBoundary .samplePreload pins di) s

/-- EXTEST. -/
def execExtest (trst : Bool) (pins : List (Bool × Bool)) (di : List Bool) (t : Nat) (s : State) :
    Host.Outcome State Fault Refusal :=
  tapStepOf trst t (·.tapBoundary .extest pins di) s

/-- CLAMP: the outputs hold the boundary register's levels, with the bypass register selected. -/
def execClamp (trst : Bool) (di : List Bool) (t : Nat) (s : State) : Host.Outcome State Fault Refusal :=
  tapStepOf trst t (·.tapScan .clamp [false] di) s

/-- HIGHZ: every output is high-impedance, with the bypass register selected. -/
def execHighz (trst : Bool) (di : List Bool) (t : Nat) (s : State) : Host.Outcome State Fault Refusal :=
  tapStepOf trst t (·.tapScan .highz [false] di) s

end Sys2Proof.Machine
end

