-- ==== Sys2Proof/Machine/RegRead.lean ====
section
/-! DEFINITION. Reading one 32-bit word of the address map: register words with the values that units keep elsewhere,
captures on reads, and table memory (03_address_map.md R65 to R73; the register tables of 01 to 23). -/

namespace Sys2Proof.Machine

/-- First address of the register blocks, and the bytes they cover (03_address_map.md, block bases). -/
def regBase : Nat := 0x2000000000
def regBytes : Nat := 0x1D0000

/-- A register word as stored: reserved bits and write-only fields read 0 (R3, R73). -/
def State.wordOf (s : State) (a : Nat) : Nat :=
  (fieldsAt a).foldl (fun v f => if f.acc = .wo then v else v + s.get f * 2 ^ f.lo) 0

/-- The low and the high word of a 64-bit value. -/
def lo32 (n : Nat) : Nat := low 32 n
def hi32 (n : Nat) : Nat := low 32 (n / 2 ^ 32)

/-- A word of a list of captured words, the live word where nothing has been captured. (Mark: DEDUCED, log 22) -/
def capWord (c : Option (List Nat)) (i live : Nat) : Nat := match c with | some l => l.getD i 0 | none => live

/-! ### Words that units keep elsewhere -/

/-- SYS: levels at the pins; the level at an input is a free value (R22). (Mark: DEDUCED, log 161) -/
def State.gpioIn (s : State) : Nat :=
  ((List.range 16).map (fun i => if s.pinLevel i (bit s.fresh i) then 2 ^ i else 0)).sum

/-- LOG: words of the entries, oldest first (R60). -/
def State.logWord (s : State) (o : Nat) : Nat :=
  match s.host.log[(o - 0x8000) / 32]? with
  | some e => u32 (evtBytes e) ((o - 0x8000) % 32 / 4 * 4)
  | none => 0

/-- OTP: the factory area, the record in force and what is not blank (R453, R460). -/
def State.otpWord (s : State) (o : Nat) : Option Nat :=
  if o = 0x00 then some (lo32 Config.deviceId)
  else if o = 0x04 then some (hi32 Config.deviceId)
  else if o = 0x08 then some (s.otp.activeGen.getD 0 + 4 * s.otp.activeGen.isSome.toNat + 2 ^ 4 * s.otp.used +
    2 ^ 8 * s.otp.keySlots + 2 ^ 10 * s.otp.locks + 2 ^ 13 * s.otp.signed.toNat)
  else if 0x100 ≤ o ∧ o < 0x140 then some (u32 s.otp.active (o - 0x100))
  else none

/-- CAL.STATUS: targets being measured and stepped. (Mark: DEDUCED, log 158) -/
def State.calStatus (s : State) : Nat :=
  let meas := fun (t : Nat) => s.therm.runs.any (fun r => bit r.left t) || s.therm.tracking.any (fun x => x.1 == t) ||
    (t == 0 && s.mem.chans.any (fun c => c.running))
  let steps := fun (t : Nat) => if t = 0 then s.mem.chans.any (fun c => c.taps != c.targets) else s.stepping t
  ((List.range 4).map (fun t => (meas t).toNat * 2 ^ t + (steps t).toNat * 2 ^ (t + 4))).sum

/-- MEMCTL: the valid regions, and the refresh rate of a channel, which no rule fixes (R269). -/
def State.memctlWord (s : State) (o : Nat) : Option Nat :=
  if o = 0x08 then some s.mem.valid.length
  else if 0x100 ≤ o ∧ o < 0x200 ∧ o % 32 = 0 then
    let c := (o - 0x100) / 32
    some ((s.set (Reg.MEMCTL_CH_STATUS_REFRESH c) (s.fresh % 3)).wordOf (0x80000 + o))
  else none

/-- ECC: the oldest entry of the error log (R278). (Mark: DEDUCED, log 155) -/
def State.eccWord (s : State) (o : Nat) : Option Nat :=
  if o = 0x14 then some ((s.set Reg.ECC_UE_LOG_STATUS_ENTRIES s.mem.ueLog.length).wordOf 0x90014)
  else match s.mem.ueLog with
    | [] => none
    | e :: _ =>
      if o = 0x20 then some (lo32 e.addr)
      else if o = 0x24 then some (low 8 (e.addr / 2 ^ 32) + 2 ^ 8 * channelOf e.addr + 2 ^ 16 * low 8 e.requester +
        2 ^ 24 * low 2 e.plane)
      else if o = 0x28 then some (lo32 e.line)
      else if o = 0x2C then some (lo32 (pat 64 e.web))
      else if o = 0x30 then some (hi32 (pat 64 e.web))
      else if o = 0x34 then some (lo32 (stepsNs e.at_))
      else if o = 0x38 then some (lo32 e.repeats)
      else none

/-- DMA: a user channel that runs is paused while LEVEL is 2 or more (R312). (Mark: DEDUCED, log 102) -/
def State.dmaWord (s : State) (o : Nat) : Option Nat :=
  let n := o / 128
  if 0x1000 ≤ o then none
  else if o % 128 = 0x40 then
    some ((s.setB (Reg.DMA_CH_STATUS_THROTTLED n) (decide (16 ≤ n) && s.dmaRunning n &&
      decide (2 ≤ s.get Reg.THERM_STATUS_LEVEL))).wordOf (0xA0000 + o))
  else if o % 128 = 0x4C then some (low 8 (s.dmaCh n).capHi)
  else none

/-- PACK: a slot that runs is paused while LEVEL is 2 or more (R342). (Mark: DEDUCED, log 102) -/
def State.packWord (s : State) (o : Nat) : Option Nat :=
  let k := o / 64
  if 0x200 ≤ o then none
  else if o % 64 = 0 then
    some ((s.setB (Reg.PACK_SLOT_STATE_THROTTLED k) (s.get (Reg.PACK_SLOT_STATE k) == 1 &&
      decide (2 ≤ s.get Reg.THERM_STATUS_LEVEL))).wordOf (0xB0000 + o))
  else if o % 64 = 0x24 then
    some (match s.pack.caps.getD k none with | some v => v | none => s.get (Reg.PACK_SLOT_PRODUCED k))
  else none

/-- ENC: the counter, and the words captured with it (R84). (Mark: DEDUCED, log 22) -/
def State.encWord (s : State) (o : Nat) : Option Nat :=
  let e := o / 256
  let r := o % 256
  let x := s.enc e
  let live := s.encWords e
  if 0x400 ≤ o then none
  else if r = 0x08 then some (lo32 (pat 64 x.count))
  else if r = 0x0C then some (capWord x.cap 0 (live.getD 0 0))
  else if r = 0x10 then some (capWord x.cap 1 (live.getD 1 0))
  else if r = 0x14 then some (capWord x.cap 2 (live.getD 2 0))
  else if r = 0x24 then some (capWord x.cap 3 (live.getD 3 0))
  else if r = 0x28 then some (capWord x.cap 4 (live.getD 4 0))
  else if r = 0x2C then some (capWord x.cap 5 (s.wordOf (0xC0000 + o)))
  else none

/-- The job whose marks a plane's registers show: the one that runs on it, the one queued for it, or the last.
(Mark: DEDUCED, log 154) -/
def State.shownJob (s : State) (p : Nat) : Option JobRun :=
  match s.job.running.filter (·.has p) with
  | some j => some j
  | none => match s.job.queued.filter (·.has p) with
    | some j => some j
    | none => s.job.last.filter (·.has p)

/-- floor(H), the next line index and S of a plane, as patterns. (Mark: DEDUCED, log 154) -/
def State.markHwm (s : State) (p : Nat) : Nat := match s.shownJob p with | some j => pat 64 (intPart (j.plane p).hwm) | none => 0
/-- Mark: DEDUCED, log 154. -/
def State.markNext (s : State) (p : Nat) : Nat := match s.shownJob p with | some j => (j.plane p).next | none => 0
/-- Mark: DEDUCED, log 154. -/
def State.markStart (s : State) (p : Nat) : Nat := match s.shownJob p with | some j => pat 96 (j.start.getD 0) | none => 0

/-- Words of the oldest defect entry (R121). (Mark: DEDUCED, log 155) -/
def DefectEnt.word (d : DefectEnt) (r : Nat) : Nat :=
  if r = 0x40 then low 8 d.plane + 2 ^ 8 * low 8 d.cause
  else if r = 0x44 then lo32 d.first
  else if r = 0x48 then lo32 d.lines
  else if r = 0x50 then lo32 (pat 64 d.start)
  else if r = 0x54 then hi32 (pat 64 d.start)
  else if r = 0x58 then lo32 (pat 64 d.stop)
  else if r = 0x5C then hi32 (pat 64 d.stop)
  else 0

/-- LINEGEN. -/
def State.lineWord (s : State) (o : Nat) : Option Nat :=
  let p := o / 256
  let r := o % 256
  let c := (s.plane p).cap
  if 0x840 ≤ o ∧ o < 0x860 then some (match s.line.defects with | d :: _ => d.word (o - 0x800) | [] => 0)
  else if 0x400 ≤ o then none
  else if r = 0x10 then some (lo32 (s.markStart p))
  else if r = 0x14 then some (hi32 (s.markStart p))
  else if r = 0x18 then some (lo32 (s.markStart p / 2 ^ 64))
  else if r = 0x1C then some (lo32 (s.markHwm p))
  else if r = 0x20 then some (capWord c 0 (hi32 (s.markHwm p)))
  else if r = 0x24 then some (capWord c 1 (lo32 (s.markNext p)))
  else if r = 0x28 then some (capWord c 2 (hi32 (s.markNext p)))
  else none

/-- REPEATS_DONE as JOB_STATUS gives it, and the end line E, all ones when there is none. -/
def State.repeatsShown (s : State) : Nat :=
  match s.job.running.orElse (fun _ => s.job.last) with | some j => j.repeatsDone | none => 0
/-- Mark: DEDUCED, log 154. -/
def State.endShown (s : State) : Nat :=
  match s.job.running.bind (fun j => j.stopAt) with | some e => e | none => 2 ^ 64 - 1

/-- The words of a ring after COMMITTED_LO. -/
def State.ringWords (s : State) (p : Nat) : List Nat :=
  let r := s.ring p
  [hi32 r.committed, lo32 r.consumed, hi32 r.consumed, min (s.ringLevel p) (2 ^ 32 - 1),
   min (r.consumed - r.committed) (2 ^ 32 - 1), s.get (Reg.JOB_RING_UNDERRUN p), s.wordOf (0xE0100 + 64 * p + 0x1C)]

/-- JOB. -/
def State.jobWord (s : State) (o : Nat) : Option Nat :=
  if o = 0x08 then some (lo32 s.repeatsShown)
  else if o = 0x0C then some (capWord s.job.cap 0 (hi32 s.repeatsShown))
  else if o = 0x10 then some (capWord s.job.cap 1 (lo32 s.endShown))
  else if o = 0x14 then some (capWord s.job.cap 2 (hi32 s.endShown))
  else if 0x100 ≤ o ∧ o < 0x200 ∧ o % 4 = 0 then
    let p := (o - 0x100) / 64
    let i := o % 64 / 4
    if i = 0 then some (lo32 (s.ring p).committed)
    else if i ≤ 7 then some (capWord (s.ring p).cap (i - 1) ((s.ringWords p).getD (i - 1) 0))
    else none
  else none

/-- HTONE: the counts over the tables in use. -/
def State.htoneWord (s : State) (o : Nat) : Option Nat :=
  if 0x400 ≤ o then none
  else if o % 256 = 0x18 then some (low 20 (s.deadCount (o / 256)))
  else if o % 256 = 0x1C then some (low 19 (s.uncovered (o / 256)))
  else none

/-- CAMRX: HS_ACTIVE follows the clock lane, which no command moves: a free value. -/
def State.camWord (s : State) (o : Nat) : Option Nat :=
  if o < 0x400 ∧ o % 256 = 0x60 then
    some ((s.setB (Reg.CAMRX_PORT_STATUS_HS_ACTIVE (o / 256)) (s.fresh % 2 == 1)).wordOf (0x150000 + o))
  else none

/-- The words of an axis that a read of POS_LO captures. (Mark: DEDUCED, log 22) -/
def State.axisWords (s : State) (a : Nat) : List Nat :=
  let s := s.setB (Reg.MOTION_AX_STATUS_COMPARE_PASSED a) (s.axisPassed a)
  [0x44, 0x48, 0x4C, 0x58, 0x5C].map (fun r => s.wordOf (0x180000 + 256 * a + r))

/-- MOTION. (Mark: DEDUCED, log 22) -/
def State.axisWord (s : State) (o : Nat) : Option Nat :=
  let a := o / 256
  let r := o % 256
  if 0x400 ≤ o then none
  else match [0x44, 0x48, 0x4C, 0x58, 0x5C].idxOf? r with
    | some i => some (capWord (s.axis a).cap i ((s.axisWords a).getD i 0))
    | none => none

/-- HIER: the subtree table and the weights (R394, R397). (Mark: DEDUCED, log 125) -/
def State.hierWord (s : State) (o : Nat) : Option Nat :=
  if o = 0x08 then some (1 + 2 ^ 8 * low 8 (s.srcWeight 0 1) + 2 ^ 16 * low 8 (s.srcWeight 0 2) +
    2 ^ 24 * low 8 (s.srcWeight 0 3))
  else if o = 0x18 then some ((s.set Reg.HIER_STATUS_NODES s.hier.nodes.length).wordOf 0x1B0018)
  else if 0x100 ≤ o ∧ o < 0x1FC ∧ o % 4 = 0 then
    some (match s.nodeList[(o - 0x100) / 4]? with | some n => n.word | none => 2 ^ 32 - 1)
  else none

/-- PAIR: STATUS.ILK_OUT is the level of the pin (R418). -/
def State.pairWord (s : State) (o : Nat) : Option Nat :=
  if o = 4 ∧ s.ilkOut then some (s.wordOf 0x1C0004 ||| 512) else none

/-- The words that a unit keeps elsewhere than in the register store. -/
def State.unitWord (s : State) (a : Nat) : Option Nat :=
  let o := a % 0x10000
  match a / 0x10000 with
  | 0 => if o = 0x208 then some s.gpioIn else none
  | 2 => if o = 0 then some (((s.set Reg.CMD_STATUS_OUTSTANDING s.outCount).set
      Reg.CMD_STATUS_EVT_QUEUED s.queued.length).wordOf 0x20000) else none
  | 3 => if o = 4 then some ((s.set Reg.LOG_STATUS_ENTRIES s.host.log.length).wordOf 0x30004)
    else if 0x8000 ≤ o then some (s.logWord o) else none
  | 4 => if o < 0x80 ∧ o % 32 = 0x10 then some (pat 32 (s.slewNs (o / 32))) else none
  | 6 => if o = 4 then some s.calStatus else none
  | 7 => s.otpWord o
  | 8 => s.memctlWord o
  | 9 => s.eccWord o
  | 10 => s.dmaWord o
  | 11 => s.packWord o
  | 12 => s.encWord o
  | 13 => s.lineWord o
  | 14 => s.jobWord o
  | 16 => s.htoneWord o
  | 21 => s.camWord o
  | 24 => s.axisWord o
  | 26 => if o < 0x400 ∧ o % 256 = 4 then
      some ((s.setB (Reg.ZLINK_PORT_STATUS_PAIR (o / 256)) (s.isPairPort (o / 256))).wordOf a) else none
  | 27 => s.hierWord o
  | 28 => s.pairWord o
  | _ => none

/-- A register word as a read returns it. -/
def State.regWord (s : State) (a : Nat) : Nat := match s.unitWord a with | some w => w | none => s.wordOf a

/-! ### Captures (R84, R428 and the register tables) -/

/-- What a read of a register word captures. (Mark: DEDUCED, log 22) -/
def State.capture (s : State) (a : Nat) : State :=
  let o := a % 0x10000
  match a / 0x10000 with
  | 4 => if o < 0x80 ∧ o % 32 = 0 then s.captureTb (o / 32) else s
  | 10 => if o < 0x1000 ∧ o % 128 = 0x48 then
      s.modDma (o / 128) (fun c => { c with capHi := s.get (Reg.DMA_CH_DONE_HI (o / 128)) }) else s
  | 11 => if o < 0x200 ∧ o % 64 = 0x20 then
      { s with pack := { s.pack with
        caps := modAt (fun _ => some (s.get (Reg.PACK_SLOT_PRODUCED (o / 64)))) (o / 64) s.pack.caps } } else s
  | 12 => if o < 0x400 ∧ o % 256 = 0x08 then
      s.modEnc (o / 256) (fun x => { x with cap := some (s.encWords (o / 256) ++ [s.wordOf (a + 0x24)]) }) else s
  | 13 => if o < 0x400 ∧ o % 256 = 0x1C then
      let p := o / 256
      s.modPlane p (fun x => { x with cap := some [hi32 (s.markHwm p), lo32 (s.markNext p), hi32 (s.markNext p)] }) else s
  | 14 => if o = 0x08 then
      { s with job := { s.job with cap := some [hi32 s.repeatsShown, lo32 s.endShown, hi32 s.endShown] } }
    else if 0x100 ≤ o ∧ o < 0x200 ∧ o % 64 = 0 then
      let p := (o - 0x100) / 64
      s.modRing p (fun r => { r with cap := some (s.ringWords p) })
    else s
  | 24 => if o < 0x400 ∧ o % 256 = 0x40 then
      s.modAxis (o / 256) (fun x => { x with cap := some (s.axisWords (o / 256)) }) else s
  | _ => s

/-- A read of one register word; each read uses a free value up. -/
def State.readReg (s : State) (a : Nat) : State × Nat :=
  let s := s.capture a
  (s.used, s.regWord a)

/-- A read of one word of table memory: the set in use (R69, R182). (Mark: DEDUCED, log 52) -/
def State.readTabWord (s : State) (addr : Nat) : Nat :=
  if tabUnused addr then 0 else leNat (s.readTab (s.wordBank addr) addr 4)

/-! ### Ranges (R49, R65) -/

/-- A range of words in table memory that is mapped throughout. -/
def tabRange (a n : Nat) : Bool := decide (tabBase ≤ a ∧ a < regBase) && (List.range n).all (fun i => tabMapped (a + 4 * i))

/-- A range of words in the register blocks. -/
def regRange (a n : Nat) : Bool := decide (regBase ≤ a ∧ a + 4 * n ≤ regBase + regBytes)

/-- A range of words that lies in one region of the map, aligned. -/
def rangeOk (a n : Nat) : Bool := a % 4 == 0 && n != 0 && (inDram a (4 * n) || tabRange a n || regRange a n)

/-- Words of registers or table memory, in ascending order. -/
def State.readWords (s : State) (a : Nat) : Nat → State × List Nat
  | 0 => (s, [])
  | n + 1 =>
    let r := if regBase ≤ a then s.readReg (a - regBase) else (s, s.readTabWord a)
    let x := r.1.readWords (a + 4) n
    (x.1, r.2 :: x.2)

/-- A read of words by the host: its status, the words and the state after it (R49, R276 requester 7). -/
def State.hostRead (s : State) (a n : Nat) : Nat × List Nat × State :=
  if !rangeOk a n then (stBadParam, [], s)
  else if inDram a (4 * n) then
    let (s, d, bad) := s.fetch a (4 * n)
    if bad.isEmpty then (stOk, wordsOf d, s) else (stMemUncorrectable, [], s.meetUes bad 7)
  else
    let x := s.readWords a n
    (stOk, x.2, x.1)

/-- REG_READ. -/
def cmdRegRead (addr count : Nat) (s : State) : Res :=
  let (st, ws, s) := s.hostRead addr count
  if st = stOk then Res.okData (ws.flatMap (leBytes 4)) s else Res.err st s

end Sys2Proof.Machine
end

