-- ==== Sys2Proof/Machine/RegWrite.lean ====
section
/-! DEFINITION. Writing words of the address map: the access types, what a write of a register does and when it is
refused, table memory, DRAM, and the commands that write (03_address_map.md R65 to R77; R49; the register tables). -/

namespace Sys2Proof.Machine

/-- Write a register word by its fields' access types (R3, R73): a W1C bit written 1 clears, reserved bits are
ignored. -/
def State.putWord (s : State) (a v : Nat) : State :=
  (fieldsAt a).foldl (fun (s : State) f =>
    let x := bits v f.lo f.w
    match f.acc with
    | .rw => s.set f x
    | .rwf => s.set f x
    | .w1c => s.clearOnes f x
    | .ro => s
    | .wo => s) s

/-- A write accepted or refused: on a refusal nothing is written. -/
def guardWrite (s : State) (ok : Bool) (st : Nat) (t : State) : Nat × State := if ok then (stOk, t) else (st, s)

/-! ### SYS, LADDER, THERM, CAL -/

/-- CLR_MIN: every PACEe.MIN becomes 0xFFFF (PACE_CTRL). -/
def State.clrMin (s : State) : State := (List.range 9).foldl (fun (s : State) e => s.set (Reg.SYS_PACE_MIN e) 0xFFFF) s

def State.writeSys (s : State) (a v : Nat) : Nat × State :=
  if a = 0x130 then
    let s := s.putWord a v
    (stOk, if bit v 0 then s.clrMin else s)
  else if a = 0x138 then (stOk, (s.putWord a v).refclkBack)
  else if a = 0x200 then s.writeGpioDir (low 16 v)
  else (stOk, s.putWord a v)

def State.writeLadder (s : State) (a v : Nat) : Nat × State :=
  if a = 0x10000 then (stOk, (s.putWord a v).setAutoL1 (bit v 0))
  else if a = 0x10014 then s.putFloor (low 12 v)
  else (stOk, s.putWord a v)

/-- T_WARN from 70.0 to 110.0 °C, T_THROTTLE from T_WARN + 0.1 to 110.0 °C (thermal thresholds). -/
def threshOk (warn throttle : Nat) : Bool := decide (700 ≤ warn ∧ warn ≤ 1100 ∧ warn < throttle ∧ throttle ≤ 1100)

/-- Mark: DEDUCED, log 156. -/
def State.writeTherm (s : State) (a v : Nat) : Nat × State :=
  if a = 0x50060 then (stOk, s.clearBroken (low 20 v))
  else if a = 0x50068 then guardWrite s (threshOk (bits v 0 16) (bits v 16 16)) stBadParam (s.putWord a v)
  else if a = 0x50078 then guardWrite s (decide (700 ≤ bits v 0 16 ∧ bits v 0 16 ≤ 1140)) stBadParam (s.putWord a v)
  else (stOk, s.putWord a v)

def State.writeCal (s : State) (a v : Nat) : Nat × State :=
  if a = 0x60000 then guardWrite s (calDtOk (low 16 v)) stBadParam (s.putWord a v) else (stOk, s.putWord a v)

/-! ### MEMCTL, ECC, DMA -/

def State.writeMemctl (s : State) (a v : Nat) : Nat × State :=
  if a = 0x80014 then
    if bit v 31 then
      let r := (s.putWord a v).invalidate (bits v 0 18)
      if r.1 = stOk then r else (r.1, s)
    else (stOk, s.putWord a v)
  else if a = 0x80018 then s.recover (bit v 31) (bits v 0 18)
  else if a = 0x8001C then (stOk, if s.flag Reg.MEMCTL_RECOVER_FIRST_ACTIVE then s else s.putWord a v)
  else (stOk, s.putWord a v)

/-- UE_POP (R278): the oldest entry goes. -/
def State.uePop (s : State) : State := s.modMem (fun m => { m with ueLog := m.ueLog.drop 1 })

def State.writeEcc (s : State) (a v : Nat) : Nat × State :=
  if a = 0x90018 then (stOk, if bit v 0 then s.uePop else s) else (stOk, s.putWord a v)

def State.writeDma (s : State) (a v : Nat) : Nat × State :=
  if a < 0xA1000 ∧ a % 128 = 0x44 then (if bit v 31 then s.dmaCommit ((a - 0xA0000) / 128) else (stOk, s))
  else (stOk, s.putWord a v)

/-! ### ENC, LINEGEN, COMPOSE, HTONE, HEADPORT -/

def State.writeEnc (s : State) (a v : Nat) : Nat × State :=
  let o := a - 0xC0000
  if o < 0x400 ∧ o % 256 = 0 then guardWrite s (!s.encPrints (o / 256)) stBadState (s.putWord a v)
  else if o < 0x400 ∧ o % 256 = 0x2C then
    let s' := s.putWord a (v - (v &&& 0x200))
    (stOk, if bit v 9 then s'.clearZFault (o / 256) else s')
  else if 0x400 ≤ o ∧ o < 0x480 ∧ o % 64 = 4 then
    let s' := s.putWord a v
    (stOk, if bit v 20 then s'.ssiDue ((o - 0x400) / 64) else s')
  else if 0x800 ≤ o ∧ o < 0x900 ∧ o % 32 = 4 then (stOk, s.writeCmpLo s.axisPos ((o - 0x800) / 32) v)
  else if 0x800 ≤ o ∧ o < 0x900 ∧ o % 32 = 8 then (stOk, s.holdCmpHi ((o - 0x800) / 32) v)
  else (stOk, s.putWord a v)

/-- A base offset of a head (R112, R252): it flips at once on a plane that does not print. (Mark: DEDUCED, log 159) -/
def State.writeHoff (s : State) (a p h v : Nat) : Nat × State :=
  if !s.offsetOk p h (sgn 32 v) then (stBadParam, s)
  else
    let s := s.putWord a v
    (stOk, (if s.prints p then s else s.flipAll (hoffGroup p)).waitMark p)

/-- CONFIG, CPL_LO, CPL_HI and DELAY (R111, R131). -/
def State.writePlane (s : State) (a p r v : Nat) : Nat × State :=
  let t := s.putWord a v
  if r ≤ 0x0C ∧ s.inUse p then (stBadState, s)
  else if r = 0 then (stOk, t.showLookahead p)
  else if r = 8 then
    guardWrite s (cplOk (t.get (Reg.LINEGEN_PL_CPL_LO p) + 2 ^ 32 * low 32 v)) stBadParam (t.commitCpl p)
  else (stOk, t)

def State.writeLinegen (s : State) (a v : Nat) : Nat × State :=
  let o := a - 0xD0000
  if o < 0x400 then s.writePlane a (o / 256) (o % 256) v
  else if o = 0x800 then
    let s := s.putWord a v
    (stOk, { s with line := { s.line with wspdSeen := s.line.wspdSeen || bit v 0 } })
  else if o = 0x838 then (stOk, if bit v 0 then s.defectPop else s)
  else if 0x1000 ≤ o ∧ o < 0x1400 ∧ o % 256 < 192 then s.writeHoff a ((o - 0x1000) / 256) (o % 256 / 4) v
  else (stOk, s.putWord a v)

/-- A word of a layer (R155, R156). (Mark: DEDUCED, log 156) -/
def State.writeLayer (s : State) (a p layer v : Nat) : Nat × State :=
  let t := s.putWord a v
  let l := layerOf t.get p layer
  let st := if l.enable && !s.geomFree p layer then geomStatus layer l.addr l.width l.height l.stride else stOk
  if st = stOk then (stOk, t.layerNow p (layerGroup p layer)) else (st, s)

def State.writeCompose (s : State) (a v : Nat) : Nat × State :=
  let o := a - 0xF0000
  let p := o / 256
  let r := o % 256
  if 0x400 ≤ o ∨ (fieldsAt a).isEmpty then (stOk, s.putWord a v)
  else if r < 0x20 then s.writeLayer a p 1 v
  else if r < 0x40 then s.writeLayer a p 2 v
  else if r < 0x58 then s.writeLayer a p 3 v
  else if r < 0x60 then (stOk, (s.putWord a v).layerNow p (kitePosGroup p))
  else (stOk, s.putWord a v)

/-- GEOM and the bases of a plane (R184). -/
def State.writeHtone (s : State) (a v : Nat) : Nat × State :=
  let o := a - 0x100000
  let p := o / 256
  let r := o % 256
  let ok :=
    if r = 0x00 then decide (bits v 0 10 ≤ 512)
    else if r = 0x08 then decide (bits v 0 20 % 2 = 0 ∧ bits v 0 20 ≤ 786430)
    else if r = 0x0C then decide (bits v 0 19 % 4 = 0)
    else decide (bits v 0 20 % 32 = 0 ∧ bits v 0 20 ≤ 786400)
  if o < 0x400 ∧ (r = 0 ∨ r = 8 ∨ r = 0x0C ∨ r = 0x10) then
    if s.inUse p then (stBadState, s) else guardWrite s ok stBadParam ((s.putWord a v).showShape p)
  else (stOk, s.putWord a v)

def State.writeHeadport (s : State) (a v : Nat) : Nat × State :=
  let g := a / 0x10000 - 17
  let o := a % 0x10000
  if o < 0xC000 then (stOk, if o % 0x1000 = 0 then s.enablePort (12 * g + o / 0x1000) (bit v 0) else s.putWord a v)
  else if o = 0xC000 then s.writeStbMax g (low 13 v)
  else if o = 0xC004 then s.writeVheadNom g (low 12 v)
  else (stOk, s.putWord a v)

/-! ### CAMRX, MEASURE, MOTION -/

/-- A record with one word replaced. -/
def withWord (r : List Byte) (w v : Nat) : List Byte := spliceAt r (4 * w) (leBytes 4 v)

def State.writeCamrx (s : State) (a v : Nat) : Nat × State :=
  let o := a - 0x150000
  if o < 0x400 ∧ o % 256 < 0x60 then s.writeCam (o / 256) (withWord (s.camRecord (o / 256)) (o % 256 / 4) v)
  else (stOk, s.putWord a v)

/-- The fields of PLp.LADDER and PLp.TICK lie within their ranges (MEASURE register tables).
(Mark: DEDUCED, log 156) -/
def ladderOk (v : Nat) : Bool :=
  decide (4 ≤ bits v 0 6 ∧ 2 ≤ bits v 8 6 ∧ bits v 8 6 ≤ 62 ∧ 2 ≤ bits v 16 6 ∧ 1 ≤ bits v 24 4)
/-- Mark: DEDUCED, log 156. -/
def tickOk (v : Nat) : Bool := decide (16 ≤ bits v 0 9 ∧ 4 ≤ bits v 16 6 ∧ 2 ≤ bits v 24 8)

/-- COLOUR_CFG: CORR_MAX lies from 0 to 5,000 (MEASURE register tables). (Mark: DEDUCED, log 156) -/
def colourCfgOk (v : Nat) : Bool := decide (bits v 0 13 ≤ 5000)

/-- WORK_HI sets VALID for an area of 4 MiB in general DRAM that is a multiple of 0x40_0000 (R241, R258).
(Mark: DEDUCED, log 86) -/
def State.workOk (s : State) (v : Nat) : Bool :=
  let a := s.get Reg.MEASURE_WORK_LO + 2 ^ 32 * low 8 v
  !bit v 31 || (a % 0x400000 == 0 && decide (a + 0x400000 ≤ protBase))

/-- Mark: DEDUCED, log 156. -/
def State.writeMeasure (s : State) (a v : Nat) : Nat × State :=
  let o := a - 0x170000
  if 0x1000 ≤ o ∧ o < 0x1400 then
    if s.loopRuns 0 || s.loopRuns 1 || s.loopRuns 2 then (stBadState, s)
    else
      let ok := if o = 0x100C then s.workOk v
        else if o = 0x101C then colourCfgOk v
        else if 0x1100 ≤ o ∧ o < 0x1300 ∧ o % 128 = 0x1C then ladderOk v
        else if 0x1100 ≤ o ∧ o < 0x1300 ∧ o % 128 = 0x24 then tickOk v
        else true
      guardWrite s ok stBadParam (s.putWord a v)
  else if 0x2000 ≤ o ∧ o < 0x2400 ∧ o % 16 = 0 then
    guardWrite s (!bit v 24 || s.get (Reg.MEASURE_PATCH_TARGET_SLOPE ((o - 0x2000) / 16)) != 0) stBadParam (s.putWord a v)
  else (stOk, s.putWord a v)

/-- Mark: DEDUCED, log 157. -/
def State.writeMotion (s : State) (a v : Nat) : Nat × State :=
  let o := a - 0x180000
  if o < 0x400 ∧ o % 256 < 0x40 then s.writeAxis (o / 256) (withWord (s.axisRecord (o / 256)) (o % 256 / 4) v)
  else if o < 0x400 ∧ o % 256 = 0x6C then
    if bit v 31 then
      let r := (s.putWord a v).tableGo (o / 256)
      if r.1 = stOk then r else (r.1, s)
    else (stOk, s.putWord a v)
  else if 0x800 ≤ o ∧ o < 0xC00 ∧ o % 128 = 0 then
    (stOk, (s.writeEdge ((o - 0x800) / 128) (low 1 v)).putWord a v)
  else (stOk, s.putWord a v)

/-! ### ZPHY, PAIR -/

/-- PORTp.CONFIG: ENABLE 0 takes the port down; ENABLE 1 on a disabled port, and RESTART, start training with the stored
values (R358, R360). (Mark: DEDUCED, log 153) -/
def State.writePortCfg (s : State) (a p v : Nat) : State :=
  let was := s.flag (Reg.ZPHY_PORT_CONFIG_ENABLE p)
  let s := s.putWord a v
  let s := if was && !bit v 0 then s.disablePort p else s
  if bit v 31 || (!was && bit v 0) then s.restartPort p else s

def State.writeZphy (s : State) (a v : Nat) : Nat × State :=
  let o := a - 0x190000
  if o < 0x400 ∧ o % 256 = 0 then (stOk, s.writePortCfg a (o / 256) v)
  else if o < 0x400 ∧ o % 256 = 4 then
    guardWrite s (eqOk (bits v 0 4) (bits v 8 6) (bits v 16 5)) stBadParam (s.putWord a v)
  else (stOk, s.putWord a v)

def State.writePair (s : State) (a v : Nat) : Nat × State :=
  if a = 0x1C0000 then
    let r := cmdPairConfig (bits v 0 1) (bits v 1 2) s
    (r.status, r.s)
  else (stOk, s.putWord a v)

/-! ### A word -/

/-- Blocks that a standby refuses to have written: JOB, LINEGEN, COMPOSE, HTONE and HEADPORT (R77), and DMA, whose chapter says
the same of its block. (Mark: DEDUCED, log 43) -/
def ownerBlock (a : Nat) : Bool := a / 0x10000 ∈ [10, 13, 14, 15, 16, 17, 18, 19, 20]

/-- A host write of one register word: its status, and the state after it. -/
def State.writeReg (s : State) (a v : Nat) : Nat × State :=
  if s.standby && ownerBlock a then (stNotOwner, s)
  else match a / 0x10000 with
    | 0 => s.writeSys a v
    | 1 => s.writeLadder a v
    | 5 => s.writeTherm a v
    | 6 => s.writeCal a v
    | 8 => s.writeMemctl a v
    | 9 => s.writeEcc a v
    | 10 => s.writeDma a v
    | 12 => s.writeEnc a v
    | 13 => s.writeLinegen a v
    | 15 => s.writeCompose a v
    | 16 => s.writeHtone a v
    | 17 => s.writeHeadport a v
    | 18 => s.writeHeadport a v
    | 19 => s.writeHeadport a v
    | 20 => s.writeHeadport a v
    | 21 => s.writeCamrx a v
    | 23 => s.writeMeasure a v
    | 24 => s.writeMotion a v
    | 25 => s.writeZphy a v
    | 28 => s.writePair a v
    | _ => (stOk, s.putWord a v)

/-! ### Table memory (R70, R71, R182) -/

/-- An axis executes the segment set that holds a word. -/
def State.segBusy (s : State) (o : Nat) : Bool :=
  let a := (o - 0x508000) / 0x2000
  (s.axis a).run.mode == 2 && s.activeB a == decide (0x1000 ≤ o % 0x2000)

/-- The status of a host write of a word of table memory. -/
def State.tabStatus (s : State) (addr : Nat) : Nat :=
  let o := addr - tabBase
  if 0x330000 ≤ o ∧ o < 0x331000 then stProtected
  else if (s.wordPlanes addr).any s.prints then stBadState
  else if 0x400000 ≤ o ∧ o < 0x440000 then (if s.camReceiving ((o - 0x400000) / 0x10000) then stBadState else stOk)
  else if 0x440000 ≤ o ∧ o < 0x448000 then (if s.camReceiving ((o - 0x440000) / 0x2000) then stBadState else stOk)
  else if 0x508000 ≤ o ∧ o < 0x510000 then (if s.segBusy o then stBadState else stOk)
  else if 0x800000 ≤ o then (if s.flag Reg.PAIR_CTRL_ENABLE then stBadState else stOk)
  else stOk

/-- A host write of one word of table memory. (Mark: DEDUCED, log 52) -/
def State.writeTabWord (s : State) (addr v : Nat) : Nat × State :=
  let st := s.tabStatus addr
  if st ≠ stOk then (st, s)
  else if tabUnused addr then (stOk, s)
  else (stOk, s.putTabs (s.wordBank addr) addr (leBytes 4 v))

/-! ### Ranges (R49) -/

/-- Write words of registers or table memory in ascending order, each checked against what the earlier ones leave.
(Mark: DEDUCED, log 150) -/
def State.writeWords (s : State) (a : Nat) : List Nat → Nat × State
  | [] => (stOk, s)
  | v :: vs =>
    let r := if regBase ≤ a then s.writeReg (a - regBase) v else s.writeTabWord a v
    if r.1 = stOk then r.2.writeWords (a + 4) vs else r

/-- A write of words by the host: its status, and the state after it. A refusal writes nothing; one that the memory
controller makes is counted (R67, R77, R280). (Mark: DEDUCED, log 150; DEDUCED, log 151) -/
def State.hostWrite (s : State) (a : Nat) (ws : List Nat) : Nat × State :=
  let n := ws.length
  if !rangeOk a n then (stBadParam, s)
  else if inDram a (4 * n) then
    if s.standby then (stNotOwner, s.incSat Reg.MEMCTL_PROT_REFUSED_COUNT 1)
    else if touchesProt a (4 * n) then (stProtected, s.incSat Reg.MEMCTL_PROT_REFUSED_COUNT 1)
    else
      let (t, bad) := s.writeMem true a (ws.flatMap (leBytes 4))
      if bad.isEmpty then (stOk, t) else (stMemUncorrectable, s.meetUes bad 7)
  else
    let r := s.writeWords a ws
    if r.1 = stOk then r else (r.1, s)

/-- REG_WRITE. -/
def cmdRegWrite (addr : Nat) (words : List Nat) (s : State) : Res :=
  let r := s.hostWrite addr words
  Res.err r.1 r.2

/-- The write-1-to-clear bits of a word (R70, R74). -/
def w1cMask (a : Nat) : Nat :=
  if a < regBase then 0
  else (((fieldsAt (a - regBase)).filter (fun f => f.acc == .w1c)).map (fun f => (2 ^ f.w - 1) * 2 ^ f.lo)).sum

/-- REG_MODIFY (R74): read, merge under MASK, write. -/
def cmdRegModify (addr mask value : Nat) (s : State) : Res :=
  let (st, ws, s) := s.hostRead addr 1
  if st ≠ stOk then Res.err st s
  else
    let old := ws.getD 0 0
    let keep := old - (old &&& (mask ||| w1cMask addr))
    let r := s.hostWrite addr [keep + (value &&& mask)]
    if r.1 = stOk then Res.okData (leBytes 4 old) r.2 else Res.err r.1 r.2

/-! ### Register-write rows -/

/-- A register write at an instant at which the device is awake, by the same operation as REG_WRITE; a refused one changes
nothing but the count of the memory controller. Offsets are from 0x20_0000_0000. (Mark: DEDUCED, log 152) -/
def regEvent (a v t : Nat) (s : State) : Host.Outcome State Fault Refusal :=
  eventAwake t (fun s => (s.hostWrite (regBase + a) [low 32 v]).2) s

/-- REGISTER_FIELD_WRITE: a word anywhere in the map. -/
def execRegisterFieldWrite (addr value t : Nat) (s : State) : Host.Outcome State Fault Refusal :=
  eventAwake t (fun s => (s.hostWrite addr [low 32 value]).2) s

/-- CLR_MIN. -/
def execClrMin (t : Nat) (s : State) : Host.Outcome State Fault Refusal := eventAwake t State.clrMin s

/-- GPIO_DIR_WRITE (R23). -/
def execGpioDirWrite (value t : Nat) (s : State) : Host.Outcome State Fault Refusal := regEvent 0x200 value t s

/-- CLK_STATUS_LOST_CLEAR (R16). -/
def execClkStatusLostClear (t : Nat) (s : State) : Host.Outcome State Fault Refusal := regEvent 0x138 4 t s

/-- CMP_POS_LO_WRITE (R102). -/
def execCmpPosLoWrite (u : Fin 8) (value t : Nat) (s : State) : Host.Outcome State Fault Refusal :=
  regEvent (Reg.ENC_CMP_POS_LO u).addr value t s

/-- CPL_HI_WRITE (R111, R131). -/
def execCplHiWrite (p : Fin 4) (value t : Nat) (s : State) : Host.Outcome State Fault Refusal :=
  regEvent (Reg.LINEGEN_PL_CPL_HI p).addr value t s

/-- DEFECT_POP (R121). -/
def execDefectPop (t : Nat) (s : State) : Host.Outcome State Fault Refusal := regEvent 0xD0838 1 t s

/-- UE_POP (R278). -/
def execUePop (t : Nat) (s : State) : Host.Outcome State Fault Refusal := regEvent 0x90018 1 t s

/-- INVAL_GO (R270), with the COUNT that the register holds. (Mark: DEDUCED, log 152) -/
def execInvalGo (t : Nat) (s : State) : Host.Outcome State Fault Refusal :=
  eventAwake t (fun s => (s.hostWrite (regBase + 0x80014) [s.get Reg.MEMCTL_INVAL_CTRL_COUNT + 2 ^ 31]).2) s

/-- RECOVER_ACTIVE_WRITE (R273), with the REGION that the register holds. (Mark: DEDUCED, log 152) -/
def execRecoverActiveWrite (active : Bool) (t : Nat) (s : State) : Host.Outcome State Fault Refusal :=
  eventAwake t (fun s =>
    (s.hostWrite (regBase + 0x80018) [s.get Reg.MEMCTL_RECOVER_FIRST_REGION + (if active then 2 ^ 31 else 0)]).2) s

/-- TABLE_COMMIT (R298), with the LAST_INDEX that the register holds. (Mark: DEDUCED, log 152) -/
def execTableCommit (a : Fin 4) (t : Nat) (s : State) : Host.Outcome State Fault Refusal :=
  eventAwake t (fun s => (s.hostWrite (regBase + (Reg.MOTION_AX_TABLE_COMMIT_GO a).addr)
    [s.get (Reg.MOTION_AX_TABLE_COMMIT_LAST_INDEX a) + 2 ^ 31]).2) s

/-- DMA_COMMIT (R320). -/
def execDmaCommit (ch : Fin 32) (t : Nat) (s : State) : Host.Outcome State Fault Refusal :=
  regEvent (Reg.DMA_CH_COMMIT_GO ch).addr (2 ^ 31) t s

/-- PMBUS_FAULT_CLEAR (R472). -/
def execPmbusFaultClear (t : Nat) (s : State) : Host.Outcome State Fault Refusal := regEvent 0x10018 1 t s

end Sys2Proof.Machine
end

