-- ==== Sys2Proof/Machine/HostExec.lean ====
section
/-! DEFINITION. The command interpreter (02_command_packets.md): arrival, placing, forwarding and execution of command
packets, framing on the management SPI, and the meaning of every opcode row. -/

namespace Sys2Proof.Machine

/-! ### System and diagnostics opcodes (R50, R59 to R61) -/

/-- GET_INFO. (Mark: DESIGN CHOICE, log 138) -/
def cmdGetInfo (s : State) : Res :=
  Res.okData (leBytes 8 Config.deviceId ++ leBytes 2 (low 16 Config.fwMajor) ++ leBytes 2 s.fwMinor ++
    leBytes 2 s.patchId ++ leBytes 1 s.myId ++ leBytes 1 (s.get Reg.PAIR_STATUS_ROLE) ++
    leBytes 1 (s.get Reg.LADDER_STATE) ++ leBytes 1 1) s

/-- GET_STATUS: FAULT_GROUPS is cleared by CLEAR 1 (R50). -/
def cmdGetStatus (clear : Nat) (s : State) : Res :=
  Res.okData (leBytes 2 s.host.faultGroups ++ leBytes 1 s.outCount ++ [0] ++ leBytes 2 s.queued.length ++ [0, 0] ++
      leBytes 4 (s.get Reg.CMD_ERR_COUNT_EVT_LOST) ++ leBytes 4 (s.get Reg.CMD_ERR_COUNT_CRC))
    (if clear = 1 then { s with host := { s.host with faultGroups := 0 } } else s)

/-- LOG_READ (R60). -/
def cmdLogRead (first count : Nat) (s : State) : Res :=
  Res.okData (((s.host.log.drop first).take count).flatMap evtBytes) s

/-- LOG_CLEAR (R59). -/
def cmdLogClear (counters : Nat) (s : State) : Res :=
  let s := { s with host := { s.host with log := [], logFullRaised := false } }.set Reg.LOG_STATUS_DROPPED 0
  Res.ok (if counters = 1 then (s.set Reg.CMD_ERR_COUNT_CRC 0).set Reg.CMD_ERR_COUNT_EVT_LOST 0 else s)

/-- The registers of a block with a field that wraps or saturates, in ascending order (R61).
(Mark: DEDUCED, log 137) -/
def counterAddrs (n : Nat) : List Nat :=
  ((List.range 16384).map (fun i => n * 0x10000 + 4 * i)).filter (fun a => (fieldsAt a).any (·.cnt))

/-- COUNTERS_READ (R61). (Mark: DEDUCED, log 137) -/
def cmdCountersRead (n : Nat) (s : State) : Res :=
  Res.okData ((counterAddrs n).flatMap (fun a => leBytes 4 (s.regWord a))) s

/-! ### Values that a parameter field admits (R36 check 5, R506) -/

/-- A register field can hold the value. (Mark: DEDUCED, log 131) -/
def fits (f : Fld) (v : Nat) : Bool := decide (v < 2 ^ f.w)

/-- An address of 40 bits. (Mark: DEDUCED, log 131) -/
def addr40 (a : Nat) : Bool := decide (a < 2 ^ 40)

/-- Indexes and flags. -/
def upTo (n x : Nat) : Bool := decide (x ≤ n)

/-- The width, height and stride that the registers of a layer hold. -/
def layerFits (layer width height stride : Nat) : Bool :=
  if layer = 1 then fits (Reg.COMPOSE_PL_VAR_WIDTH 0) width && fits (Reg.COMPOSE_PL_VAR_HEIGHT 0) height &&
    fits (Reg.COMPOSE_PL_VAR_STRIDE 0) stride
  else if layer = 2 then fits (Reg.COMPOSE_PL_OVL_WIDTH 0) width && fits (Reg.COMPOSE_PL_OVL_HEIGHT 0) height &&
    fits (Reg.COMPOSE_PL_OVL_STRIDE 0) stride
  else fits (Reg.COMPOSE_PL_KITE_SIZE_WIDTH 0) width && fits (Reg.COMPOSE_PL_KITE_SIZE_HEIGHT 0) height &&
    fits (Reg.COMPOSE_PL_KITE_STRIDE 0) stride

/-- The parameter values that the opcode rows and R506 admit. What depends on the state, and what the record of an
opcode holds, is checked by the opcode itself. (Mark: DEDUCED, log 43; DEDUCED, log 131; DEDUCED, log 132) -/
def HostCmd.valuesOk : HostCmd → Bool
  | .nop => true
  | .getInfo => true
  | .regRead addr count => decide (1 ≤ count ∧ count ≤ 1019) && rangeOk addr count
  | .regWrite addr words => decide (1 ≤ words.length ∧ words.length ≤ 1016) && rangeOk addr words.length
  | .regModify addr _ _ => rangeOk addr 1
  | .reset kind force => upTo 1 kind && upTo 1 force
  | .getStatus clear => upTo 1 clear
  | .memFill addr len _ => len != 0 && addr % 64 == 0 && len % 64 == 0 && inDram addr len
  | .memMode mode => upTo 1 mode
  | .dmaStart channel toShadow _ => upTo 31 channel && upTo 1 toShadow
  | .dmaAbort channel => upTo 31 channel
  | .packStart slot level src dst srcLen dstLen =>
      upTo 7 slot && decide (1 ≤ level ∧ level ≤ 9) && addr40 src && addr40 dst && decide (srcLen ≠ 0 ∧ 512 ≤ dstLen)
  | .unpackStart slot _ src dst srcLen dstLen =>
      upTo 7 slot && addr40 src && addr40 dst && decide (srcLen ≠ 0 ∧ 512 ≤ dstLen)
  | .packResume slot dst dstLen => upTo 7 slot && addr40 dst && decide (512 ≤ dstLen)
  | .packSlot slot release => upTo 7 slot && upTo 1 release
  | .jobDefine jobId planeMask endMode endValue _ =>
      upTo 3 jobId && upTo 15 planeMask && upTo 2 endMode && decide (planeMask ≠ 0 ∧ (endMode = 2 ∨ endValue ≠ 0))
  | .jobStart jobId arm _ _ => upTo 3 jobId && upTo 3 arm
  | .jobStop when_ dropQueued => upTo 1 when_ && upTo 1 dropQueued
  | .jobStatus => true
  | .streamCommit plane _ => upTo 3 plane
  | .layerSet plane layer enable _ premult flipAt addr width height stride =>
      upTo 3 plane && decide (1 ≤ layer ∧ layer ≤ 3) && upTo 1 enable && upTo 1 premult && upTo 1 flipAt && addr40 addr &&
      layerFits layer width height stride
  | .kiteMove plane flipAt kiteX kiteY =>
      upTo 3 plane && upTo 1 flipAt && fits (Reg.COMPOSE_PL_KITE_X 0) kiteX && fits (Reg.COMPOSE_PL_KITE_Y 0) kiteY
  | .pload plane rects src _ => upTo 3 plane && decide (1 ≤ rects ∧ rects ≤ 64) && addr40 src
  | .plock plane => upTo 3 plane
  | .punlock plane _ => upTo 3 plane
  | .tableLoad plane table flipAt src _ => upTo 3 plane && upTo 5 table && upTo 1 flipAt && addr40 src
  | .headProfile plane _ => upTo 3 plane
  | .headMap plane ports => upTo 3 plane && decide (1 ≤ ports.length ∧ ports.length ≤ 48) && ports.all (upTo 47)
  | .portEnable portMask enable => decide (portMask < 2 ^ 48) && upTo 1 enable
  | .portClear portMask => decide (portMask < 2 ^ 48)
  | .headRead port => upTo 47 port
  | .preheatTarget plane _ => upTo 3 plane
  | .encConfig enc filter bandwidth standstillMs relayEnable =>
      upTo 3 enc && fits (Reg.ENC_CONFIG_FILTER 0) filter && decide (20 ≤ bandwidth ∧ bandwidth ≤ 2000) &&
      fits (Reg.ENC_STANDSTILL_STANDSTILL_MS 0) standstillMs && upTo 1 relayEnable
  | .encReference enc _ => upTo 3 enc
  | .encRead enc => upTo 3 enc
  | .lineConfig plane enc pitch delay cpl wobble lookahead =>
      upTo 3 plane && upTo 3 enc && upTo 1 pitch && decide (delay ≤ 1048575) && cplOk cpl &&
      fits (Reg.LINEGEN_PL_CONFIG_WOBBLE 0) wobble && decide (4 ≤ lookahead ∧ lookahead ≤ 64)
  | .headOffset plane first offsets =>
      upTo 3 plane && decide (first + offsets.length ≤ 48) && offsets.all (fun o => decide (-32767 ≤ o ∧ o ≤ 32767))
  | .compareSet unit source direction _ => upTo 7 unit && upTo 7 source && upTo 1 direction
  | .wspdConfig enable margin highWm =>
      upTo 1 enable && fits Reg.LINEGEN_WSPD_CTRL_MARGIN margin && fits Reg.LINEGEN_WSPD_HIGH_WM highWm
  | .camConfig port _ => upTo 3 port
  | .camInline port => upTo 3 port || port == 0xFF
  | .roiSet first records =>
      decide (1 ≤ records.length / 16 ∧ records.length / 16 ≤ 254 ∧ first + records.length / 16 ≤ 256)
  | .statsRead first count => decide (1 ≤ count ∧ first + count ≤ 256)
  | .loopCtrl loop mode stepLimit => upTo 2 loop && upTo 2 mode && decide (stepLimit ≤ loopTop loop)
  | .alignRead plane => upTo 3 plane
  | .alignRestore plane _ => upTo 3 plane
  | .axisConfig axis _ => upTo 3 axis
  | .axisMove axis _ _ _ _ => upTo 3 axis
  | .axisTable axis first last segments =>
      upTo 3 axis && upTo 1 last &&
      decide (1 ≤ segments.length / 16 ∧ segments.length / 16 ≤ 254 ∧ first + segments.length / 16 ≤ 256)
  | .axisStop axis mode => upTo 3 axis && upTo 2 mode
  | .axisRead axis => upTo 3 axis
  | .axisSetPos axis _ => upTo 3 axis
  | .switchConfig sw edge stuckMs => upTo 7 sw && upTo 1 edge && fits (Reg.MOTION_SW_CTRL_STUCK_MS 0) stuckMs
  | .timeRead tb => upTo 3 tb
  | .timeSet tb seconds ns => (tb == 0 || tb == 3) && decide (seconds < 2 ^ 48 ∧ ns < secNs)
  | .timeAdjust tb rate offset =>
      (tb == 0 || tb == 3) && decide (-200000 ≤ rate ∧ rate ≤ 200000 ∧ offset.natAbs ≤ secNs)
  | .triggerSet trigger tb startS startNs periodNs =>
      upTo 4 trigger && (upTo 3 tb || tb == 0xFF && trigger != 4) && decide (startS < 2 ^ 48 ∧ startNs < secNs) &&
      (if trigger = 4 then decide (8000000 ≤ periodNs) else decide (periodNs = 0 ∨ 1000 ≤ periodNs))
  | .thermRead => true
  | .hkRead first count => decide (1 ≤ count ∧ count ≤ 64 ∧ first + count ≤ 64)
  | .calRun targets => upTo 15 targets
  | .calDt dt => calDtOk dt
  | .linkConfig port lanes rate pre main post =>
      upTo 3 port && decide (lanes = 1 ∨ lanes = 2 ∨ lanes = 4) && upTo 3 rate && eqOk pre main post
  | .linkRestart port => upTo 3 port
  | .linkStatus port => upTo 3 port
  | .hierRead => true
  | .pairConfig enable strings => upTo 1 enable && upTo 3 strings
  | .pairStatus => true
  | .pairHandover => true
  | .pairRejoin => true
  | .otpRead => true
  | .otpBurn _ => true
  | .keyBurn slot _ => upTo 1 slot
  | .patchLoad offset data => decide (1 ≤ data.length ∧ data.length ≤ 4068 ∧ offset + data.length ≤ stagingBytes)
  | .patchActivate _ _ => true
  | .ladderSet state wakePort => upTo 4 state && upTo 4 wakePort
  | .ladderStatus => true
  | .vcoreFloor floor => decide (720 ≤ floor ∧ floor ≤ 850)
  | .logRead _ count => decide (1 ≤ count ∧ count ≤ 127)
  | .logClear counters => upTo 1 counters
  | .echo _ => true
  | .countersRead block => upTo 28 block

/-- The opcodes that may be broadcast (R47). -/
def bcastAllowed (op : Nat) : Bool :=
  op ∈ [0x0000, 0x0003, 0x0004, 0x0301, 0x0302, 0x0901, 0x0902, 0x0A02, 0x0E00, 0x0F01]

/-- The opcodes that the device executes before EVT_READY (R43). -/
def earlyOpcode (op : Nat) : Bool := op ∈ [0x0000, 0x0001, 0x0002, 0x0006, 0x0D03, 0x0D04]

/-! ### Execution (R36 check 7, R38, R40, R43) -/

/-- What an opcode does. (Mark: DEDUCED, log 43) -/
def State.perform (s : State) (h : Hdr) : HostCmd → Res
  | .nop => Res.ok s
  | .getInfo => cmdGetInfo s
  | .regRead addr count => cmdRegRead addr count s
  | .regWrite addr words => cmdRegWrite addr words s
  | .regModify addr mask value => cmdRegModify addr mask value s
  | .reset kind force => cmdReset kind force s
  | .getStatus clear => cmdGetStatus clear s
  | .memFill addr len pattern => cmdMemFill addr len pattern h.tag h.iface s
  | .memMode mode => cmdMemMode mode s
  | .dmaStart channel toShadow desc => cmdDmaStart channel toShadow desc s
  | .dmaAbort channel => cmdDmaAbort channel s
  | .packStart slot level src dst srcLen dstLen => cmdPackStart slot level src dst srcLen dstLen h.tag s
  | .unpackStart slot level src dst srcLen dstLen => cmdUnpackStart slot level src dst srcLen dstLen h.tag s
  | .packResume slot dst dstLen => cmdPackResume slot dst dstLen h.tag s
  | .packSlot slot release => cmdPackSlot slot release s
  | .jobDefine jobId planeMask endMode endValue bindings => cmdJobDefine jobId planeMask endMode endValue bindings s
  | .jobStart jobId arm source position => cmdJobStart jobId arm source position s
  | .jobStop when_ dropQueued => cmdJobStop when_ dropQueued s
  | .jobStatus => cmdJobStatus s
  | .streamCommit plane writeOffset => cmdStreamCommit plane writeOffset s
  | .layerSet plane layer enable alpha premult flipAt addr width height stride =>
      cmdLayerSet plane layer enable alpha premult flipAt addr width height stride s
  | .kiteMove plane flipAt kiteX kiteY => cmdKiteMove plane flipAt kiteX kiteY s
  | .pload plane rects src len => cmdPload plane rects src len h.tag h.iface s
  | .plock plane => cmdPlock plane s
  | .punlock plane token => cmdPunlock plane token s
  | .tableLoad plane table flipAt src len => cmdTableLoad plane table flipAt src len h.tag h.iface s
  | .headProfile plane record => cmdHeadProfile plane record s
  | .headMap plane ports => cmdHeadMap plane ports s
  | .portEnable portMask enable => cmdPortEnable portMask enable s
  | .portClear portMask => cmdPortClear portMask s
  | .headRead port => cmdHeadRead port s
  | .preheatTarget plane target => cmdPreheatTarget plane target s
  | .encConfig enc filter bandwidth standstillMs relayEnable =>
      cmdEncConfig enc filter bandwidth standstillMs relayEnable s
  | .encReference enc count => s.encReference enc count
  | .encRead enc => cmdEncRead enc s
  | .lineConfig plane enc pitch delay cpl wobble lookahead => cmdLineConfig plane enc pitch delay cpl wobble lookahead s
  | .headOffset plane first offsets => cmdHeadOffset plane first offsets s
  | .compareSet unit source direction position => s.compareSet s.axisPos unit source direction position
  | .wspdConfig enable margin highWm => cmdWspdConfig enable margin highWm s
  | .camConfig port record => cmdCamConfig port record s
  | .camInline port => cmdCamInline port s
  | .roiSet first records => cmdRoiSet first records s
  | .statsRead first count => cmdStatsRead first count s
  | .loopCtrl loop mode stepLimit => cmdLoopCtrl loop mode stepLimit s
  | .alignRead plane => cmdAlignRead plane s
  | .alignRestore plane record => cmdAlignRestore plane record s
  | .axisConfig axis record => cmdAxisConfig axis record s
  | .axisMove axis target vmax accel decel => cmdAxisMove axis target vmax accel decel h.tag s
  | .axisTable axis first last segments => cmdAxisTable axis first last segments h.tag s
  | .axisStop axis mode => cmdAxisStop axis mode s
  | .axisRead axis => cmdAxisRead axis s
  | .axisSetPos axis position => cmdAxisSetPos axis position s
  | .switchConfig sw edge stuckMs => cmdSwitchConfig sw edge stuckMs s
  | .timeRead tb => cmdTimeRead tb s
  | .timeSet tb seconds ns => cmdTimeSet tb seconds ns s
  | .timeAdjust tb rate offset => cmdTimeAdjust tb rate offset s
  | .triggerSet trigger tb startS startNs periodNs => cmdTriggerSet trigger tb startS startNs periodNs s
  | .thermRead => cmdThermRead s
  | .hkRead first count => cmdHkRead first count s
  | .calRun targets => cmdCalRun targets h.tag h.iface s
  | .calDt dt => cmdCalDt dt s
  | .linkConfig port lanes rate pre main post => cmdLinkConfig port lanes rate pre main post s
  | .linkRestart port => cmdLinkRestart port s
  | .linkStatus port => cmdLinkStatus port s
  | .hierRead => cmdHierRead s
  | .pairConfig enable strings => cmdPairConfig enable strings s
  | .pairStatus => cmdPairStatus s
  | .pairHandover => cmdPairHandover s
  | .pairRejoin => cmdPairRejoin s
  | .otpRead => cmdOtpRead s
  | .otpBurn record => cmdOtpBurn record s
  | .keyBurn slot hash => cmdKeyBurn slot hash s
  | .patchLoad offset data => cmdPatchLoad offset data s
  | .patchActivate size signature => cmdPatchActivate size signature s
  | .ladderSet state wakePort => cmdLadderSet state wakePort s
  | .ladderStatus => cmdLadderStatus s
  | .vcoreFloor floor => cmdVcoreFloor floor s
  | .logRead first count => cmdLogRead first count s
  | .logClear counters => cmdLogClear counters s
  | .echo data => Res.okData data s
  | .countersRead block => cmdCountersRead block s

/-- What an opcode does once its reply has been queued: the actions that follow the reply (R50, R360, R417, R449,
R461). A reply of a device reset that QUIET suppresses does not leave. -/
def State.afterReply (s : State) (h : Hdr) : HostCmd → State
  | .reset kind _ =>
      if kind = 1 ∧ hdrFlag h flagQuiet then { s with host := { s.host with out := [] } }.resetActs kind
      else s.resetActs kind
  | .linkRestart port => s.linkRestartActs port
  | .pairHandover => s.pairFault 5
  | .patchActivate _ _ => s.patchActs
  | .calRun targets => if targets = 0 then s.cmdDone 0x0A02 h.tag stOk h.iface 0 else s
  | _ => s

/-- A status with which a command has been carried out or started. -/
def accepted (st : Nat) : Bool := st == stOk || st == stAccepted

/-- Check 7 and the effect of a command: the result that its reply tells (R36, R43). -/
def State.result (s : State) (k : Cmd) : Res :=
  if s.flag Reg.CMD_STATUS_READY || earlyOpcode k.c.opcode then s.perform k.h k.c else Res.err stBadState s

/-- Run the command at the head of the outstanding ones: its result, its reply, and what follows the reply. A command
refused without reply data carries none (R37). (Mark: DEDUCED, log 129) -/
def State.runCmd (s : State) (k : Cmd) : State :=
  let r := s.result k
  let t := { r.s with host := { r.s.host with outstanding := r.s.host.outstanding.drop 1 } }
  if r.waits then { t with host := { t.host with waiting := some k } }
  else
    let t := t.reply k.h k.c.opcode r.status false (if accepted r.status then r.data else [])
    if accepted r.status then t.afterReply k.h k.c else t

/-- A command from the uplink waits for every MEMWR of its SRC that arrived on ZP0 before it (R382).
(Mark: DEDUCED, log 139) -/
def State.writesDone (s : State) (k : Cmd) : Bool :=
  k.h.iface == .spi ||
  s.mem.writes.all (fun w => match w.src with | some (src, at_) => src != k.src || decide (k.h.at_ < at_) | none => true)

/-- Start the next outstanding command in arrival order, where none executes (R38). (Mark: DEDUCED, log 139) -/
def State.startNext (s : State) : State :=
  match s.host.outstanding with
  | k :: _ => if s.host.waiting.isNone && s.writesDone k then s.runCmd k else s
  | [] => s

/-- COMMAND_EXECUTE. (Mark: DEDUCED, log 129) -/
def execCommandExecute (t : Nat) (s : State) : Host.Outcome State Fault Refusal := eventAwake t State.startNext s

/-! ### Arrival (R35, R36, R44 to R47, R393) -/

/-- A packet with a valid trailer: header, opcode and parameters, the command they spell, and the SRC of its link
transaction. -/
structure Packet where
  h      : Hdr
  opcode : Nat
  params : List Byte
  cmd    : Option HostCmd
  src    : Nat
  deriving DecidableEq, Repr

/-- Queue the reply of a command that is not executed. -/
def State.refuse (s : State) (k : Packet) (st : Nat) (dup : Bool) : State := s.reply k.h k.opcode st dup []

/-- Reserved header bytes or flag bits are set, or STATUS is not 0 (R36 check 1). (Mark: DEDUCED, log 133) -/
def Packet.reservedSet (k : Packet) : Bool := k.h.flags / 16 != 0 || k.h.status != 0 || k.h.reserved != 0

/-- The tag is that of a command outstanding on the same interface (R36 check 2, R42). (Mark: DEDUCED, log 133) -/
def State.dupTag (s : State) (k : Packet) : Bool :=
  (s.host.outstanding ++ s.host.waiting.toList).any (fun x => x.h.iface == k.h.iface && x.h.tag == k.h.tag)

/-- Checks 1 to 6 of R36: the status of the first that fails. (Mark: DEDUCED, log 131; DEDUCED, log 133) -/
def State.arrivalStatus (s : State) (k : Packet) : Nat :=
  if k.reservedSet then stBadParam
  else if s.dupTag k then stBadParam
  else if !opcodeDefined k.opcode then stBadOpcode
  else if k.h.target == 63 && !bcastAllowed k.opcode then stBadParam
  else if !(k.cmd.any HostCmd.valuesOk) then stBadParam
  else if 64 ≤ s.outCount then stBusy
  else stOk

/-- The command is outstanding from now, or refused at its arrival (R36, R40). (Mark: DEDUCED, log 129) -/
def State.take (s : State) (k : Packet) : State :=
  let st := s.arrivalStatus k
  match k.cmd with
  | some c =>
    if st = stOk then { s with host := { s.host with outstanding := s.host.outstanding ++ [⟨k.h, c, k.src⟩] } }
    else s.refuse k st (!k.reservedSet && s.dupTag k)
  | none => s.refuse k st (!k.reservedSet && s.dupTag k)

/-- The packet as it is forwarded: FWD set in its FLAGS and in those of its transaction (R45, R379).
(Mark: DEDUCED, log 12) -/
def Packet.forward (k : Packet) : Trans :=
  ⟨ttCmd, k.h.target, k.src, 1, 0, cmdBytes k.opcode k.h true k.params⟩

/-- Forward a command on a downlink (R45, R46). (Mark: DEDUCED, log 12; DEDUCED, log 134) -/
def State.forwardCmd (s : State) (q : Nat) (k : Packet) : State :=
  if !s.active q || s.isPairPort q then s.refuse k stLinkDown false
  else if 64 ≤ (s.host.forwarded.filter (fun f => f.port == q)).length then s.refuse k stBusy false
  else
    let f : Fwd := ⟨q, k.opcode, k.h⟩
    { s with host := { s.host with forwarded := s.host.forwarded ++ [f] } }.sendTrans q 1 k.forward

/-- Place a command (R45, R47, R393): an unassigned device executes broadcasts of its SPI alone; a broadcast goes on
every downlink unless R47 does not allow it. (Mark: DEDUCED, log 129) -/
def State.place (s : State) (k : Packet) : State :=
  let t := k.h.target
  if s.myId = 0xFF then
    if k.h.iface = .uplink then s.discard 0
    else if t = 63 then s.take k
    else s.refuse k stBadParam false
  else if t = s.myId then s.take k
  else if t = 63 then
    let s := if bcastAllowed k.opcode then s.bcastPorts.foldl (fun (s : State) q => s.sendTrans q 1 k.forward) s else s
    s.take k
  else match s.downlink? t with
    | some q => if k.h.iface = .uplink then s.forwardCmd q k else s.refuse k stBadParam false
    | none => (if k.h.iface = .uplink then s.discard 0 else s).refuse k stBadParam false

/-- The port of an interface, as a cause of a wake (R44, R476). (Mark: DEDUCED, log 135) -/
def wakeOf (i : Iface) : Nat := if i = .spi then 4 else 0

/-- A packet arrives: in L2 to L4 it wakes the device on the wake port, and is lost on any other (R44).
(Mark: DEDUCED, log 129) -/
def State.arrive (s : State) (i : Iface) (f : State → State) : State :=
  let s := if s.awake then s else s.wakeEvent (wakeOf i)
  if s.awake then f s else s

/-- A packet is discarded and counted (R35). -/
def State.dropPacket (s : State) (i : Iface) : State :=
  let s := s.incSat Reg.CMD_ERR_COUNT_CRC 1
  s.raiseLimited evCmdDropped 0 1 (leBytes 4 (s.get Reg.CMD_ERR_COUNT_CRC) ++ [BitVec.ofNat 8 (if i = .spi then 1 else 0)])

/-- The length is 20 + PARAM_LEN, the trailer matches, and REPLY is 0 (R33 to R35). -/
def packetOk (b : List Byte) : Bool :=
  decide (u16 b 6 ≤ 4076) && b.length == 20 + u16 b 6 && crc32c (b.take (b.length - 4)) == u32 b (b.length - 4) &&
    !bit (u8 b 5) 0

/-- The packet that bytes hold. -/
def parsePacket (i : Iface) (src now : Nat) (b : List Byte) : Packet :=
  let params := (b.drop 16).take (u16 b 6)
  { h := ⟨i, u16 b 2, u8 b 4, u8 b 5, u16 b 8, u16 b 10, u32 b 12, now⟩, opcode := u16 b 0, params := params,
    cmd := decodeParams (u16 b 0) params, src := src }

/-- Bytes of a packet that an interface delivers. (Mark: DEDUCED, log 134) -/
def State.packetIn (s : State) (i : Iface) (src : Nat) (b : List Byte) : State :=
  if packetOk b then s.place (parsePacket i src s.now b) else s.dropPacket i

/-- An opcode row: the host sends the command. It arrives on its interface, where the uplink is active (R39), and
executes at once where nothing precedes it; else it waits for COMMAND_EXECUTE.
(Mark: DEDUCED, log 129; DEDUCED, log 130) -/
def hostCommand (h : Hdr) (c : HostCmd) (s : State) : Host.Outcome State Fault Refusal :=
  event h.at_ (fun s => s.when (h.iface == .spi || s.active 0) (·.arrive h.iface (fun (s : State) =>
    if hdrFlag h 0 then s.dropPacket h.iface
    else
      let idle := s.host.outstanding.isEmpty
      let s := s.place ⟨h, c.opcode, encodeParams c, some c, 0xFE⟩
      if idle then s.startNext else s))) s

/-- CMD_TRANSACTION (R378 to R380). (Mark: DEDUCED, log 129; DEDUCED, log 134) -/
def execCmdTransaction (p : Fin 4) (x : Trans) (t : Nat) (s : State) : Host.Outcome State Fault Refusal :=
  event t (fun s => s.when (s.holds p x && x.ttype == ttCmd) (fun s =>
    let s := s.consume p x
    if !transOk x || !s.accepts p x || u8 x.body 4 != x.dest then s.discard p
    else if p.val ≠ 0 then (if s.route p x = .up then s.sendTrans 0 p x else s.discard p)
    else s.arrive .uplink (fun s => if s.myId = 0xFF then s.discard 0 else s.packetIn .uplink x.src x.body))) s

/-! ### The management SPI (R57, R62 to R64) -/

/-- Bytes that an out item gives on the SPI. -/
def OutItem.spiBytes : OutItem → Option (List Byte)
  | .reply .spi r => some (replyBytes r)
  | .reply .uplink _ => none
  | .event _ true e => some (evtBytes e ++ leBytes 4 (crc32c (evtBytes e)))
  | .event _ false _ => none

/-- An out item with the SPI served (R56). -/
def OutItem.sentSpi : OutItem → Option OutItem
  | .reply .spi _ => none
  | .event true true e => some (.event true false e)
  | .event false true _ => none
  | i => some i

/-- Take the first item of the SPI out-queue out. -/
def takeSpi : List OutItem → List OutItem
  | [] => []
  | i :: l => if i.spiBytes.isSome then i.sentSpi.toList ++ l else i :: takeSpi l

/-- The next item of the SPI out-queue. -/
def State.spiNext (s : State) : Option (List Byte) := (s.host.out.filterMap OutItem.spiBytes).head?

/-- An out item asserts IRQ_N: an event for the SPI, and a reply where IRQ_ON_REPLY is set (R57). -/
def OutItem.irq (onReply : Bool) : OutItem → Bool
  | .event _ spi _ => spi
  | .reply .spi _ => onReply
  | .reply .uplink _ => false

/-- IRQ_N is asserted (R57); it is released while RESET_N is low (R467). -/
def State.irqAsserted (s : State) : Bool :=
  s.power.resetN && s.host.out.any (OutItem.irq (s.flag Reg.CMD_EVT_CTRL_IRQ_ON_REPLY))

/-- The bytes that the device returns in a frame. -/
def State.returns (s : State) (b : List Byte) : State := { s with host := { s.host with spiReturned := b } }

/-- A frame: the fall of MSPI_CS_N may wake the device (R476); an asleep device does nothing, and what it returns is
free. (Mark: DEDUCED, log 135) -/
def spiFrame (n t : Nat) (f : State → State) (s : State) : Host.Outcome State Fault Refusal :=
  event t (fun s =>
    let s := if s.awake then s else s.wakeEvent 4
    if s.awake then f s else s.used.returns ((List.range n).map (Config.freeByte s.free))) s

/-- SPI_WRITE_FRAME: `bytes` are those clocked after the frame byte. -/
def execSpiWriteFrame (bytes : List Byte) (t : Nat) (s : State) : Host.Outcome State Fault Refusal :=
  spiFrame 0 t (fun s => (s.packetIn .spi 0xFE bytes).returns []) s

/-- SPI_STATUS_FRAME. (Mark: DESIGN CHOICE, log 168) -/
def execSpiStatusFrame (t : Nat) (s : State) : Host.Outcome State Fault Refusal :=
  spiFrame 4 t (fun s =>
    let n := match s.spiNext with | some b => b.length | none => 0
    s.returns (leBytes 1 (s.spiNext.isSome.toNat + 2 * (decide (64 ≤ s.outCount)).toNat +
      4 * s.get Reg.CMD_STATUS_READY) ++ [0] ++ leBytes 2 n)) s

/-- SPI_READ_FRAME: `clocked` bytes are read; those after the item are free. (Mark: DEDUCED, log 135) -/
def execSpiReadFrame (clocked : Nat) (t : Nat) (s : State) : Host.Outcome State Fault Refusal :=
  spiFrame clocked t (fun s =>
    match s.spiNext with
    | none => s.returns (List.replicate clocked 0)
    | some b =>
      let past := (List.range (clocked - b.length)).map (Config.freeByte s.free)
      let s := s.used.returns (b.take clocked ++ past)
      if b.length ≤ clocked then { s with host := { s.host with out := takeSpi s.host.out } } else s) s

/-- SPI_UNKNOWN_FRAME: a frame byte of the SPI table is none. -/
def execSpiUnknownFrame (frame : Byte) (t : Nat) (s : State) : Host.Outcome State Fault Refusal :=
  spiFrame 0 t (fun s => s.when (frame ∉ [0x5A, 0xA5, 0xC3]) (·.returns [])) s

/-- EVENT_WINDOW_END (R501). (Mark: DEDUCED, log 136) -/
def execEventWindowEnd (code unit t : Nat) (s : State) : Host.Outcome State Fault Refusal :=
  event t (fun s => match s.window? code unit with
    | some w => s.when (decide (w.endAt ≤ s.now)) (·.windowEnd code unit)
    | none => s) s

/-! ### The opcode rows -/

/-- NOP (R36): does nothing beyond the common checks and its reply. -/
def execNop (h : Hdr) (s : State) : Host.Outcome State Fault Refusal :=
  hostCommand h .nop s

/-- GET_INFO (R36): returns the device id, firmware versions, hierarchy id, pair role, ladder state and silicon
revision. -/
def execGetInfo (h : Hdr) (s : State) : Host.Outcome State Fault Refusal :=
  hostCommand h .getInfo s

/-- REG_READ (R49): reads COUNT words of one region of the address map in ascending order. -/
def execRegRead (h : Hdr) (addr : Nat) (count : Nat) (s : State) : Host.Outcome State Fault Refusal :=
  hostCommand h (.regRead addr count) s

/-- REG_WRITE (R49): checks every word of a range against the state earlier words leave, then writes all of them or
none. -/
def execRegWrite (h : Hdr) (addr : Nat) (words : List Nat) (s : State) : Host.Outcome State Fault Refusal :=
  hostCommand h (.regWrite addr words) s

/-- REG_MODIFY (R74): atomically reads a register, merges VALUE under MASK and writes the result back. -/
def execRegModify (h : Hdr) (addr : Nat) (mask : Nat) (value : Nat) (s : State) : Host.Outcome State Fault Refusal :=
  hostCommand h (.regModify addr mask value) s

/-- RESET (R50): replies and then performs a firmware restart (KIND 0) or a full device reset (KIND 1). -/
def execReset (h : Hdr) (kind : Nat) (force : Nat) (s : State) : Host.Outcome State Fault Refusal :=
  hostCommand h (.reset kind force) s

/-- GET_STATUS (R50): returns fault groups, outstanding commands, queued and lost events and CRC errors, optionally
clearing the fault groups. -/
def execGetStatus (h : Hdr) (clear : Nat) (s : State) : Host.Outcome State Fault Refusal :=
  hostCommand h (.getStatus clear) s

/-- MEM_FILL (R503): checks a DRAM range and starts filling it with a repeated 32-bit pattern, replying ST_ACCEPTED.
-/
def execMemFill (h : Hdr) (addr : Nat) (len : Nat) (pattern : Nat) (s : State) : Host.Outcome State Fault Refusal :=
  hostCommand h (.memFill addr len pattern) s

/-- MEM_MODE (R271): switches the DRAM between normal service and initialisation mode. -/
def execMemMode (h : Hdr) (mode : Nat) (s : State) : Host.Outcome State Fault Refusal :=
  hostCommand h (.memMode mode) s

/-- DMA_START (R319): checks a descriptor and makes it active on an idle channel or stores it in the shadow. -/
def execDmaStart (h : Hdr) (channel : Nat) (toShadow : Nat) (desc : List Byte) (s : State) :
    Host.Outcome State Fault Refusal :=
  hostCommand h (.dmaStart channel toShadow desc) s

/-- DMA_ABORT (R325): stops a channel starting bursts, discards its shadow, waits for bursts in flight and replies
BYTES_DONE. -/
def execDmaAbort (h : Hdr) (channel : Nat) (s : State) : Host.Outcome State Fault Refusal :=
  hostCommand h (.dmaAbort channel) s

/-- PACK_START (R333): checks and starts a packing job in a free compression slot. -/
def execPackStart (h : Hdr) (slot : Nat) (level : Nat) (src : Nat) (dst : Nat) (srcLen : Nat) (dstLen : Nat) (s : State) :
    Host.Outcome State Fault Refusal :=
  hostCommand h (.packStart slot level src dst srcLen dstLen) s

/-- UNPACK_START (R333): checks and starts an unpacking job in a free compression slot. -/
def execUnpackStart (h : Hdr) (slot : Nat) (level : Nat) (src : Nat) (dst : Nat) (srcLen : Nat) (dstLen : Nat) (s : State) :
    Host.Outcome State Fault Refusal :=
  hostCommand h (.unpackStart slot level src dst srcLen dstLen) s

/-- PACK_RESUME (R338): continues a stopped compression job into a new destination part. -/
def execPackResume (h : Hdr) (slot : Nat) (dst : Nat) (dstLen : Nat) (s : State) : Host.Outcome State Fault Refusal :=
  hostCommand h (.packResume slot dst dstLen) s

/-- PACK_SLOT (R51): reports a slot's state and counts and optionally releases a stopped slot. -/
def execPackSlot (h : Hdr) (slot : Nat) (release : Nat) (s : State) : Host.Outcome State Fault Refusal :=
  hostCommand h (.packSlot slot release) s

/-- JOB_DEFINE (R132): checks and stores a job definition with its plane bindings and ring state. -/
def execJobDefine (h : Hdr) (jobId : Nat) (planeMask : Nat) (endMode : Nat) (endValue : Nat) (bindings : List Byte) (s : State) :
    Host.Outcome State Fault Refusal :=
  hostCommand h (.jobDefine jobId planeMask endMode endValue bindings) s

/-- JOB_START (R145): checks a job and queues it to start immediately, at a web position, at a switch mark or at the
next repeat boundary. -/
def execJobStart (h : Hdr) (jobId : Nat) (arm : Nat) (source : Nat) (position : Int) (s : State) :
    Host.Outcome State Fault Refusal :=
  hostCommand h (.jobStart jobId arm source position) s

/-- JOB_STOP (R149): sets the end line of the running job and optionally drops the queued job. -/
def execJobStop (h : Hdr) (when_ : Nat) (dropQueued : Nat) (s : State) : Host.Outcome State Fault Refusal :=
  hostCommand h (.jobStop when_ dropQueued) s

/-- JOB_STATUS (R151): returns the running and queued jobs, repeats done, line indices and underrun counts. -/
def execJobStatus (h : Hdr) (s : State) : Host.Outcome State Fault Refusal :=
  hostCommand h .jobStatus s

/-- STREAM_COMMIT (R139): advances a plane's committed row count up to a write offset and replies the ring level. -/
def execStreamCommit (h : Hdr) (plane : Nat) (writeOffset : Nat) (s : State) : Host.Outcome State Fault Refusal :=
  hostCommand h (.streamCommit plane writeOffset) s

/-- LAYER_SET (R155): checks and writes the shadow settings of a variable, overlay or kite layer and its flip point.
-/
def execLayerSet (h : Hdr) (plane : Nat) (layer : Nat) (enable : Nat) (alpha : Nat) (premult : Nat) (flipAt : Nat) (addr : Nat) (width : Nat) (height : Nat) (stride : Nat) (s : State) :
    Host.Outcome State Fault Refusal :=
  hostCommand h (.layerSet plane layer enable alpha premult flipAt addr width height stride) s

/-- KITE_MOVE (R158): writes the kite position shadow of a plane and its flip point. -/
def execKiteMove (h : Hdr) (plane : Nat) (flipAt : Nat) (kiteX : Nat) (kiteY : Nat) (s : State) :
    Host.Outcome State Fault Refusal :=
  hostCommand h (.kiteMove plane flipAt kiteX kiteY) s

/-- PLOAD (R160): checks a protected-layer staging area and starts the loader copying it into the plane's protected
area. -/
def execPload (h : Hdr) (plane : Nat) (rects : Nat) (src : Nat) (len : Nat) (s : State) :
    Host.Outcome State Fault Refusal :=
  hostCommand h (.pload plane rects src len) s

/-- PLOCK (R164): locks a loaded protected layer and returns a fresh token and the layer CRC. -/
def execPlock (h : Hdr) (plane : Nat) (s : State) : Host.Outcome State Fault Refusal :=
  hostCommand h (.plock plane) s

/-- PUNLOCK (R165): unlocks a protected layer with the right token, or counts a wrong token. -/
def execPunlock (h : Hdr) (plane : Nat) (token : Nat) (s : State) : Host.Outcome State Fault Refusal :=
  hostCommand h (.punlock plane token) s

/-- TABLE_LOAD (R179): checks and starts copying a halftoner table into the plane's shadow bank. -/
def execTableLoad (h : Hdr) (plane : Nat) (table : Nat) (flipAt : Nat) (src : Nat) (len : Nat) (s : State) :
    Host.Outcome State Fault Refusal :=
  hostCommand h (.tableLoad plane table flipAt src len) s

/-- HEAD_PROFILE (R188): checks and stores a plane's head profile, resetting the pre-heat of its ports. -/
def execHeadProfile (h : Hdr) (plane : Nat) (record : List Byte) (s : State) : Host.Outcome State Fault Refusal :=
  hostCommand h (.headProfile plane record) s

/-- HEAD_MAP (R189): assigns head ports to a plane in cross-web order. -/
def execHeadMap (h : Hdr) (plane : Nat) (ports : List Nat) (s : State) : Host.Outcome State Fault Refusal :=
  hostCommand h (.headMap plane ports) s

/-- PORT_ENABLE (R190): enables or disables the head ports of a mask, restarting enabled ports afresh. -/
def execPortEnable (h : Hdr) (portMask : Nat) (enable : Nat) (s : State) : Host.Outcome State Fault Refusal :=
  hostCommand h (.portEnable portMask enable) s

/-- PORT_CLEAR (R215): clears non-persisting fault causes of head ports and returns those still faulted. -/
def execPortClear (h : Hdr) (portMask : Nat) (s : State) : Host.Outcome State Fault Refusal :=
  hostCommand h (.portClear portMask) s

/-- HEAD_READ (R205): returns a head port's temperature, pre-heat, fault bits and SRET error count. -/
def execHeadRead (h : Hdr) (port : Nat) (s : State) : Host.Outcome State Fault Refusal :=
  hostCommand h (.headRead port) s

/-- PREHEAT_TARGET (R208): sets the head temperature target of every port of a plane. -/
def execPreheatTarget (h : Hdr) (plane : Nat) (target : Int) (s : State) : Host.Outcome State Fault Refusal :=
  hostCommand h (.preheatTarget plane target) s

/-- ENC_CONFIG (R109): writes an encoder's filter, observer bandwidth, standstill time and relay enable. -/
def execEncConfig (h : Hdr) (enc : Nat) (filter : Nat) (bandwidth : Nat) (standstillMs : Nat) (relayEnable : Nat) (s : State) :
    Host.Outcome State Fault Refusal :=
  hostCommand h (.encConfig enc filter bandwidth standstillMs relayEnable) s

/-- ENC_REFERENCE (R83): loads an encoder counter at one sampler instant, shifting the observer, S and H and clearing
INVALID. -/
def execEncReference (h : Hdr) (enc : Nat) (count : Int) (s : State) : Host.Outcome State Fault Refusal :=
  hostCommand h (.encReference enc count) s

/-- ENC_READ (R84): returns one simultaneous capture of an encoder's count, index latch, velocity and flags. -/
def execEncRead (h : Hdr) (enc : Nat) (s : State) : Host.Outcome State Fault Refusal :=
  hostCommand h (.encRead enc) s

/-- LINE_CONFIG (R131): sets a plane's encoder, pitch, delay, counts per line, wobble and lookahead. -/
def execLineConfig (h : Hdr) (plane : Nat) (enc : Nat) (pitch : Nat) (delay : Nat) (cpl : Nat) (wobble : Nat) (lookahead : Nat) (s : State) :
    Host.Outcome State Fault Refusal :=
  hostCommand h (.lineConfig plane enc pitch delay cpl wobble lookahead) s

/-- HEAD_OFFSET (R112): checks and writes along-web base offsets of a range of heads into the head-offset shadow. -/
def execHeadOffset (h : Hdr) (plane : Nat) (first : Nat) (offsets : List Int) (s : State) :
    Host.Outcome State Fault Refusal :=
  hostCommand h (.headOffset plane first offsets) s

/-- COMPARE_SET (R102): arms a compare unit at a position and reports whether the position is already passed. -/
def execCompareSet (h : Hdr) (unit : Nat) (source : Nat) (direction : Nat) (position : Int) (s : State) :
    Host.Outcome State Fault Refusal :=
  hostCommand h (.compareSet unit source direction position) s

/-- WSPD_CONFIG (R124): sets the WSPD enable, overspeed margin and stream high-water mark. -/
def execWspdConfig (h : Hdr) (enable : Nat) (margin : Nat) (highWm : Nat) (s : State) :
    Host.Outcome State Fault Refusal :=
  hostCommand h (.wspdConfig enable margin highWm) s

/-- CAM_CONFIG (R218): checks and writes a camera port record. -/
def execCamConfig (h : Hdr) (port : Nat) (record : List Byte) (s : State) : Host.Outcome State Fault Refusal :=
  hostCommand h (.camConfig port record) s

/-- CAM_INLINE (R231): chooses the in-line camera port, effective at the next frame boundary. -/
def execCamInline (h : Hdr) (port : Nat) (s : State) : Host.Outcome State Fault Refusal :=
  hostCommand h (.camInline port) s

/-- ROI_SET (R235): checks and writes a range of ROI records. -/
def execRoiSet (h : Hdr) (first : Nat) (records : List Byte) (s : State) : Host.Outcome State Fault Refusal :=
  hostCommand h (.roiSet first records) s

/-- STATS_READ (R237): returns the mean and variance of a range of ROIs, coherently per port frame. -/
def execStatsRead (h : Hdr) (first : Nat) (count : Nat) (s : State) : Host.Outcome State Fault Refusal :=
  hostCommand h (.statsRead first count) s

/-- LOOP_CTRL (R238): sets the mode and step limit of the colour, nozzle or alignment loop. -/
def execLoopCtrl (h : Hdr) (loop : Nat) (mode : Nat) (stepLimit : Nat) (s : State) :
    Host.Outcome State Fault Refusal :=
  hostCommand h (.loopCtrl loop mode stepLimit) s

/-- ALIGN_READ (R256): returns a plane's alignment record. -/
def execAlignRead (h : Hdr) (plane : Nat) (s : State) : Host.Outcome State Fault Refusal :=
  hostCommand h (.alignRead plane) s

/-- ALIGN_RESTORE (R257): checks and applies an alignment record to a plane. -/
def execAlignRestore (h : Hdr) (plane : Nat) (record : List Byte) (s : State) : Host.Outcome State Fault Refusal :=
  hostCommand h (.alignRestore plane record) s

/-- AXIS_CONFIG (R311): checks and writes an axis record, energising or de-energising the axis. -/
def execAxisConfig (h : Hdr) (axis : Nat) (record : List Byte) (s : State) : Host.Outcome State Fault Refusal :=
  hostCommand h (.axisConfig axis record) s

/-- AXIS_MOVE (R293): checks and starts or replaces a target move of an axis. -/
def execAxisMove (h : Hdr) (axis : Nat) (target : Int) (vmax : Nat) (accel : Nat) (decel : Nat) (s : State) :
    Host.Outcome State Fault Refusal :=
  hostCommand h (.axisMove axis target vmax accel decel) s

/-- AXIS_TABLE (R298): writes segments into an axis's shadow set and optionally commits the table. -/
def execAxisTable (h : Hdr) (axis : Nat) (first : Nat) (last : Nat) (segments : List Byte) (s : State) :
    Host.Outcome State Fault Refusal :=
  hostCommand h (.axisTable axis first last segments) s

/-- AXIS_STOP (R302): stops an axis at the next update by braking, at once, or with de-energising. -/
def execAxisStop (h : Hdr) (axis : Nat) (mode : Nat) (s : State) : Host.Outcome State Fault Refusal :=
  hostCommand h (.axisStop axis mode) s

/-- AXIS_READ (R291): returns an axis's position, velocity, load angle and flags. -/
def execAxisRead (h : Hdr) (axis : Nat) (s : State) : Host.Outcome State Fault Refusal :=
  hostCommand h (.axisRead axis) s

/-- AXIS_SET_POS (R306): sets an axis position and clears LOST, STALL and OVERSHOOT. -/
def execAxisSetPos (h : Hdr) (axis : Nat) (position : Int) (s : State) : Host.Outcome State Fault Refusal :=
  hostCommand h (.axisSetPos axis position) s

/-- SWITCH_CONFIG (R309): sets a switch's active edge and stuck time, re-evaluating ARMED. -/
def execSwitchConfig (h : Hdr) (sw : Nat) (edge : Nat) (stuckMs : Nat) (s : State) :
    Host.Outcome State Fault Refusal :=
  hostCommand h (.switchConfig sw edge stuckMs) s

/-- TIME_READ (R428): returns one capture of a time base. -/
def execTimeRead (h : Hdr) (tb : Nat) (s : State) : Host.Outcome State Fault Refusal :=
  hostCommand h (.timeRead tb) s

/-- TIME_SET (R426): steps TB0 or TB3 to a value and cancels any slew. -/
def execTimeSet (h : Hdr) (tb : Nat) (seconds : Nat) (ns : Nat) (s : State) : Host.Outcome State Fault Refusal :=
  hostCommand h (.timeSet tb seconds ns) s

/-- TIME_ADJUST (R427): sets the rate offset of TB0 or TB3 and replaces its slew. -/
def execTimeAdjust (h : Hdr) (tb : Nat) (rate : Int) (offset : Int) (s : State) : Host.Outcome State Fault Refusal :=
  hostCommand h (.timeAdjust tb rate offset) s

/-- TRIGGER_SET (R434): arms, re-arms or disarms a time trigger. -/
def execTriggerSet (h : Hdr) (trigger : Nat) (tb : Nat) (startS : Nat) (startNs : Nat) (periodNs : Nat) (s : State) :
    Host.Outcome State Fault Refusal :=
  hostCommand h (.triggerSet trigger tb startS startNs periodNs) s

/-- THERM_READ (R440): returns the used sensor values, the broken sensors and the thermal level. -/
def execThermRead (h : Hdr) (s : State) : Host.Outcome State Fault Refusal :=
  hostCommand h .thermRead s

/-- HK_READ (R437): returns housekeeping channel values of the last completed round. -/
def execHkRead (h : Hdr) (first : Nat) (count : Nat) (s : State) : Host.Outcome State Fault Refusal :=
  hostCommand h (.hkRead first count) s

/-- CAL_RUN (R449): starts calibration of the DRAM, lanes, head ports or D-PHY receivers. -/
def execCalRun (h : Hdr) (targets : Nat) (s : State) : Host.Outcome State Fault Refusal :=
  hostCommand h (.calRun targets) s

/-- CAL_DT (R450): sets the temperature change that triggers tap tracking. -/
def execCalDt (h : Hdr) (dt : Nat) (s : State) : Host.Outcome State Fault Refusal :=
  hostCommand h (.calDt dt) s

/-- LINK_CONFIG (R355): checks and stores a port's width, rate and equalisation for the next restart. -/
def execLinkConfig (h : Hdr) (port : Nat) (lanes : Nat) (rate : Nat) (pre : Nat) (main : Nat) (post : Nat) (s : State) :
    Host.Outcome State Fault Refusal :=
  hostCommand h (.linkConfig port lanes rate pre main post) s

/-- LINK_RESTART (R360): takes a port down, applies its stored configuration and starts training. -/
def execLinkRestart (h : Hdr) (port : Nat) (s : State) : Host.Outcome State Fault Refusal :=
  hostCommand h (.linkRestart port) s

/-- LINK_STATUS (R372): returns a port's state, width, rate, CRC errors and replays. -/
def execLinkStatus (h : Hdr) (port : Nat) (s : State) : Host.Outcome State Fault Refusal :=
  hostCommand h (.linkStatus port) s

/-- HIER_READ (R394): returns the entries of the device's subtree table. -/
def execHierRead (h : Hdr) (s : State) : Host.Outcome State Fault Refusal :=
  hostCommand h .hierRead s

/-- PAIR_CONFIG (R406): enables or disables pairing and its strings and starts the role decision. -/
def execPairConfig (h : Hdr) (enable : Nat) (strings : Nat) (s : State) : Host.Outcome State Fault Refusal :=
  hostCommand h (.pairConfig enable strings) s

/-- PAIR_STATUS (R407): returns the pair role, partner state, strings and the last gap. -/
def execPairStatus (h : Hdr) (s : State) : Host.Outcome State Fault Refusal :=
  hostCommand h .pairStatus s

/-- PAIR_HANDOVER (R417): makes the active member hand over to a READY standby with fault code 5. -/
def execPairHandover (h : Hdr) (s : State) : Host.Outcome State Fault Refusal :=
  hostCommand h .pairHandover s

/-- PAIR_REJOIN (R423): puts an UNSYNCED standby into RESYNC and starts the background copy. -/
def execPairRejoin (h : Hdr) (s : State) : Host.Outcome State Fault Refusal :=
  hostCommand h .pairRejoin s

/-- OTP_READ (R453): returns the device id, the record in force, its generation, key slots and locks. -/
def execOtpRead (h : Hdr) (s : State) : Host.Outcome State Fault Refusal :=
  hostCommand h .otpRead s

/-- OTP_BURN (R454): burns a configuration record into the lowest blank generation and verifies it. -/
def execOtpBurn (h : Hdr) (record : List Byte) (s : State) : Host.Outcome State Fault Refusal :=
  hostCommand h (.otpBurn record) s

/-- KEY_BURN (R456): burns a public-key hash into a blank key slot and verifies it. -/
def execKeyBurn (h : Hdr) (slot : Nat) (hash : List Byte) (s : State) : Host.Outcome State Fault Refusal :=
  hostCommand h (.keyBurn slot hash) s

/-- PATCH_LOAD (R458): writes bytes into the patch staging RAM. -/
def execPatchLoad (h : Hdr) (offset : Nat) (data : List Byte) (s : State) : Host.Outcome State Fault Refusal :=
  hostCommand h (.patchLoad offset data) s

/-- PATCH_ACTIVATE (R460): checks and verifies a staged patch, then replies and restarts the firmware from it. -/
def execPatchActivate (h : Hdr) (size : Nat) (signature : List Byte) (s : State) : Host.Outcome State Fault Refusal :=
  hostCommand h (.patchActivate size signature) s

/-- LADDER_SET (R475): sets AUTO_L1 or checks and orders entry into L2, L3 or L4 with a wake port. -/
def execLadderSet (h : Hdr) (state : Nat) (wakePort : Nat) (s : State) : Host.Outcome State Fault Refusal :=
  hostCommand h (.ladderSet state wakePort) s

/-- LADDER_STATUS (R472): returns the ladder state, VCORE and the VCORE floor. -/
def execLadderStatus (h : Hdr) (s : State) : Host.Outcome State Fault Refusal :=
  hostCommand h .ladderStatus s

/-- VCORE_FLOOR (R471): sets the VCORE floor and requests it at once when it lies above the voltage in force. -/
def execVcoreFloor (h : Hdr) (floor : Nat) (s : State) : Host.Outcome State Fault Refusal :=
  hostCommand h (.vcoreFloor floor) s

/-- LOG_READ (R60): returns a range of log entries as they stood at execution. -/
def execLogRead (h : Hdr) (first : Nat) (count : Nat) (s : State) : Host.Outcome State Fault Refusal :=
  hostCommand h (.logRead first count) s

/-- LOG_CLEAR (R59): empties the log, re-arms EVT_LOG_FULL and optionally clears CMD.ERR_COUNT. -/
def execLogClear (h : Hdr) (counters : Nat) (s : State) : Host.Outcome State Fault Refusal :=
  hostCommand h (.logClear counters) s

/-- ECHO (R36): returns its parameter bytes unchanged. -/
def execEcho (h : Hdr) (data : List Byte) (s : State) : Host.Outcome State Fault Refusal :=
  hostCommand h (.echo data) s

/-- COUNTERS_READ (R61): returns the counter record of one register block. -/
def execCountersRead (h : Hdr) (block : Nat) (s : State) : Host.Outcome State Fault Refusal :=
  hostCommand h (.countersRead block) s

end Sys2Proof.Machine
end

