-- ==== Sys2Proof/Machine/Dispatch.lean ====
section
/-! DEFINITION. One arm per command: its meaning, or its rejection by name. -/

namespace Sys2Proof.Machine

/-- The effect of a command on everything but the queue. -/
def exec (i : Instr) (s : State) : Host.Outcome State Fault Refusal :=
  match i with
  | .nop h => Sys2Proof.Machine.execNop h s
  | .getInfo h => Sys2Proof.Machine.execGetInfo h s
  | .regRead h addr count => Sys2Proof.Machine.execRegRead h addr count s
  | .regWrite h addr words => Sys2Proof.Machine.execRegWrite h addr words s
  | .regModify h addr mask value => Sys2Proof.Machine.execRegModify h addr mask value s
  | .reset h kind force => Sys2Proof.Machine.execReset h kind force s
  | .getStatus h clear => Sys2Proof.Machine.execGetStatus h clear s
  | .memFill h addr len pattern => Sys2Proof.Machine.execMemFill h addr len pattern s
  | .memMode h mode => Sys2Proof.Machine.execMemMode h mode s
  | .dmaStart h channel toShadow desc => Sys2Proof.Machine.execDmaStart h channel toShadow desc s
  | .dmaAbort h channel => Sys2Proof.Machine.execDmaAbort h channel s
  | .packStart h slot level src dst srcLen dstLen => Sys2Proof.Machine.execPackStart h slot level src dst srcLen dstLen s
  | .unpackStart h slot level src dst srcLen dstLen => Sys2Proof.Machine.execUnpackStart h slot level src dst srcLen dstLen s
  | .packResume h slot dst dstLen => Sys2Proof.Machine.execPackResume h slot dst dstLen s
  | .packSlot h slot release => Sys2Proof.Machine.execPackSlot h slot release s
  | .jobDefine h jobId planeMask endMode endValue bindings => Sys2Proof.Machine.execJobDefine h jobId planeMask endMode endValue bindings s
  | .jobStart h jobId arm source position => Sys2Proof.Machine.execJobStart h jobId arm source position s
  | .jobStop h when dropQueued => Sys2Proof.Machine.execJobStop h when dropQueued s
  | .jobStatus h => Sys2Proof.Machine.execJobStatus h s
  | .streamCommit h plane writeOffset => Sys2Proof.Machine.execStreamCommit h plane writeOffset s
  | .layerSet h plane layer enable alpha premult flipAt addr width height stride => Sys2Proof.Machine.execLayerSet h plane layer enable alpha premult flipAt addr width height stride s
  | .kiteMove h plane flipAt kiteX kiteY => Sys2Proof.Machine.execKiteMove h plane flipAt kiteX kiteY s
  | .pload h plane rects src len => Sys2Proof.Machine.execPload h plane rects src len s
  | .plock h plane => Sys2Proof.Machine.execPlock h plane s
  | .punlock h plane token => Sys2Proof.Machine.execPunlock h plane token s
  | .tableLoad h plane table flipAt src len => Sys2Proof.Machine.execTableLoad h plane table flipAt src len s
  | .headProfile h plane record => Sys2Proof.Machine.execHeadProfile h plane record s
  | .headMap h plane ports => Sys2Proof.Machine.execHeadMap h plane ports s
  | .portEnable h portMask enable => Sys2Proof.Machine.execPortEnable h portMask enable s
  | .portClear h portMask => Sys2Proof.Machine.execPortClear h portMask s
  | .headRead h port => Sys2Proof.Machine.execHeadRead h port s
  | .preheatTarget h plane target => Sys2Proof.Machine.execPreheatTarget h plane target s
  | .encConfig h enc filter bandwidth standstillMs relayEnable => Sys2Proof.Machine.execEncConfig h enc filter bandwidth standstillMs relayEnable s
  | .encReference h enc count => Sys2Proof.Machine.execEncReference h enc count s
  | .encRead h enc => Sys2Proof.Machine.execEncRead h enc s
  | .lineConfig h plane enc pitch delay cpl wobble lookahead => Sys2Proof.Machine.execLineConfig h plane enc pitch delay cpl wobble lookahead s
  | .headOffset h plane first offsets => Sys2Proof.Machine.execHeadOffset h plane first offsets s
  | .compareSet h unit source direction position => Sys2Proof.Machine.execCompareSet h unit source direction position s
  | .wspdConfig h enable margin highWm => Sys2Proof.Machine.execWspdConfig h enable margin highWm s
  | .camConfig h port record => Sys2Proof.Machine.execCamConfig h port record s
  | .camInline h port => Sys2Proof.Machine.execCamInline h port s
  | .roiSet h first records => Sys2Proof.Machine.execRoiSet h first records s
  | .statsRead h first count => Sys2Proof.Machine.execStatsRead h first count s
  | .loopCtrl h loop mode stepLimit => Sys2Proof.Machine.execLoopCtrl h loop mode stepLimit s
  | .alignRead h plane => Sys2Proof.Machine.execAlignRead h plane s
  | .alignRestore h plane record => Sys2Proof.Machine.execAlignRestore h plane record s
  | .axisConfig h axis record => Sys2Proof.Machine.execAxisConfig h axis record s
  | .axisMove h axis target vmax accel decel => Sys2Proof.Machine.execAxisMove h axis target vmax accel decel s
  | .axisTable h axis first last segments => Sys2Proof.Machine.execAxisTable h axis first last segments s
  | .axisStop h axis mode => Sys2Proof.Machine.execAxisStop h axis mode s
  | .axisRead h axis => Sys2Proof.Machine.execAxisRead h axis s
  | .axisSetPos h axis position => Sys2Proof.Machine.execAxisSetPos h axis position s
  | .switchConfig h sw edge stuckMs => Sys2Proof.Machine.execSwitchConfig h sw edge stuckMs s
  | .timeRead h tb => Sys2Proof.Machine.execTimeRead h tb s
  | .timeSet h tb seconds ns => Sys2Proof.Machine.execTimeSet h tb seconds ns s
  | .timeAdjust h tb rate offset => Sys2Proof.Machine.execTimeAdjust h tb rate offset s
  | .triggerSet h trigger tb startS startNs periodNs => Sys2Proof.Machine.execTriggerSet h trigger tb startS startNs periodNs s
  | .thermRead h => Sys2Proof.Machine.execThermRead h s
  | .hkRead h first count => Sys2Proof.Machine.execHkRead h first count s
  | .calRun h targets => Sys2Proof.Machine.execCalRun h targets s
  | .calDt h dt => Sys2Proof.Machine.execCalDt h dt s
  | .linkConfig h port lanes rate pre main post => Sys2Proof.Machine.execLinkConfig h port lanes rate pre main post s
  | .linkRestart h port => Sys2Proof.Machine.execLinkRestart h port s
  | .linkStatus h port => Sys2Proof.Machine.execLinkStatus h port s
  | .hierRead h => Sys2Proof.Machine.execHierRead h s
  | .pairConfig h enable strings => Sys2Proof.Machine.execPairConfig h enable strings s
  | .pairStatus h => Sys2Proof.Machine.execPairStatus h s
  | .pairHandover h => Sys2Proof.Machine.execPairHandover h s
  | .pairRejoin h => Sys2Proof.Machine.execPairRejoin h s
  | .otpRead h => Sys2Proof.Machine.execOtpRead h s
  | .otpBurn h record => Sys2Proof.Machine.execOtpBurn h record s
  | .keyBurn h slot hash => Sys2Proof.Machine.execKeyBurn h slot hash s
  | .patchLoad h offset data => Sys2Proof.Machine.execPatchLoad h offset data s
  | .patchActivate h size signature => Sys2Proof.Machine.execPatchActivate h size signature s
  | .ladderSet h state wakePort => Sys2Proof.Machine.execLadderSet h state wakePort s
  | .ladderStatus h => Sys2Proof.Machine.execLadderStatus h s
  | .vcoreFloor h floor => Sys2Proof.Machine.execVcoreFloor h floor s
  | .logRead h first count => Sys2Proof.Machine.execLogRead h first count s
  | .logClear h counters => Sys2Proof.Machine.execLogClear h counters s
  | .echo h data => Sys2Proof.Machine.execEcho h data s
  | .countersRead h block => Sys2Proof.Machine.execCountersRead h block s
  | .registerFieldWrite addr value t => Sys2Proof.Machine.execRegisterFieldWrite addr value t s
  | .clrMin t => Sys2Proof.Machine.execClrMin t s
  | .gpioDirWrite value t => Sys2Proof.Machine.execGpioDirWrite value t s
  | .clkStatusLostClear t => Sys2Proof.Machine.execClkStatusLostClear t s
  | .cmpPosLoWrite u value t => Sys2Proof.Machine.execCmpPosLoWrite u value t s
  | .zFaultClear e t => Sys2Proof.Machine.execZFaultClear e t s
  | .ssiStart k t => Sys2Proof.Machine.execSsiStart k t s
  | .cplHiWrite p value t => Sys2Proof.Machine.execCplHiWrite p value t s
  | .defectPop t => Sys2Proof.Machine.execDefectPop t s
  | .uePop t => Sys2Proof.Machine.execUePop t s
  | .invalGo t => Sys2Proof.Machine.execInvalGo t s
  | .recoverActiveWrite active t => Sys2Proof.Machine.execRecoverActiveWrite active t s
  | .tableCommit a t => Sys2Proof.Machine.execTableCommit a t s
  | .dmaCommit ch t => Sys2Proof.Machine.execDmaCommit ch t s
  | .zphyPortRestart p t => Sys2Proof.Machine.execZphyPortRestart p t s
  | .zphyPortDisable p t => Sys2Proof.Machine.execZphyPortDisable p t s
  | .brokenClear mask t => Sys2Proof.Machine.execBrokenClear mask t s
  | .pmbusFaultClear t => Sys2Proof.Machine.execPmbusFaultClear t s
  | .spiWriteFrame bytes t => Sys2Proof.Machine.execSpiWriteFrame bytes t s
  | .spiStatusFrame t => Sys2Proof.Machine.execSpiStatusFrame t s
  | .spiReadFrame clocked t => Sys2Proof.Machine.execSpiReadFrame clocked t s
  | .spiUnknownFrame frame t => Sys2Proof.Machine.execSpiUnknownFrame frame t s
  | .commandExecute t => Sys2Proof.Machine.execCommandExecute t s
  | .eventWindowEnd code unit t => Sys2Proof.Machine.execEventWindowEnd code unit t s
  | .refclkSysLost t => Sys2Proof.Machine.execRefclkSysLost t s
  | .paceWindow work t => Sys2Proof.Machine.execPaceWindow work t s
  | .encEdgeAccepted e levels samples t => Sys2Proof.Machine.execEncEdgeAccepted e levels samples t s
  | .indexLatch e levels samples t => Sys2Proof.Machine.execIndexLatch e levels samples t s
  | .wireFault e ch t => Sys2Proof.Machine.execWireFault e ch t s
  | .standstill e t => Sys2Proof.Machine.execStandstill e t s
  | .settlingEnd e t => Sys2Proof.Machine.execSettlingEnd e t s
  | .observerTick t => Sys2Proof.Machine.execObserverTick t s
  | .lineIssue p t => Sys2Proof.Machine.execLineIssue p t s
  | .lineToFifo q t => Sys2Proof.Machine.execLineToFifo q t s
  | .shiftStart q t => Sys2Proof.Machine.execShiftStart q t s
  | .latch q t => Sys2Proof.Machine.execLatch q t s
  | .strobeTrainStart q t => Sys2Proof.Machine.execStrobeTrainStart q t s
  | .strobeTrainEnd q rowB t => Sys2Proof.Machine.execStrobeTrainEnd q rowB t s
  | .defectMarkRelease p t => Sys2Proof.Machine.execDefectMarkRelease p t s
  | .jobTakeover t => Sys2Proof.Machine.execJobTakeover t s
  | .jobEnd t => Sys2Proof.Machine.execJobEnd t s
  | .wspdPeriod t => Sys2Proof.Machine.execWspdPeriod t s
  | .sretFrame q frame broken t => Sys2Proof.Machine.execSretFrame q frame broken t s
  | .sretTimeout q t => Sys2Proof.Machine.execSretTimeout q t s
  | .strobeWatchdog q rowB stuck t => Sys2Proof.Machine.execStrobeWatchdog q rowB stuck t s
  | .strobeHwLimit q rowB stuck t => Sys2Proof.Machine.execStrobeHwLimit q rowB stuck t s
  | .csiFrameStart c vc ecc t => Sys2Proof.Machine.execCsiFrameStart c vc ecc t s
  | .csiFrameEnd c vc ecc t => Sys2Proof.Machine.execCsiFrameEnd c vc ecc t s
  | .csiLongPacket c vc dt ecc pix crcOk overflow t => Sys2Proof.Machine.execCsiLongPacket c vc dt ecc pix crcOk overflow t s
  | .camLineTimeout c t => Sys2Proof.Machine.execCamLineTimeout c t s
  | .pipelineLine t => Sys2Proof.Machine.execPipelineLine t s
  | .frameProcessed c t => Sys2Proof.Machine.execFrameProcessed c t s
  | .profileUpdate meas t => Sys2Proof.Machine.execProfileUpdate meas t s
  | .microstepAdvance a t => Sys2Proof.Machine.execMicrostepAdvance a t s
  | .chopHighThreshold a onB cur t => Sys2Proof.Machine.execChopHighThreshold a onB cur t s
  | .chopCycleEnd a onB cur mean t => Sys2Proof.Machine.execChopCycleEnd a onB cur mean t s
  | .chopBlankEnd a onB t => Sys2Proof.Machine.execChopBlankEnd a onB t s
  | .longCycle a onB t => Sys2Proof.Machine.execLongCycle a onB t s
  | .overcurrent a onB cur t => Sys2Proof.Machine.execOvercurrent a onB cur t s
  | .holdDelayExpiry a t => Sys2Proof.Machine.execHoldDelayExpiry a t s
  | .switchLevelAccepted k level t => Sys2Proof.Machine.execSwitchLevelAccepted k level t s
  | .evtSwitchStuck k t => Sys2Proof.Machine.execEvtSwitchStuck k t s
  | .comparePulseEnd u t => Sys2Proof.Machine.execComparePulseEnd u t s
  | .ssiFramePeriod k t => Sys2Proof.Machine.execSsiFramePeriod k t s
  | .ssiFrameDone k start frame t => Sys2Proof.Machine.execSsiFrameDone k start frame t s
  | .dmaBurstStart ch pin t => Sys2Proof.Machine.execDmaBurstStart ch pin t s
  | .dmaWriteAck ch t => Sys2Proof.Machine.execDmaWriteAck ch t s
  | .dmaTransferComplete ch t => Sys2Proof.Machine.execDmaTransferComplete ch t s
  | .dmaReadError ch t => Sys2Proof.Machine.execDmaReadError ch t s
  | .evtPackDone slot t => Sys2Proof.Machine.execEvtPackDone slot t s
  | .memFillDone t => Sys2Proof.Machine.execMemFillDone t s
  | .tableCopyDone p table t => Sys2Proof.Machine.execTableCopyDone p table t s
  | .ploadCopyDone p t => Sys2Proof.Machine.execPloadCopyDone p t s
  | .checkPassDone p t => Sys2Proof.Machine.execCheckPassDone p t s
  | .memWriteAck ch t => Sys2Proof.Machine.execMemWriteAck ch t s
  | .zeroFillDone region t => Sys2Proof.Machine.execZeroFillDone region t s
  | .correctedRead addr t => Sys2Proof.Machine.execCorrectedRead addr t s
  | .scrubRewrite addr t => Sys2Proof.Machine.execScrubRewrite addr t s
  | .uncorrectableRead addr requester unit line t => Sys2Proof.Machine.execUncorrectableRead addr requester unit line t s
  | .scrubBlock corrected bad t => Sys2Proof.Machine.execScrubBlock corrected bad t s
  | .dramTraining results t => Sys2Proof.Machine.execDramTraining results t s
  | .dramTapStep ch t => Sys2Proof.Machine.execDramTapStep ch t s
  | .dramRetrainDone results t => Sys2Proof.Machine.execDramRetrainDone results t s
  | .evtReady t => Sys2Proof.Machine.execEvtReady t s
  | .alignmentMarker l marker pad stuffs stuffErrs skew t => Sys2Proof.Machine.execAlignmentMarker l marker pad stuffs stuffErrs skew t s
  | .markerWindowMiss l t => Sys2Proof.Machine.execMarkerWindowMiss l t s
  | .refclkZlLost ppm t => Sys2Proof.Machine.execRefclkZlLost ppm t s
  | .refclkZlRestored ppm t => Sys2Proof.Machine.execRefclkZlRestored ppm t s
  | .laneActivityLost l t => Sys2Proof.Machine.execLaneActivityLost l t s
  | .windupUnanswered p t => Sys2Proof.Machine.execWindupUnanswered p t s
  | .windUpBurstRx p powered t => Sys2Proof.Machine.execWindUpBurstRx p powered t s
  | .idleEntry p t => Sys2Proof.Machine.execIdleEntry p t s
  | .idleExit p t => Sys2Proof.Machine.execIdleExit p t s
  | .flitReceived p flit t => Sys2Proof.Machine.execFlitReceived p flit t s
  | .initReceived p payload t => Sys2Proof.Machine.execInitReceived p payload t s
  | .nakReceived p ack t => Sys2Proof.Machine.execNakReceived p ack t s
  | .replayTimeout p t => Sys2Proof.Machine.execReplayTimeout p t s
  | .nakRepeat p t => Sys2Proof.Machine.execNakRepeat p t s
  | .initTimeout p t => Sys2Proof.Machine.execInitTimeout p t s
  | .flitTransmit p t => Sys2Proof.Machine.execFlitTransmit p t s
  | .cmdTransaction p x t => Sys2Proof.Machine.execCmdTransaction p x t s
  | .upstreamForward p x t => Sys2Proof.Machine.execUpstreamForward p x t s
  | .memwr p x t => Sys2Proof.Machine.execMemwr p x t s
  | .memrd p x t => Sys2Proof.Machine.execMemrd p x t s
  | .memcpl p x t => Sys2Proof.Machine.execMemcpl p x t s
  | .bcast p x t => Sys2Proof.Machine.execBcast p x t s
  | .beaconSend t => Sys2Proof.Machine.execBeaconSend t s
  | .evtBeaconLost t => Sys2Proof.Machine.execEvtBeaconLost t s
  | .timeTriggerEvent k t => Sys2Proof.Machine.execTimeTriggerEvent k t s
  | .camTrigPulseEnd k t => Sys2Proof.Machine.execCamTrigPulseEnd k t s
  | .hkRoundStart t => Sys2Proof.Machine.execHkRoundStart t s
  | .hkRoundEnd raw hk dram t => Sys2Proof.Machine.execHkRoundEnd raw hk dram t s
  | .calMeasureDone target results t => Sys2Proof.Machine.execCalMeasureDone target results t s
  | .tapStep target unit t => Sys2Proof.Machine.execTapStep target unit t s
  | .stringReceived x partner t => Sys2Proof.Machine.execStringReceived x partner t s
  | .stringSend t => Sys2Proof.Machine.execStringSend t s
  | .wireStringToggle t => Sys2Proof.Machine.execWireStringToggle t s
  | .stringInEdge t => Sys2Proof.Machine.execStringInEdge t s
  | .stringSilent wire t => Sys2Proof.Machine.execStringSilent wire t s
  | .ilkInChange level t => Sys2Proof.Machine.execIlkInChange level t s
  | .ilkRaise t => Sys2Proof.Machine.execIlkRaise t s
  | .hwdogExpiry t => Sys2Proof.Machine.execHwdogExpiry t s
  | .pairListenEnd t => Sys2Proof.Machine.execPairListenEnd t s
  | .checkpointSend t => Sys2Proof.Machine.execCheckpointSend t s
  | .ckptReceived x t => Sys2Proof.Machine.execCkptReceived x t s
  | .evtStandbyReady t => Sys2Proof.Machine.execEvtStandbyReady t s
  | .dozeTimeout t => Sys2Proof.Machine.execDozeTimeout t s
  | .autoL1Entry t => Sys2Proof.Machine.execAutoL1Entry t s
  | .l1Exit t => Sys2Proof.Machine.execL1Exit t s
  | .ladderEntry t => Sys2Proof.Machine.execLadderEntry t s
  | .evtLadderWake cause t => Sys2Proof.Machine.execEvtLadderWake cause t s
  | .resetNFall t => Sys2Proof.Machine.execResetNFall t s
  | .resetNRise pwrgood side t => Sys2Proof.Machine.execResetNRise pwrgood side t s
  | .pwrgoodFall t => Sys2Proof.Machine.execPwrgoodFall t s
  | .pmbusAlert t => Sys2Proof.Machine.execPmbusAlert t s
  | .vsettleExpiry t => Sys2Proof.Machine.execVsettleExpiry t s
  | .bypass trst di t => Sys2Proof.Machine.execBypass trst di t s
  | .idcode trst di t => Sys2Proof.Machine.execIdcode trst di t s
  | .samplePreload trst pins di t => Sys2Proof.Machine.execSamplePreload trst pins di t s
  | .extest trst pins di t => Sys2Proof.Machine.execExtest trst pins di t s
  | .clamp trst di t => Sys2Proof.Machine.execClamp trst di t s
  | .highz trst di t => Sys2Proof.Machine.execHighz trst di t s
  | .refclkSysReturn t => Sys2Proof.Machine.execRefclkSysReturn t s
  | .wireFaultEnd e ch t => Sys2Proof.Machine.execWireFaultEnd e ch t s
  | .diStuck k t => Sys2Proof.Machine.execDiStuck k t s
  | .laneClockSettled p t => Sys2Proof.Machine.execLaneClockSettled p t s
  | .bitLock l t => Sys2Proof.Machine.execBitLock l t s
  | .supplyOperatingRange inside t => Sys2Proof.Machine.execSupplyOperatingRange inside t s
  | .pmbusTransactionEnd ok value t => Sys2Proof.Machine.execPmbusTransactionEnd ok value t s

end Sys2Proof.Machine
end

