-- ==== Sys2Proof/Safety.lean ====
section
/-! DEFINITION. What counts as a safe step, and the conditions and replies in whose terms the statements speak: when an
opcode row executes at once, when an event finds the block running, what a reply leaves. -/

namespace Sys2Proof.Machine

/-- The state a step answers, when it answers one. -/
def nextOf (o : Host.Outcome State Fault Refusal) : Option State :=
  match o with
  | .next s => some s
  | .fault _ => none
  | .refused _ => none

/-- A step that goes on: the block neither faults nor refuses. -/
def Proceeds (o : Host.Outcome State Fault Refusal) : Prop := (nextOf o).isSome = true

/-! ### Opcode rows -/

/-- The command of an opcode with its header passes checks 1 to 6 of R36 with nothing before it: the block is out of
reset and in L0 or L1, the interface is open (R39), the header is in order, the packet is addressed to the block's own
id, the parameters are ones that the row admits, nothing is outstanding, and no write of the link precedes it (R382). -/
structure Placed (h : Hdr) (c : HostCmd) (s : State) : Prop where
  running : s.power.resetN = true
  awake : s.awake = true
  open_ : h.iface = .spi ∨ s.active 0 = true
  notReply : hdrFlag h 0 = false
  flags : h.flags / 16 = 0
  status : h.status = 0
  reserved : h.reserved = 0
  target : h.target = s.myId
  assigned : s.myId < 63
  values : HostCmd.valuesOk c = true
  free : s.host.outstanding = []
  idle : s.host.waiting = none
  writes : s.writesDone ⟨h, c, 0xFE⟩ = true

/-- The block is ready to carry the command out at once: it passes checks 1 to 6, and R43 admits its opcode. -/
structure Ready (h : Hdr) (c : HostCmd) (s : State) : Prop extends Placed h c s where
  serves : (s.flag Reg.CMD_STATUS_READY || earlyOpcode c.opcode) = true

/-- The state in which a command that arrives and finds the block ready is executed: it is the one outstanding. -/
def State.serving (s : State) (h : Hdr) (c : HostCmd) : State :=
  let s := s.elapse h.at_
  { s with host := { s.host with outstanding := [⟨h, c, 0xFE⟩] } }

/-- The command that executes is no longer outstanding, and its reply is queued (R33, R40). -/
def answered (h : Hdr) (c : HostCmd) (status : Nat) (data : List Byte) (s : State) : State :=
  { s with host := { s.host with outstanding := s.host.outstanding.drop 1 } }.reply h c.opcode status false data

/-! ### Events -/

/-- An event finds the block out of reset. -/
abbrev Running (s : State) : Prop := s.power.resetN = true

/-- An event finds the block out of reset, in L0 or L1. -/
abbrev Live (s : State) : Prop := s.power.resetN = true ∧ s.awake = true

/-! ### Rows and their instants -/

/-- The row of the opcode table that a command is. -/
def instrOf (h : Hdr) : HostCmd → Instr
  | .nop => .nop h
  | .getInfo => .getInfo h
  | .regRead addr count => .regRead h addr count
  | .regWrite addr words => .regWrite h addr words
  | .regModify addr mask value => .regModify h addr mask value
  | .reset kind force => .reset h kind force
  | .getStatus clear => .getStatus h clear
  | .memFill addr len pattern => .memFill h addr len pattern
  | .memMode mode => .memMode h mode
  | .dmaStart channel toShadow desc => .dmaStart h channel toShadow desc
  | .dmaAbort channel => .dmaAbort h channel
  | .packStart slot level src dst srcLen dstLen => .packStart h slot level src dst srcLen dstLen
  | .unpackStart slot level src dst srcLen dstLen => .unpackStart h slot level src dst srcLen dstLen
  | .packResume slot dst dstLen => .packResume h slot dst dstLen
  | .packSlot slot release => .packSlot h slot release
  | .jobDefine jobId planeMask endMode endValue bindings => .jobDefine h jobId planeMask endMode endValue bindings
  | .jobStart jobId arm source position => .jobStart h jobId arm source position
  | .jobStop when dropQueued => .jobStop h when dropQueued
  | .jobStatus => .jobStatus h
  | .streamCommit plane writeOffset => .streamCommit h plane writeOffset
  | .layerSet plane layer enable alpha premult flipAt addr width height stride => .layerSet h plane layer enable alpha premult flipAt addr width height stride
  | .kiteMove plane flipAt kiteX kiteY => .kiteMove h plane flipAt kiteX kiteY
  | .pload plane rects src len => .pload h plane rects src len
  | .plock plane => .plock h plane
  | .punlock plane token => .punlock h plane token
  | .tableLoad plane table flipAt src len => .tableLoad h plane table flipAt src len
  | .headProfile plane record => .headProfile h plane record
  | .headMap plane ports => .headMap h plane ports
  | .portEnable portMask enable => .portEnable h portMask enable
  | .portClear portMask => .portClear h portMask
  | .headRead port => .headRead h port
  | .preheatTarget plane target => .preheatTarget h plane target
  | .encConfig enc filter bandwidth standstillMs relayEnable => .encConfig h enc filter bandwidth standstillMs relayEnable
  | .encReference enc count => .encReference h enc count
  | .encRead enc => .encRead h enc
  | .lineConfig plane enc pitch delay cpl wobble lookahead => .lineConfig h plane enc pitch delay cpl wobble lookahead
  | .headOffset plane first offsets => .headOffset h plane first offsets
  | .compareSet unit source direction position => .compareSet h unit source direction position
  | .wspdConfig enable margin highWm => .wspdConfig h enable margin highWm
  | .camConfig port record => .camConfig h port record
  | .camInline port => .camInline h port
  | .roiSet first records => .roiSet h first records
  | .statsRead first count => .statsRead h first count
  | .loopCtrl loop mode stepLimit => .loopCtrl h loop mode stepLimit
  | .alignRead plane => .alignRead h plane
  | .alignRestore plane record => .alignRestore h plane record
  | .axisConfig axis record => .axisConfig h axis record
  | .axisMove axis target vmax accel decel => .axisMove h axis target vmax accel decel
  | .axisTable axis first last segments => .axisTable h axis first last segments
  | .axisStop axis mode => .axisStop h axis mode
  | .axisRead axis => .axisRead h axis
  | .axisSetPos axis position => .axisSetPos h axis position
  | .switchConfig sw edge stuckMs => .switchConfig h sw edge stuckMs
  | .timeRead tb => .timeRead h tb
  | .timeSet tb seconds ns => .timeSet h tb seconds ns
  | .timeAdjust tb rate offset => .timeAdjust h tb rate offset
  | .triggerSet trigger tb startS startNs periodNs => .triggerSet h trigger tb startS startNs periodNs
  | .thermRead => .thermRead h
  | .hkRead first count => .hkRead h first count
  | .calRun targets => .calRun h targets
  | .calDt dt => .calDt h dt
  | .linkConfig port lanes rate pre main post => .linkConfig h port lanes rate pre main post
  | .linkRestart port => .linkRestart h port
  | .linkStatus port => .linkStatus h port
  | .hierRead => .hierRead h
  | .pairConfig enable strings => .pairConfig h enable strings
  | .pairStatus => .pairStatus h
  | .pairHandover => .pairHandover h
  | .pairRejoin => .pairRejoin h
  | .otpRead => .otpRead h
  | .otpBurn record => .otpBurn h record
  | .keyBurn slot hash => .keyBurn h slot hash
  | .patchLoad offset data => .patchLoad h offset data
  | .patchActivate size signature => .patchActivate h size signature
  | .ladderSet state wakePort => .ladderSet h state wakePort
  | .ladderStatus => .ladderStatus h
  | .vcoreFloor floor => .vcoreFloor h floor
  | .logRead first count => .logRead h first count
  | .logClear counters => .logClear h counters
  | .echo data => .echo h data
  | .countersRead block => .countersRead h block

/-- The instant that a command carries. -/
def instant : Instr → Nat
  | .nop h => h.at_
  | .getInfo h => h.at_
  | .regRead h _ _ => h.at_
  | .regWrite h _ _ => h.at_
  | .regModify h _ _ _ => h.at_
  | .reset h _ _ => h.at_
  | .getStatus h _ => h.at_
  | .memFill h _ _ _ => h.at_
  | .memMode h _ => h.at_
  | .dmaStart h _ _ _ => h.at_
  | .dmaAbort h _ => h.at_
  | .packStart h _ _ _ _ _ _ => h.at_
  | .unpackStart h _ _ _ _ _ _ => h.at_
  | .packResume h _ _ _ => h.at_
  | .packSlot h _ _ => h.at_
  | .jobDefine h _ _ _ _ _ => h.at_
  | .jobStart h _ _ _ _ => h.at_
  | .jobStop h _ _ => h.at_
  | .jobStatus h => h.at_
  | .streamCommit h _ _ => h.at_
  | .layerSet h _ _ _ _ _ _ _ _ _ _ => h.at_
  | .kiteMove h _ _ _ _ => h.at_
  | .pload h _ _ _ _ => h.at_
  | .plock h _ => h.at_
  | .punlock h _ _ => h.at_
  | .tableLoad h _ _ _ _ _ => h.at_
  | .headProfile h _ _ => h.at_
  | .headMap h _ _ => h.at_
  | .portEnable h _ _ => h.at_
  | .portClear h _ => h.at_
  | .headRead h _ => h.at_
  | .preheatTarget h _ _ => h.at_
  | .encConfig h _ _ _ _ _ => h.at_
  | .encReference h _ _ => h.at_
  | .encRead h _ => h.at_
  | .lineConfig h _ _ _ _ _ _ _ => h.at_
  | .headOffset h _ _ _ => h.at_
  | .compareSet h _ _ _ _ => h.at_
  | .wspdConfig h _ _ _ => h.at_
  | .camConfig h _ _ => h.at_
  | .camInline h _ => h.at_
  | .roiSet h _ _ => h.at_
  | .statsRead h _ _ => h.at_
  | .loopCtrl h _ _ _ => h.at_
  | .alignRead h _ => h.at_
  | .alignRestore h _ _ => h.at_
  | .axisConfig h _ _ => h.at_
  | .axisMove h _ _ _ _ _ => h.at_
  | .axisTable h _ _ _ _ => h.at_
  | .axisStop h _ _ => h.at_
  | .axisRead h _ => h.at_
  | .axisSetPos h _ _ => h.at_
  | .switchConfig h _ _ _ => h.at_
  | .timeRead h _ => h.at_
  | .timeSet h _ _ _ => h.at_
  | .timeAdjust h _ _ _ => h.at_
  | .triggerSet h _ _ _ _ _ => h.at_
  | .thermRead h => h.at_
  | .hkRead h _ _ => h.at_
  | .calRun h _ => h.at_
  | .calDt h _ => h.at_
  | .linkConfig h _ _ _ _ _ _ => h.at_
  | .linkRestart h _ => h.at_
  | .linkStatus h _ => h.at_
  | .hierRead h => h.at_
  | .pairConfig h _ _ => h.at_
  | .pairStatus h => h.at_
  | .pairHandover h => h.at_
  | .pairRejoin h => h.at_
  | .otpRead h => h.at_
  | .otpBurn h _ => h.at_
  | .keyBurn h _ _ => h.at_
  | .patchLoad h _ _ => h.at_
  | .patchActivate h _ _ => h.at_
  | .ladderSet h _ _ => h.at_
  | .ladderStatus h => h.at_
  | .vcoreFloor h _ => h.at_
  | .logRead h _ _ => h.at_
  | .logClear h _ => h.at_
  | .echo h _ => h.at_
  | .countersRead h _ => h.at_
  | .registerFieldWrite _ _ t => t
  | .clrMin t => t
  | .gpioDirWrite _ t => t
  | .clkStatusLostClear t => t
  | .cmpPosLoWrite _ _ t => t
  | .zFaultClear _ t => t
  | .ssiStart _ t => t
  | .cplHiWrite _ _ t => t
  | .defectPop t => t
  | .uePop t => t
  | .invalGo t => t
  | .recoverActiveWrite _ t => t
  | .tableCommit _ t => t
  | .dmaCommit _ t => t
  | .zphyPortRestart _ t => t
  | .zphyPortDisable _ t => t
  | .brokenClear _ t => t
  | .pmbusFaultClear t => t
  | .spiWriteFrame _ t => t
  | .spiStatusFrame t => t
  | .spiReadFrame _ t => t
  | .spiUnknownFrame _ t => t
  | .commandExecute t => t
  | .eventWindowEnd _ _ t => t
  | .refclkSysLost t => t
  | .paceWindow _ t => t
  | .encEdgeAccepted _ _ _ t => t
  | .indexLatch _ _ _ t => t
  | .wireFault _ _ t => t
  | .standstill _ t => t
  | .settlingEnd _ t => t
  | .observerTick t => t
  | .lineIssue _ t => t
  | .lineToFifo _ t => t
  | .shiftStart _ t => t
  | .latch _ t => t
  | .strobeTrainStart _ t => t
  | .strobeTrainEnd _ _ t => t
  | .defectMarkRelease _ t => t
  | .jobTakeover t => t
  | .jobEnd t => t
  | .wspdPeriod t => t
  | .sretFrame _ _ _ t => t
  | .sretTimeout _ t => t
  | .strobeWatchdog _ _ _ t => t
  | .strobeHwLimit _ _ _ t => t
  | .csiFrameStart _ _ _ t => t
  | .csiFrameEnd _ _ _ t => t
  | .csiLongPacket _ _ _ _ _ _ _ t => t
  | .camLineTimeout _ t => t
  | .pipelineLine t => t
  | .frameProcessed _ t => t
  | .profileUpdate _ t => t
  | .microstepAdvance _ t => t
  | .chopHighThreshold _ _ _ t => t
  | .chopCycleEnd _ _ _ _ t => t
  | .chopBlankEnd _ _ t => t
  | .longCycle _ _ t => t
  | .overcurrent _ _ _ t => t
  | .holdDelayExpiry _ t => t
  | .switchLevelAccepted _ _ t => t
  | .evtSwitchStuck _ t => t
  | .comparePulseEnd _ t => t
  | .ssiFramePeriod _ t => t
  | .ssiFrameDone _ _ _ t => t
  | .dmaBurstStart _ _ t => t
  | .dmaWriteAck _ t => t
  | .dmaTransferComplete _ t => t
  | .dmaReadError _ t => t
  | .evtPackDone _ t => t
  | .memFillDone t => t
  | .tableCopyDone _ _ t => t
  | .ploadCopyDone _ t => t
  | .checkPassDone _ t => t
  | .memWriteAck _ t => t
  | .zeroFillDone _ t => t
  | .correctedRead _ t => t
  | .scrubRewrite _ t => t
  | .uncorrectableRead _ _ _ _ t => t
  | .scrubBlock _ _ t => t
  | .dramTraining _ t => t
  | .dramTapStep _ t => t
  | .dramRetrainDone _ t => t
  | .evtReady t => t
  | .alignmentMarker _ _ _ _ _ _ t => t
  | .markerWindowMiss _ t => t
  | .refclkZlLost _ t => t
  | .refclkZlRestored _ t => t
  | .laneActivityLost _ t => t
  | .windupUnanswered _ t => t
  | .windUpBurstRx _ _ t => t
  | .idleEntry _ t => t
  | .idleExit _ t => t
  | .flitReceived _ _ t => t
  | .initReceived _ _ t => t
  | .nakReceived _ _ t => t
  | .replayTimeout _ t => t
  | .nakRepeat _ t => t
  | .initTimeout _ t => t
  | .flitTransmit _ t => t
  | .cmdTransaction _ _ t => t
  | .upstreamForward _ _ t => t
  | .memwr _ _ t => t
  | .memrd _ _ t => t
  | .memcpl _ _ t => t
  | .bcast _ _ t => t
  | .beaconSend t => t
  | .evtBeaconLost t => t
  | .timeTriggerEvent _ t => t
  | .camTrigPulseEnd _ t => t
  | .hkRoundStart t => t
  | .hkRoundEnd _ _ _ t => t
  | .calMeasureDone _ _ t => t
  | .tapStep _ _ t => t
  | .stringReceived _ _ t => t
  | .stringSend t => t
  | .wireStringToggle t => t
  | .stringInEdge t => t
  | .stringSilent _ t => t
  | .ilkInChange _ t => t
  | .ilkRaise t => t
  | .hwdogExpiry t => t
  | .pairListenEnd t => t
  | .checkpointSend t => t
  | .ckptReceived _ t => t
  | .evtStandbyReady t => t
  | .dozeTimeout t => t
  | .autoL1Entry t => t
  | .l1Exit t => t
  | .ladderEntry t => t
  | .evtLadderWake _ t => t
  | .resetNFall t => t
  | .resetNRise _ _ t => t
  | .pwrgoodFall t => t
  | .pmbusAlert t => t
  | .vsettleExpiry t => t
  | .bypass _ _ t => t
  | .idcode _ _ t => t
  | .samplePreload _ _ _ t => t
  | .extest _ _ _ t => t
  | .clamp _ _ t => t
  | .highz _ _ t => t
  | .refclkSysReturn t => t
  | .wireFaultEnd _ _ t => t
  | .diStuck _ t => t
  | .laneClockSettled _ t => t
  | .bitLock _ t => t
  | .supplyOperatingRange _ t => t
  | .pmbusTransactionEnd _ _ t => t

/-- What happens while RESET_N is low as well: the rise of RESET_N, a fall of PWRGOOD, the supplies, the encoder
receivers that the relay repeats, and the TAP (R98, R466, R467, R488). -/
def actsInReset : Instr → Bool
  | .nop _ => false
  | .getInfo _ => false
  | .regRead _ _ _ => false
  | .regWrite _ _ _ => false
  | .regModify _ _ _ _ => false
  | .reset _ _ _ => false
  | .getStatus _ _ => false
  | .memFill _ _ _ _ => false
  | .memMode _ _ => false
  | .dmaStart _ _ _ _ => false
  | .dmaAbort _ _ => false
  | .packStart _ _ _ _ _ _ _ => false
  | .unpackStart _ _ _ _ _ _ _ => false
  | .packResume _ _ _ _ => false
  | .packSlot _ _ _ => false
  | .jobDefine _ _ _ _ _ _ => false
  | .jobStart _ _ _ _ _ => false
  | .jobStop _ _ _ => false
  | .jobStatus _ => false
  | .streamCommit _ _ _ => false
  | .layerSet _ _ _ _ _ _ _ _ _ _ _ => false
  | .kiteMove _ _ _ _ _ => false
  | .pload _ _ _ _ _ => false
  | .plock _ _ => false
  | .punlock _ _ _ => false
  | .tableLoad _ _ _ _ _ _ => false
  | .headProfile _ _ _ => false
  | .headMap _ _ _ => false
  | .portEnable _ _ _ => false
  | .portClear _ _ => false
  | .headRead _ _ => false
  | .preheatTarget _ _ _ => false
  | .encConfig _ _ _ _ _ _ => false
  | .encReference _ _ _ => false
  | .encRead _ _ => false
  | .lineConfig _ _ _ _ _ _ _ _ => false
  | .headOffset _ _ _ _ => false
  | .compareSet _ _ _ _ _ => false
  | .wspdConfig _ _ _ _ => false
  | .camConfig _ _ _ => false
  | .camInline _ _ => false
  | .roiSet _ _ _ => false
  | .statsRead _ _ _ => false
  | .loopCtrl _ _ _ _ => false
  | .alignRead _ _ => false
  | .alignRestore _ _ _ => false
  | .axisConfig _ _ _ => false
  | .axisMove _ _ _ _ _ _ => false
  | .axisTable _ _ _ _ _ => false
  | .axisStop _ _ _ => false
  | .axisRead _ _ => false
  | .axisSetPos _ _ _ => false
  | .switchConfig _ _ _ _ => false
  | .timeRead _ _ => false
  | .timeSet _ _ _ _ => false
  | .timeAdjust _ _ _ _ => false
  | .triggerSet _ _ _ _ _ _ => false
  | .thermRead _ => false
  | .hkRead _ _ _ => false
  | .calRun _ _ => false
  | .calDt _ _ => false
  | .linkConfig _ _ _ _ _ _ _ => false
  | .linkRestart _ _ => false
  | .linkStatus _ _ => false
  | .hierRead _ => false
  | .pairConfig _ _ _ => false
  | .pairStatus _ => false
  | .pairHandover _ => false
  | .pairRejoin _ => false
  | .otpRead _ => false
  | .otpBurn _ _ => false
  | .keyBurn _ _ _ => false
  | .patchLoad _ _ _ => false
  | .patchActivate _ _ _ => false
  | .ladderSet _ _ _ => false
  | .ladderStatus _ => false
  | .vcoreFloor _ _ => false
  | .logRead _ _ _ => false
  | .logClear _ _ => false
  | .echo _ _ => false
  | .countersRead _ _ => false
  | .registerFieldWrite _ _ _ => false
  | .clrMin _ => false
  | .gpioDirWrite _ _ => false
  | .clkStatusLostClear _ => false
  | .cmpPosLoWrite _ _ _ => false
  | .zFaultClear _ _ => false
  | .ssiStart _ _ => false
  | .cplHiWrite _ _ _ => false
  | .defectPop _ => false
  | .uePop _ => false
  | .invalGo _ => false
  | .recoverActiveWrite _ _ => false
  | .tableCommit _ _ => false
  | .dmaCommit _ _ => false
  | .zphyPortRestart _ _ => false
  | .zphyPortDisable _ _ => false
  | .brokenClear _ _ => false
  | .pmbusFaultClear _ => false
  | .spiWriteFrame _ _ => false
  | .spiStatusFrame _ => false
  | .spiReadFrame _ _ => false
  | .spiUnknownFrame _ _ => false
  | .commandExecute _ => false
  | .eventWindowEnd _ _ _ => false
  | .refclkSysLost _ => false
  | .paceWindow _ _ => false
  | .encEdgeAccepted _ _ _ _ => true
  | .indexLatch _ _ _ _ => true
  | .wireFault _ _ _ => false
  | .standstill _ _ => false
  | .settlingEnd _ _ => false
  | .observerTick _ => false
  | .lineIssue _ _ => false
  | .lineToFifo _ _ => false
  | .shiftStart _ _ => false
  | .latch _ _ => false
  | .strobeTrainStart _ _ => false
  | .strobeTrainEnd _ _ _ => false
  | .defectMarkRelease _ _ => false
  | .jobTakeover _ => false
  | .jobEnd _ => false
  | .wspdPeriod _ => false
  | .sretFrame _ _ _ _ => false
  | .sretTimeout _ _ => false
  | .strobeWatchdog _ _ _ _ => false
  | .strobeHwLimit _ _ _ _ => false
  | .csiFrameStart _ _ _ _ => false
  | .csiFrameEnd _ _ _ _ => false
  | .csiLongPacket _ _ _ _ _ _ _ _ => false
  | .camLineTimeout _ _ => false
  | .pipelineLine _ => false
  | .frameProcessed _ _ => false
  | .profileUpdate _ _ => false
  | .microstepAdvance _ _ => false
  | .chopHighThreshold _ _ _ _ => false
  | .chopCycleEnd _ _ _ _ _ => false
  | .chopBlankEnd _ _ _ => false
  | .longCycle _ _ _ => false
  | .overcurrent _ _ _ _ => false
  | .holdDelayExpiry _ _ => false
  | .switchLevelAccepted _ _ _ => false
  | .evtSwitchStuck _ _ => false
  | .comparePulseEnd _ _ => false
  | .ssiFramePeriod _ _ => false
  | .ssiFrameDone _ _ _ _ => false
  | .dmaBurstStart _ _ _ => false
  | .dmaWriteAck _ _ => false
  | .dmaTransferComplete _ _ => false
  | .dmaReadError _ _ => false
  | .evtPackDone _ _ => false
  | .memFillDone _ => false
  | .tableCopyDone _ _ _ => false
  | .ploadCopyDone _ _ => false
  | .checkPassDone _ _ => false
  | .memWriteAck _ _ => false
  | .zeroFillDone _ _ => false
  | .correctedRead _ _ => false
  | .scrubRewrite _ _ => false
  | .uncorrectableRead _ _ _ _ _ => false
  | .scrubBlock _ _ _ => false
  | .dramTraining _ _ => false
  | .dramTapStep _ _ => false
  | .dramRetrainDone _ _ => false
  | .evtReady _ => false
  | .alignmentMarker _ _ _ _ _ _ _ => false
  | .markerWindowMiss _ _ => false
  | .refclkZlLost _ _ => false
  | .refclkZlRestored _ _ => false
  | .laneActivityLost _ _ => false
  | .windupUnanswered _ _ => false
  | .windUpBurstRx _ _ _ => false
  | .idleEntry _ _ => false
  | .idleExit _ _ => false
  | .flitReceived _ _ _ => false
  | .initReceived _ _ _ => false
  | .nakReceived _ _ _ => false
  | .replayTimeout _ _ => false
  | .nakRepeat _ _ => false
  | .initTimeout _ _ => false
  | .flitTransmit _ _ => false
  | .cmdTransaction _ _ _ => false
  | .upstreamForward _ _ _ => false
  | .memwr _ _ _ => false
  | .memrd _ _ _ => false
  | .memcpl _ _ _ => false
  | .bcast _ _ _ => false
  | .beaconSend _ => false
  | .evtBeaconLost _ => false
  | .timeTriggerEvent _ _ => false
  | .camTrigPulseEnd _ _ => false
  | .hkRoundStart _ => false
  | .hkRoundEnd _ _ _ _ => false
  | .calMeasureDone _ _ _ => false
  | .tapStep _ _ _ => false
  | .stringReceived _ _ _ => false
  | .stringSend _ => false
  | .wireStringToggle _ => false
  | .stringInEdge _ => false
  | .stringSilent _ _ => false
  | .ilkInChange _ _ => false
  | .ilkRaise _ => false
  | .hwdogExpiry _ => false
  | .pairListenEnd _ => false
  | .checkpointSend _ => false
  | .ckptReceived _ _ => false
  | .evtStandbyReady _ => false
  | .dozeTimeout _ => false
  | .autoL1Entry _ => false
  | .l1Exit _ => false
  | .ladderEntry _ => false
  | .evtLadderWake _ _ => false
  | .resetNFall _ => false
  | .resetNRise _ _ _ => true
  | .pwrgoodFall _ => true
  | .pmbusAlert _ => false
  | .vsettleExpiry _ => false
  | .bypass _ _ _ => true
  | .idcode _ _ _ => true
  | .samplePreload _ _ _ _ => true
  | .extest _ _ _ _ => true
  | .clamp _ _ _ => true
  | .highz _ _ _ => true
  | .refclkSysReturn _ => false
  | .wireFaultEnd _ _ _ => false
  | .diStuck _ _ => false
  | .laneClockSettled _ _ => false
  | .bitLock _ _ => false
  | .supplyOperatingRange _ _ => true
  | .pmbusTransactionEnd _ _ _ => false

end Sys2Proof.Machine
end

