-- ==== Sys2Proof/WellFormed.lean ====
section
/-! DEFINITION. Well-formed commands: every operand fits the field that carries it (02_command_packets.md, the
parameter columns; 17_link_transactions.md R377; 01_architecture.md R3 for a register word). Units are of a `Fin` type
and need no check. -/

namespace Sys2Proof

/-- An integer that a two's-complement field of `w` bits holds. -/
abbrev inS (w : Nat) (x : Int) : Prop := -(2 ^ (w - 1) : Nat) ≤ x ∧ x < (2 ^ (w - 1) : Nat)

/-- Every header field fits (R33). -/
def Hdr.wf (h : Hdr) : Prop :=
  h.tag < 2 ^ 16 ∧ h.target < 2 ^ 8 ∧ h.flags < 2 ^ 8 ∧ h.status < 2 ^ 16 ∧ h.sequence < 2 ^ 16 ∧ h.reserved < 2 ^ 32

/-- Every value of the converters lies within ±1,023 codes (13_motion_axes.md R284), in 1/16 code. -/
def AxisMeas.wf (m : AxisMeas) : Prop :=
  ∀ c ∈ [m.vA, m.iA, m.startA, m.endA, m.vB, m.iB, m.startB, m.endB], -16368 ≤ c ∧ c ≤ 16368

/-- Every transaction header field fits (R377). -/
def Trans.wf (x : Trans) : Prop :=
  x.ttype < 2 ^ 8 ∧ x.dest < 2 ^ 8 ∧ x.src < 2 ^ 8 ∧ x.flags < 2 ^ 8 ∧ x.tag < 2 ^ 16 ∧ x.body.length < 2 ^ 16

/-- Every parameter fits its field. -/
def HostCmd.wf : HostCmd → Prop
  | .nop => True
  | .getInfo => True
  | .regRead addr count => addr < 2 ^ 64 ∧ count < 2 ^ 16
  | .regWrite addr words => addr < 2 ^ 64 ∧ words.length < 2 ^ 16 ∧ ∀ x ∈ words, x < 2 ^ 32
  | .regModify addr mask value => addr < 2 ^ 64 ∧ mask < 2 ^ 32 ∧ value < 2 ^ 32
  | .reset kind force => kind < 2 ^ 8 ∧ force < 2 ^ 8
  | .getStatus clear => clear < 2 ^ 8
  | .memFill addr len pattern => addr < 2 ^ 64 ∧ len < 2 ^ 64 ∧ pattern < 2 ^ 32
  | .memMode mode => mode < 2 ^ 8
  | .dmaStart channel toShadow desc => channel < 2 ^ 8 ∧ toShadow < 2 ^ 8 ∧ desc.length = 32
  | .dmaAbort channel => channel < 2 ^ 8
  | .packStart slot level src dst srcLen dstLen => slot < 2 ^ 8 ∧ level < 2 ^ 8 ∧ src < 2 ^ 64 ∧ dst < 2 ^ 64 ∧ srcLen < 2 ^ 32 ∧ dstLen < 2 ^ 32
  | .unpackStart slot level src dst srcLen dstLen => slot < 2 ^ 8 ∧ level < 2 ^ 8 ∧ src < 2 ^ 64 ∧ dst < 2 ^ 64 ∧ srcLen < 2 ^ 32 ∧ dstLen < 2 ^ 32
  | .packResume slot dst dstLen => slot < 2 ^ 8 ∧ dst < 2 ^ 64 ∧ dstLen < 2 ^ 32
  | .packSlot slot release => slot < 2 ^ 8 ∧ release < 2 ^ 8
  | .jobDefine jobId planeMask endMode endValue bindings => jobId < 2 ^ 8 ∧ planeMask < 2 ^ 8 ∧ endMode < 2 ^ 8 ∧ endValue < 2 ^ 64 ∧ bindings.length = 256
  | .jobStart jobId arm source position => jobId < 2 ^ 8 ∧ arm < 2 ^ 8 ∧ source < 2 ^ 8 ∧ inS 64 position
  | .jobStop when dropQueued => when < 2 ^ 8 ∧ dropQueued < 2 ^ 8
  | .jobStatus => True
  | .streamCommit plane writeOffset => plane < 2 ^ 8 ∧ writeOffset < 2 ^ 64
  | .layerSet plane layer enable alpha premult flipAt addr width height stride => plane < 2 ^ 8 ∧ layer < 2 ^ 8 ∧ enable < 2 ^ 8 ∧ alpha < 2 ^ 8 ∧ premult < 2 ^ 8 ∧ flipAt < 2 ^ 8 ∧ addr < 2 ^ 64 ∧ width < 2 ^ 32 ∧ height < 2 ^ 32 ∧ stride < 2 ^ 32
  | .kiteMove plane flipAt kiteX kiteY => plane < 2 ^ 8 ∧ flipAt < 2 ^ 8 ∧ kiteX < 2 ^ 32 ∧ kiteY < 2 ^ 32
  | .pload plane rects src len => plane < 2 ^ 8 ∧ rects < 2 ^ 8 ∧ src < 2 ^ 64 ∧ len < 2 ^ 32
  | .plock plane => plane < 2 ^ 8
  | .punlock plane token => plane < 2 ^ 8 ∧ token < 2 ^ 64
  | .tableLoad plane table flipAt src len => plane < 2 ^ 8 ∧ table < 2 ^ 8 ∧ flipAt < 2 ^ 8 ∧ src < 2 ^ 64 ∧ len < 2 ^ 32
  | .headProfile plane record => plane < 2 ^ 8 ∧ record.length = 64
  | .headMap plane ports => plane < 2 ^ 8 ∧ ports.length < 2 ^ 8 ∧ ∀ x ∈ ports, x < 2 ^ 8
  | .portEnable portMask enable => portMask < 2 ^ 64 ∧ enable < 2 ^ 8
  | .portClear portMask => portMask < 2 ^ 64
  | .headRead port => port < 2 ^ 8
  | .preheatTarget plane target => plane < 2 ^ 8 ∧ inS 16 target
  | .encConfig enc filter bandwidth standstillMs relayEnable => enc < 2 ^ 8 ∧ filter < 2 ^ 8 ∧ bandwidth < 2 ^ 16 ∧ standstillMs < 2 ^ 16 ∧ relayEnable < 2 ^ 8
  | .encReference enc count => enc < 2 ^ 8 ∧ inS 64 count
  | .encRead enc => enc < 2 ^ 8
  | .lineConfig plane enc pitch delay cpl wobble lookahead => plane < 2 ^ 8 ∧ enc < 2 ^ 8 ∧ pitch < 2 ^ 8 ∧ delay < 2 ^ 32 ∧ cpl < 2 ^ 64 ∧ wobble < 2 ^ 16 ∧ lookahead < 2 ^ 8
  | .headOffset plane first offsets => plane < 2 ^ 8 ∧ first < 2 ^ 8 ∧ offsets.length < 2 ^ 8 ∧ ∀ x ∈ offsets, inS 32 x
  | .compareSet unit source direction position => unit < 2 ^ 8 ∧ source < 2 ^ 8 ∧ direction < 2 ^ 8 ∧ inS 64 position
  | .wspdConfig enable margin highWm => enable < 2 ^ 8 ∧ margin < 2 ^ 16 ∧ highWm < 2 ^ 32
  | .camConfig port record => port < 2 ^ 8 ∧ record.length = 96
  | .camInline port => port < 2 ^ 8
  | .roiSet first records => first < 2 ^ 8 ∧ records.length % 16 = 0 ∧ records.length / 16 < 2 ^ 16
  | .statsRead first count => first < 2 ^ 8 ∧ count < 2 ^ 16
  | .loopCtrl loop mode stepLimit => loop < 2 ^ 8 ∧ mode < 2 ^ 8 ∧ stepLimit < 2 ^ 32
  | .alignRead plane => plane < 2 ^ 8
  | .alignRestore plane record => plane < 2 ^ 8 ∧ record.length ≤ 4072
  | .axisConfig axis record => axis < 2 ^ 8 ∧ record.length = 64
  | .axisMove axis target vmax accel decel => axis < 2 ^ 8 ∧ inS 64 target ∧ vmax < 2 ^ 32 ∧ accel < 2 ^ 32 ∧ decel < 2 ^ 32
  | .axisTable axis first last segments => axis < 2 ^ 8 ∧ first < 2 ^ 8 ∧ last < 2 ^ 8 ∧ segments.length % 16 = 0 ∧ segments.length / 16 < 2 ^ 16
  | .axisStop axis mode => axis < 2 ^ 8 ∧ mode < 2 ^ 8
  | .axisRead axis => axis < 2 ^ 8
  | .axisSetPos axis position => axis < 2 ^ 8 ∧ inS 64 position
  | .switchConfig sw edge stuckMs => sw < 2 ^ 8 ∧ edge < 2 ^ 8 ∧ stuckMs < 2 ^ 16
  | .timeRead tb => tb < 2 ^ 8
  | .timeSet tb seconds ns => tb < 2 ^ 8 ∧ seconds < 2 ^ 64 ∧ ns < 2 ^ 32
  | .timeAdjust tb rate offset => tb < 2 ^ 8 ∧ inS 32 rate ∧ inS 64 offset
  | .triggerSet trigger tb startS startNs periodNs => trigger < 2 ^ 8 ∧ tb < 2 ^ 8 ∧ startS < 2 ^ 64 ∧ startNs < 2 ^ 32 ∧ periodNs < 2 ^ 32
  | .thermRead => True
  | .hkRead first count => first < 2 ^ 8 ∧ count < 2 ^ 8
  | .calRun targets => targets < 2 ^ 8
  | .calDt dt => dt < 2 ^ 16
  | .linkConfig port lanes rate pre main post => port < 2 ^ 8 ∧ lanes < 2 ^ 8 ∧ rate < 2 ^ 8 ∧ pre < 2 ^ 8 ∧ main < 2 ^ 8 ∧ post < 2 ^ 8
  | .linkRestart port => port < 2 ^ 8
  | .linkStatus port => port < 2 ^ 8
  | .hierRead => True
  | .pairConfig enable strings => enable < 2 ^ 8 ∧ strings < 2 ^ 8
  | .pairStatus => True
  | .pairHandover => True
  | .pairRejoin => True
  | .otpRead => True
  | .otpBurn record => record.length = 64
  | .keyBurn slot hash => slot < 2 ^ 8 ∧ hash.length = 32
  | .patchLoad offset data => offset < 2 ^ 32 ∧ data.length < 2 ^ 16
  | .patchActivate size signature => size < 2 ^ 32 ∧ signature.length = 64
  | .ladderSet state wakePort => state < 2 ^ 8 ∧ wakePort < 2 ^ 8
  | .ladderStatus => True
  | .vcoreFloor floor => floor < 2 ^ 16
  | .logRead first count => first < 2 ^ 16 ∧ count < 2 ^ 16
  | .logClear counters => counters < 2 ^ 8
  | .echo data => data.length ≤ 4076
  | .countersRead block => block < 2 ^ 8

/-- Every operand of a command fits. -/
def Instr.wf : Instr → Prop
  | .nop h => h.wf ∧ (HostCmd.nop).wf
  | .getInfo h => h.wf ∧ (HostCmd.getInfo).wf
  | .regRead h addr count => h.wf ∧ (HostCmd.regRead addr count).wf
  | .regWrite h addr words => h.wf ∧ (HostCmd.regWrite addr words).wf
  | .regModify h addr mask value => h.wf ∧ (HostCmd.regModify addr mask value).wf
  | .reset h kind force => h.wf ∧ (HostCmd.reset kind force).wf
  | .getStatus h clear => h.wf ∧ (HostCmd.getStatus clear).wf
  | .memFill h addr len pattern => h.wf ∧ (HostCmd.memFill addr len pattern).wf
  | .memMode h mode => h.wf ∧ (HostCmd.memMode mode).wf
  | .dmaStart h channel toShadow desc => h.wf ∧ (HostCmd.dmaStart channel toShadow desc).wf
  | .dmaAbort h channel => h.wf ∧ (HostCmd.dmaAbort channel).wf
  | .packStart h slot level src dst srcLen dstLen => h.wf ∧ (HostCmd.packStart slot level src dst srcLen dstLen).wf
  | .unpackStart h slot level src dst srcLen dstLen => h.wf ∧ (HostCmd.unpackStart slot level src dst srcLen dstLen).wf
  | .packResume h slot dst dstLen => h.wf ∧ (HostCmd.packResume slot dst dstLen).wf
  | .packSlot h slot release => h.wf ∧ (HostCmd.packSlot slot release).wf
  | .jobDefine h jobId planeMask endMode endValue bindings => h.wf ∧ (HostCmd.jobDefine jobId planeMask endMode endValue bindings).wf
  | .jobStart h jobId arm source position => h.wf ∧ (HostCmd.jobStart jobId arm source position).wf
  | .jobStop h when dropQueued => h.wf ∧ (HostCmd.jobStop when dropQueued).wf
  | .jobStatus h => h.wf ∧ (HostCmd.jobStatus).wf
  | .streamCommit h plane writeOffset => h.wf ∧ (HostCmd.streamCommit plane writeOffset).wf
  | .layerSet h plane layer enable alpha premult flipAt addr width height stride => h.wf ∧ (HostCmd.layerSet plane layer enable alpha premult flipAt addr width height stride).wf
  | .kiteMove h plane flipAt kiteX kiteY => h.wf ∧ (HostCmd.kiteMove plane flipAt kiteX kiteY).wf
  | .pload h plane rects src len => h.wf ∧ (HostCmd.pload plane rects src len).wf
  | .plock h plane => h.wf ∧ (HostCmd.plock plane).wf
  | .punlock h plane token => h.wf ∧ (HostCmd.punlock plane token).wf
  | .tableLoad h plane table flipAt src len => h.wf ∧ (HostCmd.tableLoad plane table flipAt src len).wf
  | .headProfile h plane record => h.wf ∧ (HostCmd.headProfile plane record).wf
  | .headMap h plane ports => h.wf ∧ (HostCmd.headMap plane ports).wf
  | .portEnable h portMask enable => h.wf ∧ (HostCmd.portEnable portMask enable).wf
  | .portClear h portMask => h.wf ∧ (HostCmd.portClear portMask).wf
  | .headRead h port => h.wf ∧ (HostCmd.headRead port).wf
  | .preheatTarget h plane target => h.wf ∧ (HostCmd.preheatTarget plane target).wf
  | .encConfig h enc filter bandwidth standstillMs relayEnable => h.wf ∧ (HostCmd.encConfig enc filter bandwidth standstillMs relayEnable).wf
  | .encReference h enc count => h.wf ∧ (HostCmd.encReference enc count).wf
  | .encRead h enc => h.wf ∧ (HostCmd.encRead enc).wf
  | .lineConfig h plane enc pitch delay cpl wobble lookahead => h.wf ∧ (HostCmd.lineConfig plane enc pitch delay cpl wobble lookahead).wf
  | .headOffset h plane first offsets => h.wf ∧ (HostCmd.headOffset plane first offsets).wf
  | .compareSet h unit source direction position => h.wf ∧ (HostCmd.compareSet unit source direction position).wf
  | .wspdConfig h enable margin highWm => h.wf ∧ (HostCmd.wspdConfig enable margin highWm).wf
  | .camConfig h port record => h.wf ∧ (HostCmd.camConfig port record).wf
  | .camInline h port => h.wf ∧ (HostCmd.camInline port).wf
  | .roiSet h first records => h.wf ∧ (HostCmd.roiSet first records).wf
  | .statsRead h first count => h.wf ∧ (HostCmd.statsRead first count).wf
  | .loopCtrl h loop mode stepLimit => h.wf ∧ (HostCmd.loopCtrl loop mode stepLimit).wf
  | .alignRead h plane => h.wf ∧ (HostCmd.alignRead plane).wf
  | .alignRestore h plane record => h.wf ∧ (HostCmd.alignRestore plane record).wf
  | .axisConfig h axis record => h.wf ∧ (HostCmd.axisConfig axis record).wf
  | .axisMove h axis target vmax accel decel => h.wf ∧ (HostCmd.axisMove axis target vmax accel decel).wf
  | .axisTable h axis first last segments => h.wf ∧ (HostCmd.axisTable axis first last segments).wf
  | .axisStop h axis mode => h.wf ∧ (HostCmd.axisStop axis mode).wf
  | .axisRead h axis => h.wf ∧ (HostCmd.axisRead axis).wf
  | .axisSetPos h axis position => h.wf ∧ (HostCmd.axisSetPos axis position).wf
  | .switchConfig h sw edge stuckMs => h.wf ∧ (HostCmd.switchConfig sw edge stuckMs).wf
  | .timeRead h tb => h.wf ∧ (HostCmd.timeRead tb).wf
  | .timeSet h tb seconds ns => h.wf ∧ (HostCmd.timeSet tb seconds ns).wf
  | .timeAdjust h tb rate offset => h.wf ∧ (HostCmd.timeAdjust tb rate offset).wf
  | .triggerSet h trigger tb startS startNs periodNs => h.wf ∧ (HostCmd.triggerSet trigger tb startS startNs periodNs).wf
  | .thermRead h => h.wf ∧ (HostCmd.thermRead).wf
  | .hkRead h first count => h.wf ∧ (HostCmd.hkRead first count).wf
  | .calRun h targets => h.wf ∧ (HostCmd.calRun targets).wf
  | .calDt h dt => h.wf ∧ (HostCmd.calDt dt).wf
  | .linkConfig h port lanes rate pre main post => h.wf ∧ (HostCmd.linkConfig port lanes rate pre main post).wf
  | .linkRestart h port => h.wf ∧ (HostCmd.linkRestart port).wf
  | .linkStatus h port => h.wf ∧ (HostCmd.linkStatus port).wf
  | .hierRead h => h.wf ∧ (HostCmd.hierRead).wf
  | .pairConfig h enable strings => h.wf ∧ (HostCmd.pairConfig enable strings).wf
  | .pairStatus h => h.wf ∧ (HostCmd.pairStatus).wf
  | .pairHandover h => h.wf ∧ (HostCmd.pairHandover).wf
  | .pairRejoin h => h.wf ∧ (HostCmd.pairRejoin).wf
  | .otpRead h => h.wf ∧ (HostCmd.otpRead).wf
  | .otpBurn h record => h.wf ∧ (HostCmd.otpBurn record).wf
  | .keyBurn h slot hash => h.wf ∧ (HostCmd.keyBurn slot hash).wf
  | .patchLoad h offset data => h.wf ∧ (HostCmd.patchLoad offset data).wf
  | .patchActivate h size signature => h.wf ∧ (HostCmd.patchActivate size signature).wf
  | .ladderSet h state wakePort => h.wf ∧ (HostCmd.ladderSet state wakePort).wf
  | .ladderStatus h => h.wf ∧ (HostCmd.ladderStatus).wf
  | .vcoreFloor h floor => h.wf ∧ (HostCmd.vcoreFloor floor).wf
  | .logRead h first count => h.wf ∧ (HostCmd.logRead first count).wf
  | .logClear h counters => h.wf ∧ (HostCmd.logClear counters).wf
  | .echo h data => h.wf ∧ (HostCmd.echo data).wf
  | .countersRead h block => h.wf ∧ (HostCmd.countersRead block).wf
  | .registerFieldWrite addr value _ => addr < 2 ^ 40 ∧ value < 2 ^ 32
  | .clrMin _ => True
  | .gpioDirWrite value _ => value < 2 ^ 32
  | .clkStatusLostClear _ => True
  | .cmpPosLoWrite u value _ => value < 2 ^ 32
  | .zFaultClear _ _ => True
  | .ssiStart _ _ => True
  | .cplHiWrite _ value _ => value < 2 ^ 32
  | .defectPop _ => True
  | .uePop _ => True
  | .invalGo _ => True
  | .recoverActiveWrite _ _ => True
  | .tableCommit _ _ => True
  | .dmaCommit _ _ => True
  | .zphyPortRestart _ _ => True
  | .zphyPortDisable _ _ => True
  | .brokenClear mask _ => mask < 2 ^ 32
  | .pmbusFaultClear _ => True
  | .spiWriteFrame _ _ => True
  | .spiStatusFrame _ => True
  | .spiReadFrame _ _ => True
  | .spiUnknownFrame _ _ => True
  | .commandExecute _ => True
  | .eventWindowEnd code _ _ => code < 2 ^ 16
  | .refclkSysLost _ => True
  | .paceWindow work _ => work.length = 9
  | .encEdgeAccepted _ levels samples _ => levels ≠ [] ∧ levels.length = samples.length ∧ ∀ n ∈ samples, 1 ≤ n
  | .indexLatch _ levels samples _ => levels ≠ [] ∧ levels.length = samples.length ∧ ∀ n ∈ samples, 1 ≤ n
  | .wireFault _ _ _ => True
  | .standstill _ _ => True
  | .settlingEnd _ _ => True
  | .observerTick _ => True
  | .lineIssue _ _ => True
  | .lineToFifo _ _ => True
  | .shiftStart _ _ => True
  | .latch _ _ => True
  | .strobeTrainStart _ _ => True
  | .strobeTrainEnd _ _ _ => True
  | .defectMarkRelease _ _ => True
  | .jobTakeover _ => True
  | .jobEnd _ => True
  | .wspdPeriod _ => True
  | .sretFrame _ _ _ _ => True
  | .sretTimeout _ _ => True
  | .strobeWatchdog _ _ _ _ => True
  | .strobeHwLimit _ _ _ _ => True
  | .csiFrameStart _ _ _ _ => True
  | .csiFrameEnd _ _ _ _ => True
  | .csiLongPacket _ _ _ _ _ _ _ _ => True
  | .camLineTimeout _ _ => True
  | .pipelineLine _ => True
  | .frameProcessed _ _ => True
  | .profileUpdate meas _ => meas.length = 4 ∧ ∀ m ∈ meas, m.wf
  | .microstepAdvance _ _ => True
  | .chopHighThreshold _ _ _ _ => True
  | .chopCycleEnd _ _ _ _ _ => True
  | .chopBlankEnd _ _ _ => True
  | .longCycle _ _ _ => True
  | .overcurrent _ _ _ _ => True
  | .holdDelayExpiry _ _ => True
  | .switchLevelAccepted _ _ _ => True
  | .evtSwitchStuck _ _ => True
  | .comparePulseEnd _ _ => True
  | .ssiFramePeriod _ _ => True
  | .ssiFrameDone _ _ _ _ => True
  | .dmaBurstStart _ _ _ => True
  | .dmaWriteAck _ _ => True
  | .dmaTransferComplete _ _ => True
  | .dmaReadError _ _ => True
  | .evtPackDone _ _ => True
  | .memFillDone _ => True
  | .tableCopyDone _ _ _ => True
  | .ploadCopyDone _ _ => True
  | .checkPassDone _ _ => True
  | .memWriteAck _ _ => True
  | .zeroFillDone region _ => region < 229376
  | .correctedRead addr _ => addr < 2 ^ 40
  | .scrubRewrite addr _ => addr < 2 ^ 40
  | .uncorrectableRead addr _ _ _ _ => addr < 2 ^ 40
  | .scrubBlock _ _ _ => True
  | .dramTraining results _ => results.length = 8
  | .dramTapStep _ _ => True
  | .dramRetrainDone results _ => results.length = 8
  | .evtReady _ => True
  | .alignmentMarker _ marker _ _ _ _ _ => marker < 2 ^ 64
  | .markerWindowMiss _ _ => True
  | .refclkZlLost ppm _ => inS 16 ppm
  | .refclkZlRestored ppm _ => inS 16 ppm
  | .laneActivityLost _ _ => True
  | .windupUnanswered _ _ => True
  | .windUpBurstRx _ _ _ => True
  | .idleEntry _ _ => True
  | .idleExit _ _ => True
  | .flitReceived _ flit _ => flit.length = 64
  | .initReceived p payload _ => payload.length = 56
  | .nakReceived _ ack _ => ack < 2 ^ 10
  | .replayTimeout _ _ => True
  | .nakRepeat _ _ => True
  | .initTimeout _ _ => True
  | .flitTransmit _ _ => True
  | .cmdTransaction _ x _ => x.wf
  | .upstreamForward _ x _ => x.wf
  | .memwr _ x _ => x.wf
  | .memrd _ x _ => x.wf
  | .memcpl _ x _ => x.wf
  | .bcast _ x _ => x.wf
  | .beaconSend _ => True
  | .evtBeaconLost _ => True
  | .timeTriggerEvent _ _ => True
  | .camTrigPulseEnd _ _ => True
  | .hkRoundStart _ => True
  | .hkRoundEnd raw hk dram _ => raw.length = 20 ∧ hk.length = 64 ∧ dram.length = 8
  | .calMeasureDone _ _ _ => True
  | .tapStep _ _ _ => True
  | .stringReceived x _ _ => x.wf
  | .stringSend _ => True
  | .wireStringToggle _ => True
  | .stringInEdge _ => True
  | .stringSilent _ _ => True
  | .ilkInChange _ _ => True
  | .ilkRaise _ => True
  | .hwdogExpiry _ => True
  | .pairListenEnd _ => True
  | .checkpointSend _ => True
  | .ckptReceived x _ => x.wf
  | .evtStandbyReady _ => True
  | .dozeTimeout _ => True
  | .autoL1Entry _ => True
  | .l1Exit _ => True
  | .ladderEntry _ => True
  | .evtLadderWake _ _ => True
  | .resetNFall _ => True
  | .resetNRise _ _ _ => True
  | .pwrgoodFall _ => True
  | .pmbusAlert _ => True
  | .vsettleExpiry _ => True
  | .bypass _ _ _ => True
  | .idcode _ _ _ => True
  | .samplePreload _ _ _ _ => True
  | .extest _ _ _ _ => True
  | .clamp _ _ _ => True
  | .highz _ _ _ => True
  | .refclkSysReturn _ => True
  | .wireFaultEnd _ _ _ => True
  | .diStuck _ _ => True
  | .laneClockSettled _ _ => True
  | .bitLock _ _ => True
  | .supplyOperatingRange _ _ => True
  | .pmbusTransactionEnd _ _ _ => True

end Sys2Proof
end

