-- ==== Sys2Proof/Certificates/Slice0/Obligations.lean ====
section
/-! DEFINITION. The statements for the provers. A statement of what a command does has as its conclusion the state that
`exec` answers, so that it is a statement of completion, of the result and of the frame in one: what the state on its
right-hand side does not name is unchanged. -/

open Sys2Proof Sys2Proof.Machine

/-! ### The queue, the interpreter and the block's life -/

/-- A step of a state with a command at the front of its queue is `exec` of that command on the state with the queue's
rest (log 1). -/
def Obligations.StepRunsFrontCommand : Prop :=
  ∀ (c : Instr) (s : State), step { s with pending := c :: s.pending } = exec c s

/-- No command ends in a fault or a refusal, in any state: every error of the block is a status, an event or a register
bit. On an empty queue the block idles (the model's choice, log 1). -/
def Obligations.NoStepStopsTheBlock : Prop :=
  (∀ (c : Instr) (s : State), Proceeds (exec c s)) ∧ ∀ s : State, s.pending = [] → step s = .next s

/-- While RESET_N is low, only what acts in reset has an effect; every other command leaves the state as it is but for
the passage of time (R467; log 3). -/
def Obligations.HeldWhileResetNIsLow : Prop :=
  ∀ (c : Instr) (s : State), s.power.resetN = false → actsInReset c = false → exec c s = .next (s.elapse (instant c))

/-- The first check of R36 that fails decides the reply of a command that arrives for the block's own id; nothing else
changes (R36, R40, R42). -/
def Obligations.ArrivalChecksInOrder : Prop :=
  ∀ (h : Hdr) (c : HostCmd) (s : State), s.power.resetN = true → s.awake = true →
    (h.iface = .spi ∨ s.active 0 = true) → hdrFlag h 0 = false → h.target = s.myId → s.myId < 63 →
    let bad := h.flags / 16 ≠ 0 ∨ h.status ≠ 0 ∨ h.reserved ≠ 0
    let dup := ∃ k ∈ s.host.outstanding ++ s.host.waiting.toList, k.h.iface = h.iface ∧ k.h.tag = h.tag
    let answers := fun (st : Nat) (d : Bool) => exec (instrOf h c) s = .next ((s.elapse h.at_).reply h c.opcode st d [])
    (bad → answers stBadParam false) ∧
    (¬bad → dup → answers stBadParam true) ∧
    (¬bad → ¬dup → HostCmd.valuesOk c = false → answers stBadParam false) ∧
    (¬bad → ¬dup → HostCmd.valuesOk c = true → 64 ≤ s.outCount → answers stBusy false)

/-- Commands execute one at a time in order of arrival: one that arrives behind another waits, and COMMAND_EXECUTE
carries out the oldest (R38, R40). -/
def Obligations.CommandsExecuteInOrderOfArrival : Prop :=
  (∀ (h : Hdr) (c : HostCmd) (s : State), s.power.resetN = true → s.awake = true →
    (h.iface = .spi ∨ s.active 0 = true) → hdrFlag h 0 = false → h.target = s.myId → s.myId < 63 →
    h.flags / 16 = 0 → h.status = 0 → h.reserved = 0 → HostCmd.valuesOk c = true →
    (∀ k ∈ s.host.outstanding ++ s.host.waiting.toList, ¬(k.h.iface = h.iface ∧ k.h.tag = h.tag)) →
    s.outCount < 64 → s.host.outstanding ≠ [] →
    exec (instrOf h c) s = .next { s.elapse h.at_ with
      host := { s.host with outstanding := s.host.outstanding ++ [⟨h, c, 0xFE⟩] } }) ∧
  (∀ (t : Nat) (k : Cmd) (l : List Cmd) (st : Nat) (d : List Byte) (u s : State), Live s →
    s.host.outstanding = k :: l → s.host.waiting = none → s.writesDone k = true →
    (s.flag Reg.CMD_STATUS_READY || earlyOpcode k.c.opcode) = true →
    (s.elapse t).perform k.h k.c = ⟨st, d, u, false⟩ →
    exec (.commandExecute t) s = .next
      (if accepted st then (answered k.h k.c st d u).afterReply k.h k.c else answered k.h k.c st [] u))

/-- R37: a reply to a status other than ST_OK or ST_ACCEPTED carries no reply data. -/
def Obligations.RefusedReplyCarriesNoData : Prop :=
  ∀ (h : Hdr) (c : HostCmd) (s u : State) (st : Nat) (d : List Byte), Ready h c s →
    (s.serving h c).perform h c = ⟨st, d, u, false⟩ → st ≠ stOk → st ≠ stAccepted →
    exec (instrOf h c) s = .next (answered h c st [] u)

/-- R43: before EVT_READY only NOP, GET_INFO, REG_READ, GET_STATUS, PATCH_LOAD and PATCH_ACTIVATE execute; every other
opcode is answered ST_BAD_STATE and has no effect. -/
def Obligations.BeforeReadyOnlySixOpcodes : Prop :=
  ∀ (h : Hdr) (c : HostCmd) (s : State), s.flag Reg.CMD_STATUS_READY = false →
    Placed h c s →
    let early := c = .nop ∨ c = .getInfo ∨ (∃ a n, c = .regRead a n) ∨ (∃ x, c = .getStatus x) ∨
      (∃ o d, c = .patchLoad o d) ∨ (∃ n g, c = .patchActivate n g)
    (¬early → exec (instrOf h c) s = .next ((s.elapse h.at_).reply h c.opcode stBadState false [])) ∧
    (early → ∀ (st : Nat) (d : List Byte) (u : State), (s.serving h c).perform h c = ⟨st, d, u, false⟩ →
      exec (instrOf h c) s = .next (if accepted st then (answered h c st d u).afterReply h c else answered h c st [] u))

/-- R44: in L2 to L4 a command on an interface other than the wake port is lost without a reply. -/
def Obligations.SleepingBlockLosesCommands : Prop :=
  ∀ (h : Hdr) (c : HostCmd) (s : State), s.awake = false → s.power.entry = none → s.power.wakeHeld = none →
    s.wakePort ≠ wakeOf h.iface → exec (instrOf h c) s = .next (s.elapse h.at_)

/-! ### Opcode rows: system, registers, diagnostics -/

/-- NOP, GET_INFO, GET_STATUS, ECHO, LOG_READ, COUNTERS_READ and LOG_CLEAR: the reply, and a state that is otherwise
that of the arrival but for what CLEAR and LOG_CLEAR clear (R50, R59 to R61). -/
def Obligations.SystemReadsComplete : Prop :=
  ∀ (h : Hdr) (s : State),
    (Ready h .nop s → exec (.nop h) s = .next ((s.elapse h.at_).reply h 0x0000 stOk false [])) ∧
    (Ready h .getInfo s → exec (.getInfo h) s = .next ((s.elapse h.at_).reply h 0x0001 stOk false
      (leBytes 8 Config.deviceId ++ leBytes 2 (low 16 Config.fwMajor) ++ leBytes 2 s.fwMinor ++ leBytes 2 s.patchId ++
        leBytes 1 s.myId ++ leBytes 1 (s.get Reg.PAIR_STATUS_ROLE) ++ leBytes 1 (s.get Reg.LADDER_STATE) ++ [1]))) ∧
    (∀ clear, Ready h (.getStatus clear) s → exec (.getStatus h clear) s = .next
      (answered h (.getStatus clear) stOk
        (leBytes 2 s.host.faultGroups ++ [1, 0] ++ leBytes 2 s.queued.length ++ [0, 0] ++
          leBytes 4 (s.get Reg.CMD_ERR_COUNT_EVT_LOST) ++ leBytes 4 (s.get Reg.CMD_ERR_COUNT_CRC))
        (let u := s.serving h (.getStatus clear)
         if clear = 1 then { u with host := { u.host with faultGroups := 0 } } else u))) ∧
    (∀ data, Ready h (.echo data) s → exec (.echo h data) s = .next ((s.elapse h.at_).reply h 0x0F02 stOk false data)) ∧
    (∀ first count, Ready h (.logRead first count) s → exec (.logRead h first count) s = .next
      ((s.elapse h.at_).reply h 0x0F00 stOk false (((s.host.log.drop first).take count).flatMap evtBytes))) ∧
    (∀ block, Ready h (.countersRead block) s → exec (.countersRead h block) s = .next
      (answered h (.countersRead block) stOk
        ((counterAddrs block).flatMap (fun a => leBytes 4 ((s.serving h (.countersRead block)).regWord a)))
        (s.serving h (.countersRead block)))) ∧
    (∀ counters, Ready h (.logClear counters) s →
      let u := s.serving h (.logClear counters)
      let v := ({ u with host := { u.host with log := [], logFullRaised := false } }).set Reg.LOG_STATUS_DROPPED 0
      exec (.logClear h counters) s = .next (answered h (.logClear counters) stOk []
        (if counters = 1 then (v.set Reg.CMD_ERR_COUNT_CRC 0).set Reg.CMD_ERR_COUNT_EVT_LOST 0 else v)))

/-- REG_READ, REG_WRITE and REG_MODIFY (R49, R65, R74). -/
def Obligations.RegisterAccessCompletes : Prop :=
  ∀ (h : Hdr) (s : State),
    (∀ addr n, Ready h (.regRead addr n) s → inDram addr (4 * n) = false →
      let x := (s.serving h (.regRead addr n)).readWords addr n
      exec (.regRead h addr n) s = .next (answered h (.regRead addr n) stOk (x.2.flatMap (leBytes 4)) x.1)) ∧
    (∀ addr n, Ready h (.regRead addr n) s → inDram addr (4 * n) = true →
      ((s.serving h (.regRead addr n)).fetch addr (4 * n)).2.2 = [] →
      let x := (s.serving h (.regRead addr n)).fetch addr (4 * n)
      exec (.regRead h addr n) s = .next
        (answered h (.regRead addr n) stOk ((wordsOf x.2.1).flatMap (leBytes 4)) x.1)) ∧
    (∀ addr words, Ready h (.regWrite addr words) s → inDram addr (4 * words.length) = false →
      let u := s.serving h (.regWrite addr words)
      let x := u.writeWords addr words
      exec (.regWrite h addr words) s = .next
        (answered h (.regWrite addr words) x.1 [] (if x.1 = stOk then x.2 else u))) ∧
    (∀ addr words, Ready h (.regWrite addr words) s → inDram addr (4 * words.length) = true → s.standby = false →
      touchesProt addr (4 * words.length) = false →
      ((s.serving h (.regWrite addr words)).writeMem true addr (words.flatMap (leBytes 4))).2 = [] →
      exec (.regWrite h addr words) s = .next (answered h (.regWrite addr words) stOk []
        ((s.serving h (.regWrite addr words)).writeMem true addr (words.flatMap (leBytes 4))).1)) ∧
    (∀ a mask value, Ready h (.regModify (regBase + a) mask value) s →
      let c := HostCmd.regModify (regBase + a) mask value
      let r := (s.serving h c).readReg a
      let merged := (r.2 - (r.2 &&& (mask ||| w1cMask (regBase + a)))) + (value &&& mask)
      (r.1.writeReg a merged).1 = stOk →
      exec (.regModify h (regBase + a) mask value) s = .next
        (answered h c stOk (leBytes 4 r.2) (r.1.writeReg a merged).2))

/-- RESET sends its reply before it acts (R50); KIND 1 is a full reset (R468), KIND 0 a firmware restart (R502). -/
def Obligations.ResetAnswersThenActs : Prop :=
  ∀ (h : Hdr) (force : Nat) (s : State),
    (Ready h (.reset 0 force) s → (s.job.running = none ∨ force = 1) →
      exec (.reset h 0 force) s = .next ((s.elapse h.at_).reply h 0x0005 stOk false []).fwRestart) ∧
    (Ready h (.reset 1 force) s → (s.job.running = none ∨ force = 1) → hdrFlag h flagQuiet = false →
      let u := (s.elapse h.at_).reply h 0x0005 stOk false []
      let r := u.fullReset u.otpRead [Reg.LADDER_RESET_CAUSE_COMMAND] u.sidePin
      exec (.reset h 1 force) s = .next { r with host := { r.host with parting := u.lastReply } }) ∧
    (∀ kind, Ready h (.reset kind force) s → s.job.running ≠ none → force = 0 →
      exec (.reset h kind force) s = .next ((s.elapse h.at_).reply h 0x0005 stBadState false []))

/-- TIME_READ, TIME_SET and TIME_ADJUST (R425 to R428, R431). -/
def Obligations.TimeCommandsComplete : Prop :=
  ∀ (h : Hdr) (s : State),
    (∀ tb, Ready h (.timeRead tb) s →
      let u := s.serving h (.timeRead tb)
      exec (.timeRead h tb) s = .next (answered h (.timeRead tb) stOk
        (leBytes 8 (low 48 (u.tbNs tb / secNs)) ++ leBytes 4 (u.tbNs tb % secNs)) (u.captureTb tb))) ∧
    (∀ tb sec ns, Ready h (.timeSet tb sec ns) s →
      let u := (s.serving h (.timeSet tb sec ns)).stepTb tb (sec * secNs + ns)
      exec (.timeSet h tb sec ns) s = .next (answered h (.timeSet tb sec ns) stOk []
        (if tb = 0 then u.setB Reg.TIME_STATUS_UNSYNC false else u))) ∧
    (∀ tb rate off, Ready h (.timeAdjust tb rate off) s →
      let u := ((s.serving h (.timeAdjust tb rate off)).rateTb tb rate).slewTb tb off
      exec (.timeAdjust h tb rate off) s = .next (answered h (.timeAdjust tb rate off) stOk []
        (if tb = 0 then u.setB Reg.TIME_STATUS_UNSYNC false else u)))

/-- R426: TIME_SET steps the base to SECONDS and NS at the instant of execution, cancels any slew and keeps the rate; a
value outside the ranges is answered ST_BAD_PARAM. -/
def Obligations.TimeSetStepsTheBase : Prop :=
  ∀ (h : Hdr) (tb sec ns : Nat) (s : State), (tb = 0 ∨ tb = 3) →
    (Ready h (.timeSet tb sec ns) s → ∃ t, exec (.timeSet h tb sec ns) s = .next t ∧
      t.tbNs tb = sec * 1000000000 + ns ∧ (t.tb tb).slew = 0 ∧ (t.tb tb).rate = (s.tb tb).rate) ∧
    (Placed h .nop s → (1000000000 ≤ ns ∨ 2 ^ 48 ≤ sec) →
      exec (.timeSet h tb sec ns) s = .next ((s.elapse h.at_).reply h 0x0901 stBadParam false []))

/-- R434: the checks of TRIGGER_SET in their order, and the setting that a command that passes leaves. -/
def Obligations.TriggerSetChecks : Prop :=
  ∀ (h : Hdr) (k tb sec ns per : Nat) (s : State), Ready h .nop s → s.flag Reg.CMD_STATUS_READY = true → sec < 2 ^ 48 →
    let c := HostCmd.triggerSet k tb sec ns per
    let u := s.serving h c
    let refused := exec (.triggerSet h k tb sec ns per) s = .next ((s.elapse h.at_).reply h 0x0903 stBadParam false [])
    let bad := 4 < k ∨ (3 < tb ∧ tb ≠ 0xFF) ∨ 1000000000 ≤ ns ∨ (k < 4 ∧ 1 ≤ per ∧ per ≤ 999) ∨ (k = 4 ∧ per < 8000000)
    (bad → refused) ∧
    (¬bad → tb = 0xFF → k = 4 → refused) ∧
    (¬bad → tb = 0xFF → k ≠ 4 → exec (.triggerSet h k tb sec ns per) s =
      .next (answered h c stOk [] (u.setB (Reg.TIME_TRIG_CTRL_ARMED k) false))) ∧
    (¬bad → tb ≠ 0xFF → sec * 1000000000 + ns ≤ u.tbNs tb → refused) ∧
    (¬bad → tb ≠ 0xFF → u.tbNs tb < sec * 1000000000 + ns → exec (.triggerSet h k tb sec ns per) s =
      .next (answered h c stOk [] ((((u.set (Reg.TIME_TRIG_CTRL_TB k) tb).setB (Reg.TIME_TRIG_CTRL_ARMED k) true).putTrigNext
        k (sec * 1000000000 + ns)).set (Reg.TIME_TRIG_PERIOD_NS k) per)))

/-! ### Opcode rows: encoders, compare units and line placement -/

/-- ENC_CONFIG (R109), ENC_REFERENCE (R83), ENC_READ (R84) and COMPARE_SET (R102). -/
def Obligations.EncoderCommandsComplete : Prop :=
  ∀ (h : Hdr) (e : Nat) (s : State),
    (∀ filter bw ms relay, Ready h (.encConfig e filter bw ms relay) s →
      let c := HostCmd.encConfig e filter bw ms relay
      exec (.encConfig h e filter bw ms relay) s = .next
        (if s.encPrints e then (s.elapse h.at_).reply h 0x0600 stBadState false []
         else answered h c stOk [] (((((s.serving h c).set (Reg.ENC_CONFIG_FILTER e) filter).set
          (Reg.ENC_CONFIG_BANDWIDTH e) bw).set (Reg.ENC_CONFIG_RELAY_EN e) relay).set
          (Reg.ENC_STANDSTILL_STANDSTILL_MS e) ms))) ∧
    (∀ count, Ready h (.encReference e count) s → e < s.encs.length →
      s.flag (Reg.ENC_STATUS_WIRE_A e) = false → s.flag (Reg.ENC_STATUS_WIRE_B e) = false →
      (s.encPrints e && s.encValid e) = false → s.job.running = none → s.job.queued = none →
      ∃ t, exec (.encReference h e count) s = .next t ∧ (t.enc e).count = count ∧
        (t.enc e).p = wrapS 128 ((s.enc e).p + (count - (s.enc e).count) * 2 ^ 64) ∧
        t.get (Reg.ENC_STATUS_INVALID e) = 0 ∧ t.get (Reg.ENC_STATUS_INDEX_VALID e) = 0 ∧
        (∀ k, k ≠ e → t.enc k = s.enc k) ∧ t.job = s.job ∧ { t.line with planes := s.line.planes } = s.line ∧
        (∀ k, k < 4 → t.plane k = if s.encOf k = e then { s.plane k with
          marks := shiftMarks (count - (s.enc e).count) (s.plane k).marks } else s.plane k) ∧ t.heads = s.heads ∧ t.dram = s.dram ∧
        t.tab0 = s.tab0 ∧ t.tab1 = s.tab1 ∧ t.act = s.act ∧
        t.host = ((s.elapse h.at_).reply h 0x0601 stOk false []).host) ∧
    (∀ count, Ready h (.encReference e count) s →
      (s.flag (Reg.ENC_STATUS_WIRE_A e) || s.flag (Reg.ENC_STATUS_WIRE_B e) || (s.encPrints e && s.encValid e)) = true →
      exec (.encReference h e count) s = .next ((s.elapse h.at_).reply h 0x0601 stBadState false [])) ∧
    (Ready h (.encRead e) s → exec (.encRead h e) s = .next ((s.elapse h.at_).reply h 0x0602 stOk false
      (leInt 8 (s.enc e).count ++ leInt 8 (s.enc e).latch ++ leInt 4 (s.enc e).velocity ++
        leBytes 1 (s.get (Reg.ENC_STATUS_INVALID e) + 2 * s.get (Reg.ENC_STATUS_SETTLING e) +
          4 * s.get (Reg.ENC_STATUS_DIRECTION e) + 8 * s.get (Reg.ENC_STATUS_STANDSTILL e))))) ∧
    (∀ src dir pos, Ready h (.compareSet e src dir pos) s →
      let c := HostCmd.compareSet e src dir pos
      let v := (((((s.serving h c).cmpKeep e true).set (Reg.ENC_CMP_CTRL_SOURCE e) src).set (Reg.ENC_CMP_CTRL_DIRECTION e) dir).setB
        (Reg.ENC_CMP_CTRL_ARMED e) true).putCmpPos e pos
      let x : Int := if src < 4 then (s.enc src).count else s.axisPos (src - 4)
      let passed := if dir = 1 then decide (x ≤ (v.cmp e).pos) else decide ((v.cmp e).pos ≤ x)
      exec (.compareSet h e src dir pos) s = .next
        (answered h c stOk (leBytes 1 passed.toNat) (v.setB (Reg.ENC_CMP_STATUS_PASSED e) passed)))

/-- R105: a jump by ENC_REFERENCE or AXIS_SET_POS re-evaluates PASSED and fires no compare unit. -/
def Obligations.JumpOfACounterIsNoCrossing : Prop :=
  ∀ (h : Hdr) (n : Nat) (x : Int) (s : State) (i : Instr) (c : HostCmd) (src : Nat),
    ((i = .encReference h n x ∧ c = .encReference n x ∧ src = n ∧ n < 4 ∧ s.flag (Reg.ENC_STATUS_WIRE_A n) = false ∧
        s.flag (Reg.ENC_STATUS_WIRE_B n) = false ∧ (s.encPrints n && s.encValid n) = false) ∨
      (i = .axisSetPos h n x ∧ c = .axisSetPos n x ∧ src = 4 + n ∧ n < 4 ∧ s.moving n = false)) →
    Ready h c s →
    ∃ t, exec i s = .next t ∧
      (∀ k, k < 8 → s.get (Reg.ENC_CMP_CTRL_SOURCE k) = src →
        t.flag (Reg.ENC_CMP_STATUS_PASSED k) =
          (if s.flag (Reg.ENC_CMP_CTRL_DIRECTION k) then decide (x ≤ (s.cmp k).pos) else decide ((s.cmp k).pos ≤ x))) ∧
      (∀ k, k < 8 → t.get (Reg.ENC_CMP_HITS k) = s.get (Reg.ENC_CMP_HITS k) ∧
        t.get (Reg.ENC_CMP_STATUS_FIRED k) = s.get (Reg.ENC_CMP_STATUS_FIRED k) ∧
        t.get (Reg.ENC_CMP_CTRL_ARMED k) = s.get (Reg.ENC_CMP_CTRL_ARMED k) ∧
        t.get (Reg.ENC_CMP_MISSED k) = s.get (Reg.ENC_CMP_MISSED k)) ∧
      t.cmps = s.cmps ∧ t.queued = s.queued

/-- LINE_CONFIG (R111, R131), HEAD_OFFSET (R112) and WSPD_CONFIG (R126). -/
def Obligations.LinePlacementCommandsComplete : Prop :=
  ∀ (h : Hdr) (p : Nat) (s : State), s.standby = false →
    (∀ enc pitch delay cpl wobble la, Ready h (.lineConfig p enc pitch delay cpl wobble la) s →
      let c := HostCmd.lineConfig p enc pitch delay cpl wobble la
      let u := s.serving h c
      exec (.lineConfig h p enc pitch delay cpl wobble la) s = .next
        (if s.prints p || s.armed p then (s.elapse h.at_).reply h 0x0603 stBadState false []
         else answered h c stOk []
          (((((((((u.set (Reg.LINEGEN_PL_CONFIG_ENC p) enc).set (Reg.LINEGEN_PL_CONFIG_PITCH p) pitch).set
            (Reg.LINEGEN_PL_DELAY p) delay).set (Reg.LINEGEN_PL_CONFIG_WOBBLE p) wobble).set
            (Reg.LINEGEN_PL_CONFIG_LOOKAHEAD p) la).set (Reg.LINEGEN_PL_CPL_LO p) cpl).set
            (Reg.LINEGEN_PL_CPL_HI p) (cpl / 2 ^ 32)).commitCpl p).showLookahead p))) ∧
    (∀ first offs, Ready h (.headOffset p first offs) s →
      let c := HostCmd.headOffset p first offs
      let ok := ∀ i, i < offs.length → -32767 ≤ offs.getD i 0 + (s.plane p).along.getD (first + i) 0 ∧
        offs.getD i 0 + (s.plane p).along.getD (first + i) 0 ≤ 32767
      let v := (List.range offs.length).foldl
        (fun s i => s.setS (Reg.LINEGEN_PL_HOFF_OFFSET p (first + i)) (offs.getD i 0)) (s.serving h c)
      (ok → exec (.headOffset h p first offs) s = .next (answered h c stOk []
        ((if s.prints p then v else v.flipAll ((List.range 48).map (Reg.LINEGEN_PL_HOFF_OFFSET p))).waitMark p))) ∧
      (¬ok → exec (.headOffset h p first offs) s = .next ((s.elapse h.at_).reply h 0x0604 stBadParam false []))) ∧
    (∀ enable margin wm, Ready h (.wspdConfig enable margin wm) s →
      let c := HostCmd.wspdConfig enable margin wm
      let v := ((s.serving h c).set Reg.LINEGEN_WSPD_CTRL_ENABLE enable).set Reg.LINEGEN_WSPD_CTRL_MARGIN margin
      exec (.wspdConfig h enable margin wm) s = .next (answered h c stOk []
        ({ v with line := { v.line with wspdSeen := v.line.wspdSeen || enable == 1 } }.set Reg.LINEGEN_WSPD_HIGH_WM wm)))

/-! ### Opcode rows: jobs, composition and tables -/

/-- JOB_DEFINE (R132 to R134, R138). -/
def Obligations.JobDefineStores : Prop :=
  ∀ (h : Hdr) (id mask endMode endValue : Nat) (binds : List Byte) (s : State),
    let c := HostCmd.jobDefine id mask endMode endValue binds
    let u := s.serving h c
    let ps := (List.range 4).filter (bit mask)
    let legal := (∀ p ∈ ps, bindingOk binds p = true ∧ s.ringOk p (bindingAt binds p) = true) ∧
      (∀ p ∈ ps, ∀ q ∈ ps, (bindingAt binds p).repeatLines = (bindingAt binds q).repeatLines)
    let open_ := ∀ p ∈ ps, ringProtected binds p = false
    let live := ∃ j, (s.job.running = some j ∨ s.job.queued = some j) ∧ j.id = id
    let refused := fun (st : Nat) =>
      exec (.jobDefine h id mask endMode endValue binds) s = .next ((s.elapse h.at_).reply h 0x0300 st false [])
    (Ready h c s → s.standby = false → legal → open_ → ¬live →
      let bound := ps.filter (fun p => (bindingAt binds p).use != 0 && !s.ringBound p)
      let rings := fun (v : State) => bound.foldl (fun v p => v.modRing p (fun r => { r with
        committed := 0, consumed := 0 })) v
      exec (.jobDefine h id mask endMode endValue binds) s = .next (answered h c stOk []
        { rings u with job := { (rings u).job with defs := modAt (fun _ => some ⟨mask, endMode, endValue,
          (List.range 4).map (fun p => if bit mask p then some (bindingAt binds p) else none)⟩) id s.job.defs } })) ∧
    (Placed h .nop s → mask = 0 ∨ (endMode < 2 ∧ endValue = 0) → refused stBadParam) ∧
    (Ready h c s → s.standby = false → legal → ¬open_ → refused stProtected) ∧
    (Ready h c s → s.standby = false → legal → open_ → live → refused stBadState)

/-- JOB_START (R128, R130, R145, R146). -/
def Obligations.JobStartQueues : Prop :=
  ∀ (h : Hdr) (id arm source : Nat) (pos : Int) (d : JobDef) (s : State),
    let c := HostCmd.jobStart id arm source pos
    let u := s.serving h c
    let ps := (List.range 4).filter (bit d.planeMask)
    let e := s.encOf (ps.headD 0)
    let cpl := s.cpl (ps.headD 0)
    let x := (s.enc e).count
    let lead : Int := u.leadOf ps
    let v := { u with job := { u.job with nextSeq := u.job.nextSeq + 1 } }
    let queue := fun (v : State) (st : Option Int) =>
      ({ v with job := { v.job with queued := some { u.newJob id arm source d with start := st } } }).showJobs.showRings
    let answers := fun (t : State) => exec (.jobStart h id arm source pos) s = .next (answered h c stOk [] t)
    Ready h c s → s.standby = false → s.job.defs.getD id none = some d → s.job.queued = none →
    (∀ p ∈ ps, s.mapped p = true ∧ s.encOf p = e ∧ s.cpl p = cpl ∧ u.planeStartOk p = true ∧
      s.get (Reg.LINEGEN_PL_CONFIG_PITCH p) = s.get (Reg.LINEGEN_PL_CONFIG_PITCH (ps.headD 0))) →
    s.encValid e = true →
    (s.job.running = none →
      (arm = 0 → answers (queue v (some ((x + lead) * 2 ^ 32)))) ∧
      (arm = 1 → source = e → lead ≤ pos - x → answers (queue v (some (pos * 2 ^ 32)))) ∧
      (arm = 1 → source = e → pos - x < lead →
        exec (.jobStart h id arm source pos) s = .next ((s.elapse h.at_).reply h 0x0301 stPositionPassed false [])) ∧
      (arm = 2 → source ≤ 7 → answers (queue v none))) ∧
    (∀ r st, s.job.running = some r → r.id ≠ id → r.start = some st →
      (arm = 1 → source = e → lead ≤ pos - x →
        answers (queue (v.modRunning (fun r => { r with
          takeAt := some ((pos * 2 ^ 32 - st + r.cpl - 1) / (r.cpl : Int)).toNat })) (some (pos * 2 ^ 32)))) ∧
      (arm = 3 →
        let b : Nat := match r.stopAt with | some n => min n r.nextBoundary | none => r.nextBoundary
        answers (queue (v.modRunning (fun r => { r with takeAt := some b })) (some (st + ((b * r.cpl : Nat) : Int))))))

/-- JOB_STOP (R149), JOB_STATUS (R151) and STREAM_COMMIT (R139, R144). -/
def Obligations.JobStopStatusCommitComplete : Prop :=
  ∀ (h : Hdr) (s : State),
    (∀ when_ drop, Ready h (.jobStop when_ drop) s → s.standby = false →
      let c := HostCmd.jobStop when_ drop
      let u := s.serving h c
      let v := if drop = 1 then u.dropQueued else u
      (∀ j, s.job.running = some j → exec (.jobStop h when_ drop) s = .next (answered h c stOk []
        ((v.lowerEnd (if when_ = 0 then (j.plane j.lead).next else j.nextBoundary) 2).planesStop s.printing))) ∧
      (s.job.running = none → drop = 1 → s.job.queued ≠ none →
        exec (.jobStop h when_ drop) s = .next (answered h c stOk [] (u.dropQueued.planesStop s.printing))) ∧
      (s.job.running = none → drop = 0 ∨ s.job.queued = none →
        exec (.jobStop h when_ drop) s = .next ((s.elapse h.at_).reply h 0x0302 stBadState false []))) ∧
    (Ready h .jobStatus s →
      let of := fun (x : Option JobRun) => match x with | some j => leBytes 1 j.id | none => [0xFF]
      let j := s.job.running.orElse (fun _ => s.job.last)
      let lines := fun p => match j with | some j => if j.has p then (j.plane p).next else 0 | none => 0
      let under := fun p => match j with | some j => (j.plane p).underrun | none => 0
      exec (.jobStatus h) s = .next ((s.elapse h.at_).reply h 0x0303 stOk false
        (of s.job.running ++ of s.job.queued ++ leBytes 6 0 ++
          leBytes 8 (match j with | some j => (j.plane j.lag).done / j.defn.repeatLines | none => 0) ++
          (leBytes 8 (lines 0) ++ leBytes 8 (lines 1) ++ leBytes 8 (lines 2) ++ leBytes 8 (lines 3)) ++
          (leBytes 4 (under 0) ++ leBytes 4 (under 1) ++ leBytes 4 (under 2) ++ leBytes 4 (under 3))))) ∧
    (∀ p w b, Ready h (.streamCommit p w) s → s.standby = false → s.ringBinding p = some b →
      let c := HostCmd.streamCommit p w
      let r := s.ring p
      w % b.stride = 0 → w / b.stride < b.ringRows →
      let n := (w / b.stride + b.ringRows - r.committed % b.ringRows) % b.ringRows
      (r.committed + n ≤ b.ringRows - 1 + r.consumed →
        let v := (s.serving h c).modRing p (fun r => { r with committed := r.committed + n })
        let v' := if v.ringLevel p < b.lowWm then v else v.modRing p (fun r => { r with lowRaised := false })
        exec (.streamCommit h p w) s = .next
          (answered h c stOk (leBytes 4 (min (v.ringLevel p) (2 ^ 32 - 1))) (v'.showRing p))) ∧
      (b.ringRows - 1 + r.consumed < r.committed + n →
        exec (.streamCommit h p w) s = .next ((s.elapse h.at_).reply h 0x0304 stBadParam false [])))

/-- LAYER_SET and KITE_MOVE (R158). -/
def Obligations.CompositionCommandsComplete : Prop :=
  ∀ (h : Hdr) (p : Nat) (s : State), s.standby = false →
    (∀ layer enable alpha premult flipAt addr width height stride,
      Ready h (.layerSet p layer enable alpha premult flipAt addr width height stride) s →
      let c := HostCmd.layerSet p layer enable alpha premult flipAt addr width height stride
      let put := fun (fs : List (Fld × Nat)) => fs.foldl (fun s f => s.set f.1 f.2) (s.serving h c)
      let ok := enable = 0 ∨ s.geomFree p layer = true ∨ geomStatus layer addr width height stride = stOk
      let answers := fun (t : State) => exec (.layerSet h p layer enable alpha premult flipAt addr width height stride) s =
        .next (answered h c stOk [] t)
      (ok → layer = 1 → answers ((put [(Reg.COMPOSE_PL_VAR_CTRL_ENABLE p, enable),
        (Reg.COMPOSE_PL_VAR_CTRL_LAYER_ALPHA p, alpha), (Reg.COMPOSE_PL_VAR_ADDR_LO p, addr),
        (Reg.COMPOSE_PL_VAR_ADDR_HI p, addr / 2 ^ 32), (Reg.COMPOSE_PL_VAR_WIDTH p, width),
        (Reg.COMPOSE_PL_VAR_HEIGHT p, height), (Reg.COMPOSE_PL_VAR_STRIDE p, stride),
        (Reg.COMPOSE_PL_FLIP_SEL_VAR p, flipAt)]).layerNow p (varGroup p))) ∧
      (ok → layer = 2 → answers ((put [(Reg.COMPOSE_PL_OVL_CTRL_ENABLE p, enable),
        (Reg.COMPOSE_PL_OVL_CTRL_PREMULT p, premult), (Reg.COMPOSE_PL_OVL_CTRL_LAYER_ALPHA p, alpha),
        (Reg.COMPOSE_PL_OVL_ADDR_LO p, addr), (Reg.COMPOSE_PL_OVL_ADDR_HI p, addr / 2 ^ 32),
        (Reg.COMPOSE_PL_OVL_WIDTH p, width), (Reg.COMPOSE_PL_OVL_HEIGHT p, height),
        (Reg.COMPOSE_PL_OVL_STRIDE p, stride), (Reg.COMPOSE_PL_FLIP_SEL_OVL p, flipAt)]).layerNow p (ovlGroup p))) ∧
      (ok → layer = 3 → answers ((put [(Reg.COMPOSE_PL_KITE_CTRL_ENABLE p, enable),
        (Reg.COMPOSE_PL_KITE_CTRL_PREMULT p, premult), (Reg.COMPOSE_PL_KITE_CTRL_LAYER_ALPHA p, alpha),
        (Reg.COMPOSE_PL_KITE_ADDR_LO p, addr), (Reg.COMPOSE_PL_KITE_ADDR_HI p, addr / 2 ^ 32),
        (Reg.COMPOSE_PL_KITE_SIZE_WIDTH p, width), (Reg.COMPOSE_PL_KITE_SIZE_HEIGHT p, height),
        (Reg.COMPOSE_PL_KITE_STRIDE p, stride), (Reg.COMPOSE_PL_FLIP_SEL_KITE_LAYER p, flipAt)]).layerNow p
        (kiteGroup p))) ∧
      (enable = 1 → s.geomFree p layer = false → ∀ st, geomStatus layer addr width height stride = st → st ≠ stOk →
        exec (.layerSet h p layer enable alpha premult flipAt addr width height stride) s =
          .next ((s.elapse h.at_).reply h 0x0400 st false []))) ∧
    (∀ flipAt x y, Ready h (.kiteMove p flipAt x y) s →
      let c := HostCmd.kiteMove p flipAt x y
      exec (.kiteMove h p flipAt x y) s = .next (answered h c stOk []
        (((((s.serving h c).set (Reg.COMPOSE_PL_KITE_X p) x).set (Reg.COMPOSE_PL_KITE_Y p) y).set
          (Reg.COMPOSE_PL_FLIP_SEL_KITE_POS p) flipAt).layerNow p (kitePosGroup p))))

/-- PLOAD (R160), PLOCK and PUNLOCK (R162 to R165). -/
def Obligations.ProtectedLayerCommandsComplete : Prop :=
  ∀ (h : Hdr) (p : Nat) (s : State), s.standby = false →
    (∀ rects src len, Ready h (.pload p rects src len) s →
      let c := HostCmd.pload p rects src len
      let x := (s.serving h c).fetch src 1024
      let refused := fun st => exec (.pload h p rects src len) s = .next ((s.elapse h.at_).reply h 0x0402 st false [])
      let locked := s.flag (Reg.COMPOSE_PL_PROT_STATUS_LOCKED p) = true
      let bad := src % 256 ≠ 0 ∨ len < 1024 ∨ protBase < src + len
      (locked → refused stProtected) ∧
      (¬locked → s.prints p = true → refused stBadState) ∧
      (¬locked → s.prints p = false → (s.plane p).pload ≠ none → refused stBusy) ∧
      (¬locked → s.prints p = false → (s.plane p).pload = none → bad → refused stBadParam) ∧
      (¬locked → s.prints p = false → (s.plane p).pload = none → ¬bad → x.2.2 = [] → stagingOk rects len x.2.1 = true →
        exec (.pload h p rects src len) s = .next (answered h c stAccepted []
          (((x.1.modPlane p (fun y => { y with pload := some ⟨h.tag, h.iface, rects, src, len, x.2.1⟩ })).setB
            (Reg.COMPOSE_PL_PROT_STATUS_LOADED p) false).setB (Reg.COMPOSE_PL_PROT_STATUS_COPYING p) true)))) ∧
    (Ready h (.plock p) s →
      let c := HostCmd.plock p
      let u := s.serving h c
      let may := s.flag (Reg.COMPOSE_PL_PROT_STATUS_LOADED p) = true ∧ s.flag (Reg.COMPOSE_PL_PROT_STATUS_LOCKED p) = false ∧
        s.prints p = false
      (may → ∃ token, 1 ≤ token ∧ token < 2 ^ 64 ∧ exec (.plock h p) s = .next
        (answered h c stOk (leBytes 8 token ++ leBytes 4 (s.get (Reg.COMPOSE_PL_PROT_CRC p)))
          ((u.used.modPlane p (fun x => { x with token := token })).setB (Reg.COMPOSE_PL_PROT_STATUS_LOCKED p) true))) ∧
      (¬may → exec (.plock h p) s = .next ((s.elapse h.at_).reply h 0x0403 stBadState false []))) ∧
    (∀ token, Ready h (.punlock p token) s →
      let c := HostCmd.punlock p token
      let u := s.serving h c
      let may := s.prints p = false ∧ s.flag (Reg.COMPOSE_PL_PROT_STATUS_LOCKED p) = true
      let tired := 16 ≤ s.get (Reg.COMPOSE_PL_PROT_STATUS_BAD_TOKENS p)
      (¬may → exec (.punlock h p token) s = .next ((s.elapse h.at_).reply h 0x0404 stBadState false [])) ∧
      (may → tired → exec (.punlock h p token) s = .next ((s.elapse h.at_).reply h 0x0404 stProtected false [])) ∧
      (may → ¬tired → token ≠ (s.plane p).token → exec (.punlock h p token) s = .next
        (answered h c stProtected [] (u.inc (Reg.COMPOSE_PL_PROT_STATUS_BAD_TOKENS p)))) ∧
      (may → ¬tired → token = (s.plane p).token → exec (.punlock h p token) s = .next (answered h c stOk []
        (((((u.modPlane p (fun x => { x with token := 0, pass := none })).setB
          (Reg.COMPOSE_PL_PROT_STATUS_LOCKED p) false).setB (Reg.COMPOSE_PL_PROT_STATUS_FAULT p) false).setB
          (Reg.COMPOSE_PL_PROT_STATUS_CHECKING p) false).set (Reg.COMPOSE_PL_PROT_STATUS_BAD_TOKENS p) 0))))

/-- TABLE_LOAD (R178 to R180). -/
def Obligations.TableLoadChecks : Prop :=
  ∀ (h : Hdr) (p table flipAt src len : Nat) (s : State),
    let c := HostCmd.tableLoad p table flipAt src len
    let u := s.serving h c
    let x := u.fetch src (tableHeadLen table)
    let refused := fun st => exec (.tableLoad h p table flipAt src len) s = .next ((s.elapse h.at_).reply h 0x0405 st false [])
    let shared := table = 1 ∨ table = 3 ∨ table = 4
    let screen := table = 2 ∧ src = 0
    let meets := ∃ q, q < 4 ∧ q ≠ p ∧ s.mapped q = true ∧ u.sharesMeet table p q = true
    let bad := (¬screen ∧ (len ≠ u.tableLen p table ∨ src % 64 ≠ 0 ∨ inDram src len = false)) ∨
      (shared ∧ (u.shareFits p table = false ∨ meets))
    Ready h c s → s.standby = false →
    (s.tableBusy p table = true → refused stBusy) ∧
    (s.tableBusy p table = false → shared → s.mapped p = false → refused stBadState) ∧
    (s.tableBusy p table = false → (shared → s.mapped p = true) → bad → refused stBadParam) ∧
    (s.tableBusy p table = false → (shared → s.mapped p = true) → ¬bad → x.2.2 = [] → tableHeadOk table x.2.1 = true →
      let v := (x.1.putTabBit (Reg.HTONE_PL_TABLES_COPYING p) table true).putTabBit (Reg.HTONE_PL_TABLES_FLIP_SEL p)
        table (flipAt == 1)
      exec (.tableLoad h p table flipAt src len) s = .next (answered h c stAccepted []
        { v with tone := { v.tone with
          copies := v.tone.copies ++
            [⟨p, table, v.shareBase p table, v.shareSize p table, src, len, h.tag, h.iface, x.2.1, false⟩] } }))

/-! ### Opcode rows: head ports, camera, loops and axes -/

/-- HEAD_PROFILE (R188), HEAD_MAP (R189), PORT_ENABLE (R190), PORT_CLEAR (R215) and HEAD_READ. -/
def Obligations.HeadPortCommandsComplete : Prop :=
  ∀ (h : Hdr) (s : State),
    (∀ p record, Ready h (.headProfile p record) s → s.standby = false →
      let c := HostCmd.headProfile p record
      let u := s.serving h c
      let refused := fun st => exec (.headProfile h p record) s = .next ((s.elapse h.at_).reply h 0x0500 st false [])
      let legal := record.length = 64 ∧ profileOk record u.recPhEnergyMax = true
      let v := (u.modPlane p (fun x => { x with profile := some record, lines := [] })).showProfile p
      (legal → s.inUse p = false → exec (.headProfile h p record) s = .next (answered h c stOk []
        (((v.plane p).map.foldl (fun s q => (s.putPreheat q 0 0).sretAfresh q) v).showShape p |>.showLookahead p))) ∧
      (record.length = 64 → s.inUse p = true → refused stBadState) ∧
      (¬legal → s.inUse p = false → refused stBadParam)) ∧
    (∀ p ports, Ready h (.headMap p ports) s → s.standby = false →
      let c := HostCmd.headMap p ports
      let u := s.serving h c
      let refused := fun st => exec (.headMap h p ports) s = .next ((s.elapse h.at_).reply h 0x0501 st false [])
      let legal := ports.Nodup ∧ ∀ r, r < 4 → r ≠ p → ∀ q ∈ ports, q ∉ (s.plane r).map
      let old := (s.plane p).map
      let v := (old ++ ports).foldl State.showPort (u.modPlane p (fun x => { x with map := ports, lines := [] }))
      (legal → s.inUse p = false → exec (.headMap h p ports) s = .next (answered h c stOk []
        (((ports.filter (fun q => decide (q ∉ old))).foldl (fun s q => s.enterMap p q) v).showShape p
          |>.showLookahead p))) ∧
      (s.inUse p = true → refused stBadState) ∧
      (¬legal → s.inUse p = false → refused stBadParam)) ∧
    (∀ mask enable, Ready h (.portEnable mask enable) s → s.standby = false →
      let c := HostCmd.portEnable mask enable
      exec (.portEnable h mask enable) s = .next (answered h c stOk []
        (((List.range 48).filter (bit mask)).foldl (fun s q => s.enablePort q (enable == 1)) (s.serving h c)))) ∧
    (∀ mask, Ready h (.portClear mask) s → s.standby = false →
      let c := HostCmd.portClear mask
      let v := ((List.range 48).filter (bit mask)).foldl State.clearPort (s.serving h c)
      exec (.portClear h mask) s = .next (answered h c stOk (leBytes 8 (v.stillFaulted mask)) v)) ∧
    (∀ q, Ready h (.headRead q) s → exec (.headRead h q) s = .next ((s.elapse h.at_).reply h 0x0504 stOk false
      (leBytes 2 (s.get (Reg.HEADPORT_HP_TEMP q)) ++ leBytes 2 (s.get (Reg.HEADPORT_HP_PREHEAT_COUNT q)) ++
        leBytes 4 (s.get (Reg.HEADPORT_HP_PREHEAT_WIDTH q)) ++
        leBytes 4 (s.get (Reg.HEADPORT_HP_FAULT_CAUSES q) + 2 ^ 16 * s.get (Reg.HEADPORT_HP_FAULT_SRET_LOST q) +
          2 ^ 17 * s.get (Reg.HEADPORT_HP_FAULT_FAULTED q)) ++ leBytes 4 (s.get (Reg.HEADPORT_HP_SRET_ERRORS q)))))

/-- R208: PREHEAT_TARGET sets TARGET of every port of the plane; out of range it is ST_BAD_PARAM; TARGET is 0 after
reset. -/
def Obligations.PreheatTargetSetsEveryPort : Prop :=
  (∀ (h : Hdr) (p : Nat) (target : Int) (s : State), Ready h (.preheatTarget p target) s → s.standby = false →
    (0 ≤ target → target ≤ s.recPhTargetMax → exec (.preheatTarget h p target) s = .next
      (answered h (.preheatTarget p target) stOk [] ((s.plane p).map.foldl
        (fun s q => s.setS (Reg.HEADPORT_HP_TEMP_TARGET q) target) (s.serving h (.preheatTarget p target))))) ∧
    (0 ≤ target → target ≤ s.recPhTargetMax → target < 2 ^ 15 →
      ∃ t, exec (.preheatTarget h p target) s = .next t ∧
        (∀ q ∈ (s.plane p).map, t.getS (Reg.HEADPORT_HP_TEMP_TARGET q) = target) ∧
        (∀ f : Fld, (∀ q ∈ (s.plane p).map, f.key ≠ (Reg.HEADPORT_HP_TEMP_TARGET q).key) → t.get f = s.get f)) ∧
    (target < 0 ∨ s.recPhTargetMax < target →
      exec (.preheatTarget h p target) s = .next ((s.elapse h.at_).reply h 0x0505 stBadParam false []))) ∧
  (∀ q, q < 48 → State.reset.get (Reg.HEADPORT_HP_TEMP_TARGET q) = 0)

/-- CAM_CONFIG (R218, R232), CAM_INLINE, ROI_SET (R235) and STATS_READ (R237). -/
def Obligations.CameraCommandsComplete : Prop :=
  ∀ (h : Hdr) (s : State),
    (∀ k record, Ready h (.camConfig k record) s → record.length = 96 →
      let c := HostCmd.camConfig k record
      let v := (List.range 24).foldl (fun s w => s.set (Reg.CAMRX_PORT_REC_WORD k w) (u32 record (4 * w))) (s.serving h c)
      let refused := fun st => exec (.camConfig h k record) s = .next ((s.elapse h.at_).reply h 0x0700 st false [])
      let on := cEnable record ≠ 0
      let window := touchesProt (cRawAddr record) (cRawSlots record * cRawSlot record) = true ∨
        touchesProt (cOutAddr record) (cOutSlots record * cOutSlot record) = true
      let busy := s.get Reg.ISP_INLINE_PORT = k ∧ s.camReceiving k = true
      (on → camRecordOk record = false → refused stBadParam) ∧
      (on → camRecordOk record = true → window → refused stProtected) ∧
      ((on → camRecordOk record = true ∧ ¬window) → busy → refused stBadState) ∧
      (on → camRecordOk record = true → ¬window → ¬busy →
        exec (.camConfig h k record) s = .next (answered h c stOk [] v.showCams)) ∧
      (¬on → ¬busy → exec (.camConfig h k record) s = .next (answered h c stOk [] (v.frameEnd k).showCams))) ∧
    (∀ port, Ready h (.camInline port) s →
      let c := HostCmd.camInline port
      let u := s.serving h c
      (port = s.get Reg.ISP_INLINE_PORT → exec (.camInline h port) s = .next (answered h c stOk []
        ({ u with cam := { u.cam with change := none } }.set Reg.ISP_INLINE_NEXT 7))) ∧
      (port ≠ s.get Reg.ISP_INLINE_PORT → exec (.camInline h port) s = .next (answered h c stOk []
        ({ u with cam := { u.cam with change := some (if port = 0xFF then none else some port) } }.set
          Reg.ISP_INLINE_NEXT (if port = 0xFF then 7 else port)).takeInline))) ∧
    (∀ first records, Ready h (.roiSet first records) s →
      let c := HostCmd.roiSet first records
      ((∀ r ∈ roisIn records, roiOk r = true) → exec (.roiSet h first records) s = .next (answered h c stOk []
        ((s.serving h c).putTabs false (tabBase + 0x448000 + 16 * first) records))) ∧
      ((∃ r ∈ roisIn records, roiOk r = false) →
        exec (.roiSet h first records) s = .next ((s.elapse h.at_).reply h 0x0702 stBadParam false []))) ∧
    (∀ first count, Ready h (.statsRead first count) s →
      exec (.statsRead h first count) s = .next ((s.elapse h.at_).reply h 0x0703 stOk false
        ((List.range count).flatMap (fun i => leBytes 4 (s.cam.stats.getD (first + i) (0, 0)).1 ++
          leBytes 4 (s.cam.stats.getD (first + i) (0, 0)).2))))

/-- LOOP_CTRL (R238, R240), ALIGN_READ (R256) and ALIGN_RESTORE (R257). -/
def Obligations.LoopCommandsComplete : Prop :=
  ∀ (h : Hdr) (s : State),
    (∀ l mode limit, Ready h (.loopCtrl l mode limit) s →
      let c := HostCmd.loopCtrl l mode limit
      let u := s.serving h c
      let area := s.flag Reg.MEASURE_WORK_HI_VALID = true
      let v := if limit = 0 then u else u.set (loopLimit l) limit
      let v := if s.get (loopMode l) = 0 ∧ mode = 1 then v.loopReset l else v
      let v := if s.get (loopMode l) ≠ 1 ∧ mode = 1 then v.loopEnters l else v
      let v := if l = 2 ∧ mode ≠ 2 then { v with loops := { v.loops with ran := mode == 1 } } else v
      ((mode = 1 → area) →
        exec (.loopCtrl h l mode limit) s = .next (answered h c stOk [] (v.set (loopMode l) mode))) ∧
      (mode = 1 → ¬area →
        exec (.loopCtrl h l mode limit) s = .next ((s.elapse h.at_).reply h 0x0704 stBadState false []))) ∧
    (∀ l mode limit, Placed h .nop s → loopTop l < limit →
      exec (.loopCtrl h l mode limit) s = .next ((s.elapse h.at_).reply h 0x0704 stBadParam false [])) ∧
    (∀ p, Ready h (.alignRead p) s →
      let x := s.loop p
      let n := s.heads' p
      let ramp := fun k => if k + 1 < n then x.ramps.getD k (0, 0) else (0, 0)
      exec (.alignRead h p) s = .next ((s.elapse h.at_).reply h 0x0705 stOk false
        ([1, BitVec.ofNat 8 n] ++ leBytes 2 (s.overlap p) ++ leBytes 4 x.custom.toNat ++ leInt 4 x.bar ++ leBytes 4 0 ++
          (List.range n).flatMap (fun k => leInt 2 ((s.plane p).along.getD k 0) ++ leInt 2 (x.cross.getD k 0) ++
            leBytes 2 (ramp k).1 ++ leBytes 2 (ramp k).2)))) ∧
    (∀ p record, Ready h (.alignRestore p record) s →
      let refused := fun st => exec (.alignRestore h p record) s = .next ((s.elapse h.at_).reply h 0x0706 st false [])
      (s.alignOk p record = false → refused stBadParam) ∧
      (s.alignOk p record = true → s.loopRuns 2 = true → refused stBadState) ∧
      (s.alignOk p record = true → s.loopRuns 2 = false → s.tableBusy p 3 = true → refused stBusy) ∧
      (s.alignOk p record = true → s.loopRuns 2 = false → s.tableBusy p 3 = false →
        let hs := List.range (s.heads' p)
        let put := fun (l : List Int) (o : Nat) => hs.foldl (fun l k => modAt (fun _ => iAt (recHead record k) o 2) k l) l
        let u := (s.serving h (.alignRestore p record)).modPlane p (fun x => { x with along := put x.along 0 })
        let v := (if s.prints p then u else u.modPlane p (fun x => { x with alongUse := x.along })).waitMark p
        let w := v.modLoop p (fun x => { x with
          cross := put x.cross 2,
          ramps := hs.foldl (fun l k => modAt (fun _ => (u16 (recHead record k) 4, u16 (recHead record k) 6)) k l) x.ramps,
          custom := u8 record 4 == 1, bar := iAt record 8 4, stitchDue := true })
        let y := if s.mapped p then w.stitchLoad p else w.modLoop p (fun x => { x with stitchDue := false })
        exec (.alignRestore h p record) s = .next (answered h (.alignRestore p record) stOk []
          (if s.flag (Reg.MEASURE_PL_CTRL_LAT_EN p) then y.barGo p else y))) ∧
      (s.alignOk p record = true → s.loopRuns 2 = false → s.tableBusy p 3 = false → p < s.line.planes.length →
        p < s.loops.planes.length → s.mapped p = false → s.flag (Reg.MEASURE_PL_CTRL_LAT_EN p) = false →
        s.heads' p ≤ (s.plane p).along.length → s.heads' p ≤ (s.loop p).cross.length →
        ∃ t, exec (.alignRestore h p record) s = .next t ∧
          (∀ k, k < s.heads' p → (t.plane p).along.getD k 0 = iAt (recHead record k) 0 2 ∧
            (t.loop p).cross.getD k 0 = iAt (recHead record k) 2 2) ∧
          (t.loop p).custom = (u8 record 4 == 1) ∧ (t.loop p).bar = iAt record 8 4 ∧
          t.regs = s.regs ∧ t.act = s.act ∧ t.dram = s.dram ∧ t.tab0 = s.tab0 ∧ t.tab1 = s.tab1 ∧ t.job = s.job ∧
          t.heads = s.heads ∧ t.host = ((s.elapse h.at_).reply h 0x0706 stOk false []).host))

/-- AXIS_CONFIG, AXIS_MOVE (R293), AXIS_TABLE (R298), AXIS_STOP (R302), AXIS_READ (R291), AXIS_SET_POS (R306) and
SWITCH_CONFIG. -/
def Obligations.AxisCommandsComplete : Prop :=
  ∀ (h : Hdr) (a : Nat) (s : State),
    (∀ record, Ready h (.axisConfig a record) s →
      let c := HostCmd.axisConfig a record
      let u := s.serving h c
      let v := (List.range 16).foldl (fun s w => s.set (Reg.MOTION_AX_CFG_WORD a w) (u32 record (4 * w))) u
      let refused := fun st => exec (.axisConfig h a record) s = .next ((s.elapse h.at_).reply h 0x0800 st false [])
      (s.moving a = true → refused stBadState) ∧
      (s.moving a = false → axisRecordOk record = false → refused stBadParam) ∧
      (s.moving a = false → axisRecordOk record = true →
        exec (.axisConfig h a record) s = .next (answered h c stOk []
          (if aEnable record then v.energise a else if aEnable (u.axisRecord a) then v.deEnergise a else v)))) ∧
    (∀ target vmax accel decel, Ready h (.axisMove a target vmax accel decel) s →
      let c := HostCmd.axisMove a target vmax accel decel
      let u := s.serving h c
      let r := u.axisRecord a
      let fits := 1 ≤ vmax ∧ vmax ≤ aVmaxAbs r ∧ 1 ≤ accel ∧ accel ≤ aDmax r ∧ 1 ≤ decel ∧ decel ≤ aDmax r
      let may := s.energised a = true ∧ s.flag (Reg.MOTION_AX_STATUS_LOST a) = false ∧
        u.barred a (target - s.axisPos a) = false ∧ u.trigUnarmed a true = false
      let refused := fun st => exec (.axisMove h a target vmax accel decel) s =
        .next ((s.elapse h.at_).reply h 0x0801 st false [])
      let v := (u.markWait a true).modAxis a (fun x => { x with
        next := some ⟨target, rawSpeed vmax, rawAccel accel, rawAccel decel, h.tag⟩ })
      (fits → may → exec (.axisMove h a target vmax accel decel) s = .next (answered h c stAccepted []
        { v with loops := { v.loops with planes := v.loops.planes.map (fun x =>
          if x.barMove = some a then { x with barMove := none, waitDue := true } else x) } })) ∧
      (¬fits → refused stBadParam) ∧ (fits → ¬may → refused stBadState)) ∧
    (∀ first last segs, Ready h (.axisTable a first last segs) s →
      let c := HostCmd.axisTable a first last segs
      let u := s.serving h c
      let n := segs.length / 16
      let v := u.putTabs false (segBase a (!s.activeB a) + 16 * first) segs
      let refused := fun st => exec (.axisTable h a first last segs) s = .next ((s.elapse h.at_).reply h 0x0802 st false [])
      let busy := s.get (Reg.MOTION_AX_TABLE_SHADOW a) = 2
      let bad := last = 1 ∧ v.shadowOk a (first + n - 1) = false
      let may := s.energised a = true ∧ s.flag (Reg.MOTION_AX_STATUS_LOST a) = false ∧ (last = 1 → u.trigUnarmed a false = false)
      (busy → refused stBusy) ∧ (¬busy → bad → refused stBadParam) ∧ (¬busy → ¬bad → ¬may → refused stBadState) ∧
      (¬busy → ¬bad → may → exec (.axisTable h a first last segs) s = .next (answered h c stOk []
        (if last = 1 then v.commitTable a (first + n - 1) h.tag else v.set (Reg.MOTION_AX_TABLE_SHADOW a) 1)))) ∧
    (∀ mode, Ready h (.axisStop a mode) s →
      let c := HostCmd.axisStop a mode
      exec (.axisStop h a mode) s = .next (answered h c stOk []
        ((s.serving h c).askStop a mode))) ∧
    (Ready h (.axisRead a) s → exec (.axisRead h a) s = .next ((s.elapse h.at_).reply h 0x0804 stOk false
      (leInt 8 (s.axisPos a) ++ leInt 4 (satS 32 (s.axis a).velocity) ++
        leBytes 2 (s.get (Reg.MOTION_AX_LOAD_ANGLE a)) ++
        leBytes 1 (s.get (Reg.MOTION_AX_STATUS_LOST a) + 2 * s.get (Reg.MOTION_AX_STATUS_STALL a) +
          4 * (s.axisPassed a).toNat + 8 * s.get (Reg.MOTION_AX_STATUS_MOVING a))))) ∧
    (∀ pos, Ready h (.axisSetPos a pos) s →
      let c := HostCmd.axisSetPos a pos
      (s.moving a = true → exec (.axisSetPos h a pos) s = .next ((s.elapse h.at_).reply h 0x0805 stBadState false [])) ∧
      (s.moving a = false → exec (.axisSetPos h a pos) s = .next (answered h c stOk []
        (((((((s.serving h c).axisNote a).modAxis a (fun x => { x with p := pos * 2 ^ 32, pOld := pos * 2 ^ 32 })).setB
          (Reg.MOTION_AX_STATUS_LOST a) false).setB (Reg.MOTION_AX_STATUS_STALL a) false).setB
          (Reg.MOTION_AX_STATUS_OVERSHOOT a) false).showAxis a |>.cmpJump (4 + a) pos |>.followIndex a |>.chopWakes a)))) ∧
    (∀ edge stuck, Ready h (.switchConfig a edge stuck) s →
      let c := HostCmd.switchConfig a edge stuck
      exec (.switchConfig h a edge stuck) s = .next (answered h c stOk []
        (((s.serving h c).writeEdge a edge).set (Reg.MOTION_SW_CTRL_STUCK_MS a) stuck)))

/-! ### Opcode rows: temperature, link, pair, OTP, power, memory, DMA and compression -/

/-- THERM_READ (R440), HK_READ, CAL_RUN (R449), CAL_DT, LINK_CONFIG, LINK_RESTART (R360), LINK_STATUS, HIER_READ. -/
def Obligations.ThermalAndLinkCommandsComplete : Prop :=
  ∀ (h : Hdr) (s : State),
    (Ready h .thermRead s → exec (.thermRead h) s = .next ((s.elapse h.at_).reply h 0x0A00 stOk false
      (((List.range 20).map (fun i => leInt 2 (s.temp i))).flatten ++ leBytes 4 (s.get Reg.THERM_BROKEN_SENSORS) ++
        leBytes 1 (s.get Reg.THERM_STATUS_LEVEL)))) ∧
    (∀ first count, Ready h (.hkRead first count) s → exec (.hkRead h first count) s = .next
      ((s.elapse h.at_).reply h 0x0A01 stOk false
        (((List.range count).map (fun i => leBytes 2 (s.get (Reg.THERM_HK (first + i))))).flatten))) ∧
    (∀ targets, Ready h (.calRun targets) s →
      let c := HostCmd.calRun targets
      let u := s.serving h c
      let printing := bit targets 0 = true ∧ s.job.running ≠ none
      let busy := ∃ k, k < 4 ∧ bit targets k = true ∧ s.runMeasures k = true
      (printing → exec (.calRun h targets) s = .next ((s.elapse h.at_).reply h 0x0A02 stBadState false [])) ∧
      (¬printing → busy → exec (.calRun h targets) s = .next ((s.elapse h.at_).reply h 0x0A02 stBusy false [])) ∧
      (¬printing → ¬busy → targets ≠ 0 → exec (.calRun h targets) s = .next (answered h c stAccepted []
        { u with therm := { u.therm with runs := u.therm.runs ++ [⟨h.tag, h.iface, targets, false⟩] } })) ∧
      (targets = 0 → exec (.calRun h targets) s = .next
        (((s.elapse h.at_).reply h 0x0A02 stAccepted false []).cmdDone 0x0A02 h.tag stOk h.iface 0))) ∧
    (∀ dt, Ready h (.calDt dt) s → exec (.calDt h dt) s =
      .next (answered h (.calDt dt) stOk [] ((s.serving h (.calDt dt)).set Reg.CAL_CTRL_CAL_DT dt))) ∧
    (∀ port lanes rate pre main post, Ready h (.linkConfig port lanes rate pre main post) s →
      let c := HostCmd.linkConfig port lanes rate pre main post
      exec (.linkConfig h port lanes rate pre main post) s = .next (answered h c stOk []
        ((((((s.serving h c).set (Reg.ZPHY_PORT_CONFIG_WIDTH port) (lanes / 2)).set
          (Reg.ZPHY_PORT_CONFIG_RATE port) rate).set (Reg.ZPHY_PORT_EQ_PRE port) pre).set
          (Reg.ZPHY_PORT_EQ_MAIN port) main).set (Reg.ZPHY_PORT_EQ_POST port) post))) ∧
    (∀ port, Ready h (.linkRestart port) s → exec (.linkRestart h port) s = .next
      ((((s.elapse h.at_).reply h 0x0B01 stAccepted false []).restartPort port).modPort port
        (fun q => { q with ordered := true }))) ∧
    (∀ port, Ready h (.linkStatus port) s → exec (.linkStatus h port) s = .next ((s.elapse h.at_).reply h 0x0B02 stOk false
      (leBytes 1 (s.get (Reg.ZPHY_PORT_STATUS_STATE port)) ++
        leBytes 1 (widthOf (s.get (Reg.ZPHY_PORT_STATUS_WIDTH_USED port))) ++
        leBytes 2 (s.get (Reg.ZPHY_PORT_STATUS_RATE_USED port)) ++
        leBytes 4 (s.get (Reg.ZLINK_PORT_CRC_ERRORS_COUNT port)) ++
        leBytes 4 (s.get (Reg.ZLINK_PORT_REPLAYS_COUNT port))))) ∧
    (Ready h .hierRead s → exec (.hierRead h) s = .next ((s.elapse h.at_).reply h 0x0B03 stOk false
      ((s.nodeList.take 63).flatMap (fun n => leBytes 4 n.word))))

/-- PAIR_CONFIG (R404, R405), PAIR_STATUS and PAIR_REJOIN (R408). -/
def Obligations.PairCommandsComplete : Prop :=
  ∀ (h : Hdr) (s : State),
    (∀ enable strings, Ready h (.pairConfig enable strings) s →
      let c := HostCmd.pairConfig enable strings
      let u := s.serving h c
      let start := fun (k : Nat) (f : Fld) => bit strings k && !s.flag f
      let v := ((({ u with pair := { u.pair with
          wire := if start 0 Reg.PAIR_CTRL_WIRE then .start u.now else u.pair.wire,
          msg := if start 1 Reg.PAIR_CTRL_MSG then .start u.now else u.pair.msg,
          wdogAt := if start 0 Reg.PAIR_CTRL_WIRE then u.now else u.pair.wdogAt,
          strAt := if start 1 Reg.PAIR_CTRL_MSG then none else u.pair.strAt } }).set Reg.PAIR_CTRL_WIRE
            (bits strings 0 1)).set Reg.PAIR_CTRL_MSG (bits strings 1 1)).set Reg.PAIR_CTRL_ENABLE enable
      (s.job.running ≠ none →
        exec (.pairConfig h enable strings) s = .next ((s.elapse h.at_).reply h 0x0C00 stBadState false [])) ∧
      (s.job.running = none → enable = 1 → s.flag Reg.PAIR_CTRL_ENABLE = false →
        exec (.pairConfig h enable strings) s = .next (answered h c stOk []
          ((v.set Reg.PAIR_STATUS_STRINGS_OK 0).modPair (fun x => { x with
            listenEnd := some (v.now + 320000), wire := .start v.now, msg := .start v.now, faultCode := 0,
            wdogAt := v.now, strAt := none })))) ∧
      (s.job.running = none → (enable = 1 ↔ s.flag Reg.PAIR_CTRL_ENABLE = true) →
        exec (.pairConfig h enable strings) s = .next (answered h c stOk [] v)) ∧
      (s.job.running = none → enable = 0 → s.flag Reg.PAIR_CTRL_ENABLE = true →
        ∃ t, exec (.pairConfig h enable strings) s = .next t ∧ t.get Reg.PAIR_STATUS_ROLE = 0 ∧
          t.get Reg.PAIR_STATUS_PARTNER = 0 ∧ t.get Reg.PAIR_STATUS_STRINGS_OK = 0 ∧ t.pair.listenEnd = none ∧
          t.pair.faultCode = 0 ∧ t.job = s.job ∧ t.dram = s.dram ∧ t.heads = s.heads)) ∧
    (Ready h .pairStatus s → exec (.pairStatus h) s = .next ((s.elapse h.at_).reply h 0x0C01 stOk false
      (leBytes 1 (s.get Reg.PAIR_STATUS_ROLE) ++ leBytes 1 (s.get Reg.PAIR_STATUS_PARTNER) ++
        leBytes 6 (s.get Reg.PAIR_STATUS_STRINGS_OK) ++
        leBytes 4 (s.get Reg.PAIR_GAP_START_LO) ++ leBytes 4 (s.get Reg.PAIR_GAP_START_HI) ++
        leBytes 4 (s.get Reg.PAIR_GAP_END_LO) ++ leBytes 4 (s.get Reg.PAIR_GAP_END_HI)))) ∧
    (Ready h .pairRejoin s →
      let unsynced := s.standby = true ∧ s.get Reg.PAIR_STATUS_STATE = 0
      (unsynced → exec (.pairRejoin h) s = .next (answered h .pairRejoin stAccepted []
        (((s.serving h .pairRejoin).set Reg.PAIR_STATUS_STATE 1).modPair (fun x => { x with
          resyncAt := some (s.serving h .pairRejoin).now, lost := false, faultCode := 0,
          ckptNew := false })))) ∧
      (¬unsynced → exec (.pairRejoin h) s = .next ((s.elapse h.at_).reply h 0x0C03 stBadState false [])))

/-- R417: PAIR_HANDOVER. -/
def Obligations.PairHandoverHandsOver : Prop :=
  ∀ (h : Hdr) (s : State), Ready h .pairHandover s →
    (s.standby = true → exec (.pairHandover h) s = .next ((s.elapse h.at_).reply h 0x0C02 stNotOwner false [])) ∧
    (s.standby = false → s.get Reg.PAIR_STATUS_PARTNER ≠ 2 →
      exec (.pairHandover h) s = .next ((s.elapse h.at_).reply h 0x0C02 stBadState false [])) ∧
    (s.get Reg.PAIR_STATUS_ROLE = 1 → s.get Reg.PAIR_STATUS_PARTNER = 2 →
      exec (.pairHandover h) s = .next
        (((((s.elapse h.at_).reply h 0x0C02 stAccepted false []).modPair (fun x => { x with faultCode := 5 })).stringDue).handOver
          5))

/-- OTP_READ, OTP_BURN (R454, R455), KEY_BURN (R456), PATCH_LOAD (R458) and PATCH_ACTIVATE (R460, R461). -/
def Obligations.OtpCommandsComplete : Prop :=
  ∀ (h : Hdr) (s : State),
    (Ready h .otpRead s → exec (.otpRead h) s = .next ((s.elapse h.at_).reply h 0x0D00 stOk false
      (leBytes 8 (low 64 Config.deviceId) ++ s.otp.active ++ leBytes 1 (s.otp.activeGen.getD 0xFF) ++
        leBytes 1 s.otp.keySlots ++ leBytes 1 s.otp.locks))) ∧
    (∀ record, Ready h (.otpBurn record) s →
      let c := HostCmd.otpBurn record
      let u := s.serving h c
      let refused := fun st => exec (.otpBurn h record) s = .next ((s.elapse h.at_).reply h 0x0D01 st false [])
      let blank := fun g => isBlank (s.otp.gens.getD g []) = true
      let locked := bit s.otp.locks 0 = true ∨ 2 ≤ s.get Reg.THERM_STATUS_LEVEL ∨ s.getS Reg.THERM_STATUS_TJ < 0
      (recordValid record = false → refused stBadParam) ∧
      (recordValid record = true → locked → refused stBadState) ∧
      (recordValid record = true → ¬locked → (∀ g, g < 4 → ¬blank g) → refused stOtpExhausted) ∧
      (∀ g, recordValid record = true → ¬locked → g < 4 → blank g → (∀ k, k < g → ¬blank k) →
        exec (.otpBurn h record) s = .next (if u.burnReadsBack then
            answered h c stOk (leBytes 1 g) { u.used with otp := { u.otp with
              gens := modAt (fun _ => record) g u.otp.gens, locks := u.otp.locks ||| bits (u8 record 2) 3 3 } }
          else answered h c stCheckFail [] { u.used with otp := { u.otp with
            gens := modAt (fun _ => spoiled) g u.otp.gens } }))) ∧
    (∀ slot hash, Ready h (.keyBurn slot hash) s →
      let c := HostCmd.keyBurn slot hash
      let u := s.serving h c
      let refused := fun st => exec (.keyBurn h slot hash) s = .next ((s.elapse h.at_).reply h 0x0D02 st false [])
      let locked := bit s.otp.locks 1 = true ∨ 2 ≤ s.get Reg.THERM_STATUS_LEVEL ∨ s.getS Reg.THERM_STATUS_TJ < 0
      (isBlank hash = true → refused stBadParam) ∧
      (isBlank hash = false → locked → refused stBadState) ∧
      (isBlank hash = false → ¬locked → isBlank (s.otp.keys.getD slot []) = false → refused stOtpExhausted) ∧
      (isBlank hash = false → ¬locked → isBlank (s.otp.keys.getD slot []) = true →
        exec (.keyBurn h slot hash) s = .next (if u.burnReadsBack then
            answered h c stOk [] { u.used with otp := { u.otp with keys := modAt (fun _ => hash) slot u.otp.keys } }
          else answered h c stCheckFail [] { u.used with otp := { u.otp with
            keys := modAt (fun _ => u.spoiledKey) slot u.otp.keys } }))) ∧
    (∀ offset data, Ready h (.patchLoad offset data) s →
      let u := s.serving h (.patchLoad offset data)
      exec (.patchLoad h offset data) s = .next (answered h (.patchLoad offset data) stOk []
        { u with otp := { u.otp with staging := putStaging u.otp.staging offset data } })) ∧
    (∀ size sign, Ready h (.patchActivate size sign) s →
      let c := HostCmd.patchActivate size sign
      let refused := fun st => exec (.patchActivate h size sign) s = .next ((s.elapse h.at_).reply h 0x0D04 st false [])
      let barred := bit s.otp.locks 2 = true ∨ s.job.running ≠ none
      (barred → refused stBadState) ∧
      (¬barred → s.otp.imageOk size = false → refused stBadParam) ∧
      (¬barred → s.otp.imageOk size = true → s.otp.signatureOk size sign = false →
        exec (.patchActivate h size sign) s = .next (answered h c stSignatureFail []
          ((s.serving h c).incSat Reg.OTP_PATCH_FAILS_COUNT 1))) ∧
      (¬barred → s.otp.imageOk size = true → s.otp.signatureOk size sign = true →
        exec (.patchActivate h size sign) s = .next
          ((s.elapse h.at_).reply h 0x0D04 stOk false []).takePatch.fwRestart))

/-- LADDER_SET (R475), LADDER_STATUS, VCORE_FLOOR (R478), MEM_FILL (R280) and MEM_MODE (R271). -/
def Obligations.PowerAndMemoryCommandsComplete : Prop :=
  ∀ (h : Hdr) (s : State),
    (∀ state wake, Ready h (.ladderSet state wake) s →
      let c := HostCmd.ladderSet state wake
      let u := s.serving h c
      let refused := fun st => exec (.ladderSet h state wake) s = .next ((s.elapse h.at_).reply h 0x0E00 st false [])
      (state < 2 → exec (.ladderSet h state wake) s = .next (answered h c stOk []
        (let v := (u.setB Reg.LADDER_CTRL_AUTO_L1 (state == 1)).modPower (fun x => { x with stay := false })
         if state = 0 ∧ s.get Reg.LADDER_STATE = 1 then v.set Reg.LADDER_STATE 0 else v))) ∧
      (2 ≤ state → wake < 4 → (s.port wake).isUp = false → refused stBadParam) ∧
      (2 ≤ state → (wake < 4 → (s.port wake).isUp = true) → u.working = true → refused stBadState) ∧
      (2 ≤ state → (wake < 4 → (s.port wake).isUp = true) → u.working = false →
        exec (.ladderSet h state wake) s = .next (answered h c stOk []
          ((List.range 4).foldl State.orderIdle ((u.set Reg.LADDER_WAKE_CFG_WAKE_PORT wake).modPower
            (fun x => { x with entry := some (state, wake), stay := false })))))) ∧
    (Ready h .ladderStatus s → exec (.ladderStatus h) s = .next ((s.elapse h.at_).reply h 0x0E01 stOk false
      (leBytes 4 (s.get Reg.LADDER_STATE) ++ leBytes 4 (if s.pmbusOn then s.power.vcore else 0) ++
        leBytes 4 (s.get Reg.LADDER_FLOOR_MV)))) ∧
    (∀ mv, Ready h (.vcoreFloor mv) s → exec (.vcoreFloor h mv) s = .next (answered h (.vcoreFloor mv) stOk []
      ((s.serving h (.vcoreFloor mv)).set Reg.LADDER_FLOOR_MV mv).raiseToFloor)) ∧
    (∀ addr len pattern, Ready h (.memFill addr len pattern) s →
      let c := HostCmd.memFill addr len pattern
      let u := s.serving h c
      (s.standby = true → exec (.memFill h addr len pattern) s =
        .next (answered h c stNotOwner [] (u.incSat Reg.MEMCTL_PROT_REFUSED_COUNT 1))) ∧
      (s.standby = false → touchesProt addr len = true → exec (.memFill h addr len pattern) s =
        .next (answered h c stProtected [] (u.incSat Reg.MEMCTL_PROT_REFUSED_COUNT 1))) ∧
      (s.standby = false → touchesProt addr len = false → exec (.memFill h addr len pattern) s =
        .next (answered h c stAccepted [] { u with mem := { u.mem with
          fills := u.mem.fills ++ [⟨h.tag, h.iface, addr, len, pattern, 0⟩] } }))) ∧
    (∀ mode, Ready h (.memMode mode) s →
      let u := s.serving h (.memMode mode)
      (s.job.running = none → mode = 1 → s.flag Reg.MEMCTL_MODE_INIT = false → exec (.memMode h mode) s =
        .next (answered h (.memMode mode) stOk [] ((u.waitAllFills.undefine 0 dramEnd).set Reg.MEMCTL_MODE_INIT 1))) ∧
      (s.job.running = none → mode = 0 ∨ s.flag Reg.MEMCTL_MODE_INIT = true → exec (.memMode h mode) s =
        .next (answered h (.memMode mode) stOk [] (u.set Reg.MEMCTL_MODE_INIT mode))) ∧
      (s.job.running ≠ none → exec (.memMode h mode) s =
        .next ((s.elapse h.at_).reply h 0x0101 stBadState false [])))

/-- DMA_START (R319), PACK_START and UNPACK_START (R333), PACK_RESUME and PACK_SLOT (R51). -/
def Obligations.DmaAndPackCommandsComplete : Prop :=
  ∀ (h : Hdr) (s : State),
    (∀ n toShadow desc, Ready h (.dmaStart n toShadow desc) s →
      let c := HostCmd.dmaStart n toShadow desc
      let u := s.serving h c
      let d := wordsOf desc
      (u.dmaCheck n toShadow d ≠ stOk → exec (.dmaStart h n toShadow desc) s =
        .next ((s.elapse h.at_).reply h 0x0102 (u.dmaCheck n toShadow d) false [])) ∧
      (u.dmaCheck n toShadow d = stOk → s.dmaRunning n = false → exec (.dmaStart h n toShadow desc) s =
        .next (answered h c stOk [] (u.dmaActivate n d))) ∧
      (u.dmaCheck n toShadow d = stOk → s.dmaRunning n = true → exec (.dmaStart h n toShadow desc) s =
        .next (answered h c stOk [] ((((List.range 8).foldl (fun s w =>
          s.set (Reg.DMA_CH_SHADOW n w) (d.getD w 0)) u).modDma n (fun c => { c with committed := true })).dmaMarks n
          true)))) ∧
    (∀ slot level src dst n m, Ready h (.packStart slot level src dst n m) s → 1 ≤ n → 512 ≤ m →
      let c := HostCmd.packStart slot level src dst n m
      let u := s.serving h c
      (s.packRanges src n dst m ≠ stOk → exec (.packStart h slot level src dst n m) s =
        .next ((s.elapse h.at_).reply h 0x0200 (s.packRanges src n dst m) false [])) ∧
      (s.packRanges src n dst m = stOk → s.get (Reg.PACK_SLOT_STATE slot) ≠ 0 →
        exec (.packStart h slot level src dst n m) s = .next ((s.elapse h.at_).reply h 0x0200 stBusy false [])) ∧
      (s.packRanges src n dst m = stOk → s.get (Reg.PACK_SLOT_STATE slot) = 0 →
        exec (.packStart h slot level src dst n m) s = .next (answered h c stAccepted [] (u.packBegin slot
          { tag := h.tag, unpack := false, level := level, src := src, srcLen := n, dst := dst, dstLen := m, used := 0,
            part := 0, pos := 0, runFrom := 0, crc := 0xFFFFFFFF, origLen := n, consumed := 0, produced := 0,
            window := [] })))) ∧
    (∀ slot level src dst n m, Ready h (.unpackStart slot level src dst n m) s → 1 ≤ n → 512 ≤ m →
      let c := HostCmd.unpackStart slot level src dst n m
      let u := s.serving h c
      (s.packRanges src n dst m ≠ stOk → exec (.unpackStart h slot level src dst n m) s =
        .next ((s.elapse h.at_).reply h 0x0201 (s.packRanges src n dst m) false [])) ∧
      (s.packRanges src n dst m = stOk → s.get (Reg.PACK_SLOT_STATE slot) ≠ 0 →
        exec (.unpackStart h slot level src dst n m) s = .next ((s.elapse h.at_).reply h 0x0201 stBusy false [])) ∧
      (s.packRanges src n dst m = stOk → s.get (Reg.PACK_SLOT_STATE slot) = 0 →
        exec (.unpackStart h slot level src dst n m) s = .next (answered h c stAccepted [] (u.packBegin slot
          { tag := h.tag, unpack := true, level := 0, src := src, srcLen := n, dst := dst, dstLen := m, used := 0,
            part := 0, pos := 0, runFrom := 0, crc := 0xFFFFFFFF, origLen := 0, consumed := 0, produced := 0,
            window := [] })))) ∧
    (∀ slot dst m j, Ready h (.packResume slot dst m) s → 512 ≤ m → s.packSlot slot = some j →
      let c := HostCmd.packResume slot dst m
      (s.packRanges j.src j.srcLen dst m = stOk → s.get (Reg.PACK_SLOT_STATE slot) = 2 →
        exec (.packResume h slot dst m) s = .next (answered h c stAccepted [] ((s.serving h c).packBegin slot
          { j with dst := dst, dstLen := m, used := 0, tag := h.tag }))) ∧
      (s.packRanges j.src j.srcLen dst m = stOk → s.get (Reg.PACK_SLOT_STATE slot) ≠ 2 →
        exec (.packResume h slot dst m) s = .next ((s.elapse h.at_).reply h 0x0202 stBadState false []))) ∧
    (∀ slot release, Ready h (.packSlot slot release) s →
      let c := HostCmd.packSlot slot release
      let u := s.serving h c
      let st := s.get (Reg.PACK_SLOT_STATE slot)
      let data := leBytes 4 st ++ leBytes 4 (s.get (Reg.PACK_SLOT_CONSUMED slot)) ++
        leBytes 4 (s.get (Reg.PACK_SLOT_PRODUCED slot))
      (release = 1 → st = 1 → exec (.packSlot h slot release) s =
        .next ((s.elapse h.at_).reply h 0x0203 stBadState false [])) ∧
      (release = 1 → st = 2 → exec (.packSlot h slot release) s = .next (answered h c stOk data
        ({ u with pack := { u.pack with slots := modAt (fun _ => none) slot u.pack.slots } }.set
          (Reg.PACK_SLOT_STATE slot) 0))) ∧
      (release = 0 ∨ (st ≠ 1 ∧ st ≠ 2) → exec (.packSlot h slot release) s =
        .next ((s.elapse h.at_).reply h 0x0203 stOk false data)))

/-- R325: DMA_ABORT. -/
def Obligations.DmaAbortStopsTheChannel : Prop :=
  ∀ (h : Hdr) (n : Nat) (s : State), Ready h (.dmaAbort n) s → n < s.dma.length →
    let c := HostCmd.dmaAbort n
    let u := s.serving h c
    (s.dmaRunning n = false →
      exec (.dmaAbort h n) s = .next ((s.elapse h.at_).reply h 0x0103 stOk false (leBytes 8 0))) ∧
    (s.dmaRunning n = true → (s.dmaCh n).flight = [] →
      exec (.dmaAbort h n) s = .next (answered h c stOk (leBytes 8 (s.dmaCh n).done)
        (((u.modDma n (fun c => { c with committed := false })).modDma n (fun c => { c with next := 0 })).dmaMarks n
          false))) ∧
    (s.dmaRunning n = true → (s.dmaCh n).flight ≠ [] →
      ∃ t, exec (.dmaAbort h n) s = .next t ∧ t.host.out = s.host.out ∧ t.host.waiting = some ⟨h, c, 0xFE⟩ ∧
        t.host.outstanding = [] ∧ (t.dmaCh n).committed = false ∧ (t.dmaCh n).flight = (s.dmaCh n).flight ∧
        (t.dmaCh n).aborting = true ∧
        (∀ (pin : Bool) (at_ : Nat), exec (.dmaBurstStart ⟨n % 32, Nat.mod_lt _ (by decide)⟩ pin at_) t =
          .next (t.elapse at_)) ∧
        (∀ b (at_ : Nat), (s.dmaCh n).flight = [b] → b.todo = [] → b.bad = [] →
          (∀ w ∈ s.mem.writes, w.rmw = false) → (∀ m, m < 32 → m ≠ n → (s.dmaCh m).flight = []) →
          bit (dCtrl (s.dmaActive n)) 0 = false →
          ∃ v d, exec (.dmaWriteAck ⟨n % 32, Nat.mod_lt _ (by decide)⟩ at_) t = .next v ∧ v.host.waiting = none ∧
            v.dmaRunning n = false ∧ v.queued = s.queued ∧
            (hdrFlag h flagQuiet = false → v.host.out = s.host.out ++ [.reply h.iface
              { opcode := 0x0103, tag := h.tag, target := s.get Reg.HIER_ID, flags := 1, status := stOk,
                sequence := h.sequence, data := leBytes 8 d }] ∧ d = (v.dmaCh n).done)))

/-! ### Register writes and frames as rows of their own -/

/-- The register-write rows outside memory and DMA: SYS, ENC, LINEGEN, THERM, LADDER and MOTION. -/
def Obligations.RegisterWriteRowsComplete : Prop :=
  ∀ (t : Nat) (s : State), Live s →
    let u := s.elapse t
    (∀ a v, a < 0x1D0000 → a % 4 = 0 → rangeOk (regBase + a) 1 = true →
      exec (.registerFieldWrite (regBase + a) v t) s =
        .next (if (u.writeReg a (low 32 v)).1 = stOk then (u.writeReg a (low 32 v)).2 else u)) ∧
    (exec (.clrMin t) s = .next ((List.range 9).foldl (fun s e => s.set (Reg.SYS_PACE_MIN e) 0xFFFF) u)) ∧
    (∀ v, exec (.gpioDirWrite v t) s =
      .next (if u.gpioDirBusy (low 16 v) then u else u.set Reg.SYS_GPIO_DIR_OUT_EN (low 16 v))) ∧
    (let v := u.clearOnes Reg.SYS_CLK_STATUS_LOST 1
     exec (.clkStatusLostClear t) s = .next (if s.flag Reg.SYS_CLK_STATUS_REFCLK_OK && !v.flag Reg.SYS_CLK_STATUS_LOST then
        v.setB Reg.SYS_CLK_STATUS_IRO_TIMING false else v) ∧
      v.flag Reg.SYS_CLK_STATUS_LOST = (s.flag Reg.SYS_CLK_STATUS_LOST && bit (u.justSet Reg.SYS_CLK_STATUS_LOST) 0)) ∧
    (∀ (k : Fin 8) v, let w := u.cmpKeep k false
      exec (.cmpPosLoWrite k v t) s = .next (w.writeCmpPos k
        (sgn 64 (low 32 v + 2 ^ 32 * s.get (Reg.ENC_CMP_POS_HI k))) (w.cmpSource s.axisPos k))) ∧
    (∀ (e : Fin 4), exec (.zFaultClear e t) s =
      .next (if s.flag (Reg.ENC_STATUS_WIRE_Z e) then u else u.clearOnes (Reg.ENC_STATUS_Z_FAULT e) 1)) ∧
    (∀ (k : Fin 2), exec (.ssiStart k t) s =
      .next (if (s.ssi k).due.isSome then u else u.modSsi k (fun x => { x with due := some u.now }))) ∧
    (∀ (p : Fin 4) v, s.standby = false → s.prints p = false → s.armed p = false →
      (cplOk (s.get (Reg.LINEGEN_PL_CPL_LO p) + 2 ^ 32 * low 32 v) = true →
        exec (.cplHiWrite p v t) s = .next ((u.set (Reg.LINEGEN_PL_CPL_HI p) v).commitCpl p)) ∧
      (cplOk (s.get (Reg.LINEGEN_PL_CPL_LO p) + 2 ^ 32 * low 32 v) = false → exec (.cplHiWrite p v t) s = .next u)) ∧
    (s.standby = false → exec (.defectPop t) s = .next
      ({ u with line := { u.line with defects := u.line.defects.drop 1 } }.set Reg.LINEGEN_DEFECT_LOG_STATUS_ENTRIES
        (u.line.defects.drop 1).length)) ∧
    (∀ mask, exec (.brokenClear mask t) s = .next
      (let m := mask - (mask &&& u.justSet Reg.THERM_BROKEN_SENSORS)
       let v := u.clearOnes Reg.THERM_BROKEN_SENSORS m
       { v with therm := { v.therm with
         streak := (List.range 20).map (fun i => if bit m i then 0 else v.therm.streak.getD i 0) } })) ∧
    (exec (.pmbusFaultClear t) s = .next (u.clearOnes Reg.LADDER_PMBUS_STATUS_FAULT 1)) ∧
    (∀ (a : Fin 4), let last := s.get (Reg.MOTION_AX_TABLE_COMMIT_LAST_INDEX a)
      last < 256 → s.get (Reg.MOTION_AX_TABLE_SHADOW a) ≠ 2 → u.shadowOk a last = true → s.energised a = true →
      s.flag (Reg.MOTION_AX_STATUS_LOST a) = false → u.trigUnarmed a false = false → a < s.motion.axes.length →
      ∃ v, exec (.tableCommit a t) s = .next v ∧ v.get (Reg.MOTION_AX_TABLE_SHADOW a) = 2 ∧
        (v.axis a).shadowLast = last ∧ (v.axis a).tableTag = some 0 ∧ v.host = s.host ∧ v.dram = s.dram ∧
        v.tab0 = s.tab0 ∧ v.tab1 = s.tab1 ∧ v.heads = s.heads ∧ v.job = s.job)

/-- UE_POP (R278), INVAL_GO (R270), RECOVER_ACTIVE_WRITE (R273), DMA_COMMIT (R320), ZPHY_PORT_RESTART (R360) and
ZPHY_PORT_DISABLE (R359). -/
def Obligations.MemoryAndLinkWriteRowsComplete : Prop :=
  ∀ (t : Nat) (s : State), Live s →
    let u := s.elapse t
    (exec (.uePop t) s = .next { u with mem := { u.mem with ueLog := u.mem.ueLog.drop 1 } }) ∧
    (let first := s.get Reg.MEMCTL_INVAL_FIRST_REGION
     let count := s.get Reg.MEMCTL_INVAL_CTRL_COUNT
     1 ≤ count → count < 2 ^ 18 → first + count ≤ protRegion → s.flag Reg.MEMCTL_MODE_INIT = false →
      (∃ v, exec (.invalGo t) s = .next v ∧ (∀ r, first ≤ r → r < first + count → v.validRegion r = false) ∧
        v.tab0 = s.tab0 ∧ v.tab1 = s.tab1 ∧ v.job = s.job ∧ v.heads = s.heads) ∧
      ((∀ n, n < 32 → (s.dmaCh n).flight = []) → (∀ w ∈ s.mem.writes, w.rmw = false) →
        ∃ v, exec (.invalGo t) s = .next v ∧ v.mem.writes = [] ∧ v.dram = u.waitAllFills.dram ∧
          v.mem.valid = Sparse.dropRange first (first + count) u.waitAllFills.mem.valid ∧ v.host = s.host)) ∧
    (∀ active, let first := s.get Reg.MEMCTL_RECOVER_FIRST_REGION
      let count := s.get Reg.MEMCTL_RECOVER_COUNT_REGIONS
      let was := s.flag Reg.MEMCTL_RECOVER_FIRST_ACTIVE
      first < 2 ^ 18 →
      (active = false → exec (.recoverActiveWrite active t) s =
        .next ((u.setB Reg.MEMCTL_RECOVER_FIRST_ACTIVE false).set Reg.MEMCTL_RECOVER_FIRST_REGION first)) ∧
      (active = true → 1 ≤ count → first + count ≤ protRegion → was = false → exec (.recoverActiveWrite active t) s =
        .next (((u.openRange first count).set Reg.MEMCTL_RECOVER_FIRST_REGION first).setB
          Reg.MEMCTL_RECOVER_FIRST_ACTIVE true)) ∧
      (active = true → was = true → exec (.recoverActiveWrite active t) s = .next u)) ∧
    (∀ (ch : Fin 32), exec (.dmaCommit ch t) s =
      .next (if u.dmaCheck ch 1 (u.dmaShadow ch) = stOk then u.dmaStart ch (u.dmaShadow ch) else u)) ∧
    (∀ (p : Fin 4), (s.port p).isUp = false → p < s.ports.length →
      (∃ v, exec (.zphyPortRestart p t) s = .next v ∧
        (v.port p).phase = (if s.flag Reg.ZPHY_REFCLK_OK then .settling else .held) ∧
        v.get (Reg.ZPHY_PORT_CONFIG_ENABLE p) = 1 ∧
        v.get (Reg.ZPHY_PORT_STATUS_STATE p) = 1 ∧
        (s.get (Reg.ZPHY_PORT_CONFIG_WIDTH p) < 3 →
          v.get (Reg.ZPHY_PORT_STATUS_WIDTH_USED p) = s.get (Reg.ZPHY_PORT_CONFIG_WIDTH p)) ∧
        (∀ q, q ≠ p.val → v.port q = s.port q) ∧ v.host = s.host ∧ v.dram = s.dram ∧ v.job = s.job) ∧
      (∃ v, exec (.zphyPortDisable p t) s = .next v ∧ (v.port p).phase = .off ∧
        v.get (Reg.ZPHY_PORT_CONFIG_ENABLE p) = 0 ∧ v.get (Reg.ZPHY_PORT_STATUS_STATE p) = 0 ∧
        (∀ q, q ≠ p.val → v.port q = s.port q) ∧ v.host = s.host ∧ v.dram = s.dram ∧ v.job = s.job))

/-- R63: an out item leaves the queue at the end of the READ frame that clocked its last byte; an empty queue reads as
0x00 bytes. R64: an unknown frame byte is ignored. -/
def Obligations.SpiReadFrameKeepsTheItem : Prop :=
  ∀ (n t : Nat) (s : State), Live s →
    (∀ b, s.spiNext = some b → n < b.length →
      ∃ v, exec (.spiReadFrame n t) s = .next v ∧ v.host.spiReturned = b.take n ∧ v.host.out = s.host.out ∧
        v.host.log = s.host.log ∧ v.regs = s.regs ∧
        ∀ m t', ∃ w, exec (.spiReadFrame m t') v = .next w ∧ w.host.spiReturned.take b.length = b.take m) ∧
    (∀ b, s.spiNext = some b → b.length ≤ n →
      ∃ v, exec (.spiReadFrame n t) s = .next v ∧ v.host.spiReturned.take b.length = b ∧
        v.host.spiReturned.length = n ∧ v.host.out = takeSpi s.host.out ∧
        v.host.out.filterMap OutItem.spiBytes = (s.host.out.filterMap OutItem.spiBytes).drop 1 ∧ v.regs = s.regs) ∧
    (s.spiNext = none → exec (.spiReadFrame n t) s = .next ((s.elapse t).returns (List.replicate n 0))) ∧
    (∀ b : Byte, b ≠ 0x5A → b ≠ 0xA5 → b ≠ 0xC3 → exec (.spiUnknownFrame b t) s = .next ((s.elapse t).returns []))

/-- WRITE and STATUS frames (R33, R35, R62) and EVENT_WINDOW_END (R501). -/
def Obligations.SpiWriteAndStatusFrames : Prop :=
  ∀ (t : Nat) (s : State),
    (∀ bytes, Live s → let u := s.elapse t
      (packetOk bytes = true →
        exec (.spiWriteFrame bytes t) s = .next ((u.place (parsePacket .spi 0xFE u.now bytes)).returns [])) ∧
      (packetOk bytes = false → let v := u.incSat Reg.CMD_ERR_COUNT_CRC 1
        exec (.spiWriteFrame bytes t) s = .next ((v.raiseLimited evCmdDropped 0 1
          (leBytes 4 (v.get Reg.CMD_ERR_COUNT_CRC) ++ [1])).returns []))) ∧
    (Live s → exec (.spiStatusFrame t) s = .next ((s.elapse t).returns
      (leBytes 1 (s.spiNext.isSome.toNat + 2 * (decide (64 ≤ s.outCount)).toNat + 4 * s.get Reg.CMD_STATUS_READY) ++ ([0] : List Byte) ++
        leBytes 2 (match s.spiNext with | some b => b.length | none => 0)))) ∧
    (∀ code unit w, Running s → s.window? code unit = some w → w.endAt ≤ (s.elapse t).now → let u := s.elapse t
      exec (.eventWindowEnd code unit t) s = .next
        (if w.held = 0 then u.dropWindow code unit
         else (u.raise code unit (u.limitedArgs code w.held w.args)).putWindow
          { w with endAt := w.endAt + limitWindow code, held := 0, args := [] }))

/-! ### Events of the encoders, compare units, SSI ports and clocks -/

/-- ENC_EDGE_ACCEPTED (R81, R87), INDEX_LATCH (R85), WIRE_FAULT and WIRE_FAULT_END (R88 to R90), STANDSTILL (R95),
SETTLING_END (R96), COMPARE_PULSE_END (R104), SSI_FRAME_PERIOD (R108), SSI_FRAME_DONE and DI_STUCK (R107). -/
def Obligations.EncoderEventsComplete : Prop :=
  ∀ (e : Fin 4) (t : Nat) (s : State), Running s → s.get Reg.LADDER_STATE < 3 → s.encs.length = 4 →
    let u := s.elapse t
    (∀ levels samples, levels ≠ [] → levels.length = samples.length → (∀ n ∈ samples, 1 ≤ n) →
      exec (.encEdgeAccepted e levels samples t) s = .next ((s.encRuns e t (levels.zip samples)).elapse t) ∧
      exec (.indexLatch e levels samples t) s = .next ((s.encRuns e t (levels.zip samples)).elapse t)) ∧
    (∀ (lvl : Fin 8) n, 1 ≤ n →
      let need := filterN (s.get (Reg.ENC_CONFIG_FILTER e))
      let hold := fun c => if bit lvl c = bit (s.enc e).raw c then (s.enc e).held.getD c 0 + n else n
      let takes := fun c => bit lvl c ≠ s.encLevel e c ∧ need ≤ hold c
      let reverted := ((List.range 3).filter (fun c => bit lvl c != bit (s.enc e).raw c &&
        bit (s.enc e).raw c != s.encLevel e c)).length
      let c := (s.enc e).count
      let lead := xor (s.encLevel e 0) (s.encLevel e 1)
      let fwd := fun (onA : Bool) => xor (if onA then !lead else lead) (s.flag (Reg.ENC_CONFIG_REVERSE e))
      ∃ v, exec (.encEdgeAccepted e [lvl] [n] t) s = .next v ∧ exec (.indexLatch e [lvl] [n] t) s = .next v ∧
        v.get (Reg.ENC_GLITCHES e) = min (s.get (Reg.ENC_GLITCHES e) + reverted) (2 ^ 32 - 1) ∧
        (v.enc e).raw = lvl ∧ (∀ c, c < 3 → (v.enc e).held.getD c 0 = hold c) ∧
        (∀ c, c < 3 → (takes c → v.encLevel e c = bit lvl c) ∧ (¬takes c → v.encLevel e c = s.encLevel e c)) ∧
        (takes 0 → ¬takes 1 → (v.enc e).count = wrapS 64 (if fwd true then c + 1 else c - 1)) ∧
        (takes 1 → ¬takes 0 → (v.enc e).count = wrapS 64 (if fwd false then c + 1 else c - 1)) ∧
        (takes 0 → takes 1 → hold 0 = hold 1 → (v.enc e).count = c ∧ v.get (Reg.ENC_STATUS_INVALID e) = 1 ∧
          v.get (Reg.ENC_STATUS_OVERRUN e) = 1) ∧
        (¬takes 0 → ¬takes 1 → (v.enc e).count = c) ∧
        (takes 2 → ¬takes 0 → ¬takes 1 → bit lvl 2 ≠ s.flag (Reg.ENC_CONFIG_Z_POL e) →
          s.flag (Reg.ENC_CONFIG_Z_EN e) = true → s.encValid e = true → s.flag (Reg.ENC_STATUS_Z_FAULT e) = false →
          (v.enc e).latch = c ∧ v.get (Reg.ENC_STATUS_INDEX_VALID e) = 1 ∧
          v.flag (Reg.ENC_STATUS_INDEX_DIR e) = (s.enc e).backward ∧
          v.get (Reg.ENC_INDEX_COUNT e) = (s.get (Reg.ENC_INDEX_COUNT e) + 1) % 2 ^ (Reg.ENC_INDEX_COUNT e).w ∧
          (s.flag (Reg.ENC_STATUS_INDEX_VALID e) = false → v.get (Reg.ENC_INDEX_ERR e) = s.get (Reg.ENC_INDEX_ERR e) ∧
            v.get (Reg.ENC_STATUS_DRIFT e) = s.get (Reg.ENC_STATUS_DRIFT e)) ∧ v.host = s.host) ∧
        (∀ c, v.eout e c = if s.power.supplyOk then some (s.flag (Reg.ENC_CONFIG_RELAY_EN e) && bit lvl c) else none) ∧
        (∀ k, k ≠ e.val → v.enc k = s.enc k) ∧ v.dram = s.dram ∧ v.tab0 = s.tab0 ∧ v.tab1 = s.tab1) ∧
    (∀ (ch : Fin 3), ch ≠ 2 → ∃ v, exec (.wireFault e ch t) s = .next v ∧
      v.get (if ch = 1 then Reg.ENC_STATUS_WIRE_B e else Reg.ENC_STATUS_WIRE_A e) = 1 ∧
      v.get (Reg.ENC_STATUS_INVALID e) = 1 ∧ v.get (Reg.ENC_STATUS_WIRE e) = 1 ∧ (v.enc e).count = (s.enc e).count ∧
      v.dram = s.dram ∧ v.tab0 = s.tab0) ∧
    (exec (.wireFault e 2 t) s = .next (((u.setB (Reg.ENC_STATUS_WIRE_Z e) true).setB (Reg.ENC_STATUS_Z_FAULT e) true).setB
      (Reg.ENC_STATUS_INDEX_VALID e) false)) ∧
    (∀ (ch : Fin 3), exec (.wireFaultEnd e ch t) s = .next (u.setB (if ch = 0 then Reg.ENC_STATUS_WIRE_A e
      else if ch = 1 then Reg.ENC_STATUS_WIRE_B e else Reg.ENC_STATUS_WIRE_Z e) false)) ∧
    (s.flag (Reg.ENC_STATUS_STANDSTILL e) = false →
      (s.enc e).lastEdge + max 1 (s.get (Reg.ENC_STANDSTILL_STANDSTILL_MS e)) * 800000 ≤ u.now →
      exec (.standstill e t) s = .next ((u.modEnc e (fun x => { x with v := 0, a := 0 })).setB
        (Reg.ENC_STATUS_STANDSTILL e) true)) ∧
    ((s.enc e).settle = 0 → exec (.settlingEnd e t) s = .next (u.setB (Reg.ENC_STATUS_SETTLING e) false)) ∧
    (∀ (k : Fin 8) (d : Nat), (s.cmp k).pulseEnd = some d → d ≤ u.now →
      exec (.comparePulseEnd k t) s = .next (u.modCmp k (fun c => { c with pulseEnd := none }))) ∧
    (∀ (k : Fin 2), s.awake = true →
      let due := fun (v : State) => if (v.ssi k).due.isSome then v else v.modSsi k (fun x => { x with due := some v.now })
      (s.ssiPeriod k ≠ 0 → (s.ssi k).nextAt ≤ u.now → exec (.ssiFramePeriod k t) s =
        .next (due (u.modSsi k (fun x => { x with nextAt := u.now + s.ssiPeriod k })))) ∧
      (∀ d start frame, (s.ssi k).due = some d → d ≤ start → (s.ssi k).readyAt ≤ start → start ≤ u.now →
        frame.length = s.ssiBits k + (if s.ssiParity k = 0 then 0 else 1) →
        let v := u.modSsi k (fun x => { x with due := none, readyAt := u.now + s.ssiMono k })
        let n := ssiValue (s.flag (Reg.ENC_SSI_CONFIG_GRAY k)) false (frame.take (s.ssiBits k)) 0
        exec (.ssiFrameDone k start frame t) s = .next
          (if ssiParityOk (s.ssiParity k) frame then
            (((((v.set (Reg.ENC_SSI_POS_LO k) n).set (Reg.ENC_SSI_POS_HI k) (n / 2 ^ 32)).setB
              (Reg.ENC_SSI_STATUS_VALID k) true).inc (Reg.ENC_SSI_STATUS_FRAMES k)).set (Reg.ENC_SSI_STAMP k) (stepsNs start))
          else v.setB (Reg.ENC_SSI_STATUS_PARITY_ERR k) true)) ∧
      (∀ d, (s.ssi k).due = some d → max d (s.ssi k).readyAt + s.ssiMono k ≤ u.now →
        exec (.diStuck k t) s = .next ((u.modSsi k (fun x => { x with due := none })).setB (Reg.ENC_SSI_STATUS_DI_STUCK k)
          true)))

/-- REFCLK_SYS_LOST (R15), REFCLK_SYS_RETURN (R16), REFCLK_ZL_LOST and REFCLK_ZL_RESTORED (R346), SUPPLY_OPERATING_RANGE,
PACE_WINDOW, OBSERVER_TICK (R92). -/
def Obligations.ClockEventsComplete : Prop :=
  ∀ (t : Nat) (s : State), let u := s.elapse t
    (Running s → s.get Reg.PAIR_STATUS_ROLE ≠ 1 → s.job.running = none →
      let v := ((u.setB Reg.SYS_CLK_STATUS_REFCLK_OK false).setB Reg.SYS_CLK_STATUS_IRO_TIMING true).setB
        Reg.SYS_CLK_STATUS_LOST true
      exec (.refclkSysLost t) s = .next
        ({ v with time := { v.time with fireInhibit := true } }.raise evRefclkLost 0 (leBytes 8 (u.tbNs 1)))) ∧
    (Running s → s.get Reg.PAIR_STATUS_ROLE ≠ 1 → s.job.running ≠ none → ∃ v, exec (.refclkSysLost t) s = .next v ∧
      v.get Reg.SYS_CLK_STATUS_REFCLK_OK = 0 ∧ v.get Reg.SYS_CLK_STATUS_LOST = 1 ∧
      v.get Reg.SYS_CLK_STATUS_IRO_TIMING = 1 ∧ v.time.fireInhibit = true ∧ v.job.running = none ∧
      v.job.queued = none ∧ v.heads = s.heads) ∧
    (Running s → exec (.refclkSysReturn t) s = .next (let v := u.setB Reg.SYS_CLK_STATUS_REFCLK_OK true
      if s.flag Reg.SYS_CLK_STATUS_LOST then v else v.setB Reg.SYS_CLK_STATUS_IRO_TIMING false)) ∧
    (∀ ppm, Running s → s.ports.length = 4 → (∀ p, p < 4 → s.flag (Reg.ZPHY_PORT_CONFIG_ENABLE p) = true → (s.port p).isUp = false) →
      ∃ v, exec (.refclkZlLost ppm t) s = .next v ∧ v.get Reg.ZPHY_REFCLK_OK = 0 ∧ v.get Reg.ZPHY_REFCLK_LOST = 1 ∧
        (∀ p, p < 4 → s.flag (Reg.ZPHY_PORT_CONFIG_ENABLE p) = true → (v.port p).phase = .held) ∧
        (∀ p, p < 4 → s.flag (Reg.ZPHY_PORT_CONFIG_ENABLE p) = false → v.port p = s.port p) ∧
        v.host = s.host ∧ v.dram = s.dram) ∧
    (∀ ppm, Running s → s.ports.length = 4 → ∃ v, exec (.refclkZlRestored ppm t) s = .next v ∧
      v.get Reg.ZPHY_REFCLK_OK = 1 ∧
      (∀ p, p < 4 → s.flag (Reg.ZPHY_PORT_CONFIG_ENABLE p) = true → (s.port p).phase = .held →
        (v.port p).phase = .settling) ∧
      (∀ p, p < 4 → (s.port p).phase ≠ .held → v.port p = s.port p) ∧ v.host = s.host ∧ v.dram = s.dram) ∧
    (∀ inside, exec (.supplyOperatingRange inside t) s = .next { u with power := { u.power with supplyOk := inside } }) ∧
    (∀ work, Live s → ∃ v, exec (.paceWindow work t) s = .next v ∧
      v.power.paceHist.head? = some (u.paceEngines work).pixelPace.1 ∧
      v.power.paceHist.length = min 8 (s.power.paceHist.length + 1) ∧ v.dram = s.dram ∧ v.job = s.job) ∧
    (Running s → s.get Reg.LADDER_STATE < 3 → s.job.running = none → s.job.queued = none →
      exec (.observerTick t) s = .next ((List.range 4).foldl State.encTick u).wspdTerms)

/-! ### Events of the print path and of the head ports -/

/-- LINE_ISSUE (R113), LINE_TO_FIFO (R8), SHIFT_START (R197), LATCH (R199), STROBE_TRAIN_START (R200), STROBE_TRAIN_END
(R202) and DEFECT_MARK_RELEASE (R120). -/
def Obligations.LinePipelineEventsComplete : Prop :=
  ∀ (t : Nat) (s : State), Live s →
    let u := s.elapse t
    (∀ (p : Fin 4) j b, u.mayIssue p = some j → j.binding p = some b → s.get Reg.PAIR_STATUS_ROLE ≠ 1 →
      (s.plane p).refTick ≠ some u.now → s.line.planes.length = 4 → j.planes.length = 4 →
      ∃ v, exec (.lineIssue p t) s = .next v ∧
        (∃ j', (v.job.running = some j' ∨ v.job.queued = some j') ∧ j'.seq = j.seq ∧ j'.started = true ∧
          (j'.plane p).next = (j.plane p).next + 1) ∧
        (∃ l, (v.plane p).lines.getLast? = some l ∧ l.seq = j.seq ∧ l.k = (j.plane p).next ∧ l.issuedAt = u.now ∧
          l.ref = s.ref p (j.start.getD 0) l.k)) ∧
    (∀ (q : Fin 48) p h l, s.headOf q = some (p, h) → (s.plane p).lines.find? (fun l => !(l.head h).ready) = some l →
      ((l.head h).slot = true ∨ s.fifoBytes p h + pLineBytes (s.profile p) ≤ 32768 → exec (.lineToFifo q t) s =
        .next ((u.modLine p l.seq l.k (·.modHead h (fun x => { x with ready := true }))).forget p)) ∧
      ((l.head h).slot = false → 32768 < s.fifoBytes p h + pLineBytes (s.profile p) →
        exec (.lineToFifo q t) s = .next u)) ∧
    (∀ (q : Fin 48) p h l, s.headOf q = some (p, h) → s.nextShift p h = some l → s.portUp q = true →
      (s.head q).shift = none → (s.head q).shiftFrom ≤ u.now → s.shiftDue p h l = true →
      ((l.head h).ready = true → exec (.shiftStart q t) s = .next
        ((((u.useSlot p h l).modLine p l.seq l.k (·.modHead h (fun x =>
            { x with phase := if x.phase = .waiting then .shifting else x.phase }))).modHead q (fun x => { x with
          shift := some (l.seq, l.k, l.row, u.now), bits := shiftData (s.profile p) (l.levels.getD h []) })).forget p)) ∧
      ((l.head h).ready = false → exec (.shiftStart q t) s = .next (u.lateLine q p h l))) ∧
    (∀ (q : Fin 48) p h seq k row start, s.headOf q = some (p, h) → (s.head q).shift = some (seq, k, row, start) →
      s.portUp q = true → start + pTShift (s.profile p) + pTsl (s.profile p) ≤ u.now → u.rowFree q p h row = true →
      let fall := u.now + pLatW (s.profile p) row
      exec (.latch q t) s = .next ((u.modLine p seq k (·.modHead h (fun x =>
        { x with phase := if x.phase = .shifting then .latched else x.phase }))).modHead q (fun x =>
        { x.modRow row (fun y => { y with line := some (seq, k), fall := some fall }) with
          shift := none, shiftFrom := fall + 8 }))) ∧
    (∀ (q : Fin 48) p h l (tf : Nat), s.headOf q = some (p, h) → u.nextFire p h = some (l, tf) →
      let row := (s.head q).row l.row
      let fires := s.time.fireInhibit = false ∧ s.portUp q = true ∧ l.under = false ∧ (l.head h).phase = .latched ∧
        row.line = some (l.seq, l.k) ∧ ∃ f, row.fall = some f ∧ f + pTls (s.profile p) ≤ tf
      let missed := fun (v : State) (c at_ : Nat) => ((v.missHead p l.seq l.k h c at_).freeRow q l.row v.now).settled p
      (fires → exec (.strobeTrainStart q t) s = .next (State.settled
        (((u.modLine p l.seq l.k (·.modHead h (fun x => { x with phase := .fired }))).modHead q (fun x =>
          x.modRow l.row (fun y => { y with
            trainEnd := some (tf + pTrain (s.profile p)), lastFired := some tf,
            heat := (s.get (Reg.HEADPORT_HP_PREHEAT_COUNT q), s.get (Reg.HEADPORT_HP_PREHEAT_WIDTH q)) }))).inc
          (Reg.HEADPORT_HP_FIRED q)) p)) ∧
      (s.time.fireInhibit = true → exec (.strobeTrainStart q t) s = .next (missed u 6 tf)) ∧
      (s.time.fireInhibit = false → s.portUp q = false → exec (.strobeTrainStart q t) s = .next (missed u 4 (max l.issuedAt (s.head q).downAt))) ∧
      (s.time.fireInhibit = false → s.portUp q = true → l.under = true →
        exec (.strobeTrainStart q t) s = .next (missed u 2 tf)) ∧
      (s.time.fireInhibit = false → s.portUp q = true → l.under = false → ¬fires →
        exec (.strobeTrainStart q t) s = .next
          (missed ((u.incSat (Reg.HEADPORT_HP_SKIPPED q) 1).overspeed p l.seq l.k) 1 tf))) ∧
    (∀ (q : Fin 48) (rowB : Bool) e p h, ((s.head q).row rowB.toNat).trainEnd = some e → s.headOf q = some (p, h) →
      e ≤ u.now → (s.head q).closing = none →
      exec (.strobeTrainEnd q rowB t) s = .next (u.modHead q (·.modRow rowB.toNat (fun y =>
        { y with trainEnd := none, freeAt := e + pTtl (s.profile p) })))) ∧
    (∀ (p : Fin 4),
      let ended := fun (m : Mark) => decide (m.start + s.markMin ≤ u.now) && match m.pos with
        | some f => decide (f < s.webPos p)
        | none => match m.stop with | some e => decide (e ≤ u.now) | none => false
      exec (.defectMarkRelease p t) s = .next (u.modPlane p (fun x => { x with
        marks := x.marks.filter (fun m => !ended m) })))

/-- JOB_END (R148), JOB_TAKEOVER (R147), WSPD_PERIOD (R123, R126, R409), SRET_FRAME (R204 to R206), SRET_TIMEOUT (R207),
STROBE_WATCHDOG (R212) and STROBE_HW_LIMIT (R213). -/
def Obligations.JobAndHeadEventsComplete : Prop :=
  ∀ (t : Nat) (s : State), Running s →
    let u := s.elapse t
    let cut := fun (v : State) (q : Nat) (rowB stuck : Bool) =>
      v.modHead q (fun x => if rowB then { x with padB := stuck } else { x with padA := stuck })
    (∀ (q : Fin 48) rowB stuck, s.get Reg.PAIR_STATUS_ROLE ≠ 1 →
      exec (.strobeHwLimit q rowB stuck t) s = .next ((cut u q rowB stuck).portFault q 2 (!rowB, rowB))) ∧
    (s.awake = true →
    (∀ j, s.job.running = some j → j.takesOver = false → s.jobDone j = true →
      ∃ v, exec (.jobEnd t) s = .next v ∧ v.job.running = none ∧ v.job.last = some j ∧ v.job.queued = s.job.queued ∧
        v.heads = s.heads) ∧
    (∀ j q, s.job.running = some j → s.job.queued = some q → j.takesOver = true → s.jobDone j = true →
      ∃ v, exec (.jobTakeover t) s = .next v ∧ (∃ b, v.job.running = some { q with started := true, p0Num := b }) ∧ v.job.queued = none ∧
        v.job.last = some j ∧ v.heads = s.heads) ∧
    (let th : Nat × Nat := (s.get Reg.LINEGEN_WSPD_THERMAL, 4000)
     let m := minFrac s.line.wspdStream (minFrac s.line.wspdOverspeed th)
     let prev := s.get Reg.LINEGEN_WSPD_DUTY_DUTY
     let duty := if s.standby then 4000
       else if s.flag Reg.LINEGEN_WSPD_CTRL_ENABLE then
         if termFloor m ≤ prev then termFloor m else min (termFloor m) (prev + max 1 (s.get Reg.LINEGEN_WSPD_RISE))
       else if s.line.wspdSeen then min 4000 (s.get Reg.LINEGEN_WSPD_CTRL_FIXED_DUTY) else 0
     let limit := if s.standby ∨ s.flag Reg.LINEGEN_WSPD_CTRL_ENABLE = false ∨ m.2 ≤ m.1 then 0
       else if m = s.line.wspdStream then 1 else if m = s.line.wspdOverspeed then 2 else 3
     let v := (u.set Reg.LINEGEN_WSPD_DUTY_DUTY duty).set Reg.LINEGEN_WSPD_DUTY_LIMIT limit
     exec (.wspdPeriod t) s = .next { v with line := { v.line with wspdDuty := duty } }) ∧
    (∀ (q : Fin 48), let r := s.portProfile q
      (∀ frame broken, s.sretOn q = true → (broken = true ∨ frameOk r frame = false) →
        exec (.sretFrame q frame broken t) s = .next (u.incSat (Reg.HEADPORT_HP_SRET_ERRORS q) 1)) ∧
      (∀ frame, s.sretOn q = true → frameOk r frame = true →
        let temp := satS 16 (pTempOffset r + ((u16 frame (pTempPos r) * pTempScale r + 128) / 256 : Nat))
        let x := preheat r s.recPhEnergyMax s.recPhCutoff (s.getS (Reg.HEADPORT_HP_INTEG q))
          (s.getS (Reg.HEADPORT_HP_TEMP_TARGET q)) temp
        ∃ v, exec (.sretFrame q frame false t) s = .next v ∧ v.getS (Reg.HEADPORT_HP_TEMP q) = temp ∧
          v.get (Reg.HEADPORT_HP_FAULT_SRET_LOST q) = 0 ∧
          v.get (Reg.HEADPORT_HP_SRET_ERRORS q) = s.get (Reg.HEADPORT_HP_SRET_ERRORS q) ∧
          v.get (Reg.HEADPORT_HP_PREHEAT_COUNT q) = low (Reg.HEADPORT_HP_PREHEAT_COUNT q).w x.2.1 ∧
          v.get (Reg.HEADPORT_HP_PREHEAT_WIDTH q) = low (Reg.HEADPORT_HP_PREHEAT_WIDTH q).w x.2.2) ∧
      (s.sretOn q = true → s.flag (Reg.HEADPORT_HP_CTRL_ENABLE q) = true →
        (s.head q).sretOut = false → (s.head q).sretFrom + pSretTimeout r * 800000 ≤ u.now →
        exec (.sretTimeout q t) s = .next ((((u.setB (Reg.HEADPORT_HP_FAULT_SRET_LOST q) true).putPreheat q 0 0).modHead q
          (fun x => { x with outside := false, sretOut := true })).headTemp q (-32768))) ∧
      (∀ rowB stuck, s.get Reg.PAIR_STATUS_ROLE ≠ 1 → exec (.strobeWatchdog q rowB stuck t) s =
        .next (((cut u q rowB stuck).incSat (Reg.HEADPORT_HP_WD_CUTS q) 1).portFault q 1 (!rowB, rowB)))))

/-! ### Events of the camera ports and of the axes -/

/-- CSI_FRAME_START, CSI_FRAME_END, CAM_LINE_TIMEOUT (R220), CSI_LONG_PACKET (R217, R224), PIPELINE_LINE (R228),
FRAME_PROCESSED (R230), CAM_TRIG_PULSE_END (R234). -/
def Obligations.CameraEventsComplete : Prop :=
  ∀ (c : Fin 4) (t : Nat) (s : State), Live s → s.cam.ports.length = 4 →
    let u := s.elapse t
    let r := s.camRecordNow c
    (∀ vc, s.camOn c = true → vc = cVc r → cCounted r = false → (s.camPort c).open_ = none →
      ∃ v f, exec (.csiFrameStart c vc 0 t) s = .next v ∧ (v.camPort c).open_ = some f ∧
        f.num = s.get (Reg.CAMRX_PORT_FRAMES c) ∧ f.placed = false ∧ f.kept = 0 ∧ f.lastAt = u.now ∧
        v.get (Reg.CAMRX_PORT_FRAMES c) = (s.get (Reg.CAMRX_PORT_FRAMES c) + 1) % 2 ^ 32 ∧ v.dram = s.dram ∧
        v.host = s.host ∧ v.job = s.job) ∧
    (∀ vc, s.camOn c = true → exec (.csiFrameStart c vc 2 t) s = .next (u.incSat (Reg.CAMRX_PORT_ECC_FAIL c) 1) ∧
      exec (.csiFrameEnd c vc 2 t) s = .next (u.incSat (Reg.CAMRX_PORT_ECC_FAIL c) 1)) ∧
    (∀ vc f, s.camOn c = true → vc = cVc r → cCounted r = false → (s.camPort c).open_ = some f →
      ∃ v, exec (.csiFrameEnd c vc 0 t) s = .next v ∧ (v.camPort c).open_ = none ∧ v.job = s.job ∧
        (f.placed = true → f.dropped = false → f.inline_ = false → ∃ g ∈ v.cam.queue,
          g.port = f.port ∧ g.num = f.num ∧ g.kept = f.kept ∧ g.ended = true)) ∧
    (∀ vc dt pix crcOk ov, s.camOn c = true → vc ≠ cVc r ∨ dt ≠ cDt r →
      exec (.csiLongPacket c vc dt 0 pix crcOk ov t) s = .next (u.incSat (Reg.CAMRX_PORT_FOREIGN c) 1)) ∧
    (∀ pix f, s.camOn c = true → (s.camPort c).open_ = some f → f.placed = true → f.inline_ = true → f.dropped = false →
      f.port = c.val → f.kept ≠ cLines f.record → pix.length = cInWidth f.record * cComps f.record →
      ¬(cCounted f.record = true ∧ f.kept + 1 = cLines f.record) →
      ∃ v f', exec (.csiLongPacket c (cVc f.record) (cDt f.record) 0 pix true false t) s = .next v ∧
        (v.camPort c).open_ = some f' ∧ f'.kept = f.kept + 1 ∧ f'.rows = f.rows ++ [fitLine f.record pix] ∧
        f'.num = f.num ∧ f'.lastAt = u.now ∧ f'.crc = f.crc ∧ f'.len = f.len ∧ v.dram = s.dram ∧ v.host = s.host) ∧
    (∀ f, (s.camPort c).open_ = some f → cTimeout r ≠ 0 → f.lastAt + cTimeout r * 800 ≤ u.now →
      ∃ v, exec (.camLineTimeout c t) s = .next v ∧ v = u.frameEnd c ∧ (v.camPort c).open_ = none) ∧
    (∀ f, (s.cam.inl ++ s.cam.ports.filterMap (·.open_)).find? CamFrame.hasLine = some f →
      exec (.pipelineLine t) s = .next (u.inlineLine f)) ∧
    (∀ f l, (s.cam.inl ++ s.cam.ports.filterMap (·.open_)).find? CamFrame.hasLine = none → s.cam.queue = f :: l →
      f.outs.length < f.kept → s.critical = false → exec (.pipelineLine t) s = .next (u.memLine f)) ∧
    (∀ f, s.doneFrame c = some f → ∃ v, exec (.frameProcessed c t) s = .next v ∧
      v = (List.range 4).foldl (fun s p => s.planeFrame (u.finishFrame f).2 p) (u.finishFrame f).1 ∧
      (∀ g ∈ v.cam.queue ++ v.cam.inl, ¬(g.port = f.port ∧ g.num = f.num))) ∧
    (∀ e, (s.camPort c).trigEnd = some e → e ≤ u.now →
      exec (.camTrigPulseEnd c t) s = .next (u.modCam c (fun x => { x with trigEnd := none })))

/-- CHOP_HIGH_THRESHOLD, CHOP_CYCLE_END, CHOP_BLANK_END (R285), LONG_CYCLE (R286), OVERCURRENT (R287) and
HOLD_DELAY_EXPIRY (R292). -/
def Obligations.ChopperEventsComplete : Prop :=
  ∀ (a : Fin 4) (onB : Bool) (t : Nat) (s : State), Live s → s.energised a = true → s.motion.axes.length = 4 →
    let u := s.elapse t
    let x := s.axis a
    let c := x.chop onB
    (∀ i : Int, c.phase = .drive → c.blank = none → i.sign = c.ts.sign → u.chopHi a onB ≤ i.natAbs →
      exec (.chopHighThreshold a onB i t) s = .next (u.modChop a onB (fun c => Chop.sensed { c with
        phase := .decay, fast := u.fastDecay a onB, blank := some (u.now + u.blankSteps a) } i))) ∧
    (∀ i mean : Int, c.phase = .decay → c.blank = none → (i.sign ≠ c.ts.sign ∨ (i.natAbs : Int) ≤ u.chopLo a onB) →
      let ofs := clampI (-4096) 4096 (s.getS (ofsOf a onB) + sar (c.ts.sign * mean - c.ts.natAbs * 16) (aOfsShift x.record))
      let f := 100000000 / max 1 ((u.now - c.start) / 8)
      let band := s.get (bandOf a onB)
      let band := if 1000 * aFHi x.record < f then min (band + 2) 64 else band
      let band := if f < 1000 * aFLo x.record then max (band - 2) 2 else band
      exec (.chopCycleEnd a onB i mean t) s = .next
        ((((u.setS (ofsOf a onB) ofs).set (bandOf a onB) band).set (freqOf a onB) (min 255 (f / 1000))).chopStart a onB)) ∧
    (∀ e, c.blank = some e → e ≤ u.now →
      exec (.chopBlankEnd a onB t) s = .next (u.modChop a onB (fun c => { c with blank := none }))) ∧
    (c.ts ≠ 0 → c.start + 8 * (200000 / max 1 (aFLo x.record)) ≤ u.now →
      let f := 100000000 / max 1 ((u.now - c.start) / 8)
      exec (.longCycle a onB t) s = .next
        (((u.incSat (Reg.MOTION_AX_COUNTS_LONG_CYCLES a) 1).set (freqOf a onB) (min 255 (f / 1000))).chopStart a onB)) ∧
    (∀ i : Int, c.blank = none → aOcLimit x.record < i.natAbs →
      ∃ v, exec (.overcurrent a onB i t) s = .next v ∧ v.get (Reg.MOTION_AX_STATUS_ENERGISED a) = 0 ∧
        v.get (Reg.MOTION_AX_STATUS_LOST a) = 1 ∧ v.get (Reg.MOTION_AX_STATUS_OVERCURRENT a) = 1 ∧
        v.get (Reg.MOTION_AX_STATUS_MOVING a) = 0 ∧ (v.axis a).phA.phase = .slow ∧ (v.axis a).phB.phase = .slow ∧
        (v.axis a).p = x.p ∧ (v.axis a).next = none ∧ (∀ b, b ≠ a.val → v.axis b = s.axis b) ∧ v.job = s.job) ∧
    (∀ r, s.moving a = false → x.restAt = some r → r + aHoldMs x.record * 800000 ≤ u.now →
      exec (.holdDelayExpiry a t) s = .next (((u.modAxis a (fun x => { x with restAt := none })).setB
        (Reg.MOTION_AX_STATUS_HOLD a) true).chopWakes a))

/-- PROFILE_UPDATE and MICROSTEP_ADVANCE (R290), SWITCH_LEVEL_ACCEPTED (R308) and EVT_SWITCH_STUCK (R309). -/
def Obligations.AxisEventsComplete : Prop :=
  ∀ (t : Nat) (s : State), Live s → s.motion.axes.length = 4 → s.motion.switches.length = 8 →
    let u := s.elapse t
    (∀ meas, ∃ v, exec (.profileUpdate meas t) s = .next v ∧ v.motion.updateAt = u.now ∧
      v = (List.range 4).foldl (fun s a => s.axisUpdate a (meas.getD a ⟨0, 0, 0, 0, 0, 0, 0, 0⟩))
        { u with motion := { u.motion with updateAt := u.now } } ∧
      (∀ a, a < 4 → (s.axis a).run = .rest → (s.axis a).next = none → (s.axis a).stop = none →
        s.flag (Reg.MOTION_AX_STATUS_WAIT_TRIG a) = false → s.get (Reg.MOTION_AX_TABLE_SHADOW a) ≠ 2 →
        (v.axis a).p = (s.axis a).p ∧ (v.axis a).pOld = (s.axis a).p)) ∧
    (∀ (a : Fin 4), let i := indexAt (s.axis a).record (u.linear a)
      exec (.microstepAdvance a t) s = .next ((if (s.axis a).index = i then u
        else (u.modAxis a (fun x => { x with index := i })).loadEntries a).chopWakes a)) ∧
    (∀ (k : Fin 8) level,
      let x := s.motion.switches.getD k ⟨true, none⟩
      let idle := level = s.flag (Reg.MOTION_SW_CTRL_EDGE k)
      (idle → ∃ v, exec (.switchLevelAccepted k level t) s = .next v ∧ v.flag (Reg.MOTION_SW_STATUS_LEVEL k) = level ∧
        v.get (Reg.MOTION_SW_STATUS_ARMED k) = 1 ∧ v.motion.axes = s.motion.axes ∧ v.host = s.host ∧
        v.motion.switches.getD k ⟨true, none⟩ = ⟨false, none⟩) ∧
      (¬idle → x.fresh = true → ∃ v, exec (.switchLevelAccepted k level t) s = .next v ∧
        v.flag (Reg.MOTION_SW_STATUS_LEVEL k) = level ∧ v.get (Reg.MOTION_SW_STATUS_ARMED k) = 0 ∧
        v.motion.axes = s.motion.axes ∧ v.host = s.host) ∧
      (¬idle → x.fresh = false → s.swActive k = false → s.flag (Reg.MOTION_SW_STATUS_ARMED k) = true →
        s.job.queued = none → ∃ v, exec (.switchLevelAccepted k level t) s = .next v ∧
          v.flag (Reg.MOTION_SW_STATUS_LEVEL k) = level ∧ v.get (Reg.MOTION_SW_STATUS_ARMED k) = 0 ∧
          v.get (Reg.MOTION_SW_STATUS_LATCHED k) = 1 ∧ v.job = s.job ∧
          v.get (Reg.MOTION_SW_LATCHES k) = (s.get (Reg.MOTION_SW_LATCHES k) + 1) % 2 ^ (Reg.MOTION_SW_LATCHES k).w ∧
          v.get (Reg.MOTION_SW_CAP_TB1 k) = low (Reg.MOTION_SW_CAP_TB1 k).w (stepsNs (u.now - 800)))) ∧
    (∀ (k : Fin 8) a, (s.motion.switches.getD k ⟨true, none⟩).since = some a → s.get (Reg.MOTION_SW_CTRL_STUCK_MS k) ≠ 0 →
      a + s.get (Reg.MOTION_SW_CTRL_STUCK_MS k) * 800000 ≤ u.now →
      exec (.evtSwitchStuck k t) s = .next (((u.modSwitch k (fun x => { x with since := none })).setB
        (Reg.MOTION_SW_STATUS_STUCK k) true).raise evSwitchStuck 0 (leBytes 1 k)))

/-! ### Events of the DMA engine, of copies, and of memory -/

/-- DMA_BURST_START (R315 to R317), DMA_WRITE_ACK (R313, R321, R325), DMA_TRANSFER_COMPLETE (R312, R320 to R322) and
DMA_READ_ERROR (R324). -/
def Obligations.DmaEventsComplete : Prop :=
  ∀ (ch : Fin 32) (t : Nat) (s : State), Live s → Memory.wf s = true → s.mem.filling = [] → s.dma.length = 32 →
    let u := s.elapse t
    let d := s.dmaActive ch
    let c := s.dmaCh ch
    (∀ pin, s.dmaMayStart ch pin = true →
      let a := dSrc d + c.next
      let b := dDst d + c.next
      let n := burstEnd d c.next - c.next
      let ps := piecesOf n b (s.readMem a n)
      (∃ v, exec (.dmaBurstStart ch pin t) s = .next v ∧ (v.dmaCh ch).next = burstEnd d c.next ∧
        (v.dmaCh ch).flight.length = c.flight.length + 1 ∧
        v.get (Reg.DMA_CH_REQ_CREDITS ch) = (if 17 ≤ dReq d then low 8 (s.get (Reg.DMA_CH_REQ_CREDITS ch) - 1)
          else s.get (Reg.DMA_CH_REQ_CREDITS ch))) ∧
      (s.badBlocks a n = [] → (∀ x ∈ blocksIn b n, x ∉ s.mem.ue) →
        (∀ i < n, s.validRegion ((b + i) / regionBytes) = true ∧ s.initRegion ((b + i) / regionBytes) = false) →
        (∀ x ∈ c.flight, x.todo = []) →
        (∀ k, k < 8 → (s.mem.writes.filter (fun w => w.ch == k)).length +
          (ps.filter (fun p => channelOf p.1 == k)).length ≤ 64) →
        ∃ v, exec (.dmaBurstStart ch pin t) s = .next v ∧ (v.dmaCh ch).flight = c.flight ++ [⟨c.next, n, [], [], n⟩] ∧
          v.get (Reg.DMA_CH_STATUS_IN_FLIGHT ch) = 0 ∧
          (∀ i < n, Sparse.get 0 v.dram (b + i) = s.byteAt (a + i)) ∧
          (∀ x, (x < b ∨ b + n ≤ x) → Sparse.get 0 v.dram x = Sparse.get 0 s.dram x))) ∧
    (let idle := (∀ m, m < 32 → ∀ x ∈ (s.dmaCh m).flight, x.todo = []) ∧ ∀ w ∈ s.mem.writes, w.rmw = false
     (∀ b l, idle → c.flight = b :: l → b.bad = [] →
      let left := s.mem.writes.filter (fun w => !(w.chan == some ((ch : Nat), c.pass) && inBurst d b w))
      let acked := fun (x : DmaBurst) => x.bad.isEmpty &&
        left.all (fun w => w.chan != some ((ch : Nat), c.pass) || !inBurst d x w)
      let done := ((c.flight.takeWhile acked).getLast?.map (fun x => x.off + x.len)).getD c.done
      ∃ v, exec (.dmaWriteAck ch t) s = .next v ∧ (v.dmaCh ch).flight = c.flight.dropWhile acked ∧
        (v.dmaCh ch).flight.length ≤ l.length ∧ (v.dmaCh ch).done = done ∧ v.mem.writes = left ∧ v.dram = s.dram ∧
        (v.dmaCh ch).halfRaised = (c.halfRaised || (bit (dCtrl d) 0 && decide ((dLen d + 1) / 2 ≤ done))) ∧
        (s.host.waiting = none →
          v.get (Reg.DMA_CH_STATUS_RUNNING ch) = s.get (Reg.DMA_CH_STATUS_RUNNING ch)) ∧
        (∀ h k, s.host.waiting = some ⟨h, .dmaAbort ch, k⟩ → c.flight.dropWhile acked = [] →
          v.host.waiting = none ∧ v.get (Reg.DMA_CH_STATUS_RUNNING ch) = 0)) ∧
     (∀ b, s.dmaRunning ch = true → c.flight.find? (fun b => !b.bad.isEmpty) = some b →
      ∃ v, exec (.dmaReadError ch t) s = .next v ∧ v.dmaRunning ch = false ∧
        v.flag (Reg.DMA_CH_STATUS_ERROR ch) = true ∧ (v.dmaCh ch).flight = [] ∧ (v.dmaCh ch).committed = false ∧
        (∀ i, (v.dmaCh ch).done ≤ i → i < dLen d → v.definedByte (dDst d + i) = false) ∧
        (idle → (v.dmaCh ch).done = b.off + b.good ∧ v.dram = s.dram)) ∧
     (s.dmaRunning ch = true → (∀ b ∈ c.flight, b.bad = []) → s.backBad ch ≠ [] →
      ∃ v, exec (.dmaReadError ch t) s = .next v ∧ v.dmaRunning ch = false ∧
        v.flag (Reg.DMA_CH_STATUS_ERROR ch) = true ∧ (v.dmaCh ch).done = c.done ∧ (idle → v.dram = s.dram))) ∧
    (s.dmaComplete? ch = true →
      let w := (u.modDma ch (fun c => { c with committed := false })).dmaMarks ch false
      ∃ v, exec (.dmaTransferComplete ch t) s = .next v ∧
        v.get (Reg.DMA_CH_PASSES ch) = low (Reg.DMA_CH_PASSES ch).w (s.get (Reg.DMA_CH_PASSES ch) + 1) ∧
        v.dram = s.dram ∧
        (c.committed = true → w.dmaCheck ch 1 (s.dmaShadow ch) = stOk →
          (v.dmaCh ch).committed = false ∧ (v.dmaCh ch).done = 0 ∧ v.dmaRunning ch = true ∧
          v.dmaActive ch = (List.range 8).map (fun i => low (Reg.DMA_CH_ACTIVE ch i).w ((s.dmaShadow ch).getD i 0))) ∧
        (c.committed = true → w.dmaCheck ch 1 (s.dmaShadow ch) ≠ stOk →
          (v.dmaCh ch).committed = false ∧ v.dmaRunning ch = false ∧ (v.dmaCh ch).done = c.done) ∧
        (c.committed = false → bit (dCtrl d) 3 = true → v.dmaRunning ch = true ∧ (v.dmaCh ch).next = 0 ∧
          (v.dmaCh ch).done = 0) ∧
        (c.committed = false → bit (dCtrl d) 3 = false → v.dmaRunning ch = false ∧ (v.dmaCh ch).done = c.done) ∧
        (let half := bit (dCtrl d) 0 && !c.halfRaised
         let h := if half then u.raise evDmaHalf 0 (leBytes 8 ch ++ leBytes 8 c.done) else u
         v.host = (if bit (dCtrl d) 1 then
           h.raise evDmaDone 0 (leBytes 2 ch ++ leBytes 2 stOk ++ [0, 0, 0, 0] ++ leBytes 8 c.done) else h).host))

/-- EVT_PACK_DONE (R333, R337, R340), MEM_FILL_DONE (R503), TABLE_COPY_DONE (R179, R180), PLOAD_COPY_DONE (R160) and
CHECK_PASS_DONE (R167, R169). -/
def Obligations.CopyAndPackEventsComplete : Prop :=
  ∀ (t : Nat) (s : State), Live s → Memory.wf s = true → s.mem.filling = [] → s.mem.held = [] →
    let u := s.elapse t
    (∀ (k : Fin 8) j, s.pack.slots.length = 8 → s.packSlot k = some j → s.get (Reg.PACK_SLOT_STATE k) = 1 →
      s.critical = false →
      let r := if j.unpack then State.unpackRun (j.srcLen + 3) u j else State.packRun (j.srcLen + 3) u j
      ∃ v, exec (.evtPackDone k t) s = .next v ∧
        v.packSlot k = (if r.status = stNoSpace then some r.job else none) ∧
        v.get (Reg.PACK_SLOT_STATE k) = (if r.status = stNoSpace then 2 else 0) ∧
        v.get (Reg.PACK_SLOT_CONSUMED k) = low 32 r.job.consumed ∧
        v.get (Reg.PACK_SLOT_PRODUCED k) = low 32 r.job.produced ∧
        (r.status ≠ stNoSpace → v.get (Reg.PACK_SLOT_LAST_STATUS k) = low 16 r.status) ∧ v.dram = r.s.dram) ∧
    (∀ f l, s.mem.fills = f :: l →
      (∃ v, exec (.memFillDone t) s = .next v ∧ v.mem.fills = l) ∧
      (f.addr % 64 = 0 → f.len % 64 = 0 → f.done % 64 = 0 → f.done ≤ f.len → (∀ m, m < 32 → (s.dmaCh m).flight = []) →
        (∀ w ∈ s.mem.writes, w.rmw = false) →
        ∃ v, exec (.memFillDone t) s = .next v ∧
          (∀ i < f.len, f.done ≤ i → v.byteAt (f.addr + i) = (leBytes 4 f.pattern).getD (i % 4) 0) ∧
          (∀ a, (a < f.addr / regionBytes * regionBytes ∨ (f.addr + f.len + regionBytes) / regionBytes * regionBytes ≤ a) →
            Sparse.get 0 v.dram a = Sparse.get 0 s.dram a) ∧
          ((∀ i < f.len, s.validRegion ((f.addr + i) / regionBytes) = true) →
            ∀ a, (a < f.addr + f.done ∨ f.addr + f.len ≤ a) → Sparse.get 0 v.dram a = Sparse.get 0 s.dram a) ∧
          v.host = (u.cmdDone 0x0100 f.tag stOk f.iface 0).host)) ∧
    (∀ (p : Fin 4) (k : Fin 6) c, s.tone.copies.find? (fun c => c.plane == (p : Nat) && c.table == (k : Nat)) = some c →
      (s.badBlocks c.src c.len = [] ∨ ((k : Nat) = 2 ∧ c.src = 0) → s.prints p = true →
        ∃ v, exec (.tableCopyDone p k t) s = .next v ∧ v.tabBit (Reg.HTONE_PL_TABLES_COPYING p) k = false ∧
          v.tabBit (Reg.HTONE_PL_TABLES_PENDING p) k = true ∧ v.bankOf p k = s.bankOf p k ∧
          v.tone.copies = s.tone.copies.erase c ∧ v.dram = s.dram ∧
          (k ≠ 3 → k ≠ 4 → (k = 2 → c.src ≠ 0) →
            v.readTab (!s.bankOf p k) (tableBytes p k c.base c.size).1 (spliceAt (s.readMem c.src c.len) 0 c.head).length =
              spliceAt (s.readMem c.src c.len) 0 c.head) ∧
          (k = 2 → c.src = 0 → ∀ a, tabBase + p * 0x40000 ≤ a → a < tabBase + p * 0x40000 + 196608 →
            v.tabByte (!s.bankOf p k) a = tabReset a)) ∧
      (s.badBlocks c.src c.len ≠ [] → ((k : Nat) = 2 → c.src ≠ 0) →
        ∃ v, exec (.tableCopyDone p k t) s = .next v ∧ v.tabBit (Reg.HTONE_PL_TABLES_COPYING p) k = false ∧
          v.tabBit (Reg.HTONE_PL_TABLES_PENDING p) k = s.tabBit (Reg.HTONE_PL_TABLES_PENDING p) k ∧
          v.bankOf p k = s.bankOf p k ∧ v.tab0 = s.tab0 ∧ v.tab1 = s.tab1 ∧ v.dram = s.dram)) ∧
    (∀ (p : Fin 4) x, s.line.planes.length = 4 → (s.plane p).pload = some x →
      let body := s.readMem (x.src + 1024) (x.len - 1024)
      (s.badBlocks (x.src + 1024) (x.len - 1024) = [] → (x.len - 1024) % 64 = 0 →
        ∃ v, exec (.ploadCopyDone p t) s = .next v ∧ (v.plane p).pload = none ∧
          v.flag (Reg.COMPOSE_PL_PROT_STATUS_LOADED p) = true ∧
          v.get (Reg.COMPOSE_PL_PROT_STATUS_COPYING p) = 0 ∧
          v.get (Reg.COMPOSE_PL_PROT_STATUS_RECTS p) = low (Reg.COMPOSE_PL_PROT_STATUS_RECTS p).w x.rects ∧
          v.get (Reg.COMPOSE_PL_PROT_CRC p) = low 32 (crc32c (x.head ++ body)) ∧
          v.get (Reg.COMPOSE_PL_PROT_LEN p) = low (Reg.COMPOSE_PL_PROT_LEN p).w x.len ∧
          v.readTab false (protIndex p) x.head.length = x.head ∧
          v.readMem (protArea p) body.length = body) ∧
      (s.badBlocks (x.src + 1024) (x.len - 1024) ≠ [] →
        ∃ v, exec (.ploadCopyDone p t) s = .next v ∧ (v.plane p).pload = none ∧
          v.get (Reg.COMPOSE_PL_PROT_STATUS_LOADED p) = 0 ∧ v.get (Reg.COMPOSE_PL_PROT_STATUS_COPYING p) = 0 ∧
          v.get (Reg.COMPOSE_PL_PROT_LEN p) = 0)) ∧
    (∀ (p : Fin 4) rep, s.line.planes.length = 4 → (s.plane p).pass = some rep →
      let n := s.get (Reg.COMPOSE_PL_PROT_LEN p) - 1024
      let crc := crc32c (s.readTab false (protIndex p) 1024 ++ s.readMem (protArea p) n)
      let bad := s.badBlocks (protArea p) n
      ∃ v, exec (.checkPassDone p t) s = .next v ∧ (v.plane p).pass = none ∧
        v.get (Reg.COMPOSE_PL_PROT_STATUS_CHECKING p) = 0 ∧
        v.get (Reg.COMPOSE_PL_PROT_PASSES p) = low (Reg.COMPOSE_PL_PROT_PASSES p).w
          (s.get (Reg.COMPOSE_PL_PROT_PASSES p) + 1) ∧
        v.get (Reg.COMPOSE_PL_PROT_LAST p) = (if bad = [] then low 32 crc else 0) ∧
        (bad = [] → crc = s.get (Reg.COMPOSE_PL_PROT_CRC p) → v.host = s.host ∧ v.dram = s.dram ∧
          v.get (Reg.COMPOSE_PL_PROT_STATUS_FAULT p) = s.get (Reg.COMPOSE_PL_PROT_STATUS_FAULT p)) ∧
        ((bad ≠ [] ∨ crc ≠ s.get (Reg.COMPOSE_PL_PROT_CRC p)) → v.flag (Reg.COMPOSE_PL_PROT_STATUS_FAULT p) = true))

/-- MEM_WRITE_ACK (R263, R313), ZERO_FILL_DONE (R269), CORRECTED_READ and SCRUB_REWRITE (R275), UNCORRECTABLE_READ (R261,
R272, R276) and SCRUB_BLOCK (R274). -/
def Obligations.MemoryEventsComplete : Prop :=
  ∀ (t : Nat) (s : State), Live s → Memory.wf s = true →
    let u := s.elapse t
    (∀ (ch : Fin 8), let f := fun (w : WReq) => w.ch == (ch : Nat)
      exec (.memWriteAck ch t) s = .next (if s.mem.writes.any f then u.commitOldest ch else u.fillBlock ch) ∧
      (s.mem.writes.find? f = none → s.mem.fills = [] → exec (.memWriteAck ch t) s = .next u) ∧
      (s.mem.filling = [] → (∀ m, m < 32 → (s.dmaCh m).flight = []) → (∀ w ∈ s.mem.writes, w.rmw = false) →
        (∀ w, s.mem.writes.find? f = some w →
          ∃ v, exec (.memWriteAck ch t) s = .next v ∧ v.mem.writes = s.mem.writes.erase w ∧ v.dram = s.dram ∧
            v.get (Reg.MEMCTL_CH_STATUS_WRITES ch) = min 64 (((s.mem.writes.erase w).filter f).length) ∧
            (((s.mem.writes.erase w).filter f).length ≤ 16 → v.get (Reg.MEMCTL_CH_STATUS_DRAIN ch) = 0)) ∧
        (∀ m l, let a := m.addr + m.done
          s.mem.writes.find? f = none → s.mem.fills = m :: l → m.done < m.len → a % 64 = 0 → channelOf a = ch →
          s.validRegion (a / regionBytes) = true →
          ∃ v, exec (.memWriteAck ch t) s = .next v ∧ v.mem.fills = { m with done := m.done + 64 } :: l ∧
            v.mem.writes = s.mem.writes ∧ v.host = s.host ∧
            (∀ i < 64, v.byteAt (a + i) = (leBytes 4 m.pattern).getD (i % 4) 0) ∧
            (∀ x, (x < a ∨ a + 64 ≤ x) → Sparse.get 0 v.dram x = Sparse.get 0 s.dram x)))) ∧
    (∀ region, (region ∉ s.mem.filling → exec (.zeroFillDone region t) s = .next u) ∧
      (region ∈ s.mem.filling → s.initRegion region = false →
        (∀ h ∈ s.mem.held, h.addr % 64 + h.data.length ≤ 64) →
        ∃ v, exec (.zeroFillDone region t) s = .next v ∧ v.validRegion region = true ∧ region ∉ v.mem.filling ∧
          v.mem.held = s.mem.held.filter (fun h => h.addr / regionBytes != region) ∧
          v.get Reg.MEMCTL_FILLS_COUNT = low 32 (s.get Reg.MEMCTL_FILLS_COUNT + 1) ∧
          (∀ a, a / regionBytes = region → v.byteAt a =
            s.mem.held.foldl (fun b h => if h.addr ≤ a ∧ a < h.addr + h.data.length then h.data.getD (a - h.addr) 0 else b)
              0) ∧
          (∀ a, a / regionBytes ≠ region → Sparse.get 0 v.dram a = Sparse.get 0 s.dram a))) ∧
    (∀ addr, let b := blockOf addr
      (b < dramEnd → s.reaches b = true →
        (∃ v, exec (.correctedRead addr t) s = .next v ∧ v.dram = s.dram ∧ v.host = s.host ∧ b ∈ v.mem.ce ∧
          b ∈ v.mem.rewrites ∧ v.get Reg.ECC_CE_COUNT = min (s.get Reg.ECC_CE_COUNT + 1) (2 ^ 32 - 1) ∧
          v.get Reg.ECC_CE_LAST_LO = low 32 b ∧ v.get Reg.ECC_CE_LAST_HI = low 8 (b / 2 ^ 32)) ∧
        (∀ req unit line,
          let w := { u with mem := { u.mem with
            ue := if b ∈ u.mem.ue then u.mem.ue else u.mem.ue ++ [b], ce := u.mem.ce.filter (· != b) } }
          let w := if (u.now, req, b) ∈ s.mem.met then w
            else if s.initRegion (b / regionBytes) then w.incSat Reg.ECC_INIT_ERRORS 1
            else (w.incSat Reg.ECC_UE_COUNT 1).logUe b req (if req = 0 then unit else 0)
              (if req = 0 then line else 0xFFFFFFFF) (if req = 0 then s.lineWeb unit line else 0)
          exec (.uncorrectableRead addr req unit line t) s = .next ({ w with mem := { w.mem with
            met := (u.now, req, b) :: w.mem.met.filter (fun x => decide (x.1 = u.now)) } }.ueResponse b req unit)) ∧
        (∀ req unit line, 5 ≤ req → (u.now, req, b) ∉ s.mem.met →
          ∃ v, exec (.uncorrectableRead addr req unit line t) s = .next v ∧ v.dram = s.dram ∧ b ∈ v.mem.ue ∧
            b ∉ v.mem.ce ∧
            (let init := s.initRegion (b / regionBytes)
             v.get Reg.ECC_UE_COUNT = (if init then s.get Reg.ECC_UE_COUNT
               else min (s.get Reg.ECC_UE_COUNT + 1) (2 ^ 32 - 1)) ∧
             v.get Reg.ECC_INIT_ERRORS = (if init then min (s.get Reg.ECC_INIT_ERRORS + 1) (2 ^ 32 - 1)
               else s.get Reg.ECC_INIT_ERRORS)))) ∧
      ((dramEnd ≤ b ∨ s.reaches b = false) → exec (.correctedRead addr t) s = .next u ∧
        ∀ req plane line, exec (.uncorrectableRead addr req plane line t) s = .next u) ∧
      (b ∈ s.mem.rewrites → exec (.scrubRewrite addr t) s = .next { u with mem := { s.mem with
        ce := s.mem.ce.filter (· != b), rewrites := s.mem.rewrites.filter (· != b) } })) ∧
    (∀ (corrected bad : Bool) a, s.flag Reg.MEMCTL_SCRUB_CTRL_EN = true → s.flag Reg.MEMCTL_MODE_INIT = false →
      s.critical = false → s.scrubFrom s.mem.scrubNext = some a →
      ∃ v, exec (.scrubBlock corrected bad t) s = .next v ∧ v.dram = s.dram ∧
        v.get Reg.MEMCTL_SCRUB_POS_REGION = low (Reg.MEMCTL_SCRUB_POS_REGION).w (a / regionBytes) ∧
        v.mem.scrubNext = (s.scrubFrom (a + 64)).getD 0 ∧
        (s.scrubFrom (a + 64) = none → v.mem.lapStart = u.now ∧ v.mem.lapCorrected = 0) ∧
        (let isBad := bad || decide (a ∈ s.mem.ue)
         let isCorr := !isBad && (corrected || decide (a ∈ s.mem.ce))
         (isBad = true → a ∈ v.mem.ue) ∧
         v.get Reg.ECC_CE_COUNT = (if isCorr then min (s.get Reg.ECC_CE_COUNT + 1) (2 ^ 32 - 1)
           else s.get Reg.ECC_CE_COUNT) ∧
         (isCorr = true → a ∉ v.mem.ce ∧ a ∉ v.mem.rewrites) ∧
         (isBad = false → isCorr = false → s.scrubFrom (a + 64) ≠ none → v.host = s.host)))

/-- DRAM_TRAINING (R265), DRAM_TAP_STEP (R267), DRAM_RETRAIN_DONE (R266, R268, R449) and EVT_READY (R265, R269, R271,
R469). -/
def Obligations.TrainingAndReadyComplete : Prop :=
  ∀ (t : Nat) (s : State), Live s → s.mem.chans.length = 8 →
    let u := s.elapse t
    (∀ results, s.untrained = true →
      ((∀ c < 8, startResult (s.chan c) (results.getD c []) ≠ none) →
        ∃ v, exec (.dramTraining results t) s = .next v ∧ v.flag Reg.MEMCTL_MODE_TRAINED = true ∧
          v.flag Reg.MEMCTL_MODE_BOOT_FAIL = false ∧ ((∀ c < 8, (s.chan c).running = false) → v.host = s.host) ∧
          ∀ c < 8, ∀ m, startResult (s.chan c) (results.getD c []) = some m →
            (v.chan c).taps = m.taps ∧ (v.chan c).centres = m.centres ∧ (v.chan c).running = false) ∧
      ((∃ c < 8, startResult (s.chan c) (results.getD c []) = none) →
        ∃ v, exec (.dramTraining results t) s = .next v ∧ v.flag Reg.MEMCTL_MODE_TRAINED = false ∧
          v.flag Reg.MEMCTL_MODE_BOOT_FAIL = true)) ∧
    (∀ (ch : Fin 8), let x := s.chan ch
      let late := match x.stepAt with | some a => decide (a + msSteps ≤ u.now) | none => true
      ((x.running = false ∨ late = false) → exec (.dramTapStep ch t) s = .next u) ∧
      (x.running = true → late = true → x.taps.length = x.targets.length →
        ∃ v, exec (.dramTapStep ch t) s = .next v ∧ (v.chan ch).taps = stepTaps x.taps x.targets ∧
          (v.chan ch).targets = x.targets ∧ (v.chan ch).stepAt = some u.now ∧
          (v.chan ch).running = (stepTaps x.taps x.targets != x.targets) ∧
          v.host = (if stepTaps x.taps x.targets = x.targets then (u.raise evCalDone 0 (leBytes 1 1)).host else s.host))) ∧
    (∀ results, s.runMeasures 0 = true →
      ∃ v, exec (.dramRetrainDone results t) s = .next v ∧
        (∀ c < 8, ∀ m, results[c]? = some m →
          trainOk false (s.chan c) (s.get (Reg.MEMCTL_CH_TRAIN_VREF_DQ c)) m = true → (v.chan c).taps = m.taps ∧
            v.get (Reg.MEMCTL_CH_TRAIN_VREF_DQ c) = low (Reg.MEMCTL_CH_TRAIN_VREF_DQ c).w m.vrefDq) ∧
        (∀ c < 8, (results[c]? = none ∨ ∃ m, results[c]? = some m ∧
            trainOk false (s.chan c) (s.get (Reg.MEMCTL_CH_TRAIN_VREF_DQ c)) m = false) →
          v.chan c = s.chan c ∧ v.flag (Reg.MEMCTL_CH_TRAIN_REJECTED c) = true) ∧
        v.runMeasures 0 = false ∧ v.dram = s.dram) ∧
    (s.flag Reg.CMD_STATUS_READY = false →
      (s.flag Reg.MEMCTL_MODE_TRAINED = true ∨ s.power.startup = false) →
      ∃ v, exec (.evtReady t) s = .next v ∧ v.flag Reg.CMD_STATUS_READY = true ∧ v.power.startup = false ∧
        (s.power.startup = true → v.mem.valid = [] ∧ v.flag Reg.MEMCTL_MODE_INIT = false ∧ v.dram = []) ∧
        (s.power.startup = false → v.mem = s.mem ∧ v.dram = s.dram) ∧
        v.power.pmQueue = s.power.pmQueue ++ (if s.pmbusOn then [.voutMode] else []))

/-! ### Events of the lanes, of flits and of transactions -/

/-- The line and what undoes it (R348), ALIGNMENT_MARKER (R350, R351, R357, R358), MARKER_WINDOW_MISS (R353), BIT_LOCK (R357), LANE_ACTIVITY_LOST,
WINDUP_UNANSWERED (R359), LANE_CLOCK_SETTLED (R349, R351, R360), WIND_UP_BURST_RX (R365), IDLE_ENTRY (R388) and IDLE_EXIT (R364). -/
def Obligations.LaneEventsComplete : Prop :=
  (∀ last run seed marker (payload pad : List Bool), marker < 2 ^ 64 → bits marker 0 24 = markerSync →
    bits marker 32 31 = seed → payload.length = blockBits →
    readBlock last run (stuff last run (lsbBits 64 marker ++ scramble seed payload) ++ pad) = some (marker, payload)) ∧
  ∀ (t : Nat) (s : State), Running s → s.lanes.length = 16 → s.ports.length = 4 →
    let u := s.elapse t
    let receives := fun (p : Nat) => (s.port p).phase ∈ [.training, .up, .waking]
    let miss := fun (l : Fin 16) (v : State) =>
      v.get (Reg.ZPHY_LANE_MARKER_ERR_COUNT l) =
        min (s.get (Reg.ZPHY_LANE_MARKER_ERR_COUNT l) + 1) (2 ^ (Reg.ZPHY_LANE_MARKER_ERR_COUNT l).w - 1) ∧
      ((s.lane l).missed < 3 → (v.lane l).good = 0 ∧ (v.lane l).missed = (s.lane l).missed + 1 ∧ v.host = s.host) ∧
      (3 ≤ (s.lane l).missed → v.flag (Reg.ZPHY_LANE_STATUS_MARKER_LOCK l) = false ∧
        ((s.port (l / 4)).phase = .up → (v.port (l / 4)).phase = .training ∧
          v.get (Reg.ZPHY_PORT_STATUS_LAST_CAUSE (l / 4)) = 1 ∧ v.active (l / 4) = false))
    (∀ (l : Fin 16) marker pad stuffs errs skew,
      ((¬receives (l / 4) ∨ (l : Nat) ∉ s.lanesOf (l / 4)) →
        exec (.alignmentMarker l marker pad stuffs errs skew t) s = .next u) ∧
      ((l : Nat) ∈ s.lanesOf (l / 4) → (s.port (l / 4)).phase = .training →
        s.flag (Reg.ZPHY_LANE_STATUS_POL_INV l) = false → marker < 2 ^ 64 → bits marker 0 24 ≠ markerAnti →
        (markerValid marker = true → pad ≤ padLimit → bits marker 24 2 = l % 4 →
          bits marker 28 2 = s.get (Reg.ZPHY_PORT_STATUS_WIDTH_USED (l / 4)) → skew ≤ 400 →
          let lock := s.flag (Reg.ZPHY_LANE_STATUS_MARKER_LOCK l) || decide (3 ≤ (s.lane l).good + 1)
          let seen1 := if bit marker 26 then (s.lane l).seen1 + 1 else 0
          ∃ v, exec (.alignmentMarker l marker pad stuffs errs skew t) s = .next v ∧
            (v.lane l).good = (s.lane l).good + 1 ∧ (v.lane l).missed = 0 ∧ (v.lane l).seen1 = seen1 ∧
            (v.lane l).scr = some (bits marker 32 31) ∧ v.flag (Reg.ZPHY_LANE_STATUS_MARKER_LOCK l) = lock ∧
            v.get (Reg.ZPHY_LANE_STATUS_SKEW l) = skew ∧
            (s.lanesOf (l / 4) = [(l : Nat)] → (v.port (l / 4)).seenDue = lock ∧
              (v.port (l / 4)).phase =
                if lock = true ∧ (s.port (l / 4)).seenTx = true ∧ (s.port (l / 4)).zeros = 0 ∧ 2 ≤ seen1
                then .up else .training)) ∧
        (markerValid marker = false ∨ padLimit < pad →
          ∃ v, exec (.alignmentMarker l marker pad stuffs errs skew t) s = .next v ∧ miss l v))) ∧
    (∀ (l : Fin 16),
      ((l : Nat) ∈ s.lanesOf (l / 4) → receives (l / 4) →
        (∃ v, exec (.markerWindowMiss l t) s = .next v ∧ miss l v) ∧
        exec (.bitLock l t) s = .next
          ((u.setB (Reg.ZPHY_LANE_STATUS_BIT_LOCK l) true).setB (Reg.ZPHY_LANE_STATUS_ACTIVITY l) true)) ∧
      ((l : Nat) ∈ s.lanesOf (l / 4) → (s.port (l / 4)).phase = .up →
        s.flag (Reg.ZPHY_LANE_STATUS_IDLE_RX l) = false →
        ∃ v, exec (.laneActivityLost l t) s = .next v ∧ v.flag (Reg.ZPHY_LANE_STATUS_ACTIVITY l) = false ∧
          v.flag (Reg.ZPHY_LANE_STATUS_BIT_LOCK l) = false ∧ (v.port (l / 4)).phase = .training ∧
          v.get (Reg.ZPHY_PORT_STATUS_LAST_CAUSE (l / 4)) = 5) ∧
      (((l : Nat) ∉ s.lanesOf (l / 4) ∨ (s.port (l / 4)).phase ≠ .up ∨ s.flag (Reg.ZPHY_LANE_STATUS_IDLE_RX l) = true) →
        exec (.laneActivityLost l t) s = .next
          ((u.setB (Reg.ZPHY_LANE_STATUS_ACTIVITY l) false).setB (Reg.ZPHY_LANE_STATUS_BIT_LOCK l) false))) ∧
    (∀ (p : Fin 4),
      (((s.port p).phase ≠ .settling ∨ (s.port p).zeros ≠ 0) → exec (.laneClockSettled p t) s = .next u) ∧
      ((s.port p).phase = .settling → (s.port p).zeros = 0 →
        let w := s.get (Reg.ZPHY_PORT_STATUS_WIDTH_USED p)
        let r := s.get (Reg.ZPHY_PORT_STATUS_RATE_USED p)
        ∃ v, exec (.laneClockSettled p t) s = .next v ∧ (v.port p).phase = .training ∧ v.regs = s.regs ∧
          v.host = s.host ∧ (v.port p).txWidth = w ∧ (v.port p).txRate = r ∧ (v.port p).txBurst = true ∧
          ∀ l ∈ s.lanesOf p, (v.lane l).txScr = 0x1D0C5A71 ^^^ (l % 4) ∧
            (v.lane l).txMarker = markWord (l % 4) false false w r (0x1D0C5A71 ^^^ (l % 4))) ∧
      (∀ b, (s.port p).burstAt = some b → b + 2 * msSteps ≤ u.now →
        ∃ v, exec (.windupUnanswered p t) s = .next v ∧ (v.port p).phase = .training ∧ (v.port p).burstAt = none ∧
          ((s.port p).isUp = true → v.get (Reg.ZPHY_PORT_STATUS_LAST_CAUSE p) = 6)) ∧
      (∀ powered, let on := powered && decide (s.get Reg.LADDER_STATE < 2)
        (on = false → p.val ≠ s.wakePort → exec (.windUpBurstRx p powered t) s = .next u) ∧
        ((on = true ∨ p.val = s.wakePort) → (s.port p).phase = .idle →
          ∃ v, exec (.windUpBurstRx p powered t) s = .next v ∧ (v.port p).phase = .waking ∧
            (v.port p).woken = !on ∧ (v.port p).burstAt = none ∧ (v.port p).txBurst = true ∧ v.host = s.host ∧
            ∀ l ∈ s.lanesOf p, v.flag (Reg.ZPHY_LANE_STATUS_MARKER_LOCK l) = on) ∧
        (p.val = s.wakePort → (s.port p).phase = .waking → (s.port p).woken = true →
          exec (.windUpBurstRx p powered t) s = .next (u.modPort p (fun q => { q with burstAt := none }))) ∧
        (on = true → (s.port p).phase = .waking → (s.port p).woken = false →
          ∃ v, exec (.windUpBurstRx p powered t) s = .next v ∧ (v.port p).phase = .waking ∧
            (v.port p).burstAt = none ∧ v.host = s.host ∧ ∀ l ∈ s.lanesOf p,
            v.flag (Reg.ZPHY_LANE_STATUS_MARKER_LOCK l) = true ∧ (v.lane l).seen1 = (s.lane l).seen1 + 1)) ∧
      ((s.port p).phase = .idle → ∃ v, exec (.idleExit p t) s = .next v ∧ (v.port p).phase = .waking ∧
        (v.port p).burstAt = some u.now ∧ v.host = s.host) ∧
      ((s.port p).phase ≠ .idle → exec (.idleExit p t) s = .next u) ∧
      (∀ o, (s.port p).idleOrder = some o → (s.port p).phase = .up →
        ((s.port p).replay = [] ∨ o + 10 * usSteps ≤ u.now) →
        ∃ v, exec (.idleEntry p t) s = .next v ∧ (v.port p).phase = .idle ∧ (v.port p).idleOrder = none ∧
          v.regs = (u.setB (Reg.ZPHY_PORT_STATUS_IDLE p) true).regs ∧ v.host = s.host ∧
          (v.port p).replay = (s.port p).replay ∧ ∀ k < widthOf (s.port p).txWidth, bit (v.lane (4 * p + k)).txMarker 27 = true))

/-- FLIT_RECEIVED (R370, R371, R374), INIT_RECEIVED (R369), NAK_RECEIVED and REPLAY_TIMEOUT (R372, R375), NAK_REPEAT
(R371), INIT_TIMEOUT (R375) and FLIT_TRANSMIT (R347 to R349, R366, R367, R373, R383). -/
def Obligations.FlitEventsComplete : Prop :=
  ∀ (p : Fin 4) (t : Nat) (s : State), Running s → s.ports.length = 4 → s.lanes.length = 16 →
    let u := s.elapse t
    let q := s.port p
    (s.flitHere p = false → (∀ f, exec (.flitReceived p f t) s = .next u) ∧
      (∀ b, exec (.initReceived p b t) s = .next u) ∧ ∀ a, exec (.nakReceived p a t) s = .next u) ∧
    (s.flits p = false → (q.sends = false → exec (.flitTransmit p t) s = .next u) ∧
      (let n := if q.seenTx then 64 else min 64 (q.blockLen - q.txBlock.length)
       q.sends = true → q.phase ≠ .training → q.txBlock.length + n < q.blockLen →
        exec (.flitTransmit p t) s = .next
          (u.modPort p (fun q => { q with txBlock := q.txBlock ++ u.fillBytes n })).used)) ∧
    (s.flits p = true →
    let covered := fun (a : Nat) => (a + 1 + 1024 - q.acked % 1024) % 1024
    (∀ f, s.flitHere p = true → crc32c (f.take 60) ≠ u32 f 60 →
      exec (.flitReceived p f t) s = .next
        (let v := (u.modPort p (fun q => { q with rxFlits := q.rxFlits + 1 })).incSat
           (Reg.ZLINK_PORT_CRC_ERRORS_COUNT p) 1
         if s.active p = true ∧ q.nakOut = false then
           v.modPort p (fun q => { q with nakOut := true, nakOwed := true, nakAt := u.now })
         else v)) ∧
    (∀ f, s.flitHere p = true → crc32c (f.take 60) = u32 f 60 → bits (u32 f 0) 20 3 = 1 → s.active p = true →
      let d := covered (bits (u32 f 0) 10 10)
      let part := q.rxPart ++ (f.drop 4).take 56
      let c := classOf (u8 part 0)
      let behind := (q.rxNext + 1024 - bits (u32 f 0) 0 10) % 1024
      d ≤ q.replay.length →
      (bits (u32 f 0) 0 10 = q.rxNext % 1024 → u16 part 4 ≤ 4112 → c < 3 →
        (q.cred c).rx + 1 - (q.cred c).rxFreed ≤ ownCredits →
        ∃ v, exec (.flitReceived p f t) s = .next v ∧ (v.port p).rxNext = q.rxNext + 1 ∧ (v.port p).nakOut = false ∧
          (v.port p).rxFlits = q.rxFlits + 1 ∧
          (v.port p).acked = q.acked + d ∧ (v.port p).replay = q.replay.drop d ∧
          v.get (Reg.ZLINK_PORT_RX_FLITS_COUNT p) = low 32 (s.get (Reg.ZLINK_PORT_RX_FLITS_COUNT p) + 1) ∧
          (part.length < 8 + u16 part 4 → (v.port p).rxPart = part ∧ (v.port p).rxDone = q.rxDone) ∧
          (8 + u16 part 4 ≤ part.length → (v.port p).rxPart = [] ∧ (v.port p).rxDone =
            if strayOn p (parseTrans part) then q.rxDone else q.rxDone ++ [parseTrans part]) ∧
          v.host = s.host ∧ v.dram = s.dram) ∧
      (1 ≤ behind → behind ≤ 256 →
        ∃ v, exec (.flitReceived p f t) s = .next v ∧ (v.port p).rxNext = q.rxNext ∧ (v.port p).acked = q.acked + d ∧
          (v.port p).rxDone = q.rxDone ∧ (v.port p).nakOwed = q.nakOwed)) ∧
    (∀ f, crc32c (f.take 60) = u32 f 60 → bits (u32 f 0) 20 3 = 3 →
      exec (.flitReceived p f t) s = exec (.initReceived p ((f.drop 4).take 56) t) s) ∧
    (∀ b, s.flitHere p = true → let ok := u8 b 0 = 1 ∧ ∀ i ∈ [4, 5, 6], 74 ≤ u8 b i ∧ u8 b i ≤ 127
      (ok → p ≠ 0 → s.active p = false →
        ∃ v, exec (.initReceived p b t) s = .next v ∧ v.get (Reg.ZLINK_PORT_STATUS_PEER_ID p) = u8 b 1 ∧
          v.get (Reg.ZLINK_PORT_STATUS_PEER_FW p) = low 8 (u16 b 8) ∧ (v.port p).initRx = true ∧ (v.port p).initOwed = true ∧
          (v.port p).credP = { Credit.init with limit := u8 b 4 } ∧
          (v.port p).credN = { Credit.init with limit := u8 b 5 } ∧
          (v.port p).credC = { Credit.init with limit := u8 b 6 } ∧ v.host = s.host) ∧
      (ok → p = 0 → s.active 0 = false → u8 s.otp.active 1 = 0xFF →
        ∃ v, exec (.initReceived p b t) s = .next v ∧ v.get Reg.HIER_PARENT_ID = u8 b 1 ∧
          v.get Reg.HIER_ID = (if bit (u8 b 2) 0 then 0
            else if u8 b 1 ≤ 62 ∧ 1 ≤ u8 b 3 ∧ u8 b 3 ≤ 3 ∧ 3 * u8 b 1 + u8 b 3 ≤ 62 then 3 * u8 b 1 + u8 b 3 else 0xFF) ∧
          (v.port 0).initRx = true) ∧
      (ok → p = 0 → u8 s.otp.active 1 ≠ 0xFF → ∃ v, exec (.initReceived p b t) s = .next v ∧
        v.get Reg.HIER_ID = s.get Reg.HIER_ID) ∧
      (¬ok → ∃ v, exec (.initReceived p b t) s = .next v ∧ v.get (Reg.ZLINK_PORT_STATUS_LL_CAUSE p) = 2 ∧
        (v.port p).phase = .training ∧ v.get (Reg.ZPHY_PORT_STATUS_LAST_CAUSE p) = 3)) ∧
    (∀ a, s.flitHere p = true → s.active p = true → covered a ≤ q.replay.length → q.replayAt = none →
      let again := (if covered a = 0 then q.sameReplays else 0) + 1
      (covered a = q.replay.length → ∃ v, exec (.nakReceived p a t) s = .next v ∧ (v.port p).replay = [] ∧
        (v.port p).replayAt = none ∧ v.host = s.host) ∧
      (covered a < q.replay.length → again < s.replayLimit p →
        ∃ v, exec (.nakReceived p a t) s = .next v ∧ (v.port p).replay = q.replay.drop (covered a) ∧
          (v.port p).replayAt = some 0 ∧ (v.port p).replayAck = some a ∧ (v.port p).sameReplays = again ∧
          v.get (Reg.ZLINK_PORT_REPLAYS_COUNT p) = min (s.get (Reg.ZLINK_PORT_REPLAYS_COUNT p) + 1) (2 ^ 32 - 1) ∧
          v.host = s.host) ∧
      (covered a < q.replay.length → s.replayLimit p ≤ again →
        ∃ v, exec (.nakReceived p a t) s = .next v ∧ v.get (Reg.ZLINK_PORT_STATUS_LL_CAUSE p) = 3 ∧
          (v.port p).phase = .training)) ∧
    (u.now < q.ackAt + s.replayTime p → exec (.replayTimeout p t) s = .next u) ∧
    (s.active p = true → q.replay ≠ [] → q.ackAt + s.replayTime p ≤ u.now →
      (q.sameReplays + 1 < s.replayLimit p → ∃ v, exec (.replayTimeout p t) s = .next v ∧
        (v.port p).replay = q.replay ∧ (v.port p).replayAt = some 0 ∧ (v.port p).replayAck = some ((q.acked + 1023) % 1024) ∧
        (v.port p).sameReplays = q.sameReplays + 1 ∧
        v.get (Reg.ZLINK_PORT_TIMEOUTS_COUNT p) = min (s.get (Reg.ZLINK_PORT_TIMEOUTS_COUNT p) + 1) (2 ^ 32 - 1) ∧
        v.host = s.host) ∧
      (s.replayLimit p ≤ q.sameReplays + 1 → ∃ v, exec (.replayTimeout p t) s = .next v ∧
        v.get (Reg.ZLINK_PORT_STATUS_LL_CAUSE p) = 3 ∧ (v.port p).phase = .training)) ∧
    (q.nakOut = true → exec (.nakRepeat p t) s = .next
      (if q.nakAt + s.replayTime p ≤ u.now then u.modPort p (fun q => { q with nakOwed := true, nakAt := u.now }) else u)) ∧
    (s.get (Reg.ZLINK_PORT_STATUS_LL_STATE p) = 1 → q.upAt + msSteps ≤ u.now → ∃ v, exec (.initTimeout p t) s = .next v ∧
      v.get (Reg.ZLINK_PORT_STATUS_LL_CAUSE p) = 1 ∧ (v.port p).phase = .training ∧ v.active p = false) ∧
    (let hdr := fun (seq kind : Nat) => flitHdr seq (q.rxNext + 1023) kind q.turn ((q.cred q.turn).rxFreed)
     let pad := fun (b : List Byte) => b ++ List.replicate (56 - b.length) 0
     (s.active p = true → q.initOwed = true → ∃ v, exec (.flitTransmit p t) s = .next v ∧
        (v.port p).initOwed = false ∧ (v.port p).txFlit = mkFlit (flitHdr 0 0 3 3 0) (pad (s.initPayload p)) ∧
        v.host = s.host ∧
        (q.txBlock.length + 64 < q.blockLen → (v.port p).txBlock = q.txBlock ++ (v.port p).txFlit) ∧
        (q.blockLen ≤ q.txBlock.length + 64 → q.txBurst = false → ∀ k < widthOf q.txWidth, ∀ seen idle,
          let x := s.lane (4 * p + k)
          let y := v.lane (4 * p + k)
          x.txMarker = markWord k seen idle q.txWidth q.txRate x.txScr → 0 < x.txScr → x.txScr < 2 ^ 31 →
          readBlock x.txLast x.txRun y.txLine = some (x.txMarker,
            lanePayload (widthOf q.txWidth) k ((q.txBlock ++ (v.port p).txFlit).take q.blockLen)) ∧
          y.txScr = prbsAdv blockBits x.txScr ∧ y.txMarker = markWord k true false q.txWidth q.txRate y.txScr)) ∧
     (s.active p = false → q.initRx = true → ∃ v, exec (.flitTransmit p t) s = .next v ∧ v.active p = true ∧
        (v.port p).initOwed = false ∧ (v.port p).txFlit = mkFlit (flitHdr 0 0 3 3 0) (pad (s.initPayload p))) ∧
     (s.active p = true → q.initOwed = false → q.nakOwed = true → ∃ v, exec (.flitTransmit p t) s = .next v ∧
        (v.port p).nakOwed = false ∧ (v.port p).txFlit = mkFlit (hdr 0 2) (pad []) ∧ v.host = s.host) ∧
     (∀ i h, s.active p = true → q.initOwed = false → q.nakOwed = false → q.replayAt = some i → q.replay[i]? = some h →
        ∃ v, exec (.flitTransmit p t) s = .next v ∧ (v.port p).txFlit = mkFlit (hdr (q.acked + i) 1) (pad h.payload) ∧
          (v.port p).replay = q.replay ∧
          (v.port p).replayAt = (if i + 1 < q.replay.length then some (i + 1) else none) ∧ v.host = s.host) ∧
     (∀ h l, s.active p = true → q.initOwed = false → q.nakOwed = false → q.replayAt = none → q.replay.length < 256 →
        q.cur = h :: l → ∃ v, exec (.flitTransmit p t) s = .next v ∧
          (v.port p).txFlit = mkFlit (hdr q.sentSeq 1) (pad h.payload) ∧ (v.port p).cur = l ∧
          (v.port p).sentSeq = q.sentSeq + 1 ∧ (v.port p).replay = q.replay ++ [h] ∧ v.host = s.host)))

/-- CMD_TRANSACTION (R35, R36, R380), UPSTREAM_FORWARD (R46, R379, R395), MEMWR and MEMRD (R66, R76, R381), MEMCPL (R379),
BCAST (R399, R400), BEACON_SEND (R399) and EVT_BEACON_LOST (R431). -/
def Obligations.TransactionsComplete : Prop :=
  ∀ (t : Nat) (s : State), Running s → s.ports.length = 4 → Memory.wf s = true →
    let u := s.elapse t
    (∀ x, s.holds 0 x = true → transOk x = true →
      let w := u.consume 0 x
      (x.ttype = ttCmd → u8 x.body 4 = x.dest → s.awake = true → s.myId ≠ 0xFF →
        (packetOk x.body = false →
          ∃ v, exec (.cmdTransaction 0 x t) s = .next v ∧
            v.get Reg.CMD_ERR_COUNT_CRC = min (s.get Reg.CMD_ERR_COUNT_CRC + 1) (2 ^ (Reg.CMD_ERR_COUNT_CRC).w - 1) ∧
            v.host.outstanding = s.host.outstanding) ∧
        (∀ c, packetOk x.body = true →
          let k := parsePacket .uplink x.src u.now x.body
          k.h.target = s.myId → k.cmd = some c → w.arrivalStatus k = stOk →
          exec (.cmdTransaction 0 x t) s = .next { w with
            host := { s.host with outstanding := s.host.outstanding ++ [⟨k.h, c, x.src⟩] } })) ∧
      (x.ttype = ttMemWr → x.dest = s.myId → s.myId < 63 →
        let a := u64 x.body 0
        let d := x.body.drop 8
        let refused := fun (st : Nat) (v : State) => v.dram = s.dram ∧
          v.get Reg.MEMCTL_PROT_REFUSED_COUNT = min (s.get Reg.MEMCTL_PROT_REFUSED_COUNT + 1)
            (2 ^ (Reg.MEMCTL_PROT_REFUSED_COUNT).w - 1) ∧
          (x.src ≠ 0xFD → (v.port 0).txq = (s.port 0).txq ++
            [(0, ⟨ttMemCpl, x.src, s.myId, 2, x.tag, leBytes 2 st ++ [0, 0] ++ leBytes 4 0⟩)])
        onePage a d.length = true → inDram a d.length = true →
        (s.standby = true → ∃ v, exec (.memwr 0 x t) s = .next v ∧ refused stNotOwner v) ∧
        (s.standby = false → touchesProt a d.length = false → (∀ b ∈ blocksIn a d.length, b ∉ s.mem.ue) →
          (∀ i < d.length, s.validRegion ((a + i) / regionBytes) = true ∧ s.initRegion ((a + i) / regionBytes) = false) →
          ∃ v, exec (.memwr 0 x t) s = .next v ∧ (∀ i < d.length, Sparse.get 0 v.dram (a + i) = d.getD i 0) ∧
            (∀ b, (b < a ∨ a + d.length ≤ b) → Sparse.get 0 v.dram b = Sparse.get 0 s.dram b) ∧ v.host = s.host) ∧
        (s.standby = false → touchesProt a d.length = true →
          ∃ v, exec (.memwr 0 x t) s = .next v ∧ refused stProtected v)) ∧
      (x.ttype = ttMemRd → x.dest = s.myId → s.myId < 63 → x.src ≠ 0xFD →
        let a := u64 x.body 0
        let n := u32 x.body 8
        onePage a n = true → inDram a n = true → s.badBlocks a n = [] → s.mem.filling = [] →
        ∃ v, exec (.memrd 0 x t) s = .next v ∧ v.dram = s.dram ∧ (v.port 0).txq = (s.port 0).txq ++
          [(0, ⟨ttMemCpl, x.src, s.myId, 0, x.tag,
            leBytes 2 stOk ++ [0, 0] ++ leBytes 4 (s.readMem a n).length ++ s.readMem a n⟩)]) ∧
      (x.ttype = ttMemCpl → exec (.memcpl 0 x t) s = .next (w.discard 0)) ∧
      (x.ttype = ttBcast → x.dest = 63 →
        ∃ v, exec (.bcast 0 x t) s = .next v ∧
          v.get Reg.HIER_BEACONS_RX_COUNT = low (Reg.HIER_BEACONS_RX_COUNT).w (s.get Reg.HIER_BEACONS_RX_COUNT + 1) ∧
          (∀ (q : Fin 4), q ≠ 0 → s.active q = true → s.isPairPort q = false →
            (v.port q).txq = (s.port q).txq ++ [(1, { x with flags := x.flags ||| 1 })]) ∧
          (s.myId ≠ 0 → u8 x.body 0 = 1 → s.encValid (u8 x.body 20 % 4) = true →
            let diff := wrapS 32 ((s.enc (u8 x.body 20 % 4)).count - iAt x.body 24 8)
            v.getS Reg.HIER_LINE_DIFF = diff ∧ v.get Reg.HIER_STATUS_LINE_MISMATCH =
              (if s.get Reg.HIER_LINE_TOL < diff.natAbs then 1 else s.get Reg.HIER_STATUS_LINE_MISMATCH)))) ∧
    (∀ x, s.holds 0 x = true → transOk x = true → x.ttype = ttBcast →
      (x.dest = s.myId → s.myId < 63 → ∃ v, exec (.bcast 0 x t) s = .next v ∧
        v.get Reg.HIER_BEACONS_RX_COUNT = low (Reg.HIER_BEACONS_RX_COUNT).w (s.get Reg.HIER_BEACONS_RX_COUNT + 1) ∧
        ∀ (q : Fin 4), q ≠ 0 → (v.port q).txq = (s.port q).txq) ∧
      (∀ q, x.dest < 63 → x.dest ≠ s.myId → s.downlink? x.dest = some q → s.active q = true → s.isPairPort q = false →
        exec (.bcast 0 x t) s = .next ((u.consume 0 x).sendTrans q 1 { x with flags := x.flags ||| 1 }))) ∧
    (∀ (p : Fin 4) x, p ≠ 0 → s.isPairPort p = false → s.holds p x = true → transOk x = true → x.dest = 0xFE →
      let w := u.consume p x
      (x.ttype = ttReply → s.host.forwarded.any (·.answeredBy p x.body) = true →
        exec (.upstreamForward p x t) s = .next (({ w with host := { s.host with
          forwarded := dropFirst (·.answeredBy p x.body) s.host.forwarded } }).sendTrans 0 p x)) ∧
      (x.ttype = ttReply → s.host.forwarded.any (·.answeredBy p x.body) = false →
        s.host.late.any (·.answeredBy p x.body) = true →
        exec (.upstreamForward p x t) s = .next { w with host := { s.host with
          late := dropFirst (·.answeredBy p x.body) s.host.late } }) ∧
      (x.ttype = ttEvent → u16 x.body 0 ≠ evWorkerJoined →
        exec (.upstreamForward p x t) s = .next (w.sendTrans 0 p x)) ∧
      (x.ttype = ttBcast → exec (.bcast p x t) s = .next (w.sendTrans 0 p x)) ∧
      (x.ttype = ttMemCpl → exec (.memcpl p x t) s = .next (w.sendTrans 0 p x))) ∧
    (s.awake = true → u.beaconsDue = true → s.flag Reg.HIER_BEACON_LINE_EN = false →
      ∃ v, exec (.beaconSend t) s = .next v ∧ v.hier.beaconAt = some (u.tbNs 0) ∧ v.hier.seqTime = (s.hier.seqTime + 1) % 65536 ∧
        v.hier.seqLine = s.hier.seqLine ∧ v.host = s.host ∧
        ∀ (q : Fin 4), q ≠ 0 → (v.port q).txq = (s.port q).txq ++
          (if s.active q = true ∧ s.isPairPort q = false then [(0, beaconTrans 0 s.hier.seqTime 0)] else [])) ∧
    (let since := u.now - s.time.lastBeacon.getD 0
     s.myId ≠ 0 → s.flag Reg.TIME_STATUS_UNSYNC = false → s.flag Reg.TIME_STATUS_HOLDOVER = false →
      max 1 (s.get Reg.TIME_BEACON_TIMEOUT_MS) * msSteps ≤ since →
      exec (.evtBeaconLost t) s = .next
        ((u.setB Reg.TIME_STATUS_HOLDOVER true).raise evBeaconLost 0 (leBytes 4 (since / msSteps))))

/-! ### Events of the time triggers, of housekeeping and of calibration -/

/-- TIME_TRIGGER_EVENT (R433, R435), HK_ROUND_START (R438), HK_ROUND_END (R438 to R445), CAL_MEASURE_DONE (R449 to R451)
and TAP_STEP (R448). -/
def Obligations.TimeAndThermalEventsComplete : Prop :=
  ∀ (t : Nat) (s : State), Live s →
    let u := s.elapse t
    (∀ (k : Fin 5),
      (u.trigDue k = false → exec (.timeTriggerEvent k t) s = .next u) ∧
      (u.trigDue k = true → s.cam.ports.length = 4 → s.motion.axes.length = 4 →
        let per := s.get (Reg.TIME_TRIG_PERIOD_NS k)
        let skipped := (u.tbNs (s.get (Reg.TIME_TRIG_CTRL_TB k)) - s.trigNext k) / per
        ∃ v, exec (.timeTriggerEvent k t) s = .next v ∧
          v.get (Reg.TIME_TRIG_FIRED_COUNT k) =
            low (Reg.TIME_TRIG_FIRED_COUNT k).w (s.get (Reg.TIME_TRIG_FIRED_COUNT k) + 1) ∧
          (per = 0 → v.flag (Reg.TIME_TRIG_CTRL_ARMED k) = false) ∧
          (per ≠ 0 → v.flag (Reg.TIME_TRIG_CTRL_ARMED k) = true ∧
            v.get (Reg.TIME_TRIG_MISSED_COUNT k) = min (s.get (Reg.TIME_TRIG_MISSED_COUNT k) + skipped)
              (2 ^ (Reg.TIME_TRIG_MISSED_COUNT k).w - 1) ∧
            (s.trigNext k + (skipped + 1) * per < 2 ^ 48 * secNs →
              v.trigNext k = s.trigNext k + (skipped + 1) * per)) ∧
          (k.val < 4 →
            (v.camPort k).trigEnd = some (u.now + 8 * max 1 (s.get (Reg.CAMRX_TRIG_WIDTH k))) ∧
            ∀ (a : Fin 4), (v.axis a).trigSeen = ((s.axis a).trigSeen ||
              (s.flag (Reg.MOTION_AX_STATUS_WAIT_TRIG a) && aStartTrig (s.axisRecord a) == k.val + 1))) ∧
          (k.val = 4 → v.therm.round = true ∧ v.get Reg.THERM_ROUNDS_LATE =
            (if s.therm.round then min (s.get Reg.THERM_ROUNDS_LATE + 1) (2 ^ (Reg.THERM_ROUNDS_LATE).w - 1)
             else s.get Reg.THERM_ROUNDS_LATE)) ∧
          v.host = s.host ∧ v.dram = s.dram)) ∧
    exec (.hkRoundStart t) s = exec (.timeTriggerEvent 4 t) s ∧
    (∀ raw hk dram, s.therm.round = false → exec (.hkRoundEnd raw hk dram t) s = .next u) ∧
    (∀ raw hk dram, s.therm.round = true → s.get Reg.THERM_STATUS_LEVEL ≤ 3 →
      let lv := s.get Reg.THERM_STATUS_LEVEL
      ∃ v, exec (.hkRoundEnd raw hk dram t) s = .next v ∧ v.therm.round = false ∧
        v.get Reg.THERM_ROUNDS_COUNT = low (Reg.THERM_ROUNDS_COUNT).w (s.get Reg.THERM_ROUNDS_COUNT + 1) ∧
        v.get Reg.LINEGEN_WSPD_THERMAL = low (Reg.LINEGEN_WSPD_THERMAL).w v.thermalTerm ∧
        (v.get Reg.THERM_STATUS_LEVEL < 2 → v.get Reg.THERM_THROTTLE_P = 0) ∧
        (refsOk hk = true →
          v.getS Reg.THERM_STATUS_TJ = v.tj ∧ (∀ i < 20, v.temp i ≤ v.tj) ∧ v.therm.refFaults = 0 ∧
          v.get Reg.THERM_STATUS_LEVEL = (if lv < s.levelOf v.tj then s.levelOf v.tj
            else if 0 < lv ∧ v.tj < s.threshold lv - s.get Reg.THERM_HYST then lv - 1 else lv)) ∧
        (refsOk hk = false →
          v.flag Reg.THERM_STATUS_REF_FAULT = true ∧ v.therm.refFaults = s.therm.refFaults + 1 ∧
          (∀ i < 20, v.temp i = s.temp i) ∧
          v.get Reg.THERM_STATUS_LEVEL = (if s.therm.refFaults < 2 then lv else 3))) ∧
    (∀ (target : Fin 3) results, let k := target.val + 1
      ((s.runMeasures k = false → (∀ x ∈ s.therm.tracking, x.1 ≠ k) →
        exec (.calMeasureDone target results t) s = .next u) ∧
      ((s.runMeasures k = true ∨ ∃ x ∈ s.therm.tracking, x.1 = k) →
        ∃ v, exec (.calMeasureDone target results t) s = .next v ∧ v.runMeasures k = false ∧ v.dram = s.dram ∧
          (∀ x ∈ v.therm.tracking, x.1 ≠ k) ∧
          (k = 2 → s.runMeasures k = true → ∀ q < s.therm.heads.length,
            let old := s.therm.heads.getD q .init
            (v.therm.heads.getD q .init).accepted = match results.find? (fun m => m.unit == q) with
              | some m => if tapOk false old m = true then m.taps else old.accepted
              | none => old.accepted)))) ∧
    (∀ (target : Fin 3) n, let k := target.val + 1
      let x := (s.tapUnits k).getD n .init
      let late := match x.stepAt with | some a => decide (a + msSteps ≤ u.now) | none => true
      ((late = false ∨ x.taps = x.accepted ∨ (k = 2 ∧ u.betweenShifts n = false)) → exec (.tapStep target n t) s = .next u) ∧
      (late = true → x.taps ≠ x.accepted → (k = 2 → u.betweenShifts n = true) → x.taps.length = x.accepted.length → n < (s.tapUnits k).length →
        ∃ v, exec (.tapStep target n t) s = .next v ∧ ((v.tapUnits k).getD n .init).taps = stepTaps x.taps x.accepted ∧
          ((v.tapUnits k).getD n .init).accepted = x.accepted ∧ ((v.tapUnits k).getD n .init).stepAt = some u.now ∧
          v.get (Reg.CAL_T_STEPS_COUNT k) = low (Reg.CAL_T_STEPS_COUNT k).w (s.get (Reg.CAL_T_STEPS_COUNT k) + 1) ∧
          v.host = s.host ∧ v.dram = s.dram))

/-! ### Events of a redundant pair -/

/-- STRING_SEND, WIRE_STRING_TOGGLE, HWDOG_EXPIRY (R404, R414), STRING_RECEIVED, STRING_SILENT, STRING_IN_EDGE (R385, R407,
R415, R416), ILK_IN_CHANGE, ILK_RAISE (R403, R419), PAIR_LISTEN_END (R406), CHECKPOINT_SEND (R411), CKPT_RECEIVED (R387),
EVT_STANDBY_READY (R407, R423) and DOZE_TIMEOUT (R413). -/
def Obligations.PairEventsComplete : Prop :=
  ∀ (t : Nat) (s : State), Running s → s.ports.length = 4 → s.pair.clash = none →
    let u := s.elapse t
    (s.flag Reg.CMD_STATUS_READY = true →
      (s.stringOn false = true →
        ((∀ a, s.pair.strAt = some a → a + 100 * usSteps ≤ u.now) → exec (.stringSend t) s = .next
          ((u.modPort 3 (fun q => { q with strDue := some u.mkString })).modPair (fun x => { x with
            strSeq := (x.strSeq + 1) % 65536, strAt := some u.now }))) ∧
        (∀ a, s.pair.strAt = some a → u.now < a + 100 * usSteps → exec (.stringSend t) s = .next u)) ∧
      (s.stringOn true = true → exec (.wireStringToggle t) s = .next
        (if s.pair.wdogAt + (if s.pair.faultCode = 0 then 100 else 10) * usSteps ≤ u.now then
          u.modPair (fun x => { x with strOut := !x.strOut, wdogAt := u.now }) else u))) ∧
    (s.stringOn true = true → s.pair.wdogAt + 250 * usSteps ≤ u.now →
      ∃ v, exec (.hwdogExpiry t) s = .next v ∧ v.flag Reg.PAIR_STATUS_ILK_OUT = false ∧
        v.flag Reg.PAIR_STATUS_HWDOG = true ∧ v.pair.ilkWanted = false ∧ v.host = s.host ∧ v.dram = s.dram) ∧
    (∀ x (partner : Fin 3), s.holds 3 x = true → s.isPairPort 3 = true → transOk x = true →
      x.ttype = ttString → x.dest = 0xFD → x.src = 0xFD → u8 x.body 1 = 0 → s.pair.listenEnd = none →
      s.pair.faultCode = 0 →
      let passed := s.get Reg.PAIR_STATUS_ROLE = 1 ∧ u8 x.body 0 = 1 ∧ u.ilkOut = false ∧ s.pair.ilkWanted = false
      ∃ v, exec (.stringReceived x partner t) s = .next v ∧ v.pair.msg.last = some u.now ∧ v.pair.msg.silent = false ∧
        (s.stringOn false = true → bit (v.get Reg.PAIR_STATUS_STRINGS_OK) 1 = true) ∧
        (¬passed → v.get Reg.PAIR_STATUS_ROLE = s.get Reg.PAIR_STATUS_ROLE) ∧
        (passed → v.get Reg.PAIR_STATUS_ROLE = 2 ∧ v.get Reg.PAIR_STATUS_STATE = 0 ∧ v.dram = s.dram) ∧
        (s.get Reg.PAIR_STATUS_ROLE = 1 → u8 x.body 0 = 2 →
          v.get Reg.PAIR_STATUS_PARTNER = if partner.val = 2 then 2 else 1)) ∧
    (∀ wire, let x := if wire then s.pair.wire else s.pair.msg
      let other := if wire then s.pair.msg else s.pair.wire
      let both := !s.stringOn (!wire) || other.silent
      s.stringOn wire = true → x.silent = false → x.last.getD 0 + 400 * usSteps ≤ u.now →
      ∃ v, exec (.stringSilent wire t) s = .next v ∧ (if wire then v.pair.wire else v.pair.msg).silent = true ∧
        bit (v.get Reg.PAIR_STATUS_STRINGS_OK) (if wire then 0 else 1) = false ∧
        (x.raised = false → v.get Reg.PAIR_COUNTS_STRING_FAULTS = min (s.get Reg.PAIR_COUNTS_STRING_FAULTS + 1)
          (2 ^ (Reg.PAIR_COUNTS_STRING_FAULTS).w - 1)) ∧
        (both = true → v.get Reg.PAIR_STATUS_PARTNER = 0) ∧
        (both = true → s.mayTakeOver = true →
          v.pair.takeover = true ∧ v.pair.ilkWanted = true ∧ v.pair.gapCause = some 0) ∧
        (both = false → v.get Reg.PAIR_STATUS_PARTNER = s.get Reg.PAIR_STATUS_PARTNER ∧
          v.pair.takeover = s.pair.takeover ∧ v.dram = s.dram)) ∧
    (s.stringOn true = true →
      let x := s.pair.wire
      let fast := x.edge && (match x.last with | some a => decide (u.now < a + 25 * usSteps) | none => false)
      ∃ v, exec (.stringInEdge t) s = .next v ∧ v.pair.wire.last = some u.now ∧ v.pair.wire.edge = true ∧
        v.pair.wire.silent = false ∧ v.pair.wire.short = (if fast then x.short + 1 else 0) ∧
        (fast = false → bit (v.get Reg.PAIR_STATUS_STRINGS_OK) 0 = true) ∧
        (fast = true → 3 ≤ x.short → v.pair.wire.faulted = true ∧ bit (v.get Reg.PAIR_STATUS_STRINGS_OK) 0 = false)) ∧
    (∀ level, let hit := level = true ∧ s.flag Reg.PAIR_STATUS_ILK_IN = false ∧ s.flag Reg.PAIR_STATUS_ILK_OUT = true ∧
        ∃ a, s.pair.ilkRaised = some a ∧ u.now ≤ a + usSteps
      let passed := level = true ∧ s.flag Reg.PAIR_STATUS_ILK_IN = false ∧ s.get Reg.PAIR_STATUS_ROLE = 1 ∧ u.ilkOut = false
      (¬hit → ¬passed → exec (.ilkInChange level t) s = .next ((u.setB Reg.PAIR_STATUS_ILK_IN level).modPair (fun x =>
        { x with ilkLowSince := if level then none else some (x.ilkLowSince.getD u.now), clash := none }))) ∧
      (passed → ∃ v, exec (.ilkInChange level t) s = .next v ∧ v.get Reg.PAIR_STATUS_ROLE = 2 ∧
        v.get Reg.PAIR_STATUS_STATE = 0 ∧ v.flag Reg.PAIR_STATUS_ILK_IN = true ∧ v.job.running = none) ∧
      (hit → s.flag Reg.PAIR_STATUS_SIDE = true → s.flag Reg.PAIR_CTRL_ENABLE = true →
        ∃ v, exec (.ilkInChange level t) s = .next v ∧ v.flag Reg.PAIR_STATUS_ILK_OUT = false ∧
          v.get Reg.PAIR_STATUS_ROLE = 2 ∧ v.get Reg.PAIR_STATUS_STATE = 0) ∧
      (hit → s.flag Reg.PAIR_STATUS_SIDE = false →
        ∃ v, exec (.ilkInChange level t) s = .next v ∧ v.flag Reg.PAIR_STATUS_ILK_OUT = true ∧
          v.pair.clash = some u.now ∧ v.host = s.host)) ∧
    (∀ a, s.pair.ilkWanted = true → u.ilkOut = false → s.flag Reg.PAIR_STATUS_HWDOG = false →
      s.pair.ilkLowSince = some a → a + 20 * usSteps ≤ u.now →
      ∃ v, exec (.ilkRaise t) s = .next v ∧ v.flag Reg.PAIR_STATUS_ILK_OUT = true ∧ v.pair.ilkWanted = false ∧
        v.pair.ilkRaised = some u.now ∧ v.dram = s.dram ∧
        (s.pair.takeover = true → v.get Reg.PAIR_STATUS_ROLE = 1 ∧ v.pair.takeover = false ∧
          v.get Reg.PAIR_COUNTS_TAKEOVERS = min (s.get Reg.PAIR_COUNTS_TAKEOVERS + 1)
            (2 ^ (Reg.PAIR_COUNTS_TAKEOVERS).w - 1)) ∧
        (s.pair.takeover = false → v.get Reg.PAIR_STATUS_ROLE = s.get Reg.PAIR_STATUS_ROLE ∧ v.host = s.host)) ∧
    (∀ e, s.pair.listenEnd = some e → e ≤ u.now → ∃ v, exec (.pairListenEnd t) s = .next v ∧ v.pair.listenEnd = none ∧
      (s.flag Reg.PAIR_STATUS_ILK_IN = true → v.get Reg.PAIR_STATUS_ROLE = 2 ∧ v.get Reg.PAIR_STATUS_STATE = 0 ∧
        v.flag Reg.PAIR_STATUS_ILK_OUT = false) ∧
      (s.flag Reg.PAIR_STATUS_ILK_IN = false → v.get Reg.PAIR_STATUS_ROLE = 1 ∧ v.host = s.host ∧
        (s.flag Reg.PAIR_STATUS_ILK_OUT = false → v.pair.ilkWanted = true))) ∧
    (s.awake = true → s.mirrors = true →
      (256 ≤ s.pair.ckptLines ∨ s.pair.ckptAt + 10 * msSteps ≤ u.now) →
      ∃ v n, exec (.checkpointSend t) s = .next v ∧ v.pair.ckptSeq = s.pair.ckptSeq + 1 ∧ v.pair.ckptAt = u.now ∧
        v.pair.ckptLines = 0 ∧ 1 ≤ n ∧ n ≤ 16384 ∧ v.host = s.host ∧ v.dram = s.dram ∧
        (v.port 3).txq = (s.port 3).txq ++ (ckptTrans s.free (s.pair.ckptSeq + 1) (8 * n)).map (fun x => (0, x))) ∧
    (∀ x, s.holds 3 x = true → s.isPairPort 3 = true → transOk x = true → x.ttype = ttCkpt →
      x.dest = 0xFD → x.src = 0xFD → s.standby = true → s.power.dozing = false → Memory.wf s = true →
      let b := x.body
      let off := u32 b 4
      let n := u16 b 10
      let base := tabBase + 0x800000 + (1 - s.get Reg.ZLINK_CKPT_STATUS_CURRENT_HALF) * 0x20000
      let w := u.putTabs false (base + off) ((b.drop 24).take n)
      let data := w.readTab false base (u32 b 16)
      bit (u8 b 12) 0 = false → s.pair.ckptRx = some (u32 b 0, off) → off + n ≤ 131072 →
      (bit (u8 b 12) 1 = false → off + n ≠ u32 b 16 → ∃ v, exec (.ckptReceived x t) s = .next v ∧ v.tab0 = w.tab0 ∧
        v.pair.ckptRx = some (u32 b 0, off + n) ∧ v.host = s.host) ∧
      (bit (u8 b 12) 1 = true → off + n = u32 b 16 → crc32c data = u32 b 20 → u16 b 8 = low 16 Config.fwMajor →
        ∃ v, exec (.ckptReceived x t) s = .next v ∧ (Config.ckptOps data = [] → v.tab0 = w.tab0) ∧
          v.pair.ckptRx = none ∧ v.pair.ckptNew = true ∧
          v.flag Reg.ZLINK_CKPT_STATUS_VALID = true ∧ v.get Reg.ZLINK_CKPT_SEQ = low 32 (u32 b 0) ∧
          v.get Reg.ZLINK_CKPT_STATUS_CURRENT_HALF = 1 - s.get Reg.ZLINK_CKPT_STATUS_CURRENT_HALF) ∧
      (bit (u8 b 12) 1 = true → off + n = u32 b 16 → crc32c data = u32 b 20 → u16 b 8 ≠ low 16 Config.fwMajor →
        s.get Reg.PAIR_STATUS_STATE = 1 → ∃ v, exec (.ckptReceived x t) s = .next v ∧
          v.get Reg.PAIR_STATUS_STATE = 1 ∧ v.pair.ckptRx = none ∧ v.tab0 = w.tab0 ∧ v.host = s.host) ∧
      (bit (u8 b 12) 1 = true → off + n = u32 b 16 → crc32c data ≠ u32 b 20 →
        ∃ v, exec (.ckptReceived x t) s = .next v ∧ v.get Reg.PAIR_STATUS_STATE = 0 ∧ v.pair.ckptRx = none ∧
          v.flag Reg.ZLINK_CKPT_STATUS_VALID = s.flag Reg.ZLINK_CKPT_STATUS_VALID ∧
          v.get Reg.ZLINK_CKPT_ERRORS_COUNT = min (s.get Reg.ZLINK_CKPT_ERRORS_COUNT + 1)
            (2 ^ (Reg.ZLINK_CKPT_ERRORS_COUNT).w - 1))) ∧
    (s.standby = true → s.get Reg.PAIR_STATUS_STATE = 1 → s.flag Reg.ZLINK_CKPT_STATUS_VALID = true → s.pair.ckptNew = true →
      ((s.stringOn true = true ∨ s.stringOn false = true) → s.partnerSilent = false) →
      ∃ v, exec (.evtStandbyReady t) s = .next v ∧ v.get Reg.PAIR_STATUS_STATE = 2 ∧
        v.host = (u.raise evStandbyReady 0 (leBytes 4 ((u.now - s.pair.resyncAt.getD u.now) / msSteps))).host ∧
        v.dram = s.dram) ∧
    (s.awake = true → s.standby = true → s.pair.takeover = false → s.pair.dozeFrom + s.dozeUs * usSteps ≤ u.now →
      ∃ v, exec (.dozeTimeout t) s = .next v ∧ v.get Reg.LADDER_STATE = 2 ∧ v.power.dozing = true ∧ v.host = s.host ∧
        v.port 3 = s.port 3)

/-! ### Events of the ladder, of reset, of the PMBus, and boundary scan -/

/-- AUTO_L1_ENTRY, L1_EXIT (R474), LADDER_ENTRY (R475), EVT_LADDER_WAKE (R476), RESET_N_FALL, PWRGOOD_FALL, RESET_N_RISE
(R466 to R468), PMBUS_ALERT, PMBUS_TRANSACTION_END and VSETTLE_EXPIRY (R469 to R472). -/
def Obligations.LadderAndResetEventsComplete : Prop :=
  ∀ (t : Nat) (s : State),
    let u := s.elapse t
    (Running s →
      (s.flag Reg.LADDER_CTRL_AUTO_L1 = true → s.get Reg.LADDER_STATE = 0 → s.restful = true →
        exec (.autoL1Entry t) s = .next (u.set Reg.LADDER_STATE 1)) ∧
      ((s.flag Reg.LADDER_CTRL_AUTO_L1 = false ∨ s.get Reg.LADDER_STATE ≠ 0 ∨ s.restful = false) →
        exec (.autoL1Entry t) s = .next u) ∧
      (s.get Reg.LADDER_STATE = 1 → s.power.stay = false → exec (.l1Exit t) s = .next (u.set Reg.LADDER_STATE 0)) ∧
      ((s.get Reg.LADDER_STATE ≠ 1 ∨ s.power.stay = true) → exec (.l1Exit t) s = .next u) ∧
      (∀ st w, s.power.entry = some (st, w) → 2 ≤ st → st ≤ 4 →
        (∀ q ∈ s.ports, q.phase ≠ .up ∧ q.phase ≠ .waking) →
        ∃ v, exec (.ladderEntry t) s = .next v ∧ v.get Reg.LADDER_STATE = st ∧ v.power.entry = none ∧ v.dram = s.dram ∧
          v.host = s.host ∧ (st ≠ 3 → v.job = s.job ∧ v.tab0 = s.tab0 ∧ v.tab1 = s.tab1) ∧
          (st = 3 → v.job = .init ∧ v.tab0 = [] ∧ v.tab1 = [] ∧ v.otp.patch = none)) ∧
      (∀ cause,
        (s.power.entry ≠ none → exec (.evtLadderWake cause t) s = .next
          (u.modPower (fun x => { x with wakeHeld := some (x.wakeHeld.getD cause) }))) ∧
        (s.power.entry = none → (s.get Reg.LADDER_STATE < 2 ∨ (s.power.wakeHeld = none ∧ s.wakes cause = false)) →
          exec (.evtLadderWake cause t) s = .next u) ∧
        (s.power.entry = none → s.power.wakeHeld = none → s.wakes cause = true →
          (s.get Reg.LADDER_STATE = 2 ∨ s.get Reg.LADDER_STATE = 3 →
            ∃ v, exec (.evtLadderWake cause t) s = .next v ∧ v.get Reg.LADDER_STATE = 1 ∧
              v.get Reg.LADDER_STATE_FROM = s.get Reg.LADDER_STATE ∧
              v.get Reg.LADDER_STATE_LAST_WAKE = low (Reg.LADDER_STATE_LAST_WAKE).w cause ∧
              v.get Reg.LADDER_WAKES_COUNT = low (Reg.LADDER_WAKES_COUNT).w (s.get Reg.LADDER_WAKES_COUNT + 1) ∧
              v.power.dozing = false ∧ v.power.stay = true ∧ v.dram = s.dram ∧
              (s.get Reg.LADDER_STATE = 3 → ∀ (e : Fin 4), v.flag (Reg.ENC_STATUS_INVALID e) = true)) ∧
          (s.get Reg.LADDER_STATE = 4 →
            ∃ v, exec (.evtLadderWake cause t) s = .next v ∧ v.get Reg.LADDER_STATE = 1 ∧
              v.flag Reg.LADDER_RESET_CAUSE_L4_EXIT = true ∧ v.flag Reg.CMD_STATUS_READY = false ∧
              v.job = .init ∧ v.power.startup = true ∧ v.power.stay = true ∧ ∀ (e : Fin 4), v.flag (Reg.ENC_STATUS_INVALID e) = true))) ∧
      (∃ v, exec (.resetNFall t) s = .next v ∧ v.power.resetN = false ∧ v.flag Reg.PAIR_STATUS_ILK_OUT = false ∧
        v.line.wspdDuty = 0 ∧ (∀ (q : Fin 48), (v.head q).padA = false ∧ (v.head q).padB = false) ∧
        (∀ (p : Fin 4), (v.plane p).marks = []) ∧ v.dram = s.dram ∧ v.host = s.host) ∧
      (∃ v, exec (.pwrgoodFall t) s = .next v ∧ v.power.resetN = false ∧ v.power.pwrGood = false ∧
        v.power.causePwrgood = true ∧ v.flag Reg.PAIR_STATUS_ILK_OUT = false) ∧
      exec (.pmbusAlert t) s = .next (u.pmPut [.statusWord]) ∧
      (∀ mv e, s.power.settleAt = some (mv, e) → e ≤ u.now →
        ∃ v, exec (.vsettleExpiry t) s = .next v ∧ v.power.vcore = mv ∧ v.power.settleAt = none ∧ v.host = s.host ∧
          v.regs = s.regs) ∧
      (s.power.settleAt = none → exec (.vsettleExpiry t) s = .next u) ∧
      (∀ value, s.pmbusOn = true →
        (∀ mv l, s.power.pmQueue = .voutCommand mv :: l → exec (.pmbusTransactionEnd true value t) s = .next
          ((u.set Reg.LADDER_VCORE_REQ_MV mv).modPower (fun x => { x with
            pmQueue := l, voutCode := x.voutExp.map (fun e => voutCodeOf e mv),
            settleAt := some (mv, u.now + max 1 (s.get Reg.LADDER_PMBUS_CFG_VSETTLE_US) * usSteps) }))) ∧
        (∀ l, s.power.pmQueue = .voutMode :: l → exec (.pmbusTransactionEnd true value t) s = .next
          (u.modPower (fun x => { x with pmQueue := l, voutExp := some (sgn 5 value) }))) ∧
        (∀ l e, s.power.pmQueue = .readVout :: l → s.power.voutExp = some e →
          exec (.pmbusTransactionEnd true value t) s = .next ((u.modPower (fun x => { x with pmQueue := l })).set
            Reg.LADDER_VCORE_MEAS_MV (min 4095 (voutMv e (low 16 value))))) ∧
        (∀ l, s.power.pmQueue = .readIout :: l → exec (.pmbusTransactionEnd true value t) s = .next
          ((u.modPower (fun x => { x with pmQueue := l })).set Reg.LADDER_IOUT_CENTIAMPS value)) ∧
        (∀ op l ok, s.power.pmQueue = op :: l → (ok = false ∨ (op = .statusWord ∧ low 16 value ≠ 0)) →
          ∃ v, exec (.pmbusTransactionEnd ok value t) s = .next v ∧ v.flag Reg.LADDER_PMBUS_STATUS_FAULT = true ∧
            v.power.pmQueue = l.filter (fun o => !o.isVout) ∧ v.power.vcore = s.power.vcore ∧
            v.get Reg.LADDER_PMBUS_STATUS_ERRORS = min (s.get Reg.LADDER_PMBUS_STATUS_ERRORS + 1)
              (2 ^ (Reg.LADDER_PMBUS_STATUS_ERRORS).w - 1)))) ∧
    (∀ pwrgood side, (s.power.resetN = true ∨ pwrgood = false) → exec (.resetNRise pwrgood side t) s = .next u) ∧
    (∀ side, s.power.resetN = false →
      ∃ v, exec (.resetNRise true side t) s = .next v ∧ v.power.resetN = true ∧ v.power.startup = true ∧
        v.flag Reg.CMD_STATUS_READY = false ∧ v.dram = [] ∧ v.job = .init ∧ v.host = .init ∧ v.time = .init ∧
        v.pending = s.pending ∧ v.otp.gens = s.otp.gens ∧ v.otp.keys = s.otp.keys ∧
        v.flag Reg.LADDER_RESET_CAUSE_PIN = !s.power.causePwrgood ∧
        v.flag Reg.LADDER_RESET_CAUSE_PWRGOOD = s.power.causePwrgood)

/-- The six TAP instructions (R487, R488). -/
def Obligations.TapInstructionsComplete : Prop :=
  ∀ (trst : Bool) (di : List Bool) (pins : List (Bool × Bool)) (t : Nat) (s : State),
    let u := s.elapse t
    let out := fun (cap : List Bool) => (cap ++ di).take di.length
    let into := fun (i : TapInstr) (cap : List Bool) => Host.Outcome.next (φ := Fault) (ρ := Refusal)
      { u with tap := { s.tap with instr := i, shifted := out cap } }
    let cap := pins.map (fun x => if x.1 && !u.headDriven then none else some x.2)
    let bits := cap.map (fun c => c.getD (Config.free s.free % 2 == 1))
    let cells := fun (i : TapInstr) => Host.Outcome.next (φ := Fault) (ρ := Refusal)
      { u with free := s.free + 1, tap := ⟨i, (bits ++ di).drop di.length, cap, out bits⟩ }
    ((s.power.resetN = false ∨ trst = true) →
      exec (.bypass trst di t) s = into .bypass [false] ∧
      exec (.idcode trst di t) s = into .idcode ((List.range 32).map (bit 0x148203A5)) ∧
      exec (.clamp trst di t) s = into .clamp [false] ∧ exec (.highz trst di t) s = into .highz [false] ∧
      exec (.samplePreload trst pins di t) s = cells .samplePreload ∧ exec (.extest trst pins di t) s = cells .extest) ∧
    (s.power.resetN = true → trst = false →
      exec (.bypass trst di t) s = .next u ∧ exec (.idcode trst di t) s = .next u ∧ exec (.clamp trst di t) s = .next u ∧
      exec (.highz trst di t) s = .next u ∧ exec (.samplePreload trst pins di t) s = .next u ∧
      exec (.extest trst pins di t) s = .next u)

/-! ### Reset, the memories' form, and the packet format -/

/-- Right after reset: register values (R3, R453), no valid region (R269), nothing under way, memories in canonical form. -/
def Obligations.ResetLeavesResetValues : Prop :=
  (∀ f : Fld, f.key ≠ (Reg.ZPHY_PORT_CONFIG_ENABLE 0).key → State.reset.get f = f.reset) ∧
  State.reset.flag (Reg.ZPHY_PORT_CONFIG_ENABLE 0) = true ∧
  (∀ r, State.reset.validRegion r = false) ∧ (∀ a, Sparse.get 0 State.reset.dram a = 0) ∧
  (∀ bank a, State.reset.tabByte bank a = tabReset a) ∧
  State.reset.pending = [] ∧ State.reset.host.out = [] ∧ State.reset.host.outstanding = [] ∧
  State.reset.job.running = none ∧ State.reset.job.queued = none ∧ State.reset.power.resetN = true ∧
  State.reset.power.startup = true ∧ Memory.wf State.reset = true

/-- Every step keeps the canonical form of the memories. -/
def Obligations.EveryStepKeepsMemoriesCanonical : Prop :=
  ∀ s s' : State, Memory.wf s = true → step s = .next s' → Memory.wf s' = true

/-- Decoding the packet of a well-formed command gives the command and its header (R33 to R36, R506). -/
def Obligations.PacketsDecodeToWhatTheyEncode : Prop :=
  ∀ (h : Hdr) (c : HostCmd), h.wf → c.wf → hdrFlag h 0 = false → (encodeParams c).length ≤ 4076 →
    decodeParams c.opcode (encodeParams c) = some c ∧
    ∀ src now, let b := cmdBytes c.opcode h false (encodeParams c)
      packetOk b = true ∧
      parsePacket .uplink src now b =
        ⟨{ h with iface := .uplink, at_ := now }, c.opcode, encodeParams c, some c, src⟩
end

