-- ==== Sys2Proof/Laws/Sparse.lean ====
section
/-! SUPPORT. Laws of the sparse stores: a read after a write, and the canonical form under every operation. -/

namespace Sys2Proof.Machine

variable {β : Type}

/-! ### Reads after writes -/

@[simp] theorem Sparse.get_ins_same (d : β) (k : Nat) (v : β) (m : List (Nat × β)) :
    Sparse.get d (Sparse.ins k v m) k = v := by
  induction m with
  | nil => simp [Sparse.ins, Sparse.get]
  | cons e m ih =>
    obtain ⟨j, w⟩ := e
    simp only [Sparse.ins]
    split
    · simp [Sparse.get]
    · split
      · simp [Sparse.get]
      · rename_i h; simp [Sparse.get, h, ih]

theorem Sparse.get_ins_other (d : β) {k i : Nat} (h : i ≠ k) (v : β) (m : List (Nat × β)) :
    Sparse.get d (Sparse.ins k v m) i = Sparse.get d m i := by
  induction m with
  | nil => simp [Sparse.ins, Sparse.get, h.symm]
  | cons e m ih =>
    obtain ⟨j, w⟩ := e
    simp only [Sparse.ins]
    split
    · simp [Sparse.get, h.symm]
    · split
      · rename_i hj; subst hj; simp [Sparse.get, h.symm]
      · simp [Sparse.get, ih]

@[simp] theorem Sparse.get_del_same (d : β) (k : Nat) (m : List (Nat × β)) : Sparse.get d (Sparse.del k m) k = d := by
  induction m with
  | nil => rfl
  | cons e m ih =>
    obtain ⟨j, w⟩ := e
    simp only [Sparse.del]
    split
    · exact ih
    · rename_i h; simp [Sparse.get, h, ih]

theorem Sparse.get_del_other (d : β) {k i : Nat} (h : i ≠ k) (m : List (Nat × β)) :
    Sparse.get d (Sparse.del k m) i = Sparse.get d m i := by
  induction m with
  | nil => rfl
  | cons e m ih =>
    obtain ⟨j, w⟩ := e
    simp only [Sparse.del]
    split
    · rename_i hj; subst hj; simp [Sparse.get, h.symm, ih]
    · simp [Sparse.get, ih]

variable [DecidableEq β]

/-- A read of the key just written. -/
@[simp] theorem Sparse.get_put_same (d : β) (m : List (Nat × β)) (k : Nat) (v : β) :
    Sparse.get d (Sparse.put d m k v) k = v := by
  unfold Sparse.put
  split
  · rename_i h; simp [h]
  · simp

/-- A read of another key. -/
theorem Sparse.get_put_other (d d' : β) (m : List (Nat × β)) {k i : Nat} (h : i ≠ k) (v : β) :
    Sparse.get d' (Sparse.put d m k v) i = Sparse.get d' m i := by
  unfold Sparse.put
  split
  · exact Sparse.get_del_other d' h m
  · exact Sparse.get_ins_other d' h v m

/-! ### The canonical form -/

omit [DecidableEq β] in
/-- The canonical form, said of pairs. -/
theorem Sparse.sorted_iff (m : List (Nat × β)) : Sparse.sorted m = true ↔ m.Pairwise (fun a b => a.1 < b.1) := by
  induction m with
  | nil => simp [Sparse.sorted]
  | cons e m ih =>
    cases m with
    | nil => simp [Sparse.sorted]
    | cons f m =>
      obtain ⟨j, v⟩ := e
      obtain ⟨k, w⟩ := f
      simp only [Sparse.sorted, Bool.and_eq_true, decide_eq_true_eq, ih, List.pairwise_cons]
      constructor
      · rintro ⟨h, h1, h2⟩
        refine ⟨?_, h1, h2⟩
        intro x hx
        rcases List.mem_cons.1 hx with rfl | hx
        · exact h
        · exact lt_trans h (h1 x hx)
      · rintro ⟨h, h1, h2⟩
        exact ⟨h _ (List.mem_cons_self ..), h1, h2⟩

theorem Sparse.wf_iff (d : Nat → β) (m : List (Nat × β)) :
    Sparse.wf d m = true ↔ m.Pairwise (fun a b => a.1 < b.1) ∧ ∀ e ∈ m, e.2 ≠ d e.1 := by
  simp [Sparse.wf, Sparse.sorted_iff]

omit [DecidableEq β] in
/-- An entry of a store after an insertion is the new one or an old one. -/
theorem Sparse.mem_ins {k : Nat} {v : β} {m : List (Nat × β)} {e : Nat × β} (h : e ∈ Sparse.ins k v m) :
    e = (k, v) ∨ e ∈ m := by
  induction m with
  | nil => simpa [Sparse.ins] using h
  | cons f m ih =>
    obtain ⟨j, w⟩ := f
    simp only [Sparse.ins] at h
    split at h
    · simpa using h
    · split at h
      · rcases List.mem_cons.1 h with h | h
        · exact .inl h
        · exact .inr (List.mem_cons_of_mem _ h)
      · rcases List.mem_cons.1 h with h | h
        · exact .inr (h ▸ List.mem_cons_self ..)
        · exact (ih h).imp_right (List.mem_cons_of_mem _)

omit [DecidableEq β] in
theorem Sparse.pairwise_ins (k : Nat) (v : β) {m : List (Nat × β)} (h : m.Pairwise (fun a b => a.1 < b.1)) :
    (Sparse.ins k v m).Pairwise (fun a b => a.1 < b.1) := by
  induction m with
  | nil => simp [Sparse.ins]
  | cons f m ih =>
    obtain ⟨j, w⟩ := f
    have h' := List.pairwise_cons.1 h
    simp only [Sparse.ins]
    split
    · rename_i hk
      refine List.pairwise_cons.2 ⟨fun x hx => ?_, h⟩
      rcases List.mem_cons.1 hx with rfl | hx
      · exact hk
      · exact lt_trans hk (h'.1 x hx)
    · split
      · rename_i hj; subst hj; exact List.pairwise_cons.2 ⟨h'.1, h'.2⟩
      · refine List.pairwise_cons.2 ⟨fun x hx => ?_, ih h'.2⟩
        rcases Sparse.mem_ins hx with rfl | hx
        · simp only; omega
        · exact h'.1 x hx

omit [DecidableEq β] in
theorem Sparse.del_eq_filter (k : Nat) (m : List (Nat × β)) : Sparse.del k m = m.filter (fun e => decide (e.1 ≠ k)) := by
  induction m with
  | nil => rfl
  | cons e m ih =>
    obtain ⟨j, w⟩ := e
    simp only [Sparse.del, List.filter_cons]
    split <;> rename_i h <;> simp [h, ih]

/-- Writing one value keeps the canonical form. -/
theorem Sparse.wf_put (d : Nat → β) {m : List (Nat × β)} (h : Sparse.wf d m = true) (k : Nat) (v : β) :
    Sparse.wf d (Sparse.put (d k) m k v) = true := by
  rw [Sparse.wf_iff] at h ⊢
  unfold Sparse.put
  split
  · rw [Sparse.del_eq_filter]
    exact ⟨h.1.filter _, fun e he => h.2 e (List.mem_filter.1 he).1⟩
  · rename_i hv
    refine ⟨Sparse.pairwise_ins k v h.1, fun e he => ?_⟩
    rcases Sparse.mem_ins he with rfl | he
    · exact hv
    · exact h.2 e he

theorem Sparse.mem_listed {d : Nat → β} {e : Nat × β} : ∀ {vs : List β} {a : Nat}, e ∈ Sparse.listed d a vs →
    a ≤ e.1 ∧ e.1 < a + vs.length ∧ e.2 ≠ d e.1
  | [], _, h => by simp [Sparse.listed] at h
  | v :: vs, a, h => by
    simp only [Sparse.listed] at h
    split at h
    · have := Sparse.mem_listed h
      simp only [List.length_cons]; exact ⟨by omega, by omega, this.2.2⟩
    · rename_i hv
      rcases List.mem_cons.1 h with rfl | h
      · exact ⟨le_refl _, by simp, hv⟩
      · have := Sparse.mem_listed h
        simp only [List.length_cons]; exact ⟨by omega, by omega, this.2.2⟩

theorem Sparse.pairwise_listed (d : Nat → β) : ∀ (vs : List β) (a : Nat),
    (Sparse.listed d a vs).Pairwise (fun a b => a.1 < b.1)
  | [], _ => by simp [Sparse.listed]
  | v :: vs, a => by
    simp only [Sparse.listed]
    split
    · exact Sparse.pairwise_listed d vs (a + 1)
    · refine List.pairwise_cons.2 ⟨fun x hx => ?_, Sparse.pairwise_listed d vs (a + 1)⟩
      have := (Sparse.mem_listed hx).1
      simp only; omega

/-- Writing a range keeps the canonical form. -/
theorem Sparse.wf_putRange (d : Nat → β) {m : List (Nat × β)} (h : Sparse.wf d m = true) (a : Nat) (vs : List β) :
    Sparse.wf d (Sparse.putRange d m a vs) = true := by
  rw [Sparse.wf_iff] at h ⊢
  unfold Sparse.putRange
  constructor
  · refine List.pairwise_append.2 ⟨List.pairwise_append.2 ⟨h.1.filter _, Sparse.pairwise_listed d vs a, ?_⟩,
      h.1.filter _, ?_⟩
    · intro x hx y hy
      have hx := (List.mem_filter.1 hx).2
      have hy := (Sparse.mem_listed hy).1
      simp only [decide_eq_true_eq] at hx; omega
    · intro x hx y hy
      have hy := (List.mem_filter.1 hy).2
      simp only [decide_eq_true_eq] at hy
      rcases List.mem_append.1 hx with hx | hx
      · have hx := (List.mem_filter.1 hx).2
        simp only [decide_eq_true_eq] at hx; omega
      · have := (Sparse.mem_listed hx).2.1; omega
  · intro e he
    rcases List.mem_append.1 he with he | he
    · rcases List.mem_append.1 he with he | he
      · exact h.2 e (List.mem_filter.1 he).1
      · exact (Sparse.mem_listed he).2.2
    · exact h.2 e (List.mem_filter.1 he).1

/-- Dropping a range keeps the canonical form. -/
theorem Sparse.wf_dropRange (d : Nat → β) {m : List (Nat × β)} (h : Sparse.wf d m = true) (a b : Nat) :
    Sparse.wf d (Sparse.dropRange a b m) = true := by
  rw [Sparse.wf_iff] at h ⊢
  exact ⟨h.1.filter _, fun e he => h.2 e (List.mem_filter.1 he).1⟩

/-! ### Ranges -/

omit [DecidableEq β] in
theorem Sparse.get_of_not_mem (d : β) {m : List (Nat × β)} {k : Nat} (h : ∀ e ∈ m, e.1 ≠ k) : Sparse.get d m k = d := by
  induction m with
  | nil => rfl
  | cons e m ih =>
    have h1 := h e (List.mem_cons_self ..)
    simp [Sparse.get, h1, ih (fun x hx => h x (List.mem_cons_of_mem _ hx))]

omit [DecidableEq β] in
theorem Sparse.get_append (d : β) (m n : List (Nat × β)) (k : Nat) :
    Sparse.get d (m ++ n) k = Sparse.get (Sparse.get d n k) m k := by
  induction m with
  | nil => rfl
  | cons e m ih => simp [Sparse.get, ih]

omit [DecidableEq β] in
theorem Sparse.get_filter_other (d : β) {p : Nat × β → Bool} {m : List (Nat × β)} {k : Nat}
    (h : ∀ e ∈ m, e.1 = k → p e = true) : Sparse.get d (m.filter p) k = Sparse.get d m k := by
  induction m with
  | nil => rfl
  | cons e m ih =>
    have ih := ih (fun x hx => h x (List.mem_cons_of_mem _ hx))
    rw [List.filter_cons]
    split
    · simp [Sparse.get, ih]
    · rename_i hp
      have hk : e.1 ≠ k := fun hk => hp (h e (List.mem_cons_self ..) hk)
      simp [Sparse.get, ih, hk]

/-- A read outside the range just written. -/
theorem Sparse.get_putRange_other (d : Nat → β) (m : List (Nat × β)) (a : Nat) (vs : List β) {k : Nat}
    (h : k < a ∨ a + vs.length ≤ k) : Sparse.get (d k) (Sparse.putRange d m a vs) k = Sparse.get (d k) m k := by
  unfold Sparse.putRange
  have hl : ∀ x : β, Sparse.get x (Sparse.listed d a vs) k = x := fun x =>
    Sparse.get_of_not_mem x (fun e he hk => by have := Sparse.mem_listed he; omega)
  rw [Sparse.get_append, Sparse.get_append, hl]
  rcases h with h | h
  · rw [Sparse.get_of_not_mem (d k) (m := m.filter _)
      (fun e he hk => by have := (List.mem_filter.1 he).2; simp only [decide_eq_true_eq] at this; omega)]
    exact Sparse.get_filter_other _ (fun e _ hk => by simp [hk, h])
  · rw [Sparse.get_of_not_mem _ (m := m.filter (fun e => decide (e.1 < a)))
      (fun e he hk => by have := (List.mem_filter.1 he).2; simp only [decide_eq_true_eq] at this; omega)]
    exact Sparse.get_filter_other _ (fun e _ hk => by simp [hk, h])

theorem Sparse.get_listed (d : Nat → β) (x : β) : ∀ (vs : List β) (a i : Nat) (v : β), vs[i]? = some v →
    Sparse.get x (Sparse.listed d a vs) (a + i) = if v = d (a + i) then x else v
  | [], _, _, _, h => by simp at h
  | w :: vs, a, 0, v, h => by
    obtain rfl : w = v := by simpa using h
    simp only [Sparse.listed, Nat.add_zero]
    split
    · exact Sparse.get_of_not_mem x (fun e he hk => by have := (Sparse.mem_listed he).1; omega)
    · simp [Sparse.get]
  | w :: vs, a, i + 1, v, h => by
    have ih := Sparse.get_listed d x vs (a + 1) i v (by simpa using h)
    rw [show a + 1 + i = a + (i + 1) by omega] at ih
    simp only [Sparse.listed]
    split
    · exact ih
    · simp only [Sparse.get]
      rw [if_neg (by omega)]; exact ih

/-- A read inside the range just written. -/
theorem Sparse.get_putRange_same (d : Nat → β) (m : List (Nat × β)) (a : Nat) {vs : List β} {i : Nat} {v : β}
    (h : vs[i]? = some v) : Sparse.get (d (a + i)) (Sparse.putRange d m a vs) (a + i) = v := by
  have hi : i < vs.length := (List.getElem?_eq_some_iff.1 h).1
  unfold Sparse.putRange
  rw [Sparse.get_append, Sparse.get_append, Sparse.get_of_not_mem _ (m := m.filter (fun e => decide (e.1 < a)))
      (fun e he hk => by have := (List.mem_filter.1 he).2; simp only [decide_eq_true_eq] at this; omega),
    Sparse.get_listed d _ vs a i v h]
  split
  · rename_i hv
    rw [hv]
    exact Sparse.get_of_not_mem _
      (fun e he hk => by have := (List.mem_filter.1 he).2; simp only [decide_eq_true_eq] at this; omega)
  · rfl

end Sys2Proof.Machine
end

