-- ==== Sys2Proof/Laws/State.lean ====
section
/-! SUPPORT. Laws of State: what each update of a part of it does to every field, and reads of register fields after
writes of them. -/

namespace Sys2Proof.Machine

variable (s : State)

/-! ### set -/

section
variable (r : Fld) (v : Nat)
@[simp] theorem State.set_pending : (s.set r v).pending = s.pending := rfl
@[simp] theorem State.set_free : (s.set r v).free = s.free := rfl
@[simp] theorem State.set_time : (s.set r v).time = s.time := rfl
@[simp] theorem State.set_regs : (s.set r v).regs = Sparse.put r.reset s.regs r.key (low r.w v) := rfl
@[simp] theorem State.set_just : (s.set r v).just = s.noteSet r (low r.w v) := rfl
@[simp] theorem State.set_act : (s.set r v).act = s.act := rfl
@[simp] theorem State.set_dram : (s.set r v).dram = s.dram := rfl
@[simp] theorem State.set_tab0 : (s.set r v).tab0 = s.tab0 := rfl
@[simp] theorem State.set_tab1 : (s.set r v).tab1 = s.tab1 := rfl
@[simp] theorem State.set_mem : (s.set r v).mem = s.mem := rfl
@[simp] theorem State.set_encs : (s.set r v).encs = s.encs := rfl
@[simp] theorem State.set_cmps : (s.set r v).cmps = s.cmps := rfl
@[simp] theorem State.set_ssis : (s.set r v).ssis = s.ssis := rfl
@[simp] theorem State.set_job : (s.set r v).job = s.job := rfl
@[simp] theorem State.set_line : (s.set r v).line = s.line := rfl
@[simp] theorem State.set_tone : (s.set r v).tone = s.tone := rfl
@[simp] theorem State.set_heads : (s.set r v).heads = s.heads := rfl
@[simp] theorem State.set_dma : (s.set r v).dma = s.dma := rfl
@[simp] theorem State.set_cam : (s.set r v).cam = s.cam := rfl
@[simp] theorem State.set_loops : (s.set r v).loops = s.loops := rfl
@[simp] theorem State.set_motion : (s.set r v).motion = s.motion := rfl
@[simp] theorem State.set_pack : (s.set r v).pack = s.pack := rfl
@[simp] theorem State.set_host : (s.set r v).host = s.host := rfl
@[simp] theorem State.set_lanes : (s.set r v).lanes = s.lanes := rfl
@[simp] theorem State.set_ports : (s.set r v).ports = s.ports := rfl
@[simp] theorem State.set_hier : (s.set r v).hier = s.hier := rfl
@[simp] theorem State.set_pair : (s.set r v).pair = s.pair := rfl
@[simp] theorem State.set_otp : (s.set r v).otp = s.otp := rfl
@[simp] theorem State.set_power : (s.set r v).power = s.power := rfl
@[simp] theorem State.set_therm : (s.set r v).therm = s.therm := rfl
@[simp] theorem State.set_tap : (s.set r v).tap = s.tap := rfl
@[simp] theorem State.set_getA (q : Fld) : (s.set r v).getA q = s.getA q := rfl
end

/-! ### setB -/

section
variable (r : Fld) (b : Bool)
@[simp] theorem State.setB_pending : (s.setB r b).pending = s.pending := rfl
@[simp] theorem State.setB_free : (s.setB r b).free = s.free := rfl
@[simp] theorem State.setB_time : (s.setB r b).time = s.time := rfl
@[simp] theorem State.setB_act : (s.setB r b).act = s.act := rfl
@[simp] theorem State.setB_dram : (s.setB r b).dram = s.dram := rfl
@[simp] theorem State.setB_tab0 : (s.setB r b).tab0 = s.tab0 := rfl
@[simp] theorem State.setB_tab1 : (s.setB r b).tab1 = s.tab1 := rfl
@[simp] theorem State.setB_mem : (s.setB r b).mem = s.mem := rfl
@[simp] theorem State.setB_encs : (s.setB r b).encs = s.encs := rfl
@[simp] theorem State.setB_cmps : (s.setB r b).cmps = s.cmps := rfl
@[simp] theorem State.setB_ssis : (s.setB r b).ssis = s.ssis := rfl
@[simp] theorem State.setB_job : (s.setB r b).job = s.job := rfl
@[simp] theorem State.setB_line : (s.setB r b).line = s.line := rfl
@[simp] theorem State.setB_tone : (s.setB r b).tone = s.tone := rfl
@[simp] theorem State.setB_heads : (s.setB r b).heads = s.heads := rfl
@[simp] theorem State.setB_dma : (s.setB r b).dma = s.dma := rfl
@[simp] theorem State.setB_cam : (s.setB r b).cam = s.cam := rfl
@[simp] theorem State.setB_loops : (s.setB r b).loops = s.loops := rfl
@[simp] theorem State.setB_motion : (s.setB r b).motion = s.motion := rfl
@[simp] theorem State.setB_pack : (s.setB r b).pack = s.pack := rfl
@[simp] theorem State.setB_host : (s.setB r b).host = s.host := rfl
@[simp] theorem State.setB_lanes : (s.setB r b).lanes = s.lanes := rfl
@[simp] theorem State.setB_ports : (s.setB r b).ports = s.ports := rfl
@[simp] theorem State.setB_hier : (s.setB r b).hier = s.hier := rfl
@[simp] theorem State.setB_pair : (s.setB r b).pair = s.pair := rfl
@[simp] theorem State.setB_otp : (s.setB r b).otp = s.otp := rfl
@[simp] theorem State.setB_power : (s.setB r b).power = s.power := rfl
@[simp] theorem State.setB_therm : (s.setB r b).therm = s.therm := rfl
@[simp] theorem State.setB_tap : (s.setB r b).tap = s.tap := rfl
@[simp] theorem State.setB_getA (q : Fld) : (s.setB r b).getA q = s.getA q := rfl
end

/-! ### setS -/

section
variable (r : Fld) (i : Int)
@[simp] theorem State.setS_pending : (s.setS r i).pending = s.pending := rfl
@[simp] theorem State.setS_free : (s.setS r i).free = s.free := rfl
@[simp] theorem State.setS_time : (s.setS r i).time = s.time := rfl
@[simp] theorem State.setS_act : (s.setS r i).act = s.act := rfl
@[simp] theorem State.setS_dram : (s.setS r i).dram = s.dram := rfl
@[simp] theorem State.setS_tab0 : (s.setS r i).tab0 = s.tab0 := rfl
@[simp] theorem State.setS_tab1 : (s.setS r i).tab1 = s.tab1 := rfl
@[simp] theorem State.setS_mem : (s.setS r i).mem = s.mem := rfl
@[simp] theorem State.setS_encs : (s.setS r i).encs = s.encs := rfl
@[simp] theorem State.setS_cmps : (s.setS r i).cmps = s.cmps := rfl
@[simp] theorem State.setS_ssis : (s.setS r i).ssis = s.ssis := rfl
@[simp] theorem State.setS_job : (s.setS r i).job = s.job := rfl
@[simp] theorem State.setS_line : (s.setS r i).line = s.line := rfl
@[simp] theorem State.setS_tone : (s.setS r i).tone = s.tone := rfl
@[simp] theorem State.setS_heads : (s.setS r i).heads = s.heads := rfl
@[simp] theorem State.setS_dma : (s.setS r i).dma = s.dma := rfl
@[simp] theorem State.setS_cam : (s.setS r i).cam = s.cam := rfl
@[simp] theorem State.setS_loops : (s.setS r i).loops = s.loops := rfl
@[simp] theorem State.setS_motion : (s.setS r i).motion = s.motion := rfl
@[simp] theorem State.setS_pack : (s.setS r i).pack = s.pack := rfl
@[simp] theorem State.setS_host : (s.setS r i).host = s.host := rfl
@[simp] theorem State.setS_lanes : (s.setS r i).lanes = s.lanes := rfl
@[simp] theorem State.setS_ports : (s.setS r i).ports = s.ports := rfl
@[simp] theorem State.setS_hier : (s.setS r i).hier = s.hier := rfl
@[simp] theorem State.setS_pair : (s.setS r i).pair = s.pair := rfl
@[simp] theorem State.setS_otp : (s.setS r i).otp = s.otp := rfl
@[simp] theorem State.setS_power : (s.setS r i).power = s.power := rfl
@[simp] theorem State.setS_therm : (s.setS r i).therm = s.therm := rfl
@[simp] theorem State.setS_tap : (s.setS r i).tap = s.tap := rfl
@[simp] theorem State.setS_getA (q : Fld) : (s.setS r i).getA q = s.getA q := rfl
end

/-! ### inc -/

section
variable (r : Fld)
@[simp] theorem State.inc_pending : (s.inc r).pending = s.pending := rfl
@[simp] theorem State.inc_free : (s.inc r).free = s.free := rfl
@[simp] theorem State.inc_time : (s.inc r).time = s.time := rfl
@[simp] theorem State.inc_act : (s.inc r).act = s.act := rfl
@[simp] theorem State.inc_dram : (s.inc r).dram = s.dram := rfl
@[simp] theorem State.inc_tab0 : (s.inc r).tab0 = s.tab0 := rfl
@[simp] theorem State.inc_tab1 : (s.inc r).tab1 = s.tab1 := rfl
@[simp] theorem State.inc_mem : (s.inc r).mem = s.mem := rfl
@[simp] theorem State.inc_encs : (s.inc r).encs = s.encs := rfl
@[simp] theorem State.inc_cmps : (s.inc r).cmps = s.cmps := rfl
@[simp] theorem State.inc_ssis : (s.inc r).ssis = s.ssis := rfl
@[simp] theorem State.inc_job : (s.inc r).job = s.job := rfl
@[simp] theorem State.inc_line : (s.inc r).line = s.line := rfl
@[simp] theorem State.inc_tone : (s.inc r).tone = s.tone := rfl
@[simp] theorem State.inc_heads : (s.inc r).heads = s.heads := rfl
@[simp] theorem State.inc_dma : (s.inc r).dma = s.dma := rfl
@[simp] theorem State.inc_cam : (s.inc r).cam = s.cam := rfl
@[simp] theorem State.inc_loops : (s.inc r).loops = s.loops := rfl
@[simp] theorem State.inc_motion : (s.inc r).motion = s.motion := rfl
@[simp] theorem State.inc_pack : (s.inc r).pack = s.pack := rfl
@[simp] theorem State.inc_host : (s.inc r).host = s.host := rfl
@[simp] theorem State.inc_lanes : (s.inc r).lanes = s.lanes := rfl
@[simp] theorem State.inc_ports : (s.inc r).ports = s.ports := rfl
@[simp] theorem State.inc_hier : (s.inc r).hier = s.hier := rfl
@[simp] theorem State.inc_pair : (s.inc r).pair = s.pair := rfl
@[simp] theorem State.inc_otp : (s.inc r).otp = s.otp := rfl
@[simp] theorem State.inc_power : (s.inc r).power = s.power := rfl
@[simp] theorem State.inc_therm : (s.inc r).therm = s.therm := rfl
@[simp] theorem State.inc_tap : (s.inc r).tap = s.tap := rfl
@[simp] theorem State.inc_getA (q : Fld) : (s.inc r).getA q = s.getA q := rfl
end

/-! ### incSat -/

section
variable (r : Fld) (n : Nat)
@[simp] theorem State.incSat_pending : (s.incSat r n).pending = s.pending := rfl
@[simp] theorem State.incSat_free : (s.incSat r n).free = s.free := rfl
@[simp] theorem State.incSat_time : (s.incSat r n).time = s.time := rfl
@[simp] theorem State.incSat_act : (s.incSat r n).act = s.act := rfl
@[simp] theorem State.incSat_dram : (s.incSat r n).dram = s.dram := rfl
@[simp] theorem State.incSat_tab0 : (s.incSat r n).tab0 = s.tab0 := rfl
@[simp] theorem State.incSat_tab1 : (s.incSat r n).tab1 = s.tab1 := rfl
@[simp] theorem State.incSat_mem : (s.incSat r n).mem = s.mem := rfl
@[simp] theorem State.incSat_encs : (s.incSat r n).encs = s.encs := rfl
@[simp] theorem State.incSat_cmps : (s.incSat r n).cmps = s.cmps := rfl
@[simp] theorem State.incSat_ssis : (s.incSat r n).ssis = s.ssis := rfl
@[simp] theorem State.incSat_job : (s.incSat r n).job = s.job := rfl
@[simp] theorem State.incSat_line : (s.incSat r n).line = s.line := rfl
@[simp] theorem State.incSat_tone : (s.incSat r n).tone = s.tone := rfl
@[simp] theorem State.incSat_heads : (s.incSat r n).heads = s.heads := rfl
@[simp] theorem State.incSat_dma : (s.incSat r n).dma = s.dma := rfl
@[simp] theorem State.incSat_cam : (s.incSat r n).cam = s.cam := rfl
@[simp] theorem State.incSat_loops : (s.incSat r n).loops = s.loops := rfl
@[simp] theorem State.incSat_motion : (s.incSat r n).motion = s.motion := rfl
@[simp] theorem State.incSat_pack : (s.incSat r n).pack = s.pack := rfl
@[simp] theorem State.incSat_host : (s.incSat r n).host = s.host := rfl
@[simp] theorem State.incSat_lanes : (s.incSat r n).lanes = s.lanes := rfl
@[simp] theorem State.incSat_ports : (s.incSat r n).ports = s.ports := rfl
@[simp] theorem State.incSat_hier : (s.incSat r n).hier = s.hier := rfl
@[simp] theorem State.incSat_pair : (s.incSat r n).pair = s.pair := rfl
@[simp] theorem State.incSat_otp : (s.incSat r n).otp = s.otp := rfl
@[simp] theorem State.incSat_power : (s.incSat r n).power = s.power := rfl
@[simp] theorem State.incSat_therm : (s.incSat r n).therm = s.therm := rfl
@[simp] theorem State.incSat_tap : (s.incSat r n).tap = s.tap := rfl
@[simp] theorem State.incSat_getA (q : Fld) : (s.incSat r n).getA q = s.getA q := rfl
end

/-! ### clearOnes -/

section
variable (r : Fld) (x : Nat)
@[simp] theorem State.clearOnes_pending : (s.clearOnes r x).pending = s.pending := rfl
@[simp] theorem State.clearOnes_free : (s.clearOnes r x).free = s.free := rfl
@[simp] theorem State.clearOnes_time : (s.clearOnes r x).time = s.time := rfl
@[simp] theorem State.clearOnes_just : (s.clearOnes r x).just = s.just := rfl
@[simp] theorem State.clearOnes_act : (s.clearOnes r x).act = s.act := rfl
@[simp] theorem State.clearOnes_dram : (s.clearOnes r x).dram = s.dram := rfl
@[simp] theorem State.clearOnes_tab0 : (s.clearOnes r x).tab0 = s.tab0 := rfl
@[simp] theorem State.clearOnes_tab1 : (s.clearOnes r x).tab1 = s.tab1 := rfl
@[simp] theorem State.clearOnes_mem : (s.clearOnes r x).mem = s.mem := rfl
@[simp] theorem State.clearOnes_encs : (s.clearOnes r x).encs = s.encs := rfl
@[simp] theorem State.clearOnes_cmps : (s.clearOnes r x).cmps = s.cmps := rfl
@[simp] theorem State.clearOnes_ssis : (s.clearOnes r x).ssis = s.ssis := rfl
@[simp] theorem State.clearOnes_job : (s.clearOnes r x).job = s.job := rfl
@[simp] theorem State.clearOnes_line : (s.clearOnes r x).line = s.line := rfl
@[simp] theorem State.clearOnes_tone : (s.clearOnes r x).tone = s.tone := rfl
@[simp] theorem State.clearOnes_heads : (s.clearOnes r x).heads = s.heads := rfl
@[simp] theorem State.clearOnes_dma : (s.clearOnes r x).dma = s.dma := rfl
@[simp] theorem State.clearOnes_cam : (s.clearOnes r x).cam = s.cam := rfl
@[simp] theorem State.clearOnes_loops : (s.clearOnes r x).loops = s.loops := rfl
@[simp] theorem State.clearOnes_motion : (s.clearOnes r x).motion = s.motion := rfl
@[simp] theorem State.clearOnes_pack : (s.clearOnes r x).pack = s.pack := rfl
@[simp] theorem State.clearOnes_host : (s.clearOnes r x).host = s.host := rfl
@[simp] theorem State.clearOnes_lanes : (s.clearOnes r x).lanes = s.lanes := rfl
@[simp] theorem State.clearOnes_ports : (s.clearOnes r x).ports = s.ports := rfl
@[simp] theorem State.clearOnes_hier : (s.clearOnes r x).hier = s.hier := rfl
@[simp] theorem State.clearOnes_pair : (s.clearOnes r x).pair = s.pair := rfl
@[simp] theorem State.clearOnes_otp : (s.clearOnes r x).otp = s.otp := rfl
@[simp] theorem State.clearOnes_power : (s.clearOnes r x).power = s.power := rfl
@[simp] theorem State.clearOnes_therm : (s.clearOnes r x).therm = s.therm := rfl
@[simp] theorem State.clearOnes_tap : (s.clearOnes r x).tap = s.tap := rfl
@[simp] theorem State.clearOnes_getA (q : Fld) : (s.clearOnes r x).getA q = s.getA q := rfl
end

/-! ### flip -/

section
variable (r : Fld)
@[simp] theorem State.flip_pending : (s.flip r).pending = s.pending := rfl
@[simp] theorem State.flip_free : (s.flip r).free = s.free := rfl
@[simp] theorem State.flip_time : (s.flip r).time = s.time := rfl
@[simp] theorem State.flip_regs : (s.flip r).regs = s.regs := rfl
@[simp] theorem State.flip_just : (s.flip r).just = s.just := rfl
@[simp] theorem State.flip_act : (s.flip r).act = Sparse.put r.reset s.act r.key (s.get r) := rfl
@[simp] theorem State.flip_dram : (s.flip r).dram = s.dram := rfl
@[simp] theorem State.flip_tab0 : (s.flip r).tab0 = s.tab0 := rfl
@[simp] theorem State.flip_tab1 : (s.flip r).tab1 = s.tab1 := rfl
@[simp] theorem State.flip_mem : (s.flip r).mem = s.mem := rfl
@[simp] theorem State.flip_encs : (s.flip r).encs = s.encs := rfl
@[simp] theorem State.flip_cmps : (s.flip r).cmps = s.cmps := rfl
@[simp] theorem State.flip_ssis : (s.flip r).ssis = s.ssis := rfl
@[simp] theorem State.flip_job : (s.flip r).job = s.job := rfl
@[simp] theorem State.flip_line : (s.flip r).line = s.line := rfl
@[simp] theorem State.flip_tone : (s.flip r).tone = s.tone := rfl
@[simp] theorem State.flip_heads : (s.flip r).heads = s.heads := rfl
@[simp] theorem State.flip_dma : (s.flip r).dma = s.dma := rfl
@[simp] theorem State.flip_cam : (s.flip r).cam = s.cam := rfl
@[simp] theorem State.flip_loops : (s.flip r).loops = s.loops := rfl
@[simp] theorem State.flip_motion : (s.flip r).motion = s.motion := rfl
@[simp] theorem State.flip_pack : (s.flip r).pack = s.pack := rfl
@[simp] theorem State.flip_host : (s.flip r).host = s.host := rfl
@[simp] theorem State.flip_lanes : (s.flip r).lanes = s.lanes := rfl
@[simp] theorem State.flip_ports : (s.flip r).ports = s.ports := rfl
@[simp] theorem State.flip_hier : (s.flip r).hier = s.hier := rfl
@[simp] theorem State.flip_pair : (s.flip r).pair = s.pair := rfl
@[simp] theorem State.flip_otp : (s.flip r).otp = s.otp := rfl
@[simp] theorem State.flip_power : (s.flip r).power = s.power := rfl
@[simp] theorem State.flip_therm : (s.flip r).therm = s.therm := rfl
@[simp] theorem State.flip_tap : (s.flip r).tap = s.tap := rfl
@[simp] theorem State.flip_get (q : Fld) : (s.flip r).get q = s.get q := rfl
@[simp] theorem State.flip_flag (q : Fld) : (s.flip r).flag q = s.flag q := rfl
@[simp] theorem State.flip_getS (q : Fld) : (s.flip r).getS q = s.getS q := rfl
end

/-! ### used -/

section
@[simp] theorem State.used_pending : (s.used).pending = s.pending := rfl
@[simp] theorem State.used_free : (s.used).free = s.free + 1 := rfl
@[simp] theorem State.used_time : (s.used).time = s.time := rfl
@[simp] theorem State.used_regs : (s.used).regs = s.regs := rfl
@[simp] theorem State.used_just : (s.used).just = s.just := rfl
@[simp] theorem State.used_act : (s.used).act = s.act := rfl
@[simp] theorem State.used_dram : (s.used).dram = s.dram := rfl
@[simp] theorem State.used_tab0 : (s.used).tab0 = s.tab0 := rfl
@[simp] theorem State.used_tab1 : (s.used).tab1 = s.tab1 := rfl
@[simp] theorem State.used_mem : (s.used).mem = s.mem := rfl
@[simp] theorem State.used_encs : (s.used).encs = s.encs := rfl
@[simp] theorem State.used_cmps : (s.used).cmps = s.cmps := rfl
@[simp] theorem State.used_ssis : (s.used).ssis = s.ssis := rfl
@[simp] theorem State.used_job : (s.used).job = s.job := rfl
@[simp] theorem State.used_line : (s.used).line = s.line := rfl
@[simp] theorem State.used_tone : (s.used).tone = s.tone := rfl
@[simp] theorem State.used_heads : (s.used).heads = s.heads := rfl
@[simp] theorem State.used_dma : (s.used).dma = s.dma := rfl
@[simp] theorem State.used_cam : (s.used).cam = s.cam := rfl
@[simp] theorem State.used_loops : (s.used).loops = s.loops := rfl
@[simp] theorem State.used_motion : (s.used).motion = s.motion := rfl
@[simp] theorem State.used_pack : (s.used).pack = s.pack := rfl
@[simp] theorem State.used_host : (s.used).host = s.host := rfl
@[simp] theorem State.used_lanes : (s.used).lanes = s.lanes := rfl
@[simp] theorem State.used_ports : (s.used).ports = s.ports := rfl
@[simp] theorem State.used_hier : (s.used).hier = s.hier := rfl
@[simp] theorem State.used_pair : (s.used).pair = s.pair := rfl
@[simp] theorem State.used_otp : (s.used).otp = s.otp := rfl
@[simp] theorem State.used_power : (s.used).power = s.power := rfl
@[simp] theorem State.used_therm : (s.used).therm = s.therm := rfl
@[simp] theorem State.used_tap : (s.used).tap = s.tap := rfl
@[simp] theorem State.used_get (q : Fld) : (s.used).get q = s.get q := rfl
@[simp] theorem State.used_flag (q : Fld) : (s.used).flag q = s.flag q := rfl
@[simp] theorem State.used_getS (q : Fld) : (s.used).getS q = s.getS q := rfl
@[simp] theorem State.used_getA (q : Fld) : (s.used).getA q = s.getA q := rfl
end

/-! ### modPlane -/

section
variable (p : Nat) (f : PlaneSt → PlaneSt)
@[simp] theorem State.modPlane_pending : (s.modPlane p f).pending = s.pending := rfl
@[simp] theorem State.modPlane_free : (s.modPlane p f).free = s.free := rfl
@[simp] theorem State.modPlane_time : (s.modPlane p f).time = s.time := rfl
@[simp] theorem State.modPlane_regs : (s.modPlane p f).regs = s.regs := rfl
@[simp] theorem State.modPlane_just : (s.modPlane p f).just = s.just := rfl
@[simp] theorem State.modPlane_act : (s.modPlane p f).act = s.act := rfl
@[simp] theorem State.modPlane_dram : (s.modPlane p f).dram = s.dram := rfl
@[simp] theorem State.modPlane_tab0 : (s.modPlane p f).tab0 = s.tab0 := rfl
@[simp] theorem State.modPlane_tab1 : (s.modPlane p f).tab1 = s.tab1 := rfl
@[simp] theorem State.modPlane_mem : (s.modPlane p f).mem = s.mem := rfl
@[simp] theorem State.modPlane_encs : (s.modPlane p f).encs = s.encs := rfl
@[simp] theorem State.modPlane_cmps : (s.modPlane p f).cmps = s.cmps := rfl
@[simp] theorem State.modPlane_ssis : (s.modPlane p f).ssis = s.ssis := rfl
@[simp] theorem State.modPlane_job : (s.modPlane p f).job = s.job := rfl
@[simp] theorem State.modPlane_line : (s.modPlane p f).line = { s.line with planes := modAt f p s.line.planes } := rfl
@[simp] theorem State.modPlane_tone : (s.modPlane p f).tone = s.tone := rfl
@[simp] theorem State.modPlane_heads : (s.modPlane p f).heads = s.heads := rfl
@[simp] theorem State.modPlane_dma : (s.modPlane p f).dma = s.dma := rfl
@[simp] theorem State.modPlane_cam : (s.modPlane p f).cam = s.cam := rfl
@[simp] theorem State.modPlane_loops : (s.modPlane p f).loops = s.loops := rfl
@[simp] theorem State.modPlane_motion : (s.modPlane p f).motion = s.motion := rfl
@[simp] theorem State.modPlane_pack : (s.modPlane p f).pack = s.pack := rfl
@[simp] theorem State.modPlane_host : (s.modPlane p f).host = s.host := rfl
@[simp] theorem State.modPlane_lanes : (s.modPlane p f).lanes = s.lanes := rfl
@[simp] theorem State.modPlane_ports : (s.modPlane p f).ports = s.ports := rfl
@[simp] theorem State.modPlane_hier : (s.modPlane p f).hier = s.hier := rfl
@[simp] theorem State.modPlane_pair : (s.modPlane p f).pair = s.pair := rfl
@[simp] theorem State.modPlane_otp : (s.modPlane p f).otp = s.otp := rfl
@[simp] theorem State.modPlane_power : (s.modPlane p f).power = s.power := rfl
@[simp] theorem State.modPlane_therm : (s.modPlane p f).therm = s.therm := rfl
@[simp] theorem State.modPlane_tap : (s.modPlane p f).tap = s.tap := rfl
@[simp] theorem State.modPlane_get (q : Fld) : (s.modPlane p f).get q = s.get q := rfl
@[simp] theorem State.modPlane_flag (q : Fld) : (s.modPlane p f).flag q = s.flag q := rfl
@[simp] theorem State.modPlane_getS (q : Fld) : (s.modPlane p f).getS q = s.getS q := rfl
@[simp] theorem State.modPlane_getA (q : Fld) : (s.modPlane p f).getA q = s.getA q := rfl
end

/-! ### modRing -/

section
variable (p : Nat) (f : Ring → Ring)
@[simp] theorem State.modRing_pending : (s.modRing p f).pending = s.pending := rfl
@[simp] theorem State.modRing_free : (s.modRing p f).free = s.free := rfl
@[simp] theorem State.modRing_time : (s.modRing p f).time = s.time := rfl
@[simp] theorem State.modRing_regs : (s.modRing p f).regs = s.regs := rfl
@[simp] theorem State.modRing_just : (s.modRing p f).just = s.just := rfl
@[simp] theorem State.modRing_act : (s.modRing p f).act = s.act := rfl
@[simp] theorem State.modRing_dram : (s.modRing p f).dram = s.dram := rfl
@[simp] theorem State.modRing_tab0 : (s.modRing p f).tab0 = s.tab0 := rfl
@[simp] theorem State.modRing_tab1 : (s.modRing p f).tab1 = s.tab1 := rfl
@[simp] theorem State.modRing_mem : (s.modRing p f).mem = s.mem := rfl
@[simp] theorem State.modRing_encs : (s.modRing p f).encs = s.encs := rfl
@[simp] theorem State.modRing_cmps : (s.modRing p f).cmps = s.cmps := rfl
@[simp] theorem State.modRing_ssis : (s.modRing p f).ssis = s.ssis := rfl
@[simp] theorem State.modRing_job : (s.modRing p f).job = { s.job with rings := modAt f p s.job.rings } := rfl
@[simp] theorem State.modRing_line : (s.modRing p f).line = s.line := rfl
@[simp] theorem State.modRing_tone : (s.modRing p f).tone = s.tone := rfl
@[simp] theorem State.modRing_heads : (s.modRing p f).heads = s.heads := rfl
@[simp] theorem State.modRing_dma : (s.modRing p f).dma = s.dma := rfl
@[simp] theorem State.modRing_cam : (s.modRing p f).cam = s.cam := rfl
@[simp] theorem State.modRing_loops : (s.modRing p f).loops = s.loops := rfl
@[simp] theorem State.modRing_motion : (s.modRing p f).motion = s.motion := rfl
@[simp] theorem State.modRing_pack : (s.modRing p f).pack = s.pack := rfl
@[simp] theorem State.modRing_host : (s.modRing p f).host = s.host := rfl
@[simp] theorem State.modRing_lanes : (s.modRing p f).lanes = s.lanes := rfl
@[simp] theorem State.modRing_ports : (s.modRing p f).ports = s.ports := rfl
@[simp] theorem State.modRing_hier : (s.modRing p f).hier = s.hier := rfl
@[simp] theorem State.modRing_pair : (s.modRing p f).pair = s.pair := rfl
@[simp] theorem State.modRing_otp : (s.modRing p f).otp = s.otp := rfl
@[simp] theorem State.modRing_power : (s.modRing p f).power = s.power := rfl
@[simp] theorem State.modRing_therm : (s.modRing p f).therm = s.therm := rfl
@[simp] theorem State.modRing_tap : (s.modRing p f).tap = s.tap := rfl
@[simp] theorem State.modRing_get (q : Fld) : (s.modRing p f).get q = s.get q := rfl
@[simp] theorem State.modRing_flag (q : Fld) : (s.modRing p f).flag q = s.flag q := rfl
@[simp] theorem State.modRing_getS (q : Fld) : (s.modRing p f).getS q = s.getS q := rfl
@[simp] theorem State.modRing_getA (q : Fld) : (s.modRing p f).getA q = s.getA q := rfl
end

/-! ### modRunning -/

section
variable (f : JobRun → JobRun)
@[simp] theorem State.modRunning_pending : (s.modRunning f).pending = s.pending := rfl
@[simp] theorem State.modRunning_free : (s.modRunning f).free = s.free := rfl
@[simp] theorem State.modRunning_time : (s.modRunning f).time = s.time := rfl
@[simp] theorem State.modRunning_regs : (s.modRunning f).regs = s.regs := rfl
@[simp] theorem State.modRunning_just : (s.modRunning f).just = s.just := rfl
@[simp] theorem State.modRunning_act : (s.modRunning f).act = s.act := rfl
@[simp] theorem State.modRunning_dram : (s.modRunning f).dram = s.dram := rfl
@[simp] theorem State.modRunning_tab0 : (s.modRunning f).tab0 = s.tab0 := rfl
@[simp] theorem State.modRunning_tab1 : (s.modRunning f).tab1 = s.tab1 := rfl
@[simp] theorem State.modRunning_mem : (s.modRunning f).mem = s.mem := rfl
@[simp] theorem State.modRunning_encs : (s.modRunning f).encs = s.encs := rfl
@[simp] theorem State.modRunning_cmps : (s.modRunning f).cmps = s.cmps := rfl
@[simp] theorem State.modRunning_ssis : (s.modRunning f).ssis = s.ssis := rfl
@[simp] theorem State.modRunning_job : (s.modRunning f).job = { s.job with running := s.job.running.map f } := rfl
@[simp] theorem State.modRunning_line : (s.modRunning f).line = s.line := rfl
@[simp] theorem State.modRunning_tone : (s.modRunning f).tone = s.tone := rfl
@[simp] theorem State.modRunning_heads : (s.modRunning f).heads = s.heads := rfl
@[simp] theorem State.modRunning_dma : (s.modRunning f).dma = s.dma := rfl
@[simp] theorem State.modRunning_cam : (s.modRunning f).cam = s.cam := rfl
@[simp] theorem State.modRunning_loops : (s.modRunning f).loops = s.loops := rfl
@[simp] theorem State.modRunning_motion : (s.modRunning f).motion = s.motion := rfl
@[simp] theorem State.modRunning_pack : (s.modRunning f).pack = s.pack := rfl
@[simp] theorem State.modRunning_host : (s.modRunning f).host = s.host := rfl
@[simp] theorem State.modRunning_lanes : (s.modRunning f).lanes = s.lanes := rfl
@[simp] theorem State.modRunning_ports : (s.modRunning f).ports = s.ports := rfl
@[simp] theorem State.modRunning_hier : (s.modRunning f).hier = s.hier := rfl
@[simp] theorem State.modRunning_pair : (s.modRunning f).pair = s.pair := rfl
@[simp] theorem State.modRunning_otp : (s.modRunning f).otp = s.otp := rfl
@[simp] theorem State.modRunning_power : (s.modRunning f).power = s.power := rfl
@[simp] theorem State.modRunning_therm : (s.modRunning f).therm = s.therm := rfl
@[simp] theorem State.modRunning_tap : (s.modRunning f).tap = s.tap := rfl
@[simp] theorem State.modRunning_get (q : Fld) : (s.modRunning f).get q = s.get q := rfl
@[simp] theorem State.modRunning_flag (q : Fld) : (s.modRunning f).flag q = s.flag q := rfl
@[simp] theorem State.modRunning_getS (q : Fld) : (s.modRunning f).getS q = s.getS q := rfl
@[simp] theorem State.modRunning_getA (q : Fld) : (s.modRunning f).getA q = s.getA q := rfl
end

/-! ### modQueued -/

section
variable (f : JobRun → JobRun)
@[simp] theorem State.modQueued_pending : (s.modQueued f).pending = s.pending := rfl
@[simp] theorem State.modQueued_free : (s.modQueued f).free = s.free := rfl
@[simp] theorem State.modQueued_time : (s.modQueued f).time = s.time := rfl
@[simp] theorem State.modQueued_regs : (s.modQueued f).regs = s.regs := rfl
@[simp] theorem State.modQueued_just : (s.modQueued f).just = s.just := rfl
@[simp] theorem State.modQueued_act : (s.modQueued f).act = s.act := rfl
@[simp] theorem State.modQueued_dram : (s.modQueued f).dram = s.dram := rfl
@[simp] theorem State.modQueued_tab0 : (s.modQueued f).tab0 = s.tab0 := rfl
@[simp] theorem State.modQueued_tab1 : (s.modQueued f).tab1 = s.tab1 := rfl
@[simp] theorem State.modQueued_mem : (s.modQueued f).mem = s.mem := rfl
@[simp] theorem State.modQueued_encs : (s.modQueued f).encs = s.encs := rfl
@[simp] theorem State.modQueued_cmps : (s.modQueued f).cmps = s.cmps := rfl
@[simp] theorem State.modQueued_ssis : (s.modQueued f).ssis = s.ssis := rfl
@[simp] theorem State.modQueued_job : (s.modQueued f).job = { s.job with queued := s.job.queued.map f } := rfl
@[simp] theorem State.modQueued_line : (s.modQueued f).line = s.line := rfl
@[simp] theorem State.modQueued_tone : (s.modQueued f).tone = s.tone := rfl
@[simp] theorem State.modQueued_heads : (s.modQueued f).heads = s.heads := rfl
@[simp] theorem State.modQueued_dma : (s.modQueued f).dma = s.dma := rfl
@[simp] theorem State.modQueued_cam : (s.modQueued f).cam = s.cam := rfl
@[simp] theorem State.modQueued_loops : (s.modQueued f).loops = s.loops := rfl
@[simp] theorem State.modQueued_motion : (s.modQueued f).motion = s.motion := rfl
@[simp] theorem State.modQueued_pack : (s.modQueued f).pack = s.pack := rfl
@[simp] theorem State.modQueued_host : (s.modQueued f).host = s.host := rfl
@[simp] theorem State.modQueued_lanes : (s.modQueued f).lanes = s.lanes := rfl
@[simp] theorem State.modQueued_ports : (s.modQueued f).ports = s.ports := rfl
@[simp] theorem State.modQueued_hier : (s.modQueued f).hier = s.hier := rfl
@[simp] theorem State.modQueued_pair : (s.modQueued f).pair = s.pair := rfl
@[simp] theorem State.modQueued_otp : (s.modQueued f).otp = s.otp := rfl
@[simp] theorem State.modQueued_power : (s.modQueued f).power = s.power := rfl
@[simp] theorem State.modQueued_therm : (s.modQueued f).therm = s.therm := rfl
@[simp] theorem State.modQueued_tap : (s.modQueued f).tap = s.tap := rfl
@[simp] theorem State.modQueued_get (q : Fld) : (s.modQueued f).get q = s.get q := rfl
@[simp] theorem State.modQueued_flag (q : Fld) : (s.modQueued f).flag q = s.flag q := rfl
@[simp] theorem State.modQueued_getS (q : Fld) : (s.modQueued f).getS q = s.getS q := rfl
@[simp] theorem State.modQueued_getA (q : Fld) : (s.modQueued f).getA q = s.getA q := rfl
end

/-! ### modDma -/

section
variable (n : Nat) (f : DmaCh → DmaCh)
@[simp] theorem State.modDma_pending : (s.modDma n f).pending = s.pending := rfl
@[simp] theorem State.modDma_free : (s.modDma n f).free = s.free := rfl
@[simp] theorem State.modDma_time : (s.modDma n f).time = s.time := rfl
@[simp] theorem State.modDma_regs : (s.modDma n f).regs = s.regs := rfl
@[simp] theorem State.modDma_just : (s.modDma n f).just = s.just := rfl
@[simp] theorem State.modDma_act : (s.modDma n f).act = s.act := rfl
@[simp] theorem State.modDma_dram : (s.modDma n f).dram = s.dram := rfl
@[simp] theorem State.modDma_tab0 : (s.modDma n f).tab0 = s.tab0 := rfl
@[simp] theorem State.modDma_tab1 : (s.modDma n f).tab1 = s.tab1 := rfl
@[simp] theorem State.modDma_mem : (s.modDma n f).mem = s.mem := rfl
@[simp] theorem State.modDma_encs : (s.modDma n f).encs = s.encs := rfl
@[simp] theorem State.modDma_cmps : (s.modDma n f).cmps = s.cmps := rfl
@[simp] theorem State.modDma_ssis : (s.modDma n f).ssis = s.ssis := rfl
@[simp] theorem State.modDma_job : (s.modDma n f).job = s.job := rfl
@[simp] theorem State.modDma_line : (s.modDma n f).line = s.line := rfl
@[simp] theorem State.modDma_tone : (s.modDma n f).tone = s.tone := rfl
@[simp] theorem State.modDma_heads : (s.modDma n f).heads = s.heads := rfl
@[simp] theorem State.modDma_dma : (s.modDma n f).dma = modAt f n s.dma := rfl
@[simp] theorem State.modDma_cam : (s.modDma n f).cam = s.cam := rfl
@[simp] theorem State.modDma_loops : (s.modDma n f).loops = s.loops := rfl
@[simp] theorem State.modDma_motion : (s.modDma n f).motion = s.motion := rfl
@[simp] theorem State.modDma_pack : (s.modDma n f).pack = s.pack := rfl
@[simp] theorem State.modDma_host : (s.modDma n f).host = s.host := rfl
@[simp] theorem State.modDma_lanes : (s.modDma n f).lanes = s.lanes := rfl
@[simp] theorem State.modDma_ports : (s.modDma n f).ports = s.ports := rfl
@[simp] theorem State.modDma_hier : (s.modDma n f).hier = s.hier := rfl
@[simp] theorem State.modDma_pair : (s.modDma n f).pair = s.pair := rfl
@[simp] theorem State.modDma_otp : (s.modDma n f).otp = s.otp := rfl
@[simp] theorem State.modDma_power : (s.modDma n f).power = s.power := rfl
@[simp] theorem State.modDma_therm : (s.modDma n f).therm = s.therm := rfl
@[simp] theorem State.modDma_tap : (s.modDma n f).tap = s.tap := rfl
@[simp] theorem State.modDma_get (q : Fld) : (s.modDma n f).get q = s.get q := rfl
@[simp] theorem State.modDma_flag (q : Fld) : (s.modDma n f).flag q = s.flag q := rfl
@[simp] theorem State.modDma_getS (q : Fld) : (s.modDma n f).getS q = s.getS q := rfl
@[simp] theorem State.modDma_getA (q : Fld) : (s.modDma n f).getA q = s.getA q := rfl
end

/-! ### modEnc -/

section
variable (e : Nat) (f : Enc → Enc)
@[simp] theorem State.modEnc_pending : (s.modEnc e f).pending = s.pending := rfl
@[simp] theorem State.modEnc_free : (s.modEnc e f).free = s.free := rfl
@[simp] theorem State.modEnc_time : (s.modEnc e f).time = s.time := rfl
@[simp] theorem State.modEnc_regs : (s.modEnc e f).regs = s.regs := rfl
@[simp] theorem State.modEnc_just : (s.modEnc e f).just = s.just := rfl
@[simp] theorem State.modEnc_act : (s.modEnc e f).act = s.act := rfl
@[simp] theorem State.modEnc_dram : (s.modEnc e f).dram = s.dram := rfl
@[simp] theorem State.modEnc_tab0 : (s.modEnc e f).tab0 = s.tab0 := rfl
@[simp] theorem State.modEnc_tab1 : (s.modEnc e f).tab1 = s.tab1 := rfl
@[simp] theorem State.modEnc_mem : (s.modEnc e f).mem = s.mem := rfl
@[simp] theorem State.modEnc_encs : (s.modEnc e f).encs = modAt f e s.encs := rfl
@[simp] theorem State.modEnc_cmps : (s.modEnc e f).cmps = s.cmps := rfl
@[simp] theorem State.modEnc_ssis : (s.modEnc e f).ssis = s.ssis := rfl
@[simp] theorem State.modEnc_job : (s.modEnc e f).job = s.job := rfl
@[simp] theorem State.modEnc_line : (s.modEnc e f).line = s.line := rfl
@[simp] theorem State.modEnc_tone : (s.modEnc e f).tone = s.tone := rfl
@[simp] theorem State.modEnc_heads : (s.modEnc e f).heads = s.heads := rfl
@[simp] theorem State.modEnc_dma : (s.modEnc e f).dma = s.dma := rfl
@[simp] theorem State.modEnc_cam : (s.modEnc e f).cam = s.cam := rfl
@[simp] theorem State.modEnc_loops : (s.modEnc e f).loops = s.loops := rfl
@[simp] theorem State.modEnc_motion : (s.modEnc e f).motion = s.motion := rfl
@[simp] theorem State.modEnc_pack : (s.modEnc e f).pack = s.pack := rfl
@[simp] theorem State.modEnc_host : (s.modEnc e f).host = s.host := rfl
@[simp] theorem State.modEnc_lanes : (s.modEnc e f).lanes = s.lanes := rfl
@[simp] theorem State.modEnc_ports : (s.modEnc e f).ports = s.ports := rfl
@[simp] theorem State.modEnc_hier : (s.modEnc e f).hier = s.hier := rfl
@[simp] theorem State.modEnc_pair : (s.modEnc e f).pair = s.pair := rfl
@[simp] theorem State.modEnc_otp : (s.modEnc e f).otp = s.otp := rfl
@[simp] theorem State.modEnc_power : (s.modEnc e f).power = s.power := rfl
@[simp] theorem State.modEnc_therm : (s.modEnc e f).therm = s.therm := rfl
@[simp] theorem State.modEnc_tap : (s.modEnc e f).tap = s.tap := rfl
@[simp] theorem State.modEnc_get (q : Fld) : (s.modEnc e f).get q = s.get q := rfl
@[simp] theorem State.modEnc_flag (q : Fld) : (s.modEnc e f).flag q = s.flag q := rfl
@[simp] theorem State.modEnc_getS (q : Fld) : (s.modEnc e f).getS q = s.getS q := rfl
@[simp] theorem State.modEnc_getA (q : Fld) : (s.modEnc e f).getA q = s.getA q := rfl
end

/-! ### modCmp -/

section
variable (u : Nat) (f : Cmp → Cmp)
@[simp] theorem State.modCmp_pending : (s.modCmp u f).pending = s.pending := rfl
@[simp] theorem State.modCmp_free : (s.modCmp u f).free = s.free := rfl
@[simp] theorem State.modCmp_time : (s.modCmp u f).time = s.time := rfl
@[simp] theorem State.modCmp_regs : (s.modCmp u f).regs = s.regs := rfl
@[simp] theorem State.modCmp_just : (s.modCmp u f).just = s.just := rfl
@[simp] theorem State.modCmp_act : (s.modCmp u f).act = s.act := rfl
@[simp] theorem State.modCmp_dram : (s.modCmp u f).dram = s.dram := rfl
@[simp] theorem State.modCmp_tab0 : (s.modCmp u f).tab0 = s.tab0 := rfl
@[simp] theorem State.modCmp_tab1 : (s.modCmp u f).tab1 = s.tab1 := rfl
@[simp] theorem State.modCmp_mem : (s.modCmp u f).mem = s.mem := rfl
@[simp] theorem State.modCmp_encs : (s.modCmp u f).encs = s.encs := rfl
@[simp] theorem State.modCmp_cmps : (s.modCmp u f).cmps = modAt f u s.cmps := rfl
@[simp] theorem State.modCmp_ssis : (s.modCmp u f).ssis = s.ssis := rfl
@[simp] theorem State.modCmp_job : (s.modCmp u f).job = s.job := rfl
@[simp] theorem State.modCmp_line : (s.modCmp u f).line = s.line := rfl
@[simp] theorem State.modCmp_tone : (s.modCmp u f).tone = s.tone := rfl
@[simp] theorem State.modCmp_heads : (s.modCmp u f).heads = s.heads := rfl
@[simp] theorem State.modCmp_dma : (s.modCmp u f).dma = s.dma := rfl
@[simp] theorem State.modCmp_cam : (s.modCmp u f).cam = s.cam := rfl
@[simp] theorem State.modCmp_loops : (s.modCmp u f).loops = s.loops := rfl
@[simp] theorem State.modCmp_motion : (s.modCmp u f).motion = s.motion := rfl
@[simp] theorem State.modCmp_pack : (s.modCmp u f).pack = s.pack := rfl
@[simp] theorem State.modCmp_host : (s.modCmp u f).host = s.host := rfl
@[simp] theorem State.modCmp_lanes : (s.modCmp u f).lanes = s.lanes := rfl
@[simp] theorem State.modCmp_ports : (s.modCmp u f).ports = s.ports := rfl
@[simp] theorem State.modCmp_hier : (s.modCmp u f).hier = s.hier := rfl
@[simp] theorem State.modCmp_pair : (s.modCmp u f).pair = s.pair := rfl
@[simp] theorem State.modCmp_otp : (s.modCmp u f).otp = s.otp := rfl
@[simp] theorem State.modCmp_power : (s.modCmp u f).power = s.power := rfl
@[simp] theorem State.modCmp_therm : (s.modCmp u f).therm = s.therm := rfl
@[simp] theorem State.modCmp_tap : (s.modCmp u f).tap = s.tap := rfl
@[simp] theorem State.modCmp_get (q : Fld) : (s.modCmp u f).get q = s.get q := rfl
@[simp] theorem State.modCmp_flag (q : Fld) : (s.modCmp u f).flag q = s.flag q := rfl
@[simp] theorem State.modCmp_getS (q : Fld) : (s.modCmp u f).getS q = s.getS q := rfl
@[simp] theorem State.modCmp_getA (q : Fld) : (s.modCmp u f).getA q = s.getA q := rfl
end

/-! ### modSsi -/

section
variable (k : Nat) (f : Ssi → Ssi)
@[simp] theorem State.modSsi_pending : (s.modSsi k f).pending = s.pending := rfl
@[simp] theorem State.modSsi_free : (s.modSsi k f).free = s.free := rfl
@[simp] theorem State.modSsi_time : (s.modSsi k f).time = s.time := rfl
@[simp] theorem State.modSsi_regs : (s.modSsi k f).regs = s.regs := rfl
@[simp] theorem State.modSsi_just : (s.modSsi k f).just = s.just := rfl
@[simp] theorem State.modSsi_act : (s.modSsi k f).act = s.act := rfl
@[simp] theorem State.modSsi_dram : (s.modSsi k f).dram = s.dram := rfl
@[simp] theorem State.modSsi_tab0 : (s.modSsi k f).tab0 = s.tab0 := rfl
@[simp] theorem State.modSsi_tab1 : (s.modSsi k f).tab1 = s.tab1 := rfl
@[simp] theorem State.modSsi_mem : (s.modSsi k f).mem = s.mem := rfl
@[simp] theorem State.modSsi_encs : (s.modSsi k f).encs = s.encs := rfl
@[simp] theorem State.modSsi_cmps : (s.modSsi k f).cmps = s.cmps := rfl
@[simp] theorem State.modSsi_ssis : (s.modSsi k f).ssis = modAt f k s.ssis := rfl
@[simp] theorem State.modSsi_job : (s.modSsi k f).job = s.job := rfl
@[simp] theorem State.modSsi_line : (s.modSsi k f).line = s.line := rfl
@[simp] theorem State.modSsi_tone : (s.modSsi k f).tone = s.tone := rfl
@[simp] theorem State.modSsi_heads : (s.modSsi k f).heads = s.heads := rfl
@[simp] theorem State.modSsi_dma : (s.modSsi k f).dma = s.dma := rfl
@[simp] theorem State.modSsi_cam : (s.modSsi k f).cam = s.cam := rfl
@[simp] theorem State.modSsi_loops : (s.modSsi k f).loops = s.loops := rfl
@[simp] theorem State.modSsi_motion : (s.modSsi k f).motion = s.motion := rfl
@[simp] theorem State.modSsi_pack : (s.modSsi k f).pack = s.pack := rfl
@[simp] theorem State.modSsi_host : (s.modSsi k f).host = s.host := rfl
@[simp] theorem State.modSsi_lanes : (s.modSsi k f).lanes = s.lanes := rfl
@[simp] theorem State.modSsi_ports : (s.modSsi k f).ports = s.ports := rfl
@[simp] theorem State.modSsi_hier : (s.modSsi k f).hier = s.hier := rfl
@[simp] theorem State.modSsi_pair : (s.modSsi k f).pair = s.pair := rfl
@[simp] theorem State.modSsi_otp : (s.modSsi k f).otp = s.otp := rfl
@[simp] theorem State.modSsi_power : (s.modSsi k f).power = s.power := rfl
@[simp] theorem State.modSsi_therm : (s.modSsi k f).therm = s.therm := rfl
@[simp] theorem State.modSsi_tap : (s.modSsi k f).tap = s.tap := rfl
@[simp] theorem State.modSsi_get (q : Fld) : (s.modSsi k f).get q = s.get q := rfl
@[simp] theorem State.modSsi_flag (q : Fld) : (s.modSsi k f).flag q = s.flag q := rfl
@[simp] theorem State.modSsi_getS (q : Fld) : (s.modSsi k f).getS q = s.getS q := rfl
@[simp] theorem State.modSsi_getA (q : Fld) : (s.modSsi k f).getA q = s.getA q := rfl
end

/-! ### modHead -/

section
variable (n : Nat) (f : HeadPort → HeadPort)
@[simp] theorem State.modHead_pending : (s.modHead n f).pending = s.pending := rfl
@[simp] theorem State.modHead_free : (s.modHead n f).free = s.free := rfl
@[simp] theorem State.modHead_time : (s.modHead n f).time = s.time := rfl
@[simp] theorem State.modHead_regs : (s.modHead n f).regs = s.regs := rfl
@[simp] theorem State.modHead_just : (s.modHead n f).just = s.just := rfl
@[simp] theorem State.modHead_act : (s.modHead n f).act = s.act := rfl
@[simp] theorem State.modHead_dram : (s.modHead n f).dram = s.dram := rfl
@[simp] theorem State.modHead_tab0 : (s.modHead n f).tab0 = s.tab0 := rfl
@[simp] theorem State.modHead_tab1 : (s.modHead n f).tab1 = s.tab1 := rfl
@[simp] theorem State.modHead_mem : (s.modHead n f).mem = s.mem := rfl
@[simp] theorem State.modHead_encs : (s.modHead n f).encs = s.encs := rfl
@[simp] theorem State.modHead_cmps : (s.modHead n f).cmps = s.cmps := rfl
@[simp] theorem State.modHead_ssis : (s.modHead n f).ssis = s.ssis := rfl
@[simp] theorem State.modHead_job : (s.modHead n f).job = s.job := rfl
@[simp] theorem State.modHead_line : (s.modHead n f).line = s.line := rfl
@[simp] theorem State.modHead_tone : (s.modHead n f).tone = s.tone := rfl
@[simp] theorem State.modHead_heads : (s.modHead n f).heads = modAt f n s.heads := rfl
@[simp] theorem State.modHead_dma : (s.modHead n f).dma = s.dma := rfl
@[simp] theorem State.modHead_cam : (s.modHead n f).cam = s.cam := rfl
@[simp] theorem State.modHead_loops : (s.modHead n f).loops = s.loops := rfl
@[simp] theorem State.modHead_motion : (s.modHead n f).motion = s.motion := rfl
@[simp] theorem State.modHead_pack : (s.modHead n f).pack = s.pack := rfl
@[simp] theorem State.modHead_host : (s.modHead n f).host = s.host := rfl
@[simp] theorem State.modHead_lanes : (s.modHead n f).lanes = s.lanes := rfl
@[simp] theorem State.modHead_ports : (s.modHead n f).ports = s.ports := rfl
@[simp] theorem State.modHead_hier : (s.modHead n f).hier = s.hier := rfl
@[simp] theorem State.modHead_pair : (s.modHead n f).pair = s.pair := rfl
@[simp] theorem State.modHead_otp : (s.modHead n f).otp = s.otp := rfl
@[simp] theorem State.modHead_power : (s.modHead n f).power = s.power := rfl
@[simp] theorem State.modHead_therm : (s.modHead n f).therm = s.therm := rfl
@[simp] theorem State.modHead_tap : (s.modHead n f).tap = s.tap := rfl
@[simp] theorem State.modHead_get (q : Fld) : (s.modHead n f).get q = s.get q := rfl
@[simp] theorem State.modHead_flag (q : Fld) : (s.modHead n f).flag q = s.flag q := rfl
@[simp] theorem State.modHead_getS (q : Fld) : (s.modHead n f).getS q = s.getS q := rfl
@[simp] theorem State.modHead_getA (q : Fld) : (s.modHead n f).getA q = s.getA q := rfl
end

/-! ### modPort -/

section
variable (p : Nat) (f : Port → Port)
@[simp] theorem State.modPort_pending : (s.modPort p f).pending = s.pending := rfl
@[simp] theorem State.modPort_free : (s.modPort p f).free = s.free := rfl
@[simp] theorem State.modPort_time : (s.modPort p f).time = s.time := rfl
@[simp] theorem State.modPort_regs : (s.modPort p f).regs = s.regs := rfl
@[simp] theorem State.modPort_just : (s.modPort p f).just = s.just := rfl
@[simp] theorem State.modPort_act : (s.modPort p f).act = s.act := rfl
@[simp] theorem State.modPort_dram : (s.modPort p f).dram = s.dram := rfl
@[simp] theorem State.modPort_tab0 : (s.modPort p f).tab0 = s.tab0 := rfl
@[simp] theorem State.modPort_tab1 : (s.modPort p f).tab1 = s.tab1 := rfl
@[simp] theorem State.modPort_mem : (s.modPort p f).mem = s.mem := rfl
@[simp] theorem State.modPort_encs : (s.modPort p f).encs = s.encs := rfl
@[simp] theorem State.modPort_cmps : (s.modPort p f).cmps = s.cmps := rfl
@[simp] theorem State.modPort_ssis : (s.modPort p f).ssis = s.ssis := rfl
@[simp] theorem State.modPort_job : (s.modPort p f).job = s.job := rfl
@[simp] theorem State.modPort_line : (s.modPort p f).line = s.line := rfl
@[simp] theorem State.modPort_tone : (s.modPort p f).tone = s.tone := rfl
@[simp] theorem State.modPort_heads : (s.modPort p f).heads = s.heads := rfl
@[simp] theorem State.modPort_dma : (s.modPort p f).dma = s.dma := rfl
@[simp] theorem State.modPort_cam : (s.modPort p f).cam = s.cam := rfl
@[simp] theorem State.modPort_loops : (s.modPort p f).loops = s.loops := rfl
@[simp] theorem State.modPort_motion : (s.modPort p f).motion = s.motion := rfl
@[simp] theorem State.modPort_pack : (s.modPort p f).pack = s.pack := rfl
@[simp] theorem State.modPort_host : (s.modPort p f).host = s.host := rfl
@[simp] theorem State.modPort_lanes : (s.modPort p f).lanes = s.lanes := rfl
@[simp] theorem State.modPort_ports : (s.modPort p f).ports = modAt f p s.ports := rfl
@[simp] theorem State.modPort_hier : (s.modPort p f).hier = s.hier := rfl
@[simp] theorem State.modPort_pair : (s.modPort p f).pair = s.pair := rfl
@[simp] theorem State.modPort_otp : (s.modPort p f).otp = s.otp := rfl
@[simp] theorem State.modPort_power : (s.modPort p f).power = s.power := rfl
@[simp] theorem State.modPort_therm : (s.modPort p f).therm = s.therm := rfl
@[simp] theorem State.modPort_tap : (s.modPort p f).tap = s.tap := rfl
@[simp] theorem State.modPort_get (q : Fld) : (s.modPort p f).get q = s.get q := rfl
@[simp] theorem State.modPort_flag (q : Fld) : (s.modPort p f).flag q = s.flag q := rfl
@[simp] theorem State.modPort_getS (q : Fld) : (s.modPort p f).getS q = s.getS q := rfl
@[simp] theorem State.modPort_getA (q : Fld) : (s.modPort p f).getA q = s.getA q := rfl
end

/-! ### modLane -/

section
variable (l : Nat) (f : Lane → Lane)
@[simp] theorem State.modLane_pending : (s.modLane l f).pending = s.pending := rfl
@[simp] theorem State.modLane_free : (s.modLane l f).free = s.free := rfl
@[simp] theorem State.modLane_time : (s.modLane l f).time = s.time := rfl
@[simp] theorem State.modLane_regs : (s.modLane l f).regs = s.regs := rfl
@[simp] theorem State.modLane_just : (s.modLane l f).just = s.just := rfl
@[simp] theorem State.modLane_act : (s.modLane l f).act = s.act := rfl
@[simp] theorem State.modLane_dram : (s.modLane l f).dram = s.dram := rfl
@[simp] theorem State.modLane_tab0 : (s.modLane l f).tab0 = s.tab0 := rfl
@[simp] theorem State.modLane_tab1 : (s.modLane l f).tab1 = s.tab1 := rfl
@[simp] theorem State.modLane_mem : (s.modLane l f).mem = s.mem := rfl
@[simp] theorem State.modLane_encs : (s.modLane l f).encs = s.encs := rfl
@[simp] theorem State.modLane_cmps : (s.modLane l f).cmps = s.cmps := rfl
@[simp] theorem State.modLane_ssis : (s.modLane l f).ssis = s.ssis := rfl
@[simp] theorem State.modLane_job : (s.modLane l f).job = s.job := rfl
@[simp] theorem State.modLane_line : (s.modLane l f).line = s.line := rfl
@[simp] theorem State.modLane_tone : (s.modLane l f).tone = s.tone := rfl
@[simp] theorem State.modLane_heads : (s.modLane l f).heads = s.heads := rfl
@[simp] theorem State.modLane_dma : (s.modLane l f).dma = s.dma := rfl
@[simp] theorem State.modLane_cam : (s.modLane l f).cam = s.cam := rfl
@[simp] theorem State.modLane_loops : (s.modLane l f).loops = s.loops := rfl
@[simp] theorem State.modLane_motion : (s.modLane l f).motion = s.motion := rfl
@[simp] theorem State.modLane_pack : (s.modLane l f).pack = s.pack := rfl
@[simp] theorem State.modLane_host : (s.modLane l f).host = s.host := rfl
@[simp] theorem State.modLane_lanes : (s.modLane l f).lanes = modAt f l s.lanes := rfl
@[simp] theorem State.modLane_ports : (s.modLane l f).ports = s.ports := rfl
@[simp] theorem State.modLane_hier : (s.modLane l f).hier = s.hier := rfl
@[simp] theorem State.modLane_pair : (s.modLane l f).pair = s.pair := rfl
@[simp] theorem State.modLane_otp : (s.modLane l f).otp = s.otp := rfl
@[simp] theorem State.modLane_power : (s.modLane l f).power = s.power := rfl
@[simp] theorem State.modLane_therm : (s.modLane l f).therm = s.therm := rfl
@[simp] theorem State.modLane_tap : (s.modLane l f).tap = s.tap := rfl
@[simp] theorem State.modLane_get (q : Fld) : (s.modLane l f).get q = s.get q := rfl
@[simp] theorem State.modLane_flag (q : Fld) : (s.modLane l f).flag q = s.flag q := rfl
@[simp] theorem State.modLane_getS (q : Fld) : (s.modLane l f).getS q = s.getS q := rfl
@[simp] theorem State.modLane_getA (q : Fld) : (s.modLane l f).getA q = s.getA q := rfl
end

/-! ### modLoop -/

section
variable (p : Nat) (f : LoopPlane → LoopPlane)
@[simp] theorem State.modLoop_pending : (s.modLoop p f).pending = s.pending := rfl
@[simp] theorem State.modLoop_free : (s.modLoop p f).free = s.free := rfl
@[simp] theorem State.modLoop_time : (s.modLoop p f).time = s.time := rfl
@[simp] theorem State.modLoop_regs : (s.modLoop p f).regs = s.regs := rfl
@[simp] theorem State.modLoop_just : (s.modLoop p f).just = s.just := rfl
@[simp] theorem State.modLoop_act : (s.modLoop p f).act = s.act := rfl
@[simp] theorem State.modLoop_dram : (s.modLoop p f).dram = s.dram := rfl
@[simp] theorem State.modLoop_tab0 : (s.modLoop p f).tab0 = s.tab0 := rfl
@[simp] theorem State.modLoop_tab1 : (s.modLoop p f).tab1 = s.tab1 := rfl
@[simp] theorem State.modLoop_mem : (s.modLoop p f).mem = s.mem := rfl
@[simp] theorem State.modLoop_encs : (s.modLoop p f).encs = s.encs := rfl
@[simp] theorem State.modLoop_cmps : (s.modLoop p f).cmps = s.cmps := rfl
@[simp] theorem State.modLoop_ssis : (s.modLoop p f).ssis = s.ssis := rfl
@[simp] theorem State.modLoop_job : (s.modLoop p f).job = s.job := rfl
@[simp] theorem State.modLoop_line : (s.modLoop p f).line = s.line := rfl
@[simp] theorem State.modLoop_tone : (s.modLoop p f).tone = s.tone := rfl
@[simp] theorem State.modLoop_heads : (s.modLoop p f).heads = s.heads := rfl
@[simp] theorem State.modLoop_dma : (s.modLoop p f).dma = s.dma := rfl
@[simp] theorem State.modLoop_cam : (s.modLoop p f).cam = s.cam := rfl
@[simp] theorem State.modLoop_loops : (s.modLoop p f).loops = { s.loops with planes := modAt f p s.loops.planes } := rfl
@[simp] theorem State.modLoop_motion : (s.modLoop p f).motion = s.motion := rfl
@[simp] theorem State.modLoop_pack : (s.modLoop p f).pack = s.pack := rfl
@[simp] theorem State.modLoop_host : (s.modLoop p f).host = s.host := rfl
@[simp] theorem State.modLoop_lanes : (s.modLoop p f).lanes = s.lanes := rfl
@[simp] theorem State.modLoop_ports : (s.modLoop p f).ports = s.ports := rfl
@[simp] theorem State.modLoop_hier : (s.modLoop p f).hier = s.hier := rfl
@[simp] theorem State.modLoop_pair : (s.modLoop p f).pair = s.pair := rfl
@[simp] theorem State.modLoop_otp : (s.modLoop p f).otp = s.otp := rfl
@[simp] theorem State.modLoop_power : (s.modLoop p f).power = s.power := rfl
@[simp] theorem State.modLoop_therm : (s.modLoop p f).therm = s.therm := rfl
@[simp] theorem State.modLoop_tap : (s.modLoop p f).tap = s.tap := rfl
@[simp] theorem State.modLoop_get (q : Fld) : (s.modLoop p f).get q = s.get q := rfl
@[simp] theorem State.modLoop_flag (q : Fld) : (s.modLoop p f).flag q = s.flag q := rfl
@[simp] theorem State.modLoop_getS (q : Fld) : (s.modLoop p f).getS q = s.getS q := rfl
@[simp] theorem State.modLoop_getA (q : Fld) : (s.modLoop p f).getA q = s.getA q := rfl
end

/-! ### modMem -/

section
variable (f : MemSt → MemSt)
@[simp] theorem State.modMem_pending : (s.modMem f).pending = s.pending := rfl
@[simp] theorem State.modMem_free : (s.modMem f).free = s.free := rfl
@[simp] theorem State.modMem_time : (s.modMem f).time = s.time := rfl
@[simp] theorem State.modMem_regs : (s.modMem f).regs = s.regs := rfl
@[simp] theorem State.modMem_just : (s.modMem f).just = s.just := rfl
@[simp] theorem State.modMem_act : (s.modMem f).act = s.act := rfl
@[simp] theorem State.modMem_dram : (s.modMem f).dram = s.dram := rfl
@[simp] theorem State.modMem_tab0 : (s.modMem f).tab0 = s.tab0 := rfl
@[simp] theorem State.modMem_tab1 : (s.modMem f).tab1 = s.tab1 := rfl
@[simp] theorem State.modMem_mem : (s.modMem f).mem = f s.mem := rfl
@[simp] theorem State.modMem_encs : (s.modMem f).encs = s.encs := rfl
@[simp] theorem State.modMem_cmps : (s.modMem f).cmps = s.cmps := rfl
@[simp] theorem State.modMem_ssis : (s.modMem f).ssis = s.ssis := rfl
@[simp] theorem State.modMem_job : (s.modMem f).job = s.job := rfl
@[simp] theorem State.modMem_line : (s.modMem f).line = s.line := rfl
@[simp] theorem State.modMem_tone : (s.modMem f).tone = s.tone := rfl
@[simp] theorem State.modMem_heads : (s.modMem f).heads = s.heads := rfl
@[simp] theorem State.modMem_dma : (s.modMem f).dma = s.dma := rfl
@[simp] theorem State.modMem_cam : (s.modMem f).cam = s.cam := rfl
@[simp] theorem State.modMem_loops : (s.modMem f).loops = s.loops := rfl
@[simp] theorem State.modMem_motion : (s.modMem f).motion = s.motion := rfl
@[simp] theorem State.modMem_pack : (s.modMem f).pack = s.pack := rfl
@[simp] theorem State.modMem_host : (s.modMem f).host = s.host := rfl
@[simp] theorem State.modMem_lanes : (s.modMem f).lanes = s.lanes := rfl
@[simp] theorem State.modMem_ports : (s.modMem f).ports = s.ports := rfl
@[simp] theorem State.modMem_hier : (s.modMem f).hier = s.hier := rfl
@[simp] theorem State.modMem_pair : (s.modMem f).pair = s.pair := rfl
@[simp] theorem State.modMem_otp : (s.modMem f).otp = s.otp := rfl
@[simp] theorem State.modMem_power : (s.modMem f).power = s.power := rfl
@[simp] theorem State.modMem_therm : (s.modMem f).therm = s.therm := rfl
@[simp] theorem State.modMem_tap : (s.modMem f).tap = s.tap := rfl
@[simp] theorem State.modMem_get (q : Fld) : (s.modMem f).get q = s.get q := rfl
@[simp] theorem State.modMem_flag (q : Fld) : (s.modMem f).flag q = s.flag q := rfl
@[simp] theorem State.modMem_getS (q : Fld) : (s.modMem f).getS q = s.getS q := rfl
@[simp] theorem State.modMem_getA (q : Fld) : (s.modMem f).getA q = s.getA q := rfl
end

/-! ### modChan -/

section
variable (c : Nat) (f : Chan → Chan)
@[simp] theorem State.modChan_pending : (s.modChan c f).pending = s.pending := rfl
@[simp] theorem State.modChan_free : (s.modChan c f).free = s.free := rfl
@[simp] theorem State.modChan_time : (s.modChan c f).time = s.time := rfl
@[simp] theorem State.modChan_regs : (s.modChan c f).regs = s.regs := rfl
@[simp] theorem State.modChan_just : (s.modChan c f).just = s.just := rfl
@[simp] theorem State.modChan_act : (s.modChan c f).act = s.act := rfl
@[simp] theorem State.modChan_dram : (s.modChan c f).dram = s.dram := rfl
@[simp] theorem State.modChan_tab0 : (s.modChan c f).tab0 = s.tab0 := rfl
@[simp] theorem State.modChan_tab1 : (s.modChan c f).tab1 = s.tab1 := rfl
@[simp] theorem State.modChan_mem : (s.modChan c f).mem = { s.mem with chans := modAt f c s.mem.chans } := rfl
@[simp] theorem State.modChan_encs : (s.modChan c f).encs = s.encs := rfl
@[simp] theorem State.modChan_cmps : (s.modChan c f).cmps = s.cmps := rfl
@[simp] theorem State.modChan_ssis : (s.modChan c f).ssis = s.ssis := rfl
@[simp] theorem State.modChan_job : (s.modChan c f).job = s.job := rfl
@[simp] theorem State.modChan_line : (s.modChan c f).line = s.line := rfl
@[simp] theorem State.modChan_tone : (s.modChan c f).tone = s.tone := rfl
@[simp] theorem State.modChan_heads : (s.modChan c f).heads = s.heads := rfl
@[simp] theorem State.modChan_dma : (s.modChan c f).dma = s.dma := rfl
@[simp] theorem State.modChan_cam : (s.modChan c f).cam = s.cam := rfl
@[simp] theorem State.modChan_loops : (s.modChan c f).loops = s.loops := rfl
@[simp] theorem State.modChan_motion : (s.modChan c f).motion = s.motion := rfl
@[simp] theorem State.modChan_pack : (s.modChan c f).pack = s.pack := rfl
@[simp] theorem State.modChan_host : (s.modChan c f).host = s.host := rfl
@[simp] theorem State.modChan_lanes : (s.modChan c f).lanes = s.lanes := rfl
@[simp] theorem State.modChan_ports : (s.modChan c f).ports = s.ports := rfl
@[simp] theorem State.modChan_hier : (s.modChan c f).hier = s.hier := rfl
@[simp] theorem State.modChan_pair : (s.modChan c f).pair = s.pair := rfl
@[simp] theorem State.modChan_otp : (s.modChan c f).otp = s.otp := rfl
@[simp] theorem State.modChan_power : (s.modChan c f).power = s.power := rfl
@[simp] theorem State.modChan_therm : (s.modChan c f).therm = s.therm := rfl
@[simp] theorem State.modChan_tap : (s.modChan c f).tap = s.tap := rfl
@[simp] theorem State.modChan_get (q : Fld) : (s.modChan c f).get q = s.get q := rfl
@[simp] theorem State.modChan_flag (q : Fld) : (s.modChan c f).flag q = s.flag q := rfl
@[simp] theorem State.modChan_getS (q : Fld) : (s.modChan c f).getS q = s.getS q := rfl
@[simp] theorem State.modChan_getA (q : Fld) : (s.modChan c f).getA q = s.getA q := rfl
end

/-! ### modAxis -/

section
variable (a : Nat) (f : Axis → Axis)
@[simp] theorem State.modAxis_pending : (s.modAxis a f).pending = s.pending := rfl
@[simp] theorem State.modAxis_free : (s.modAxis a f).free = s.free := rfl
@[simp] theorem State.modAxis_time : (s.modAxis a f).time = s.time := rfl
@[simp] theorem State.modAxis_regs : (s.modAxis a f).regs = s.regs := rfl
@[simp] theorem State.modAxis_just : (s.modAxis a f).just = s.just := rfl
@[simp] theorem State.modAxis_act : (s.modAxis a f).act = s.act := rfl
@[simp] theorem State.modAxis_dram : (s.modAxis a f).dram = s.dram := rfl
@[simp] theorem State.modAxis_tab0 : (s.modAxis a f).tab0 = s.tab0 := rfl
@[simp] theorem State.modAxis_tab1 : (s.modAxis a f).tab1 = s.tab1 := rfl
@[simp] theorem State.modAxis_mem : (s.modAxis a f).mem = s.mem := rfl
@[simp] theorem State.modAxis_encs : (s.modAxis a f).encs = s.encs := rfl
@[simp] theorem State.modAxis_cmps : (s.modAxis a f).cmps = s.cmps := rfl
@[simp] theorem State.modAxis_ssis : (s.modAxis a f).ssis = s.ssis := rfl
@[simp] theorem State.modAxis_job : (s.modAxis a f).job = s.job := rfl
@[simp] theorem State.modAxis_line : (s.modAxis a f).line = s.line := rfl
@[simp] theorem State.modAxis_tone : (s.modAxis a f).tone = s.tone := rfl
@[simp] theorem State.modAxis_heads : (s.modAxis a f).heads = s.heads := rfl
@[simp] theorem State.modAxis_dma : (s.modAxis a f).dma = s.dma := rfl
@[simp] theorem State.modAxis_cam : (s.modAxis a f).cam = s.cam := rfl
@[simp] theorem State.modAxis_loops : (s.modAxis a f).loops = s.loops := rfl
@[simp] theorem State.modAxis_motion : (s.modAxis a f).motion = { s.motion with axes := modAt f a s.motion.axes } := rfl
@[simp] theorem State.modAxis_pack : (s.modAxis a f).pack = s.pack := rfl
@[simp] theorem State.modAxis_host : (s.modAxis a f).host = s.host := rfl
@[simp] theorem State.modAxis_lanes : (s.modAxis a f).lanes = s.lanes := rfl
@[simp] theorem State.modAxis_ports : (s.modAxis a f).ports = s.ports := rfl
@[simp] theorem State.modAxis_hier : (s.modAxis a f).hier = s.hier := rfl
@[simp] theorem State.modAxis_pair : (s.modAxis a f).pair = s.pair := rfl
@[simp] theorem State.modAxis_otp : (s.modAxis a f).otp = s.otp := rfl
@[simp] theorem State.modAxis_power : (s.modAxis a f).power = s.power := rfl
@[simp] theorem State.modAxis_therm : (s.modAxis a f).therm = s.therm := rfl
@[simp] theorem State.modAxis_tap : (s.modAxis a f).tap = s.tap := rfl
@[simp] theorem State.modAxis_get (q : Fld) : (s.modAxis a f).get q = s.get q := rfl
@[simp] theorem State.modAxis_flag (q : Fld) : (s.modAxis a f).flag q = s.flag q := rfl
@[simp] theorem State.modAxis_getS (q : Fld) : (s.modAxis a f).getS q = s.getS q := rfl
@[simp] theorem State.modAxis_getA (q : Fld) : (s.modAxis a f).getA q = s.getA q := rfl
end

/-! ### modSwitch -/

section
variable (k : Nat) (f : Switch → Switch)
@[simp] theorem State.modSwitch_pending : (s.modSwitch k f).pending = s.pending := rfl
@[simp] theorem State.modSwitch_free : (s.modSwitch k f).free = s.free := rfl
@[simp] theorem State.modSwitch_time : (s.modSwitch k f).time = s.time := rfl
@[simp] theorem State.modSwitch_regs : (s.modSwitch k f).regs = s.regs := rfl
@[simp] theorem State.modSwitch_just : (s.modSwitch k f).just = s.just := rfl
@[simp] theorem State.modSwitch_act : (s.modSwitch k f).act = s.act := rfl
@[simp] theorem State.modSwitch_dram : (s.modSwitch k f).dram = s.dram := rfl
@[simp] theorem State.modSwitch_tab0 : (s.modSwitch k f).tab0 = s.tab0 := rfl
@[simp] theorem State.modSwitch_tab1 : (s.modSwitch k f).tab1 = s.tab1 := rfl
@[simp] theorem State.modSwitch_mem : (s.modSwitch k f).mem = s.mem := rfl
@[simp] theorem State.modSwitch_encs : (s.modSwitch k f).encs = s.encs := rfl
@[simp] theorem State.modSwitch_cmps : (s.modSwitch k f).cmps = s.cmps := rfl
@[simp] theorem State.modSwitch_ssis : (s.modSwitch k f).ssis = s.ssis := rfl
@[simp] theorem State.modSwitch_job : (s.modSwitch k f).job = s.job := rfl
@[simp] theorem State.modSwitch_line : (s.modSwitch k f).line = s.line := rfl
@[simp] theorem State.modSwitch_tone : (s.modSwitch k f).tone = s.tone := rfl
@[simp] theorem State.modSwitch_heads : (s.modSwitch k f).heads = s.heads := rfl
@[simp] theorem State.modSwitch_dma : (s.modSwitch k f).dma = s.dma := rfl
@[simp] theorem State.modSwitch_cam : (s.modSwitch k f).cam = s.cam := rfl
@[simp] theorem State.modSwitch_loops : (s.modSwitch k f).loops = s.loops := rfl
@[simp] theorem State.modSwitch_motion : (s.modSwitch k f).motion = { s.motion with switches := modAt f k s.motion.switches } := rfl
@[simp] theorem State.modSwitch_pack : (s.modSwitch k f).pack = s.pack := rfl
@[simp] theorem State.modSwitch_host : (s.modSwitch k f).host = s.host := rfl
@[simp] theorem State.modSwitch_lanes : (s.modSwitch k f).lanes = s.lanes := rfl
@[simp] theorem State.modSwitch_ports : (s.modSwitch k f).ports = s.ports := rfl
@[simp] theorem State.modSwitch_hier : (s.modSwitch k f).hier = s.hier := rfl
@[simp] theorem State.modSwitch_pair : (s.modSwitch k f).pair = s.pair := rfl
@[simp] theorem State.modSwitch_otp : (s.modSwitch k f).otp = s.otp := rfl
@[simp] theorem State.modSwitch_power : (s.modSwitch k f).power = s.power := rfl
@[simp] theorem State.modSwitch_therm : (s.modSwitch k f).therm = s.therm := rfl
@[simp] theorem State.modSwitch_tap : (s.modSwitch k f).tap = s.tap := rfl
@[simp] theorem State.modSwitch_get (q : Fld) : (s.modSwitch k f).get q = s.get q := rfl
@[simp] theorem State.modSwitch_flag (q : Fld) : (s.modSwitch k f).flag q = s.flag q := rfl
@[simp] theorem State.modSwitch_getS (q : Fld) : (s.modSwitch k f).getS q = s.getS q := rfl
@[simp] theorem State.modSwitch_getA (q : Fld) : (s.modSwitch k f).getA q = s.getA q := rfl
end

/-! ### modPair -/

section
variable (f : PairSt → PairSt)
@[simp] theorem State.modPair_pending : (s.modPair f).pending = s.pending := rfl
@[simp] theorem State.modPair_free : (s.modPair f).free = s.free := rfl
@[simp] theorem State.modPair_time : (s.modPair f).time = s.time := rfl
@[simp] theorem State.modPair_regs : (s.modPair f).regs = s.regs := rfl
@[simp] theorem State.modPair_just : (s.modPair f).just = s.just := rfl
@[simp] theorem State.modPair_act : (s.modPair f).act = s.act := rfl
@[simp] theorem State.modPair_dram : (s.modPair f).dram = s.dram := rfl
@[simp] theorem State.modPair_tab0 : (s.modPair f).tab0 = s.tab0 := rfl
@[simp] theorem State.modPair_tab1 : (s.modPair f).tab1 = s.tab1 := rfl
@[simp] theorem State.modPair_mem : (s.modPair f).mem = s.mem := rfl
@[simp] theorem State.modPair_encs : (s.modPair f).encs = s.encs := rfl
@[simp] theorem State.modPair_cmps : (s.modPair f).cmps = s.cmps := rfl
@[simp] theorem State.modPair_ssis : (s.modPair f).ssis = s.ssis := rfl
@[simp] theorem State.modPair_job : (s.modPair f).job = s.job := rfl
@[simp] theorem State.modPair_line : (s.modPair f).line = s.line := rfl
@[simp] theorem State.modPair_tone : (s.modPair f).tone = s.tone := rfl
@[simp] theorem State.modPair_heads : (s.modPair f).heads = s.heads := rfl
@[simp] theorem State.modPair_dma : (s.modPair f).dma = s.dma := rfl
@[simp] theorem State.modPair_cam : (s.modPair f).cam = s.cam := rfl
@[simp] theorem State.modPair_loops : (s.modPair f).loops = s.loops := rfl
@[simp] theorem State.modPair_motion : (s.modPair f).motion = s.motion := rfl
@[simp] theorem State.modPair_pack : (s.modPair f).pack = s.pack := rfl
@[simp] theorem State.modPair_host : (s.modPair f).host = s.host := rfl
@[simp] theorem State.modPair_lanes : (s.modPair f).lanes = s.lanes := rfl
@[simp] theorem State.modPair_ports : (s.modPair f).ports = s.ports := rfl
@[simp] theorem State.modPair_hier : (s.modPair f).hier = s.hier := rfl
@[simp] theorem State.modPair_pair : (s.modPair f).pair = f s.pair := rfl
@[simp] theorem State.modPair_otp : (s.modPair f).otp = s.otp := rfl
@[simp] theorem State.modPair_power : (s.modPair f).power = s.power := rfl
@[simp] theorem State.modPair_therm : (s.modPair f).therm = s.therm := rfl
@[simp] theorem State.modPair_tap : (s.modPair f).tap = s.tap := rfl
@[simp] theorem State.modPair_get (q : Fld) : (s.modPair f).get q = s.get q := rfl
@[simp] theorem State.modPair_flag (q : Fld) : (s.modPair f).flag q = s.flag q := rfl
@[simp] theorem State.modPair_getS (q : Fld) : (s.modPair f).getS q = s.getS q := rfl
@[simp] theorem State.modPair_getA (q : Fld) : (s.modPair f).getA q = s.getA q := rfl
end

/-! ### modTherm -/

section
variable (f : ThermSt → ThermSt)
@[simp] theorem State.modTherm_pending : (s.modTherm f).pending = s.pending := rfl
@[simp] theorem State.modTherm_free : (s.modTherm f).free = s.free := rfl
@[simp] theorem State.modTherm_time : (s.modTherm f).time = s.time := rfl
@[simp] theorem State.modTherm_regs : (s.modTherm f).regs = s.regs := rfl
@[simp] theorem State.modTherm_just : (s.modTherm f).just = s.just := rfl
@[simp] theorem State.modTherm_act : (s.modTherm f).act = s.act := rfl
@[simp] theorem State.modTherm_dram : (s.modTherm f).dram = s.dram := rfl
@[simp] theorem State.modTherm_tab0 : (s.modTherm f).tab0 = s.tab0 := rfl
@[simp] theorem State.modTherm_tab1 : (s.modTherm f).tab1 = s.tab1 := rfl
@[simp] theorem State.modTherm_mem : (s.modTherm f).mem = s.mem := rfl
@[simp] theorem State.modTherm_encs : (s.modTherm f).encs = s.encs := rfl
@[simp] theorem State.modTherm_cmps : (s.modTherm f).cmps = s.cmps := rfl
@[simp] theorem State.modTherm_ssis : (s.modTherm f).ssis = s.ssis := rfl
@[simp] theorem State.modTherm_job : (s.modTherm f).job = s.job := rfl
@[simp] theorem State.modTherm_line : (s.modTherm f).line = s.line := rfl
@[simp] theorem State.modTherm_tone : (s.modTherm f).tone = s.tone := rfl
@[simp] theorem State.modTherm_heads : (s.modTherm f).heads = s.heads := rfl
@[simp] theorem State.modTherm_dma : (s.modTherm f).dma = s.dma := rfl
@[simp] theorem State.modTherm_cam : (s.modTherm f).cam = s.cam := rfl
@[simp] theorem State.modTherm_loops : (s.modTherm f).loops = s.loops := rfl
@[simp] theorem State.modTherm_motion : (s.modTherm f).motion = s.motion := rfl
@[simp] theorem State.modTherm_pack : (s.modTherm f).pack = s.pack := rfl
@[simp] theorem State.modTherm_host : (s.modTherm f).host = s.host := rfl
@[simp] theorem State.modTherm_lanes : (s.modTherm f).lanes = s.lanes := rfl
@[simp] theorem State.modTherm_ports : (s.modTherm f).ports = s.ports := rfl
@[simp] theorem State.modTherm_hier : (s.modTherm f).hier = s.hier := rfl
@[simp] theorem State.modTherm_pair : (s.modTherm f).pair = s.pair := rfl
@[simp] theorem State.modTherm_otp : (s.modTherm f).otp = s.otp := rfl
@[simp] theorem State.modTherm_power : (s.modTherm f).power = s.power := rfl
@[simp] theorem State.modTherm_therm : (s.modTherm f).therm = f s.therm := rfl
@[simp] theorem State.modTherm_tap : (s.modTherm f).tap = s.tap := rfl
@[simp] theorem State.modTherm_get (q : Fld) : (s.modTherm f).get q = s.get q := rfl
@[simp] theorem State.modTherm_flag (q : Fld) : (s.modTherm f).flag q = s.flag q := rfl
@[simp] theorem State.modTherm_getS (q : Fld) : (s.modTherm f).getS q = s.getS q := rfl
@[simp] theorem State.modTherm_getA (q : Fld) : (s.modTherm f).getA q = s.getA q := rfl
end

/-! ### modPower -/

section
variable (f : PowerSt → PowerSt)
@[simp] theorem State.modPower_pending : (s.modPower f).pending = s.pending := rfl
@[simp] theorem State.modPower_free : (s.modPower f).free = s.free := rfl
@[simp] theorem State.modPower_time : (s.modPower f).time = s.time := rfl
@[simp] theorem State.modPower_regs : (s.modPower f).regs = s.regs := rfl
@[simp] theorem State.modPower_just : (s.modPower f).just = s.just := rfl
@[simp] theorem State.modPower_act : (s.modPower f).act = s.act := rfl
@[simp] theorem State.modPower_dram : (s.modPower f).dram = s.dram := rfl
@[simp] theorem State.modPower_tab0 : (s.modPower f).tab0 = s.tab0 := rfl
@[simp] theorem State.modPower_tab1 : (s.modPower f).tab1 = s.tab1 := rfl
@[simp] theorem State.modPower_mem : (s.modPower f).mem = s.mem := rfl
@[simp] theorem State.modPower_encs : (s.modPower f).encs = s.encs := rfl
@[simp] theorem State.modPower_cmps : (s.modPower f).cmps = s.cmps := rfl
@[simp] theorem State.modPower_ssis : (s.modPower f).ssis = s.ssis := rfl
@[simp] theorem State.modPower_job : (s.modPower f).job = s.job := rfl
@[simp] theorem State.modPower_line : (s.modPower f).line = s.line := rfl
@[simp] theorem State.modPower_tone : (s.modPower f).tone = s.tone := rfl
@[simp] theorem State.modPower_heads : (s.modPower f).heads = s.heads := rfl
@[simp] theorem State.modPower_dma : (s.modPower f).dma = s.dma := rfl
@[simp] theorem State.modPower_cam : (s.modPower f).cam = s.cam := rfl
@[simp] theorem State.modPower_loops : (s.modPower f).loops = s.loops := rfl
@[simp] theorem State.modPower_motion : (s.modPower f).motion = s.motion := rfl
@[simp] theorem State.modPower_pack : (s.modPower f).pack = s.pack := rfl
@[simp] theorem State.modPower_host : (s.modPower f).host = s.host := rfl
@[simp] theorem State.modPower_lanes : (s.modPower f).lanes = s.lanes := rfl
@[simp] theorem State.modPower_ports : (s.modPower f).ports = s.ports := rfl
@[simp] theorem State.modPower_hier : (s.modPower f).hier = s.hier := rfl
@[simp] theorem State.modPower_pair : (s.modPower f).pair = s.pair := rfl
@[simp] theorem State.modPower_otp : (s.modPower f).otp = s.otp := rfl
@[simp] theorem State.modPower_power : (s.modPower f).power = f s.power := rfl
@[simp] theorem State.modPower_therm : (s.modPower f).therm = s.therm := rfl
@[simp] theorem State.modPower_tap : (s.modPower f).tap = s.tap := rfl
@[simp] theorem State.modPower_get (q : Fld) : (s.modPower f).get q = s.get q := rfl
@[simp] theorem State.modPower_flag (q : Fld) : (s.modPower f).flag q = s.flag q := rfl
@[simp] theorem State.modPower_getS (q : Fld) : (s.modPower f).getS q = s.getS q := rfl
@[simp] theorem State.modPower_getA (q : Fld) : (s.modPower f).getA q = s.getA q := rfl
end

/-! ### modCam -/

section
variable (c : Nat) (f : CamPort → CamPort)
@[simp] theorem State.modCam_pending : (s.modCam c f).pending = s.pending := rfl
@[simp] theorem State.modCam_free : (s.modCam c f).free = s.free := rfl
@[simp] theorem State.modCam_time : (s.modCam c f).time = s.time := rfl
@[simp] theorem State.modCam_regs : (s.modCam c f).regs = s.regs := rfl
@[simp] theorem State.modCam_just : (s.modCam c f).just = s.just := rfl
@[simp] theorem State.modCam_act : (s.modCam c f).act = s.act := rfl
@[simp] theorem State.modCam_dram : (s.modCam c f).dram = s.dram := rfl
@[simp] theorem State.modCam_tab0 : (s.modCam c f).tab0 = s.tab0 := rfl
@[simp] theorem State.modCam_tab1 : (s.modCam c f).tab1 = s.tab1 := rfl
@[simp] theorem State.modCam_mem : (s.modCam c f).mem = s.mem := rfl
@[simp] theorem State.modCam_encs : (s.modCam c f).encs = s.encs := rfl
@[simp] theorem State.modCam_cmps : (s.modCam c f).cmps = s.cmps := rfl
@[simp] theorem State.modCam_ssis : (s.modCam c f).ssis = s.ssis := rfl
@[simp] theorem State.modCam_job : (s.modCam c f).job = s.job := rfl
@[simp] theorem State.modCam_line : (s.modCam c f).line = s.line := rfl
@[simp] theorem State.modCam_tone : (s.modCam c f).tone = s.tone := rfl
@[simp] theorem State.modCam_heads : (s.modCam c f).heads = s.heads := rfl
@[simp] theorem State.modCam_dma : (s.modCam c f).dma = s.dma := rfl
@[simp] theorem State.modCam_cam : (s.modCam c f).cam = { s.cam with ports := modAt f c s.cam.ports } := rfl
@[simp] theorem State.modCam_loops : (s.modCam c f).loops = s.loops := rfl
@[simp] theorem State.modCam_motion : (s.modCam c f).motion = s.motion := rfl
@[simp] theorem State.modCam_pack : (s.modCam c f).pack = s.pack := rfl
@[simp] theorem State.modCam_host : (s.modCam c f).host = s.host := rfl
@[simp] theorem State.modCam_lanes : (s.modCam c f).lanes = s.lanes := rfl
@[simp] theorem State.modCam_ports : (s.modCam c f).ports = s.ports := rfl
@[simp] theorem State.modCam_hier : (s.modCam c f).hier = s.hier := rfl
@[simp] theorem State.modCam_pair : (s.modCam c f).pair = s.pair := rfl
@[simp] theorem State.modCam_otp : (s.modCam c f).otp = s.otp := rfl
@[simp] theorem State.modCam_power : (s.modCam c f).power = s.power := rfl
@[simp] theorem State.modCam_therm : (s.modCam c f).therm = s.therm := rfl
@[simp] theorem State.modCam_tap : (s.modCam c f).tap = s.tap := rfl
@[simp] theorem State.modCam_get (q : Fld) : (s.modCam c f).get q = s.get q := rfl
@[simp] theorem State.modCam_flag (q : Fld) : (s.modCam c f).flag q = s.flag q := rfl
@[simp] theorem State.modCam_getS (q : Fld) : (s.modCam c f).getS q = s.getS q := rfl
@[simp] theorem State.modCam_getA (q : Fld) : (s.modCam c f).getA q = s.getA q := rfl
end

/-! ### elapse -/

@[simp] theorem State.elapse_pending (t : Nat) : (s.elapse t).pending = s.pending := by
  unfold State.elapse; split <;> rfl
@[simp] theorem State.elapse_free (t : Nat) : (s.elapse t).free = s.free := by
  unfold State.elapse; split <;> rfl
@[simp] theorem State.elapse_regs (t : Nat) : (s.elapse t).regs = s.regs := by
  unfold State.elapse; split <;> rfl
@[simp] theorem State.elapse_just (t : Nat) : (s.elapse t).just = s.just := by
  unfold State.elapse; split <;> rfl
@[simp] theorem State.elapse_act (t : Nat) : (s.elapse t).act = s.act := by
  unfold State.elapse; split <;> rfl
@[simp] theorem State.elapse_dram (t : Nat) : (s.elapse t).dram = s.dram := by
  unfold State.elapse; split <;> rfl
@[simp] theorem State.elapse_tab0 (t : Nat) : (s.elapse t).tab0 = s.tab0 := by
  unfold State.elapse; split <;> rfl
@[simp] theorem State.elapse_tab1 (t : Nat) : (s.elapse t).tab1 = s.tab1 := by
  unfold State.elapse; split <;> rfl
@[simp] theorem State.elapse_mem (t : Nat) : (s.elapse t).mem = s.mem := by
  unfold State.elapse; split <;> rfl
@[simp] theorem State.elapse_encs (t : Nat) : (s.elapse t).encs = s.encs := by
  unfold State.elapse; split <;> rfl
@[simp] theorem State.elapse_cmps (t : Nat) : (s.elapse t).cmps = s.cmps := by
  unfold State.elapse; split <;> rfl
@[simp] theorem State.elapse_ssis (t : Nat) : (s.elapse t).ssis = s.ssis := by
  unfold State.elapse; split <;> rfl
@[simp] theorem State.elapse_job (t : Nat) : (s.elapse t).job = s.job := by
  unfold State.elapse; split <;> rfl
@[simp] theorem State.elapse_line (t : Nat) : (s.elapse t).line = s.line := by
  unfold State.elapse; split <;> rfl
@[simp] theorem State.elapse_tone (t : Nat) : (s.elapse t).tone = s.tone := by
  unfold State.elapse; split <;> rfl
@[simp] theorem State.elapse_heads (t : Nat) : (s.elapse t).heads = s.heads := by
  unfold State.elapse; split <;> rfl
@[simp] theorem State.elapse_dma (t : Nat) : (s.elapse t).dma = s.dma := by
  unfold State.elapse; split <;> rfl
@[simp] theorem State.elapse_cam (t : Nat) : (s.elapse t).cam = s.cam := by
  unfold State.elapse; split <;> rfl
@[simp] theorem State.elapse_loops (t : Nat) : (s.elapse t).loops = s.loops := by
  unfold State.elapse; split <;> rfl
@[simp] theorem State.elapse_motion (t : Nat) : (s.elapse t).motion = s.motion := by
  unfold State.elapse; split <;> rfl
@[simp] theorem State.elapse_pack (t : Nat) : (s.elapse t).pack = s.pack := by
  unfold State.elapse; split <;> rfl
@[simp] theorem State.elapse_host (t : Nat) : (s.elapse t).host = s.host := by
  unfold State.elapse; split <;> rfl
@[simp] theorem State.elapse_lanes (t : Nat) : (s.elapse t).lanes = s.lanes := by
  unfold State.elapse; split <;> rfl
@[simp] theorem State.elapse_ports (t : Nat) : (s.elapse t).ports = s.ports := by
  unfold State.elapse; split <;> rfl
@[simp] theorem State.elapse_hier (t : Nat) : (s.elapse t).hier = s.hier := by
  unfold State.elapse; split <;> rfl
@[simp] theorem State.elapse_pair (t : Nat) : (s.elapse t).pair = s.pair := by
  unfold State.elapse; split <;> rfl
@[simp] theorem State.elapse_otp (t : Nat) : (s.elapse t).otp = s.otp := by
  unfold State.elapse; split <;> rfl
@[simp] theorem State.elapse_power (t : Nat) : (s.elapse t).power = s.power := by
  unfold State.elapse; split <;> rfl
@[simp] theorem State.elapse_therm (t : Nat) : (s.elapse t).therm = s.therm := by
  unfold State.elapse; split <;> rfl
@[simp] theorem State.elapse_tap (t : Nat) : (s.elapse t).tap = s.tap := by
  unfold State.elapse; split <;> rfl
@[simp] theorem State.elapse_get (t : Nat) (q : Fld) : (s.elapse t).get q = s.get q := by
  unfold State.elapse; split <;> rfl
@[simp] theorem State.elapse_flag (t : Nat) (q : Fld) : (s.elapse t).flag q = s.flag q := by
  unfold State.elapse; split <;> rfl
@[simp] theorem State.elapse_getS (t : Nat) (q : Fld) : (s.elapse t).getS q = s.getS q := by
  unfold State.elapse; split <;> rfl
@[simp] theorem State.elapse_getA (t : Nat) (q : Fld) : (s.elapse t).getA q = s.getA q := by
  unfold State.elapse; split <;> rfl

/-- Time runs to the instant, and never backward. -/
@[simp] theorem State.elapse_now (t : Nat) : (s.elapse t).now = max t s.now := by
  unfold State.elapse State.now
  split
  · rename_i h; exact (Nat.max_eq_right h).symm
  · rename_i h; exact (Nat.max_eq_left (Nat.le_of_not_le h)).symm

@[simp] theorem State.elapse_awake (t : Nat) : (s.elapse t).awake = s.awake := by simp [State.awake]

/-! ### Reads of a field after a write -/

/-- A field reads as what was written, as far as its width holds it. -/
@[simp] theorem State.get_set_same (r : Fld) (v : Nat) : (s.set r v).get r = low r.w v := by
  simp [State.get, State.set]

/-- Another field reads as before. -/
theorem State.get_set_other {r q : Fld} (h : q.key ≠ r.key) (v : Nat) : (s.set r v).get q = s.get q := by
  simp [State.get, State.set, Sparse.get_put_other _ _ _ h]

/-- A flipped field in force is its shadow value. -/
@[simp] theorem State.getA_flip_same (r : Fld) : (s.flip r).getA r = s.get r := by
  simp [State.getA, State.flip]

/-- Another field in force stays. -/
theorem State.getA_flip_other {r q : Fld} (h : q.key ≠ r.key) : (s.flip r).getA q = s.getA q := by
  simp [State.getA, State.flip, Sparse.get_put_other _ _ _ h]

/-- A one-bit field reads as what was written. -/
@[simp] theorem State.flag_setB_same (r : Fld) (b : Bool) (h : r.w ≠ 0) : (s.setB r b).flag r = b := by
  unfold State.flag State.setB
  rw [State.get_set_same]
  have h2 : 2 ≤ 2 ^ r.w := by
    calc 2 = 2 ^ 1 := rfl
      _ ≤ 2 ^ r.w := Nat.pow_le_pow_right (by omega) (by omega)
  cases b
  · simp [low]
  · simp [low, Nat.mod_eq_of_lt (by omega : 1 < 2 ^ r.w)]

theorem State.flag_set_other {r q : Fld} (h : q.key ≠ r.key) (v : Nat) : (s.set r v).flag q = s.flag q := by
  simp [State.flag, State.get_set_other s h]

theorem State.get_setB_other {r q : Fld} (h : q.key ≠ r.key) (b : Bool) : (s.setB r b).get q = s.get q :=
  State.get_set_other s h _

theorem State.flag_setB_other {r q : Fld} (h : q.key ≠ r.key) (b : Bool) : (s.setB r b).flag q = s.flag q :=
  State.flag_set_other s h _

/-! ### Lists changed at an index -/

@[simp] theorem modAt_length {α : Type} (f : α → α) : ∀ (n : Nat) (l : List α), (modAt f n l).length = l.length
  | _, [] => by cases ‹Nat› <;> rfl
  | 0, _ :: _ => rfl
  | n + 1, _ :: l => by simp [modAt, modAt_length f n l]

theorem modAt_getD_same {α : Type} (f : α → α) (d : α) : ∀ (n : Nat) (l : List α), n < l.length →
    (modAt f n l).getD n d = f (l.getD n d)
  | _, [], h => by simp at h
  | 0, _ :: _, _ => rfl
  | n + 1, _ :: l, h => by
    have := modAt_getD_same f d n l (by simpa using h)
    simpa [modAt] using this

theorem modAt_getD_other {α : Type} (f : α → α) (d : α) : ∀ (n i : Nat) (l : List α), i ≠ n →
    (modAt f n l).getD i d = l.getD i d
  | 0, _, [], _ => rfl
  | _ + 1, _, [], _ => rfl
  | 0, 0, _ :: _, h => absurd rfl h
  | 0, _ + 1, _ :: _, _ => rfl
  | _ + 1, 0, _ :: _, _ => rfl
  | n + 1, i + 1, _ :: l, h => by
    have := modAt_getD_other f d n i l (by omega)
    simpa [modAt] using this

end Sys2Proof.Machine
end

