-- ==== Sys2Proof/Laws/HostExec.lean ====
section
/-! SUPPORT. Laws of the command interpreter: what an opcode row does when the block is ready for it. -/

namespace Sys2Proof.Machine

variable {s : State} {h : Hdr} {c : HostCmd}

/-- An event that finds the block out of reset has its effect at its instant. -/
theorem event_running {t : Nat} {f : State → State} (hr : Running s) : event t f s = .next (f (s.elapse t)) := by
  unfold event; rw [if_pos hr]

/-- While RESET_N is low an event has no effect; time runs. -/
theorem event_held {t : Nat} {f : State → State} (hr : s.power.resetN = false) : event t f s = .next (s.elapse t) := by
  unfold event; rw [if_neg (by simp [hr])]

theorem eventAwake_live {t : Nat} {f : State → State} (hl : Live s) : eventAwake t f s = .next (f (s.elapse t)) := by
  unfold eventAwake; rw [event_running hl.1, if_pos (by simpa using hl.2)]

/-- In L2 to L4 an event of an engine that stands still has no effect. -/
theorem eventAwake_asleep {t : Nat} {f : State → State} (ha : s.awake = false) :
    eventAwake t f s = .next (s.elapse t) := by
  unfold eventAwake event; simp [ha]

@[simp] theorem State.when_true (f : State → State) : s.when true f = f s := rfl
@[simp] theorem State.when_false (f : State → State) : s.when false f = s := rfl

/-- Every opcode of the model is one of the opcode table. -/
@[simp] theorem opcodeDefined_opcode (c : HostCmd) : opcodeDefined c.opcode = true := by
  cases c <;> rfl

@[simp] theorem State.serving_now (s : State) (h : Hdr) (c : HostCmd) : (s.serving h c).now = max h.at_ s.now :=
  State.elapse_now s h.at_

@[simp] theorem State.serving_get (s : State) (h : Hdr) (c : HostCmd) (r : Fld) : (s.serving h c).get r = s.get r :=
  State.elapse_get s h.at_ r

@[simp] theorem State.serving_flag (s : State) (h : Hdr) (c : HostCmd) (r : Fld) :
    (s.serving h c).flag r = s.flag r := State.elapse_flag s h.at_ r

@[simp] theorem State.serving_getS (s : State) (h : Hdr) (c : HostCmd) (r : Fld) :
    (s.serving h c).getS r = s.getS r := State.elapse_getS s h.at_ r

@[simp] theorem State.serving_outstanding (s : State) (h : Hdr) (c : HostCmd) :
    (s.serving h c).host.outstanding = [⟨h, c, 0xFE⟩] := rfl

@[simp] theorem State.serving_waiting (s : State) (h : Hdr) (c : HostCmd) :
    (s.serving h c).host.waiting = s.host.waiting := by
  show (s.elapse h.at_).host.waiting = _
  rw [State.elapse_host]

/-! ### The state that serves a command -/

@[simp] theorem State.serving_pending (s : State) (h : Hdr) (c : HostCmd) : (s.serving h c).pending = s.pending :=
  State.elapse_pending s h.at_
@[simp] theorem State.serving_free (s : State) (h : Hdr) (c : HostCmd) : (s.serving h c).free = s.free :=
  State.elapse_free s h.at_
@[simp] theorem State.serving_regs (s : State) (h : Hdr) (c : HostCmd) : (s.serving h c).regs = s.regs :=
  State.elapse_regs s h.at_
@[simp] theorem State.serving_act (s : State) (h : Hdr) (c : HostCmd) : (s.serving h c).act = s.act :=
  State.elapse_act s h.at_
@[simp] theorem State.serving_dram (s : State) (h : Hdr) (c : HostCmd) : (s.serving h c).dram = s.dram :=
  State.elapse_dram s h.at_
@[simp] theorem State.serving_tab0 (s : State) (h : Hdr) (c : HostCmd) : (s.serving h c).tab0 = s.tab0 :=
  State.elapse_tab0 s h.at_
@[simp] theorem State.serving_tab1 (s : State) (h : Hdr) (c : HostCmd) : (s.serving h c).tab1 = s.tab1 :=
  State.elapse_tab1 s h.at_
@[simp] theorem State.serving_mem (s : State) (h : Hdr) (c : HostCmd) : (s.serving h c).mem = s.mem :=
  State.elapse_mem s h.at_
@[simp] theorem State.serving_encs (s : State) (h : Hdr) (c : HostCmd) : (s.serving h c).encs = s.encs :=
  State.elapse_encs s h.at_
@[simp] theorem State.serving_cmps (s : State) (h : Hdr) (c : HostCmd) : (s.serving h c).cmps = s.cmps :=
  State.elapse_cmps s h.at_
@[simp] theorem State.serving_ssis (s : State) (h : Hdr) (c : HostCmd) : (s.serving h c).ssis = s.ssis :=
  State.elapse_ssis s h.at_
@[simp] theorem State.serving_job (s : State) (h : Hdr) (c : HostCmd) : (s.serving h c).job = s.job :=
  State.elapse_job s h.at_
@[simp] theorem State.serving_line (s : State) (h : Hdr) (c : HostCmd) : (s.serving h c).line = s.line :=
  State.elapse_line s h.at_
@[simp] theorem State.serving_tone (s : State) (h : Hdr) (c : HostCmd) : (s.serving h c).tone = s.tone :=
  State.elapse_tone s h.at_
@[simp] theorem State.serving_heads (s : State) (h : Hdr) (c : HostCmd) : (s.serving h c).heads = s.heads :=
  State.elapse_heads s h.at_
@[simp] theorem State.serving_dma (s : State) (h : Hdr) (c : HostCmd) : (s.serving h c).dma = s.dma :=
  State.elapse_dma s h.at_
@[simp] theorem State.serving_cam (s : State) (h : Hdr) (c : HostCmd) : (s.serving h c).cam = s.cam :=
  State.elapse_cam s h.at_
@[simp] theorem State.serving_loops (s : State) (h : Hdr) (c : HostCmd) : (s.serving h c).loops = s.loops :=
  State.elapse_loops s h.at_
@[simp] theorem State.serving_motion (s : State) (h : Hdr) (c : HostCmd) : (s.serving h c).motion = s.motion :=
  State.elapse_motion s h.at_
@[simp] theorem State.serving_pack (s : State) (h : Hdr) (c : HostCmd) : (s.serving h c).pack = s.pack :=
  State.elapse_pack s h.at_
@[simp] theorem State.serving_lanes (s : State) (h : Hdr) (c : HostCmd) : (s.serving h c).lanes = s.lanes :=
  State.elapse_lanes s h.at_
@[simp] theorem State.serving_ports (s : State) (h : Hdr) (c : HostCmd) : (s.serving h c).ports = s.ports :=
  State.elapse_ports s h.at_
@[simp] theorem State.serving_hier (s : State) (h : Hdr) (c : HostCmd) : (s.serving h c).hier = s.hier :=
  State.elapse_hier s h.at_
@[simp] theorem State.serving_pair (s : State) (h : Hdr) (c : HostCmd) : (s.serving h c).pair = s.pair :=
  State.elapse_pair s h.at_
@[simp] theorem State.serving_otp (s : State) (h : Hdr) (c : HostCmd) : (s.serving h c).otp = s.otp :=
  State.elapse_otp s h.at_
@[simp] theorem State.serving_power (s : State) (h : Hdr) (c : HostCmd) : (s.serving h c).power = s.power :=
  State.elapse_power s h.at_
@[simp] theorem State.serving_therm (s : State) (h : Hdr) (c : HostCmd) : (s.serving h c).therm = s.therm :=
  State.elapse_therm s h.at_
@[simp] theorem State.serving_tap (s : State) (h : Hdr) (c : HostCmd) : (s.serving h c).tap = s.tap :=
  State.elapse_tap s h.at_
@[simp] theorem State.serving_log (s : State) (h : Hdr) (c : HostCmd) :
    (s.serving h c).host.log = s.host.log := by
  show (s.elapse h.at_).host.log = _; rw [State.elapse_host]
@[simp] theorem State.serving_faultGroups (s : State) (h : Hdr) (c : HostCmd) :
    (s.serving h c).host.faultGroups = s.host.faultGroups := by
  show (s.elapse h.at_).host.faultGroups = _; rw [State.elapse_host]
@[simp] theorem State.serving_out (s : State) (h : Hdr) (c : HostCmd) :
    (s.serving h c).host.out = s.host.out := by
  show (s.elapse h.at_).host.out = _; rw [State.elapse_host]
@[simp] theorem State.serving_forwarded (s : State) (h : Hdr) (c : HostCmd) :
    (s.serving h c).host.forwarded = s.host.forwarded := by
  show (s.elapse h.at_).host.forwarded = _; rw [State.elapse_host]
@[simp] theorem State.serving_evtSeq (s : State) (h : Hdr) (c : HostCmd) :
    (s.serving h c).host.evtSeq = s.host.evtSeq := by
  show (s.elapse h.at_).host.evtSeq = _; rw [State.elapse_host]
@[simp] theorem State.serving_lostPending (s : State) (h : Hdr) (c : HostCmd) :
    (s.serving h c).host.lostPending = s.host.lostPending := by
  show (s.elapse h.at_).host.lostPending = _; rw [State.elapse_host]
@[simp] theorem State.serving_windows (s : State) (h : Hdr) (c : HostCmd) :
    (s.serving h c).host.windows = s.host.windows := by
  show (s.elapse h.at_).host.windows = _; rw [State.elapse_host]
@[simp] theorem State.serving_queued (s : State) (h : Hdr) (c : HostCmd) : (s.serving h c).queued = s.queued :=
  by
  simp [State.queued]
@[simp] theorem State.serving_myId (s : State) (h : Hdr) (c : HostCmd) : (s.serving h c).myId = s.myId :=
  State.serving_get s h c _
@[simp] theorem State.serving_standby (s : State) (h : Hdr) (c : HostCmd) : (s.serving h c).standby = s.standby := by
  simp [State.standby]

/-- A command that nothing precedes passes checks 1 to 6 and is executed at once. -/
theorem hostCommand_placed (hr : Placed h c s) :
    hostCommand h c s = .next ((s.serving h c).runCmd ⟨h, c, 0xFE⟩) := by
  obtain ⟨h1, h2, h3, h4, h5, h6, h7, h8, h9, h10, h11, h12, h13⟩ := hr
  have hid : (s.elapse h.at_).myId = s.myId := by simp [State.myId]
  have hact : (s.elapse h.at_).active 0 = s.active 0 := by simp [State.active]
  have hst : (s.elapse h.at_).arrivalStatus ⟨h, c.opcode, encodeParams c, some c, 0xFE⟩ = stOk := by
    have h63 : h.target ≠ 63 := by omega
    simp [State.arrivalStatus, Packet.reservedSet, State.dupTag, h5, h6, h7, h10, h11, h12, State.outCount, h63]
  unfold hostCommand
  rw [event_running h1]
  have hopen : (h.iface == Iface.spi || (s.elapse h.at_).active 0) = true := by
    rcases h3 with h3 | h3 <;> simp [h3, hact]
  rw [hopen, State.when_true]
  have haw : (s.elapse h.at_).awake = true := by simp [h2]
  unfold State.arrive
  simp only [haw, if_true, h4, Bool.false_eq_true, if_false]
  have hpl : (s.elapse h.at_).place ⟨h, c.opcode, encodeParams c, some c, 0xFE⟩ = s.serving h c := by
    unfold State.place
    simp only [hid]
    rw [if_neg (by omega), if_pos h8]
    unfold State.take
    simp only [hst, if_true]
    unfold State.serving
    simp [h11]
  rw [hpl]
  simp only [State.elapse_host, h11, List.isEmpty_nil, if_true]
  unfold State.startNext
  simp only [State.serving_outstanding, State.serving_waiting, h12, Option.isNone_none, Bool.true_and]
  have hw : (s.serving h c).writesDone ⟨h, c, 0xFE⟩ = true := by
    simpa [State.writesDone, State.serving] using h13
  rw [if_pos hw]

/-- A command that performs with an accepting status: its effect, its reply, and what follows the reply. -/
theorem hostCommand_accepts {st : Nat} {d : List Byte} {t : State} (hr : Ready h c s)
    (hp : (s.serving h c).perform h c = ⟨st, d, t, false⟩) (ha : accepted st = true) :
    hostCommand h c s = .next ((answered h c st d t).afterReply h c) := by
  have hs : (s.serving h c).flag Reg.CMD_STATUS_READY = s.flag Reg.CMD_STATUS_READY := by simp
  rw [hostCommand_placed hr.toPlaced]
  unfold State.runCmd State.result
  simp only [hs, hr.serves, if_true, hp, ha]
  rfl

/-- A command that its own check refuses: its reply carries no data. -/
theorem hostCommand_refuses {st : Nat} {d : List Byte} {t : State} (hr : Ready h c s)
    (hp : (s.serving h c).perform h c = ⟨st, d, t, false⟩) (ha : accepted st = false) :
    hostCommand h c s = .next (answered h c st [] t) := by
  have hs : (s.serving h c).flag Reg.CMD_STATUS_READY = s.flag Reg.CMD_STATUS_READY := by simp
  rw [hostCommand_placed hr.toPlaced]
  unfold State.runCmd State.result
  simp only [hs, hr.serves, if_true, hp, ha]
  rfl

/-- With nothing outstanding, the state that serves a command differs from the arrival by that command alone; answered
without an effect, it is the arrival with its reply. -/
theorem answered_serving (hf : s.host.outstanding = []) (st : Nat) (d : List Byte) :
    answered h c st d (s.serving h c) = (s.elapse h.at_).reply h c.opcode st false d := by
  have hf' : (s.elapse h.at_).host.outstanding = [] := by rw [State.elapse_host, hf]
  have e : { s.elapse h.at_ with host := { (s.elapse h.at_).host with outstanding := [] } } = s.elapse h.at_ := by
    rw [← hf']
  conv_rhs => rw [← e]
  rfl

/-- A result, its reply and what follows the reply. -/
theorem runCmd_eq {k : Cmd} {st : Nat} {d : List Byte} {u : State}
    (hs : (s.flag Reg.CMD_STATUS_READY || earlyOpcode k.c.opcode) = true)
    (hp : s.perform k.h k.c = ⟨st, d, u, false⟩) :
    s.runCmd k = if accepted st then (answered k.h k.c st d u).afterReply k.h k.c else answered k.h k.c st [] u := by
  unfold State.runCmd State.result
  simp only [hs, if_true, hp, Bool.false_eq_true, if_false]
  split <;> rfl

end Sys2Proof.Machine
end

