-- ==== Sys2Proof/Laws/Dispatch.lean ====
section
/-! SUPPORT. The form of every command's meaning: an opcode row is a host command, and every other row but those that act
in reset is an event at its instant. -/

namespace Sys2Proof.Machine

/-- An opcode row is the host command of its opcode. -/
theorem exec_instrOf (h : Hdr) (c : HostCmd) (s : State) : exec (instrOf h c) s = hostCommand h c s := by
  cases c <;> rfl

/-- Every command but those that act in reset is an event at its instant. -/
theorem exec_event (c : Instr) (ha : actsInReset c = false) :
    ∃ f : State → State, ∀ s, exec c s = event (instant c) f s := by
  cases c
  case nop => exact ⟨_, fun s => by delta exec execNop hostCommand; rfl⟩
  case getInfo => exact ⟨_, fun s => by delta exec execGetInfo hostCommand; rfl⟩
  case regRead => exact ⟨_, fun s => by delta exec execRegRead hostCommand; rfl⟩
  case regWrite => exact ⟨_, fun s => by delta exec execRegWrite hostCommand; rfl⟩
  case regModify => exact ⟨_, fun s => by delta exec execRegModify hostCommand; rfl⟩
  case reset => exact ⟨_, fun s => by delta exec execReset hostCommand; rfl⟩
  case getStatus => exact ⟨_, fun s => by delta exec execGetStatus hostCommand; rfl⟩
  case memFill => exact ⟨_, fun s => by delta exec execMemFill hostCommand; rfl⟩
  case memMode => exact ⟨_, fun s => by delta exec execMemMode hostCommand; rfl⟩
  case dmaStart => exact ⟨_, fun s => by delta exec execDmaStart hostCommand; rfl⟩
  case dmaAbort => exact ⟨_, fun s => by delta exec execDmaAbort hostCommand; rfl⟩
  case packStart => exact ⟨_, fun s => by delta exec execPackStart hostCommand; rfl⟩
  case unpackStart => exact ⟨_, fun s => by delta exec execUnpackStart hostCommand; rfl⟩
  case packResume => exact ⟨_, fun s => by delta exec execPackResume hostCommand; rfl⟩
  case packSlot => exact ⟨_, fun s => by delta exec execPackSlot hostCommand; rfl⟩
  case jobDefine => exact ⟨_, fun s => by delta exec execJobDefine hostCommand; rfl⟩
  case jobStart => exact ⟨_, fun s => by delta exec execJobStart hostCommand; rfl⟩
  case jobStop => exact ⟨_, fun s => by delta exec execJobStop hostCommand; rfl⟩
  case jobStatus => exact ⟨_, fun s => by delta exec execJobStatus hostCommand; rfl⟩
  case streamCommit => exact ⟨_, fun s => by delta exec execStreamCommit hostCommand; rfl⟩
  case layerSet => exact ⟨_, fun s => by delta exec execLayerSet hostCommand; rfl⟩
  case kiteMove => exact ⟨_, fun s => by delta exec execKiteMove hostCommand; rfl⟩
  case pload => exact ⟨_, fun s => by delta exec execPload hostCommand; rfl⟩
  case plock => exact ⟨_, fun s => by delta exec execPlock hostCommand; rfl⟩
  case punlock => exact ⟨_, fun s => by delta exec execPunlock hostCommand; rfl⟩
  case tableLoad => exact ⟨_, fun s => by delta exec execTableLoad hostCommand; rfl⟩
  case headProfile => exact ⟨_, fun s => by delta exec execHeadProfile hostCommand; rfl⟩
  case headMap => exact ⟨_, fun s => by delta exec execHeadMap hostCommand; rfl⟩
  case portEnable => exact ⟨_, fun s => by delta exec execPortEnable hostCommand; rfl⟩
  case portClear => exact ⟨_, fun s => by delta exec execPortClear hostCommand; rfl⟩
  case headRead => exact ⟨_, fun s => by delta exec execHeadRead hostCommand; rfl⟩
  case preheatTarget => exact ⟨_, fun s => by delta exec execPreheatTarget hostCommand; rfl⟩
  case encConfig => exact ⟨_, fun s => by delta exec execEncConfig hostCommand; rfl⟩
  case encReference => exact ⟨_, fun s => by delta exec execEncReference hostCommand; rfl⟩
  case encRead => exact ⟨_, fun s => by delta exec execEncRead hostCommand; rfl⟩
  case lineConfig => exact ⟨_, fun s => by delta exec execLineConfig hostCommand; rfl⟩
  case headOffset => exact ⟨_, fun s => by delta exec execHeadOffset hostCommand; rfl⟩
  case compareSet => exact ⟨_, fun s => by delta exec execCompareSet hostCommand; rfl⟩
  case wspdConfig => exact ⟨_, fun s => by delta exec execWspdConfig hostCommand; rfl⟩
  case camConfig => exact ⟨_, fun s => by delta exec execCamConfig hostCommand; rfl⟩
  case camInline => exact ⟨_, fun s => by delta exec execCamInline hostCommand; rfl⟩
  case roiSet => exact ⟨_, fun s => by delta exec execRoiSet hostCommand; rfl⟩
  case statsRead => exact ⟨_, fun s => by delta exec execStatsRead hostCommand; rfl⟩
  case loopCtrl => exact ⟨_, fun s => by delta exec execLoopCtrl hostCommand; rfl⟩
  case alignRead => exact ⟨_, fun s => by delta exec execAlignRead hostCommand; rfl⟩
  case alignRestore => exact ⟨_, fun s => by delta exec execAlignRestore hostCommand; rfl⟩
  case axisConfig => exact ⟨_, fun s => by delta exec execAxisConfig hostCommand; rfl⟩
  case axisMove => exact ⟨_, fun s => by delta exec execAxisMove hostCommand; rfl⟩
  case axisTable => exact ⟨_, fun s => by delta exec execAxisTable hostCommand; rfl⟩
  case axisStop => exact ⟨_, fun s => by delta exec execAxisStop hostCommand; rfl⟩
  case axisRead => exact ⟨_, fun s => by delta exec execAxisRead hostCommand; rfl⟩
  case axisSetPos => exact ⟨_, fun s => by delta exec execAxisSetPos hostCommand; rfl⟩
  case switchConfig => exact ⟨_, fun s => by delta exec execSwitchConfig hostCommand; rfl⟩
  case timeRead => exact ⟨_, fun s => by delta exec execTimeRead hostCommand; rfl⟩
  case timeSet => exact ⟨_, fun s => by delta exec execTimeSet hostCommand; rfl⟩
  case timeAdjust => exact ⟨_, fun s => by delta exec execTimeAdjust hostCommand; rfl⟩
  case triggerSet => exact ⟨_, fun s => by delta exec execTriggerSet hostCommand; rfl⟩
  case thermRead => exact ⟨_, fun s => by delta exec execThermRead hostCommand; rfl⟩
  case hkRead => exact ⟨_, fun s => by delta exec execHkRead hostCommand; rfl⟩
  case calRun => exact ⟨_, fun s => by delta exec execCalRun hostCommand; rfl⟩
  case calDt => exact ⟨_, fun s => by delta exec execCalDt hostCommand; rfl⟩
  case linkConfig => exact ⟨_, fun s => by delta exec execLinkConfig hostCommand; rfl⟩
  case linkRestart => exact ⟨_, fun s => by delta exec execLinkRestart hostCommand; rfl⟩
  case linkStatus => exact ⟨_, fun s => by delta exec execLinkStatus hostCommand; rfl⟩
  case hierRead => exact ⟨_, fun s => by delta exec execHierRead hostCommand; rfl⟩
  case pairConfig => exact ⟨_, fun s => by delta exec execPairConfig hostCommand; rfl⟩
  case pairStatus => exact ⟨_, fun s => by delta exec execPairStatus hostCommand; rfl⟩
  case pairHandover => exact ⟨_, fun s => by delta exec execPairHandover hostCommand; rfl⟩
  case pairRejoin => exact ⟨_, fun s => by delta exec execPairRejoin hostCommand; rfl⟩
  case otpRead => exact ⟨_, fun s => by delta exec execOtpRead hostCommand; rfl⟩
  case otpBurn => exact ⟨_, fun s => by delta exec execOtpBurn hostCommand; rfl⟩
  case keyBurn => exact ⟨_, fun s => by delta exec execKeyBurn hostCommand; rfl⟩
  case patchLoad => exact ⟨_, fun s => by delta exec execPatchLoad hostCommand; rfl⟩
  case patchActivate => exact ⟨_, fun s => by delta exec execPatchActivate hostCommand; rfl⟩
  case ladderSet => exact ⟨_, fun s => by delta exec execLadderSet hostCommand; rfl⟩
  case ladderStatus => exact ⟨_, fun s => by delta exec execLadderStatus hostCommand; rfl⟩
  case vcoreFloor => exact ⟨_, fun s => by delta exec execVcoreFloor hostCommand; rfl⟩
  case logRead => exact ⟨_, fun s => by delta exec execLogRead hostCommand; rfl⟩
  case logClear => exact ⟨_, fun s => by delta exec execLogClear hostCommand; rfl⟩
  case echo => exact ⟨_, fun s => by delta exec execEcho hostCommand; rfl⟩
  case countersRead => exact ⟨_, fun s => by delta exec execCountersRead hostCommand; rfl⟩
  case registerFieldWrite => exact ⟨_, fun s => by delta exec execRegisterFieldWrite eventAwake; rfl⟩
  case clrMin => exact ⟨_, fun s => by delta exec execClrMin eventAwake; rfl⟩
  case gpioDirWrite => exact ⟨_, fun s => by delta exec execGpioDirWrite regEvent eventAwake; rfl⟩
  case clkStatusLostClear => exact ⟨_, fun s => by delta exec execClkStatusLostClear regEvent eventAwake; rfl⟩
  case cmpPosLoWrite => exact ⟨_, fun s => by delta exec execCmpPosLoWrite regEvent eventAwake; rfl⟩
  case zFaultClear => exact ⟨_, fun s => by delta exec execZFaultClear eventAwake; rfl⟩
  case ssiStart => exact ⟨_, fun s => by delta exec execSsiStart eventAwake; rfl⟩
  case cplHiWrite => exact ⟨_, fun s => by delta exec execCplHiWrite regEvent eventAwake; rfl⟩
  case defectPop => exact ⟨_, fun s => by delta exec execDefectPop regEvent eventAwake; rfl⟩
  case uePop => exact ⟨_, fun s => by delta exec execUePop regEvent eventAwake; rfl⟩
  case invalGo => exact ⟨_, fun s => by delta exec execInvalGo eventAwake; rfl⟩
  case recoverActiveWrite => exact ⟨_, fun s => by delta exec execRecoverActiveWrite eventAwake; rfl⟩
  case tableCommit => exact ⟨_, fun s => by delta exec execTableCommit eventAwake; rfl⟩
  case dmaCommit => exact ⟨_, fun s => by delta exec execDmaCommit regEvent eventAwake; rfl⟩
  case zphyPortRestart => exact ⟨_, fun s => by delta exec execZphyPortRestart eventAwake; rfl⟩
  case zphyPortDisable => exact ⟨_, fun s => by delta exec execZphyPortDisable eventAwake; rfl⟩
  case brokenClear => exact ⟨_, fun s => by delta exec execBrokenClear eventAwake; rfl⟩
  case pmbusFaultClear => exact ⟨_, fun s => by delta exec execPmbusFaultClear regEvent eventAwake; rfl⟩
  case spiWriteFrame => exact ⟨_, fun s => by delta exec execSpiWriteFrame spiFrame; rfl⟩
  case spiStatusFrame => exact ⟨_, fun s => by delta exec execSpiStatusFrame spiFrame; rfl⟩
  case spiReadFrame => exact ⟨_, fun s => by delta exec execSpiReadFrame spiFrame; rfl⟩
  case spiUnknownFrame => exact ⟨_, fun s => by delta exec execSpiUnknownFrame spiFrame; rfl⟩
  case commandExecute => exact ⟨_, fun s => by delta exec execCommandExecute eventAwake; rfl⟩
  case eventWindowEnd => exact ⟨_, fun s => by delta exec execEventWindowEnd; rfl⟩
  case refclkSysLost => exact ⟨_, fun s => by delta exec execRefclkSysLost; rfl⟩
  case paceWindow => exact ⟨_, fun s => by delta exec execPaceWindow eventAwake; rfl⟩
  case encEdgeAccepted => exact absurd ha (by simp [actsInReset])
  case indexLatch => exact absurd ha (by simp [actsInReset])
  case wireFault => exact ⟨_, fun s => by delta exec execWireFault; rfl⟩
  case standstill => exact ⟨_, fun s => by delta exec execStandstill; rfl⟩
  case settlingEnd => exact ⟨_, fun s => by delta exec execSettlingEnd; rfl⟩
  case observerTick => exact ⟨_, fun s => by delta exec execObserverTick; rfl⟩
  case lineIssue => exact ⟨_, fun s => by delta exec execLineIssue eventAwake; rfl⟩
  case lineToFifo => exact ⟨_, fun s => by delta exec execLineToFifo eventAwake; rfl⟩
  case shiftStart => exact ⟨_, fun s => by delta exec execShiftStart eventAwake; rfl⟩
  case latch => exact ⟨_, fun s => by delta exec execLatch eventAwake; rfl⟩
  case strobeTrainStart => exact ⟨_, fun s => by delta exec execStrobeTrainStart eventAwake; rfl⟩
  case strobeTrainEnd => exact ⟨_, fun s => by delta exec execStrobeTrainEnd eventAwake; rfl⟩
  case defectMarkRelease => exact ⟨_, fun s => by delta exec execDefectMarkRelease eventAwake; rfl⟩
  case jobTakeover => exact ⟨_, fun s => by delta exec execJobTakeover eventAwake; rfl⟩
  case jobEnd => exact ⟨_, fun s => by delta exec execJobEnd eventAwake; rfl⟩
  case wspdPeriod => exact ⟨_, fun s => by delta exec execWspdPeriod eventAwake; rfl⟩
  case sretFrame => exact ⟨_, fun s => by delta exec execSretFrame eventAwake; rfl⟩
  case sretTimeout => exact ⟨_, fun s => by delta exec execSretTimeout eventAwake; rfl⟩
  case strobeWatchdog => exact ⟨_, fun s => by delta exec execStrobeWatchdog eventAwake; rfl⟩
  case strobeHwLimit => exact ⟨_, fun s => by delta exec execStrobeHwLimit eventAwake; rfl⟩
  case csiFrameStart => exact ⟨_, fun s => by delta exec execCsiFrameStart eventAwake; rfl⟩
  case csiFrameEnd => exact ⟨_, fun s => by delta exec execCsiFrameEnd eventAwake; rfl⟩
  case csiLongPacket => exact ⟨_, fun s => by delta exec execCsiLongPacket eventAwake; rfl⟩
  case camLineTimeout => exact ⟨_, fun s => by delta exec execCamLineTimeout eventAwake; rfl⟩
  case pipelineLine => exact ⟨_, fun s => by delta exec execPipelineLine eventAwake; rfl⟩
  case frameProcessed => exact ⟨_, fun s => by delta exec execFrameProcessed eventAwake; rfl⟩
  case profileUpdate => exact ⟨_, fun s => by delta exec execProfileUpdate eventAwake; rfl⟩
  case microstepAdvance => exact ⟨_, fun s => by delta exec execMicrostepAdvance eventAwake; rfl⟩
  case chopHighThreshold => exact ⟨_, fun s => by delta exec execChopHighThreshold eventAwake; rfl⟩
  case chopCycleEnd => exact ⟨_, fun s => by delta exec execChopCycleEnd eventAwake; rfl⟩
  case chopBlankEnd => exact ⟨_, fun s => by delta exec execChopBlankEnd eventAwake; rfl⟩
  case longCycle => exact ⟨_, fun s => by delta exec execLongCycle eventAwake; rfl⟩
  case overcurrent => exact ⟨_, fun s => by delta exec execOvercurrent eventAwake; rfl⟩
  case holdDelayExpiry => exact ⟨_, fun s => by delta exec execHoldDelayExpiry eventAwake; rfl⟩
  case switchLevelAccepted => exact ⟨_, fun s => by delta exec execSwitchLevelAccepted eventAwake; rfl⟩
  case evtSwitchStuck => exact ⟨_, fun s => by delta exec execEvtSwitchStuck eventAwake; rfl⟩
  case comparePulseEnd => exact ⟨_, fun s => by delta exec execComparePulseEnd; rfl⟩
  case ssiFramePeriod => exact ⟨_, fun s => by delta exec execSsiFramePeriod eventAwake; rfl⟩
  case ssiFrameDone => exact ⟨_, fun s => by delta exec execSsiFrameDone eventAwake; rfl⟩
  case dmaBurstStart => exact ⟨_, fun s => by delta exec execDmaBurstStart eventAwake; rfl⟩
  case dmaWriteAck => exact ⟨_, fun s => by delta exec execDmaWriteAck eventAwake; rfl⟩
  case dmaTransferComplete => exact ⟨_, fun s => by delta exec execDmaTransferComplete eventAwake; rfl⟩
  case dmaReadError => exact ⟨_, fun s => by delta exec execDmaReadError eventAwake; rfl⟩
  case evtPackDone => exact ⟨_, fun s => by delta exec execEvtPackDone eventAwake; rfl⟩
  case memFillDone => exact ⟨_, fun s => by delta exec execMemFillDone eventAwake; rfl⟩
  case tableCopyDone => exact ⟨_, fun s => by delta exec execTableCopyDone eventAwake; rfl⟩
  case ploadCopyDone => exact ⟨_, fun s => by delta exec execPloadCopyDone eventAwake; rfl⟩
  case checkPassDone => exact ⟨_, fun s => by delta exec execCheckPassDone eventAwake; rfl⟩
  case memWriteAck => exact ⟨_, fun s => by delta exec execMemWriteAck eventAwake; rfl⟩
  case zeroFillDone => exact ⟨_, fun s => by delta exec execZeroFillDone eventAwake; rfl⟩
  case correctedRead => exact ⟨_, fun s => by delta exec execCorrectedRead eventAwake; rfl⟩
  case scrubRewrite => exact ⟨_, fun s => by delta exec execScrubRewrite eventAwake; rfl⟩
  case uncorrectableRead => exact ⟨_, fun s => by delta exec execUncorrectableRead eventAwake; rfl⟩
  case scrubBlock => exact ⟨_, fun s => by delta exec execScrubBlock eventAwake; rfl⟩
  case dramTraining => exact ⟨_, fun s => by delta exec execDramTraining eventAwake; rfl⟩
  case dramTapStep => exact ⟨_, fun s => by delta exec execDramTapStep eventAwake; rfl⟩
  case dramRetrainDone => exact ⟨_, fun s => by delta exec execDramRetrainDone eventAwake; rfl⟩
  case evtReady => exact ⟨_, fun s => by delta exec execEvtReady eventAwake; rfl⟩
  case alignmentMarker => exact ⟨_, fun s => by delta exec execAlignmentMarker; rfl⟩
  case markerWindowMiss => exact ⟨_, fun s => by delta exec execMarkerWindowMiss; rfl⟩
  case refclkZlLost => exact ⟨_, fun s => by delta exec execRefclkZlLost; rfl⟩
  case refclkZlRestored => exact ⟨_, fun s => by delta exec execRefclkZlRestored; rfl⟩
  case laneActivityLost => exact ⟨_, fun s => by delta exec execLaneActivityLost; rfl⟩
  case windupUnanswered => exact ⟨_, fun s => by delta exec execWindupUnanswered; rfl⟩
  case windUpBurstRx => exact ⟨_, fun s => by delta exec execWindUpBurstRx; rfl⟩
  case idleEntry => exact ⟨_, fun s => by delta exec execIdleEntry; rfl⟩
  case idleExit => exact ⟨_, fun s => by delta exec execIdleExit; rfl⟩
  case flitReceived => exact ⟨_, fun s => by delta exec execFlitReceived; rfl⟩
  case initReceived => exact ⟨_, fun s => by delta exec execInitReceived; rfl⟩
  case nakReceived => exact ⟨_, fun s => by delta exec execNakReceived; rfl⟩
  case replayTimeout => exact ⟨_, fun s => by delta exec execReplayTimeout; rfl⟩
  case nakRepeat => exact ⟨_, fun s => by delta exec execNakRepeat; rfl⟩
  case initTimeout => exact ⟨_, fun s => by delta exec execInitTimeout; rfl⟩
  case flitTransmit => exact ⟨_, fun s => by delta exec execFlitTransmit; rfl⟩
  case cmdTransaction => exact ⟨_, fun s => by delta exec execCmdTransaction; rfl⟩
  case upstreamForward => exact ⟨_, fun s => by delta exec execUpstreamForward; rfl⟩
  case memwr => exact ⟨_, fun s => by delta exec execMemwr; rfl⟩
  case memrd => exact ⟨_, fun s => by delta exec execMemrd; rfl⟩
  case memcpl => exact ⟨_, fun s => by delta exec execMemcpl; rfl⟩
  case bcast => exact ⟨_, fun s => by delta exec execBcast; rfl⟩
  case beaconSend => exact ⟨_, fun s => by delta exec execBeaconSend eventAwake; rfl⟩
  case evtBeaconLost => exact ⟨_, fun s => by delta exec execEvtBeaconLost; rfl⟩
  case timeTriggerEvent => exact ⟨_, fun s => by delta exec execTimeTriggerEvent; rfl⟩
  case camTrigPulseEnd => exact ⟨_, fun s => by delta exec execCamTrigPulseEnd; rfl⟩
  case hkRoundStart => exact ⟨_, fun s => by delta exec execHkRoundStart; rfl⟩
  case hkRoundEnd => exact ⟨_, fun s => by delta exec execHkRoundEnd eventAwake; rfl⟩
  case calMeasureDone => exact ⟨_, fun s => by delta exec execCalMeasureDone eventAwake; rfl⟩
  case tapStep => exact ⟨_, fun s => by delta exec execTapStep eventAwake; rfl⟩
  case stringReceived => exact ⟨_, fun s => by delta exec execStringReceived; rfl⟩
  case stringSend => exact ⟨_, fun s => by delta exec execStringSend; rfl⟩
  case wireStringToggle => exact ⟨_, fun s => by delta exec execWireStringToggle; rfl⟩
  case stringInEdge => exact ⟨_, fun s => by delta exec execStringInEdge; rfl⟩
  case stringSilent => exact ⟨_, fun s => by delta exec execStringSilent; rfl⟩
  case ilkInChange => exact ⟨_, fun s => by delta exec execIlkInChange; rfl⟩
  case ilkRaise => exact ⟨_, fun s => by delta exec execIlkRaise; rfl⟩
  case hwdogExpiry => exact ⟨_, fun s => by delta exec execHwdogExpiry; rfl⟩
  case pairListenEnd => exact ⟨_, fun s => by delta exec execPairListenEnd; rfl⟩
  case checkpointSend => exact ⟨_, fun s => by delta exec execCheckpointSend eventAwake; rfl⟩
  case ckptReceived => exact ⟨_, fun s => by delta exec execCkptReceived; rfl⟩
  case evtStandbyReady => exact ⟨_, fun s => by delta exec execEvtStandbyReady; rfl⟩
  case dozeTimeout => exact ⟨_, fun s => by delta exec execDozeTimeout eventAwake; rfl⟩
  case autoL1Entry => exact ⟨_, fun s => by delta exec execAutoL1Entry; rfl⟩
  case l1Exit => exact ⟨_, fun s => by delta exec execL1Exit; rfl⟩
  case ladderEntry => exact ⟨_, fun s => by delta exec execLadderEntry; rfl⟩
  case evtLadderWake => exact ⟨_, fun s => by delta exec execEvtLadderWake; rfl⟩
  case resetNFall => exact ⟨_, fun s => by delta exec execResetNFall; rfl⟩
  case resetNRise => exact absurd ha (by simp [actsInReset])
  case pwrgoodFall => exact absurd ha (by simp [actsInReset])
  case pmbusAlert => exact ⟨_, fun s => by delta exec execPmbusAlert; rfl⟩
  case vsettleExpiry => exact ⟨_, fun s => by delta exec execVsettleExpiry; rfl⟩
  case bypass => exact absurd ha (by simp [actsInReset])
  case idcode => exact absurd ha (by simp [actsInReset])
  case samplePreload => exact absurd ha (by simp [actsInReset])
  case extest => exact absurd ha (by simp [actsInReset])
  case clamp => exact absurd ha (by simp [actsInReset])
  case highz => exact absurd ha (by simp [actsInReset])
  case refclkSysReturn => exact ⟨_, fun s => by delta exec execRefclkSysReturn; rfl⟩
  case wireFaultEnd => exact ⟨_, fun s => by delta exec execWireFaultEnd; rfl⟩
  case diStuck => exact ⟨_, fun s => by delta exec execDiStuck eventAwake; rfl⟩
  case laneClockSettled => exact ⟨_, fun s => by delta exec execLaneClockSettled; rfl⟩
  case bitLock => exact ⟨_, fun s => by delta exec execBitLock; rfl⟩
  case supplyOperatingRange => exact absurd ha (by simp [actsInReset])
  case pmbusTransactionEnd => exact ⟨_, fun s => by delta exec execPmbusTransactionEnd; rfl⟩

/-! ### Completion of an opcode row -/

variable {h : Hdr} {c : HostCmd} {s : State} {st : Nat} {d : List Byte}

/-- An opcode row whose check accepts: its effect and its reply. -/
theorem exec_accepts {t : State} (hr : Ready h c s) (hp : (s.serving h c).perform h c = ⟨st, d, t, false⟩)
    (ha : accepted st = true) (haf : ∀ u : State, u.afterReply h c = u) :
    exec (instrOf h c) s = .next (answered h c st d t) := by
  rw [exec_instrOf, hostCommand_accepts hr hp ha, haf]

/-- An opcode row that only replies. -/
theorem exec_replies (hr : Ready h c s) (hp : (s.serving h c).perform h c = ⟨st, d, s.serving h c, false⟩)
    (ha : accepted st = true) (haf : ∀ u : State, u.afterReply h c = u) :
    exec (instrOf h c) s = .next ((s.elapse h.at_).reply h c.opcode st false d) := by
  rw [exec_accepts hr hp ha haf, answered_serving hr.free]

/-- An opcode row whose own check refuses and leaves the state. -/
theorem exec_refuses (hr : Ready h c s) (hp : (s.serving h c).perform h c = ⟨st, d, s.serving h c, false⟩)
    (ha : accepted st = false) :
    exec (instrOf h c) s = .next ((s.elapse h.at_).reply h c.opcode st false []) := by
  rw [exec_instrOf, hostCommand_refuses hr hp ha, answered_serving hr.free]

/-- An opcode row with a parameter that it does not admit is refused at its arrival (R36 check 5). -/
theorem exec_badParam {c0 : HostCmd} (hp : Placed h c0 s) (hv : HostCmd.valuesOk c = false) :
    exec (instrOf h c) s = .next ((s.elapse h.at_).reply h c.opcode stBadParam false []) := by
  have hid : (s.elapse h.at_).myId = s.myId := by simp [State.myId]
  have hact : (s.elapse h.at_).active 0 = s.active 0 := by simp [State.active]
  have h63 : (h.target == 63) = false := by have := hp.target; have := hp.assigned; simp; omega
  have hst : (s.elapse h.at_).arrivalStatus ⟨h, c.opcode, encodeParams c, some c, 0xFE⟩ = stBadParam := by
    simp [State.arrivalStatus, Packet.reservedSet, State.dupTag, hp.flags, hp.status, hp.reserved, hp.free, hp.idle, h63, hv]
  have hd : (s.elapse h.at_).dupTag ⟨h, c.opcode, encodeParams c, some c, 0xFE⟩ = false := by
    simp [State.dupTag, hp.free, hp.idle]
  rw [exec_instrOf]
  unfold hostCommand
  rw [event_running hp.running]
  have hopen : (h.iface == Iface.spi || (s.elapse h.at_).active 0) = true := by
    rcases hp.open_ with h3 | h3 <;> simp [h3, hact]
  rw [hopen, State.when_true]
  have haw : (s.elapse h.at_).awake = true := by simp [hp.awake]
  unfold State.arrive
  simp only [haw, if_true, hp.notReply, Bool.false_eq_true, if_false]
  have hpl : (s.elapse h.at_).place ⟨h, c.opcode, encodeParams c, some c, 0xFE⟩ =
      (s.elapse h.at_).reply h c.opcode stBadParam false [] := by
    unfold State.place
    simp only [hid]
    rw [if_neg (by have := hp.assigned; omega), if_pos hp.target]
    unfold State.take
    have hne : (stBadParam = stOk) = False := by decide
    simp only [hst, hne, if_false, hd, Bool.and_false, State.refuse]
  rw [hpl]
  simp only [State.elapse_host, hp.free, List.isEmpty_nil, if_true]
  unfold State.startNext
  have hn : ((s.elapse h.at_).reply h c.opcode stBadParam false []).host.outstanding = [] := by
    unfold State.reply; split <;> simp [hp.free]
  rw [hn]

end Sys2Proof.Machine
end

