-- ==== Sys2Proof/Laws/Frame.lean ====
section
/-! SUPPORT. Everything that raising an event, queueing a reply or a transaction, and meeting an error can change. -/

namespace Sys2Proof.Machine

/-- Only the command interpreter, registers and the free values may differ. -/
def OnlyHost (s u : State) : Prop := ∃ h r f, u = { s with host := h, regs := r, free := f }

theorem OnlyHost.refl (s : State) : OnlyHost s s := ⟨_, _, _, rfl⟩

theorem OnlyHost.trans {s u v : State} (h1 : OnlyHost s u) (h2 : OnlyHost u v) : OnlyHost s v := by
  obtain ⟨_, _, _, rfl⟩ := h1
  obtain ⟨h, r, f, rfl⟩ := h2
  exact ⟨h, r, f, rfl⟩

/-- Registers that raising an event may change: the count of events dropped from the log, and of events lost. -/
def eventFields : List Nat := [Reg.LOG_STATUS_DROPPED.key, Reg.CMD_ERR_COUNT_EVT_LOST.key]

variable (s : State)

theorem State.queueEvt_onlyHost (e : Evt) : OnlyHost s (s.queueEvt e) := by
  unfold State.queueEvt
  dsimp only
  repeat' split
  all_goals exact ⟨_, _, _, rfl⟩

theorem State.logEvt_onlyHost (e : Evt) : OnlyHost s (s.logEvt e) := by
  unfold State.logEvt
  repeat' split
  all_goals exact ⟨_, _, _, rfl⟩

theorem State.raise1_onlyHost (c n : Nat) (a : List Byte) : OnlyHost s (s.raise1 c n a) := by
  unfold State.raise1
  dsimp only
  refine OnlyHost.trans (OnlyHost.trans ?_ (State.logEvt_onlyHost _ _)) (State.queueEvt_onlyHost _ _)
  exact ⟨_, _, _, rfl⟩

/-- Raising an event changes the command interpreter, registers and the free values, nothing else. -/
theorem State.raise_onlyHost (c n : Nat) (a : List Byte) : OnlyHost s (s.raise c n a) := by
  unfold State.raise
  dsimp only
  split
  · refine OnlyHost.trans (OnlyHost.trans (State.raise1_onlyHost s c n a) ?_) (State.raise1_onlyHost _ _ _ _)
    exact ⟨_, _, _, rfl⟩
  · exact State.raise1_onlyHost s c n a

theorem State.windowEnd_onlyHost (c n : Nat) : OnlyHost s (s.windowEnd c n) := by
  unfold State.windowEnd
  repeat' split
  · exact OnlyHost.refl s
  · exact ⟨_, _, _, rfl⟩
  · exact OnlyHost.trans (State.raise_onlyHost s _ _ _) ⟨_, _, _, rfl⟩

theorem State.raiseLimited_onlyHost (c n k : Nat) (a : List Byte) : OnlyHost s (s.raiseLimited c n k a) := by
  unfold State.raiseLimited
  dsimp only
  have h : ∀ u : State, OnlyHost s u → OnlyHost s (match u.window? c n with
      | some w =>
        if u.now < w.endAt then u.putWindow { w with held := w.held + k, args := if w.held = 0 then a else w.args }
        else (u.raise c n (u.limitedArgs c k a)).putWindow ⟨c, n, u.now + limitWindow c, 0, []⟩
      | none => (u.raise c n (u.limitedArgs c k a)).putWindow ⟨c, n, u.now + limitWindow c, 0, []⟩) := by
    intro u hu
    have hp : ∀ v w, OnlyHost s v → OnlyHost s (v.putWindow w) := fun v w hv => hv.trans ⟨_, _, _, rfl⟩
    split
    · split
      · exact hp _ _ hu
      · exact hp _ _ (hu.trans (State.raise_onlyHost _ _ _ _))
    · exact hp _ _ (hu.trans (State.raise_onlyHost _ _ _ _))
  refine h _ ?_
  repeat' split
  · exact State.windowEnd_onlyHost s c n
  · exact OnlyHost.refl s
  · exact OnlyHost.refl s

theorem State.cmdDone_onlyHost (op tag st : Nat) (i : Iface) (r : Nat) : OnlyHost s (s.cmdDone op tag st i r) :=
  State.raise_onlyHost ..

/-- Queueing a reply changes the command interpreter only. -/
theorem State.reply_frame (h : Hdr) (op st : Nat) (dup : Bool) (d : List Byte) :
    ∃ k, s.reply h op st dup d = { s with host := k } := by
  unfold State.reply
  split
  · exact ⟨_, rfl⟩
  · exact ⟨_, rfl⟩

/-! ### Registers that an event leaves -/

theorem State.queueEvt_get (e : Evt) {q : Fld} (h : q.key ∉ eventFields) : (s.queueEvt e).get q = s.get q := by
  have hq : q.key ≠ Reg.CMD_ERR_COUNT_EVT_LOST.key := fun e => h (by simp [eventFields, e])
  have hd : ∀ u : State, u.discardEvt.get q = u.get q := fun u => State.get_set_other u hq _
  unfold State.queueEvt
  dsimp only
  repeat' split
  all_goals first | rfl | exact hd _

theorem State.logEvt_get (e : Evt) {q : Fld} (h : q.key ∉ eventFields) : (s.logEvt e).get q = s.get q := by
  have hq : q.key ≠ Reg.LOG_STATUS_DROPPED.key := fun e => h (by simp [eventFields, e])
  unfold State.logEvt
  repeat' split
  all_goals first | rfl | exact State.get_set_other s hq _

theorem State.raise1_get (c n : Nat) (a : List Byte) {q : Fld} (h : q.key ∉ eventFields) :
    (s.raise1 c n a).get q = s.get q := by
  unfold State.raise1
  dsimp only
  rw [State.queueEvt_get _ _ h, State.logEvt_get _ _ h]
  rfl

/-- An event leaves every register but the two of `eventFields`. -/
theorem State.raise_get (c n : Nat) (a : List Byte) {q : Fld} (h : q.key ∉ eventFields) :
    (s.raise c n a).get q = s.get q := by
  unfold State.raise
  dsimp only
  split
  · rw [State.raise1_get _ _ _ _ h]
    exact State.raise1_get s c n a h
  · exact State.raise1_get s c n a h

/-! ### raise -/

section
variable (c n : Nat) (a : List Byte)
@[simp] theorem State.raise_pending : (s.raise c n a).pending = s.pending := by
  obtain ⟨_, _, _, h⟩ := State.raise_onlyHost s c n a; rw [h]
@[simp] theorem State.raise_time : (s.raise c n a).time = s.time := by
  obtain ⟨_, _, _, h⟩ := State.raise_onlyHost s c n a; rw [h]
@[simp] theorem State.raise_act : (s.raise c n a).act = s.act := by
  obtain ⟨_, _, _, h⟩ := State.raise_onlyHost s c n a; rw [h]
@[simp] theorem State.raise_dram : (s.raise c n a).dram = s.dram := by
  obtain ⟨_, _, _, h⟩ := State.raise_onlyHost s c n a; rw [h]
@[simp] theorem State.raise_tab0 : (s.raise c n a).tab0 = s.tab0 := by
  obtain ⟨_, _, _, h⟩ := State.raise_onlyHost s c n a; rw [h]
@[simp] theorem State.raise_tab1 : (s.raise c n a).tab1 = s.tab1 := by
  obtain ⟨_, _, _, h⟩ := State.raise_onlyHost s c n a; rw [h]
@[simp] theorem State.raise_mem : (s.raise c n a).mem = s.mem := by
  obtain ⟨_, _, _, h⟩ := State.raise_onlyHost s c n a; rw [h]
@[simp] theorem State.raise_encs : (s.raise c n a).encs = s.encs := by
  obtain ⟨_, _, _, h⟩ := State.raise_onlyHost s c n a; rw [h]
@[simp] theorem State.raise_cmps : (s.raise c n a).cmps = s.cmps := by
  obtain ⟨_, _, _, h⟩ := State.raise_onlyHost s c n a; rw [h]
@[simp] theorem State.raise_ssis : (s.raise c n a).ssis = s.ssis := by
  obtain ⟨_, _, _, h⟩ := State.raise_onlyHost s c n a; rw [h]
@[simp] theorem State.raise_job : (s.raise c n a).job = s.job := by
  obtain ⟨_, _, _, h⟩ := State.raise_onlyHost s c n a; rw [h]
@[simp] theorem State.raise_line : (s.raise c n a).line = s.line := by
  obtain ⟨_, _, _, h⟩ := State.raise_onlyHost s c n a; rw [h]
@[simp] theorem State.raise_tone : (s.raise c n a).tone = s.tone := by
  obtain ⟨_, _, _, h⟩ := State.raise_onlyHost s c n a; rw [h]
@[simp] theorem State.raise_heads : (s.raise c n a).heads = s.heads := by
  obtain ⟨_, _, _, h⟩ := State.raise_onlyHost s c n a; rw [h]
@[simp] theorem State.raise_dma : (s.raise c n a).dma = s.dma := by
  obtain ⟨_, _, _, h⟩ := State.raise_onlyHost s c n a; rw [h]
@[simp] theorem State.raise_cam : (s.raise c n a).cam = s.cam := by
  obtain ⟨_, _, _, h⟩ := State.raise_onlyHost s c n a; rw [h]
@[simp] theorem State.raise_loops : (s.raise c n a).loops = s.loops := by
  obtain ⟨_, _, _, h⟩ := State.raise_onlyHost s c n a; rw [h]
@[simp] theorem State.raise_motion : (s.raise c n a).motion = s.motion := by
  obtain ⟨_, _, _, h⟩ := State.raise_onlyHost s c n a; rw [h]
@[simp] theorem State.raise_pack : (s.raise c n a).pack = s.pack := by
  obtain ⟨_, _, _, h⟩ := State.raise_onlyHost s c n a; rw [h]
@[simp] theorem State.raise_lanes : (s.raise c n a).lanes = s.lanes := by
  obtain ⟨_, _, _, h⟩ := State.raise_onlyHost s c n a; rw [h]
@[simp] theorem State.raise_ports : (s.raise c n a).ports = s.ports := by
  obtain ⟨_, _, _, h⟩ := State.raise_onlyHost s c n a; rw [h]
@[simp] theorem State.raise_hier : (s.raise c n a).hier = s.hier := by
  obtain ⟨_, _, _, h⟩ := State.raise_onlyHost s c n a; rw [h]
@[simp] theorem State.raise_pair : (s.raise c n a).pair = s.pair := by
  obtain ⟨_, _, _, h⟩ := State.raise_onlyHost s c n a; rw [h]
@[simp] theorem State.raise_otp : (s.raise c n a).otp = s.otp := by
  obtain ⟨_, _, _, h⟩ := State.raise_onlyHost s c n a; rw [h]
@[simp] theorem State.raise_power : (s.raise c n a).power = s.power := by
  obtain ⟨_, _, _, h⟩ := State.raise_onlyHost s c n a; rw [h]
@[simp] theorem State.raise_therm : (s.raise c n a).therm = s.therm := by
  obtain ⟨_, _, _, h⟩ := State.raise_onlyHost s c n a; rw [h]
@[simp] theorem State.raise_tap : (s.raise c n a).tap = s.tap := by
  obtain ⟨_, _, _, h⟩ := State.raise_onlyHost s c n a; rw [h]
end

/-! ### raiseLimited -/

section
variable (c n k : Nat) (a : List Byte)
@[simp] theorem State.raiseLimited_pending : (s.raiseLimited c n k a).pending = s.pending := by
  obtain ⟨_, _, _, h⟩ := State.raiseLimited_onlyHost s c n k a; rw [h]
@[simp] theorem State.raiseLimited_time : (s.raiseLimited c n k a).time = s.time := by
  obtain ⟨_, _, _, h⟩ := State.raiseLimited_onlyHost s c n k a; rw [h]
@[simp] theorem State.raiseLimited_act : (s.raiseLimited c n k a).act = s.act := by
  obtain ⟨_, _, _, h⟩ := State.raiseLimited_onlyHost s c n k a; rw [h]
@[simp] theorem State.raiseLimited_dram : (s.raiseLimited c n k a).dram = s.dram := by
  obtain ⟨_, _, _, h⟩ := State.raiseLimited_onlyHost s c n k a; rw [h]
@[simp] theorem State.raiseLimited_tab0 : (s.raiseLimited c n k a).tab0 = s.tab0 := by
  obtain ⟨_, _, _, h⟩ := State.raiseLimited_onlyHost s c n k a; rw [h]
@[simp] theorem State.raiseLimited_tab1 : (s.raiseLimited c n k a).tab1 = s.tab1 := by
  obtain ⟨_, _, _, h⟩ := State.raiseLimited_onlyHost s c n k a; rw [h]
@[simp] theorem State.raiseLimited_mem : (s.raiseLimited c n k a).mem = s.mem := by
  obtain ⟨_, _, _, h⟩ := State.raiseLimited_onlyHost s c n k a; rw [h]
@[simp] theorem State.raiseLimited_encs : (s.raiseLimited c n k a).encs = s.encs := by
  obtain ⟨_, _, _, h⟩ := State.raiseLimited_onlyHost s c n k a; rw [h]
@[simp] theorem State.raiseLimited_cmps : (s.raiseLimited c n k a).cmps = s.cmps := by
  obtain ⟨_, _, _, h⟩ := State.raiseLimited_onlyHost s c n k a; rw [h]
@[simp] theorem State.raiseLimited_ssis : (s.raiseLimited c n k a).ssis = s.ssis := by
  obtain ⟨_, _, _, h⟩ := State.raiseLimited_onlyHost s c n k a; rw [h]
@[simp] theorem State.raiseLimited_job : (s.raiseLimited c n k a).job = s.job := by
  obtain ⟨_, _, _, h⟩ := State.raiseLimited_onlyHost s c n k a; rw [h]
@[simp] theorem State.raiseLimited_line : (s.raiseLimited c n k a).line = s.line := by
  obtain ⟨_, _, _, h⟩ := State.raiseLimited_onlyHost s c n k a; rw [h]
@[simp] theorem State.raiseLimited_tone : (s.raiseLimited c n k a).tone = s.tone := by
  obtain ⟨_, _, _, h⟩ := State.raiseLimited_onlyHost s c n k a; rw [h]
@[simp] theorem State.raiseLimited_heads : (s.raiseLimited c n k a).heads = s.heads := by
  obtain ⟨_, _, _, h⟩ := State.raiseLimited_onlyHost s c n k a; rw [h]
@[simp] theorem State.raiseLimited_dma : (s.raiseLimited c n k a).dma = s.dma := by
  obtain ⟨_, _, _, h⟩ := State.raiseLimited_onlyHost s c n k a; rw [h]
@[simp] theorem State.raiseLimited_cam : (s.raiseLimited c n k a).cam = s.cam := by
  obtain ⟨_, _, _, h⟩ := State.raiseLimited_onlyHost s c n k a; rw [h]
@[simp] theorem State.raiseLimited_loops : (s.raiseLimited c n k a).loops = s.loops := by
  obtain ⟨_, _, _, h⟩ := State.raiseLimited_onlyHost s c n k a; rw [h]
@[simp] theorem State.raiseLimited_motion : (s.raiseLimited c n k a).motion = s.motion := by
  obtain ⟨_, _, _, h⟩ := State.raiseLimited_onlyHost s c n k a; rw [h]
@[simp] theorem State.raiseLimited_pack : (s.raiseLimited c n k a).pack = s.pack := by
  obtain ⟨_, _, _, h⟩ := State.raiseLimited_onlyHost s c n k a; rw [h]
@[simp] theorem State.raiseLimited_lanes : (s.raiseLimited c n k a).lanes = s.lanes := by
  obtain ⟨_, _, _, h⟩ := State.raiseLimited_onlyHost s c n k a; rw [h]
@[simp] theorem State.raiseLimited_ports : (s.raiseLimited c n k a).ports = s.ports := by
  obtain ⟨_, _, _, h⟩ := State.raiseLimited_onlyHost s c n k a; rw [h]
@[simp] theorem State.raiseLimited_hier : (s.raiseLimited c n k a).hier = s.hier := by
  obtain ⟨_, _, _, h⟩ := State.raiseLimited_onlyHost s c n k a; rw [h]
@[simp] theorem State.raiseLimited_pair : (s.raiseLimited c n k a).pair = s.pair := by
  obtain ⟨_, _, _, h⟩ := State.raiseLimited_onlyHost s c n k a; rw [h]
@[simp] theorem State.raiseLimited_otp : (s.raiseLimited c n k a).otp = s.otp := by
  obtain ⟨_, _, _, h⟩ := State.raiseLimited_onlyHost s c n k a; rw [h]
@[simp] theorem State.raiseLimited_power : (s.raiseLimited c n k a).power = s.power := by
  obtain ⟨_, _, _, h⟩ := State.raiseLimited_onlyHost s c n k a; rw [h]
@[simp] theorem State.raiseLimited_therm : (s.raiseLimited c n k a).therm = s.therm := by
  obtain ⟨_, _, _, h⟩ := State.raiseLimited_onlyHost s c n k a; rw [h]
@[simp] theorem State.raiseLimited_tap : (s.raiseLimited c n k a).tap = s.tap := by
  obtain ⟨_, _, _, h⟩ := State.raiseLimited_onlyHost s c n k a; rw [h]
end

/-! ### cmdDone -/

section
variable (op tag st : Nat) (i : Iface) (r : Nat)
@[simp] theorem State.cmdDone_pending : (s.cmdDone op tag st i r).pending = s.pending := by
  obtain ⟨_, _, _, h⟩ := State.cmdDone_onlyHost s op tag st i r; rw [h]
@[simp] theorem State.cmdDone_time : (s.cmdDone op tag st i r).time = s.time := by
  obtain ⟨_, _, _, h⟩ := State.cmdDone_onlyHost s op tag st i r; rw [h]
@[simp] theorem State.cmdDone_act : (s.cmdDone op tag st i r).act = s.act := by
  obtain ⟨_, _, _, h⟩ := State.cmdDone_onlyHost s op tag st i r; rw [h]
@[simp] theorem State.cmdDone_dram : (s.cmdDone op tag st i r).dram = s.dram := by
  obtain ⟨_, _, _, h⟩ := State.cmdDone_onlyHost s op tag st i r; rw [h]
@[simp] theorem State.cmdDone_tab0 : (s.cmdDone op tag st i r).tab0 = s.tab0 := by
  obtain ⟨_, _, _, h⟩ := State.cmdDone_onlyHost s op tag st i r; rw [h]
@[simp] theorem State.cmdDone_tab1 : (s.cmdDone op tag st i r).tab1 = s.tab1 := by
  obtain ⟨_, _, _, h⟩ := State.cmdDone_onlyHost s op tag st i r; rw [h]
@[simp] theorem State.cmdDone_mem : (s.cmdDone op tag st i r).mem = s.mem := by
  obtain ⟨_, _, _, h⟩ := State.cmdDone_onlyHost s op tag st i r; rw [h]
@[simp] theorem State.cmdDone_encs : (s.cmdDone op tag st i r).encs = s.encs := by
  obtain ⟨_, _, _, h⟩ := State.cmdDone_onlyHost s op tag st i r; rw [h]
@[simp] theorem State.cmdDone_cmps : (s.cmdDone op tag st i r).cmps = s.cmps := by
  obtain ⟨_, _, _, h⟩ := State.cmdDone_onlyHost s op tag st i r; rw [h]
@[simp] theorem State.cmdDone_ssis : (s.cmdDone op tag st i r).ssis = s.ssis := by
  obtain ⟨_, _, _, h⟩ := State.cmdDone_onlyHost s op tag st i r; rw [h]
@[simp] theorem State.cmdDone_job : (s.cmdDone op tag st i r).job = s.job := by
  obtain ⟨_, _, _, h⟩ := State.cmdDone_onlyHost s op tag st i r; rw [h]
@[simp] theorem State.cmdDone_line : (s.cmdDone op tag st i r).line = s.line := by
  obtain ⟨_, _, _, h⟩ := State.cmdDone_onlyHost s op tag st i r; rw [h]
@[simp] theorem State.cmdDone_tone : (s.cmdDone op tag st i r).tone = s.tone := by
  obtain ⟨_, _, _, h⟩ := State.cmdDone_onlyHost s op tag st i r; rw [h]
@[simp] theorem State.cmdDone_heads : (s.cmdDone op tag st i r).heads = s.heads := by
  obtain ⟨_, _, _, h⟩ := State.cmdDone_onlyHost s op tag st i r; rw [h]
@[simp] theorem State.cmdDone_dma : (s.cmdDone op tag st i r).dma = s.dma := by
  obtain ⟨_, _, _, h⟩ := State.cmdDone_onlyHost s op tag st i r; rw [h]
@[simp] theorem State.cmdDone_cam : (s.cmdDone op tag st i r).cam = s.cam := by
  obtain ⟨_, _, _, h⟩ := State.cmdDone_onlyHost s op tag st i r; rw [h]
@[simp] theorem State.cmdDone_loops : (s.cmdDone op tag st i r).loops = s.loops := by
  obtain ⟨_, _, _, h⟩ := State.cmdDone_onlyHost s op tag st i r; rw [h]
@[simp] theorem State.cmdDone_motion : (s.cmdDone op tag st i r).motion = s.motion := by
  obtain ⟨_, _, _, h⟩ := State.cmdDone_onlyHost s op tag st i r; rw [h]
@[simp] theorem State.cmdDone_pack : (s.cmdDone op tag st i r).pack = s.pack := by
  obtain ⟨_, _, _, h⟩ := State.cmdDone_onlyHost s op tag st i r; rw [h]
@[simp] theorem State.cmdDone_lanes : (s.cmdDone op tag st i r).lanes = s.lanes := by
  obtain ⟨_, _, _, h⟩ := State.cmdDone_onlyHost s op tag st i r; rw [h]
@[simp] theorem State.cmdDone_ports : (s.cmdDone op tag st i r).ports = s.ports := by
  obtain ⟨_, _, _, h⟩ := State.cmdDone_onlyHost s op tag st i r; rw [h]
@[simp] theorem State.cmdDone_hier : (s.cmdDone op tag st i r).hier = s.hier := by
  obtain ⟨_, _, _, h⟩ := State.cmdDone_onlyHost s op tag st i r; rw [h]
@[simp] theorem State.cmdDone_pair : (s.cmdDone op tag st i r).pair = s.pair := by
  obtain ⟨_, _, _, h⟩ := State.cmdDone_onlyHost s op tag st i r; rw [h]
@[simp] theorem State.cmdDone_otp : (s.cmdDone op tag st i r).otp = s.otp := by
  obtain ⟨_, _, _, h⟩ := State.cmdDone_onlyHost s op tag st i r; rw [h]
@[simp] theorem State.cmdDone_power : (s.cmdDone op tag st i r).power = s.power := by
  obtain ⟨_, _, _, h⟩ := State.cmdDone_onlyHost s op tag st i r; rw [h]
@[simp] theorem State.cmdDone_therm : (s.cmdDone op tag st i r).therm = s.therm := by
  obtain ⟨_, _, _, h⟩ := State.cmdDone_onlyHost s op tag st i r; rw [h]
@[simp] theorem State.cmdDone_tap : (s.cmdDone op tag st i r).tap = s.tap := by
  obtain ⟨_, _, _, h⟩ := State.cmdDone_onlyHost s op tag st i r; rw [h]
end

/-! ### reply -/

section
variable (h : Hdr) (op st : Nat) (dup : Bool) (d : List Byte)
@[simp] theorem State.reply_pending : (s.reply h op st dup d).pending = s.pending := by
  unfold State.reply; split <;> rfl
@[simp] theorem State.reply_free : (s.reply h op st dup d).free = s.free := by
  unfold State.reply; split <;> rfl
@[simp] theorem State.reply_time : (s.reply h op st dup d).time = s.time := by
  unfold State.reply; split <;> rfl
@[simp] theorem State.reply_regs : (s.reply h op st dup d).regs = s.regs := by
  unfold State.reply; split <;> rfl
@[simp] theorem State.reply_act : (s.reply h op st dup d).act = s.act := by
  unfold State.reply; split <;> rfl
@[simp] theorem State.reply_dram : (s.reply h op st dup d).dram = s.dram := by
  unfold State.reply; split <;> rfl
@[simp] theorem State.reply_tab0 : (s.reply h op st dup d).tab0 = s.tab0 := by
  unfold State.reply; split <;> rfl
@[simp] theorem State.reply_tab1 : (s.reply h op st dup d).tab1 = s.tab1 := by
  unfold State.reply; split <;> rfl
@[simp] theorem State.reply_mem : (s.reply h op st dup d).mem = s.mem := by
  unfold State.reply; split <;> rfl
@[simp] theorem State.reply_encs : (s.reply h op st dup d).encs = s.encs := by
  unfold State.reply; split <;> rfl
@[simp] theorem State.reply_cmps : (s.reply h op st dup d).cmps = s.cmps := by
  unfold State.reply; split <;> rfl
@[simp] theorem State.reply_ssis : (s.reply h op st dup d).ssis = s.ssis := by
  unfold State.reply; split <;> rfl
@[simp] theorem State.reply_job : (s.reply h op st dup d).job = s.job := by
  unfold State.reply; split <;> rfl
@[simp] theorem State.reply_line : (s.reply h op st dup d).line = s.line := by
  unfold State.reply; split <;> rfl
@[simp] theorem State.reply_tone : (s.reply h op st dup d).tone = s.tone := by
  unfold State.reply; split <;> rfl
@[simp] theorem State.reply_heads : (s.reply h op st dup d).heads = s.heads := by
  unfold State.reply; split <;> rfl
@[simp] theorem State.reply_dma : (s.reply h op st dup d).dma = s.dma := by
  unfold State.reply; split <;> rfl
@[simp] theorem State.reply_cam : (s.reply h op st dup d).cam = s.cam := by
  unfold State.reply; split <;> rfl
@[simp] theorem State.reply_loops : (s.reply h op st dup d).loops = s.loops := by
  unfold State.reply; split <;> rfl
@[simp] theorem State.reply_motion : (s.reply h op st dup d).motion = s.motion := by
  unfold State.reply; split <;> rfl
@[simp] theorem State.reply_pack : (s.reply h op st dup d).pack = s.pack := by
  unfold State.reply; split <;> rfl
@[simp] theorem State.reply_lanes : (s.reply h op st dup d).lanes = s.lanes := by
  unfold State.reply; split <;> rfl
@[simp] theorem State.reply_ports : (s.reply h op st dup d).ports = s.ports := by
  unfold State.reply; split <;> rfl
@[simp] theorem State.reply_hier : (s.reply h op st dup d).hier = s.hier := by
  unfold State.reply; split <;> rfl
@[simp] theorem State.reply_pair : (s.reply h op st dup d).pair = s.pair := by
  unfold State.reply; split <;> rfl
@[simp] theorem State.reply_otp : (s.reply h op st dup d).otp = s.otp := by
  unfold State.reply; split <;> rfl
@[simp] theorem State.reply_power : (s.reply h op st dup d).power = s.power := by
  unfold State.reply; split <;> rfl
@[simp] theorem State.reply_therm : (s.reply h op st dup d).therm = s.therm := by
  unfold State.reply; split <;> rfl
@[simp] theorem State.reply_tap : (s.reply h op st dup d).tap = s.tap := by
  unfold State.reply; split <;> rfl
@[simp] theorem State.reply_get (q : Fld) : (s.reply h op st dup d).get q = s.get q := by
  unfold State.reply; split <;> rfl
end

/-! ### sendTrans -/

section
variable (p src : Nat) (x : Trans)
@[simp] theorem State.sendTrans_pending : (s.sendTrans p src x).pending = s.pending := rfl
@[simp] theorem State.sendTrans_free : (s.sendTrans p src x).free = s.free := rfl
@[simp] theorem State.sendTrans_time : (s.sendTrans p src x).time = s.time := rfl
@[simp] theorem State.sendTrans_regs : (s.sendTrans p src x).regs = s.regs := rfl
@[simp] theorem State.sendTrans_act : (s.sendTrans p src x).act = s.act := rfl
@[simp] theorem State.sendTrans_dram : (s.sendTrans p src x).dram = s.dram := rfl
@[simp] theorem State.sendTrans_tab0 : (s.sendTrans p src x).tab0 = s.tab0 := rfl
@[simp] theorem State.sendTrans_tab1 : (s.sendTrans p src x).tab1 = s.tab1 := rfl
@[simp] theorem State.sendTrans_mem : (s.sendTrans p src x).mem = s.mem := rfl
@[simp] theorem State.sendTrans_encs : (s.sendTrans p src x).encs = s.encs := rfl
@[simp] theorem State.sendTrans_cmps : (s.sendTrans p src x).cmps = s.cmps := rfl
@[simp] theorem State.sendTrans_ssis : (s.sendTrans p src x).ssis = s.ssis := rfl
@[simp] theorem State.sendTrans_job : (s.sendTrans p src x).job = s.job := rfl
@[simp] theorem State.sendTrans_line : (s.sendTrans p src x).line = s.line := rfl
@[simp] theorem State.sendTrans_tone : (s.sendTrans p src x).tone = s.tone := rfl
@[simp] theorem State.sendTrans_heads : (s.sendTrans p src x).heads = s.heads := rfl
@[simp] theorem State.sendTrans_dma : (s.sendTrans p src x).dma = s.dma := rfl
@[simp] theorem State.sendTrans_cam : (s.sendTrans p src x).cam = s.cam := rfl
@[simp] theorem State.sendTrans_loops : (s.sendTrans p src x).loops = s.loops := rfl
@[simp] theorem State.sendTrans_motion : (s.sendTrans p src x).motion = s.motion := rfl
@[simp] theorem State.sendTrans_pack : (s.sendTrans p src x).pack = s.pack := rfl
@[simp] theorem State.sendTrans_host : (s.sendTrans p src x).host = s.host := rfl
@[simp] theorem State.sendTrans_lanes : (s.sendTrans p src x).lanes = s.lanes := rfl
@[simp] theorem State.sendTrans_hier : (s.sendTrans p src x).hier = s.hier := rfl
@[simp] theorem State.sendTrans_pair : (s.sendTrans p src x).pair = s.pair := rfl
@[simp] theorem State.sendTrans_otp : (s.sendTrans p src x).otp = s.otp := rfl
@[simp] theorem State.sendTrans_power : (s.sendTrans p src x).power = s.power := rfl
@[simp] theorem State.sendTrans_therm : (s.sendTrans p src x).therm = s.therm := rfl
@[simp] theorem State.sendTrans_tap : (s.sendTrans p src x).tap = s.tap := rfl
@[simp] theorem State.sendTrans_get (q : Fld) : (s.sendTrans p src x).get q = s.get q := rfl
end

end Sys2Proof.Machine
end

