-- ==== Sys2Proof/Laws/Memory.lean ====
section
/-! SUPPORT. Every operation over memory keeps the canonical form. -/

namespace Sys2Proof.Machine

/-- What the canonical form says, memory by memory. -/
theorem Memory.wf_iff (s : State) : Memory.wf s = true ↔
    Sparse.wf (fun _ => 0) s.dram = true ∧ Sparse.wf (fun _ => false) s.mem.valid = true ∧
    rangesWf s.mem.undef = true ∧ Sparse.wf tabReset s.tab0 = true ∧
    Sparse.wf tabReset s.tab1 = true ∧ Sparse.wf (fun _ => 0) s.otp.staging = true ∧
    Sparse.wf (fun _ => 0) s.otp.patchRam = true := by
  simp [Memory.wf, and_assoc]

/-- The canonical form is a matter of seven parts of the state. -/
theorem Memory.wf_congr {s u : State} (hd : u.dram = s.dram) (hv : u.mem.valid = s.mem.valid)
    (hu : u.mem.undef = s.mem.undef) (h0 : u.tab0 = s.tab0) (h1 : u.tab1 = s.tab1)
    (hs : u.otp.staging = s.otp.staging) (hp : u.otp.patchRam = s.otp.patchRam) : Memory.wf u = Memory.wf s := by
  simp [Memory.wf, hd, hv, hu, h0, h1, hs, hp]

/-- A fold keeps what each of its steps keeps. -/
theorem foldl_keeps {α β : Type} {P : β → Prop} {f : β → α → β} (hf : ∀ b a, P b → P (f b a)) :
    ∀ (l : List α) (b : β), P b → P (l.foldl f b)
  | [], _, h => h
  | a :: l, b, h => foldl_keeps hf l (f b a) (hf b a h)

/-! ### Registers and time leave memory alone -/

@[simp] theorem Memory.wf_set (s : State) (f : Fld) (v : Nat) : Memory.wf (s.set f v) = Memory.wf s := rfl
@[simp] theorem Memory.wf_setB (s : State) (f : Fld) (b : Bool) : Memory.wf (s.setB f b) = Memory.wf s := rfl
@[simp] theorem Memory.wf_setS (s : State) (f : Fld) (i : Int) : Memory.wf (s.setS f i) = Memory.wf s := rfl
@[simp] theorem Memory.wf_inc (s : State) (f : Fld) : Memory.wf (s.inc f) = Memory.wf s := rfl
@[simp] theorem Memory.wf_incSat (s : State) (f : Fld) (n : Nat) : Memory.wf (s.incSat f n) = Memory.wf s := rfl
@[simp] theorem Memory.wf_flip (s : State) (f : Fld) : Memory.wf (s.flip f) = Memory.wf s := rfl
@[simp] theorem Memory.wf_used (s : State) : Memory.wf s.used = Memory.wf s := rfl
@[simp] theorem Memory.wf_elapse (s : State) (t : Nat) : Memory.wf (s.elapse t) = Memory.wf s := by
  unfold State.elapse; split <;> rfl

/-! ### Bytes of DRAM -/

variable {s : State}

theorem Memory.wf_putBytes (h : Memory.wf s = true) (a : Nat) (bs : List Byte) :
    Memory.wf (s.putBytes a bs) = true := by
  rw [Memory.wf_iff] at h ⊢
  exact ⟨Sparse.wf_putRange (d := fun _ => (0 : Byte)) h.1 a bs, h.2⟩

theorem Memory.wf_setValid (h : Memory.wf s = true) (r : Nat) (b : Bool) : Memory.wf (s.setValid r b) = true := by
  rw [Memory.wf_iff] at h ⊢
  exact ⟨h.1, Sparse.wf_put (d := fun _ => false) h.2.1 r b, h.2.2⟩

/-! ### Undefined data -/

theorem mem_rangesWf {l : List (Nat × Nat)} : rangesWf l = true ↔ (∀ r ∈ l, r.1 < r.2) ∧ l.Pairwise (fun x y => x.2 < y.1) := by
  simp [rangesWf]

theorem mem_cutRange {a b : Nat} {r x : Nat × Nat} (h : x ∈ cutRange a b r) :
    x.1 < x.2 ∧ r.1 ≤ x.1 ∧ x.2 ≤ r.2 ∧ (x.2 ≤ a ∨ b ≤ x.1) := by
  simp only [cutRange, List.mem_filter, List.mem_cons, List.not_mem_nil, or_false, decide_eq_true_eq] at h
  obtain ⟨rfl | rfl, h⟩ := h <;> dsimp only at h ⊢ <;> omega

theorem rangesWf_cutRanges {l : List (Nat × Nat)} (h : rangesWf l = true) (a b : Nat) :
    rangesWf (cutRanges a b l) = true := by
  unfold cutRanges
  split
  · rename_i hab
    obtain ⟨h1, h2⟩ := mem_rangesWf.1 h
    refine mem_rangesWf.2 ⟨fun x hx => ?_, List.pairwise_flatMap.2 ⟨fun r _ => ?_, h2.imp fun {r q} hrq x hx y hy => ?_⟩⟩
    · obtain ⟨r, _, hx⟩ := List.mem_flatMap.1 hx
      exact (mem_cutRange hx).1
    · refine List.Pairwise.filter _ ?_
      rw [List.pairwise_pair]
      dsimp only
      omega
    · have := mem_cutRange hx
      have := mem_cutRange hy
      omega
  · exact h

theorem rangesWf_joinRange {l : List (Nat × Nat)} (h : rangesWf l = true) {a b : Nat} (hab : a < b) :
    rangesWf (joinRange a b l) = true := by
  obtain ⟨h1, h2⟩ := mem_rangesWf.1 h
  have lo : ∀ (m : List (Nat × Nat)) (x : Nat), m.foldl (fun x r => min x r.1) x = x ∨
      ∃ r ∈ m, m.foldl (fun x r => min x r.1) x = r.1 := by
    intro m
    induction m with
    | nil => intro x; exact Or.inl rfl
    | cons r m ih =>
      intro x
      rcases ih (min x r.1) with e | ⟨q, hq, e⟩
      · rw [List.foldl_cons, e]
        rcases Nat.le_total x r.1 with hx | hx
        · exact Or.inl (Nat.min_eq_left hx)
        · exact Or.inr ⟨r, List.mem_cons_self .., Nat.min_eq_right hx⟩
      · exact Or.inr ⟨q, List.mem_cons_of_mem _ hq, e⟩
  have hi : ∀ (m : List (Nat × Nat)) (x : Nat), m.foldl (fun x r => max x r.2) x = x ∨
      ∃ r ∈ m, m.foldl (fun x r => max x r.2) x = r.2 := by
    intro m
    induction m with
    | nil => intro x; exact Or.inl rfl
    | cons r m ih =>
      intro x
      rcases ih (max x r.2) with e | ⟨q, hq, e⟩
      · rw [List.foldl_cons, e]
        rcases Nat.le_total x r.2 with hx | hx
        · exact Or.inr ⟨r, List.mem_cons_self .., Nat.max_eq_right hx⟩
        · exact Or.inl (Nat.max_eq_left hx)
      · exact Or.inr ⟨q, List.mem_cons_of_mem _ hq, e⟩
  have loLe : ∀ (m : List (Nat × Nat)) (x : Nat), m.foldl (fun x r => min x r.1) x ≤ x := by
    intro m
    induction m with
    | nil => intro x; exact le_rfl
    | cons r m ih => intro x; exact (ih _).trans (Nat.min_le_left ..)
  have leHi : ∀ (m : List (Nat × Nat)) (x : Nat), x ≤ m.foldl (fun x r => max x r.2) x := by
    intro m
    induction m with
    | nil => intro x; exact le_rfl
    | cons r m ih => intro x; exact (Nat.le_max_left ..).trans (ih _)
  -- two ranges of the list lie one before the other
  have ord : ∀ x ∈ l, ∀ y ∈ l, x.2 < y.2 → x.2 < y.1 := by
    intro x hx y hy hlt
    obtain ⟨i, hi', rfl⟩ := List.mem_iff_getElem.1 hx
    obtain ⟨j, hj, rfl⟩ := List.mem_iff_getElem.1 hy
    have p := List.pairwise_iff_getElem.1 h2
    rcases Nat.lt_trichotomy i j with c | c | c
    · exact p i j hi' hj c
    · subst c; omega
    · have q := p j i hj hi' c
      have := h1 _ hx
      have := h1 _ hy
      omega
  unfold joinRange
  dsimp only
  generalize hn : l.filter (fun r => decide (a ≤ r.2 ∧ r.1 ≤ b)) = near
  have mn : ∀ r ∈ near, r ∈ l ∧ a ≤ r.2 ∧ r.1 ≤ b := by
    intro r hr; rw [← hn] at hr; simpa using hr
  have e1 := lo near a
  have e2 := hi near b
  have e3 := loLe near a
  have e4 := leHi near b
  generalize near.foldl (fun x r => min x r.1) a = x at e1 e3
  generalize near.foldl (fun x r => max x r.2) b = y at e2 e4
  have before : ∀ r ∈ l, r.2 < a → r.2 < x := by
    intro r hr hra
    rcases e1 with rfl | ⟨q, hq, rfl⟩
    · exact hra
    · exact ord r hr q (mn q hq).1 (by have := (mn q hq).2; omega)
  have after : ∀ r ∈ l, b < r.1 → y < r.1 := by
    intro r hr hrb
    rcases e2 with rfl | ⟨q, hq, rfl⟩
    · exact hrb
    · have := h1 r hr
      have hq' := mn q hq
      by_cases c : q.2 < r.2
      · exact ord q hq'.1 r hr c
      · rcases Nat.lt_or_ge r.2 q.2 with d | d
        · have := ord r hr q hq'.1 d
          omega
        · have := ord
          have hqr : q = r := by
            obtain ⟨i, hi', rfl⟩ := List.mem_iff_getElem.1 hq'.1
            obtain ⟨j, hj, rfl⟩ := List.mem_iff_getElem.1 hr
            have p := List.pairwise_iff_getElem.1 h2
            rcases Nat.lt_trichotomy i j with c | c | c
            · have := p i j hi' hj c; omega
            · subst c; rfl
            · have := p j i hj hi' c; have := h1 _ hq'.1; omega
          subst hqr
          omega
  refine mem_rangesWf.2 ⟨fun r hr => ?_, ?_⟩
  · simp only [List.mem_append, List.mem_cons, List.mem_filter] at hr
    rcases hr with ⟨hr, _⟩ | rfl | ⟨hr, _⟩
    · exact h1 r hr
    · dsimp only; omega
    · exact h1 r hr
  · refine List.pairwise_append.2 ⟨h2.filter _, List.pairwise_cons.2 ⟨fun r hr => ?_, h2.filter _⟩, fun r hr q hq => ?_⟩
    · simp only [List.mem_filter, decide_eq_true_eq] at hr
      exact after r hr.1 hr.2
    · simp only [List.mem_filter, decide_eq_true_eq] at hr
      simp only [List.mem_cons, List.mem_filter, decide_eq_true_eq] at hq
      have := before r hr.1 hr.2
      rcases hq with rfl | ⟨_, hq⟩
      · exact this
      · omega

theorem Memory.wf_define (h : Memory.wf s = true) (a n : Nat) : Memory.wf (s.define a n) = true := by
  rw [Memory.wf_iff] at h ⊢
  exact ⟨h.1, h.2.1, rangesWf_cutRanges h.2.2.1 _ _, h.2.2.2⟩

theorem Memory.wf_undefine (h : Memory.wf s = true) (a n : Nat) : Memory.wf (s.undefine a n) = true := by
  unfold State.undefine
  split
  · exact h
  · rw [Memory.wf_iff] at h ⊢
    exact ⟨h.1, h.2.1, rangesWf_joinRange h.2.2.1 (by omega), h.2.2.2⟩

/-- A byte lies in none of the ranges that are left after a cut exactly where it lay in none, or in the cut. -/
theorem all_cutRanges (l : List (Nat × Nat)) (a b x : Nat) :
    (cutRanges a b l).all (fun r => decide (x < r.1 ∨ r.2 ≤ x)) =
      (decide (a ≤ x ∧ x < b) || l.all (fun r => decide (x < r.1 ∨ r.2 ≤ x))) := by
  rw [Bool.eq_iff_iff]
  unfold cutRanges
  split
  · simp only [List.all_eq_true, List.mem_flatMap, decide_eq_true_eq, Bool.or_eq_true]
    constructor
    · intro h
      by_cases hx : a ≤ x ∧ x < b
      · exact Or.inl hx
      · refine Or.inr fun r hr => ?_
        have h1 := fun q hq => h q ⟨r, hr, hq⟩
        simp only [cutRange, List.mem_filter, List.mem_cons, List.not_mem_nil, or_false, decide_eq_true_eq] at h1
        have c1 := h1 (r.1, min r.2 a)
        have c2 := h1 (max r.1 b, r.2)
        simp only [true_or, or_true, true_and] at c1 c2
        omega
    · rintro h q ⟨r, hr, hq⟩
      have c := mem_cutRange hq
      rcases h with h | h
      · omega
      · have := h r hr; omega
  · simp only [List.all_eq_true, decide_eq_true_eq, Bool.or_eq_true]
    exact ⟨Or.inr, fun h => h.elim (fun h => absurd h (by omega)) id⟩

/-- Defining bytes defines those and no others. -/
theorem State.definedByte_define (s : State) (a n x : Nat) :
    (s.define a n).definedByte x = (decide (a ≤ x ∧ x < a + n) || s.definedByte x) := all_cutRanges ..

@[simp] theorem Memory.wf_cleanBlock (s : State) (b : Nat) : Memory.wf (s.cleanBlock b) = Memory.wf s := rfl

@[simp] theorem Memory.wf_startFill (s : State) (r : Nat) : Memory.wf (s.startFill r) = Memory.wf s := by
  unfold State.startFill; split <;> rfl

theorem Memory.wf_storePiece (h : Memory.wf s = true) (p : Nat × List Byte) : Memory.wf (s.storePiece p) = true := by
  unfold State.storePiece
  dsimp only
  refine Memory.wf_putBytes (Memory.wf_define ?_ _ _) _ _
  have h' : Memory.wf (if s.initRegion (p.1 / regionBytes) = true then s.setValid (p.1 / regionBytes) true else s) = true := by
    split
    · exact Memory.wf_setValid h _ _
    · exact h
  generalize (if s.initRegion (p.1 / regionBytes) = true then s.setValid (p.1 / regionBytes) true else s) = u at h' ⊢
  split
  · exact h'
  · split
    · exact Memory.wf_undefine h' _ _
    · exact h'

@[simp] theorem Memory.wf_meetCe (s : State) (b : Nat) : Memory.wf (s.meetCe b) = Memory.wf s := by
  unfold State.meetCe
  dsimp only
  generalize hu : ((s.incSat Reg.ECC_CE_COUNT 1).set Reg.ECC_CE_LAST_LO b).set Reg.ECC_CE_LAST_HI (b / 2 ^ 32) = u
  have h : Memory.wf u = Memory.wf s := by rw [← hu, Memory.wf_set, Memory.wf_set, Memory.wf_incSat]
  split
  · exact h
  · exact h

@[simp] theorem Memory.wf_rmwRead (s : State) (b : Nat) : Memory.wf (s.rmwRead b) = Memory.wf s := by
  unfold State.rmwRead
  split
  · exact Memory.wf_meetCe s b
  · rfl

theorem Memory.wf_writePiece (h : Memory.wf s = true) (p : Nat × List Byte) : Memory.wf (s.writePiece p).1 = true := by
  unfold State.writePiece
  dsimp only
  repeat' split
  · exact Memory.wf_storePiece h p
  · exact Memory.wf_storePiece h p
  · exact h
  · exact Memory.wf_storePiece ((Memory.wf_rmwRead s _).trans h) p
  · exact (Memory.wf_startFill s _).trans h

theorem Memory.wf_writePieces : ∀ (ps : List (Nat × List Byte)) {s : State}, Memory.wf s = true →
    Memory.wf (s.writePieces ps).1 = true
  | [], _, h => h
  | p :: ps, _, h => Memory.wf_writePieces ps (Memory.wf_writePiece h p)

theorem Memory.wf_zeroFill (h : Memory.wf s = true) (r : Nat) : Memory.wf (s.zeroFill r) = true := by
  have h' : Memory.wf ((s.setValid r true).inc Reg.MEMCTL_FILLS_COUNT) = true := Memory.wf_setValid h r true
  rw [Memory.wf_iff] at h' ⊢
  exact ⟨Sparse.wf_dropRange (fun _ => (0 : Byte)) h'.1 _ _, h'.2.1, rangesWf_cutRanges h'.2.2.1 _ _, h'.2.2.2⟩

theorem Memory.wf_finishFill (h : Memory.wf s = true) (r : Nat) : Memory.wf (s.finishFill r) = true := by
  unfold State.finishFill
  split
  · exact foldl_keeps (P := fun s => Memory.wf s = true) (fun _ _ h => Memory.wf_storePiece h _) _ _
      (Memory.wf_zeroFill h r)
  · exact h

theorem Memory.wf_waitFills (h : Memory.wf s = true) (a n : Nat) : Memory.wf (s.waitFills a n) = true :=
  foldl_keeps (P := fun s => Memory.wf s = true) (fun _ _ h => Memory.wf_finishFill h _) _ _ h

theorem Memory.wf_waitAllFills (h : Memory.wf s = true) : Memory.wf s.waitAllFills = true :=
  foldl_keeps (P := fun s => Memory.wf s = true) (fun _ _ h => Memory.wf_finishFill h _) _ _ h

/-- Showing the queues changes registers only. -/
theorem State.showQueues_keeps (s : State) : ∃ r j, s.showQueues = { s with regs := r, just := j } := by
  unfold State.showQueues
  refine foldl_keeps (P := fun v => ∃ r j, v = { s with regs := r, just := j }) (fun v c hv => ?_) _ _ ⟨s.regs, s.just, rfl⟩
  obtain ⟨r, j, rfl⟩ := hv
  dsimp only
  split
  · exact ⟨_, _, rfl⟩
  · exact ⟨_, _, rfl⟩

@[simp] theorem Memory.wf_showQueues (s : State) : Memory.wf s.showQueues = Memory.wf s := by
  obtain ⟨r, j, h⟩ := State.showQueues_keeps s
  rw [h]; rfl

/-- Queueing writes changes the write queues and registers only. -/
@[simp] theorem Memory.wf_queueReqs (s : State) (ws : List WReq) : Memory.wf (s.queueReqs ws) = Memory.wf s :=
  Memory.wf_showQueues _

theorem Memory.wf_writeMem (h : Memory.wf s = true) (m : Bool) (a : Nat) (bs : List Byte) :
    Memory.wf (s.writeMem m a bs).1 = true := by
  unfold State.writeMem
  dsimp only
  rw [Memory.wf_queueReqs]
  exact Memory.wf_writePieces _ h

theorem Memory.wf_writeAcked (h : Memory.wf s = true) (a : Nat) (bs : List Byte) :
    Memory.wf (s.writeAcked a bs).1 = true := by
  unfold State.writeAcked
  dsimp only
  exact Memory.wf_waitFills (Memory.wf_writePieces _ h) _ _

/-! ### Table memory and the staging RAM -/

theorem Memory.wf_putTabs (h : Memory.wf s = true) (bank1 : Bool) (a : Nat) (bs : List Byte) :
    Memory.wf (s.putTabs bank1 a bs) = true := by
  unfold State.putTabs
  rw [Memory.wf_iff] at h
  split <;> rw [Memory.wf_iff]
  · exact ⟨h.1, h.2.1, h.2.2.1, h.2.2.2.1, Sparse.wf_putRange tabReset h.2.2.2.2.1 a bs, h.2.2.2.2.2⟩
  · exact ⟨h.1, h.2.1, h.2.2.1, Sparse.wf_putRange tabReset h.2.2.2.1 a bs, h.2.2.2.2⟩

/-- Dropping a range of table memory, which then reads its reset contents. -/
theorem Memory.wf_dropTab0 (h : Memory.wf s = true) (a b : Nat) :
    Memory.wf { s with tab0 := Sparse.dropRange a b s.tab0 } = true := by
  rw [Memory.wf_iff] at h ⊢
  exact ⟨h.1, h.2.1, h.2.2.1, Sparse.wf_dropRange tabReset h.2.2.2.1 a b, h.2.2.2.2⟩

theorem Memory.wf_dropTab1 (h : Memory.wf s = true) (a b : Nat) :
    Memory.wf { s with tab1 := Sparse.dropRange a b s.tab1 } = true := by
  rw [Memory.wf_iff] at h ⊢
  exact ⟨h.1, h.2.1, h.2.2.1, h.2.2.2.1, Sparse.wf_dropRange tabReset h.2.2.2.2.1 a b, h.2.2.2.2.2⟩

theorem Sparse.wf_putStaging : ∀ (bs : List Byte) {m : List Host.Cell} (o : Nat), Sparse.wf (fun _ => 0) m = true →
    Sparse.wf (fun _ => 0) (putStaging m o bs) = true
  | [], _, _, h => h
  | v :: vs, _, o, h => Sparse.wf_putStaging vs (o + 1) (Sparse.wf_put (d := fun _ => (0 : Byte)) h o v)

/-! ### Events and errors leave memory alone -/

@[simp] theorem Memory.wf_reply (s : State) (h : Hdr) (op st : Nat) (dup : Bool) (d : List Byte) :
    Memory.wf (s.reply h op st dup d) = Memory.wf s := by
  unfold State.reply; split <;> rfl

@[simp] theorem Memory.wf_pushEvt (s : State) (e : Evt) : Memory.wf (s.pushEvt e) = Memory.wf s := rfl
@[simp] theorem Memory.wf_discardEvt (s : State) : Memory.wf s.discardEvt = Memory.wf s := rfl

@[simp] theorem Memory.wf_queueEvt (s : State) (e : Evt) : Memory.wf (s.queueEvt e) = Memory.wf s := by
  unfold State.queueEvt
  dsimp only
  repeat' split
  all_goals rfl

@[simp] theorem Memory.wf_logEvt (s : State) (e : Evt) : Memory.wf (s.logEvt e) = Memory.wf s := by
  unfold State.logEvt
  repeat' split
  all_goals rfl

@[simp] theorem Memory.wf_raise1 (s : State) (c n : Nat) (a : List Byte) : Memory.wf (s.raise1 c n a) = Memory.wf s := by
  unfold State.raise1
  dsimp only
  rw [Memory.wf_queueEvt, Memory.wf_logEvt]
  rfl

@[simp] theorem Memory.wf_raise (s : State) (c n : Nat) (a : List Byte) : Memory.wf (s.raise c n a) = Memory.wf s := by
  unfold State.raise
  dsimp only
  split
  · rw [Memory.wf_raise1]; exact Memory.wf_raise1 s c n a
  · exact Memory.wf_raise1 s c n a

@[simp] theorem Memory.wf_cmdDone (s : State) (op tag st : Nat) (i : Iface) (r : Nat) :
    Memory.wf (s.cmdDone op tag st i r) = Memory.wf s := Memory.wf_raise ..

@[simp] theorem Memory.wf_putWindow (s : State) (w : RWin) : Memory.wf (s.putWindow w) = Memory.wf s := rfl
@[simp] theorem Memory.wf_dropWindow (s : State) (c n : Nat) : Memory.wf (s.dropWindow c n) = Memory.wf s := rfl

@[simp] theorem Memory.wf_windowEnd (s : State) (c n : Nat) : Memory.wf (s.windowEnd c n) = Memory.wf s := by
  unfold State.windowEnd
  split
  · rfl
  · split
    · rfl
    · rw [Memory.wf_putWindow, Memory.wf_raise]

@[simp] theorem Memory.wf_raiseLimited (s : State) (c n k : Nat) (a : List Byte) :
    Memory.wf (s.raiseLimited c n k a) = Memory.wf s := by
  unfold State.raiseLimited
  dsimp only
  have h : ∀ u : State, Memory.wf u = Memory.wf s → Memory.wf (match u.window? c n with
      | some w =>
        if u.now < w.endAt then u.putWindow { w with held := w.held + k, args := if w.held = 0 then a else w.args }
        else (u.raise c n (u.limitedArgs c k a)).putWindow ⟨c, n, u.now + limitWindow c, 0, []⟩
      | none => (u.raise c n (u.limitedArgs c k a)).putWindow ⟨c, n, u.now + limitWindow c, 0, []⟩) = Memory.wf s := by
    intro u hu
    repeat' split
    all_goals simp [hu]
  refine h _ ?_
  repeat' split
  all_goals simp

@[simp] theorem Memory.wf_logUe (s : State) (b req p l : Nat) (w : Int) :
    Memory.wf (s.logUe b req p l w) = Memory.wf s := by
  unfold State.logUe
  repeat' split
  all_goals first | rfl | (rw [Memory.wf_raiseLimited]; rfl)

@[simp] theorem Memory.wf_meetUe (s : State) (b req p l : Nat) (w : Int) :
    Memory.wf (s.meetUe b req p l w) = Memory.wf s := by
  unfold State.meetUe
  repeat' split
  · rfl
  · exact Memory.wf_incSat ..
  · rw [Memory.wf_logUe, Memory.wf_incSat]

@[simp] theorem Memory.wf_meetUes (s : State) (bs : List Nat) (req : Nat) :
    Memory.wf (s.meetUes bs req) = Memory.wf s :=
  foldl_keeps (P := fun v => Memory.wf v = Memory.wf s) (fun v _ hv => (Memory.wf_meetUe v ..).trans hv) _ _ rfl

@[simp] theorem Memory.wf_meetCes (s : State) (a n : Nat) : Memory.wf (s.meetCes a n) = Memory.wf s :=
  foldl_keeps (P := fun v => Memory.wf v = Memory.wf s) (fun v b hv => (Memory.wf_meetCe v b).trans hv) _ _ rfl

theorem Memory.wf_fetch (h : Memory.wf s = true) (a n : Nat) : Memory.wf (s.fetch a n).1 = true := by
  have h' := Memory.wf_waitFills h a n
  unfold State.fetch
  dsimp only
  rw [Memory.wf_used, Memory.wf_meetCes]
  exact h'

/-! ### What a write leaves in DRAM (R262, R269) -/

/-- A piece is written at once, in whole: its region is in initialisation mode, or it is valid and the block is not
uncorrectable. -/
def State.direct (s : State) (p : Nat × List Byte) : Prop :=
  s.initRegion (p.1 / regionBytes) = true ∨ (s.validRegion (p.1 / regionBytes) = true ∧ blockOf p.1 ∉ s.mem.ue)

/-- Writing a piece that needs no fill changes DRAM and the memory controller's record of it: the piece's bytes are
there, a valid region stays valid, and no block becomes uncorrectable. -/
theorem State.storePiece_frame (s : State) (p : Nat × List Byte) :
    ∃ m, s.storePiece p = { s with dram := Sparse.putRange (fun _ => 0) s.dram p.1 p.2, mem := m } ∧
      (∀ r, Sparse.get false s.mem.valid r = true → Sparse.get false m.valid r = true) ∧
      (∀ b, b ∈ m.ue → b ∈ s.mem.ue) ∧ m.filling = s.mem.filling ∧ m.held = s.mem.held ∧ m.writes = s.mem.writes := by
  have h0 : ∃ m, (if s.initRegion (p.1 / regionBytes) = true then s.setValid (p.1 / regionBytes) true else s) =
        { s with mem := m } ∧
      (∀ r, Sparse.get false s.mem.valid r = true → Sparse.get false m.valid r = true) ∧ m.ue = s.mem.ue ∧
      m.filling = s.mem.filling ∧ m.held = s.mem.held ∧ m.writes = s.mem.writes := by
    split
    · refine ⟨_, rfl, fun r h => ?_, rfl, rfl, rfl, rfl⟩
      change Sparse.get false (Sparse.put false s.mem.valid (p.1 / regionBytes) true) r = true
      by_cases hr : r = p.1 / regionBytes
      · subst hr; exact Sparse.get_put_same ..
      · exact (Sparse.get_put_other _ _ _ hr _).trans h
    · exact ⟨s.mem, rfl, fun _ h => h, rfl, rfl, rfl, rfl⟩
  obtain ⟨m0, h0, v0, e0, f0, l0, w0⟩ := h0
  unfold State.storePiece
  dsimp only
  rw [h0]
  repeat' split
  · exact ⟨_, rfl, v0, fun b h => e0 ▸ (List.mem_filter.1 h).1, f0, l0, w0⟩
  · unfold State.undefine
    exact ⟨_, rfl, v0, fun b h => e0 ▸ h, f0, l0, w0⟩
  · exact ⟨_, rfl, v0, fun b h => e0 ▸ h, f0, l0, w0⟩

/-- The read of a read-modify-write leaves which regions are in initialisation mode. -/
theorem State.rmwRead_initRegion (s : State) (b r : Nat) : (s.rmwRead b).initRegion r = s.initRegion r := by
  have hs : ∀ (u : State) (f : Fld) (v : Nat), f.key ≠ Reg.MEMCTL_MODE_INIT.key →
      f.key ≠ Reg.MEMCTL_RECOVER_FIRST_ACTIVE.key → f.key ≠ Reg.MEMCTL_RECOVER_FIRST_REGION.key →
      f.key ≠ Reg.MEMCTL_RECOVER_COUNT_REGIONS.key → (u.set f v).initRegion r = u.initRegion r := by
    intro u f v h1 h2 h3 h4
    unfold State.initRegion
    rw [State.flag_set_other u h1.symm, State.flag_set_other u h2.symm, State.get_set_other u h3.symm,
      State.get_set_other u h4.symm]
  unfold State.rmwRead
  split
  · have hm : (s.meetCe b).initRegion r = s.initRegion r := by
      have h3 : (((s.incSat Reg.ECC_CE_COUNT 1).set Reg.ECC_CE_LAST_LO b).set Reg.ECC_CE_LAST_HI (b / 2 ^ 32)).initRegion r =
          s.initRegion r := by
        rw [hs _ _ _ (by decide) (by decide) (by decide) (by decide), hs _ _ _ (by decide) (by decide) (by decide) (by decide)]
        exact hs _ _ _ (by decide) (by decide) (by decide) (by decide)
      unfold State.meetCe
      dsimp only
      split
      · exact h3
      · exact h3
    exact hm
  · rfl

/-- The read of a read-modify-write leaves DRAM, the valid bits and the uncorrectable blocks alone. -/
theorem State.rmwRead_frame (s : State) (b : Nat) : (s.rmwRead b).dram = s.dram ∧
    (s.rmwRead b).mem.valid = s.mem.valid ∧ (s.rmwRead b).mem.ue = s.mem.ue := by
  unfold State.rmwRead State.meetCe
  dsimp only
  repeat' split
  all_goals exact ⟨rfl, rfl, rfl⟩

/-- Pieces that are written at once are all there, and none is refused. -/
theorem State.writePieces_frame : ∀ (ps : List (Nat × List Byte)) (s : State), (∀ p ∈ ps, s.direct p) →
    (s.writePieces ps).1.dram = ps.foldl (fun d p => Sparse.putRange (fun _ => 0) d p.1 p.2) s.dram ∧
      (s.writePieces ps).2 = []
  | [], s, _ => ⟨rfl, rfl⟩
  | p :: ps, s, h => by
    have hp : ∃ u : State, s.writePiece p = (u.storePiece p, false) ∧ u.dram = s.dram ∧ u.mem.valid = s.mem.valid ∧
        u.mem.ue = s.mem.ue ∧ ∀ r, u.initRegion r = s.initRegion r := by
      unfold State.writePiece
      dsimp only
      obtain ⟨d, v, e⟩ := State.rmwRead_frame s (blockOf p.1)
      rcases h p (List.mem_cons_self ..) with hi | ⟨hv, hb⟩
      · exact ⟨s, by simp [hi], rfl, rfl, rfl, fun _ => rfl⟩
      · by_cases hi : s.initRegion (p.1 / regionBytes) = true
        · exact ⟨s, by simp [hi], rfl, rfl, rfl, fun _ => rfl⟩
        · by_cases hw : wholeBlock p = true
          · exact ⟨s, by simp [hi, hv, hw], rfl, rfl, rfl, fun _ => rfl⟩
          · exact ⟨_, by simp [hi, hv, hb, hw], d, v, e, State.rmwRead_initRegion s _⟩
    obtain ⟨u, hp, hd, hv, he, hi⟩ := hp
    obtain ⟨m, h1, v1, e1, _⟩ := State.storePiece_frame u p
    have hq : ∀ q ∈ ps, State.direct (u.storePiece p) q := by
      intro q hq
      rw [h1]
      rcases h q (List.mem_cons_of_mem _ hq) with c | ⟨c, hb⟩
      · exact Or.inl ((hi _).trans c)
      · exact Or.inr ⟨v1 _ (hv ▸ c), fun hx => hb (he ▸ e1 _ hx)⟩
    obtain ⟨h2, h3⟩ := State.writePieces_frame ps (u.storePiece p) hq
    unfold State.writePieces
    dsimp only
    rw [hp]
    refine ⟨?_, h3⟩
    rw [List.foldl_cons, ← hd]
    exact h2.trans (by rw [h1])

/-- The pieces of a range, written one after another, hold the range. -/
theorem Sparse.get_pieces : ∀ (n a : Nat) (bs : List Byte) (d : List Host.Cell), bs.length ≤ n → ∀ x,
    Sparse.get 0 ((piecesOf n a bs).foldl (fun d p => Sparse.putRange (fun _ => 0) d p.1 p.2) d) x =
      if a ≤ x ∧ x < a + bs.length then bs.getD (x - a) 0 else Sparse.get 0 d x
  | 0, a, bs, d, h, x => by
    have : bs = [] := List.length_eq_zero_iff.1 (by omega)
    subst this
    have : ¬(a ≤ x ∧ x < a) := by omega
    simp [piecesOf, this]
  | n + 1, a, bs, d, h, x => by
    unfold piecesOf
    split
    · rename_i he
      have : bs = [] := List.isEmpty_iff.1 he
      subst this
      have : ¬(a ≤ x ∧ x < a) := by omega
      simp [this]
    · rename_i he
      have hl : 0 < bs.length := List.length_pos_iff.2 (fun e => he (by simp [e]))
      have hk : 0 < 64 - a % 64 := by omega
      rw [List.foldl_cons, Sparse.get_pieces n _ _ _ (by simp; omega)]
      dsimp only
      generalize 64 - a % 64 = k at hk
      have ht : (bs.take k).length = min k bs.length := List.length_take ..
      simp only [List.length_drop]
      by_cases h1 : a + k ≤ x ∧ x < a + bs.length
      · have c1 : a + k ≤ x ∧ x < a + k + (bs.length - k) := by omega
        have c2 : a ≤ x ∧ x < a + bs.length := by omega
        rw [if_pos c1, if_pos c2]
        simp only [List.getD_eq_getElem?_getD, List.getElem?_drop]
        congr 2
        omega
      · have c1 : ¬(a + k ≤ x ∧ x < a + k + (bs.length - k)) := by omega
        rw [if_neg c1]
        by_cases h2 : a ≤ x ∧ x < a + bs.length
        · have hx : (bs.take k)[x - a]? = some (bs.getD (x - a) 0) := by
            rw [List.getElem?_take_of_lt (by omega), List.getD_eq_getElem?_getD]
            rw [List.getElem?_eq_getElem (by omega)]
            rfl
          have := Sparse.get_putRange_same (d := fun _ => (0 : Byte)) d a hx
          rw [show a + (x - a) = x by omega] at this
          rw [if_pos h2, this]
        · rw [if_neg h2, Sparse.get_putRange_other (d := fun _ => (0 : Byte)) d a _ (by omega)]

/-- A write to regions that take it at once leaves its bytes, and no other byte of DRAM changes. -/
theorem State.writeMem_dram (s : State) (mir : Bool) (a : Nat) (bs : List Byte)
    (h : ∀ p ∈ piecesOf bs.length a bs, s.direct p) (x : Nat) :
    Sparse.get 0 (s.writeMem mir a bs).1.dram x =
      if a ≤ x ∧ x < a + bs.length then bs.getD (x - a) 0 else Sparse.get 0 s.dram x := by
  obtain ⟨h1, _⟩ := State.writePieces_frame _ s h
  have hq : ∀ (u : State) ws, (u.queueReqs ws).dram = u.dram := by
    intro u ws
    unfold State.queueReqs
    obtain ⟨r, j, h⟩ := State.showQueues_keeps { u with mem := { u.mem with writes := u.mem.writes ++ ws } }
    rw [h]
  unfold State.writeMem
  dsimp only
  rw [hq, h1]
  exact Sparse.get_pieces _ _ _ _ le_rfl x

end Sys2Proof.Machine
end

