-- ==== Sys2Proof/Tests/Slice0.lean ====
section
/-! SUPPORT. Tests of the model: the checks of well-formedness, packets written out from the spec, a few commands on a
small state, and for each statement states and operands that meet its hypotheses. -/

set_option maxRecDepth 100000

namespace Sys2Proof.Machine

/-! ### Well-formedness: each check refuses a term that it alone refuses, and accepts one without it -/

theorem test_wf_header : (⟨.spi, 0, 0, 0, 0, 0, 0, 0⟩ : Hdr).wf ∧
    ¬(⟨.spi, 2 ^ 16, 0, 0, 0, 0, 0, 0⟩ : Hdr).wf ∧ ¬(⟨.spi, 0, 2 ^ 8, 0, 0, 0, 0, 0⟩ : Hdr).wf ∧
    ¬(⟨.spi, 0, 0, 2 ^ 8, 0, 0, 0, 0⟩ : Hdr).wf ∧ ¬(⟨.spi, 0, 0, 0, 2 ^ 16, 0, 0, 0⟩ : Hdr).wf ∧
    ¬(⟨.spi, 0, 0, 0, 0, 2 ^ 16, 0, 0⟩ : Hdr).wf ∧ ¬(⟨.spi, 0, 0, 0, 0, 0, 2 ^ 32, 0⟩ : Hdr).wf := by
  simp [Hdr.wf]

theorem test_wf_transaction : (⟨0, 0, 0, 0, 0, []⟩ : Trans).wf ∧ ¬(⟨2 ^ 8, 0, 0, 0, 0, []⟩ : Trans).wf ∧
    ¬(⟨0, 2 ^ 8, 0, 0, 0, []⟩ : Trans).wf ∧ ¬(⟨0, 0, 2 ^ 8, 0, 0, []⟩ : Trans).wf ∧
    ¬(⟨0, 0, 0, 2 ^ 8, 0, []⟩ : Trans).wf ∧ ¬(⟨0, 0, 0, 0, 2 ^ 16, []⟩ : Trans).wf ∧
    ¬(⟨0, 0, 0, 0, 0, List.replicate (2 ^ 16) 0⟩ : Trans).wf := by
  simp [Trans.wf, -List.reduceReplicate]

theorem test_wf_opcodes_00 :
    (HostCmd.regRead 0 0).wf ∧ ¬(HostCmd.regRead (2 ^ 64) 0).wf ∧ ¬(HostCmd.regRead 0 (2 ^ 16)).wf ∧
    (HostCmd.regWrite 0 []).wf ∧ ¬(HostCmd.regWrite (2 ^ 64) []).wf ∧
    ¬(HostCmd.regWrite 0 (List.replicate (2 ^ 16) 0)).wf ∧ ¬(HostCmd.regWrite 0 [2 ^ 32]).wf ∧
    (HostCmd.regModify 0 0 0).wf ∧ ¬(HostCmd.regModify (2 ^ 64) 0 0).wf ∧ ¬(HostCmd.regModify 0 (2 ^ 32) 0).wf ∧
    ¬(HostCmd.regModify 0 0 (2 ^ 32)).wf ∧ (HostCmd.reset 0 0).wf ∧ ¬(HostCmd.reset (2 ^ 8) 0).wf ∧
    ¬(HostCmd.reset 0 (2 ^ 8)).wf ∧ (HostCmd.getStatus 0).wf ∧ ¬(HostCmd.getStatus (2 ^ 8)).wf := by
  simp [HostCmd.wf, -List.reduceReplicate]

theorem test_wf_opcodes_01 :
    (HostCmd.memFill 0 0 0).wf ∧ ¬(HostCmd.memFill (2 ^ 64) 0 0).wf ∧ ¬(HostCmd.memFill 0 (2 ^ 64) 0).wf ∧
    ¬(HostCmd.memFill 0 0 (2 ^ 32)).wf ∧ (HostCmd.memMode 0).wf ∧ ¬(HostCmd.memMode (2 ^ 8)).wf ∧
    (HostCmd.dmaStart 0 0 (List.replicate 32 0)).wf ∧ ¬(HostCmd.dmaStart (2 ^ 8) 0 (List.replicate 32 0)).wf ∧
    ¬(HostCmd.dmaStart 0 (2 ^ 8) (List.replicate 32 0)).wf ∧ ¬(HostCmd.dmaStart 0 0 (List.replicate 33 0)).wf ∧
    (HostCmd.dmaAbort 0).wf ∧ ¬(HostCmd.dmaAbort (2 ^ 8)).wf := by
  simp [HostCmd.wf, -List.reduceReplicate]

theorem test_wf_opcodes_02 :
    (HostCmd.packStart 0 0 0 0 0 0).wf ∧ ¬(HostCmd.packStart (2 ^ 8) 0 0 0 0 0).wf ∧
    ¬(HostCmd.packStart 0 (2 ^ 8) 0 0 0 0).wf ∧ ¬(HostCmd.packStart 0 0 (2 ^ 64) 0 0 0).wf ∧
    ¬(HostCmd.packStart 0 0 0 (2 ^ 64) 0 0).wf ∧ ¬(HostCmd.packStart 0 0 0 0 (2 ^ 32) 0).wf ∧
    ¬(HostCmd.packStart 0 0 0 0 0 (2 ^ 32)).wf ∧ (HostCmd.unpackStart 0 0 0 0 0 0).wf ∧
    ¬(HostCmd.unpackStart (2 ^ 8) 0 0 0 0 0).wf ∧ ¬(HostCmd.unpackStart 0 (2 ^ 8) 0 0 0 0).wf ∧
    ¬(HostCmd.unpackStart 0 0 (2 ^ 64) 0 0 0).wf ∧ ¬(HostCmd.unpackStart 0 0 0 (2 ^ 64) 0 0).wf ∧
    ¬(HostCmd.unpackStart 0 0 0 0 (2 ^ 32) 0).wf ∧ ¬(HostCmd.unpackStart 0 0 0 0 0 (2 ^ 32)).wf ∧
    (HostCmd.packResume 0 0 0).wf ∧ ¬(HostCmd.packResume (2 ^ 8) 0 0).wf ∧ ¬(HostCmd.packResume 0 (2 ^ 64) 0).wf ∧
    ¬(HostCmd.packResume 0 0 (2 ^ 32)).wf ∧ (HostCmd.packSlot 0 0).wf ∧ ¬(HostCmd.packSlot (2 ^ 8) 0).wf ∧
    ¬(HostCmd.packSlot 0 (2 ^ 8)).wf := by
  simp [HostCmd.wf, -List.reduceReplicate]

theorem test_wf_opcodes_03 :
    (HostCmd.jobDefine 0 0 0 0 (List.replicate 256 0)).wf ∧
    ¬(HostCmd.jobDefine (2 ^ 8) 0 0 0 (List.replicate 256 0)).wf ∧
    ¬(HostCmd.jobDefine 0 (2 ^ 8) 0 0 (List.replicate 256 0)).wf ∧
    ¬(HostCmd.jobDefine 0 0 (2 ^ 8) 0 (List.replicate 256 0)).wf ∧
    ¬(HostCmd.jobDefine 0 0 0 (2 ^ 64) (List.replicate 256 0)).wf ∧
    ¬(HostCmd.jobDefine 0 0 0 0 (List.replicate 257 0)).wf ∧ (HostCmd.jobStart 0 0 0 0).wf ∧
    ¬(HostCmd.jobStart (2 ^ 8) 0 0 0).wf ∧ ¬(HostCmd.jobStart 0 (2 ^ 8) 0 0).wf ∧
    ¬(HostCmd.jobStart 0 0 (2 ^ 8) 0).wf ∧ ¬(HostCmd.jobStart 0 0 0 (2 ^ 63)).wf ∧
    ¬(HostCmd.jobStart 0 0 0 (-2 ^ 63 - 1)).wf ∧ (HostCmd.jobStop 0 0).wf ∧ ¬(HostCmd.jobStop (2 ^ 8) 0).wf ∧
    ¬(HostCmd.jobStop 0 (2 ^ 8)).wf ∧ (HostCmd.streamCommit 0 0).wf ∧ ¬(HostCmd.streamCommit (2 ^ 8) 0).wf ∧
    ¬(HostCmd.streamCommit 0 (2 ^ 64)).wf := by
  simp [HostCmd.wf, inS, -List.reduceReplicate]

theorem test_wf_opcodes_04 :
    (HostCmd.layerSet 0 0 0 0 0 0 0 0 0 0).wf ∧ ¬(HostCmd.layerSet (2 ^ 8) 0 0 0 0 0 0 0 0 0).wf ∧
    ¬(HostCmd.layerSet 0 (2 ^ 8) 0 0 0 0 0 0 0 0).wf ∧ ¬(HostCmd.layerSet 0 0 (2 ^ 8) 0 0 0 0 0 0 0).wf ∧
    ¬(HostCmd.layerSet 0 0 0 (2 ^ 8) 0 0 0 0 0 0).wf ∧ ¬(HostCmd.layerSet 0 0 0 0 (2 ^ 8) 0 0 0 0 0).wf ∧
    ¬(HostCmd.layerSet 0 0 0 0 0 (2 ^ 8) 0 0 0 0).wf ∧ ¬(HostCmd.layerSet 0 0 0 0 0 0 (2 ^ 64) 0 0 0).wf ∧
    ¬(HostCmd.layerSet 0 0 0 0 0 0 0 (2 ^ 32) 0 0).wf ∧ ¬(HostCmd.layerSet 0 0 0 0 0 0 0 0 (2 ^ 32) 0).wf ∧
    ¬(HostCmd.layerSet 0 0 0 0 0 0 0 0 0 (2 ^ 32)).wf ∧ (HostCmd.kiteMove 0 0 0 0).wf ∧
    ¬(HostCmd.kiteMove (2 ^ 8) 0 0 0).wf ∧ ¬(HostCmd.kiteMove 0 (2 ^ 8) 0 0).wf ∧
    ¬(HostCmd.kiteMove 0 0 (2 ^ 32) 0).wf ∧ ¬(HostCmd.kiteMove 0 0 0 (2 ^ 32)).wf ∧ (HostCmd.pload 0 0 0 0).wf ∧
    ¬(HostCmd.pload (2 ^ 8) 0 0 0).wf ∧ ¬(HostCmd.pload 0 (2 ^ 8) 0 0).wf ∧ ¬(HostCmd.pload 0 0 (2 ^ 64) 0).wf ∧
    ¬(HostCmd.pload 0 0 0 (2 ^ 32)).wf ∧ (HostCmd.plock 0).wf ∧ ¬(HostCmd.plock (2 ^ 8)).wf ∧
    (HostCmd.punlock 0 0).wf ∧ ¬(HostCmd.punlock (2 ^ 8) 0).wf ∧ ¬(HostCmd.punlock 0 (2 ^ 64)).wf ∧
    (HostCmd.tableLoad 0 0 0 0 0).wf ∧ ¬(HostCmd.tableLoad (2 ^ 8) 0 0 0 0).wf ∧
    ¬(HostCmd.tableLoad 0 (2 ^ 8) 0 0 0).wf ∧ ¬(HostCmd.tableLoad 0 0 (2 ^ 8) 0 0).wf ∧
    ¬(HostCmd.tableLoad 0 0 0 (2 ^ 64) 0).wf ∧ ¬(HostCmd.tableLoad 0 0 0 0 (2 ^ 32)).wf := by
  simp [HostCmd.wf, -List.reduceReplicate]

theorem test_wf_opcodes_05 :
    (HostCmd.headProfile 0 (List.replicate 64 0)).wf ∧ ¬(HostCmd.headProfile (2 ^ 8) (List.replicate 64 0)).wf ∧
    ¬(HostCmd.headProfile 0 (List.replicate 65 0)).wf ∧ (HostCmd.headMap 0 []).wf ∧ ¬(HostCmd.headMap (2 ^ 8) []).wf ∧
    ¬(HostCmd.headMap 0 (List.replicate (2 ^ 8) 0)).wf ∧ ¬(HostCmd.headMap 0 [2 ^ 8]).wf ∧
    (HostCmd.portEnable 0 0).wf ∧ ¬(HostCmd.portEnable (2 ^ 64) 0).wf ∧ ¬(HostCmd.portEnable 0 (2 ^ 8)).wf ∧
    (HostCmd.portClear 0).wf ∧ ¬(HostCmd.portClear (2 ^ 64)).wf ∧ (HostCmd.headRead 0).wf ∧
    ¬(HostCmd.headRead (2 ^ 8)).wf ∧ (HostCmd.preheatTarget 0 0).wf ∧ ¬(HostCmd.preheatTarget (2 ^ 8) 0).wf ∧
    ¬(HostCmd.preheatTarget 0 (2 ^ 15)).wf ∧ ¬(HostCmd.preheatTarget 0 (-2 ^ 15 - 1)).wf := by
  simp [HostCmd.wf, inS, -List.reduceReplicate]

theorem test_wf_opcodes_06 :
    (HostCmd.encConfig 0 0 0 0 0).wf ∧ ¬(HostCmd.encConfig (2 ^ 8) 0 0 0 0).wf ∧
    ¬(HostCmd.encConfig 0 (2 ^ 8) 0 0 0).wf ∧ ¬(HostCmd.encConfig 0 0 (2 ^ 16) 0 0).wf ∧
    ¬(HostCmd.encConfig 0 0 0 (2 ^ 16) 0).wf ∧ ¬(HostCmd.encConfig 0 0 0 0 (2 ^ 8)).wf ∧
    (HostCmd.encReference 0 0).wf ∧ ¬(HostCmd.encReference (2 ^ 8) 0).wf ∧ ¬(HostCmd.encReference 0 (2 ^ 63)).wf ∧
    ¬(HostCmd.encReference 0 (-2 ^ 63 - 1)).wf ∧ (HostCmd.encRead 0).wf ∧ ¬(HostCmd.encRead (2 ^ 8)).wf ∧
    (HostCmd.lineConfig 0 0 0 0 0 0 0).wf ∧ ¬(HostCmd.lineConfig (2 ^ 8) 0 0 0 0 0 0).wf ∧
    ¬(HostCmd.lineConfig 0 (2 ^ 8) 0 0 0 0 0).wf ∧ ¬(HostCmd.lineConfig 0 0 (2 ^ 8) 0 0 0 0).wf ∧
    ¬(HostCmd.lineConfig 0 0 0 (2 ^ 32) 0 0 0).wf ∧ ¬(HostCmd.lineConfig 0 0 0 0 (2 ^ 64) 0 0).wf ∧
    ¬(HostCmd.lineConfig 0 0 0 0 0 (2 ^ 16) 0).wf ∧ ¬(HostCmd.lineConfig 0 0 0 0 0 0 (2 ^ 8)).wf ∧
    (HostCmd.headOffset 0 0 []).wf ∧ ¬(HostCmd.headOffset (2 ^ 8) 0 []).wf ∧ ¬(HostCmd.headOffset 0 (2 ^ 8) []).wf ∧
    ¬(HostCmd.headOffset 0 0 (List.replicate (2 ^ 8) 0)).wf ∧ ¬(HostCmd.headOffset 0 0 [2 ^ 31]).wf ∧
    (HostCmd.compareSet 0 0 0 0).wf ∧ ¬(HostCmd.compareSet (2 ^ 8) 0 0 0).wf ∧
    ¬(HostCmd.compareSet 0 (2 ^ 8) 0 0).wf ∧ ¬(HostCmd.compareSet 0 0 (2 ^ 8) 0).wf ∧
    ¬(HostCmd.compareSet 0 0 0 (2 ^ 63)).wf ∧ ¬(HostCmd.compareSet 0 0 0 (-2 ^ 63 - 1)).wf ∧
    (HostCmd.wspdConfig 0 0 0).wf ∧ ¬(HostCmd.wspdConfig (2 ^ 8) 0 0).wf ∧ ¬(HostCmd.wspdConfig 0 (2 ^ 16) 0).wf ∧
    ¬(HostCmd.wspdConfig 0 0 (2 ^ 32)).wf := by
  simp [HostCmd.wf, inS, -List.reduceReplicate]

theorem test_wf_opcodes_07 :
    (HostCmd.camConfig 0 (List.replicate 96 0)).wf ∧ ¬(HostCmd.camConfig (2 ^ 8) (List.replicate 96 0)).wf ∧
    ¬(HostCmd.camConfig 0 (List.replicate 97 0)).wf ∧ (HostCmd.camInline 0).wf ∧ ¬(HostCmd.camInline (2 ^ 8)).wf ∧
    (HostCmd.roiSet 0 []).wf ∧ ¬(HostCmd.roiSet (2 ^ 8) []).wf ∧
    ¬(HostCmd.roiSet 0 (List.replicate (16 * 2 ^ 16) 0)).wf ∧ ¬(HostCmd.roiSet 0 (List.replicate 17 0)).wf ∧
    (HostCmd.statsRead 0 0).wf ∧ ¬(HostCmd.statsRead (2 ^ 8) 0).wf ∧ ¬(HostCmd.statsRead 0 (2 ^ 16)).wf ∧
    (HostCmd.loopCtrl 0 0 0).wf ∧ ¬(HostCmd.loopCtrl (2 ^ 8) 0 0).wf ∧ ¬(HostCmd.loopCtrl 0 (2 ^ 8) 0).wf ∧
    ¬(HostCmd.loopCtrl 0 0 (2 ^ 32)).wf ∧ (HostCmd.alignRead 0).wf ∧ ¬(HostCmd.alignRead (2 ^ 8)).wf ∧
    (HostCmd.alignRestore 0 []).wf ∧ ¬(HostCmd.alignRestore (2 ^ 8) []).wf ∧
    ¬(HostCmd.alignRestore 0 (List.replicate 4073 0)).wf := by
  simp [HostCmd.wf, -List.reduceReplicate]

theorem test_wf_opcodes_08 :
    (HostCmd.axisConfig 0 (List.replicate 64 0)).wf ∧ ¬(HostCmd.axisConfig (2 ^ 8) (List.replicate 64 0)).wf ∧
    ¬(HostCmd.axisConfig 0 (List.replicate 65 0)).wf ∧ (HostCmd.axisMove 0 0 0 0 0).wf ∧
    ¬(HostCmd.axisMove (2 ^ 8) 0 0 0 0).wf ∧ ¬(HostCmd.axisMove 0 (2 ^ 63) 0 0 0).wf ∧
    ¬(HostCmd.axisMove 0 (-2 ^ 63 - 1) 0 0 0).wf ∧ ¬(HostCmd.axisMove 0 0 (2 ^ 32) 0 0).wf ∧
    ¬(HostCmd.axisMove 0 0 0 (2 ^ 32) 0).wf ∧ ¬(HostCmd.axisMove 0 0 0 0 (2 ^ 32)).wf ∧
    (HostCmd.axisTable 0 0 0 []).wf ∧ ¬(HostCmd.axisTable (2 ^ 8) 0 0 []).wf ∧
    ¬(HostCmd.axisTable 0 (2 ^ 8) 0 []).wf ∧ ¬(HostCmd.axisTable 0 0 (2 ^ 8) []).wf ∧
    ¬(HostCmd.axisTable 0 0 0 (List.replicate (16 * 2 ^ 16) 0)).wf ∧
    ¬(HostCmd.axisTable 0 0 0 (List.replicate 17 0)).wf ∧ (HostCmd.axisStop 0 0).wf ∧
    ¬(HostCmd.axisStop (2 ^ 8) 0).wf ∧ ¬(HostCmd.axisStop 0 (2 ^ 8)).wf ∧ (HostCmd.axisRead 0).wf ∧
    ¬(HostCmd.axisRead (2 ^ 8)).wf ∧ (HostCmd.axisSetPos 0 0).wf ∧ ¬(HostCmd.axisSetPos (2 ^ 8) 0).wf ∧
    ¬(HostCmd.axisSetPos 0 (2 ^ 63)).wf ∧ ¬(HostCmd.axisSetPos 0 (-2 ^ 63 - 1)).wf ∧ (HostCmd.switchConfig 0 0 0).wf ∧
    ¬(HostCmd.switchConfig (2 ^ 8) 0 0).wf ∧ ¬(HostCmd.switchConfig 0 (2 ^ 8) 0).wf ∧
    ¬(HostCmd.switchConfig 0 0 (2 ^ 16)).wf := by
  simp [HostCmd.wf, inS, -List.reduceReplicate]

theorem test_wf_opcodes_09 :
    (HostCmd.timeRead 0).wf ∧ ¬(HostCmd.timeRead (2 ^ 8)).wf ∧ (HostCmd.timeSet 0 0 0).wf ∧
    ¬(HostCmd.timeSet (2 ^ 8) 0 0).wf ∧ ¬(HostCmd.timeSet 0 (2 ^ 64) 0).wf ∧ ¬(HostCmd.timeSet 0 0 (2 ^ 32)).wf ∧
    (HostCmd.timeAdjust 0 0 0).wf ∧ ¬(HostCmd.timeAdjust (2 ^ 8) 0 0).wf ∧ ¬(HostCmd.timeAdjust 0 (2 ^ 31) 0).wf ∧
    ¬(HostCmd.timeAdjust 0 (-2 ^ 31 - 1) 0).wf ∧ ¬(HostCmd.timeAdjust 0 0 (2 ^ 63)).wf ∧
    ¬(HostCmd.timeAdjust 0 0 (-2 ^ 63 - 1)).wf ∧ (HostCmd.triggerSet 0 0 0 0 0).wf ∧
    ¬(HostCmd.triggerSet (2 ^ 8) 0 0 0 0).wf ∧ ¬(HostCmd.triggerSet 0 (2 ^ 8) 0 0 0).wf ∧
    ¬(HostCmd.triggerSet 0 0 (2 ^ 64) 0 0).wf ∧ ¬(HostCmd.triggerSet 0 0 0 (2 ^ 32) 0).wf ∧
    ¬(HostCmd.triggerSet 0 0 0 0 (2 ^ 32)).wf := by
  simp [HostCmd.wf, inS, -List.reduceReplicate]

theorem test_wf_opcodes_0A :
    (HostCmd.hkRead 0 0).wf ∧ ¬(HostCmd.hkRead (2 ^ 8) 0).wf ∧ ¬(HostCmd.hkRead 0 (2 ^ 8)).wf ∧
    (HostCmd.calRun 0).wf ∧ ¬(HostCmd.calRun (2 ^ 8)).wf ∧ (HostCmd.calDt 0).wf ∧ ¬(HostCmd.calDt (2 ^ 16)).wf := by
  simp [HostCmd.wf, -List.reduceReplicate]

theorem test_wf_opcodes_0B :
    (HostCmd.linkConfig 0 0 0 0 0 0).wf ∧ ¬(HostCmd.linkConfig (2 ^ 8) 0 0 0 0 0).wf ∧
    ¬(HostCmd.linkConfig 0 (2 ^ 8) 0 0 0 0).wf ∧ ¬(HostCmd.linkConfig 0 0 (2 ^ 8) 0 0 0).wf ∧
    ¬(HostCmd.linkConfig 0 0 0 (2 ^ 8) 0 0).wf ∧ ¬(HostCmd.linkConfig 0 0 0 0 (2 ^ 8) 0).wf ∧
    ¬(HostCmd.linkConfig 0 0 0 0 0 (2 ^ 8)).wf ∧ (HostCmd.linkRestart 0).wf ∧ ¬(HostCmd.linkRestart (2 ^ 8)).wf ∧
    (HostCmd.linkStatus 0).wf ∧ ¬(HostCmd.linkStatus (2 ^ 8)).wf := by
  simp [HostCmd.wf, -List.reduceReplicate]

theorem test_wf_opcodes_0C :
    (HostCmd.pairConfig 0 0).wf ∧ ¬(HostCmd.pairConfig (2 ^ 8) 0).wf ∧ ¬(HostCmd.pairConfig 0 (2 ^ 8)).wf := by
  simp [HostCmd.wf, -List.reduceReplicate]

theorem test_wf_opcodes_0D :
    (HostCmd.otpBurn (List.replicate 64 0)).wf ∧ ¬(HostCmd.otpBurn (List.replicate 65 0)).wf ∧
    (HostCmd.keyBurn 0 (List.replicate 32 0)).wf ∧ ¬(HostCmd.keyBurn (2 ^ 8) (List.replicate 32 0)).wf ∧
    ¬(HostCmd.keyBurn 0 (List.replicate 33 0)).wf ∧ (HostCmd.patchLoad 0 []).wf ∧
    ¬(HostCmd.patchLoad (2 ^ 32) []).wf ∧ ¬(HostCmd.patchLoad 0 (List.replicate (1 * 2 ^ 16) 0)).wf ∧
    (HostCmd.patchActivate 0 (List.replicate 64 0)).wf ∧ ¬(HostCmd.patchActivate (2 ^ 32) (List.replicate 64 0)).wf ∧
    ¬(HostCmd.patchActivate 0 (List.replicate 65 0)).wf := by
  simp [HostCmd.wf, -List.reduceReplicate]

theorem test_wf_opcodes_0E :
    (HostCmd.ladderSet 0 0).wf ∧ ¬(HostCmd.ladderSet (2 ^ 8) 0).wf ∧ ¬(HostCmd.ladderSet 0 (2 ^ 8)).wf ∧
    (HostCmd.vcoreFloor 0).wf ∧ ¬(HostCmd.vcoreFloor (2 ^ 16)).wf := by
  simp [HostCmd.wf, -List.reduceReplicate]

theorem test_wf_opcodes_0F :
    (HostCmd.logRead 0 0).wf ∧ ¬(HostCmd.logRead (2 ^ 16) 0).wf ∧ ¬(HostCmd.logRead 0 (2 ^ 16)).wf ∧
    (HostCmd.logClear 0).wf ∧ ¬(HostCmd.logClear (2 ^ 8)).wf ∧ (HostCmd.echo []).wf ∧
    ¬(HostCmd.echo (List.replicate 4077 0)).wf ∧ (HostCmd.countersRead 0).wf ∧ ¬(HostCmd.countersRead (2 ^ 8)).wf := by
  simp [HostCmd.wf, -List.reduceReplicate]

theorem test_wf_rows :
    ¬Instr.wf (.registerFieldWrite (2 ^ 40) 0 0) ∧ ¬Instr.wf (.registerFieldWrite 0 (2 ^ 32) 0) ∧
    ¬Instr.wf (.gpioDirWrite (2 ^ 32) 0) ∧ ¬Instr.wf (.cmpPosLoWrite 0 (2 ^ 32) 0) ∧
    ¬Instr.wf (.cplHiWrite 0 (2 ^ 32) 0) ∧ ¬Instr.wf (.brokenClear (2 ^ 32) 0) ∧
    ¬Instr.wf (.eventWindowEnd (2 ^ 16) 0 0) ∧ ¬Instr.wf (.paceWindow [] 0) ∧ ¬Instr.wf (.profileUpdate [] 0) ∧
    ¬Instr.wf (.zeroFillDone 229376 0) ∧ ¬Instr.wf (.correctedRead (2 ^ 40) 0) ∧
    ¬Instr.wf (.scrubRewrite (2 ^ 40) 0) ∧ ¬Instr.wf (.uncorrectableRead (2 ^ 40) 0 0 0 0) ∧
    ¬Instr.wf (.dramTraining [] 0) ∧ ¬Instr.wf (.dramRetrainDone [] 0) ∧
    ¬Instr.wf (.alignmentMarker 0 (2 ^ 64) 0 0 0 0 0) ∧ ¬Instr.wf (.refclkZlLost (2 ^ 15) 0) ∧
    ¬Instr.wf (.refclkZlRestored (-2 ^ 15 - 1) 0) ∧ ¬Instr.wf (.flitReceived 0 [] 0) ∧
    ¬Instr.wf (.initReceived 0 [] 0) ∧ ¬Instr.wf (.nakReceived 0 (2 ^ 10) 0) ∧
    ¬Instr.wf (.cmdTransaction 0 ⟨256, 0, 0, 0, 0, []⟩ 0) ∧ ¬Instr.wf (.upstreamForward 0 ⟨256, 0, 0, 0, 0, []⟩ 0) ∧
    ¬Instr.wf (.memwr 0 ⟨256, 0, 0, 0, 0, []⟩ 0) ∧ ¬Instr.wf (.memrd 0 ⟨256, 0, 0, 0, 0, []⟩ 0) ∧
    ¬Instr.wf (.memcpl 0 ⟨256, 0, 0, 0, 0, []⟩ 0) ∧ ¬Instr.wf (.bcast 0 ⟨256, 0, 0, 0, 0, []⟩ 0) ∧
    ¬Instr.wf (.stringReceived ⟨256, 0, 0, 0, 0, []⟩ 0 0) ∧ ¬Instr.wf (.ckptReceived ⟨256, 0, 0, 0, 0, []⟩ 0) ∧
    ¬Instr.wf (.hkRoundEnd [] (List.replicate 64 0) (List.replicate 8 none) 0) ∧
    ¬Instr.wf (.hkRoundEnd (List.replicate 20 0) [] (List.replicate 8 none) 0) ∧
    ¬Instr.wf (.hkRoundEnd (List.replicate 20 0) (List.replicate 64 0) [] 0) ∧
    ¬Instr.wf (.nop ⟨.spi, 2 ^ 16, 0, 0, 0, 0, 0, 0⟩) ∧ ¬Instr.wf (.regRead ⟨.spi, 0, 0, 0, 0, 0, 0, 0⟩ 0 (2 ^ 16)) := by
  simp [Instr.wf, HostCmd.wf, Hdr.wf, Trans.wf, inS, -List.reduceReplicate]

/-! ### A small state: right after reset, EVT_READY passed, id 0, and given register fields set -/

/-- The state right after reset with EVT_READY passed and id 0, and the fields of `fs` set. -/
def on (fs : List (Fld × Nat)) : State :=
  fs.foldl (fun s f => s.set f.1 f.2) ((State.reset.set Reg.CMD_STATUS_READY 1).set Reg.HIER_ID 0)

/-- A header on the SPI: tag 1, addressed to id 0. -/
def hd : Hdr := ⟨.spi, 1, 0, 0, 0, 0, 0, 0⟩

/-- What `Placed` asks of a command with the header `hd`. -/
def placedB (c : HostCmd) (s : State) : Bool :=
  s.power.resetN && s.awake && s.myId == 0 && HostCmd.valuesOk c && s.host.outstanding.isEmpty && s.host.waiting.isNone

/-- What `Ready` asks of a command with the header `hd`. -/
def readyB (c : HostCmd) (s : State) : Bool := placedB c s && (s.flag Reg.CMD_STATUS_READY || earlyOpcode c.opcode)

theorem placed_iff (c : HostCmd) (s : State) : Placed hd c s ↔ placedB c s = true := by
  simp only [placedB, Bool.and_eq_true, beq_iff_eq, List.isEmpty_iff, Option.isNone_iff_eq_none]
  constructor
  · intro h
    exact ⟨⟨⟨⟨⟨h.running, h.awake⟩, h.target.symm⟩, h.values⟩, h.free⟩, h.idle⟩
  · rintro ⟨⟨⟨⟨⟨h1, h2⟩, h3⟩, h4⟩, h5⟩, h6⟩
    exact { running := h1, awake := h2, open_ := .inl rfl, notReply := by decide, flags := rfl, status := rfl,
            reserved := rfl, target := by rw [h3]; rfl, assigned := by rw [h3]; decide, values := h4, free := h5,
            idle := h6, writes := by simp [State.writesDone, hd] }

theorem ready_iff (c : HostCmd) (s : State) : Ready hd c s ↔ readyB c s = true := by
  simp only [readyB, Bool.and_eq_true, ← placed_iff]
  exact ⟨fun h => ⟨h.toPlaced, h.serves⟩, fun h => { toPlaced := h.1, serves := h.2 }⟩

/-- Another command outstanding: NOP with tag 2. -/
def other : Cmd := ⟨{ hd with tag := 2 }, .nop, 0xFE⟩

/-- `on []` with the commands `l` outstanding. -/
def busyWith (l : List Cmd) : State := { on [] with host := { (on []).host with outstanding := l } }

/-- `on []` with RESET_N low. -/
def low_ : State := { on [] with power := { (on []).power with resetN := false } }

/-! ### Hypotheses met: queue, arrival, system rows, encoders and line placement -/

theorem witness_NoStepStopsTheBlock : (on []).pending = [] := by decide

theorem witness_HeldWhileResetNIsLow : low_.power.resetN = false ∧ actsInReset (.evtReady 5) = false := by decide

theorem witness_ArrivalChecksInOrder :
    (on []).power.resetN = true ∧ (on []).awake = true ∧ hd.iface = .spi ∧ hdrFlag hd 0 = false ∧
    hd.target = (on []).myId ∧ (on []).myId < 63 ∧
    { hd with flags := 16 }.flags / 16 ≠ 0 ∧ hdrFlag { hd with flags := 16 } 0 = false ∧
    (hd.flags / 16 = 0 ∧ hd.status = 0 ∧ hd.reserved = 0) ∧
    (∃ k ∈ (busyWith [⟨hd, .nop, 0xFE⟩]).host.outstanding, k.h.iface = hd.iface ∧ k.h.tag = hd.tag) ∧
    (on []).host.outstanding ++ (on []).host.waiting.toList = [] ∧
    HostCmd.valuesOk (.timeRead 4) = false ∧ HostCmd.valuesOk (.timeRead 3) = true ∧
    (∀ k ∈ (busyWith (List.replicate 64 other)).host.outstanding, k.h.tag ≠ hd.tag) ∧
    64 ≤ (busyWith (List.replicate 64 other)).outCount := by
  decide

theorem witness_CommandsExecuteInOrderOfArrival :
    ((busyWith (List.replicate 63 other)).outCount < 64 ∧ (busyWith (List.replicate 63 other)).host.outstanding ≠ [] ∧
      (∀ k ∈ (busyWith (List.replicate 63 other)).host.outstanding, ¬(k.h.iface = hd.iface ∧ k.h.tag = hd.tag)) ∧
      HostCmd.valuesOk .nop = true ∧ hd.target = (busyWith [other]).myId ∧ (busyWith [other]).awake = true) ∧
    (Live (busyWith [other]) ∧ (busyWith [other]).host.outstanding = [other] ∧ (busyWith [other]).host.waiting = none ∧
      (busyWith [other]).writesDone other = true ∧ (busyWith [other]).flag Reg.CMD_STATUS_READY = true) ∧
    ((busyWith [other]).elapse 5).perform other.h other.c = ⟨stOk, [], (busyWith [other]).elapse 5, false⟩ := by
  exact ⟨by decide, by decide, rfl⟩

theorem witness_RefusedReplyCarriesNoData : Ready hd (.otpBurn (List.replicate 64 0)) (on []) ∧
    ∃ u, ((on []).serving hd (.otpBurn (List.replicate 64 0))).perform hd (.otpBurn (List.replicate 64 0)) =
      ⟨stBadParam, [], u, false⟩ ∧ stBadParam ≠ stOk ∧ stBadParam ≠ stAccepted :=
  ⟨(ready_iff _ _).2 (by decide), _, rfl, by decide, by decide⟩

theorem witness_BeforeReadyOnlySixOpcodes : (State.reset.set Reg.HIER_ID 0).flag Reg.CMD_STATUS_READY = false ∧
    Placed hd (.plock 3) (State.reset.set Reg.HIER_ID 0) ∧ Placed hd .nop (State.reset.set Reg.HIER_ID 0) ∧
    ∃ st d u, ((State.reset.set Reg.HIER_ID 0).serving hd .nop).perform hd .nop = ⟨st, d, u, false⟩ := by
  simp only [placed_iff]
  exact ⟨by decide, by decide, by decide, _, _, _, rfl⟩

theorem witness_SleepingBlockLosesCommands : (on [(Reg.LADDER_STATE, 2)]).awake = false ∧
    (on [(Reg.LADDER_STATE, 2)]).power.entry = none ∧ (on [(Reg.LADDER_STATE, 2)]).power.wakeHeld = none ∧
    (on [(Reg.LADDER_STATE, 2)]).wakePort ≠ wakeOf hd.iface := by
  decide

theorem witness_SystemReadsComplete : Ready hd .nop (on []) ∧ Ready hd .getInfo (on []) ∧
    Ready hd (.getStatus 1) (on []) ∧ Ready hd (.echo [0xFF]) (on []) ∧ Ready hd (.logRead 0 127) (on []) ∧
    Ready hd (.countersRead 28) (on []) ∧ Ready hd (.logClear 1) (on []) := by
  simp only [ready_iff]; and_intros <;> decide

theorem witness_RegisterAccessCompletes :
    (Ready hd (.regRead regBase 1) (on []) ∧ inDram regBase 4 = false) ∧
    (Ready hd (.regRead 0 1019) (on []) ∧ inDram 0 4076 = true ∧
      (((on []).serving hd (.regRead 0 1)).fetch 0 4).2.2 = []) ∧
    (Ready hd (.regWrite regBase (List.replicate 1016 1)) (on []) ∧ inDram regBase (4 * 1016) = false) ∧
    (Ready hd (.regWrite 0 [1]) (on []) ∧ inDram 0 4 = true ∧ (on []).standby = false ∧ touchesProt 0 4 = false ∧
      (((on []).serving hd (.regWrite 0 [1])).writeMem true 0 (leBytes 4 1)).2 = []) ∧
    (Ready hd (.regModify (regBase + 0x8) 1 1) (on []) ∧
      (((on []).serving hd (.regModify (regBase + 0x8) 1 1)).writeReg 0x8 1).1 = stOk) := by
  simp only [ready_iff]; and_intros <;> decide

theorem witness_ResetAnswersThenActs : Ready hd (.reset 0 0) (on []) ∧ Ready hd (.reset 1 1) (on []) ∧
    (on []).job.running = none ∧ hdrFlag hd flagQuiet = false := by
  simp only [ready_iff]; and_intros <;> decide

theorem witness_TimeCommandsComplete : Ready hd (.timeRead 3) (on []) ∧
    Ready hd (.timeSet 0 (2 ^ 48 - 1) 999999999) (on []) ∧ Ready hd (.timeAdjust 3 (-200000) 1000000000) (on []) := by
  simp only [ready_iff]; and_intros <;> decide

theorem witness_TimeSetStepsTheBase : Ready hd (.timeSet 3 (2 ^ 48 - 1) 999999999) (on []) ∧ Placed hd .nop (on []) ∧
    1000000000 ≤ 1000000000 ∧ 2 ^ 48 ≤ 2 ^ 48 := by
  simp only [ready_iff, placed_iff]; and_intros <;> decide

theorem witness_TriggerSetChecks : Ready hd .nop (on []) ∧ (on []).flag Reg.CMD_STATUS_READY = true ∧
    2 ^ 48 - 1 < 2 ^ 48 ∧ (4 < 5 ∧ 3 < 4 ∧ 4 ≠ 0xFF ∧ 1 ≤ 999 ∧ 7999999 < 8000000) ∧
    0 * 1000000000 + 0 ≤ ((on []).serving hd (.triggerSet 0 0 0 0 1000)).tbNs 0 ∧
    ((on []).serving hd (.triggerSet 4 0 0 1 8000000)).tbNs 0 < 0 * 1000000000 + 1 := by
  simp only [ready_iff]; and_intros <;> decide

/-- `on fs` with encoder 0 valid. -/
def enc0 (fs : List (Fld × Nat)) : State := on ((Reg.ENC_STATUS_INVALID 0, 0) :: fs)

/-- A job on plane 0 that runs. -/
def run0 : JobRun :=
  ⟨0, 0, ⟨1, 2, 0, [some ⟨false, 0, false, false, false, 0, 0, 0, 0, 0, 0, 0, 0⟩, none, none, none]⟩, 0, 0, some 0, true,
    none, 0, 2 ^ 32, 0, 0, none, 0, 0, 1, List.replicate 4 ⟨0, 0, false, false, 0, 0, 0⟩⟩

/-- `enc0 fs` with `j` running. -/
def running (j : JobRun) (fs : List (Fld × Nat)) : State := { enc0 fs with job := { (enc0 fs).job with running := some j } }

theorem witness_ResetRefusedWhilePrinting : Ready hd (.reset 1 0) (running run0 []) ∧
    (running run0 []).job.running ≠ none := by
  simp only [ready_iff]; and_intros <;> decide

theorem witness_EncoderCommandsComplete :
    (Ready hd (.encConfig 0 0 20 0 1) (on []) ∧ (on []).encPrints 0 = false) ∧
    (Ready hd (.encConfig 0 0 2000 0 1) (running run0 []) ∧ (running run0 []).encPrints 0 = true) ∧
    (Ready hd (.encReference 3 (-2 ^ 63)) (on []) ∧ 3 < (on []).encs.length ∧
      (on []).flag (Reg.ENC_STATUS_WIRE_A 3) = false ∧ (on []).flag (Reg.ENC_STATUS_WIRE_B 3) = false ∧
      ((on []).encPrints 3 && (on []).encValid 3) = false ∧ (on []).job.running = none ∧ (on []).job.queued = none) ∧
    (Ready hd (.encReference 0 0) (running run0 []) ∧
      ((running run0 []).encPrints 0 && (running run0 []).encValid 0) = true) ∧
    Ready hd (.encRead 3) (on []) ∧ Ready hd (.compareSet 7 7 1 (-2 ^ 63)) (on []) := by
  simp only [ready_iff]; and_intros <;> decide

theorem witness_JumpOfACounterIsNoCrossing :
    (Ready hd (.encReference 3 5) (on []) ∧ (on []).flag (Reg.ENC_STATUS_WIRE_A 3) = false ∧
      (on []).flag (Reg.ENC_STATUS_WIRE_B 3) = false ∧ ((on []).encPrints 3 && (on []).encValid 3) = false ∧
      (on [(Reg.ENC_CMP_CTRL_SOURCE 7, 3)]).get (Reg.ENC_CMP_CTRL_SOURCE 7) = 3) ∧
    (Ready hd (.axisSetPos 3 5) (on []) ∧ (on []).moving 3 = false ∧
      (on [(Reg.ENC_CMP_CTRL_SOURCE 7, 7)]).get (Reg.ENC_CMP_CTRL_SOURCE 7) = 4 + 3) := by
  simp only [ready_iff]; and_intros <;> decide

theorem witness_LinePlacementCommandsComplete :
    ((on []).standby = false ∧ Ready hd (.lineConfig 3 3 1 1048575 (2 ^ 32) 0 64) (on []) ∧
      (on []).prints 3 = false ∧ (on []).armed 3 = false) ∧
    (Ready hd (.lineConfig 0 3 1 0 (2 ^ 32) 0 4) (running run0 []) ∧ (running run0 []).prints 0 = true) ∧
    (Ready hd (.headOffset 0 47 [32767]) (on []) ∧ 32767 + ((on []).plane 0).along.getD 47 0 ≤ 32767) ∧
    (Ready hd (.headOffset 0 47 [32767])
        { on [] with line := { (on []).line with planes := [{ (on []).plane 0 with along := List.replicate 48 1 }] } } ∧
      ¬(32767 + (({ on [] with line := { (on []).line with
        planes := [{ (on []).plane 0 with along := List.replicate 48 1 }] } } : State).plane 0).along.getD 47 0 ≤ 32767)) ∧
    Ready hd (.wspdConfig 1 0 0) (on []) := by
  simp only [ready_iff]; and_intros <;> decide

/-! ### Hypotheses met: jobs, composition, tables, head ports -/

/-- A legal HEAD_PROFILE record: one row, one bit, 64 nozzles, every width at its least. -/
def prof : List Byte :=
  [1, 1, 1, 0] ++ leBytes 2 64 ++ [1, 1] ++ leBytes 4 10000 ++ leBytes 2 8 ++ leBytes 2 8 ++ leBytes 2 8 ++ leBytes 2 8 ++
    leBytes 2 8 ++ [0, 0] ++ leBytes 2 80 ++ leBytes 2 40 ++ leBytes 2 40 ++ leBytes 2 240 ++ leBytes 2 400 ++ leBytes 2 0 ++
    leBytes 2 0 ++ [0, 0] ++ leBytes 2 80 ++ [2, 0] ++ leBytes 2 256 ++ leBytes 2 0 ++ [0, 0, 0, 0] ++ leBytes 2 1 ++
    leBytes 2 0 ++ List.replicate 8 0

/-- `enc0 fs` with plane 0 mapped to port 0, which is enabled. -/
def mapped0 (fs : List (Fld × Nat)) : State :=
  let s := enc0 ([(Reg.HEADPORT_HP_CTRL_MAPPED 0, 1), (Reg.HEADPORT_HP_CTRL_ENABLE 0, 1)] ++ fs)
  s.modPlane 0 (fun x => { x with profile := some prof, map := [0] })

/-- `s` with the job state `f` makes of its own. -/
def jobs (s : State) (f : JobSt → JobSt) : State := { s with job := f s.job }

/-- Job 1 is defined as `run0` is, on plane 0. -/
def defined (s : State) : State := jobs s (fun j => { j with defs := [none, some run0.defn, none, none] })

/-- A binding record that uses no raster and repeats every line, then none for the other planes. -/
def bind0 : List Byte :=
  leBytes 4 0 ++ leBytes 4 1 ++ leBytes 8 0 ++ leBytes 4 1 ++ leBytes 4 256 ++ leBytes 16 0 ++ leBytes 4 256 ++
    List.replicate 212 0

/-- A binding record whose plane 0 uses a ring of 256 rows at an address. -/
def bindAt (a : Nat) : List Byte :=
  leBytes 4 2 ++ leBytes 4 1 ++ leBytes 8 0 ++ leBytes 4 1 ++ leBytes 4 256 ++ leBytes 8 0 ++ leBytes 8 a ++
    leBytes 4 256 ++ List.replicate 212 0

/-- Its ring at 0. -/
def bindRing : List Byte := bindAt 0

theorem witness_JobDefineStores :
    (let b := bindingAt bindRing 0
     Ready hd (.jobDefine 3 1 0 1 bindRing) (on []) ∧ (on []).standby = false ∧ bindingOk bindRing 0 = true ∧
      (on []).ringOk 0 b = true ∧ ringProtected bindRing 0 = false ∧ (b.use != 0 && !(on []).ringBound 0) = true ∧
      (on []).job.running = none ∧ (on []).job.queued = none) ∧
    Placed hd .nop (on []) ∧
    (Ready hd (.jobDefine 0 1 2 0 (bindAt protBase)) (on []) ∧ bindingOk (bindAt protBase) 0 = true ∧
      (on []).ringOk 0 (bindingAt (bindAt protBase) 0) = true ∧ ringProtected (bindAt protBase) 0 = true) ∧
    (Ready hd (.jobDefine 0 1 2 0 bind0) (running run0 []) ∧ bindingOk bind0 0 = true ∧
      (running run0 []).ringOk 0 (bindingAt bind0 0) = true ∧ ringProtected bind0 0 = false ∧
      (running run0 []).job.running = some run0 ∧ run0.id = 0) := by
  simp only [ready_iff, placed_iff]; and_intros <;> decide

theorem witness_JobStartQueues :
    (let s := defined (mapped0 [])
     Ready hd (.jobStart 1 0 0 0) s ∧ s.standby = false ∧ s.job.defs.getD 1 none = some run0.defn ∧
      s.job.queued = none ∧ s.mapped 0 = true ∧ s.encOf 0 = 0 ∧ s.planeStartOk 0 = true ∧ s.encValid 0 = true ∧
      s.job.running = none ∧ (List.range 4).filter (bit run0.defn.planeMask) = [0] ∧
      Ready hd (.jobStart 1 1 0 (2 ^ 62)) s ∧
      (s.serving hd (.jobStart 1 1 0 (2 ^ 62))).leadOf [0] ≤ (2 ^ 62 - (s.enc 0).count) ∧ Ready hd (.jobStart 1 1 0 0) s ∧
      Ready hd (.jobStart 1 1 0 (-2 ^ 63)) s ∧
      -2 ^ 63 - (s.enc 0).count < ((s.serving hd (.jobStart 1 1 0 (-2 ^ 63))).leadOf [0] : Int) ∧
      Ready hd (.jobStart 1 2 7 0) s) ∧
    (let s := jobs (defined (mapped0 [])) (fun j => { j with running := some run0 })
     Ready hd (.jobStart 1 1 0 (2 ^ 62)) s ∧ s.job.running = some run0 ∧ run0.id ≠ 1 ∧ run0.start = some 0 ∧
      s.planeStartOk 0 = true ∧ s.encValid 0 = true ∧ Ready hd (.jobStart 1 3 0 0) s) := by
  simp only [ready_iff]; and_intros <;> decide

/-- A job that binds a ring on plane 0 runs, and the ring stands as given. -/
def ringRun (r : Ring) : State :=
  jobs (on []) (fun j => { j with
    running := some { run0 with defn := { run0.defn with binds := [some (bindingAt bindRing 0), none, none, none] } },
    rings := [r] })

theorem witness_JobStopStatusCommitComplete :
    (Ready hd (.jobStop 1 1) (running run0 []) ∧ (running run0 []).job.running = some run0 ∧
      (running run0 []).standby = false) ∧
    (let s := jobs (on []) (fun j => { j with queued := some run0 })
     Ready hd (.jobStop 0 1) s ∧ s.job.running = none ∧ s.job.queued ≠ none) ∧
    (Ready hd (.jobStop 0 0) (on []) ∧ (on []).job.running = none) ∧ Ready hd .jobStatus (on []) ∧
    (let s := ringRun ⟨0, 0, false, none⟩
     Ready hd (.streamCommit 0 (255 * 256)) s ∧ s.ringBinding 0 = some (bindingAt bindRing 0) ∧
      (bindingAt bindRing 0).stride = 256 ∧ (bindingAt bindRing 0).ringRows = 256 ∧
      (s.ring 0).committed + 255 ≤ 256 - 1 + (s.ring 0).consumed) ∧
    (let s := ringRun ⟨1, 0, false, none⟩
     Ready hd (.streamCommit 0 0) s ∧ s.ringBinding 0 = some (bindingAt bindRing 0) ∧
      256 - 1 + (s.ring 0).consumed < (s.ring 0).committed + 255) := by
  simp only [ready_iff]; and_intros <;> decide

theorem witness_CompositionCommandsComplete :
    (on []).standby = false ∧ Ready hd (.layerSet 3 1 1 255 0 1 0 1 1 256) (on []) ∧
    geomStatus 1 0 1 1 256 = stOk ∧ Ready hd (.layerSet 0 2 1 255 1 0 0 128 1 256) (on []) ∧
    geomStatus 2 0 128 1 256 = stOk ∧ Ready hd (.layerSet 0 3 1 0 0 0 0 512 512 1024) (on []) ∧
    geomStatus 3 0 512 512 1024 = stOk ∧ (Ready hd (.layerSet 0 2 1 0 0 0 0 129 1 256) (on []) ∧
      (on []).geomFree 0 2 = false ∧ geomStatus 2 0 129 1 256 ≠ stOk) ∧
    Ready hd (.kiteMove 3 1 0 0) (on []) := by
  simp only [ready_iff]; and_intros <;> decide

/-- `on fs` with memory region 0 valid, and bytes of it set. -/
def ram (cells : List Host.Cell) (fs : List (Fld × Nat)) : State :=
  { on fs with dram := cells, mem := { (on fs).mem with valid := [(0, true)], undef := [] } }

theorem witness_ProtectedLayerCommandsComplete :
    (Ready hd (.pload 0 1 0 1024) (on [(Reg.COMPOSE_PL_PROT_STATUS_LOCKED 0, 1)]) ∧
      (on [(Reg.COMPOSE_PL_PROT_STATUS_LOCKED 0, 1)]).flag (Reg.COMPOSE_PL_PROT_STATUS_LOCKED 0) = true) ∧
    (Ready hd (.pload 0 1 0 1024) (running run0 []) ∧ (running run0 []).prints 0 = true ∧
      (running run0 []).flag (Reg.COMPOSE_PL_PROT_STATUS_LOCKED 0) = false) ∧
    (let s := (on []).modPlane 0 (fun x => { x with pload := some ⟨1, .spi, 1, 0, 1280, []⟩ })
     Ready hd (.pload 0 1 0 1024) s ∧ (s.plane 0).pload ≠ none) ∧
    (Ready hd (.pload 3 64 0 1023) (on []) ∧ (on []).prints 3 = false ∧ ((on []).plane 3).pload = none ∧ 1023 < 1024) ∧
    (let s := ram [(8, 1), (10, 1)] []
     let x := (s.serving hd (.pload 0 1 0 1280)).fetch 0 1024
     Ready hd (.pload 0 1 0 1280) s ∧ s.prints 0 = false ∧ (s.plane 0).pload = none ∧
      ¬(0 % 256 ≠ 0 ∨ 1280 < 1024 ∨ protBase < 0 + 1280) ∧ x.2.2 = [] ∧ stagingOk 1 1280 x.2.1 = true) ∧
    (Ready hd (.plock 0) (on [(Reg.COMPOSE_PL_PROT_STATUS_LOADED 0, 1)]) ∧
      (on [(Reg.COMPOSE_PL_PROT_STATUS_LOADED 0, 1)]).flag (Reg.COMPOSE_PL_PROT_STATUS_LOADED 0) = true) ∧
    (Ready hd (.plock 0) (on []) ∧ (on []).flag (Reg.COMPOSE_PL_PROT_STATUS_LOADED 0) = false) ∧
    Ready hd (.punlock 0 0) (on []) ∧
    (let s := on [(Reg.COMPOSE_PL_PROT_STATUS_LOCKED 0, 1), (Reg.COMPOSE_PL_PROT_STATUS_BAD_TOKENS 0, 16)]
     Ready hd (.punlock 0 0) s ∧ 16 ≤ s.get (Reg.COMPOSE_PL_PROT_STATUS_BAD_TOKENS 0)) ∧
    (let s := on [(Reg.COMPOSE_PL_PROT_STATUS_LOCKED 0, 1), (Reg.COMPOSE_PL_PROT_STATUS_BAD_TOKENS 0, 15)]
     Ready hd (.punlock 0 1) s ∧ ¬16 ≤ s.get (Reg.COMPOSE_PL_PROT_STATUS_BAD_TOKENS 0) ∧ (s.plane 0).token ≠ 1 ∧
      (s.plane 0).token = 0) := by
  simp only [ready_iff]; and_intros <;> decide

theorem witness_TableLoadChecks :
    (let s := on [(Reg.HTONE_PL_TABLES_COPYING 0, 1)]
     Ready hd (.tableLoad 0 0 0 0 8192) s ∧ s.tableBusy 0 0 = true) ∧
    (Ready hd (.tableLoad 0 4 0 0 8) (on []) ∧ (on []).standby = false ∧ (on []).tableBusy 0 4 = false ∧
      (on []).mapped 0 = false) ∧
    (Ready hd (.tableLoad 0 0 0 0 8191) (on []) ∧
      8191 ≠ ((on []).serving hd (.tableLoad 0 0 0 0 8191)).tableLen 0 0) ∧
    (Ready hd (.tableLoad 3 5 1 0 64) (ram [] []) ∧ (ram [] []).tableBusy 3 5 = false ∧
      (let u := (ram [] []).serving hd (.tableLoad 3 5 1 0 64)
       ¬(64 ≠ u.tableLen 3 5 ∨ 0 % 64 ≠ 0 ∨ inDram 0 64 = false) ∧ (u.fetch 0 (tableHeadLen 5)).2.2 = [] ∧
        tableHeadOk 5 (u.fetch 0 (tableHeadLen 5)).2.1 = true)) ∧
    (let s := mapped0 []
     let u := s.serving hd (.tableLoad 0 1 0 0 (2 * 64))
     Ready hd (.tableLoad 0 1 0 0 (2 * 64)) s ∧ s.mapped 0 = true ∧ 2 * 64 = u.tableLen 0 1 ∧ u.shareFits 0 1 = true ∧
      s.mapped 1 = false ∧ s.mapped 2 = false ∧ s.mapped 3 = false ∧ (u.fetch 0 (tableHeadLen 1)).2.2 = [] ∧
      tableHeadOk 1 (u.fetch 0 (tableHeadLen 1)).2.1 = true) := by
  simp only [ready_iff]; and_intros <;> decide

theorem witness_HeadPortCommandsComplete :
    (Ready hd (.headProfile 3 prof) (on []) ∧ prof.length = 64 ∧
      profileOk prof ((on []).serving hd (.headProfile 3 prof)).recPhEnergyMax = true ∧ (on []).inUse 3 = false) ∧
    (Ready hd (.headProfile 0 prof) (running run0 []) ∧ (running run0 []).inUse 0 = true) ∧
    (Ready hd (.headProfile 0 (List.replicate 64 0)) (on []) ∧
      profileOk (List.replicate 64 0) ((on []).serving hd (.headProfile 0 (List.replicate 64 0))).recPhEnergyMax = false) ∧
    (Ready hd (.headMap 0 (List.range 48)) (on []) ∧ (List.range 48).Nodup ∧ ((on []).plane 1).map = [] ∧
      ((on []).plane 2).map = [] ∧ ((on []).plane 3).map = []) ∧ Ready hd (.headMap 0 [47]) (running run0 []) ∧
    (Ready hd (.headMap 1 [0]) (mapped0 []) ∧ (mapped0 []).inUse 1 = false ∧ 0 ∈ ((mapped0 []).plane 0).map) ∧
    Ready hd (.headMap 1 [5, 5]) (on []) ∧ Ready hd (.portEnable (2 ^ 48 - 1) 1) (on []) ∧
    Ready hd (.portClear (2 ^ 48 - 1)) (on []) ∧ Ready hd (.headRead 47) (on []) := by
  simp only [ready_iff]; and_intros <;> decide

theorem witness_PreheatTargetSetsEveryPort :
    (Ready hd (.preheatTarget 0 0) (mapped0 []) ∧ (mapped0 []).standby = false ∧ 0 ≤ (mapped0 []).recPhTargetMax) ∧
    Ready hd (.preheatTarget 0 (-1)) (mapped0 []) ∧
    (Ready hd (.preheatTarget 0 32767) (mapped0 []) ∧ (mapped0 []).recPhTargetMax < 32767) := by
  simp only [ready_iff]; and_intros <;> decide

/-! ### Hypotheses met: camera, loop and axis commands -/

/-- A camera record of one pixel a line, without rings but for one raw slot at `raw` (none where it is 0). -/
def camRec (enable raw : Nat) : List Byte :=
  [1, 0, 0x2A, 0] ++ leBytes 2 2 ++ leBytes 2 2 ++ leBytes 2 0 ++ leBytes 2 2 ++ [0] ++ leBytes 1 enable ++ leBytes 2 1 ++
    List.replicate 20 0 ++ leBytes 1 (min raw 1) ++ [0, 0, 0] ++ leBytes 8 raw ++ leBytes 8 0 ++ List.replicate 40 0

theorem witness_CameraCommandsComplete :
    (Ready hd (.camConfig 3 (camRec 1 0)) (on []) ∧ (camRec 1 0).length = 96 ∧ cEnable (camRec 1 0) ≠ 0 ∧
      camRecordOk (camRec 1 0) = true ∧ touchesProt (cRawAddr (camRec 1 0)) (cRawSlots (camRec 1 0) * cRawSlot (camRec 1 0)) = false ∧
      touchesProt (cOutAddr (camRec 1 0)) (cOutSlots (camRec 1 0) * cOutSlot (camRec 1 0)) = false ∧
      ¬((on []).get Reg.ISP_INLINE_PORT = 3 ∧ (on []).camReceiving 3 = true)) ∧
    (Ready hd (.camConfig 0 (camRec 2 0)) (on []) ∧ camRecordOk (camRec 2 0) = false) ∧
    (Ready hd (.camConfig 0 (camRec 1 protBase)) (on []) ∧ camRecordOk (camRec 1 protBase) = true ∧
      touchesProt (cRawAddr (camRec 1 protBase)) (cRawSlots (camRec 1 protBase) * cRawSlot (camRec 1 protBase)) = true) ∧
    (let s := on [(Reg.ISP_INLINE_PORT, 0), (Reg.CAMRX_PORT_REC_WORD 0 3, 0x100)]
     Ready hd (.camConfig 0 (camRec 1 0)) s ∧ s.get Reg.ISP_INLINE_PORT = 0 ∧ s.camReceiving 0 = true) ∧
    (Ready hd (.camConfig 0 (List.replicate 96 0)) (on []) ∧ cEnable (List.replicate 96 0) = 0) ∧
    (Ready hd (.camInline 0) (on [(Reg.ISP_INLINE_PORT, 0)]) ∧
      (on [(Reg.ISP_INLINE_PORT, 0)]).get Reg.ISP_INLINE_PORT = 0) ∧
    (Ready hd (.camInline 0xFF) (on []) ∧ 0xFF ≠ (on []).get Reg.ISP_INLINE_PORT) ∧
    (Ready hd (.roiSet 255 (List.replicate 16 0)) (on []) ∧
      ∀ r ∈ roisIn (List.replicate 16 0), roiOk r = true) ∧
    (Ready hd (.roiSet 0 (List.replicate 16 2)) (on []) ∧ ∃ r ∈ roisIn (List.replicate 16 2), roiOk r = false) ∧
    Ready hd (.statsRead 255 1) (on []) := by
  simp only [ready_iff]; and_intros <;> decide

/-- An ALIGN_RESTORE record for two heads without overlap. -/
def alignRec : List Byte :=
  [1, 2, 0, 0, 1, 0, 0, 0] ++ leBytes 4 7 ++ leBytes 4 0 ++
    (leBytes 2 32767 ++ leBytes 2 255 ++ leBytes 4 0) ++ (leInt 2 (-32767) ++ leInt 2 (-255) ++ leBytes 4 0)

/-- `on fs` with two heads in the map of plane 0, which has no profile. -/
def twoHeads (fs : List (Fld × Nat)) : State := (on fs).modPlane 0 (fun x => { x with map := [0, 1] })

theorem witness_LoopCommandsComplete :
    (let s := on [(Reg.MEASURE_WORK_HI_VALID, 1)]
     Ready hd (.loopCtrl 0 1 (loopTop 0)) s ∧ loopTop 0 ≤ loopTop 0 ∧ s.flag Reg.MEASURE_WORK_HI_VALID = true) ∧
    (Placed hd .nop (on []) ∧ loopTop 2 < loopTop 2 + 1) ∧
    (Ready hd (.loopCtrl 1 1 0) (on []) ∧ ¬(on []).flag Reg.MEASURE_WORK_HI_VALID = true) ∧
    Ready hd (.alignRead 3) (on []) ∧
    (Ready hd (.alignRestore 0 []) (on []) ∧ (on []).alignOk 0 [] = false) ∧
    (let s := twoHeads [(loopMode 2, 1)]
     Ready hd (.alignRestore 0 alignRec) s ∧ s.alignOk 0 alignRec = true ∧ s.loopRuns 2 = true) ∧
    (let s := twoHeads [(Reg.HTONE_PL_TABLES_PENDING 0, 8)]
     Ready hd (.alignRestore 0 alignRec) s ∧ s.alignOk 0 alignRec = true ∧ s.loopRuns 2 = false ∧ s.tableBusy 0 3 = true) ∧
    (let s := twoHeads []
     Ready hd (.alignRestore 0 alignRec) s ∧ s.alignOk 0 alignRec = true ∧ s.loopRuns 2 = false ∧
      s.tableBusy 0 3 = false ∧ 0 < s.line.planes.length ∧ 0 < s.loops.planes.length ∧ s.mapped 0 = false ∧
      s.flag (Reg.MEASURE_PL_CTRL_LAT_EN 0) = false ∧ s.heads' 0 ≤ (s.plane 0).along.length ∧
      s.heads' 0 ≤ (s.loop 0).cross.length ∧ s.heads' 0 = 2) := by
  simp only [ready_iff, placed_iff]; and_intros <;> decide

/-- `on fs` with axis 0 energised and referenced, its record that of reset. -/
def axis0 (fs : List (Fld × Nat)) : State := on ([(Reg.MOTION_AX_STATUS_ENERGISED 0, 1), (Reg.MOTION_AX_STATUS_LOST 0, 0)] ++ fs)

/-- The axis record of reset. -/
def axisRec : List Byte := Axis.init.record

/-- A table segment that rests for one update. -/
def seg : List Byte := [1, 0, 0, 0] ++ List.replicate 12 0

theorem witness_AxisCommandsComplete :
    (Ready hd (.axisConfig 0 axisRec) (on [(Reg.MOTION_AX_STATUS_MOVING 0, 1)]) ∧
      (on [(Reg.MOTION_AX_STATUS_MOVING 0, 1)]).moving 0 = true) ∧
    (Ready hd (.axisConfig 3 []) (on []) ∧ (on []).moving 3 = false ∧ axisRecordOk [] = false) ∧
    (Ready hd (.axisConfig 3 axisRec) (on []) ∧ axisRecordOk axisRec = true) ∧
    (let s := axis0 []
     let u := s.serving hd (.axisMove 0 5 256000 10240000 1)
     let r := u.axisRecord 0
     Ready hd (.axisMove 0 5 256000 10240000 1) s ∧ 256000 ≤ aVmaxAbs r ∧ 10240000 ≤ aDmax r ∧ 1 ≤ aDmax r ∧
      s.energised 0 = true ∧ s.flag (Reg.MOTION_AX_STATUS_LOST 0) = false ∧ u.barred 0 (5 - s.axisPos 0) = false ∧
      u.trigUnarmed 0 true = false) ∧
    (Ready hd (.axisMove 3 0 0 1 1) (on []) ∧ ¬(1 ≤ 0)) ∧
    (Ready hd (.axisMove 3 0 1 1 1) (on []) ∧ (on []).energised 3 = false ∧
      1 ≤ aVmaxAbs (((on []).serving hd (.axisMove 3 0 1 1 1)).axisRecord 3) ∧
      1 ≤ aDmax (((on []).serving hd (.axisMove 3 0 1 1 1)).axisRecord 3)) ∧
    (Ready hd (.axisTable 0 0 0 seg) (on [(Reg.MOTION_AX_TABLE_SHADOW 0, 2)]) ∧
      (on [(Reg.MOTION_AX_TABLE_SHADOW 0, 2)]).get (Reg.MOTION_AX_TABLE_SHADOW 0) = 2) ∧
    (Ready hd (.axisTable 0 0 0 seg) (axis0 []) ∧ (axis0 []).get (Reg.MOTION_AX_TABLE_SHADOW 0) ≠ 2 ∧
      (axis0 []).energised 0 = true ∧ (axis0 []).flag (Reg.MOTION_AX_STATUS_LOST 0) = false ∧ (0 : Nat) ≠ 1) ∧
    (Ready hd (.axisTable 3 255 0 seg) (on []) ∧ (on []).energised 3 = false) ∧
    (Ready hd (.axisTable 0 0 1 (List.replicate 16 0)) (axis0 []) ∧
      (((axis0 []).serving hd (.axisTable 0 0 1 (List.replicate 16 0))).putTabs false
        (segBase 0 (!(axis0 []).activeB 0) + 16 * 0) (List.replicate 16 0)).shadowOk 0 0 = false) ∧
    Ready hd (.axisStop 3 2) (on []) ∧ Ready hd (.axisRead 3) (on []) ∧
    (Ready hd (.axisSetPos 3 (-2 ^ 63)) (on []) ∧ (on []).moving 3 = false) ∧
    Ready hd (.axisSetPos 0 0) (on [(Reg.MOTION_AX_STATUS_MOVING 0, 1)]) ∧ Ready hd (.switchConfig 7 1 0) (on []) := by
  simp only [ready_iff]; and_intros <;> decide

/-! ### Hypotheses met: temperature, link, pair, OTP, power, memory, DMA and compression commands -/

theorem witness_ThermalAndLinkCommandsComplete :
    Ready hd .thermRead (on []) ∧ Ready hd (.hkRead 63 1) (on []) ∧ Ready hd (.calRun 15) (running run0 []) ∧
    (let s := { on [] with therm := { (on []).therm with runs := [⟨9, .spi, 8, false⟩] } }
     Ready hd (.calRun 8) s ∧ bit 8 0 = false ∧ bit 8 3 = true ∧ s.runMeasures 3 = true) ∧
    (Ready hd (.calRun 8) (on []) ∧ ∀ k, k < 4 → (on []).runMeasures k = false) ∧ Ready hd (.calRun 0) (on []) ∧
    Ready hd (.calDt 500) (on []) ∧ Ready hd (.linkConfig 3 4 3 15 48 0) (on []) ∧ Ready hd (.linkRestart 3) (on []) ∧
    Ready hd (.linkStatus 3) (on []) ∧ Ready hd .hierRead (on []) := by
  simp only [ready_iff]; and_intros <;> decide

/-- `on fs`, standby of a pair. -/
def standby (fs : List (Fld × Nat)) : State := on ([(Reg.PAIR_CTRL_ENABLE, 1), (Reg.PAIR_STATUS_ROLE, 2)] ++ fs)

/-- `on fs`, active of a pair. -/
def activeOf (fs : List (Fld × Nat)) : State := on ([(Reg.PAIR_CTRL_ENABLE, 1), (Reg.PAIR_STATUS_ROLE, 1)] ++ fs)

theorem witness_PairCommandsComplete :
    (Ready hd (.pairConfig 1 3) (running run0 []) ∧ (running run0 []).job.running ≠ none) ∧
    (Ready hd (.pairConfig 1 3) (on []) ∧ (on []).job.running = none ∧ (on []).flag Reg.PAIR_CTRL_ENABLE = false) ∧
    Ready hd (.pairConfig 0 3) (on []) ∧
    (Ready hd (.pairConfig 0 0) (activeOf []) ∧ (activeOf []).flag Reg.PAIR_CTRL_ENABLE = true) ∧
    Ready hd .pairStatus (on []) ∧
    (Ready hd .pairRejoin (standby []) ∧ (standby []).standby = true ∧ (standby []).get Reg.PAIR_STATUS_STATE = 0) ∧
    (Ready hd .pairRejoin (on []) ∧ (on []).standby = false) := by
  simp only [ready_iff]; and_intros <;> decide

theorem witness_PairHandoverHandsOver :
    (Ready hd .pairHandover (standby []) ∧ (standby []).standby = true) ∧
    (Ready hd .pairHandover (on []) ∧ (on []).standby = false ∧ (on []).get Reg.PAIR_STATUS_PARTNER ≠ 2) ∧
    (let s := activeOf [(Reg.PAIR_STATUS_PARTNER, 2)]
     Ready hd .pairHandover s ∧ s.get Reg.PAIR_STATUS_ROLE = 1 ∧ s.get Reg.PAIR_STATUS_PARTNER = 2) := by
  simp only [ready_iff]; and_intros <;> decide

/-- `on []` with the OTP state that `f` makes. -/
def otp (f : OtpSt → OtpSt) : State := { on [] with otp := f (on []).otp }

theorem witness_OtpCommandsComplete :
    Ready hd .otpRead (on []) ∧
    (Ready hd (.otpBurn (List.replicate 64 0)) (on []) ∧ recordValid (List.replicate 64 0) = false) ∧
    (Ready hd (.otpBurn blankRecord) (otp (fun o => { o with locks := 1 })) ∧ recordValid blankRecord = true ∧
      bit (otp (fun o => { o with locks := 1 })).otp.locks 0 = true) ∧
    (Ready hd (.otpBurn blankRecord) (otp (fun o => { o with gens := List.replicate 4 (List.replicate 64 1) })) ∧
      ∀ g, g < 4 → isBlank (List.replicate 64 (1 : Byte)) ≠ true) ∧
    (Ready hd (.otpBurn blankRecord) (on []) ∧ bit (on []).otp.locks 0 = false ∧
      (on []).get Reg.THERM_STATUS_LEVEL < 2 ∧ 0 ≤ (on []).getS Reg.THERM_STATUS_TJ ∧
      isBlank ((on []).otp.gens.getD 0 []) = true) ∧
    (Ready hd (.keyBurn 1 (List.replicate 32 0)) (on []) ∧ isBlank (List.replicate 32 (0 : Byte)) = true) ∧
    (Ready hd (.keyBurn 0 (List.replicate 32 1)) (otp (fun o => { o with locks := 2 })) ∧
      isBlank (List.replicate 32 (1 : Byte)) = false ∧ bit (otp (fun o => { o with locks := 2 })).otp.locks 1 = true) ∧
    (Ready hd (.keyBurn 0 (List.replicate 32 1)) (otp (fun o => { o with keys := List.replicate 2 (List.replicate 32 1) })) ∧
      isBlank ((otp (fun o => { o with keys := List.replicate 2 (List.replicate 32 1) })).otp.keys.getD 0 []) = false) ∧
    (Ready hd (.keyBurn 1 (List.replicate 32 1)) (on []) ∧ isBlank ((on []).otp.keys.getD 1 []) = true) ∧
    Ready hd (.patchLoad 262143 [7]) (on []) ∧
    (Ready hd (.patchActivate 128 (List.replicate 64 0)) (otp (fun o => { o with locks := 4 })) ∧
      bit (otp (fun o => { o with locks := 4 })).otp.locks 2 = true) ∧
    (Ready hd (.patchActivate 128 (List.replicate 64 0)) (on []) ∧ bit (on []).otp.locks 2 = false ∧
      (on []).job.running = none ∧ (on []).otp.imageOk 128 = false) := by
  simp only [ready_iff]; and_intros <;> decide

theorem witness_PowerAndMemoryCommandsComplete :
    Ready hd (.ladderSet 1 0) (on []) ∧ (Ready hd (.ladderSet 2 3) (on []) ∧ ((on []).port 3).isUp = false) ∧
    (Ready hd (.ladderSet 4 4) (activeOf []) ∧ (activeOf []).working = true) ∧
    (Ready hd (.ladderSet 2 4) (on []) ∧ (on []).working = false) ∧ Ready hd .ladderStatus (on []) ∧
    Ready hd (.vcoreFloor 850) (on []) ∧ (Ready hd (.memFill 0 64 0) (standby []) ∧ (standby []).standby = true) ∧
    (Ready hd (.memFill protBase 64 0) (on []) ∧ touchesProt protBase 64 = true) ∧
    (Ready hd (.memFill 0 64 0xFFFFFFFF) (on []) ∧ touchesProt 0 64 = false) ∧ (Ready hd (.memMode 1) (on [(Reg.MEMCTL_MODE_INIT, 0)]) ∧
      (on [(Reg.MEMCTL_MODE_INIT, 0)]).flag Reg.MEMCTL_MODE_INIT = false) ∧
    (Ready hd (.memMode 1) (on []) ∧ (on []).flag Reg.MEMCTL_MODE_INIT = true) ∧ Ready hd (.memMode 0) (on []) ∧
    Ready hd (.memMode 0) (running run0 []) := by
  simp only [ready_iff]; and_intros <;> decide

/-- A descriptor of a transfer of 128 bytes from 0 to 4096. -/
def desc : List Byte := leBytes 8 0 ++ leBytes 8 4096 ++ leBytes 8 128 ++ leBytes 4 (2 ^ 8) ++ leBytes 4 0

/-- `s` with channel `n` running the descriptor `d`, and bursts `fl` in flight. -/
def dmaOn (s : State) (n : Nat) (d : List Nat) (fl : List DmaBurst) : State :=
  (s.dmaActivate n d).modDma n (fun c => { c with flight := fl, next := 64 * fl.length })

theorem witness_DmaAndPackCommandsComplete :
    (Ready hd (.dmaStart 31 0 (List.replicate 32 0)) (on []) ∧
      ((on []).serving hd (.dmaStart 31 0 (List.replicate 32 0))).dmaCheck 31 0 (wordsOf (List.replicate 32 0)) ≠ stOk) ∧
    (Ready hd (.dmaStart 31 0 desc) (on []) ∧
      ((on []).serving hd (.dmaStart 31 0 desc)).dmaCheck 31 0 (wordsOf desc) = stOk ∧ (on []).dmaRunning 31 = false) ∧
    (let s := dmaOn (on []) 0 (wordsOf desc) []
     Ready hd (.dmaStart 0 1 desc) s ∧ (s.serving hd (.dmaStart 0 1 desc)).dmaCheck 0 1 (wordsOf desc) = stOk ∧
      s.dmaRunning 0 = true) ∧
    (Ready hd (.packStart 7 9 0 0 1 512) (on []) ∧ (on []).packRanges 0 1 0 512 ≠ stOk) ∧
    (Ready hd (.packStart 0 1 0 4096 1 512) (on [(Reg.PACK_SLOT_STATE 0, 1)]) ∧
      (on [(Reg.PACK_SLOT_STATE 0, 1)]).packRanges 0 1 4096 512 = stOk ∧
      (on [(Reg.PACK_SLOT_STATE 0, 1)]).get (Reg.PACK_SLOT_STATE 0) ≠ 0) ∧
    (Ready hd (.packStart 7 9 0 4096 4096 512) (on []) ∧ (on []).packRanges 0 4096 4096 512 = stOk ∧
      (on []).get (Reg.PACK_SLOT_STATE 7) = 0) ∧
    Ready hd (.unpackStart 7 0 0 0 1 512) (on []) ∧ Ready hd (.unpackStart 0 0 0 4096 1 512) (on [(Reg.PACK_SLOT_STATE 0, 2)]) ∧
    Ready hd (.unpackStart 7 9 0 4096 4096 512) (on []) ∧
    (let j : PackJob := ⟨1, false, 1, 0, 4096, 4096, 512, 0, 0, 0, 0, 0, 4096, 0, 0, []⟩
     let s := (on [(Reg.PACK_SLOT_STATE 7, 2)]).putPack 7 (some j)
     Ready hd (.packResume 7 8192 512) s ∧ s.packSlot 7 = some j ∧ s.packRanges 0 4096 8192 512 = stOk ∧
      s.get (Reg.PACK_SLOT_STATE 7) = 2 ∧ ((on [(Reg.PACK_SLOT_STATE 7, 1)]).putPack 7 (some j)).packSlot 7 = some j) ∧
    Ready hd (.packSlot 7 1) (on [(Reg.PACK_SLOT_STATE 7, 1)]) ∧ Ready hd (.packSlot 7 1) (on [(Reg.PACK_SLOT_STATE 7, 2)]) ∧
    Ready hd (.packSlot 7 0) (on []) := by
  simp only [ready_iff]; and_intros <;> decide

theorem witness_DmaAbortStopsTheChannel :
    (Ready hd (.dmaAbort 31) (on []) ∧ 31 < (on []).dma.length ∧ (on []).dmaRunning 31 = false) ∧
    (let s := dmaOn (on []) 31 (wordsOf desc) []
     Ready hd (.dmaAbort 31) s ∧ s.dmaRunning 31 = true ∧ (s.dmaCh 31).flight = []) ∧
    (let s := dmaOn (on []) 0 (wordsOf desc) [⟨0, 64, [], [], 64⟩]
     Ready hd (.dmaAbort 0) s ∧ s.dmaRunning 0 = true ∧ (s.dmaCh 0).flight = [⟨0, 64, [], [], 64⟩] ∧
      (∀ w ∈ s.mem.writes, w.rmw = false) ∧ (∀ m, m < 32 → m ≠ 0 → (s.dmaCh m).flight = []) ∧
      bit (dCtrl (s.dmaActive 0)) 0 = false ∧ hdrFlag hd flagQuiet = false) := by
  simp only [ready_iff]; and_intros <;> decide

/-! ### Hypotheses met: register-write rows, frames, encoder and clock events -/

theorem witness_RegisterWriteRowsComplete :
    Live (on []) ∧ (0x1CFFFC < 0x1D0000 ∧ 0x8 % 4 = 0 ∧ rangeOk (regBase + 0x8) 1 = true) ∧
    ((on []).standby = false ∧ (on []).prints 3 = false ∧ (on []).armed 3 = false ∧
      cplOk ((on []).get (Reg.LINEGEN_PL_CPL_LO 3) + 2 ^ 32 * low 32 1) = true ∧
      cplOk ((on []).get (Reg.LINEGEN_PL_CPL_LO 3) + 2 ^ 32 * low 32 (2 ^ 32 - 1)) = false) ∧
    (let s := (axis0 []).putTabs false (segBase 0 (!(axis0 []).activeB 0)) seg
     Live s ∧ s.get (Reg.MOTION_AX_TABLE_COMMIT_LAST_INDEX 0) = 0 ∧ s.get (Reg.MOTION_AX_TABLE_SHADOW 0) ≠ 2 ∧
      (s.elapse 5).shadowOk 0 0 = true ∧ s.energised 0 = true ∧ s.flag (Reg.MOTION_AX_STATUS_LOST 0) = false ∧
      (s.elapse 5).trigUnarmed 0 false = false ∧ 0 < s.motion.axes.length) := by
  and_intros <;> decide

theorem witness_MemoryAndLinkWriteRowsComplete :
    (let s := on [(Reg.MEMCTL_INVAL_FIRST_REGION, protRegion - 1), (Reg.MEMCTL_INVAL_CTRL_COUNT, 1), (Reg.MEMCTL_MODE_INIT, 0)]
     Live s ∧ 1 ≤ s.get Reg.MEMCTL_INVAL_CTRL_COUNT ∧ s.get Reg.MEMCTL_INVAL_CTRL_COUNT < 2 ^ 18 ∧
      s.get Reg.MEMCTL_INVAL_FIRST_REGION + s.get Reg.MEMCTL_INVAL_CTRL_COUNT = protRegion ∧
      s.flag Reg.MEMCTL_MODE_INIT = false ∧ (∀ n, n < 32 → (s.dmaCh n).flight = []) ∧
      ∀ w ∈ s.mem.writes, w.rmw = false) ∧
    (let s := on [(Reg.MEMCTL_RECOVER_FIRST_REGION, protRegion - 1), (Reg.MEMCTL_RECOVER_COUNT_REGIONS, 1)]
     Live s ∧ s.get Reg.MEMCTL_RECOVER_FIRST_REGION < 2 ^ 18 ∧ 1 ≤ s.get Reg.MEMCTL_RECOVER_COUNT_REGIONS ∧
      s.get Reg.MEMCTL_RECOVER_FIRST_REGION + s.get Reg.MEMCTL_RECOVER_COUNT_REGIONS = protRegion ∧
      s.flag Reg.MEMCTL_RECOVER_FIRST_ACTIVE = false) ∧
    (on [(Reg.MEMCTL_RECOVER_FIRST_ACTIVE, 1)]).flag Reg.MEMCTL_RECOVER_FIRST_ACTIVE = true ∧
    (((on []).port 3).isUp = false ∧ 3 < (on []).ports.length ∧ (on []).get (Reg.ZPHY_PORT_CONFIG_WIDTH 3) < 3) := by
  and_intros <;> decide

/-- `on []` with a reply waiting for the SPI. -/
def replyWaits : State :=
  { on [] with host := { (on []).host with out := [.reply .spi ⟨0, 1, 0, 1, 0, 0, []⟩] } }

theorem witness_SpiReadFrameKeepsTheItem : Live replyWaits ∧
    (∃ b, replyWaits.spiNext = some b ∧ 0 < b.length ∧ b.length ≤ 4096) ∧ Live (on []) ∧ (on []).spiNext = none ∧
    (0x00 : Byte) ≠ 0x5A ∧ (0x00 : Byte) ≠ 0xA5 ∧ (0x00 : Byte) ≠ 0xC3 :=
  ⟨by decide, ⟨_, rfl, by decide, by decide⟩, by decide, by decide, by decide, by decide, by decide⟩

theorem witness_SpiWriteAndStatusFrames : Live (on []) ∧ packetOk (cmdBytes 0 hd false []) = true ∧ packetOk [] = false ∧
    (let w : RWin := ⟨0x0001, 0, 5, 0, []⟩
     let s := { on [] with host := { (on []).host with windows := [w] } }
     Running s ∧ s.window? 0x0001 0 = some w ∧ w.endAt ≤ (s.elapse 5).now) ∧
    (let w : RWin := ⟨0x0001, 0, 5, 1, [0]⟩
     let s := { on [] with host := { (on []).host with windows := [w] } }
     Running s ∧ s.window? 0x0001 0 = some w ∧ w.endAt ≤ (s.elapse 5).now ∧ w.held ≠ 0) := by
  and_intros <;> decide

theorem witness_EncoderEventsComplete :
    (([5, 2] : List (Fin 8)) ≠ [] ∧ ([5, 2] : List (Fin 8)).length = [1, 64].length ∧ ∀ n ∈ [1, 64], 1 ≤ n) ∧
    (let s := enc0 [(Reg.ENC_CONFIG_Z_EN 0, 1)]
     let takes := fun (lvl : Nat) n c => bit lvl c ≠ s.encLevel 0 c ∧ filterN (s.get (Reg.ENC_CONFIG_FILTER 0)) ≤
       if bit lvl c = bit (s.enc 0).raw c then (s.enc 0).held.getD c 0 + n else n
     Running s ∧ s.get Reg.LADDER_STATE < 3 ∧ s.encs.length = 4 ∧ (takes 1 1000 0 ∧ ¬takes 1 1000 1) ∧
      (takes 2 1000 1 ∧ ¬takes 2 1000 0) ∧ (takes 3 1000 0 ∧ takes 3 1000 1) ∧ (¬takes 0 1000 0 ∧ ¬takes 0 1000 1) ∧
      (takes 4 1000 2 ∧ ¬takes 4 1000 0 ∧ ¬takes 4 1000 1) ∧ bit 4 2 ≠ s.flag (Reg.ENC_CONFIG_Z_POL 0) ∧
      s.flag (Reg.ENC_CONFIG_Z_EN 0) = true ∧ s.encValid 0 = true ∧ s.flag (Reg.ENC_STATUS_Z_FAULT 0) = false ∧
      s.flag (Reg.ENC_STATUS_INDEX_VALID 0) = false) ∧
    (let s := on [(Reg.ENC_STATUS_STANDSTILL 3, 0), (Reg.ENC_STANDSTILL_STANDSTILL_MS 3, 0)]
     Running s ∧ s.flag (Reg.ENC_STATUS_STANDSTILL 3) = false ∧
      (s.enc 3).lastEdge + max 1 (s.get (Reg.ENC_STANDSTILL_STANDSTILL_MS 3)) * 800000 ≤ (s.elapse 800000).now) ∧
    ((on []).enc 3).settle = 0 ∧
    (let s := (on []).modCmp 7 (fun c => { c with pulseEnd := some 5 })
     (s.cmp 7).pulseEnd = some 5 ∧ 5 ≤ (s.elapse 5).now) ∧
    (let s := on [(Reg.ENC_SSI_TIMING_PERIOD_US 1, 1)]
     s.awake = true ∧ s.ssiPeriod 1 ≠ 0 ∧ (s.ssi 1).nextAt ≤ (s.elapse 0).now) ∧
    (let s := (on [(Reg.ENC_SSI_CONFIG_BITS 1, 40)]).modSsi 1 (fun x => { x with due := some 0 })
     s.awake = true ∧ (s.ssi 1).due = some 0 ∧ (s.ssi 1).readyAt ≤ 0 ∧ 0 ≤ (s.elapse 5).now ∧
      (List.replicate 40 true).length = s.ssiBits 1 + (if s.ssiParity 1 = 0 then 0 else 1) ∧
      max 0 (s.ssi 1).readyAt + s.ssiMono 1 ≤ (s.elapse 80000).now) := by
  and_intros <;> decide

theorem witness_ClockEventsComplete :
    (Running (on []) ∧ (on []).get Reg.PAIR_STATUS_ROLE ≠ 1 ∧ (on []).job.running = none) ∧
    (Running (running run0 []) ∧ (running run0 []).get Reg.PAIR_STATUS_ROLE ≠ 1 ∧ (running run0 []).job.running ≠ none) ∧
    ((on []).ports.length = 4 ∧
      ∀ p, p < 4 → (on []).flag (Reg.ZPHY_PORT_CONFIG_ENABLE p) = true → ((on []).port p).isUp = false) ∧
    Live (on []) ∧ ((on []).get Reg.LADDER_STATE < 3 ∧ (on []).job.queued = none) := by
  and_intros <;> decide

/-! ### Hypotheses met: print path and head ports -/

/-- `run0` with `n` lines issued on plane 0 and the web far ahead. -/
def runN (n : Nat) : JobRun := { run0 with planes := ⟨2 ^ 200, n, false, false, 0, 0, 0⟩ :: List.replicate 3 ⟨0, 0, false, false, 0, 0, 0⟩ }

/-- Line 0 of `run0` on plane 0, at one head as `x` says. -/
def ln (x : HeadLine) (under : Bool) : Line :=
  ⟨0, 0, 0, 0, false, 0, List.replicate 48 0, 2 ^ 32, under, false, false, none, [List.replicate 64 0], [x], false⟩

/-- Plane 0 prints: its line 0 is `ln x under`, its port 0 is `q`. -/
def printing (x : HeadLine) (under : Bool) (q : HeadPort) (fs : List (Fld × Nat)) : State :=
  let s := (jobs (mapped0 fs) (fun j => { j with running := some (runN 1) })).modPlane 0 (fun p => { p with lines := [ln x under] })
  s.modHead 0 (fun _ => q)

/-- Port 0 whose row A holds line 0 since instant 0. -/
def holds : HeadPort := { HeadPort.init with rowA := ⟨some (0, 0), some 0, 0, none, none, (0, 0)⟩ }

theorem witness_LinePipelineEventsComplete :
    (let s := jobs (mapped0 []) (fun j => { j with running := some (runN 0) })
     Live s ∧ (s.elapse 5).mayIssue 0 = some (runN 0) ∧ ((runN 0).binding 0).isSome = true ∧
      s.get Reg.PAIR_STATUS_ROLE ≠ 1 ∧ (s.plane 0).refTick ≠ some (s.elapse 5).now ∧ s.line.planes.length = 4 ∧
      (runN 0).planes.length = 4) ∧
    (let s := printing ⟨false, none, .waiting, false⟩ false .init []
     Live s ∧ s.headOf 0 = some (0, 0) ∧
      (s.plane 0).lines.find? (fun l => !(l.head 0).ready) = some (ln ⟨false, none, .waiting, false⟩ false) ∧
      s.fifoBytes 0 0 + pLineBytes (s.profile 0) ≤ 32768) ∧
    (let l := ln ⟨false, some 5, .missed, true⟩ false
     let s := printing ⟨false, some 5, .missed, true⟩ false .init []
     s.headOf 0 = some (0, 0) ∧ (s.plane 0).lines.find? (fun l => !(l.head 0).ready) = some l ∧ (l.head 0).slot = true) ∧
    (let l := { ln ⟨false, none, .waiting, false⟩ false with k := 16 }
     let s := (printing ⟨true, none, .waiting, false⟩ false .init []).modPlane 0 (fun x => { x with
       profile := some ([1, 2, 1, 0] ++ leBytes 2 8192 ++ prof.drop 6),
       lines := (List.range 16).map (fun k => { ln ⟨true, none, .waiting, false⟩ false with k := k }) ++ [l] })
     s.headOf 0 = some (0, 0) ∧ (s.plane 0).lines.find? (fun l => !(l.head 0).ready) = some l ∧ (l.head 0).slot = false ∧
      32768 < s.fifoBytes 0 0 + pLineBytes (s.profile 0)) ∧
    (let s := printing ⟨true, some 5, .waiting, false⟩ false .init []
     s.nextShift 0 0 = some (ln ⟨true, some 5, .waiting, false⟩ false) ∧ s.portUp 0 = true ∧ (s.head 0).shift = none ∧
      (s.head 0).shiftFrom ≤ (s.elapse 5).now ∧ s.shiftDue 0 0 (ln ⟨true, some 5, .waiting, false⟩ false) = true) ∧
    (let s := printing ⟨false, some 5, .waiting, false⟩ false .init []
     s.nextShift 0 0 = some (ln ⟨false, some 5, .waiting, false⟩ false) ∧
      s.shiftDue 0 0 (ln ⟨false, some 5, .waiting, false⟩ false) = true) ∧
    (let s := printing ⟨true, some 5, .shifting, true⟩ false { HeadPort.init with shift := some (0, 0, 0, 0) } []
     (s.head 0).shift = some (0, 0, 0, 0) ∧ s.portUp 0 = true ∧
      0 + pTShift (s.profile 0) + pTsl (s.profile 0) ≤ (s.elapse 1000).now ∧ (s.elapse 1000).rowFree 0 0 0 0 = true) ∧
    (let s := printing ⟨true, some 5000, .latched, true⟩ false holds []
     (s.elapse 5000).nextFire 0 0 = some (ln ⟨true, some 5000, .latched, true⟩ false, 5000) ∧ s.time.fireInhibit = false ∧
      s.portUp 0 = true ∧ ((s.head 0).row 0).line = some (0, 0) ∧ ((s.head 0).row 0).fall = some 0 ∧
      0 + pTls (s.profile 0) ≤ 5000) ∧
    (let s := printing ⟨true, some 5000, .latched, true⟩ false holds []
     ({ s with time := { s.time with fireInhibit := true } }.elapse 5000).nextFire 0 0 =
      some (ln ⟨true, some 5000, .latched, true⟩ false, 5000)) ∧
    (let s := printing ⟨true, some 5000, .latched, true⟩ false holds [(Reg.HEADPORT_HP_CTRL_ENABLE 0, 0)]
     (s.elapse 5000).nextFire 0 0 = some (ln ⟨true, some 5000, .latched, true⟩ false, 5000) ∧ s.portUp 0 = false) ∧
    (let s := printing ⟨true, some 5000, .latched, true⟩ true holds []
     (s.elapse 5000).nextFire 0 0 = some (ln ⟨true, some 5000, .latched, true⟩ true, 5000) ∧
      (ln ⟨true, some 5000, .latched, true⟩ true).under = true) ∧
    (let s := printing ⟨true, some 5000, .shifting, true⟩ false holds []
     (s.elapse 5000).nextFire 0 0 = some (ln ⟨true, some 5000, .shifting, true⟩ false, 5000) ∧
      ((ln ⟨true, some 5000, .shifting, true⟩ false).head 0).phase ≠ .latched) ∧
    (let s := printing ⟨true, some 5, .fired, true⟩ false { holds with rowA := { holds.rowA with trainEnd := some 7 } } []
     ((s.head 0).row 0).trainEnd = some 7 ∧ 7 ≤ (s.elapse 7).now ∧ (s.head 0).closing = none) := by
  and_intros <;> decide

theorem witness_JobAndHeadEventsComplete :
    (let j := { runN 7 with stopAt := some 7 }
     let s := jobs (mapped0 []) (fun x => { x with running := some j })
     Live s ∧ s.job.running = some j ∧ j.takesOver = false ∧ s.jobDone j = true) ∧
    (let j := { runN 7 with takeAt := some 7 }
     let q := { run0 with seq := 1, id := 1 }
     let s := jobs (mapped0 []) (fun x => { x with running := some j, queued := some q })
     Live s ∧ s.job.queued = some q ∧ j.takesOver = true ∧ s.jobDone j = true) ∧
    (let s := mapped0 []
     Live s ∧ s.sretOn 0 = true ∧ frameOk (s.portProfile 0) [0] = false ∧ frameOk (s.portProfile 0) [0xFF, 0xFF] = true ∧
      s.flag (Reg.HEADPORT_HP_CTRL_ENABLE 0) = true ∧ (s.head 0).sretOut = false ∧
      (s.head 0).sretFrom + pSretTimeout (s.portProfile 0) * 800000 ≤ (s.elapse 800000).now ∧
      s.get Reg.PAIR_STATUS_ROLE ≠ 1) := by
  and_intros <;> decide

/-! ### Hypotheses met: events of cameras and axes -/

/-- Camera port 0 enabled, its record otherwise 0 but for `words`. -/
def cam0 (open_ : Option CamFrame) (fs : List (Fld × Nat)) : State :=
  let s := on ([(Reg.CAMRX_PORT_REC_WORD 0 3, 0x10100)] ++ fs)
  { s with cam := { s.cam with ports := ⟨open_, 0, 0, some 5⟩ :: List.replicate 3 ⟨none, 0, 0, none⟩ } }

/-- An open frame of port 0 with the record `camRec 1 0`. -/
def frame (inl : Bool) (kept : Nat) (rows outs : List (List Nat)) : CamFrame :=
  ⟨0, 5, true, camRec 1 0, inl, false, 0, 0, 0, 0, kept, 0, false, false, false, 0, false, [], rows, outs, none, 0, 0⟩

/-- `on []` with the ended frames `inl` in line and `q` in raw rings. -/
def frames (inl q : List CamFrame) : State := { on [] with cam := { (on []).cam with inl := inl, queue := q } }

theorem witness_CameraEventsComplete :
    (let s := cam0 none []
     Live s ∧ s.cam.ports.length = 4 ∧ s.camOn 0 = true ∧ cVc (s.camRecordNow 0) = 0 ∧
      cCounted (s.camRecordNow 0) = false ∧ (s.camPort 0).open_ = none ∧ (1 : Nat) ≠ cVc (s.camRecordNow 0)) ∧
    (let f := frame false 1 [] []
     let s := cam0 (some f) []
     s.camOn 0 = true ∧ cVc (s.camRecordNow 0) = 0 ∧ cCounted (s.camRecordNow 0) = false ∧ (s.camPort 0).open_ = some f ∧
      f.placed = true ∧ f.dropped = false ∧ f.inline_ = false) ∧
    (let f := frame true 1 [[0, 0]] []
     let s := cam0 (some f) []
     s.camOn 0 = true ∧ (s.camPort 0).open_ = some f ∧ f.placed = true ∧ f.inline_ = true ∧ f.dropped = false ∧
      f.port = 0 ∧ f.kept ≠ cLines f.record ∧ [0, 255].length = cInWidth f.record * cComps f.record ∧
      ¬(cCounted f.record = true ∧ f.kept + 1 = cLines f.record) ∧ cTimeout (s.camRecordNow 0) = 1 ∧
      f.lastAt + 1 * 800 ≤ (s.elapse 800).now) ∧
    (let f := frame true 1 [[0, 0]] []
     ((frames [f] []).cam.inl ++ (frames [f] []).cam.ports.filterMap (·.open_)).find? CamFrame.hasLine = some f) ∧
    (let f := frame false 2 [] []
     let s := frames [] [f]
     (s.cam.inl ++ s.cam.ports.filterMap (·.open_)).find? CamFrame.hasLine = none ∧ s.cam.queue = [f] ∧
      f.outs.length < f.kept ∧ s.critical = false) ∧
    (let f := frame true 1 [] [[0, 0]]
     (frames [f] [{ f with num := 6 }]).doneFrame 0 = some f) ∧
    ((cam0 none []).camPort 0).trigEnd = some 5 := by
  and_intros <;> decide

/-- Axis 0 energised, with the chopper of its phase A as `c`. -/
def chop0 (c : Chop) : State := (axis0 []).modAxis 0 (fun x => { x with phA := c })

theorem witness_ChopperEventsComplete :
    (let s := chop0 ⟨.drive, 5, 0, 0, none, false, 0, 0, 0⟩
     Live s ∧ s.energised 0 = true ∧ s.motion.axes.length = 4 ∧ ((s.axis 0).chop false).phase = .drive ∧
      ((s.axis 0).chop false).blank = none ∧ (1023 : Int).sign = ((s.axis 0).chop false).ts.sign ∧
      (s.elapse 5).chopHi 0 false ≤ (1023 : Int).natAbs ∧ aOcLimit (s.axis 0).record < (1023 : Int).natAbs) ∧
    (let s := chop0 ⟨.decay, 5, 0, 0, none, false, 0, 0, 0⟩
     ((s.axis 0).chop false).phase = .decay ∧ (-1 : Int).sign ≠ ((s.axis 0).chop false).ts.sign) ∧
    (let s := chop0 ⟨.decay, 5, 0, 0, some 5, false, 0, 0, 0⟩
     ((s.axis 0).chop false).blank = some 5 ∧ 5 ≤ (s.elapse 5).now) ∧
    (let s := chop0 ⟨.drive, 5, 0, 0, none, false, 0, 0, 0⟩
     ((s.axis 0).chop false).ts ≠ 0 ∧ ((s.axis 0).chop false).start + 8 * (200000 / max 1 (aFLo (s.axis 0).record)) ≤
      (s.elapse 80000).now) ∧
    (let s := (axis0 []).modAxis 0 (fun x => { x with restAt := some 0 })
     s.moving 0 = false ∧ (s.axis 0).restAt = some 0 ∧ 0 + aHoldMs (s.axis 0).record * 800000 ≤ (s.elapse 160000000).now) := by
  and_intros <;> decide

/-- `on fs` with switch 7 seen idle. -/
def sw7 (since : Option Nat) (fs : List (Fld × Nat)) : State := (on fs).modSwitch 7 (fun _ => ⟨false, since⟩)

theorem witness_AxisEventsComplete :
    (Live (on []) ∧ (on []).motion.axes.length = 4 ∧ (on []).motion.switches.length = 8 ∧ ((on []).axis 3).run = .rest ∧
      ((on []).axis 3).next = none ∧ ((on []).axis 3).stop = none ∧
      (on []).flag (Reg.MOTION_AX_STATUS_WAIT_TRIG 3) = false ∧ (on []).get (Reg.MOTION_AX_TABLE_SHADOW 3) ≠ 2) ∧
    (false = (on []).flag (Reg.MOTION_SW_CTRL_EDGE 7) ∧ ¬(true = (on []).flag (Reg.MOTION_SW_CTRL_EDGE 7)) ∧
      ((on []).motion.switches.getD 7 ⟨true, none⟩).fresh = true) ∧
    (let s := sw7 none [(Reg.MOTION_SW_STATUS_ARMED 7, 1), (Reg.MOTION_SW_STATUS_LEVEL 7, 0), (Reg.MOTION_SW_CTRL_EDGE 7, 0)]
     Live s ∧ ¬(true = s.flag (Reg.MOTION_SW_CTRL_EDGE 7)) ∧ (s.motion.switches.getD 7 ⟨true, none⟩).fresh = false ∧
      s.swActive 7 = false ∧ s.flag (Reg.MOTION_SW_STATUS_ARMED 7) = true ∧ s.job.queued = none) ∧
    (let s := sw7 (some 0) [(Reg.MOTION_SW_CTRL_STUCK_MS 7, 1)]
     (s.motion.switches.getD 7 ⟨true, none⟩).since = some 0 ∧ s.get (Reg.MOTION_SW_CTRL_STUCK_MS 7) ≠ 0 ∧
      0 + s.get (Reg.MOTION_SW_CTRL_STUCK_MS 7) * 800000 ≤ (s.elapse 800000).now) := by
  and_intros <;> decide

/-! ### Hypotheses met: events of DMA, copies, memory and training -/

/-- Region 0 valid, channel `n` as `dmaOn` says, `next` bytes asked for, and the uncorrectable blocks `ue`. -/
def dmaRam (n next : Nat) (fl : List DmaBurst) (ue : List Nat) : State :=
  let s := (dmaOn (ram [(0, 7)] [(Reg.MEMCTL_MODE_INIT, 0)]) n (wordsOf desc) fl).modDma n (fun c => { c with next := next })
  { s with mem := { s.mem with ue := ue } }

/-- Channel 0 has a committed descriptor whose shadow words are `d`, and has issued every burst. -/
def committed (d : List Nat) : State :=
  let s := (dmaRam 0 128 [] []).modDma 0 (fun c => { c with committed := true })
  (List.range 8).foldl (fun s i => s.set (Reg.DMA_CH_SHADOW 0 i) (d.getD i 0)) s

/-- A plain write of one byte on channel 7 that waits in its queue. -/
def queued7 : WReq := ⟨7, false, 0, [1], none, none, false⟩

theorem witness_DmaEventsComplete :
    (let s := dmaRam 31 0 [] []
     Live s ∧ Memory.wf s = true ∧ s.mem.filling = [] ∧ s.dma.length = 32 ∧ s.dmaMayStart 31 false = true ∧
      burstEnd (s.dmaActive 31) 0 = 64 ∧ s.badBlocks 0 64 = [] ∧ (∀ x ∈ blocksIn 4096 64, x ∉ s.mem.ue) ∧
      (∀ i, i < 64 → s.validRegion ((4096 + i) / regionBytes) = true ∧ s.initRegion ((4096 + i) / regionBytes) = false) ∧
      (∀ x ∈ (s.dmaCh 31).flight, x.todo = []) ∧
      ∀ k, k < 8 → (s.mem.writes.filter (fun w => w.ch == k)).length +
        ((piecesOf 64 4096 (List.replicate 64 0)).filter (fun p => channelOf p.1 == k)).length ≤ 64) ∧
    (let s := dmaRam 0 64 [⟨0, 64, [], [], 64⟩] []
     (s.dmaCh 0).flight = [⟨0, 64, [], [], 64⟩] ∧ s.host.waiting = none ∧
      (∀ m, m < 32 → ∀ x ∈ (s.dmaCh m).flight, x.todo = []) ∧ (∀ w ∈ s.mem.writes, w.rmw = false) ∧
      { s with host := { s.host with waiting := some ⟨hd, .dmaAbort 0, 0xFE⟩ } }.host.waiting =
        some ⟨hd, .dmaAbort 0, 0xFE⟩ ∧
      (s.dmaCh 0).flight.dropWhile (fun x => x.bad.isEmpty && s.mem.writes.all (fun w => w.chan != some (0, 0))) = []) ∧
    (let s := committed (wordsOf desc)
     s.dmaComplete? 0 = true ∧ (s.dmaCh 0).committed = true ∧
      (((s.elapse 0).modDma 0 (fun c => { c with committed := false })).dmaMarks 0 false).dmaCheck 0 1
        (s.dmaShadow 0) = stOk) ∧
    (let s := committed []
     s.dmaComplete? 0 = true ∧ (s.dmaCh 0).committed = true ∧
      (((s.elapse 0).modDma 0 (fun c => { c with committed := false })).dmaMarks 0 false).dmaCheck 0 1
        (s.dmaShadow 0) ≠ stOk) ∧
    (let s := dmaRam 0 128 [] []
     s.dmaComplete? 0 = true ∧ (s.dmaCh 0).committed = false ∧ bit (dCtrl (s.dmaActive 0)) 3 = false) ∧
    (let d := wordsOf (leBytes 8 0 ++ leBytes 8 4096 ++ leBytes 8 128 ++ leBytes 4 (2 ^ 8 + 8) ++ leBytes 4 0)
     let s := (dmaOn (ram [] []) 0 d []).modDma 0 (fun c => { c with next := 128 })
     s.dmaComplete? 0 = true ∧ (s.dmaCh 0).committed = false ∧ bit (dCtrl (s.dmaActive 0)) 3 = true) ∧
    (let s := dmaRam 0 64 [⟨0, 64, [], [0], 0⟩] [0]
     s.dmaRunning 0 = true ∧ (s.dmaCh 0).flight.find? (fun b => !b.bad.isEmpty) = some ⟨0, 64, [], [0], 0⟩ ∧
      (∀ m, m < 32 → ∀ x ∈ (s.dmaCh m).flight, x.todo = []) ∧ (∀ w ∈ s.mem.writes, w.rmw = false)) ∧
    (let s := dmaRam 0 128 [] [4160]
     s.dmaRunning 0 = true ∧ (s.dmaCh 0).flight = [] ∧ s.backBad 0 ≠ []) := by
  and_intros <;> decide

/-- The head of a protected load of one rectangle of 1 by 1. -/
def head0 : List Byte := List.replicate 8 0 ++ [1, 0, 1, 0] ++ List.replicate 1012 0

theorem witness_CopyAndPackEventsComplete :
    (let j : PackJob := ⟨1, false, 1, 0, 4096, 4096, 512, 0, 0, 0, 0, 0, 4096, 0, 0, []⟩
     let s := (ram [(0, 7)] [(Reg.PACK_SLOT_STATE 7, 1)]).putPack 7 (some j)
     Live s ∧ Memory.wf s = true ∧ s.mem.filling = [] ∧ s.mem.held = [] ∧ s.pack.slots.length = 8 ∧
      s.packSlot 7 = some j ∧ s.get (Reg.PACK_SLOT_STATE 7) = 1 ∧ s.critical = false) ∧
    (let f : MemFill := ⟨1, .spi, 64, 64, 0xFFFFFFFF, 0⟩
     let s := ram [] []
     let s := { s with mem := { s.mem with fills := [f] } }
     s.mem.fills = [f] ∧ f.addr % 64 = 0 ∧ f.len % 64 = 0 ∧ f.done % 64 = 0 ∧ f.done ≤ f.len ∧
      (∀ m, m < 32 → (s.dmaCh m).flight = []) ∧ (∀ w ∈ s.mem.writes, w.rmw = false) ∧
      ∀ i, i < f.len → s.validRegion ((f.addr + i) / regionBytes) = true) ∧
    (let c : TableCopy := ⟨0, 5, 0, 8, 0, 64, 1, .spi, List.replicate 64 0, false⟩
     let s := jobs (ram [] []) (fun j => { j with running := some run0 })
     let s := { s with tone := { s.tone with copies := [c] } }
     s.tone.copies.find? (fun c => c.plane == 0 && c.table == 5) = some c ∧ s.badBlocks c.src c.len = [] ∧
      s.prints 0 = true) ∧
    (let c : TableCopy := ⟨3, 2, 0, 8, 0, 196608, 1, .spi, [], false⟩
     c.table = 2 ∧ c.src = 0) ∧
    (let c : TableCopy := ⟨3, 0, 0, 8, 0, 8192, 1, .spi, [], false⟩
     let s := ram [] []
     let s := { s with tone := { s.tone with copies := [c] }, mem := { s.mem with ue := [64] } }
     s.tone.copies.find? (fun c => c.plane == 3 && c.table == 0) = some c ∧ s.badBlocks c.src c.len ≠ []) ∧
    (let s := (ram [] []).modPlane 3 (fun x => { x with pload := some ⟨1, .spi, 1, 0, 1280, head0⟩ })
     s.line.planes.length = 4 ∧ (s.plane 3).pload = some ⟨1, .spi, 1, 0, 1280, head0⟩ ∧ s.badBlocks (0 + 1024) (1280 - 1024) = [] ∧
      (1280 - 1024) % 64 = 0 ∧ { s with mem := { s.mem with ue := [1024] } }.badBlocks (0 + 1024) (1280 - 1024) ≠ []) ∧
    (let s := (ram [] []).modPlane 3 (fun x => { x with pass := some 0 })
     s.line.planes.length = 4 ∧ (s.plane 3).pass = some 0) ∧
    (let s := (ram [] [(Reg.COMPOSE_PL_PROT_CRC 3, crc32c (List.replicate 1024 0))]).modPlane 3 (fun x => { x with pass := some 0 })
     s.badBlocks (protArea 3) (s.get (Reg.COMPOSE_PL_PROT_LEN 3) - 1024) = [] ∧
      crc32c (s.readTab false (protIndex 3) 1024 ++ s.readMem (protArea 3) (s.get (Reg.COMPOSE_PL_PROT_LEN 3) - 1024)) =
        s.get (Reg.COMPOSE_PL_PROT_CRC 3)) := by
  and_intros <;> decide

theorem witness_MemoryEventsComplete :
    (let s := { ram [(0, 1)] [] with mem := { (ram [] []).mem with writes := [queued7] } }
     Live s ∧ Memory.wf s = true ∧ s.mem.writes.find? (fun w => w.ch == 7) = some queued7 ∧ s.mem.filling = [] ∧
      (∀ m, m < 32 → (s.dmaCh m).flight = []) ∧ (∀ w ∈ s.mem.writes, w.rmw = false) ∧
      ((s.mem.writes.erase queued7).filter (fun w => w.ch == 7)).length ≤ 16) ∧
    (let m : MemFill := ⟨1, .spi, 512, 128, 0xFFFFFFFF, 64⟩
     let s := ram [] []
     let s := { s with mem := { s.mem with fills := [m] } }
     s.mem.writes.find? (fun w => w.ch == 1) = none ∧ s.mem.fills = [m] ∧ m.done < m.len ∧ (m.addr + m.done) % 64 = 0 ∧
      channelOf (m.addr + m.done) = 1 ∧ s.validRegion ((m.addr + m.done) / regionBytes) = true) ∧
    ((ram [] []).mem.writes.find? (fun w => w.ch == 0) = none ∧ (ram [] []).mem.fills = []) ∧
    (let s := on [(Reg.MEMCTL_MODE_INIT, 0)]
     let s := { s with mem := { s.mem with filling := [0], held := [⟨5, [9]⟩] } }
     Live s ∧ Memory.wf s = true ∧ 0 ∈ s.mem.filling ∧ s.initRegion 0 = false ∧
      (∀ h ∈ s.mem.held, h.addr % 64 + h.data.length ≤ 64) ∧ 1 ∉ s.mem.filling) ∧
    (let s := { ram [] [] with mem := { (ram [] []).mem with rewrites := [64] } }
     blockOf 64 < dramEnd ∧ s.reaches (blockOf 64) = true ∧ s.get Reg.PAIR_STATUS_ROLE ≠ 1 ∧
      blockOf 64 ∈ s.mem.rewrites ∧ ((s.elapse 0).now, 5, blockOf 64) ∉ s.mem.met ∧ dramEnd ≤ blockOf dramEnd) ∧
    (let s := ram [] [(Reg.MEMCTL_SCRUB_CTRL_EN, 1), (Reg.MEMCTL_MODE_INIT, 0)]
     Live s ∧ s.flag Reg.MEMCTL_SCRUB_CTRL_EN = true ∧ s.flag Reg.MEMCTL_MODE_INIT = false ∧ s.critical = false ∧
      s.scrubFrom s.mem.scrubNext = some 0 ∧ s.scrubFrom (0 + 64) ≠ none) ∧
    (let s := (ram [] [(Reg.MEMCTL_SCRUB_CTRL_EN, 1), (Reg.MEMCTL_MODE_INIT, 0)]).modMem (fun m => { m with
       scrubNext := regionBytes - 64 })
     s.scrubFrom s.mem.scrubNext = some (regionBytes - 64) ∧ s.scrubFrom (regionBytes - 64 + 64) = none) := by
  and_intros <;> decide

/-- A training measurement within its limits. -/
def meas : TrainMeas := ⟨[4], [4], [], 110, 10, 0, []⟩

theorem witness_TrainingAndReadyComplete :
    (Live (on []) ∧ (on []).mem.chans.length = 8 ∧ (on []).untrained = true ∧
      (∀ c, c < 8 → startResult ((on []).chan c) ((List.replicate 8 [meas]).getD c []) ≠ none) ∧
      ∃ c, c < 8 ∧ startResult ((on []).chan c) (([] : List (List TrainMeas)).getD c []) = none) ∧
    (((on []).chan 7).running = false) ∧
    (let s := { on [] with mem := { (on []).mem with chans := List.replicate 8 ⟨[], 0, [1], [2], none, true⟩ } }
     (s.chan 7).running = true ∧ (s.chan 7).stepAt = none ∧ (s.chan 7).taps.length = (s.chan 7).targets.length) ∧
    (let s := { on [(Reg.MEMCTL_CH_TRAIN_VREF_DQ 0, 110)] with therm := { (on []).therm with runs := [⟨9, .spi, 1, false⟩] } }
     s.runMeasures 0 = true ∧ [meas][0]? = some meas ∧
      trainOk false (s.chan 0) (s.get (Reg.MEMCTL_CH_TRAIN_VREF_DQ 0)) meas = true) ∧
    (let s := on [(Reg.CMD_STATUS_READY, 0), (Reg.MEMCTL_MODE_TRAINED, 1)]
     Live s ∧ s.flag Reg.CMD_STATUS_READY = false ∧ s.flag Reg.MEMCTL_MODE_TRAINED = true ∧ s.power.startup = true) ∧
    ((on [(Reg.CMD_STATUS_READY, 0)]).modPower (fun x => { x with startup := false })).power.startup = false := by
  and_intros <;> decide

/-! ### Hypotheses met: lanes, flits, transactions -/

/-- `on fs` with `f` applied to port `p`. -/
def port (p : Nat) (f : Port → Port) (fs : List (Fld × Nat)) : State := (on fs).modPort p f

/-- `port p` in the phase `ph`. -/
def phase (p : Nat) (ph : PortPhase) (fs : List (Fld × Nat)) : State := port p (fun q => { q with phase := ph }) fs

theorem witness_LaneEventsComplete :
    (0x1_00D52B1C < 2 ^ 64 ∧ bits 0x1_00D52B1C 0 24 = markerSync ∧ bits 0x1_00D52B1C 32 31 = 1 ∧
      (List.replicate blockBits false).length = blockBits) ∧
    (let s := phase 0 .training []
     Running s ∧ s.lanes.length = 16 ∧ s.ports.length = 4 ∧ (s.port 3).phase = .off ∧ s.lanesOf 0 = [0] ∧
      (s.port 0).phase = .training ∧ s.flag (Reg.ZPHY_LANE_STATUS_POL_INV 0) = false ∧ 0x1_00D52B1C < 2 ^ 64 ∧
      bits 0x1_00D52B1C 0 24 ≠ markerAnti ∧ markerValid 0x1_00D52B1C = true ∧ bits 0x1_00D52B1C 24 2 = 0 % 4 ∧
      bits 0x1_00D52B1C 28 2 = s.get (Reg.ZPHY_PORT_STATUS_WIDTH_USED 0) ∧ markerValid 0 = false ∧ 544 ≤ padLimit ∧ padLimit < 545 ∧ 400 ≤ 400 ∧
      bits 0 0 24 ≠ markerAnti ∧ (s.lane 0).missed < 3 ∧
      3 ≤ ({ s with lanes := [{ s.lane 0 with missed := 3 }] }.lane 0).missed) ∧
    (let s := (phase 3 .up []).modLane 12 (fun l => { l with missed := 3 })
     3 ≤ (s.lane 12).missed ∧ (s.port (12 / 4)).phase = .up) ∧
    ((phase 3 .up []).lanesOf 3 = [12] ∧ ((phase 3 .up []).port 3).phase = .up ∧
      (phase 3 .up []).flag (Reg.ZPHY_LANE_STATUS_IDLE_RX 12) = false ∧ 15 ∉ (phase 3 .up []).lanesOf 3) ∧
    (((phase 3 .settling []).port 3).phase = .settling ∧ ((phase 3 .settling []).port 3).zeros = 0 ∧
      ((port 3 (fun q => { q with phase := .settling, zeros := 4 }) []).port 3).zeros ≠ 0) ∧
    (let s := phase 3 .idle []
     (∀ p, p < 4 → (false && decide (s.get Reg.LADDER_STATE < 2)) = false) ∧ 3 ≠ s.wakePort ∧
      (true && decide (s.get Reg.LADDER_STATE < 2)) = true) ∧
    (let s := phase 0 .idle []
     0 = s.wakePort ∧ (s.port 0).phase = .idle) ∧
    (let s := port 0 (fun q => { q with phase := .waking, woken := true }) []
     0 = s.wakePort ∧ (s.port 0).phase = .waking ∧ (s.port 0).woken = true) ∧
    (let s := phase 2 .waking []
     decide (s.get Reg.LADDER_STATE < 2) = true ∧ (s.port 2).phase = .waking ∧ (s.port 2).woken = false) ∧
    ((port 3 (fun q => { q with burstAt := some 0 }) []).port 3).burstAt = some 0 ∧
    (let s := port 2 (fun q => { q with phase := .waking, burstAt := some 0 }) []
     (s.port 2).burstAt = some 0 ∧ (s.port 2).isUp = true) ∧
    0 + 2 * msSteps ≤ ((on []).elapse 1600000).now ∧ ((phase 3 .idle []).port 3).phase = .idle ∧
    ((phase 3 .waking []).port 3).phase = .waking ∧
    (let s := port 3 (fun q => { q with idleOrder := some 0, phase := .up }) []
     (s.port 3).idleOrder = some 0 ∧ (s.port 3).phase = .up ∧ (s.port 3).replay = []) ∧
    0 + 10 * usSteps ≤ ((on []).elapse 8000).now := by
  and_intros <;> decide

/-- `s`, with one block counted on each lane. -/
def fed (s : State) : State := { s with lanes := s.lanes.map (fun l => { l with rxBlocks := 1 }) }

/-- Port 1 up, its link layer active, one block counted on its lane, with `f` applied to it. -/
def linked (f : Port → Port) (fs : List (Fld × Nat)) : State :=
  fed (port 1 (fun q => f { q with phase := .up }) ([(Reg.ZLINK_PORT_STATUS_LL_STATE 1, 2)] ++ fs))

/-- `linked` with lane 4 in the middle of a block that its next flit completes. -/
def ending : State :=
  (linked (fun q => { q with initOwed := true, txBlock := List.replicate 1976 0 }) []).modLane 4 (fun l =>
    { l with txScr := 0x1D0C5A71, txMarker := markWord 0 true false 0 0 0x1D0C5A71 })

/-- A data flit that holds a command of `n` body bytes, or its beginning. -/
def dataFlit (n : Nat) : List Byte :=
  mkFlit (flitHdr 0 1023 1 0 0) ([1, 0, 0xFE, 0] ++ leBytes 2 n ++ List.replicate 50 0)

/-- A data flit that holds a CKPT. -/
def strayFlit : List Byte := mkFlit (flitHdr 0 1023 1 0 0) ([9, 0xFE, 0xFD, 0] ++ leBytes 2 32 ++ List.replicate 50 0)

/-- An INIT payload at the least credits, from id 0, port 1. -/
def initBody : List Byte := [1, 0, 0, 1, 74, 74, 74, 0] ++ List.replicate 48 0

theorem witness_FlitEventsComplete :
    (let s := linked id []
     Running s ∧ s.ports.length = 4 ∧ s.lanes.length = 16 ∧ s.flits 1 = true ∧ s.active 1 = true ∧
      crc32c (([1] : List Byte).take 60) ≠ u32 [1] 60 ∧ (s.port 1).rxPart = [] ∧ (s.port 1).replay = [] ∧
      (1023 + 1 + 1024 - (s.port 1).acked % 1024) % 1024 = 0 ∧ (s.port 1).rxNext = 0 ∧
      ((s.port 1).cred (classOf 1)).rx + 1 - ((s.port 1).cred (classOf 1)).rxFreed ≤ ownCredits ∧
      s.flitHere 1 = true ∧ s.flitHere 2 = true ∧ (on []).flitHere 1 = false) ∧
    (let s := on []
     s.flits 1 = false ∧ (s.port 1).sends = false) ∧
    (let s := phase 1 .waking []
     s.flits 1 = false ∧ (s.port 1).sends = true ∧ (s.port 1).phase ≠ .training ∧ (s.port 1).seenTx = false ∧
      (s.port 1).txBlock.length + 64 < (s.port 1).blockLen) ∧
    (let f := dataFlit 20
     let part := (f.drop 4).take 56
     crc32c (f.take 60) = u32 f 60 ∧ bits (u32 f 0) 20 3 = 1 ∧ bits (u32 f 0) 0 10 = 0 ∧ bits (u32 f 0) 10 10 = 1023 ∧
      u16 part 4 ≤ 4112 ∧ classOf (u8 part 0) < 3 ∧ 8 + u16 part 4 ≤ part.length) ∧
    (strayOn 1 (parseTrans ((strayFlit.drop 4).take 56)) = true ∧ strayOn 1 (parseTrans (((dataFlit 20).drop 4).take 56)) = false ∧
      crc32c (strayFlit.take 60) = u32 strayFlit 60 ∧ classOf (u8 ((strayFlit.drop 4).take 56) 0) < 3 ∧
      8 + u16 ((strayFlit.drop 4).take 56) 4 ≤ ((strayFlit.drop 4).take 56).length) ∧
    (let part := ((dataFlit 4112).drop 4).take 56
     crc32c ((dataFlit 4112).take 60) = u32 (dataFlit 4112) 60 ∧ u16 part 4 ≤ 4112 ∧ part.length < 8 + u16 part 4) ∧
    (let s := linked (fun q => { q with rxNext := 1 }) []
     1 ≤ ((s.port 1).rxNext + 1024 - 0) % 1024 ∧ ((s.port 1).rxNext + 1024 - 0) % 1024 ≤ 256) ∧
    (let f := mkFlit (flitHdr 0 0 3 3 0) initBody
     crc32c (f.take 60) = u32 f 60 ∧ bits (u32 f 0) 20 3 = 3) ∧
    (let s := fed (port 1 (fun q => { q with phase := .up }) [(Reg.ZLINK_PORT_STATUS_LL_STATE 1, 1)])
     s.flits 1 = true ∧ s.flitHere 1 = true ∧ (s.port 1).upAt + msSteps ≤ (s.elapse 800000).now ∧ s.active 1 = false ∧ u8 initBody 0 = 1 ∧ (∀ i ∈ [4, 5, 6], 74 ≤ u8 initBody i ∧ u8 initBody i ≤ 127) ∧
      u8 [] 0 ≠ 1 ∧ s.get (Reg.ZLINK_PORT_STATUS_LL_STATE 1) = 1) ∧
    (let s := fed (port 0 (fun q => { q with phase := .up }) [(Reg.ZLINK_PORT_STATUS_LL_STATE 0, 1)])
     s.flits 0 = true ∧ s.flitHere 0 = true ∧ s.active 0 = false ∧ u8 s.otp.active 1 = 0xFF ∧
      u8 { s with otp := { s.otp with active := [1, 5] } }.otp.active 1 ≠ 0xFF) ∧
    (let s := linked (fun q => { q with replay := [⟨[], true⟩] }) [(Reg.ZLINK_PORT_CFG_REPLAY_LIMIT 1, 2)]
     s.active 1 = true ∧ s.flitHere 1 = true ∧ (1023 + 1 + 1024 - (s.port 1).acked % 1024) % 1024 < 1 ∧
      (0 + 1 + 1024 - (s.port 1).acked % 1024) % 1024 = 1 ∧
      (s.elapse 0).now < (s.port 1).ackAt + s.replayTime 1 ∧ (s.port 1).ackAt + s.replayTime 1 ≤ (s.elapse 800000000).now ∧
      (s.port 1).replay = [⟨[], true⟩] ∧ (s.port 1).replayAt = none ∧
      0 + 1 < s.replayLimit 1 ∧ (s.port 1).sameReplays + 1 < s.replayLimit 1) ∧
    (let s := linked (fun q => { q with replay := [⟨[], true⟩] }) [(Reg.ZLINK_PORT_CFG_REPLAY_LIMIT 1, 1)]
     s.replayLimit 1 ≤ 0 + 1 ∧ s.replayLimit 1 ≤ (s.port 1).sameReplays + 1) ∧
    ((linked (fun q => { q with nakOut := true, nakOwed := true }) []).port 1).nakOut = true ∧
    (let s := linked (fun q => { q with initOwed := true }) []
     (s.port 1).initOwed = true ∧ (s.port 1).txBlock.length + 64 < (s.port 1).blockLen) ∧
    (let s := ending
     s.active 1 = true ∧ (s.port 1).initOwed = true ∧ (s.port 1).blockLen ≤ (s.port 1).txBlock.length + 64 ∧
      (s.port 1).txBurst = false ∧ 0 < widthOf (s.port 1).txWidth ∧ (s.lane 4).txMarker = markWord 0 true false
        (s.port 1).txWidth (s.port 1).txRate (s.lane 4).txScr ∧ 0 < (s.lane 4).txScr ∧ (s.lane 4).txScr < 2 ^ 31) ∧
    (let s := port 1 (fun q => { q with phase := .up, initRx := true }) [(Reg.ZLINK_PORT_STATUS_LL_STATE 1, 1)]
     s.flits 1 = true ∧ s.active 1 = false ∧ (s.port 1).initRx = true) ∧
    (let s := linked (fun q => { q with replay := [⟨[7], true⟩], replayAt := some 0 }) []
     (s.port 1).initOwed = false ∧ (s.port 1).nakOwed = false ∧ (s.port 1).replayAt = some 0 ∧
      (s.port 1).replay[0]? = some ⟨[7], true⟩) ∧
    (let s := linked (fun q => { q with cur := [⟨[7], true⟩] }) []
     (s.port 1).replayAt = none ∧ (s.port 1).replay.length < 256 ∧ (s.port 1).cur = [⟨[7], true⟩]) := by
  and_intros <;> decide

/-- The uplink active, memory region 0 valid. -/
def uplink (fs : List (Fld × Nat)) : State := ram [(0, 7)] ([(Reg.ZLINK_PORT_STATUS_LL_STATE 0, 2), (Reg.MEMCTL_MODE_INIT, 0)] ++ fs)

theorem witness_TransactionsComplete :
    (let x : Trans := ⟨ttCmd, 0, 0xFE, 0, 0, List.replicate 19 0 ++ [1]⟩
     let s := uplink []
     Running s ∧ s.ports.length = 4 ∧ Memory.wf s = true ∧ s.holds 0 x = true ∧ transOk x = true ∧
      ((on []).modPort 0 (fun q => { q with rxOld := [x] })).holds 0 x = true ∧
      u8 x.body 4 = x.dest ∧ s.awake = true ∧ s.myId ≠ 0xFF ∧ packetOk x.body = false) ∧
    (let x : Trans := ⟨ttCmd, 0, 0xFE, 0, 0, cmdBytes 0 hd false []⟩
     let u := (uplink []).elapse 5
     let k := parsePacket .uplink x.src u.now x.body
     transOk x = true ∧ u8 x.body 4 = x.dest ∧ packetOk x.body = true ∧ k.h.target = (uplink []).myId ∧ k.cmd = some .nop ∧
      u.arrivalStatus k = stOk) ∧
    (let x : Trans := ⟨ttMemWr, 0, 0xFE, 0, 7, leBytes 8 65535 ++ [9]⟩
     let s := uplink []
     transOk x = true ∧ x.dest = s.myId ∧ s.myId < 63 ∧ onePage (u64 x.body 0) 1 = true ∧ inDram (u64 x.body 0) 1 = true ∧
      s.standby = false ∧ touchesProt (u64 x.body 0) 1 = false ∧ (∀ b ∈ blocksIn (u64 x.body 0) 1, b ∉ s.mem.ue) ∧
      s.validRegion ((u64 x.body 0 + 0) / regionBytes) = true ∧ s.initRegion ((u64 x.body 0 + 0) / regionBytes) = false) ∧
    (let x : Trans := ⟨ttMemWr, 0, 0xFE, 0, 7, leBytes 8 protBase ++ [9]⟩
     transOk x = true ∧ onePage (u64 x.body 0) 1 = true ∧ inDram (u64 x.body 0) 1 = true ∧
      touchesProt (u64 x.body 0) 1 = true ∧ x.src ≠ 0xFD ∧ (uplink [(Reg.PAIR_STATUS_ROLE, 2)]).standby = true) ∧
    (let x : Trans := ⟨ttMemRd, 0, 0xFE, 0, 7, leBytes 8 0 ++ leBytes 4 4096 ++ leBytes 4 0⟩
     let s := uplink []
     transOk x = true ∧ onePage (u64 x.body 0) (u32 x.body 8) = true ∧ inDram (u64 x.body 0) (u32 x.body 8) = true ∧
      s.badBlocks (u64 x.body 0) (u32 x.body 8) = [] ∧ s.mem.filling = []) ∧
    transOk ⟨ttMemCpl, 0, 1, 0, 7, List.replicate 8 0⟩ = true ∧
    (let x : Trans := ⟨ttBcast, 63, 0, 0, 0, [1] ++ List.replicate 39 0⟩
     let s := uplink [(Reg.HIER_ID, 1), (Reg.ENC_STATUS_INVALID 0, 0)]
     transOk x = true ∧ x.dest = 63 ∧ s.holds 0 x = true ∧ s.myId ≠ 0 ∧ u8 x.body 0 = 1 ∧
      s.encValid (u8 x.body 20 % 4) = true) ∧
    (let x : Trans := ⟨ttBcast, 0, 0xFE, 0, 0, List.replicate 40 0⟩
     let s := uplink []
     transOk x = true ∧ s.holds 0 x = true ∧ x.dest = s.myId ∧ s.myId < 63) ∧
    (let x : Trans := ⟨ttBcast, 5, 0xFE, 0, 0, List.replicate 40 0⟩
     let s := { linked id [(Reg.ZLINK_PORT_STATUS_LL_STATE 0, 2)] with hier := { HierSt.init with nodes := [⟨5, 0, 1, 1⟩] } }
     transOk x = true ∧ s.holds 0 x = true ∧ x.dest ≠ s.myId ∧ s.downlink? x.dest = some 1 ∧ s.active 1 = true ∧
      s.isPairPort 1 = false) ∧
    (let x : Trans := ⟨ttReply, 0xFE, 1, 0, 0, List.replicate 20 0⟩
     let s := { linked id [] with host := { (linked id []).host with forwarded := [⟨1, 0, { hd with tag := 0 }⟩] } }
     s.isPairPort 1 = false ∧ s.holds 1 x = true ∧ transOk x = true ∧
      s.host.forwarded.any (·.answeredBy 1 x.body) = true) ∧
    (let x : Trans := ⟨ttReply, 0xFE, 1, 0, 0, List.replicate 20 0⟩
     let s := { linked id [] with host := { (linked id []).host with late := [⟨1, 0, { hd with tag := 0 }⟩] } }
     s.host.forwarded.any (·.answeredBy 1 x.body) = false ∧ s.host.late.any (·.answeredBy 1 x.body) = true) ∧
    (let x : Trans := ⟨ttEvent, 0xFE, 1, 0, 0, List.replicate 32 0⟩
     transOk x = true ∧ u16 x.body 0 ≠ evWorkerJoined) ∧
    (let x : Trans := ⟨ttBcast, 0xFE, 1, 0, 0, List.replicate 40 0⟩
     transOk x = true ∧ (linked id []).isPairPort 1 = false ∧ (linked id []).holds 1 x = true) ∧ transOk ⟨ttMemCpl, 0xFE, 1, 0, 7, List.replicate 8 0⟩ = true ∧
    (let s := on [(Reg.HIER_BEACON_PERIOD_US, 1), (Reg.HIER_BEACON_LINE_EN, 0)]
     s.awake = true ∧ (s.elapse 0).beaconsDue = true ∧ s.flag Reg.HIER_BEACON_LINE_EN = false) ∧
    (let s := on [(Reg.HIER_ID, 1), (Reg.TIME_STATUS_UNSYNC, 0), (Reg.TIME_BEACON_TIMEOUT_MS, 1)]
     s.myId ≠ 0 ∧ s.flag Reg.TIME_STATUS_UNSYNC = false ∧ s.flag Reg.TIME_STATUS_HOLDOVER = false ∧
      max 1 (s.get Reg.TIME_BEACON_TIMEOUT_MS) * msSteps ≤ (s.elapse 800000).now - s.time.lastBeacon.getD 0) := by
  and_intros <;> decide

/-! ### Hypotheses met: time triggers, housekeeping, calibration, the pair, power and reset -/

theorem witness_TimeAndThermalEventsComplete :
    (let s := on [(Reg.TIME_TRIG_CTRL_ARMED 4, 1), (Reg.TIME_TRIG_CTRL_TB 4, 0), (Reg.TIME_TRIG_NEXT_S_LO 4, 0),
       (Reg.TIME_TRIG_NEXT_NS 4, 0)]
     Live s ∧ (s.elapse 5).trigDue 4 = true ∧ (s.elapse 5).trigDue 3 = false ∧ s.cam.ports.length = 4 ∧
      s.motion.axes.length = 4) ∧
    (let s := on [(Reg.TIME_TRIG_CTRL_ARMED 0, 1), (Reg.TIME_TRIG_PERIOD_NS 0, 1000)]
     (s.elapse 5).trigDue 0 = true ∧ s.get (Reg.TIME_TRIG_PERIOD_NS 0) ≠ 0 ∧
      s.trigNext 0 + (((s.elapse 5).tbNs (s.get (Reg.TIME_TRIG_CTRL_TB 0)) - s.trigNext 0) / 1000 + 1) * 1000 <
        2 ^ 48 * secNs) ∧
    (on []).therm.round = false ∧
    (let s := { on [] with therm := { (on []).therm with round := true } }
     s.therm.round = true ∧ s.get Reg.THERM_STATUS_LEVEL ≤ 3 ∧
      refsOk (List.replicate 40 0 ++ [588, 82, 4013]) = true ∧ refsOk (List.replicate 40 0 ++ [587, 0, 4095]) = false) ∧
    ((on []).runMeasures 2 = false ∧ ∀ x ∈ (on []).therm.tracking, x.1 ≠ 2) ∧
    (let s := { on [] with therm := { (on []).therm with runs := [⟨9, .spi, 4, false⟩] } }
     s.runMeasures 2 = true ∧ 47 < s.therm.heads.length) ∧
    (let s := { on [] with therm := { (on []).therm with tracking := [(3, 0)] } }
     ∃ x ∈ s.therm.tracking, x.1 = 3) ∧
    (let s := { on [] with therm := { (on []).therm with heads := List.replicate 48 ⟨[5], [3], none, some 0⟩ } }
     let x := (s.tapUnits 2).getD 47 .init
     x.stepAt = some 0 ∧ 0 + msSteps ≤ (s.elapse 800000).now ∧ ¬(0 + msSteps ≤ (s.elapse 799999).now) ∧
      x.taps ≠ x.accepted ∧ x.taps.length = x.accepted.length ∧ 47 < (s.tapUnits 2).length ∧
      (s.elapse 800000).betweenShifts 47 = true ∧
      ((s.elapse 800000).modHead 47 (fun q => { q with shift := some (0, 0, 0, 800001) })).betweenShifts 47 = false) := by
  and_intros <;> decide

/-- `activeOf fs` or `standby fs` with strings on and the pair state that `f` makes. -/
def pairOn (role : Nat) (f : PairSt → PairSt) (fs : List (Fld × Nat)) : State :=
  (on ([(Reg.PAIR_CTRL_ENABLE, 1), (Reg.PAIR_STATUS_ROLE, role), (Reg.PAIR_CTRL_WIRE, 1), (Reg.PAIR_CTRL_MSG, 1),
    (Reg.ZLINK_PORT_STATUS_LL_STATE 3, 2)] ++ fs)).modPair f

theorem witness_PairEventsComplete :
    (let s := pairOn 1 id []
     Running s ∧ s.ports.length = 4 ∧ s.pair.clash = none ∧ s.flag Reg.CMD_STATUS_READY = true ∧ s.stringOn false = true ∧
      s.stringOn true = true ∧ s.pair.wdogAt + 250 * usSteps ≤ (s.elapse 200000).now ∧ s.pair.strAt = none ∧
      0 + 100 * usSteps ≤ (s.elapse 80000).now) ∧
    (let s := pairOn 1 (fun x => { x with strAt := some 0 }) []
     s.pair.strAt = some 0 ∧ (s.elapse 79999).now < 0 + 100 * usSteps) ∧
    (let x : Trans := ⟨ttString, 0xFD, 0xFD, 0, 0, 2 :: List.replicate 15 0⟩
     let s := pairOn 1 id []
     s.holds 3 x = true ∧ s.isPairPort 3 = true ∧ transOk x = true ∧ u8 x.body 1 = 0 ∧
      s.pair.listenEnd = none ∧ s.pair.faultCode = 0 ∧ s.get Reg.PAIR_STATUS_ROLE = 1 ∧ u8 x.body 0 = 2) ∧
    (let x : Trans := ⟨ttString, 0xFD, 0xFD, 0, 0, 1 :: List.replicate 15 0⟩
     let s := pairOn 1 id []
     s.holds 3 x = true ∧ transOk x = true ∧ u8 x.body 1 = 0 ∧ s.get Reg.PAIR_STATUS_ROLE = 1 ∧ u8 x.body 0 = 1 ∧
      (s.elapse 0).ilkOut = false ∧ s.pair.ilkWanted = false ∧ s.flag Reg.PAIR_STATUS_ILK_IN = false) ∧
    (let s := pairOn 2 (fun x => { x with msg := { x.msg with silent := true } }) [(Reg.PAIR_STATUS_STATE, 2)]
     s.pair.wire.silent = false ∧ s.pair.wire.last.getD 0 + 400 * usSteps ≤ (s.elapse 320000).now ∧
      s.pair.msg.silent = true ∧ s.mayTakeOver = true ∧ s.pair.wire.raised = false) ∧
    (pairOn 2 id []).pair.wire.silent = false ∧
    (let s := pairOn 1 (fun x => { x with wire := { x.wire with edge := true, last := some 0, short := 3 } }) []
     s.pair.wire.edge = true ∧ (s.elapse 19999).now < 0 + 25 * usSteps ∧ 3 ≤ s.pair.wire.short) ∧
    (let s := pairOn 1 (fun x => { x with ilkRaised := some 0 }) [(Reg.PAIR_STATUS_ILK_OUT, 1), (Reg.PAIR_STATUS_SIDE, 1)]
     s.flag Reg.PAIR_STATUS_ILK_IN = false ∧ s.flag Reg.PAIR_STATUS_ILK_OUT = true ∧ s.pair.ilkRaised = some 0 ∧
      (s.elapse 800).now ≤ 0 + usSteps ∧ s.flag Reg.PAIR_STATUS_SIDE = true ∧ s.flag Reg.PAIR_CTRL_ENABLE = true) ∧
    (on []).flag Reg.PAIR_STATUS_SIDE = false ∧
    (let s := pairOn 2 (fun x => { x with ilkWanted := true, takeover := true, ilkLowSince := some 0 }) []
     s.pair.ilkWanted = true ∧ (s.elapse 16000).ilkOut = false ∧ s.flag Reg.PAIR_STATUS_HWDOG = false ∧
      s.pair.ilkLowSince = some 0 ∧ 0 + 20 * usSteps ≤ (s.elapse 16000).now ∧ s.pair.takeover = true) ∧
    (pairOn 1 (fun x => { x with ilkWanted := true, ilkLowSince := some 0 }) []).pair.takeover = false ∧
    (let s := pairOn 0 (fun x => { x with listenEnd := some 5 }) [(Reg.PAIR_STATUS_ILK_IN, 1)]
     s.pair.listenEnd = some 5 ∧ 5 ≤ (s.elapse 5).now ∧ s.flag Reg.PAIR_STATUS_ILK_IN = true ∧
      (on []).flag Reg.PAIR_STATUS_ILK_IN = false ∧ (on []).flag Reg.PAIR_STATUS_ILK_OUT = false) ∧
    (let s := pairOn 1 (fun x => { x with ckptLines := 256 }) []
     s.awake = true ∧ s.mirrors = true ∧ 256 ≤ s.pair.ckptLines) ∧
    (let s := pairOn 2 (fun x => { x with ckptNew := true }) [(Reg.PAIR_STATUS_STATE, 1), (Reg.ZLINK_CKPT_STATUS_VALID, 1)]
     s.pair.ckptNew = true ∧ s.partnerSilent = false ∧ s.standby = true ∧ s.get Reg.PAIR_STATUS_STATE = 1 ∧ s.flag Reg.ZLINK_CKPT_STATUS_VALID = true ∧ s.awake = true ∧
      s.pair.takeover = false ∧ s.pair.dozeFrom + s.dozeUs * usSteps ≤ (s.elapse (2 ^ 32 * 800)).now) := by
  and_intros <;> decide

/-- A checkpoint piece of 8 bytes at offset 0 of 16, its last flag as `last` says, sealed with the CRC of `data`. -/
def piece (last off : Nat) (data : List Byte) : List Byte :=
  leBytes 4 1 ++ leBytes 4 off ++ leBytes 2 0 ++ leBytes 2 8 ++ leBytes 1 (2 * last) ++ [0, 0, 0] ++ leBytes 4 16 ++
    leBytes 4 (crc32c data) ++ List.replicate 8 7

theorem witness_CheckpointPieces :
    (let x : Trans := ⟨ttCkpt, 0xFD, 0xFD, 0, 0, piece 0 0 []⟩
     let s := pairOn 2 (fun x => { x with ckptRx := some (1, 0) }) []
     s.holds 3 x = true ∧ s.isPairPort 3 = true ∧ transOk x = true ∧ s.standby = true ∧
      s.power.dozing = false ∧ Memory.wf s = true ∧ bit (u8 x.body 12) 0 = false ∧
      s.pair.ckptRx = some (u32 x.body 0, u32 x.body 4) ∧ u32 x.body 4 + u16 x.body 10 ≤ 131072 ∧
      bit (u8 x.body 12) 1 = false ∧ u32 x.body 4 + u16 x.body 10 ≠ u32 x.body 16) ∧
    (let x : Trans := ⟨ttCkpt, 0xFD, 0xFD, 0, 0, piece 1 8 []⟩
     let s := pairOn 2 (fun x => { x with ckptRx := some (1, 8) }) []
     let base := tabBase + 0x800000 + (1 - s.get Reg.ZLINK_CKPT_STATUS_CURRENT_HALF) * 0x20000
     let w := s.putTabs false (base + 8) ((x.body.drop 24).take 8)
     transOk x = true ∧ s.pair.ckptRx = some (u32 x.body 0, u32 x.body 4) ∧ bit (u8 x.body 12) 0 = false ∧
      bit (u8 x.body 12) 1 = true ∧ u32 x.body 4 + u16 x.body 10 = u32 x.body 16 ∧
      crc32c (w.readTab false base (u32 x.body 16)) ≠ u32 x.body 20) ∧
    (let x : Trans := ⟨ttCkpt, 0xFD, 0xFD, 0, 0, piece 1 8 (List.replicate 8 0 ++ List.replicate 8 7)⟩
     let s := pairOn 2 (fun x => { x with ckptRx := some (1, 8) }) []
     let base := tabBase + 0x800000 + (1 - s.get Reg.ZLINK_CKPT_STATUS_CURRENT_HALF) * 0x20000
     let w := s.putTabs false (base + 8) ((x.body.drop 24).take 8)
     crc32c (w.readTab false base (u32 x.body 16)) = u32 x.body 20) := by
  and_intros <;> decide

theorem leNat_two (x : Nat) : leNat (leBytes 2 (low 16 x)) = low 16 x := by
  simp [leBytes, leNat, low]
  omega

/-- A staging RAM that holds the least patch image for the device's FW_MAJOR. -/
def image : OtpSt :=
  { OtpSt.init with staging := (List.range 64).zip ([0x4C, 0x59, 0x50, 0x54, 1, 0] ++ leBytes 2 (low 16 Config.fwMajor) ++
      [0, 0, 0, 0] ++ leBytes 4 128 ++ List.replicate 48 0) }

theorem witness_PatchActivate : Ready hd (.patchActivate 128 (List.replicate 64 0)) (otp (fun _ => image)) ∧
    bit image.locks 2 = false ∧ image.imageOk 128 = true ∧ image.signatureOk 128 (List.replicate 64 0) = true ∧
    (otp (fun _ => { image with keys := List.replicate 2 (List.replicate 32 1) })).otp.signatureOk 128
      (List.replicate 64 0) = false := by
  have h : u16 (image.stage 0 64) 6 = low 16 Config.fwMajor := leNat_two _
  refine ⟨(ready_iff _ _).2 (by decide), by decide, ?_, rfl, by decide⟩
  unfold OtpSt.imageOk
  simp only [h, beq_self_eq_true, Bool.and_true]
  decide

/-- The last checkpoint piece of `piece`, from a partner of the device's FW_MAJOR. -/
def lastPiece : List Byte :=
  leBytes 4 1 ++ leBytes 4 8 ++ leBytes 2 (low 16 Config.fwMajor) ++ (piece 1 8 (List.replicate 8 0 ++ List.replicate 8 7)).drop 10

theorem witness_LastCheckpointPiece : transOk ⟨ttCkpt, 0xFD, 0xFD, 0, 0, lastPiece⟩ = true ∧
    u32 lastPiece 4 = 8 ∧ u16 lastPiece 10 = 8 ∧ u32 lastPiece 16 = 16 ∧ bit (u8 lastPiece 12) 1 = true ∧
    u16 lastPiece 8 = low 16 Config.fwMajor :=
  ⟨by decide, by decide, by decide, by decide, by decide, leNat_two _⟩

/-- The same piece from a partner of another FW_MAJOR. -/
def otherPiece : List Byte :=
  leBytes 4 1 ++ leBytes 4 8 ++ leBytes 2 (low 16 (low 16 Config.fwMajor + 1)) ++
    (piece 1 8 (List.replicate 8 0 ++ List.replicate 8 7)).drop 10

theorem witness_OtherFirmwarePiece : transOk ⟨ttCkpt, 0xFD, 0xFD, 0, 0, otherPiece⟩ = true ∧
    u32 otherPiece 4 = 8 ∧ u16 otherPiece 10 = 8 ∧ u32 otherPiece 16 = 16 ∧ bit (u8 otherPiece 12) 1 = true ∧
    (pairOn 2 id [(Reg.PAIR_STATUS_STATE, 1)]).get Reg.PAIR_STATUS_STATE = 1 ∧
    u16 otherPiece 8 ≠ low 16 Config.fwMajor := by
  refine ⟨by decide, by decide, by decide, by decide, by decide, by decide, ?_⟩
  rw [show u16 otherPiece 8 = low 16 (low 16 Config.fwMajor + 1) from leNat_two _]
  simp only [low]
  omega

/-- `on fs` with the power state that `f` makes. -/
def power (f : PowerSt → PowerSt) (fs : List (Fld × Nat)) : State := (on fs).modPower f

theorem witness_LadderAndResetEventsComplete :
    (let s := on [(Reg.LADDER_CTRL_AUTO_L1, 1)]
     Running s ∧ s.flag Reg.LADDER_CTRL_AUTO_L1 = true ∧ s.get Reg.LADDER_STATE = 0 ∧ s.restful = true) ∧
    (on [(Reg.LADDER_CTRL_AUTO_L1, 0)]).flag Reg.LADDER_CTRL_AUTO_L1 = false ∧ 
    ((on [(Reg.LADDER_STATE, 1)]).get Reg.LADDER_STATE = 1 ∧ (on [(Reg.LADDER_STATE, 1)]).power.stay = false) ∧
    (power (fun x => { x with stay := true }) [(Reg.LADDER_STATE, 1)]).power.stay = true ∧
    (let s := power (fun x => { x with entry := some (3, 4) }) []
     s.power.entry = some (3, 4) ∧ (∀ q ∈ s.ports, q.phase ≠ .up ∧ q.phase ≠ .waking)) ∧
    (power (fun x => { x with entry := some (2, 4) }) []).power.entry = some (2, 4) ∧
    (power (fun x => { x with entry := some (4, 4) }) []).power.entry = some (4, 4) ∧
    ((on []).power.entry = none ∧ (on []).get Reg.LADDER_STATE < 2 ∧ (on []).power.wakeHeld = none) ∧
    (let s := on [(Reg.LADDER_STATE, 2), (Reg.LADDER_WAKE_CFG_SW_MASK, 0x80)]
     s.wakes 0x17 = true ∧ s.wakes 0x10 = false ∧ s.get Reg.LADDER_STATE = 2) ∧
    ((on [(Reg.LADDER_STATE, 3)]).get Reg.LADDER_STATE = 3 ∧
      (on [(Reg.LADDER_STATE, 3)]).wakes (on [(Reg.LADDER_STATE, 3)]).wakePort = true) ∧
    ((on [(Reg.LADDER_STATE, 4)]).get Reg.LADDER_STATE = 4 ∧
      (on [(Reg.LADDER_STATE, 4)]).wakes (on [(Reg.LADDER_STATE, 4)]).wakePort = true) ∧
    ((power (fun x => { x with settleAt := some (780, 5) }) []).power.settleAt = some (780, 5) ∧
      5 ≤ ((on []).elapse 5).now ∧ (on []).power.settleAt = none) ∧
    (let s := power (fun x => { x with pmQueue := [.voutCommand 850] }) [(Reg.LADDER_PMBUS_CFG_ENABLE, 1)]
     Running s ∧ s.pmbusOn = true ∧ s.power.pmQueue = .voutCommand 850 :: []) ∧
    (power (fun x => { x with pmQueue := [.voutMode] }) []).power.pmQueue = .voutMode :: [] ∧
    ((power (fun x => { x with pmQueue := [.readVout], voutExp := some (-12) }) []).power.voutExp = some (-12)) ∧
    (power (fun x => { x with pmQueue := [.readIout] }) []).power.pmQueue = .readIout :: [] ∧
    ((power (fun x => { x with pmQueue := [.statusWord] }) []).power.pmQueue = .statusWord :: [] ∧ low 16 1 ≠ 0) ∧
    low_.power.resetN = false ∧ (on []).power.resetN = true := by
  and_intros <;> decide

theorem witness_TapInstructionsComplete : low_.power.resetN = false ∧ (on []).power.resetN = true := by decide

theorem witness_EveryStepKeepsMemoriesCanonical :
    let s := { on [] with pending := [.nop hd] }
    Memory.wf s = true ∧ ∃ s', step s = .next s' :=
  ⟨by decide, _, rfl⟩

theorem witness_PacketsDecodeToWhatTheyEncode : hd.wf ∧ (HostCmd.echo (List.replicate 4076 0)).wf ∧ hdrFlag hd 0 = false ∧
    (encodeParams (.echo (List.replicate 4076 0))).length ≤ 4076 := by
  refine ⟨by simp [Hdr.wf, hd], by simp [HostCmd.wf, -List.reduceReplicate], by decide, ?_⟩
  simp [encodeParams, -List.reduceReplicate]

/-! ### Packets written out from the tables of 02_command_packets.md -/

/-- A whole packet: TIME_READ of TB 3, tag 0x1234, SEQUENCE 0x0102, CRC-32C 0xD6694CFA (worked out by hand from R34). -/
def packet : List Byte :=
  [0x00, 0x09, 0x34, 0x12, 0x00, 0x00, 0x01, 0x00, 0x00, 0x00, 0x02, 0x01, 0x00, 0x00, 0x00, 0x00, 0x03, 0xFA, 0x4C, 0x69, 0xD6]

theorem test_packet : packetOk packet = true ∧
    parsePacket .spi 0xFE 7 packet = ⟨⟨.spi, 0x1234, 0, 0, 0, 0x0102, 0, 7⟩, 0x0900, [3], some (.timeRead 3), 0xFE⟩ ∧
    packetOk (packet.set 16 2) = false := by decide

/-- R34: the CRC-32C of the nine ASCII bytes "123456789". -/
theorem test_crc32c : crc32c [0x31, 0x32, 0x33, 0x34, 0x35, 0x36, 0x37, 0x38, 0x39] = 0xE3069283 := by decide

theorem test_decode_opcodes_00_to_07 :
    decodeParams 0x0003 [0x04, 0x01, 0, 0, 0x20, 0, 0, 0, 2, 0, 0, 0, 0x78, 0x56, 0x34, 0x12, 1, 0, 0, 0] =
      some (.regWrite 0x2000000104 [0x12345678, 1]) ∧
    decodeParams 0x0100 [0x40, 0, 0, 0, 3, 0, 0, 0, 0x80, 0, 0, 0, 0, 0, 0, 0, 0xEF, 0xBE, 0xAD, 0xDE] =
      some (.memFill 0x300000040 0x80 0xDEADBEEF) ∧
    decodeParams 0x0200 [7, 9, 0, 0, 0, 0, 0, 0, 0, 1, 0, 0, 0, 0, 0, 0, 0, 2, 0, 0, 0, 0, 0, 0, 3, 0, 0, 0, 4, 0, 0, 0] =
      some (.packStart 7 9 0x100 0x200 3 4) ∧
    decodeParams 0x0301 [1, 2, 3, 0, 0, 0, 0, 0, 0xFE, 0xFF, 0xFF, 0xFF, 0xFF, 0xFF, 0xFF, 0xFF] =
      some (.jobStart 1 2 3 (-2)) ∧
    decodeParams 0x0405 [1, 2, 1, 0, 0, 0, 0, 0, 0, 0, 0, 0x0C, 0, 0, 0, 0, 0, 0, 3, 0] =
      some (.tableLoad 1 2 1 0xC000000 0x30000) ∧
    decodeParams 0x0501 [2, 3, 0, 0, 26, 27, 47] = some (.headMap 2 [26, 27, 47]) ∧
    decodeParams 0x0603 [1, 2, 1, 0, 0x82, 0x4D, 0, 0, 0xDE, 0xDD, 0xDD, 0x1D, 2, 0, 0, 0, 5, 0, 16] =
      some (.lineConfig 1 2 1 19842 0x21DDDDDDE 5 16) ∧
    decodeParams 0x0704 [2, 1, 0, 0, 0, 1, 0, 0] = some (.loopCtrl 2 1 256) := by decide

theorem test_decode_opcodes_08_to_0F :
    decodeParams 0x0801 [3, 0, 0, 0, 0, 0, 0, 0, 0xFF, 0xFF, 0xFF, 0xFF, 0xFF, 0xFF, 0xFF, 0xFF, 1, 0, 0, 0, 2, 0, 0, 0, 3, 0, 0, 0] =
      some (.axisMove 3 (-1) 1 2 3) ∧
    decodeParams 0x0903 [4, 3, 0, 0, 0, 0, 0, 0, 5, 0, 0, 0, 0, 0, 0, 0, 6, 0, 0, 0, 0, 0x12, 0x7A, 0] =
      some (.triggerSet 4 3 5 6 8000000) ∧
    decodeParams 0x0A03 [0xF4, 0x01] = some (.calDt 500) ∧
    decodeParams 0x0B00 [3, 4, 2, 0, 6, 40, 17] = some (.linkConfig 3 4 2 6 40 17) ∧
    decodeParams 0x0C00 [1, 3] = some (.pairConfig 1 3) ∧
    decodeParams 0x0D03 [0, 1, 0, 0, 2, 0, 0, 0, 0xAA, 0xBB] = some (.patchLoad 256 [0xAA, 0xBB]) ∧
    decodeParams 0x0E00 [2, 4] = some (.ladderSet 2 4) ∧ decodeParams 0x0F00 [5, 0, 0x7F, 0] = some (.logRead 5 127) := by
  decide

/-! ### The worked examples of the spec's chapters -/

/-- 03_address_map.md, worked example: the port registers of HP30 and HP38, and PL2's protected area. -/
theorem test_example_addresses :
    regBase + (Reg.HEADPORT_HP_CTRL_ENABLE 30).addr - (Reg.HEADPORT_HP_CTRL_ENABLE 30).addr % 0x1000 = 0x2000136000 ∧
    regBase + (Reg.HEADPORT_HP_CTRL_ENABLE 38).addr - (Reg.HEADPORT_HP_CTRL_ENABLE 38).addr % 0x1000 = 0x2000142000 ∧
    protArea 2 = 0x37C000000 ∧ tabBase + 2 * 0x40000 = 0x1000080000 := by decide

/-- 04_web_position.md, worked example, step 4 and 5: the gains at BANDWIDTH 200, SETTLING, and one tick. -/
theorem test_example_observer :
    settleTicks 200 = 1500 ∧
    (let (p, v, _) := observe 200 (10004 * 2 ^ 64 / 10) (1338583 * 2 ^ 64 / 1000000) 0 1001
     p * 10000 / 2 ^ 64 = 10017295 ∧ satS 32 (sar (v * 100000 + 2 ^ 63) 64) = 133847) := by decide

/-- 05_line_placement.md, worked example, steps 4 and 5: ref of cyan line 1,000, and the predicted steps at two ticks. -/
theorem test_example_placement :
    refPos (7427300 * 2 ^ 32) 0x21DDDDDDE 19842 1000 * 1000 / 2 ^ 64 = 7471415566 ∧
    predict (7471416501 * 2 ^ 64 / 1000) (7471413900 * 2 ^ 64 / 1000) (11 * 2 ^ 64 / 6) 0 = some 11349 ∧
    predict (7471416501 * 2 ^ 64 / 1000) (7471412067 * 2 ^ 64 / 1000) (11 * 2 ^ 64 / 6) 0 = some 19348 := by decide

/-- 06_jobs_raster.md, worked example, step 5: a sample with UPSCALE between two rows and two columns. -/
theorem test_example_sample :
    sample (fun a => if a = 0 then 120 else if a = 1 then 124 else if a = 256 then 130 else if a = 257 then 135 else 0)
      { bindingAt bind0 0 with x600 := true, y600 := true, upscale := true, width := 2, stride := 256, repeatLines := 16 }
      (fun j => (j - 3) * 256) 7 1 = 127 := by decide

/-- 07_composition.md, worked example, steps 1, 2, 6 and 7: units of two rectangles, and two blends. -/
theorem test_example_composition :
    (⟨9449, 21260, 1890, 284, 0⟩ : Rect).units = 2130 ∧ (⟨12283, 21260, 1796, 567, 2130⟩ : Rect).units = 4111 ∧
    blend 40 180 128 255 false = 110 ∧ blend 60 110 128 200 true = 114 := by decide

/-- 08_halftone_density.md, worked example, step 9: the dither of line 512 at position 4,867. -/
theorem test_example_dither : dither 512 4867 = 240 := by decide

/-- The reference profile, TIJ-5120-2 (09_head_ports.md R187). -/
def tij : List Byte :=
  [2, 2, 2, 0] ++ leBytes 2 5120 ++ [1, 3] ++ leBytes 4 48000 ++ leBytes 2 40 ++ leBytes 2 80 ++ leBytes 2 16 ++ leBytes 2 80 ++
    leBytes 2 80 ++ [4, 0] ++ leBytes 2 480 ++ leBytes 2 40 ++ leBytes 2 320 ++ leBytes 2 400 ++ leBytes 2 1200 ++
    leBytes 2 1040 ++ leBytes 2 880 ++ [0x20, 0x10] ++ leBytes 2 800 ++ [4, 1] ++ leBytes 2 160 ++ leInt 2 (-500) ++
    [0, 1, 1, 0] ++ leBytes 2 2 ++ leBytes 2 20 ++ List.replicate 8 0

/-- 09_head_ports.md, worked example, steps 1, 2 and 6: derived times, TEMP of raw 1,504, and the pre-heat. -/
theorem test_example_head :
    profileOk tij 1600 = true ∧ pMinPeriod tij = 16667 ∧ pTrain tij = 5840 ∧ pTShift tij = 5120 ∧ pTPort tij 0 = 5184 ∧
    pTPort tij 1 = 5224 ∧ frameTemp tij [0, 0xE0, 0x05, 0xE5] = 440 ∧
    preheat tij 1600 600 153600 450 440 = (153760, 2, 310) := by decide

/-- 13_motion_axes.md, worked example, step 3: a segment at its middle. -/
theorem test_example_segment :
    segPos (12000 * 2 ^ 32) 4000 (12020 * 2 ^ 32) 3960 100 50 = 12010 * 2 ^ 32 + 0x06666666 := by decide

/-- 15_compression.md, worked example, steps 1 and 2: the header, and the tokens at positions 0 and 10. -/
theorem test_example_pack :
    packHeader 1 1000 = [0x4C, 0x59, 0x50, 0x4B, 1, 1, 0, 0, 0xE8, 3, 0, 0, 0, 0, 0, 0] ∧
    findMatch (fun i => BitVec.ofNat 8 (0x41 + i % 10)) 1000 1 0 = (0, 0) ∧
    findMatch (fun i => BitVec.ofNat 8 (0x41 + i % 10)) 1000 1 10 = (258, 0) ∧
    matchToken 258 10 = [0xFF, 0x7F, 9, 0] ∧ matchToken 216 10 = [0xFF, 0x55, 9, 0] := by decide

/-- 16_link_physical.md, worked example, step 3: a marker of lane 2. -/
theorem test_example_marker :
    markerValid 0x92345678E6D52B1C = true ∧ bits 0x92345678E6D52B1C 24 2 = 2 ∧ bits 0x92345678E6D52B1C 32 31 = 0x12345678 ∧
    markerValid 0x12345678E6D52B1C = false := by decide

/-- Angles by hand: 45°, 90°, 135° and −90°, each within the rounding that is left open (13_motion_axes.md R304). -/
theorem test_angles : angleOf 1 1 0 ∈ [449, 450] ∧ angleOf 0 1 0 ∈ [899, 900] ∧ angleOf (-1) 1 0 ∈ [1349, 1350] ∧
    angleOf 0 (-1) 0 ∈ [-901, -900] ∧ angleOf 1732 1000 0 ∈ [299, 300] := by decide

/-- Back-EMF by hand: 2 V less 1 A over 1 Ω less 10 A/ms over 40 µH, in 1/16 nV (R304): VS_SCALE 2 mV, IS_SCALE 1,000 µA,
R_WIND 1,000 mΩ, L_WIND 40 µH, v 1,000 codes, i 1,000 codes, from 750 to 1,250 codes in 50 µs. -/
theorem test_back_emf :
    backEmf (List.replicate 34 0 ++ leBytes 2 1000 ++ leBytes 2 40 ++ leBytes 2 1000 ++ leBytes 2 2) 16000 16000 12000 20000 =
      (2000000000 - 1000000000 - 400000000) * 16 := by decide

theorem test_wf_measure : AxisMeas.wf ⟨16368, -16368, 0, 0, 0, 0, 0, 0⟩ ∧ ¬AxisMeas.wf ⟨0, 0, 0, 0, 0, 0, 0, 16369⟩ := by
  simp [AxisMeas.wf]

end Sys2Proof.Machine
end

section
/-! SUPPORT. The statements on the state after reset, on the composition commands and on the register-write rows of SYS,
ENC, LINEGEN, THERM, LADDER and MOTION. -/

namespace Sys2Proof.Machine

variable {h : Hdr} {s : State}

/-! ### Right after reset -/

/-- One field alone is listed at reset: ENABLE of ZP0, as the blank record has it. -/
theorem State.get_reset {f : Fld} (hf : f.key ≠ (Reg.ZPHY_PORT_CONFIG_ENABLE 0).key) : State.reset.get f = f.reset := by
  refine Sparse.get_of_not_mem _ fun e he => ?_
  obtain rfl : e = ((Reg.ZPHY_PORT_CONFIG_ENABLE 0).key, 1) := by simpa [State.reset] using he
  exact hf.symm

theorem State.tabByte_reset (bank : Bool) (a : Nat) : State.reset.tabByte bank a = tabReset a := by
  cases bank <;> rfl

theorem Memory.wf_reset : Memory.wf State.reset = true := by decide

/-- Settles O58: nothing but ENABLE of ZP0 is listed in the stores of the state after reset. -/
theorem resetLeavesResetValues : Obligations.ResetLeavesResetValues :=
  ⟨fun _ hf => State.get_reset hf, rfl, fun _ => rfl, fun _ => rfl, State.tabByte_reset, rfl, rfl, rfl, rfl, rfl, rfl,
    rfl, Memory.wf_reset⟩

/-! ### Composition commands -/

/-- The fields that LAYER_SET writes, in the order of its row. -/
def layerSetFields (p layer enable alpha premult flipAt addr width height stride : Nat) : List (Fld × Nat) :=
  if layer = 1 then [(Reg.COMPOSE_PL_VAR_CTRL_ENABLE p, enable), (Reg.COMPOSE_PL_VAR_CTRL_LAYER_ALPHA p, alpha),
    (Reg.COMPOSE_PL_VAR_ADDR_LO p, addr), (Reg.COMPOSE_PL_VAR_ADDR_HI p, addr / 2 ^ 32),
    (Reg.COMPOSE_PL_VAR_WIDTH p, width), (Reg.COMPOSE_PL_VAR_HEIGHT p, height), (Reg.COMPOSE_PL_VAR_STRIDE p, stride),
    (Reg.COMPOSE_PL_FLIP_SEL_VAR p, flipAt)]
  else if layer = 2 then [(Reg.COMPOSE_PL_OVL_CTRL_ENABLE p, enable), (Reg.COMPOSE_PL_OVL_CTRL_PREMULT p, premult),
    (Reg.COMPOSE_PL_OVL_CTRL_LAYER_ALPHA p, alpha), (Reg.COMPOSE_PL_OVL_ADDR_LO p, addr),
    (Reg.COMPOSE_PL_OVL_ADDR_HI p, addr / 2 ^ 32), (Reg.COMPOSE_PL_OVL_WIDTH p, width),
    (Reg.COMPOSE_PL_OVL_HEIGHT p, height), (Reg.COMPOSE_PL_OVL_STRIDE p, stride), (Reg.COMPOSE_PL_FLIP_SEL_OVL p, flipAt)]
  else [(Reg.COMPOSE_PL_KITE_CTRL_ENABLE p, enable), (Reg.COMPOSE_PL_KITE_CTRL_PREMULT p, premult),
    (Reg.COMPOSE_PL_KITE_CTRL_LAYER_ALPHA p, alpha), (Reg.COMPOSE_PL_KITE_ADDR_LO p, addr),
    (Reg.COMPOSE_PL_KITE_ADDR_HI p, addr / 2 ^ 32), (Reg.COMPOSE_PL_KITE_SIZE_WIDTH p, width),
    (Reg.COMPOSE_PL_KITE_SIZE_HEIGHT p, height), (Reg.COMPOSE_PL_KITE_STRIDE p, stride),
    (Reg.COMPOSE_PL_FLIP_SEL_KITE_LAYER p, flipAt)]

section
variable {p layer enable alpha premult flipAt addr width height stride : Nat}

@[simp] theorem State.serving_geomFree (c : HostCmd) : (s.serving h c).geomFree p layer = s.geomFree p layer := by
  simp [State.geomFree, State.liveBindings]

/-- A layer that is disabled, or whose geometry passes or is not checked, is written and takes force (R155, R156). -/
theorem cmdLayerSet_fits (hs : s.standby = false)
    (hok : enable = 0 ∨ s.geomFree p layer = true ∨ geomStatus layer addr width height stride = stOk) :
    cmdLayerSet p layer enable alpha premult flipAt addr width height stride s =
      Res.ok (((layerSetFields p layer enable alpha premult flipAt addr width height stride).foldl
        (fun s f => s.set f.1 f.2) s).layerNow p (layerGroup p layer)) := by
  have hst : (if enable = 1 ∧ !s.geomFree p layer then geomStatus layer addr width height stride else stOk) = stOk := by
    rcases hok with hok | hok | hok <;> simp [hok]
  unfold cmdLayerSet layerSetFields
  rw [hst, if_neg (by simp [hs]), if_neg (by simp)]
  split_ifs <;> rfl

/-- An enabled layer whose geometry is checked and fails is refused with the check's status (R155). -/
theorem cmdLayerSet_misfit (hs : s.standby = false) (he : enable = 1) (hf : s.geomFree p layer = false)
    (hg : geomStatus layer addr width height stride ≠ stOk) :
    cmdLayerSet p layer enable alpha premult flipAt addr width height stride s =
      Res.err (geomStatus layer addr width height stride) s := by
  have hst : (if enable = 1 ∧ !s.geomFree p layer then geomStatus layer addr width height stride else stOk) =
      geomStatus layer addr width height stride := if_pos (by simp [he, hf])
  unfold cmdLayerSet
  rw [hst, if_neg (by simp [hs]), if_pos hg]

theorem cmdKiteMove_completes {x y : Nat} (hs : s.standby = false) :
    cmdKiteMove p flipAt x y s = Res.ok ((((s.set (Reg.COMPOSE_PL_KITE_X p) x).set (Reg.COMPOSE_PL_KITE_Y p) y).set
      (Reg.COMPOSE_PL_FLIP_SEL_KITE_POS p) flipAt).layerNow p (kitePosGroup p)) := by
  unfold cmdKiteMove; rw [if_neg (by simp [hs])]

/-- A geometry passes, or fails with one of two statuses. -/
theorem geomStatus_cases (layer addr width height stride : Nat) :
    geomStatus layer addr width height stride = stOk ∨ geomStatus layer addr width height stride = stBadParam ∨
      geomStatus layer addr width height stride = stProtected := by
  unfold geomStatus
  dsimp only
  generalize (if layer = 3 then 512 else 393216) = maxW, (if layer = 3 then 512 else 0xFFFFFFFF) = maxH,
    (if layer = 1 then width else 2 * width) = need
  split_ifs <;> simp

theorem accepted_geomStatus (hg : geomStatus layer addr width height stride ≠ stOk) :
    accepted (geomStatus layer addr width height stride) = false := by
  rcases geomStatus_cases layer addr width height stride with hc | hc | hc
  · exact absurd hc hg
  · rw [hc]; rfl
  · rw [hc]; rfl

/-- LAYER_SET of a layer that fits, whichever it is. -/
theorem exec_layerSet_fits (hs : s.standby = false)
    (hr : Ready h (.layerSet p layer enable alpha premult flipAt addr width height stride) s)
    (hok : enable = 0 ∨ s.geomFree p layer = true ∨ geomStatus layer addr width height stride = stOk) :
    let c := HostCmd.layerSet p layer enable alpha premult flipAt addr width height stride
    exec (.layerSet h p layer enable alpha premult flipAt addr width height stride) s = .next (answered h c stOk []
      (((layerSetFields p layer enable alpha premult flipAt addr width height stride).foldl
        (fun s f => s.set f.1 f.2) (s.serving h c)).layerNow p (layerGroup p layer))) :=
  exec_accepts hr (cmdLayerSet_fits (by simpa using hs) (by simpa using hok)) rfl fun _ => rfl

end

/-- Settles O21: each command's check and effect on the state that serves it, then the reply. -/
theorem compositionCommandsComplete : Obligations.CompositionCommandsComplete := by
  intro h p s hs
  refine ⟨fun layer enable alpha premult flipAt addr width height stride hr => ⟨?_, ?_, ?_, ?_⟩, fun flipAt x y hr => ?_⟩
  · rintro hok rfl; exact exec_layerSet_fits hs hr hok
  · rintro hok rfl; exact exec_layerSet_fits hs hr hok
  · rintro hok rfl; exact exec_layerSet_fits hs hr hok
  · rintro he hf st rfl hst
    exact exec_refuses hr (cmdLayerSet_misfit (by simpa using hs) he (by simpa using hf) hst) (accepted_geomStatus hst)
  · exact exec_accepts hr (cmdKiteMove_completes (by simpa using hs)) rfl fun _ => rfl

/-! ### Writing one register word -/

section
variable {a v t : Nat} {w : State}

theorem rangeOk_register (ha : a % 4 = 0) (hb : a + 4 ≤ regBytes) : rangeOk (regBase + a) 1 = true := by
  have h4 : (regBase + a) % 4 = 0 := by unfold regBase; omega
  have hreg : regRange (regBase + a) 1 = true := by simp [regRange]; omega
  simp [rangeOk, h4, hreg]

/-- A host write of one word of the register region is the write of that register; a refusal writes nothing. -/
theorem State.hostWrite_register (s : State) (hok : rangeOk (regBase + a) 1 = true) :
    s.hostWrite (regBase + a) [v] =
      if (s.writeReg a v).1 = stOk then s.writeReg a v else ((s.writeReg a v).1, s) := by
  have hd : inDram (regBase + a) 4 = false := by simp [inDram, dramEnd, regBase]; omega
  unfold State.hostWrite
  simp only [List.length_singleton, hok, hd, State.writeWords, Nat.le_add_right, if_true, Nat.add_sub_cancel_left,
    Bool.not_true, Bool.false_eq_true, if_false, Nat.mul_one]
  by_cases hst : (s.writeReg a v).1 = stOk
  · simp only [hst, if_true]
    exact Prod.ext hst.symm rfl
  · simp only [hst, if_false]

/-- A register-write row has the effect of its one-word write, all of it or nothing. -/
theorem eventAwake_hostWrite (hl : Live s) (hok : rangeOk (regBase + a) 1 = true) :
    eventAwake t (fun s => (s.hostWrite (regBase + a) [v]).2) s =
      .next (if ((s.elapse t).writeReg a v).1 = stOk then ((s.elapse t).writeReg a v).2 else s.elapse t) := by
  rw [eventAwake_live hl, State.hostWrite_register _ hok]
  split <;> rfl

theorem regEvent_live (hl : Live s) (ha : a % 4 = 0) (hb : a + 4 ≤ regBytes) : regEvent a v t s =
    .next (if ((s.elapse t).writeReg a (low 32 v)).1 = stOk then ((s.elapse t).writeReg a (low 32 v)).2
      else s.elapse t) :=
  eventAwake_hostWrite hl (rangeOk_register ha hb)

/-- A register-write row whose write is accepted. -/
theorem regEvent_writes (hl : Live s) (ha : a % 4 = 0) (hb : a + 4 ≤ regBytes)
    (hw : (s.elapse t).writeReg a (low 32 v) = (stOk, w)) : regEvent a v t s = .next w := by
  rw [regEvent_live hl ha hb, hw, if_pos rfl]

/-- A write under a check has its effect where the check holds, and none elsewhere. -/
theorem guardWrite_effect {st : Nat} (hst : st ≠ stOk) (s : State) (ok : Bool) (u : State) :
    (if (guardWrite s ok st u).1 = stOk then (guardWrite s ok st u).2 else s) = if ok = true then u else s := by
  cases ok
  · exact if_neg hst
  · rfl

end

/-! ### Writes by register block -/

section
variable {a v : Nat}

theorem State.writeReg_sys (s : State) (ha : a / 0x10000 = 0) : s.writeReg a v = s.writeSys a v := by
  simp [State.writeReg, ownerBlock, ha]

theorem State.writeReg_ladder (s : State) (ha : a / 0x10000 = 1) : s.writeReg a v = s.writeLadder a v := by
  simp [State.writeReg, ownerBlock, ha]

theorem State.writeReg_enc (s : State) (ha : a / 0x10000 = 12) : s.writeReg a v = s.writeEnc a v := by
  simp [State.writeReg, ownerBlock, ha]

theorem State.writeReg_linegen (hs : s.standby = false) (ha : a / 0x10000 = 13) :
    s.writeReg a v = s.writeLinegen a v := by
  simp [State.writeReg, hs, ha]

theorem State.writeReg_motion (s : State) (ha : a / 0x10000 = 24) : s.writeReg a v = s.writeMotion a v := by
  simp [State.writeReg, ownerBlock, ha]

end

@[simp] theorem low_low {m n : Nat} (hmn : m ≤ n) (v : Nat) : low m (low n v) = low m v :=
  Nat.mod_mod_of_dvd v (Nat.pow_dvd_pow 2 hmn)

/-- A field takes what its width holds of a value. -/
theorem State.set_low (s : State) (f : Fld) (v : Nat) : s.set f (low f.w v) = s.set f v := by
  simp [State.set, low_low]

@[simp] theorem State.elapse_standby (s : State) (t : Nat) : (s.elapse t).standby = s.standby := by simp [State.standby]

@[simp] theorem State.elapse_inUse (s : State) (t p : Nat) : (s.elapse t).inUse p = s.inUse p := by
  simp [State.inUse, State.prints, State.armed, State.linesWait, State.plane]

@[simp] theorem State.elapse_axisPos (s : State) (t : Nat) : (s.elapse t).axisPos = s.axisPos := by
  funext a; simp [State.axisPos, State.axis]

/-! ### The fields of the words that these rows write -/

theorem fieldsAt_clkStatus : fieldsAt 0x138 =
    [Reg.SYS_CLK_STATUS_REFCLK_OK, Reg.SYS_CLK_STATUS_IRO_TIMING, Reg.SYS_CLK_STATUS_LOST] := by decide

theorem fieldsAt_pmbusStatus : fieldsAt 0x10018 = [Reg.LADDER_PMBUS_STATUS_FAULT, Reg.LADDER_PMBUS_STATUS_ERRORS] := by
  decide

theorem fieldsAt_cplHi : ∀ p : Fin 4, fieldsAt (Reg.LINEGEN_PL_CPL_HI p).addr = [Reg.LINEGEN_PL_CPL_HI p] := by decide

theorem fieldsAt_tableCommit : ∀ a : Fin 4, fieldsAt (Reg.MOTION_AX_TABLE_COMMIT_GO a).addr =
    [Reg.MOTION_AX_TABLE_COMMIT_LAST_INDEX a, Reg.MOTION_AX_TABLE_COMMIT_GO a] := by decide

/-- Of CLK_STATUS a 1 in bit 2 clears LOST, and nothing else is written. -/
theorem State.putWord_clkStatus (s : State) : s.putWord 0x138 4 = s.clearOnes Reg.SYS_CLK_STATUS_LOST 1 := by
  unfold State.putWord; rw [fieldsAt_clkStatus]; rfl

theorem State.putWord_pmbusStatus (s : State) : s.putWord 0x10018 1 = s.clearOnes Reg.LADDER_PMBUS_STATUS_FAULT 1 := by
  unfold State.putWord; rw [fieldsAt_pmbusStatus]; rfl

theorem State.putWord_cplHi (s : State) (p : Fin 4) (v : Nat) :
    s.putWord (Reg.LINEGEN_PL_CPL_HI p).addr (low 32 v) = s.set (Reg.LINEGEN_PL_CPL_HI p) v := by
  have hv : bits (low 32 v) 0 32 = low 32 v := by simp [bits, low]
  unfold State.putWord
  rw [fieldsAt_cplHi]
  exact (congrArg _ hv).trans (State.set_low s (Reg.LINEGEN_PL_CPL_HI p) v)

theorem State.putWord_tableCommit (s : State) (a : Fin 4) {last : Nat} (hl : last < 256) :
    s.putWord (Reg.MOTION_AX_TABLE_COMMIT_GO a).addr (last + 2 ^ 31) =
      s.set (Reg.MOTION_AX_TABLE_COMMIT_LAST_INDEX a) last := by
  have hb : bits (last + 2 ^ 31) 0 8 = last := by unfold bits; omega
  unfold State.putWord
  rw [fieldsAt_tableCommit]
  exact congrArg (s.set (Reg.MOTION_AX_TABLE_COMMIT_LAST_INDEX a)) hb

/-! ### SYS and LADDER rows -/

/-- A write of 1 leaves a field's bit 0 only where hardware set it at this instant (R3). -/
theorem State.flag_clearOnes_one (s : State) (f : Fld) :
    (s.clearOnes f 1).flag f = (s.flag f && bit (s.justSet f) 0) := by
  have hget : (s.clearOnes f 1).get f = s.get f - (s.get f &&& (1 - (1 &&& s.justSet f))) := by
    simp [State.get, State.clearOnes]
  unfold State.flag
  rw [hget, Nat.one_and_eq_mod_two]
  rcases Nat.mod_two_eq_zero_or_one (s.justSet f) with hj | hj
  · have hodd : s.get f - s.get f % 2 ≠ 1 := by omega
    simp [hj, bit, Nat.and_one_is_mod, hodd]
  · simp [hj, bit]

/-- Another field reads as before. -/
theorem State.get_clearOnes_other {r q : Fld} (hk : q.key ≠ r.key) (x : Nat) :
    (s.clearOnes r x).get q = s.get q := by
  simp [State.get, State.clearOnes, Sparse.get_put_other _ _ _ hk]

/-- A write of GPIO_DIR is refused whole, or sets OUT_EN (R23). -/
theorem State.writeReg_gpioDir (s : State) (v : Nat) : s.writeReg 0x200 (low 32 v) =
    guardWrite s (!s.gpioDirBusy (low 16 v)) stBusy (s.set Reg.SYS_GPIO_DIR_OUT_EN (low 16 v)) := by
  have hw : s.writeReg 0x200 (low 32 v) = s.writeGpioDir (low 16 (low 32 v)) := State.writeReg_sys s rfl
  rw [hw, low_low (by decide)]
  unfold State.writeGpioDir guardWrite
  cases s.gpioDirBusy (low 16 v) <;> rfl

theorem exec_gpioDirWrite {t v : Nat} (hl : Live s) : exec (.gpioDirWrite v t) s =
    .next (if (s.elapse t).gpioDirBusy (low 16 v) then s.elapse t
      else (s.elapse t).set Reg.SYS_GPIO_DIR_OUT_EN (low 16 v)) := by
  refine (regEvent_live hl rfl (by decide)).trans ?_
  rw [State.writeReg_gpioDir, guardWrite_effect (by decide)]
  cases (s.elapse t).gpioDirBusy (low 16 v) <;> rfl

theorem exec_clkStatusLostClear {t : Nat} (hl : Live s) : exec (.clkStatusLostClear t) s =
    .next ((s.elapse t).clearOnes Reg.SYS_CLK_STATUS_LOST 1).refclkBack := by
  refine regEvent_writes hl rfl (by decide) ?_
  rw [State.writeReg_sys _ rfl]
  exact congrArg (fun u : State => (stOk, u.refclkBack)) (State.putWord_clkStatus _)

theorem exec_pmbusFaultClear {t : Nat} (hl : Live s) : exec (.pmbusFaultClear t) s =
    .next ((s.elapse t).clearOnes Reg.LADDER_PMBUS_STATUS_FAULT 1) := by
  refine regEvent_writes hl rfl (by decide) ?_
  rw [State.writeReg_ladder _ rfl]
  exact congrArg (fun u : State => (stOk, u)) (State.putWord_pmbusStatus _)

/-- BROKEN_CLEAR clears the marks and streaks named, but those that hardware set at this instant (R3, R439). -/
theorem exec_brokenClear {t mask : Nat} (hl : Live s) :
    exec (.brokenClear mask t) s = .next ((s.elapse t).clearBroken mask) := by
  show eventAwake t (fun s => s.clearBroken mask) s = _
  rw [eventAwake_live hl]

/-! ### ENC rows -/

theorem State.writeReg_cmpPosLo (s : State) (k : Fin 8) (v : Nat) :
    s.writeReg (Reg.ENC_CMP_POS_LO k).addr v = (stOk, s.writeCmpLo s.axisPos k v) := by
  have hk := k.isLt
  have ha : (Reg.ENC_CMP_POS_LO k).addr = 0xC0804 + 32 * k := rfl
  generalize (Reg.ENC_CMP_POS_LO k).addr = a at ha ⊢
  have hu : (a - 0xC0000 - 0x800) / 32 = k := by omega
  rw [State.writeReg_enc s (by omega)]
  unfold State.writeEnc
  rw [if_neg (by omega), if_neg (by omega), if_neg (by omega), if_pos (by omega), hu]

theorem exec_cmpPosLoWrite {t v : Nat} (k : Fin 8) (hl : Live s) : exec (.cmpPosLoWrite k v t) s =
    let w := (s.elapse t).cmpKeep k false
    .next (w.writeCmpPos k (sgn 64 (low 32 v + 2 ^ 32 * s.get (Reg.ENC_CMP_POS_HI k))) (w.cmpSource s.axisPos k)) := by
  have hk := k.isLt
  have hw := State.writeReg_cmpPosLo (s.elapse t) k (low 32 v)
  refine (regEvent_writes hl ?_ ?_ hw).trans ?_
  · simp only [Reg.ENC_CMP_POS_LO]; omega
  · simp only [Reg.ENC_CMP_POS_LO, regBytes]; omega
  · simp [State.writeCmpLo]

theorem exec_zFaultClear {t : Nat} (e : Fin 4) (hl : Live s) : exec (.zFaultClear e t) s =
    .next (if s.flag (Reg.ENC_STATUS_WIRE_Z e) then s.elapse t
      else (s.elapse t).clearOnes (Reg.ENC_STATUS_Z_FAULT e) 1) := by
  show eventAwake t (·.clearZFault e) s = _
  rw [eventAwake_live hl]
  simp [State.clearZFault]

theorem exec_ssiStart {t : Nat} (k : Fin 2) (hl : Live s) : exec (.ssiStart k t) s =
    .next (if (s.ssi k).due.isSome then s.elapse t
      else (s.elapse t).modSsi k (fun x => { x with due := some (s.elapse t).now })) := by
  show eventAwake t (·.ssiDue k) s = _
  rw [eventAwake_live hl]
  simp [State.ssiDue, State.ssi]

/-! ### LINEGEN rows -/

theorem State.writeReg_cplHi (hs : s.standby = false) (p : Fin 4) (hu : s.inUse p = false) (v : Nat) :
    s.writeReg (Reg.LINEGEN_PL_CPL_HI p).addr (low 32 v) =
      guardWrite s (cplOk (s.get (Reg.LINEGEN_PL_CPL_LO p) + 2 ^ 32 * low 32 v)) stBadParam
        ((s.set (Reg.LINEGEN_PL_CPL_HI p) v).commitCpl p) := by
  have hp := p.isLt
  have hlo : (Reg.LINEGEN_PL_CPL_LO p).key ≠ (Reg.LINEGEN_PL_CPL_HI p).key := by
    simp only [Fld.key, Reg.LINEGEN_PL_CPL_LO, Reg.LINEGEN_PL_CPL_HI]; omega
  have hput := State.putWord_cplHi s p v
  have ha : (Reg.LINEGEN_PL_CPL_HI p).addr = 0xD0008 + 256 * p := rfl
  generalize (Reg.LINEGEN_PL_CPL_HI p).addr = a at ha hput ⊢
  have h1 : (a - 0xD0000) / 256 = p := by omega
  have h2 : (a - 0xD0000) % 256 = 8 := by omega
  rw [State.writeReg_linegen hs (by omega)]
  unfold State.writeLinegen State.writePlane
  rw [if_pos (by omega), h1, h2, if_neg (by simp [hu]), if_neg (by decide), if_pos rfl, hput,
    State.get_set_other _ hlo, low_low (le_refl 32)]

theorem exec_cplHiWrite {t v : Nat} (p : Fin 4) (hl : Live s) (hs : s.standby = false) (hu : s.inUse p = false) :
    exec (.cplHiWrite p v t) s =
      .next (if cplOk (s.get (Reg.LINEGEN_PL_CPL_LO p) + 2 ^ 32 * low 32 v) = true
        then ((s.elapse t).set (Reg.LINEGEN_PL_CPL_HI p) v).commitCpl p else s.elapse t) := by
  have hp := p.isLt
  have ha : (Reg.LINEGEN_PL_CPL_HI p).addr % 4 = 0 := by simp only [Reg.LINEGEN_PL_CPL_HI]; omega
  have hb : (Reg.LINEGEN_PL_CPL_HI p).addr + 4 ≤ regBytes := by simp only [Reg.LINEGEN_PL_CPL_HI, regBytes]; omega
  refine (regEvent_live hl ha hb).trans ?_
  rw [State.writeReg_cplHi (by simpa using hs) p (by simpa using hu), guardWrite_effect (by decide), State.elapse_get]

theorem exec_defectPop {t : Nat} (hl : Live s) (hs : s.standby = false) :
    exec (.defectPop t) s = .next (s.elapse t).defectPop := by
  refine regEvent_writes hl rfl (by decide) ?_
  rw [State.writeReg_linegen (by simpa using hs) rfl]
  rfl

/-! ### TABLE_COMMIT -/

section
variable {a : Nat} (s : State) (v : Nat)

/-- LAST_INDEX of TABLE_COMMIT lies in a word of its own but for GO. -/
theorem State.get_setLast {f : Fld} (hlo : f.lo < 32) (hf : f.addr ≠ 0x18006C + 256 * a ∨ f.lo ≠ 0) :
    (s.set (Reg.MOTION_AX_TABLE_COMMIT_LAST_INDEX a) v).get f = s.get f := by
  refine State.get_set_other s ?_ v
  simp only [Fld.key, Reg.MOTION_AX_TABLE_COMMIT_LAST_INDEX]; omega

theorem State.flag_setLast {f : Fld} (hlo : f.lo < 32) (hf : f.addr ≠ 0x18006C + 256 * a ∨ f.lo ≠ 0) :
    (s.set (Reg.MOTION_AX_TABLE_COMMIT_LAST_INDEX a) v).flag f = s.flag f := by
  rw [State.flag, State.get_setLast s v hlo hf, State.flag]

theorem State.axisRecord_setLast :
    (s.set (Reg.MOTION_AX_TABLE_COMMIT_LAST_INDEX a) v).axisRecord a = s.axisRecord a := by
  refine List.flatMap_congr fun w hw => congrArg (leBytes 4) (State.get_setLast s v (by simp [Reg.MOTION_AX_CFG_WORD]) ?_)
  have hw := List.mem_range.1 hw
  simp only [Reg.MOTION_AX_CFG_WORD]; omega

theorem State.shadowOk_setLast (last : Nat) :
    (s.set (Reg.MOTION_AX_TABLE_COMMIT_LAST_INDEX a) v).shadowOk a last = s.shadowOk a last := by
  have hb : (s.set (Reg.MOTION_AX_TABLE_COMMIT_LAST_INDEX a) v).activeB a = s.activeB a :=
    State.flag_setLast s v (by simp [Reg.MOTION_AX_TABLE_ACTIVE_SET]) (by simp [Reg.MOTION_AX_TABLE_ACTIVE_SET])
  unfold State.shadowOk
  rw [State.axisRecord_setLast, hb]
  rfl

theorem State.trigUnarmed_setLast (move : Bool) :
    (s.set (Reg.MOTION_AX_TABLE_COMMIT_LAST_INDEX a) v).trigUnarmed a move = s.trigUnarmed a move := by
  have ht : (s.set (Reg.MOTION_AX_TABLE_COMMIT_LAST_INDEX a) v).startTrig a move = s.startTrig a move := by
    unfold State.startTrig; rw [State.axisRecord_setLast]; rfl
  unfold State.trigUnarmed
  rw [ht]
  cases s.startTrig a move with
  | none => rfl
  | some k =>
    exact congrArg (!·) (State.flag_setLast s v (f := Reg.TIME_TRIG_CTRL_ARMED k) (by simp [Reg.TIME_TRIG_CTRL_ARMED])
      (by simp [Reg.TIME_TRIG_CTRL_ARMED]))

end

/-- An axis reads as updated. -/
theorem State.axis_modAxis_same {a : Nat} (s : State) (f : Axis → Axis) (ha : a < s.motion.axes.length) :
    (s.modAxis a f).axis a = f (s.axis a) := modAt_getD_same f _ a _ ha

@[simp] theorem State.axis_set (s : State) (f : Fld) (v a : Nat) : (s.set f v).axis a = s.axis a := rfl
@[simp] theorem State.axis_setB (s : State) (f : Fld) (b : Bool) (a : Nat) : (s.setB f b).axis a = s.axis a := rfl

/-- Marking an axis as waiting changes its WAIT_TRIG and MOVING and forgets a trigger seen, or nothing (R299). -/
theorem State.markWait_table (s : State) (a : Nat) : s.markWait a false = s ∨ s.markWait a false =
    ((s.modAxis a (fun x => { x with trigSeen := false })).setB (Reg.MOTION_AX_STATUS_WAIT_TRIG a) true).setB
      (Reg.MOTION_AX_STATUS_MOVING a) true := by
  unfold State.markWait
  cases s.startTrig a false with
  | none => exact .inl rfl
  | some _ => exact .inr rfl

/-- A write of GO with LAST_INDEX `last`, on an energised axis with its position kept whose shadow table is legal to
`last` and not committed yet, commits it (R298). -/
theorem State.tableGo_setLast {a last : Nat} (hlast : last < 256) (hsh : s.get (Reg.MOTION_AX_TABLE_SHADOW a) ≠ 2)
    (hok : s.shadowOk a last = true) (hen : s.energised a = true)
    (hlost : s.flag (Reg.MOTION_AX_STATUS_LOST a) = false) (htr : s.trigUnarmed a false = false) :
    let w := s.set (Reg.MOTION_AX_TABLE_COMMIT_LAST_INDEX a) last
    w.tableGo a = (stOk, w.commitTable a last 0) := by
  intro w
  have hl : w.get (Reg.MOTION_AX_TABLE_COMMIT_LAST_INDEX a) = last :=
    (State.get_set_same s _ _).trans (Nat.mod_eq_of_lt hlast)
  have hsh' : w.get (Reg.MOTION_AX_TABLE_SHADOW a) ≠ 2 := by
    rwa [State.get_setLast s last (by simp [Reg.MOTION_AX_TABLE_SHADOW]) (by simp [Reg.MOTION_AX_TABLE_SHADOW])]
  have hok' : w.shadowOk a last = true := (State.shadowOk_setLast s last last).trans hok
  have hen' : w.energised a = true := (State.flag_setLast s last (by simp [Reg.MOTION_AX_STATUS_ENERGISED])
    (by simp [Reg.MOTION_AX_STATUS_ENERGISED])).trans hen
  have hlost' : w.flag (Reg.MOTION_AX_STATUS_LOST a) = false :=
    (State.flag_setLast s last (by simp [Reg.MOTION_AX_STATUS_LOST]) (by simp [Reg.MOTION_AX_STATUS_LOST])).trans hlost
  have htr' : w.trigUnarmed a false = false := (State.trigUnarmed_setLast s last false).trans htr
  unfold State.tableGo
  simp [hl, hsh', hok', hen', hlost', htr']

/-- What a commit of the shadow table leaves (R298, R299). -/
theorem State.commitTable_spec (s : State) {a : Nat} (last tag : Nat) (ha : a < s.motion.axes.length) :
    let v := s.commitTable a last tag
    v.get (Reg.MOTION_AX_TABLE_SHADOW a) = 2 ∧ (v.axis a).shadowLast = last ∧ (v.axis a).tableTag = some tag ∧
      v.host = s.host ∧ v.dram = s.dram ∧ v.tab0 = s.tab0 ∧ v.tab1 = s.tab1 ∧ v.heads = s.heads ∧ v.job = s.job := by
  have hw : (Reg.MOTION_AX_TABLE_SHADOW a).key ≠ (Reg.MOTION_AX_STATUS_WAIT_TRIG a).key := by
    simp only [Fld.key, Reg.MOTION_AX_TABLE_SHADOW, Reg.MOTION_AX_STATUS_WAIT_TRIG]; omega
  have hm : (Reg.MOTION_AX_TABLE_SHADOW a).key ≠ (Reg.MOTION_AX_STATUS_MOVING a).key := by
    simp only [Fld.key, Reg.MOTION_AX_TABLE_SHADOW, Reg.MOTION_AX_STATUS_MOVING]; omega
  have h2 : low (Reg.MOTION_AX_TABLE_SHADOW a).w 2 = 2 := rfl
  have hx : ∀ f, ((s.set (Reg.MOTION_AX_TABLE_SHADOW a) 2).modAxis a f).axis a = f (s.axis a) := fun f =>
    State.axis_modAxis_same _ f ha
  unfold State.commitTable
  rcases State.markWait_table ((s.set (Reg.MOTION_AX_TABLE_SHADOW a) 2).modAxis a (fun x => { x with
    shadowLast := last, tableTag := some tag })) a with hk | hk
  · simp [hk, h2, hx]
  · simp [hk, h2, hx, State.get_setB_other _ hw, State.get_setB_other _ hm, State.axis_modAxis_same, ha]

theorem State.writeReg_tableCommit (s : State) (a : Fin 4) {last : Nat} {w : State} (hl : last < 256)
    (hgo : (s.set (Reg.MOTION_AX_TABLE_COMMIT_LAST_INDEX a) last).tableGo a = (stOk, w)) :
    s.writeReg (Reg.MOTION_AX_TABLE_COMMIT_GO a).addr (last + 2 ^ 31) = (stOk, w) := by
  have hk := a.isLt
  have h31 : bit (last + 2 ^ 31) 31 = true := by simp [bit]; omega
  have hput := State.putWord_tableCommit s a hl
  have ha : (Reg.MOTION_AX_TABLE_COMMIT_GO a).addr = 0x18006C + 256 * a := rfl
  generalize (Reg.MOTION_AX_TABLE_COMMIT_GO a).addr = b at ha hput ⊢
  have h1 : (b - 0x180000) / 256 = a := by omega
  rw [State.writeReg_motion s (by omega)]
  unfold State.writeMotion
  rw [if_neg (by omega), if_pos (by omega), if_pos h31, hput, h1, hgo, if_pos rfl]

/-- TABLE_COMMIT of a legal shadow commits it, with the tag 0 of a write that is no command (R298; log 70). -/
theorem exec_tableCommit {t last : Nat} (a : Fin 4) (hl : Live s)
    (hlast : s.get (Reg.MOTION_AX_TABLE_COMMIT_LAST_INDEX a) = last) (h256 : last < 256)
    (hsh : s.get (Reg.MOTION_AX_TABLE_SHADOW a) ≠ 2) (hok : (s.elapse t).shadowOk a last = true)
    (hen : s.energised a = true) (hlost : s.flag (Reg.MOTION_AX_STATUS_LOST a) = false)
    (htr : (s.elapse t).trigUnarmed a false = false) : exec (.tableCommit a t) s =
      .next (((s.elapse t).set (Reg.MOTION_AX_TABLE_COMMIT_LAST_INDEX a) last).commitTable a last 0) := by
  have hlt := a.isLt
  have ha : (Reg.MOTION_AX_TABLE_COMMIT_GO a).addr % 4 = 0 := by simp only [Reg.MOTION_AX_TABLE_COMMIT_GO]; omega
  have hb : (Reg.MOTION_AX_TABLE_COMMIT_GO a).addr + 4 ≤ regBytes := by
    simp only [Reg.MOTION_AX_TABLE_COMMIT_GO, regBytes]; omega
  have hgo := State.tableGo_setLast (s := s.elapse t) h256 (by simpa using hsh) hok
    (by simpa [State.energised] using hen) (by simpa using hlost) htr
  show execTableCommit a t s = _
  unfold execTableCommit
  rw [eventAwake_live hl, State.elapse_get, hlast, State.hostWrite_register _ (rangeOk_register ha hb),
    State.writeReg_tableCommit _ a h256 hgo, if_pos rfl]

/-! ### The rows -/

/-- Settles O36: each row's write, taken through its register block. -/
theorem registerWriteRowsComplete : Obligations.RegisterWriteRowsComplete := by
  intro t s hl
  refine ⟨fun a v _ _ hok => eventAwake_hostWrite hl hok, eventAwake_live hl, fun v => exec_gpioDirWrite hl,
    ⟨?_, ?_⟩, fun k v => exec_cmpPosLoWrite k hl, fun e => exec_zFaultClear e hl, fun k => exec_ssiStart k hl,
    fun p v hs hpr har => ?_, fun hs => exec_defectPop hl hs, fun mask => exec_brokenClear hl, exec_pmbusFaultClear hl,
    fun a => ?_⟩
  · have hclk : ((s.elapse t).clearOnes Reg.SYS_CLK_STATUS_LOST 1).flag Reg.SYS_CLK_STATUS_REFCLK_OK =
        s.flag Reg.SYS_CLK_STATUS_REFCLK_OK := by
      rw [State.flag, State.get_clearOnes_other (by decide), State.elapse_get, State.flag]
    rw [exec_clkStatusLostClear hl, State.refclkBack, hclk]
  · rw [State.flag_clearOnes_one, State.elapse_flag]
  · have hw := exec_cplHiWrite (t := t) (v := v) p hl hs (by simp [State.inUse, hpr, har])
    exact ⟨fun hc => by rw [hw, if_pos hc], fun hc => by rw [hw, if_neg (by rw [hc]; decide)]⟩
  · intro last hlast hsh hok hen hlost htr ha
    exact ⟨_, exec_tableCommit a hl rfl hlast hsh hok hen hlost htr, by
      simpa using State.commitTable_spec ((s.elapse t).set (Reg.MOTION_AX_TABLE_COMMIT_LAST_INDEX a) last) last 0
        (by simpa using ha)⟩

end Sys2Proof.Machine
end

section
/-! SUPPORT. The statement on the clocks, the supplies and the tick of the observers. -/

namespace Sys2Proof.Machine

/-! ### The tick of the observers -/

/-- The tick of the observers in L0 to L2. -/
theorem exec_observerTick {t : Nat} {s : State} (hr : Running s) (hc : s.get Reg.LADDER_STATE < 3) :
    exec (.observerTick t) s = .next (s.elapse t).tick := by
  have hcounts : (s.elapse t).encCounts = true := by simpa [State.encCounts] using hc
  show event t (fun s => s.when s.encCounts State.tick) s = _
  rw [event_running hr, hcounts, State.when_true]

/-- Lines are committed on printing planes only (R116). -/
theorem State.commitTick_idle {s : State} (h : ∀ p < 4, s.prints p = false) : s.commitTick = s := by
  unfold State.commitTick
  refine List.foldlRecOn (motive := (· = s)) _ _ rfl fun u hu p hp => ?_
  subst hu
  exact if_neg (by simp [h p (List.mem_range.1 hp)])

/-- The terms of the speed request take two fields. -/
theorem State.get_wspdTerms (s : State) {f : Fld} (hs : f.key ≠ Reg.LINEGEN_WSPD_TERMS_STREAM.key)
    (ho : f.key ≠ Reg.LINEGEN_WSPD_TERMS_OVERSPEED.key) : s.wspdTerms.get f = s.get f :=
  (State.get_set_other _ ho _).trans (State.get_set_other _ hs _)

/-- Right after reset, plane 0 with a loaded table whose flip waits, as it does once the READY partner for which the flip
was held is lost (R180, R412). -/
def flipWaits : State := State.reset.set (Reg.HTONE_PL_TABLES_PENDING 0) 1

/-- That state after the steps of the observers. -/
def flipWaitsObserved : State := (List.range 4).foldl State.encTick flipWaits

/-- No plane prints and no job is there, so of the tick there remain the observers, the flips and the speed terms. -/
theorem tick_flipWaits : flipWaits.tick = flipWaitsObserved.freeFlips.wspdTerms := by
  have hidle : ∀ p < 4, flipWaitsObserved.freeFlips.prints p = false := by
    intro p hp
    interval_cases p <;> rfl
  exact congrArg State.wspdTerms (State.commitTick_idle hidle)

/-- Refutes O41: its last clause leaves out the flips of R180. With no job, a tick also flips a table whose flip waits and
is no longer held, so its PENDING bit is 0 after the tick, not 1. -/
theorem not_clockEventsComplete : ¬ Obligations.ClockEventsComplete := by
  intro h
  obtain ⟨-, -, -, -, -, -, -, htick⟩ := h 0 flipWaits
  have hrun : exec (.observerTick 0) flipWaits = .next flipWaits.tick := exec_observerTick rfl (by decide)
  have hsame := Host.Outcome.next.inj (hrun.symm.trans (htick rfl (by decide) rfl rfl))
  have hflipped : flipWaitsObserved.freeFlips.get (Reg.HTONE_PL_TABLES_PENDING 0) = 0 := by decide
  have hwaits : flipWaitsObserved.get (Reg.HTONE_PL_TABLES_PENDING 0) = 1 := by decide
  have hpend := congrArg (State.get · (Reg.HTONE_PL_TABLES_PENDING 0)) (tick_flipWaits.symm.trans hsame)
  have hflip := ((State.get_wspdTerms _ (by decide) (by decide)).symm.trans hpend).trans
    (State.get_wspdTerms _ (by decide) (by decide))
  exact absurd (hflipped.symm.trans (hflip.trans hwaits)) (by decide)

end Sys2Proof.Machine
end

section
/-! SUPPORT. What the stages of a line leave alone: time, the issued lines, the jobs, and the registers that give a line
its position. -/

namespace Sys2Proof.Machine

/-! ### Operations that leave the print path as it is -/

/-- A field outside PAIR.STATUS, which holds ROLE, and outside the DELAY words of the planes. -/
abbrev Fld.offPath (f : Fld) : Prop :=
  f.lo < 32 ∧ f.addr ≠ 0x1C0004 ∧ (f.addr < 0xD0000 ∨ 0xD0400 ≤ f.addr ∨ f.addr % 256 ≠ 0x0C)

/-- Nothing that decides which line is issued next, and where it fires, differs. -/
structure Quiet (s u : State) : Prop where
  time : u.time = s.time
  line : u.line = s.line
  running : u.job.running = s.job.running
  queued : u.job.queued = s.job.queued
  act : u.act = s.act
  role : u.get Reg.PAIR_STATUS_ROLE = s.get Reg.PAIR_STATUS_ROLE
  delay : ∀ p < 4, u.get (Reg.LINEGEN_PL_DELAY p) = s.get (Reg.LINEGEN_PL_DELAY p)

theorem Quiet.trans {s u v : State} (h : Quiet s u) (k : Quiet u v) : Quiet s v :=
  ⟨k.time.trans h.time, k.line.trans h.line, k.running.trans h.running, k.queued.trans h.queued, k.act.trans h.act,
    k.role.trans h.role, fun p hp => (k.delay p hp).trans (h.delay p hp)⟩

/-- An update of other parts of the state. -/
theorem Quiet.of_parts {s u : State} (h : (u.time, u.line, u.job.running, u.job.queued, u.act, u.regs) =
    (s.time, s.line, s.job.running, s.job.queued, s.act, s.regs)) : Quiet s u := by
  simp only [Prod.mk.injEq] at h
  obtain ⟨ht, hl, hr, hq, ha, hg⟩ := h
  have hget : ∀ f, u.get f = s.get f := fun f => by simp [State.get, hg]
  exact ⟨ht, hl, hr, hq, ha, hget _, fun _ _ => hget _⟩

theorem Quiet.refl (s : State) : Quiet s s := .of_parts rfl

theorem Quiet.ite {s u v : State} {c : Prop} [Decidable c] (hu : Quiet s u) (hv : Quiet s v) :
    Quiet s (if c then u else v) := by
  split
  · exact hu
  · exact hv

/-- A fold of steps that leave the print path leaves it. -/
theorem Quiet.foldl {α : Type} {f : State → α → State} {l : List α} (hf : ∀ s, ∀ a ∈ l, Quiet s (f s a)) (s : State) :
    Quiet s (l.foldl f s) :=
  List.foldlRecOn (motive := Quiet s) l f (.refl s) fun u hu a ha => hu.trans (hf u a ha)

/-- A write of a field off the path; `setB`, `setS`, `inc` and `incSat` are such writes. -/
theorem Quiet.set (s : State) {f : Fld} (hf : f.offPath) (v : Nat) : Quiet s (s.set f v) := by
  obtain ⟨hlo, hrole, hdelay⟩ := hf
  refine ⟨rfl, rfl, rfl, rfl, rfl, State.get_set_other s ?_ v, fun p hp => State.get_set_other s ?_ v⟩
  · simp only [Fld.key, Reg.PAIR_STATUS_ROLE]; omega
  · simp only [Fld.key, Reg.LINEGEN_PL_DELAY]; omega

/-! ### Events -/

section
variable (s : State)

theorem Quiet.onlyHost {s u : State} (h : OnlyHost s u) (hg : ∀ q : Fld, q.key ∉ eventFields → u.get q = s.get q) :
    Quiet s u := by
  obtain ⟨k, r, f, rfl⟩ := h
  refine ⟨rfl, rfl, rfl, rfl, rfl, hg _ (by decide), fun p hp => hg _ ?_⟩
  simp only [eventFields, Fld.key, Reg.LINEGEN_PL_DELAY, Reg.LOG_STATUS_DROPPED, Reg.CMD_ERR_COUNT_EVT_LOST,
    List.mem_cons, List.not_mem_nil, or_false]
  omega

theorem Quiet.raise (c n : Nat) (a : List Byte) : Quiet s (s.raise c n a) :=
  .onlyHost (State.raise_onlyHost s c n a) fun _ => State.raise_get s c n a

theorem Quiet.windowEnd (c n : Nat) : Quiet s (s.windowEnd c n) := by
  unfold State.windowEnd
  split
  · exact .refl s
  · exact .ite (.of_parts rfl) ((Quiet.raise s _ _ _).trans (.of_parts rfl))

theorem Quiet.raiseLimited (c n k : Nat) (a : List Byte) : Quiet s (s.raiseLimited c n k a) := by
  have hold : Quiet s (match s.window? c n with
      | some w => if w.endAt ≤ s.now then s.windowEnd c n else s
      | none => s) := by
    split
    · exact .ite (.windowEnd s c n) (.refl s)
    · exact .refl s
  have hnew : ∀ u : State, Quiet u ((u.raise c n (u.limitedArgs c k a)).putWindow ⟨c, n, u.now + limitWindow c, 0, []⟩) :=
    fun u => (Quiet.raise u _ _ _).trans (.of_parts rfl)
  have hnext : ∀ u : State, Quiet u (match u.window? c n with
      | some w =>
        if u.now < w.endAt then u.putWindow { w with held := w.held + k, args := if w.held = 0 then a else w.args }
        else (u.raise c n (u.limitedArgs c k a)).putWindow ⟨c, n, u.now + limitWindow c, 0, []⟩
      | none => (u.raise c n (u.limitedArgs c k a)).putWindow ⟨c, n, u.now + limitWindow c, 0, []⟩) := by
    intro u
    split
    · exact .ite (.of_parts rfl) (hnew u)
    · exact hnew u
  exact hold.trans (hnext _)

/-! ### Memory -/

theorem Quiet.meetCe (b : Nat) : Quiet s (s.meetCe b) := by
  have hset : Quiet s (((s.incSat Reg.ECC_CE_COUNT 1).set Reg.ECC_CE_LAST_LO b).set Reg.ECC_CE_LAST_HI (b / 2 ^ 32)) :=
    ((Quiet.set s (by decide) _).trans (.set _ (by decide) _)).trans (.set _ (by decide) _)
  exact .ite hset (hset.trans (.of_parts rfl))

theorem Quiet.meetCes (a n : Nat) : Quiet s (s.meetCes a n) := .foldl (fun s b _ => .meetCe s b) s

theorem Quiet.logUe (b req plane line : Nat) (web : Int) : Quiet s (s.logUe b req plane line web) := by
  have hnew : ∀ (u : State) (a : List Byte), Quiet s u → Quiet s (u.raiseLimited evMemUncorrectable 0 1 a) :=
    fun u a hu => hu.trans (.raiseLimited u _ _ _ a)
  unfold State.logUe
  split
  · split
    · exact .of_parts rfl
    · split
      · exact .set s (by decide) _
      · exact hnew _ _ (.of_parts rfl)
  · exact hnew _ _ (.of_parts rfl)

theorem Quiet.meetUe (b req plane line : Nat) (web : Int) : Quiet s (s.meetUe b req plane line web) :=
  .ite (.refl s) (.ite (.set s (by decide) _) ((Quiet.set s (by decide) _).trans (.logUe _ _ _ _ _ _)))

theorem Quiet.meetUes (bs : List Nat) (req : Nat) : Quiet s (s.meetUes bs req) :=
  .foldl (fun s b _ => .meetUe s b _ _ _ _) s

theorem Quiet.undefine (a n : Nat) : Quiet s (s.undefine a n) := .ite (.refl s) (.of_parts rfl)

theorem Quiet.storePiece (p : Nat × List Byte) : Quiet s (s.storePiece p) := by
  have hvalid : Quiet s (if s.initRegion (p.1 / regionBytes) then s.setValid (p.1 / regionBytes) true else s) :=
    .ite (.of_parts rfl) (.refl s)
  unfold State.storePiece
  dsimp only
  refine hvalid.trans ?_
  generalize (if s.initRegion (p.1 / regionBytes) then s.setValid (p.1 / regionBytes) true else s) = u
  split
  · exact .of_parts rfl
  · split
    · exact (Quiet.undefine u _ _).trans (.of_parts rfl)
    · exact .of_parts rfl

theorem Quiet.rmwRead (b : Nat) : Quiet s (s.rmwRead b) :=
  .ite ((Quiet.meetCe s b).trans (.of_parts rfl)) (.refl s)

theorem Quiet.startFill (r : Nat) : Quiet s (s.startFill r) := .ite (.refl s) (.of_parts rfl)

theorem Quiet.writePiece (p : Nat × List Byte) : Quiet s (s.writePiece p).1 := by
  unfold State.writePiece
  dsimp only
  split
  · exact .storePiece s p
  · split
    · split
      · exact .storePiece s p
      · split
        · exact .refl s
        · exact (Quiet.rmwRead s _).trans (.storePiece _ p)
    · exact (Quiet.startFill s _).trans (.of_parts rfl)

theorem Quiet.writePieces (ps : List (Nat × List Byte)) (s : State) : Quiet s (s.writePieces ps).1 := by
  induction ps generalizing s with
  | nil => exact .refl s
  | cons p ps ih => exact (Quiet.writePiece s p).trans (ih _)

theorem Quiet.showQueues : Quiet s s.showQueues := by
  refine .foldl (fun u c hc => ?_) s
  have hc8 := List.mem_range.1 hc
  have hw : Quiet u (u.set (Reg.MEMCTL_CH_STATUS_WRITES c)
      (min ((u.mem.writes.filter (fun w => w.ch == c)).length) 64)) :=
    .set u (by simp only [Fld.offPath, Reg.MEMCTL_CH_STATUS_WRITES]; omega) _
  refine .ite ((hw.trans (.set _ ?_ _)).trans (.set _ ?_ _)) hw
  · simp only [Fld.offPath, Reg.MEMCTL_CH_STATUS_DRAIN]; omega
  · simp only [Fld.offPath, Reg.MEMCTL_CH_DRAINS_COUNT]; omega

theorem Quiet.queueReqs (ws : List WReq) : Quiet s (s.queueReqs ws) := by
  unfold State.queueReqs
  refine Quiet.trans ?_ (.showQueues _)
  exact .of_parts rfl

theorem Quiet.writeMem (mirror : Bool) (a : Nat) (bs : List Byte) : Quiet s (s.writeMem mirror a bs).1 := by
  have hpieces := Quiet.writePieces (piecesOf bs.length a bs) s
  unfold State.writeMem
  dsimp only
  generalize s.writePieces (piecesOf bs.length a bs) = r at hpieces ⊢
  exact hpieces.trans (.queueReqs r.1 _)

end

/-! ### The loops and the tables of a plane -/

section
variable (s : State) {p : Nat}

theorem Quiet.modLoop (f : LoopPlane → LoopPlane) : Quiet s (s.modLoop p f) := .of_parts rfl

theorem Quiet.workWrite (off : Nat) (bs : List Byte) : Quiet s (s.workWrite p off bs) := by
  have hwrite := Quiet.writeMem s s.mirrors (s.workAddr p + off) bs
  unfold State.workWrite
  split
  · generalize s.writeMem s.mirrors (s.workAddr p + off) bs = r at hwrite ⊢
    exact hwrite.trans (.meetUes r.1 r.2 9)
  · exact .refl s

theorem Quiet.showCorr : Quiet s (s.showCorr p) := by
  refine .foldl (fun u i hi => .set u ?_ _) s
  have hi8 := List.mem_range.1 hi
  simp only [Fld.offPath, Reg.MEASURE_PL_CORR]; omega

theorem Quiet.waitMark : Quiet s (s.waitMark p) := .modLoop s _

theorem Quiet.takeRef : Quiet s (s.takeRef p) := .workWrite s _ _

theorem Quiet.zeroMisses : Quiet s (s.zeroMisses p) := .workWrite s _ _

theorem Quiet.zeroCorr : Quiet s (s.zeroCorr p) := (Quiet.modLoop s _).trans (.showCorr _)

theorem Quiet.loopFlip (table : Nat) (xoff : List Int) : Quiet s (s.loopFlip p table xoff) := by
  unfold State.loopFlip
  dsimp only
  generalize hu : s.modLoop p (fun x => { x with loads := x.loads.filter (· != table) }) = u
  have hloads : Quiet s u := hu ▸ .modLoop s _
  have hwait : Quiet u (if table = 0 ∨ table = 3 ∨ table = 4 then u.waitMark p else u) :=
    .ite (.waitMark u) (.refl u)
  refine hloads.trans (hwait.trans ?_)
  generalize (if table = 0 ∨ table = 3 ∨ table = 4 then u.waitMark p else u) = v
  split
  · exact .refl v
  · split
    · exact (Quiet.takeRef v).trans (.zeroCorr _)
    · split
      · exact .modLoop v _
      · split
        · exact .zeroMisses v
        · exact .refl v

theorem Quiet.deadEvents (total : Nat) : Quiet s (s.deadEvents p total) :=
  (Quiet.modLoop s _).trans (.foldl (fun u _ _ => .raise u _ _ _) _)

theorem Quiet.tableFlip (hp : p < 4) (table line : Nat) : Quiet s (s.tableFlip p table line) := by
  have hxoff : ∀ (u : State) (v : State → Nat → Int), Quiet u ((List.range 48).foldl (fun s h =>
      s.setS (Reg.HTONE_PL_XOFF_OFFSET p h) (v s h)) u) := by
    refine fun u v => .foldl (fun w h hh => .set w ?_ _) u
    have hh48 := List.mem_range.1 hh
    simp only [Fld.offPath, Reg.HTONE_PL_XOFF_OFFSET]; omega
  unfold State.tableFlip
  dsimp only
  refine Quiet.trans ?_ (.ite (.deadEvents _ _) (.refl _))
  refine Quiet.trans (Quiet.trans ?_ (.raise _ _ _ _)) (.loopFlip _ _ _)
  refine Quiet.trans ?_ (.ite (hxoff _ _) (.refl _))
  refine ((Quiet.set s ?_ _).trans (.set _ ?_ _)).trans (.set _ ?_ _)
  · simp only [Fld.offPath, Reg.HTONE_PL_TABLES_BANK]; omega
  · simp only [Fld.offPath, Reg.HTONE_PL_TABLES_PENDING]; omega
  · simp only [Fld.offPath, Reg.HTONE_PL_FLIPS_COUNT]; omega

theorem Quiet.tableFlips (hp : p < 4) (line : Nat) (rep : Bool) : Quiet s (s.tableFlips p line rep) :=
  .foldl (fun u t _ => .ite (.tableFlip u hp t line) (.refl u)) s

theorem Quiet.loopIssue (ref : Int) : Quiet s (s.loopIssue p ref) := .modLoop s _

/-! ### What the block shows of jobs, layers and rings -/

theorem Quiet.clipCheck (hp : p < 4) : Quiet s (s.clipCheck p) := by
  refine .ite (.set s ?_ _) (.refl s)
  simp only [Fld.offPath, Reg.COMPOSE_PL_PROT_STATUS_CLIPPED]; omega

theorem Quiet.showJobs : Quiet s s.showJobs := by
  unfold State.showJobs
  dsimp only
  refine Quiet.trans ?_ (((((((Quiet.set _ (by decide) _).trans (.set _ (by decide) _)).trans (.set _ (by decide) _)).trans
    (.set _ (by decide) _)).trans (.set _ (by decide) _)).trans (.set _ (by decide) _)).trans (.set _ (by decide) _))
  refine .foldl (fun u p hp => ?_) s
  have hp4 := List.mem_range.1 hp
  refine Quiet.trans ((Quiet.set u ?_ _).trans (.set _ ?_ _))
    (.ite (.refl _) ((Quiet.set _ ?_ _).trans (.set _ ?_ _)))
  · simp only [Fld.offPath, Reg.LINEGEN_PL_STATUS_PRINTING]; omega
  · simp only [Fld.offPath, Reg.LINEGEN_PL_STATUS_ARMED]; omega
  · simp only [Fld.offPath, Reg.LINEGEN_PL_STATUS_HALTED]; omega
  · simp only [Fld.offPath, Reg.LINEGEN_PL_STATUS_REVERSED]; omega

theorem Quiet.modRing (f : Ring → Ring) : Quiet s (s.modRing p f) := .of_parts rfl

theorem Quiet.showRing (hp : p < 4) : Quiet s (s.showRing p) := by
  refine (Quiet.set s ?_ _).trans (.set _ ?_ _)
  · simp only [Fld.offPath, Reg.JOB_RING_STATUS_BOUND]; omega
  · simp only [Fld.offPath, Reg.JOB_RING_STATUS_LOW]; omega

theorem Quiet.streamLow (hp : p < 4) (b : Binding) : Quiet s (s.streamLow p b) := by
  unfold State.streamLow
  exact (Quiet.showRing s hp).trans (.ite (.refl _) ((Quiet.modRing _ _).trans (.raise _ _ _ _)))

/-! ### The data of a line -/

theorem Quiet.produce (b : Binding) (k base : Nat) (last : Bool) (ref : Int) :
    Quiet s (s.produce p b k base last ref).1 := by
  unfold State.produce
  dsimp only
  refine Quiet.trans (Quiet.trans (.foldl (fun u _ _ => .meetCes u _ _) s) (.foldl (fun u _ _ => .meetUe u _ _ _ _ _) _))
    (.of_parts rfl)

end

/-! ### The stages of an issue -/

/-- A started job of a number, with the index of its next line on a plane. -/
def State.hasJob (s : State) (p seq n : Nat) : Prop :=
  ∃ j, (s.job.running = some j ∨ s.job.queued = some j) ∧ j.seq = seq ∧ j.started = true ∧ j.planes.length = 4 ∧
    (j.plane p).next = n

/-- A stage of an issue on plane `p` leaves time, ROLE, the issued lines, the positions of lines, and the jobs' next
lines. -/
structure IssueStage (p : Nat) (s u : State) : Prop where
  time : u.time = s.time
  role : u.get Reg.PAIR_STATUS_ROLE = s.get Reg.PAIR_STATUS_ROLE
  planes : u.line.planes.length = s.line.planes.length
  lines : (u.plane p).lines = (s.plane p).lines
  ref : ∀ st k, u.ref p st k = s.ref p st k
  jobs : ∀ seq n, s.hasJob p seq n → u.hasJob p seq n

section
variable {p : Nat} {s u v : State}

theorem IssueStage.refl (s : State) : IssueStage p s s := ⟨rfl, rfl, rfl, rfl, fun _ _ => rfl, fun _ _ h => h⟩

theorem IssueStage.trans (h : IssueStage p s u) (k : IssueStage p u v) : IssueStage p s v :=
  ⟨k.time.trans h.time, k.role.trans h.role, k.planes.trans h.planes, k.lines.trans h.lines,
    fun st n => (k.ref st n).trans (h.ref st n), fun seq n hj => k.jobs seq n (h.jobs seq n hj)⟩

theorem IssueStage.ite {c : Prop} [Decidable c] (hu : IssueStage p s u) (hv : IssueStage p s v) :
    IssueStage p s (if c then u else v) := by
  split
  · exact hu
  · exact hv

/-- The position of a line rests on CPL in force and on DELAY. -/
theorem State.ref_congr (hlo : u.getA (Reg.LINEGEN_PL_CPL_LO p) = s.getA (Reg.LINEGEN_PL_CPL_LO p))
    (hhi : u.getA (Reg.LINEGEN_PL_CPL_HI p) = s.getA (Reg.LINEGEN_PL_CPL_HI p))
    (hd : u.get (Reg.LINEGEN_PL_DELAY p) = s.get (Reg.LINEGEN_PL_DELAY p)) (st : Int) (k : Nat) :
    u.ref p st k = s.ref p st k := by
  simp [State.ref, State.cpl, hlo, hhi, hd]

theorem Quiet.issueStage (hp : p < 4) (h : Quiet s u) : IssueStage p s u where
  time := h.time
  role := h.role
  planes := by rw [h.line]
  lines := by simp [State.plane, h.line]
  ref := State.ref_congr (by simp [State.getA, h.act]) (by simp [State.getA, h.act]) (h.delay p hp)
  jobs := fun _ _ hj => by simpa [State.hasJob, h.running, h.queued] using hj

theorem State.plane_modPlane_same (s : State) (f : PlaneSt → PlaneSt) (hp : p < s.line.planes.length) :
    (s.modPlane p f).plane p = f (s.plane p) := modAt_getD_same f _ p _ hp

/-- A change of a plane that keeps its issued lines. -/
theorem IssueStage.modPlane (s : State) {f : PlaneSt → PlaneSt} (hp : p < s.line.planes.length)
    (hf : ∀ x, (f x).lines = x.lines) : IssueStage p s (s.modPlane p f) where
  time := rfl
  role := rfl
  planes := modAt_length f p _
  lines := by rw [State.plane_modPlane_same s f hp, hf]
  ref := fun _ _ => rfl
  jobs := fun _ _ hj => hj

/-- A change of a plane of a job. -/
theorem JobRun.plane_modPlane_same {j : JobRun} (f : JobPlane → JobPlane) (hp : p < j.planes.length) :
    (j.modPlane p f).plane p = f (j.plane p) := modAt_getD_same f _ p _ hp

/-- A job after a change of the job of its number. -/
theorem State.hasJob_modJob {seq n m : Nat} {f : JobRun → JobRun} (hj : s.hasJob p seq n)
    (hf : ∀ j : JobRun, j.seq = seq → j.started = true → j.planes.length = 4 → (j.plane p).next = n →
      (f j).seq = seq ∧ (f j).started = true ∧ (f j).planes.length = 4 ∧ ((f j).plane p).next = m) :
    (s.modJob seq f).hasJob p seq m := by
  obtain ⟨j, hin, hseq, hst, hlen, hnext⟩ := hj
  refine ⟨f j, ?_, hf j hseq hst hlen hnext⟩
  rcases hin with hin | hin
  · exact .inl (by simp [State.modJob, hin, hseq])
  · exact .inr (by simp [State.modJob, hin, hseq])

/-- The next lines of the other jobs stay. -/
theorem State.hasJob_modJob_other {seq seq' n : Nat} {f : JobRun → JobRun} (hne : seq' ≠ seq) (hj : s.hasJob p seq' n) :
    (s.modJob seq f).hasJob p seq' n := by
  obtain ⟨j, hin, hseq, hrest⟩ := hj
  have hj : j.seq ≠ seq := hseq ▸ hne
  refine ⟨j, ?_, hseq, hrest⟩
  rcases hin with hin | hin
  · exact .inl (by simp [State.modJob, hin, hj])
  · exact .inr (by simp [State.modJob, hin, hj])

/-- A change of a job that keeps its number, its start and its next line. -/
theorem IssueStage.modJob (s : State) {seq : Nat} {f : JobRun → JobRun}
    (hf : ∀ j : JobRun, j.planes.length = 4 → (f j).seq = j.seq ∧ (j.started = true → (f j).started = true) ∧
      (f j).planes.length = 4 ∧ ((f j).plane p).next = (j.plane p).next) : IssueStage p s (s.modJob seq f) where
  time := rfl
  role := rfl
  planes := rfl
  lines := rfl
  ref := fun _ _ => rfl
  jobs := fun seq' n hj => by
    by_cases hs : seq' = seq
    · subst hs
      refine State.hasJob_modJob hj fun j hseq hst hlen hnext => ?_
      obtain ⟨h1, h2, h3, h4⟩ := hf j hlen
      exact ⟨h1.trans hseq, h2 hst, h3, h4.trans hnext⟩
    · exact State.hasJob_modJob_other hs hj

/-- A change of the job's own record of the plane that keeps its next line. -/
theorem IssueStage.modJobPlane (s : State) (hp : p < 4) {seq : Nat} {g : JobPlane → JobPlane}
    (hg : ∀ x, (g x).next = x.next) : IssueStage p s (s.modJob seq (·.modPlane p g)) := by
  refine .modJob s fun j hlen => ⟨rfl, id, (modAt_length g p _).trans hlen, ?_⟩
  rw [JobRun.plane_modPlane_same g (by omega), hg]

/-- A flip of fields above the words of the planes leaves CPL. -/
theorem IssueStage.flipAll (hp : p < 4) {fs : List Fld} (hfs : ∀ f ∈ fs, 0xD0400 ≤ f.addr) (s : State) :
    IssueStage p s (s.flipAll fs) := by
  refine List.foldlRecOn (motive := IssueStage p s) fs State.flip (.refl s) fun u hu f hf => hu.trans ?_
  have haddr := hfs f hf
  have hlo : (Reg.LINEGEN_PL_CPL_LO p).key ≠ f.key := by simp only [Fld.key, Reg.LINEGEN_PL_CPL_LO]; omega
  have hhi : (Reg.LINEGEN_PL_CPL_HI p).key ≠ f.key := by simp only [Fld.key, Reg.LINEGEN_PL_CPL_HI]; omega
  exact ⟨rfl, rfl, rfl, rfl, State.ref_congr (State.getA_flip_other u hlo) (State.getA_flip_other u hhi) rfl,
    fun _ _ hj => hj⟩

/-- The fields of a layer that flip lie in the COMPOSE block. -/
theorem layerFlips_addr (p : Nat) :
    ∀ f ∈ varGroup p ++ ovlGroup p ++ kiteGroup p ++ kitePosGroup p, 0xD0400 ≤ f.addr := by
  simp only [varGroup, ovlGroup, kiteGroup, kitePosGroup, List.cons_append, List.nil_append, List.forall_mem_cons,
    List.not_mem_nil, false_imp_iff, implies_true, and_true]
  and_intros <;> exact Nat.le_add_right_of_le (by decide)

theorem hoffGroup_addr (p : Nat) : ∀ f ∈ hoffGroup p, 0xD0400 ≤ f.addr := by
  intro f hf
  obtain ⟨h, -, rfl⟩ := List.mem_map.1 hf
  simp only [Reg.LINEGEN_PL_HOFF_OFFSET]; omega

theorem IssueStage.lineFlips (hp : p < 4) (rep : Bool) (s : State) : IssueStage p s (s.lineFlips p rep) := by
  have hgroups := layerFlips_addr p
  simp only [List.mem_append, or_imp, forall_and] at hgroups
  obtain ⟨⟨⟨hvar, hovl⟩, hkite⟩, hpos⟩ := hgroups
  have hgo : ∀ {fs : List Fld} (u : State) (c : Prop) [Decidable c], (∀ f ∈ fs, 0xD0400 ≤ f.addr) →
      IssueStage p u (if c then u.flipAll fs else u) := fun u c _ h => .ite (.flipAll hp h u) (.refl u)
  unfold State.lineFlips
  exact ((((hgo s _ hvar).trans (hgo _ _ hovl)).trans (hgo _ _ hkite)).trans (hgo _ _ hpos)).trans
    (.flipAll hp (hoffGroup_addr p) _)

/-- A check pass starts, or not. -/
theorem IssueStage.startPass (hp : p < 4) (s : State) (hlen : s.line.planes.length = 4) (rep : Nat) :
    IssueStage p s (s.startPass p rep) := by
  have hslow : (Reg.COMPOSE_PL_PROT_STATUS_SLOW p).offPath := by
    simp only [Fld.offPath, Reg.COMPOSE_PL_PROT_STATUS_SLOW]; omega
  have hcheck : (Reg.COMPOSE_PL_PROT_STATUS_CHECKING p).offPath := by
    simp only [Fld.offPath, Reg.COMPOSE_PL_PROT_STATUS_CHECKING]; omega
  refine .ite (.refl s) (.ite ((Quiet.set s hslow _).issueStage hp) ?_)
  refine IssueStage.trans ?_ ((Quiet.set _ hcheck _).issueStage hp)
  exact .modPlane s (by omega) fun _ => rfl

/-- An underrun is counted, shown and told. -/
theorem IssueStage.underrun (hp : p < 4) (s : State) (j : JobRun) (k : Nat) : IssueStage p s (s.underrun p j k) := by
  have hcount : (Reg.JOB_RING_UNDERRUN p).offPath := by
    simp only [Fld.offPath, Reg.JOB_RING_UNDERRUN]; omega
  have hseen : (Reg.JOB_RING_STATUS_UNDERRUN_SEEN p).offPath := by
    simp only [Fld.offPath, Reg.JOB_RING_STATUS_UNDERRUN_SEEN]; omega
  refine IssueStage.trans ?_ ((Quiet.raiseLimited _ _ _ _ _).issueStage hp)
  refine IssueStage.trans ?_ (.modJobPlane _ hp fun _ => rfl)
  exact ((Quiet.set s hcount _).trans (.set _ hseen _)).issueStage hp

/-- A job that issues its first line starts. -/
theorem IssueStage.begin (hp : p < 4) (s : State) (j : JobRun) : IssueStage p s (s.begin j) := by
  refine .ite (.refl s) (IssueStage.trans ?_ (Quiet.issueStage hp (.foldl (fun u q hq => .clipCheck u ?_) _)))
  · exact .modJob s fun _ hlen => ⟨rfl, fun _ => rfl, hlen, rfl⟩
  · exact List.mem_range.1 (List.mem_of_mem_filter hq)

theorem State.hasJob_begin {j : JobRun} (hp : p < 4) (hin : s.job.running = some j ∨ s.job.queued = some j)
    (hlen : j.planes.length = 4) : (s.begin j).hasJob p j.seq (j.plane p).next := by
  unfold State.begin
  split
  · exact ⟨j, hin, rfl, ‹_›, hlen, rfl⟩
  · refine (Quiet.issueStage hp (.foldl (fun u q hq => .clipCheck u ?_) _)).jobs _ _ ?_
    · exact List.mem_range.1 (List.mem_of_mem_filter hq)
    · refine ⟨{ j with started := true }, ?_, rfl, rfl, hlen, rfl⟩
      rcases hin with hin | hin
      · exact .inl (by simp [State.modJob, hin])
      · exact .inr (by simp [State.modJob, hin])

/-! ### Issue of a line (R113) -/

/-- A plane ready for its next line: the job has started, and what flips at the line has flipped. -/
def State.issueReady (s : State) (p : Nat) (j : JobRun) (b : Binding) : State :=
  let k := (j.plane p).next
  let rep := k % b.repeatLines == 0
  let s := (((s.begin j).showJobs).lineFlips p rep).tableFlips p k rep
  let s := s.modPlane p (fun x => { x with alongUse := x.along })
  let s := s.loopIssue p (intPart (s.ref p (j.start.getD 0) k))
  let s := if k = 0 then s.modJob j.seq (·.modPlane p (fun x => { x with ringBase := (s.ring p).consumed })) else s
  if rep then s.startPass p (k / b.repeatLines) else s

/-- The ring row from which a job counts its rows, as its next line finds it. -/
def State.issueBase (s : State) (p : Nat) (j : JobRun) : Nat :=
  if (j.plane p).next = 0 then (s.ring p).consumed else (j.plane p).ringBase

/-- A job's next line is its last. -/
def JobRun.nextIsLast (j : JobRun) (p : Nat) : Bool := !j.below ((j.plane p).next + 1)

/-- The next line needs ring rows that are not committed (R142). -/
def State.issueUnder (s : State) (p : Nat) (j : JobRun) (b : Binding) : Bool :=
  b.use != 0 && (ringRowsOf b (j.plane p).next (s.issueBase p j) (j.nextIsLast p)).any
    (fun r => decide ((s.ring p).committed ≤ r))

/-- The next line's levels, and whether its fetch met an uncorrectable block: none of an underrun line. -/
def State.issueData (s : State) (p : Nat) (j : JobRun) (b : Binding) : State × List (List Nat) × Bool :=
  let k := (j.plane p).next
  if s.issueUnder p j b then (s.underrun p j k, [], false)
  else s.produce p b k (s.issueBase p j) (j.nextIsLast p) (s.ref p (j.start.getD 0) k)

/-- The next line is added to the lines in flight, and the job's index advances. -/
def State.addLine (s : State) (p : Nat) (j : JobRun) (under : Bool) (levels : List (List Nat)) : State :=
  let k := (j.plane p).next
  (s.modPlane p (fun x => { x with lines := x.lines ++ [s.newLine p j k (j.nextIsLast p) under levels] })).modJob j.seq
    (·.modPlane p (fun x => { x with next := k + 1 }))

/-- What follows the line: the lead plane's lines are counted for the checkpoint, and the ring is consumed. -/
def State.afterLine (s : State) (p : Nat) (j : JobRun) (b : Binding) (base : Nat) : State :=
  let s := if p = j.lead then { s with pair := { s.pair with ckptLines := s.pair.ckptLines + 1 } } else s
  if b.use = 0 then s else (s.consumeRing p b (j.plane p).next base (j.nextIsLast p)).streamLow p b

/-- The issue of a line, stage by stage. -/
theorem State.issue_eq (s : State) (p : Nat) (j : JobRun) (b : Binding) : s.issue p j b =
    let r := s.issueReady p j b
    let d := r.issueData p j b
    ((d.1.addLine p j (r.issueUnder p j b) d.2.1).afterLine p j b (r.issueBase p j), d.2.2) := rfl

theorem IssueStage.issueReady (hp : p < 4) (s : State) (hlen : s.line.planes.length = 4) (j : JobRun) (b : Binding) :
    IssueStage p (s.begin j) (s.issueReady p j b) := by
  have hstart : (s.begin j).line.planes.length = 4 := (IssueStage.begin hp s j).planes.trans hlen
  have hflips : ∀ (u : State) (k : Nat) (rep : Bool), IssueStage p u ((u.showJobs.lineFlips p rep).tableFlips p k rep) :=
    fun u k rep => (((Quiet.showJobs u).issueStage hp).trans (.lineFlips hp rep _)).trans
      ((Quiet.tableFlips _ hp k rep).issueStage hp)
  have hbase : ∀ (u : State) (c : Prop) [Decidable c] (n : Nat), IssueStage p u
      (if c then u.modJob j.seq (·.modPlane p (fun x => { x with ringBase := n })) else u) :=
    fun u c _ n => .ite (.modJobPlane u hp fun _ => rfl) (.refl u)
  have hpass : ∀ (u : State) (c : Prop) [Decidable c] (n : Nat), IssueStage p (s.begin j) u →
      IssueStage p (s.begin j) (if c then u.startPass p n else u) :=
    fun u c _ n hu => .ite (hu.trans (.startPass hp u (hu.planes.trans hstart) n)) hu
  have h := hflips (s.begin j) (j.plane p).next ((j.plane p).next % b.repeatLines == 0)
  refine hpass _ _ _ (IssueStage.trans ?_ (hbase _ _ _))
  refine IssueStage.trans ?_ ((Quiet.loopIssue _ _).issueStage hp)
  exact h.trans (.modPlane _ (by rw [h.planes, hstart]; exact hp) fun _ => rfl)

theorem IssueStage.issueData (hp : p < 4) (s : State) (j : JobRun) (b : Binding) :
    IssueStage p s (s.issueData p j b).1 := by
  unfold State.issueData
  dsimp only
  split
  · exact .underrun hp s j _
  · exact (Quiet.produce s b _ _ _ _).issueStage hp

theorem IssueStage.afterLine (hp : p < 4) (s : State) (j : JobRun) (b : Binding) (base : Nat) :
    IssueStage p s (s.afterLine p j b base) := by
  have hlead : ∀ (c : Prop) [Decidable c], Quiet s
      (if c then { s with pair := { s.pair with ckptLines := s.pair.ckptLines + 1 } } else s) :=
    fun c _ => .ite (.of_parts rfl) (.refl s)
  unfold State.afterLine
  refine Quiet.issueStage hp ((hlead _).trans (.ite (.refl _) ?_))
  refine Quiet.trans ?_ (.streamLow _ hp b)
  exact .modRing _ _

/-- What adding a line leaves and gives. -/
theorem State.addLine_spec {j : JobRun} (hp : p < 4) (hlen : s.line.planes.length = 4)
    (hj : s.hasJob p j.seq (j.plane p).next) (under : Bool) (levels : List (List Nat)) :
    let v := s.addLine p j under levels
    v.get Reg.PAIR_STATUS_ROLE = s.get Reg.PAIR_STATUS_ROLE ∧ v.hasJob p j.seq ((j.plane p).next + 1) ∧
      (v.plane p).lines = (s.plane p).lines ++ [s.newLine p j (j.plane p).next (j.nextIsLast p) under levels] := by
  refine ⟨rfl, State.hasJob_modJob (s := s.modPlane p _) hj ?_, ?_⟩
  · intro i hseq hst hlen _
    refine ⟨hseq, hst, (modAt_length _ p _).trans hlen, ?_⟩
    rw [JobRun.plane_modPlane_same _ (by omega)]
  · show ((s.modPlane p _).plane p).lines = _
    rw [State.plane_modPlane_same s _ (by omega)]

/-- The issue of a line adds it behind the lines in flight and advances its job's index. -/
theorem State.issue_spec {j : JobRun} (b : Binding) (hp : p < 4) (hlen : s.line.planes.length = 4)
    (hin : s.job.running = some j ∨ s.job.queued = some j) (hj : j.planes.length = 4) :
    let v := (s.issue p j b).1
    v.get Reg.PAIR_STATUS_ROLE = s.get Reg.PAIR_STATUS_ROLE ∧ v.hasJob p j.seq ((j.plane p).next + 1) ∧
      ∃ l, (v.plane p).lines.getLast? = some l ∧ l.seq = j.seq ∧ l.k = (j.plane p).next ∧ l.issuedAt = s.now ∧
        l.ref = s.ref p (j.start.getD 0) l.k := by
  have hready := (IssueStage.begin hp s j).trans (.issueReady hp s hlen j b)
  have hdata := hready.trans (.issueData hp (s.issueReady p j b) j b)
  have hjob := ((IssueStage.issueReady hp s hlen j b).trans (.issueData hp _ j b)).jobs _ _ (State.hasJob_begin hp hin hj)
  rw [State.issue_eq]
  dsimp only
  generalize s.issueReady p j b = r at hready hdata hjob ⊢
  generalize r.issueData p j b = d at hdata hjob ⊢
  obtain ⟨hrole, hnext, hlines⟩ := State.addLine_spec hp (hdata.planes.trans hlen) hjob (r.issueUnder p j b) d.2.1
  have hafter := IssueStage.afterLine hp (d.1.addLine p j (r.issueUnder p j b) d.2.1) j b (r.issueBase p j)
  refine ⟨hafter.role.trans (hrole.trans hdata.role), hafter.jobs _ _ hnext,
    d.1.newLine p j (j.plane p).next (j.nextIsLast p) (r.issueUnder p j b) d.2.1, ?_, rfl, rfl, ?_, ?_⟩
  · rw [hafter.lines, hlines, List.getLast?_concat]
  · exact congrArg TimeSt.now hdata.time
  · exact hdata.ref _ _

/-- A line is issued for the running or the queued job. -/
theorem State.mayIssue_live {j : JobRun} (h : s.mayIssue p = some j) :
    s.job.running = some j ∨ s.job.queued = some j := by
  have hissue : s.issueJob p = some j := by
    unfold State.mayIssue at h
    split at h
    · exact absurd h (by simp)
    · rename_i i hi
      split at h
      · exact absurd h (by simp)
      · dsimp only at h
        split at h
        · exact hi.trans h
        · exact absurd h (by simp)
  unfold State.issueJob at hissue
  cases hr : s.job.running with
  | none => simp [hr] at hissue
  | some r =>
    simp only [hr] at hissue
    split at hissue
    · exact .inl hissue
    · cases hq : s.job.queued with
      | none => simp [hq] at hissue
      | some i =>
        simp only [hq, Option.ite_none_right_eq_some] at hissue
        exact .inr hissue.2

/-- A job's next line is issued, at a tick that judges no re-reference (R113). -/
theorem State.lineIssue_eq {j : JobRun} {b : Binding} (hmay : s.mayIssue p = some j) (hb : j.binding p = some b)
    (htick : (s.plane p).refTick ≠ some s.now) : s.lineIssue p = s.issue p j b := by
  unfold State.lineIssue
  simp only [hmay, hb, if_neg htick]

/-- On a device that is not the active of a pair, no fault is a pair fault. -/
theorem State.pairFault_other (code : Nat) (hr : s.get Reg.PAIR_STATUS_ROLE ≠ 1) : s.pairFault code = s := if_pos hr

end

/-! ### Time alone -/

section
variable (s : State) (t p : Nat)

@[simp] theorem State.elapse_plane : (s.elapse t).plane p = s.plane p := by simp [State.plane]
@[simp] theorem State.elapse_profile : (s.elapse t).profile p = s.profile p := by simp [State.profile]
@[simp] theorem State.elapse_head : (s.elapse t).head p = s.head p := by simp [State.head]
@[simp] theorem State.elapse_headOf : (s.elapse t).headOf p = s.headOf p := by simp [State.headOf]
@[simp] theorem State.elapse_portUp : (s.elapse t).portUp p = s.portUp p := by simp [State.portUp]
@[simp] theorem State.elapse_ref (st : Int) (k : Nat) : (s.elapse t).ref p st k = s.ref p st k :=
  State.ref_congr (by simp) (by simp) (by simp) st k
@[simp] theorem State.elapse_fifoBytes (h : Nat) : (s.elapse t).fifoBytes p h = s.fifoBytes p h := by
  simp [State.fifoBytes]
@[simp] theorem State.elapse_nextShift (h : Nat) : (s.elapse t).nextShift p h = s.nextShift p h := by
  simp [State.nextShift]
@[simp] theorem State.elapse_jobOf (seq : Nat) : (s.elapse t).jobOf seq = s.jobOf seq := by simp [State.jobOf]
@[simp] theorem State.elapse_lookahead : (s.elapse t).lookahead p = s.lookahead p := by
  unfold State.lookahead
  rw [State.elapse_get, State.elapse_plane]
@[simp] theorem State.elapse_shiftDue (h : Nat) (l : Line) : (s.elapse t).shiftDue p h l = s.shiftDue p h l := by
  unfold State.shiftDue
  rw [State.elapse_jobOf, State.elapse_lookahead]
@[simp] theorem State.elapse_fireInhibit : (s.elapse t).time.fireInhibit = s.time.fireInhibit := by
  unfold State.elapse; split <;> rfl
@[simp] theorem State.elapse_webPos : (s.elapse t).webPos p = s.webPos p := by
  simp [State.webPos, State.enc, State.encOf]
@[simp] theorem State.elapse_markMin : (s.elapse t).markMin = s.markMin := by simp [State.markMin]

end

/-! ### The stages of a line at a port -/

section
variable {s : State} {q p h : Nat} {l : Line}

/-- LINE_ISSUE of the next line of a job. -/
theorem exec_lineIssue {p : Fin 4} {t : Nat} {j : JobRun} {b : Binding} (hl : Live s)
    (hmay : (s.elapse t).mayIssue p = some j) (hb : j.binding p = some b) (hrole : s.get Reg.PAIR_STATUS_ROLE ≠ 1)
    (htick : (s.plane p).refTick ≠ some (s.elapse t).now) (hlen : s.line.planes.length = 4) (hj : j.planes.length = 4) :
    exec (.lineIssue p t) s = .next ((s.elapse t).issue p j b).1 := by
  have hkept := (State.issue_spec b p.isLt (by simpa using hlen) (State.mayIssue_live hmay) hj).1
  show eventAwake t (fun s => if (s.lineIssue p).2 then (s.lineIssue p).1.pairFault 2 else (s.lineIssue p).1) s = _
  rw [eventAwake_live hl, State.lineIssue_eq hmay hb (by simpa using htick)]
  split
  · rw [State.pairFault_other 2 (by rw [hkept]; simpa using hrole)]
  · rfl

/-- The first line that is not ready at a port has room, is late there, or waits (R8, R10). -/
theorem State.toFifo_eq (hq : s.headOf q = some (p, h)) (hl : (s.plane p).lines.find? (fun l => !(l.head h).ready) = some l) :
    s.toFifo q = if (l.head h).slot = false ∧ 32768 < s.fifoBytes p h + pLineBytes (s.profile p) then s
      else (s.modLine p l.seq l.k (·.modHead h (fun x => { x with ready := true }))).forget p := by
  unfold State.toFifo
  simp only [hq, hl, Bool.not_eq_true']

/-- What no change at an index touches reads as before at every index. -/
theorem modAt_getD_kept {α β : Type} {f : α → α} {g : α → β} (hf : ∀ x, g (f x) = g x) (n i : Nat) (l : List α) (d : α) :
    g ((modAt f n l).getD i d) = g (l.getD i d) := by
  by_cases hi : i = n
  · subst hi
    by_cases hlen : i < l.length
    · rw [modAt_getD_same f d i l hlen, hf]
    · simp [List.getD_eq_getElem?_getD, Nat.not_lt.1 hlen]
  · rw [modAt_getD_other f d n i l hi]

@[simp] theorem State.profile_modLine (i seq k : Nat) (f : Line → Line) : (s.modLine i seq k f).profile p = s.profile p :=
  congrArg (·.getD []) (modAt_getD_kept (f := fun x : PlaneSt =>
    { x with lines := x.lines.map (fun l => if l.seq = seq ∧ l.k = k then f l else l) }) (g := PlaneSt.profile)
    (fun _ => rfl) i p s.line.planes _)

@[simp] theorem State.profile_useSlot (i : Nat) : (s.useSlot i h l).profile p = s.profile p := State.profile_modLine ..

/-- The next line of a port that is up and free is shifted, or late (R9, R197, R198). -/
theorem State.shiftStart_eq (hq : s.headOf q = some (p, h)) (hl : s.nextShift p h = some l) (hup : s.portUp q = true)
    (hfree : (s.head q).shift = none) (hfrom : (s.head q).shiftFrom ≤ s.now) (hdue : s.shiftDue p h l = true) :
    s.shiftStart q = if (l.head h).ready = true then
      ((((s.useSlot p h l).modLine p l.seq l.k (·.modHead h (fun x =>
        { x with phase := if x.phase = .waiting then .shifting else x.phase }))).modHead q (fun x => { x with
          shift := some (l.seq, l.k, l.row, s.now), bits := shiftData (s.profile p) (l.levels.getD h []) })).forget p)
      else s.lateLine q p h l := by
  unfold State.shiftStart
  simp only [hq, hl]
  rw [if_neg (by simp [hup, hfree, hdue, hfrom]), State.profile_modLine, State.profile_useSlot]
  rfl

/-- A shifted line comes into its row's latch (R196, R199). -/
theorem State.latch_eq {seq k row start : Nat} (hq : s.headOf q = some (p, h))
    (hs : (s.head q).shift = some (seq, k, row, start)) (hup : s.portUp q = true)
    (hdone : start + pTShift (s.profile p) + pTsl (s.profile p) ≤ s.now) (hfree : s.rowFree q p h row = true) :
    s.latch q = (s.modLine p seq k (·.modHead h (fun x =>
      { x with phase := if x.phase = .shifting then .latched else x.phase }))).modHead q (fun x =>
      { x.modRow row (fun y => { y with line := some (seq, k), fall := some (s.now + pLatW (s.profile p) row) }) with
        shift := none, shiftFrom := s.now + pLatW (s.profile p) row + 8 }) := by
  unfold State.latch
  simp only [hq, hs]
  rw [if_neg (by simp [hup, hfree, hdone])]

/-- The train of the next line to fire starts, or the line is missed (R200). -/
theorem State.trainStart_eq {tf : Nat} (hq : s.headOf q = some (p, h)) (hl : s.nextFire p h = some (l, tf)) :
    s.trainStart q = s.fire q p h l tf := by
  unfold State.trainStart
  simp only [hq, hl]

/-- The end of a train at a port that is not closing (R202). -/
theorem State.trainStop_eq {row e : Nat} (he : ((s.head q).row row).trainEnd = some e) (hq : s.headOf q = some (p, h))
    (hnow : e ≤ s.now) (hopen : (s.head q).closing = none) : s.trainStop q row = s.modHead q (·.modRow row (fun y =>
      { y with trainEnd := none, freeAt := e + pTtl (s.profile p) })) := by
  have hrow : ∀ (f : RowSt → RowSt) (x : HeadPort), (x.modRow row f).closing = x.closing := fun f x => by
    unfold HeadPort.modRow; split <;> rfl
  have hclosing : ∀ f : RowSt → RowSt, ((s.modHead q (·.modRow row f)).head q).closing = none := fun f =>
    (modAt_getD_kept (g := HeadPort.closing) (hrow f) q q _ _).trans hopen
  unfold State.trainStop
  simp only [he, hq]
  rw [if_neg (by omega), hclosing]

/-! ### The train of a line, or its miss (R200) -/

/-- A line misses its train at a head, and its row is free again. -/
def State.missTrain (s : State) (q p h : Nat) (l : Line) (cause at_ : Nat) : State :=
  ((s.missHead p l.seq l.k h cause at_).freeRow q l.row s.now).settled p

/-- A line is in its row's latch early enough for a train at `tf`. -/
def State.inLatch (s : State) (q p h : Nat) (l : Line) (tf : Nat) : Prop :=
  (l.head h).phase = .latched ∧ ((s.head q).row l.row).line = some (l.seq, l.k) ∧
    ∃ f, ((s.head q).row l.row).fall = some f ∧ f + pTls (s.profile p) ≤ tf

/-- The train of a line in its latch starts, with the pre-heat in force. -/
def State.startTrain (s : State) (q p h : Nat) (l : Line) (tf : Nat) : State :=
  (((s.modLine p l.seq l.k (·.modHead h (fun x => { x with phase := .fired }))).modHead q (fun x =>
    x.modRow l.row (fun y => { y with
      trainEnd := some (tf + pTrain (s.profile p)), lastFired := some tf,
      heat := (s.get (Reg.HEADPORT_HP_PREHEAT_COUNT q), s.get (Reg.HEADPORT_HP_PREHEAT_WIDTH q)) }))).inc
    (Reg.HEADPORT_HP_FIRED q)).settled p

variable {tf : Nat}

theorem State.fire_inhibited (hi : s.time.fireInhibit = true) : s.fire q p h l tf = s.missTrain q p h l 6 tf :=
  if_pos hi

theorem State.fire_portDown (hi : s.time.fireInhibit = false) (hup : s.portUp q = false) :
    s.fire q p h l tf = s.missTrain q p h l 4 (max l.issuedAt (s.head q).downAt) := by
  unfold State.fire
  dsimp only
  rw [if_neg (by simp [hi]), if_pos (by simp [hup])]
  rfl

theorem State.fire_underrun (hi : s.time.fireInhibit = false) (hup : s.portUp q = true) (hu : l.under = true) :
    s.fire q p h l tf = s.missTrain q p h l 2 tf := by
  unfold State.fire
  dsimp only
  rw [if_neg (by simp [hi]), if_neg (by simp [hup]), if_pos hu]
  rfl

/-- A line with data at a port that is up fires from its latch, or is skipped. -/
theorem State.fire_due [Decidable (s.inLatch q p h l tf)] (hi : s.time.fireInhibit = false) (hup : s.portUp q = true)
    (hu : l.under = false) : s.fire q p h l tf = if s.inLatch q p h l tf then s.startTrain q p h l tf
      else ((s.incSat (Reg.HEADPORT_HP_SKIPPED q) 1).overspeed p l.seq l.k).missTrain q p h l 1 tf := by
  have hlatch : (((l.head h).phase == .latched && ((s.head q).row l.row).line == some (l.seq, l.k)) &&
      (match ((s.head q).row l.row).fall with
        | some f => decide (f + pTls (s.profile p) ≤ tf)
        | none => false)) = true ↔ s.inLatch q p h l tf := by
    unfold State.inLatch
    cases ((s.head q).row l.row).fall <;> simp [and_assoc]
  unfold State.fire
  dsimp only
  rw [if_neg (by simp [hi]), if_neg (by simp [hup]), if_neg (by simp [hu])]
  exact if_congr hlatch rfl rfl

end

/-- Settles O42: each stage's equation, at the instant of its event. -/
theorem linePipelineEventsComplete : Obligations.LinePipelineEventsComplete := by
  intro t s hl u
  refine ⟨?_, ?_, ?_, ?_, ?_, ?_, ?_⟩
  · intro p j b hmay hb hrole htick hlen hj
    obtain ⟨-, ⟨j', hin, hseq, hst, -, hnext⟩, l, hlast, hlseq, hlk, hat, href⟩ :=
      State.issue_spec (s := u) b p.isLt (by simpa [u] using hlen) (State.mayIssue_live hmay) hj
    refine ⟨_, exec_lineIssue hl hmay hb hrole htick hlen hj, ⟨j', hin, hseq, hst, hnext⟩, l, hlast, hlseq, hlk, hat, ?_⟩
    rw [href, State.elapse_ref]
  · intro q p h l hq hfind
    have hex : exec (.lineToFifo q t) s = .next (u.toFifo q) := by
      show eventAwake t (·.toFifo q) s = _
      rw [eventAwake_live hl]
    rw [hex, State.toFifo_eq (by simpa [u] using hq) (by simpa [u] using hfind), State.elapse_fifoBytes,
      State.elapse_profile]
    refine ⟨fun hroom => congrArg _ (if_neg ?_), fun hslot hfull => congrArg _ (if_pos ⟨hslot, hfull⟩)⟩
    rintro ⟨hslot, hfull⟩
    rcases hroom with hroom | hroom
    · exact Bool.noConfusion (hslot.symm.trans hroom)
    · omega
  · intro q p h l hq hnext hup hfree hfrom hdue
    have hex : exec (.shiftStart q t) s = .next (u.shiftStart q) := by
      show eventAwake t (·.shiftStart q) s = _
      rw [eventAwake_live hl]
    rw [hex, State.shiftStart_eq (by simpa [u] using hq) (by simpa [u] using hnext) (by simpa [u] using hup)
      (by simpa [u] using hfree) (by simpa [u] using hfrom) (by simpa [u] using hdue), State.elapse_profile]
    exact ⟨fun hready => by rw [if_pos hready], fun hlate => by rw [if_neg (by simp [hlate])]⟩
  · intro q p h seq k row start hq hs hup hdone hfree fall
    show eventAwake t (·.latch q) s = _
    rw [eventAwake_live hl, State.latch_eq (by simpa [u] using hq) (by simpa [u] using hs) (by simpa [u] using hup)
      (by simpa [u] using hdone) hfree, State.elapse_profile]
  · intro q p h l tf hq hfire row fires missed
    have hex : exec (.strobeTrainStart q t) s = .next (u.fire q p h l tf) := by
      show eventAwake t (·.trainStart q) s = _
      rw [eventAwake_live hl, State.trainStart_eq (by simpa [u] using hq) hfire]
    have hinhibit : u.time.fireInhibit = s.time.fireInhibit := State.elapse_fireInhibit s t
    have hup : u.portUp q = s.portUp q := State.elapse_portUp s t q
    have hlatch : u.inLatch q p h l tf ↔ (l.head h).phase = .latched ∧ row.line = some (l.seq, l.k) ∧
        ∃ f, row.fall = some f ∧ f + pTls (s.profile p) ≤ tf := by
      simp only [State.inLatch, u, row, State.elapse_head, State.elapse_profile]
    rw [hex]
    refine ⟨?_, ?_, ?_, ?_, ?_⟩
    · rintro ⟨hi, hp, hu, hin⟩
      classical
      rw [State.fire_due (hinhibit.trans hi) (hup.trans hp) hu, if_pos (hlatch.2 hin)]
      simp only [State.startTrain, u, State.elapse_profile, State.elapse_get]
    · intro hi
      rw [State.fire_inhibited (hinhibit.trans hi)]
      rfl
    · intro hi hp
      rw [State.fire_portDown (hinhibit.trans hi) (hup.trans hp), State.elapse_head]
      rfl
    · intro hi hp hu
      rw [State.fire_underrun (hinhibit.trans hi) (hup.trans hp) hu]
      rfl
    · intro hi hp hu hnot
      classical
      rw [State.fire_due (hinhibit.trans hi) (hup.trans hp) hu, if_neg fun hin => hnot ⟨hi, hp, hu, hlatch.1 hin⟩]
      rfl
  · intro q rowB e p h he hq hnow hopen
    show eventAwake t (·.trainStop q rowB.toNat) s = _
    rw [eventAwake_live hl, State.trainStop_eq (by simpa [u] using he) (by simpa [u] using hq) hnow
      (by simpa [u] using hopen), State.elapse_profile]
  · intro p ended
    have hended : ended = u.markOver p := by
      funext m
      cases hpos : m.pos with
      | some f => simp [ended, State.markOver, hpos, u]
      | none => cases hstop : m.stop <;> simp [ended, State.markOver, hpos, hstop, u]
    show eventAwake t (·.markRelease p) s = _
    rw [eventAwake_live hl, hended]
    rfl

end Sys2Proof.Machine
end

section
/-! SUPPORT. Fields of bytes: a field read back from where it was written. -/

namespace Sys2Proof.Machine

variable {n o x w : Nat} {l r : List Byte}

@[simp] theorem length_leBytes : ∀ n x : Nat, (leBytes n x).length = n
  | 0, _ => rfl
  | n + 1, x => congrArg (· + 1) (length_leBytes n (x / 256))

@[simp] theorem length_leInt (n : Nat) (i : Int) : (leInt n i).length = n := length_leBytes n _

@[simp] theorem length_zeros (n : Nat) : (zeros n).length = n := List.length_replicate

@[simp] theorem length_bytesOf (l : List Nat) : (bytesOf l).length = l.length := List.length_map _

@[simp] theorem length_u32sOf : ∀ l : List Nat, (u32sOf l).length = 4 * l.length
  | [] => rfl
  | x :: l => by simp [u32sOf, length_u32sOf l]; omega

@[simp] theorem length_i32sOf : ∀ l : List Int, (i32sOf l).length = 4 * l.length
  | [] => rfl
  | x :: l => by simp [i32sOf, length_i32sOf l]; omega

/-- A number that its width holds is what its bytes spell. -/
theorem leNat_leBytes : ∀ {n x : Nat}, x < 2 ^ (8 * n) → leNat (leBytes n x) = x
  | 0, x, h => (Nat.lt_one_iff.1 h).symm
  | n + 1, x, h => by
    have hx : x / 256 < 2 ^ (8 * n) := Nat.div_lt_of_lt_mul (by rwa [Nat.mul_comm, show 256 = 2 ^ 8 from rfl, ← Nat.pow_add])
    simp only [leBytes, leNat, leNat_leBytes hx, BitVec.toNat_ofNat]
    omega

theorem low_pat (w : Nat) (i : Int) : low w (pat w i) = pat w i :=
  Nat.mod_eq_of_lt ((Int.toNat_lt' (by positivity)).2 (Int.emod_lt_of_pos _ (by positivity)))

/-- A signed number that its width holds is what its pattern spells. -/
theorem sgn_pat {i : Int} (hw : 0 < w) (h : inS w i) : sgn w (pat w i) = i := by
  obtain ⟨v, rfl⟩ := Nat.exists_eq_succ_of_ne_zero hw.ne'
  obtain ⟨h1, h2⟩ := h
  have hp : (2 ^ (v + 1) : Nat) = 2 * 2 ^ v := by rw [Nat.pow_succ]; omega
  unfold sgn
  rw [low_pat]
  unfold pat
  simp only [Nat.succ_eq_add_one, Nat.add_sub_cancel, hp] at h1 h2 ⊢
  generalize (2 ^ v : Nat) = m at *
  rcases lt_or_ge i 0 with hi | hi
  · have : i % (2 * m : Nat) = i + (2 * m : Nat) := by
      rw [← Int.add_emod_right]; exact Int.emod_eq_of_lt (by omega) (by omega)
    rw [this]; split <;> omega
  · have : i % (2 * m : Nat) = i := Int.emod_eq_of_lt hi (by omega)
    rw [this]; split <;> omega

/-! ### Fields of a list of bytes -/

/-- Fields are read behind what stands before them. -/
@[simp] theorem uAt_append (hl : l.length ≤ o) : uAt (l ++ r) o n = uAt r (o - l.length) n := by
  simp [uAt, List.drop_append, List.drop_eq_nil_of_le hl]

@[simp] theorem iAt_append (hl : l.length ≤ o) : iAt (l ++ r) o n = iAt r (o - l.length) n :=
  congrArg (sgn (8 * n)) (uAt_append hl)

@[simp] theorem zerosAt_append (hl : l.length ≤ o) : zerosAt (l ++ r) o n = zerosAt r (o - l.length) n := by
  simp [zerosAt, List.drop_append, List.drop_eq_nil_of_le hl]

theorem drop_append_behind (hl : l.length ≤ o) : (l ++ r).drop o = r.drop (o - l.length) := by
  simp [List.drop_append, List.drop_eq_nil_of_le hl]

/-- The field that stands in front. -/
@[simp] theorem uAt_front (h : x < 2 ^ (8 * n)) : uAt (leBytes n x ++ r) 0 n = x := by
  simp [uAt, leNat_leBytes h]

@[simp] theorem uAt_leBytes (h : x < 2 ^ (8 * n)) : uAt (leBytes n x) 0 n = x := by
  simpa using uAt_front (r := []) h

@[simp] theorem iAt_front {i : Int} (hn : 0 < n) (h : inS (8 * n) i) : iAt (leInt n i ++ r) 0 n = i := by
  have hp : pat (8 * n) i < 2 ^ (8 * n) := low_pat (8 * n) i ▸ Nat.mod_lt _ (by positivity)
  exact (congrArg _ (uAt_front hp)).trans (sgn_pat (by omega) h)

@[simp] theorem iAt_leInt {i : Int} (hn : 0 < n) (h : inS (8 * n) i) : iAt (leInt n i) 0 n = i := by
  simpa using iAt_front (r := []) hn h

@[simp] theorem zerosAt_front : zerosAt (zeros n ++ r) 0 n = true := by simp [zerosAt, zeros]

/-! ### Arrays of a packet -/

theorem wordsOf_u32sOf : ∀ {l : List Nat}, (∀ x ∈ l, x < 2 ^ 32) → wordsOf (u32sOf l) = l
  | [], _ => rfl
  | x :: l, h => by
    have hx : leNat (leBytes 4 x) = x := leNat_leBytes (h x (by simp))
    have hl := wordsOf_u32sOf fun y hy => h y (List.mem_cons_of_mem x hy)
    exact congrArg₂ List.cons hx hl

theorem map_sgn_wordsOf_i32sOf : ∀ {l : List Int}, (∀ x ∈ l, inS 32 x) → (wordsOf (i32sOf l)).map (sgn 32) = l
  | [], _ => rfl
  | x :: l, h => by
    have hp : pat 32 x < 2 ^ (8 * 4) := low_pat 32 x ▸ Nat.mod_lt _ (by positivity)
    have hx : sgn 32 (leNat (leInt 4 x)) = x :=
      (congrArg _ (leNat_leBytes hp)).trans (sgn_pat (by norm_num) (h x (by simp)))
    have hl := map_sgn_wordsOf_i32sOf fun y hy => h y (List.mem_cons_of_mem x hy)
    exact congrArg₂ List.cons hx hl

theorem map_toNat_bytesOf {l : List Nat} (h : ∀ x ∈ l, x < 2 ^ 8) : (bytesOf l).map BitVec.toNat = l := by
  unfold bytesOf
  rw [List.map_map]
  exact (List.map_congr_left fun x hx => Nat.mod_eq_of_lt (h x hx)).trans (List.map_id l)

/-! ### Parameters -/

/-- The parameters of a well-formed command decode to it (R36 check 5): each field is read behind those that stand before
it. Where an array follows, its length agrees with the count field, and its elements with their bytes. -/
theorem decodeParams_encodeParams {c : HostCmd} (hc : c.wf) : decodeParams c.opcode (encodeParams c) = some c := by
  cases c
  case regWrite addr words =>
    obtain ⟨haddr, hcount, hwords⟩ := hc
    norm_num at haddr hcount
    show guardC _ _ = some _
    simp [encodeParams, guardC, u16, u64, drop_append_behind, haddr, hcount, wordsOf_u32sOf hwords]; omega
  case headMap plane ports =>
    obtain ⟨hplane, hcount, hports⟩ := hc
    norm_num at hplane hcount
    show guardC _ _ = some _
    simp [encodeParams, guardC, u8, drop_append_behind, hplane, hcount, map_toNat_bytesOf hports]; omega
  case headOffset plane first offsets =>
    obtain ⟨hplane, hfirst, hcount, hoffsets⟩ := hc
    norm_num at hplane hfirst hcount
    show guardC _ _ = some _
    simp [encodeParams, guardC, u8, drop_append_behind, hplane, hfirst, hcount, map_sgn_wordsOf_i32sOf hoffsets]; omega
  case roiSet | alignRestore | axisTable | patchLoad =>
    simp [HostCmd.wf] at hc
    show guardC _ _ = some _
    simp [encodeParams, guardC, u8, u16, u32, drop_append_behind, hc]; omega
  all_goals
    simp [HostCmd.wf, inS] at hc
    show guardC _ _ = some _
    simp [encodeParams, guardC, u8, u16, u32, u64, drop_append_behind, inS, hc]

/-! ### The trailer (R34) -/

theorem crcBit_lt {c : Nat} (hc : c < 2 ^ 32) : crcBit c < 2 ^ 32 := by
  unfold crcBit
  split
  · exact Nat.xor_lt_two_pow (by omega) (by norm_num)
  · omega

theorem crcByte_lt {c : Nat} (hc : c < 2 ^ 32) (b : Byte) : crcByte c b < 2 ^ 32 := by
  have hb : c ^^^ b.toNat < 2 ^ 32 := Nat.xor_lt_two_pow hc (lt_of_lt_of_le b.isLt (by norm_num))
  unfold crcByte
  iterate 8 refine crcBit_lt ?_
  exact hb

theorem crcRun_lt : ∀ {c : Nat}, c < 2 ^ 32 → ∀ b : List Byte, crcRun c b < 2 ^ 32
  | _, hc, [] => hc
  | _, hc, x :: b => crcRun_lt (crcByte_lt hc x) b

theorem crc32c_lt (b : List Byte) : crc32c b < 2 ^ 32 :=
  Nat.xor_lt_two_pow (crcRun_lt (by norm_num) b) (by norm_num)

/-! ### The packet of a command -/

/-- A command packet without its trailer. -/
def cmdHead (op : Nat) (h : Hdr) (params : List Byte) : List Byte :=
  leBytes 2 op ++ (leBytes 2 h.tag ++ (leBytes 1 h.target ++ (leBytes 1 h.flags ++ (leBytes 2 params.length ++
    (leBytes 2 h.status ++ (leBytes 2 h.sequence ++ (leBytes 4 h.reserved ++ params)))))))

theorem cmdBytes_eq (op : Nat) (h : Hdr) (params : List Byte) :
    cmdBytes op h false params = cmdHead op h params ++ leBytes 4 (crc32c (cmdHead op h params)) := by
  simp [cmdBytes, cmdHead]

theorem opcode_lt (c : HostCmd) : c.opcode < 2 ^ 16 := by
  cases c <;> simp [HostCmd.opcode]

section
variable {op : Nat} {h : Hdr} {params : List Byte}

/-- A packet that a well-formed header and fitting parameters give is sound: its length, PARAM_LEN, trailer and REPLY are
in order (R33 to R35). -/
theorem packetOk_cmdBytes (hw : h.wf) (hreply : hdrFlag h 0 = false) (hlen : params.length ≤ 4076) :
    packetOk (cmdBytes op h false params) = true := by
  obtain ⟨htag, htarget, hflags, hstatus, hseq, hres⟩ := hw
  have hcrc := crc32c_lt (cmdHead op h params)
  have htotal : (cmdHead op h params).length = 16 + params.length := by simp [cmdHead]; omega
  have hplen : u16 (cmdHead op h params ++ leBytes 4 (crc32c (cmdHead op h params))) 6 = params.length := by
    have : params.length < 65536 := by omega
    simp [cmdHead, u16, this]
  have hfl : u8 (cmdHead op h params ++ leBytes 4 (crc32c (cmdHead op h params))) 5 = h.flags := by
    norm_num at hflags
    simp [cmdHead, u8, hflags]
  have hend : (cmdHead op h params ++ leBytes 4 (crc32c (cmdHead op h params))).length - 4 = (cmdHead op h params).length := by
    simp
  rw [cmdBytes_eq]
  unfold packetOk
  rw [hplen, hfl, hend]
  have hbit : bit h.flags 0 = false := hreply
  norm_num at hcrc
  simp [u32, hcrc, hlen, htotal, hbit]
  omega

/-- Received, it has the header's fields, the opcode and the parameters. -/
theorem parsePacket_cmdBytes (hw : h.wf) (hop : op < 2 ^ 16) (hlen : params.length ≤ 4076) (src now : Nat) :
    parsePacket .uplink src now (cmdBytes op h false params) =
      ⟨{ h with iface := .uplink, at_ := now }, op, params, decodeParams op params, src⟩ := by
  obtain ⟨htag, htarget, hflags, hstatus, hseq, hres⟩ := hw
  have hp : params.length < 65536 := by omega
  norm_num at htag htarget hflags hstatus hseq hres hop
  rw [cmdBytes_eq]
  simp [parsePacket, cmdHead, u8, u16, u32, drop_append_behind, hp, htag, htarget, hflags, hstatus, hseq, hres, hop]

end

/-- Settles O60: the parameters decode field by field, and the packet is the header, the parameters and their trailer. -/
theorem packetsDecodeToWhatTheyEncode : Obligations.PacketsDecodeToWhatTheyEncode := by
  intro h c hh hc hreply hlen
  have hdec := decodeParams_encodeParams hc
  refine ⟨hdec, fun src now => ⟨packetOk_cmdBytes hh hreply hlen, ?_⟩⟩
  rw [parsePacket_cmdBytes hh (opcode_lt c) hlen, hdec]

end Sys2Proof.Machine
end

section
/-! SUPPORT. The statements on the queue, and on the arrival and the execution of commands: a command for the block's own
id that arrives is taken or refused by checks 1 to 6 of R36, and one that is taken is executed in its turn. -/

namespace Sys2Proof.Machine

variable {s : State} {h : Hdr} {c : HostCmd} {k : Packet} {t : Nat}

/-- Settles O1: the command in front of the queue is the one that a step takes. -/
theorem stepRunsFrontCommand : Obligations.StepRunsFrontCommand := fun _ _ => rfl

/-! ### Arrival -/

@[simp] theorem State.elapse_myId : (s.elapse t).myId = s.myId := State.elapse_get s t _
@[simp] theorem State.elapse_active (p : Nat) : (s.elapse t).active p = s.active p := by simp [State.active]

/-- The packet that an opcode row places. -/
def packetOf (h : Hdr) (c : HostCmd) : Packet := ⟨h, c.opcode, encodeParams c, some c, 0xFE⟩

theorem State.startNext_idle (hs : s.host.outstanding = []) : s.startNext = s := by
  unfold State.startNext; rw [hs]

@[simp] theorem State.reply_outstanding (op st : Nat) (dup : Bool) (d : List Byte) :
    (s.reply h op st dup d).host.outstanding = s.host.outstanding := by
  unfold State.reply; split <;> rfl

/-- The block hears the interface of a command, and the command is for its own id (R39, R45). -/
structure Heard (h : Hdr) (s : State) : Prop where
  running : s.power.resetN = true
  awake : s.awake = true
  open_ : h.iface = .spi ∨ s.active 0 = true
  notReply : hdrFlag h 0 = false
  target : h.target = s.myId
  assigned : s.myId < 63

/-- A command that is heard is taken or refused, and starts where nothing is outstanding before it. -/
theorem hostCommand_heard (hh : Heard h s) : hostCommand h c s = .next
    (if s.host.outstanding.isEmpty then ((s.elapse h.at_).take (packetOf h c)).startNext
      else (s.elapse h.at_).take (packetOf h c)) := by
  have hopen : (h.iface == Iface.spi || (s.elapse h.at_).active 0) = true := by
    rcases hh.open_ with hi | ha <;> simp [*]
  have hplace : (s.elapse h.at_).place (packetOf h c) = (s.elapse h.at_).take (packetOf h c) := by
    have := hh.assigned
    unfold State.place
    rw [State.elapse_myId, if_neg (by omega)]
    exact if_pos hh.target
  unfold hostCommand
  rw [event_running hh.running, hopen, State.when_true]
  unfold State.arrive
  simp only [State.elapse_awake, hh.awake, if_true, hh.notReply, Bool.false_eq_true, if_false, State.elapse_host]
  rw [← packetOf, hplace]

@[simp] theorem State.elapse_dupTag : (s.elapse t).dupTag k = s.dupTag k := by simp [State.dupTag]
@[simp] theorem State.elapse_outCount : (s.elapse t).outCount = s.outCount := by simp [State.outCount]
@[simp] theorem State.elapse_arrivalStatus : (s.elapse t).arrivalStatus k = s.arrivalStatus k := by
  simp [State.arrivalStatus]

/-- A command that checks 1 to 6 refuse has its reply queued; nothing else changes. -/
theorem exec_refusedAtArrival (hh : Heard h s) {st : Nat} {dup : Bool} (hst : s.arrivalStatus (packetOf h c) = st)
    (hne : st ≠ stOk) (hdup : (!(packetOf h c).reservedSet && s.dupTag (packetOf h c)) = dup) :
    exec (instrOf h c) s = .next ((s.elapse h.at_).reply h c.opcode st dup []) := by
  have htake : (s.elapse h.at_).take (packetOf h c) = (s.elapse h.at_).reply h c.opcode st dup [] := by
    unfold State.take
    simp only [State.elapse_arrivalStatus, State.elapse_dupTag, hst, hdup]
    exact if_neg hne
  rw [exec_instrOf, hostCommand_heard hh, htake]
  split
  case isTrue hi => rw [State.startNext_idle (by simpa using hi)]
  case isFalse => rfl

/-- A command that passes checks 1 to 6 is outstanding; where another is, it waits for its turn. -/
theorem exec_waits (hh : Heard h s) (hst : s.arrivalStatus (packetOf h c) = stOk) (ho : s.host.outstanding ≠ []) :
    exec (instrOf h c) s = .next { s.elapse h.at_ with
      host := { s.host with outstanding := s.host.outstanding ++ [⟨h, c, 0xFE⟩] } } := by
  have htake : (s.elapse h.at_).take (packetOf h c) = { s.elapse h.at_ with
      host := { s.host with outstanding := s.host.outstanding ++ [⟨h, c, 0xFE⟩] } } := by
    unfold State.take
    simp only [State.elapse_arrivalStatus, hst, State.elapse_host]
    rfl
  rw [exec_instrOf, hostCommand_heard hh, htake, if_neg (by simpa using ho)]

theorem reservedSet_packetOf : (packetOf h c).reservedSet = true ↔ h.flags / 16 ≠ 0 ∨ h.status ≠ 0 ∨ h.reserved ≠ 0 := by
  simp [Packet.reservedSet, packetOf, or_assoc]

theorem State.dupTag_packetOf : s.dupTag (packetOf h c) = true ↔
    ∃ k ∈ s.host.outstanding ++ s.host.waiting.toList, k.h.iface = h.iface ∧ k.h.tag = h.tag := by
  simp only [State.dupTag, packetOf, List.any_eq_true, Bool.and_eq_true, beq_iff_eq]

/-- Checks 5 and 6 of a command for one id, where checks 1 and 2 pass; its opcode is in the tables (check 3), and it is no
broadcast (check 4). -/
theorem State.arrivalStatus_packetOf (hh : Heard h s) (hr : (packetOf h c).reservedSet = false)
    (hd : s.dupTag (packetOf h c) = false) : s.arrivalStatus (packetOf h c) =
      if HostCmd.valuesOk c = false then stBadParam else if 64 ≤ s.outCount then stBusy else stOk := by
  have h63 : h.target ≠ 63 := by have := hh.target; have := hh.assigned; omega
  unfold State.arrivalStatus
  rw [hr, hd]
  simp [packetOf, h63]

/-- Settles O4: the first check that fails gives the status of the reply. -/
theorem arrivalChecksInOrder : Obligations.ArrivalChecksInOrder := by
  intro h c s hrun haw hopen hrep htgt hid bad dup answers
  have hh : Heard h s := ⟨hrun, haw, hopen, hrep, htgt, hid⟩
  have hclear : ¬bad → (packetOf h c).reservedSet = false := fun hb => by
    simpa only [Bool.not_eq_true] using mt reservedSet_packetOf.1 hb
  have hfresh : ¬dup → s.dupTag (packetOf h c) = false := fun hd => by
    simpa only [Bool.not_eq_true] using mt State.dupTag_packetOf.1 hd
  refine ⟨fun hb => ?_, fun hb hd => ?_, fun hb hd hv => ?_, fun hb hd hv hfull => ?_⟩
  · have hb := (reservedSet_packetOf (c := c)).2 hb
    exact exec_refusedAtArrival hh (if_pos hb) (by decide) (by simp [hb])
  · have hd := (State.dupTag_packetOf (c := c)).2 hd
    exact exec_refusedAtArrival hh (by simp [State.arrivalStatus, hclear hb, hd]) (by decide) (by simp [hclear hb, hd])
  · exact exec_refusedAtArrival hh (by rw [State.arrivalStatus_packetOf hh (hclear hb) (hfresh hd), if_pos hv]) (by decide)
      (by simp [hfresh hd])
  · refine exec_refusedAtArrival hh ?_ (by decide) (by simp [hfresh hd])
    rw [State.arrivalStatus_packetOf hh (hclear hb) (hfresh hd), if_neg (by simp [hv]), if_pos hfull]

/-! ### Execution -/

/-- Settles O5: a command that is taken waits behind another, and the oldest one starts. -/
theorem commandsExecuteInOrderOfArrival : Obligations.CommandsExecuteInOrderOfArrival := by
  constructor
  · intro h c s hrun haw hopen hrep htgt hid hflags hstatus hres hv hfresh hcount ho
    have hh : Heard h s := ⟨hrun, haw, hopen, hrep, htgt, hid⟩
    have hr : (packetOf h c).reservedSet = false := by simp [Packet.reservedSet, packetOf, hflags, hstatus, hres]
    have hd : s.dupTag (packetOf h c) = false := by
      rw [← Bool.not_eq_true, State.dupTag_packetOf]
      rintro ⟨k, hk, he⟩
      exact hfresh k hk he
    refine exec_waits hh ?_ ho
    rw [State.arrivalStatus_packetOf hh hr hd, if_neg (by simp [hv]), if_neg (by omega)]
  · intro t k l st d u s hl ho hw hdone hserves hp
    have hstart : (s.elapse t).startNext = (s.elapse t).runCmd k := by
      have hdone : (s.elapse t).writesDone k = true := by simpa [State.writesDone] using hdone
      unfold State.startNext
      simp [State.elapse_host, ho, hw, hdone]
    show eventAwake t State.startNext s = _
    rw [eventAwake_live hl, hstart, runCmd_eq (by simpa using hserves) hp]

/-- Settles O6: a refusing status leaves the reply without data. -/
theorem refusedReplyCarriesNoData : Obligations.RefusedReplyCarriesNoData := by
  intro h c s u st d hr hp hok hacc
  rw [exec_instrOf, hostCommand_refuses hr hp (by simp [accepted, hok, hacc])]

theorem earlyOpcode_iff (c : HostCmd) : earlyOpcode c.opcode = true ↔
    c = .nop ∨ c = .getInfo ∨ (∃ a n, c = .regRead a n) ∨ (∃ x, c = .getStatus x) ∨
      (∃ o d, c = .patchLoad o d) ∨ (∃ n g, c = .patchActivate n g) := by
  cases c <;> simp [earlyOpcode, HostCmd.opcode]

/-- Settles O7: before EVT_READY the check of R43 refuses every opcode but the six, which are carried out as later. -/
theorem beforeReadyOnlySixOpcodes : Obligations.BeforeReadyOnlySixOpcodes := by
  intro h c s hready hpl early
  rw [exec_instrOf, hostCommand_placed hpl]
  refine ⟨fun hlate => ?_, fun hearly st d u hp => ?_⟩
  · have hres : (s.serving h c).result ⟨h, c, 0xFE⟩ = Res.err stBadState (s.serving h c) := by
      have : earlyOpcode c.opcode = false := by simpa only [Bool.not_eq_true] using mt (earlyOpcode_iff c).1 hlate
      simp [State.result, hready, this]
    unfold State.runCmd
    rw [hres, ← answered_serving hpl.free]
    rfl
  · rw [runCmd_eq (k := ⟨h, c, 0xFE⟩) (by simp [(earlyOpcode_iff c).2 hearly]) hp]

/-! ### Arrival in L2 to L4 -/

/-- A cause that is not the wake port leaves a block asleep that neither enters a state nor holds a wake. -/
theorem State.wakeEvent_elsewhere {i : Iface} (ha : s.awake = false) (he : s.power.entry = none)
    (hw : s.power.wakeHeld = none) (hp : s.wakePort ≠ wakeOf i) : s.wakeEvent (wakeOf i) = s := by
  have hst : ¬s.get Reg.LADDER_STATE < 2 := by simpa [State.awake] using ha
  have hwakes : s.wakes (wakeOf i) = false := by
    have hport : (wakeOf i == s.wakePort) = false := by simpa using hp.symm
    unfold State.wakes
    rw [hport]
    cases i <;> rfl
  unfold State.wakeEvent
  simp [he, hst, hw, hwakes]

/-- Settles O8: the command neither wakes the block nor reaches it. -/
theorem sleepingBlockLosesCommands : Obligations.SleepingBlockLosesCommands := by
  intro h c s ha he hw hp
  have hwake : (s.elapse h.at_).wakeEvent (wakeOf h.iface) = s.elapse h.at_ :=
    State.wakeEvent_elsewhere (by simpa using ha) (by simpa using he) (by simpa using hw) (by simpa [State.wakePort] using hp)
  have harrive : ∀ f : State → State, (s.elapse h.at_).arrive h.iface f = s.elapse h.at_ := fun f => by
    unfold State.arrive
    simp [ha, hwake]
  rw [exec_instrOf]
  unfold hostCommand event State.when
  simp only [harrive, ite_self]

end Sys2Proof.Machine
end

section
/-! SUPPORT. The statements on the system, register and diagnostics opcodes. -/

namespace Sys2Proof.Machine

variable {s t : State} {h : Hdr} {c : HostCmd}

/-! ### System and diagnostics opcodes -/

/-- While a command is served it is the one that is outstanding. -/
theorem State.serving_outCount (hw : s.host.waiting = none) : (s.serving h c).outCount = 1 := by
  simp [State.outCount, hw]

/-- Settles O9: each opcode's reply, and what CLEAR and LOG_CLEAR leave. -/
theorem systemReadsComplete : Obligations.SystemReadsComplete := by
  intro h s
  refine ⟨fun hr => ?_, fun hr => ?_, fun clear hr => ?_, fun data hr => ?_, fun first count hr => ?_,
    fun block hr => ?_, fun counters hr => ?_⟩
  · exact exec_replies hr rfl rfl fun _ => rfl
  · refine exec_replies hr ?_ rfl fun _ => rfl
    show cmdGetInfo _ = _
    simp only [cmdGetInfo, State.fwMinor, State.patchId, State.serving_otp, State.serving_myId, State.serving_get]
    rfl
  · refine exec_accepts hr ?_ rfl fun _ => rfl
    show cmdGetStatus _ _ = _
    simp only [cmdGetStatus, State.serving_outCount hr.idle, State.serving_faultGroups, State.serving_queued,
      State.serving_get]
    rfl
  · exact exec_replies hr rfl rfl fun _ => rfl
  · refine exec_replies hr ?_ rfl fun _ => rfl
    show cmdLogRead _ _ _ = _
    simp only [cmdLogRead, State.serving_log]
    rfl
  · exact exec_accepts hr rfl rfl fun _ => rfl
  · exact exec_accepts hr rfl rfl fun _ => rfl

/-! ### RESET -/

theorem cmdReset_ok {kind force : Nat} (hv : HostCmd.valuesOk (.reset kind force) = true)
    (hj : s.job.running = none ∨ force = 1) : cmdReset kind force s = Res.ok s := by
  have hv : kind ≤ 1 ∧ force ≤ 1 := by simpa [HostCmd.valuesOk, upTo] using hv
  unfold cmdReset
  rw [if_neg (by omega), if_neg (by rcases hj with hj | hj <;> simp [hj])]

/-- RESET replies, and what it does follows the reply (R50). -/
theorem exec_reset {kind force : Nat} (hr : Ready h (.reset kind force) s) (hj : s.job.running = none ∨ force = 1) :
    exec (.reset h kind force) s =
      .next (((s.elapse h.at_).reply h 0x0005 stOk false []).afterReply h (.reset kind force)) := by
  have hp : (s.serving h (.reset kind force)).perform h (.reset kind force) =
      ⟨stOk, [], s.serving h (.reset kind force), false⟩ := cmdReset_ok hr.values (by simpa using hj)
  show exec (instrOf h (.reset kind force)) s = _
  rw [exec_instrOf, hostCommand_accepts hr hp rfl, answered_serving hr.free]
  rfl

/-- Settles O11: the reply first; then the restart, or the full reset that the reply outlives. -/
theorem resetAnswersThenActs : Obligations.ResetAnswersThenActs := by
  intro h force s
  refine ⟨fun hr hj => ?_, fun hr hj hq => ?_, fun kind hr hj hf => ?_⟩
  · rw [exec_reset hr hj]
    simp [State.afterReply, State.resetActs]
  · rw [exec_reset hr hj]
    simp [State.afterReply, hq, State.resetActs]
  · have hv : kind ≤ 1 ∧ force ≤ 1 := by simpa [HostCmd.valuesOk, upTo] using hr.values
    refine exec_refuses hr (d := []) ?_ (by decide)
    show cmdReset kind force _ = _
    unfold cmdReset
    rw [if_neg (by omega), if_pos (by simp [Option.isSome_iff_ne_none, hj, hf])]
    rfl

/-! ### Registers -/

section
variable {addr n : Nat} {words : List Nat}

theorem cmdRegRead_words (hok : rangeOk addr n = true) (hd : inDram addr (4 * n) = false) :
    cmdRegRead addr n s = Res.okData ((s.readWords addr n).2.flatMap (leBytes 4)) (s.readWords addr n).1 := by
  simp [cmdRegRead, State.hostRead, hok, hd]

theorem cmdRegRead_dram (hok : rangeOk addr n = true) (hd : inDram addr (4 * n) = true)
    (hgood : (s.fetch addr (4 * n)).2.2 = []) :
    cmdRegRead addr n s =
      Res.okData ((wordsOf (s.fetch addr (4 * n)).2.1).flatMap (leBytes 4)) (s.fetch addr (4 * n)).1 := by
  simp [cmdRegRead, State.hostRead, hok, hd, hgood]

/-- Words outside DRAM are written when all are accepted, and none otherwise (R49). -/
theorem cmdRegWrite_words (hok : rangeOk addr words.length = true) (hd : inDram addr (4 * words.length) = false) :
    cmdRegWrite addr words s = Res.err (s.writeWords addr words).1
      (if (s.writeWords addr words).1 = stOk then (s.writeWords addr words).2 else s) := by
  simp only [cmdRegWrite, State.hostWrite, hok, hd, Bool.not_true, Bool.false_eq_true, if_false]
  split <;> rfl

theorem cmdRegWrite_dram (hok : rangeOk addr words.length = true) (hd : inDram addr (4 * words.length) = true)
    (hs : s.standby = false) (hp : touchesProt addr (4 * words.length) = false)
    (hgood : (s.writeMem true addr (words.flatMap (leBytes 4))).2 = []) :
    cmdRegWrite addr words s = Res.ok (s.writeMem true addr (words.flatMap (leBytes 4))).1 := by
  simp [cmdRegWrite, State.hostWrite, hok, hd, hs, hp, hgood, Res.ok, Res.err]

/-- REG_MODIFY of a register: the old word is read, and the merged one written (R74). -/
theorem cmdRegModify_register {a mask value : Nat} (hok : rangeOk (regBase + a) 1 = true) {r : State × Nat}
    (hread : s.readReg a = r) {merged : Nat}
    (hm : merged = r.2 - (r.2 &&& (mask ||| w1cMask (regBase + a))) + (value &&& mask))
    (hw : (r.1.writeReg a merged).1 = stOk) :
    cmdRegModify (regBase + a) mask value s = Res.okData (leBytes 4 r.2) (r.1.writeReg a merged).2 := by
  have hd : inDram (regBase + a) (4 * 1) = false := by simp [inDram, dramEnd, regBase]; omega
  have hr : s.hostRead (regBase + a) 1 = (stOk, [r.2], r.1) := by
    simp [State.hostRead, hok, hd, State.readWords, hread]
  unfold cmdRegModify
  rw [hr]
  simp only [List.getD_cons_zero, ← hm, State.hostWrite_register _ hok, hw, if_true]
  rfl

end

/-- An opcode row without reply data, whatever its own check answers. -/
theorem exec_answers {st : Nat} (hr : Ready h c s) (hp : (s.serving h c).perform h c = ⟨st, [], t, false⟩)
    (haf : ∀ u : State, u.afterReply h c = u) : exec (instrOf h c) s = .next (answered h c st [] t) := by
  cases ha : accepted st
  case true => exact exec_accepts hr hp ha haf
  case false => rw [exec_instrOf, hostCommand_refuses hr hp ha]

/-- Settles O10: each access on the state that serves it, then the reply. -/
theorem registerAccessCompletes : Obligations.RegisterAccessCompletes := by
  intro h s
  refine ⟨fun addr n hr hd => ?_, fun addr n hr hd hgood => ?_, fun addr words hr hd => ?_,
    fun addr words hr hd hs hp hgood => ?_, fun a mask value hr => ?_⟩
  · have hok : rangeOk addr n = true := (Bool.and_eq_true_iff.1 hr.values).2
    exact exec_accepts hr (cmdRegRead_words hok hd) rfl fun _ => rfl
  · have hok : rangeOk addr n = true := (Bool.and_eq_true_iff.1 hr.values).2
    exact exec_accepts hr (cmdRegRead_dram hok hd hgood) rfl fun _ => rfl
  · have hok : rangeOk addr words.length = true := (Bool.and_eq_true_iff.1 hr.values).2
    exact exec_answers hr (cmdRegWrite_words hok hd) fun _ => rfl
  · have hok : rangeOk addr words.length = true := (Bool.and_eq_true_iff.1 hr.values).2
    exact exec_accepts hr (cmdRegWrite_dram hok hd (by simpa using hs) hp hgood) rfl fun _ => rfl
  · intro c r merged hw
    exact exec_accepts hr (cmdRegModify_register hr.values rfl rfl hw) rfl fun _ => rfl

end Sys2Proof.Machine
end

section
/-! SUPPORT. The statements on the frames of the management SPI, and on the end of an event's window. -/

namespace Sys2Proof.Machine

variable {s : State} {n t : Nat}

/-- A frame that finds the block in L0 or L1 is served at its instant. -/
theorem spiFrame_live {f : State → State} (hl : Live s) : spiFrame n t f s = .next (f (s.elapse t)) := by
  unfold spiFrame
  rw [event_running hl.1]
  simp [hl.2]

@[simp] theorem State.elapse_spiNext : (s.elapse t).spiNext = s.spiNext := by simp [State.spiNext]

/-! ### READ frames -/

/-- An item that has been served on the SPI is no longer one of its queue. -/
theorem OutItem.spiBytes_of_sentSpi {i j : OutItem} (h : i.sentSpi = some j) (hi : i.spiBytes.isSome = true) :
    j.spiBytes = none := by
  cases i with
  | reply iface r => cases iface <;> simp [OutItem.sentSpi, OutItem.spiBytes] at h hi
  | event up spi e =>
    cases spi
    case false => cases hi
    case true => cases up <;> cases h; rfl

/-- Taking the SPI's next item out leaves the items behind it. -/
theorem filterMap_takeSpi : ∀ l : List OutItem,
    (takeSpi l).filterMap OutItem.spiBytes = (l.filterMap OutItem.spiBytes).drop 1
  | [] => rfl
  | i :: l => by
    unfold takeSpi
    cases hi : i.spiBytes with
    | none => simp [hi, filterMap_takeSpi l]
    | some b =>
      have hsent : i.sentSpi.toList.filterMap OutItem.spiBytes = [] := by
        cases hj : i.sentSpi with
        | none => rfl
        | some j => simp [OutItem.spiBytes_of_sentSpi hj (by simp [hi])]
      simp [hi, hsent]

/-- The free bytes that a READ frame clocks past the end of an item. -/
def State.pastBytes (s : State) (k : Nat) : List Byte := (List.range k).map (Config.freeByte s.free)

/-- A READ frame returns the item as far as it is clocked, and takes it out once it is clocked whole (R63). -/
theorem exec_spiReadFrame {b : List Byte} (hl : Live s) (hb : s.spiNext = some b) :
    ∃ v, exec (.spiReadFrame n t) s = .next v ∧ v.host.spiReturned = b.take n ++ s.pastBytes (n - b.length) ∧
      v.host.out = (if b.length ≤ n then takeSpi s.host.out else s.host.out) ∧ v.host.log = s.host.log ∧
      v.regs = s.regs ∧ v.power = s.power := by
  rw [show exec (.spiReadFrame n t) s = execSpiReadFrame n t s from rfl, execSpiReadFrame, spiFrame_live hl]
  refine ⟨_, rfl, ?_⟩
  simp only [State.elapse_spiNext, hb, State.pastBytes]
  split <;> simp [State.returns]

/-- Settles O38: by whether the item's last byte is clocked. -/
theorem spiReadFrameKeepsTheItem : Obligations.SpiReadFrameKeepsTheItem := by
  intro n t s hl
  refine ⟨fun b hb hn => ?_, fun b hb hn => ?_, fun hb => ?_, fun b h1 h2 h3 => ?_⟩
  · obtain ⟨v, hv, hret, hout, hlog, hregs, hpower⟩ := exec_spiReadFrame (n := n) (t := t) hl hb
    rw [if_neg (by omega)] at hout
    refine ⟨v, hv, by simp [hret, State.pastBytes, Nat.sub_eq_zero_of_le hn.le], hout, hlog, hregs, fun m t' => ?_⟩
    have hlv : Live v := ⟨hpower ▸ hl.1, by simpa [State.awake, State.get, hregs] using hl.2⟩
    have hbv : v.spiNext = some b := by rw [State.spiNext, hout]; exact hb
    obtain ⟨w, hw, hret', -⟩ := exec_spiReadFrame (n := m) (t := t') hlv hbv
    refine ⟨w, hw, ?_⟩
    rw [hret']
    rcases le_total m b.length with hm | hm
    · simp [State.pastBytes, Nat.sub_eq_zero_of_le hm]
    · simp [List.take_of_length_le hm]
  · obtain ⟨v, hv, hret, hout, -, hregs, -⟩ := exec_spiReadFrame (n := n) (t := t) hl hb
    rw [if_pos hn] at hout
    refine ⟨v, hv, by simp [hret, List.take_of_length_le hn], ?_, hout, ?_, hregs⟩
    · simp [hret, State.pastBytes]; omega
    · rw [hout, filterMap_takeSpi]
  · show execSpiReadFrame n t s = _
    rw [execSpiReadFrame, spiFrame_live hl]
    simp only [State.elapse_spiNext, hb]
  · have hunknown : b ∉ ([0x5A, 0xA5, 0xC3] : List Byte) := by
      simp only [List.mem_cons, List.not_mem_nil, or_false, not_or]
      exact ⟨h1, h2, h3⟩
    show execSpiUnknownFrame b t s = _
    rw [execSpiUnknownFrame, spiFrame_live hl, decide_eq_true hunknown, State.when_true]

/-! ### WRITE and STATUS frames, and windows -/

/-- Settles O39: each frame, and the end of a window, at its instant. -/
theorem spiWriteAndStatusFrames : Obligations.SpiWriteAndStatusFrames := by
  intro t s
  refine ⟨fun bytes hl => ?_, fun hl => ?_, fun code unit w hr hw hend => ?_⟩
  · have hexec : exec (.spiWriteFrame bytes t) s = .next (((s.elapse t).packetIn .spi 0xFE bytes).returns []) :=
      spiFrame_live (f := fun u => (u.packetIn .spi 0xFE bytes).returns []) hl
    refine ⟨fun hok => ?_, fun hbad => ?_⟩
    · rw [hexec, State.packetIn, if_pos hok]
    · rw [hexec, State.packetIn, if_neg (by simp [hbad])]
      rfl
  · show execSpiStatusFrame t s = _
    rw [execSpiStatusFrame, spiFrame_live hl]
    simp only [State.elapse_spiNext, State.elapse_outCount, State.elapse_get] <;> rfl
  · have hw' : (s.elapse t).window? code unit = some w := by simpa [State.window?] using hw
    show execEventWindowEnd code unit t s = _
    rw [execEventWindowEnd, event_running hr]
    simp only [hw', decide_eq_true hend, State.when_true, State.windowEnd]

end Sys2Proof.Machine
end

section
/-! SUPPORT. Laws of transactions: what receiving one, offering one to a port and raising an event leave, and what a write
of DRAM and a read of it leave of the rest. -/

namespace Sys2Proof.Machine

variable {s : State} {p q : Nat} {x : Trans}

/-! ### A transaction that a port has received (R373, R376) -/

section
variable (s p x)

/-- Its flits are freed; nothing else of the block changes. -/
theorem State.consume_eq : ∃ f : Port → Port, s.consume p x = s.modPort p f ∧ ∀ q, (f q).txq = q.txq := by
  have hcred : ∀ (q : Port) c f, (q.modCred c f).txq = q.txq := fun q c f => by
    unfold Port.modCred
    split_ifs <;> rfl
  unfold State.consume
  split
  · exact ⟨_, rfl, fun q => hcred q _ _⟩
  · exact ⟨_, rfl, fun _ => rfl⟩

@[simp] theorem State.consume_host : (s.consume p x).host = s.host := by obtain ⟨f, h, -⟩ := s.consume_eq p x; rw [h]; rfl
@[simp] theorem State.consume_time : (s.consume p x).time = s.time := by obtain ⟨f, h, -⟩ := s.consume_eq p x; rw [h]; rfl
@[simp] theorem State.consume_free : (s.consume p x).free = s.free := by obtain ⟨f, h, -⟩ := s.consume_eq p x; rw [h]; rfl
@[simp] theorem State.consume_regs : (s.consume p x).regs = s.regs := by obtain ⟨f, h, -⟩ := s.consume_eq p x; rw [h]; rfl
@[simp] theorem State.consume_dram : (s.consume p x).dram = s.dram := by obtain ⟨f, h, -⟩ := s.consume_eq p x; rw [h]; rfl
@[simp] theorem State.consume_mem : (s.consume p x).mem = s.mem := by obtain ⟨f, h, -⟩ := s.consume_eq p x; rw [h]; rfl
@[simp] theorem State.consume_encs : (s.consume p x).encs = s.encs := by obtain ⟨f, h, -⟩ := s.consume_eq p x; rw [h]; rfl
@[simp] theorem State.consume_hier : (s.consume p x).hier = s.hier := by obtain ⟨f, h, -⟩ := s.consume_eq p x; rw [h]; rfl

@[simp] theorem State.consume_ports_length : (s.consume p x).ports.length = s.ports.length := by
  obtain ⟨f, h, -⟩ := s.consume_eq p x
  rw [h, State.modPort_ports, modAt_length]

@[simp] theorem State.consume_txq (q : Nat) : ((s.consume p x).port q).txq = (s.port q).txq := by
  obtain ⟨f, h, hf⟩ := s.consume_eq p x
  rw [h]
  exact modAt_getD_kept hf p q s.ports _

@[simp] theorem State.consume_now : (s.consume p x).now = s.now := by simp [State.now]
@[simp] theorem State.consume_get (f : Fld) : (s.consume p x).get f = s.get f := by simp [State.get]
@[simp] theorem State.consume_flag (f : Fld) : (s.consume p x).flag f = s.flag f := by simp [State.flag]
@[simp] theorem State.consume_myId : (s.consume p x).myId = s.myId := State.consume_get ..
@[simp] theorem State.consume_awake : (s.consume p x).awake = s.awake := by simp [State.awake]
@[simp] theorem State.consume_active (q : Nat) : (s.consume p x).active q = s.active q := by simp [State.active]
@[simp] theorem State.consume_isPairPort (q : Nat) : (s.consume p x).isPairPort q = s.isPairPort q := by
  simp [State.isPairPort]
@[simp] theorem State.consume_standby : (s.consume p x).standby = s.standby := by simp [State.standby]

@[simp] theorem State.elapse_port (t : Nat) : (s.elapse t).port p = s.port p := by simp [State.port]
@[simp] theorem State.elapse_isPairPort (t : Nat) : (s.elapse t).isPairPort p = s.isPairPort p := by simp [State.isPairPort]
@[simp] theorem State.elapse_holds (t : Nat) : (s.elapse t).holds p x = s.holds p x := by simp [State.holds]

/-- ZP0 is never the pair port (R380). -/
@[simp] theorem State.isPairPort_zero : s.isPairPort 0 = false := rfl

end

/-! ### Where a transaction goes (R379) -/

theorem State.route_own (hd : x.dest = s.myId) (hid : s.myId < 63) : s.route p x = .here := by
  unfold State.route
  rw [if_neg (by omega), if_neg (by omega), if_neg (by omega), if_pos (by omega)]

theorem State.route_up (hp : p ≠ 0) (hpair : s.isPairPort p = false) (hd : x.dest = 0xFE) : s.route p x = .up := by
  unfold State.route
  rw [if_pos hd, if_pos ⟨hp, by simp [hpair]⟩]

theorem State.route_everyone (hd : x.dest = 63) (ht : x.ttype = ttBcast) : s.route p x = .everyone := by
  unfold State.route
  rw [if_neg (by omega), if_neg (by omega), if_pos hd, if_pos (Or.inr ht)]

theorem State.route_down (hd : x.dest < 63) (hne : x.dest ≠ s.myId) (hq : s.downlink? x.dest = some q) :
    s.route p x = .down q := by
  unfold State.route
  rw [if_neg (by omega), if_neg (by omega), if_neg (by omega), if_neg (fun h => hne h.1), hq]

/-! ### Transactions offered to ports (R383) -/

@[simp] theorem State.sendTrans_ports_length (src : Nat) : (s.sendTrans p src x).ports.length = s.ports.length :=
  modAt_length ..

theorem State.txq_sendTrans (hp : p < s.ports.length) (src : Nat) :
    ((s.sendTrans p src x).port p).txq = (s.port p).txq ++ [(src, x)] :=
  congrArg Port.txq (modAt_getD_same _ (Port.init false) p s.ports hp)

theorem State.txq_sendTrans_other (hq : q ≠ p) (src : Nat) : ((s.sendTrans p src x).port q).txq = (s.port q).txq :=
  congrArg Port.txq (modAt_getD_other _ (Port.init false) p q s.ports hq)

/-- A transaction offered to several ports. -/
def State.sendAll (s : State) (ps : List Nat) (src : Nat) (x : Trans) : State :=
  ps.foldl (fun s q => s.sendTrans q src x) s

section
variable (s x) (ps : List Nat) (src : Nat)

/-- It changes the ports only. -/
theorem State.sendAll_eq : ∃ l, s.sendAll ps src x = { s with ports := l } := by
  induction ps generalizing s with
  | nil => exact ⟨s.ports, rfl⟩
  | cons p ps ih =>
    obtain ⟨l, h⟩ := ih (s.sendTrans p src x)
    exact ⟨l, h⟩

@[simp] theorem State.sendAll_host : (s.sendAll ps src x).host = s.host := by
  obtain ⟨l, h⟩ := s.sendAll_eq x ps src; rw [h]
@[simp] theorem State.sendAll_hier : (s.sendAll ps src x).hier = s.hier := by
  obtain ⟨l, h⟩ := s.sendAll_eq x ps src; rw [h]
@[simp] theorem State.sendAll_get (f : Fld) : (s.sendAll ps src x).get f = s.get f := by
  obtain ⟨l, h⟩ := s.sendAll_eq x ps src; rw [h]; rfl
@[simp] theorem State.sendAll_getS (f : Fld) : (s.sendAll ps src x).getS f = s.getS f := by simp [State.getS]
@[simp] theorem State.sendAll_flag (f : Fld) : (s.sendAll ps src x).flag f = s.flag f := by simp [State.flag]

/-- Each of the ports has it at the end of its queue. -/
theorem State.txq_sendAll (hn : ps.Nodup) (hq : q < s.ports.length) :
    ((s.sendAll ps src x).port q).txq = (s.port q).txq ++ if q ∈ ps then [(src, x)] else [] := by
  induction ps generalizing s with
  | nil => simp [State.sendAll]
  | cons p ps ih =>
    obtain ⟨hp, hn⟩ := List.nodup_cons.1 hn
    refine (ih (s.sendTrans p src x) hn (by simpa using hq)).trans ?_
    by_cases hqp : q = p
    · subst hqp
      simp [State.txq_sendTrans hq, hp]
    · simp [State.txq_sendTrans_other hqp, hqp]

end

theorem State.nodup_bcastPorts (s : State) : s.bcastPorts.Nodup := List.Nodup.filter _ (by decide)

/-- A broadcast goes on every downlink that is active and is not the pair port. -/
theorem State.mem_bcastPorts {q : Fin 4} (hq : q ≠ 0) :
    q.val ∈ s.bcastPorts ↔ s.active q = true ∧ s.isPairPort q = false := by
  have h123 : q.val = 1 ∨ q.val = 2 ∨ q.val = 3 := by omega
  simp [State.bcastPorts, h123, and_comm]

/-! ### Counts -/

theorem State.get_incSat_same (s : State) (f : Fld) (n : Nat) :
    (s.incSat f n).get f = min (s.get f + n) (2 ^ f.w - 1) := by
  have : 0 < 2 ^ f.w := by positivity
  refine (State.get_set_same s f _).trans (Nat.mod_eq_of_lt ?_)
  omega

theorem State.get_incSat_other {f g : Fld} (h : g.key ≠ f.key) (n : Nat) : (s.incSat f n).get g = s.get g :=
  State.get_set_other s h _

/-! ### What raising an event leaves of the commands and the registers -/

section
variable (s)

theorem State.queueEvt_outstanding (e : Evt) : (s.queueEvt e).host.outstanding = s.host.outstanding := by
  unfold State.queueEvt
  dsimp only
  split_ifs <;> rfl

theorem State.logEvt_outstanding (e : Evt) : (s.logEvt e).host.outstanding = s.host.outstanding := by
  unfold State.logEvt
  split_ifs <;> rfl

theorem State.raise1_outstanding (c n : Nat) (a : List Byte) :
    (s.raise1 c n a).host.outstanding = s.host.outstanding := by
  unfold State.raise1
  exact (State.queueEvt_outstanding _ _).trans (State.logEvt_outstanding _ _)

theorem State.raise_outstanding (c n : Nat) (a : List Byte) : (s.raise c n a).host.outstanding = s.host.outstanding := by
  unfold State.raise
  dsimp only
  split
  · exact (State.raise1_outstanding _ _ _ _).trans (State.raise1_outstanding s c n a)
  · exact State.raise1_outstanding s c n a

end

/-- The commands outstanding stay, and every register but the two that count lost events. -/
structure EventFrame (s u : State) : Prop where
  outstanding : u.host.outstanding = s.host.outstanding
  get : ∀ f : Fld, f.key ∉ eventFields → u.get f = s.get f

theorem EventFrame.refl (s : State) : EventFrame s s := ⟨rfl, fun _ _ => rfl⟩

theorem EventFrame.trans {s u v : State} (h : EventFrame s u) (k : EventFrame u v) : EventFrame s v :=
  ⟨k.outstanding.trans h.outstanding, fun f hf => (k.get f hf).trans (h.get f hf)⟩

theorem EventFrame.raise (s : State) (c n : Nat) (a : List Byte) : EventFrame s (s.raise c n a) :=
  ⟨State.raise_outstanding s c n a, fun _ hf => State.raise_get s c n a hf⟩

theorem EventFrame.putWindow {s u : State} (h : EventFrame s u) (w : RWin) : EventFrame s (u.putWindow w) :=
  ⟨h.outstanding, h.get⟩

theorem EventFrame.windowEnd (s : State) (c n : Nat) : EventFrame s (s.windowEnd c n) := by
  unfold State.windowEnd
  split
  · exact .refl s
  · split
    · exact ⟨rfl, fun _ _ => rfl⟩
    · exact (EventFrame.raise s _ _ _).putWindow _

theorem EventFrame.raiseLimited (s : State) (c n k : Nat) (a : List Byte) : EventFrame s (s.raiseLimited c n k a) := by
  unfold State.raiseLimited
  cases hw : s.window? c n with
  | none =>
    simp only [hw]
    exact (EventFrame.raise s _ _ _).putWindow _
  | some w =>
    by_cases hend : w.endAt ≤ s.now
    · simp only [hend, if_true]
      refine (EventFrame.windowEnd s c n).trans ?_
      split
      · split
        · exact (EventFrame.refl _).putWindow _
        · exact (EventFrame.raise _ _ _ _).putWindow _
      · exact (EventFrame.raise _ _ _ _).putWindow _
    · simp only [hend, if_false, hw, if_pos (Nat.lt_of_not_le hend)]
      exact (EventFrame.refl s).putWindow _

/-! ### What a write of DRAM and a read of it leave -/

section
variable (s)

theorem State.meetCe_host (b : Nat) : (s.meetCe b).host = s.host := by
  unfold State.meetCe
  dsimp only
  split <;> rfl

theorem State.rmwRead_host (b : Nat) : (s.rmwRead b).host = s.host := by
  unfold State.rmwRead
  split
  · exact State.meetCe_host s b
  · rfl

theorem State.writePiece_host (w : Nat × List Byte) : (s.writePiece w).1.host = s.host := by
  have hstore : ∀ u : State, (u.storePiece w).host = u.host := fun u => by
    obtain ⟨m, h, -⟩ := State.storePiece_frame u w
    rw [h]
  have hfill : ∀ r, (s.startFill r).host = s.host := fun r => by
    unfold State.startFill
    split <;> rfl
  unfold State.writePiece
  dsimp only
  split
  · exact hstore s
  · split
    · split
      · exact hstore s
      · split
        · rfl
        · exact (hstore _).trans (State.rmwRead_host s _)
    · exact hfill _

theorem State.writePieces_host (ws : List (Nat × List Byte)) : (s.writePieces ws).1.host = s.host := by
  induction ws generalizing s with
  | nil => rfl
  | cons w ws ih => exact (ih _).trans (State.writePiece_host s w)

/-- A write of DRAM concerns no command. -/
theorem State.writeMem_host (mirror : Bool) (a : Nat) (d : List Byte) : (s.writeMem mirror a d).1.host = s.host := by
  have hqueue : ∀ (u : State) (rs : List WReq), (u.queueReqs rs).host = u.host := fun u rs => by
    unfold State.queueReqs
    obtain ⟨r, j, h⟩ := State.showQueues_keeps { u with mem := { u.mem with writes := u.mem.writes ++ rs } }
    rw [h]
  unfold State.writeMem
  dsimp only
  rw [hqueue]
  exact State.writePieces_host s _

/-- The corrected errors of a read count; DRAM, the ports and the device's id stay. -/
theorem State.meetCes_keeps (a n : Nat) :
    (s.meetCes a n).dram = s.dram ∧ (s.meetCes a n).ports = s.ports ∧ (s.meetCes a n).myId = s.myId := by
  have hce : ∀ (u : State) (b : Nat), (u.meetCe b).dram = u.dram ∧ (u.meetCe b).ports = u.ports ∧
      (u.meetCe b).myId = u.myId := fun u b => by
    have hid : (((u.incSat Reg.ECC_CE_COUNT 1).set Reg.ECC_CE_LAST_LO b).set Reg.ECC_CE_LAST_HI (b / 2 ^ 32)).myId =
        u.myId := by
      unfold State.myId
      rw [State.get_set_other _ (by decide), State.get_set_other _ (by decide), State.get_incSat_other (by decide)]
    unfold State.meetCe
    dsimp only
    split
    · exact ⟨rfl, rfl, hid⟩
    · exact ⟨rfl, rfl, hid⟩
  unfold State.meetCes
  refine foldl_keeps (P := fun u : State => u.dram = s.dram ∧ u.ports = s.ports ∧ u.myId = s.myId) (fun u b ⟨hd, hp, hi⟩ => ?_)
    _ _ ⟨rfl, rfl, rfl⟩
  obtain ⟨hd', hp', hi'⟩ := hce u b
  exact ⟨hd'.trans hd, hp'.trans hp, hi'.trans hi⟩

end

/-! ### The pieces of a write -/

/-- A piece begins in the range that is written. -/
theorem mem_piecesOf : ∀ {n a : Nat} {d : List Byte} {w : Nat × List Byte}, w ∈ piecesOf n a d →
    a ≤ w.1 ∧ w.1 < a + d.length
  | n + 1, a, d, w, h => by
    unfold piecesOf at h
    split at h
    case isTrue => cases h
    case isFalse he =>
      have hd : 0 < d.length := List.length_pos_iff.2 fun e => he (by simp [e])
      rcases List.mem_cons.1 h with rfl | h
      · exact ⟨le_rfl, by omega⟩
      · have := mem_piecesOf h
        rw [List.length_drop] at this
        omega

/-- The block of a byte of a range is one of its blocks. -/
theorem blockOf_mem_blocksIn {a n b : Nat} (h1 : a ≤ b) (h2 : b < a + n) : blockOf b ∈ blocksIn a n := by
  unfold blocksIn blockOf
  rw [if_neg (by omega)]
  exact List.mem_map.2 ⟨b / 64 - a / 64, List.mem_range.2 (by omega), by omega⟩

/-- A write to valid regions outside initialisation mode, to no uncorrectable block, is there at once. -/
theorem State.direct_piecesOf {a : Nat} {d : List Byte} (hue : ∀ b ∈ blocksIn a d.length, b ∉ s.mem.ue)
    (hv : ∀ i < d.length, s.validRegion ((a + i) / regionBytes) = true) :
    ∀ w ∈ piecesOf d.length a d, s.direct w := fun w hw => by
  obtain ⟨h1, h2⟩ := mem_piecesOf hw
  have hr := hv (w.1 - a) (by omega)
  rw [Nat.add_sub_cancel' h1] at hr
  exact Or.inr ⟨hr, hue _ (blockOf_mem_blocksIn h1 h2)⟩

/-- Such a write refuses no block. -/
theorem State.writeMem_good (mirror : Bool) {a : Nat} {d : List Byte} (h : ∀ w ∈ piecesOf d.length a d, s.direct w) :
    (s.writeMem mirror a d).2 = [] := by
  unfold State.writeMem
  dsimp only
  exact (State.writePieces_frame _ s h).2

end Sys2Proof.Machine
end

section
/-! SUPPORT. The statement on transactions: each of its rows on what the port has received, then what the device does with
it. -/

namespace Sys2Proof.Machine

variable {s : State} {x : Trans} {t : Nat}

/-! ### CMD (R35, R36, R380) -/

/-- A CMD of the uplink in order delivers its packet. -/
theorem exec_cmdTransaction (hr : Running s) (hold : s.holds 0 x = true) (hok : transOk x = true) (ht : x.ttype = ttCmd)
    (htarget : u8 x.body 4 = x.dest) (ha : s.awake = true) (hid : s.myId ≠ 0xFF) :
    exec (.cmdTransaction 0 x t) s = .next (((s.elapse t).consume 0 x).packetIn .uplink x.src x.body) := by
  have hacc : ∀ w : State, w.accepts 0 x = true := fun w => by simp [State.accepts, ht]
  show execCmdTransaction 0 x t s = _
  unfold execCmdTransaction
  rw [event_running hr]
  simp [hold, ht, hok, hacc, htarget, State.arrive, ha, hid, State.when]

/-- A packet that is dropped counts as a CRC error; no command is outstanding for it (R35). -/
theorem State.dropPacket_counts (w : State) (i : Iface) :
    (w.dropPacket i).get Reg.CMD_ERR_COUNT_CRC =
      min (w.get Reg.CMD_ERR_COUNT_CRC + 1) (2 ^ (Reg.CMD_ERR_COUNT_CRC).w - 1) ∧
      (w.dropPacket i).host.outstanding = w.host.outstanding := by
  obtain ⟨hout, hget⟩ := EventFrame.raiseLimited (w.incSat Reg.CMD_ERR_COUNT_CRC 1) evCmdDropped 0 1
    (leBytes 4 ((w.incSat Reg.CMD_ERR_COUNT_CRC 1).get Reg.CMD_ERR_COUNT_CRC) ++
      [BitVec.ofNat 8 (if i = .spi then 1 else 0)])
  exact ⟨(hget _ (by decide)).trans (State.get_incSat_same w _ 1), hout⟩

/-! ### MEMWR and MEMRD (R76, R381) -/

theorem exec_memwr (hr : Running s) (hold : s.holds 0 x = true) (hok : transOk x = true) (ht : x.ttype = ttMemWr)
    (hd : x.dest = s.myId) (hid : s.myId < 63) :
    exec (.memwr 0 x t) s = .next (((s.elapse t).consume 0 x).takeWr 0 x) := by
  have hacc : ∀ w : State, w.accepts 0 x = true := fun w => by simp [State.accepts, ht]
  have hroute : ((s.elapse t).consume 0 x).route 0 x = .here := State.route_own (by simpa using hd) (by simpa using hid)
  show execMemwr 0 x t s = _
  unfold execMemwr
  rw [event_running hr]
  simp [hold, ht, hok, hacc, State.routeMem, hroute, State.when]

theorem exec_memrd (hr : Running s) (hold : s.holds 0 x = true) (hok : transOk x = true) (ht : x.ttype = ttMemRd)
    (hd : x.dest = s.myId) (hid : s.myId < 63) :
    exec (.memrd 0 x t) s = .next (((s.elapse t).consume 0 x).takeRd 0 x) := by
  have hacc : ∀ w : State, w.accepts 0 x = true := fun w => by simp [State.accepts, ht]
  have hroute : ((s.elapse t).consume 0 x).route 0 x = .here := State.route_own (by simpa using hd) (by simpa using hid)
  show execMemrd 0 x t s = _
  unfold execMemrd
  rw [event_running hr]
  simp [hold, ht, hok, hacc, State.routeMem, hroute, State.when]

section
variable {w : State}

/-- A MEMWR of ZP0 that may not write is refused and counted: on a standby with ST_NOT_OWNER, else with ST_PROTECTED. -/
theorem State.takeWr_refused (hpage : onePage (u64 x.body 0) (x.body.drop 8).length = true)
    (hdram : inDram (u64 x.body 0) (x.body.drop 8).length = true)
    (hno : w.standby = true ∨ touchesProt (u64 x.body 0) (x.body.drop 8).length = true) :
    w.takeWr 0 x = (w.incSat Reg.MEMCTL_PROT_REFUSED_COUNT 1).refuseWr 0 x
      (if w.standby then stNotOwner else stProtected) := by
  cases hs : w.standby
  case true => simp [-List.length_drop, State.takeWr, hpage, hdram, hs]
  case false =>
    have hprot := hno.resolve_left (by simp [hs])
    simp [-List.length_drop, State.takeWr, hpage, hdram, hs, hprot]

/-- What such a refusal leaves: DRAM as it was, one more refused write, and the answer to another device than the partner. -/
theorem State.refuseWr_effect (hports : 0 < w.ports.length) (ht : x.ttype = ttMemWr) (st : Nat) :
    let v := (w.incSat Reg.MEMCTL_PROT_REFUSED_COUNT 1).refuseWr 0 x st
    v.dram = w.dram ∧ v.get Reg.MEMCTL_PROT_REFUSED_COUNT =
      min (w.get Reg.MEMCTL_PROT_REFUSED_COUNT + 1) (2 ^ (Reg.MEMCTL_PROT_REFUSED_COUNT).w - 1) ∧
      (x.src ≠ 0xFD → (v.port 0).txq = (w.port 0).txq ++
        [(0, ⟨ttMemCpl, x.src, w.myId, 2, x.tag, leBytes 2 st ++ [0, 0] ++ leBytes 4 0⟩)]) := by
  refine ⟨rfl, ?_, fun hsrc => ?_⟩
  · exact (State.get_incSat_other (by decide) 1).trans (State.get_incSat_same w _ 1)
  · have hid : ((w.incSat Reg.MEMCTL_PROT_REFUSED_COUNT 1).incSat (Reg.ZLINK_PORT_MEMWR_REFUSED_COUNT 0) 1).myId = w.myId :=
      (State.get_incSat_other (by decide) 1).trans (State.get_incSat_other (by decide) 1)
    unfold State.refuseWr State.sendCpl
    simp only [if_neg hsrc, if_pos ht, hid]
    exact State.txq_sendTrans hports 0

theorem State.writesFrom_host (old src : Nat) : (w.writesFrom old src).host = w.host := rfl
theorem State.writesFrom_dram (old src : Nat) : (w.writesFrom old src).dram = w.dram := rfl

/-- A MEMWR of ZP0 to memory that takes it at once: its bytes are there, no other byte changes, and no command is
concerned. -/
theorem State.takeWr_written (hpage : onePage (u64 x.body 0) (x.body.drop 8).length = true)
    (hdram : inDram (u64 x.body 0) (x.body.drop 8).length = true) (hs : w.standby = false)
    (hprot : touchesProt (u64 x.body 0) (x.body.drop 8).length = false)
    (hdirect : ∀ y ∈ piecesOf (x.body.drop 8).length (u64 x.body 0) (x.body.drop 8), w.direct y) :
    (w.takeWr 0 x).host = w.host ∧ ∀ b, Sparse.get 0 (w.takeWr 0 x).dram b =
      if u64 x.body 0 ≤ b ∧ b < u64 x.body 0 + (x.body.drop 8).length then (x.body.drop 8).getD (b - u64 x.body 0) 0
      else Sparse.get 0 w.dram b := by
  have hgood : (w.writeMem true (u64 x.body 0) (x.body.drop 8)).2 = [] := State.writeMem_good true hdirect
  have htake : w.takeWr 0 x =
      (w.writeMem true (u64 x.body 0) (x.body.drop 8)).1.writesFrom w.mem.writes.length x.src := by
    simp [-List.length_drop, State.takeWr, hpage, hdram, hs, hprot, hgood]
  rw [htake, State.writesFrom_host, State.writesFrom_dram]
  exact ⟨State.writeMem_host w _ _ _, State.writeMem_dram w true _ _ hdirect⟩

/-- A MEMRD of ZP0 that meets no uncorrectable block and no fill is answered with the bytes read. -/
theorem State.takeRd_effect (hports : 0 < w.ports.length) (ht : x.ttype = ttMemRd) (hsrc : x.src ≠ 0xFD)
    (hpage : onePage (u64 x.body 0) (u32 x.body 8) = true) (hdram : inDram (u64 x.body 0) (u32 x.body 8) = true)
    (hgood : w.badBlocks (u64 x.body 0) (u32 x.body 8) = []) (hfill : w.mem.filling = []) :
    let d := w.readMem (u64 x.body 0) (u32 x.body 8)
    (w.takeRd 0 x).dram = w.dram ∧ ((w.takeRd 0 x).port 0).txq = (w.port 0).txq ++
      [(0, ⟨ttMemCpl, x.src, w.myId, 0, x.tag, leBytes 2 stOk ++ [0, 0] ++ leBytes 4 d.length ++ d⟩)] := by
  intro d
  have hwait : w.waitFills (u64 x.body 0) (u32 x.body 8) = w := by simp [State.waitFills, hfill]
  obtain ⟨hd, hp, hi⟩ := State.meetCes_keeps w (u64 x.body 0) (u32 x.body 8)
  have htake : w.takeRd 0 x = ((w.meetCes (u64 x.body 0) (u32 x.body 8)).used).sendTrans 0 0
      ⟨ttMemCpl, x.src, w.myId, 0, x.tag, leBytes 2 stOk ++ [0, 0] ++ leBytes 4 d.length ++ d⟩ := by
    have hwr : ¬x.ttype = ttMemWr := by rw [ht]; decide
    have hi' : (w.meetCes (u64 x.body 0) (u32 x.body 8)).used.myId = w.myId := hi
    simp only [State.takeRd, hpage, hdram, State.isPairPort_zero, State.fetch, hwait, hgood, State.sendCpl, if_neg hsrc,
      if_neg hwr, hi']
    rfl
  rw [htake]
  refine ⟨hd, (State.txq_sendTrans (by rw [State.used_ports, hp]; exact hports) 0).trans ?_⟩
  simp only [State.port, State.used_ports, hp]

end

/-! ### MEMCPL (R379, R380) -/

/-- A MEMCPL has no business on the uplink. -/
theorem exec_memcpl_uplink (hr : Running s) (hold : s.holds 0 x = true) (ht : x.ttype = ttMemCpl) :
    exec (.memcpl 0 x t) s = .next (((s.elapse t).consume 0 x).discard 0) := by
  have hacc : ∀ w : State, w.accepts 0 x = false := fun w => by
    unfold State.accepts
    rw [if_pos rfl, ht]
    decide
  show execMemcpl 0 x t s = _
  unfold execMemcpl
  rw [event_running hr]
  simp [hold, ht, hacc, State.when]

/-! ### Upstream traffic (R46, R54, R379) -/

section
variable {p : Fin 4}

/-- A downlink takes what is for the manager's host, and its route is up. -/
theorem State.accepts_up (hp : p ≠ 0) (hpair : s.isPairPort p = false) (hd : x.dest = 0xFE) :
    ((s.elapse t).consume p x).accepts p x = true ∧ ((s.elapse t).consume p x).route p x = .up := by
  have hp : p.val ≠ 0 := fun h => hp (Fin.ext h)
  refine ⟨?_, State.route_up hp (by simpa using hpair) hd⟩
  unfold State.accepts
  rw [if_neg hp, if_neg (by simp [hpair])]
  simp [hd]

theorem exec_memcpl_up (hr : Running s) (hold : s.holds p x = true) (hok : transOk x = true) (ht : x.ttype = ttMemCpl)
    (hp : p ≠ 0) (hpair : s.isPairPort p = false) (hd : x.dest = 0xFE) :
    exec (.memcpl p x t) s = .next (((s.elapse t).consume p x).sendTrans 0 p x) := by
  obtain ⟨hacc, hroute⟩ := State.accepts_up (t := t) hp hpair hd
  show execMemcpl p x t s = _
  unfold execMemcpl
  rw [event_running hr]
  simp [hold, ht, hok, hacc, hroute, State.when]

theorem exec_upstreamForward (hr : Running s) (hold : s.holds p x = true) (hok : transOk x = true)
    (ht : x.ttype = ttReply ∨ x.ttype = ttEvent) (hp : p ≠ 0) (hpair : s.isPairPort p = false) (hd : x.dest = 0xFE) :
    exec (.upstreamForward p x t) s = .next (if x.ttype = ttReply then ((s.elapse t).consume p x).replyUp p x
      else ((s.elapse t).consume p x).eventUp p x) := by
  obtain ⟨hacc, hroute⟩ := State.accepts_up (t := t) hp hpair hd
  have ht : (x.ttype == ttReply || x.ttype == ttEvent) = true := by simpa using ht
  show execUpstreamForward p x t s = _
  unfold execUpstreamForward
  rw [event_running hr]
  simp [hold, ht, hok, hacc, hroute, State.when]

/-! ### BCAST and its beacons (R379, R384, R400) -/

/-- What a broadcast does by its route. -/
def State.bcastBy (w : State) (p : Nat) (x : Trans) : Route → State
  | .here => w.useBeacon x
  | .everyone => w.beacon x
  | .down q => w.when (w.active q && !w.isPairPort q) (·.sendTrans q 1 { x with flags := x.flags ||| 1 })
  | .up => w.sendTrans 0 p x
  | .nowhere => w.discard p

theorem exec_bcast (hr : Running s) (hold : s.holds p x = true) (hok : transOk x = true) (ht : x.ttype = ttBcast)
    (hacc : ((s.elapse t).consume p x).accepts p x = true) :
    exec (.bcast p x t) s =
      .next (((s.elapse t).consume p x).bcastBy p x (((s.elapse t).consume p x).route p x)) := by
  have ht : (x.ttype == ttBcast) = true := by simp [ht]
  show execBcast p x t s = _
  unfold execBcast
  rw [event_running hr]
  simp only [State.elapse_holds, hold, ht, hok, hacc, State.when]
  cases ((s.elapse t).consume p x).route p x <;> rfl

theorem State.accepts_bcast (w : State) (ht : x.ttype = ttBcast) : w.accepts 0 x = true := by simp [State.accepts, ht]

end

/-- The fields of TIME and HIER in which a worker uses a beacon, but for their count. -/
def beaconFields : List Nat :=
  [Reg.TIME_STATUS_HOLDOVER.key, Reg.TIME_LAST_ERR_NS.key, Reg.TIME_STATUS_UNSYNC.key, Reg.TIME_STEPS_COUNT.key,
    (Reg.TIME_TB_RATE_PPB 0).key, Reg.HIER_LINE_DIFF.key, Reg.HIER_STATUS_LINE_MISMATCH.key]

/-- The ports stay, and every register but those of `beaconFields`. -/
def BeaconFrame (s u : State) : Prop := u.ports = s.ports ∧ ∀ f : Fld, f.key ∉ beaconFields → u.get f = s.get f

theorem BeaconFrame.refl (s : State) : BeaconFrame s s := ⟨rfl, fun _ _ => rfl⟩

theorem BeaconFrame.set {s u : State} (h : BeaconFrame s u) {g : Fld} (hg : g.key ∈ beaconFields) (v : Nat) :
    BeaconFrame s (u.set g v) := by
  obtain ⟨hports, hget⟩ := h
  refine ⟨hports, fun f hf => ?_⟩
  have hne : f.key ≠ g.key := fun e => hf (e ▸ hg)
  rw [State.get_set_other u hne, hget f hf]

/-- An update of other parts of the state. -/
theorem BeaconFrame.other {s u v : State} (h : BeaconFrame s u) (hp : v.ports = u.ports) (hr : v.regs = u.regs) :
    BeaconFrame s v :=
  ⟨hp.trans h.1, fun f hf => (congrArg (Sparse.get f.reset · f.key) hr).trans (h.2 f hf)⟩

theorem BeaconFrame.discipline (s : State) (n : Nat) : BeaconFrame s (s.discipline n) := by
  have hold : BeaconFrame s ({ s with time := { s.time with lastBeacon := some s.now } }.setB Reg.TIME_STATUS_HOLDOVER false) :=
    ((BeaconFrame.refl s).other rfl rfl).set (by decide) _
  unfold State.discipline
  dsimp only
  split
  · exact hold
  · have herr := hold.set (g := Reg.TIME_LAST_ERR_NS) (by decide)
    split
    · exact (((herr _).other rfl rfl).set (by decide) _).set (by decide) _
    · split
      · exact ((herr _).other rfl rfl).set (by decide) _
      · exact ((herr _).other rfl rfl).set (by decide) _

theorem BeaconFrame.lineBeacon (s : State) (e : Nat) (n : Int) : BeaconFrame s (s.lineBeacon e n) := by
  unfold State.lineBeacon
  dsimp only
  split
  · exact .refl s
  · have hdiff := (BeaconFrame.refl s).set (g := Reg.HIER_LINE_DIFF) (by decide)
    split
    · exact (hdiff _).set (by decide) _
    · exact hdiff _

/-- A beacon that the device consumes counts; the use that a worker makes of it is kept to its fields. -/
theorem State.useBeacon_frame (w : State) (x : Trans) : (w.useBeacon x).ports = w.ports ∧
    (w.useBeacon x).get Reg.HIER_BEACONS_RX_COUNT =
      low (Reg.HIER_BEACONS_RX_COUNT).w (w.get Reg.HIER_BEACONS_RX_COUNT + 1) ∧
    ∀ f : Fld, f.key ∉ Reg.HIER_BEACONS_RX_COUNT.key :: beaconFields → (w.useBeacon x).get f = w.get f := by
  have huse : BeaconFrame (w.inc Reg.HIER_BEACONS_RX_COUNT) (w.useBeacon x) := by
    unfold State.useBeacon
    dsimp only
    split
    · exact .refl _
    · split
      · exact .discipline _ _
      · exact .lineBeacon _ _ _
  obtain ⟨hp, hg⟩ := huse
  refine ⟨hp, (hg _ (by decide)).trans (State.get_set_same w _ _), fun f hf => ?_⟩
  obtain ⟨hne, hf⟩ := not_or.1 (mt List.mem_cons.2 hf)
  exact (hg f hf).trans (State.get_set_other w hne _)

theorem inS_sgn {n w : Nat} (hw : 0 < w) : inS w (sgn w n) := by
  obtain ⟨v, rfl⟩ := Nat.exists_eq_succ_of_ne_zero hw.ne'
  have hp : (2 ^ (v + 1) : Nat) = 2 * 2 ^ v := by rw [Nat.pow_succ]; omega
  have hlow : low (v + 1) n < 2 ^ (v + 1) := Nat.mod_lt _ (by positivity)
  unfold sgn inS
  simp only [Nat.succ_eq_add_one, Nat.add_sub_cancel, hp] at hlow ⊢
  split <;> omega

/-- A two's-complement field reads as the number that it was given, where the field holds it. -/
theorem State.getS_setS_same (s : State) {f : Fld} {i : Int} (hw : 0 < f.w) (hi : inS f.w i) : (s.setS f i).getS f = i := by
  unfold State.getS State.setS
  rw [State.get_set_same, low_pat, sgn_pat hw hi]

/-- A worker's use of a line beacon (R400). -/
theorem State.useBeacon_line {w : State} (hid : w.myId ≠ 0) (hk : u8 x.body 0 = 1)
    (hv : w.encValid (u8 x.body 20 % 4) = true) :
    let diff := wrapS 32 ((w.enc (u8 x.body 20 % 4)).count - iAt x.body 24 8)
    (w.useBeacon x).getS Reg.HIER_LINE_DIFF = diff ∧ (w.useBeacon x).get Reg.HIER_STATUS_LINE_MISMATCH =
      (if w.get Reg.HIER_LINE_TOL < diff.natAbs then 1 else w.get Reg.HIER_STATUS_LINE_MISMATCH) := by
  intro diff
  have hdiff : inS (Reg.HIER_LINE_DIFF).w diff := inS_sgn (by decide)
  have hworker : (w.inc Reg.HIER_BEACONS_RX_COUNT).worker = true := by
    have : (w.inc Reg.HIER_BEACONS_RX_COUNT).myId = w.myId := State.get_set_other w (by decide) _
    simp [State.worker, this, hid]
  have hvalid : (w.inc Reg.HIER_BEACONS_RX_COUNT).encValid (u8 x.body 20 % 4) = true := by
    have : (Reg.ENC_STATUS_INVALID (u8 x.body 20 % 4)).key ≠ (Reg.HIER_BEACONS_RX_COUNT).key := by
      simp only [Fld.key, Reg.ENC_STATUS_INVALID, Reg.HIER_BEACONS_RX_COUNT]; omega
    rw [State.encValid, State.inc, State.flag_set_other w this]
    exact hv
  have htol : ((w.inc Reg.HIER_BEACONS_RX_COUNT).setS Reg.HIER_LINE_DIFF diff).get Reg.HIER_LINE_TOL =
      w.get Reg.HIER_LINE_TOL :=
    (State.get_set_other _ (by decide) _).trans (State.get_set_other w (by decide) _)
  have huse : w.useBeacon x =
      if w.get Reg.HIER_LINE_TOL < diff.natAbs then
        ((w.inc Reg.HIER_BEACONS_RX_COUNT).setS Reg.HIER_LINE_DIFF diff).setB Reg.HIER_STATUS_LINE_MISMATCH true
      else (w.inc Reg.HIER_BEACONS_RX_COUNT).setS Reg.HIER_LINE_DIFF diff := by
    rw [← htol]
    simp only [State.useBeacon, State.lineBeacon, hworker, hvalid, hk]
    rfl
  rw [huse]
  split
  · refine ⟨?_, State.get_set_same _ _ _⟩
    rw [State.getS, State.get_setB_other _ (by decide)]
    exact State.getS_setS_same _ (by decide) hdiff
  · exact ⟨State.getS_setS_same _ (by decide) hdiff,
      (State.get_set_other _ (by decide) _).trans (State.get_set_other w (by decide) _)⟩

/-- A beacon for every device is used, and goes on every downlink that is up. -/
theorem State.beacon_eq (w : State) :
    w.beacon x = (w.useBeacon x).sendAll (w.useBeacon x).bcastPorts 1 { x with flags := x.flags ||| 1 } := rfl

theorem llState_notMem_beaconFields :
    ∀ q : Fin 4, (Reg.ZLINK_PORT_STATUS_LL_STATE q).key ∉ Reg.HIER_BEACONS_RX_COUNT.key :: beaconFields := by decide

theorem State.txq_beacon {w : State} {q : Fin 4} (hports : w.ports.length = 4) (hq : q ≠ 0) (ha : w.active q = true)
    (hpair : w.isPairPort q = false) :
    ((w.beacon x).port q).txq = (w.port q).txq ++ [(1, { x with flags := x.flags ||| 1 })] := by
  obtain ⟨hp, -, hg⟩ := State.useBeacon_frame w x
  have hactive : (w.useBeacon x).active q = true := by
    rw [State.active, hg _ (llState_notMem_beaconFields q)]
    exact ha
  have hpair : (w.useBeacon x).isPairPort q = false := by
    rw [State.isPairPort, State.flag, hg _ (by decide)]
    exact hpair
  have hlen : q.val < (w.useBeacon x).ports.length := by rw [hp, hports]; exact q.isLt
  have hport : (w.useBeacon x).port q = w.port q := by rw [State.port, hp]; rfl
  rw [State.beacon_eq, State.txq_sendAll _ _ _ _ (State.nodup_bcastPorts _) hlen,
    if_pos ((State.mem_bcastPorts hq).2 ⟨hactive, hpair⟩), hport]

/-! ### Beacons of the manager, and their loss (R399, R431) -/

/-- Without line beacons one time beacon is sent, and the number of the next one moves on. -/
theorem State.sendBeacons_eq {w : State} (hl : w.flag Reg.HIER_BEACON_LINE_EN = false) :
    let u := w.sendAll w.bcastPorts 0 (beaconTrans 0 w.hier.seqTime 0)
    w.sendBeacons = { u with hier := { u.hier with seqTime := (u.hier.seqTime + 1) % 65536 } } := by
  have hl : (w.sendAll w.bcastPorts 0 (beaconTrans 0 w.hier.seqTime 0)).flag Reg.HIER_BEACON_LINE_EN = false := by
    rw [State.sendAll_flag, hl]
  exact if_neg (by rw [Bool.not_eq_true]; exact hl)

theorem exec_beaconSend (hl : Live s) (hdue : (s.elapse t).beaconsDue = true) :
    exec (.beaconSend t) s = .next { (s.elapse t).sendBeacons with
      hier := { (s.elapse t).sendBeacons.hier with beaconAt := some ((s.elapse t).tbNs 0) } } := by
  show execBeaconSend t s = _
  unfold execBeaconSend
  rw [eventAwake_live hl, hdue, State.when_true]

/-! ### The rows, on the state before them -/

/-- An unsound packet counts as a CRC error and has no effect. -/
theorem exec_cmdTransaction_unsound (hr : Running s) (hold : s.holds 0 x = true) (hok : transOk x = true)
    (ht : x.ttype = ttCmd) (htarget : u8 x.body 4 = x.dest) (ha : s.awake = true) (hid : s.myId ≠ 0xFF)
    (hbad : packetOk x.body = false) :
    ∃ v, exec (.cmdTransaction 0 x t) s = .next v ∧
      v.get Reg.CMD_ERR_COUNT_CRC = min (s.get Reg.CMD_ERR_COUNT_CRC + 1) (2 ^ (Reg.CMD_ERR_COUNT_CRC).w - 1) ∧
      v.host.outstanding = s.host.outstanding := by
  obtain ⟨hcrc, hout⟩ := State.dropPacket_counts ((s.elapse t).consume 0 x) .uplink
  refine ⟨_, exec_cmdTransaction hr hold hok ht htarget ha hid, ?_⟩
  rw [State.packetIn, if_neg (by simp [hbad])]
  exact ⟨by simpa using hcrc, by simpa using hout⟩

/-- A sound packet for the block's own id that passes checks 1 to 6 is outstanding. -/
theorem exec_cmdTransaction_taken {c : HostCmd} (hr : Running s) (hold : s.holds 0 x = true) (hok : transOk x = true)
    (ht : x.ttype = ttCmd) (htarget : u8 x.body 4 = x.dest) (ha : s.awake = true) (hid : s.myId ≠ 0xFF)
    (hgood : packetOk x.body = true) (hk : (parsePacket .uplink x.src (s.elapse t).now x.body).h.target = s.myId)
    (hc : (parsePacket .uplink x.src (s.elapse t).now x.body).cmd = some c)
    (hst : ((s.elapse t).consume 0 x).arrivalStatus (parsePacket .uplink x.src (s.elapse t).now x.body) = stOk) :
    exec (.cmdTransaction 0 x t) s = .next { (s.elapse t).consume 0 x with
      host := { s.host with outstanding := s.host.outstanding ++
        [⟨(parsePacket .uplink x.src (s.elapse t).now x.body).h, c, x.src⟩] } } := by
  have hplace (k : Packet) (hk : k.h.target = s.myId) (hc : k.cmd = some c)
      (hst : ((s.elapse t).consume 0 x).arrivalStatus k = stOk) :
      ((s.elapse t).consume 0 x).place k = { (s.elapse t).consume 0 x with
        host := { s.host with outstanding := s.host.outstanding ++ [⟨k.h, c, k.src⟩] } } := by
    unfold State.place State.take
    simp [hid, hk, hc, hst]
  rw [exec_cmdTransaction hr hold hok ht htarget ha hid, State.packetIn, if_pos hgood, State.consume_now,
    hplace _ hk hc hst]
  rfl

theorem exec_memwr_refused (hr : Running s) (hports : 0 < s.ports.length) (hold : s.holds 0 x = true)
    (hok : transOk x = true) (ht : x.ttype = ttMemWr) (hd : x.dest = s.myId) (hid : s.myId < 63)
    (hpage : onePage (u64 x.body 0) (x.body.drop 8).length = true)
    (hdram : inDram (u64 x.body 0) (x.body.drop 8).length = true) {st : Nat}
    (hst : s.standby = true ∧ st = stNotOwner ∨
      s.standby = false ∧ touchesProt (u64 x.body 0) (x.body.drop 8).length = true ∧ st = stProtected) :
    ∃ v, exec (.memwr 0 x t) s = .next v ∧ v.dram = s.dram ∧ v.get Reg.MEMCTL_PROT_REFUSED_COUNT =
        min (s.get Reg.MEMCTL_PROT_REFUSED_COUNT + 1) (2 ^ (Reg.MEMCTL_PROT_REFUSED_COUNT).w - 1) ∧
      (x.src ≠ 0xFD → (v.port 0).txq = (s.port 0).txq ++
        [(0, ⟨ttMemCpl, x.src, s.myId, 2, x.tag, leBytes 2 st ++ [0, 0] ++ leBytes 4 0⟩)]) := by
  have hrefused : ((s.elapse t).consume 0 x).takeWr 0 x =
      (((s.elapse t).consume 0 x).incSat Reg.MEMCTL_PROT_REFUSED_COUNT 1).refuseWr 0 x st := by
    rcases hst with ⟨hs, rfl⟩ | ⟨hs, hprot, rfl⟩
    · rw [State.takeWr_refused hpage hdram (Or.inl (by simpa using hs)), if_pos (by simpa using hs)]
    · rw [State.takeWr_refused hpage hdram (Or.inr hprot), if_neg (by simp [hs])]
  obtain ⟨hdr, hcount, htxq⟩ := State.refuseWr_effect (w := (s.elapse t).consume 0 x) (by simpa using hports) ht st
  refine ⟨_, exec_memwr hr hold hok ht hd hid, ?_⟩
  rw [hrefused]
  exact ⟨by simpa using hdr, by simpa using hcount, by simpa using htxq⟩

theorem exec_memwr_written (hr : Running s) (hold : s.holds 0 x = true) (hok : transOk x = true)
    (ht : x.ttype = ttMemWr) (hd : x.dest = s.myId) (hid : s.myId < 63) {a : Nat} {d : List Byte}
    (ha : a = u64 x.body 0) (hbody : d = x.body.drop 8) (hpage : onePage a d.length = true)
    (hdram : inDram a d.length = true) (hs : s.standby = false) (hprot : touchesProt a d.length = false)
    (hue : ∀ b ∈ blocksIn a d.length, b ∉ s.mem.ue)
    (hv : ∀ i < d.length, s.validRegion ((a + i) / regionBytes) = true) :
    ∃ v, exec (.memwr 0 x t) s = .next v ∧ (∀ i < d.length, Sparse.get 0 v.dram (a + i) = d.getD i 0) ∧
      (∀ b, (b < a ∨ a + d.length ≤ b) → Sparse.get 0 v.dram b = Sparse.get 0 s.dram b) ∧ v.host = s.host := by
  subst ha hbody
  have hdirect : ∀ y ∈ piecesOf (x.body.drop 8).length (u64 x.body 0) (x.body.drop 8),
      ((s.elapse t).consume 0 x).direct y :=
    State.direct_piecesOf (by simpa using hue) (by simpa [State.validRegion] using hv)
  obtain ⟨hhost, hbytes⟩ := State.takeWr_written hpage hdram (by simpa using hs) hprot hdirect
  refine ⟨_, exec_memwr hr hold hok ht hd hid, fun i hi => ?_, fun b hb => ?_, by simpa using hhost⟩
  · rw [hbytes, if_pos (by omega), Nat.add_sub_cancel_left]
  · rw [hbytes, if_neg (by omega), State.consume_dram, State.elapse_dram]

theorem exec_memrd_answered (hr : Running s) (hports : 0 < s.ports.length) (hold : s.holds 0 x = true)
    (hok : transOk x = true) (ht : x.ttype = ttMemRd) (hd : x.dest = s.myId) (hid : s.myId < 63) (hsrc : x.src ≠ 0xFD)
    (hpage : onePage (u64 x.body 0) (u32 x.body 8) = true) (hdram : inDram (u64 x.body 0) (u32 x.body 8) = true)
    (hgood : s.badBlocks (u64 x.body 0) (u32 x.body 8) = []) (hfill : s.mem.filling = []) :
    ∃ v, exec (.memrd 0 x t) s = .next v ∧ v.dram = s.dram ∧ (v.port 0).txq = (s.port 0).txq ++
      [(0, ⟨ttMemCpl, x.src, s.myId, 0, x.tag, leBytes 2 stOk ++ [0, 0] ++
        leBytes 4 (s.readMem (u64 x.body 0) (u32 x.body 8)).length ++ s.readMem (u64 x.body 0) (u32 x.body 8)⟩)] := by
  have hread : ((s.elapse t).consume 0 x).readMem (u64 x.body 0) (u32 x.body 8) =
      s.readMem (u64 x.body 0) (u32 x.body 8) := by
    have hshown : ((s.elapse t).consume 0 x).shownByte = s.shownByte := by
      funext a b
      have hdef : ((s.elapse t).consume 0 x).definedByte a = s.definedByte a := by
        rw [State.definedByte, State.consume_mem, State.elapse_mem]
        rfl
      simp [State.shownByte, State.validRegion, State.initRegion, hdef]
    simp only [State.readMem, hshown, State.consume_dram, State.elapse_dram]
  have hbad : ((s.elapse t).consume 0 x).badBlocks (u64 x.body 0) (u32 x.body 8) = [] := by
    simpa [State.badBlocks, State.reaches, State.validRegion, State.initRegion] using hgood
  obtain ⟨hdr, htxq⟩ := State.takeRd_effect (w := (s.elapse t).consume 0 x) (by simpa using hports) ht hsrc hpage hdram
    hbad (by simpa using hfill)
  refine ⟨_, exec_memrd hr hold hok ht hd hid, by simpa using hdr, ?_⟩
  rw [htxq, hread]
  simp

/-- A beacon for every device. -/
theorem exec_bcast_everyone (hr : Running s) (hports : s.ports.length = 4) (hold : s.holds 0 x = true)
    (hok : transOk x = true) (ht : x.ttype = ttBcast) (hd : x.dest = 63) :
    ∃ v, exec (.bcast 0 x t) s = .next v ∧
      v.get Reg.HIER_BEACONS_RX_COUNT = low (Reg.HIER_BEACONS_RX_COUNT).w (s.get Reg.HIER_BEACONS_RX_COUNT + 1) ∧
      (∀ q : Fin 4, q ≠ 0 → s.active q = true → s.isPairPort q = false →
        (v.port q).txq = (s.port q).txq ++ [(1, { x with flags := x.flags ||| 1 })]) ∧
      (s.myId ≠ 0 → u8 x.body 0 = 1 → s.encValid (u8 x.body 20 % 4) = true →
        let diff := wrapS 32 ((s.enc (u8 x.body 20 % 4)).count - iAt x.body 24 8)
        v.getS Reg.HIER_LINE_DIFF = diff ∧ v.get Reg.HIER_STATUS_LINE_MISMATCH =
          (if s.get Reg.HIER_LINE_TOL < diff.natAbs then 1 else s.get Reg.HIER_STATUS_LINE_MISMATCH)) := by
  obtain ⟨-, hcount, -⟩ := State.useBeacon_frame ((s.elapse t).consume 0 x) x
  refine ⟨_, exec_bcast hr hold hok ht (State.accepts_bcast _ ht), ?_⟩
  rw [State.route_everyone hd ht]
  refine ⟨?_, fun q hq ha hpair => ?_, fun hid hk hv => ?_⟩
  · exact ((State.sendAll_get _ _ _ _ _).trans hcount).trans (by simp)
  · exact (State.txq_beacon (by simpa using hports) hq (by simpa using ha) (by simpa using hpair)).trans (by simp)
  · have henc : ((s.elapse t).consume 0 x).enc (u8 x.body 20 % 4) = s.enc (u8 x.body 20 % 4) := by simp [State.enc]
    obtain ⟨hdiff, hmismatch⟩ := State.useBeacon_line (w := (s.elapse t).consume 0 x) (by simpa using hid) hk
      (by simpa [State.encValid] using hv)
    rw [henc] at hdiff hmismatch
    exact ⟨(State.sendAll_getS _ _ _ _ _).trans hdiff, (State.sendAll_get _ _ _ _ _).trans (hmismatch.trans (by simp))⟩

/-- A beacon for the block's own id goes no further. -/
theorem exec_bcast_own (hr : Running s) (hold : s.holds 0 x = true) (hok : transOk x = true) (ht : x.ttype = ttBcast)
    (hd : x.dest = s.myId) (hid : s.myId < 63) :
    ∃ v, exec (.bcast 0 x t) s = .next v ∧
      v.get Reg.HIER_BEACONS_RX_COUNT = low (Reg.HIER_BEACONS_RX_COUNT).w (s.get Reg.HIER_BEACONS_RX_COUNT + 1) ∧
      ∀ q : Fin 4, q ≠ 0 → (v.port q).txq = (s.port q).txq := by
  obtain ⟨hports, hcount, -⟩ := State.useBeacon_frame ((s.elapse t).consume 0 x) x
  refine ⟨_, exec_bcast hr hold hok ht (State.accepts_bcast _ ht), ?_⟩
  rw [State.route_own (by simpa using hd) (by simpa using hid)]
  refine ⟨hcount.trans (by simp), fun q _ => ?_⟩
  have hport : (((s.elapse t).consume 0 x).useBeacon x).port q = ((s.elapse t).consume 0 x).port q := by
    rw [State.port, hports]
    rfl
  exact (congrArg Port.txq hport).trans (by simp)

/-- A beacon for a device of the subtree goes on toward it alone. -/
theorem exec_bcast_down {q : Nat} (hr : Running s) (hold : s.holds 0 x = true) (hok : transOk x = true)
    (ht : x.ttype = ttBcast) (hlt : x.dest < 63) (hne : x.dest ≠ s.myId) (hq : s.downlink? x.dest = some q)
    (ha : s.active q = true) (hpair : s.isPairPort q = false) :
    exec (.bcast 0 x t) s =
      .next (((s.elapse t).consume 0 x).sendTrans q 1 { x with flags := x.flags ||| 1 }) := by
  have hroute : ((s.elapse t).consume 0 x).route 0 x = .down q :=
    State.route_down hlt (by simpa using hne) (by simpa [State.downlink?] using hq)
  have hgo : (((s.elapse t).consume 0 x).active q && !((s.elapse t).consume 0 x).isPairPort q) = true := by
    simp [ha, hpair]
  refine (exec_bcast (p := 0) hr hold hok ht (State.accepts_bcast _ ht)).trans ?_
  rw [show ((0 : Fin 4) : Nat) = 0 from rfl, hroute]
  exact congrArg _ (if_pos hgo)

theorem exec_bcast_up {p : Fin 4} (hr : Running s) (hold : s.holds p x = true) (hok : transOk x = true)
    (ht : x.ttype = ttBcast) (hp : p ≠ 0) (hpair : s.isPairPort p = false) (hd : x.dest = 0xFE) :
    exec (.bcast p x t) s = .next (((s.elapse t).consume p x).sendTrans 0 p x) := by
  obtain ⟨hacc, hroute⟩ := State.accepts_up (t := t) hp hpair hd
  rw [exec_bcast hr hold hok ht hacc, hroute]
  rfl

/-- A manager whose beacons are due queues a time beacon on every active downlink. -/
theorem exec_beaconSend_due (hl : Live s) (hports : s.ports.length = 4) (hdue : (s.elapse t).beaconsDue = true)
    (hline : s.flag Reg.HIER_BEACON_LINE_EN = false) :
    ∃ v, exec (.beaconSend t) s = .next v ∧ v.hier.beaconAt = some ((s.elapse t).tbNs 0) ∧
      v.hier.seqTime = (s.hier.seqTime + 1) % 65536 ∧ v.hier.seqLine = s.hier.seqLine ∧ v.host = s.host ∧
      ∀ q : Fin 4, q ≠ 0 → (v.port q).txq = (s.port q).txq ++
        (if s.active q = true ∧ s.isPairPort q = false then [(0, beaconTrans 0 s.hier.seqTime 0)] else []) := by
  refine ⟨_, exec_beaconSend hl hdue, rfl, ?_⟩
  rw [State.sendBeacons_eq (by simpa using hline)]
  refine ⟨by simp, by simp, by simp, fun q hq => ?_⟩
  refine (State.txq_sendAll _ _ _ _ (State.nodup_bcastPorts _) (by simp [hports])).trans ?_
  simp [State.mem_bcastPorts hq]

/-- A worker without a beacon for the timeout is in HOLDOVER, with its event. -/
theorem exec_evtBeaconLost_due (hr : Running s) (hid : s.myId ≠ 0) (hsync : s.flag Reg.TIME_STATUS_UNSYNC = false)
    (hover : s.flag Reg.TIME_STATUS_HOLDOVER = false)
    (hlost : max 1 (s.get Reg.TIME_BEACON_TIMEOUT_MS) * msSteps ≤ (s.elapse t).now - s.time.lastBeacon.getD 0) :
    exec (.evtBeaconLost t) s = .next (((s.elapse t).setB Reg.TIME_STATUS_HOLDOVER true).raise evBeaconLost 0
      (leBytes 4 (((s.elapse t).now - s.time.lastBeacon.getD 0) / msSteps))) := by
  have hlast : (s.elapse t).time.lastBeacon = s.time.lastBeacon := by
    unfold State.elapse
    split <;> rfl
  show execEvtBeaconLost t s = _
  unfold execEvtBeaconLost
  rw [event_running hr]
  have hworker : (s.elapse t).worker = true := by simpa [State.worker] using hid
  simp only [hlast, hworker, State.elapse_flag, hsync, hover, State.elapse_get, decide_eq_true hlost]
  rfl

/-! ### The statement -/

/-- Settles O53: each row by what its port has received, its route, and what the device does with it. -/
theorem transactionsComplete : Obligations.TransactionsComplete := by
  intro t s hr hports _ u
  have hzero : 0 < s.ports.length := by omega
  refine ⟨fun x hold hok => ⟨?_, ?_, ?_, ?_, ?_⟩, fun x hold hok ht => ⟨?_, ?_⟩, fun p x hp hpair hold hok hd => ?_, ?_, ?_⟩
  · intro ht htarget ha hid
    refine ⟨fun hbad => exec_cmdTransaction_unsound hr hold hok ht htarget ha hid hbad, ?_⟩
    intro c hgood k hk hc hst
    exact exec_cmdTransaction_taken hr hold hok ht htarget ha hid hgood hk hc hst
  · intro ht hd hid a d refused hpage hdram
    exact ⟨fun hs => exec_memwr_refused hr hzero hold hok ht hd hid hpage hdram (Or.inl ⟨hs, rfl⟩),
      fun hs hprot hue hv => exec_memwr_written hr hold hok ht hd hid rfl rfl hpage hdram hs hprot hue fun i hi => (hv i hi).1,
      fun hs hprot => exec_memwr_refused hr hzero hold hok ht hd hid hpage hdram (Or.inr ⟨hs, hprot, rfl⟩)⟩
  · intro ht hd hid hsrc a n hpage hdram hbad hfill
    exact exec_memrd_answered hr hzero hold hok ht hd hid hsrc hpage hdram hbad hfill
  · exact fun ht => exec_memcpl_uplink hr hold ht
  · exact fun ht hd => exec_bcast_everyone hr hports hold hok ht hd
  · exact fun hd hid => exec_bcast_own hr hold hok ht hd hid
  · exact fun q hlt hne hq ha hpair => exec_bcast_down hr hold hok ht hlt hne hq ha hpair
  · intro w
    have hhost : w.host = s.host := by simp [w, u]
    refine ⟨fun ht hf => ?_, fun ht hf hlate => ?_, fun ht hj => ?_, fun ht => ?_, fun ht => ?_⟩
    · rw [exec_upstreamForward hr hold hok (Or.inl ht) hp hpair hd, if_pos ht, State.replyUp, if_pos (by simpa using hf)]
      simp only [State.consume_host, State.elapse_host]
      rfl
    · rw [exec_upstreamForward hr hold hok (Or.inl ht) hp hpair hd, if_pos ht, State.replyUp, if_neg (by simpa using hf),
        if_pos (by simpa using hlate)]
      simp only [State.consume_host, State.elapse_host]
      rfl
    · rw [exec_upstreamForward hr hold hok (Or.inr ht) hp hpair hd, if_neg (by rw [ht]; decide), State.eventUp, if_neg hj]
    · exact exec_bcast_up hr hold hok ht hp hpair hd
    · exact exec_memcpl_up hr hold hok ht hp hpair hd
  · exact fun ha hdue hline => exec_beaconSend_due ⟨hr, ha⟩ hports hdue hline
  · exact fun hid hsync hover hlost => exec_evtBeaconLost_due hr hid hsync hover hlost

end Sys2Proof.Machine
end

section
/-! SUPPORT. The statement on the jump of a counter: what a jump leaves of the compare units, and what a re-reference leaves
of the planes. -/

namespace Sys2Proof.Machine

/-! ### Steps at an index -/

/-- A fold of steps, of which that at `k` alone touches what is read, reads as that step leaves it. -/
theorem foldl_read_at {α β : Type} {read : β → α} {step : β → Nat → β} {out : α → α} {k : Nat}
    (hk : ∀ u, read (step u k) = out (read u)) (ho : ∀ u i, i ≠ k → read (step u i) = read u) :
    ∀ (l : List Nat) (s : β), l.Nodup → read (l.foldl step s) = if k ∈ l then out (read s) else read s
  | [], _, _ => rfl
  | i :: l, s, hl => by
    obtain ⟨hi, hl⟩ := List.nodup_cons.1 hl
    rw [List.foldl_cons, foldl_read_at hk ho l _ hl]
    by_cases hik : i = k
    · subst hik
      simp [hi, hk]
    · simp [ho _ _ hik, Ne.symm hik]

/-- Such a fold over the indexes below `n`. -/
theorem foldl_range_read {α β : Type} {read : β → α} {step : β → Nat → β} {out : α → α} {k n : Nat} (hn : k < n)
    (hk : ∀ u, read (step u k) = out (read u)) (ho : ∀ u i, i ≠ k → read (step u i) = read u) (s : β) :
    read ((List.range n).foldl step s) = out (read s) := by
  rw [foldl_read_at hk ho _ _ List.nodup_range, if_pos (List.mem_range.2 hn)]

/-! ### Answers -/

section
variable {h : Hdr} {c : HostCmd} {st : Nat} {d : List Byte} {s u w : State}

@[simp] theorem answered_get (f : Fld) : (answered h c st d u).get f = u.get f := by
  unfold answered State.reply; split <;> rfl

@[simp] theorem answered_flag (f : Fld) : (answered h c st d u).flag f = u.flag f := by simp [State.flag]

@[simp] theorem answered_cmps : (answered h c st d u).cmps = u.cmps := by simp [answered]

@[simp] theorem answered_enc (e : Nat) : (answered h c st d u).enc e = u.enc e := by simp [answered, State.enc]

@[simp] theorem answered_plane (p : Nat) : (answered h c st d u).plane p = u.plane p := by simp [answered, State.plane]

/-- A reply is no event. -/
@[simp] theorem answered_queued : (answered h c st d u).queued = u.queued := by
  unfold answered State.reply State.queued
  split
  · rfl
  · simp [OutItem.evt?]

/-- What the host is sent depends on the command interpreter and the device's id alone. -/
theorem answered_host_congr (hh : w.host = u.host) (hid : w.get Reg.HIER_ID = u.get Reg.HIER_ID) :
    (answered h c st d w).host = (answered h c st d u).host := by
  have hid : ∀ k : HostIf, ({ w with host := k } : State).get Reg.HIER_ID = ({ u with host := k } : State).get Reg.HIER_ID :=
    fun _ => hid
  unfold answered State.reply
  split <;> simp [hh, hid]

end

/-! ### A jump and the compare units (R105) -/

/-- A field of the words of the compare units. -/
abbrev Fld.inCmp (f : Fld) : Prop := f.lo < 32 ∧ 0xC0800 ≤ f.addr ∧ f.addr < 0xC0900

/-- One of them other than PASSED. -/
abbrev Fld.inCmpNotPassed (f : Fld) : Prop := f.inCmp ∧ (f.addr % 32 = 0x10 → f.lo ≠ 0)

theorem Fld.inCmpNotPassed.key_ne {f : Fld} (hf : f.inCmpNotPassed) (k : Nat) : f.key ≠ (Reg.ENC_CMP_STATUS_PASSED k).key := by
  obtain ⟨⟨hlo, -, -⟩, hne⟩ := hf
  simp only [Fld.key, Reg.ENC_CMP_STATUS_PASSED]
  omega

/-- Nothing that a compare unit is set to or shows differs, and no event has been queued. -/
structure CmpKept (s u : State) : Prop where
  cmps : u.cmps = s.cmps
  queued : u.queued = s.queued
  fields : ∀ f : Fld, f.inCmp → u.get f = s.get f

/-- What a jump of the source `src` to `x` leaves of the compare units: PASSED by the new value, and nothing fired. -/
structure CmpJumped (src : Nat) (x : Int) (s u : State) : Prop where
  passed : ∀ k, k < 8 → s.get (Reg.ENC_CMP_CTRL_SOURCE k) = src → u.flag (Reg.ENC_CMP_STATUS_PASSED k) = s.cmpPassed k x
  fields : ∀ f : Fld, f.inCmpNotPassed → u.get f = s.get f
  cmps : u.cmps = s.cmps
  queued : u.queued = s.queued

section
variable {s u v : State} {src : Nat} {x : Int}

theorem CmpKept.trans (h : CmpKept s u) (k : CmpKept u v) : CmpKept s v :=
  ⟨k.cmps.trans h.cmps, k.queued.trans h.queued, fun f hf => (k.fields f hf).trans (h.fields f hf)⟩

/-- A change of parts of the state other than registers, compare units and the command interpreter. -/
theorem CmpKept.of_parts (h : (u.cmps, u.host, u.regs) = (s.cmps, s.host, s.regs)) : CmpKept s u := by
  simp only [Prod.mk.injEq] at h
  obtain ⟨hc, hh, hr⟩ := h
  exact ⟨hc, by simp [State.queued, hh], fun f _ => by simp [State.get, hr]⟩

theorem CmpKept.ite {c : Prop} [Decidable c] (hu : CmpKept s u) (hv : CmpKept s v) : CmpKept s (if c then u else v) := by
  split
  · exact hu
  · exact hv

theorem CmpKept.foldl {α : Type} {f : State → α → State} {l : List α} (hf : ∀ s, ∀ a ∈ l, CmpKept s (f s a)) (s : State) :
    CmpKept s (l.foldl f s) :=
  List.foldlRecOn (motive := CmpKept s) l f (.of_parts rfl) fun u hu a ha => hu.trans (hf u a ha)

/-- A write of a field of another word; `setB` and `setS` are such writes. -/
theorem CmpKept.set (h : CmpKept s u) {f : Fld} (hf : f.lo < 32 ∧ (f.addr < 0xC0800 ∨ 0xC0900 ≤ f.addr)) (v : Nat) :
    CmpKept s (u.set f v) := by
  refine h.trans ⟨rfl, rfl, fun g hg => State.get_set_other u ?_ v⟩
  simp only [Fld.key]
  omega

theorem CmpKept.setB (h : CmpKept s u) {f : Fld} (hf : f.lo < 32 ∧ (f.addr < 0xC0800 ∨ 0xC0900 ≤ f.addr)) (b : Bool) :
    CmpKept s (u.setB f b) := h.set hf _

theorem CmpKept.refl (s : State) : CmpKept s s := .of_parts rfl

theorem CmpKept.serving (s : State) (h : Hdr) (c : HostCmd) : CmpKept s (s.serving h c) :=
  ⟨by simp, by simp, fun f _ => by simp⟩

theorem CmpKept.answered (u : State) (h : Hdr) (c : HostCmd) (st : Nat) (d : List Byte) :
    CmpKept u (answered h c st d u) := ⟨by simp, by simp, fun f _ => by simp⟩

/-- A jump changes registers alone. -/
theorem State.cmpJump_keeps (s : State) (src : Nat) (x : Int) : ∃ r j, s.cmpJump src x = { s with regs := r, just := j } := by
  refine foldl_keeps (P := fun v => ∃ r j, v = { s with regs := r, just := j }) (fun v k hv => ?_) _ _ ⟨s.regs, s.just, rfl⟩
  obtain ⟨r, j, rfl⟩ := hv
  split
  · exact ⟨_, _, rfl⟩
  · exact ⟨_, _, rfl⟩

/-- Of the registers it changes PASSED alone. -/
theorem State.get_cmpJump_other {f : Fld} (hf : ∀ k, f.key ≠ (Reg.ENC_CMP_STATUS_PASSED k).key) :
    (s.cmpJump src x).get f = s.get f := by
  refine foldl_keeps (P := fun v => State.get v f = s.get f) (fun v k hv => ?_) _ _ rfl
  split
  · exact (State.get_setB_other v (hf k) _).trans hv
  · exact hv

/-- PASSED of every unit on the source is evaluated again (R105). -/
theorem State.flag_passed_cmpJump {k : Nat} (hk : k < 8) (hsrc : s.get (Reg.ENC_CMP_CTRL_SOURCE k) = src) :
    (s.cmpJump src x).flag (Reg.ENC_CMP_STATUS_PASSED k) = s.cmpPassed k x := by
  have hother : ∀ (v : State) (i : Nat) (b : Bool),
      (v.setB (Reg.ENC_CMP_STATUS_PASSED i) b).get (Reg.ENC_CMP_CTRL_SOURCE k) = v.get (Reg.ENC_CMP_CTRL_SOURCE k) ∧
      (v.setB (Reg.ENC_CMP_STATUS_PASSED i) b).cmpPassed k x = v.cmpPassed k x := by
    refine fun v i b => ⟨State.get_setB_other v ?_ b, ?_⟩
    · simp only [Fld.key, Reg.ENC_CMP_CTRL_SOURCE, Reg.ENC_CMP_STATUS_PASSED]; omega
    · unfold State.cmpPassed
      rw [State.flag_setB_other v (by simp only [Fld.key, Reg.ENC_CMP_CTRL_DIRECTION, Reg.ENC_CMP_STATUS_PASSED]; omega)]
      rfl
  have hread := foldl_range_read (n := 8) hk
    (read := fun v : State => (v.get (Reg.ENC_CMP_CTRL_SOURCE k), v.cmpPassed k x, v.flag (Reg.ENC_CMP_STATUS_PASSED k)))
    (step := fun v i => if v.get (Reg.ENC_CMP_CTRL_SOURCE i) = src then
      v.setB (Reg.ENC_CMP_STATUS_PASSED i) (v.cmpPassed i x) else v)
    (out := fun r => (r.1, r.2.1, if r.1 = src then r.2.1 else r.2.2)) (fun v => ?_) (fun v i hi => ?_) s
  · simp only [Prod.mk.injEq] at hread
    exact hread.2.2.trans (if_pos hsrc)
  · dsimp only
    split
    · rw [(hother v k _).1, (hother v k _).2, State.flag_setB_same v _ _ Nat.one_ne_zero]
    · rfl
  · split
    · rw [(hother v i _).1, (hother v i _).2, State.flag_setB_other v
        (by simp only [Fld.key, Reg.ENC_CMP_STATUS_PASSED]; omega)]
    · rfl

/-- A jump after what has left the compare units alone. -/
theorem CmpKept.jump (h : CmpKept s u) : CmpJumped src x s (u.cmpJump src x) where
  passed k hk hsrc := by
    have hsrc : u.get (Reg.ENC_CMP_CTRL_SOURCE k) = src :=
      (h.fields _ (by simp only [Fld.inCmp, Reg.ENC_CMP_CTRL_SOURCE]; omega)).trans hsrc
    have hdir : u.flag (Reg.ENC_CMP_CTRL_DIRECTION k) = s.flag (Reg.ENC_CMP_CTRL_DIRECTION k) :=
      congrArg (decide <| · = 1) (h.fields _ (by simp only [Fld.inCmp, Reg.ENC_CMP_CTRL_DIRECTION]; omega))
    have hcmp : u.cmp k = s.cmp k := congrArg (·.getD k .init) h.cmps
    rw [State.flag_passed_cmpJump hk hsrc, State.cmpPassed, hdir, hcmp]
    rfl
  fields f hf := (State.get_cmpJump_other hf.key_ne).trans (h.fields f hf.1)
  cmps := by obtain ⟨r, j, e⟩ := State.cmpJump_keeps u src x; rw [e]; exact h.cmps
  queued := by obtain ⟨r, j, e⟩ := State.cmpJump_keeps u src x; rw [e]; exact h.queued

/-- What leaves the compare units alone after a jump. -/
theorem CmpJumped.kept (h : CmpJumped src x s u) (k : CmpKept u v) : CmpJumped src x s v where
  passed i hi hsrc := by
    have hp : v.get (Reg.ENC_CMP_STATUS_PASSED i) = u.get (Reg.ENC_CMP_STATUS_PASSED i) :=
      k.fields _ (by simp only [Fld.inCmp, Reg.ENC_CMP_STATUS_PASSED]; omega)
    simpa [State.flag, hp] using h.passed i hi hsrc
  fields f hf := (k.fields f hf.1).trans (h.fields f hf)
  cmps := k.cmps.trans h.cmps
  queued := k.queued.trans h.queued


end

/-! ### ENC_REFERENCE (R83, R122) -/

/-- ENC_REFERENCE is refused: a wire fault on A or B, or a plane that prints from the encoder while it is valid. -/
def State.referenceBarred (s : State) (e : Nat) : Bool :=
  s.flag (Reg.ENC_STATUS_WIRE_A e) || s.flag (Reg.ENC_STATUS_WIRE_B e) || (s.encPrints e && s.encValid e)

/-- The jobs on an encoder move with its counter. -/
def State.shiftJobs (s : State) (e : Nat) (off : Int) : State :=
  let run := match s.job.running with | some j => j.enc == e | none => false
  let s := match s.job.running with | some j => if j.enc == e then s.shiftJob j.seq off else s | none => s
  match s.job.queued with
  | some j => if j.enc == e ∧ (run ∨ j.started) then s.shiftJob j.seq off else s
  | none => s

/-- HALTED ends on the planes of an encoder, and the positions at which their marks end move with its counter. -/
def State.shiftPlanes (s : State) (e : Nat) (off : Int) : State :=
  (List.range 4).foldl (fun s p =>
    if s.encOf p = e then (s.setB (Reg.LINEGEN_PL_STATUS_HALTED p) false).modPlane p (fun x =>
      { x with marks := shiftMarks off x.marks }) else s) s

section
variable {s : State} {e k : Nat} {off count : Int}

theorem State.encReference_barred (hb : s.referenceBarred e = true) : s.encReference e count = Res.err stBadState s :=
  if_pos hb

theorem State.encReference_free (hb : s.referenceBarred e = false) : s.encReference e count =
    Res.ok (((s.encLoad e count).shiftJobs e (count - (s.enc e).count)).shiftPlanes e (count - (s.enc e).count)) := by
  unfold State.referenceBarred at hb
  unfold State.encReference
  rw [if_neg (Bool.eq_false_iff.1 hb)]
  dsimp only
  generalize s.encLoad e count = u, count - (s.enc e).count = off
  rfl

@[simp] theorem State.serving_referenceBarred (h : Hdr) (c : HostCmd) :
    (s.serving h c).referenceBarred e = s.referenceBarred e := by
  simp [State.referenceBarred, State.encPrints, State.encValid, State.encOf, State.prints, State.linesWait, State.plane]

theorem CmpKept.modPlane (h : CmpKept s u) (p : Nat) (f : PlaneSt → PlaneSt) : CmpKept s (u.modPlane p f) :=
  h.trans (.of_parts rfl)

theorem CmpKept.shiftJob (s : State) (seq : Nat) (off : Int) : CmpKept s (s.shiftJob seq off) := by
  have hjob : ∀ f : JobRun → JobRun, CmpKept s (s.modJob seq f) := fun _ => .of_parts rfl
  exact (hjob _).trans (.foldl (fun u _ _ => (CmpKept.refl u).modPlane _ _) _)

theorem CmpKept.shiftJobs (s : State) (e : Nat) (off : Int) : CmpKept s (s.shiftJobs e off) := by
  have hshift : ∀ (u : State) (j : JobRun) (c : Prop) [Decidable c], CmpKept u (if c then u.shiftJob j.seq off else u) :=
    fun u j c _ => .ite (.shiftJob u _ _) (.refl u)
  have hrun : CmpKept s (match s.job.running with | some j => if j.enc == e then s.shiftJob j.seq off else s | none => s) := by
    split
    · exact hshift s _ _
    · exact .refl s
  refine hrun.trans ?_
  unfold State.shiftJobs
  dsimp only
  generalize (match s.job.running with | some j => if j.enc == e then s.shiftJob j.seq off else s | none => s) = u
  cases u.job.queued with
  | none => exact .refl u
  | some j => exact hshift u j _

theorem State.shiftJobs_idle (hr : s.job.running = none) (hq : s.job.queued = none) : s.shiftJobs e off = s := by
  simp [State.shiftJobs, hr, hq]

theorem CmpKept.shiftPlanes (s : State) (e : Nat) (off : Int) : CmpKept s (s.shiftPlanes e off) := by
  unfold State.shiftPlanes
  refine .foldl (fun u p hp => .ite (((CmpKept.refl u).setB ?_ false).modPlane _ _) (.refl u)) s
  have hp4 := List.mem_range.1 hp
  simp only [Reg.LINEGEN_PL_STATUS_HALTED]
  omega

/-- The counter is loaded before PASSED is evaluated. -/
theorem CmpJumped.encLoad (he : e < 4) : CmpJumped e count s (s.encLoad e count) := by
  have hload : ∀ f g, CmpKept s ((s.modEnc e f).modEnc e g) := fun _ _ => .of_parts rfl
  refine (((hload _ _).setB ?_ false).setB ?_ false).jump
  · simp only [Reg.ENC_STATUS_INVALID]; omega
  · simp only [Reg.ENC_STATUS_INDEX_VALID]; omega

end

/-! ### AXIS_SET_POS (R306) -/

section
variable {s u : State} {a : Nat} {x : Int}

theorem CmpKept.modAxis (h : CmpKept s u) (a : Nat) (f : Axis → Axis) : CmpKept s (u.modAxis a f) := h.trans (.of_parts rfl)

/-- A write of a register of an axis, which lies above those of the compare units. -/
theorem CmpKept.setAxis (h : CmpKept s u) {f : Fld} (hf : f.lo < 32 ∧ 0x180000 ≤ f.addr) (v : Nat) : CmpKept s (u.set f v) :=
  h.set ⟨hf.1, .inr (by omega)⟩ v

theorem CmpKept.showAxis (s : State) (a : Nat) : CmpKept s (s.showAxis a) := by
  have hshow : CmpKept s ((((((s.set (Reg.MOTION_AX_POS_LO a) (pat 64 (s.axis a).position)).set (Reg.MOTION_AX_POS_HI a)
      (pat 64 (s.axis a).position / 2 ^ 32)).set (Reg.MOTION_AX_POS_FRAC a) (pat 32 (s.axis a).p)).setS
      (Reg.MOTION_AX_VELOCITY a) (satS 32 (s.axis a).velocity)).set (Reg.MOTION_AX_STATUS_MODE a) (s.axis a).run.mode).setB
      (Reg.MOTION_AX_TABLE_RUNNING a) ((s.axis a).run.mode == 2)) := by
    refine ((((((CmpKept.refl s).setAxis ?_ _).setAxis ?_ _).setAxis ?_ _).setAxis ?_ _).setAxis ?_ _).setAxis ?_ _
    all_goals
      simp only [Reg.MOTION_AX_POS_LO, Reg.MOTION_AX_POS_HI, Reg.MOTION_AX_POS_FRAC, Reg.MOTION_AX_VELOCITY,
        Reg.MOTION_AX_STATUS_MODE, Reg.MOTION_AX_TABLE_RUNNING]
      omega
  unfold State.showAxis
  dsimp only
  split
  · refine (hshow.setAxis ?_ _).setAxis ?_ _
    · simp only [Reg.MOTION_AX_TARGET_LO]; omega
    · simp only [Reg.MOTION_AX_TARGET_HI]; omega
  · refine hshow.setAxis ?_ _
    simp only [Reg.MOTION_AX_TABLE_SEGMENT]; omega
  · exact hshow

theorem CmpKept.followIndex (s : State) (a : Nat) : CmpKept s (s.followIndex a) := by
  unfold State.followIndex State.setIndex
  exact .ite (.refl s) (((CmpKept.refl s).modAxis _ _).modAxis _ _)

theorem CmpKept.chopWakes (s : State) (a : Nat) : CmpKept s (s.chopWakes a) := by
  have hwake : ∀ (u : State) (onB : Bool), CmpKept u (u.chopWake a onB) := fun u onB =>
    .ite ((CmpKept.refl u).modAxis _ _) (.refl u)
  exact (hwake s false).trans (hwake _ true)

/-- The position is loaded before PASSED is evaluated. -/
theorem cmdAxisSetPos_jumps (hm : s.moving a = false) :
    ∃ u, cmdAxisSetPos a x s = Res.ok u ∧ CmpJumped (4 + a) x s u := by
  unfold cmdAxisSetPos
  rw [if_neg (by simp [hm])]
  have hload : ∀ f g, CmpKept s ((s.modAxis a f).modAxis a g) := fun f g => ((CmpKept.refl s).modAxis a f).modAxis a g
  refine ⟨_, rfl, (CmpKept.jump ((((((hload _ _).setAxis ?_ _).setAxis ?_ _).setAxis ?_ _)).trans (.showAxis _ a))).kept
    ((CmpKept.followIndex _ a).trans (.chopWakes _ a))⟩
  · simp only [Reg.MOTION_AX_STATUS_LOST]; omega
  · simp only [Reg.MOTION_AX_STATUS_STALL]; omega
  · simp only [Reg.MOTION_AX_STATUS_OVERSHOOT]; omega

end

/-! ### The statement on jumps -/

section
variable {s t : State} {h : Hdr} {c : HostCmd} {e src : Nat} {x : Int}

theorem State.encReference_jumps (he : e < 4) (hb : s.referenceBarred e = false) :
    ∃ u, s.encReference e x = Res.ok u ∧ CmpJumped e x s u :=
  ⟨_, State.encReference_free hb, (CmpJumped.encLoad he).kept ((CmpKept.shiftJobs _ _ _).trans (.shiftPlanes _ _ _))⟩

/-- A command that leaves a jump of a source, and its reply. -/
theorem exec_jump (hr : Ready h c s) (haf : ∀ u : State, u.afterReply h c = u)
    (hp : ∃ u, (s.serving h c).perform h c = Res.ok u ∧ CmpJumped src x (s.serving h c) u) :
    ∃ t, exec (instrOf h c) s = .next t ∧ CmpJumped src x s t := by
  obtain ⟨u, hu, hj⟩ := hp
  have hs := CmpKept.serving s h c
  have ht := hj.kept (CmpKept.answered u h c stOk [])
  refine ⟨_, exec_accepts hr hu rfl haf, fun k hk hsrc => ?_, fun f hf => (ht.fields f hf).trans (hs.fields f hf.1),
    ht.cmps.trans hs.cmps, ht.queued.trans hs.queued⟩
  rw [ht.passed k hk (by simpa using hsrc)]
  simp [State.cmpPassed, State.cmp]

end

/-- Settles O16: both commands load the counter and evaluate PASSED, and touch nothing else of the compare units. -/
theorem jumpOfACounterIsNoCrossing : Obligations.JumpOfACounterIsNoCrossing := by
  intro h n x s i c src hi hr
  have hjump : ∃ t, exec i s = .next t ∧ CmpJumped src x s t := by
    rcases hi with ⟨rfl, rfl, rfl, hn, ha, hb, hv⟩ | ⟨rfl, rfl, rfl, hn, hm⟩
    · have hfree : (s.serving h (.encReference src x)).referenceBarred src = false := by
        rw [State.serving_referenceBarred, State.referenceBarred, ha, hb]
        exact hv
      have hp := State.encReference_jumps (x := x) hn hfree
      exact exec_jump hr (fun _ => rfl) hp
    · have hp := cmdAxisSetPos_jumps (x := x) (s := s.serving h (.axisSetPos n x)) (a := n) (by simpa [State.moving] using hm)
      exact exec_jump hr (fun _ => rfl) hp
  obtain ⟨t, ht, hpassed, hfields, hcmps, hqueued⟩ := hjump
  refine ⟨t, ht, hpassed, fun k hk => ⟨?_, ?_, ?_, ?_⟩, hcmps, hqueued⟩
  · exact hfields _ (by simp only [Fld.inCmpNotPassed, Fld.inCmp, Reg.ENC_CMP_HITS]; omega)
  · exact hfields _ (by simp only [Fld.inCmpNotPassed, Fld.inCmp, Reg.ENC_CMP_STATUS_FIRED]; omega)
  · exact hfields _ (by simp only [Fld.inCmpNotPassed, Fld.inCmp, Reg.ENC_CMP_CTRL_ARMED]; omega)
  · exact hfields _ (by simp only [Fld.inCmpNotPassed, Fld.inCmp, Reg.ENC_CMP_MISSED]; omega)

end Sys2Proof.Machine
end

section
/-! SUPPORT. The statement on the commands of the encoders and the compare units. -/

namespace Sys2Proof.Machine

/-! ### What a re-reference leaves (R83) -/

/-- The counter of an encoder is loaded, and p moves by the same offset; no jump is judged yet. -/
def State.setCounter (s : State) (e : Nat) (count : Int) : State :=
  (((s.encNote e).modEnc e (fun x => { x with
    count := count, p := wrapS 128 (x.p + (count - (s.enc e).count) * 2 ^ 64) })).setB
    (Reg.ENC_STATUS_INVALID e) false).setB (Reg.ENC_STATUS_INDEX_VALID e) false

section
variable {s : State} {e k p : Nat} {off count : Int}

theorem State.encLoad_eq (s : State) (e : Nat) (count : Int) :
    s.encLoad e count = (s.setCounter e count).cmpJump e count := rfl

theorem State.setCounter_keeps (s : State) (e : Nat) (count : Int) :
    ∃ l r j, s.setCounter e count = { s with encs := l, regs := r, just := j } := ⟨_, _, _, rfl⟩

/-- A re-reference changes the encoder and registers. -/
theorem State.encLoad_keeps (s : State) (e : Nat) (count : Int) :
    ∃ r j, s.encLoad e count = { s with encs := (s.setCounter e count).encs, regs := r, just := j } := by
  obtain ⟨r, j, hj⟩ := State.cmpJump_keeps (s.setCounter e count) e count
  exact ⟨r, j, hj⟩

theorem State.encLoad_encs (s : State) (e : Nat) (count : Int) : (s.encLoad e count).encs = (s.setCounter e count).encs := by
  obtain ⟨r, j, hj⟩ := State.encLoad_keeps s e count
  rw [hj]

theorem State.enc_setCounter_same (he : e < s.encs.length) : ((s.setCounter e count).enc e).count = count ∧
    ((s.setCounter e count).enc e).p = wrapS 128 ((s.enc e).p + (count - (s.enc e).count) * 2 ^ 64) := by
  have hlen : e < (s.encNote e).encs.length := by simpa [State.encNote, State.modEnc] using he
  have hset : (s.setCounter e count).enc e = { (s.encNote e).enc e with
      count := count, p := wrapS 128 (((s.encNote e).enc e).p + (count - (s.enc e).count) * 2 ^ 64) } :=
    modAt_getD_same _ _ _ _ hlen
  have hnote : ((s.encNote e).enc e).p = (s.enc e).p := modAt_getD_kept (g := Enc.p) (by exact fun _ => rfl) e e s.encs _
  rw [hset, hnote]
  exact ⟨rfl, rfl⟩

theorem State.enc_setCounter_other (hk : k ≠ e) : (s.setCounter e count).enc k = s.enc k :=
  (modAt_getD_other _ _ e k _ hk).trans (modAt_getD_other _ _ e k _ hk)

/-- Every field stays but two of the encoder and PASSED of the compare units. -/
theorem State.get_encLoad_other {f : Fld} (hi : f.key ≠ (Reg.ENC_STATUS_INVALID e).key)
    (hv : f.key ≠ (Reg.ENC_STATUS_INDEX_VALID e).key) (hp : ∀ u, f.key ≠ (Reg.ENC_CMP_STATUS_PASSED u).key) :
    (s.encLoad e count).get f = s.get f := by
  rw [State.encLoad_eq, State.get_cmpJump_other hp, State.setCounter, State.get_setB_other _ hv, State.get_setB_other _ hi]
  rfl

theorem State.encLoad_status (s : State) (e : Nat) (count : Int) : (s.encLoad e count).get (Reg.ENC_STATUS_INVALID e) = 0 ∧
    (s.encLoad e count).get (Reg.ENC_STATUS_INDEX_VALID e) = 0 := by
  have hpassed : ∀ f : Fld, f.lo < 32 → f.addr = 0xC002C + 256 * e → (s.encLoad e count).get f = (s.setCounter e count).get f := by
    refine fun f hlo ha => State.get_cmpJump_other fun u => ?_
    simp only [Fld.key, Reg.ENC_CMP_STATUS_PASSED]
    omega
  rw [hpassed (Reg.ENC_STATUS_INVALID e) (Nat.zero_lt_succ _) rfl,
    hpassed (Reg.ENC_STATUS_INDEX_VALID e) (Nat.lt_add_of_pos_right (k := 26) (by decide)) rfl, State.setCounter,
    State.get_setB_other]
  · exact ⟨State.get_set_same _ _ _, State.get_set_same _ _ _⟩
  · simp only [Fld.key, Reg.ENC_STATUS_INVALID, Reg.ENC_STATUS_INDEX_VALID]; omega

/-- The planes of an encoder: registers and marks change. -/
theorem State.shiftPlanes_keeps (s : State) (e : Nat) (off : Int) :
    ∃ r j l, s.shiftPlanes e off = { s with regs := r, just := j, line := { s.line with planes := l } } := by
  refine foldl_keeps (P := fun v => ∃ r j l, v = { s with regs := r, just := j, line := { s.line with planes := l } })
    (fun v p hv => ?_) _ _ ⟨s.regs, s.just, s.line.planes, rfl⟩
  obtain ⟨r, j, l, rfl⟩ := hv
  split
  · exact ⟨_, _, _, rfl⟩
  · exact ⟨_, _, _, rfl⟩

/-- Of the registers, HALTED alone. -/
theorem State.get_shiftPlanes_other {f : Fld} (hf : ∀ p, f.key ≠ (Reg.LINEGEN_PL_STATUS_HALTED p).key) :
    (s.shiftPlanes e off).get f = s.get f := by
  refine foldl_keeps (P := fun v => State.get v f = s.get f) (fun v p hv => ?_) _ _ rfl
  split
  · exact (State.get_setB_other v (hf p) false).trans hv
  · exact hv

theorem State.plane_modPlane (s : State) (p k : Nat) {f : PlaneSt → PlaneSt} (hf : f .init = .init) :
    (s.modPlane p f).plane k = if k = p then f (s.plane k) else s.plane k := by
  split
  case isFalse hk => exact modAt_getD_other f _ p k _ hk
  case isTrue hk =>
    subst hk
    by_cases hlen : k < s.line.planes.length
    · exact modAt_getD_same f _ k _ hlen
    · have hout : s.plane k = .init := List.getD_eq_default _ _ (by omega)
      rw [hout, hf]
      exact List.getD_eq_default _ _ (by simpa [State.modPlane] using hlen)

/-- The marks of every plane of the encoder move. -/
theorem State.plane_shiftPlanes (hk : k < 4) : (s.shiftPlanes e off).plane k =
    if s.encOf k = e then { s.plane k with marks := shiftMarks off (s.plane k).marks } else s.plane k := by
  have hencOf : ∀ (v : State) (p : Nat) (f : PlaneSt → PlaneSt),
      ((v.setB (Reg.LINEGEN_PL_STATUS_HALTED p) false).modPlane p f).encOf k = v.encOf k := fun v p f =>
    State.get_setB_other (r := Reg.LINEGEN_PL_STATUS_HALTED p) (q := Reg.LINEGEN_PL_CONFIG_ENC k) v
      (by simp only [Fld.key, Reg.LINEGEN_PL_CONFIG_ENC, Reg.LINEGEN_PL_STATUS_HALTED]; omega) false
  have hplane : ∀ (v : State) (p : Nat), ((v.setB (Reg.LINEGEN_PL_STATUS_HALTED p) false).modPlane p (fun x =>
      { x with marks := shiftMarks off x.marks })).plane k =
      if k = p then { v.plane k with marks := shiftMarks off (v.plane k).marks } else v.plane k := fun v p =>
    State.plane_modPlane (v.setB (Reg.LINEGEN_PL_STATUS_HALTED p) false) p k rfl
  have hread := foldl_range_read (n := 4) hk (read := fun v : State => (v.encOf k, v.plane k))
    (step := fun s p => if s.encOf p = e then (s.setB (Reg.LINEGEN_PL_STATUS_HALTED p) false).modPlane p (fun x =>
      { x with marks := shiftMarks off x.marks }) else s)
    (out := fun r => (r.1, if r.1 = e then { r.2 with marks := shiftMarks off r.2.marks } else r.2))
    (fun v => ?_) (fun v i hi => ?_) s
  · simp only [Prod.mk.injEq] at hread
    exact hread.2
  · split
    next h => simp [hencOf, hplane, h]
    next => rfl
  · split
    · simp [hencOf, hplane, Ne.symm hi]
    · rfl

/-- A re-reference with no job on the encoder. -/
def State.reload (s : State) (e : Nat) (count : Int) : State :=
  (s.encLoad e count).shiftPlanes e (count - (s.enc e).count)

/-- It changes the encoder, its planes and registers. -/
theorem State.reload_keeps (s : State) (e : Nat) (count : Int) : ∃ r j l, s.reload e count =
    { s with encs := (s.setCounter e count).encs, regs := r, just := j, line := { s.line with planes := l } } := by
  obtain ⟨r, j, hl⟩ := State.encLoad_keeps s e count
  obtain ⟨r', j', l, hs⟩ := State.shiftPlanes_keeps (s.encLoad e count) e (count - (s.enc e).count)
  refine ⟨r', j', l, hs.trans ?_⟩
  rw [hl]

theorem State.enc_reload (s : State) (e k : Nat) (count : Int) : (s.reload e count).enc k = (s.setCounter e count).enc k := by
  obtain ⟨r, j, l, hs⟩ := State.reload_keeps s e count
  rw [hs]
  rfl

theorem State.reload_status (s : State) (e : Nat) (count : Int) : (s.reload e count).get (Reg.ENC_STATUS_INVALID e) = 0 ∧
    (s.reload e count).get (Reg.ENC_STATUS_INDEX_VALID e) = 0 := by
  obtain ⟨hi, hv⟩ := State.encLoad_status s e count
  refine ⟨(State.get_shiftPlanes_other fun p => ?_).trans hi, (State.get_shiftPlanes_other fun p => ?_).trans hv⟩
  · simp only [Fld.key, Reg.ENC_STATUS_INVALID, Reg.LINEGEN_PL_STATUS_HALTED]; omega
  · simp only [Fld.key, Reg.ENC_STATUS_INDEX_VALID, Reg.LINEGEN_PL_STATUS_HALTED]; omega

theorem State.plane_reload (hk : k < 4) : (s.reload e count).plane k = if s.encOf k = e then
    { s.plane k with marks := shiftMarks (count - (s.enc e).count) (s.plane k).marks } else s.plane k := by
  have hencOf : (s.encLoad e count).encOf k = s.encOf k := by
    refine State.get_encLoad_other ?_ ?_ fun u => ?_
    · simp only [Fld.key, Reg.LINEGEN_PL_CONFIG_ENC, Reg.ENC_STATUS_INVALID]; omega
    · simp only [Fld.key, Reg.LINEGEN_PL_CONFIG_ENC, Reg.ENC_STATUS_INDEX_VALID]; omega
    · simp only [Fld.key, Reg.LINEGEN_PL_CONFIG_ENC, Reg.ENC_CMP_STATUS_PASSED]; omega
  have hplane : (s.encLoad e count).plane k = s.plane k := by
    obtain ⟨r, j, hl⟩ := State.encLoad_keeps s e count
    rw [hl]
    rfl
  rw [State.reload, State.plane_shiftPlanes hk, hencOf, hplane]

/-- The device's id stays. -/
theorem State.reload_id (s : State) (e : Nat) (count : Int) : (s.reload e count).get Reg.HIER_ID = s.get Reg.HIER_ID := by
  refine (State.get_shiftPlanes_other fun p => ?_).trans (State.get_encLoad_other ?_ ?_ fun u => ?_)
  · simp only [Fld.key, Reg.HIER_ID, Reg.LINEGEN_PL_STATUS_HALTED]; omega
  · simp only [Fld.key, Reg.HIER_ID, Reg.ENC_STATUS_INVALID]; omega
  · simp only [Fld.key, Reg.HIER_ID, Reg.ENC_STATUS_INDEX_VALID]; omega
  · simp only [Fld.key, Reg.HIER_ID, Reg.ENC_CMP_STATUS_PASSED]; omega

end

/-! ### The commands -/

section
variable {s : State} {h : Hdr} {e : Nat} {count : Int}

@[simp] theorem State.serving_encPrints (h : Hdr) (c : HostCmd) : (s.serving h c).encPrints e = s.encPrints e := by
  simp [State.encPrints, State.encOf, State.prints, State.linesWait, State.plane]

@[simp] theorem State.serving_enc (h : Hdr) (c : HostCmd) (k : Nat) : (s.serving h c).enc k = s.enc k := by simp [State.enc]

theorem cmdEncConfig_eq (s : State) (e filter bw ms relay : Nat) : cmdEncConfig e filter bw ms relay s =
    if s.encPrints e then Res.err stBadState s
    else Res.ok ((((s.set (Reg.ENC_CONFIG_FILTER e) filter).set (Reg.ENC_CONFIG_BANDWIDTH e) bw).set
      (Reg.ENC_CONFIG_RELAY_EN e) relay).set (Reg.ENC_STANDSTILL_STANDSTILL_MS e) ms) := rfl

theorem State.encReference_idle (hb : s.referenceBarred e = false) (hr : s.job.running = none) (hq : s.job.queued = none) :
    s.encReference e count = Res.ok (s.reload e count) := by
  have hjob : (s.encLoad e count).job = s.job := by
    obtain ⟨r, j, hl⟩ := State.encLoad_keeps s e count
    rw [hl]
  rw [State.encReference_free hb, State.shiftJobs_idle (by rw [hjob, hr]) (by rw [hjob, hq])]
  rfl

/-- What COMPARE_SET writes before POSITION. -/
def State.cmpArm (s : State) (u src dir : Nat) : State :=
  (((s.cmpKeep u true).set (Reg.ENC_CMP_CTRL_SOURCE u) src).set (Reg.ENC_CMP_CTRL_DIRECTION u) dir).setB
    (Reg.ENC_CMP_CTRL_ARMED u) true

variable {u src dir : Nat}

theorem State.get_cmpArm_source (hsrc : src ≤ 7) : (s.cmpArm u src dir).get (Reg.ENC_CMP_CTRL_SOURCE u) = src := by
  unfold State.cmpArm
  rw [State.get_setB_other, State.get_set_other, State.get_set_same]
  · exact Nat.mod_eq_of_lt (Nat.lt_succ_of_le hsrc)
  · simp only [Fld.key, Reg.ENC_CMP_CTRL_SOURCE, Reg.ENC_CMP_CTRL_DIRECTION]; omega
  · simp only [Fld.key, Reg.ENC_CMP_CTRL_SOURCE, Reg.ENC_CMP_CTRL_ARMED]; omega

theorem State.flag_cmpArm_direction (hdir : dir ≤ 1) (pos : Int) :
    ((s.cmpArm u src dir).putCmpPos u pos).flag (Reg.ENC_CMP_CTRL_DIRECTION u) = decide (dir = 1) := by
  have harm : (s.cmpArm u src dir).get (Reg.ENC_CMP_CTRL_DIRECTION u) = dir := by
    unfold State.cmpArm
    rw [State.get_setB_other, State.get_set_same]
    · exact Nat.mod_eq_of_lt (Nat.lt_succ_of_le hdir)
    · simp only [Fld.key, Reg.ENC_CMP_CTRL_DIRECTION, Reg.ENC_CMP_CTRL_ARMED]; omega
  unfold State.putCmpPos
  rw [State.flag_set_other, State.flag_set_other]
  · exact congrArg (decide <| · = 1) harm
  · simp only [Fld.key, Reg.ENC_CMP_CTRL_DIRECTION, Reg.ENC_CMP_POS_LO]; omega
  · simp only [Fld.key, Reg.ENC_CMP_CTRL_DIRECTION, Reg.ENC_CMP_POS_HI]; omega

/-- COMPARE_SET evaluates PASSED with the source and the direction that it has set, and replies it (R102). -/
theorem State.compareSet_eq (hsrc : src ≤ 7) (hdir : dir ≤ 1) (axis : Nat → Int) (pos : Int) :
    s.compareSet axis u src dir pos =
      let v := (s.cmpArm u src dir).putCmpPos u pos
      let x : Int := if src < 4 then (s.enc src).count else axis (src - 4)
      let passed := if dir = 1 then decide (x ≤ (v.cmp u).pos) else decide ((v.cmp u).pos ≤ x)
      Res.okData (leBytes 1 passed.toNat) (v.setB (Reg.ENC_CMP_STATUS_PASSED u) passed) := by
  have hpassed : ∀ (v : State) (b : Bool),
      (v.setB (Reg.ENC_CMP_STATUS_PASSED u) b).get (Reg.ENC_CMP_STATUS_PASSED u) = b.toNat :=
    fun v b => (State.get_set_same v _ _).trans (Nat.mod_eq_of_lt (Bool.toNat_lt b))
  have hsource : (s.cmpArm u src dir).cmpSource axis u = if src < 4 then (s.enc src).count else axis (src - 4) := by
    unfold State.cmpSource
    rw [State.get_cmpArm_source hsrc]
    rfl
  show Res.okData (leBytes 1 (((s.cmpArm u src dir).writeCmpPos u pos ((s.cmpArm u src dir).cmpSource axis u)).get
    (Reg.ENC_CMP_STATUS_PASSED u))) ((s.cmpArm u src dir).writeCmpPos u pos ((s.cmpArm u src dir).cmpSource axis u)) = _
  simp only [hsource, State.writeCmpPos, State.cmpPassed, State.flag_cmpArm_direction hdir, hpassed, decide_eq_true_eq]

end

/-- Settles O15: each command's check and effect on the state that serves it, then the reply. -/
theorem encoderCommandsComplete : Obligations.EncoderCommandsComplete := by
  intro h e s
  refine ⟨fun filter bw ms relay hr => ?_, fun count hr he ha hb hv hrun hq => ?_, fun count hr hbar => ?_, fun hr => ?_,
    fun src dir pos hr => ?_⟩
  · have hp := cmdEncConfig_eq (s.serving h (.encConfig e filter bw ms relay)) e filter bw ms relay
    rw [State.serving_encPrints] at hp
    split
    next hprints => exact exec_refuses hr (hp.trans (if_pos hprints)) (by decide)
    next hprints => exact exec_accepts hr (hp.trans (if_neg hprints)) rfl fun _ => rfl
  · have hbar : (s.serving h (.encReference e count)).referenceBarred e = false := by
      rw [State.serving_referenceBarred, State.referenceBarred, ha, hb]
      exact hv
    have hp := State.encReference_idle (count := count) hbar (by simpa using hrun) (by simpa using hq)
    obtain ⟨r, j, l, hkeeps⟩ := State.reload_keeps (s.serving h (.encReference e count)) e count
    obtain ⟨hinvalid, hindex⟩ := State.reload_status (s.serving h (.encReference e count)) e count
    obtain ⟨hcount, hpos⟩ := State.enc_setCounter_same (s := s.serving h (.encReference e count)) (count := count)
      (by simpa using he)
    refine ⟨_, exec_accepts hr hp rfl fun _ => rfl, ?_, ?_, ?_, ?_, fun k hk => ?_, by simp [answered, hkeeps],
      by simp [answered, hkeeps], fun k hk => ?_, by simp [answered, hkeeps], by simp [answered, hkeeps],
      by simp [answered, hkeeps], by simp [answered, hkeeps], by simp [answered, hkeeps], ?_⟩
    · rw [answered_enc, State.enc_reload, hcount]
    · rw [answered_enc, State.enc_reload, hpos, State.serving_enc]
    · rw [answered_get, hinvalid]
    · rw [answered_get, hindex]
    · rw [answered_enc, State.enc_reload, State.enc_setCounter_other hk, State.serving_enc]
    · rw [answered_plane, State.plane_reload hk]
      simp [State.encOf, State.plane]
    · rw [answered_host_congr (u := s.serving h (.encReference e count)) (by rw [hkeeps]) (State.reload_id _ _ _),
        answered_serving hr.free]
      rfl
  · have hp := State.encReference_barred (s := s.serving h (.encReference e count)) (count := count)
      ((State.serving_referenceBarred _ _).trans hbar)
    exact exec_refuses hr hp (by decide)
  · refine exec_replies hr ?_ rfl fun _ => rfl
    show cmdEncRead e _ = _
    simp [cmdEncRead, Res.okData]
  · intro c v x passed
    have hv : e ≤ 7 ∧ src ≤ 7 ∧ dir ≤ 1 := by simpa [HostCmd.valuesOk, upTo, and_assoc] using hr.values
    obtain ⟨-, hsrc, hdir⟩ := hv
    have hx : (if src < 4 then ((s.serving h c).enc src).count else (s.serving h c).axisPos (src - 4)) = x := by
      simp [x, State.axisPos, State.axis]
    have hp := State.compareSet_eq (s := s.serving h c) (u := e) hsrc hdir (s.serving h c).axisPos pos
    rw [hx] at hp
    exact exec_accepts hr hp rfl fun _ => rfl

end Sys2Proof.Machine
end

section
/-! SUPPORT. The statement on the events of the encoders: a fault of an encoder that ends a plane's printing lets a
waiting dead map flip, and the flip writes DRAM. -/

namespace Sys2Proof.Machine

/-! ### The work area (R241, R249) -/

section
variable {s : State} {p off x : Nat} {bs : List Byte}

/-- A write of the loops to regions that take it at once leaves its bytes. -/
theorem State.workWrite_dram (hv : s.flag Reg.MEASURE_WORK_HI_VALID = true)
    (hd : ∀ w ∈ piecesOf bs.length (s.workAddr p + off) bs, s.direct w) :
    Sparse.get 0 (s.workWrite p off bs).dram x = if s.workAddr p + off ≤ x ∧ x < s.workAddr p + off + bs.length then
      bs.getD (x - (s.workAddr p + off)) 0 else Sparse.get 0 s.dram x := by
  have hgood := State.writeMem_good s.mirrors hd
  have hdram := State.writeMem_dram s s.mirrors (s.workAddr p + off) bs hd x
  unfold State.workWrite
  rw [if_pos hv]
  generalize s.writeMem s.mirrors (s.workAddr p + off) bs = r at hgood hdram ⊢
  obtain ⟨u, bad⟩ := r
  obtain rfl : bad = [] := hgood
  exact hdram

/-- The first miss count of a plane becomes 0. -/
theorem State.zeroMisses_dram (hv : s.flag Reg.MEASURE_WORK_HI_VALID = true) (hue : s.mem.ue = [])
    (hvalid : ∀ i < 393216, s.validRegion ((s.workAddr p + 0x40000 + i) / regionBytes) = true) :
    Sparse.get 0 (s.zeroMisses p).dram (s.workAddr p + 0x40000) = 0 := by
  have hlen : (List.replicate 393216 (0 : Byte)).length = 393216 := List.length_replicate
  unfold State.zeroMisses
  rw [State.workWrite_dram hv (State.direct_piecesOf (fun b _ => hue ▸ List.not_mem_nil) fun i hi => hvalid i (hlen ▸ hi)), hlen,
    if_pos (by omega), List.getD_eq_getElem?_getD, List.getElem?_replicate]
  split <;> rfl

/-- The dead map of a plane comes into use, and the flip is told (R180). -/
def State.deadMapFlips (s : State) (p line : Nat) : State :=
  (((s.putTabBit (Reg.HTONE_PL_TABLES_BANK p) 4 (!s.tabBit (Reg.HTONE_PL_TABLES_BANK p) 4)).putTabBit
    (Reg.HTONE_PL_TABLES_PENDING p) 4 false).inc (Reg.HTONE_PL_FLIPS_COUNT p)).raise evTableFlip 0
    (leBytes 1 p ++ leBytes 1 4 ++ [0, 0, 0, 0, 0, 0] ++ leBytes 8 line)

/-- With that a plane's next line waits, and where the host has loaded the map the miss counts start again (R242, R249). -/
theorem State.tableFlip_deadMap (hown : 4 ∉ (s.loop p).loads) (line : Nat) : s.tableFlip p 4 line =
    (((s.deadMapFlips p line).modLoop p (fun x => { x with loads := x.loads.filter (· != 4) })).waitMark p).zeroMisses p := by
  have hkept : (s.deadMapFlips p line).loops = s.loops := by simp [State.deadMapFlips, State.putTabBit]
  have hown : 4 ∉ ((s.deadMapFlips p line).loop p).loads := by simpa [State.loop, hkept] using hown
  have hflip : s.tableFlip p 4 line =
      (s.deadMapFlips p line).loopFlip p 4 ((s.deadMapFlips p line).tone.xoffs.getD p []) := if_neg fun h => hown h.1
  rw [hflip, State.loopFlip]
  rw [if_neg hown, if_neg (by simp), if_neg (by decide), if_pos rfl, if_pos (by decide)]

theorem foldl_dram {α : Type} {f : State → α → State} (hf : ∀ u a, (f u a).dram = u.dram) (l : List α) (s : State) :
    (l.foldl f s).dram = s.dram := foldl_keeps (P := fun u : State => u.dram = s.dram) (fun u a hu => (hf u a).trans hu) l s rfl

theorem State.loopFlip_dram {table : Nat} (h0 : table ≠ 0) (h4 : table ≠ 4) (xoff : List Int) :
    (s.loopFlip p table xoff).dram = s.dram := by
  unfold State.loopFlip
  simp only [h0, h4, false_and, false_or, or_false, if_false]
  split_ifs <;> rfl

/-- The flip of a table other than the tone curves and the dead map leaves DRAM. -/
theorem State.tableFlip_dram {table : Nat} (h0 : table ≠ 0) (h4 : table ≠ 4) (line : Nat) :
    (s.tableFlip p table line).dram = s.dram := by
  unfold State.tableFlip
  dsimp only
  rw [if_neg fun h => h4 h.2, State.loopFlip_dram h0 h4, State.raise_dram]
  split
  · rw [foldl_dram fun _ _ => State.setS_dram _ _ _]
    rfl
  · rfl

theorem State.showJobs_dram (s : State) : s.showJobs.dram = s.dram := by
  unfold State.showJobs
  simp only [State.set_dram, State.setB_dram]
  rw [foldl_dram]
  intro u p
  split <;> rfl

end

/-! ### A plane that an encoder's fault stops -/

section
variable {s u : State} {p e : Nat}

/-- A wire fault on A while the encoders count (R82, R88). -/
theorem exec_wireFault_A {t : Nat} (hr : Running s) (hcounts : (s.elapse t).encCounts = true) (e : Fin 4) :
    exec (.wireFault e 0 t) s = .next ((s.elapse t).wireFault e false) := by
  have h : execWireFault e 0 t s = .next ((s.elapse t).wireFault e false) := by
    unfold execWireFault
    rw [event_running hr, hcounts, State.when_true, if_neg (by decide)]
    rfl
  exact h

/-- What the fault of an encoder does to one plane (R122). -/
def State.haltPlane (s : State) (e p : Nat) : State :=
  if s.prints p ∧ s.encOf p = e then
    let s := s.setB (Reg.LINEGEN_PL_STATUS_HALTED p) true
    let s := (s.plane p).lines.foldl (fun s l =>
      (List.range l.heads.length).foldl (fun s h =>
        if (l.head h).commit.isSome then s.missHead p l.seq l.k h 3 s.now else s) s) s
    (s.mark p (s.lineAhead p).1 (s.lineAhead p).2 s.now).settled p
  else s

theorem State.encHalt_eq (s : State) (e : Nat) : s.encHalt e = [0, 1, 2, 3].foldl (fun s p => s.haltPlane e p) s := rfl

theorem Quiet.prints (h : Quiet s u) (p : Nat) : u.prints p = s.prints p := by
  simp [State.prints, State.linesWait, State.plane, h.line, h.running, h.queued]

theorem Quiet.idleFlips (hp : p < 4) (s : State) : Quiet s (s.idleFlips p) :=
  .foldl (fun u t _ => .ite (.tableFlip u hp t noLine) (.refl u)) s

/-- What ends a plane's printing lets its run of missed lines end and its tables flip (R121, R180). -/
theorem State.settled_stops (hp : s.prints p = true) {r : State} (hr : (s.settle p (s.plane p).lines.length).forget p = r)
    (hstop : r.prints p = false) :
    s.settled p = ((r.closeRun p ((r.enc (r.encOf p)).count)).idleFlips p).showJobs := by
  unfold State.settled State.planeStops
  simp [hp, hr, hstop]

end

/-- The running job: its one line on plane 0 is issued. -/
def lastLineJob : JobRun :=
  ⟨0, 0, ⟨1, 1, 1, [none, none, none, none]⟩, 0, 0, some 0, true, none, 0, 2 ^ 32, 0, 0, some 1, 0, 0, 1,
    ⟨0, 1, false, false, 0, 0, 0⟩ :: List.replicate 3 ⟨0, 0, false, false, 0, 0, 0⟩⟩

/-- That line, committed at its one head. -/
def lastLine : Line :=
  ⟨0, 0, 0, 0, true, 0, [0], 2 ^ 32, false, false, false, none, [[]], [⟨true, some 400, .latched, true⟩], false⟩

/-- In normal service, plane 0 prints from encoder 0 and has its last line still to fire. A dead map loaded by the host
waits for its flip (R180), and the first miss count of the plane in the work area at address 0 is 1 (R249). -/
def lastLineOut : State :=
  let s := ((State.reset.set (Reg.HTONE_PL_TABLES_PENDING 0) 16).set Reg.MEASURE_WORK_HI_VALID 1).set Reg.MEMCTL_MODE_INIT 0
  { s with
    dram := [(0x40000, 1)]
    mem := { s.mem with valid := (List.range 6).map (fun i => (4 + i, true)), undef := [] }
    job := { s.job with running := some lastLineJob }
    line := { s.line with planes := { PlaneSt.init with lines := [lastLine] } :: List.replicate 3 .init } }

/-- Right after a wire fault on A. -/
def wireCut : State :=
  (lastLineOut.setB (Reg.ENC_STATUS_WIRE_A 0) true).encFault 0 (Reg.ENC_STATUS_WIRE 0) 0

/-- Plane 0 is halted. -/
def planeHalted : State := wireCut.setB (Reg.LINEGEN_PL_STATUS_HALTED 0) true

/-- The line is missed at its head (R122). -/
def lineMissed : State := (planeHalted.missHead 0 0 0 0 3 0).mark 0 0 0 0

/-- The line is settled, and the run of missed lines ends (R121). -/
def runClosed : State := ((lineMissed.settle 0 1).forget 0).closeRun 0 0

/-- What stands in DRAM once the dead map is in use. -/
def mapInUse : State :=
  ((runClosed.deadMapFlips 0 noLine).modLoop 0 (fun x => { x with loads := x.loads.filter (· != 4) })).waitMark 0

/-- The fault misses the one line that is committed, and plane 0 is settled. -/
theorem haltPlane_wireCut : wireCut.haltPlane 0 0 = lineMissed.settled 0 := by
  have hlines : (planeHalted.plane 0).lines = [lastLine] := by decide
  have hnow : planeHalted.now = 0 := by decide
  have hmissed : [lastLine].foldl (fun s l => (List.range l.heads.length).foldl (fun s h =>
      if (l.head h).commit.isSome then s.missHead 0 l.seq l.k h 3 s.now else s) s) planeHalted =
      planeHalted.missHead 0 0 0 0 3 0 :=
    congrArg (planeHalted.missHead 0 0 0 0 3) hnow
  have hahead : (planeHalted.missHead 0 0 0 0 3 0).lineAhead 0 = (0, 0) := by decide
  have hthen : (planeHalted.missHead 0 0 0 0 3 0).now = 0 := by decide
  unfold State.haltPlane
  rw [if_pos (by decide)]
  dsimp only
  rw [← planeHalted, hlines, hmissed, hahead, hthen, lineMissed]

/-- With its only line gone the plane stops printing: its tables flip. -/
theorem lineMissed_settled : lineMissed.settled 0 = (runClosed.idleFlips 0).showJobs :=
  State.settled_stops (by decide) rfl (by decide)

theorem encHalt_wireCut : wireCut.encHalt 0 = (runClosed.idleFlips 0).showJobs := by
  have hidle : ∀ q, runClosed.prints q = false →
      (runClosed.idleFlips 0).showJobs.haltPlane 0 q = (runClosed.idleFlips 0).showJobs := fun q hq => by
    have hq : (runClosed.idleFlips 0).showJobs.prints q = false :=
      (((Quiet.idleFlips (by decide) runClosed).trans (.showJobs _)).prints q).trans hq
    exact if_neg (by simp [hq])
  rw [State.encHalt_eq, List.foldl_cons, haltPlane_wireCut, lineMissed_settled, List.foldl_cons, hidle 1 (by decide),
    List.foldl_cons, hidle 2 (by decide), List.foldl_cons, hidle 3 (by decide), List.foldl_nil]

/-- Of the plane's tables the dead map alone waits. -/
theorem tableFlip_runClosed : runClosed.tableFlip 0 4 noLine = mapInUse.zeroMisses 0 :=
  State.tableFlip_deadMap (by decide) noLine

theorem zeroMisses_mapInUse : Sparse.get 0 (mapInUse.zeroMisses 0).dram 0x40000 = 0 := by
  have hflag : mapInUse.flag Reg.MEASURE_WORK_HI_VALID = true := by decide
  have harea : mapInUse.workAddr 0 = 0 := by decide
  have hvalid : ∀ r < 6, mapInUse.validRegion (4 + r) = true := by decide
  have h := State.zeroMisses_dram (p := 0) hflag (by decide) fun i hi => by
    obtain ⟨r, hr, he⟩ : ∃ r < 6, (mapInUse.workAddr 0 + 0x40000 + i) / regionBytes = 4 + r :=
      ⟨i / 0x10000, by omega, by rw [harea]; unfold regionBytes; omega⟩
    rw [he]
    exact hvalid r hr
  rwa [harea] at h

theorem idleFlips_runClosed : Sparse.get 0 (runClosed.idleFlips 0).dram 0x40000 = 0 := by
  have hlast : ∀ u : State, (if u.tabBit (Reg.HTONE_PL_TABLES_PENDING 0) 5 && !u.flipHeld 0 5 then u.tableFlip 0 5 noLine
      else u).dram = u.dram := fun u => by
    split
    · exact State.tableFlip_dram (by decide) (by decide) noLine
    · rfl
  have hsix : List.range 6 = [0, 1, 2, 3, 4, 5] := rfl
  unfold State.idleFlips
  rw [hsix, List.foldl_cons, if_neg (by decide), List.foldl_cons, if_neg (by decide), List.foldl_cons, if_neg (by decide),
    List.foldl_cons, if_neg (by decide), List.foldl_cons, if_pos (by decide), List.foldl_cons, List.foldl_nil, hlast,
    tableFlip_runClosed]
  exact zeroMisses_mapInUse

theorem wireFault_lastLineOut : lastLineOut.wireFault 0 false = wireCut.encHalt 0 := by
  have hwas : lastLineOut.flag (Reg.ENC_STATUS_INVALID 0) = false := by decide
  have hnow : wireCut.flag (Reg.ENC_STATUS_INVALID 0) = true := by decide
  have hcount : ((lastLineOut.setB (Reg.ENC_STATUS_WIRE_A 0) true).enc 0).count = 0 := by decide
  unfold State.wireFault
  dsimp only
  rw [if_neg (by decide), hcount, ← wireCut, hwas, State.haltIfNew, hnow]
  rfl

theorem exec_wireFault_lastLineOut : exec (.wireFault 0 0 0) lastLineOut = .next (wireCut.encHalt 0) := by
  have hnow : lastLineOut.elapse 0 = lastLineOut := rfl
  rw [exec_wireFault_A rfl (by decide), hnow]
  exact congrArg _ wireFault_lastLineOut

/-- Refutes O40: a wire fault on A can write DRAM. It misses the last line of the plane that prints from the encoder (R122),
so the plane stops printing, its waiting dead map flips (R180), and the flip zeroes the miss counts (R249). -/
theorem not_encoderEventsComplete : ¬ Obligations.EncoderEventsComplete := by
  unfold Obligations.EncoderEventsComplete
  intro h
  obtain ⟨-, -, hwire, -⟩ := h 0 0 lastLineOut rfl (by decide) rfl
  obtain ⟨v, hv, -, -, -, -, hdram, -⟩ := hwire 0 (by decide)
  obtain rfl : wireCut.encHalt 0 = v := Host.Outcome.next.inj (exec_wireFault_lastLineOut.symm.trans hv)
  have hzero : Sparse.get 0 (wireCut.encHalt 0).dram 0x40000 = 0 := by
    rw [encHalt_wireCut, State.showJobs_dram]
    exact idleFlips_runClosed
  rw [hdram] at hzero
  exact absurd hzero (by decide)

end Sys2Proof.Machine
end

section
/-! SUPPORT. The statement on the commands that place lines: LINE_CONFIG, HEAD_OFFSET and WSPD_CONFIG. -/

namespace Sys2Proof.Machine

section
variable {s : State} {h : Hdr} {c : HostCmd} {p : Nat}

/-! ### What a command's arrival leaves of a plane -/

@[simp] theorem State.serving_plane (h : Hdr) (c : HostCmd) (p : Nat) : (s.serving h c).plane p = s.plane p := by
  simp [State.plane]

@[simp] theorem State.serving_prints (h : Hdr) (c : HostCmd) (p : Nat) : (s.serving h c).prints p = s.prints p := by
  simp [State.prints, State.linesWait]

@[simp] theorem State.serving_inUse (h : Hdr) (c : HostCmd) (p : Nat) : (s.serving h c).inUse p = s.inUse p := by
  simp [State.inUse, State.armed]

/-! ### LINE_CONFIG (R111, R131) -/

variable {enc pitch delay cpl wobble la : Nat}

/-- The settings of a plane that LINE_CONFIG writes, with CPL committed and the lookahead shown. -/
def State.configLine (s : State) (p enc pitch delay cpl wobble la : Nat) : State :=
  (((((((((s.set (Reg.LINEGEN_PL_CONFIG_ENC p) enc).set (Reg.LINEGEN_PL_CONFIG_PITCH p) pitch).set
    (Reg.LINEGEN_PL_DELAY p) delay).set (Reg.LINEGEN_PL_CONFIG_WOBBLE p) wobble).set
    (Reg.LINEGEN_PL_CONFIG_LOOKAHEAD p) la).set (Reg.LINEGEN_PL_CPL_LO p) cpl).set
    (Reg.LINEGEN_PL_CPL_HI p) (cpl / 2 ^ 32)).commitCpl p).showLookahead p)

theorem cmdLineConfig_inUse (hs : s.standby = false) (hu : s.inUse p = true) :
    cmdLineConfig p enc pitch delay cpl wobble la s = Res.err stBadState s := by
  unfold cmdLineConfig
  rw [if_neg (by simp [hs]), if_pos hu]

theorem cmdLineConfig_free (hs : s.standby = false) (hu : s.inUse p = false) (hc : cplOk cpl = true) :
    cmdLineConfig p enc pitch delay cpl wobble la s = Res.ok (s.configLine p enc pitch delay cpl wobble la) := by
  unfold cmdLineConfig
  rw [if_neg (by simp [hs]), if_neg (by simp [hu]), if_neg (by simp [hc])]
  rfl

/-- A LINE_CONFIG that arrives brings a CPL within its limits (R36 check 5). -/
theorem Ready.cplOk (hr : Ready h (.lineConfig p enc pitch delay cpl wobble la) s) : cplOk cpl = true := by
  have hv := hr.values
  simp only [HostCmd.valuesOk, Bool.and_eq_true] at hv
  obtain ⟨⟨⟨-, hcpl⟩, -⟩, -⟩ := hv
  exact hcpl

/-! ### HEAD_OFFSET (R112) -/

variable {first : Nat} {offs : List Int}

/-- Every offset with its head's alignment value lies within R112. -/
def State.sumsOk (s : State) (p first : Nat) (offs : List Int) : Prop :=
  ∀ i, i < offs.length → -32767 ≤ offs.getD i 0 + (s.plane p).along.getD (first + i) 0 ∧
    offs.getD i 0 + (s.plane p).along.getD (first + i) 0 ≤ 32767

/-- Of offsets that are themselves in range, only the sums are left to judge. -/
theorem State.offsetsOk_iff (ho : ∀ o ∈ offs, -32767 ≤ o ∧ o ≤ 32767) :
    (List.range offs.length).all (fun i => s.offsetOk p (first + i) (offs.getD i 0)) = true ↔ s.sumsOk p first offs := by
  simp only [List.all_eq_true, List.mem_range, State.offsetOk, decide_eq_true_eq, State.sumsOk]
  refine forall₂_congr fun i hi => ?_
  have hin : offs.getD i 0 ∈ offs := by
    rw [List.getD_eq_getElem _ _ hi]
    exact List.getElem_mem hi
  obtain ⟨hlo, hhi⟩ := ho _ hin
  exact ⟨fun hsum => hsum.2.2, fun hsum => ⟨hlo, hhi, hsum⟩⟩

/-- The offsets of the heads from `first` on. -/
def State.putOffsets (s : State) (p first : Nat) (offs : List Int) : State :=
  (List.range offs.length).foldl (fun s i => s.setS (Reg.LINEGEN_PL_HOFF_OFFSET p (first + i)) (offs.getD i 0)) s

/-- Writing offsets starts and ends no line. -/
theorem State.prints_putOffsets (s : State) (p first : Nat) (offs : List Int) (q : Nat) :
    (s.putOffsets p first offs).prints q = s.prints q := by
  refine foldl_keeps (P := fun u : State => u.prints q = s.prints q) (fun u i hu => ?_) _ _ rfl
  exact hu

theorem cmdHeadOffset_ok (hs : s.standby = false) (ho : ∀ o ∈ offs, -32767 ≤ o ∧ o ≤ 32767) (hok : s.sumsOk p first offs) :
    cmdHeadOffset p first offs s = Res.ok ((if s.prints p then s.putOffsets p first offs
      else (s.putOffsets p first offs).flipAll (hoffGroup p)).waitMark p) := by
  unfold cmdHeadOffset
  rw [if_neg (by simp [hs]), if_neg (by rw [(State.offsetsOk_iff ho).2 hok]; simp), ← State.prints_putOffsets s p first offs p]
  rfl

theorem cmdHeadOffset_outOfRange (hs : s.standby = false) (ho : ∀ o ∈ offs, -32767 ≤ o ∧ o ≤ 32767)
    (hok : ¬s.sumsOk p first offs) : cmdHeadOffset p first offs s = Res.err stBadParam s := by
  unfold cmdHeadOffset
  rw [if_neg (by simp [hs]), if_pos (by simpa only [Bool.not_eq_true', ← Bool.not_eq_true, State.offsetsOk_iff ho] using hok)]

/-- A HEAD_OFFSET that arrives brings offsets in range (R36 check 5). -/
theorem Ready.offsets (hr : Ready h (.headOffset p first offs) s) : ∀ o ∈ offs, -32767 ≤ o ∧ o ≤ 32767 := by
  have hv := hr.values
  simp only [HostCmd.valuesOk, Bool.and_eq_true, List.all_eq_true, decide_eq_true_eq] at hv
  exact hv.2

/-! ### WSPD_CONFIG (R126) -/

/-- What WSPD_CONFIG writes; an ENABLE of 1 is remembered. -/
def State.configWspd (s : State) (enable margin wm : Nat) : State :=
  let v := (s.set Reg.LINEGEN_WSPD_CTRL_ENABLE enable).set Reg.LINEGEN_WSPD_CTRL_MARGIN margin
  { v with line := { v.line with wspdSeen := v.line.wspdSeen || enable == 1 } }.set Reg.LINEGEN_WSPD_HIGH_WM wm

theorem cmdWspdConfig_eq (hs : s.standby = false) (enable margin wm : Nat) :
    cmdWspdConfig enable margin wm s = Res.ok (s.configWspd enable margin wm) := by
  unfold cmdWspdConfig
  rw [if_neg (by simp [hs])]
  rfl

end

/-- Settles O17: each command's check and effect on the state that serves it, then the reply. -/
theorem linePlacementCommandsComplete : Obligations.LinePlacementCommandsComplete := by
  intro h p s hs
  have hserving : ∀ c, (s.serving h c).standby = false := fun c => (State.serving_standby s h c).trans hs
  refine ⟨fun enc pitch delay cpl wobble la hr => ?_, fun first offs hr => ?_, fun enable margin wm hr => ?_⟩
  · have huse : (s.serving h (.lineConfig p enc pitch delay cpl wobble la)).inUse p = s.inUse p := State.serving_inUse _ _ _
    intro c u
    split
    next hin => exact exec_refuses hr (cmdLineConfig_inUse (hserving _) (huse.trans hin)) rfl
    next hfree =>
      exact exec_accepts hr (cmdLineConfig_free (hserving _) (huse.trans (Bool.eq_false_iff.2 hfree)) hr.cplOk) rfl fun _ => rfl
  · intro c ok v
    have hok : (s.serving h c).sumsOk p first offs ↔ ok := by simp only [State.sumsOk, State.serving_plane, ok]
    refine ⟨fun hin => ?_, fun hout => ?_⟩
    · have hp := cmdHeadOffset_ok (hserving c) hr.offsets (hok.2 hin)
      rw [State.serving_prints] at hp
      exact exec_accepts hr hp rfl fun _ => rfl
    · exact exec_refuses hr (cmdHeadOffset_outOfRange (hserving c) hr.offsets (mt hok.1 hout)) rfl
  · exact exec_accepts hr (cmdWspdConfig_eq (hserving _) enable margin wm) rfl fun _ => rfl

end Sys2Proof.Machine
end

section
/-! SUPPORT. The statement on JOB_START: its checks before the job's number, and the job that each ARM queues. -/

namespace Sys2Proof.Machine

section
variable {s : State} {h : Hdr} {c : HostCmd} {id arm source : Nat} {pos : Int} {d : JobDef} {r : JobRun}

/-! ### What a command's arrival leaves of the checks -/

@[simp] theorem State.serving_encOf (h : Hdr) (c : HostCmd) (p : Nat) : (s.serving h c).encOf p = s.encOf p := by
  simp [State.encOf]

@[simp] theorem State.serving_cpl (h : Hdr) (c : HostCmd) (p : Nat) : (s.serving h c).cpl p = s.cpl p := by
  simp [State.cpl, State.getA]

@[simp] theorem State.serving_mapped (h : Hdr) (c : HostCmd) (p : Nat) : (s.serving h c).mapped p = s.mapped p := by
  simp [State.mapped, State.plane]

@[simp] theorem State.serving_encValid (h : Hdr) (c : HostCmd) (e : Nat) : (s.serving h c).encValid e = s.encValid e := by
  simp [State.encValid]

/-! ### The checks of JOB_START (R127, R145) -/

/-- The planes of a job's definition. -/
def JobDef.planeList (d : JobDef) : List Nat := (List.range 4).filter (bit d.planeMask)

/-- The encoder of a job's planes. -/
def State.encFor (s : State) (d : JobDef) : Nat := s.encOf (d.planeList.headD 0)

/-- The count at which a job starts from now (R128). -/
def State.leadFor (s : State) (d : JobDef) : Int := s.leadOf d.planeList

/-- The defined job finds its planes mapped, alike, and within their geometry, on a valid encoder, and nothing is queued. -/
structure State.mayStart (s : State) (id : Nat) (d : JobDef) : Prop where
  active : s.standby = false
  defined : s.job.defs.getD id none = some d
  free : s.job.queued = none
  mapped : ∀ p ∈ d.planeList, s.mapped p = true
  alike : ∀ p ∈ d.planeList, s.encOf p = s.encFor d ∧ s.cpl p = s.cpl (d.planeList.headD 0) ∧
    s.get (Reg.LINEGEN_PL_CONFIG_PITCH p) = s.get (Reg.LINEGEN_PL_CONFIG_PITCH (d.planeList.headD 0))
  geometry : ∀ p ∈ d.planeList, s.planeStartOk p = true
  valid : s.encValid (s.encFor d) = true

/-- ARM and its operand fit the running job and the encoder. -/
def State.armFits (s : State) (id arm source : Nat) (d : JobDef) : Prop :=
  (∀ r, s.job.running = some r → r.id ≠ id ∧ arm ≠ 0 ∧ arm ≠ 2) ∧ (s.job.running = none → arm ≠ 3) ∧
    (arm = 1 → source = s.encFor d) ∧ (arm = 2 → source ≤ 7)

/-- The job that an ARM queues, and the running job that gives way to it (R128, R130, R146). -/
def State.armJob (s : State) (arm : Nat) (pos x lead : Int) (j : JobRun) : JobRun × State :=
  if arm = 0 then ({ j with start := some ((x + lead) * 2 ^ 32) }, s)
  else if arm = 1 then
    ({ j with start := some (pos * 2 ^ 32) }, s.modRunning (fun r => { r with takeAt := r.lineAt pos }))
  else if arm = 3 then
    match s.job.running with
    | some r => ({ j with start := r.startAt r.boundary }, s.modRunning (fun r => { r with takeAt := some r.boundary }))
    | none => (j, s)
  else (j, s)

/-- A number for the next job is taken. -/
def State.nextJob (s : State) : State := { s with job := { s.job with nextSeq := s.job.nextSeq + 1 } }

/-- A job is queued and shown. -/
def State.queueJob (s : State) (j : JobRun) : State :=
  ({ s with job := { s.job with queued := some j } }).showJobs.showRings

/-- A job that passes every check is refused for its position alone, and queued otherwise. -/
theorem cmdJobStart_eq (hm : s.mayStart id d) (ha : s.armFits id arm source d) :
    cmdJobStart id arm source pos s =
      if arm = 1 ∧ pos - (s.enc (s.encFor d)).count < s.leadFor d then Res.err stPositionPassed s
      else
        let x := s.nextJob.armJob arm pos (s.enc (s.encFor d)).count (s.leadFor d) (s.newJob id arm source d)
        Res.ok (x.2.queueJob x.1) := by
  obtain ⟨hrun, hidle, hone, htwo⟩ := ha
  have hstate : ((match s.job.running with | some j => j.id == id | none => false) ||
      ((arm == 0 || arm == 2) && s.job.running.isSome) || (arm == 3 && s.job.running.isNone) ||
      s.job.queued.isSome) = false := by
    cases hr : s.job.running with
    | none => simp [hm.free, hidle hr]
    | some r =>
      obtain ⟨hid, h0, h2⟩ := hrun r hr
      simp [hm.free, hid, h0, h2]
  have hmapped : (!d.planeList.all s.mapped) = false := by rw [List.all_eq_true.2 hm.mapped]; rfl
  have hvalid : (!s.encValid (s.encFor d)) = false := by rw [hm.valid]; rfl
  have hparam : (d.planeList.any (fun p => s.encOf p != s.encFor d || s.cpl p != s.cpl (d.planeList.headD 0) ||
        s.get (Reg.LINEGEN_PL_CONFIG_PITCH p) != s.get (Reg.LINEGEN_PL_CONFIG_PITCH (d.planeList.headD 0))) ||
      (arm == 1 && source != s.encFor d) || (arm == 2 && decide (7 < source)) || !d.planeList.all s.planeStartOk) = false := by
    have halike : d.planeList.any (fun p => s.encOf p != s.encFor d || s.cpl p != s.cpl (d.planeList.headD 0) ||
        s.get (Reg.LINEGEN_PL_CONFIG_PITCH p) != s.get (Reg.LINEGEN_PL_CONFIG_PITCH (d.planeList.headD 0))) = false :=
      List.any_eq_false.2 fun p hp => by
        obtain ⟨henc, hcpl, hpitch⟩ := hm.alike p hp
        simp [henc, hcpl, hpitch]
    rw [halike, List.all_eq_true.2 hm.geometry]
    by_cases h1 : arm = 1
    · simp [h1, hone h1]
    · by_cases h2 : arm = 2
      · simp [h2, htwo h2]
      · simp [h1, h2]
  unfold cmdJobStart
  rw [if_neg (by simp [hm.active]), hm.defined]
  exact (if_neg (Bool.eq_false_iff.1 hstate)).trans ((if_neg (Bool.eq_false_iff.1 hmapped)).trans
    ((if_neg (Bool.eq_false_iff.1 hparam)).trans (if_neg (Bool.eq_false_iff.1 hvalid))))

/-! ### The job that each ARM queues (R128, R130, R146) -/

theorem State.modRunning_idle (hr : s.job.running = none) (f : JobRun → JobRun) : s.modRunning f = s := by
  unfold State.modRunning
  rw [hr, Option.map_none, ← hr]

theorem State.modRunning_congr {f g : JobRun → JobRun} (hr : s.job.running = some r) (hfg : f r = g r) :
    s.modRunning f = s.modRunning g := by
  unfold State.modRunning
  rw [hr, Option.map_some, Option.map_some, hfg]

variable {x lead st : Int} {j : JobRun}

/-- S of a job that is queued with no job running: open until its latch under ARM 2 (R128). -/
def armStart (arm : Nat) (pos x lead : Int) : Option Int :=
  if arm = 0 then some ((x + lead) * 2 ^ 32) else if arm = 1 then some (pos * 2 ^ 32) else none

/-- With no job running, the queued job alone takes its start. -/
theorem State.armJob_idle (hr : s.job.running = none) (hthree : arm ≠ 3) (hj : j.start = none) :
    s.armJob arm pos x lead j = ({ j with start := armStart arm pos x lead }, s) := by
  unfold State.armJob armStart
  by_cases h0 : arm = 0
  · simp [h0]
  · by_cases h1 : arm = 1
    · simp [h1, State.modRunning_idle hr]
    · simp [h0, h1, hthree, ← hj]

/-- Behind a running job, a position gives the line at which that job gives way. -/
theorem State.armJob_position (hr : s.job.running = some r) (hst : r.start = some st) :
    s.armJob 1 pos x lead j = ({ j with start := some (pos * 2 ^ 32) }, s.modRunning (fun r => { r with
      takeAt := some ((pos * 2 ^ 32 - st + r.cpl - 1) / (r.cpl : Int)).toNat })) := by
  refine congrArg (Prod.mk _) (State.modRunning_congr hr ?_)
  simp [JobRun.lineAt, hst]

/-- A repeat boundary, or the end before it, gives S of the job behind. -/
theorem State.armJob_boundary (hr : s.job.running = some r) (hst : r.start = some st) :
    s.armJob 3 pos x lead j = ({ j with start := some (st + ((r.boundary * r.cpl : Nat) : Int)) },
      s.modRunning (fun q => { q with takeAt := some r.boundary })) := by
  have htake := State.modRunning_congr (f := fun q => { q with takeAt := some q.boundary })
    (g := fun q => { q with takeAt := some r.boundary }) hr rfl
  simp [State.armJob, hr, JobRun.startAt, hst, htake]

/-! ### The command -/

/-- A job that passes every check and whose position is not passed is queued. -/
theorem exec_jobStart_queues {t : State} {j : JobRun} (hr : Ready h (.jobStart id arm source pos) s)
    (hm : (s.serving h (.jobStart id arm source pos)).mayStart id d)
    (ha : (s.serving h (.jobStart id arm source pos)).armFits id arm source d)
    (hpos : arm = 1 → (s.serving h (.jobStart id arm source pos)).leadFor d ≤ pos - (s.enc (s.encFor d)).count)
    (hj : (s.serving h (.jobStart id arm source pos)).nextJob.armJob arm pos (s.enc (s.encFor d)).count
      ((s.serving h (.jobStart id arm source pos)).leadFor d)
      ((s.serving h (.jobStart id arm source pos)).newJob id arm source d) = (j, t)) :
    exec (.jobStart h id arm source pos) s = .next (answered h (.jobStart id arm source pos) stOk [] (t.queueJob j)) := by
  have hp := cmdJobStart_eq (pos := pos) hm ha
  have henc : (s.serving h (.jobStart id arm source pos)).encFor d = s.encFor d := State.serving_encOf _ _ _
  rw [henc, State.serving_enc, hj, if_neg fun hpassed => by have := hpos hpassed.1; omega] at hp
  exact exec_accepts hr hp rfl fun _ => rfl

/-- A position nearer than the lead is refused (R128). -/
theorem exec_jobStart_passed (hr : Ready h (.jobStart id 1 source pos) s)
    (hm : (s.serving h (.jobStart id 1 source pos)).mayStart id d)
    (ha : (s.serving h (.jobStart id 1 source pos)).armFits id 1 source d)
    (hpos : pos - (s.enc (s.encFor d)).count < (s.serving h (.jobStart id 1 source pos)).leadFor d) :
    exec (.jobStart h id 1 source pos) s = .next ((s.elapse h.at_).reply h 0x0301 stPositionPassed false []) := by
  have hp := cmdJobStart_eq (pos := pos) hm ha
  have henc : (s.serving h (.jobStart id 1 source pos)).encFor d = s.encFor d := State.serving_encOf _ _ _
  rw [henc, State.serving_enc, if_pos ⟨rfl, hpos⟩] at hp
  exact exec_refuses hr hp rfl

end

/-- Settles O19: the checks pass, and each ARM queues its job. -/
theorem jobStartQueues : Obligations.JobStartQueues := by
  intro h id arm source pos d s c u ps e cpl x lead v queue answers hr hs hdefs hqueued hplanes hvalid
  have hm : u.mayStart id d :=
    { active := (State.serving_standby s h c).trans hs
      defined := by simpa [u] using hdefs
      free := by simpa [u] using hqueued
      mapped := fun p hp => (State.serving_mapped h c p).trans (hplanes p hp).1
      alike := fun p hp => by
        obtain ⟨-, henc, hcpl, -, hpitch⟩ := hplanes p hp
        simp only [State.encFor, State.serving_encOf, State.serving_cpl, State.serving_get, u]
        exact ⟨henc, hcpl, hpitch⟩
      geometry := fun p hp => by
        obtain ⟨-, -, -, hgeometry, -⟩ := hplanes p hp
        exact hgeometry
      valid := by
        simp only [State.encFor, State.serving_encOf, State.serving_encValid, u]
        exact hvalid }
  have henc : u.encFor d = e := State.serving_encOf h c _
  have hjob : u.job = s.job := State.serving_job s h c
  have hrunning : u.nextJob.job.running = s.job.running := (congrArg JobSt.running hjob :)
  refine ⟨fun hidle => ?_, fun r st hrun hid hst => ?_⟩
  · have hqueues : arm ≠ 3 → (arm = 1 → source = e ∧ lead ≤ pos - x) → (arm = 2 → source ≤ 7) →
        answers (queue v (armStart arm pos x lead)) := fun hthree hone htwo =>
      exec_jobStart_queues hr hm
        ⟨by simp [hidle], fun _ => hthree, fun h1 => henc ▸ (hone h1).1, htwo⟩
        (fun h1 => (hone h1).2) (State.armJob_idle (hrunning.trans hidle) hthree rfl)
    refine ⟨?_, ?_, ?_, ?_⟩
    · rintro rfl
      exact hqueues (by decide) (by simp) (by simp)
    · rintro rfl hsource hlead
      exact hqueues (by decide) (fun _ => ⟨hsource, hlead⟩) (by simp)
    · rintro rfl hsource hlead
      exact exec_jobStart_passed hr hm ⟨by simp [hidle], by simp, fun _ => henc ▸ hsource, by simp⟩ hlead
    · rintro rfl hsource
      exact hqueues (by decide) (by simp) fun _ => hsource
  · have hfits : arm = 1 ∨ arm = 3 → (arm = 1 → source = e) → u.armFits id arm source d := fun harm hone => by
      have hother : ∀ q, u.job.running = some q → q.id ≠ id := fun q hq => by
        rw [hjob, hrun] at hq
        exact Option.some.inj hq ▸ hid
      refine ⟨fun q hq => ⟨hother q hq, by omega, by omega⟩, fun hno => ?_, fun h1 => henc ▸ hone h1, by omega⟩
      simp [hjob, hrun] at hno
    refine ⟨?_, ?_⟩
    · rintro rfl hsource hlead
      exact exec_jobStart_queues hr hm (hfits (.inl rfl) fun _ => hsource) (fun _ => hlead)
        (State.armJob_position (hrunning.trans hrun) hst)
    · rintro rfl
      exact exec_jobStart_queues hr hm (hfits (.inr rfl) (by simp)) (by simp)
        (State.armJob_boundary (hrunning.trans hrun) hst)

end Sys2Proof.Machine
end

section
/-! SUPPORT. The statement on the ends of jobs, the frames of the heads and the strobe watchdogs. Its clause on a valid frame
fails in a state in which HPp.CTRL.PLANE stands beyond its two bits: the registers of such a plane are those of a port. -/

namespace Sys2Proof.Machine

/-- A valid frame on a port that listens (R204). -/
theorem exec_sretFrame_valid {q : Fin 48} {frame : List Byte} {t : Nat} {s : State} (hl : Live s) (hon : s.sretOn q = true)
    (hok : frameOk (s.portProfile q) frame = true) :
    exec (.sretFrame q frame false t) s = .next ((s.elapse t).sretFrame q (s.portProfile q) frame) := by
  have hon : (s.elapse t).sretOn q = true := by simpa [State.sretOn, State.ready] using hon
  have hprofile : (s.elapse t).portProfile q = s.portProfile q := by simp [State.portProfile]
  have h : execSretFrame q frame false t s = .next ((s.elapse t).sretFrame q (s.portProfile q) frame) := by
    unfold execSretFrame
    rw [eventAwake_live hl, hon, State.when_true, hprofile, if_neg (by simp [hok])]
  exact h

/-- The address of FLIPS of a plane 256 is that of SRET_ERRORS of port 0. -/
theorem State.get_sretErrors_zero (s : State) :
    s.get (Reg.HEADPORT_HP_SRET_ERRORS 0) = s.get (Reg.HTONE_PL_FLIPS_COUNT 256) := rfl

/-- In normal service, port 0 is mapped to plane 256, which is more than CTRL.PLANE can hold: no write stores it, but no
hypothesis of the statement excludes it. That plane has its last line still to fire and a density table that waits for its
flip (R180), and the port has met its cutoff twice in a row (R210). -/
def strayPort : State :=
  let s := on [(Reg.HEADPORT_HP_CTRL_MAPPED 0, 1), (Reg.HTONE_PL_TABLES_PENDING 256, 2)]
  { s with
    regs := Sparse.put 0 s.regs (Reg.HEADPORT_HP_CTRL_PLANE 0).key 256
    heads := [{ HeadPort.init with hot := 2 }]
    line := { s.line with planes := List.replicate 256 .init ++
      [{ PlaneSt.init with profile := some prof, map := [0], lines := [lastLine] }] } }

theorem live_strayPort : Live strayPort := ⟨rfl, rfl⟩

theorem sretErrors_strayPort : strayPort.get (Reg.HEADPORT_HP_SRET_ERRORS 0) = 0 := rfl

/-- A third frame at the cutoff faults the port (R210). Its plane's last line is missed there, so the plane stops printing and
its table flips. -/
theorem flipsCount_strayPort :
    ((strayPort.elapse 0).sretFrame 0 prof [0xFF, 0xFF]).get (Reg.HTONE_PL_FLIPS_COUNT 256) = 1 := by rfl

/-- Refutes O43: its clause on a valid frame says that SRET_ERRORS stays, for every state, and so also where CTRL.PLANE of the
port holds 256. The fault that the frame raises then flips a table of plane 256, and the flip counts in SRET_ERRORS. -/
theorem not_jobAndHeadEventsComplete : ¬ Obligations.JobAndHeadEventsComplete := by
  unfold Obligations.JobAndHeadEventsComplete
  intro h
  obtain ⟨-, hawake⟩ := h 0 strayPort live_strayPort.1
  obtain ⟨-, -, -, hports⟩ := hawake live_strayPort.2
  obtain ⟨-, hframe, -⟩ := hports 0
  obtain ⟨v, hv, -, -, herrors, -⟩ := hframe [0xFF, 0xFF] rfl rfl
  have hexec := exec_sretFrame_valid (q := 0) (frame := [0xFF, 0xFF]) (t := 0) live_strayPort rfl rfl
  obtain rfl : (strayPort.elapse 0).sretFrame 0 prof [0xFF, 0xFF] = v := Host.Outcome.next.inj (hexec.symm.trans hv)
  have hcount : 1 = 0 := flipsCount_strayPort.symm.trans
    ((State.get_sretErrors_zero _).symm.trans (herrors.trans sretErrors_strayPort))
  exact absurd hcount (by decide)

end Sys2Proof.Machine
end

section
/-! SUPPORT. The statement on JOB_DEFINE: the order of its checks, and the rings that it starts afresh. -/

namespace Sys2Proof.Machine

section
variable {s : State} {h : Hdr} {id mask endMode endValue : Nat} {binds : List Byte}

/-! ### The checks of JOB_DEFINE (R132 to R134, R138) -/

/-- The planes of a PLANE_MASK. -/
def maskPlanes (mask : Nat) : List Nat := (List.range 4).filter (bit mask)

/-- The bindings of a definition's planes keep their table, agree with the live jobs' rings, and are alike in repeat length. -/
structure State.bindsLegal (s : State) (mask : Nat) (binds : List Byte) : Prop where
  each : ∀ p ∈ maskPlanes mask, bindingOk binds p = true ∧ s.ringOk p (bindingAt binds p) = true
  alike : ∀ p ∈ maskPlanes mask, ∀ q ∈ maskPlanes mask,
    (bindingAt binds p).repeatLines = (bindingAt binds q).repeatLines

/-- There is a job, and it has the number. -/
def hasNumber (x : Option JobRun) (id : Nat) : Bool := match x with | some j => j.id == id | none => false

theorem hasNumber_iff {x : Option JobRun} : hasNumber x id = true ↔ ∃ j, x = some j ∧ j.id = id := by
  cases x <;> simp [hasNumber]

/-- A job of the number runs or is queued. -/
def State.jobLive (s : State) (id : Nat) : Bool := hasNumber s.job.running id || hasNumber s.job.queued id

theorem State.jobLive_iff :
    s.jobLive id = true ↔ ∃ j, (s.job.running = some j ∨ s.job.queued = some j) ∧ j.id = id := by
  simp only [State.jobLive, Bool.or_eq_true, hasNumber_iff, or_and_right, exists_or]

/-- Values alike over a list are all that of its head. -/
theorem any_ne_head_of_alike {f : Nat → Nat} {l : List Nat} (hf : ∀ p ∈ l, ∀ q ∈ l, f p = f q) :
    (l.map f).any (fun r => r != (l.map f).headD 0) = false := by
  cases l with
  | nil => rfl
  | cons p l =>
    refine List.any_eq_false.2 fun r hr => ?_
    obtain ⟨q, hq, rfl⟩ := List.mem_map.1 hr
    simp [hf q hq p List.mem_cons_self]

/-! ### The rings that a definition starts afresh (R138) -/

/-- C and Q of a ring become 0. -/
def Ring.fresh (r : Ring) : Ring := { r with committed := 0, consumed := 0 }

/-- The planes of a mask whose ring no live job binds. -/
def State.unbound (s : State) (mask : Nat) (binds : List Byte) : List Nat :=
  (maskPlanes mask).filter (fun p => (bindingAt binds p).use != 0 && !s.ringBound p)

/-- The rings of the planes of a list start afresh. -/
def State.freshRings (s : State) (l : List Nat) : State := l.foldl (fun v p => v.modRing p Ring.fresh) s

theorem State.freshRings_defs (s : State) (l : List Nat) : (s.freshRings l).job.defs = s.job.defs :=
  List.foldlRecOn (motive := fun v : State => v.job.defs = s.job.defs) l _ rfl fun _ hv _ _ => hv

/-- A ring started afresh binds no plane and frees none, so that the planes to start can be told beforehand. -/
theorem State.foldl_freshRings : ∀ (l : List Nat) {v : State}, (∀ p, v.ringBound p = s.ringBound p) →
    l.foldl (fun v p => if (bindingAt binds p).use = 0 ∨ v.ringBound p then v else v.modRing p Ring.fresh) v =
      v.freshRings (l.filter (fun p => (bindingAt binds p).use != 0 && !s.ringBound p))
  | [], _, _ => rfl
  | p :: l, v, hv => by
    rw [List.foldl_cons, List.filter_cons, hv p]
    by_cases hskip : (bindingAt binds p).use = 0 ∨ s.ringBound p = true
    · rw [if_pos hskip, if_neg (by simpa [Classical.or_iff_not_imp_left] using hskip)]
      exact State.foldl_freshRings l hv
    · obtain ⟨huse, hfree⟩ := not_or.1 hskip
      rw [if_neg hskip, if_pos (by simp [huse, hfree])]
      exact State.foldl_freshRings l hv

/-- The definition that the parameters spell. -/
def jobDefOf (mask endMode endValue : Nat) (binds : List Byte) : JobDef :=
  ⟨mask, endMode, endValue, (List.range 4).map (fun p => if bit mask p then some (bindingAt binds p) else none)⟩

/-- A definition is stored under its number. -/
def State.storeDef (s : State) (id : Nat) (d : JobDef) : State :=
  { s with job := { s.job with defs := modAt (fun _ => some d) id s.job.defs } }

/-! ### The command -/

/-- With legal parameters, only a protected ring and a live job of the number refuse a definition, in that order (log 172). -/
theorem cmdJobDefine_legal (hs : s.standby = false)
    (hv : HostCmd.valuesOk (.jobDefine id mask endMode endValue binds) = true) (hl : s.bindsLegal mask binds) :
    cmdJobDefine id mask endMode endValue binds s =
      if (maskPlanes mask).any (ringProtected binds) then Res.err stProtected s
      else if s.jobLive id then Res.err stBadState s
      else Res.ok ((s.freshRings (s.unbound mask binds)).storeDef id (jobDefOf mask endMode endValue binds)) := by
  simp only [HostCmd.valuesOk, upTo, Bool.and_eq_true, decide_eq_true_eq] at hv
  obtain ⟨⟨⟨-, hmask⟩, hmode⟩, hzero, hend⟩ := hv
  have hbinding : (maskPlanes mask).all (bindingOk binds) = true := List.all_eq_true.2 fun p hp => (hl.each p hp).1
  have hring : (maskPlanes mask).all (fun p => s.ringOk p (bindingAt binds p)) = true :=
    List.all_eq_true.2 fun p hp => (hl.each p hp).2
  have hreps := any_ne_head_of_alike (f := fun p => (bindingAt binds p).repeatLines) hl.alike
  unfold maskPlanes at hbinding hring hreps
  unfold cmdJobDefine
  dsimp only
  rw [if_neg (by simp [hs]), hbinding, hring, hreps, if_neg (by simp; omega)]
  refine if_congr Iff.rfl rfl (if_congr Iff.rfl rfl ?_)
  exact congrArg (fun v : State => Res.ok (v.storeDef id (jobDefOf mask endMode endValue binds)))
    (State.foldl_freshRings _ fun _ => rfl)

@[simp] theorem State.serving_ringBound (h : Hdr) (c : HostCmd) (p : Nat) : (s.serving h c).ringBound p = s.ringBound p := by
  simp [State.ringBound, State.liveBindings]

@[simp] theorem State.serving_ringOk (h : Hdr) (c : HostCmd) (p : Nat) (b : Binding) :
    (s.serving h c).ringOk p b = s.ringOk p b := by
  simp [State.ringOk, State.liveBindings]

@[simp] theorem State.serving_jobLive (h : Hdr) (c : HostCmd) (id : Nat) : (s.serving h c).jobLive id = s.jobLive id := by
  simp [State.jobLive]

end

/-- Settles O18: of legal parameters the protected window is checked before the live jobs (log 172), and the rings that no
live job binds start afresh. -/
theorem jobDefineStores : Obligations.JobDefineStores := by
  intro h id mask endMode endValue binds s c u ps legal open_ live refused
  have hperform : Ready h c s → s.standby = false → legal →
      u.perform h c = if ps.any (ringProtected binds) then Res.err stProtected u
        else if s.jobLive id then Res.err stBadState u
        else Res.ok ((u.freshRings (u.unbound mask binds)).storeDef id (jobDefOf mask endMode endValue binds)) :=
    fun hr hs ⟨heach, halike⟩ => by
      have hlegal : u.bindsLegal mask binds :=
        ⟨fun p hp => by simpa only [u, State.serving_ringOk] using heach p hp, halike⟩
      rw [← State.serving_jobLive h c id]
      exact cmdJobDefine_legal ((State.serving_standby s h c).trans hs) hr.values hlegal
  have hopen : open_ ↔ ¬ps.any (ringProtected binds) = true := by simp [open_]
  refine ⟨fun hr hs hlegal hop hlive => ?_, fun hp hbad => ?_, fun hr hs hlegal hop => ?_, fun hr hs hlegal hop hlive => ?_⟩
  · intro bound rings
    have hp := hperform hr hs hlegal
    rw [if_neg (hopen.1 hop), if_neg (mt State.jobLive_iff.1 hlive)] at hp
    have hbound : u.unbound mask binds = bound := by simp only [State.unbound, u, State.serving_ringBound]; rfl
    have hdefs : (u.freshRings bound).job.defs = s.job.defs :=
      (State.freshRings_defs u bound).trans (congrArg JobSt.defs (State.serving_job s h c))
    rw [hbound, State.storeDef, hdefs] at hp
    exact exec_accepts hr hp rfl fun _ => rfl
  · refine exec_badParam (c := .jobDefine id mask endMode endValue binds) hp ?_
    simp only [HostCmd.valuesOk, upTo, Bool.and_eq_false_iff, decide_eq_false_iff_not]
    omega
  · have hp := hperform hr hs hlegal
    rw [if_pos (not_not.1 (mt hopen.2 hop))] at hp
    exact exec_refuses hr hp rfl
  · have hp := hperform hr hs hlegal
    rw [if_neg (hopen.1 hop), if_pos (State.jobLive_iff.2 hlive)] at hp
    exact exec_refuses hr hp rfl

end Sys2Proof.Machine
end

section
/-! SUPPORT. The statement on JOB_STOP, JOB_STATUS and STREAM_COMMIT. -/

namespace Sys2Proof.Machine

section
variable {s : State} {h : Hdr} {c : HostCmd} {when_ drop p w : Nat} {j : JobRun} {b : Binding}

/-! ### JOB_STOP (R149) -/

/-- The line at which JOB_STOP ends the running job: the next to issue, or the next repeat boundary. -/
def JobRun.stopLine (j : JobRun) (when_ : Nat) : Nat := if when_ = 0 then (j.plane j.lead).next else j.nextBoundary

theorem cmdJobStop_running (hs : s.standby = false) (hj : s.job.running = some j) :
    cmdJobStop when_ drop s =
      Res.ok (((if drop = 1 then s.dropQueued else s).lowerEnd (j.stopLine when_) 2).planesStop s.printing) := by
  unfold cmdJobStop
  rw [if_neg (by simp [hs]), hj]
  rfl

theorem cmdJobStop_drops (hs : s.standby = false) (hj : s.job.running = none) (hd : drop = 1) (hq : s.job.queued ≠ none) :
    cmdJobStop when_ drop s = Res.ok (s.dropQueued.planesStop s.printing) := by
  unfold cmdJobStop
  rw [if_neg (by simp [hs]), hj]
  exact if_pos ⟨hd, Option.isSome_iff_ne_none.2 hq⟩

theorem cmdJobStop_idle (hs : s.standby = false) (hj : s.job.running = none) (hq : drop = 0 ∨ s.job.queued = none) :
    cmdJobStop when_ drop s = Res.err stBadState s := by
  unfold cmdJobStop
  rw [if_neg (by simp [hs]), hj]
  refine if_neg ?_
  rcases hq with rfl | hq
  · simp
  · simp [hq]

@[simp] theorem State.serving_printing (h : Hdr) (c : HostCmd) : (s.serving h c).printing = s.printing :=
  List.filter_congr fun p _ => State.serving_prints h c p

/-! ### JOB_STATUS (R151) -/

/-- A job's number as JOB_STATUS gives it: 0xFF for no job. -/
def jobNumber (x : Option JobRun) : List Byte := match x with | some j => leBytes 1 j.id | none => [0xFF]

/-- The job that JOB_STATUS counts: the running one, else the last. -/
def State.countedJob (s : State) : Option JobRun := s.job.running.orElse (fun _ => s.job.last)

/-- Repeats done of a job. -/
def repeatsShown (x : Option JobRun) : Nat := match x with | some j => (j.plane j.lag).done / j.defn.repeatLines | none => 0

/-- Lines issued of a job on a plane. -/
def linesShown (x : Option JobRun) (p : Nat) : Nat :=
  match x with | some j => if j.has p then (j.plane p).next else 0 | none => 0

/-- Underruns of a job on a plane. -/
def underrunsShown (x : Option JobRun) (p : Nat) : Nat := match x with | some j => (j.plane p).underrun | none => 0

/-- A number for each of the four planes, one after the other. -/
theorem flatten_four_planes (n : Nat) (f : Nat → Nat) :
    (((List.range 4).map f).map (leBytes n)).flatten =
      leBytes n (f 0) ++ leBytes n (f 1) ++ leBytes n (f 2) ++ leBytes n (f 3) := by
  simp [List.range_succ]

theorem cmdJobStatus_eq (s : State) :
    cmdJobStatus s = Res.okData (jobNumber s.job.running ++ jobNumber s.job.queued ++ leBytes 6 0 ++
      leBytes 8 (repeatsShown s.countedJob) ++
      (leBytes 8 (linesShown s.countedJob 0) ++ leBytes 8 (linesShown s.countedJob 1) ++
        leBytes 8 (linesShown s.countedJob 2) ++ leBytes 8 (linesShown s.countedJob 3)) ++
      (leBytes 4 (underrunsShown s.countedJob 0) ++ leBytes 4 (underrunsShown s.countedJob 1) ++
        leBytes 4 (underrunsShown s.countedJob 2) ++ leBytes 4 (underrunsShown s.countedJob 3))) s := by
  have hnumber : ∀ x : Option JobRun, jobNumber x = leBytes 1 (match x with | some j => j.id | none => 0xFF) := fun x => by
    cases x <;> rfl
  rw [hnumber, hnumber, ← flatten_four_planes, ← flatten_four_planes]
  rfl

@[simp] theorem State.serving_countedJob (h : Hdr) (c : HostCmd) : (s.serving h c).countedJob = s.countedJob := by
  simp [State.countedJob]

/-! ### STREAM_COMMIT (R139, R144) -/

/-- Rows are added to C, and EVT_STREAM_LOW is armed again where LEVEL has reached LOW_WM. -/
def State.commitRing (s : State) (p n lowWm : Nat) : State :=
  let v := s.modRing p (fun r => { r with committed := r.committed + n })
  if v.ringLevel p < lowWm then v else v.modRing p (fun r => { r with lowRaised := false })

/-- A commit at a row of the ring is refused beyond the room of the ring alone. -/
theorem cmdStreamCommit_eq (hs : s.standby = false) (hb : s.ringBinding p = some b) (hrow : w % b.stride = 0)
    (hin : w / b.stride < b.ringRows) :
    cmdStreamCommit p w s =
      if b.ringRows - 1 + (s.ring p).consumed < (s.ring p).committed + commitRows b (s.ring p) w then Res.err stBadParam s
      else
        let v := s.modRing p (fun r => { r with committed := r.committed + commitRows b (s.ring p) w })
        Res.okData (leBytes 4 (min (v.ringLevel p) (2 ^ 32 - 1)))
          ((s.commitRing p (commitRows b (s.ring p) w) b.lowWm).showRing p) := by
  unfold cmdStreamCommit
  dsimp only
  rw [if_neg (by simp [hs]), hb]
  exact if_congr (by simp [hrow, Nat.not_le.2 hin]) rfl rfl

@[simp] theorem State.serving_ringBinding (h : Hdr) (c : HostCmd) (p : Nat) :
    (s.serving h c).ringBinding p = s.ringBinding p := by
  simp [State.ringBinding, State.liveBindings]

@[simp] theorem State.serving_ring (h : Hdr) (c : HostCmd) (p : Nat) : (s.serving h c).ring p = s.ring p := by
  simp [State.ring]

end

/-- Settles O20: each command's check and effect on the state that serves it, then the reply. -/
theorem jobStopStatusCommitComplete : Obligations.JobStopStatusCommitComplete := by
  intro h s
  have hjob : ∀ c, (s.serving h c).job = s.job := State.serving_job s h
  have hrunning : ∀ c, (s.serving h c).job.running = s.job.running := fun c => congrArg JobSt.running (hjob c)
  have hqueued : ∀ c, (s.serving h c).job.queued = s.job.queued := fun c => congrArg JobSt.queued (hjob c)
  have hserving : s.standby = false → ∀ c, (s.serving h c).standby = false := fun hs c =>
    (State.serving_standby s h c).trans hs
  refine ⟨fun when_ drop hr hs => ?_, fun hr => ?_, fun p w b hr hs hb => ?_⟩
  · intro c u v
    refine ⟨fun j hj => ?_, fun hj hdrop hq => ?_, fun hj hq => ?_⟩
    · have hp := cmdJobStop_running (when_ := when_) (drop := drop) (hserving hs c) ((hrunning c).trans hj)
      rw [State.serving_printing] at hp
      exact exec_accepts hr hp rfl fun _ => rfl
    · have hp := cmdJobStop_drops (when_ := when_) (hserving hs c) ((hrunning c).trans hj) hdrop ((hqueued c).trans_ne hq)
      rw [State.serving_printing] at hp
      exact exec_accepts hr hp rfl fun _ => rfl
    · refine exec_refuses hr (cmdJobStop_idle (hserving hs c) ((hrunning c).trans hj) ?_) rfl
      exact hq.imp_right (hqueued c).trans
  · have hp := cmdJobStatus_eq (s.serving h .jobStatus)
    rw [State.serving_countedJob, hjob] at hp
    exact exec_replies hr hp rfl fun _ => rfl
  · intro c r hrow hin n
    have hp := cmdStreamCommit_eq (hserving hs c) ((State.serving_ringBinding h c p).trans hb) hrow hin
    rw [State.serving_ring] at hp
    refine ⟨fun hroom => ?_, fun hover => ?_⟩
    · exact exec_accepts hr (hp.trans (if_neg (Nat.not_lt.2 hroom))) rfl fun _ => rfl
    · exact exec_refuses hr (hp.trans (if_pos hover)) rfl

end Sys2Proof.Machine
end

section
/-! SUPPORT. The statement on the protected layers: what PLOAD, PLOCK and PUNLOCK answer at each of their checks, and what
each leaves when it passes. -/

namespace Sys2Proof.Machine

section
variable {s : State} {h : Hdr} {c : HostCmd} {p rects src len tag token : Nat} {on : Iface}

/-- An opcode row whose own check refuses, and leaves a trace of it. -/
theorem exec_refuses_after {st : Nat} {d : List Byte} {t : State} (hr : Ready h c s)
    (hp : (s.serving h c).perform h c = ⟨st, d, t, false⟩) (ha : accepted st = false) :
    exec (instrOf h c) s = .next (answered h c st [] t) := by
  rw [exec_instrOf, hostCommand_refuses hr hp ha]

/-! ### PLOAD (R160) -/

theorem cmdPload_locked (hs : s.standby = false) (hl : s.flag (Reg.COMPOSE_PL_PROT_STATUS_LOCKED p) = true) :
    cmdPload p rects src len tag on s = Res.err stProtected s := by
  unfold cmdPload State.pload
  rw [if_neg (by simp [hs]), if_pos hl]

theorem cmdPload_printing (hs : s.standby = false) (hl : ¬s.flag (Reg.COMPOSE_PL_PROT_STATUS_LOCKED p) = true)
    (hp : s.prints p = true) : cmdPload p rects src len tag on s = Res.err stBadState s := by
  unfold cmdPload State.pload
  rw [if_neg (by simp [hs]), if_neg hl, if_pos hp]

theorem cmdPload_copying (hs : s.standby = false) (hl : ¬s.flag (Reg.COMPOSE_PL_PROT_STATUS_LOCKED p) = true)
    (hp : s.prints p = false) (hc : (s.plane p).pload ≠ none) :
    cmdPload p rects src len tag on s = Res.err stBusy s := by
  unfold cmdPload State.pload
  rw [if_neg (by simp [hs]), if_neg hl, if_neg (by simp [hp]), if_pos (Option.isSome_iff_ne_none.2 hc)]

/-- The staging area does not begin at a multiple of 256, has no room for the index, or reaches the protected window. -/
abbrev ploadBad (src len : Nat) : Prop := src % 256 ≠ 0 ∨ len < 1024 ∨ protBase < src + len

/-- A PLOAD that nothing forbids is judged by its ranges, then by its index. -/
theorem cmdPload_free (hs : s.standby = false) (hl : ¬s.flag (Reg.COMPOSE_PL_PROT_STATUS_LOCKED p) = true)
    (hp : s.prints p = false) (hc : (s.plane p).pload = none) (hr : 1 ≤ rects ∧ rects ≤ 64) :
    cmdPload p rects src len tag on s =
      if ploadBad src len then Res.err stBadParam s
      else
        let x := s.fetch src 1024
        if !x.2.2.isEmpty then Res.err stMemUncorrectable (x.1.meetUes x.2.2 2)
        else if !stagingOk rects len x.2.1 then Res.err stBadParam x.1
        else ⟨stAccepted, [],
          ((x.1.modPlane p (fun y => { y with pload := some ⟨tag, on, rects, src, len, x.2.1⟩ })).setB
            (Reg.COMPOSE_PL_PROT_STATUS_LOADED p) false).setB (Reg.COMPOSE_PL_PROT_STATUS_COPYING p) true, false⟩ := by
  unfold cmdPload State.pload
  rw [if_neg (by simp [hs]), if_neg hl, if_neg (by simp [hp]), if_neg (by simp [hc])]
  exact if_congr (by simp only [ploadBad]; omega) rfl rfl

/-! ### PLOCK (R162, R164) -/

/-- A layer that is loaded and not locked, of a plane that does not print, may be locked. -/
abbrev State.mayLock (s : State) (p : Nat) : Prop :=
  s.flag (Reg.COMPOSE_PL_PROT_STATUS_LOADED p) = true ∧ s.flag (Reg.COMPOSE_PL_PROT_STATUS_LOCKED p) = false ∧
    s.prints p = false

/-- The token of a PLOCK at this state. -/
def State.lockToken (s : State) : Nat := s.fresh % (2 ^ 64 - 1) + 1

theorem State.lockToken_range (s : State) : 1 ≤ s.lockToken ∧ s.lockToken < 2 ^ 64 := by
  unfold State.lockToken; omega

theorem cmdPlock_locks (hs : s.standby = false) (hm : s.mayLock p) : cmdPlock p s =
    Res.okData (leBytes 8 s.lockToken ++ leBytes 4 (s.get (Reg.COMPOSE_PL_PROT_CRC p)))
      ((s.used.modPlane p (fun x => { x with token := s.lockToken })).setB (Reg.COMPOSE_PL_PROT_STATUS_LOCKED p) true) := by
  obtain ⟨hloaded, hlocked, hprints⟩ := hm
  have hcrc : (Reg.COMPOSE_PL_PROT_CRC p).key ≠ (Reg.COMPOSE_PL_PROT_STATUS_LOCKED p).key := by
    simp only [Fld.key, Reg.COMPOSE_PL_PROT_CRC, Reg.COMPOSE_PL_PROT_STATUS_LOCKED]; omega
  unfold cmdPlock State.plock
  rw [if_neg (by simp [hs]), if_neg (by simp [hloaded, hlocked, hprints])]
  dsimp only
  rw [State.get_setB_other _ hcrc]
  rfl

theorem cmdPlock_refuses (hs : s.standby = false) (hm : ¬s.mayLock p) : cmdPlock p s = Res.err stBadState s := by
  unfold cmdPlock State.plock
  rw [if_neg (by simp [hs]), if_pos]
  by_contra hno
  exact hm (by simpa [and_assoc] using hno)

/-! ### PUNLOCK (R163, R165) -/

/-- A locked layer of a plane that does not print may be unlocked. -/
abbrev State.mayUnlock (s : State) (p : Nat) : Prop :=
  s.prints p = false ∧ s.flag (Reg.COMPOSE_PL_PROT_STATUS_LOCKED p) = true

theorem cmdPunlock_refuses (hs : s.standby = false) (hm : ¬s.mayUnlock p) :
    cmdPunlock p token s = Res.err stBadState s := by
  unfold cmdPunlock State.punlock
  rw [if_neg (by simp [hs]), if_pos]
  by_contra hno
  exact hm (by simpa using hno)

/-- A PUNLOCK that may unlock is judged by the wrong tokens before it, then by its own. -/
theorem cmdPunlock_judged (hs : s.standby = false) (hm : s.mayUnlock p) : cmdPunlock p token s =
    if 16 ≤ s.get (Reg.COMPOSE_PL_PROT_STATUS_BAD_TOKENS p) then Res.err stProtected s
    else if token = (s.plane p).token then Res.ok (s.unlockProt p)
    else Res.err stProtected (s.inc (Reg.COMPOSE_PL_PROT_STATUS_BAD_TOKENS p)) := by
  obtain ⟨hprints, hlocked⟩ := hm
  unfold cmdPunlock State.punlock
  rw [if_neg (by simp [hs]), if_neg (by simp [hprints, hlocked])]

end

/-- Settles O22: each command's checks in their order on the state that serves it, then the reply. -/
theorem protectedLayerCommandsComplete : Obligations.ProtectedLayerCommandsComplete := by
  intro h p s hs
  have hserving : ∀ c, (s.serving h c).standby = false := fun c => (State.serving_standby s h c).trans hs
  refine ⟨fun rects src len hr => ?_, fun hr => ?_, fun token hr => ?_⟩
  · intro c x refused locked bad
    have hlocked : (s.serving h c).flag (Reg.COMPOSE_PL_PROT_STATUS_LOCKED p) = true ↔ locked := by
      rw [State.serving_flag]
    have hprints : ∀ b, s.prints p = b → (s.serving h c).prints p = b := fun b => (State.serving_prints h c p).trans
    have hplane : (s.serving h c).plane p = s.plane p := State.serving_plane h c p
    have hrects : 1 ≤ rects ∧ rects ≤ 64 := by
      have hv := hr.values
      simp only [HostCmd.valuesOk, Bool.and_eq_true, decide_eq_true_eq] at hv
      exact hv.1.2
    have hfree := fun hl hp hc => cmdPload_free (tag := h.tag) (on := h.iface) (src := src) (len := len) (hserving c)
      (mt hlocked.1 hl) (hprints false hp) ((congrArg PlaneSt.pload hplane).trans hc) hrects
    refine ⟨fun hl => ?_, fun hl hp => ?_, fun hl hp hc => ?_, fun hl hp hc hb => ?_, fun hl hp hc hb hread hindex => ?_⟩
    · exact exec_refuses hr (cmdPload_locked (hserving c) (hlocked.2 hl)) rfl
    · exact exec_refuses hr (cmdPload_printing (hserving c) (mt hlocked.1 hl) (hprints true hp)) rfl
    · refine exec_refuses hr (cmdPload_copying (hserving c) (mt hlocked.1 hl) (hprints false hp) ?_) rfl
      rwa [hplane]
    · exact exec_refuses hr ((hfree hl hp hc).trans (if_pos hb)) rfl
    · refine exec_accepts hr ((hfree hl hp hc).trans ?_) rfl fun _ => rfl
      have hread : ¬(!x.2.2.isEmpty) = true := by simp [hread]
      have hindex : ¬(!stagingOk rects len x.2.1) = true := by simp [hindex]
      exact (if_neg hb).trans ((if_neg hread).trans (if_neg hindex))
  · intro c u may
    have hmay : (s.serving h c).mayLock p ↔ may := by simp [State.mayLock, may]
    refine ⟨fun hm => ?_, fun hm => ?_⟩
    · obtain ⟨hpos, hlt⟩ := State.lockToken_range u
      have hp := cmdPlock_locks (hserving c) (hmay.2 hm)
      rw [State.serving_get] at hp
      exact ⟨u.lockToken, hpos, hlt, exec_accepts hr hp rfl fun _ => rfl⟩
    · exact exec_refuses hr (cmdPlock_refuses (hserving c) fun hl => hm (hmay.1 hl)) rfl
  · intro c u may tired
    have hmay : u.mayUnlock p ↔ may := by simp [State.mayUnlock, may, u]
    have htired : 16 ≤ u.get (Reg.COMPOSE_PL_PROT_STATUS_BAD_TOKENS p) ↔ tired := by simp [tired, u]
    have hown : (u.plane p).token = (s.plane p).token := congrArg PlaneSt.token (State.serving_plane h c p)
    have hjudged := fun hm => cmdPunlock_judged (token := token) (hserving c) (hmay.2 hm)
    refine ⟨fun hm => ?_, fun hm ht => ?_, fun hm ht hne => ?_, fun hm ht he => ?_⟩
    · exact exec_refuses hr (cmdPunlock_refuses (hserving c) fun hl => hm (hmay.1 hl)) rfl
    · exact exec_refuses hr ((hjudged hm).trans (if_pos (htired.2 ht))) rfl
    · have hp := (hjudged hm).trans ((if_neg (mt htired.1 ht)).trans (if_neg (hown ▸ hne)))
      exact exec_refuses_after hr hp rfl
    · exact exec_accepts hr ((hjudged hm).trans ((if_neg (mt htired.1 ht)).trans (if_pos (he.trans hown.symm)))) rfl
        fun _ => rfl

end Sys2Proof.Machine
end

section
/-! SUPPORT. Ranges of the memories, byte by byte: what a read of a range returns, and that it returns what a write of the
range has left. -/

namespace Sys2Proof.Machine

/-! ### A range of a sparse store -/

section
variable {β : Type}

/-- Along entries that begin at the key or after it, a walk reads key after key. -/
theorem Sparse.walk_eq_map (d : Nat → β) : ∀ (n : Nat) (m : List (Nat × β)) (a : Nat),
    m.Pairwise (fun x y => x.1 < y.1) → (∀ e ∈ m, a ≤ e.1) →
    Sparse.walk d m a n = (List.range n).map (fun i => Sparse.get (d (a + i)) m (a + i))
  | 0, _, _, _, _ => by simp [Sparse.walk]
  | n + 1, [], a, _, _ => by
    have ih := Sparse.walk_eq_map d n [] (a + 1) .nil (by simp)
    rw [Sparse.walk, ih, List.range_succ_eq_map, List.map_cons, List.map_map]
    simp [Sparse.get, Nat.add_comm, Nat.add_left_comm]
  | n + 1, (k, v) :: m, a, hm, ha => by
    obtain ⟨hk, hm'⟩ := List.pairwise_cons.1 hm
    have hak : a ≤ k := ha _ (List.mem_cons_self ..)
    have hstep : ∀ i, a + 1 + i = a + (i + 1) := fun i => by omega
    rw [Sparse.walk, List.range_succ_eq_map, List.map_cons, List.map_map]
    split
    case isTrue h =>
      subst h
      rw [Sparse.walk_eq_map d n m (k + 1) hm' fun e he => hk e he]
      simp [Sparse.get, Function.comp_def, hstep]
    case isFalse h =>
      have hlater : ∀ e ∈ (k, v) :: m, a + 1 ≤ e.1 := fun e he => by
        rcases List.mem_cons.1 he with rfl | he
        · dsimp only; omega
        · have := hk e he; dsimp only at this; omega
      have hnone : Sparse.get (d a) m a = d a :=
        Sparse.get_of_not_mem _ fun e he hea => by have := hk e he; dsimp only at this; omega
      rw [Sparse.walk_eq_map d n ((k, v) :: m) (a + 1) hm hlater]
      simp [Function.comp_def, hstep, Sparse.get, h, hnone]

/-- A range of a store in order, key by key. -/
theorem Sparse.slice_eq_map {d : Nat → β} {m : List (Nat × β)} (hm : m.Pairwise (fun x y => x.1 < y.1)) (a n : Nat) :
    Sparse.slice d m a n = (List.range n).map (fun i => Sparse.get (d (a + i)) m (a + i)) := by
  unfold Sparse.slice
  rw [Sparse.walk_eq_map d n _ a (hm.filter _) fun e he => by simpa using (List.mem_filter.1 he).2]
  refine List.map_congr_left fun i _ => ?_
  exact Sparse.get_filter_other _ fun e _ hek => by simp [hek]

/-- A range reads as what was written to it. -/
theorem Sparse.slice_putRange [DecidableEq β] {d : Nat → β} {m : List (Nat × β)} (hm : Sparse.wf d m = true) (a : Nat)
    (vs : List β) : Sparse.slice d (Sparse.putRange d m a vs) a vs.length = vs := by
  rw [Sparse.slice_eq_map ((Sparse.wf_iff _ _).1 (Sparse.wf_putRange d hm a vs)).1]
  refine List.ext_getElem (by simp) fun i _ h => ?_
  rw [List.getElem_map, List.getElem_range]
  exact Sparse.get_putRange_same d m a (List.getElem?_eq_getElem h)

/-- A read outside a range that is dropped. -/
theorem Sparse.get_dropRange_other {d : β} {m : List (Nat × β)} {a b k : Nat} (h : k < a ∨ b ≤ k) :
    Sparse.get d (Sparse.dropRange a b m) k = Sparse.get d m k :=
  Sparse.get_filter_other _ fun e _ hek => by simpa [hek] using h

/-- A dropped range reads as if nothing had been written. -/
theorem Sparse.get_dropRange_same {d : β} {m : List (Nat × β)} {a b k : Nat} (h1 : a ≤ k) (h2 : k < b) :
    Sparse.get d (Sparse.dropRange a b m) k = d :=
  Sparse.get_of_not_mem d fun e he hek => by
    have := (List.mem_filter.1 he).2
    simp only [decide_eq_true_eq] at this
    omega

end

/-! ### Ranges of DRAM and of table memory -/

section
variable {s u : State}

/-- A read of DRAM, byte by byte. -/
theorem State.readMem_eq_map (h : Memory.wf s = true) (a n : Nat) :
    s.readMem a n = (List.range n).map (fun i => s.byteAt (a + i)) := by
  have hsorted := ((Sparse.wf_iff _ _).1 ((Memory.wf_iff s).1 h).1).1
  unfold State.readMem
  rw [Sparse.slice_eq_map hsorted]
  refine List.ext_getElem (by simp) fun i _ _ => ?_
  simp [State.byteAt]

theorem State.length_readMem (h : Memory.wf s = true) (a n : Nat) : (s.readMem a n).length = n := by
  simp [State.readMem_eq_map h]

/-- A bank reads as what was written to it. -/
theorem State.readTab_putTabs (h : Memory.wf s = true) (bank1 : Bool) (a : Nat) (bs : List Byte) :
    (s.putTabs bank1 a bs).readTab bank1 a bs.length = bs := by
  obtain ⟨-, -, -, h0, h1, -, -⟩ := (Memory.wf_iff s).1 h
  cases bank1
  · exact Sparse.slice_putRange h0 a bs
  · exact Sparse.slice_putRange h1 a bs

/-- A read of a bank rests on that bank alone. -/
theorem State.readTab_congr (h0 : u.tab0 = s.tab0) (h1 : u.tab1 = s.tab1) (bank1 : Bool) (a n : Nat) :
    u.readTab bank1 a n = s.readTab bank1 a n := by
  unfold State.readTab
  rw [h0, h1]

/-! ### What a read of DRAM rests on -/

/-- The fields that say whether a region is in initialisation mode lie below the ECC block. -/
theorem State.initRegion_congr (h : ∀ f : Fld, f.lo < 32 → f.addr < 0x80020 → 0x80000 ≤ f.addr → u.get f = s.get f)
    (r : Nat) : u.initRegion r = s.initRegion r := by
  have hget : ∀ f ∈ [Reg.MEMCTL_MODE_INIT, Reg.MEMCTL_RECOVER_FIRST_ACTIVE, Reg.MEMCTL_RECOVER_FIRST_REGION,
      Reg.MEMCTL_RECOVER_COUNT_REGIONS], u.get f = s.get f := fun f hf => by
    refine h f ?_ ?_ ?_ <;> revert f <;> decide
  simp only [List.forall_mem_cons, List.not_mem_nil, false_imp_iff, implies_true, and_true] at hget
  obtain ⟨hmode, hactive, hfirst, hcount⟩ := hget
  simp [State.initRegion, State.flag, hmode, hactive, hfirst, hcount]

/-- A field outside the words that say which regions are in initialisation mode. -/
abbrev Fld.offInit (f : Fld) : Prop := f.lo < 32 ∧ (f.addr < 0x80000 ∨ 0x80020 ≤ f.addr)

theorem State.initRegion_set (s : State) {f : Fld} (hf : f.offInit) (v r : Nat) :
    (s.set f v).initRegion r = s.initRegion r :=
  State.initRegion_congr (fun q hlo h1 h2 => State.get_set_other s (by simp only [Fld.key]; omega) v) r

/-- Two states whose DRAM reads alike. -/
structure SameData (s u : State) : Prop where
  dram : u.dram = s.dram
  mem : u.mem = s.mem
  free : u.free = s.free
  init : ∀ r, u.initRegion r = s.initRegion r

theorem SameData.refl (s : State) : SameData s s := ⟨rfl, rfl, rfl, fun _ => rfl⟩

theorem SameData.elapse (s : State) (t : Nat) : SameData s (s.elapse t) :=
  ⟨State.elapse_dram s t, State.elapse_mem s t, State.elapse_free s t,
    State.initRegion_congr fun f _ _ _ => State.elapse_get s t f⟩

theorem SameData.set (h : SameData s u) {f : Fld} (hf : f.offInit) (v : Nat) : SameData s (u.set f v) :=
  ⟨h.dram, h.mem, h.free, fun r => (State.initRegion_set u hf v r).trans (h.init r)⟩

/-- A change of other parts of the state. -/
theorem SameData.of_parts {v : State} (h : SameData s u) (hv : (v.dram, v.mem, v.free, v.regs) =
    (u.dram, u.mem, u.free, u.regs)) : SameData s v := by
  simp only [Prod.mk.injEq] at hv
  obtain ⟨hd, hm, hf, hr⟩ := hv
  exact ⟨hd.trans h.dram, hm.trans h.mem, hf.trans h.free, fun r =>
    (State.initRegion_congr (fun q _ _ _ => by simp [State.get, hr]) r).trans (h.init r)⟩

theorem SameData.shownByte (h : SameData s u) (a : Nat) (b : Byte) : u.shownByte a b = s.shownByte a b := by
  have hdef : u.definedByte a = s.definedByte a := by rw [State.definedByte, h.mem]; rfl
  unfold State.shownByte State.validRegion
  dsimp only
  rw [hdef, h.mem, h.free, h.init]

theorem SameData.readMem (h : SameData s u) (a n : Nat) : u.readMem a n = s.readMem a n := by
  simp only [State.readMem, h.shownByte, h.dram]

theorem SameData.badBlocks (h : SameData s u) (a n : Nat) : u.badBlocks a n = s.badBlocks a n := by
  simp [State.badBlocks, State.reaches, State.validRegion, h.mem, h.init]

/-- With no zero fill under way a reader waits for none. -/
theorem State.waitFills_none (h : s.mem.filling = []) (a n : Nat) : s.waitFills a n = s := by
  simp [State.waitFills, h]

/-- What a source reads, with no zero fill under way. -/
theorem State.fetch_eq (h : s.mem.filling = []) (a n : Nat) :
    s.fetch a n = ((s.meetCes a n).used, s.readMem a n, s.badBlocks a n) := by
  unfold State.fetch
  rw [State.waitFills_none h]

theorem SameData.fetch (h : SameData s u) (hf : s.mem.filling = []) (a n : Nat) :
    u.fetch a n = ((u.meetCes a n).used, s.readMem a n, s.badBlocks a n) := by
  rw [State.fetch_eq (h.mem ▸ hf), h.readMem, h.badBlocks]

end

end Sys2Proof.Machine
end

section
/-! SUPPORT. What reading DRAM, telling of its errors and raising events can change, and what storing bytes in it can change. -/

namespace Sys2Proof.Machine

/-! ### Registers of the memory controller -/

/-- A field outside the MEMCTL and ECC blocks that is none of those that raising an event may change. -/
abbrev Fld.offMemory (f : Fld) : Prop := f.lo < 32 ∧ (f.addr < 0x80000 ∨ 0x91000 ≤ f.addr) ∧ f.key ∉ eventFields

/-- A field of the MEMCTL and ECC blocks. -/
abbrev Fld.ofMemory (f : Fld) : Prop := f.lo < 32 ∧ 0x80000 ≤ f.addr ∧ f.addr < 0x91000

theorem Fld.key_ne_of_memory {f q : Fld} (hf : f.ofMemory) (hq : q.offMemory) : q.key ≠ f.key := by
  obtain ⟨hqlo, hqaddr, -⟩ := hq
  obtain ⟨hlo, h1, h2⟩ := hf
  simp only [Fld.key]; omega

/-- A field of a block above ECC is none of the memory's. -/
theorem Fld.offMemory_of_addr {f : Fld} (hlo : f.lo < 32) (h : 0x91000 ≤ f.addr) : f.offMemory := by
  refine ⟨hlo, .inr h, ?_⟩
  simp only [eventFields, List.mem_cons, List.not_mem_nil, or_false, Fld.key, Reg.LOG_STATUS_DROPPED,
    Reg.CMD_ERR_COUNT_EVT_LOST]
  omega

/-! ### Reads and events -/

/-- Only the command interpreter, the registers of memory, the free values, and what the memory controller has logged may
differ. -/
structure ReadFrame (s u : State) : Prop where
  only : ∃ h r j f w l, u = { s with host := h, regs := r, just := j, free := f, mem := { s.mem with rewrites := w, ueLog := l } }
  get : ∀ q : Fld, q.offMemory → u.get q = s.get q

section
variable {s u v : State}

theorem ReadFrame.refl (s : State) : ReadFrame s s := ⟨⟨_, _, _, _, _, _, rfl⟩, fun _ _ => rfl⟩

theorem ReadFrame.trans (h : ReadFrame s u) (k : ReadFrame u v) : ReadFrame s v := by
  refine ⟨?_, fun q hq => (k.get q hq).trans (h.get q hq)⟩
  obtain ⟨_, _, _, _, _, _, rfl⟩ := h.only
  obtain ⟨_, _, _, _, _, _, rfl⟩ := k.only
  exact ⟨_, _, _, _, _, _, rfl⟩

theorem ReadFrame.foldl {α : Type} {f : State → α → State} (hf : ∀ s a, ReadFrame s (f s a)) (l : List α) (s : State) :
    ReadFrame s (l.foldl f s) :=
  foldl_keeps (P := ReadFrame s) (fun u a hu => hu.trans (hf u a)) l s (.refl s)

/-- A change of the parts that may differ, with the registers as they were. -/
theorem ReadFrame.of_regs (h : ∃ k f w l, u = { s with host := k, free := f, mem := { s.mem with rewrites := w, ueLog := l } }) :
    ReadFrame s u := by
  obtain ⟨_, _, _, _, rfl⟩ := h
  exact ⟨⟨_, _, _, _, _, _, rfl⟩, fun _ _ => rfl⟩

theorem ReadFrame.set (s : State) {f : Fld} (hf : f.ofMemory) (v : Nat) : ReadFrame s (s.set f v) :=
  ⟨⟨_, _, _, _, _, _, rfl⟩, fun _ hq => State.get_set_other s (Fld.key_ne_of_memory hf hq) v⟩

theorem ReadFrame.onlyHost (h : OnlyHost s u) (hg : ∀ q : Fld, q.key ∉ eventFields → u.get q = s.get q) :
    ReadFrame s u := by
  obtain ⟨_, _, _, rfl⟩ := h
  exact ⟨⟨_, _, _, _, _, _, rfl⟩, fun q hq => hg q hq.2.2⟩

theorem ReadFrame.raise (s : State) (c n : Nat) (a : List Byte) : ReadFrame s (s.raise c n a) :=
  .onlyHost (State.raise_onlyHost s c n a) fun _ => State.raise_get s c n a

theorem ReadFrame.raiseLimited (s : State) (c n k : Nat) (a : List Byte) : ReadFrame s (s.raiseLimited c n k a) :=
  .onlyHost (State.raiseLimited_onlyHost s c n k a) (EventFrame.raiseLimited s c n k a).get

theorem ReadFrame.used (s : State) : ReadFrame s s.used := .of_regs ⟨_, _, _, _, rfl⟩

theorem ReadFrame.meetCe (s : State) (b : Nat) : ReadFrame s (s.meetCe b) := by
  have hset : ReadFrame s (((s.incSat Reg.ECC_CE_COUNT 1).set Reg.ECC_CE_LAST_LO b).set Reg.ECC_CE_LAST_HI (b / 2 ^ 32)) :=
    ((ReadFrame.set s (by decide) _).trans (.set _ (by decide) _)).trans (.set _ (by decide) _)
  unfold State.meetCe
  dsimp only
  split
  · exact hset
  · exact hset.trans (.of_regs ⟨_, _, _, _, rfl⟩)

theorem ReadFrame.meetCes (s : State) (a n : Nat) : ReadFrame s (s.meetCes a n) := .foldl ReadFrame.meetCe _ s

theorem ReadFrame.logUe (s : State) (b req plane line : Nat) (web : Int) : ReadFrame s (s.logUe b req plane line web) := by
  have hnew : ∀ (u : State) (a : List Byte), ReadFrame s u → ReadFrame s (u.raiseLimited evMemUncorrectable 0 1 a) :=
    fun u a hu => hu.trans (.raiseLimited u _ _ _ a)
  unfold State.logUe
  split
  · split
    · exact .of_regs ⟨_, _, _, _, rfl⟩
    · split
      · exact .set s (by decide) _
      · exact hnew _ _ (.of_regs ⟨_, _, _, _, rfl⟩)
  · exact hnew _ _ (.of_regs ⟨_, _, _, _, rfl⟩)

theorem ReadFrame.meetUe (s : State) (b req plane line : Nat) (web : Int) :
    ReadFrame s (s.meetUe b req plane line web) := by
  unfold State.meetUe
  split
  · exact .refl s
  · split
    · exact .set s (by decide) _
    · exact (ReadFrame.set s (by decide) _).trans (.logUe _ _ _ _ _ _)

theorem ReadFrame.meetUes (s : State) (bs : List Nat) (req : Nat) : ReadFrame s (s.meetUes bs req) :=
  .foldl (fun u b => .meetUe u b _ _ _ _) bs s

theorem ReadFrame.cmdDone (s : State) (op tag st : Nat) (i : Iface) (r : Nat) : ReadFrame s (s.cmdDone op tag st i r) :=
  .raise ..

/-- A read of a range with its corrected errors. -/
theorem ReadFrame.met (s : State) (a n : Nat) : ReadFrame s (s.meetCes a n).used := (ReadFrame.meetCes s a n).trans (.used _)

/-- DRAM, and what is valid and defined of it, stays. -/
theorem ReadFrame.data (h : ReadFrame s u) : u.dram = s.dram ∧ u.mem.valid = s.mem.valid ∧ u.mem.undef = s.mem.undef := by
  obtain ⟨_, _, _, _, _, _, rfl⟩ := h.only
  exact ⟨rfl, rfl, rfl⟩

theorem ReadFrame.dram (h : ReadFrame s u) : u.dram = s.dram := h.data.1

/-- No zero fill starts or ends, no fill of a host ends, and no write leaves its queue. -/
theorem ReadFrame.queues (h : ReadFrame s u) : u.mem.filling = s.mem.filling ∧ u.mem.held = s.mem.held ∧
    u.mem.fills = s.mem.fills ∧ u.mem.writes = s.mem.writes := by
  obtain ⟨_, _, _, _, _, _, rfl⟩ := h.only
  exact ⟨rfl, rfl, rfl, rfl⟩

theorem ReadFrame.tabs (h : ReadFrame s u) : u.tab0 = s.tab0 ∧ u.tab1 = s.tab1 ∧ u.tone = s.tone := by
  obtain ⟨_, _, _, _, _, _, rfl⟩ := h.only
  exact ⟨rfl, rfl, rfl⟩

theorem ReadFrame.line (h : ReadFrame s u) : u.line = s.line := by
  obtain ⟨_, _, _, _, _, _, rfl⟩ := h.only
  rfl

theorem ReadFrame.pack (h : ReadFrame s u) : u.pack = s.pack := by
  obtain ⟨_, _, _, _, _, _, rfl⟩ := h.only
  rfl

theorem ReadFrame.wf (h : ReadFrame s u) : Memory.wf u = Memory.wf s := by
  obtain ⟨_, _, _, _, _, _, rfl⟩ := h.only
  rfl

end

/-! ### Stores -/

/-- Only the registers of memory, DRAM, and the memory controller's record of it may differ; the fills of a host stay. -/
structure StoreFrame (s u : State) : Prop where
  only : ∃ r j d m, u = { s with regs := r, just := j, dram := d, mem := m } ∧ m.fills = s.mem.fills
  get : ∀ q : Fld, q.offMemory → u.get q = s.get q

section
variable {s u v : State}

theorem StoreFrame.refl (s : State) : StoreFrame s s := ⟨⟨_, _, _, _, rfl, rfl⟩, fun _ _ => rfl⟩

theorem StoreFrame.trans (h : StoreFrame s u) (k : StoreFrame u v) : StoreFrame s v := by
  refine ⟨?_, fun q hq => (k.get q hq).trans (h.get q hq)⟩
  obtain ⟨_, _, _, _, rfl, hf⟩ := h.only
  obtain ⟨_, _, _, _, rfl, kf⟩ := k.only
  exact ⟨_, _, _, _, rfl, kf.trans hf⟩

theorem StoreFrame.foldl {α : Type} {f : State → α → State} (hf : ∀ s, ∀ a, StoreFrame s (f s a)) (l : List α) (s : State) :
    StoreFrame s (l.foldl f s) :=
  foldl_keeps (P := StoreFrame s) (fun u a hu => hu.trans (hf u a)) l s (.refl s)

/-- A change of DRAM and of the record, with the registers as they were. -/
theorem StoreFrame.of_regs (h : ∃ d m, u = { s with dram := d, mem := m } ∧ m.fills = s.mem.fills) : StoreFrame s u := by
  obtain ⟨_, _, rfl, hf⟩ := h
  exact ⟨⟨_, _, _, _, rfl, hf⟩, fun _ _ => rfl⟩

theorem StoreFrame.set (s : State) {f : Fld} (hf : f.ofMemory) (v : Nat) : StoreFrame s (s.set f v) :=
  ⟨⟨_, _, _, _, rfl, rfl⟩, fun _ hq => State.get_set_other s (Fld.key_ne_of_memory hf hq) v⟩

theorem StoreFrame.meetCe (s : State) (b : Nat) : StoreFrame s (s.meetCe b) := by
  have hset : StoreFrame s (((s.incSat Reg.ECC_CE_COUNT 1).set Reg.ECC_CE_LAST_LO b).set Reg.ECC_CE_LAST_HI (b / 2 ^ 32)) :=
    ((StoreFrame.set s (by decide) _).trans (.set _ (by decide) _)).trans (.set _ (by decide) _)
  unfold State.meetCe
  dsimp only
  split
  · exact hset
  · exact hset.trans (.of_regs ⟨_, _, rfl, rfl⟩)

theorem StoreFrame.storePiece (s : State) (p : Nat × List Byte) : StoreFrame s (s.storePiece p) := by
  have hinit : ∃ m, (if s.initRegion (p.1 / regionBytes) then s.setValid (p.1 / regionBytes) true else s) =
      { s with mem := m } ∧ m.fills = s.mem.fills := by
    split
    · exact ⟨_, rfl, rfl⟩
    · exact ⟨_, rfl, rfl⟩
  obtain ⟨m, hinit, hm⟩ := hinit
  unfold State.storePiece
  dsimp only
  rw [hinit]
  split
  · exact .of_regs ⟨_, _, rfl, hm⟩
  · split
    · unfold State.undefine
      exact .of_regs ⟨_, _, rfl, hm⟩
    · exact .of_regs ⟨_, _, rfl, hm⟩

theorem StoreFrame.rmwRead (s : State) (b : Nat) : StoreFrame s (s.rmwRead b) := by
  unfold State.rmwRead
  split
  · exact (StoreFrame.meetCe s b).trans (.of_regs ⟨_, _, rfl, rfl⟩)
  · exact .refl s

theorem StoreFrame.startFill (s : State) (r : Nat) : StoreFrame s (s.startFill r) := by
  unfold State.startFill
  split
  · exact .refl s
  · exact .of_regs ⟨_, _, rfl, rfl⟩

theorem StoreFrame.writePiece (s : State) (p : Nat × List Byte) : StoreFrame s (s.writePiece p).1 := by
  unfold State.writePiece
  dsimp only
  split
  · exact .storePiece s p
  · split
    · split
      · exact .storePiece s p
      · split
        · exact .refl s
        · exact (StoreFrame.rmwRead s _).trans (.storePiece _ p)
    · exact (StoreFrame.startFill s _).trans (.of_regs ⟨_, _, rfl, rfl⟩)

theorem StoreFrame.writePieces (ps : List (Nat × List Byte)) (s : State) : StoreFrame s (s.writePieces ps).1 := by
  induction ps generalizing s with
  | nil => exact .refl s
  | cons p ps ih => exact (StoreFrame.writePiece s p).trans (ih _)

theorem StoreFrame.showQueues (s : State) : StoreFrame s s.showQueues := by
  have hstep : ∀ (u : State), ∀ c < 8, StoreFrame u
      (let n := (u.mem.writes.filter (fun w => w.ch == c)).length
       let u := u.set (Reg.MEMCTL_CH_STATUS_WRITES c) (min n 64)
       if 48 ≤ n && !u.flag (Reg.MEMCTL_CH_STATUS_DRAIN c) then
         (u.setB (Reg.MEMCTL_CH_STATUS_DRAIN c) true).inc (Reg.MEMCTL_CH_DRAINS_COUNT c)
       else u) := fun u c hc => by
    have hw : (Reg.MEMCTL_CH_STATUS_WRITES c).ofMemory := by
      simp only [Fld.ofMemory, Reg.MEMCTL_CH_STATUS_WRITES]; omega
    have hd : (Reg.MEMCTL_CH_STATUS_DRAIN c).ofMemory := by
      simp only [Fld.ofMemory, Reg.MEMCTL_CH_STATUS_DRAIN]; omega
    have hn : (Reg.MEMCTL_CH_DRAINS_COUNT c).ofMemory := by
      simp only [Fld.ofMemory, Reg.MEMCTL_CH_DRAINS_COUNT]; omega
    dsimp only
    split
    · exact ((StoreFrame.set u hw _).trans (.set _ hd _)).trans (.set _ hn _)
    · exact .set u hw _
  exact List.foldlRecOn (motive := StoreFrame s) (List.range 8) _ (.refl s) fun u hu c hc =>
    hu.trans (hstep u c (List.mem_range.1 hc))

theorem StoreFrame.queueReqs (s : State) (ws : List WReq) : StoreFrame s (s.queueReqs ws) := by
  unfold State.queueReqs
  refine StoreFrame.trans ?_ (.showQueues _)
  exact .of_regs ⟨_, _, rfl, rfl⟩

theorem StoreFrame.writeMem (s : State) (mirror : Bool) (a : Nat) (bs : List Byte) :
    StoreFrame s (s.writeMem mirror a bs).1 := by
  have hpieces := StoreFrame.writePieces (piecesOf bs.length a bs) s
  unfold State.writeMem
  dsimp only
  generalize s.writePieces (piecesOf bs.length a bs) = r at hpieces ⊢
  exact hpieces.trans (.queueReqs r.1 _)

theorem StoreFrame.finishFill (s : State) (r : Nat) : StoreFrame s (s.finishFill r) := by
  unfold State.finishFill
  split
  · refine StoreFrame.trans ?_ (.foldl (fun u h => .storePiece u _) _ _)
    have hvalid : StoreFrame s (s.setValid r true) := .of_regs ⟨_, _, rfl, rfl⟩
    have hcount : StoreFrame s ((s.setValid r true).inc Reg.MEMCTL_FILLS_COUNT) := hvalid.trans (.set _ (by decide) _)
    exact hcount.trans (.of_regs ⟨_, _, rfl, rfl⟩)
  · exact .refl s

theorem StoreFrame.waitFills (s : State) (a n : Nat) : StoreFrame s (s.waitFills a n) := .foldl StoreFrame.finishFill _ s

theorem StoreFrame.writeAcked (s : State) (a : Nat) (bs : List Byte) : StoreFrame s (s.writeAcked a bs).1 := by
  have hpieces := StoreFrame.writePieces (piecesOf bs.length a bs) s
  unfold State.writeAcked
  dsimp only
  generalize s.writePieces (piecesOf bs.length a bs) = r at hpieces ⊢
  exact hpieces.trans (.waitFills r.1 _ _)

theorem StoreFrame.fills (h : StoreFrame s u) : u.mem.fills = s.mem.fills := by
  obtain ⟨_, _, _, _, rfl, hf⟩ := h.only
  exact hf

theorem StoreFrame.tabs (h : StoreFrame s u) : u.tab0 = s.tab0 ∧ u.tab1 = s.tab1 := by
  obtain ⟨_, _, _, _, rfl, _⟩ := h.only
  exact ⟨rfl, rfl⟩

theorem StoreFrame.line (h : StoreFrame s u) : u.line = s.line := by
  obtain ⟨_, _, _, _, rfl, _⟩ := h.only
  rfl

theorem StoreFrame.pack (h : StoreFrame s u) : u.pack = s.pack := by
  obtain ⟨_, _, _, _, rfl, _⟩ := h.only
  rfl

theorem StoreFrame.dma (h : StoreFrame s u) : u.dma = s.dma := by
  obtain ⟨_, _, _, _, rfl, _⟩ := h.only
  rfl

theorem StoreFrame.host (h : StoreFrame s u) : u.host = s.host := by
  obtain ⟨_, _, _, _, rfl, _⟩ := h.only
  rfl

theorem StoreFrame.clock (h : StoreFrame s u) : u.time = s.time ∧ u.free = s.free := by
  obtain ⟨_, _, _, _, rfl, _⟩ := h.only
  exact ⟨rfl, rfl⟩

end

/-! ### What an event tells -/

/-- The fields that an event reads. -/
def eventReads : List Fld := [Reg.HIER_ID, Reg.TIME_STATUS_UNSYNC, Reg.LOG_CTRL_GROUP_MASK, Reg.LOG_CTRL_FULL_MARK,
  Reg.CMD_EVT_CTRL_ROUTE, Reg.CMD_EVT_CTRL_GROUP_MASK]

theorem offMemory_eventReads : ∀ q ∈ eventReads, q.offMemory := by decide

/-- Two states in which an event reads alike: the interpreter, the clock, the next free value and the fields that it
reads. -/
structure EventInputs (s u : State) : Prop where
  host : u.host = s.host
  time : u.time = s.time
  free : u.free = s.free
  get : ∀ q ∈ eventReads, u.get q = s.get q

section
variable {s u : State}

theorem EventInputs.trans {v : State} (h : EventInputs s u) (k : EventInputs u v) : EventInputs s v :=
  ⟨k.host.trans h.host, k.time.trans h.time, k.free.trans h.free, fun q hq => (k.get q hq).trans (h.get q hq)⟩

theorem EventInputs.withHost (h : EventInputs s u) (k : HostIf) : EventInputs { s with host := k } { u with host := k } :=
  ⟨rfl, h.time, h.free, h.get⟩

/-- One of the two fields that an event may change counts on. -/
theorem EventInputs.incSat (h : EventInputs s u) {f : Fld} (hf : f.key ∈ eventFields) (n : Nat) :
    EventInputs (s.incSat f n) (u.incSat f n) := by
  have hne : ∀ q ∈ eventReads, ∀ k ∈ eventFields, q.key ≠ k := by decide
  refine ⟨h.host, h.time, h.free, fun q hq => ?_⟩
  exact (State.get_set_other u (hne q hq _ hf) _).trans ((h.get q hq).trans (State.get_set_other s (hne q hq _ hf) _).symm)

theorem EventInputs.discardEvt (h : EventInputs s u) : EventInputs s.discardEvt u.discardEvt := by
  have hc := h.incSat (f := Reg.CMD_ERR_COUNT_EVT_LOST) (by decide) 1
  have hw := hc.withHost { (s.incSat Reg.CMD_ERR_COUNT_EVT_LOST 1).host with lostPending := true }
  refine ⟨?_, hw.time, hw.free, hw.get⟩
  show { (u.incSat Reg.CMD_ERR_COUNT_EVT_LOST 1).host with lostPending := true } = _
  rw [hc.host]
  rfl

theorem EventInputs.pushEvt (h : EventInputs s u) (e : Evt) : EventInputs (s.pushEvt e) (u.pushEvt e) := by
  refine ⟨?_, h.time, h.free, h.get⟩
  simp only [State.pushEvt, h.host, h.get Reg.CMD_EVT_CTRL_ROUTE (by decide)]

theorem EventInputs.queueEvt (h : EventInputs s u) (e : Evt) : EventInputs (s.queueEvt e) (u.queueEvt e) := by
  have hq : u.queued = s.queued := by simp [State.queued, h.host]
  unfold State.queueEvt
  rw [hq, h.get Reg.CMD_EVT_CTRL_GROUP_MASK (by decide), h.host]
  dsimp only
  split_ifs
  · exact h.pushEvt e
  · exact h.discardEvt
  · exact (h.withHost _).discardEvt.pushEvt e
  · exact h
  · exact h.discardEvt
  · exact h.pushEvt e

theorem EventInputs.logEvt (h : EventInputs s u) (e : Evt) : EventInputs (s.logEvt e) (u.logEvt e) := by
  unfold State.logEvt
  rw [h.get Reg.LOG_CTRL_GROUP_MASK (by decide), h.host]
  split_ifs
  · exact h
  · exact h.incSat (by decide) 1
  · exact h.withHost _
  · exact h

theorem EventInputs.raise1 (h : EventInputs s u) (c n : Nat) (a : List Byte) :
    EventInputs (s.raise1 c n a) (u.raise1 c n a) := by
  have he : u.mkEvt c n a = s.mkEvt c n a := by
    simp only [State.mkEvt, State.stamp, State.tbNs, State.fresh, State.flag, h.host, h.time, h.free,
      h.get Reg.HIER_ID (by decide), h.get Reg.TIME_STATUS_UNSYNC (by decide)]
  have hused : EventInputs s.used u.used := ⟨h.host, h.time, congrArg (· + 1) h.free, h.get⟩
  unfold State.raise1
  rw [he, h.host]
  exact ((hused.withHost _).logEvt _).queueEvt _

/-- An event leaves the interpreter alike where it reads alike. -/
theorem EventInputs.raise (h : EventInputs s u) (c n : Nat) (a : List Byte) : EventInputs (s.raise c n a) (u.raise c n a) := by
  have h1 := h.raise1 c n a
  have hmark : (u.raise1 c n a).fullMark = (s.raise1 c n a).fullMark := by
    unfold State.fullMark
    rw [h1.get Reg.LOG_CTRL_FULL_MARK (by decide)]
  unfold State.raise
  dsimp only
  rw [hmark, h1.host]
  split_ifs
  · exact (h1.withHost _).raise1 _ _ _
  · exact h1

theorem EventInputs.cmdDone (h : EventInputs s u) (op tag st : Nat) (i : Iface) (r : Nat) :
    EventInputs (s.cmdDone op tag st i r) (u.cmdDone op tag st i r) := h.raise ..

theorem StoreFrame.eventInputs (h : StoreFrame s u) : EventInputs s u :=
  ⟨h.host, h.clock.1, h.clock.2, fun q hq => h.get q (offMemory_eventReads q hq)⟩

end

end Sys2Proof.Machine
end

section
/-! SUPPORT. Writes of whole blocks, byte by byte: a block that a zero fill holds back comes to stand in DRAM at the end of
that fill (R262, R269). -/

namespace Sys2Proof.Machine

/-- A write held back for a zero fill, as a piece. -/
abbrev HeldWrite.piece (h : HeldWrite) : Nat × List Byte := (h.addr, h.data)

/-- A piece has a byte for an address. -/
def covers (p : Nat × List Byte) (x : Nat) : Prop := p.1 ≤ x ∧ x < p.1 + p.2.length

/-- If a piece has a byte for the address, it is `b`. -/
def gives (p : Nat × List Byte) (x : Nat) (b : Byte) : Prop := covers p x → p.2.getD (x - p.1) 0 = b

/-- DRAM holds a byte that every read returns. -/
structure State.shows (s : State) (x : Nat) (b : Byte) : Prop where
  valid : s.validRegion (x / regionBytes) = true
  defined : s.definedByte x = true
  holds : Sparse.get 0 s.dram x = b

/-- A write to a region takes effect at once. -/
def State.stores (s : State) (r : Nat) : Prop := s.initRegion r = true ∨ s.validRegion r = true

section
variable {s u : State} {p : Nat × List Byte} {x : Nat} {b : Byte}

theorem State.shows.byteAt (h : s.shows x b) : s.byteAt x = b := by
  rw [State.byteAt, State.shownByte, h.valid, h.defined, h.holds]; rfl

theorem State.shows.congr (h : s.shows x b) (hd : u.dram = s.dram) (hv : u.mem.valid = s.mem.valid)
    (hu : u.mem.undef = s.mem.undef) : u.shows x b := by
  obtain ⟨hvalid, hdefined, hholds⟩ := h
  refine ⟨?_, ?_, hd ▸ hholds⟩
  · rwa [State.validRegion, hv]
  · rwa [State.definedByte, hu]

theorem ReadFrame.shows (h : ReadFrame s u) (hs : s.shows x b) : u.shows x b := by
  obtain ⟨hd, hv, hu⟩ := h.data
  exact hs.congr hd hv hu

/-! ### One block -/

theorem wholeBlock_iff : wholeBlock p = true ↔ p.1 % 64 = 0 ∧ p.2.length = 64 := by simp [wholeBlock]

/-- A block lies in one region. -/
theorem covers.region (hx : covers p x) (hw : wholeBlock p = true) : p.1 / regionBytes = x / regionBytes := by
  obtain ⟨h1, h2⟩ := wholeBlock_iff.1 hw
  obtain ⟨hx1, hx2⟩ := hx
  simp only [regionBytes]; omega

/-- A block that is stored: its bytes are in DRAM and defined, and its region is valid; no region becomes invalid. -/
structure Stored (p : Nat × List Byte) (s u : State) : Prop where
  dram : u.dram = Sparse.putRange (fun _ => 0) s.dram p.1 p.2
  valid : ∀ r, s.validRegion r = true → u.validRegion r = true
  only : ∀ r, u.validRegion r = true → s.stores r
  own : s.stores (p.1 / regionBytes) → u.validRegion (p.1 / regionBytes) = true
  defined : ∀ x, u.definedByte x = (decide (p.1 ≤ x ∧ x < p.1 + p.2.length) || s.definedByte x)
  filling : u.mem.filling = s.mem.filling
  held : u.mem.held = s.mem.held
  init : ∀ r, u.initRegion r = s.initRegion r

theorem State.validRegion_setValid_same (s : State) (r : Nat) (v : Bool) : (s.setValid r v).validRegion r = v :=
  Sparse.get_put_same false s.mem.valid r v

theorem State.validRegion_setValid_other (s : State) {r q : Nat} (h : q ≠ r) (v : Bool) :
    (s.setValid r v).validRegion q = s.validRegion q := Sparse.get_put_other false false s.mem.valid h v

theorem State.validRegion_congr (h : u.mem.valid = s.mem.valid) (r : Nat) : u.validRegion r = s.validRegion r := by
  rw [State.validRegion, h]; rfl

theorem State.storePiece_whole (hw : wholeBlock p = true) : Stored p s (s.storePiece p) := by
  have hparts : ∀ v : State, v.regs = s.regs → v.dram = s.dram → v.mem.undef = s.mem.undef → v.mem.filling = s.mem.filling →
      v.mem.held = s.mem.held → (∀ r, s.validRegion r = true → v.validRegion r = true) →
      (∀ r, v.validRegion r = true → s.stores r) → (s.stores (p.1 / regionBytes) → v.validRegion (p.1 / regionBytes) = true) →
      Stored p s (((v.cleanBlock p.1).define p.1 p.2.length).putBytes p.1 p.2) := by
    intro v hregs hdram hundef hfilling hheld hvalid honly hown
    have hsame := State.validRegion_congr
      (u := ((v.cleanBlock p.1).define p.1 p.2.length).putBytes p.1 p.2) (s := v) rfl
    refine ⟨congrArg (Sparse.putRange _ · p.1 p.2) hdram, fun r h => (hsame r).trans (hvalid r h),
      fun r h => honly r ((hsame r).symm.trans h), fun h => (hsame _).trans (hown h), fun x => ?_, hfilling, hheld,
      State.initRegion_congr fun _ _ _ _ => by rw [State.get, State.get, ← hregs]; rfl⟩
    have hdefined : v.definedByte x = s.definedByte x := by rw [State.definedByte, hundef]; rfl
    exact hdefined ▸ State.definedByte_define v p.1 p.2.length x
  unfold State.storePiece
  dsimp only
  rw [if_pos hw]
  cases hi : s.initRegion (p.1 / regionBytes)
  · rw [if_neg (by simp)]
    exact hparts s rfl rfl rfl rfl rfl (fun _ h => h) (fun _ h => .inr h) fun h => h.resolve_left (by simp [hi])
  · rw [if_pos rfl]
    refine hparts _ rfl rfl rfl rfl rfl (fun r h => ?_) (fun r h => ?_) fun _ => State.validRegion_setValid_same s _ true
    · by_cases hr : r = p.1 / regionBytes
      · exact hr ▸ State.validRegion_setValid_same s _ true
      · exact (State.validRegion_setValid_other s hr true).trans h
    · by_cases hr : r = p.1 / regionBytes
      · exact .inl (hr ▸ hi)
      · exact .inr ((State.validRegion_setValid_other s hr true).symm.trans h)

theorem Stored.get_covered (h : Stored p s u) (hx : covers p x) : Sparse.get 0 u.dram x = p.2.getD (x - p.1) 0 := by
  obtain ⟨h1, h2⟩ := hx
  have hget : p.2[x - p.1]? = some (p.2.getD (x - p.1) 0) := by
    rw [List.getD_eq_getElem?_getD, List.getElem?_eq_getElem (by omega)]
    rfl
  have hput := Sparse.get_putRange_same (fun _ => (0 : Byte)) s.dram p.1 hget
  rwa [Nat.add_sub_cancel' h1, ← h.dram] at hput

theorem Stored.get_other (h : Stored p s u) (hx : ¬covers p x) : Sparse.get 0 u.dram x = Sparse.get 0 s.dram x := by
  rw [h.dram]
  refine Sparse.get_putRange_other (fun _ => (0 : Byte)) s.dram p.1 p.2 ?_
  simp only [covers] at hx; omega

/-- A stored block that carries the byte leaves it. -/
theorem Stored.shows (h : Stored p s u) (hc : gives p x b) (hs : s.shows x b) : u.shows x b := by
  refine ⟨h.valid _ hs.valid, ?_, ?_⟩
  · rw [h.defined, hs.defined, Bool.or_true]
  · by_cases hx : covers p x
    · exact (h.get_covered hx).trans (hc hx)
    · exact (h.get_other hx).trans hs.holds

/-- A stored block shows its bytes. -/
theorem Stored.shows_own (h : Stored p s u) (hw : wholeBlock p = true) (hx : covers p x) (hc : gives p x b)
    (hr : s.stores (x / regionBytes)) : u.shows x b := by
  have hregion := hx.region hw
  refine ⟨hregion ▸ h.own (hregion ▸ hr), ?_, (h.get_covered hx).trans (hc hx)⟩
  rw [h.defined, Bool.or_eq_true]
  exact .inl (decide_eq_true hx)

/-! ### A block that is written, or held back -/

/-- A block in a region that needs no zero fill is stored. -/
theorem State.writePiece_stores (hw : wholeBlock p = true) (hr : s.stores (p.1 / regionBytes)) :
    s.writePiece p = (s.storePiece p, false) := by
  unfold State.writePiece
  dsimp only
  by_cases hi : s.initRegion (p.1 / regionBytes) = true
  · rw [if_pos hi]
  · rw [if_neg hi, if_pos (hr.resolve_left hi), if_pos hw]

/-- In another region it is held back, and the zero fill starts (R269). -/
theorem State.writePiece_held (hr : ¬s.stores (p.1 / regionBytes)) :
    (s.writePiece p).1 = { s.startFill (p.1 / regionBytes) with mem := { (s.startFill (p.1 / regionBytes)).mem with
      held := s.mem.held ++ [⟨p.1, p.2⟩] } } ∧ (s.writePiece p).2 = false := by
  obtain ⟨hi, hv⟩ := not_or.1 hr
  unfold State.writePiece
  dsimp only
  rw [if_neg hi, if_neg hv]
  unfold State.startFill
  split
  · exact ⟨rfl, rfl⟩
  · exact ⟨rfl, rfl⟩

theorem State.mem_startFill {r q : Nat} : q ∈ (s.startFill r).mem.filling ↔ q ∈ s.mem.filling ∨ q = r := by
  unfold State.startFill
  split
  case isTrue h => exact ⟨.inl, fun hq => hq.elim id fun e => e ▸ h⟩
  case isFalse h => simp

/-- A zero fill starts and changes nothing else. -/
theorem State.startFill_keeps (s : State) (r : Nat) : ∃ l, s.startFill r = { s with mem := { s.mem with filling := l } } := by
  unfold State.startFill
  split
  · exact ⟨_, rfl⟩
  · exact ⟨_, rfl⟩

/-- Blocks held back have one value for the address, and a region that is being filled takes no write at once. -/
structure State.Holding (s : State) (x : Nat) (b : Byte) : Prop where
  whole : ∀ h ∈ s.mem.held, wholeBlock h.piece = true
  carries : ∀ h ∈ s.mem.held, gives h.piece x b
  filling : x / regionBytes ∈ s.mem.filling → ¬s.stores (x / regionBytes)

/-- The byte stands in DRAM, or its region is being filled with zeros and a block that is held back has it. -/
def State.due (s : State) (x : Nat) (b : Byte) : Prop :=
  (s.shows x b ∧ x / regionBytes ∉ s.mem.filling) ∨
    (x / regionBytes ∈ s.mem.filling ∧ ∃ h ∈ s.mem.held, covers h.piece x)

/-- The byte of DRAM is `b`, no zero fill will reach it, and no block that is held back covers it. -/
structure State.apart (s : State) (x : Nat) (b : Byte) : Prop where
  holds : Sparse.get 0 s.dram x = b
  filling : x / regionBytes ∉ s.mem.filling
  whole : ∀ h ∈ s.mem.held, wholeBlock h.piece = true
  held : ∀ h ∈ s.mem.held, ¬covers h.piece x

/-- What a block written in a region that does not store at once leaves. -/
structure HeldBack (p : Nat × List Byte) (s u : State) : Prop where
  dram : u.dram = s.dram
  valid : u.mem.valid = s.mem.valid
  undef : u.mem.undef = s.mem.undef
  init : ∀ r, u.initRegion r = s.initRegion r
  filling : ∀ q, q ∈ u.mem.filling ↔ q ∈ s.mem.filling ∨ q = p.1 / regionBytes
  held : u.mem.held = s.mem.held ++ [⟨p.1, p.2⟩]

theorem State.writePiece_heldBack (hr : ¬s.stores (p.1 / regionBytes)) : HeldBack p s (s.writePiece p).1 := by
  obtain ⟨hmem, -⟩ := State.writePiece_held hr
  have hfilling := fun q => State.mem_startFill (s := s) (r := p.1 / regionBytes) (q := q)
  obtain ⟨l, hl⟩ := State.startFill_keeps s (p.1 / regionBytes)
  rw [hmem]
  rw [hl] at hfilling ⊢
  exact ⟨rfl, rfl, rfl, fun _ => rfl, hfilling, rfl⟩

/-! ### A written block, byte by byte -/

theorem State.stores_congr (hi : ∀ r, u.initRegion r = s.initRegion r) (hv : ∀ r, s.validRegion r = true → u.validRegion r = true)
    {r : Nat} (h : s.stores r) : u.stores r := h.imp (hi r).trans (hv r)

/-- A written block leaves every region that takes writes at once so. -/
theorem State.stores_writePiece (hw : wholeBlock p = true) {r : Nat} (h : s.stores r) : (s.writePiece p).1.stores r := by
  by_cases hr : s.stores (p.1 / regionBytes)
  · have hstored := State.storePiece_whole (s := s) hw
    rw [State.writePiece_stores hw hr]
    exact State.stores_congr hstored.init hstored.valid h
  · have hback := State.writePiece_heldBack hr
    refine State.stores_congr hback.init (fun q hq => ?_) h
    rwa [State.validRegion, hback.valid]

theorem Stored.holding (h : Stored p s u) (hs : s.Holding x b) : u.Holding x b := by
  refine ⟨h.held ▸ hs.whole, h.held ▸ hs.carries, fun hx hstores => hs.filling (h.filling ▸ hx) ?_⟩
  exact hstores.elim (fun hi => .inl ((h.init _).symm.trans hi)) (h.only _)

theorem HeldBack.stores (h : HeldBack p s u) {r : Nat} : u.stores r ↔ s.stores r := by
  simp [State.stores, State.validRegion, h.valid, h.init]

theorem HeldBack.forall_held (h : HeldBack p s u) {P : Nat × List Byte → Prop} :
    (∀ w ∈ u.mem.held, P w.piece) ↔ (∀ w ∈ s.mem.held, P w.piece) ∧ P p := by
  simp [h.held, or_imp, forall_and]

theorem HeldBack.holding (h : HeldBack p s u) (hr : ¬s.stores (p.1 / regionBytes)) (hw : wholeBlock p = true)
    (hc : gives p x b) (hs : s.Holding x b) : u.Holding x b := by
  refine ⟨(h.forall_held (P := (wholeBlock · = true))).2 ⟨hs.whole, hw⟩,
    (h.forall_held (P := (gives · x b))).2 ⟨hs.carries, hc⟩, fun hx => mt h.stores.1 ?_⟩
  rcases (h.filling _).1 hx with hx | hx
  · exact hs.filling hx
  · exact hx ▸ hr

theorem State.Holding.write (hs : s.Holding x b) (hw : wholeBlock p = true) (hc : gives p x b) :
    (s.writePiece p).1.Holding x b := by
  by_cases hr : s.stores (p.1 / regionBytes)
  · rw [State.writePiece_stores hw hr]
    exact (State.storePiece_whole hw).holding hs
  · exact (State.writePiece_heldBack hr).holding hr hw hc hs

/-- A byte that is due stays due, and a written block makes its bytes due. -/
theorem State.due.write (hd : s.due x b ∨ covers p x) (hs : s.Holding x b) (hw : wholeBlock p = true)
    (hc : gives p x b) : (s.writePiece p).1.due x b := by
  by_cases hr : s.stores (p.1 / regionBytes)
  · have hstored := State.storePiece_whole (s := s) hw
    rw [State.writePiece_stores hw hr, State.due, hstored.filling, hstored.held]
    rcases hd with (⟨hshows, hx⟩ | hd) | hx
    · exact .inl ⟨hstored.shows hc hshows, hx⟩
    · exact .inr hd
    · have hregion := hx.region hw
      exact .inl ⟨hstored.shows_own hw hx hc (hregion ▸ hr), fun hf => hs.filling hf (hregion ▸ hr)⟩
  · have hback := State.writePiece_heldBack hr
    rw [State.due, hback.filling, hback.held]
    rcases hd with (⟨hshows, hx⟩ | ⟨hx, w, hin, hcov⟩) | hx
    · have hne : x / regionBytes ≠ p.1 / regionBytes := fun e => hr (e ▸ .inr hshows.valid)
      exact .inl ⟨hshows.congr hback.dram hback.valid hback.undef, not_or.2 ⟨hx, hne⟩⟩
    · exact .inr ⟨.inl hx, w, List.mem_append_left _ hin, hcov⟩
    · exact .inr ⟨.inr (hx.region hw).symm, _, List.mem_append_right _ (List.mem_singleton_self _), hx⟩

/-- A block elsewhere leaves a byte apart, unless it starts a zero fill of its region. -/
theorem State.apart.write (hs : s.apart x b) (hw : wholeBlock p = true) (hx : ¬covers p x)
    (hr : p.1 / regionBytes = x / regionBytes → s.stores (x / regionBytes)) : (s.writePiece p).1.apart x b := by
  by_cases hown : s.stores (p.1 / regionBytes)
  · have hstored := State.storePiece_whole (s := s) hw
    rw [State.writePiece_stores hw hown]
    exact ⟨(hstored.get_other hx).trans hs.holds, hstored.filling ▸ hs.filling, hstored.held ▸ hs.whole,
      hstored.held ▸ hs.held⟩
  · have hback := State.writePiece_heldBack hown
    refine ⟨hback.dram ▸ hs.holds, fun hf => ?_, (hback.forall_held (P := (wholeBlock · = true))).2 ⟨hs.whole, hw⟩,
      (hback.forall_held (P := (¬covers · x))).2 ⟨hs.held, hx⟩⟩
    rcases (hback.filling _).1 hf with hf | hf
    · exact hs.filling hf
    · exact hown (hf ▸ hr hf.symm)

/-! ### All blocks of a write -/

/-- After the blocks of a write, a byte that one of them has, or that was due, is due. -/
theorem State.due.writePieces {ps : List (Nat × List Byte)} (hw : ∀ p ∈ ps, wholeBlock p = true)
    (hc : ∀ p ∈ ps, gives p x b) (hs : s.Holding x b) (hd : s.due x b ∨ ∃ p ∈ ps, covers p x) :
    (s.writePieces ps).1.Holding x b ∧ (s.writePieces ps).1.due x b := by
  induction ps generalizing s with
  | nil => exact ⟨hs, hd.resolve_right (by simp)⟩
  | cons p ps ih =>
    rw [List.forall_mem_cons] at hw hc
    have hnext := hs.write hw.1 hc.1
    refine ih (s := (s.writePiece p).1) hw.2 hc.2 hnext ?_
    rw [List.exists_mem_cons_iff, ← or_assoc] at hd
    exact hd.imp_left fun h => State.due.write h hs hw.1 hc.1

/-- After the blocks of a write elsewhere, a byte is as it was, unless a zero fill has started in its region. -/
theorem State.apart.writePieces {ps : List (Nat × List Byte)} (hw : ∀ p ∈ ps, wholeBlock p = true)
    (hx : ∀ p ∈ ps, ¬covers p x) (hr : ∀ p ∈ ps, p.1 / regionBytes = x / regionBytes → s.stores (x / regionBytes))
    (hs : s.apart x b) : (s.writePieces ps).1.apart x b := by
  induction ps generalizing s with
  | nil => exact hs
  | cons p ps ih =>
    rw [List.forall_mem_cons] at hw hx hr
    exact ih (s := (s.writePiece p).1) hw.2 hx.2 (fun q hq he => State.stores_writePiece hw.1 (hr.2 q hq he)) (hs.write hw.1 hx.1 hr.1)

/-- The zero fills that a write starts are those of its regions. -/
theorem State.filling_writePieces {ps : List (Nat × List Byte)} (hw : ∀ p ∈ ps, wholeBlock p = true) {r : Nat}
    (hr : r ∈ (s.writePieces ps).1.mem.filling) : r ∈ s.mem.filling ∨ ∃ p ∈ ps, r = p.1 / regionBytes := by
  induction ps generalizing s with
  | nil => exact .inl hr
  | cons p ps ih =>
    rw [List.forall_mem_cons] at hw
    rw [List.exists_mem_cons_iff, ← or_assoc]
    refine (ih (s := (s.writePiece p).1) hw.2 hr).imp_left fun hr => ?_
    by_cases hown : s.stores (p.1 / regionBytes)
    · rw [State.writePiece_stores hw.1 hown, (State.storePiece_whole hw.1).filling] at hr
      exact .inl hr
    · exact ((State.writePiece_heldBack hown).filling _).1 hr

/-- The blocks held back after a write were held back before it, or are its own. -/
theorem State.held_writePieces {ps : List (Nat × List Byte)} (hw : ∀ p ∈ ps, wholeBlock p = true) {h : HeldWrite}
    (hh : h ∈ (s.writePieces ps).1.mem.held) : h ∈ s.mem.held ∨ h.piece ∈ ps := by
  induction ps generalizing s with
  | nil => exact .inl hh
  | cons p ps ih =>
    rw [List.forall_mem_cons] at hw
    rw [List.mem_cons, ← or_assoc]
    refine (ih (s := (s.writePiece p).1) hw.2 hh).imp_left fun hh => ?_
    by_cases hown : s.stores (p.1 / regionBytes)
    · rw [State.writePiece_stores hw.1 hown, (State.storePiece_whole hw.1).held] at hh
      exact .inl hh
    · rw [(State.writePiece_heldBack hown).held, List.mem_append, List.mem_singleton] at hh
      exact hh.imp_right fun e => by rw [e]

/-! ### The end of a zero fill -/

/-- A region is all zeros, and the writes to it are no longer held back. -/
def State.zeroed (s : State) (r : Nat) : State :=
  { s.zeroFill r with mem := { (s.zeroFill r).mem with held := s.mem.held.filter (fun h => h.addr / regionBytes != r) } }

theorem State.finishFill_eq {r : Nat} (hr : r ∈ s.mem.filling) : s.finishFill r =
    (s.mem.held.filter (fun h => h.addr / regionBytes == r)).foldl (fun s h => s.storePiece h.piece) (s.zeroed r) :=
  if_pos hr

/-- Stored blocks, one after another. -/
theorem Stored.foldl {l : List HeldWrite} (hw : ∀ h ∈ l, wholeBlock h.piece = true) (s : State) :
    let u := l.foldl (fun s h => s.storePiece h.piece) s
    u.mem.filling = s.mem.filling ∧ u.mem.held = s.mem.held ∧
      (∀ x b, (∀ h ∈ l, gives h.piece x b) → s.shows x b → u.shows x b) ∧
      (∀ x b, (∀ h ∈ l, gives h.piece x b) → s.stores (x / regionBytes) → (∃ h ∈ l, covers h.piece x) → u.shows x b) ∧
      (∀ x, (∀ h ∈ l, ¬covers h.piece x) → Sparse.get 0 u.dram x = Sparse.get 0 s.dram x) := by
  induction l generalizing s with
  | nil => exact ⟨rfl, rfl, fun _ _ _ h => h, fun _ _ _ _ h => by simp at h, fun _ _ => rfl⟩
  | cons w l ih =>
    rw [List.forall_mem_cons] at hw
    have hstored := State.storePiece_whole (s := s) hw.1
    obtain ⟨hfilling, hheld, hshows, hown, hother⟩ := ih hw.2 (s.storePiece w.piece)
    refine ⟨hfilling.trans hstored.filling, hheld.trans hstored.held, fun x b hc h => ?_, fun x b hc hr h => ?_, fun x hx => ?_⟩
    · rw [List.forall_mem_cons] at hc
      exact hshows x b hc.2 (hstored.shows hc.1 h)
    · rw [List.forall_mem_cons] at hc
      rcases (List.exists_mem_cons_iff _ _ _).1 h with h | h
      · exact hshows x b hc.2 (hstored.shows_own hw.1 h hc.1 hr)
      · exact hown x b hc.2 (State.stores_congr hstored.init hstored.valid hr) h
    · rw [List.forall_mem_cons] at hx
      exact (hother x hx.2).trans (hstored.get_other hx.1)

theorem State.zeroed_valid (s : State) (r : Nat) : (s.zeroed r).mem.valid = Sparse.put false s.mem.valid r true := by
  simp [State.zeroed, State.zeroFill, State.setValid]

theorem State.zeroed_valid_same (s : State) (r : Nat) : (s.zeroed r).validRegion r = true :=
  (State.validRegion_congr (s := s.setValid r true) (s.zeroed_valid r) r).trans (State.validRegion_setValid_same s r true)

/-- A region that becomes zero leaves the bytes of the others. -/
theorem State.zeroed_other {r : Nat} (hr : x / regionBytes ≠ r) :
    Sparse.get 0 (s.zeroed r).dram x = Sparse.get 0 s.dram x ∧ (s.shows x b → (s.zeroed r).shows x b) := by
  have hout : x < r * regionBytes ∨ r * regionBytes + regionBytes ≤ x := by
    simp only [regionBytes] at hr ⊢; omega
  have hdram : Sparse.get 0 (s.zeroed r).dram x = Sparse.get 0 s.dram x := Sparse.get_dropRange_other hout
  have hundef : (s.zeroed r).mem.undef = cutRanges (r * regionBytes) (r * regionBytes + regionBytes) s.mem.undef := by
    simp [State.zeroed, State.zeroFill, State.setValid]
  refine ⟨hdram, fun h => ⟨?_, ?_, hdram.trans h.holds⟩⟩
  · rw [State.validRegion_congr (s := s.setValid r true) (s.zeroed_valid r), State.validRegion_setValid_other s hr]
    exact h.valid
  · have hdefined : s.mem.undef.all (fun r => decide (x < r.1 ∨ r.2 ≤ x)) = true := h.defined
    rw [State.definedByte, hundef, all_cutRanges, hdefined, Bool.or_true]

theorem State.finishFill_filling (s : State) (hs : ∀ h ∈ s.mem.held, wholeBlock h.piece = true) (r : Nat) :
    (s.finishFill r).mem.filling = s.mem.filling.filter (· != r) ∧
      ∀ h ∈ (s.finishFill r).mem.held, h ∈ s.mem.held := by
  by_cases hr : r ∈ s.mem.filling
  · rw [State.finishFill_eq hr]
    obtain ⟨hfilling, hheld, -⟩ := Stored.foldl (fun h hh => hs h (List.mem_filter.1 hh).1) (s.zeroed r)
    refine ⟨hfilling, fun h hh => ?_⟩
    rw [hheld] at hh
    exact (List.mem_filter.1 hh).1
  · unfold State.finishFill
    rw [if_neg hr]
    refine ⟨(List.filter_eq_self.2 fun q hq => ?_).symm, fun _ h => h⟩
    simpa using fun e : q = r => hr (e ▸ hq)

/-- A byte that is due stands in DRAM once the zero fill of its region has ended. -/
theorem State.due.finishFill (hd : s.due x b) (hw : ∀ h ∈ s.mem.held, wholeBlock h.piece = true)
    (hc : ∀ h ∈ s.mem.held, gives h.piece x b) (r : Nat) : (s.finishFill r).due x b := by
  by_cases hr : r ∈ s.mem.filling
  · obtain ⟨hfilling, -⟩ := State.finishFill_filling s hw r
    have hin : ∀ h ∈ s.mem.held.filter (fun h => h.addr / regionBytes == r), h ∈ s.mem.held := fun h hh =>
      (List.mem_filter.1 hh).1
    obtain ⟨-, hheld, hshows, hown, -⟩ := Stored.foldl (fun h hh => hw h (hin h hh)) (s.zeroed r)
    have hgives : ∀ h ∈ s.mem.held.filter (fun h => h.addr / regionBytes == r), gives h.piece x b := fun h hh => hc h (hin h hh)
    unfold State.due
    rw [hfilling, State.finishFill_eq hr]
    rcases hd with ⟨hs, hx⟩ | ⟨hx, w, hin, hcov⟩
    · refine .inl ⟨hshows x b hgives ((State.zeroed_other fun e => hx (e ▸ hr)).2 hs), fun h => hx (List.mem_filter.1 h).1⟩
    · have hregion := hcov.region (hw w hin)
      by_cases he : x / regionBytes = r
      · refine .inl ⟨hown x b hgives (.inr (he ▸ State.zeroed_valid_same s _)) ⟨w, List.mem_filter.2 ⟨hin, ?_⟩, hcov⟩, ?_⟩
        · simpa using hregion.trans he
        · simp [he]
      · refine .inr ⟨List.mem_filter.2 ⟨hx, by simpa using he⟩, w, ?_, hcov⟩
        rw [hheld]
        exact List.mem_filter.2 ⟨hin, by simpa using fun e => he (hregion.symm.trans e)⟩
  · unfold State.finishFill
    rwa [if_neg hr]

theorem State.apart.finishFill (hs : s.apart x b) (r : Nat) : (s.finishFill r).apart x b := by
  obtain ⟨hfilling, hin⟩ := State.finishFill_filling s hs.whole r
  refine ⟨?_, fun hx => hs.filling ?_, fun h hh => hs.whole h (hin h hh), fun h hh => hs.held h (hin h hh)⟩
  · by_cases hr : r ∈ s.mem.filling
    · have hmine : ∀ h ∈ s.mem.held.filter (fun h => h.addr / regionBytes == r), h ∈ s.mem.held := fun h hh =>
        (List.mem_filter.1 hh).1
      obtain ⟨-, -, -, -, hother⟩ := Stored.foldl (fun h hh => hs.whole h (hmine h hh)) (s.zeroed r)
      rw [State.finishFill_eq hr, hother x fun h hh => hs.held h (hmine h hh)]
      exact ((State.zeroed_other (b := b) fun e => hs.filling (e ▸ hr)).1).trans hs.holds
    · unfold State.finishFill
      rw [if_neg hr]
      exact hs.holds
  · rw [hfilling] at hx
    exact (List.mem_filter.1 hx).1

end

end Sys2Proof.Machine
end

section
/-! SUPPORT. A write of whole blocks and the zero fills that it waits for: its bytes stand in DRAM, and every other byte stays
but those of a region that a fill has zeroed (R262, R269). -/

namespace Sys2Proof.Machine

/-! ### The blocks of a write -/

theorem wholeBlock_piecesOf : ∀ {n a : Nat} {bs : List Byte}, a % 64 = 0 → bs.length % 64 = 0 → ∀ p ∈ piecesOf n a bs,
    wholeBlock p = true
  | n + 1, a, bs, ha, hl, p, hp => by
    unfold piecesOf at hp
    split at hp
    case isTrue => cases hp
    case isFalse he =>
      have hpos : 0 < bs.length := List.length_pos_iff.2 fun e => he (by simp [e])
      rcases List.mem_cons.1 hp with rfl | hp
      · refine wholeBlock_iff.2 ⟨ha, ?_⟩
        rw [List.length_take]; omega
      · refine wholeBlock_piecesOf ?_ ?_ p hp
        · omega
        · rw [List.length_drop]; omega

/-- A piece has the bytes of the write. -/
theorem covers.piecesOf : ∀ {n a : Nat} {bs : List Byte} {p : Nat × List Byte} {x : Nat}, p ∈ piecesOf n a bs → covers p x →
    (a ≤ x ∧ x < a + bs.length) ∧ p.2.getD (x - p.1) 0 = bs.getD (x - a) 0
  | n + 1, a, bs, p, x, hp, ⟨h1, h2⟩ => by
    unfold Machine.piecesOf at hp
    split at hp
    case isTrue => cases hp
    case isFalse he =>
      rcases List.mem_cons.1 hp with rfl | hp
      · rw [List.length_take] at h2
        dsimp only at h1 h2 ⊢
        refine ⟨by omega, ?_⟩
        rw [List.getD_eq_getElem?_getD, List.getD_eq_getElem?_getD, List.getElem?_take_of_lt (by omega)]
      · obtain ⟨⟨h3, h4⟩, h5⟩ := covers.piecesOf hp ⟨h1, h2⟩
        rw [List.length_drop] at h4
        refine ⟨by omega, h5.trans ?_⟩
        rw [List.getD_eq_getElem?_getD, List.getD_eq_getElem?_getD, List.getElem?_drop]
        congr 2
        omega

/-- Every byte of a write lies in one of its pieces. -/
theorem exists_covers_piecesOf : ∀ {n a : Nat} {bs : List Byte} {x : Nat}, bs.length ≤ n → a ≤ x → x < a + bs.length →
    ∃ p ∈ piecesOf n a bs, covers p x
  | 0, a, bs, x, hn, h1, h2 => by omega
  | n + 1, a, bs, x, hn, h1, h2 => by
    have hne : ¬bs.isEmpty = true := fun he => by
      rw [List.isEmpty_iff.1 he, List.length_nil] at h2; omega
    unfold piecesOf
    rw [if_neg hne]
    by_cases hx : x < a + (64 - a % 64)
    · refine ⟨_, List.mem_cons_self .., h1, ?_⟩
      rw [List.length_take]; dsimp only; omega
    · obtain ⟨p, hp, hcov⟩ := exists_covers_piecesOf (n := n) (a := a + (64 - a % 64)) (bs := bs.drop (64 - a % 64)) (x := x)
        (by rw [List.length_drop]; omega) (by omega) (by rw [List.length_drop]; omega)
      exact ⟨p, List.mem_cons_of_mem _ hp, hcov⟩

section
variable {s u v : State} {x a n : Nat} {b : Byte} {bs : List Byte}

/-! ### Waiting for zero fills -/

/-- A list of zero fills ends: the blocks that they held back are stored. -/
theorem State.due.finishFills (l : List Nat) (hd : s.due x b) (hw : ∀ h ∈ s.mem.held, wholeBlock h.piece = true)
    (hc : ∀ h ∈ s.mem.held, gives h.piece x b) : (l.foldl State.finishFill s).due x b := by
  induction l generalizing s with
  | nil => exact hd
  | cons r l ih =>
    obtain ⟨-, hin⟩ := State.finishFill_filling s hw r
    exact ih (hd.finishFill hw hc r) (fun h hh => hw h (hin h hh)) fun h hh => hc h (hin h hh)

theorem State.apart.finishFills (l : List Nat) (hs : s.apart x b) : (l.foldl State.finishFill s).apart x b :=
  foldl_keeps (P := fun u : State => u.apart x b) (fun _ r hu => hu.finishFill r) l s hs

theorem State.filling_finishFills (l : List Nat) (hw : ∀ h ∈ s.mem.held, wholeBlock h.piece = true) :
    ∀ r ∈ (l.foldl State.finishFill s).mem.filling, r ∈ s.mem.filling ∧ r ∉ l := by
  induction l generalizing s with
  | nil => exact fun r hr => ⟨hr, List.not_mem_nil⟩
  | cons q l ih =>
    obtain ⟨hfilling, hin⟩ := State.finishFill_filling s hw q
    intro r hr
    obtain ⟨hr, hl⟩ := ih (fun h hh => hw h (hin h hh)) r hr
    rw [hfilling, List.mem_filter] at hr
    exact ⟨hr.1, by simpa using ⟨by simpa using hr.2, hl⟩⟩

/-- A region that has a byte of a range meets the range. -/
abbrev meetsRange (a n r : Nat) : Prop := r * regionBytes < a + n ∧ a < (r + 1) * regionBytes

theorem meetsRange_of_mem (h1 : a ≤ x) (h2 : x < a + n) : meetsRange a n (x / regionBytes) := by
  simp only [meetsRange, regionBytes]; omega

/-- Once the zero fills of a range have ended, none of its regions is being filled. -/
theorem State.filling_waitFills (hw : ∀ h ∈ s.mem.held, wholeBlock h.piece = true) :
    ∀ r ∈ (s.waitFills a n).mem.filling, r ∈ s.mem.filling ∧ ¬meetsRange a n r := by
  intro r hr
  obtain ⟨hr, hno⟩ := State.filling_finishFills _ hw r hr
  exact ⟨hr, fun h => hno (List.mem_filter.2 ⟨hr, decide_eq_true h⟩)⟩

theorem State.due.waitFills (hd : s.due x b) (hw : ∀ h ∈ s.mem.held, wholeBlock h.piece = true)
    (hc : ∀ h ∈ s.mem.held, gives h.piece x b) (hx : a ≤ x ∧ x < a + n) : (s.waitFills a n).shows x b := by
  rcases hd.finishFills _ hw hc with h | ⟨h, -⟩
  · exact h.1
  · exact absurd (meetsRange_of_mem hx.1 hx.2) (State.filling_waitFills hw _ h).2

/-! ### A write and its zero fills -/

/-- DRAM, the record of what is valid and defined of it, and the zero fills with what they hold back, are alike. -/
structure SameStore (s u : State) : Prop where
  dram : u.dram = s.dram
  valid : u.mem.valid = s.mem.valid
  undef : u.mem.undef = s.mem.undef
  filling : u.mem.filling = s.mem.filling
  held : u.mem.held = s.mem.held

theorem SameStore.due (h : SameStore s u) (hd : s.due x b) : u.due x b := by
  unfold State.due
  rw [h.filling, h.held]
  exact hd.imp_left fun hs => ⟨hs.1.congr h.dram h.valid h.undef, hs.2⟩

theorem SameStore.apart (h : SameStore s u) (hs : s.apart x b) : u.apart x b :=
  ⟨h.dram ▸ hs.holds, h.filling ▸ hs.filling, h.held ▸ hs.whole, h.held ▸ hs.held⟩

/-- What a write of whole blocks leaves once the zero fills of its regions have ended. -/
structure Written (a : Nat) (bs : List Byte) (s u : State) : Prop where
  shows : ∀ i < bs.length, u.shows (a + i) (bs.getD i 0)
  filling : u.mem.filling = []
  other : ∀ x, (x < a ∨ a + bs.length ≤ x) →
    (s.validRegion (x / regionBytes) = true ∨ ∀ i < bs.length, (a + i) / regionBytes ≠ x / regionBytes) →
    Sparse.get 0 u.dram x = Sparse.get 0 s.dram x

theorem State.written (hf : s.mem.filling = []) (hh : s.mem.held = []) (ha : a % 64 = 0) (hl : bs.length % 64 = 0)
    (hu : SameStore (s.writePieces (piecesOf bs.length a bs)).1 u) : Written a bs s (u.waitFills a bs.length) := by
  have hwhole := wholeBlock_piecesOf (n := bs.length) ha hl
  have hheld : ∀ h ∈ u.mem.held, h.piece ∈ piecesOf bs.length a bs := fun h hin =>
    (State.held_writePieces hwhole (hu.held ▸ hin)).resolve_left (by simp [hh])
  have hheldWhole : ∀ h ∈ u.mem.held, wholeBlock h.piece = true := fun h hin => hwhole _ (hheld h hin)
  refine ⟨fun i hi => ?_, List.eq_nil_iff_forall_not_mem.2 fun r hr => ?_, fun x hx hr => ?_⟩
  · have hgives : ∀ p ∈ piecesOf bs.length a bs, gives p (a + i) (bs.getD i 0) := fun p hp hcov => by
      rw [(covers.piecesOf hp hcov).2, Nat.add_sub_cancel_left]
    obtain ⟨-, hdue⟩ := State.due.writePieces (s := s) hwhole hgives ⟨by simp [hh], by simp [hh], by simp [hf]⟩
      (.inr (exists_covers_piecesOf le_rfl (by omega) (by omega)))
    exact (hu.due hdue).waitFills hheldWhole (fun h hin => hgives _ (hheld h hin)) ⟨by omega, by omega⟩
  · obtain ⟨hr, hno⟩ := State.filling_waitFills hheldWhole r hr
    obtain ⟨p, hp, rfl⟩ := (State.filling_writePieces hwhole (hu.filling ▸ hr)).resolve_left (by simp [hf])
    obtain ⟨h1, h2⟩ := mem_piecesOf hp
    exact hno (meetsRange_of_mem h1 h2)
  · have hapart : (s.writePieces (piecesOf bs.length a bs)).1.apart x (Sparse.get 0 s.dram x) := by
      refine State.apart.writePieces hwhole (fun p hp hcov => ?_) (fun p hp he => ?_) ⟨rfl, by simp [hf], by simp [hh], by simp [hh]⟩
      · have := (covers.piecesOf hp hcov).1
        omega
      · obtain ⟨h1, h2⟩ := mem_piecesOf hp
        refine .inr (hr.resolve_right fun hne => hne (p.1 - a) (by omega) ?_)
        rwa [Nat.add_sub_cancel' h1]
    exact ((hu.apart hapart).finishFills _).holds

end

end Sys2Proof.Machine
end

section
/-! SUPPORT. EVT_PACK_DONE: what the run of a packing or unpacking job leaves, and how the slot shows its end or stop. -/

namespace Sys2Proof.Machine

/-! ### The run of a job (R331, R332) -/

section
variable {s : State} {j : PackJob}

/-- A piece that is written, or that ends the job. -/
theorem StoreFrame.putPiece {bs : List Byte} {next : PackJob → PackJob} {k : State → PackJob → PackEnd}
    (hk : ∀ v i, StoreFrame v (k v i).s) : StoreFrame s (s.putPiece j bs next k).s := by
  have hwrite := StoreFrame.writeMem s s.mirrors (j.dst + j.used) bs
  unfold State.putPiece
  dsimp only
  split
  · exact .refl s
  · split
    · exact .refl s
    · generalize s.writeMem s.mirrors (j.dst + j.used) bs = r at hwrite ⊢
      exact hwrite.trans (hk r.1 _)

theorem StoreFrame.packRun : ∀ (n : Nat) (s : State) (j : PackJob), StoreFrame s (State.packRun n s j).s
  | 0, s, _ => .refl s
  | n + 1, s, j => by
    have ih := StoreFrame.packRun n
    unfold State.packRun
    dsimp only
    split
    · split
      · exact .refl s
      · exact .putPiece ih
    · split
      · split
        · exact ih s _
        · split_ifs
          · exact .refl s
          · exact .refl s
          · exact .putPiece ih
        · split_ifs
          · exact .refl s
          · exact .refl s
          · exact .putPiece ih
      · exact .putPiece fun v _ => .refl v

theorem StoreFrame.unpackRun : ∀ (n : Nat) (s : State) (j : PackJob), StoreFrame s (State.unpackRun n s j).s
  | 0, s, _ => .refl s
  | n + 1, s, j => by
    have ih := StoreFrame.unpackRun n
    have hneed : ∀ (m : Nat) (e : PackEnd), StoreFrame s e.s →
        StoreFrame s (if j.srcLen < j.pos + m then (⟨stBadStream, [], j, s⟩ : PackEnd) else
          if !(s.packBad j j.pos m).isEmpty then ⟨stMemUncorrectable, (s.packBad j j.pos m).take 1, j, s⟩ else e).s := by
      intro m e he
      split_ifs
      · exact .refl s
      · exact .refl s
      · exact he
    unfold State.unpackRun
    dsimp only
    split
    · refine hneed 16 _ ?_
      split
      · exact .refl s
      · exact ih s _
    · split
      · refine hneed 8 _ ?_
        split_ifs
        · exact .refl s
        · exact .refl s
        · exact .refl s
      · refine hneed 1 _ (hneed _ _ ?_)
        split
        · exact .refl s
        · exact .putPiece ih

/-- The run of a job, of either kind. -/
def State.packed (s : State) (j : PackJob) : PackEnd :=
  if j.unpack then State.unpackRun (j.srcLen + 3) s j else State.packRun (j.srcLen + 3) s j

theorem StoreFrame.packed (s : State) (j : PackJob) : StoreFrame s (s.packed j).s := by
  unfold State.packed
  split
  · exact .unpackRun _ s j
  · exact .packRun _ s j

end

/-! ### The end or the stop of a run (R51, R337) -/

section
variable {s : State} {j : PackJob} {k st : Nat}

/-- A slot whose registers show its job, after the job's run and before the event. -/
def State.packSettled (s : State) (k st : Nat) (j : PackJob) : State :=
  if st = stNoSpace then ((s.putPack k (some j)).set (Reg.PACK_SLOT_STATE k) 2).inc Reg.PACK_STOPS_COUNT
  else
    let s := ((s.putPack k none).set (Reg.PACK_SLOT_STATE k) 0).set (Reg.PACK_SLOT_LAST_STATUS k) st
    if st = stOk then s.inc Reg.PACK_JOBS_OK_COUNT
    else if st = stNotSmaller then s.incSat Reg.PACK_NOT_SMALLER_COUNT 1
    else if st = stBadStream ∨ st = stCheckFail then s.incSat Reg.PACK_STREAM_ERRORS_COUNT 1
    else s

theorem State.packEnds_eq (s : State) (k st : Nat) (j : PackJob) : s.packEnds k st j =
    ((s.showPack k j).packSettled k st j).raise evPackDone 0
      (leBytes 2 j.tag ++ leBytes 2 st ++ leBytes 4 j.consumed ++ leBytes 4 j.produced ++ leBytes 1 k) := rfl

/-- What a slot's registers hold of a job. -/
theorem State.showPack_frame (s : State) (k : Nat) (j : PackJob) :
    (s.showPack k j).pack = s.pack ∧ (s.showPack k j).dram = s.dram ∧
      (s.showPack k j).get (Reg.PACK_SLOT_CONSUMED k) = low 32 j.consumed ∧
      (s.showPack k j).get (Reg.PACK_SLOT_PRODUCED k) = low 32 j.produced := by
  have hcp : (Reg.PACK_SLOT_CONSUMED k).key ≠ (Reg.PACK_SLOT_PRODUCED k).key := by
    simp only [Fld.key, Reg.PACK_SLOT_CONSUMED, Reg.PACK_SLOT_PRODUCED]; omega
  have hco : (Reg.PACK_SLOT_CONSUMED k).key ≠ (Reg.PACK_SLOT_ORIG_LEN k).key := by
    simp only [Fld.key, Reg.PACK_SLOT_CONSUMED, Reg.PACK_SLOT_ORIG_LEN]; omega
  have hpo : (Reg.PACK_SLOT_PRODUCED k).key ≠ (Reg.PACK_SLOT_ORIG_LEN k).key := by
    simp only [Fld.key, Reg.PACK_SLOT_PRODUCED, Reg.PACK_SLOT_ORIG_LEN]; omega
  unfold State.showPack
  refine ⟨by simp, by simp, ?_, ?_⟩
  · rw [State.get_set_other _ hco, State.get_set_other _ hcp, State.get_set_same]
    rfl
  · rw [State.get_set_other _ hpo, State.get_set_same]
    rfl

theorem State.packSlot_putPack (hk : k < s.pack.slots.length) (x : Option PackJob) : (s.putPack k x).packSlot k = x :=
  modAt_getD_same (fun _ => x) none k s.pack.slots hk

@[simp] theorem State.putPack_dram (s : State) (k : Nat) (x : Option PackJob) : (s.putPack k x).dram = s.dram := rfl
@[simp] theorem State.putPack_get (s : State) (k : Nat) (x : Option PackJob) (q : Fld) : (s.putPack k x).get q = s.get q := rfl
theorem State.packSlot_set (s : State) (f : Fld) (v k : Nat) : (s.set f v).packSlot k = s.packSlot k := rfl

/-- A field of a slot's words. -/
abbrev Fld.ofSlot (f : Fld) : Prop := f.lo < 32 ∧ f.addr < 0xB0400

/-- A counter of the block counts: slots, their words and DRAM stay. -/
theorem State.packCount (s : State) (k : Nat) {f : Fld} (hlo : f.lo < 32) (h : 0xB0400 ≤ f.addr) (n : Nat) :
    (s.set f n).packSlot k = s.packSlot k ∧ (s.set f n).dram = s.dram ∧ ∀ q : Fld, q.ofSlot → (s.set f n).get q = s.get q := by
  refine ⟨State.packSlot_set s f n k, State.set_dram s f n, fun q ⟨hqlo, hq⟩ => State.get_set_other s ?_ n⟩
  simp only [Fld.key]; omega

/-- The slot after a stop or an end, and what its registers then show. -/
theorem State.packSettled_slot (hk : k < s.pack.slots.length) (hk8 : k < 8) :
    let v := s.packSettled k st j
    v.dram = s.dram ∧ v.packSlot k = (if st = stNoSpace then some j else none) ∧
      v.get (Reg.PACK_SLOT_STATE k) = (if st = stNoSpace then 2 else 0) ∧
      v.get (Reg.PACK_SLOT_CONSUMED k) = s.get (Reg.PACK_SLOT_CONSUMED k) ∧
      v.get (Reg.PACK_SLOT_PRODUCED k) = s.get (Reg.PACK_SLOT_PRODUCED k) ∧
      (st ≠ stNoSpace → v.get (Reg.PACK_SLOT_LAST_STATUS k) = low 16 st) := by
  have hcs : (Reg.PACK_SLOT_CONSUMED k).key ≠ (Reg.PACK_SLOT_STATE k).key := by
    simp only [Fld.key, Reg.PACK_SLOT_CONSUMED, Reg.PACK_SLOT_STATE]; omega
  have hps : (Reg.PACK_SLOT_PRODUCED k).key ≠ (Reg.PACK_SLOT_STATE k).key := by
    simp only [Fld.key, Reg.PACK_SLOT_PRODUCED, Reg.PACK_SLOT_STATE]; omega
  have hcl : (Reg.PACK_SLOT_CONSUMED k).key ≠ (Reg.PACK_SLOT_LAST_STATUS k).key := by
    simp only [Fld.key, Reg.PACK_SLOT_CONSUMED, Reg.PACK_SLOT_LAST_STATUS]; omega
  have hpl : (Reg.PACK_SLOT_PRODUCED k).key ≠ (Reg.PACK_SLOT_LAST_STATUS k).key := by
    simp only [Fld.key, Reg.PACK_SLOT_PRODUCED, Reg.PACK_SLOT_LAST_STATUS]; omega
  have hsl : (Reg.PACK_SLOT_STATE k).key ≠ (Reg.PACK_SLOT_LAST_STATUS k).key := by
    simp only [Fld.key, Reg.PACK_SLOT_STATE, Reg.PACK_SLOT_LAST_STATUS]; omega
  have hofState : (Reg.PACK_SLOT_STATE k).ofSlot := by simp only [Fld.ofSlot, Reg.PACK_SLOT_STATE]; omega
  have hofConsumed : (Reg.PACK_SLOT_CONSUMED k).ofSlot := by simp only [Fld.ofSlot, Reg.PACK_SLOT_CONSUMED]; omega
  have hofProduced : (Reg.PACK_SLOT_PRODUCED k).ofSlot := by simp only [Fld.ofSlot, Reg.PACK_SLOT_PRODUCED]; omega
  have hofLast : (Reg.PACK_SLOT_LAST_STATUS k).ofSlot := by simp only [Fld.ofSlot, Reg.PACK_SLOT_LAST_STATUS]; omega
  have hslot := State.packSlot_putPack (s := s) hk
  by_cases hst : st = stNoSpace
  · obtain ⟨hsame, hdram, hget⟩ := State.packCount ((s.putPack k (some j)).set (Reg.PACK_SLOT_STATE k) 2) k
      (f := Reg.PACK_STOPS_COUNT) (by decide) (by decide)
      (((s.putPack k (some j)).set (Reg.PACK_SLOT_STATE k) 2).get Reg.PACK_STOPS_COUNT + 1)
    rw [State.packSettled, if_pos hst, if_pos hst, if_pos hst]
    refine ⟨hdram, hsame.trans (hslot _), ?_, ?_, ?_, fun h => absurd hst h⟩
    · exact (hget _ hofState).trans (State.get_set_same _ _ _)
    · exact (hget _ hofConsumed).trans (State.get_set_other _ hcs _)
    · exact (hget _ hofProduced).trans (State.get_set_other _ hps _)
  · rw [State.packSettled, if_neg hst, if_neg hst, if_neg hst]
    dsimp only
    generalize hu : ((s.putPack k none).set (Reg.PACK_SLOT_STATE k) 0).set (Reg.PACK_SLOT_LAST_STATUS k) st = u
    have hu : u.dram = s.dram ∧ u.packSlot k = none ∧ u.get (Reg.PACK_SLOT_STATE k) = 0 ∧
        u.get (Reg.PACK_SLOT_CONSUMED k) = s.get (Reg.PACK_SLOT_CONSUMED k) ∧
        u.get (Reg.PACK_SLOT_PRODUCED k) = s.get (Reg.PACK_SLOT_PRODUCED k) ∧
        (st ≠ stNoSpace → u.get (Reg.PACK_SLOT_LAST_STATUS k) = low 16 st) := by
      subst hu
      refine ⟨rfl, hslot none, ?_, ?_, ?_, fun _ => State.get_set_same _ _ _⟩
      · rw [State.get_set_other _ hsl, State.get_set_same]; rfl
      · rw [State.get_set_other _ hcl, State.get_set_other _ hcs, State.putPack_get]
      · rw [State.get_set_other _ hpl, State.get_set_other _ hps, State.putPack_get]
    have hcount : ∀ (f : Fld) (n : Nat), f.lo < 32 → 0xB0400 ≤ f.addr → (u.set f n).dram = s.dram ∧
        (u.set f n).packSlot k = none ∧ (u.set f n).get (Reg.PACK_SLOT_STATE k) = 0 ∧
        (u.set f n).get (Reg.PACK_SLOT_CONSUMED k) = s.get (Reg.PACK_SLOT_CONSUMED k) ∧
        (u.set f n).get (Reg.PACK_SLOT_PRODUCED k) = s.get (Reg.PACK_SLOT_PRODUCED k) ∧
        (st ≠ stNoSpace → (u.set f n).get (Reg.PACK_SLOT_LAST_STATUS k) = low 16 st) := fun f n hlo h => by
      obtain ⟨hsame, hdram, hget⟩ := State.packCount u k hlo h n
      rwa [hsame, hdram, hget _ hofState, hget _ hofConsumed, hget _ hofProduced, hget _ hofLast]
    split
    · exact hcount _ _ (by decide) (by decide)
    · split
      · exact hcount _ _ (by decide) (by decide)
      · split
        · exact hcount _ _ (by decide) (by decide)
        · exact hu

/-! ### EVT_PACK_DONE -/

/-- A running slot's work ends or stops with the run of its job. -/
theorem State.packWork_eq (hf : s.mem.filling = []) : s.packWork k j =
    ((((s.packed j).s.meetCes (j.src + j.consumed) ((s.packed j).job.consumed - j.consumed)).used).meetUes
      (s.packed j).bad 4).packEnds k (s.packed j).status (s.packed j).job := by
  unfold State.packWork
  rw [State.waitFills_none hf]
  rfl

/-- EVT_PACK_DONE (R51, R337, R339 to R341). -/
theorem exec_evtPackDone {t : Nat} {k : Fin 8} (hl : Live s) (hf : s.mem.filling = []) (hslots : s.pack.slots.length = 8)
    (hj : s.packSlot k = some j) (hstate : s.get (Reg.PACK_SLOT_STATE k) = 1) (hcrit : s.critical = false) :
    let r := (s.elapse t).packed j
    ∃ v, exec (.evtPackDone k t) s = .next v ∧
      v.packSlot k = (if r.status = stNoSpace then some r.job else none) ∧
      v.get (Reg.PACK_SLOT_STATE k) = (if r.status = stNoSpace then 2 else 0) ∧
      v.get (Reg.PACK_SLOT_CONSUMED k) = low 32 r.job.consumed ∧
      v.get (Reg.PACK_SLOT_PRODUCED k) = low 32 r.job.produced ∧
      (r.status ≠ stNoSpace → v.get (Reg.PACK_SLOT_LAST_STATUS k) = low 16 r.status) ∧ v.dram = r.s.dram := by
  intro r
  have hexec : exec (.evtPackDone k t) s = .next ((s.elapse t).packWork k j) := by
    have hslot : (s.elapse t).packSlot k = some j := by rw [State.packSlot, State.elapse_pack]; exact hj
    have hruns : ((s.elapse t).get (Reg.PACK_SLOT_STATE k) == 1 && !(s.elapse t).critical) = true := by
      simp only [State.critical, State.elapse_get] at hcrit ⊢
      rw [hstate, hcrit]
      rfl
    show execEvtPackDone k t s = _
    unfold execEvtPackDone
    rw [eventAwake_live hl, hslot]
    dsimp only
    rw [hruns, State.when_true]
  refine ⟨_, hexec, ?_⟩
  have hrun : StoreFrame (s.elapse t) r.s := .packed _ j
  have hread : ReadFrame r.s ((r.s.meetCes (j.src + j.consumed) (r.job.consumed - j.consumed)).used.meetUes r.bad 4) :=
    (ReadFrame.met _ _ _).trans (.meetUes _ _ _)
  rw [State.packWork_eq (by rw [State.elapse_mem, hf]), State.packEnds_eq]
  generalize (r.s.meetCes (j.src + j.consumed) (r.job.consumed - j.consumed)).used.meetUes r.bad 4 = w at hread
  obtain ⟨hpack, hdram, hconsumed, hproduced⟩ := State.showPack_frame w k r.job
  generalize w.showPack k r.job = x at hpack hdram hconsumed hproduced
  have hlen : (k : Nat) < x.pack.slots.length := by
    rw [hpack, hread.pack, hrun.pack, State.elapse_pack, hslots]
    exact k.isLt
  obtain ⟨hydram, hslot, hst, hyconsumed, hyproduced, hlast⟩ :=
    State.packSettled_slot (s := x) (j := r.job) (st := r.status) hlen k.isLt
  generalize x.packSettled k r.status r.job = y at hydram hslot hst hyconsumed hyproduced hlast
  have hevent : ∀ f : Fld, f.lo < 32 → 0xB0000 ≤ f.addr → ∀ a, (y.raise evPackDone 0 a).get f = y.get f := fun f hlo h a =>
    (ReadFrame.raise y _ _ a).get f (Fld.offMemory_of_addr hlo (by omega))
  refine ⟨?_, ?_, ?_, ?_, fun h => ?_, ?_⟩
  · rw [State.packSlot, (ReadFrame.raise _ _ _ _).pack]
    exact hslot
  · rw [hevent _ (by simp [Reg.PACK_SLOT_STATE]) (by simp [Reg.PACK_SLOT_STATE])]
    exact hst
  · rw [hevent _ (by simp [Reg.PACK_SLOT_CONSUMED]) (by simp only [Reg.PACK_SLOT_CONSUMED]; omega)]
    exact hyconsumed.trans hconsumed
  · rw [hevent _ (by simp [Reg.PACK_SLOT_PRODUCED]) (by simp only [Reg.PACK_SLOT_PRODUCED]; omega)]
    exact hyproduced.trans hproduced
  · rw [hevent _ (by simp [Reg.PACK_SLOT_LAST_STATUS]) (by simp only [Reg.PACK_SLOT_LAST_STATUS]; omega)]
    exact hlast h
  · rw [(ReadFrame.raise _ _ _ _).dram, hydram, hdram]
    exact hread.dram

end

end Sys2Proof.Machine
end

section
/-! SUPPORT. MEM_FILL_DONE: the oldest fill leaves the list, its pattern stands in DRAM, and no other byte of a valid region
changes (R503). -/

namespace Sys2Proof.Machine

/-! ### The fills of the host -/

section
variable {s u : State}

theorem State.fills_foldl {α : Type} {f : State → α → State} (hf : ∀ s a, (f s a).mem.fills = s.mem.fills) (l : List α)
    (s : State) : (l.foldl f s).mem.fills = s.mem.fills :=
  foldl_keeps (P := fun u : State => u.mem.fills = s.mem.fills) (fun u a hu => (hf u a).trans hu) l s rfl

variable (s)

theorem State.fills_mirrorWrite (w : WReq) : (s.mirrorWrite w).mem.fills = s.mem.fills := by
  unfold State.mirrorWrite
  split
  · rfl
  · rfl

theorem State.fills_rmwFails (w : WReq) : (s.rmwFails w).mem.fills = s.mem.fills := by
  have hmeet := (ReadFrame.meetUe s (blockOf w.addr) 3 0 0xFFFFFFFF 0).queues.2.2.1
  unfold State.rmwFails
  generalize s.meetUe (blockOf w.addr) 3 0 0xFFFFFFFF 0 = u at hmeet
  dsimp only
  split
  · exact hmeet
  · split
    · exact hmeet
    · exact hmeet

theorem State.fills_commitWrite (w : WReq) : (s.commitWrite w).mem.fills = s.mem.fills := by
  have hwait := (StoreFrame.waitFills s w.addr w.data.length).fills
  unfold State.commitWrite
  generalize s.waitFills w.addr w.data.length = u at hwait
  have hwrite := (StoreFrame.writePiece u (w.addr, w.data)).fills
  dsimp only
  split
  · split
    · exact (State.fills_rmwFails _ w).trans (hwrite.trans hwait)
    · exact (State.fills_mirrorWrite _ w).trans (hwrite.trans hwait)
  · exact (State.fills_mirrorWrite u w).trans hwait

theorem State.mem_showWrites : s.showWrites.mem = s.mem := by
  unfold State.showWrites
  refine foldl_keeps (P := fun u : State => u.mem = s.mem) (fun u c hu => ?_) _ _ rfl
  dsimp only
  split
  · exact hu
  · exact hu

theorem State.fills_dmaPut (n : Nat) (p : Nat × List Byte) : (s.dmaPut n p).mem.fills = s.mem.fills := by
  have hwrite := (StoreFrame.writePiece s p).fills
  unfold State.dmaPut
  dsimp only
  refine (StoreFrame.queueReqs _ _).fills.trans ?_
  split
  · rfl
  · exact hwrite

theorem State.fills_dmaIssue (n : Nat) (all : Bool) (k : Nat) : (s.dmaIssue n all k).mem.fills = s.mem.fills := by
  induction k generalizing s with
  | zero => rfl
  | succ k ih =>
    unfold State.dmaIssue
    split
    · rfl
    · split
      · rfl
      · exact (ih _).trans (State.fills_dmaPut _ _ _)

theorem State.mem_dmaShow (n : Nat) : (s.dmaShow n).mem = s.mem := rfl

theorem State.fills_dmaHalf (n : Nat) : (s.dmaHalf n).mem.fills = s.mem.fills := by
  unfold State.dmaHalf
  dsimp only
  split
  · exact (ReadFrame.raise _ _ _ _).queues.2.2.1
  · rfl

theorem State.mem_dmaAbortReply (n : Nat) : (s.dmaAbortReply n).mem = s.mem := by
  unfold State.dmaAbortReply
  split
  · split
    · exact State.reply_mem _ _ _ _ _ _
    · rfl
  · rfl

theorem State.fills_dmaProgress (n : Nat) : (s.dmaProgress n).mem.fills = s.mem.fills := by
  unfold State.dmaProgress
  dsimp only
  split
  · rfl
  · rw [State.mem_dmaAbortReply, State.mem_dmaShow, State.fills_dmaHalf]
    rfl

theorem State.fills_dmaAcked : s.dmaAcked.mem.fills = s.mem.fills := by
  unfold State.dmaAcked
  refine State.fills_foldl (fun u n => ?_) _ s
  split
  · rfl
  · rw [State.fills_dmaProgress, State.mem_dmaShow]
    exact State.fills_dmaIssue u n false _

/-- The commitment of queued writes leaves the fills of the host. -/
theorem State.fills_commitWrites (p : WReq → Bool) : (s.commitWrites p).mem.fills = s.mem.fills := by
  unfold State.commitWrites
  dsimp only
  rw [State.fills_dmaAcked, State.mem_showWrites, State.fills_foldl State.fills_commitWrite]

end

/-! ### The write queues -/

section
variable {s u : State}

theorem State.writes_storePiece (s : State) (p : Nat × List Byte) : (s.storePiece p).mem.writes = s.mem.writes := by
  obtain ⟨m, h, -, -, -, -, hw⟩ := State.storePiece_frame s p
  rw [h]
  exact hw

theorem State.writes_rmwRead (s : State) (b : Nat) : (s.rmwRead b).mem.writes = s.mem.writes := by
  unfold State.rmwRead
  split
  · exact (ReadFrame.meetCe s b).queues.2.2.2
  · rfl

theorem State.writes_writePiece (s : State) (p : Nat × List Byte) : (s.writePiece p).1.mem.writes = s.mem.writes := by
  have hfill : (s.startFill (p.1 / regionBytes)).mem.writes = s.mem.writes := by
    obtain ⟨l, h⟩ := State.startFill_keeps s (p.1 / regionBytes)
    rw [h]
  unfold State.writePiece
  dsimp only
  split
  · exact State.writes_storePiece s p
  · split
    · split
      · exact State.writes_storePiece s p
      · split
        · rfl
        · exact (State.writes_storePiece _ p).trans (State.writes_rmwRead s _)
    · exact hfill

theorem State.writes_writePieces (ps : List (Nat × List Byte)) (s : State) :
    (s.writePieces ps).1.mem.writes = s.mem.writes := by
  induction ps generalizing s with
  | nil => rfl
  | cons p ps ih => exact (ih _).trans (State.writes_writePiece s p)

theorem State.writes_waitFills (s : State) (a n : Nat) : (s.waitFills a n).mem.writes = s.mem.writes := by
  refine foldl_keeps (P := fun u : State => u.mem.writes = s.mem.writes) (fun u r hu => Eq.trans ?_ hu) _ _ rfl
  by_cases hr : r ∈ u.mem.filling
  · rw [State.finishFill_eq hr]
    refine foldl_keeps (P := fun v : State => v.mem.writes = u.mem.writes)
      (fun v h hv => (State.writes_storePiece v h.piece).trans hv) _ _ ?_
    simp [State.zeroed, State.zeroFill, State.setValid]
  · unfold State.finishFill
    rw [if_neg hr]

/-- The pieces of a write enter the queues; DRAM and its record are as the pieces leave them. -/
theorem State.writeMem_queues (s : State) (mirror : Bool) (a : Nat) (bs : List Byte) :
    SameStore (s.writePieces (piecesOf bs.length a bs)).1 (s.writeMem mirror a bs).1 ∧
      ((∀ w ∈ s.mem.writes, w.rmw = false) → ∀ w ∈ (s.writeMem mirror a bs).1.mem.writes, w.rmw = false) := by
  have hwrites := State.writes_writePieces (piecesOf bs.length a bs) s
  unfold State.writeMem
  dsimp only
  generalize s.writePieces (piecesOf bs.length a bs) = r at hwrites
  obtain ⟨x, y, h⟩ := State.showQueues_keeps { r.1 with mem := { r.1.mem with writes :=
    r.1.mem.writes ++ ((piecesOf bs.length a bs).filter fun p => decide (blockOf p.1 ∉ r.2)).map (reqOf mirror) } }
  unfold State.queueReqs
  rw [h]
  refine ⟨⟨rfl, rfl, rfl, rfl, rfl⟩, fun hold w hw => ?_⟩
  rcases List.mem_append.1 hw with hw | hw
  · exact hold w (hwrites ▸ hw)
  · obtain ⟨p, -, rfl⟩ := List.mem_map.1 hw
    rfl

/-! ### Commitment without read-modify-writes -/

/-- Queued writes are committed: the mirrors go out on the pair's port, and the queues show; nothing else changes. -/
structure Committed (s u : State) : Prop where
  only : ∃ q r j w, u = { s with ports := q, regs := r, just := j, mem := { s.mem with writes := w } }
  get : ∀ q : Fld, q.offMemory → u.get q = s.get q

theorem Committed.eventInputs (h : Committed s u) : EventInputs s u := by
  have hget := h.get
  obtain ⟨_, _, _, _, rfl⟩ := h.only
  exact ⟨rfl, rfl, rfl, fun q hq => hget q (offMemory_eventReads q hq)⟩

theorem Committed.dram (h : Committed s u) : u.dram = s.dram := by
  obtain ⟨_, _, _, _, rfl⟩ := h.only
  rfl

theorem Committed.shows (h : Committed s u) {x : Nat} {b : Byte} (hs : s.shows x b) : u.shows x b := by
  obtain ⟨_, _, _, _, rfl⟩ := h.only
  exact hs.congr rfl rfl rfl

/-- Writes that wait for no zero fill and read nothing back are mirrored. -/
theorem State.commitWrite_plain {w : WReq} (hf : s.mem.filling = []) (hw : w.rmw = false) :
    ∃ q, s.commitWrite w = { s with ports := q } := by
  unfold State.commitWrite
  rw [State.waitFills_none hf, hw]
  unfold State.mirrorWrite
  dsimp only
  rw [if_neg (by simp)]
  split
  · exact ⟨_, rfl⟩
  · exact ⟨_, rfl⟩

theorem State.foldl_commitWrite_plain {l : List WReq} (hf : s.mem.filling = []) (hl : ∀ w ∈ l, w.rmw = false) :
    ∃ q, l.foldl State.commitWrite s = { s with ports := q } := by
  refine List.foldlRecOn (motive := fun u => ∃ q, u = { s with ports := q }) l State.commitWrite ⟨s.ports, rfl⟩ ?_
  rintro _ ⟨q, rfl⟩ w hw
  obtain ⟨q', h⟩ := State.commitWrite_plain (s := { s with ports := q }) hf (hl w hw)
  exact ⟨q', h⟩

theorem State.showWrites_keeps (s : State) : (∃ r j, s.showWrites = { s with regs := r, just := j }) ∧
    ∀ q : Fld, q.offMemory → s.showWrites.get q = s.get q := by
  unfold State.showWrites
  refine List.foldlRecOn (motive := fun u => (∃ r j, u = { s with regs := r, just := j }) ∧
    ∀ q : Fld, q.offMemory → u.get q = s.get q) (List.range 8) _ ⟨⟨_, _, rfl⟩, fun _ _ => rfl⟩ ?_
  rintro u ⟨⟨r, j, hu⟩, hget⟩ c hc
  have hc8 := List.mem_range.1 hc
  have hw : (Reg.MEMCTL_CH_STATUS_WRITES c).ofMemory := by
    simp only [Fld.ofMemory, Reg.MEMCTL_CH_STATUS_WRITES]; omega
  have hd : (Reg.MEMCTL_CH_STATUS_DRAIN c).ofMemory := by
    simp only [Fld.ofMemory, Reg.MEMCTL_CH_STATUS_DRAIN]; omega
  have hset : ∀ (v : State) {f : Fld} (n : Nat), f.ofMemory → ∀ q : Fld, q.offMemory → (v.set f n).get q = v.get q :=
    fun v _ n hf q hq => State.get_set_other v (Fld.key_ne_of_memory hf hq) n
  dsimp only
  split
  · refine ⟨⟨_, _, by rw [hu]; rfl⟩, fun q hq => ?_⟩
    exact (hset _ _ hd q hq).trans ((hset _ _ hw q hq).trans (hget q hq))
  · refine ⟨⟨_, _, by rw [hu]; rfl⟩, fun q hq => ?_⟩
    exact (hset _ _ hw q hq).trans (hget q hq)

/-- No burst waits for an acknowledgement: an acknowledgement concerns no channel. -/
theorem State.dmaAcked_idle (h : ∀ m, m < 32 → (s.dmaCh m).flight = []) : s.dmaAcked = s := by
  unfold State.dmaAcked
  refine List.foldlRecOn (motive := (· = s)) (List.range 32) _ rfl ?_
  rintro _ rfl n hn
  rw [h n (List.mem_range.1 hn)]
  rfl

theorem State.commitWrites_plain (hf : s.mem.filling = []) (hw : ∀ w ∈ s.mem.writes, w.rmw = false)
    (hidle : ∀ m, m < 32 → (s.dmaCh m).flight = []) (p : WReq → Bool) : Committed s (s.commitWrites p) := by
  unfold State.commitWrites
  dsimp only
  obtain ⟨q, hq⟩ := State.foldl_commitWrite_plain (l := s.mem.writes.filter p)
    (s := { s with mem := { s.mem with writes := s.mem.writes.filter (fun w => !p w) } }) hf
    fun w hin => hw w (List.mem_filter.1 hin).1
  rw [hq]
  obtain ⟨⟨r, j, hshow⟩, hget⟩ := State.showWrites_keeps
    { s with ports := q, mem := { s.mem with writes := s.mem.writes.filter (fun w => !p w) } }
  rw [State.dmaAcked_idle]
  · exact ⟨⟨_, _, _, _, hshow⟩, hget⟩
  · rw [hshow]
    exact hidle

end

/-! ### The pattern (R503) -/

theorem length_patternBytes (n p : Nat) : (patternBytes n p).length = 4 * n := by
  simp [patternBytes, Nat.mul_comm]

/-- Every word of a pattern is the pattern. -/
theorem getD_patternBytes (p : Nat) : ∀ (n i : Nat), i < 4 * n → (patternBytes n p).getD i 0 = (leBytes 4 p).getD (i % 4) 0
  | n + 1, i, hi => by
    have hlen : (leBytes 4 p).length = 4 := by simp
    have hcons : patternBytes (n + 1) p = leBytes 4 p ++ patternBytes n p := rfl
    rw [hcons]
    by_cases h : i < 4
    · rw [List.getD_append _ _ _ _ (by omega), Nat.mod_eq_of_lt h]
    · rw [List.getD_append_right _ _ _ _ (by omega), hlen, getD_patternBytes p n (i - 4) (by omega)]
      congr 1
      omega

/-! ### The end of a fill -/

section
variable {s : State} {f : MemFill} {l : List MemFill}

/-- The queued writes of a fill. -/
def MemFill.owns (f : MemFill) (w : WReq) : Bool := decide (f.addr ≤ w.addr ∧ w.addr < f.addr + f.len)

/-- The rest of the oldest fill is written and acknowledged, and the fill leaves the list. -/
def State.filled (s : State) (f : MemFill) (l : List MemFill) : State :=
  ((s.modMem fun m => { m with fills := l }).fillMore f (f.len - f.done)).commitWrites f.owns

theorem State.fillDone_eq (h : s.mem.fills = f :: l) :
    s.fillDone = (s.filled f l).cmdDone 0x0100 f.tag stOk f.iface 0 := by
  unfold State.fillDone
  rw [h]
  rfl

theorem State.fills_filled (s : State) (f : MemFill) (l : List MemFill) : (s.filled f l).mem.fills = l := by
  unfold State.filled State.fillMore
  rw [State.fills_commitWrites, (StoreFrame.waitFills _ _ _).fills, (StoreFrame.writeMem _ _ _ _).fills]
  rfl

theorem State.fillMore_written {n : Nat} (hf : s.mem.filling = []) (hh : s.mem.held = []) (ha : (f.addr + f.done) % 64 = 0)
    (hn : n % 64 = 0) : Written (f.addr + f.done) (patternBytes (n / 4) f.pattern) s (s.fillMore f n) := by
  have hlen : (patternBytes (n / 4) f.pattern).length = n := by rw [length_patternBytes]; omega
  have h := State.written (a := f.addr + f.done) (bs := patternBytes (n / 4) f.pattern) hf hh ha (by omega)
    (State.writeMem_queues s true _ _).1
  rwa [hlen] at h

theorem State.fillMore_plain {n : Nat} (hw : ∀ w ∈ s.mem.writes, w.rmw = false) :
    ∀ w ∈ (s.fillMore f n).mem.writes, w.rmw = false := by
  unfold State.fillMore
  rw [State.writes_waitFills]
  exact (State.writeMem_queues s true _ _).2 hw

theorem StoreFrame.fillMore (s : State) (f : MemFill) (n : Nat) : StoreFrame s (s.fillMore f n) :=
  (StoreFrame.writeMem s true _ _).trans (.waitFills _ _ _)

variable (hf : s.mem.filling = []) (hh : s.mem.held = []) (ha : f.addr % 64 = 0) (hlen : f.len % 64 = 0)
  (hdone : f.done % 64 = 0) (hidle : ∀ m, m < 32 → (s.dmaCh m).flight = []) (hw : ∀ w ∈ s.mem.writes, w.rmw = false)
include hf hh ha hlen hdone hidle hw

/-- A fill whose writes meet no read-modify-write and no DMA burst in flight: what was left of it is written, and the event
inputs stay. -/
theorem State.filled_spec : EventInputs s (s.filled f l) ∧
    ∃ u, Written (f.addr + f.done) (patternBytes ((f.len - f.done) / 4) f.pattern) s u ∧ Committed u (s.filled f l) := by
  generalize hv : s.modMem (fun m => { m with fills := l }) = v
  obtain ⟨hdma, hin⟩ : v.dma = s.dma ∧ EventInputs s v := by
    subst hv; exact ⟨rfl, rfl, rfl, rfl, fun _ _ => rfl⟩
  have hwritten : Written (f.addr + f.done) (patternBytes ((f.len - f.done) / 4) f.pattern) s
      (v.fillMore f (f.len - f.done)) := by
    obtain ⟨hshows, hfilling, hother⟩ := State.fillMore_written (s := v) (f := f) (n := f.len - f.done)
      (by subst hv; exact hf) (by subst hv; exact hh) (by omega) (by omega)
    refine ⟨hshows, hfilling, fun x hx hr => ?_⟩
    subst hv
    exact hother x hx hr
  have hstore := StoreFrame.fillMore v f (f.len - f.done)
  have hplain : ∀ w ∈ (v.fillMore f (f.len - f.done)).mem.writes, w.rmw = false :=
    State.fillMore_plain (by subst hv; exact hw)
  have hcommit := State.commitWrites_plain hwritten.filling hplain
    (fun m hm => by rw [State.dmaCh, hstore.dma, hdma]; exact hidle m hm) f.owns
  unfold State.filled
  rw [hv]
  exact ⟨(hin.trans hstore.eventInputs).trans hcommit.eventInputs, _, hwritten, hcommit⟩

end

theorem exec_memFillDone {s : State} {t : Nat} {f : MemFill} {l : List MemFill} (hl : Live s) (h : s.mem.fills = f :: l) :
    exec (.memFillDone t) s = .next (((s.elapse t).filled f l).cmdDone 0x0100 f.tag stOk f.iface 0) := by
  show execMemFillDone t s = _
  unfold execMemFillDone
  rw [eventAwake_live hl, State.fillDone_eq (s := s.elapse t) (by rw [State.elapse_mem, h])]

/-- MEM_FILL_DONE of a fill of whole blocks (R503). -/
theorem exec_memFillDone_writes {s : State} {t : Nat} {f : MemFill} {l : List MemFill} (hl : Live s) (hf : s.mem.filling = [])
    (hh : s.mem.held = []) (h : s.mem.fills = f :: l) (ha : f.addr % 64 = 0) (hlen : f.len % 64 = 0) (hdone : f.done % 64 = 0)
    (hle : f.done ≤ f.len) (hidle : ∀ m, m < 32 → (s.dmaCh m).flight = []) (hw : ∀ w ∈ s.mem.writes, w.rmw = false) :
    ∃ v, exec (.memFillDone t) s = .next v ∧
      (∀ i < f.len, f.done ≤ i → v.byteAt (f.addr + i) = (leBytes 4 f.pattern).getD (i % 4) 0) ∧
      (∀ a, (a < f.addr / regionBytes * regionBytes ∨ (f.addr + f.len + regionBytes) / regionBytes * regionBytes ≤ a) →
        Sparse.get 0 v.dram a = Sparse.get 0 s.dram a) ∧
      ((∀ i < f.len, s.validRegion ((f.addr + i) / regionBytes) = true) →
        ∀ a, (a < f.addr + f.done ∨ f.addr + f.len ≤ a) → Sparse.get 0 v.dram a = Sparse.get 0 s.dram a) ∧
      v.host = ((s.elapse t).cmdDone 0x0100 f.tag stOk f.iface 0).host := by
  have hvalid : ∀ r, (s.elapse t).validRegion r = s.validRegion r := State.validRegion_congr (by rw [State.elapse_mem])
  have hdram := State.elapse_dram s t
  obtain ⟨hin, x, hwritten, hcommit⟩ := State.filled_spec (s := s.elapse t) (f := f) (l := l)
    (by rw [State.elapse_mem, hf]) (by rw [State.elapse_mem, hh]) ha hlen hdone (by simpa only [State.dmaCh, State.elapse_dma] using hidle)
    (by rw [State.elapse_mem]; exact hw)
  have hlength : (patternBytes ((f.len - f.done) / 4) f.pattern).length = f.len - f.done := by
    rw [length_patternBytes]; omega
  refine ⟨_, exec_memFillDone hl h, ?_⟩
  generalize (s.elapse t).filled f l = y at hin hcommit
  have hread := ReadFrame.cmdDone y 0x0100 f.tag stOk f.iface 0
  obtain ⟨hshows, -, hother⟩ := hwritten
  rw [hlength] at hshows hother
  have hsame : ∀ a, Sparse.get 0 x.dram a = Sparse.get 0 (s.elapse t).dram a →
      Sparse.get 0 (y.cmdDone 0x0100 f.tag stOk f.iface 0).dram a = Sparse.get 0 s.dram a := fun a ha => by
    rw [hread.dram, hcommit.dram, ha, hdram]
  refine ⟨fun i hi hdi => ?_, fun a hx => hsame a ?_, fun hreg a hx => hsame a ?_, (hin.cmdDone ..).host⟩
  · have hb := (hread.shows (hcommit.shows (hshows (i - f.done) (by omega)))).byteAt
    rw [show f.addr + f.done + (i - f.done) = f.addr + i by omega, getD_patternBytes _ _ _ (by omega)] at hb
    rw [hb]
    congr 1
    omega
  · refine hother a ?_ (.inr fun i hi => ?_)
    · simp only [regionBytes] at hx ⊢; omega
    · simp only [regionBytes] at hx ⊢; omega
  · refine hother a (by omega) ?_
    by_cases hr : ∃ i < f.len - f.done, (f.addr + f.done + i) / regionBytes = a / regionBytes
    · obtain ⟨i, hi, he⟩ := hr
      exact .inl (by rw [hvalid, ← he, Nat.add_assoc]; exact hreg (f.done + i) (by omega))
    · exact .inr fun i hi he => hr ⟨i, hi, he⟩

end Sys2Proof.Machine
end

section
/-! SUPPORT. TABLE_COPY_DONE: the bits of a plane's tables, and the bank that a copy ends in (R179 to R181). -/

namespace Sys2Proof.Machine

/-! ### Bits of a field -/

theorem bit_eq_testBit (n i : Nat) : bit n i = n.testBit i := by
  rw [bit, Nat.testBit_eq_decide_div_mod_eq]

theorem bit_low {w i : Nat} (h : i < w) (n : Nat) : bit (low w n) i = bit n i := by
  rw [bit_eq_testBit, bit_eq_testBit, low, Nat.testBit_mod_two_pow, decide_eq_true h, Bool.true_and]

/-- Clearing a bit of a number by subtraction, and setting it by addition. -/
theorem bit_replace (n i : Nat) (b : Bool) : bit (n - (n &&& 2 ^ i) + (if b then 2 ^ i else 0)) i = b := by
  have hpos : 0 < 2 ^ i := Nat.two_pow_pos i
  have hcleared : ∃ q, (n - (n &&& 2 ^ i)) / 2 ^ i = 2 * q := by
    rw [Nat.and_two_pow, Nat.testBit_eq_decide_div_mod_eq]
    rcases Nat.mod_two_eq_zero_or_one (n / 2 ^ i) with h | h
    · exact ⟨n / 2 ^ i / 2, by simp only [h]; simp; omega⟩
    · refine ⟨n / 2 ^ i / 2, ?_⟩
      have hsub := Nat.sub_mul_div n (2 ^ i) 1
      rw [Nat.mul_one] at hsub
      simp only [h]
      simp [hsub]
      omega
  obtain ⟨q, hq⟩ := hcleared
  cases b
  · simp [bit, hq]
  · simp [bit, Nat.add_div_right _ hpos, hq]

section
variable {s u : State}

/-- A bit that is set reads as set. -/
theorem State.tabBit_putTabBit (s : State) {f : Fld} {k : Nat} (h : k < f.w) (b : Bool) :
    (s.putTabBit f k b).tabBit f k = b := by
  unfold State.tabBit State.putTabBit
  rw [State.get_set_same, bit_low h, bit_replace]

theorem State.get_putTabBit_other (s : State) {f q : Fld} (h : q.key ≠ f.key) (k : Nat) (b : Bool) :
    (s.putTabBit f k b).get q = s.get q := State.get_set_other s h _

/-! ### Stores in the bank not in use -/

/-- The registers, DRAM, and the copies under way stay. -/
structure TabFrame (s u : State) : Prop where
  regs : u.regs = s.regs
  dram : u.dram = s.dram
  copies : u.tone.copies = s.tone.copies

theorem TabFrame.putTabs (s : State) (bank1 : Bool) (a : Nat) (bs : List Byte) : TabFrame s (s.putTabs bank1 a bs) := by
  unfold State.putTabs
  split
  · exact ⟨rfl, rfl, rfl⟩
  · exact ⟨rfl, rfl, rfl⟩

theorem TabFrame.storeScreen (s : State) (p : Nat) : TabFrame s (s.storeScreen p) := by
  unfold State.storeScreen
  dsimp only
  split
  · exact ⟨rfl, rfl, rfl⟩
  · exact ⟨rfl, rfl, rfl⟩

theorem TabFrame.storeTable (s : State) (c : TableCopy) (data : List Byte) : TabFrame s (s.storeTable c data) := by
  unfold State.storeTable
  dsimp only
  split
  · exact .putTabs s _ _ _
  · generalize (if c.table = 3 then data.drop 128 else data) = bs
    obtain ⟨hregs, hdram, hcopies⟩ := TabFrame.putTabs s (!s.bankOf c.plane c.table)
      (tableBytes c.plane c.table c.base c.size).1 bs
    split
    · exact ⟨hregs, hdram, hcopies⟩
    · exact ⟨hregs, hdram, hcopies⟩

theorem TabFrame.get (h : TabFrame s u) (f : Fld) : u.get f = s.get f := by rw [State.get, h.regs]; rfl

/-- The Solcel screen stands in the bank not in use. -/
theorem State.tabByte_storeScreen (s : State) {p a : Nat} (h1 : tabBase + p * 0x40000 ≤ a)
    (h2 : a < tabBase + p * 0x40000 + 196608) : (s.storeScreen p).tabByte (!s.bankOf p 2) a = tabReset a := by
  unfold State.storeScreen State.tabByte
  cases hb : s.bankOf p 2
  · exact Sparse.get_dropRange_same h1 h2
  · exact Sparse.get_dropRange_same h1 h2

/-- A table that is neither a stitch table nor a dead map is stored byte for byte. -/
theorem State.readTab_storeTable (h : Memory.wf s = true) {c : TableCopy} (h3 : c.table ≠ 3) (h4 : c.table ≠ 4)
    (data : List Byte) : (s.storeTable c data).readTab (!s.bankOf c.plane c.table)
      (tableBytes c.plane c.table c.base c.size).1 data.length = data := by
  unfold State.storeTable
  dsimp only
  rw [if_neg h4, if_neg h3, if_neg h3]
  exact State.readTab_putTabs h _ _ _

theorem State.readTab_zero (s : State) (bank1 : Bool) (a : Nat) : s.readTab bank1 a 0 = [] := by
  simp [State.readTab, Sparse.slice, Sparse.walk]

/-! ### The end of a copy -/

/-- The copy of a table has ended: it is off the list, and COPYING shows so. -/
def State.copyEnds (s : State) (c : TableCopy) (p k : Nat) : State :=
  { s with tone := { s.tone with copies := s.tone.copies.erase c } }.putTabBit (Reg.HTONE_PL_TABLES_COPYING p) k false

/-- The content of a copy is in the bank not in use. -/
def State.copyStored (s : State) (c : TableCopy) (p k : Nat) (data : List Byte) : State :=
  if k == 2 && data.isEmpty then s.storeScreen p else s.storeTable c data

/-- It waits for its flip. -/
def State.copyWaits (s : State) (c : TableCopy) (p k : Nat) (data : List Byte) : State :=
  ((s.copyStored c p k data).loadDone c stOk).putTabBit (Reg.HTONE_PL_TABLES_PENDING p) k true

/-- What a copy reads of DRAM: nothing for the Solcel screen. -/
def State.copyReads (s : State) (c : TableCopy) (k : Nat) : State × List Byte × List Nat :=
  if k = 2 ∧ c.src = 0 then (s, [], [])
  else
    let (s, d, bad) := s.fetch c.src c.len
    (s, spliceAt d 0 c.head, bad)

theorem ReadFrame.loadDone (s : State) (c : TableCopy) (st : Nat) : ReadFrame s (s.loadDone c st) := by
  unfold State.loadDone
  split
  · exact (ReadFrame.used s).trans (.cmdDone ..)
  · exact .cmdDone ..

variable {c : TableCopy}

theorem State.tableCopied_eq {prints : Bool} {p k : Nat}
    (hc : s.tone.copies.find? (fun c => c.plane == p && c.table == k) = some c) : s.tableCopied prints p k =
      (let r := (s.copyEnds c p k).copyReads c k
       if !r.2.2.isEmpty then ((r.1.meetUes r.2.2 1).modLoop p (fun x => { x with loads := x.loads.filter (· != k) })).loadDone
         c stMemUncorrectable
       else
         let u := r.1.copyWaits c p k r.2.1
         let u := if u.partnerReady then
             { u with pair := { u.pair with heldFlips := (p, k, u.pair.ckptSeq + 1) :: u.pair.heldFlips } }
           else u
         if prints then u else u.idleFlips p) := by
  unfold State.tableCopied
  rw [hc]
  rfl

/-- A copy that could not be read. -/
theorem State.tableCopied_unread {prints : Bool} {p k : Nat} {r : State × List Byte × List Nat}
    (hc : s.tone.copies.find? (fun c => c.plane == p && c.table == k) = some c)
    (hr : (s.copyEnds c p k).copyReads c k = r) (hbad : r.2.2 ≠ []) : s.tableCopied prints p k =
      ((r.1.meetUes r.2.2 1).modLoop p (fun x => { x with loads := x.loads.filter (· != k) })).loadDone c
        stMemUncorrectable := by
  rw [State.tableCopied_eq hc, hr]
  exact if_pos (by simpa using hbad)

/-- A copy that could be read, of a plane that prints. -/
theorem State.tableCopied_read {p k : Nat} {r : State × List Byte × List Nat}
    (hc : s.tone.copies.find? (fun c => c.plane == p && c.table == k) = some c)
    (hr : (s.copyEnds c p k).copyReads c k = r) (hbad : r.2.2 = []) :
    ∃ h, s.tableCopied true p k = { r.1.copyWaits c p k r.2.1 with pair := h } := by
  rw [State.tableCopied_eq hc, hr]
  dsimp only
  rw [if_neg (by simp [hbad]), if_pos rfl]
  split
  · exact ⟨_, rfl⟩
  · exact ⟨_, rfl⟩

/-! ### What the end of a copy leaves -/

/-- A field of the bits of a plane's tables. -/
theorem offMemory_tables (p : Nat) : (Reg.HTONE_PL_TABLES_COPYING p).offMemory ∧ (Reg.HTONE_PL_TABLES_PENDING p).offMemory ∧
    (Reg.HTONE_PL_TABLES_BANK p).offMemory := by
  refine ⟨?_, ?_, ?_⟩
  · exact Fld.offMemory_of_addr (by simp [Reg.HTONE_PL_TABLES_COPYING]) (by simp only [Reg.HTONE_PL_TABLES_COPYING]; omega)
  · exact Fld.offMemory_of_addr (by simp [Reg.HTONE_PL_TABLES_PENDING]) (by simp only [Reg.HTONE_PL_TABLES_PENDING]; omega)
  · exact Fld.offMemory_of_addr (by simp [Reg.HTONE_PL_TABLES_BANK]) (by simp only [Reg.HTONE_PL_TABLES_BANK]; omega)

theorem key_ne_tables (p : Nat) :
    (Reg.HTONE_PL_TABLES_PENDING p).key ≠ (Reg.HTONE_PL_TABLES_COPYING p).key ∧
      (Reg.HTONE_PL_TABLES_BANK p).key ≠ (Reg.HTONE_PL_TABLES_COPYING p).key ∧
      (Reg.HTONE_PL_TABLES_BANK p).key ≠ (Reg.HTONE_PL_TABLES_PENDING p).key := by
  simp only [Fld.key, Reg.HTONE_PL_TABLES_PENDING, Reg.HTONE_PL_TABLES_COPYING, Reg.HTONE_PL_TABLES_BANK]
  omega

theorem SameData.copyEnds (h : SameData s u) (c : TableCopy) (p k : Nat) : SameData s (u.copyEnds c p k) := by
  have hlist : SameData s { u with tone := { u.tone with copies := u.tone.copies.erase c } } := h.of_parts rfl
  unfold State.copyEnds State.putTabBit
  refine hlist.set ⟨?_, .inr ?_⟩ _
  · simp [Reg.HTONE_PL_TABLES_COPYING]
  · simp only [Reg.HTONE_PL_TABLES_COPYING]; omega

theorem State.copyReads_screen (s : State) {k : Nat} (h : k = 2 ∧ c.src = 0) : s.copyReads c k = (s, [], []) := if_pos h

theorem State.copyReads_table (h : SameData s u) (hf : s.mem.filling = []) {k : Nat} (hk : ¬(k = 2 ∧ c.src = 0)) :
    u.copyReads c k =
      ((u.meetCes c.src c.len).used, spliceAt (s.readMem c.src c.len) 0 c.head, s.badBlocks c.src c.len) := by
  unfold State.copyReads
  rw [if_neg hk, h.fetch hf]

theorem TabFrame.copyStored (s : State) (c : TableCopy) (p k : Nat) (data : List Byte) :
    TabFrame s (s.copyStored c p k data) := by
  unfold State.copyStored
  split
  · exact .storeScreen s p
  · exact .storeTable s c data

/-- The bits of a copy that has ended. -/
theorem State.copyEnds_bits (s : State) (c : TableCopy) (p : Nat) {k : Nat} (hk : k < 6) :
    (s.copyEnds c p k).tabBit (Reg.HTONE_PL_TABLES_COPYING p) k = false ∧
      (s.copyEnds c p k).tabBit (Reg.HTONE_PL_TABLES_PENDING p) k = s.tabBit (Reg.HTONE_PL_TABLES_PENDING p) k ∧
      (s.copyEnds c p k).bankOf p k = s.bankOf p k := by
  obtain ⟨hp, hb, -⟩ := key_ne_tables p
  refine ⟨State.tabBit_putTabBit _ hk false, ?_, ?_⟩
  · exact congrArg (bit · k) (State.get_putTabBit_other _ hp k false)
  · exact congrArg (bit · k) (State.get_putTabBit_other _ hb k false)

/-- The bits of a table whose content waits for its flip. -/
theorem State.copyWaits_bits (s : State) (c : TableCopy) (p : Nat) {k : Nat} (hk : k < 6) (data : List Byte) :
    (s.copyWaits c p k data).tabBit (Reg.HTONE_PL_TABLES_COPYING p) k = s.tabBit (Reg.HTONE_PL_TABLES_COPYING p) k ∧
      (s.copyWaits c p k data).tabBit (Reg.HTONE_PL_TABLES_PENDING p) k = true ∧
      (s.copyWaits c p k data).bankOf p k = s.bankOf p k := by
  obtain ⟨hp, -, hb⟩ := key_ne_tables p
  obtain ⟨hmc, -, hmb⟩ := offMemory_tables p
  have hget : ∀ q : Fld, q.offMemory → q.key ≠ (Reg.HTONE_PL_TABLES_PENDING p).key →
      (s.copyWaits c p k data).get q = s.get q := fun q hq hne =>
    (State.get_putTabBit_other _ hne k true).trans
      (((ReadFrame.loadDone _ c stOk).get q hq).trans ((TabFrame.copyStored s c p k data).get q))
  exact ⟨congrArg (bit · k) (hget _ hmc hp.symm), State.tabBit_putTabBit _ hk true, congrArg (bit · k) (hget _ hmb hb)⟩

/-- The contents of a table whose content waits for its flip. -/
theorem State.copyWaits_contents (s : State) (c : TableCopy) (p k : Nat) (data : List Byte) :
    (s.copyWaits c p k data).tone.copies = s.tone.copies ∧ (s.copyWaits c p k data).dram = s.dram ∧
      (s.copyWaits c p k data).tab0 = (s.copyStored c p k data).tab0 ∧
      (s.copyWaits c p k data).tab1 = (s.copyStored c p k data).tab1 := by
  obtain ⟨-, hdram, hcopies⟩ := TabFrame.copyStored s c p k data
  unfold State.copyWaits
  generalize s.copyStored c p k data = u at hdram hcopies
  have hdone := ReadFrame.loadDone u c stOk
  obtain ⟨h0, h1, htone⟩ := hdone.tabs
  have hd := hdone.dram
  generalize u.loadDone c stOk = v at htone h0 h1 hd
  exact ⟨(congrArg ToneSt.copies htone).trans hcopies, hd.trans hdram, h0, h1⟩

/-! ### TABLE_COPY_DONE -/

section
variable {t : Nat} {p : Fin 4} {k : Fin 6} (hl : Live s)
  (hc : s.tone.copies.find? (fun c => c.plane == (p : Nat) && c.table == (k : Nat)) = some c)
include hl

theorem exec_tableCopyDone : exec (.tableCopyDone p k t) s = .next ((s.elapse t).tableCopied (s.prints p) p k) := by
  show execTableCopyDone p k t s = _
  unfold execTableCopyDone
  rw [eventAwake_live hl, show (s.elapse t).prints p = s.prints p by simp [State.prints, State.linesWait, State.plane]]

include hc

/-- A copy that could be read, of a plane that prints (R179, R180). -/
theorem exec_tableCopyDone_read {w : State} {data : List Byte} (hprints : s.prints p = true)
    (hr : ((s.elapse t).copyEnds c p k).copyReads c k = (w, data, [])) (hw : ReadFrame ((s.elapse t).copyEnds c p k) w) :
    ∃ v, exec (.tableCopyDone p k t) s = .next v ∧ v.tabBit (Reg.HTONE_PL_TABLES_COPYING p) k = false ∧
      v.tabBit (Reg.HTONE_PL_TABLES_PENDING p) k = true ∧ v.bankOf p k = s.bankOf p k ∧
      v.tone.copies = s.tone.copies.erase c ∧ v.dram = s.dram ∧
      v.tab0 = (w.copyStored c p k data).tab0 ∧ v.tab1 = (w.copyStored c p k data).tab1 := by
  obtain ⟨h, heq⟩ := State.tableCopied_read (s := s.elapse t) (by rw [State.elapse_tone]; exact hc) hr rfl
  obtain ⟨hcopying, -, hbank⟩ := State.copyEnds_bits (s.elapse t) c p k.isLt
  obtain ⟨hmc, -, hmb⟩ := offMemory_tables p
  obtain ⟨hwcopying, hwpending, hwbank⟩ := State.copyWaits_bits w c p k.isLt data
  obtain ⟨hwcopies, hwdram, hw0, hw1⟩ := State.copyWaits_contents w c p k data
  refine ⟨{ w.copyWaits c p k data with pair := h }, by rw [exec_tableCopyDone hl, hprints, heq], ?_, hwpending, ?_, ?_, ?_, hw0, hw1⟩
  · exact hwcopying.trans ((congrArg (bit · k) (hw.get _ hmc)).trans hcopying)
  · exact hwbank.trans ((congrArg (bit · k) (hw.get _ hmb)).trans (hbank.trans (congrArg (bit · k) (State.elapse_get s t _))))
  · refine hwcopies.trans ((congrArg ToneSt.copies hw.tabs.2.2).trans ?_)
    show (s.elapse t).tone.copies.erase c = _
    rw [State.elapse_tone]
  · exact hwdram.trans (hw.dram.trans (State.elapse_dram s t))

/-- A copy that could not be read leaves the tables, and waits for nothing (R181). -/
theorem exec_tableCopyDone_unread (hf : s.mem.filling = []) (hbad : s.badBlocks c.src c.len ≠ [])
    (hk : ¬((k : Nat) = 2 ∧ c.src = 0)) :
    ∃ v, exec (.tableCopyDone p k t) s = .next v ∧ v.tabBit (Reg.HTONE_PL_TABLES_COPYING p) k = false ∧
      v.tabBit (Reg.HTONE_PL_TABLES_PENDING p) k = s.tabBit (Reg.HTONE_PL_TABLES_PENDING p) k ∧
      v.bankOf p k = s.bankOf p k ∧ v.tab0 = s.tab0 ∧ v.tab1 = s.tab1 ∧ v.dram = s.dram := by
  have hr := State.copyReads_table (c := c) ((SameData.elapse s t).copyEnds c p k) hf hk
  have heq := State.tableCopied_unread (s := s.elapse t) (prints := s.prints p) (by rw [State.elapse_tone]; exact hc) hr hbad
  obtain ⟨hcopying, hpending, hbank⟩ := State.copyEnds_bits (s.elapse t) c p k.isLt
  obtain ⟨hmc, hmp, hmb⟩ := offMemory_tables p
  have h0 : ((s.elapse t).copyEnds c p k).tab0 = s.tab0 := State.elapse_tab0 s t
  have h1 : ((s.elapse t).copyEnds c p k).tab1 = s.tab1 := State.elapse_tab1 s t
  have hd : ((s.elapse t).copyEnds c p k).dram = s.dram := State.elapse_dram s t
  generalize (s.elapse t).copyEnds c p k = u at heq hcopying hpending hbank h0 h1 hd
  have hmet := (ReadFrame.met u c.src c.len).trans (.meetUes _ (s.badBlocks c.src c.len) 1)
  refine ⟨_, by rw [exec_tableCopyDone hl, heq], ?_⟩
  dsimp only
  generalize (u.meetCes c.src c.len).used.meetUes (s.badBlocks c.src c.len) 1 = w at hmet
  have hdone := ReadFrame.loadDone (w.modLoop p fun x => { x with loads := x.loads.filter (· != (k : Nat)) }) c
    stMemUncorrectable
  have hget : ∀ q : Fld, q.offMemory → ((w.modLoop p fun x => { x with loads := x.loads.filter (· != (k : Nat)) }).loadDone c
      stMemUncorrectable).get q = u.get q := fun q hq => (hdone.get q hq).trans (hmet.get q hq)
  obtain ⟨hw0, hw1, -⟩ := hmet.tabs
  refine ⟨(congrArg (bit · k) (hget _ hmc)).trans hcopying, ?_, ?_, ?_, ?_, ?_⟩
  · exact (congrArg (bit · k) (hget _ hmp)).trans (hpending.trans (congrArg (bit · k) (State.elapse_get s t _)))
  · exact (congrArg (bit · k) (hget _ hmb)).trans (hbank.trans (congrArg (bit · k) (State.elapse_get s t _)))
  · exact hdone.tabs.1.trans (hw0.trans h0)
  · exact hdone.tabs.2.1.trans (hw1.trans h1)
  · exact hdone.dram.trans (hmet.dram.trans hd)

/-- TABLE_COPY_DONE of a copy that could be read, of a plane that prints. -/
theorem exec_tableCopyDone_stored (hwf : Memory.wf s = true) (hf : s.mem.filling = [])
    (hgood : s.badBlocks c.src c.len = [] ∨ ((k : Nat) = 2 ∧ c.src = 0)) (hprints : s.prints p = true) :
    ∃ v, exec (.tableCopyDone p k t) s = .next v ∧ v.tabBit (Reg.HTONE_PL_TABLES_COPYING p) k = false ∧
      v.tabBit (Reg.HTONE_PL_TABLES_PENDING p) k = true ∧ v.bankOf p k = s.bankOf p k ∧
      v.tone.copies = s.tone.copies.erase c ∧ v.dram = s.dram ∧
      (k ≠ 3 → k ≠ 4 → (k = 2 → c.src ≠ 0) →
        v.readTab (!s.bankOf p k) (tableBytes p k c.base c.size).1 (spliceAt (s.readMem c.src c.len) 0 c.head).length =
          spliceAt (s.readMem c.src c.len) 0 c.head) ∧
      (k = 2 → c.src = 0 → ∀ a, tabBase + p * 0x40000 ≤ a → a < tabBase + p * 0x40000 + 196608 →
        v.tabByte (!s.bankOf p k) a = tabReset a) := by
  obtain ⟨-, -, hbank⟩ := State.copyEnds_bits (s.elapse t) c p k.isLt
  replace hbank : _ = s.bankOf p k := hbank.trans (congrArg (bit · k) (State.elapse_get s t _))
  have hwf' : Memory.wf ((s.elapse t).copyEnds c p k) = true := (Memory.wf_elapse s t).trans hwf
  have hsame := (SameData.elapse s t).copyEnds c p k
  have hexec := fun w data => exec_tableCopyDone_read (t := t) (w := w) (data := data) hl hc
  obtain ⟨hplane, htable⟩ : c.plane = p ∧ c.table = k := by simpa using List.find?_some hc
  generalize (s.elapse t).copyEnds c p k = u at hbank hwf' hsame hexec
  by_cases hk : (k : Nat) = 2 ∧ c.src = 0
  · obtain ⟨hk2, hsrc⟩ := hk
    obtain ⟨v, hv, hcopying, hpending, hvbank, hcopies, hdram, h0, h1⟩ :=
      hexec _ _ hprints (State.copyReads_screen u ⟨hk2, hsrc⟩) (.refl u)
    refine ⟨v, hv, hcopying, hpending, hvbank, hcopies, hdram, fun _ _ h => absurd hsrc (h (Fin.ext hk2)), fun _ _ a ha hb => ?_⟩
    rw [State.copyStored, if_pos (by simp [hk2])] at h0 h1
    rw [State.tabByte, h0, h1, ← hbank, hk2]
    exact State.tabByte_storeScreen u ha hb
  · have hr := State.copyReads_table (c := c) hsame hf hk
    rw [hgood.resolve_right hk] at hr
    obtain ⟨v, hv, hcopying, hpending, hvbank, hcopies, hdram, h0, h1⟩ := hexec _ _ hprints hr (.met u c.src c.len)
    refine ⟨v, hv, hcopying, hpending, hvbank, hcopies, hdram, fun h3 h4 _ => ?_, fun hk2 hsrc => absurd ⟨by simp [hk2], hsrc⟩ hk⟩
    generalize spliceAt (s.readMem c.src c.len) 0 c.head = data at h0 h1
    have hmet := ReadFrame.met u c.src c.len
    generalize (u.meetCes c.src c.len).used = w at hmet h0 h1
    rw [State.readTab_congr h0 h1, ← hbank, ← show w.bankOf p k = u.bankOf p k from
      congrArg (bit · k) (hmet.get _ (offMemory_tables p).2.2)]
    by_cases hempty : data = []
    · rw [hempty]
      exact State.readTab_zero _ _ _
    · rw [State.copyStored, if_neg (by simp [hempty]), ← hplane, ← htable]
      refine State.readTab_storeTable (hmet.wf.trans hwf') ?_ ?_ data
      · rw [htable]; exact fun h => h3 (Fin.ext h)
      · rw [htable]; exact fun h => h4 (Fin.ext h)

end

end

end Sys2Proof.Machine
end

section
/-! SUPPORT. PLOAD_COPY_DONE: the loader's copy puts the index and the area of a protected layer in place, or leaves the layer
empty (R160, R161). -/

namespace Sys2Proof.Machine

/-! ### The words of a protected layer -/

/-- The fields that show a layer and its loads and check passes. -/
def layerFields (p : Nat) : List Fld := [Reg.COMPOSE_PL_PROT_STATUS_LOADED p, Reg.COMPOSE_PL_PROT_STATUS_COPYING p,
  Reg.COMPOSE_PL_PROT_STATUS_CHECKING p, Reg.COMPOSE_PL_PROT_STATUS_FAULT p, Reg.COMPOSE_PL_PROT_STATUS_RECTS p,
  Reg.COMPOSE_PL_PROT_CRC p, Reg.COMPOSE_PL_PROT_LAST p, Reg.COMPOSE_PL_PROT_PASSES p, Reg.COMPOSE_PL_PROT_LEN p]

/-- They are fields of different keys. -/
theorem nodup_layerKeys (p : Nat) : ((layerFields p).map Fld.key).Nodup := by
  simp only [layerFields, List.map_cons, List.map_nil, Fld.key, Reg.COMPOSE_PL_PROT_STATUS_LOADED,
    Reg.COMPOSE_PL_PROT_STATUS_COPYING, Reg.COMPOSE_PL_PROT_STATUS_CHECKING, Reg.COMPOSE_PL_PROT_STATUS_FAULT,
    Reg.COMPOSE_PL_PROT_STATUS_RECTS, Reg.COMPOSE_PL_PROT_CRC, Reg.COMPOSE_PL_PROT_LAST, Reg.COMPOSE_PL_PROT_PASSES,
    Reg.COMPOSE_PL_PROT_LEN, List.nodup_cons, List.mem_cons, List.not_mem_nil, or_false, not_or, List.nodup_nil,
    not_false_eq_true, and_true]
  omega

/-- They lie in the words of the planes. -/
theorem layerFields_addr (p : Nat) : ∀ f ∈ layerFields p, f.lo < 32 ∧ 0xF0080 ≤ f.addr := by
  simp [layerFields, Reg.COMPOSE_PL_PROT_STATUS_LOADED, Reg.COMPOSE_PL_PROT_STATUS_COPYING, Reg.COMPOSE_PL_PROT_STATUS_CHECKING,
    Reg.COMPOSE_PL_PROT_STATUS_FAULT, Reg.COMPOSE_PL_PROT_STATUS_RECTS, Reg.COMPOSE_PL_PROT_CRC, Reg.COMPOSE_PL_PROT_LAST,
    Reg.COMPOSE_PL_PROT_PASSES, Reg.COMPOSE_PL_PROT_LEN]
  omega

theorem layerFields_offMemory {p : Nat} {f : Fld} (h : f ∈ layerFields p) : f.offMemory := by
  obtain ⟨hlo, h1⟩ := layerFields_addr p f h
  exact Fld.offMemory_of_addr hlo (by omega)

theorem layerFields_offInit {p : Nat} {f : Fld} (h : f ∈ layerFields p) : f.offInit := by
  obtain ⟨hlo, h1⟩ := layerFields_addr p f h
  exact ⟨hlo, .inr (by omega)⟩

section
variable {s u : State}

/-- A set of one of the fields leaves another. -/
theorem State.get_set_layerFields (s : State) {p i j : Nat} {f q : Fld} (hf : (layerFields p)[i]? = some f)
    (hq : (layerFields p)[j]? = some q) (h : i ≠ j) (v : Nat) : (s.set f v).get q = s.get q := by
  refine State.get_set_other s (fun he => h ?_) v
  have hf' : ((layerFields p).map Fld.key)[i]? = some f.key := by simp [hf]
  have hq' : ((layerFields p).map Fld.key)[j]? = some f.key := by simp [hq, he]
  exact (List.getElem?_inj (List.getElem?_eq_some_iff.1 hf').1 (nodup_layerKeys p)).1 (hf'.trans hq'.symm)

/-! ### The area of a layer -/

/-- A range of DRAM reads as the bytes that stand in it. -/
theorem State.readMem_of_shows (h : Memory.wf s = true) {a : Nat} {bs : List Byte}
    (hs : ∀ i < bs.length, s.shows (a + i) (bs.getD i 0)) : s.readMem a bs.length = bs := by
  refine List.ext_getElem (State.length_readMem h a _) fun i _ hi => ?_
  rw [← List.getD_eq_getElem _ 0 hi, ← (hs i hi).byteAt]
  simp [State.readMem_eq_map h]

theorem State.writeAcked_written {a : Nat} {bs : List Byte} (hf : s.mem.filling = []) (hh : s.mem.held = []) (ha : a % 64 = 0)
    (hl : bs.length % 64 = 0) : Written a bs s (s.writeAcked a bs).1 :=
  State.written hf hh ha hl ⟨rfl, rfl, rfl, rfl, rfl⟩

theorem protArea_aligned (p : Nat) : protArea p % 64 = 0 := by
  unfold protArea protBase
  omega

/-! ### The loader's copy -/

/-- The copy has ended: it is off the plane, and COPYING shows so. -/
def State.loadEnds (s : State) (p : Nat) : State :=
  (s.modPlane p fun y => { y with pload := none }).setB (Reg.COMPOSE_PL_PROT_STATUS_COPYING p) false

/-- A layer is shown as loaded. -/
def State.showLayer (s : State) (p rects crc len : Nat) : State :=
  (((s.setB (Reg.COMPOSE_PL_PROT_STATUS_LOADED p) true).set (Reg.COMPOSE_PL_PROT_STATUS_RECTS p) rects).set
    (Reg.COMPOSE_PL_PROT_CRC p) crc).set (Reg.COMPOSE_PL_PROT_LEN p) len

theorem State.ploadDone_eq {p : Nat} {x : Pload} (h : (s.plane p).pload = some x) : s.ploadDone p =
    (let r := (s.loadEnds p).loadProt p x.rects x.src x.len x.head
     r.1.cmdDone 0x0402 x.tag r.2.1 x.iface r.2.2) := by
  unfold State.ploadDone State.loadEnds
  rw [h]

/-- A copy that the loader could read. -/
theorem State.loadProt_read {p rects src len : Nat} {head body : List Byte} {w : State}
    (h : s.fetch (src + 1024) (len - 1024) = (w, body, [])) : s.loadProt p rects src len head =
      (((w.putTabs false (protIndex p) head).writeAcked (protArea p) body).1.showLayer p rects (crc32c (head ++ body)) len,
        stOk, crc32c (head ++ body)) := by
  unfold State.loadProt
  rw [h]
  rfl

/-- A copy that the loader could not read leaves free contents in the area. -/
theorem State.loadProt_unread {p rects src len : Nat} {head body : List Byte} {w : State} {bad : List Nat}
    (h : s.fetch (src + 1024) (len - 1024) = (w, body, bad)) (hbad : bad ≠ []) : s.loadProt p rects src len head =
      (let u := (w.meetUes bad 2).emptyProt p
       ((u.writeAcked (protArea p) ((List.range body.length).map (Config.freeByte u.free))).1.used, stMemUncorrectable, 0)) := by
  unfold State.loadProt
  rw [h]
  exact if_pos (by simpa using hbad)

theorem SameData.loadEnds (h : SameData s u) (p : Nat) : SameData s (u.loadEnds p) := by
  have hplane : SameData s (u.modPlane p fun y => { y with pload := none }) := h.of_parts rfl
  unfold State.loadEnds State.setB
  exact hplane.set (layerFields_offInit (p := p) (by simp [layerFields])) _

theorem State.loadEnds_shows (s : State) {p : Nat} (hp : p < s.line.planes.length) :
    ((s.loadEnds p).plane p).pload = none ∧ (s.loadEnds p).get (Reg.COMPOSE_PL_PROT_STATUS_COPYING p) = 0 :=
  ⟨congrArg PlaneSt.pload (State.plane_modPlane_same s _ hp), State.get_set_same _ _ _⟩

/-- The fields of a layer shown as loaded. -/
theorem State.showLayer_get (s : State) (p rects crc len : Nat) :
    (s.showLayer p rects crc len).flag (Reg.COMPOSE_PL_PROT_STATUS_LOADED p) = true ∧
      (s.showLayer p rects crc len).get (Reg.COMPOSE_PL_PROT_STATUS_COPYING p) = s.get (Reg.COMPOSE_PL_PROT_STATUS_COPYING p) ∧
      (s.showLayer p rects crc len).get (Reg.COMPOSE_PL_PROT_STATUS_RECTS p) = low (Reg.COMPOSE_PL_PROT_STATUS_RECTS p).w rects ∧
      (s.showLayer p rects crc len).get (Reg.COMPOSE_PL_PROT_CRC p) = low 32 crc ∧
      (s.showLayer p rects crc len).get (Reg.COMPOSE_PL_PROT_LEN p) = low (Reg.COMPOSE_PL_PROT_LEN p).w len := by
  have hget := fun (u : State) (i j : Nat) (f q : Fld) => State.get_set_layerFields u (p := p) (i := i) (j := j) (f := f) (q := q)
  have hlen : ∀ (u : State) j q, (layerFields p)[j]? = some q → 8 ≠ j → (u.set (Reg.COMPOSE_PL_PROT_LEN p) len).get q = u.get q :=
    fun u j q hq h => hget u 8 j _ q rfl hq h len
  have hcrc : ∀ (u : State) j q, (layerFields p)[j]? = some q → 5 ≠ j → (u.set (Reg.COMPOSE_PL_PROT_CRC p) crc).get q = u.get q :=
    fun u j q hq h => hget u 5 j _ q rfl hq h crc
  have hrects : ∀ (u : State) j q, (layerFields p)[j]? = some q → 4 ≠ j →
      (u.set (Reg.COMPOSE_PL_PROT_STATUS_RECTS p) rects).get q = u.get q := fun u j q hq h => hget u 4 j _ q rfl hq h rects
  unfold State.showLayer State.setB
  refine ⟨?_, ?_, ?_, ?_, State.get_set_same _ _ _⟩
  · rw [State.flag, hlen _ 0 _ rfl (by decide), hcrc _ 0 _ rfl (by decide), hrects _ 0 _ rfl (by decide), State.get_set_same]
    rfl
  · rw [hlen _ 1 _ rfl (by decide), hcrc _ 1 _ rfl (by decide), hrects _ 1 _ rfl (by decide)]
    exact hget s 0 1 _ _ rfl rfl (by decide) _
  · rw [hlen _ 4 _ rfl (by decide), hcrc _ 4 _ rfl (by decide), State.get_set_same]
  · rw [hlen _ 5 _ rfl (by decide), State.get_set_same]
    rfl

/-- A layer with nothing in it. -/
theorem State.emptyProt_get (s : State) (p : Nat) : (s.emptyProt p).get (Reg.COMPOSE_PL_PROT_STATUS_LOADED p) = 0 ∧
    (s.emptyProt p).get (Reg.COMPOSE_PL_PROT_STATUS_COPYING p) = s.get (Reg.COMPOSE_PL_PROT_STATUS_COPYING p) ∧
    (s.emptyProt p).get (Reg.COMPOSE_PL_PROT_LEN p) = 0 := by
  have hget : ∀ (u : State) (i j : Nat) (f q : Fld), (layerFields p)[i]? = some f → (layerFields p)[j]? = some q → i ≠ j →
      (u.set f 0).get q = u.get q := fun u i j f q hf hq h => State.get_set_layerFields u hf hq h 0
  unfold State.emptyProt
  simp only [List.foldl_cons, List.foldl_nil]
  refine ⟨?_, ?_, State.get_set_same _ _ _⟩
  · rw [hget _ 8 0 _ _ rfl rfl (by decide), hget _ 5 0 _ _ rfl rfl (by decide), hget _ 4 0 _ _ rfl rfl (by decide),
      State.get_set_same]
    rfl
  · rw [hget _ 8 1 _ _ rfl rfl (by decide), hget _ 5 1 _ _ rfl rfl (by decide), hget _ 4 1 _ _ rfl rfl (by decide),
      hget _ 0 1 _ _ rfl rfl (by decide)]
    rfl

theorem State.emptyProt_line (s : State) (p : Nat) : (s.emptyProt p).line = s.line := rfl

theorem State.showLayer_keeps (s : State) (p rects crc len : Nat) : (s.showLayer p rects crc len).line = s.line ∧
    (s.showLayer p rects crc len).dram = s.dram ∧ (s.showLayer p rects crc len).mem = s.mem ∧
    (s.showLayer p rects crc len).tab0 = s.tab0 ∧ (s.showLayer p rects crc len).tab1 = s.tab1 ∧
    Memory.wf (s.showLayer p rects crc len) = Memory.wf s := by simp [State.showLayer]

/-! ### PLOAD_COPY_DONE -/

section
variable {t : Nat} {p : Fin 4} {x : Pload} (hl : Live s) (hf : s.mem.filling = []) (hplanes : s.line.planes.length = 4)
  (hx : (s.plane p).pload = some x)
include hl hx

theorem exec_ploadCopyDone : exec (.ploadCopyDone p t) s = .next
    (let r := ((s.elapse t).loadEnds p).loadProt p x.rects x.src x.len x.head
     r.1.cmdDone 0x0402 x.tag r.2.1 x.iface r.2.2) := by
  show execPloadCopyDone p t s = _
  unfold execPloadCopyDone
  rw [eventAwake_live hl, State.ploadDone_eq (s := s.elapse t) (by simpa [State.plane] using hx)]

include hf hplanes

/-- A copy that the loader could not read leaves the layer empty (R160). -/
theorem exec_ploadCopyDone_unread (hbad : s.badBlocks (x.src + 1024) (x.len - 1024) ≠ []) :
    ∃ v, exec (.ploadCopyDone p t) s = .next v ∧ (v.plane p).pload = none ∧
      v.get (Reg.COMPOSE_PL_PROT_STATUS_LOADED p) = 0 ∧ v.get (Reg.COMPOSE_PL_PROT_STATUS_COPYING p) = 0 ∧
      v.get (Reg.COMPOSE_PL_PROT_LEN p) = 0 := by
  refine ⟨_, exec_ploadCopyDone hl hx, ?_⟩
  obtain ⟨hpload, hcopying⟩ := State.loadEnds_shows (s.elapse t) (p := p) (by rw [State.elapse_line]; omega)
  have hsame := (SameData.elapse s t).loadEnds p
  generalize (s.elapse t).loadEnds p = e at hpload hcopying hsame
  rw [State.loadProt_unread (hsame.fetch hf _ _) hbad]
  dsimp only
  have hmet := (ReadFrame.met e (x.src + 1024) (x.len - 1024)).trans
    (.meetUes _ (s.badBlocks (x.src + 1024) (x.len - 1024)) 2)
  generalize (e.meetCes (x.src + 1024) (x.len - 1024)).used.meetUes (s.badBlocks (x.src + 1024) (x.len - 1024)) 2 = w at hmet
  obtain ⟨hloaded, hwcopying, hlen⟩ := State.emptyProt_get w p
  have hline := State.emptyProt_line w p
  generalize w.emptyProt p = y at hloaded hwcopying hlen hline
  have hstore := StoreFrame.writeAcked y (protArea p)
    ((List.range (s.readMem (x.src + 1024) (x.len - 1024)).length).map (Config.freeByte y.free))
  generalize (y.writeAcked _ _).1 = z at hstore
  have hdone := (ReadFrame.used z).trans (ReadFrame.cmdDone z.used 0x0402 x.tag stMemUncorrectable x.iface 0)
  generalize z.used.cmdDone 0x0402 x.tag stMemUncorrectable x.iface 0 = v at hdone
  have hget : ∀ q ∈ layerFields p, v.get q = y.get q := fun q hq =>
    (hdone.get q (layerFields_offMemory hq)).trans (hstore.get q (layerFields_offMemory hq))
  refine ⟨?_, (hget _ (by simp [layerFields])).trans hloaded, ?_, (hget _ (by simp [layerFields])).trans hlen⟩
  · rw [State.plane, hdone.line, hstore.line, hline, hmet.line]
    exact hpload
  · rw [hget _ (by simp [layerFields]), hwcopying, hmet.get _ (layerFields_offMemory (p := p) (by simp [layerFields])), hcopying]

/-- A copy that the loader could read puts the index and the area in place (R160, R161). -/
theorem exec_ploadCopyDone_read (hwf : Memory.wf s = true) (hh : s.mem.held = [])
    (hgood : s.badBlocks (x.src + 1024) (x.len - 1024) = []) (hlen : (x.len - 1024) % 64 = 0) :
    ∃ v, exec (.ploadCopyDone p t) s = .next v ∧ (v.plane p).pload = none ∧
      v.flag (Reg.COMPOSE_PL_PROT_STATUS_LOADED p) = true ∧
      v.get (Reg.COMPOSE_PL_PROT_STATUS_COPYING p) = 0 ∧
      v.get (Reg.COMPOSE_PL_PROT_STATUS_RECTS p) = low (Reg.COMPOSE_PL_PROT_STATUS_RECTS p).w x.rects ∧
      v.get (Reg.COMPOSE_PL_PROT_CRC p) = low 32 (crc32c (x.head ++ s.readMem (x.src + 1024) (x.len - 1024))) ∧
      v.get (Reg.COMPOSE_PL_PROT_LEN p) = low (Reg.COMPOSE_PL_PROT_LEN p).w x.len ∧
      v.readTab false (protIndex p) x.head.length = x.head ∧
      v.readMem (protArea p) (s.readMem (x.src + 1024) (x.len - 1024)).length = s.readMem (x.src + 1024) (x.len - 1024) := by
  refine ⟨_, exec_ploadCopyDone hl hx, ?_⟩
  obtain ⟨hpload, hcopying⟩ := State.loadEnds_shows (s.elapse t) (p := p) (by rw [State.elapse_line]; omega)
  have hsame := (SameData.elapse s t).loadEnds p
  have hbody := State.length_readMem hwf (x.src + 1024) (x.len - 1024)
  have hewf : Memory.wf ((s.elapse t).loadEnds p) = true := (Memory.wf_elapse s t).trans hwf
  generalize (s.elapse t).loadEnds p = e at hpload hcopying hsame hewf
  have hfetch := hsame.fetch hf (x.src + 1024) (x.len - 1024)
  rw [hgood] at hfetch
  rw [State.loadProt_read hfetch]
  generalize s.readMem (x.src + 1024) (x.len - 1024) = body at hbody
  dsimp only
  have hmet := ReadFrame.met e (x.src + 1024) (x.len - 1024)
  generalize (e.meetCes (x.src + 1024) (x.len - 1024)).used = w at hmet
  have hwwf := hmet.wf.trans hewf
  have hindex := State.readTab_putTabs hwwf false (protIndex p) x.head
  obtain ⟨hyget, hyline, hyfilling, hyheld⟩ : (w.putTabs false (protIndex p) x.head).regs = w.regs ∧
      (w.putTabs false (protIndex p) x.head).line = w.line ∧ (w.putTabs false (protIndex p) x.head).mem.filling = [] ∧
      (w.putTabs false (protIndex p) x.head).mem.held = [] := by
    obtain ⟨hfilling, hheld, -, -⟩ := hmet.queues
    exact ⟨rfl, rfl, hfilling.trans (hsame.mem ▸ hf), hheld.trans (hsame.mem ▸ hh)⟩
  have hywf := Memory.wf_putTabs hwwf false (protIndex p) x.head
  generalize w.putTabs false (protIndex p) x.head = y at hindex hyget hyline hyfilling hyheld hywf
  have hstore := StoreFrame.writeAcked y (protArea p) body
  have hwritten := State.writeAcked_written hyfilling hyheld (protArea_aligned p) (bs := body) (by omega)
  have hzwf := Memory.wf_writeAcked hywf (protArea p) body
  generalize (y.writeAcked (protArea p) body).1 = z at hstore hwritten hzwf
  obtain ⟨hloaded, hzcopying, hrects, hcrc, hzlen⟩ := State.showLayer_get z p x.rects (crc32c (x.head ++ body)) x.len
  obtain ⟨hline, hdram, hmem, h0, h1, hlwf⟩ := State.showLayer_keeps z p x.rects (crc32c (x.head ++ body)) x.len
  generalize z.showLayer p x.rects (crc32c (x.head ++ body)) x.len = a
    at hloaded hzcopying hrects hcrc hzlen hline hdram hmem h0 h1 hlwf
  have hdone := ReadFrame.cmdDone a 0x0402 x.tag stOk x.iface (crc32c (x.head ++ body))
  generalize a.cmdDone 0x0402 x.tag stOk x.iface (crc32c (x.head ++ body)) = v at hdone
  have hget : ∀ q ∈ layerFields p, v.get q = a.get q := fun q hq => hdone.get q (layerFields_offMemory hq)
  refine ⟨?_, ?_, ?_, ?_, ?_, ?_, ?_, ?_⟩
  · rw [State.plane, hdone.line, hline, hstore.line, hyline, hmet.line]
    exact hpload
  · rw [State.flag, hget _ (by simp [layerFields])]
    exact hloaded
  · have hmc : (Reg.COMPOSE_PL_PROT_STATUS_COPYING p).offMemory := layerFields_offMemory (p := p) (by simp [layerFields])
    rw [hdone.get _ hmc, hzcopying, hstore.get _ hmc, State.get, hyget]
    exact (hmet.get _ hmc).trans hcopying
  · exact (hget _ (by simp [layerFields])).trans hrects
  · exact (hget _ (by simp [layerFields])).trans hcrc
  · exact (hget _ (by simp [layerFields])).trans hzlen
  · rw [State.readTab_congr hdone.tabs.1 hdone.tabs.2.1, State.readTab_congr h0 h1,
      State.readTab_congr hstore.tabs.1 hstore.tabs.2]
    exact hindex
  · refine State.readMem_of_shows (hdone.wf.trans (hlwf.trans hzwf)) fun i hi => hdone.shows ?_
    exact (hwritten.shows i hi).congr hdram (congrArg MemSt.valid hmem) (congrArg MemSt.undef hmem)

end

end

end Sys2Proof.Machine
end

section
/-! SUPPORT. What a stop at a fault leaves of the protected layers: their words and their check passes (R150, R167). -/

namespace Sys2Proof.Machine

/-- A field of the words that show the protected layers of the planes. -/
abbrev Fld.ofLayers (f : Fld) : Prop := f.lo < 32 ∧ 0xF0000 ≤ f.addr ∧ f.addr < 0xF0400

/-- A field outside those words. -/
abbrev Fld.offLayers (f : Fld) : Prop := f.lo < 32 ∧ (f.addr < 0xF0000 ∨ 0xF0400 ≤ f.addr)

/-- What is shown of the protected layers, and their check passes, stay. -/
structure LayerKept (s u : State) : Prop where
  get : ∀ f : Fld, f.ofLayers → u.get f = s.get f
  pass : ∀ q, (u.plane q).pass = (s.plane q).pass

theorem LayerKept.trans {s u v : State} (h : LayerKept s u) (k : LayerKept u v) : LayerKept s v :=
  ⟨fun f hf => (k.get f hf).trans (h.get f hf), fun q => (k.pass q).trans (h.pass q)⟩

/-- An update of other parts of the state. -/
theorem LayerKept.of_parts {s u : State} (h : (u.line, u.regs) = (s.line, s.regs)) : LayerKept s u := by
  obtain ⟨hl, hr⟩ := Prod.mk.inj h
  exact ⟨fun f _ => by simp [State.get, hr], fun q => by simp [State.plane, hl]⟩

theorem LayerKept.refl (s : State) : LayerKept s s := .of_parts rfl

theorem LayerKept.ite {s u v : State} {c : Prop} [Decidable c] (hu : LayerKept s u) (hv : LayerKept s v) :
    LayerKept s (if c then u else v) := by
  split
  · exact hu
  · exact hv

/-- A fold of steps that leave the layers leaves them. -/
theorem LayerKept.foldl {α : Type} {f : State → α → State} {l : List α} (hf : ∀ s, ∀ a ∈ l, LayerKept s (f s a)) (s : State) :
    LayerKept s (l.foldl f s) :=
  List.foldlRecOn (motive := LayerKept s) l f (.refl s) fun u hu a ha => hu.trans (hf u a ha)

/-- A write of a field outside the words of the layers; `setB`, `setS`, `inc` and `incSat` are such writes. -/
theorem LayerKept.set (s : State) {f : Fld} (hf : f.offLayers) (v : Nat) : LayerKept s (s.set f v) := by
  refine ⟨fun q hq => State.get_set_other s ?_ v, fun _ => rfl⟩
  simp only [Fld.key]; omega

theorem LayerKept.modPlane (s : State) (p : Nat) {f : PlaneSt → PlaneSt} (hf : ∀ x, (f x).pass = x.pass := by exact fun _ => rfl) :
    LayerKept s (s.modPlane p f) := ⟨fun _ _ => rfl, fun q => modAt_getD_kept hf p q _ _⟩

section
variable {s u : State}

theorem ReadFrame.layerKept (h : ReadFrame s u) : LayerKept s u :=
  ⟨fun f hf => h.get f (Fld.offMemory_of_addr hf.1 (by omega)), fun q => by rw [State.plane, h.line]; rfl⟩

theorem StoreFrame.layerKept (h : StoreFrame s u) : LayerKept s u :=
  ⟨fun f hf => h.get f (Fld.offMemory_of_addr hf.1 (by omega)), fun q => by rw [State.plane, h.line]; rfl⟩

end

section
variable (s : State) {p : Nat}

theorem LayerKept.raise (c n : Nat) (a : List Byte) : LayerKept s (s.raise c n a) := (ReadFrame.raise s c n a).layerKept

/-! ### The flip of a table -/

theorem LayerKept.modLoop (f : LoopPlane → LoopPlane) : LayerKept s (s.modLoop p f) := .of_parts rfl

theorem LayerKept.workWrite (off : Nat) (bs : List Byte) : LayerKept s (s.workWrite p off bs) := by
  have hwrite := (StoreFrame.writeMem s s.mirrors (s.workAddr p + off) bs).layerKept
  unfold State.workWrite
  split
  · generalize s.writeMem s.mirrors (s.workAddr p + off) bs = r at hwrite
    exact hwrite.trans (ReadFrame.meetUes r.1 r.2 9).layerKept
  · exact .refl s

theorem LayerKept.zeroCorr : LayerKept s (s.zeroCorr p) := by
  refine (LayerKept.modLoop s _).trans (.foldl (fun u i _ => .set u ?_ _) _)
  simp only [Fld.offLayers, Reg.MEASURE_PL_CORR]; omega

theorem LayerKept.loopFlip (table : Nat) (xoff : List Int) : LayerKept s (s.loopFlip p table xoff) := by
  unfold State.loopFlip
  dsimp only
  refine LayerKept.trans (LayerKept.trans (.modLoop s _) (.ite (.modLoop _ _) (.refl _)))
    (.ite (.refl _) (.ite ((LayerKept.workWrite _ _ _).trans (.zeroCorr _)) (.ite (.modLoop _ _) (.ite (.workWrite _ _ _) (.refl _)))))

theorem LayerKept.tableFlip (table line : Nat) : LayerKept s (s.tableFlip p table line) := by
  have hxoff : ∀ (u : State) (v : State → Nat → Int), LayerKept u ((List.range 48).foldl (fun s h =>
      s.setS (Reg.HTONE_PL_XOFF_OFFSET p h) (v s h)) u) := fun u v => by
    refine .foldl (fun w h _ => .set w ?_ _) u
    simp only [Fld.offLayers, Reg.HTONE_PL_XOFF_OFFSET]; omega
  have hdead : ∀ (u : State) (total : Nat), LayerKept u (u.deadEvents p total) := fun u total =>
    (LayerKept.modLoop u _).trans (.foldl (fun w _ _ => .raise w _ _ _) _)
  unfold State.tableFlip
  dsimp only
  refine LayerKept.trans (LayerKept.trans (LayerKept.trans (LayerKept.trans ?_ (.ite (hxoff _ _) (.refl _))) (.raise _ _ _ _))
    (.loopFlip _ _ _)) (.ite (hdead _ _) (.refl _))
  refine ((LayerKept.set s ?_ _).trans (.set _ ?_ _)).trans (.set _ ?_ _)
  · simp only [Fld.offLayers, Reg.HTONE_PL_TABLES_BANK]; omega
  · simp only [Fld.offLayers, Reg.HTONE_PL_TABLES_PENDING]; omega
  · simp only [Fld.offLayers, Reg.HTONE_PL_FLIPS_COUNT]; omega

theorem LayerKept.idleFlips : LayerKept s (s.idleFlips p) :=
  .foldl (fun u t _ => .ite (.tableFlip u t noLine) (.refl u)) s

/-! ### What the block shows of jobs and rings -/

theorem LayerKept.showJobs : LayerKept s s.showJobs := by
  have hplanes : ∀ u : State, ∀ q ∈ List.range 4, LayerKept u
      (let u := (u.setB (Reg.LINEGEN_PL_STATUS_PRINTING q) (u.prints q)).setB (Reg.LINEGEN_PL_STATUS_ARMED q) (u.armed q)
       if u.prints q then u
       else (u.setB (Reg.LINEGEN_PL_STATUS_HALTED q) false).setB (Reg.LINEGEN_PL_STATUS_REVERSED q) false) := fun u q hq => by
    have hq4 := List.mem_range.1 hq
    refine LayerKept.trans ((LayerKept.set u ?_ _).trans (.set _ ?_ _)) (.ite (.refl _) ((LayerKept.set _ ?_ _).trans (.set _ ?_ _)))
    · simp only [Fld.offLayers, Reg.LINEGEN_PL_STATUS_PRINTING]; omega
    · simp only [Fld.offLayers, Reg.LINEGEN_PL_STATUS_ARMED]; omega
    · simp only [Fld.offLayers, Reg.LINEGEN_PL_STATUS_HALTED]; omega
    · simp only [Fld.offLayers, Reg.LINEGEN_PL_STATUS_REVERSED]; omega
  have hids : ∀ (u : State) (a b c d e : Nat) (x y : Bool), LayerKept u
      (((((((u.set Reg.JOB_STATE_RUNNING_ID a).set Reg.JOB_STATE_QUEUED_ID b).set Reg.JOB_STATE_QUEUED_ARM c).setB
        Reg.JOB_STATE_END_SET x).set Reg.JOB_REPEAT_LINES d).setB Reg.LINEGEN_ARM_STATUS_ARMED y).set
        Reg.LINEGEN_ARM_STATUS_KIND e) := fun u a b c d e x y =>
    LayerKept.trans (LayerKept.trans (LayerKept.trans (LayerKept.trans (LayerKept.trans (LayerKept.trans
      (.set _ (by decide) _) (.set _ (by decide) _)) (.set _ (by decide) _)) (.set _ (by decide) _)) (.set _ (by decide) _))
      (.set _ (by decide) _)) (.set _ (by decide) _)
  exact (LayerKept.foldl hplanes s).trans (hids _ _ _ _ _ _ _ _)

theorem LayerKept.showRings : LayerKept s s.showRings := by
  refine .foldl (fun u q hq => ?_) s
  have hq4 := List.mem_range.1 hq
  refine (LayerKept.set u ?_ _).trans (.set _ ?_ _)
  · simp only [Fld.offLayers, Reg.JOB_RING_STATUS_BOUND]; omega
  · simp only [Fld.offLayers, Reg.JOB_RING_STATUS_LOW]; omega

/-! ### Missed lines -/

theorem LayerKept.putDefect (d : DefectEnt) : LayerKept s (s.putDefect d) := by
  refine .ite (.set s (by decide) _) ?_
  have hput : LayerKept s { s with line := { s.line with defects := s.line.defects ++ [d] } } := ⟨fun _ _ => rfl, fun _ => rfl⟩
  exact hput.trans (.set _ (by decide) _)

theorem LayerKept.closeRun (stop : Int) : LayerKept s (s.closeRun p stop) := by
  unfold State.closeRun
  split
  · exact .refl s
  · exact ((LayerKept.modLoop s _).trans (.modPlane _ p)).trans (.putDefect _ _)

theorem LayerKept.missRun (cause k : Nat) (ref : Int) : LayerKept s (s.missRun p cause k ref) := by
  unfold State.missRun
  split
  · exact .ite (.modPlane s p) ((LayerKept.closeRun s _).trans (.modPlane _ p))
  · exact .modPlane s p

theorem LayerKept.missHead (hp : p < 4) (seq k h cause at_ : Nat) : LayerKept s (s.missHead p seq k h cause at_) := by
  unfold State.missHead
  split
  · exact .refl s
  · refine .ite (.refl s) ?_
    refine LayerKept.trans (LayerKept.trans (.ite (.set s ?_ _) (.refl s)) (.modPlane _ p))
      (.modPlane _ p)
    simp only [Fld.offLayers, Reg.LINEGEN_PL_MISSED]; omega

theorem LayerKept.gapEnds (ref : Int) : LayerKept s (s.gapEnds p ref) := by
  have hgap : LayerKept s (s.modPlane p fun x => { x with gapFrom := none }) := .modPlane s p
  have hmarks : ∀ (u : State) (stop : Int), LayerKept u (u.modPlane p fun x => { x with marks := marksTo stop x.marks }) :=
    fun u _ => .modPlane u p
  unfold State.gapEnds
  refine .ite (.refl s) ?_
  dsimp only
  split
  · refine .ite ?_ hgap
    refine LayerKept.trans (LayerKept.trans ?_ ((LayerKept.set _ (by decide) _).trans (.set _ (by decide) _))) (.raise _ _ _ _)
    exact (hgap.trans (hmarks _ _)).trans (.of_parts rfl)
  · exact hgap

theorem LayerKept.settleLine (l : Line) : LayerKept s (s.settleLine p l) := by
  have hdone : LayerKept s ((s.modLine p l.seq l.k (fun l => { l with settled := true })).modJob l.seq
      (·.modPlane p (fun x => { x with done := l.k + 1 }))) := (LayerKept.modPlane s p).trans (.of_parts rfl)
  unfold State.settleLine
  dsimp only
  refine hdone.trans ?_
  split
  · exact (LayerKept.missRun _ _ _ _).trans (.modPlane _ p)
  · exact ((LayerKept.closeRun _ _).trans (.modPlane _ p)).trans (.gapEnds _ _)

theorem LayerKept.settle (n : Nat) : LayerKept s (s.settle p n) := by
  induction n generalizing s with
  | zero => exact .refl s
  | succ n ih =>
    unfold State.settle
    split
    · exact .refl s
    · exact .ite ((LayerKept.settleLine s _).trans (ih _)) (.refl s)

/-! ### The stop at a fault -/

theorem LayerKept.planeStops : LayerKept s (s.planeStops p) :=
  .ite (.refl s) ((LayerKept.closeRun s _).trans (.idleFlips _))

theorem LayerKept.settled : LayerKept s (s.settled p) := by
  have hforget : LayerKept s ((s.settle p (s.plane p).lines.length).forget p) :=
    (LayerKept.settle s _).trans (.modPlane _ p)
  exact .ite (hforget.trans ((LayerKept.planeStops _).trans (.showJobs _))) hforget

theorem LayerKept.planesStop (was : List Nat) : LayerKept s (s.planesStop was) :=
  ((LayerKept.foldl (fun u _ _ => .planeStops u) s).trans (.showJobs _)).trans (.showRings _)

theorem LayerKept.endJob (j : JobRun) (cause : Nat) (pos : Int) : LayerKept s (s.endJob j cause pos) := by
  have hviews : ∀ u : State, LayerKept u (j.planeList.foldl (fun s p => s.keepView j p) u) := fun u =>
    .foldl (fun v _ _ => .ite (.refl v) (.modLoop v _)) u
  have hleaves : LayerKept s { s with job := { s.job with running := none, last := some j } } := .of_parts rfl
  exact ((hleaves.trans (hviews _)).trans (.raise _ _ _ _)).trans (.planesStop _ _)

theorem LayerKept.planeFault (hp : p < 4) : LayerKept s (s.planeFault p) := by
  refine .ite (.refl s) ?_
  refine LayerKept.trans (LayerKept.trans ?_ ((LayerKept.settled _).trans (.modPlane _ p))) (.modPlane _ p)
  exact .foldl (fun u _ _ => .foldl (fun v _ _ => .missHead v hp _ _ _ _ _) u) s

theorem LayerKept.faultStop : LayerKept s s.faultStop := by
  have hplanes : LayerKept s ((List.range 4).foldl State.planeFault s) :=
    .foldl (fun u q hq => .planeFault u (List.mem_range.1 hq)) s
  unfold State.faultStop
  split
  · exact .refl s
  · dsimp only
    generalize (List.range 4).foldl State.planeFault s = u at hplanes
    have hdropped : LayerKept s { u with job := { u.job with queued := none } } := hplanes.trans (.of_parts rfl)
    exact (hdropped.trans (.endJob _ _ _ _)).trans (.planesStop _ _)

end

end Sys2Proof.Machine
end

section
/-! SUPPORT. CHECK_PASS_DONE, and the statement on the ends of packs, fills, copies and check passes. -/

namespace Sys2Proof.Machine

/-! ### The end of a check pass (R167, R169) -/

section
variable {s u w : State} {p rep : Nat} {body : List Byte}

/-- A check pass has ended: it is off the plane, and CHECKING shows so. -/
def State.passEnds (s : State) (p : Nat) : State :=
  (s.modPlane p fun x => { x with pass := none }).setB (Reg.COMPOSE_PL_PROT_STATUS_CHECKING p) false

/-- A check pass counts, and LAST holds what it found. -/
def State.passCounted (s : State) (p last : Nat) : State :=
  (s.inc (Reg.COMPOSE_PL_PROT_PASSES p)).set (Reg.COMPOSE_PL_PROT_LAST p) last

/-- What a check pass reads of the area of a layer. -/
def State.passReads (s : State) (p : Nat) : State × List Byte × List Nat :=
  s.fetch (protArea p) (s.get (Reg.COMPOSE_PL_PROT_LEN p) - 1024)

/-- A check pass that could read the area compares the CRC of the layer with that of its load. -/
theorem State.passDone_read (h : (s.plane p).pass = some rep) (hr : (s.passEnds p).passReads p = (w, body, [])) :
    s.passDone p =
      (let crc := crc32c (w.readTab false (protIndex p) 1024 ++ body)
       let u := w.passCounted p crc
       if crc = u.get (Reg.COMPOSE_PL_PROT_CRC p) then (u, none)
       else (u.setB (Reg.COMPOSE_PL_PROT_STATUS_FAULT p) true, some (crc, rep))) := by
  unfold State.passReads State.passEnds at hr
  unfold State.passDone
  rw [h]
  dsimp only
  rw [hr]
  rfl

/-- A check pass that could not read it finds a fault. -/
theorem State.passDone_unread {bad : List Nat} (h : (s.plane p).pass = some rep)
    (hr : (s.passEnds p).passReads p = (w, body, bad)) (hbad : bad ≠ []) : s.passDone p =
      ((((w.inc (Reg.COMPOSE_PL_PROT_PASSES p)).meetUes bad 2).set (Reg.COMPOSE_PL_PROT_LAST p) 0).setB
        (Reg.COMPOSE_PL_PROT_STATUS_FAULT p) true, some (0, rep)) := by
  unfold State.passReads State.passEnds at hr
  unfold State.passDone
  rw [h]
  dsimp only
  rw [hr]
  exact if_pos (by simpa using hbad)

theorem State.checkPass_clean (h : s.passDone p = (u, none)) : s.checkPass p = u := by
  unfold State.checkPass
  rw [h]

theorem State.checkPass_fault {crc : Nat} (h : s.passDone p = (u, some (crc, rep))) :
    s.checkPass p = (u.raise evProtectedFault 0 (leBytes 1 p ++ [0, 0, 0] ++ leBytes 4 crc ++ leBytes 8 rep)).faultStop := by
  unfold State.checkPass
  rw [h]

/-- A check pass of a layer has ended, with `last` in LAST. -/
structure PassShown (p last : Nat) (s u : State) : Prop where
  pass : (u.plane p).pass = none
  checking : u.get (Reg.COMPOSE_PL_PROT_STATUS_CHECKING p) = 0
  passes : u.get (Reg.COMPOSE_PL_PROT_PASSES p) =
    low (Reg.COMPOSE_PL_PROT_PASSES p).w (s.get (Reg.COMPOSE_PL_PROT_PASSES p) + 1)
  last : u.get (Reg.COMPOSE_PL_PROT_LAST p) = low 32 last

theorem layerFields_ofLayers (hp : p < 4) : ∀ f ∈ layerFields p, f.ofLayers := by
  simp only [layerFields, List.mem_cons, List.not_mem_nil, or_false, forall_eq_or_imp, forall_eq, Fld.ofLayers,
    Reg.COMPOSE_PL_PROT_STATUS_LOADED, Reg.COMPOSE_PL_PROT_STATUS_COPYING, Reg.COMPOSE_PL_PROT_STATUS_CHECKING,
    Reg.COMPOSE_PL_PROT_STATUS_FAULT, Reg.COMPOSE_PL_PROT_STATUS_RECTS, Reg.COMPOSE_PL_PROT_CRC, Reg.COMPOSE_PL_PROT_LAST,
    Reg.COMPOSE_PL_PROT_PASSES, Reg.COMPOSE_PL_PROT_LEN]
  omega

theorem PassShown.kept {last : Nat} (hp : p < 4) (h : PassShown p last s u) (k : LayerKept u w) : PassShown p last s w := by
  have hget : ∀ f ∈ layerFields p, w.get f = u.get f := fun f hf => k.get f (layerFields_ofLayers hp f hf)
  exact ⟨(k.pass p).trans h.pass, (hget _ (by simp [layerFields])).trans h.checking,
    (hget _ (by simp [layerFields])).trans h.passes, (hget _ (by simp [layerFields])).trans h.last⟩

/-- The fault of a layer is shown beside the rest. -/
theorem PassShown.fault {last : Nat} (h : PassShown p last s u) :
    PassShown p last s (u.setB (Reg.COMPOSE_PL_PROT_STATUS_FAULT p) true) := by
  have hget : ∀ (j : Nat) (q : Fld), (layerFields p)[j]? = some q → 3 ≠ j →
      (u.setB (Reg.COMPOSE_PL_PROT_STATUS_FAULT p) true).get q = u.get q := fun j q hq hj =>
    State.get_set_layerFields u (i := 3) rfl hq hj _
  exact ⟨h.pass, (hget 2 _ rfl (by decide)).trans h.checking, (hget 7 _ rfl (by decide)).trans h.passes,
    (hget 6 _ rfl (by decide)).trans h.last⟩

/-- LAST is shown beside the rest. -/
theorem PassShown.setLast {last : Nat} (hpass : (u.plane p).pass = none)
    (hchecking : u.get (Reg.COMPOSE_PL_PROT_STATUS_CHECKING p) = 0)
    (hpasses : u.get (Reg.COMPOSE_PL_PROT_PASSES p) =
      low (Reg.COMPOSE_PL_PROT_PASSES p).w (s.get (Reg.COMPOSE_PL_PROT_PASSES p) + 1)) :
    PassShown p last s (u.set (Reg.COMPOSE_PL_PROT_LAST p) last) := by
  have hget : ∀ (j : Nat) (q : Fld), (layerFields p)[j]? = some q → 6 ≠ j →
      (u.set (Reg.COMPOSE_PL_PROT_LAST p) last).get q = u.get q := fun j q hq hj =>
    State.get_set_layerFields u (i := 6) rfl hq hj _
  exact ⟨hpass, (hget 2 _ rfl (by decide)).trans hchecking, (hget 7 _ rfl (by decide)).trans hpasses,
    State.get_set_same _ _ _⟩

/-- What a pass that has ended leaves, before it counts. -/
theorem State.passEnds_shows (hp : p < s.line.planes.length) : ((s.passEnds p).plane p).pass = none ∧
    (s.passEnds p).get (Reg.COMPOSE_PL_PROT_STATUS_CHECKING p) = 0 ∧
    ∀ j q, (layerFields p)[j]? = some q → 2 ≠ j → (s.passEnds p).get q = s.get q :=
  ⟨congrArg PlaneSt.pass (State.plane_modPlane_same s _ hp), State.get_set_same _ _ _, fun _ _ hq hj =>
    State.get_set_layerFields (s.modPlane p fun x => { x with pass := none }) (i := 2) (f := Reg.COMPOSE_PL_PROT_STATUS_CHECKING p)
      rfl hq hj _⟩

theorem State.inc_passes (s : State) (p : Nat) : (s.inc (Reg.COMPOSE_PL_PROT_PASSES p)).get (Reg.COMPOSE_PL_PROT_PASSES p) =
      low (Reg.COMPOSE_PL_PROT_PASSES p).w (s.get (Reg.COMPOSE_PL_PROT_PASSES p) + 1) ∧
    ∀ j q, (layerFields p)[j]? = some q → 7 ≠ j → (s.inc (Reg.COMPOSE_PL_PROT_PASSES p)).get q = s.get q :=
  ⟨State.get_set_same _ _ _, fun _ _ hq hj => State.get_set_layerFields s (i := 7) rfl hq hj _⟩

theorem SameData.passEnds (h : SameData s u) (p : Nat) : SameData s (u.passEnds p) := by
  have hplane : SameData s (u.modPlane p fun y => { y with pass := none }) := h.of_parts rfl
  unfold State.passEnds State.setB
  exact hplane.set (layerFields_offInit (p := p) (by simp [layerFields])) _

theorem State.meetCes_host (s : State) (a n : Nat) : (s.meetCes a n).host = s.host :=
  foldl_keeps (P := fun u : State => u.host = s.host) (fun u b hu => (State.meetCe_host u b).trans hu) _ s rfl

end

/-! ### CHECK_PASS_DONE -/

section
variable {s u r : State} {t rep last crc : Nat} {p : Fin 4}

/-- A pass that finds a fault stops the job; what is shown of it stays (R169). -/
theorem State.checkPass_faults (h : PassShown p last s u)
    (hd : r.passDone p = (u.setB (Reg.COMPOSE_PL_PROT_STATUS_FAULT p) true, some (crc, rep))) :
    PassShown p last s (r.checkPass p) ∧ (r.checkPass p).flag (Reg.COMPOSE_PL_PROT_STATUS_FAULT p) = true := by
  rw [State.checkPass_fault hd]
  have hfault : (u.setB (Reg.COMPOSE_PL_PROT_STATUS_FAULT p) true).flag (Reg.COMPOSE_PL_PROT_STATUS_FAULT p) = true :=
    decide_eq_true (State.get_set_same _ _ _)
  have hshown := h.fault
  generalize u.setB (Reg.COMPOSE_PL_PROT_STATUS_FAULT p) true = v at hfault hshown
  have hkept := (LayerKept.raise v evProtectedFault 0 (leBytes 1 p ++ [0, 0, 0] ++ leBytes 4 crc ++ leBytes 8 rep)).trans
    (.faultStop _)
  refine ⟨hshown.kept p.isLt hkept, ?_⟩
  rw [State.flag, hkept.get _ (layerFields_ofLayers p.isLt _ (by simp [layerFields]))]
  exact hfault

/-- The state in which the block has read the area of a layer, at the end of a check pass. -/
structure PassRead (p : Nat) (s w : State) : Prop where
  pass : (w.plane p).pass = none
  checking : w.get (Reg.COMPOSE_PL_PROT_STATUS_CHECKING p) = 0
  get : ∀ j q, (layerFields p)[j]? = some q → 2 ≠ j → w.get q = s.get q
  host : w.host = s.host
  dram : w.dram = s.dram
  tab0 : w.tab0 = s.tab0
  tab1 : w.tab1 = s.tab1

theorem State.passReads_eq (hf : s.mem.filling = []) (hplanes : s.line.planes.length = 4) (t : Nat) (p : Fin 4) :
    let n := s.get (Reg.COMPOSE_PL_PROT_LEN p) - 1024
    ∃ w, ((s.elapse t).passEnds p).passReads p = (w, s.readMem (protArea p) n, s.badBlocks (protArea p) n) ∧
      PassRead p s w := by
  intro n
  obtain ⟨hpass, hchecking, hget⟩ := State.passEnds_shows (s := s.elapse t) (p := p) (by rw [State.elapse_line]; omega)
  have hsame := (SameData.elapse s t).passEnds p
  obtain ⟨hhost, hdram, h0, h1⟩ : ((s.elapse t).passEnds p).host = s.host ∧ ((s.elapse t).passEnds p).dram = s.dram ∧
      ((s.elapse t).passEnds p).tab0 = s.tab0 ∧ ((s.elapse t).passEnds p).tab1 = s.tab1 :=
    ⟨State.elapse_host s t, State.elapse_dram s t, State.elapse_tab0 s t, State.elapse_tab1 s t⟩
  generalize (s.elapse t).passEnds p = e at hpass hchecking hget hsame hhost hdram h0 h1
  have hread := ReadFrame.met e (protArea p) n
  refine ⟨(e.meetCes (protArea p) n).used, ?_, ?_, ?_, fun j q hq hj => ?_, ?_, ?_, ?_, ?_⟩
  · rw [State.passReads, hget 8 _ rfl (by decide), State.elapse_get, hsame.fetch hf]
  · rw [State.plane, hread.line]
    exact hpass
  · exact (hread.get _ (layerFields_offMemory (p := p) (by simp [layerFields]))).trans hchecking
  · rw [hread.get q (layerFields_offMemory (List.mem_of_getElem? hq)), hget j q hq hj, State.elapse_get]
  · rw [State.used_host, State.meetCes_host, hhost]
  · exact hread.dram.trans hdram
  · exact hread.tabs.1.trans h0
  · exact hread.tabs.2.1.trans h1

/-- After the pass has counted, its end and its count are shown, and with them what LAST is set to. -/
theorem PassRead.counted {w x : State} (h : PassRead p s w)
    (k : ReadFrame (w.inc (Reg.COMPOSE_PL_PROT_PASSES p)) x) (last : Nat) :
    PassShown p last s (x.set (Reg.COMPOSE_PL_PROT_LAST p) last) := by
  obtain ⟨hpasses, hkept⟩ := State.inc_passes w p
  have hline : (w.inc (Reg.COMPOSE_PL_PROT_PASSES p)).line = w.line := rfl
  refine .setLast ?_ ?_ ?_
  · rw [State.plane, k.line, hline]
    exact h.pass
  · rw [k.get _ (layerFields_offMemory (p := p) (by simp [layerFields])), hkept 2 _ rfl (by decide), h.checking]
  · rw [k.get _ (layerFields_offMemory (p := p) (by simp [layerFields])), hpasses, h.get 7 _ rfl (by decide)]

/-- A pass that counts leaves the rest of what the layer shows, the interpreter and DRAM. -/
theorem PassRead.counted_keeps {w : State} (h : PassRead p s w) (last : Nat) :
    (w.passCounted p last).host = s.host ∧ (w.passCounted p last).dram = s.dram ∧
      (w.passCounted p last).get (Reg.COMPOSE_PL_PROT_CRC p) = s.get (Reg.COMPOSE_PL_PROT_CRC p) ∧
      (w.passCounted p last).get (Reg.COMPOSE_PL_PROT_STATUS_FAULT p) = s.get (Reg.COMPOSE_PL_PROT_STATUS_FAULT p) := by
  have hget : ∀ j q, (layerFields p)[j]? = some q → 6 ≠ j → 7 ≠ j → 2 ≠ j → (w.passCounted p last).get q = s.get q :=
    fun j q hq h6 h7 h2 => (State.get_set_layerFields _ (i := 6) (f := Reg.COMPOSE_PL_PROT_LAST p) rfl hq h6 _).trans
      (((State.inc_passes w p).2 j q hq h7).trans (h.get j q hq h2))
  refine ⟨?_, ?_, hget 5 _ rfl (by decide) (by decide) (by decide), hget 3 _ rfl (by decide) (by decide) (by decide)⟩
  · rw [State.passCounted, State.set_host, State.inc_host, h.host]
  · rw [State.passCounted, State.set_dram, State.inc_dram, h.dram]

theorem exec_checkPassDone (hl : Live s) (hf : s.mem.filling = []) (hplanes : s.line.planes.length = 4)
    (hpass : (s.plane p).pass = some rep) :
    let n := s.get (Reg.COMPOSE_PL_PROT_LEN p) - 1024
    let crc := crc32c (s.readTab false (protIndex p) 1024 ++ s.readMem (protArea p) n)
    let bad := s.badBlocks (protArea p) n
    ∃ v, exec (.checkPassDone p t) s = .next v ∧ (v.plane p).pass = none ∧
      v.get (Reg.COMPOSE_PL_PROT_STATUS_CHECKING p) = 0 ∧
      v.get (Reg.COMPOSE_PL_PROT_PASSES p) = low (Reg.COMPOSE_PL_PROT_PASSES p).w
        (s.get (Reg.COMPOSE_PL_PROT_PASSES p) + 1) ∧
      v.get (Reg.COMPOSE_PL_PROT_LAST p) = (if bad = [] then low 32 crc else 0) ∧
      (bad = [] → crc = s.get (Reg.COMPOSE_PL_PROT_CRC p) → v.host = s.host ∧ v.dram = s.dram ∧
        v.get (Reg.COMPOSE_PL_PROT_STATUS_FAULT p) = s.get (Reg.COMPOSE_PL_PROT_STATUS_FAULT p)) ∧
      ((bad ≠ [] ∨ crc ≠ s.get (Reg.COMPOSE_PL_PROT_CRC p)) → v.flag (Reg.COMPOSE_PL_PROT_STATUS_FAULT p) = true) := by
  intro n crc bad
  have hexec : exec (.checkPassDone p t) s = .next ((s.elapse t).checkPass p) := by
    show execCheckPassDone p t s = _
    unfold execCheckPassDone
    rw [eventAwake_live hl]
  refine ⟨_, hexec, ?_⟩
  have hpass' : ((s.elapse t).plane p).pass = some rep := by simpa [State.plane] using hpass
  obtain ⟨w, hreads, hw⟩ := State.passReads_eq hf hplanes t p
  have hcrc : crc32c (w.readTab false (protIndex p) 1024 ++ s.readMem (protArea p) n) = crc := by
    rw [State.readTab_congr hw.tab0 hw.tab1]
  by_cases hbad : bad = []
  · rw [show s.badBlocks (protArea p) (s.get (Reg.COMPOSE_PL_PROT_LEN p) - 1024) = [] from hbad] at hreads
    have hdone := State.passDone_read hpass' hreads
    obtain ⟨hhost, hdram, hown, hfault⟩ := hw.counted_keeps crc
    have hshown : PassShown p crc s (w.passCounted p crc) := hw.counted (.refl _) crc
    dsimp only at hdone
    rw [hcrc, hown] at hdone
    rw [if_pos hbad]
    by_cases he : crc = s.get (Reg.COMPOSE_PL_PROT_CRC p)
    · rw [if_pos he] at hdone
      rw [State.checkPass_clean hdone]
      exact ⟨hshown.pass, hshown.checking, hshown.passes, hshown.last, fun _ _ => ⟨hhost, hdram, hfault⟩,
        fun h => absurd (h.resolve_left (not_not_intro hbad)) (not_not_intro he)⟩
    · rw [if_neg he] at hdone
      obtain ⟨hv, hflag⟩ := State.checkPass_faults hshown hdone
      exact ⟨hv.pass, hv.checking, hv.passes, hv.last, fun _ h => absurd h he, fun _ => hflag⟩
  · have hdone := State.passDone_unread hpass' hreads hbad
    obtain ⟨hv, hflag⟩ := State.checkPass_faults (hw.counted (.meetUes _ bad 2) 0) hdone
    rw [if_neg hbad]
    exact ⟨hv.pass, hv.checking, hv.passes, hv.last, fun h => absurd h hbad, fun _ => hflag⟩

end

/-- Settles O48: each event's effect from the state in which its time has come, clause by clause. -/
theorem copyAndPackEventsComplete : Obligations.CopyAndPackEventsComplete := by
  intro t s hl hwf hf hh u
  refine ⟨fun k j hslots hj hstate hcrit => exec_evtPackDone hl hf hslots hj hstate hcrit, fun f l hfills => ⟨?_, ?_⟩,
    fun p k c hc => ⟨?_, ?_⟩, fun p x hplanes hx => ⟨?_, ?_⟩, fun p rep hplanes hpass => ?_⟩
  · exact ⟨_, exec_memFillDone hl hfills, (ReadFrame.cmdDone ..).queues.2.2.1.trans (State.fills_filled _ f l)⟩
  · exact exec_memFillDone_writes hl hf hh hfills
  · exact exec_tableCopyDone_stored hl hc hwf hf
  · exact fun hbad hk => exec_tableCopyDone_unread hl hc hf hbad fun h => hk h.1 h.2
  · exact exec_ploadCopyDone_read hl hf hplanes hx hwf hh
  · exact exec_ploadCopyDone_unread hl hf hplanes hx
  · exact exec_checkPassDone hl hf hplanes hpass

end Sys2Proof.Machine
end

section
/-! SUPPORT. The statement on TABLE_LOAD: what it answers at each of its checks, and the copy that it begins. -/

namespace Sys2Proof.Machine

section
variable {s : State} {p table flipAt src len tag : Nat} {on : Iface}

/-- A table of which each plane has a share of a pool. -/
abbrev tableShared (table : Nat) : Prop := table = 1 ∨ table = 3 ∨ table = 4

/-- The share exceeds its pool, or overlaps the share of another plane that has a head map. -/
abbrev State.shareBad (s : State) (p table : Nat) : Prop :=
  s.shareFits p table = false ∨ ∃ q, q < 4 ∧ q ≠ p ∧ s.mapped q = true ∧ s.sharesMeet table p q = true

/-- The source has a wrong length, alignment or range, or the share has no place (R179). -/
abbrev State.tableBad (s : State) (p table src len : Nat) : Prop :=
  (¬(table = 2 ∧ src = 0) ∧ (len ≠ s.tableLen p table ∨ src % 64 ≠ 0 ∨ inDram src len = false)) ∨
    (tableShared table ∧ s.shareBad p table)

/-- The load whose `head` has been read joins the copies in progress, with the table's present share. -/
def State.beginCopy (s : State) (p table flipAt src len tag : Nat) (on : Iface) (head : List Byte) : State :=
  let v := (s.putTabBit (Reg.HTONE_PL_TABLES_COPYING p) table true).putTabBit (Reg.HTONE_PL_TABLES_FLIP_SEL p) table
    (flipAt == 1)
  { v with tone := { v.tone with
    copies := v.tone.copies ++
      [⟨p, table, v.shareBase p table, v.shareSize p table, src, len, tag, on, head, false⟩] } }

theorem cmdTableLoad_busy (hs : s.standby = false) (hb : s.tableBusy p table = true) :
    cmdTableLoad p table flipAt src len tag on s = Res.err stBusy s := by
  unfold cmdTableLoad State.tableLoad
  rw [if_neg (by simp [hs]), if_pos hb]

theorem cmdTableLoad_unmapped (hs : s.standby = false) (hb : s.tableBusy p table = false) (ht : tableShared table)
    (hm : s.mapped p = false) : cmdTableLoad p table flipAt src len tag on s = Res.err stBadState s := by
  unfold cmdTableLoad State.tableLoad
  rw [if_neg (by simp [hs]), if_neg (by simp [hb]), if_pos (by simpa [hm, or_assoc] using ht)]

/-- A load of a table that is free, of a plane that has it, is judged by its ranges, then by its head. -/
theorem cmdTableLoad_judged (hs : s.standby = false) (hb : s.tableBusy p table = false)
    (hm : tableShared table → s.mapped p = true) :
    cmdTableLoad p table flipAt src len tag on s =
      if s.tableBad p table src len then Res.err stBadParam s
      else
        let x := s.fetch src (tableHeadLen table)
        if !x.2.2.isEmpty then Res.err stMemUncorrectable (x.1.meetUes x.2.2 1)
        else if !tableHeadOk table x.2.1 then Res.err stBadParam x.1
        else ⟨stAccepted, [], x.1.beginCopy p table flipAt src len tag on x.2.1, false⟩ := by
  have hhas : ¬((table == 1 || table == 3 || table == 4) && !s.mapped p) = true := by
    simpa [tableShared, or_assoc] using hm
  unfold cmdTableLoad State.tableLoad
  rw [if_neg (by simp [hs]), if_neg (by simp [hb]), if_neg hhas]
  refine if_congr ?_ rfl rfl
  simp [State.tableBad, tableShared, State.shareBad, and_assoc, or_assoc, imp_iff_not_or]

@[simp] theorem State.serving_tableBusy (h : Hdr) (c : HostCmd) :
    (s.serving h c).tableBusy p table = s.tableBusy p table := by
  simp [State.tableBusy, State.tabBit]

end

/-- Settles O23: each check of R179 in its order on the state that serves the command, then the reply. -/
theorem tableLoadChecks : Obligations.TableLoadChecks := by
  intro h p table flipAt src len s c u x refused shared screen meets bad hr hs
  have hserving : u.standby = false := (State.serving_standby s h c).trans hs
  have hmapped : ∀ q, u.mapped q = s.mapped q := State.serving_mapped h c
  have hbusy : ∀ b, s.tableBusy p table = b → u.tableBusy p table = b := fun b => (State.serving_tableBusy h c).trans
  have hbad : u.tableBad p table src len ↔ bad := by
    simp only [State.tableBad, State.shareBad, hmapped, bad, screen, meets, shared]
  have hjudged := fun hb (hm : shared → s.mapped p = true) =>
    cmdTableLoad_judged (flipAt := flipAt) (src := src) (len := len) (tag := h.tag) (on := h.iface) hserving
      (hbusy false hb) fun ht => (hmapped p).trans (hm ht)
  refine ⟨fun hb => ?_, fun hb ht hm => ?_, fun hb hm hbd => ?_, fun hb hm hgood hread hhead => ?_⟩
  · exact exec_refuses hr (cmdTableLoad_busy hserving (hbusy true hb)) rfl
  · exact exec_refuses hr (cmdTableLoad_unmapped hserving (hbusy false hb) ht ((hmapped p).trans hm)) rfl
  · exact exec_refuses hr ((hjudged hb hm).trans (if_pos (hbad.2 hbd))) rfl
  · have hread : ¬(!x.2.2.isEmpty) = true := by simp [hread]
    have hhead : ¬(!tableHeadOk table x.2.1) = true := by simp [hhead]
    refine exec_accepts hr ((hjudged hb hm).trans ?_) rfl fun _ => rfl
    exact (if_neg (mt hbad.1 hgood)).trans ((if_neg hread).trans (if_neg hhead))

end Sys2Proof.Machine
end

section
/-! SUPPORT. The statements on the head ports' commands: HEAD_PROFILE, HEAD_MAP, PORT_ENABLE, PORT_CLEAR and HEAD_READ, and
PREHEAT_TARGET with what it leaves of the registers. -/

namespace Sys2Proof.Machine

section
variable {s : State} {h : Hdr} {p : Nat}

/-! ### HEAD_PROFILE (R188) -/

section
variable {record : List Byte}

/-- The record is the plane's; its ports' pre-heat and timeout start afresh, and the plane's geometry is shown. -/
def State.takeProfile (s : State) (p : Nat) (record : List Byte) : State :=
  let v := (s.modPlane p (fun x => { x with profile := some record, lines := [] })).showProfile p
  (((v.plane p).map.foldl (fun s q => (s.putPreheat q 0 0).sretAfresh q) v).showShape p).showLookahead p

/-- HEAD_PROFILE of a plane not in use stores a legal record. -/
theorem cmdHeadProfile_legal (hs : s.standby = false) (hp : p ≤ 3) (hlen : record.length = 64)
    (hok : profileOk record s.recPhEnergyMax = true) (hu : s.inUse p = false) :
    cmdHeadProfile p record s = Res.ok (s.takeProfile p record) := by
  unfold cmdHeadProfile
  rw [if_neg (by simp [hs]), if_neg (by omega), if_neg (by simp [hu]), if_neg (by simp [hok])]
  rfl

theorem cmdHeadProfile_inUse (hs : s.standby = false) (hp : p ≤ 3) (hlen : record.length = 64) (hu : s.inUse p = true) :
    cmdHeadProfile p record s = Res.err stBadState s := by
  unfold cmdHeadProfile
  rw [if_neg (by simp [hs]), if_neg (by omega), if_pos hu]

/-- A record fails by its length or by its contents. -/
theorem cmdHeadProfile_illegal (hs : s.standby = false)
    (hbad : ¬(record.length = 64 ∧ profileOk record s.recPhEnergyMax = true)) (hu : s.inUse p = false) :
    cmdHeadProfile p record s = Res.err stBadParam s := by
  unfold cmdHeadProfile
  rw [if_neg (by simp [hs])]
  split
  next => rfl
  next hform =>
    have hok : ¬profileOk record s.recPhEnergyMax = true := fun hok => hbad ⟨by omega, hok⟩
    rw [if_neg (by simp [hu]), if_pos (by simpa using hok)]

/-- A HEAD_PROFILE that arrives names one of the four planes (R36 check 5). -/
theorem Ready.headProfile_plane (hr : Ready h (.headProfile p record) s) : p ≤ 3 := by
  simpa [HostCmd.valuesOk, upTo] using hr.values

end

/-! ### HEAD_MAP (R189) -/

section
variable {ports : List Nat}

theorem distinct_iff_nodup : ∀ l : List Nat, distinct l = true ↔ l.Nodup
  | [] => by simp [distinct]
  | a :: l => by simp [distinct, distinct_iff_nodup l]

/-- The ports are distinct and in the map of no other plane (R189). -/
abbrev State.mapLegal (s : State) (p : Nat) (ports : List Nat) : Prop :=
  ports.Nodup ∧ ∀ r, r < 4 → r ≠ p → ∀ q ∈ ports, q ∉ (s.plane r).map

/-- The map is the plane's; its ports of before and of now are shown, those that enter keep to its profile (log 174), and the
plane's geometry is shown. -/
def State.takeMap (s : State) (p : Nat) (ports : List Nat) : State :=
  let old := (s.plane p).map
  let v := (old ++ ports).foldl State.showPort (s.modPlane p (fun x => { x with map := ports, lines := [] }))
  (((ports.filter (fun q => decide (q ∉ old))).foldl (fun s q => s.enterMap p q) v).showShape p).showLookahead p

/-- HEAD_MAP of a plane not in use is judged by the map that it brings. -/
theorem cmdHeadMap_judged (hs : s.standby = false) (hports : ∀ q ∈ ports, q ≤ 47) (hu : s.inUse p = false) :
    cmdHeadMap p ports s = if s.mapLegal p ports then Res.ok (s.takeMap p ports) else Res.err stBadParam s := by
  have hrange : ports.any (fun q => decide (47 < q)) = false := by simpa using hports
  have hbad : (ports.any (fun q => decide (47 < q)) || !distinct ports ||
      (List.range 4).any (fun r => r != p && ports.any (fun q => decide (q ∈ (s.plane r).map)))) = true ↔
        ¬s.mapLegal p ports := by
    simp [hrange, State.mapLegal, ← distinct_iff_nodup, imp_iff_not_or]
  unfold cmdHeadMap
  rw [if_neg (by simp [hs]), if_neg (by simp [hu]), if_congr hbad rfl rfl, ite_not]
  rfl

theorem cmdHeadMap_inUse (hs : s.standby = false) (hu : s.inUse p = true) :
    cmdHeadMap p ports s = Res.err stBadState s := by
  unfold cmdHeadMap
  rw [if_neg (by simp [hs]), if_pos hu]

/-- A HEAD_MAP that arrives lists ports of the block (R36 check 5). -/
theorem Ready.headMap_ports (hr : Ready h (.headMap p ports) s) : ∀ q ∈ ports, q ≤ 47 := by
  have hv := hr.values
  simp only [HostCmd.valuesOk, upTo, Bool.and_eq_true, List.all_eq_true, decide_eq_true_eq] at hv
  exact hv.2

end

/-! ### PORT_ENABLE, PORT_CLEAR and HEAD_READ (R190, R215) -/

theorem cmdPortEnable_eq (hs : s.standby = false) (mask enable : Nat) : cmdPortEnable mask enable s =
    Res.ok ((portsOf mask).foldl (fun s q => s.enablePort q (enable == 1)) s) := by
  unfold cmdPortEnable
  rw [if_neg (by simp [hs])]

theorem cmdPortClear_eq (hs : s.standby = false) (mask : Nat) : cmdPortClear mask s =
    Res.okData (leBytes 8 (((portsOf mask).foldl State.clearPort s).stillFaulted mask))
      ((portsOf mask).foldl State.clearPort s) := by
  unfold cmdPortClear
  rw [if_neg (by simp [hs])]

/-- A command's arrival leaves what HEAD_READ tells of a port. -/
theorem cmdHeadRead_serving (s : State) (h : Hdr) (c : HostCmd) (q : Nat) : cmdHeadRead q (s.serving h c) =
    Res.okData (leBytes 2 (s.get (Reg.HEADPORT_HP_TEMP q)) ++ leBytes 2 (s.get (Reg.HEADPORT_HP_PREHEAT_COUNT q)) ++
      leBytes 4 (s.get (Reg.HEADPORT_HP_PREHEAT_WIDTH q)) ++ leBytes 4 (s.faultWord q) ++
      leBytes 4 (s.get (Reg.HEADPORT_HP_SRET_ERRORS q))) (s.serving h c) := by
  simp only [cmdHeadRead, State.faultWord, State.serving_get]

/-! ### PREHEAT_TARGET (R208) -/

section
variable {target : Int}

/-- TARGET of every port of the plane's map is written. -/
def State.putTarget (s : State) (p : Nat) (target : Int) : State :=
  (s.plane p).map.foldl (fun s q => s.setS (Reg.HEADPORT_HP_TEMP_TARGET q) target) s

theorem cmdPreheatTarget_inRange (hs : s.standby = false) (h0 : 0 ≤ target) (hmax : target ≤ s.recPhTargetMax) :
    cmdPreheatTarget p target s = Res.ok (s.putTarget p target) := by
  unfold cmdPreheatTarget
  rw [if_neg (by simp [hs]), if_neg (by omega)]
  rfl

theorem cmdPreheatTarget_outOfRange (hs : s.standby = false) (ho : target < 0 ∨ s.recPhTargetMax < target) :
    cmdPreheatTarget p target s = Res.err stBadParam s := by
  unfold cmdPreheatTarget
  rw [if_neg (by simp [hs]), if_pos ho]

@[simp] theorem State.serving_recPhTargetMax (h : Hdr) (c : HostCmd) :
    (s.serving h c).recPhTargetMax = s.recPhTargetMax := by
  simp [State.recPhTargetMax]

/-- The TARGET fields of two ports are the same field or have different keys, whatever the ports' numbers. -/
theorem target_eq_of_key {q r : Nat} (hk : (Reg.HEADPORT_HP_TEMP_TARGET q).key = (Reg.HEADPORT_HP_TEMP_TARGET r).key) :
    Reg.HEADPORT_HP_TEMP_TARGET q = Reg.HEADPORT_HP_TEMP_TARGET r := by
  have haddr := Nat.add_right_cancel hk
  simp only [Reg.HEADPORT_HP_TEMP_TARGET, Fld.mk.injEq, and_self, and_true] at haddr ⊢
  omega

/-- One value written into each of some fields, of which two are the same or have different keys, reads back in each. -/
theorem State.getS_foldl_setS {F : Nat → Fld} {v : Int} (hF : ∀ q r, (F q).key = (F r).key → F q = F r)
    (hw : ∀ q, 0 < (F q).w) (hv : ∀ q, inS (F q).w v)
    {l : List Nat} {q : Nat} (hq : q ∈ l) (s : State) : (l.foldl (fun s r => s.setS (F r) v) s).getS (F q) = v := by
  obtain ⟨before, after, rfl⟩ := List.append_of_mem hq
  rw [List.foldl_append, List.foldl_cons]
  refine foldl_keeps (P := fun u : State => u.getS (F q) = v) (fun u r hu => ?_) after _
    (State.getS_setS_same _ (hw q) (hv q))
  by_cases hk : (F q).key = (F r).key
  · rw [hF q r hk]
    exact State.getS_setS_same u (hw r) (hv r)
  · exact (congrArg (sgn (F q).w) (State.get_set_other u hk _)).trans hu

/-- Other fields read as before. -/
theorem State.get_foldl_setS_other {F : Nat → Fld} {f : Fld} (v : Int) :
    ∀ (l : List Nat) (s : State), (∀ q ∈ l, f.key ≠ (F q).key) → (l.foldl (fun s r => s.setS (F r) v) s).get f = s.get f
  | [], _, _ => rfl
  | a :: l, s, hf => by
    obtain ⟨ha, hl⟩ := List.forall_mem_cons.1 hf
    exact (State.get_foldl_setS_other v l _ hl).trans (State.get_set_other s ha _)

theorem State.getS_putTarget (h0 : 0 ≤ target) (hfits : target < 2 ^ 15) {q : Nat} (hq : q ∈ (s.plane p).map) :
    (s.putTarget p target).getS (Reg.HEADPORT_HP_TEMP_TARGET q) = target := by
  have hin : inS 16 target := ⟨by omega, hfits⟩
  exact State.getS_foldl_setS (fun _ _ => target_eq_of_key) (fun _ => Nat.succ_pos 15) (fun _ => hin) hq s

theorem State.get_putTarget_other {f : Fld}
    (hf : ∀ q ∈ (s.plane p).map, f.key ≠ (Reg.HEADPORT_HP_TEMP_TARGET q).key) : (s.putTarget p target).get f = s.get f :=
  State.get_foldl_setS_other target _ s hf

@[simp] theorem answered_getS {c : HostCmd} {st : Nat} {d : List Byte} (f : Fld) :
    (answered h c st d s).getS f = s.getS f :=
  congrArg (sgn f.w) (answered_get f)

/-- PREHEAT_TARGET within the record's range. -/
theorem exec_preheatTarget_inRange (hr : Ready h (.preheatTarget p target) s) (hs : s.standby = false) (h0 : 0 ≤ target)
    (hmax : target ≤ s.recPhTargetMax) : exec (.preheatTarget h p target) s = .next
      (answered h (.preheatTarget p target) stOk [] ((s.serving h (.preheatTarget p target)).putTarget p target)) :=
  exec_accepts hr (cmdPreheatTarget_inRange ((State.serving_standby ..).trans hs) h0
    (hmax.trans_eq (State.serving_recPhTargetMax ..).symm)) rfl fun _ => rfl

end

end

/-- Settles O24: each command's checks and effect on the state that serves it, then the reply. -/
theorem headPortCommandsComplete : Obligations.HeadPortCommandsComplete := by
  intro h s
  have hserving : s.standby = false → ∀ c, (s.serving h c).standby = false := fun hs c =>
    (State.serving_standby s h c).trans hs
  have huse : ∀ {p b}, s.inUse p = b → ∀ c, (s.serving h c).inUse p = b := fun hb c =>
    (State.serving_inUse h c _).trans hb
  refine ⟨fun p record hr hs => ?_, fun p ports hr hs => ?_, fun mask enable hr hs => ?_, fun mask hr hs => ?_,
    fun q hr => ?_⟩
  · intro c u refused legal v
    have hp := hr.headProfile_plane
    refine ⟨fun ⟨hlen, hok⟩ hfree => ?_, fun hlen hin => ?_, fun hbad hfree => ?_⟩
    · exact exec_accepts hr (cmdHeadProfile_legal (hserving hs c) hp hlen hok (huse hfree c)) rfl fun _ => rfl
    · exact exec_refuses hr (cmdHeadProfile_inUse (hserving hs c) hp hlen (huse hin c)) rfl
    · exact exec_refuses hr (cmdHeadProfile_illegal (hserving hs c) hbad (huse hfree c)) rfl
  · intro c u refused legal old v
    have hlegal : u.mapLegal p ports ↔ legal := by simp only [State.mapLegal, u, State.serving_plane, legal]
    have hold : (u.plane p).map = old := congrArg PlaneSt.map (State.serving_plane h c p)
    have hjudged := fun hfree => cmdHeadMap_judged (p := p) (hserving hs c) hr.headMap_ports (huse hfree c)
    refine ⟨fun hl hfree => ?_, fun hin => ?_, fun hbad hfree => ?_⟩
    · have hp := (hjudged hfree).trans (if_pos (hlegal.2 hl))
      unfold State.takeMap at hp
      rw [hold] at hp
      exact exec_accepts hr hp rfl fun _ => rfl
    · exact exec_refuses hr (cmdHeadMap_inUse (hserving hs c) (huse hin c)) rfl
    · exact exec_refuses hr ((hjudged hfree).trans (if_neg (mt hlegal.1 hbad))) rfl
  · exact exec_accepts hr (cmdPortEnable_eq (hserving hs _) mask enable) rfl fun _ => rfl
  · exact exec_accepts hr (cmdPortClear_eq (hserving hs _) mask) rfl fun _ => rfl
  · exact exec_replies hr (cmdHeadRead_serving s h _ q) rfl fun _ => rfl

/-- Settles O25: the range check on the state that serves the command, then TARGET of the map's ports one by one. -/
theorem preheatTargetSetsEveryPort : Obligations.PreheatTargetSetsEveryPort := by
  refine ⟨fun h p target s hr hs => ?_, fun q _ => ?_⟩
  · have hmap := congrArg PlaneSt.map (State.serving_plane (s := s) h (.preheatTarget p target) p)
    refine ⟨fun h0 hmax => ?_, fun h0 hmax hw => ?_, fun hout => ?_⟩
    · have hx := exec_preheatTarget_inRange hr hs h0 hmax
      rwa [State.putTarget, hmap] at hx
    · refine ⟨_, exec_preheatTarget_inRange hr hs h0 hmax, fun q hq => ?_, fun f hf => ?_⟩
      · rw [answered_getS, State.getS_putTarget h0 hw (hmap ▸ hq)]
      · rw [answered_get, State.get_putTarget_other (hmap ▸ hf), State.serving_get]
    · refine exec_refuses hr (cmdPreheatTarget_outOfRange ((State.serving_standby ..).trans hs) ?_) rfl
      rwa [State.serving_recPhTargetMax]
  · refine State.get_reset fun hk => ?_
    simp only [Fld.key, Reg.HEADPORT_HP_TEMP_TARGET, Reg.ZPHY_PORT_CONFIG_ENABLE] at hk
    omega

end Sys2Proof.Machine
end

section
/-! SUPPORT. The statements on the opcodes of the camera ports (R218, R231, R232, R235, R237). -/

namespace Sys2Proof.Machine

variable {s : State} {h : Hdr} {c : HostCmd}

/-! ### What a camera port shows does not turn on the queue of commands -/

@[simp] theorem State.serving_camPort (k : Nat) : (s.serving h c).camPort k = s.camPort k := by simp [State.camPort]
@[simp] theorem State.serving_camRecord (k : Nat) : (s.serving h c).camRecord k = s.camRecord k := by simp [State.camRecord]
@[simp] theorem State.serving_camWaiting (k : Nat) : (s.serving h c).camWaiting k = s.camWaiting k := by
  simp [State.camWaiting]
@[simp] theorem State.serving_camReceiving (k : Nat) : (s.serving h c).camReceiving k = s.camReceiving k := by
  simp [State.camReceiving]

/-! ### CAM_CONFIG -/

section
variable {k : Nat} {r : List Byte}

/-- A record touches the protected window with one of its rings. -/
def camTouches (r : List Byte) : Bool :=
  touchesProt (cRawAddr r) (cRawSlots r * cRawSlot r) || touchesProt (cOutAddr r) (cOutSlots r * cOutSlot r)

theorem State.writeCam_illegal (hon : cEnable r ≠ 0) (hok : camRecordOk r = false) :
    s.writeCam k r = (stBadParam, s) := by
  simp [State.writeCam, hon, hok]

theorem State.writeCam_protected (hon : cEnable r ≠ 0) (hok : camRecordOk r = true) (hw : camTouches r = true) :
    s.writeCam k r = (stProtected, s) := by
  unfold State.writeCam
  rw [if_neg (by simp [hok]), if_pos ⟨hon, hw⟩]

/-- Past the checks of the record, the in-line port that receives refuses it (R232). -/
theorem State.writeCam_inline (hrec : cEnable r ≠ 0 → camRecordOk r = true ∧ camTouches r = false)
    (hb : s.get Reg.ISP_INLINE_PORT = k ∧ s.camReceiving k = true) : s.writeCam k r = (stBadState, s) := by
  unfold State.writeCam
  rw [if_neg (fun hx => by simp [(hrec hx.1).1] at hx),
    if_neg (fun hx => Bool.false_ne_true ((hrec hx.1).2.symm.trans hx.2)), if_pos hb]

/-- Else the record is stored, and ENABLE 0 ends the port's frame. -/
theorem State.writeCam_stores (hrec : cEnable r ≠ 0 → camRecordOk r = true ∧ camTouches r = false)
    (hb : ¬(s.get Reg.ISP_INLINE_PORT = k ∧ s.camReceiving k = true)) {v : State}
    (hv : v = (List.range 24).foldl (fun s w => s.set (Reg.CAMRX_PORT_REC_WORD k w) (u32 r (4 * w))) s) :
    s.writeCam k r = (stOk, (if cEnable r = 0 then v.frameEnd k else v).showCams) := by
  subst hv
  unfold State.writeCam
  rw [if_neg (fun hx => by simp [(hrec hx.1).1] at hx),
    if_neg (fun hx => Bool.false_ne_true ((hrec hx.1).2.symm.trans hx.2)), if_neg hb]

/-- CAM_CONFIG answers what the write of the record answers. -/
theorem perform_camConfig (hr : Ready h (.camConfig k r) s) (hl : r.length = 96) {u v : State} {st : Nat}
    (hw : u.writeCam k r = (st, v)) : u.perform h (.camConfig k r) = ⟨st, [], v, false⟩ := by
  have hk : k ≤ 3 := by simpa [HostCmd.valuesOk, upTo] using hr.values
  show cmdCamConfig k r u = _
  simp [cmdCamConfig, hl, hw, hk]

end

/-! ### ROI_SET and STATS_READ -/

theorem cmdRoiSet_ok {first : Nat} {records : List Byte} (hv : HostCmd.valuesOk (.roiSet first records) = true)
    (hok : ∀ r ∈ roisIn records, roiOk r = true) :
    cmdRoiSet first records s = Res.ok (s.putTabs false (tabBase + 0x448000 + 16 * first) records) := by
  have hf : 1 ≤ records.length / 16 ∧ records.length / 16 ≤ 254 ∧ first + records.length / 16 ≤ 256 := by
    simpa [HostCmd.valuesOk] using hv
  have hall : (roisIn records).all roiOk = true := List.all_eq_true.mpr hok
  unfold cmdRoiSet
  rw [if_neg (by simp only [hall]; simp; omega)]

theorem cmdRoiSet_illegal {first : Nat} {records : List Byte} (hbad : ∃ r ∈ roisIn records, roiOk r = false) :
    cmdRoiSet first records s = Res.err stBadParam s := by
  have hall : (roisIn records).all roiOk = false := by simpa using hbad
  simp [cmdRoiSet, hall]

/-! ### CAM_INLINE -/

theorem cmdCamInline_same {port : Nat} (hv : HostCmd.valuesOk (.camInline port) = true)
    (he : port = s.get Reg.ISP_INLINE_PORT) :
    cmdCamInline port s = Res.ok ({ s with cam := { s.cam with change := none } }.set Reg.ISP_INLINE_NEXT 7) := by
  have hp : port ≤ 3 ∨ port = 255 := by simpa [HostCmd.valuesOk, upTo] using hv
  unfold cmdCamInline
  rw [if_neg (by omega), if_pos he]

theorem cmdCamInline_other {port : Nat} (hv : HostCmd.valuesOk (.camInline port) = true)
    (he : port ≠ s.get Reg.ISP_INLINE_PORT) :
    cmdCamInline port s = Res.ok
      ({ s with cam := { s.cam with change := some (if port = 0xFF then none else some port) } }.set
        Reg.ISP_INLINE_NEXT (if port = 0xFF then 7 else port)).takeInline := by
  have hp : port ≤ 3 ∨ port = 255 := by simpa [HostCmd.valuesOk, upTo] using hv
  have hn : (if port = 255 then none else some port).getD 7 = if port = 255 then 7 else port := by split <;> rfl
  unfold cmdCamInline
  rw [if_neg (by omega), if_neg he]
  simp only [hn]

/-- Settles O26: each command's checks in order, then what it stores. -/
theorem cameraCommandsComplete : Obligations.CameraCommandsComplete := by
  intro h s
  refine ⟨fun k record hr hl => ?_, fun port hr => ⟨fun he => ?_, fun he => ?_⟩,
    fun first records hr => ⟨fun hok => ?_, fun hbad => ?_⟩, fun first count hr => ?_⟩
  · intro c v refused on window busy
    have hwindow : window ↔ camTouches record = true := by simp [window, camTouches]
    have hfree : ¬window → camTouches record = false := by simp [hwindow]
    have hbusy : busy ↔ (s.serving h c).get Reg.ISP_INLINE_PORT = k ∧ (s.serving h c).camReceiving k = true := by
      simp [busy]
    refine ⟨fun hon hok => ?_, fun hon hok hw => ?_, fun hrec hb => ?_, fun hon hok hw hb => ?_, fun hon hb => ?_⟩
    · exact exec_refuses hr (perform_camConfig hr hl (State.writeCam_illegal hon hok)) (by decide)
    · exact exec_refuses hr (perform_camConfig hr hl (State.writeCam_protected hon hok (hwindow.mp hw))) (by decide)
    · have hlegal := fun hon => (hrec hon).imp_right hfree
      exact exec_refuses hr (perform_camConfig hr hl (State.writeCam_inline hlegal (hbusy.mp hb))) (by decide)
    · have hstore := perform_camConfig hr hl
        (State.writeCam_stores (fun _ => ⟨hok, hfree hw⟩) (fun hx => hb (hbusy.mpr hx)) (v := v) rfl)
      rw [if_neg hon] at hstore
      exact exec_accepts hr hstore rfl fun _ => rfl
    · have hstore := perform_camConfig hr hl
        (State.writeCam_stores (fun hx => absurd hx hon) (fun hx => hb (hbusy.mpr hx)) (v := v) rfl)
      rw [if_pos (not_not.mp hon)] at hstore
      exact exec_accepts hr hstore rfl fun _ => rfl
  · exact exec_accepts hr (cmdCamInline_same hr.values (by simpa using he)) rfl fun _ => rfl
  · exact exec_accepts hr (cmdCamInline_other hr.values (by simpa using he)) rfl fun _ => rfl
  · exact exec_accepts hr (cmdRoiSet_ok hr.values hok) rfl fun _ => rfl
  · exact exec_refuses hr (cmdRoiSet_illegal hbad) (by decide)
  · have hv : 1 ≤ count ∧ first + count ≤ 256 := by simpa [HostCmd.valuesOk] using hr.values
    refine exec_replies hr ?_ rfl fun _ => rfl
    show cmdStatsRead first count _ = _
    simp [cmdStatsRead, hv, Res.okData]

end Sys2Proof.Machine
end

section
/-! SUPPORT. What stands aside from the camera ports and from the temperatures: reads, stores, events, flips of tables, and a
plane's lines. -/

namespace Sys2Proof.Machine

/-! ### Writes of registers -/

/-- Only registers differ. -/
def RegsOnly (s u : State) : Prop := ∃ r j, u = { s with regs := r, just := j }

section
variable {s u v : State}

theorem RegsOnly.refl (s : State) : RegsOnly s s := ⟨_, _, rfl⟩

theorem RegsOnly.trans (h : RegsOnly s u) (k : RegsOnly u v) : RegsOnly s v := by
  obtain ⟨_, _, rfl⟩ := h
  obtain ⟨_, _, rfl⟩ := k
  exact ⟨_, _, rfl⟩

/-- `setB`, `setS`, `inc` and `incSat` are such writes. -/
theorem RegsOnly.set (s : State) (f : Fld) (v : Nat) : RegsOnly s (s.set f v) := ⟨_, _, rfl⟩

theorem RegsOnly.ite {c : Prop} [Decidable c] (hu : RegsOnly s u) (hv : RegsOnly s v) :
    RegsOnly s (if c then u else v) := by
  split
  · exact hu
  · exact hv

theorem RegsOnly.foldl {α : Type} {f : State → α → State} (hf : ∀ s a, RegsOnly s (f s a)) (l : List α) (s : State) :
    RegsOnly s (l.foldl f s) :=
  foldl_keeps (P := RegsOnly s) (fun u a hu => hu.trans (hf u a)) l s (.refl s)

theorem RegsOnly.cam (h : RegsOnly s u) : u.cam = s.cam := by obtain ⟨_, _, rfl⟩ := h; rfl
theorem RegsOnly.therm (h : RegsOnly s u) : u.therm = s.therm := by obtain ⟨_, _, rfl⟩ := h; rfl
theorem RegsOnly.motion (h : RegsOnly s u) : u.motion = s.motion := by obtain ⟨_, _, rfl⟩ := h; rfl
theorem RegsOnly.job (h : RegsOnly s u) : u.job = s.job := by obtain ⟨_, _, rfl⟩ := h; rfl
theorem RegsOnly.host (h : RegsOnly s u) : u.host = s.host := by obtain ⟨_, _, rfl⟩ := h; rfl
theorem RegsOnly.dram (h : RegsOnly s u) : u.dram = s.dram := by obtain ⟨_, _, rfl⟩ := h; rfl
theorem RegsOnly.time (h : RegsOnly s u) : u.time = s.time := by obtain ⟨_, _, rfl⟩ := h; rfl

end

/-! ### The frame -/

/-- A field of the THERM block, or the thermal term of WSPD. -/
abbrev Fld.thermal (f : Fld) : Prop := f.lo < 32 ∧ (0x50000 ≤ f.addr ∧ f.addr < 0x50200 ∨ f.addr = 0xD0818)

/-- A field of another word than these. -/
abbrev Fld.aside (f : Fld) : Prop := f.lo < 32 ∧ (f.addr < 0x50000 ∨ 0x50200 ≤ f.addr) ∧ f.addr ≠ 0xD0818

/-- The camera ports and the temperatures stay, with every register of the temperatures. -/
structure Aside (s u : State) : Prop where
  cam : u.cam = s.cam
  therm : u.therm = s.therm
  get : ∀ f : Fld, f.thermal → u.get f = s.get f

theorem Aside.trans {s u v : State} (h : Aside s u) (k : Aside u v) : Aside s v :=
  ⟨k.cam.trans h.cam, k.therm.trans h.therm, fun f hf => (k.get f hf).trans (h.get f hf)⟩

/-- An update of other parts of the state. -/
theorem Aside.of_parts {s u : State} (h : (u.cam, u.therm, u.regs) = (s.cam, s.therm, s.regs)) : Aside s u := by
  simp only [Prod.mk.injEq] at h
  obtain ⟨hc, ht, hg⟩ := h
  exact ⟨hc, ht, fun f _ => by simp [State.get, hg]⟩

theorem Aside.refl (s : State) : Aside s s := .of_parts rfl

theorem Aside.ite {s u v : State} {c : Prop} [Decidable c] (hu : Aside s u) (hv : Aside s v) :
    Aside s (if c then u else v) := by
  split
  · exact hu
  · exact hv

/-- A fold of steps that stand aside stands aside. -/
theorem Aside.foldl {α : Type} {f : State → α → State} {l : List α} (hf : ∀ s, ∀ a ∈ l, Aside s (f s a)) (s : State) :
    Aside s (l.foldl f s) :=
  List.foldlRecOn (motive := Aside s) l f (.refl s) fun u hu a ha => hu.trans (hf u a ha)

/-- A write of a field aside; `setB`, `setS`, `inc` and `incSat` are such writes. -/
theorem Aside.set (s : State) {f : Fld} (hf : f.aside) (v : Nat) : Aside s (s.set f v) := by
  obtain ⟨hlo, haddr, hwspd⟩ := hf
  refine ⟨rfl, rfl, fun q ⟨hq, hqa⟩ => State.get_set_other s ?_ v⟩
  simp only [Fld.key]; omega

theorem Fld.thermal.offMemory {f : Fld} (hf : f.thermal) : f.offMemory := by
  obtain ⟨hlo, haddr⟩ := hf
  refine ⟨hlo, by omega, ?_⟩
  simp only [eventFields, List.mem_cons, List.not_mem_nil, or_false, Fld.key, Reg.LOG_STATUS_DROPPED,
    Reg.CMD_ERR_COUNT_EVT_LOST]
  omega

theorem Aside.of_read {s u : State} (h : ReadFrame s u) : Aside s u := by
  obtain ⟨_, _, _, _, _, _, hu⟩ := h.only
  exact ⟨by rw [hu], by rw [hu], fun f hf => h.get f hf.offMemory⟩

theorem Aside.of_store {s u : State} (h : StoreFrame s u) : Aside s u := by
  obtain ⟨_, _, _, _, hu, -⟩ := h.only
  exact ⟨by rw [hu], by rw [hu], fun f hf => h.get f hf.offMemory⟩

section
variable (s : State) {p : Nat}

theorem Aside.raise (c n : Nat) (a : List Byte) : Aside s (s.raise c n a) := .of_read (.raise s c n a)

/-! ### The loops and the tables of a plane -/

theorem Aside.modLoop (f : LoopPlane → LoopPlane) : Aside s (s.modLoop p f) := .of_parts rfl

theorem Aside.modPlane (f : PlaneSt → PlaneSt) : Aside s (s.modPlane p f) := .of_parts rfl

theorem Aside.workWrite (off : Nat) (bs : List Byte) : Aside s (s.workWrite p off bs) := by
  have hwrite := StoreFrame.writeMem s s.mirrors (s.workAddr p + off) bs
  unfold State.workWrite
  split
  · generalize s.writeMem s.mirrors (s.workAddr p + off) bs = r at hwrite ⊢
    exact (Aside.of_store hwrite).trans (.of_read (.meetUes r.1 r.2 9))
  · exact .refl s

theorem Aside.showCorr : Aside s (s.showCorr p) := by
  refine .foldl (fun u i _ => .set u ?_ _) s
  simp only [Fld.aside, Reg.MEASURE_PL_CORR]; omega

theorem Aside.zeroCorr : Aside s (s.zeroCorr p) := (Aside.modLoop s _).trans (.showCorr _)

theorem Aside.loopFlip (table : Nat) (xoff : List Int) : Aside s (s.loopFlip p table xoff) := by
  unfold State.loopFlip
  dsimp only
  generalize hu : s.modLoop p (fun x => { x with loads := x.loads.filter (· != table) }) = u
  have hloads : Aside s u := hu ▸ .modLoop s _
  have hwait : Aside u (if table = 0 ∨ table = 3 ∨ table = 4 then u.waitMark p else u) := .ite (.modLoop u _) (.refl u)
  refine hloads.trans (hwait.trans ?_)
  generalize (if table = 0 ∨ table = 3 ∨ table = 4 then u.waitMark p else u) = v
  exact .ite (.refl v) (.ite ((Aside.workWrite v _ _).trans (.zeroCorr _)) (.ite (.modLoop v _)
    (.ite (.workWrite v _ _) (.refl v))))

theorem Aside.deadEvents (total : Nat) : Aside s (s.deadEvents p total) :=
  (Aside.modLoop s _).trans (.foldl (fun u _ _ => .raise u _ _ _) _)

theorem Aside.tableFlip (table line : Nat) : Aside s (s.tableFlip p table line) := by
  have hxoff : ∀ (u : State) (v : State → Nat → Int), Aside u ((List.range 48).foldl (fun s h =>
      s.setS (Reg.HTONE_PL_XOFF_OFFSET p h) (v s h)) u) := by
    refine fun u v => .foldl (fun w h _ => .set w ?_ _) u
    simp only [Fld.aside, Reg.HTONE_PL_XOFF_OFFSET]; omega
  unfold State.tableFlip
  dsimp only
  refine Aside.trans ?_ (.ite (.deadEvents _ _) (.refl _))
  refine Aside.trans (Aside.trans ?_ (.raise _ _ _ _)) (.loopFlip _ _ _)
  refine Aside.trans ?_ (.ite (hxoff _ _) (.refl _))
  refine ((Aside.set s ?_ _).trans (.set _ ?_ _)).trans (.set _ ?_ _)
  · simp only [Fld.aside, Reg.HTONE_PL_TABLES_BANK]; omega
  · simp only [Fld.aside, Reg.HTONE_PL_TABLES_PENDING]; omega
  · simp only [Fld.aside, Reg.HTONE_PL_FLIPS_COUNT]; omega

theorem Aside.idleFlips : Aside s (s.idleFlips p) := .foldl (fun u t _ => .ite (.tableFlip u t _) (.refl u)) s

/-- A load of a loop's table; an uncorrectable head leaves no load. -/
theorem Aside.tableLoad (loop : Bool) (table flipAt src len tag : Nat) (on : Iface) :
    Aside s (s.tableLoad loop p table flipAt src len tag on).s := by
  have hfetch : Aside s (s.fetch src (tableHeadLen table)).1 :=
    (Aside.of_store (.waitFills s _ _)).trans (.of_read (.met _ _ _))
  unfold State.tableLoad
  dsimp only
  generalize s.fetch src (tableHeadLen table) = r at hfetch ⊢
  split
  · exact .refl s
  split
  · exact .refl s
  split
  · exact .refl s
  split
  · exact hfetch.trans (.of_read (.meetUes r.1 r.2.2 1))
  split
  · exact hfetch
  · have hbits : Aside r.1 ((r.1.putTabBit (Reg.HTONE_PL_TABLES_COPYING p) table true).putTabBit
        (Reg.HTONE_PL_TABLES_FLIP_SEL p) table (flipAt == 1)) := by
      refine (Aside.set r.1 ?_ _).trans (.set _ ?_ _)
      · simp only [Fld.aside, Reg.HTONE_PL_TABLES_COPYING]; omega
      · simp only [Fld.aside, Reg.HTONE_PL_TABLES_FLIP_SEL]; omega
    exact (hfetch.trans hbits).trans (.of_parts rfl)

theorem Aside.loopLoad (table off : Nat) (data : List Byte) : Aside s (s.loopLoad p table off data).2 := by
  unfold State.loopLoad
  split
  · exact .refl s
  · dsimp only
    have hload := fun u flip src len => Aside.tableLoad u (p := p) true table flip src len 0 .uplink
    split
    · exact ((Aside.workWrite s off data).trans (hload _ _ _ _)).trans (.modLoop _ _)
    · exact (Aside.workWrite s off data).trans (hload _ _ _ _)

end

end Sys2Proof.Machine
end

section
/-! SUPPORT. The loops at the end of a frame stand aside from the camera ports (R242 to R255). -/

namespace Sys2Proof.Machine

variable (s : State) {p : Nat} (f : CamFrame)

theorem Aside.used : Aside s s.used := .of_parts rfl

theorem Aside.met (a n : Nat) : Aside s (s.meetCes a n).used := .of_read (.met s a n)

theorem Aside.meetUes (bs : List Nat) (req : Nat) : Aside s (s.meetUes bs req) := .of_read (.meetUes s bs req)

theorem Aside.fetch (a n : Nat) : Aside s (s.fetch a n).1 := (Aside.of_store (.waitFills s a n)).trans (.met _ a n)

theorem Aside.readSamples (yx : List (Nat × Nat)) : Aside s (s.readSamples f yx).1 :=
  Aside.trans (.foldl (fun u _ _ => .of_store (.waitFills u _ _)) s) (.foldl (fun u b _ => .of_read (.meetCe u b)) _)

/-! ### The colour loop -/

theorem Aside.loopLimitEvt (l z : Nat) : Aside s (s.loopLimitEvt l p z) := .raise s _ _ _

theorem Aside.colourZone (z : Nat) (ds : List Int) : Aside s (s.colourZone p z ds) := by
  unfold State.colourZone
  extract_lets x l100 lim cmax d b a asked last step corr c cut taken bound seen s1 s2
  have h1 : Aside s s1 := .modLoop s _
  have h2 : Aside s1 s2 := .ite (.refl s1) ((Aside.showCorr s1).trans (.raise _ _ _ _))
  exact (h1.trans h2).trans (.ite (.loopLimitEvt s2 _ _) (.refl s2))

/-- An uncorrectable REF leaves the state before the evaluation, which stands aside too. -/
theorem Aside.toneLoad_of {s u : State} (h : Aside s u) : Aside s (u.toneLoad s p) := by
  have hfetch := h.trans (.fetch u (u.workAddr p + 0x2000) 8192)
  unfold State.toneLoad
  generalize u.fetch (u.workAddr p + 0x2000) 8192 = r at hfetch ⊢
  obtain ⟨v, ref, bad⟩ := r
  refine .ite (.meetUes s _ _) ?_
  exact (hfetch.trans (.loopLoad v _ _ _)).trans (.modLoop _ _)

theorem Aside.colourFrame : Aside s (s.colourFrame p f) := by
  unfold State.colourFrame
  dsimp only
  split
  · exact .refl s
  · have hzones : Aside s ((List.range 16).foldl (fun u z =>
        if (((s.patchesOf p f).filter (s.patchFresh f)).filter
          (fun i => s.get (Reg.MEASURE_PATCH_CFG_ZONE i) == z)).isEmpty then u
        else u.colourZone p z ((((s.patchesOf p f).filter (s.patchFresh f)).filter
          (fun i => s.get (Reg.MEASURE_PATCH_CFG_ZONE i) == z)).map s.patchStep)) s) :=
      .foldl (fun u z _ => .ite (.refl u) (.colourZone u z _)) s
    generalize List.foldl _ s (List.range 16) = u at hzones ⊢
    have hfree := fun x l => hzones.trans (Aside.of_parts (u := { u with free := x, loops := l }) rfl)
    split
    · exact .toneLoad_of (hfree _ _)
    · exact hfree _ _

/-! ### The nozzle loop -/

theorem Aside.deadLoad : Aside s (s.deadLoad p) := .ite (.refl s) (.loopLoad s _ _ _)

theorem Aside.ladderCounts (js : List Judged) : Aside s (s.ladderCounts p js) := by
  unfold State.ladderCounts
  extract_lets n len top
  have hfetch := Aside.fetch s (s.workAddr p + 0x40000) len
  generalize s.fetch (s.workAddr p + 0x40000) len = r at hfetch ⊢
  obtain ⟨u, old, bad⟩ := r
  refine .ite (hfetch.trans (.meetUes u _ _)) ?_
  extract_lets cnt dead above new v m
  have hv : Aside s v := hfetch.trans (.workWrite u _ _)
  refine hv.trans (.ite ((Aside.set v ?_ _).trans (.loopLimitEvt _ _ _)) (.ite (.refl v)
    ((Aside.modLoop v _).trans (.deadLoad _))))
  simp only [Fld.aside, Reg.MEASURE_PL_COUNTS_REJECTED]; omega

theorem Aside.ladder (v : JobView) (rep : Nat) : Aside s (s.ladder p f v rep) := by
  unfold State.ladder
  dsimp only
  refine .ite (.refl s) (.ite (.ite (.refl s) ((Aside.modLoop s _).trans (.set _ ?_ _)))
    (.ite ((Aside.readSamples s f _).trans (.meetUes _ _ _))
      (((Aside.readSamples s f _).trans (.used _)).trans (.ladderCounts _ _))))
  simp only [Fld.aside, Reg.MEASURE_PL_COUNTS_LADDER_SPLIT]; omega

theorem Aside.nozzleFrame : Aside s (s.nozzleFrame p f) :=
  Aside.trans (.ite (.deadLoad s) (.refl s)) (.foldl (fun u v _ => .foldl (fun w r _ => .ladder w f v r) u) _)

/-! ### The alignment loop -/

theorem Aside.alongStep (h : Nat) (e : Rat) : Aside s (s.alongStep p h e).1 := by
  unfold State.alongStep
  dsimp only
  split
  · exact .refl s
  · exact ((Aside.modPlane s _).trans (.ite (.refl _) (.modLoop _ _))).trans (.ite (.refl _) (.loopLimitEvt _ _ _))

theorem Aside.crossStep (h : Nat) (r : Rat) : Aside s (s.crossStep p h r).1 := by
  unfold State.crossStep
  extract_lets step old new u
  have hu : Aside s u := .modLoop s _
  split
  · exact .refl s
  · exact hu.trans (.ite (.refl u) (.loopLimitEvt u _ _))

theorem Aside.modAxis (a : Nat) (g : Axis → Axis) : Aside s (s.modAxis a g) := .of_parts rfl

theorem Aside.markWait (a : Nat) (move : Bool) : Aside s (s.markWait a move) := by
  have hmoving : ∀ u : State, Aside u (u.setB (Reg.MOTION_AX_STATUS_MOVING a) true) := fun u => by
    refine .set u ?_ _
    simp only [Fld.aside, Reg.MOTION_AX_STATUS_MOVING]; omega
  unfold State.markWait
  split
  · refine ((Aside.modAxis s a _).trans (.set _ ?_ _)).trans (hmoving _)
    simp only [Fld.aside, Reg.MOTION_AX_STATUS_WAIT_TRIG]; omega
  · exact .ite (hmoving s) (.refl s)

theorem Aside.axisMove (a : Nat) (target : Int) (vmax accel decel tag : Nat) :
    Aside s (s.axisMove a target vmax accel decel tag).2 := by
  unfold State.axisMove
  dsimp only
  split
  · exact .refl s
  split
  · exact .refl s
  split
  · exact .refl s
  split
  · exact .refl s
  · exact (Aside.markWait s a true).trans (.modAxis _ a _)

theorem Aside.barGo : Aside s (s.barGo p) :=
  .ite ((Aside.axisMove s _ _ _ _ _ _).trans (.modLoop _ _)) (.axisMove s _ _ _ _ _ _)

theorem Aside.barStep (e : Rat) : Aside s (s.barStep p e) := by
  unfold State.barStep
  extract_lets a lim d old want new u v
  have hu : Aside s u := .ite (.refl s) (.loopLimitEvt s _ _)
  have hv : Aside u v := (Aside.modLoop u _).trans (.barGo _)
  exact .ite (.refl s) (.ite hu ((hu.trans hv).trans (.raise v _ _ _)))

theorem Aside.stitchLoad : Aside s (s.stitchLoad p) :=
  .ite (.refl s) ((Aside.loopLoad s _ _ _).trans (.modLoop _ _))

/-- The step of one head: ALONG, CROSS, and their event. -/
theorem Aside.headStep {u : State} {a : State × Bool} (ha : Aside u a.1) (h : Nat) (r : Rat) (bs : List Byte) :
    Aside u (if a.2 || (a.1.crossStep p h r).2 then (a.1.crossStep p h r).1.raise evAlignNew 0 bs
      else (a.1.crossStep p h r).1) :=
  .ite ((ha.trans (.crossStep a.1 h r)).trans (.raise _ _ _ _)) (ha.trans (.crossStep a.1 h r))

theorem Aside.alignPlane (ts : List (Option (Rat × Rat))) (mx : Rat) : Aside s (s.alignPlane p ts mx) := by
  unfold State.alignPlane
  dsimp only
  refine Aside.trans (Aside.trans (Aside.trans (.foldl (fun u h _ => ?heads) s) (.ite (.barStep _ _) (.refl _)))
    (.foldl (fun u z _ => ?ramps) _)) (.stitchLoad _)
  case heads =>
    split
    · exact .refl u
    · refine .headStep ?_ h _ _
      split
      · exact .alongStep u h _
      · exact .refl u
  case ramps =>
    split
    · exact .modLoop u _
    · exact .modLoop u _

theorem Aside.alignFrame : Aside s (s.alignFrame p f) := by
  unfold State.alignFrame
  extract_lets ys
  refine .ite (.refl s) ?_
  have hread := Aside.readSamples s f (ys.flatMap (s.tickReads p f))
  generalize s.readSamples f (ys.flatMap (s.tickReads p f)) = r at hread ⊢
  obtain ⟨u, bad⟩ := r
  refine .ite (hread.trans (.meetUes u _ _)) ?_
  extract_lets hs per es lost mx my seen loops ref ts
  have hlost : Aside s lost := by
    have hfree : Aside u { u with free := u.free + ys.length * hs } := .of_parts rfl
    exact (hread.trans hfree).trans (.set _ (by simp only [Fld.aside, Reg.MEASURE_PL_TICKS_LOST]; omega) _)
  have hseen : Aside s seen := hlost.trans (.modLoop lost _)
  have hshow : ∀ w : State, Aside w ((List.range 4).foldl (fun s q => s.setB (Reg.MEASURE_PL_STATUS_REF_SEEN q) true) w) :=
    fun w => .foldl (fun v q _ => .set v (by simp only [Fld.aside, Reg.MEASURE_PL_STATUS_REF_SEEN]; omega) _) w
  have href : Aside s ref := by
    refine hseen.trans (.ite ?_ (.refl seen))
    have hset : Aside seen { seen with loops := { loops with refSeen := true } } := .of_parts rfl
    exact hset.trans (hshow _)
  exact .ite hlost (href.trans (.ite (.alignPlane ref ts mx) (.refl ref)))

/-! ### A processed frame -/

theorem Aside.planeFrame : Aside s (s.planeFrame f p) := by
  have hbad : ∀ b, Aside s (s.setB (Reg.MEASURE_PL_BAD_MAP p) b) := fun b => by
    refine .set s ?_ _
    simp only [Fld.aside, Reg.MEASURE_PL_BAD_MAP]; omega
  have hskip : ∀ (u : State) n, Aside u (u.incSat (Reg.MEASURE_PL_SKIPPED p) n) := fun u n => by
    refine .set u ?_ _
    simp only [Fld.aside, Reg.MEASURE_PL_SKIPPED]; omega
  unfold State.planeFrame
  dsimp only
  refine .ite (.refl s) (((hbad _).trans ((Aside.ite (.refl _) (hskip _ _)).trans (.used _))).trans (.ite (.refl _) ?_))
  refine Aside.trans (Aside.trans (Aside.trans (.ite (.colourFrame _ f) (.refl _)) (.ite (.nozzleFrame _ f) (.refl _)))
    (.ite (.alignFrame _ f) (.refl _))) (.modLoop _ _)

end Sys2Proof.Machine
end

section
/-! SUPPORT. The statements on the events of the camera ports and of the pipeline (R217, R220, R224, R228, R230, R234). -/

namespace Sys2Proof.Machine

variable {s u : State} {t c : Nat}

/-! ### What time leaves of the camera ports -/

@[simp] theorem State.elapse_camPort (k : Nat) : (s.elapse t).camPort k = s.camPort k := by simp [State.camPort]
@[simp] theorem State.elapse_camRecord (k : Nat) : (s.elapse t).camRecord k = s.camRecord k := by simp [State.camRecord]
@[simp] theorem State.elapse_camRecordNow (k : Nat) : (s.elapse t).camRecordNow k = s.camRecordNow k := by
  simp [State.camRecordNow]
@[simp] theorem State.elapse_camOn (k : Nat) : (s.elapse t).camOn k = s.camOn k := by simp [State.camOn]
@[simp] theorem State.elapse_doneFrame (k : Nat) : (s.elapse t).doneFrame k = s.doneFrame k := by simp [State.doneFrame]
@[simp] theorem State.elapse_critical : (s.elapse t).critical = s.critical := by simp [State.critical]

/-! ### Events under a condition -/

theorem eventAwake_when {b : State → Bool} {f : State → State} (hl : Live s) (hb : b (s.elapse t) = true) :
    eventAwake t (fun s => s.when (b s) f) s = .next (f (s.elapse t)) := by
  rw [eventAwake_live hl, hb]
  rfl

theorem event_when {b : State → Bool} {f : State → State} (hr : Running s) (hb : b (s.elapse t) = true) :
    event t (fun s => s.when (b s) f) s = .next (f (s.elapse t)) := by
  rw [event_running hr, hb]
  rfl

/-! ### The ports -/

theorem State.camPort_modCam_same (f : CamPort → CamPort) (hc : c < s.cam.ports.length) :
    (s.modCam c f).camPort c = f (s.camPort c) := modAt_getD_same f _ c _ hc

theorem State.camPort_congr (h : u.cam.ports = s.cam.ports) : u.camPort c = s.camPort c := by simp [State.camPort, h]

/-! ### What a port shows is registers only -/

theorem State.showCam_regs (s : State) (c : Nat) : RegsOnly s (s.showCam c) := by
  unfold State.showCam
  extract_lets s1 s2 s3
  exact ((((((RegsOnly.set s _ _).trans (.set _ _ _)).trans (.set s1 _ _)).trans (.set _ _ _)).trans (.set s2 _ _)).trans
    (.set s3 _ _))

theorem State.showCams_regs (s : State) : RegsOnly s s.showCams := .foldl State.showCam_regs _ s

@[simp] theorem State.showCam_cam : (s.showCam c).cam = s.cam := (State.showCam_regs s c).cam
@[simp] theorem State.showCam_job : (s.showCam c).job = s.job := (State.showCam_regs s c).job
@[simp] theorem State.showCam_host : (s.showCam c).host = s.host := (State.showCam_regs s c).host
@[simp] theorem State.showCam_dram : (s.showCam c).dram = s.dram := (State.showCam_regs s c).dram
@[simp] theorem State.showCams_cam : s.showCams.cam = s.cam := (State.showCams_regs s).cam
@[simp] theorem State.showCams_job : s.showCams.job = s.job := (State.showCams_regs s).job
@[simp] theorem State.showCam_camPort (k : Nat) : (s.showCam c).camPort k = s.camPort k := State.camPort_congr (by simp)

/-- STATUS and the queue of the ISP are the words that a port shows. -/
theorem State.showCam_get {f : Fld} (hlo : f.lo < 32) (hst : f.addr ≠ 0x150060 + 256 * c) (hq : f.addr ≠ 0x160004) :
    (s.showCam c).get f = s.get f := by
  have hport : ∀ g : Fld, g.addr = 0x150060 + 256 * c → g.lo < 32 → f.key ≠ g.key := fun g hg hglo => by
    simp only [Fld.key]; omega
  have hisp : ∀ g : Fld, g.addr = 0x160004 → g.lo < 32 → f.key ≠ g.key := fun g hg hglo => by simp only [Fld.key]; omega
  unfold State.showCam
  extract_lets s1 s2 s3
  have h1 : s1.get f = s.get f := (State.get_setB_other _ (hport _ rfl (show 1 < 32 by decide)) _).trans
    (State.get_setB_other _ (hport _ rfl (show 0 < 32 by decide)) _)
  have h2 : s2.get f = s1.get f := (State.get_set_other _ (hport _ rfl (show 8 < 32 by decide)) _).trans
    (State.get_setB_other _ (hport _ rfl (show 3 < 32 by decide)) _)
  have h3 : s3.get f = s2.get f := State.get_set_other _ (hisp _ rfl (by decide)) _
  rw [State.get_set_other _ (hisp _ rfl (by decide)), h3, h2, h1]

/-! ### A frame begins -/

/-- The frame that FRAMES numbers is open, with nothing received yet (R220). -/
theorem State.frameBegin_open (hc : c < s.cam.ports.length) : ∃ f, ((s.frameBegin c).camPort c).open_ = some f ∧
    f.num = s.get (Reg.CAMRX_PORT_FRAMES c) ∧ f.placed = false ∧ f.kept = 0 ∧ f.lastAt = s.now := by
  unfold State.frameBegin
  extract_lets inl f
  refine ⟨f, ?_, rfl, rfl, rfl, rfl⟩
  rw [State.showCam_camPort, State.camPort_modCam_same _ (by simpa using hc)]

theorem State.frameBegin_frames (hc : c < 4) :
    (s.frameBegin c).get (Reg.CAMRX_PORT_FRAMES c) = (s.get (Reg.CAMRX_PORT_FRAMES c) + 1) % 2 ^ 32 := by
  unfold State.frameBegin
  rw [State.showCam_get (by simp [Reg.CAMRX_PORT_FRAMES]) (by simp only [Reg.CAMRX_PORT_FRAMES]; omega)
    (by simp only [Reg.CAMRX_PORT_FRAMES]; omega), State.modCam_get]
  exact State.get_set_same s _ _

theorem State.frameEnd_none (ho : (s.camPort c).open_ = none) : s.frameEnd c = s := by
  simp [State.frameEnd, ho]

/-! ### The header of a packet -/

theorem State.camStart_begins {vc : Nat} (hv : vc = cVc (s.camRecordNow c)) (hm : cCounted (s.camRecordNow c) = false) :
    s.camStart c vc 0 = (s.frameEnd c).frameBegin c := by
  simp [State.camStart, State.camHeader, hv, hm]

theorem State.camStop_ends {vc : Nat} (hv : vc = cVc (s.camRecordNow c)) (hm : cCounted (s.camRecordNow c) = false) :
    s.camStop c vc 0 = s.frameEnd c := by
  simp [State.camStop, State.camHeader, hv, hm]

theorem State.camStart_uncorrectable (vc : Nat) : s.camStart c vc 2 = s.incSat (Reg.CAMRX_PORT_ECC_FAIL c) 1 := by
  simp [State.camStart, State.camHeader]

theorem State.camStop_uncorrectable (vc : Nat) : s.camStop c vc 2 = s.incSat (Reg.CAMRX_PORT_ECC_FAIL c) 1 := by
  simp [State.camStop, State.camHeader]

theorem State.camLong_foreign {vc dt : Nat} {pix : List Nat} {crcOk ov : Bool}
    (hf : vc ≠ cVc (s.camRecordNow c) ∨ dt ≠ cDt (s.camRecordNow c)) :
    s.camLong c vc dt 0 pix crcOk ov = s.incSat (Reg.CAMRX_PORT_FOREIGN c) 1 := by
  simp [State.camLong, State.camHeader, hf]

theorem State.camLong_own {vc dt : Nat} {pix : List Nat} {crcOk ov : Bool} (hv : vc = cVc (s.camRecordNow c))
    (hd : dt = cDt (s.camRecordNow c)) : s.camLong c vc dt 0 pix crcOk ov = s.camLine c pix crcOk false ov := by
  simp [State.camLong, State.camHeader, hv, hd]

/-! ### The writer of the camera ports -/

section
variable {f : CamFrame} {a : Nat} {bs : List Byte}

theorem Aside.camWrite (s : State) (f : CamFrame) (a : Nat) (bs : List Byte) : Aside s (s.camWrite f a bs).1 := by
  have hwrite := StoreFrame.writeMem s false a bs
  unfold State.camWrite
  generalize s.writeMem false a bs = r at hwrite ⊢
  exact (Aside.of_store hwrite).trans (.meetUes r.1 r.2 5)

@[simp] theorem State.camWrite_cam : (s.camWrite f a bs).1.cam = s.cam := (Aside.camWrite s f a bs).cam

@[simp] theorem State.camWrite_job : (s.camWrite f a bs).1.job = s.job := by
  have hwrite := (StoreFrame.writeMem s false a bs).only
  unfold State.camWrite
  generalize s.writeMem false a bs = r at hwrite ⊢
  obtain ⟨_, _, _, _, hw, -⟩ := hwrite
  obtain ⟨_, _, _, _, _, _, hm⟩ := (ReadFrame.meetUes r.1 r.2 5).only
  show (r.1.meetUes r.2 5).job = s.job
  rw [hm, hw]

/-- A write that an uncorrectable block refuses marks the frame, and changes nothing else of it. -/
theorem State.camWrite_frame : ∃ bad, (s.camWrite f a bs).2 = { f with crc := f.crc || bad } := ⟨_, rfl⟩

/-! ### A frame ends -/

@[simp] theorem State.frameEvents_cam (short long : Bool) : (s.frameEvents f short long).cam = s.cam := by
  unfold State.frameEvents
  cases short <;> cases long <;> simp

@[simp] theorem State.frameEvents_job (short long : Bool) : (s.frameEvents f short long).job = s.job := by
  unfold State.frameEvents
  cases short <;> cases long <;> simp

end

/-- A waiting CAM_INLINE that takes effect changes only itself. -/
theorem State.takeInline_cam (s : State) : ∃ n, s.takeInline.cam = { s.cam with change := n } := by
  unfold State.takeInline
  split
  · exact ⟨_, rfl⟩
  · split
    · exact ⟨_, rfl⟩
    · exact ⟨none, by simp⟩

@[simp] theorem State.takeInline_job : s.takeInline.job = s.job := by
  unfold State.takeInline
  split
  · rfl
  · split
    · rfl
    · simp

/-- What the end of an open frame does before the in-line role moves: its events, its header, and its place in a queue. -/
def State.frameQueued (s : State) (f : CamFrame) : State :=
  if !f.placed then s.frameEvents f true false
  else if f.dropped then s
  else if f.inline_ then
    { s.frameEvents f f.short f.long with
      cam := { (s.frameEvents f f.short f.long).cam with inl := (s.frameEvents f f.short f.long).cam.inl ++ [f] } }
  else
    let r := (s.frameEvents f f.short f.long).camWrite f f.slotAddr (f.header f.short f.long)
    { r.1 with cam := { r.1.cam with queue := queueFrame r.2 r.1.cam.queue } }

theorem State.frameEnd_some {f : CamFrame} (ho : (s.camPort c).open_ = some f) : s.frameEnd c =
    ((s.modCam c (fun x => { x with open_ := none })).frameQueued { f with ended := true }).takeInline.showCams := by
  unfold State.frameEnd State.frameQueued
  rw [ho]

section
variable {f : CamFrame}

@[simp] theorem State.frameQueued_ports : (s.frameQueued f).cam.ports = s.cam.ports := by
  unfold State.frameQueued
  cases f.placed <;> cases f.dropped <;> cases f.inline_ <;> simp

@[simp] theorem State.frameQueued_job : (s.frameQueued f).job = s.job := by
  unfold State.frameQueued
  cases f.placed <;> cases f.dropped <;> cases f.inline_ <;> simp

theorem mem_queueFrame (f : CamFrame) (l : List CamFrame) : f ∈ queueFrame f l := by
  induction l with
  | nil => exact List.mem_singleton_self f
  | cons g l ih =>
    unfold queueFrame
    split
    · exact List.mem_cons_self
    · exact List.mem_cons_of_mem g ih

/-- A frame with a raw slot joins the queue of the raw rings. -/
theorem State.frameQueued_queue (hp : f.placed = true) (hd : f.dropped = false) (hi : f.inline_ = false) :
    ∃ g ∈ (s.frameQueued f).cam.queue, g.port = f.port ∧ g.num = f.num ∧ g.kept = f.kept ∧ g.ended = f.ended := by
  obtain ⟨bad, hbad⟩ := State.camWrite_frame (s := s.frameEvents f f.short f.long) (f := f) (a := f.slotAddr)
    (bs := f.header f.short f.long)
  refine ⟨{ f with crc := f.crc || bad }, ?_, rfl, rfl, rfl, rfl⟩
  simp only [State.frameQueued, hp, hd, hi, hbad]
  exact mem_queueFrame _ _

theorem State.frameEnd_closed (hc : c < s.cam.ports.length) : ((s.frameEnd c).camPort c).open_ = none := by
  cases ho : (s.camPort c).open_ with
  | none => rw [State.frameEnd_none ho, ho]
  | some f =>
    rw [State.frameEnd_some ho]
    generalize hv : s.modCam c (fun x => { x with open_ := none }) = v
    obtain ⟨n, hn⟩ := (v.frameQueued { f with ended := true }).takeInline_cam
    have hports : (v.frameQueued { f with ended := true }).takeInline.showCams.cam.ports = v.cam.ports := by simp [hn]
    rw [State.camPort_congr hports, ← hv, State.camPort_modCam_same _ hc]

theorem State.frameEnd_job : (s.frameEnd c).job = s.job := by
  cases ho : (s.camPort c).open_ with
  | none => rw [State.frameEnd_none ho]
  | some f => simp [State.frameEnd_some ho]

theorem State.frameEnd_queue (ho : (s.camPort c).open_ = some f) (hp : f.placed = true) (hd : f.dropped = false)
    (hi : f.inline_ = false) :
    ∃ g ∈ (s.frameEnd c).cam.queue, g.port = f.port ∧ g.num = f.num ∧ g.kept = f.kept ∧ g.ended = true := by
  rw [State.frameEnd_some ho]
  generalize s.modCam c (fun x => { x with open_ := none }) = v
  obtain ⟨n, hn⟩ := (v.frameQueued { f with ended := true }).takeInline_cam
  have hqueue : (v.frameQueued { f with ended := true }).takeInline.showCams.cam.queue =
      (v.frameQueued { f with ended := true }).cam.queue := by simp [hn]
  rw [hqueue]
  exact State.frameQueued_queue (f := { f with ended := true }) hp hd hi

/-! ### A line joins the in-line frame -/

/-- A whole line of the record's length, intact, joins the rows of an in-line frame (R222, R224). -/
theorem State.frameLine_inline {pix : List Nat} (hk : f.kept ≠ cLines f.record) (hi : f.inline_ = true)
    (hd : f.dropped = false) (hl : pix.length = cInWidth f.record * cComps f.record) :
    s.frameLine f pix true false = (s, { f with
      kept := f.kept + 1, lastAt := s.now, prev := fitLine f.record pix, rows := f.rows ++ [fitLine f.record pix] }) := by
  simp [State.frameLine, hk, hi, hd, hl]

theorem State.camLine_inline {pix : List Nat} (ho : (s.camPort c).open_ = some f) (hp : f.placed = true)
    (hi : f.inline_ = true) (hd : f.dropped = false) (hk : f.kept ≠ cLines f.record)
    (hl : pix.length = cInWidth f.record * cComps f.record)
    (hlast : ¬(cCounted f.record = true ∧ f.kept + 1 = cLines f.record)) :
    s.camLine c pix true false false = (s.modCam c (fun x => { x with open_ := some { f with
      kept := f.kept + 1, lastAt := s.now, prev := fitLine f.record pix,
      rows := f.rows ++ [fitLine f.record pix] } })).showCam c := by
  unfold State.camLine
  simp [ho, hp, State.frameLine_inline hk hi hd hl, hlast]

/-! ### The pipeline -/

theorem State.pipelineLine_inline (hf : (s.cam.inl ++ s.cam.ports.filterMap (·.open_)).find? CamFrame.hasLine = some f) :
    s.pipelineLine = s.inlineLine f := by
  unfold State.pipelineLine
  rw [hf]

theorem State.pipelineLine_mem {l : List CamFrame}
    (hn : (s.cam.inl ++ s.cam.ports.filterMap (·.open_)).find? CamFrame.hasLine = none) (hq : s.cam.queue = f :: l)
    (ho : f.outs.length < f.kept) (hcrit : s.critical = false) : s.pipelineLine = s.memLine f := by
  unfold State.pipelineLine
  rw [hn]
  simp [hq, ho, hcrit]

/-! ### The end of a frame's processing -/

/-- The frames that wait for processing or are in it: of the raw rings, and in line. -/
def State.waitingFrames (s : State) : List CamFrame := s.cam.queue ++ s.cam.inl

@[simp] theorem State.showCams_waiting : s.showCams.waitingFrames = s.waitingFrames := by simp [State.waitingFrames]

theorem State.roiUpdate_waiting (i : Nat) (r : List Byte) : (s.roiUpdate f i r).waitingFrames = s.waitingFrames := by
  unfold State.roiUpdate
  dsimp only
  split
  · split <;> rfl
  · rfl

theorem State.roiUpdates_waiting : (s.roiUpdates f).waitingFrames = s.waitingFrames := by
  unfold State.roiUpdates
  exact foldl_keeps (P := fun u : State => u.waitingFrames = s.waitingFrames)
    (fun u x hu => (State.roiUpdate_waiting x.1 x.2).trans hu) _ s rfl

theorem State.frameProcessed_some (hf : s.doneFrame c = some f) : s.frameProcessed c =
    (List.range 4).foldl (fun u p => u.planeFrame (s.finishFrame f).2 p) (s.finishFrame f).1 := by
  unfold State.frameProcessed
  rw [hf]

/-- The frame whose header, if any, has been written keeps its port and its number. -/
theorem State.headed_name : ∃ r : State × CamFrame,
    (if cOutFmt f.record = 0 then (s, f) else s.camWrite f f.outAddr (f.header f.short f.long)) = r ∧
      r.2.port = f.port ∧ r.2.num = f.num := by
  refine ⟨_, rfl, ?_⟩
  split
  · exact ⟨rfl, rfl⟩
  · exact ⟨rfl, rfl⟩

/-- A frame whose processing has ended waits no more. -/
theorem State.finishFrame_gone : ∀ g ∈ (s.finishFrame f).1.waitingFrames, ¬(g.port = f.port ∧ g.num = f.num) := by
  obtain ⟨⟨u, g⟩, hu, hport, hnum⟩ := State.headed_name (s := s) (f := f)
  unfold State.finishFrame
  rw [hu]
  intro x
  dsimp -zeta only at hport hnum ⊢
  extract_lets v other cam w
  have hwaits : (w.roiUpdates g).showCams.waitingFrames = v.waitingFrames.filter other := by
    rw [State.showCams_waiting, State.roiUpdates_waiting]
    exact (List.filter_append ..).symm
  rw [hwaits, List.mem_filter]
  rintro ⟨-, hx⟩ hname
  simp [other, hport, hnum, hname] at hx

end

/-- Settles O44: each event opens, extends, ends or processes its frame. -/
theorem cameraEventsComplete : Obligations.CameraEventsComplete := by
  intro c t s hl hports u r
  have hc : c.val < u.cam.ports.length := by simp [u, hports]
  have hr : u.camRecordNow c = r := by simp [u, r]
  have hon : s.camOn c = true → ∀ f : State → State, eventAwake t (fun s => s.when (s.camOn c) f) s = .next (f u) :=
    fun h f => eventAwake_when (b := fun s => s.camOn c) hl (by simpa using h)
  refine ⟨fun vc ho hv hm hopen => ?_, fun vc ho => ⟨?_, ?_⟩, fun vc f ho hv hm hopen => ?_,
    fun vc dt pix crcOk ov ho hf => ?_, fun pix f ho hopen hp hi hd hpt hk hlen hlast => ?_, fun f hopen hto hdue => ?_,
    fun f hf => ?_, fun f l hn hq ho hcrit => ?_, fun f hf => ?_, fun e he hdue => ?_⟩
  · have hbegin : exec (.csiFrameStart c vc 0 t) s = .next (u.frameBegin c) := by
      refine (hon ho _).trans ?_
      rw [State.camStart_begins (hr ▸ hv) (hr ▸ hm), State.frameEnd_none (by simpa [u] using hopen)]
    obtain ⟨f, hfo, hnum, hplaced, hkept, hlast⟩ := State.frameBegin_open hc
    refine ⟨_, f, hbegin, hfo, by simpa [u] using hnum, hplaced, hkept, hlast, ?_, ?_, ?_, ?_⟩
    · simpa [u] using State.frameBegin_frames (s := u) c.isLt
    · simp [State.frameBegin, u]
    · simp [State.frameBegin, u]
    · simp [State.frameBegin, u]
  · refine (hon ho _).trans ?_
    rw [State.camStart_uncorrectable]
  · refine (hon ho _).trans ?_
    rw [State.camStop_uncorrectable]
  · have hend : exec (.csiFrameEnd c vc 0 t) s = .next (u.frameEnd c) := by
      refine (hon ho _).trans ?_
      rw [State.camStop_ends (hr ▸ hv) (hr ▸ hm)]
    refine ⟨_, hend, State.frameEnd_closed hc, State.frameEnd_job.trans (by simp [u]), fun hp hd hi => ?_⟩
    exact State.frameEnd_queue (by simpa [u] using hopen) hp hd hi
  · refine (hon ho _).trans ?_
    rw [State.camLong_foreign (hr ▸ hf)]
  · have hrec : r = f.record := by simp [r, State.camRecordNow, hopen, hp]
    have hline : exec (.csiLongPacket c (cVc f.record) (cDt f.record) 0 pix true false t) s =
        .next (u.camLine c pix true false false) := by
      refine (hon ho _).trans ?_
      rw [State.camLong_own (by rw [hr, hrec]) (by rw [hr, hrec])]
    rw [State.camLine_inline (by simpa [u] using hopen) hp hi hd hk hlen hlast] at hline
    refine ⟨_, { f with
      kept := f.kept + 1, lastAt := u.now, prev := fitLine f.record pix, rows := f.rows ++ [fitLine f.record pix] },
      hline, ?_, rfl, rfl, rfl, rfl, rfl, rfl, by simp [u], by simp [u]⟩
    rw [State.showCam_camPort, State.camPort_modCam_same _ hc]
  · refine ⟨_, ?_, rfl, State.frameEnd_closed hc⟩
    have hlate : f.lastAt + cTimeout r * usSteps ≤ u.now := hdue
    refine eventAwake_when (b := fun s => match (s.camPort c).open_ with
      | some f => cTimeout (s.camRecordNow c) != 0 && decide (f.lastAt + cTimeout (s.camRecordNow c) * usSteps ≤ s.now)
      | none => false) hl ?_
    have hon : (cTimeout r != 0 && decide (f.lastAt + cTimeout r * usSteps ≤ u.now)) = true := by simp [hto, hlate]
    simpa [hopen, r, u] using hon
  · refine (eventAwake_live hl).trans ?_
    rw [State.pipelineLine_inline (by simpa using hf)]
  · refine (eventAwake_live hl).trans ?_
    rw [State.pipelineLine_mem (by simpa using hn) (by simpa using hq) ho (by simpa using hcrit)]
  · refine ⟨_, ?_, rfl, ?_⟩
    · show execFrameProcessed c t s = _
      refine (eventAwake_live hl).trans ?_
      rw [State.frameProcessed_some (by simpa using hf)]
    · have haside : Aside (u.finishFrame f).1
          ((List.range 4).foldl (fun s p => s.planeFrame (u.finishFrame f).2 p) (u.finishFrame f).1) :=
        .foldl (fun v p _ => .planeFrame v _) _
      intro g hg
      rw [haside.cam] at hg
      exact State.finishFrame_gone g hg
  · exact event_when (b := fun s => match (s.camPort c).trigEnd with | some e => decide (e ≤ s.now) | none => false) hl.1
      (by simpa [he, u] using hdue)

end Sys2Proof.Machine
end

section
/-! SUPPORT. What an event of a time trigger does (R433, R435, R438, R234, R293). -/

namespace Sys2Proof.Machine

variable {s u : State} {k : Nat}

/-! ### The instant of a trigger -/

theorem State.putTrigNext_regs (s : State) (k ns : Nat) : RegsOnly s (s.putTrigNext k ns) :=
  ((RegsOnly.set s _ _).trans (.set _ _ _)).trans (.set _ _ _)

/-- NEXT holds any instant below 2^48 s. -/
theorem State.putTrigNext_trigNext {ns : Nat} (h : ns < 2 ^ 48 * secNs) : (s.putTrigNext k ns).trigNext k = ns := by
  have hlo : (s.putTrigNext k ns).get (Reg.TIME_TRIG_NEXT_S_LO k) = ns / 1000000000 % 2 ^ 32 := by
    unfold State.putTrigNext
    rw [State.get_set_other _ (by simp only [Fld.key, Reg.TIME_TRIG_NEXT_S_LO, Reg.TIME_TRIG_NEXT_NS]; omega),
      State.get_set_other _ (by simp only [Fld.key, Reg.TIME_TRIG_NEXT_S_LO, Reg.TIME_TRIG_NEXT_S_HI]; omega),
      State.get_set_same]
    rfl
  have hhi : (s.putTrigNext k ns).get (Reg.TIME_TRIG_NEXT_S_HI k) = ns / 1000000000 / 2 ^ 32 % 2 ^ 16 := by
    unfold State.putTrigNext
    rw [State.get_set_other _ (by simp only [Fld.key, Reg.TIME_TRIG_NEXT_S_HI, Reg.TIME_TRIG_NEXT_NS]; omega),
      State.get_set_same]
    rfl
  have hns : (s.putTrigNext k ns).get (Reg.TIME_TRIG_NEXT_NS k) = ns % 1000000000 % 2 ^ 30 := State.get_set_same _ _ _
  unfold State.trigNext
  rw [hlo, hhi, hns]
  simp only [secNs] at h ⊢
  omega

theorem State.putTrigNext_get {f : Fld} {ns : Nat} (hlo : f.lo < 32)
    (ha : f.addr < 0x40204 + 32 * k ∨ 0x40210 + 32 * k ≤ f.addr) : (s.putTrigNext k ns).get f = s.get f := by
  unfold State.putTrigNext
  rw [State.get_set_other _ (by simp only [Fld.key, Reg.TIME_TRIG_NEXT_NS]; omega),
    State.get_set_other _ (by simp only [Fld.key, Reg.TIME_TRIG_NEXT_S_HI]; omega),
    State.get_set_other _ (by simp only [Fld.key, Reg.TIME_TRIG_NEXT_S_LO]; omega)]

/-! ### The event is counted, and the next instant is set -/

/-- A trigger of period 0 counts and disarms. -/
theorem State.fireTrigger_once (h : s.get (Reg.TIME_TRIG_PERIOD_NS k) = 0) :
    s.fireTrigger k = (s.inc (Reg.TIME_TRIG_FIRED_COUNT k)).setB (Reg.TIME_TRIG_CTRL_ARMED k) false := by
  unfold State.fireTrigger
  rw [if_pos h]

/-- Events that the base of a periodic trigger has been carried past. -/
def State.trigSkipped (s : State) (k : Nat) : Nat :=
  (s.tbNs (s.get (Reg.TIME_TRIG_CTRL_TB k)) - s.trigNext k) / s.get (Reg.TIME_TRIG_PERIOD_NS k)

theorem State.fireTrigger_again (h : s.get (Reg.TIME_TRIG_PERIOD_NS k) ≠ 0) :
    s.fireTrigger k = ((s.inc (Reg.TIME_TRIG_FIRED_COUNT k)).incSat (Reg.TIME_TRIG_MISSED_COUNT k) (s.trigSkipped k)).putTrigNext
      k (s.trigNext k + (s.trigSkipped k + 1) * s.get (Reg.TIME_TRIG_PERIOD_NS k)) := by
  unfold State.fireTrigger
  rw [if_neg h]
  rfl

theorem State.fireTrigger_regs (s : State) (k : Nat) : RegsOnly s (s.fireTrigger k) := by
  by_cases h : s.get (Reg.TIME_TRIG_PERIOD_NS k) = 0
  · rw [State.fireTrigger_once h]
    exact (RegsOnly.set s _ _).trans (.set _ _ _)
  · rw [State.fireTrigger_again h]
    exact ((RegsOnly.set s _ _).trans (.set _ _ _)).trans (State.putTrigNext_regs _ _ _)

/-- The words of the trigger are the ones that its event writes. -/
theorem State.fireTrigger_get {f : Fld} (hlo : f.lo < 32) (ha : f.addr < 0x40200 + 32 * k ∨ 0x40220 + 32 * k ≤ f.addr) :
    (s.fireTrigger k).get f = s.get f := by
  have hfired : (s.inc (Reg.TIME_TRIG_FIRED_COUNT k)).get f = s.get f :=
    State.get_set_other s (by simp only [Fld.key, Reg.TIME_TRIG_FIRED_COUNT]; omega) _
  by_cases h : s.get (Reg.TIME_TRIG_PERIOD_NS k) = 0
  · rw [State.fireTrigger_once h, State.get_setB_other _ (by simp only [Fld.key, Reg.TIME_TRIG_CTRL_ARMED]; omega), hfired]
  · rw [State.fireTrigger_again h, State.putTrigNext_get hlo (by omega),
      State.get_incSat_other (by simp only [Fld.key, Reg.TIME_TRIG_MISSED_COUNT]; omega), hfired]

theorem State.fireTrigger_fired : (s.fireTrigger k).get (Reg.TIME_TRIG_FIRED_COUNT k) =
    low (Reg.TIME_TRIG_FIRED_COUNT k).w (s.get (Reg.TIME_TRIG_FIRED_COUNT k) + 1) := by
  by_cases h : s.get (Reg.TIME_TRIG_PERIOD_NS k) = 0
  · rw [State.fireTrigger_once h, State.get_setB_other _
      (by simp only [Fld.key, Reg.TIME_TRIG_CTRL_ARMED, Reg.TIME_TRIG_FIRED_COUNT]; omega)]
    exact State.get_set_same s _ _
  · rw [State.fireTrigger_again h, State.putTrigNext_get (by simp [Reg.TIME_TRIG_FIRED_COUNT])
        (by simp only [Reg.TIME_TRIG_FIRED_COUNT]; omega),
      State.get_incSat_other (by simp only [Fld.key, Reg.TIME_TRIG_MISSED_COUNT, Reg.TIME_TRIG_FIRED_COUNT]; omega)]
    exact State.get_set_same s _ _

theorem State.fireTrigger_missed (h : s.get (Reg.TIME_TRIG_PERIOD_NS k) ≠ 0) :
    (s.fireTrigger k).get (Reg.TIME_TRIG_MISSED_COUNT k) =
      min (s.get (Reg.TIME_TRIG_MISSED_COUNT k) + s.trigSkipped k) (2 ^ (Reg.TIME_TRIG_MISSED_COUNT k).w - 1) := by
  have hfired : (s.inc (Reg.TIME_TRIG_FIRED_COUNT k)).get (Reg.TIME_TRIG_MISSED_COUNT k) =
      s.get (Reg.TIME_TRIG_MISSED_COUNT k) :=
    State.get_set_other s (by simp only [Fld.key, Reg.TIME_TRIG_MISSED_COUNT, Reg.TIME_TRIG_FIRED_COUNT]; omega) _
  rw [State.fireTrigger_again h, State.putTrigNext_get (by simp [Reg.TIME_TRIG_MISSED_COUNT])
    (by simp only [Reg.TIME_TRIG_MISSED_COUNT]; omega), State.get_incSat_same, hfired]

theorem State.fireTrigger_armed (h : s.get (Reg.TIME_TRIG_PERIOD_NS k) ≠ 0) :
    (s.fireTrigger k).get (Reg.TIME_TRIG_CTRL_ARMED k) = s.get (Reg.TIME_TRIG_CTRL_ARMED k) := by
  rw [State.fireTrigger_again h, State.putTrigNext_get (by simp [Reg.TIME_TRIG_CTRL_ARMED])
      (by simp only [Reg.TIME_TRIG_CTRL_ARMED]; omega),
    State.get_incSat_other (by simp only [Fld.key, Reg.TIME_TRIG_MISSED_COUNT, Reg.TIME_TRIG_CTRL_ARMED]; omega)]
  exact State.get_set_other s (by simp only [Fld.key, Reg.TIME_TRIG_FIRED_COUNT, Reg.TIME_TRIG_CTRL_ARMED]; omega) _

theorem State.fireTrigger_disarmed (h : s.get (Reg.TIME_TRIG_PERIOD_NS k) = 0) :
    (s.fireTrigger k).flag (Reg.TIME_TRIG_CTRL_ARMED k) = false := by
  rw [State.fireTrigger_once h]
  simp [Reg.TIME_TRIG_CTRL_ARMED]

/-! ### What the triggers start -/

/-- The credits of the DMA channels that a request source paces are the registers that its edge writes (R316). -/
theorem State.dmaEdge_get {f : Fld} (req : Nat) (hlo : f.lo < 32) (ha : f.addr < 0xA0000 ∨ 0xB0000 ≤ f.addr) :
    (s.dmaEdge req).get f = s.get f := by
  refine List.foldlRecOn (motive := fun u : State => u.get f = s.get f) (List.range 32) _ rfl fun u hu n hn => ?_
  have hn := List.mem_range.1 hn
  refine Eq.trans ?_ hu
  split
  · split
    · exact State.get_set_other u (by simp only [Fld.key, Reg.DMA_CH_REQ_CREDITS]; omega) _
    · exact State.get_incSat_other (by simp only [Fld.key, Reg.DMA_CH_REQ_OVERRUN]; omega) _
  · rfl

theorem State.dmaEdge_regs (s : State) (req : Nat) : RegsOnly s (s.dmaEdge req) :=
  .foldl (fun u _ => .ite (.ite (.set u _ _) (.set u _ _)) (.refl u)) _ s

/-- An axis waits for the trigger. -/
def State.trigAwaited (s : State) (k a : Nat) : Bool :=
  s.flag (Reg.MOTION_AX_STATUS_WAIT_TRIG a) && aStartTrig (s.axisRecord a) == k + 1

/-- The trigger lets one axis start, where it waits. -/
def State.axisTriggered (s : State) (k a : Nat) : State :=
  if s.trigAwaited k a then s.modAxis a (fun x => { x with trigSeen := true }) else s

theorem State.axisTrigger_eq (s : State) (k : Nat) :
    s.axisTrigger k = (List.range 4).foldl (fun u a => u.axisTriggered k a) s := rfl

theorem State.axisTriggered_motion (s : State) (k a : Nat) : ∃ m, s.axisTriggered k a = { s with motion := m } ∧
    m.axes.length = s.motion.axes.length := by
  unfold State.axisTriggered
  split
  · exact ⟨_, rfl, modAt_length _ _ _⟩
  · exact ⟨_, rfl, rfl⟩

theorem State.axisTrigger_motion (s : State) (k : Nat) : ∃ m, s.axisTrigger k = { s with motion := m } := by
  rw [State.axisTrigger_eq]
  refine foldl_keeps (P := fun u : State => ∃ m, u = { s with motion := m }) (fun u a hu => ?_) _ s ⟨_, rfl⟩
  obtain ⟨m, rfl⟩ := hu
  obtain ⟨n, hn, -⟩ := State.axisTriggered_motion { s with motion := m } k a
  exact ⟨n, hn⟩

theorem State.axisTrigger_get (f : Fld) : (s.axisTrigger k).get f = s.get f := by
  obtain ⟨m, hm⟩ := State.axisTrigger_motion s k
  rw [hm]
  rfl

theorem State.axisTrigger_apart : (s.axisTrigger k).host = s.host ∧ (s.axisTrigger k).dram = s.dram ∧
    (s.axisTrigger k).cam = s.cam := by
  obtain ⟨m, hm⟩ := State.axisTrigger_motion s k
  rw [hm]
  exact ⟨rfl, rfl, rfl⟩

@[simp] theorem State.axisTriggered_trigAwaited (j a b : Nat) :
    (s.axisTriggered k b).trigAwaited j a = s.trigAwaited j a := by
  obtain ⟨m, hm, -⟩ := State.axisTriggered_motion s k b
  rw [hm]
  rfl

theorem State.axisTriggered_other {a b : Nat} (h : a ≠ b) : (s.axisTriggered k b).axis a = s.axis a := by
  unfold State.axisTriggered
  split
  · exact modAt_getD_other _ _ b a _ h
  · rfl

theorem State.axisTriggered_same {a : Nat} (ha : a < s.motion.axes.length) :
    ((s.axisTriggered k a).axis a).trigSeen = ((s.axis a).trigSeen || s.trigAwaited k a) := by
  unfold State.axisTriggered
  split
  case isTrue h => simp [State.axis_modAxis_same _ _ ha, h]
  case isFalse h => simp [h]

theorem State.axisTriggered_foldl {a : Nat} : ∀ (l : List Nat) (s : State), l.Nodup → a < s.motion.axes.length →
    ((l.foldl (fun u b => u.axisTriggered k b) s).axis a).trigSeen =
      ((s.axis a).trigSeen || (decide (a ∈ l) && s.trigAwaited k a))
  | [], s, _, _ => by simp
  | b :: l, s, hl, ha => by
    obtain ⟨hb, hl⟩ := List.nodup_cons.1 hl
    obtain ⟨m, hm, hlen⟩ := State.axisTriggered_motion s k b
    have hstep : (s.axisTriggered k b).motion.axes.length = s.motion.axes.length := by rw [hm]; exact hlen
    rw [List.foldl_cons, State.axisTriggered_foldl l _ hl (hstep ▸ ha), State.axisTriggered_trigAwaited]
    by_cases hab : a = b
    · subst hab
      simp [State.axisTriggered_same ha, hb]
    · simp [State.axisTriggered_other hab, hab]

/-- The axes that wait for the trigger have seen it (R293). -/
theorem State.axisTrigger_seen {a : Nat} (ha : a < 4) (hlen : s.motion.axes.length = 4) :
    ((s.axisTrigger k).axis a).trigSeen = ((s.axis a).trigSeen || s.trigAwaited k a) := by
  rw [State.axisTrigger_eq, State.axisTriggered_foldl _ s List.nodup_range (by omega)]
  simp [ha]

/-! ### The event -/

theorem State.triggerEvent_early (h : s.trigDue k = false) : s.triggerEvent k = s := by
  simp [State.triggerEvent, h]

theorem State.fireTrigger_awake (s : State) (hk : k < 5) : (s.fireTrigger k).awake = s.awake := by
  unfold State.awake
  rw [State.fireTrigger_get (by decide) (by simp only [Reg.LADDER_STATE]; omega)]

theorem State.triggerEvent_round (ha : s.awake = true) (h : s.trigDue 4 = true) :
    s.triggerEvent 4 = (s.fireTrigger 4).roundStart := by
  simp [State.triggerEvent, h, State.fireTrigger_awake s (show 4 < 5 by decide), ha]

theorem State.triggerEvent_pulse (hk : k < 4) (ha : s.awake = true) (h : s.trigDue k = true) :
    s.triggerEvent k = (((s.fireTrigger k).camPulse k).dmaTriggerEdge k).axisTrigger k := by
  simp [State.triggerEvent, h, State.fireTrigger_awake s (show k < 5 by omega), ha, show k ≠ 4 by omega]

/-- Of the registers below the DMA's, the start of a round writes at most ROUNDS_LATE, and the other triggers none. -/
theorem State.triggerEvent_time {f : Fld} (hk : k < 5) (ha : s.awake = true) (h : s.trigDue k = true) (hlo : f.lo < 32)
    (hf : f.addr < 0x50000) : (s.triggerEvent k).get f = (s.fireTrigger k).get f := by
  by_cases hk4 : k = 4
  · subst hk4
    rw [State.triggerEvent_round ha h]
    unfold State.roundStart
    split
    · exact State.get_incSat_other (by simp only [Fld.key, Reg.THERM_ROUNDS_LATE]; omega) _
    · rfl
  · rw [State.triggerEvent_pulse (by omega) ha h]
    rw [State.axisTrigger_get]
    exact (State.dmaEdge_get (s := (s.fireTrigger k).camPulse k) (25 + k) hlo (by omega))

theorem State.triggerEvent_apart (hk : k < 5) (ha : s.awake = true) (h : s.trigDue k = true) :
    (s.triggerEvent k).host = s.host ∧ (s.triggerEvent k).dram = s.dram := by
  have hfire := State.fireTrigger_regs s k
  by_cases hk4 : k = 4
  · subst hk4
    rw [State.triggerEvent_round ha h]
    unfold State.roundStart
    split
    · exact ⟨hfire.host, hfire.dram⟩
    · exact ⟨hfire.host, hfire.dram⟩
  · rw [State.triggerEvent_pulse (by omega) ha h]
    obtain ⟨hhost, hdram, -⟩ := State.axisTrigger_apart (s := ((s.fireTrigger k).camPulse k).dmaTriggerEdge k) (k := k)
    have hedge := State.dmaEdge_regs ((s.fireTrigger k).camPulse k) (25 + k)
    exact ⟨hhost.trans (hedge.host.trans hfire.host), hdram.trans (hedge.dram.trans hfire.dram)⟩

/-- Triggers 0 to 3 start the pulse of their CAM_TRIG and release the axes that wait (R234, R293). -/
theorem State.triggerEvent_starts (hk : k < 4) (ha : s.awake = true) (h : s.trigDue k = true)
    (hports : s.cam.ports.length = 4) (haxes : s.motion.axes.length = 4) :
    ((s.triggerEvent k).camPort k).trigEnd = some (s.now + 8 * max 1 (s.get (Reg.CAMRX_TRIG_WIDTH k))) ∧
      ∀ a < 4, ((s.triggerEvent k).axis a).trigSeen = ((s.axis a).trigSeen || s.trigAwaited k a) := by
  have hfire := State.fireTrigger_regs s k
  generalize hw : ((s.fireTrigger k).camPulse k).dmaTriggerEdge k = w
  have hedge : RegsOnly ((s.fireTrigger k).camPulse k) w := hw ▸ State.dmaEdge_regs _ _
  have hget : ∀ f : Fld, f.lo < 32 → 0xB0000 ≤ f.addr → w.get f = s.get f := fun f hlo hf => by
    rw [← hw]
    refine (State.dmaEdge_get (25 + k) hlo (.inr hf)).trans ?_
    exact State.fireTrigger_get hlo (by omega)
  have hmotion : w.motion = s.motion := hedge.motion.trans hfire.motion
  rw [State.triggerEvent_pulse hk ha h, hw]
  constructor
  · obtain ⟨-, -, hcam⟩ := State.axisTrigger_apart (s := w) (k := k)
    have hport : (w.axisTrigger k).camPort k = ((s.fireTrigger k).camPulse k).camPort k :=
      State.camPort_congr (by rw [hcam, hedge.cam])
    rw [hport, State.camPulse, State.camPort_modCam_same _ (by rw [hfire.cam]; omega),
      State.fireTrigger_get (by simp [Reg.CAMRX_TRIG_WIDTH]) (by simp only [Reg.CAMRX_TRIG_WIDTH]; omega)]
    simp only [State.now, hfire.time]
  · intro a ha4
    have hwaits : w.trigAwaited k a = s.trigAwaited k a := by
      have hrecord : w.axisRecord a = s.axisRecord a := by
        have hword : ∀ i, w.get (Reg.MOTION_AX_CFG_WORD a i) = s.get (Reg.MOTION_AX_CFG_WORD a i) := fun i =>
          hget _ (show 0 < 32 by decide) (by simp only [Reg.MOTION_AX_CFG_WORD]; omega)
        simp only [State.axisRecord, hword]
      have hflag : w.flag (Reg.MOTION_AX_STATUS_WAIT_TRIG a) = s.flag (Reg.MOTION_AX_STATUS_WAIT_TRIG a) := by
        rw [State.flag, State.flag, hget _ (by simp [Reg.MOTION_AX_STATUS_WAIT_TRIG])
          (by simp only [Reg.MOTION_AX_STATUS_WAIT_TRIG]; omega)]
      rw [State.trigAwaited, State.trigAwaited, hrecord, hflag]
    rw [State.axisTrigger_seen ha4 (by rw [hmotion, haxes]), hwaits, State.axis, State.axis, hmotion]

/-- Trigger 4 starts a round, or counts it late (R438). -/
theorem State.triggerEvent_starts_round (ha : s.awake = true) (h : s.trigDue 4 = true) :
    (s.triggerEvent 4).therm.round = true ∧ (s.triggerEvent 4).get Reg.THERM_ROUNDS_LATE =
      (if s.therm.round then min (s.get Reg.THERM_ROUNDS_LATE + 1) (2 ^ (Reg.THERM_ROUNDS_LATE).w - 1)
       else s.get Reg.THERM_ROUNDS_LATE) := by
  have hlate : (s.fireTrigger 4).get Reg.THERM_ROUNDS_LATE = s.get Reg.THERM_ROUNDS_LATE :=
    State.fireTrigger_get (by decide) (by decide)
  have hround : (s.fireTrigger 4).therm.round = s.therm.round := by rw [(State.fireTrigger_regs s 4).therm]
  rw [State.triggerEvent_round ha h, State.roundStart, hround]
  split
  case isTrue hr => exact ⟨hround.trans hr, by rw [State.get_incSat_same, hlate]⟩
  case isFalse => exact ⟨rfl, hlate⟩

end Sys2Proof.Machine
end

section
/-! SUPPORT. A stop at a fault, a port fault and a handover stand aside from the temperatures (R150, R211, R416). -/

namespace Sys2Proof.Machine

variable (s : State) {p : Nat}

/-! ### A plane's lines -/

theorem Aside.putDefect (d : DefectEnt) : Aside s (s.putDefect d) := by
  refine .ite (.set s (by decide) _) ?_
  have hlog : Aside s { s with line := { s.line with defects := s.line.defects ++ [d] } } := .of_parts rfl
  exact hlog.trans (.set _ (by decide) _)

theorem Aside.closeRun (stop : Int) : Aside s (s.closeRun p stop) := by
  unfold State.closeRun
  split
  · exact .refl s
  · exact ((Aside.modLoop s _).trans (.modPlane _ _)).trans (.putDefect _ _)

theorem Aside.missRun (cause k : Nat) (ref : Int) : Aside s (s.missRun p cause k ref) := by
  unfold State.missRun
  split
  · exact .ite (.modPlane s _) ((Aside.closeRun s _).trans (.modPlane _ _))
  · exact .modPlane s _

theorem Aside.gapEnds (ref : Int) : Aside s (s.gapEnds p ref) := by
  unfold State.gapEnds
  extract_lets u
  have hu : Aside s u := .modPlane s _
  refine .ite (.refl s) (hu.trans ?_)
  split
  · rename_i v _ w x _ _ _ _ _ _
    have hv : Aside u v := .modPlane u _
    have hw : Aside v w := .of_parts rfl
    have hx : Aside w x := (Aside.set w (by decide) _).trans (.set _ (by decide) _)
    exact .ite (((hv.trans hw).trans hx).trans (.raise x _ _ _)) (.refl u)
  · exact .refl u

theorem Aside.modLine (seq k : Nat) (f : Line → Line) : Aside s (s.modLine p seq k f) := .modPlane s _

theorem Aside.settleLine (l : Line) : Aside s (s.settleLine p l) := by
  unfold State.settleLine
  extract_lets u v
  have hu : Aside s u := .modLine s _ _ _
  have hv : Aside u v := .of_parts rfl
  refine (hu.trans hv).trans ?_
  split
  · exact (Aside.missRun v _ _ _).trans (.modPlane _ _)
  · exact ((Aside.closeRun v _).trans (.modPlane _ _)).trans (.gapEnds _ _)

theorem Aside.settle (n : Nat) (s : State) : Aside s (s.settle p n) := by
  induction n generalizing s with
  | zero => exact .refl s
  | succ n ih =>
    unfold State.settle
    split
    · exact .refl s
    · exact .ite ((Aside.settleLine s _).trans (ih _)) (.refl s)

theorem Aside.planeStops : Aside s (s.planeStops p) := .ite (.refl s) ((Aside.closeRun s _).trans (.idleFlips _))

theorem Aside.showJobs : Aside s s.showJobs := by
  unfold State.showJobs
  extract_lets a b c d e f g
  have ha : Aside s a := by
    refine .foldl (fun u p hp => ?_) s
    have hp4 := List.mem_range.1 hp
    extract_lets v
    have hv : Aside u v := by
      refine (Aside.set u ?_ _).trans (.set _ ?_ _)
      · simp only [Fld.aside, Reg.LINEGEN_PL_STATUS_PRINTING]; omega
      · simp only [Fld.aside, Reg.LINEGEN_PL_STATUS_ARMED]; omega
    refine .ite hv (hv.trans ((Aside.set v ?_ _).trans (.set _ ?_ _)))
    · simp only [Fld.aside, Reg.LINEGEN_PL_STATUS_HALTED]; omega
    · simp only [Fld.aside, Reg.LINEGEN_PL_STATUS_REVERSED]; omega
  have hd : Aside a d := ((Aside.set a (by decide) _).trans (.set b (by decide) _)).trans (.set c (by decide) _)
  have hg : Aside d g := ((Aside.set d (by decide) _).trans (.set e (by decide) _)).trans (.set f (by decide) _)
  exact ((ha.trans hd).trans hg).trans (.set g (by decide) _)

theorem Aside.settled : Aside s (s.settled p) := by
  have hforget : ∀ u : State, Aside u (u.forget p) := fun u => .modPlane u _
  have hsettle := (Aside.settle (p := p) (s.plane p).lines.length s).trans (hforget _)
  exact .ite (hsettle.trans ((Aside.planeStops _).trans (.showJobs _))) hsettle

theorem Aside.mark (seq k at_ : Nat) : Aside s (s.mark p seq k at_) := .modPlane s _

theorem Aside.missHead (seq k h cause at_ : Nat) : Aside s (s.missHead p seq k h cause at_) := by
  have hcount : ∀ u : State, Aside u (u.incSat (Reg.LINEGEN_PL_MISSED p) 1) := fun u => by
    refine .set u ?_ _
    simp only [Fld.aside, Reg.LINEGEN_PL_MISSED]; omega
  unfold State.missHead
  split
  · exact .refl s
  · extract_lets cause down u v
    have hu : Aside s u := .ite (hcount s) (.refl s)
    have hv : Aside u v := .modLine u _ _ _
    exact .ite (.refl s) ((hu.trans hv).trans (.mark v _ _ _))

/-! ### A stop at a fault -/

theorem Aside.planeFault : Aside s (s.planeFault p) := by
  unfold State.planeFault
  extract_lets far a u v
  have hu : Aside s u := .foldl (fun w l _ => .foldl (fun x h _ => .missHead x l.seq l.k h 6 x.now) w) s
  have hv : Aside u v := (Aside.settled u).trans (.mark _ _ _ _)
  exact .ite (.refl s) ((hu.trans hv).trans (.modPlane v _))

theorem Aside.showRings : Aside s s.showRings := by
  refine .foldl (fun u p hp => ?_) s
  have hp4 := List.mem_range.1 hp
  refine (Aside.set u ?_ _).trans (.set _ ?_ _)
  · simp only [Fld.aside, Reg.JOB_RING_STATUS_BOUND]; omega
  · simp only [Fld.aside, Reg.JOB_RING_STATUS_LOW]; omega

theorem Aside.planesStop (was : List Nat) : Aside s (s.planesStop was) :=
  Aside.trans (.foldl (fun u _ _ => .planeStops u) s) ((Aside.showJobs _).trans (.showRings _))

theorem Aside.endJob (j : JobRun) (cause : Nat) (pos : Int) : Aside s (s.endJob j cause pos) := by
  unfold State.endJob
  extract_lets job u v w
  have hu : Aside s u := .of_parts rfl
  have hv : Aside u v := .foldl (fun x p _ => .ite (.refl x) (.modLoop x _)) u
  have hw : Aside v w := .raise v _ _ _
  exact ((hu.trans hv).trans hw).trans (.planesStop w _)

theorem Aside.faultStop : Aside s s.faultStop := by
  unfold State.faultStop
  split
  · exact .refl s
  · extract_lets was u job v
    have hu : Aside s u := .foldl (fun w p _ => .planeFault w) s
    have hv : Aside u v := .of_parts rfl
    exact ((hu.trans hv).trans (.endJob v _ _ _)).trans (.planesStop _ _)

/-! ### A port fault -/

theorem Aside.modHead (q : Nat) (f : HeadPort → HeadPort) : Aside s (s.modHead q f) := .of_parts rfl

theorem Aside.dropPort (q : Nat) : Aside s (s.dropPort q) := by
  unfold State.dropPort
  extract_lets u
  have hu : Aside s u := .modHead s q _
  refine hu.trans ?_
  split
  · exact .refl u
  · extract_lets held v w
    have hv : Aside u v := .foldl (fun x l _ => .missHead x _ _ _ _ _) u
    have hw : Aside v w := .ite (.mark v _ _ _) (.refl v)
    exact (hv.trans hw).trans (.settled w)

theorem Aside.cutTrains (q : Nat) (pads : Bool × Bool) : Aside s (s.cutTrains q pads) := by
  unfold State.cutTrains
  split
  · exact .refl s
  · exact .modHead s q _

theorem Aside.portFault (q causes : Nat) (pads : Bool × Bool) : Aside s (s.portFault q causes pads) := by
  unfold State.portFault
  extract_lets old new line was u v
  have hu : Aside s u := by
    refine (Aside.set s ?_ _).trans ((Aside.set _ ?_ _).trans (.set _ ?_ _))
    · simp only [Fld.aside, Reg.HEADPORT_HP_FAULT_CAUSES]; omega
    · simp only [Fld.aside, Reg.HEADPORT_HP_FAULT_FAULTED]; omega
    · simp only [Fld.aside, Reg.HEADPORT_GRP_FAULTED_PORTS]; omega
  have hv : Aside u v := .ite (.refl u) ((Aside.cutTrains u q pads).trans (.dropPort _ q))
  exact .ite (.refl s) ((hu.trans hv).trans (.raise v _ _ _))

theorem Aside.vheadCheck (hk : List Nat) : Aside s (s.vheadCheck hk) := by
  refine .foldl (fun u g _ => ?_) s
  extract_lets mv ok v
  have hv : Aside u v := by
    refine (Aside.set u ?_ _).trans (.set _ ?_ _)
    · simp only [Fld.aside, Reg.HEADPORT_GRP_BANK_VHEAD_MV]; omega
    · simp only [Fld.aside, Reg.HEADPORT_GRP_BANK_VHEAD_OK]; omega
  refine hv.trans (.foldl (fun w i _ => ?_) v)
  extract_lets q x
  have hx : Aside w x := .modHead w q _
  exact .ite (hx.trans (.portFault x q 16 (false, false))) hx

/-! ### A handover -/

theorem Aside.modPair (f : PairSt → PairSt) : Aside s (s.modPair f) := .of_parts rfl

theorem Aside.dropIlk : Aside s s.dropIlk := (Aside.set s (by decide) _).trans (.modPair _ _)

theorem Aside.toStandby : Aside s s.toStandby := by
  unfold State.toStandby
  extract_lets u
  have hu : Aside s u := (Aside.dropIlk s).trans (.faultStop _)
  have hrole : Aside u ((u.set Reg.PAIR_STATUS_ROLE 2).set Reg.PAIR_STATUS_STATE 0) :=
    (Aside.set u (by decide) _).trans (.set _ (by decide) _)
  exact (hu.trans hrole).trans (.modPair _ _)

theorem Aside.stringDue : Aside s s.stringDue := .ite (.of_parts rfl) (.refl s)

theorem Aside.handOver (code : Nat) : Aside s (s.handOver code) :=
  ((Aside.toStandby s).trans (.modPair _ _)).trans (.raise _ _ _ _)

theorem Aside.pairFault (code : Nat) : Aside s (s.pairFault code) := by
  unfold State.pairFault
  extract_lets u
  have hu : Aside s u := (Aside.modPair s _).trans (.stringDue _)
  exact .ite (.refl s) (.ite (hu.trans (.handOver u code)) hu)

/-- The stop at LEVEL 3 (R444). -/
theorem Aside.critStops (was : Nat) : Aside s (s.critStops was) :=
  .ite ((Aside.faultStop s).trans (.pairFault _ 3)) (.refl s)

end Sys2Proof.Machine
end

section
/-! SUPPORT. The end of a housekeeping round: what each of its steps leaves (R438 to R445). -/

namespace Sys2Proof.Machine

variable {s u : State}

/-! ### Tj is the highest used value -/

/-- The warmer of a sensor and those of a list, the earliest among equals. -/
def warmest (temp : Nat → Int) (h : Nat) (l : List Nat) : Nat := l.foldl (fun h i => if temp h < temp i then i else h) h

theorem State.hottest_eq (s : State) : s.hottest = warmest s.temp 0 (List.range 20) := rfl

theorem warmest_congr {t t' : Nat → Int} : ∀ (l : List Nat) (h : Nat), (∀ i ∈ h :: l, t' i = t i) →
    warmest t' h l = warmest t h l
  | [], _, _ => rfl
  | i :: l, h, hl => by
    have hh : t' h = t h := hl h List.mem_cons_self
    have hi : t' i = t i := hl i (by simp)
    have hrest : ∀ k ∈ l, t' k = t k := fun k hk => hl k (by simp [hk])
    have hnext : ∀ k ∈ (if t h < t i then i else h) :: l, t' k = t k := by
      rintro k (_ | ⟨_, hk⟩)
      · split
        · exact hi
        · exact hh
      · exact hrest k hk
    rw [warmest, List.foldl_cons, hh, hi]
    exact warmest_congr l _ hnext

theorem le_warmest {t : Nat → Int} : ∀ (l : List Nat) (h : Nat), ∀ i ∈ h :: l, t i ≤ t (warmest t h l)
  | [], h, i, hi => by
    rw [List.mem_singleton.1 hi]
    exact le_rfl
  | j :: l, h, i, hi => by
    have hrest := le_warmest (t := t) l (if t h < t j then j else h)
    have hhead := hrest _ List.mem_cons_self
    show t i ≤ t (warmest t (if t h < t j then j else h) l)
    rcases List.mem_cons.1 hi with rfl | hi
    · refine le_trans ?_ hhead
      split
      · exact le_of_lt ‹_›
      · exact le_rfl
    rcases List.mem_cons.1 hi with rfl | hi
    · refine le_trans ?_ hhead
      split
      · exact le_rfl
      · exact not_lt.1 ‹_›
    · exact hrest i (List.mem_cons_of_mem _ hi)

theorem State.temp_le_tj (s : State) {i : Nat} (hi : i < 20) : s.temp i ≤ s.tj :=
  le_warmest (List.range 20) 0 i (by simp [hi])

theorem State.hottest_congr (h : ∀ i < 20, u.temp i = s.temp i) : u.hottest = s.hottest := by
  rw [State.hottest_eq, State.hottest_eq]
  refine warmest_congr _ _ fun i hi => h i ?_
  have hmem : i = 0 ∨ i < 20 := by simpa using hi
  omega

theorem warmest_mem (t : Nat → Int) : ∀ (l : List Nat) (h : Nat), warmest t h l ∈ h :: l
  | [], h => List.mem_singleton_self h
  | i :: l, h => by
    rcases List.mem_cons.1 (warmest_mem t l (if t h < t i then i else h)) with hw | hw
    · rw [warmest, List.foldl_cons]
      show warmest t _ l ∈ _
      rw [hw]
      split <;> simp
    · exact List.mem_cons_of_mem _ (List.mem_cons_of_mem _ hw)

theorem State.hottest_lt (s : State) : s.hottest < 20 := by
  have hmem : s.hottest = 0 ∨ s.hottest < 20 := by simpa using! warmest_mem s.temp (List.range 20) 0
  omega

theorem State.tj_congr (h : ∀ i < 20, u.temp i = s.temp i) : u.tj = s.tj := by
  unfold State.tj
  rw [State.hottest_congr h]
  exact h _ s.hottest_lt

/-! ### The registers that a round judges -/

/-- The sensors, LEVEL, Tj, the thresholds, and what the thermal term is made of. -/
abbrev Fld.judged (f : Fld) : Prop := f.lo < 32 ∧ (0x50000 ≤ f.addr ∧ f.addr < 0x50074 ∨ f.addr = 0x50078)

theorem Fld.judged.thermal {f : Fld} (h : f.judged) : f.thermal := ⟨h.1, by have := h.2; omega⟩

theorem Fld.judged_used {i : Nat} (hi : i < 20) : (Reg.THERM_SENSOR_USED i).judged := by
  simp only [Fld.judged, Reg.THERM_SENSOR_USED]; omega

section
variable (h : ∀ f : Fld, f.judged → u.get f = s.get f)
include h

theorem State.temp_judged {i : Nat} (hi : i < 20) : u.temp i = s.temp i := by
  rw [State.temp, State.temp, State.getS, State.getS, h _ (Fld.judged_used hi)]

theorem State.tj_judged : u.tj = s.tj := State.tj_congr fun _ hi => State.temp_judged h hi

theorem State.thermalTerm_judged : u.thermalTerm = s.thermalTerm := by
  unfold State.thermalTerm
  rw [h Reg.THERM_STATUS_LEVEL (by decide), h Reg.THERM_WSPD_CFG_TW_START (by decide),
    h Reg.THERM_WSPD_CFG_TW_FLOOR (by decide), State.tj_judged h]

end

/-- The thresholds are configuration words. -/
theorem State.threshold_congr (h : ∀ f : Fld, f.lo < 32 → 0x50068 ≤ f.addr → f.addr < 0x50074 → u.get f = s.get f)
    (lv : Nat) : u.threshold lv = s.threshold lv := by
  unfold State.threshold
  rw [h Reg.THERM_THRESH_WARN (by decide) (by decide) (by decide),
    h Reg.THERM_THRESH_THROTTLE (by decide) (by decide) (by decide), h Reg.THERM_CRIT (by decide) (by decide) (by decide)]

theorem State.levelOf_congr (h : ∀ f : Fld, f.lo < 32 → 0x50068 ≤ f.addr → f.addr < 0x50074 → u.get f = s.get f)
    (tj : Int) : u.levelOf tj = s.levelOf tj := by
  unfold State.levelOf
  rw [State.threshold_congr h, State.threshold_congr h, State.threshold_congr h]

theorem State.levelOf_le (s : State) (tj : Int) : s.levelOf tj ≤ 3 := by
  unfold State.levelOf
  split
  · decide
  split
  · decide
  split <;> decide

/-! ### The cross-check (R439) -/

/-- The cross-check writes the sensors and their marks; the streaks are all that it keeps. -/
theorem State.crossCheck_keeps (s : State) (raw : List Int) : (s.crossCheck raw).therm.round = s.therm.round ∧
    (s.crossCheck raw).therm.refFaults = s.therm.refFaults ∧
    ∀ f : Fld, f.thermal → 0x50064 ≤ f.addr → (s.crossCheck raw).get f = s.get f := by
  unfold State.crossCheck
  extract_lets broken dev streak t v newly w broken'
  have hw : w.therm = v.therm ∧ ∀ f : Fld, f.thermal → 0x50064 ≤ f.addr → w.get f = v.get f := by
    refine List.foldlRecOn (motive := fun x : State => x.therm = v.therm ∧
      ∀ f : Fld, f.thermal → 0x50064 ≤ f.addr → x.get f = v.get f) newly _ ⟨rfl, fun _ _ _ => rfl⟩ fun x hx i _ => ?_
    have hraise := Aside.raise (x.set Reg.THERM_BROKEN_SENSORS (x.get Reg.THERM_BROKEN_SENSORS ||| 2 ^ i)) evSensorBroken 0
      (leBytes 1 i)
    refine ⟨hraise.therm.trans hx.1, fun f hf ha => ?_⟩
    refine (hraise.get f hf).trans ((State.get_set_other x ?_ _).trans (hx.2 f hf ha))
    simp only [Fld.key, Reg.THERM_BROKEN_SENSORS]; omega
  have hused : ∀ f : Fld, f.thermal → 0x50064 ≤ f.addr → ((List.range 20).foldl (fun s i =>
      (s.setS (Reg.THERM_SENSOR_RAW i) (raw.getD i 0)).setS (Reg.THERM_SENSOR_USED i) (usedValue raw broken' dev i)) w).get f =
        w.get f := fun f hf ha => by
    refine List.foldlRecOn (motive := fun x : State => x.get f = w.get f) (List.range 20) _ rfl fun x hx i hi => ?_
    have hi20 := List.mem_range.1 hi
    refine (State.get_set_other _ ?_ _).trans ((State.get_set_other x ?_ _).trans hx)
    · simp only [Fld.key, Reg.THERM_SENSOR_USED]; omega
    · simp only [Fld.key, Reg.THERM_SENSOR_RAW]; omega
  have htherm : ((List.range 20).foldl (fun s i =>
      (s.setS (Reg.THERM_SENSOR_RAW i) (raw.getD i 0)).setS (Reg.THERM_SENSOR_USED i) (usedValue raw broken' dev i)) w).therm =
        w.therm := RegsOnly.therm (.foldl (fun x i => (RegsOnly.set x _ _).trans (.set _ _ _)) _ w)
  refine ⟨?_, ?_, fun f hf ha => (hused f hf ha).trans (hw.2 f hf ha)⟩
  · rw [htherm, hw.1]
  · rw [htherm, hw.1]

/-! ### Tj and LEVEL (R440, R442) -/

theorem State.publishTj_regs (s : State) : RegsOnly s s.publishTj := (RegsOnly.set s _ _).trans (.set _ _ _)

/-- HOTTEST and TJ are the fields that publish Tj. -/
theorem State.publishTj_get {f : Fld} (hlo : f.lo < 32) (hf : f.addr ≠ 0x50064 ∨ f.lo < 8) :
    s.publishTj.get f = s.get f := by
  refine (State.get_set_other _ ?_ _).trans (State.get_set_other s ?_ _)
  · simp only [Fld.key, Reg.THERM_STATUS_TJ]; omega
  · simp only [Fld.key, Reg.THERM_STATUS_HOTTEST]; omega

theorem State.publishTj_temp {i : Nat} (hi : i < 20) : s.publishTj.temp i = s.temp i := by
  rw [State.temp, State.temp, State.getS, State.getS, State.publishTj_get (by simp [Reg.THERM_SENSOR_USED])
    (.inl (by simp only [Reg.THERM_SENSOR_USED]; omega))]

theorem State.publishTj_tj : s.publishTj.tj = s.tj := State.tj_congr fun _ hi => State.publishTj_temp hi

theorem State.publishTj_shown : s.publishTj.getS Reg.THERM_STATUS_TJ = s.tj :=
  State.getS_setS_same _ (by decide) (inS_sgn (by decide))

/-- LEVEL is the one field that its update writes (R442). -/
theorem State.updateLevel_keeps (s : State) : s.updateLevel.therm = s.therm ∧
    ∀ f : Fld, f.thermal → f.key ≠ Reg.THERM_STATUS_LEVEL.key → s.updateLevel.get f = s.get f := by
  unfold State.updateLevel
  extract_lets tj lv new
  have hset : ∀ (v : Nat) (f : Fld), f.key ≠ Reg.THERM_STATUS_LEVEL.key → (s.set Reg.THERM_STATUS_LEVEL v).get f = s.get f :=
    fun v f hf => State.get_set_other s hf v
  have hraise := fun v => Aside.raise (s.set Reg.THERM_STATUS_LEVEL v) (levelEvent new) 0 (leBytes 2 s.hottest ++ leInt 2 tj)
  split
  · exact ⟨(hraise new).therm, fun f hf hk => ((hraise new).get f hf).trans (hset _ f hk)⟩
  · split
    · exact ⟨rfl, fun f _ hk => hset _ f hk⟩
    · exact ⟨rfl, fun _ _ _ => rfl⟩

theorem State.updateLevel_level (s : State) (hlv : s.get Reg.THERM_STATUS_LEVEL ≤ 3) :
    s.updateLevel.get Reg.THERM_STATUS_LEVEL =
      if s.get Reg.THERM_STATUS_LEVEL < s.levelOf s.tj then s.levelOf s.tj
      else if 0 < s.get Reg.THERM_STATUS_LEVEL ∧
          s.tj < s.threshold (s.get Reg.THERM_STATUS_LEVEL) - s.get Reg.THERM_HYST then s.get Reg.THERM_STATUS_LEVEL - 1
      else s.get Reg.THERM_STATUS_LEVEL := by
  have hfits : ∀ v ≤ 3, (s.set Reg.THERM_STATUS_LEVEL v).get Reg.THERM_STATUS_LEVEL = v := fun v hv => by
    rw [State.get_set_same]
    exact Nat.mod_eq_of_lt (by simp only [Reg.THERM_STATUS_LEVEL]; omega)
  unfold State.updateLevel
  dsimp only
  split
  · rw [(Aside.raise _ _ _ _).get _ (by decide), hfits _ (s.levelOf_le _)]
  · split
    · exact hfits _ (by omega)
    · rfl

/-! ### A round with sound references -/

/-- A round with sound references: Tj is shown, and LEVEL follows it by R442. -/
theorem State.goodRound_shows (s : State) (raw : List Int) (hlv : s.get Reg.THERM_STATUS_LEVEL ≤ 3) :
    (s.goodRound raw).getS Reg.THERM_STATUS_TJ = (s.goodRound raw).tj ∧
      (s.goodRound raw).get Reg.THERM_STATUS_LEVEL =
        (if s.get Reg.THERM_STATUS_LEVEL < s.levelOf (s.goodRound raw).tj then s.levelOf (s.goodRound raw).tj
        else if 0 < s.get Reg.THERM_STATUS_LEVEL ∧ (s.goodRound raw).tj <
            s.threshold (s.get Reg.THERM_STATUS_LEVEL) - s.get Reg.THERM_HYST then s.get Reg.THERM_STATUS_LEVEL - 1
        else s.get Reg.THERM_STATUS_LEVEL) := by
  unfold State.goodRound
  extract_lets x was
  have hx : ∀ f : Fld, f.thermal → 0x50064 ≤ f.addr → x.get f = s.get f := (State.crossCheck_keeps _ raw).2.2
  have hy : ∀ f : Fld, f.thermal → 0x50064 < f.addr → x.publishTj.get f = s.get f := fun f hf ha =>
    (State.publishTj_get hf.1 (.inl (by omega))).trans (hx f hf (by omega))
  have hcfg : ∀ f : Fld, f.lo < 32 → 0x50068 ≤ f.addr → f.addr < 0x50074 → x.publishTj.get f = s.get f :=
    fun f hlo h1 h2 => hy f ⟨hlo, by omega⟩ (by omega)
  have hlevel : x.publishTj.get Reg.THERM_STATUS_LEVEL = s.get Reg.THERM_STATUS_LEVEL :=
    (State.publishTj_get (by decide) (.inr (by decide))).trans (hx _ (by decide) (by decide))
  have hstop := Aside.critStops x.publishTj.updateLevel was
  have hkeeps := (State.updateLevel_keeps x.publishTj).2
  have htj : (x.publishTj.updateLevel.critStops was).tj = x.tj := by
    refine (State.tj_congr fun i hi => ?_).trans State.publishTj_tj
    have hused := Fld.judged_used hi
    rw [State.temp, State.temp, State.getS, State.getS, hstop.get _ hused.thermal, hkeeps _ hused.thermal ?_]
    simp only [Fld.key, Reg.THERM_SENSOR_USED, Reg.THERM_STATUS_LEVEL]; omega
  rw [htj]
  constructor
  · rw [State.getS, hstop.get _ (by decide), hkeeps _ (by decide) (by decide)]
    exact State.publishTj_shown
  · rw [hstop.get _ (by decide), State.updateLevel_level _ (by rw [hlevel]; exact hlv), hlevel, State.publishTj_tj,
      State.levelOf_congr hcfg, State.threshold_congr hcfg, hy Reg.THERM_HYST (by decide) (by decide)]

theorem State.goodRound_therm (s : State) (raw : List Int) : (s.goodRound raw).therm.round = s.therm.round ∧
    (s.goodRound raw).therm.refFaults = 0 ∧
    (s.goodRound raw).get Reg.THERM_ROUNDS_COUNT = s.get Reg.THERM_ROUNDS_COUNT := by
  obtain ⟨hround, hfaults, hget⟩ := State.crossCheck_keeps (s.modTherm (fun x => { x with refFaults := 0 })) raw
  unfold State.goodRound
  extract_lets x was
  change x.therm.round = s.therm.round at hround
  change x.therm.refFaults = 0 at hfaults
  change ∀ f : Fld, f.thermal → 0x50064 ≤ f.addr → x.get f = s.get f at hget
  clear_value x
  obtain ⟨htherm, hlevel⟩ := State.updateLevel_keeps x.publishTj
  have hstop := Aside.critStops x.publishTj.updateLevel was
  have hpublish : x.publishTj.therm = x.therm := (State.publishTj_regs x).therm
  refine ⟨?_, ?_, ?_⟩
  · rw [hstop.therm, htherm, hpublish]
    exact hround
  · rw [hstop.therm, htherm, hpublish]
    exact hfaults
  · rw [hstop.get _ (by decide), hlevel _ (by decide) (by decide), State.publishTj_get (by decide) (.inl (by decide))]
    exact hget _ (by decide) (by decide)

/-! ### A round with a reference fault (R441) -/

/-- A reference fault is counted and shown; the third in a row sets LEVEL 3, and no temperature changes. -/
theorem State.refFault_shows (s : State) : s.refFault.flag Reg.THERM_STATUS_REF_FAULT = true ∧
    s.refFault.therm.round = s.therm.round ∧ s.refFault.therm.refFaults = s.therm.refFaults + 1 ∧
    s.refFault.get Reg.THERM_STATUS_LEVEL = (if s.therm.refFaults < 2 then s.get Reg.THERM_STATUS_LEVEL else 3) ∧
    ∀ f : Fld, f.thermal → f.addr ≠ 0x50064 → s.refFault.get f = s.get f := by
  unfold State.refFault
  extract_lets x was y z
  have hflag : x.get Reg.THERM_STATUS_REF_FAULT = 1 := by
    rw [State.modTherm_get]
    exact State.get_set_same s _ _
  have hx : ∀ f : Fld, f.key ≠ Reg.THERM_STATUS_REF_FAULT.key → x.get f = s.get f := fun f hf =>
    (State.modTherm_get ..).trans (State.get_setB_other s hf _)
  have hfaults : x.therm.refFaults = s.therm.refFaults + 1 := rfl
  split
  case isTrue h =>
    refine ⟨by simp [State.flag, hflag], rfl, rfl, ?_, fun f hf ha => hx f ?_⟩
    · rw [if_pos (by omega), hx _ (by decide)]
    · simp only [Fld.key, Reg.THERM_STATUS_REF_FAULT]; have := hf.1; omega
  case isFalse h =>
    have hz : Aside y z := .ite (.raise y _ _ _) (.refl y)
    have hall : Aside y (z.critStops was) := hz.trans (.critStops z was)
    refine ⟨?_, ?_, ?_, ?_, fun f hf ha => ?_⟩
    · rw [State.flag, hall.get _ (by decide), State.get_set_other x (by decide), hflag]
      rfl
    · rw [hall.therm]
      rfl
    · rw [hall.therm]
      rfl
    · rw [hall.get _ (by decide), if_neg (by omega)]
      exact State.get_set_same x _ _
    · rw [hall.get f hf, State.get_set_other x (by simp only [Fld.key, Reg.THERM_STATUS_LEVEL]; have := hf.1; omega)]
      exact hx f (by simp only [Fld.key, Reg.THERM_STATUS_REF_FAULT]; have := hf.1; omega)

/-! ### What follows from the temperatures -/

/-- The channels, the throttle fraction and the thermal term are shown (R438, R443, R445). -/
def State.roundShown (s : State) (hk : List Nat) : State :=
  ((s.publishHk hk).updateThrottle).set Reg.LINEGEN_WSPD_THERMAL (s.publishHk hk).updateThrottle.thermalTerm

/-- The rest of a round: the corrections, the tracking runs, the banks, VCORE and the regulator. -/
def State.roundTail (s : State) (hk : List Nat) (dram : List (Option TrainMeas)) : State :=
  ((((((s.setS Reg.THERM_IRO_CORR_PPB s.iroCorrection).correctRefs).dramTracking dram).startTracking).vheadCheck hk).vcoreCheck
    (hk.getD 28 0)).pmPut [.readVout, .readIout]

theorem State.roundEnd_eq (s : State) (raw : List Int) (hk : List Nat) (dram : List (Option TrainMeas)) :
    s.roundEnd raw hk dram =
      ((if refsOk hk then ((s.modTherm (fun x => { x with round := false })).inc Reg.THERM_ROUNDS_COUNT).goodRound raw
        else ((s.modTherm (fun x => { x with round := false })).inc Reg.THERM_ROUNDS_COUNT).refFault).roundShown hk).roundTail
          hk dram := rfl

theorem State.publishHk_get {f : Fld} (hk : List Nat) (hlo : f.lo < 32) (ha : f.addr < 0x50100 ∨ 0x50200 ≤ f.addr) :
    (s.publishHk hk).get f = s.get f := by
  refine List.foldlRecOn (motive := fun u : State => u.get f = s.get f) (List.range 64) _ rfl fun u hu j hj => ?_
  have hj64 := List.mem_range.1 hj
  refine (State.get_set_other u ?_ _).trans hu
  simp only [Fld.key, Reg.THERM_HK]; omega

theorem State.updateThrottle_get {f : Fld} (hf : f.key ≠ Reg.THERM_THROTTLE_P.key) : s.updateThrottle.get f = s.get f := by
  unfold State.updateThrottle
  split
  · exact State.get_set_other s hf _
  · exact State.get_set_other s hf _

theorem State.updateThrottle_regs (s : State) : RegsOnly s s.updateThrottle := .ite (.set s _ _) (.set s _ _)

theorem State.updateThrottle_low (h : s.get Reg.THERM_STATUS_LEVEL < 2) : s.updateThrottle.get Reg.THERM_THROTTLE_P = 0 := by
  unfold State.updateThrottle
  rw [if_pos h, State.get_set_same]
  rfl

theorem State.roundShown_regs (s : State) (hk : List Nat) : RegsOnly s (s.roundShown hk) :=
  ((RegsOnly.foldl (fun u _ => .set u _ _) _ s).trans (State.updateThrottle_regs _)).trans (.set _ _ _)

theorem State.roundShown_get {f : Fld} (hk : List Nat) (hlo : f.lo < 32) (ha : f.addr < 0x50100)
    (hf : f.key ≠ Reg.THERM_THROTTLE_P.key) : (s.roundShown hk).get f = s.get f := by
  refine (State.get_set_other _ ?_ _).trans ((State.updateThrottle_get hf).trans (State.publishHk_get hk hlo (.inl ha)))
  simp only [Fld.key, Reg.LINEGEN_WSPD_THERMAL]; omega

theorem State.roundShown_throttle (hk : List Nat) (h : s.get Reg.THERM_STATUS_LEVEL < 2) :
    (s.roundShown hk).get Reg.THERM_THROTTLE_P = 0 := by
  refine (State.get_set_other _ (by decide) _).trans (State.updateThrottle_low ?_)
  rwa [State.publishHk_get hk (by decide) (.inl (by decide))]

theorem State.roundShown_term (s : State) (hk : List Nat) : (s.roundShown hk).get Reg.LINEGEN_WSPD_THERMAL =
    low (Reg.LINEGEN_WSPD_THERMAL).w (s.roundShown hk).thermalTerm := by
  refine (State.get_set_same _ _ _).trans (congrArg (low _) (State.thermalTerm_judged fun f hf => ?_).symm)
  exact State.get_set_other _ (by simp only [Fld.key, Reg.LINEGEN_WSPD_THERMAL]; have := hf.1; have := hf.2; omega) _

/-! ### The rest of the round -/

theorem Aside.rejectChannel (s : State) (c : Nat) : Aside s (s.rejectChannel c) := by
  refine ((Aside.set s ?_ _).trans (.set _ (by decide) _)).trans (.set _ (by decide) _)
  simp only [Fld.aside, Reg.MEMCTL_CH_TRAIN_REJECTED]; omega

theorem Aside.track (s : State) (c : Nat) (m : TrainMeas) : Aside s (s.track c m) := by
  unfold State.track
  extract_lets u v
  have hu : Aside s u := .of_parts rfl
  have hv : Aside u v := .set u (by simp only [Fld.aside, Reg.MEMCTL_CH_TRAIN_EYE_MIN]; omega) _
  have htemp : Aside v (v.setS (Reg.MEMCTL_CH_TRAIN_TEMP_TEMP c) (v.temp (stackSensor c))) :=
    .set v (by simp only [Fld.aside, Reg.MEMCTL_CH_TRAIN_TEMP_TEMP]; omega) _
  exact .ite (((hu.trans hv).trans htemp).trans (.set _ (by decide) _))
    (((Aside.rejectChannel s c).trans (.raise _ _ _ _)).trans (.raise _ _ _ _))

theorem Aside.dramTracking (s : State) (dram : List (Option TrainMeas)) : Aside s (s.dramTracking dram) := by
  refine .foldl (fun u c _ => ?_) s
  split
  · exact .ite (.track u c _) (.refl u)
  · exact .refl u

theorem Aside.vcoreCheck (s : State) (mv : Nat) : Aside s (s.vcoreCheck mv) := by
  unfold State.vcoreCheck
  extract_lets n u
  have hu : Aside s u := .of_parts rfl
  exact .ite (hu.trans (.set u (by decide) _)) hu

theorem Aside.pmPut (s : State) (ops : List PmOp) : Aside s (s.pmPut ops) := .ite (.of_parts rfl) (.refl s)

/-- The rest of a round leaves the round, the count of faults, and every register of the temperatures but the IRO's
correction. -/
theorem State.roundTail_keeps (s : State) (hk : List Nat) (dram : List (Option TrainMeas)) :
    (s.roundTail hk dram).therm.round = s.therm.round ∧ (s.roundTail hk dram).therm.refFaults = s.therm.refFaults ∧
    ∀ f : Fld, f.thermal → f.addr ≠ 0x5007C → (s.roundTail hk dram).get f = s.get f := by
  unfold State.roundTail
  generalize hv : (s.setS Reg.THERM_IRO_CORR_PPB s.iroCorrection).correctRefs = v
  have hround : v.therm.round = s.therm.round ∧ v.therm.refFaults = s.therm.refFaults := by
    rw [← hv]
    exact ⟨rfl, rfl⟩
  have hget : ∀ f : Fld, f.thermal → f.addr ≠ 0x5007C → v.get f = s.get f := fun f hf ha => by
    rw [← hv]
    exact State.get_set_other s (by simp only [Fld.key, Reg.THERM_IRO_CORR_PPB]; have := hf.1; omega) _
  have htrack := Aside.dramTracking v dram
  have hrest := ((Aside.vheadCheck (v.dramTracking dram).startTracking hk).trans (.vcoreCheck _ (hk.getD 28 0))).trans
    (.pmPut _ [.readVout, .readIout])
  have hstart : (v.dramTracking dram).startTracking.therm.round = v.therm.round ∧
      (v.dramTracking dram).startTracking.therm.refFaults = v.therm.refFaults := by
    rw [← htrack.therm]
    exact ⟨rfl, rfl⟩
  refine ⟨?_, ?_, fun f hf ha => ?_⟩
  · rw [hrest.therm, hstart.1, hround.1]
  · rw [hrest.therm, hstart.2, hround.2]
  · exact (hrest.get f hf).trans ((htrack.get f hf).trans (hget f hf ha))

end Sys2Proof.Machine
end

section
/-! SUPPORT. The end of a target's measurement, and the steps of its taps (R448 to R451). -/

namespace Sys2Proof.Machine

variable {s u : State} {k n : Nat}

/-! ### The units of a target -/

theorem State.tapUnits_congr (h : u.therm = s.therm) : u.tapUnits k = s.tapUnits k := by simp [State.tapUnits, h]

theorem State.tapUnits_modTap (s : State) (k n : Nat) (f : TapUnit → TapUnit) :
    (s.modTap k n f).tapUnits k = modAt f n (s.tapUnits k) := by
  unfold State.tapUnits State.modTap
  by_cases h1 : k = 1
  · simp [h1]
  · by_cases h2 : k = 2
    · simp [h2]
    · simp [h1, h2]

theorem State.modTap_heads (s : State) (n : Nat) (f : TapUnit → TapUnit) :
    (s.modTap 2 n f).therm.heads = modAt f n s.therm.heads := rfl

/-- The runs and the tracking measurements stay, with DRAM. -/
structure TapKept (s u : State) : Prop where
  runs : u.therm.runs = s.therm.runs
  tracking : u.therm.tracking = s.therm.tracking
  dram : u.dram = s.dram

theorem TapKept.refl (s : State) : TapKept s s := ⟨rfl, rfl, rfl⟩

theorem TapKept.trans {v : State} (h : TapKept s u) (k : TapKept u v) : TapKept s v :=
  ⟨k.runs.trans h.runs, k.tracking.trans h.tracking, k.dram.trans h.dram⟩

theorem TapKept.of_regs (h : RegsOnly s u) : TapKept s u := ⟨by rw [h.therm], by rw [h.therm], h.dram⟩

theorem TapKept.raise (s : State) (c m : Nat) (a : List Byte) : TapKept s (s.raise c m a) :=
  ⟨by rw [State.raise_therm], by rw [State.raise_therm], State.raise_dram ..⟩

theorem TapKept.modTap (s : State) (k n : Nat) (f : TapUnit → TapUnit) : TapKept s (s.modTap k n f) := by
  unfold State.modTap
  by_cases h1 : k = 1
  · exact ⟨by simp [h1], by simp [h1], rfl⟩
  · by_cases h2 : k = 2
    · exact ⟨by simp [h2], by simp [h2], rfl⟩
    · exact ⟨by simp [h1, h2], by simp [h1, h2], rfl⟩

/-! ### One unit's result -/

theorem State.showDeskew_regs (s : State) (k n : Nat) : RegsOnly s (s.showDeskew k n) := by
  unfold State.showDeskew
  refine .ite ?_ (.refl s)
  split
  · exact ((RegsOnly.set s _ _).trans (.set _ _ _)).trans (.set _ _ _)
  · exact .refl s

theorem State.rejectTap_therm : (s.rejectTap k n).therm = s.therm := by
  unfold State.rejectTap
  rw [State.raise_therm]
  exact RegsOnly.therm ((RegsOnly.set s _ _).trans (.set _ _ _))

theorem TapKept.rejectTap (s : State) (k n : Nat) : TapKept s (s.rejectTap k n) :=
  (TapKept.of_regs ((RegsOnly.set s _ _).trans (.set _ _ _))).trans (.raise _ _ _ _)

section
variable {tracking : Bool} {results : List TapMeas}

/-- The result of a unit that is accepted. -/
theorem State.judgeTap_accepts {m : TapMeas} (hm : results.find? (fun m => m.unit == n) = some m)
    (hok : tapOk tracking ((s.tapUnits k).getD n .init) m = true) (hport : s.portSpreadOk k m = true) :
    s.judgeTap k tracking results n = ((s.acceptTap k (s.tapInService k n) m).showDeskew k n, false) := by
  simp only [State.judgeTap, hm]
  exact if_pos (by rw [hok, hport]; rfl)

/-- A unit without a result that keeps the limits. -/
theorem State.judgeTap_rejects (h : ∀ m, results.find? (fun m => m.unit == n) = some m →
    tapOk tracking ((s.tapUnits k).getD n .init) m = true → s.portSpreadOk k m = false) :
    s.judgeTap k tracking results n = (s.rejectTap k n, true) := by
  unfold State.judgeTap
  split
  case h_1 m hm =>
    rw [if_neg fun hok => ?_]
    obtain ⟨hlimits, hport⟩ := (Bool.and_eq_true _ _).mp hok
    exact Bool.false_ne_true ((h m hm hlimits).symm.trans hport)
  case h_2 => rfl

/-- A judgement accepts the unit's own result, or rejects the unit. -/
theorem State.judgeTap_cases (s : State) (k n : Nat) (tracking : Bool) (results : List TapMeas) :
    (∃ m, m.unit = n ∧ s.judgeTap k tracking results n = ((s.acceptTap k (s.tapInService k n) m).showDeskew k n, false)) ∨
      s.judgeTap k tracking results n = (s.rejectTap k n, true) := by
  by_cases h : ∃ m, results.find? (fun m => m.unit == n) = some m ∧
      tapOk tracking ((s.tapUnits k).getD n .init) m = true ∧ s.portSpreadOk k m = true
  · obtain ⟨m, hm, hok, hport⟩ := h
    exact .inl ⟨m, by simpa using List.find?_some hm, State.judgeTap_accepts hm hok hport⟩
  · refine .inr (State.judgeTap_rejects fun m hm hok => ?_)
    by_contra hport
    exact h ⟨m, hm, hok, by simpa using hport⟩

theorem TapKept.judgeTap (s : State) (k n : Nat) (tracking : Bool) (results : List TapMeas) :
    TapKept s (s.judgeTap k tracking results n).1 := by
  rcases State.judgeTap_cases s k n tracking results with ⟨m, -, hj⟩ | hj
  · rw [hj]
    exact (TapKept.modTap s _ _ _).trans (.of_regs (State.showDeskew_regs _ _ _))
  · rw [hj]
    exact .rejectTap s k n

theorem TapKept.judgeTaps (k : Nat) (tracking : Bool) (results : List TapMeas) :
    ∀ (l : List Nat) (s : State), TapKept s (s.judgeTaps k tracking results l).1
  | [], s => .refl s
  | n :: l, s => (TapKept.judgeTap s k n tracking results).trans (TapKept.judgeTaps k tracking results l _)

/-! ### Head ports -/

/-- A judgement of a head port leaves the others. -/
theorem State.judgeTap_other {q : Nat} (hq : q ≠ n) :
    (s.judgeTap 2 tracking results n).1.therm.heads.getD q .init = s.therm.heads.getD q .init := by
  rcases State.judgeTap_cases s 2 n tracking results with ⟨m, hm, hj⟩ | hj
  · rw [hj, (State.showDeskew_regs _ _ _).therm, State.acceptTap, State.modTap_heads]
    exact modAt_getD_other _ _ _ _ _ (by rw [hm]; exact hq)
  · rw [hj, State.rejectTap_therm]

theorem State.judgeTap_heads_length :
    (s.judgeTap 2 tracking results n).1.therm.heads.length = s.therm.heads.length := by
  rcases State.judgeTap_cases s 2 n tracking results with ⟨m, -, hj⟩ | hj
  · rw [hj, (State.showDeskew_regs _ _ _).therm, State.acceptTap, State.modTap_heads, modAt_length]
  · rw [hj, State.rejectTap_therm]

/-- The values that a unit accepts from its result, or from the want of one (R451). -/
def acceptedOf (tracking : Bool) (old : TapUnit) : Option TapMeas → List Int
  | some m => if tapOk tracking old m = true then m.taps else old.accepted
  | none => old.accepted

/-- A head port is a port of one unit: its result is judged alone. -/
theorem State.judgeTap_head (hn : n < s.therm.heads.length) :
    ((s.judgeTap 2 tracking results n).1.therm.heads.getD n .init).accepted =
      acceptedOf tracking (s.therm.heads.getD n .init) (results.find? (fun m => m.unit == n)) := by
  have hkeep : (∀ m, results.find? (fun m => m.unit == n) = some m → tapOk tracking (s.therm.heads.getD n .init) m = false) →
      ((s.judgeTap 2 tracking results n).1.therm.heads.getD n .init).accepted = (s.therm.heads.getD n .init).accepted :=
    fun h => by
      rw [State.judgeTap_rejects fun m hm hok => absurd ((h m hm).symm.trans hok) (by decide), State.rejectTap_therm]
  cases hm : results.find? (fun m => m.unit == n) with
  | none => exact hkeep fun m h => by simp [hm] at h
  | some m =>
    by_cases hok : tapOk tracking (s.therm.heads.getD n .init) m = true
    · have hunit : m.unit = n := by simpa using List.find?_some hm
      rw [State.judgeTap_accepts hm hok rfl, (State.showDeskew_regs _ _ _).therm, State.acceptTap, State.modTap_heads, hunit,
        modAt_getD_same _ _ _ _ hn, acceptedOf, if_pos hok]
    · rw [acceptedOf, if_neg hok]
      exact hkeep fun m' h => by
        rw [hm] at h
        cases h
        simpa using hok

theorem State.judgeTaps_head {q : Nat} : ∀ (l : List Nat) (s : State), l.Nodup → q < s.therm.heads.length →
    ((s.judgeTaps 2 tracking results l).1.therm.heads.getD q .init).accepted =
      if q ∈ l then acceptedOf tracking (s.therm.heads.getD q .init) (results.find? (fun m => m.unit == q))
      else (s.therm.heads.getD q .init).accepted
  | [], _, _, _ => rfl
  | n :: l, s, hl, hq => by
    obtain ⟨hn, hl⟩ := List.nodup_cons.1 hl
    have hrest := State.judgeTaps_head l (s.judgeTap 2 tracking results n).1 hl (by rwa [State.judgeTap_heads_length])
    refine hrest.trans ?_
    by_cases hqn : q = n
    · subst hqn
      rw [if_neg hn, if_pos List.mem_cons_self, State.judgeTap_head hq]
    · rw [State.judgeTap_other hqn]
      simp [hqn]

end

/-! ### The runs that a measurement ends -/

/-- A target that has been measured is struck out of a run that was to measure it (R449). -/
def CalRun.struck (k : Nat) (rejected : Bool) (r : CalRun) : CalRun :=
  if bit r.left k then { r with left := r.left - 2 ^ k, rejected := r.rejected || rejected } else r

theorem bit_sub_two_pow {m k : Nat} (h : bit m k = true) : bit (m - 2 ^ k) k = false := by
  have hdiv : (m - 2 ^ k) / 2 ^ k = m / 2 ^ k - 1 := by
    have := Nat.sub_mul_div m (2 ^ k) 1
    rwa [Nat.mul_one] at this
  have hm : m / 2 ^ k % 2 = 1 := by simpa [bit] using h
  simp only [bit, hdiv, decide_eq_false_iff_not]
  omega

theorem CalRun.struck_left (k : Nat) (rejected : Bool) (r : CalRun) : bit (r.struck k rejected).left k = false := by
  unfold CalRun.struck
  split
  case isTrue h => exact bit_sub_two_pow h
  case isFalse h => exact Bool.eq_false_iff.mpr h

theorem State.runsMeasured_keeps (s : State) (k : Nat) (rejected : Bool) :
    (s.runsMeasured k rejected).therm = { s.therm with
      runs := (s.therm.runs.map (CalRun.struck k rejected)).filter (fun r => r.left != 0) } ∧
    (s.runsMeasured k rejected).dram = s.dram :=
  foldl_keeps (P := fun u : State => u.therm = { s.therm with
      runs := (s.therm.runs.map (CalRun.struck k rejected)).filter (fun r => r.left != 0) } ∧ u.dram = s.dram)
    (fun _ _ hu => ⟨(State.raise_therm ..).trans hu.1, (State.raise_dram ..).trans hu.2⟩) _ _ ⟨rfl, rfl⟩

/-- No run measures a target whose measurement has just ended. -/
theorem State.runsMeasured_done (s : State) (k : Nat) (rejected : Bool) :
    (s.runsMeasured k rejected).runMeasures k = false := by
  rw [State.runMeasures, (State.runsMeasured_keeps s k rejected).1, List.any_eq_false]
  intro r hr
  obtain ⟨r', -, rfl⟩ := List.mem_map.1 (List.mem_filter.1 hr).1
  simp [CalRun.struck_left]

theorem State.runMeasures_congr (h : u.therm.runs = s.therm.runs) : u.runMeasures k = s.runMeasures k := by
  simp [State.runMeasures, h]

/-! ### The end of a target's measurement -/

/-- The tracking measurements of a target have ended. -/
def State.untracked (s : State) (k : Nat) : State :=
  s.modTherm (fun x => { x with tracking := x.tracking.filter (fun x => x.1 != k) })

theorem State.untracked_tracking : ∀ x ∈ (s.untracked k).therm.tracking, x.1 ≠ k := fun x hx => by
  simpa using (List.mem_filter.1 hx).2

/-- Nothing measures the target: the result has no run to end. -/
theorem State.measured_idle {results : List TapMeas} (hr : s.runMeasures k = false) (ht : ∀ x ∈ s.therm.tracking, x.1 ≠ k) :
    s.measured k results = s := by
  have hmine : s.therm.tracking.filter (fun x => x.1 == k) = [] := by simpa using ht
  simp [State.measured, hr, hmine]

/-- The units judged, and the count of a run without a rejection. -/
def State.judged (s : State) (k : Nat) (tracking : Bool) (results : List TapMeas) (units : List Nat) : State :=
  if (s.judgeTaps k tracking results units).2 then (s.judgeTaps k tracking results units).1
  else (s.judgeTaps k tracking results units).1.inc (Reg.CAL_T_RUNS_COUNT k)

theorem State.judged_regs (s : State) (k : Nat) (tracking : Bool) (results : List TapMeas) (units : List Nat) :
    RegsOnly (s.judgeTaps k tracking results units).1 (s.judged k tracking results units) :=
  .ite (.refl _) (.set _ _ _)

theorem TapKept.judged (s : State) (k : Nat) (tracking : Bool) (results : List TapMeas) (units : List Nat) :
    TapKept s (s.judged k tracking results units) :=
  (TapKept.judgeTaps k tracking results units s).trans (.of_regs (State.judged_regs ..))

/-- The end of a target's measurement: nothing measures it any more, and DRAM stays (R449, R450). -/
theorem State.measured_ends {results : List TapMeas}
    (h : s.runMeasures k = true ∨ ∃ x ∈ s.therm.tracking, x.1 = k) :
    (s.measured k results).runMeasures k = false ∧ (s.measured k results).dram = s.dram ∧
      ∀ x ∈ (s.measured k results).therm.tracking, x.1 ≠ k := by
  unfold State.measured
  extract_lets mine clear r r'
  split
  case isTrue hrun =>
    have hkept := TapKept.judged s k false results (List.range (s.tapUnits k).length)
    generalize hj : s.judged k false results (List.range (s.tapUnits k).length) = j at hkept
    have hclear : clear (if r.2 then r.1 else r.1.inc (Reg.CAL_T_RUNS_COUNT k)) = j.untracked k := by rw [← hj]; rfl
    rw [hclear]
    obtain ⟨htherm, hdram⟩ := State.runsMeasured_keeps (j.untracked k) k r.2
    have hdone := State.runsMeasured_done (j.untracked k) k r.2
    have hleft : ∀ x ∈ ((j.untracked k).runsMeasured k r.2).therm.tracking, x.1 ≠ k := by
      rw [htherm]
      exact State.untracked_tracking
    have hend : ((j.untracked k).runsMeasured k r.2).dram = s.dram := hdram.trans hkept.dram
    unfold State.when
    split
    · rw [State.runMeasures_congr (s := (j.untracked k).runsMeasured k r.2) (by rw [State.raise_therm]), State.raise_dram,
        State.raise_therm]
      exact ⟨hdone, hend, hleft⟩
    · exact ⟨hdone, hend, hleft⟩
  case isFalse hrun =>
    have hmine : ¬mine.isEmpty = true := by
      obtain ⟨x, hx, hxk⟩ := h.resolve_left hrun
      have hmem : x.2 ∈ mine := List.mem_map.2 ⟨x, List.mem_filter.2 ⟨hx, by simp [hxk]⟩, rfl⟩
      simpa using List.ne_nil_of_mem hmem
    rw [if_neg hmine]
    have hkept := TapKept.judged s k true results mine
    generalize hj : s.judged k true results mine = j at hkept
    have hclear : clear (if r'.2 then r'.1 else r'.1.inc (Reg.CAL_T_RUNS_COUNT k)) = j.untracked k := by rw [← hj]; rfl
    rw [hclear, State.runMeasures_congr (s := s) (by rw [State.raise_therm]; exact hkept.runs), State.raise_dram,
      State.raise_therm]
    exact ⟨by simpa using hrun, hkept.dram, State.untracked_tracking⟩

/-- A CAL_RUN of the head ports judges each of them once. -/
theorem State.measured_heads {results : List TapMeas} (hr : s.runMeasures 2 = true) {q : Nat}
    (hq : q < s.therm.heads.length) : ((s.measured 2 results).therm.heads.getD q .init).accepted =
      acceptedOf false (s.therm.heads.getD q .init) (results.find? (fun m => m.unit == q)) := by
  have hjudge := State.judgeTaps_head (tracking := false) (results := results) (q := q)
    (List.range (s.tapUnits 2).length) s List.nodup_range hq
  rw [if_pos (List.mem_range.2 (show q < (s.tapUnits 2).length from hq))] at hjudge
  have hheads := congrArg ThermSt.heads (State.judged_regs s 2 false results (List.range (s.tapUnits 2).length)).therm
  unfold State.measured
  extract_lets mine clear r r'
  rw [if_pos hr]
  have hclear : (clear (if r.2 then r.1 else r.1.inc (Reg.CAL_T_RUNS_COUNT 2))).therm.heads = r.1.therm.heads :=
    hheads
  have hend : (((clear (if r.2 then r.1 else r.1.inc (Reg.CAL_T_RUNS_COUNT 2))).runsMeasured 2 r.2).when (!mine.isEmpty)
      (·.raise evCalDone 0 (leBytes 1 (2 ^ 2)))).therm.heads = r.1.therm.heads := by
    unfold State.when
    split
    · rw [State.raise_therm, (State.runsMeasured_keeps _ _ _).1, hclear]
    · rw [(State.runsMeasured_keeps _ _ _).1, hclear]
  rw [hend]
  exact hjudge

/-! ### A step of the taps -/

/-- A unit's last step lies 1 ms back (R448). -/
def TapUnit.stepDue (x : TapUnit) (now : Nat) : Bool :=
  match x.stepAt with | some a => decide (a + msSteps ≤ now) | none => true

theorem State.tapStep_waits (h : ((s.tapUnits k).getD n .init).stepDue s.now = false ∨
    ((s.tapUnits k).getD n .init).taps = ((s.tapUnits k).getD n .init).accepted ∨ (k = 2 ∧ s.betweenShifts n = false)) :
    s.tapStep k n = s := by
  unfold State.tapStep
  refine if_neg ?_
  rintro ⟨hdue, htaps, hshift⟩
  rcases h with h | h | ⟨hk, hb⟩
  · exact Bool.false_ne_true (h.symm.trans hdue)
  · exact htaps h
  · rcases hshift with hk' | hb'
    · exact hk' hk
    · exact Bool.false_ne_true (hb.symm.trans hb')

theorem State.tapStep_steps (hdue : ((s.tapUnits k).getD n .init).stepDue s.now = true)
    (htaps : ((s.tapUnits k).getD n .init).taps ≠ ((s.tapUnits k).getD n .init).accepted)
    (hshift : k = 2 → s.betweenShifts n = true)
    (hlen : ((s.tapUnits k).getD n .init).taps.length = ((s.tapUnits k).getD n .init).accepted.length) :
    s.tapStep k n = ((s.modTap k n (fun x => { x with
      taps := stepTaps ((s.tapUnits k).getD n .init).taps ((s.tapUnits k).getD n .init).accepted,
      stepAt := some s.now })).inc (Reg.CAL_T_STEPS_COUNT k)).showDeskew k n := by
  have hmay : k ≠ 2 ∨ s.betweenShifts n = true := by
    by_cases hk : k = 2
    · exact .inr (hshift hk)
    · exact .inl hk
  unfold State.tapStep
  refine (if_pos ⟨hdue, htaps, hmay⟩).trans ?_
  dsimp only
  rw [if_pos hlen]

/-- The DESKEW fields lie above those of the calibration. -/
theorem State.showDeskew_get {f : Fld} (hlo : f.lo < 32) (ha : f.addr < 0x110000) : (s.showDeskew k n).get f = s.get f := by
  unfold State.showDeskew
  split
  · split
    · refine (State.get_set_other _ ?_ _).trans ((State.get_set_other _ ?_ _).trans (State.get_set_other s ?_ _))
      · simp only [Fld.key, Reg.HEADPORT_HP_DESKEW_D1]; omega
      · simp only [Fld.key, Reg.HEADPORT_HP_DESKEW_D0]; omega
      · simp only [Fld.key, Reg.HEADPORT_HP_DESKEW_CK]; omega
    · rfl
  · rfl

end Sys2Proof.Machine
end

section
/-! SUPPORT. The statement on the events of the time triggers, of the rounds and of the taps. -/

namespace Sys2Proof.Machine

variable {s : State} {t k : Nat}

@[simp] theorem State.elapse_runMeasures : (s.elapse t).runMeasures k = s.runMeasures k := by simp [State.runMeasures]
@[simp] theorem State.elapse_tapUnits : (s.elapse t).tapUnits k = s.tapUnits k := State.tapUnits_congr (by simp)
@[simp] theorem State.elapse_trigNext : (s.elapse t).trigNext k = s.trigNext k := by simp [State.trigNext]
@[simp] theorem State.elapse_trigAwaited (a : Nat) : (s.elapse t).trigAwaited k a = s.trigAwaited k a := by
  simp [State.trigAwaited, State.axisRecord]
@[simp] theorem State.elapse_threshold (lv : Nat) : (s.elapse t).threshold lv = s.threshold lv := by simp [State.threshold]
@[simp] theorem State.elapse_levelOf (tj : Int) : (s.elapse t).levelOf tj = s.levelOf tj := by simp [State.levelOf]
@[simp] theorem State.elapse_temp (i : Nat) : (s.elapse t).temp i = s.temp i := by simp [State.temp]

/-! ### A trigger that is due -/

theorem State.trigNext_congr {u : State} (h : ∀ f : Fld, f.lo < 32 → f.addr < 0x50000 → u.get f = s.get f) (hk : k < 5) :
    u.trigNext k = s.trigNext k := by
  unfold State.trigNext
  rw [h (Reg.TIME_TRIG_NEXT_S_LO k) (by simp [Reg.TIME_TRIG_NEXT_S_LO]) (by simp only [Reg.TIME_TRIG_NEXT_S_LO]; omega),
    h (Reg.TIME_TRIG_NEXT_S_HI k) (by simp [Reg.TIME_TRIG_NEXT_S_HI]) (by simp only [Reg.TIME_TRIG_NEXT_S_HI]; omega),
    h (Reg.TIME_TRIG_NEXT_NS k) (by simp [Reg.TIME_TRIG_NEXT_NS]) (by simp only [Reg.TIME_TRIG_NEXT_NS]; omega)]

/-- The words of a trigger after its event (R433, R435). -/
theorem State.triggerEvent_counts (hk : k < 5) (ha : s.awake = true) (h : s.trigDue k = true) :
    (s.triggerEvent k).get (Reg.TIME_TRIG_FIRED_COUNT k) =
      low (Reg.TIME_TRIG_FIRED_COUNT k).w (s.get (Reg.TIME_TRIG_FIRED_COUNT k) + 1) ∧
    (s.get (Reg.TIME_TRIG_PERIOD_NS k) = 0 → (s.triggerEvent k).flag (Reg.TIME_TRIG_CTRL_ARMED k) = false) ∧
    (s.get (Reg.TIME_TRIG_PERIOD_NS k) ≠ 0 → (s.triggerEvent k).flag (Reg.TIME_TRIG_CTRL_ARMED k) = true ∧
      (s.triggerEvent k).get (Reg.TIME_TRIG_MISSED_COUNT k) = min (s.get (Reg.TIME_TRIG_MISSED_COUNT k) + s.trigSkipped k)
        (2 ^ (Reg.TIME_TRIG_MISSED_COUNT k).w - 1) ∧
      (s.trigNext k + (s.trigSkipped k + 1) * s.get (Reg.TIME_TRIG_PERIOD_NS k) < 2 ^ 48 * secNs →
        (s.triggerEvent k).trigNext k = s.trigNext k + (s.trigSkipped k + 1) * s.get (Reg.TIME_TRIG_PERIOD_NS k))) := by
  have htime : ∀ f : Fld, f.lo < 32 → f.addr < 0x50000 → (s.triggerEvent k).get f = (s.fireTrigger k).get f :=
    fun f => State.triggerEvent_time hk ha h
  have harmed : (s.triggerEvent k).get (Reg.TIME_TRIG_CTRL_ARMED k) = (s.fireTrigger k).get (Reg.TIME_TRIG_CTRL_ARMED k) :=
    htime _ (by simp [Reg.TIME_TRIG_CTRL_ARMED]) (by simp only [Reg.TIME_TRIG_CTRL_ARMED]; omega)
  refine ⟨?_, fun hper => ?_, fun hper => ⟨?_, ?_, fun hfits => ?_⟩⟩
  · rw [htime _ (by simp [Reg.TIME_TRIG_FIRED_COUNT]) (by simp only [Reg.TIME_TRIG_FIRED_COUNT]; omega),
      State.fireTrigger_fired]
  · rw [State.flag, harmed]
    exact State.fireTrigger_disarmed hper
  · rw [State.flag, harmed, State.fireTrigger_armed hper]
    exact (Bool.and_eq_true _ _ ▸ h).1
  · rw [htime _ (by simp [Reg.TIME_TRIG_MISSED_COUNT]) (by simp only [Reg.TIME_TRIG_MISSED_COUNT]; omega),
      State.fireTrigger_missed hper]
  · rw [State.trigNext_congr htime hk, State.fireTrigger_again hper, State.putTrigNext_trigNext hfits]

/-! ### The end of a round -/

/-- The state as the round has ended, its results not yet judged. -/
def State.roundDone (s : State) : State := (s.modTherm (fun x => { x with round := false })).inc Reg.THERM_ROUNDS_COUNT

theorem State.roundDone_get {f : Fld} (hf : f.key ≠ Reg.THERM_ROUNDS_COUNT.key) : s.roundDone.get f = s.get f :=
  State.get_set_other _ hf _

theorem State.roundDone_count : s.roundDone.get Reg.THERM_ROUNDS_COUNT =
    low (Reg.THERM_ROUNDS_COUNT).w (s.get Reg.THERM_ROUNDS_COUNT + 1) := State.get_set_same _ _ _

section
variable (s : State) (raw : List Int) (hk : List Nat) (dram : List (Option TrainMeas))

/-- The state once the round's temperatures are judged, or discarded. -/
def State.roundJudged (s : State) (raw : List Int) (hk : List Nat) : State :=
  if refsOk hk then s.roundDone.goodRound raw else s.roundDone.refFault

/-- What the rest of a round leaves of the judged registers. -/
theorem State.roundEnd_get {f : Fld} (hf : f.thermal) (ha : f.addr < 0x50100) (hp : f.key ≠ Reg.THERM_THROTTLE_P.key)
    (hi : f.addr ≠ 0x5007C) : (s.roundEnd raw hk dram).get f = (s.roundJudged raw hk).get f := by
  rw [State.roundEnd_eq]
  exact ((State.roundTail_keeps _ hk dram).2.2 f hf hi).trans (State.roundShown_get hk hf.1 ha hp)

theorem State.roundEnd_judged : ∀ f : Fld, f.judged → (s.roundEnd raw hk dram).get f = (s.roundJudged raw hk).get f :=
  fun f hf => by
    obtain ⟨hlo, ha⟩ := hf
    exact s.roundEnd_get raw hk dram ⟨hlo, by omega⟩ (by omega)
      (by simp only [Fld.key, Reg.THERM_THROTTLE_P]; omega) (by omega)

theorem State.roundEnd_therm : (s.roundEnd raw hk dram).therm.round = (s.roundJudged raw hk).therm.round ∧
    (s.roundEnd raw hk dram).therm.refFaults = (s.roundJudged raw hk).therm.refFaults := by
  rw [State.roundEnd_eq]
  obtain ⟨hround, hfaults, -⟩ := State.roundTail_keeps ((s.roundJudged raw hk).roundShown hk) hk dram
  have hshown := (State.roundShown_regs (s.roundJudged raw hk) hk).therm
  exact ⟨hround.trans (by rw [hshown]), hfaults.trans (by rw [hshown])⟩

/-- THROTTLE_P is 0 below LEVEL 2, and the thermal term is shown (R443, R445). -/
theorem State.roundEnd_shows :
    (s.roundEnd raw hk dram).get Reg.LINEGEN_WSPD_THERMAL =
      low (Reg.LINEGEN_WSPD_THERMAL).w (s.roundEnd raw hk dram).thermalTerm ∧
    ((s.roundEnd raw hk dram).get Reg.THERM_STATUS_LEVEL < 2 → (s.roundEnd raw hk dram).get Reg.THERM_THROTTLE_P = 0) := by
  have htail := (State.roundTail_keeps ((s.roundJudged raw hk).roundShown hk) hk dram).2.2
  have hlevel := s.roundEnd_judged raw hk dram Reg.THERM_STATUS_LEVEL (by decide)
  refine ⟨?_, fun h => ?_⟩
  · have hterm : (s.roundEnd raw hk dram).thermalTerm = ((s.roundJudged raw hk).roundShown hk).thermalTerm :=
      State.thermalTerm_judged fun f hf => htail f hf.thermal (by have := hf.2; omega)
    rw [hterm, ← State.roundShown_term]
    exact htail _ (by decide) (by decide)
  · rw [hlevel] at h
    exact (htail _ (by decide) (by decide)).trans (State.roundShown_throttle hk h)

theorem State.roundJudged_round : (s.roundJudged raw hk).therm.round = false ∧
    (s.roundJudged raw hk).get Reg.THERM_ROUNDS_COUNT =
      low (Reg.THERM_ROUNDS_COUNT).w (s.get Reg.THERM_ROUNDS_COUNT + 1) := by
  unfold State.roundJudged
  split
  · obtain ⟨hround, -, hcount⟩ := s.roundDone.goodRound_therm raw
    exact ⟨hround, hcount.trans State.roundDone_count⟩
  · obtain ⟨-, hround, -, -, hget⟩ := s.roundDone.refFault_shows
    exact ⟨hround, (hget _ (by decide) (by decide)).trans State.roundDone_count⟩

/-- The end of a round with sound references (R440, R442). -/
theorem State.roundEnd_good (hlv : s.get Reg.THERM_STATUS_LEVEL ≤ 3) (hok : refsOk hk = true) :
    (s.roundEnd raw hk dram).getS Reg.THERM_STATUS_TJ = (s.roundEnd raw hk dram).tj ∧
    (s.roundEnd raw hk dram).therm.refFaults = 0 ∧
    (s.roundEnd raw hk dram).get Reg.THERM_STATUS_LEVEL =
      (if s.get Reg.THERM_STATUS_LEVEL < s.levelOf (s.roundEnd raw hk dram).tj then s.levelOf (s.roundEnd raw hk dram).tj
      else if 0 < s.get Reg.THERM_STATUS_LEVEL ∧ (s.roundEnd raw hk dram).tj <
          s.threshold (s.get Reg.THERM_STATUS_LEVEL) - s.get Reg.THERM_HYST then s.get Reg.THERM_STATUS_LEVEL - 1
      else s.get Reg.THERM_STATUS_LEVEL) := by
  have hjudged := s.roundEnd_judged raw hk dram
  have hgood : s.roundJudged raw hk = s.roundDone.goodRound raw := if_pos hok
  have hcfg : ∀ f : Fld, f.lo < 32 → 0x50068 ≤ f.addr → f.addr < 0x50074 → s.roundDone.get f = s.get f :=
    fun f hlo h1 h2 => State.roundDone_get (by simp only [Fld.key, Reg.THERM_ROUNDS_COUNT]; omega)
  have hlevel : s.roundDone.get Reg.THERM_STATUS_LEVEL = s.get Reg.THERM_STATUS_LEVEL := State.roundDone_get (by decide)
  obtain ⟨htj, hlv'⟩ := s.roundDone.goodRound_shows raw (by rwa [hlevel])
  rw [hlevel, State.levelOf_congr hcfg, State.threshold_congr hcfg, State.roundDone_get (by decide)] at hlv'
  rw [State.tj_judged hjudged, hgood]
  refine ⟨?_, ?_, ?_⟩
  · rw [State.getS, hjudged _ (by decide), hgood]
    exact htj
  · rw [(s.roundEnd_therm raw hk dram).2, hgood]
    exact (s.roundDone.goodRound_therm raw).2.1
  · rw [hjudged _ (by decide), hgood]
    exact hlv'

/-- The end of a round with a reference fault (R441). -/
theorem State.roundEnd_fault (hbad : refsOk hk = false) :
    (s.roundEnd raw hk dram).flag Reg.THERM_STATUS_REF_FAULT = true ∧
    (s.roundEnd raw hk dram).therm.refFaults = s.therm.refFaults + 1 ∧
    (∀ i < 20, (s.roundEnd raw hk dram).temp i = s.temp i) ∧
    (s.roundEnd raw hk dram).get Reg.THERM_STATUS_LEVEL =
      (if s.therm.refFaults < 2 then s.get Reg.THERM_STATUS_LEVEL else 3) := by
  have hjudged := s.roundEnd_judged raw hk dram
  have hfault : s.roundJudged raw hk = s.roundDone.refFault := if_neg (by simp [hbad])
  obtain ⟨hflag, -, hcount, hlevel, hget⟩ := s.roundDone.refFault_shows
  refine ⟨?_, ?_, fun i hi => ?_, ?_⟩
  · rw [State.flag, hjudged _ (by decide), hfault]
    exact hflag
  · rw [(s.roundEnd_therm raw hk dram).2, hfault]
    exact hcount
  · have hused := Fld.judged_used hi
    rw [State.temp, State.temp, State.getS, State.getS, hjudged _ hused, hfault, hget _ hused.thermal
      (by simp only [Reg.THERM_SENSOR_USED]; omega), State.roundDone_get
      (by simp only [Fld.key, Reg.THERM_SENSOR_USED, Reg.THERM_ROUNDS_COUNT]; omega)]
  · rw [hjudged _ (by decide), hfault, hlevel, State.roundDone_get (by decide)]
    rfl

end

/-! ### A step of a unit's taps -/

theorem State.tapStep_shows {n : Nat} (hn : n < (s.tapUnits k).length) (hk : k ≤ 3)
    (hdue : ((s.tapUnits k).getD n .init).stepDue s.now = true)
    (htaps : ((s.tapUnits k).getD n .init).taps ≠ ((s.tapUnits k).getD n .init).accepted)
    (hshift : k = 2 → s.betweenShifts n = true)
    (hlen : ((s.tapUnits k).getD n .init).taps.length = ((s.tapUnits k).getD n .init).accepted.length) :
    ((s.tapStep k n).tapUnits k).getD n .init = { (s.tapUnits k).getD n .init with
      taps := stepTaps ((s.tapUnits k).getD n .init).taps ((s.tapUnits k).getD n .init).accepted, stepAt := some s.now } ∧
    (s.tapStep k n).get (Reg.CAL_T_STEPS_COUNT k) =
      low (Reg.CAL_T_STEPS_COUNT k).w (s.get (Reg.CAL_T_STEPS_COUNT k) + 1) ∧
    (s.tapStep k n).host = s.host ∧ (s.tapStep k n).dram = s.dram := by
  rw [State.tapStep_steps hdue htaps hshift hlen]
  generalize hg : (fun x : TapUnit => { x with
    taps := stepTaps ((s.tapUnits k).getD n .init).taps ((s.tapUnits k).getD n .init).accepted,
    stepAt := some s.now }) = g
  have hregs : RegsOnly (s.modTap k n g) (((s.modTap k n g).inc (Reg.CAL_T_STEPS_COUNT k)).showDeskew k n) :=
    (RegsOnly.set _ _ _).trans (State.showDeskew_regs _ _ _)
  refine ⟨?_, ?_, hregs.host, hregs.dram⟩
  · rw [State.tapUnits_congr hregs.therm, State.tapUnits_modTap, modAt_getD_same _ _ _ _ hn, ← hg]
  · rw [State.showDeskew_get (by simp [Reg.CAL_T_STEPS_COUNT]) (by simp only [Reg.CAL_T_STEPS_COUNT]; omega)]
    exact State.get_set_same _ _ _

/-- Settles O54: each event of the time triggers, of the rounds and of the taps. -/
theorem timeAndThermalEventsComplete : Obligations.TimeAndThermalEventsComplete := by
  intro t s hl u
  have hawake : u.awake = true := by simpa [u] using hl.2
  have htrigger : ∀ k : Fin 5, exec (.timeTriggerEvent k t) s = .next (u.triggerEvent k) := fun k => by
    show execTimeTriggerEvent k t s = _
    exact event_running hl.1
  have hround : exec (.hkRoundStart t) s = .next (u.triggerEvent 4) := by
    show execHkRoundStart t s = _
    exact event_running hl.1
  refine ⟨fun k => ⟨fun hd => ?_, fun hd hports haxes => ?_⟩, hround.trans (htrigger 4).symm, fun raw hk dram hr => ?_, fun raw hk dram hr hlv => ?_,
    fun target results => ?_, fun target n => ?_⟩
  · rw [htrigger, State.triggerEvent_early hd]
  · intro per skipped
    have hper : u.get (Reg.TIME_TRIG_PERIOD_NS k) = per := by simp [u, per]
    have hskip : u.trigSkipped k = skipped := by simp [State.trigSkipped, u, skipped, per]
    have hnext : u.trigNext k = s.trigNext k := by simp [u]
    obtain ⟨hfired, hdisarms, hagain⟩ := State.triggerEvent_counts k.isLt hawake hd
    obtain ⟨hhost, hdram⟩ := State.triggerEvent_apart k.isLt hawake hd
    rw [hper, hskip, hnext] at hagain
    rw [hper] at hdisarms
    refine ⟨u.triggerEvent k, htrigger k, by simpa [u] using hfired, hdisarms, fun hne => ?_, fun hk4 => ?_,
      fun hk4 => ?_, by simpa [u] using hhost, by simpa [u] using hdram⟩
    · obtain ⟨harmed, hmissed, hput⟩ := hagain hne
      exact ⟨harmed, by simpa [u] using hmissed, hput⟩
    · obtain ⟨hpulse, haxis⟩ := State.triggerEvent_starts hk4 hawake hd (by simpa [u] using hports)
        (by simpa [u] using haxes)
      refine ⟨by simpa [u] using hpulse, fun a => ?_⟩
      have hseen := haxis a a.isLt
      simpa [u, State.axis] using! hseen
    · have hk : (k : Nat) = 4 := hk4
      rw [hk] at hd ⊢
      simpa [u] using State.triggerEvent_starts_round hawake hd
  · show execHkRoundEnd raw hk dram t s = _
    have hidle : (s.elapse t).therm.round = false := by simpa using hr
    rw [execHkRoundEnd, eventAwake_live hl, hidle, State.when_false]
  · intro lv
    have hlvu : u.get Reg.THERM_STATUS_LEVEL ≤ 3 := by simpa [u] using hlv
    obtain ⟨hround, hcount⟩ := u.roundJudged_round raw hk
    obtain ⟨hterm, hthrottle⟩ := u.roundEnd_shows raw hk dram
    refine ⟨u.roundEnd raw hk dram, ?_, (u.roundEnd_therm raw hk dram).1.trans hround, ?_, hterm, hthrottle,
      fun hok => ?_, fun hbad => ?_⟩
    · exact eventAwake_when (b := fun s => s.therm.round) hl (by simpa using hr)
    · rw [u.roundEnd_get raw hk dram (by decide) (by decide) (by decide) (by decide), hcount]
      simp [u]
    · obtain ⟨htj, hfaults, hlevel⟩ := u.roundEnd_good raw hk dram hlvu hok
      exact ⟨htj, fun i hi => State.temp_le_tj _ hi, hfaults, by simpa [u, lv] using hlevel⟩
    · simpa [u, lv] using u.roundEnd_fault raw hk dram hbad
  · intro k
    have hexec : exec (.calMeasureDone target results t) s = .next (u.measured k results) := by
      show execCalMeasureDone target results t s = _
      exact eventAwake_live hl
    refine ⟨fun hrun htrack => ?_, fun hany => ?_⟩
    · rw [hexec, State.measured_idle (by simpa [u] using hrun) (by simpa [u] using htrack)]
    · obtain ⟨hdone, hdram, hleft⟩ := State.measured_ends (s := u) (k := k) (results := results) (by simpa [u] using hany)
      refine ⟨_, hexec, hdone, by simpa [u] using hdram, hleft, fun hk hrun q hq => ?_⟩
      rw [hk] at hrun ⊢
      have hheads := State.measured_heads (s := u) (results := results) (by simpa [u] using hrun) (q := q)
        (by simpa [u] using hq)
      rw [show u.therm = s.therm by simp [u]] at hheads
      exact hheads
  · intro k x late
    have hx : (u.tapUnits k).getD n .init = x := by simp only [u, State.elapse_tapUnits]; rfl
    have hlate : ((u.tapUnits k).getD n .init).stepDue u.now = late := by rw [hx]; rfl
    have hexec : exec (.tapStep target n t) s = .next (u.tapStep k n) := by
      show execTapStep target n t s = _
      exact eventAwake_live hl
    refine ⟨fun hwait => ?_, fun hdue htaps hshift hlen hn => ?_⟩
    · rw [hexec, State.tapStep_waits (by rw [hlate, hx]; exact hwait)]
    · have hk : k ≤ 3 := by have := target.isLt; omega
      obtain ⟨hunit, hcount, hhost, hdram⟩ := State.tapStep_shows (s := u) (k := k) (n := n) (by simpa [u] using hn) hk
        (by rw [hlate]; exact hdue) (by rw [hx]; exact htaps) hshift (by rw [hx]; exact hlen)
      rw [hx] at hunit
      refine ⟨_, hexec, ?_, ?_, ?_, by simpa [u] using hcount, by simpa [u] using hhost, by simpa [u] using hdram⟩
      · rw [hunit]
      · rw [hunit]
      · rw [hunit]

end Sys2Proof.Machine
end

section
/-! SUPPORT. The statement on LOOP_CTRL, ALIGN_READ and ALIGN_RESTORE: what each answers at each of its checks, and what a
restored record leaves. -/

namespace Sys2Proof.Machine

section
variable {s : State} {h : Hdr} {c : HostCmd} {p : Nat}

/-! ### What a command's arrival leaves of the loops -/

@[simp] theorem State.serving_loop (h : Hdr) (c : HostCmd) (p : Nat) : (s.serving h c).loop p = s.loop p := by
  simp [State.loop]

@[simp] theorem State.serving_loopRuns (h : Hdr) (c : HostCmd) (l : Nat) : (s.serving h c).loopRuns l = s.loopRuns l := by
  simp [State.loopRuns]

@[simp] theorem State.serving_heads' (h : Hdr) (c : HostCmd) (p : Nat) : (s.serving h c).heads' p = s.heads' p := by
  simp [State.heads']

@[simp] theorem State.serving_overlap (h : Hdr) (c : HostCmd) (p : Nat) : (s.serving h c).overlap p = s.overlap p := by
  simp [State.overlap]

@[simp] theorem State.serving_alignOk (h : Hdr) (c : HostCmd) (p : Nat) (b : List Byte) :
    (s.serving h c).alignOk p b = s.alignOk p b := by
  simp [State.alignOk]

/-! ### LOOP_CTRL (R238, R240) -/

section
variable {l mode limit : Nat}

/-- The step limit, what a change of mode from `old` starts, and the mode. -/
def State.takeMode (s : State) (old l mode limit : Nat) : State :=
  let v := if limit = 0 then s else s.set (loopLimit l) limit
  let v := if old = 0 ∧ mode = 1 then v.loopReset l else v
  let v := if old ≠ 1 ∧ mode = 1 then v.loopEnters l else v
  let v := if l = 2 ∧ mode ≠ 2 then { v with loops := { v.loops with ran := mode == 1 } } else v
  v.set (loopMode l) mode

theorem valuesOk_loopCtrl_iff :
    HostCmd.valuesOk (.loopCtrl l mode limit) = true ↔ ¬(2 < l ∨ 2 < mode ∨ loopTop l < limit) := by
  simp [HostCmd.valuesOk, upTo, and_assoc]

theorem cmdLoopCtrl_ok (hv : HostCmd.valuesOk (.loopCtrl l mode limit) = true)
    (ha : mode = 1 → s.flag Reg.MEASURE_WORK_HI_VALID = true) :
    cmdLoopCtrl l mode limit s = Res.ok (s.takeMode (s.get (loopMode l)) l mode limit) := by
  unfold cmdLoopCtrl
  rw [if_neg (valuesOk_loopCtrl_iff.1 hv), if_neg (by simpa using ha)]
  rfl

theorem cmdLoopCtrl_noArea (hv : HostCmd.valuesOk (.loopCtrl l mode limit) = true) (hm : mode = 1)
    (ha : ¬s.flag Reg.MEASURE_WORK_HI_VALID = true) : cmdLoopCtrl l mode limit s = Res.err stBadState s := by
  unfold cmdLoopCtrl
  rw [if_neg (valuesOk_loopCtrl_iff.1 hv), if_pos ⟨hm, by simpa using ha⟩]

end

/-! ### ALIGN_READ (R256) -/

/-- The record of a plane's heads; the last head has no ramp. -/
def State.alignRecord (s : State) (p : Nat) : List Byte :=
  let x := s.loop p
  let n := s.heads' p
  let ramp := fun k => if k + 1 < n then x.ramps.getD k (0, 0) else (0, 0)
  [1, BitVec.ofNat 8 n] ++ leBytes 2 (s.overlap p) ++ leBytes 4 x.custom.toNat ++ leInt 4 x.bar ++ leBytes 4 0 ++
    (List.range n).flatMap (fun k => leInt 2 ((s.plane p).along.getD k 0) ++ leInt 2 (x.cross.getD k 0) ++
      leBytes 2 (ramp k).1 ++ leBytes 2 (ramp k).2)

theorem cmdAlignRead_eq : cmdAlignRead p s = Res.okData (s.alignRecord p) s := rfl

@[simp] theorem State.serving_alignRecord (h : Hdr) (c : HostCmd) (p : Nat) :
    (s.serving h c).alignRecord p = s.alignRecord p := by
  simp [State.alignRecord]

/-! ### Values by head -/

/-- The values `f` of the first `n` heads, in a list of values by head. -/
def putHeads {α : Type} (n : Nat) (f : Nat → α) (l : List α) : List α :=
  (List.range n).foldl (fun l k => modAt (fun _ => f k) k l) l

section
variable {α : Type} {n k : Nat} {f : Nat → α} {l : List α} {d : α}

theorem putHeads_succ : putHeads (n + 1) f l = modAt (fun _ => f n) n (putHeads n f l) := by
  simp [putHeads, List.range_succ]

@[simp] theorem putHeads_length : (putHeads n f l).length = l.length := by
  induction n with
  | zero => rfl
  | succ n ih => rw [putHeads_succ, modAt_length, ih]

theorem putHeads_getD (hk : k < n) (hn : n ≤ l.length) : (putHeads n f l).getD k d = f k := by
  induction n with
  | zero => omega
  | succ n ih =>
    rw [putHeads_succ]
    by_cases hkn : k = n
    · subst hkn
      exact modAt_getD_same _ d k _ (by rw [putHeads_length]; omega)
    · rw [modAt_getD_other _ d n k _ hkn, ih (by omega) (by omega)]

end

/-! ### What a change of a plane leaves -/

theorem State.mapped_modPlane (s : State) (p q : Nat) {f : PlaneSt → PlaneSt} (hm : ∀ x, (f x).map = x.map)
    (hp : ∀ x, (f x).profile = x.profile) : (s.modPlane p f).mapped q = s.mapped q := by
  have hmap : ((s.modPlane p f).plane q).map = (s.plane q).map := modAt_getD_kept hm p q s.line.planes _
  have hprofile : ((s.modPlane p f).plane q).profile = (s.plane q).profile := modAt_getD_kept hp p q s.line.planes _
  rw [State.mapped, State.mapped, hmap, hprofile]

theorem State.prints_modPlane (s : State) (p q : Nat) {f : PlaneSt → PlaneSt} (hf : ∀ x, (f x).lines = x.lines) :
    (s.modPlane p f).prints q = s.prints q := by
  have hlines : ((s.modPlane p f).plane q).lines = (s.plane q).lines := modAt_getD_kept hf p q s.line.planes _
  rw [State.prints, State.prints, State.linesWait, State.linesWait, hlines, State.modPlane_job]

theorem State.loop_modLoop_same (s : State) (f : LoopPlane → LoopPlane) (hp : p < s.loops.planes.length) :
    (s.modLoop p f).loop p = f (s.loop p) := modAt_getD_same f _ p _ hp

/-! ### A load of the loops leaves the settings of a plane (R254) -/

section
variable {q : Fld} {off table flipAt src len tag : Nat} {loop : Bool} {on : Iface} {bs : List Byte}

theorem State.workWrite_get (hq : q.offMemory) : (s.workWrite p off bs).get q = s.get q := by
  have hwrite := (StoreFrame.writeMem s s.mirrors (s.workAddr p + off) bs).get q hq
  unfold State.workWrite
  split
  · generalize s.writeMem s.mirrors (s.workAddr p + off) bs = r at hwrite ⊢
    exact ((ReadFrame.meetUes r.1 r.2 9).get q hq).trans hwrite
  · rfl

/-- A load writes COPYING and FLIP_SEL of its plane alone. -/
theorem State.tableLoad_get (hq : q.offMemory) (hc : q.key ≠ (Reg.HTONE_PL_TABLES_COPYING p).key)
    (hf : q.key ≠ (Reg.HTONE_PL_TABLES_FLIP_SEL p).key) :
    (s.tableLoad loop p table flipAt src len tag on).s.get q = s.get q := by
  have hfetch : (s.fetch src (tableHeadLen table)).1.get q = s.get q :=
    ((ReadFrame.met _ src _).get q hq).trans ((StoreFrame.waitFills s src _).get q hq)
  unfold State.tableLoad
  dsimp only
  generalize s.fetch src (tableHeadLen table) = r at hfetch ⊢
  split
  · rfl
  split
  · rfl
  split
  · rfl
  split
  · exact ((ReadFrame.meetUes r.1 r.2.2 1).get q hq).trans hfetch
  split
  · exact hfetch
  · exact ((State.get_set_other _ hf _).trans (State.get_set_other _ hc _)).trans hfetch

theorem State.loopLoad_get (hq : q.offMemory) (hc : q.key ≠ (Reg.HTONE_PL_TABLES_COPYING p).key)
    (hf : q.key ≠ (Reg.HTONE_PL_TABLES_FLIP_SEL p).key) : (s.loopLoad p table off bs).2.get q = s.get q := by
  unfold State.loopLoad
  split
  · rfl
  · dsimp only
    split <;> exact (State.tableLoad_get hq hc hf).trans (State.workWrite_get hq)

theorem State.stitchLoad_get (hq : q.offMemory) (hc : q.key ≠ (Reg.HTONE_PL_TABLES_COPYING p).key)
    (hf : q.key ≠ (Reg.HTONE_PL_TABLES_FLIP_SEL p).key) : (s.stitchLoad p).get q = s.get q := by
  unfold State.stitchLoad
  split
  · rfl
  · exact State.loopLoad_get hq hc hf

theorem State.stitchLoad_latEn :
    (s.stitchLoad p).flag (Reg.MEASURE_PL_CTRL_LAT_EN p) = s.flag (Reg.MEASURE_PL_CTRL_LAT_EN p) := by
  have hoff : (Reg.MEASURE_PL_CTRL_LAT_EN p).offMemory :=
    Fld.offMemory_of_addr (by simp [Reg.MEASURE_PL_CTRL_LAT_EN]) (by simp only [Reg.MEASURE_PL_CTRL_LAT_EN]; omega)
  have hget := State.stitchLoad_get (s := s) (p := p) hoff
    (by simp only [Fld.key, Reg.MEASURE_PL_CTRL_LAT_EN, Reg.HTONE_PL_TABLES_COPYING]; omega)
    (by simp only [Fld.key, Reg.MEASURE_PL_CTRL_LAT_EN, Reg.HTONE_PL_TABLES_FLIP_SEL]; omega)
  rw [State.flag, State.flag, hget]

end

/-! ### ALIGN_RESTORE (R257) -/

section
variable {b : List Byte}

/-- ALONG of the first `n` heads. -/
def State.storeAlong (s : State) (p n : Nat) (b : List Byte) : State :=
  s.modPlane p (fun x => { x with along := putHeads n (fun k => iAt (recHead b k) 0 2) x.along })

/-- ALONG as it stands is in use (R252). -/
def State.useAlong (s : State) (p : Nat) : State := s.modPlane p (fun x => { x with alongUse := x.along })

/-- ALONG is stored, and in use at once where the plane does not print. -/
def State.takeAlong (s : State) (p n : Nat) (prints : Bool) (b : List Byte) : State :=
  if prints then s.storeAlong p n b else (s.storeAlong p n b).useAlong p

/-- CROSS of the first `n` heads, the ramps, CUSTOM and BAR; the stitch table is due. -/
def LoopPlane.takeRecord (x : LoopPlane) (n : Nat) (b : List Byte) : LoopPlane :=
  { x with
    cross := putHeads n (fun k => iAt (recHead b k) 2 2) x.cross,
    ramps := putHeads n (fun k => (u16 (recHead b k) 4, u16 (recHead b k) 6)) x.ramps,
    custom := u8 b 4 == 1, bar := iAt b 8 4, stitchDue := true }

/-- What is stored of a record of `n` heads, before its stitch table is loaded. -/
def State.takeRecord (s : State) (p n : Nat) (prints : Bool) (b : List Byte) : State :=
  ((s.takeAlong p n prints b).waitMark p).modLoop p (·.takeRecord n b)

/-- The stitch table that is due is loaded on a mapped plane, and due no more on another (log 92). -/
def State.stitchServed (s : State) (p : Nat) (mapped : Bool) : State :=
  if mapped then s.stitchLoad p else s.modLoop p (fun x => { x with stitchDue := false })

section
variable {n : Nat} {prints mapped : Bool}

theorem State.takeAlong_only : ∃ l, s.takeAlong p n prints b = { s with line := l } := by
  unfold State.takeAlong
  split <;> exact ⟨_, rfl⟩

/-- A record changes the planes and their loops alone. -/
theorem State.takeRecord_only : ∃ l k, s.takeRecord p n prints b = { s with line := l, loops := k } := by
  obtain ⟨_, ht⟩ := State.takeAlong_only (s := s) (p := p) (n := n) (prints := prints) (b := b)
  rw [State.takeRecord, ht]
  exact ⟨_, _, rfl⟩

theorem State.takeRecord_mapped (q : Nat) : (s.takeRecord p n prints b).mapped q = s.mapped q := by
  have hstore : (s.storeAlong p n b).mapped q = s.mapped q := State.mapped_modPlane s p q (fun _ => rfl) fun _ => rfl
  have huse : ((s.storeAlong p n b).useAlong p).mapped q = (s.storeAlong p n b).mapped q :=
    State.mapped_modPlane _ p q (fun _ => rfl) fun _ => rfl
  show (s.takeAlong p n prints b).mapped q = _
  unfold State.takeAlong
  split
  · exact hstore
  · exact huse.trans hstore

theorem State.takeRecord_flag (f : Fld) : (s.takeRecord p n prints b).flag f = s.flag f := by
  obtain ⟨_, _, ht⟩ := State.takeRecord_only (s := s) (p := p) (n := n) (prints := prints) (b := b)
  rw [ht]
  rfl

theorem State.stitchServed_latEn :
    (s.stitchServed p mapped).flag (Reg.MEASURE_PL_CTRL_LAT_EN p) = s.flag (Reg.MEASURE_PL_CTRL_LAT_EN p) := by
  unfold State.stitchServed
  split
  · exact State.stitchLoad_latEn
  · rfl

/-- ALONG of the plane, whether or not it comes into use. -/
theorem State.takeAlong_along (hp : p < s.line.planes.length) : ((s.takeAlong p n prints b).plane p).along =
    putHeads n (fun k => iAt (recHead b k) 0 2) (s.plane p).along := by
  have hstore : ((s.storeAlong p n b).plane p).along = putHeads n (fun k => iAt (recHead b k) 0 2) (s.plane p).along :=
    congrArg PlaneSt.along (State.plane_modPlane_same s _ hp)
  have huse : (((s.storeAlong p n b).useAlong p).plane p).along = ((s.storeAlong p n b).plane p).along :=
    modAt_getD_kept (f := fun x : PlaneSt => { x with alongUse := x.along }) (g := PlaneSt.along) (fun _ => rfl) p p _ _
  unfold State.takeAlong
  split
  · exact hstore
  · exact huse.trans hstore

theorem State.takeRecord_loop (hp : p < s.loops.planes.length) :
    (s.takeRecord p n prints b).loop p = { s.loop p with waitDue := true }.takeRecord n b := by
  obtain ⟨_, ht⟩ := State.takeAlong_only (s := s) (p := p) (n := n) (prints := prints) (b := b)
  have hlen : p < (s.takeAlong p n prints b).loops.planes.length := by rw [ht]; exact hp
  have hwait : ((s.takeAlong p n prints b).waitMark p).loop p = { s.loop p with waitDue := true } :=
    (State.loop_modLoop_same _ _ hlen).trans (by rw [ht]; rfl)
  rw [State.takeRecord, State.loop_modLoop_same _ _ (by simpa [State.waitMark] using hlen), hwait]

/-- On a plane that is not mapped, the load that the record asks for is dropped. -/
theorem State.takeRecord_unmapped_loop (hp : p < s.loops.planes.length) :
    ((s.takeRecord p n prints b).stitchServed p false).loop p =
      { { s.loop p with waitDue := true }.takeRecord n b with stitchDue := false } := by
  have hlen : p < (s.takeRecord p n prints b).loops.planes.length := by
    obtain ⟨_, ht⟩ := State.takeAlong_only (s := s) (p := p) (n := n) (prints := prints) (b := b)
    simpa [State.takeRecord, State.waitMark, ht] using hp
  rw [← State.takeRecord_loop hp]
  exact State.loop_modLoop_same _ _ hlen

/-- The values of a record on a plane that is not mapped and that has room for them. -/
theorem State.takeRecord_unmapped_values (hp : p < s.line.planes.length) (hq : p < s.loops.planes.length)
    (ha : n ≤ (s.plane p).along.length) (hc : n ≤ (s.loop p).cross.length) :
    let v := (s.takeRecord p n prints b).stitchServed p false
    (∀ k, k < n → (v.plane p).along.getD k 0 = iAt (recHead b k) 0 2 ∧
      (v.loop p).cross.getD k 0 = iAt (recHead b k) 2 2) ∧
      (v.loop p).custom = (u8 b 4 == 1) ∧ (v.loop p).bar = iAt b 8 4 := by
  intro v
  have halong : (v.plane p).along = putHeads n (fun k => iAt (recHead b k) 0 2) (s.plane p).along :=
    State.takeAlong_along hp
  have hloop : v.loop p = { { s.loop p with waitDue := true }.takeRecord n b with stitchDue := false } :=
    State.takeRecord_unmapped_loop hq
  rw [halong, hloop]
  exact ⟨fun k hk => ⟨putHeads_getD hk ha, putHeads_getD hk hc⟩, rfl, rfl⟩

/-- There a record changes the planes and their loops alone. -/
theorem State.takeRecord_unmapped_only :
    ∃ l k, (s.takeRecord p n prints b).stitchServed p false = { s with line := l, loops := k } := by
  obtain ⟨_, _, ht⟩ := State.takeRecord_only (s := s) (p := p) (n := n) (prints := prints) (b := b)
  rw [ht]
  exact ⟨_, _, rfl⟩

end

theorem cmdAlignRestore_illegal (hok : s.alignOk p b = false) : cmdAlignRestore p b s = Res.err stBadParam s := by
  unfold cmdAlignRestore
  rw [if_pos (by simp [hok])]

theorem cmdAlignRestore_runs (hok : s.alignOk p b = true) (hr : s.loopRuns 2 = true) :
    cmdAlignRestore p b s = Res.err stBadState s := by
  unfold cmdAlignRestore
  rw [if_neg (by simp [hok]), if_pos hr]

theorem cmdAlignRestore_busy (hok : s.alignOk p b = true) (hr : s.loopRuns 2 = false) (hb : s.tableBusy p 3 = true) :
    cmdAlignRestore p b s = Res.err stBusy s := by
  unfold cmdAlignRestore
  rw [if_neg (by simp [hok]), if_neg (by simp [hr]), if_pos hb]

/-- Storing the values changes neither whether the plane prints nor whether it is mapped, and a load leaves LAT_EN. -/
theorem cmdAlignRestore_ok (hok : s.alignOk p b = true) (hr : s.loopRuns 2 = false) (hb : s.tableBusy p 3 = false) :
    cmdAlignRestore p b s =
      let y := (s.takeRecord p (s.heads' p) (s.prints p) b).stitchServed p (s.mapped p)
      Res.ok (if s.flag (Reg.MEASURE_PL_CTRL_LAT_EN p) then y.barGo p else y) := by
  have hprints : (s.storeAlong p (s.heads' p) b).prints p = s.prints p := State.prints_modPlane s p p fun _ => rfl
  calc cmdAlignRestore p b s
      = (let w := s.takeRecord p (s.heads' p) ((s.storeAlong p (s.heads' p) b).prints p) b
         let y := w.stitchServed p (w.mapped p)
         Res.ok (if y.flag (Reg.MEASURE_PL_CTRL_LAT_EN p) then y.barGo p else y)) := by
        unfold cmdAlignRestore
        rw [if_neg (by simp [hok]), if_neg (by simp [hr]), if_neg (by simp [hb])]
        rfl
    _ = _ := by
        dsimp only
        rw [hprints, State.takeRecord_mapped, State.stitchServed_latEn, State.takeRecord_flag]

/-- An ALIGN_RESTORE that is carried out, its conditions read in the state before it. -/
theorem exec_alignRestore_ok (hready : Ready h (.alignRestore p b) s) (hok : s.alignOk p b = true)
    (hr : s.loopRuns 2 = false) (hb : s.tableBusy p 3 = false) :
    let c := HostCmd.alignRestore p b
    let y := ((s.serving h c).takeRecord p (s.heads' p) (s.prints p) b).stitchServed p (s.mapped p)
    exec (.alignRestore h p b) s = .next (answered h c stOk []
      (if s.flag (Reg.MEASURE_PL_CTRL_LAT_EN p) then y.barGo p else y)) := by
  intro c y
  have hdone := cmdAlignRestore_ok (s := s.serving h c) (p := p) (b := b) (by rwa [State.serving_alignOk])
    (by rwa [State.serving_loopRuns]) (by rwa [State.serving_tableBusy])
  rw [State.serving_heads', State.serving_prints, State.serving_mapped, State.serving_flag] at hdone
  exact exec_accepts hready hdone rfl fun _ => rfl

end

@[simp] theorem answered_loop (st : Nat) (d : List Byte) (p : Nat) : (answered h c st d s).loop p = s.loop p := by
  simp [answered, State.loop]

/-- The answer to a command that has changed planes and loops alone leaves the rest, and is the reply of one without an
effect. -/
theorem answered_planes_left (hf : s.host.outstanding = []) (st : Nat) (d : List Byte) (l : LineSt) (k : LoopSt) :
    let t := answered h c st d { s.serving h c with line := l, loops := k }
    t.regs = s.regs ∧ t.act = s.act ∧ t.dram = s.dram ∧ t.tab0 = s.tab0 ∧ t.tab1 = s.tab1 ∧ t.job = s.job ∧
      t.heads = s.heads ∧ t.host = ((s.elapse h.at_).reply h c.opcode st false d).host := by
  intro t
  have hhost : t.host = (answered h c st d (s.serving h c)).host := answered_host_congr rfl rfl
  rw [← answered_serving hf]
  refine ⟨?_, ?_, ?_, ?_, ?_, ?_, ?_, hhost⟩ <;> simp [t, answered]

end

/-- Settles O27: each command's checks in order on the state that serves it, then its effect and the reply. -/
theorem loopCommandsComplete : Obligations.LoopCommandsComplete := by
  intro h s
  refine ⟨fun l mode limit hr => ?_, fun l mode limit hp hlim => ?_, fun p hr => ?_, fun p record hr => ?_⟩
  · have harea : (s.serving h (.loopCtrl l mode limit)).flag Reg.MEASURE_WORK_HI_VALID =
        s.flag Reg.MEASURE_WORK_HI_VALID := State.serving_flag _ _ _ _
    refine ⟨fun ha => ?_, fun hm ha => ?_⟩
    · have hp := cmdLoopCtrl_ok hr.values fun hm => harea.trans (ha hm)
      rw [State.serving_get] at hp
      exact exec_accepts hr hp rfl fun _ => rfl
    · exact exec_refuses hr (cmdLoopCtrl_noArea hr.values hm (by rwa [harea])) rfl
  · refine exec_badParam (c := .loopCtrl l mode limit) hp (Bool.eq_false_iff.2 fun hv => ?_)
    exact valuesOk_loopCtrl_iff.1 hv (.inr (.inr hlim))
  · have hp := cmdAlignRead_eq (s := s.serving h (.alignRead p)) (p := p)
    rw [State.serving_alignRecord] at hp
    exact exec_replies hr hp rfl fun _ => rfl
  · have hok := State.serving_alignOk (s := s) h (.alignRestore p record) p record
    have hruns := State.serving_loopRuns (s := s) h (.alignRestore p record) 2
    have hbusy := State.serving_tableBusy (s := s) (p := p) (table := 3) h (.alignRestore p record)
    refine ⟨fun hl => ?_, fun hl hn => ?_, fun hl hn hb => ?_, fun hl hn hb => ?_,
      fun hl hn hb hplane hloop hm hlat halong hcross => ?_⟩
    · exact exec_refuses hr (cmdAlignRestore_illegal (hok.trans hl)) rfl
    · exact exec_refuses hr (cmdAlignRestore_runs (hok.trans hl) (hruns.trans hn)) rfl
    · exact exec_refuses hr (cmdAlignRestore_busy (hok.trans hl) (hruns.trans hn) (hbusy.trans hb)) rfl
    · exact exec_alignRestore_ok hr hl hn hb
    · let u := s.serving h (.alignRestore p record)
      obtain ⟨hheads, hcustom, hbar⟩ := State.takeRecord_unmapped_values (s := u) (p := p) (n := s.heads' p)
        (prints := s.prints p) (b := record) (by rwa [State.serving_line]) (by rwa [State.serving_loops])
        (by rwa [State.serving_plane]) (by rwa [State.serving_loop])
      obtain ⟨l, x, honly⟩ := State.takeRecord_unmapped_only (s := u) (p := p) (n := s.heads' p) (prints := s.prints p)
        (b := record)
      have hnext := exec_alignRestore_ok hr hl hn hb
      dsimp only at hnext
      rw [hm, if_neg (by simp [hlat])] at hnext
      refine ⟨_, hnext, fun k hk => ?_, ?_, ?_, ?_⟩
      · rw [answered_plane, answered_loop]
        exact hheads k hk
      · rw [answered_loop]
        exact hcustom
      · rw [answered_loop]
        exact hbar
      · rw [honly]
        exact answered_planes_left hr.free stOk [] l x

end Sys2Proof.Machine
end

section
/-! SUPPORT. The commands that act in reset and the test access port: what every command answers, what is held while
RESET_N is low, and the six instructions of the TAP. -/

namespace Sys2Proof.Machine

variable {s : State}

/-- A TAP instruction that the TAP takes. -/
theorem tapStepOf_on {trst : Bool} {t : Nat} {f : State → State} (h : s.power.resetN = false ∨ trst = true) :
    tapStepOf trst t f s = .next (f (s.elapse t)) := by
  have hon : s.tapOn trst = true := by rcases h with h | h <;> simp [State.tapOn, h]
  unfold tapStepOf; rw [hon, State.when_true]

/-- Out of reset, before TRST_N has risen, the TAP holds still. -/
theorem tapStepOf_off {trst : Bool} {t : Nat} {f : State → State} (hr : Running s) (ht : trst = false) :
    tapStepOf trst t f s = .next (s.elapse t) := by
  have hoff : s.tapOn trst = false := by simp [State.tapOn, ht, show s.power.resetN = true from hr]
  unfold tapStepOf; rw [hoff, State.when_false]

/-- The boundary register captures the pins, and the free value that a high-impedance cell shifts out is used. -/
theorem tapBoundary_eq (u : State) (i : TapInstr) (pins : List (Bool × Bool)) (di : List Bool) :
    u.tapBoundary i pins di =
      { u with free := u.free + 1
               tap := ⟨i, (scan ((pins.map u.tapCapture).map u.cellBit) di).2, pins.map u.tapCapture,
                 (scan ((pins.map u.tapCapture).map u.cellBit) di).1⟩ } := rfl

/-- Settles O2: what each command answers is, by its definition, a next state. -/
theorem noStepStopsTheBlock : Obligations.NoStepStopsTheBlock := by
  unfold Obligations.NoStepStopsTheBlock
  refine ⟨fun c s => ?_, fun s hp => ?_⟩
  · cases c <;> rfl
  · unfold step; rw [hp]

/-- Settles O3: every command that does not act in reset is an event at its instant, and an event is held. -/
theorem heldWhileResetNIsLow : Obligations.HeldWhileResetNIsLow := by
  unfold Obligations.HeldWhileResetNIsLow
  intro c s hr ha
  obtain ⟨f, hf⟩ := exec_event c ha
  rw [hf s, event_held hr]

/-- Settles O57, each instruction by what its scan leaves in the registers of the TAP. -/
theorem tapInstructionsComplete : Obligations.TapInstructionsComplete := by
  unfold Obligations.TapInstructionsComplete
  intro trst di pins t s u out into cap bits cells
  constructor
  · intro h
    have hcap : pins.map u.tapCapture = cap := rfl
    have hfree : u.free = s.free := State.elapse_free s t
    have hcells : ∀ i, u.tapBoundary i pins di =
        { u with free := s.free + 1, tap := ⟨i, (bits ++ di).drop di.length, cap, out bits⟩ } := by
      intro i
      have hbits : cap.map u.cellBit = bits :=
        List.map_congr_left fun c _ => by unfold State.cellBit State.fresh; rw [hfree]
      rw [tapBoundary_eq, hcap, hbits, hfree]; rfl
    have hscan : ∀ i c, u.tapScan i c di = { u with tap := { s.tap with instr := i, shifted := out c } } := by
      intro i c
      have htap : u.tap = s.tap := State.elapse_tap s t
      rw [← htap]; rfl
    have hon : ∀ f, tapStepOf trst t f s = .next (f u) := fun f => tapStepOf_on h
    refine ⟨?_, ?_, ?_, ?_, ?_, ?_⟩
    · exact (hon _).trans (congrArg _ (hscan .bypass _))
    · exact (hon _).trans (congrArg _ (hscan .idcode _))
    · exact (hon _).trans (congrArg _ (hscan .clamp _))
    · exact (hon _).trans (congrArg _ (hscan .highz _))
    · exact (hon _).trans (congrArg _ (hcells .samplePreload))
    · exact (hon _).trans (congrArg _ (hcells .extest))
  · intro hr ht
    exact ⟨tapStepOf_off hr ht, tapStepOf_off hr ht, tapStepOf_off hr ht, tapStepOf_off hr ht, tapStepOf_off hr ht,
      tapStepOf_off hr ht⟩

end Sys2Proof.Machine
end

section
/-! SUPPORT. The time base: its commands, the step of a base, and the checks of a trigger. -/

namespace Sys2Proof.Machine

variable {s u : State} {h : Hdr} {c : HostCmd}

/-! ### The time bases -/

/-- The passage of time keeps the rate offset of a base. -/
@[simp] theorem State.elapse_tb_rate (s : State) (t k : Nat) : ((s.elapse t).tb k).rate = (s.tb k).rate := by
  unfold State.elapse
  by_cases ht : t ≤ s.time.now
  · rw [if_pos ht]
  · rw [if_neg ht]
    unfold State.tb
    split <;> rfl

@[simp] theorem State.serving_tb_rate (s : State) (h : Hdr) (c : HostCmd) (k : Nat) :
    ((s.serving h c).tb k).rate = (s.tb k).rate := State.elapse_tb_rate s h.at_ k

/-- What a step leaves in TB0 or TB3 (R426). -/
theorem State.stepTb_tb (s : State) (ns : Nat) {k : Nat} (hk : k = 0 ∨ k = 3) :
    (s.stepTb k ns).tb k = { s.tb k with value := ns * nsUnits, slew := 0 } := by
  rcases hk with rfl | rfl <;> rfl

/-- TB0 and TB3 read the nanoseconds of their values. -/
theorem State.tbNs_eq (s : State) {k : Nat} (hk : k = 0 ∨ k = 3) : s.tbNs k = (s.tb k).value / nsUnits := by
  rcases hk with rfl | rfl <;> rfl

/-- After a step the base reads the instant it was stepped to. -/
theorem State.tbNs_stepTb (s : State) (ns : Nat) {k : Nat} (hk : k = 0 ∨ k = 3) : (s.stepTb k ns).tbNs k = ns := by
  rw [State.tbNs_eq _ hk, State.stepTb_tb s ns hk]
  exact Nat.mul_div_cancel ns (by decide)

/-- A base is a matter of the time alone. -/
theorem State.tb_congr {v : State} (k : Nat) (ht : u.time = v.time) : u.tb k = v.tb k := by
  unfold State.tb; rw [ht]

@[simp] theorem answered_time (st : Nat) (d : List Byte) : (answered h c st d u).time = u.time := by
  unfold answered; rw [State.reply_time]

/-! ### The rows of 20_time -/

section
variable {tb sec ns : Nat} {rate off : Int}

theorem cmdTimeRead_eq (hv : HostCmd.valuesOk (.timeRead tb) = true) : cmdTimeRead tb u =
    Res.okData (leBytes 8 (low 48 (u.tbNs tb / secNs)) ++ leBytes 4 (u.tbNs tb % secNs)) (u.captureTb tb) := by
  have hv : tb ≤ 3 := by simpa [HostCmd.valuesOk, upTo] using hv
  unfold cmdTimeRead
  rw [if_neg (by omega)]
  rfl

/-- The two bases that can be set, and the ranges of an instant. -/
theorem valuesOk_timeSet :
    HostCmd.valuesOk (.timeSet tb sec ns) = true ↔ (tb = 0 ∨ tb = 3) ∧ sec < 2 ^ 48 ∧ ns < secNs := by
  simp [HostCmd.valuesOk]

theorem cmdTimeSet_eq (hv : HostCmd.valuesOk (.timeSet tb sec ns) = true) : cmdTimeSet tb sec ns u =
    Res.ok (if tb = 0 then (u.stepTb tb (sec * secNs + ns)).setB Reg.TIME_STATUS_UNSYNC false
      else u.stepTb tb (sec * secNs + ns)) := by
  obtain ⟨htb, hsec, hns⟩ := valuesOk_timeSet.mp hv
  unfold cmdTimeSet
  rw [if_pos ⟨htb, hns, hsec⟩]

theorem cmdTimeAdjust_eq (hv : HostCmd.valuesOk (.timeAdjust tb rate off) = true) : cmdTimeAdjust tb rate off u =
    Res.ok (if tb = 0 then ((u.rateTb tb rate).slewTb tb off).setB Reg.TIME_STATUS_UNSYNC false
      else (u.rateTb tb rate).slewTb tb off) := by
  have hv : (tb = 0 ∨ tb = 3) ∧ -200000 ≤ rate ∧ rate ≤ 200000 ∧ off.natAbs ≤ secNs := by
    simpa [HostCmd.valuesOk] using hv
  have hs : secNs = 1000000000 := rfl
  unfold cmdTimeAdjust
  rw [if_pos (by omega)]

end

/-- Settles O12: each row by its effect on the base. -/
theorem timeCommandsComplete : Obligations.TimeCommandsComplete := by
  unfold Obligations.TimeCommandsComplete
  intro h s
  refine ⟨fun tb hr => ?_, fun tb sec ns hr => ?_, fun tb rate off hr => ?_⟩
  · exact exec_accepts hr (cmdTimeRead_eq hr.values) rfl fun _ => rfl
  · exact exec_accepts hr (cmdTimeSet_eq hr.values) rfl fun _ => rfl
  · exact exec_accepts hr (cmdTimeAdjust_eq hr.values) rfl fun _ => rfl

/-- Settles O13: the step of the base by what it leaves there, and the ranges by the check at arrival. -/
theorem timeSetStepsTheBase : Obligations.TimeSetStepsTheBase := by
  unfold Obligations.TimeSetStepsTheBase
  intro h tb sec ns s htb
  constructor
  · intro hr
    refine ⟨_, exec_accepts hr (cmdTimeSet_eq hr.values) rfl fun _ => rfl, ?_⟩
    generalize hw : (s.serving h (.timeSet tb sec ns)) = w
    have htime : ∀ v : State, (if tb = 0 then v.setB Reg.TIME_STATUS_UNSYNC false else v).time = v.time := by
      intro v; split <;> simp
    have hb : ∀ v : State, (answered h (.timeSet tb sec ns) stOk []
        (if tb = 0 then v.setB Reg.TIME_STATUS_UNSYNC false else v)).tb tb = v.tb tb :=
      fun v => State.tb_congr tb (by rw [answered_time, htime])
    refine ⟨?_, ?_, ?_⟩
    · rw [State.tbNs_eq _ htb, hb, ← State.tbNs_eq _ htb]
      exact State.tbNs_stepTb w _ htb
    · rw [hb, State.stepTb_tb w _ htb]
    · rw [hb, State.stepTb_tb w _ htb, ← hw]
      exact State.serving_tb_rate s h _ tb
  · intro hp hbad
    refine exec_badParam hp (c := .timeSet tb sec ns) (Bool.eq_false_iff.mpr fun hv => ?_)
    obtain ⟨-, hsec, hns⟩ := valuesOk_timeSet.mp hv
    have hs : secNs = 1000000000 := rfl
    omega

/-! ### TRIGGER_SET -/

section
variable {k tb sec ns per : Nat}

/-- The first step of R434: parameters that no state admits. -/
def trigIllegal (k tb ns per : Nat) : Prop :=
  4 < k ∨ (3 < tb ∧ tb ≠ 0xFF) ∨ 1000000000 ≤ ns ∨ (k < 4 ∧ 1 ≤ per ∧ per ≤ 999) ∨ (k = 4 ∧ per < 8000000)

/-- The check at arrival is R434's first step with the disarming of trigger 4. -/
theorem valuesOk_triggerSet (hsec : sec < 2 ^ 48) : HostCmd.valuesOk (.triggerSet k tb sec ns per) = true ↔
    ¬trigIllegal k tb ns per ∧ ¬(tb = 0xFF ∧ k = 4) := by
  have hs : secNs = 1000000000 := rfl
  simp only [HostCmd.valuesOk, upTo, trigIllegal, Bool.and_eq_true, Bool.or_eq_true, decide_eq_true_eq, beq_iff_eq,
    bne_iff_ne, hs]
  split <;> simp only [decide_eq_true_eq] <;> omega

/-- A trigger's setting, once the first step of R434 is passed. -/
theorem State.setTrigger_legal (hsec : sec < 2 ^ 48) (hl : ¬trigIllegal k tb ns per) : u.setTrigger k tb sec ns per =
    if tb = 0xFF then
      if k = 4 then (stBadParam, u) else (stOk, u.setB (Reg.TIME_TRIG_CTRL_ARMED k) false)
    else if sec * 1000000000 + ns ≤ u.tbNs tb then (stBadParam, u)
    else (stOk, (((u.set (Reg.TIME_TRIG_CTRL_TB k) tb).setB (Reg.TIME_TRIG_CTRL_ARMED k) true).putTrigNext k
      (sec * 1000000000 + ns)).set (Reg.TIME_TRIG_PERIOD_NS k) per) := by
  have hs : secNs = 1000000000 := rfl
  unfold trigIllegal at hl
  unfold State.setTrigger
  rw [if_neg (by omega)]
  rfl

end

/-- A command that nothing precedes on a block that serves every command is ready where its values are admitted. -/
theorem Ready.of_nop (hr : Ready h .nop s) (hf : s.flag Reg.CMD_STATUS_READY = true)
    (hv : HostCmd.valuesOk c = true) : Ready h c s :=
  { hr with values := hv, serves := by rw [hf]; rfl }

/-- Settles O14: the check at arrival refuses what R434's first step and the disarming of trigger 4 refuse; the rest is the
setting of the trigger. -/
theorem triggerSetChecks : Obligations.TriggerSetChecks := by
  unfold Obligations.TriggerSetChecks
  intro h k tb sec ns per s hr hf hsec c u refused bad
  have hlate : HostCmd.valuesOk c = false → refused := fun hv => exec_badParam hr.toPlaced hv
  have hvals : ¬bad → ¬(tb = 0xFF ∧ k = 4) → Ready h c s := fun hb hd =>
    hr.of_nop hf ((valuesOk_triggerSet hsec).mpr ⟨hb, hd⟩)
  have hperf : u.perform h c = Res.err (u.setTrigger k tb sec ns per).1 (u.setTrigger k tb sec ns per).2 := rfl
  refine ⟨fun hb => ?_, fun hb ht hk => ?_, fun hb ht hk => ?_, fun hb ht hle => ?_, fun hb ht hlt => ?_⟩
  · exact hlate (Bool.eq_false_iff.mpr fun hv => ((valuesOk_triggerSet hsec).mp hv).1 hb)
  · exact hlate (Bool.eq_false_iff.mpr fun hv => ((valuesOk_triggerSet hsec).mp hv).2 ⟨ht, hk⟩)
  · refine exec_accepts (hvals hb fun hd => hk hd.2) (hperf.trans ?_) rfl fun _ => rfl
    rw [State.setTrigger_legal hsec hb, if_pos ht, if_neg hk]
    rfl
  · refine exec_refuses (hvals hb fun hd => ht hd.1) (d := []) (hperf.trans ?_) (by decide)
    rw [State.setTrigger_legal hsec hb, if_neg ht, if_pos hle]
    rfl
  · refine exec_accepts (hvals hb fun hd => ht hd.1) (hperf.trans ?_) rfl fun _ => rfl
    rw [State.setTrigger_legal hsec hb, if_neg ht, if_neg (by omega)]
    rfl

end Sys2Proof.Machine
end

section
/-! SUPPORT. The rows of the thermal, link and redundant-pair opcodes: their checks, their replies and their effects. -/

namespace Sys2Proof.Machine

variable {s u : State} {h : Hdr} {c : HostCmd}

/-- A row of the opcode table that replies and goes on: with nothing outstanding, its reply, then what follows the reply. -/
theorem exec_replies_then {st : Nat} {d : List Byte} (hr : Ready h c s)
    (hp : (s.serving h c).perform h c = ⟨st, d, s.serving h c, false⟩) (ha : accepted st = true) :
    exec (instrOf h c) s = .next (((s.elapse h.at_).reply h c.opcode st false d).afterReply h c) := by
  rw [exec_instrOf, hostCommand_accepts hr hp ha, answered_serving hr.free]

/-! ### Thermal -/

section
variable {targets tag first count dt : Nat} {on : Iface}

theorem cmdHkRead_eq (hv : HostCmd.valuesOk (.hkRead first count) = true) : cmdHkRead first count u =
    Res.okData (((List.range count).map (fun i => leBytes 2 (u.get (Reg.THERM_HK (first + i))))).flatten) u := by
  unfold cmdHkRead
  rw [if_pos (by simpa [HostCmd.valuesOk] using hv)]

theorem cmdCalDt_eq (hv : HostCmd.valuesOk (.calDt dt) = true) :
    cmdCalDt dt u = Res.ok (u.set Reg.CAL_CTRL_CAL_DT dt) := by
  unfold cmdCalDt
  rw [if_pos (by simpa [HostCmd.valuesOk] using hv)]

/-- A calibration of target 0 while a job prints. -/
def calPrints (targets : Nat) (s : State) : Prop := bit targets 0 = true ∧ s.job.running ≠ none

/-- A calibration of a target that is being measured. -/
def calBusy (targets : Nat) (s : State) : Prop := ∃ k, k < 4 ∧ bit targets k = true ∧ s.runMeasures k = true

theorem cmdCalRun_prints (hv : HostCmd.valuesOk (.calRun targets) = true) (hp : calPrints targets u) :
    cmdCalRun targets tag on u = Res.err stBadState u := by
  have hv : targets ≤ 15 := by simpa [HostCmd.valuesOk, upTo] using hv
  unfold cmdCalRun
  rw [if_neg (by omega), if_pos (by simp [hp.1, Option.isSome_iff_ne_none, hp.2])]

/-- CAL_RUN past the check of the running job. -/
theorem cmdCalRun_judged (hv : HostCmd.valuesOk (.calRun targets) = true) (hp : ¬calPrints targets u) :
    cmdCalRun targets tag on u =
      if (List.range 4).any (fun k => bit targets k && u.runMeasures k) then Res.err stBusy u
      else if targets = 0 then Res.err stAccepted u
      else Res.err stAccepted (u.modTherm (fun x => { x with runs := x.runs ++ [(⟨tag, on, targets, false⟩ : CalRun)] })) := by
  have hv : targets ≤ 15 := by simpa [HostCmd.valuesOk, upTo] using hv
  unfold cmdCalRun
  rw [if_neg (by omega), if_neg (by simpa [calPrints, Option.isSome_iff_ne_none] using hp)]

theorem calBusy_iff : (List.range 4).any (fun k => bit targets k && u.runMeasures k) = true ↔ calBusy targets u := by
  simp [calBusy, List.any_eq_true]

theorem bit_zero (k : Nat) : bit 0 k = false := by simp [bit]

end

/-! ### Links -/

theorem cmdLinkConfig_eq {port lanes rate pre main post : Nat}
    (hv : HostCmd.valuesOk (.linkConfig port lanes rate pre main post) = true) :
    cmdLinkConfig port lanes rate pre main post u =
      Res.ok (((((u.set (Reg.ZPHY_PORT_CONFIG_WIDTH port) (lanes / 2)).set (Reg.ZPHY_PORT_CONFIG_RATE port) rate).set
        (Reg.ZPHY_PORT_EQ_PRE port) pre).set (Reg.ZPHY_PORT_EQ_MAIN port) main).set (Reg.ZPHY_PORT_EQ_POST port) post) := by
  unfold cmdLinkConfig
  rw [if_pos (by simpa [HostCmd.valuesOk, upTo, and_assoc] using hv)]

theorem cmdLinkStatus_eq {port : Nat} (hv : HostCmd.valuesOk (.linkStatus port) = true) : cmdLinkStatus port u =
    Res.okData (leBytes 1 (u.get (Reg.ZPHY_PORT_STATUS_STATE port)) ++
      leBytes 1 (widthOf (u.get (Reg.ZPHY_PORT_STATUS_WIDTH_USED port))) ++
      leBytes 2 (u.get (Reg.ZPHY_PORT_STATUS_RATE_USED port)) ++
      leBytes 4 (u.get (Reg.ZLINK_PORT_CRC_ERRORS_COUNT port)) ++
      leBytes 4 (u.get (Reg.ZLINK_PORT_REPLAYS_COUNT port))) u := by
  have hv : port ≤ 3 := by simpa [HostCmd.valuesOk, upTo] using hv
  unfold cmdLinkStatus
  rw [if_neg (by omega)]

theorem cmdLinkRestart_eq {port : Nat} (hv : HostCmd.valuesOk (.linkRestart port) = true) :
    cmdLinkRestart port u = Res.err stAccepted u := by
  have hv : port ≤ 3 := by simpa [HostCmd.valuesOk, upTo] using hv
  unfold cmdLinkRestart
  rw [if_neg (by omega)]

/-- Settles O29: the rows that only reply, the period, the port's configuration and restart, and the three answers of
CAL_RUN. -/
theorem thermalAndLinkCommandsComplete : Obligations.ThermalAndLinkCommandsComplete := by
  unfold Obligations.ThermalAndLinkCommandsComplete
  intro h s
  refine ⟨fun hr => ?_, fun first count hr => ?_, fun targets hr => ?_, fun dt hr => ?_,
    fun port lanes rate pre main post hr => ?_, fun port hr => ?_, fun port hr => ?_, fun hr => ?_⟩
  · refine exec_replies hr ?_ rfl fun _ => rfl
    show cmdThermRead _ = _
    simp only [cmdThermRead, State.temp, State.serving_getS, State.serving_get]
    rfl
  · refine exec_replies hr ((cmdHkRead_eq hr.values).trans ?_) rfl fun _ => rfl
    simp only [State.serving_get]
    rfl
  · intro c u printing busy
    have hprints : calPrints targets u ↔ printing := by simp only [calPrints, u, State.serving_job]; rfl
    have hbusy : calBusy targets u ↔ busy := by
      simp only [calBusy, u, State.runMeasures, State.serving_therm]; rfl
    have hjudged := fun hp : ¬printing => cmdCalRun_judged (tag := h.tag) (on := h.iface) hr.values (mt hprints.mp hp)
    refine ⟨fun hp => ?_, fun hp hb => ?_, fun hp hb h0 => ?_, fun h0 => ?_⟩
    · exact exec_refuses hr (cmdCalRun_prints hr.values (hprints.mpr hp)) (by decide)
    · exact exec_refuses hr ((hjudged hp).trans (if_pos (calBusy_iff.mpr (hbusy.mpr hb)))) (by decide)
    · refine exec_accepts hr ((hjudged hp).trans ?_) (by decide) fun v => if_neg h0
      rw [if_neg (mt calBusy_iff.mp (mt hbusy.mp hb)), if_neg h0]
      rfl
    · have hp : ¬printing := fun hp => by simpa [h0, bit_zero] using hp.1
      have hb : ¬busy := fun ⟨k, _, hk, _⟩ => by simp [h0, bit_zero] at hk
      refine (exec_replies_then hr ((hjudged hp).trans ?_) (by decide)).trans (congrArg _ (if_pos h0))
      rw [if_neg (mt calBusy_iff.mp (mt hbusy.mp hb)), if_pos h0]
      rfl
  · exact exec_accepts hr (cmdCalDt_eq hr.values) rfl fun _ => rfl
  · exact exec_accepts hr (cmdLinkConfig_eq hr.values) rfl fun _ => rfl
  · exact exec_replies_then hr (cmdLinkRestart_eq hr.values) (by decide)
  · refine exec_replies hr ((cmdLinkStatus_eq hr.values).trans ?_) rfl fun _ => rfl
    simp only [State.serving_get]
    rfl
  · refine exec_replies hr ?_ rfl fun _ => rfl
    show cmdHierRead _ = _
    simp only [cmdHierRead, State.nodeList, State.ownDepth, State.serving_myId, State.serving_get,
      State.serving_flag, State.serving_hier]
    rfl

/-! ### The redundant pair -/

/-- What PAIR_CONFIG writes before ENABLE starts or ends the pair (R404, R405). -/
def State.pairStrings (s : State) (enable strings : Nat) : State :=
  let new := fun (k : Nat) (f : Fld) => bit strings k && !s.flag f
  (((s.modPair (fun x => { x with
    wire := if new 0 Reg.PAIR_CTRL_WIRE then .start s.now else x.wire,
    msg := if new 1 Reg.PAIR_CTRL_MSG then .start s.now else x.msg,
    wdogAt := if new 0 Reg.PAIR_CTRL_WIRE then s.now else x.wdogAt,
    strAt := if new 1 Reg.PAIR_CTRL_MSG then none else x.strAt })).set Reg.PAIR_CTRL_WIRE (bits strings 0 1)).set
    Reg.PAIR_CTRL_MSG (bits strings 1 1)).set Reg.PAIR_CTRL_ENABLE enable

/-- The registers of a device that leaves its pair (R405): its standby state, the interlock, the role and the partner. -/
def State.pairEndRegs (s : State) : State :=
  let s := s.leaveStandby
  let s := if s.flag Reg.PAIR_STATUS_ILK_IN then s.dropIlk else s
  ((s.set Reg.PAIR_STATUS_ROLE 0).set Reg.PAIR_STATUS_PARTNER 0).set Reg.PAIR_STATUS_STRINGS_OK 0

/-- A device that leaves its pair (R405), with what it kept of the pair. -/
def State.pairEnd (s : State) : State :=
  s.pairEndRegs.modPair (fun x => { x with
    listenEnd := none, takeover := false, faultCode := 0, copyNext := none, lost := false, heldFlips := [],
    ilkWanted := !s.pairEndRegs.flag Reg.PAIR_STATUS_ILK_OUT })

/-- A single device that begins to listen (R405, R406). -/
def State.pairListen (s : State) : State :=
  (s.set Reg.PAIR_STATUS_STRINGS_OK 0).modPair (fun x => { x with
    listenEnd := some (s.now + 320000), wire := .start s.now, msg := .start s.now, faultCode := 0, wdogAt := s.now,
    strAt := none })

section
variable {enable strings : Nat}

theorem cmdPairConfig_prints (hv : HostCmd.valuesOk (.pairConfig enable strings) = true) (hj : u.job.running ≠ none) :
    cmdPairConfig enable strings u = Res.err stBadState u := by
  have hv : enable ≤ 1 ∧ strings ≤ 3 := by simpa [HostCmd.valuesOk, upTo] using hv
  unfold cmdPairConfig
  rw [if_neg (by omega), if_pos (Option.isSome_iff_ne_none.mpr hj)]

/-- PAIR_CONFIG with no job: the strings, then the listen, the end of the pair, or neither. -/
theorem cmdPairConfig_eq (hv : HostCmd.valuesOk (.pairConfig enable strings) = true) (hj : u.job.running = none) :
    cmdPairConfig enable strings u =
      if enable = 1 ∧ !u.flag Reg.PAIR_CTRL_ENABLE then Res.ok (u.pairStrings enable strings).pairListen
      else if enable = 0 ∧ u.flag Reg.PAIR_CTRL_ENABLE then Res.ok (u.pairStrings enable strings).pairEnd
      else Res.ok (u.pairStrings enable strings) := by
  have hv : enable ≤ 1 ∧ strings ≤ 3 := by simpa [HostCmd.valuesOk, upTo] using hv
  unfold cmdPairConfig
  rw [if_neg (by omega), if_neg (by simp [hj])]
  rfl

end

/-- Leaving the pair is a matter of the pair and its registers. -/
theorem State.pairEnd_frame (s : State) : s.pairEnd.job = s.job ∧ s.pairEnd.dram = s.dram ∧ s.pairEnd.heads = s.heads := by
  show s.pairEndRegs.job = _ ∧ s.pairEndRegs.dram = _ ∧ s.pairEndRegs.heads = _
  unfold State.pairEndRegs
  dsimp only
  by_cases hi : s.leaveStandby.flag Reg.PAIR_STATUS_ILK_IN = true
  · rw [if_pos hi]; exact ⟨rfl, rfl, rfl⟩
  · rw [if_neg hi]; exact ⟨rfl, rfl, rfl⟩

/-- A device that has left its pair is single, with no partner and no string that is heard. -/
theorem State.pairEnd_regs (s : State) : s.pairEnd.get Reg.PAIR_STATUS_ROLE = 0 ∧
    s.pairEnd.get Reg.PAIR_STATUS_PARTNER = 0 ∧ s.pairEnd.get Reg.PAIR_STATUS_STRINGS_OK = 0 := by
  unfold State.pairEnd State.pairEndRegs
  refine ⟨?_, ?_, ?_⟩
  · rw [State.modPair_get, State.get_set_other _ (by decide), State.get_set_other _ (by decide), State.get_set_same]
    rfl
  · rw [State.modPair_get, State.get_set_other _ (by decide), State.get_set_same]
    rfl
  · rw [State.modPair_get, State.get_set_same]
    rfl

@[simp] theorem State.pairStrings_job (s : State) (enable strings : Nat) : (s.pairStrings enable strings).job = s.job := rfl
@[simp] theorem State.pairStrings_dram (s : State) (enable strings : Nat) :
    (s.pairStrings enable strings).dram = s.dram := rfl
@[simp] theorem State.pairStrings_heads (s : State) (enable strings : Nat) :
    (s.pairStrings enable strings).heads = s.heads := rfl

theorem cmdPairRejoin_eq : cmdPairRejoin u =
    if u.standby = true ∧ u.get Reg.PAIR_STATUS_STATE = 0 then
      Res.err stAccepted ((u.set Reg.PAIR_STATUS_STATE 1).modPair (fun x => { x with
        resyncAt := some u.now, lost := false, faultCode := 0, ckptNew := false }))
    else Res.err stBadState u := by
  unfold cmdPairRejoin
  by_cases hs : u.standby = true ∧ u.get Reg.PAIR_STATUS_STATE = 0
  · rw [if_pos hs, if_neg (by simp [hs])]
  · rw [if_neg hs, if_pos (by simpa [Decidable.or_iff_not_not_and_not, ← Decidable.imp_iff_not_or] using hs)]

/-- Settles O30: PAIR_CONFIG by its four outcomes, the reply of PAIR_STATUS, and the rejoin of an UNSYNCED standby. -/
theorem pairCommandsComplete : Obligations.PairCommandsComplete := by
  unfold Obligations.PairCommandsComplete
  intro h s
  refine ⟨fun enable strings hr => ?_, fun hr => ?_, fun hr => ?_⟩
  · intro c u start v
    have hv : v = u.pairStrings enable strings := by
      simp only [v, start, State.pairStrings, ← State.serving_flag s h c]
      rfl
    have hen : enable ≤ 1 ∧ strings ≤ 3 := by simpa [HostCmd.valuesOk, upTo] using hr.values
    have hjob : u.job = s.job := State.serving_job s h c
    have hwas : u.flag Reg.PAIR_CTRL_ENABLE = s.flag Reg.PAIR_CTRL_ENABLE := State.serving_flag s h c _
    have heq := fun hj : s.job.running = none => cmdPairConfig_eq (u := u) hr.values (by rw [hjob, hj])
    rw [hwas] at heq
    refine ⟨fun hj => ?_, fun hj he hw => ?_, fun hj he => ?_, fun hj he hw => ?_⟩
    · exact exec_refuses hr (cmdPairConfig_prints hr.values (by rwa [State.serving_job])) (by decide)
    · rw [hv]
      exact exec_accepts hr ((heq hj).trans (if_pos ⟨he, by simp [hw]⟩)) rfl fun _ => rfl
    · rw [hv]
      refine exec_accepts hr ((heq hj).trans ?_) rfl fun _ => rfl
      rw [if_neg (by rintro ⟨h1, h2⟩; simp [he.mp h1] at h2), if_neg (by rintro ⟨h1, h2⟩; have := he.mpr h2; omega)]
      rfl
    · refine ⟨answered h c stOk [] (u.pairStrings enable strings).pairEnd,
        exec_accepts hr ((heq hj).trans ?_) rfl fun _ => rfl, ?_⟩
      · rw [if_neg (by omega), if_pos ⟨he, hw⟩]
        rfl
      · obtain ⟨hrole, hpartner, hstrings⟩ := State.pairEnd_regs (u.pairStrings enable strings)
        obtain ⟨hjob', hdram, hheads⟩ := State.pairEnd_frame (u.pairStrings enable strings)
        refine ⟨?_, ?_, ?_, ?_, ?_, ?_, ?_, ?_⟩
        · rw [answered_get, hrole]
        · rw [answered_get, hpartner]
        · rw [answered_get, hstrings]
        · simp [answered, State.pairEnd]
        · simp [answered, State.pairEnd]
        · rw [answered, State.reply_job, hjob', State.pairStrings_job, State.serving_job]
        · rw [answered, State.reply_dram, hdram, State.pairStrings_dram, State.serving_dram]
        · rw [answered, State.reply_heads, hheads, State.pairStrings_heads, State.serving_heads]
  · refine exec_replies hr ?_ rfl fun _ => rfl
    show cmdPairStatus _ = _
    simp only [cmdPairStatus, State.serving_get, List.append_assoc]
    rfl
  · intro unsynced
    have hun : ((s.serving h .pairRejoin).standby = true ∧ (s.serving h .pairRejoin).get Reg.PAIR_STATUS_STATE = 0) ↔
        unsynced := by rw [State.serving_standby, State.serving_get]
    refine ⟨fun hu => ?_, fun hu => ?_⟩
    · exact exec_accepts hr (cmdPairRejoin_eq.trans (if_pos (hun.mpr hu))) (by decide) fun _ => rfl
    · exact exec_refuses hr (cmdPairRejoin_eq.trans (if_neg (mt hun.mp hu))) (by decide)

/-! ### PAIR_HANDOVER -/

theorem cmdPairHandover_eq (hs : u.standby = false) : cmdPairHandover u =
    if u.get Reg.PAIR_STATUS_ROLE ≠ 1 ∨ u.get Reg.PAIR_STATUS_PARTNER ≠ 2 then Res.err stBadState u
    else Res.err stAccepted u := by
  unfold cmdPairHandover
  rw [if_neg (by simp [hs])]

/-- A STRING that falls due changes no register. -/
@[simp] theorem State.stringDue_get (s : State) (f : Fld) : s.stringDue.get f = s.get f := by
  unfold State.stringDue
  split <;> rfl

/-- An active whose partner is READY hands over when it fails. -/
theorem State.pairFault_handsOver (code : Nat) (hrole : s.get Reg.PAIR_STATUS_ROLE = 1)
    (hpartner : s.get Reg.PAIR_STATUS_PARTNER = 2) : s.pairFault code =
      ((s.modPair (fun x => { x with faultCode := code })).stringDue).handOver code := by
  unfold State.pairFault
  rw [if_neg (by omega), if_pos (by simp [hpartner])]

/-- Settles O31: the two refusals, and the fault of code 5 that follows the reply of an active with a READY partner. -/
theorem pairHandoverHandsOver : Obligations.PairHandoverHandsOver := by
  unfold Obligations.PairHandoverHandsOver
  intro h s hr
  have hst : ∀ b, s.standby = b → (s.serving h .pairHandover).standby = b := fun b hb => by rw [State.serving_standby, hb]
  refine ⟨fun hs => ?_, fun hs hp => ?_, fun hrole hp => ?_⟩
  · exact exec_refuses hr (if_pos (hst true hs)) (by decide)
  · exact exec_refuses hr ((cmdPairHandover_eq (hst false hs)).trans (if_pos (.inr (by rwa [State.serving_get])))) (by decide)
  · have hs : s.standby = false := by simp [State.standby, hrole]
    refine (exec_replies_then hr ((cmdPairHandover_eq (hst false hs)).trans (if_neg ?_)) (by decide)).trans
      (congrArg _ (State.pairFault_handsOver 5 ?_ ?_))
    · simp [hrole, hp]
    · simp [hrole]
    · simp [hp]

end Sys2Proof.Machine
end

section
/-! SUPPORT. The rows of the one-time memory, the patch, the ladder and the memory's fills: the check that decides each
answer, and the effect. -/

namespace Sys2Proof.Machine

variable {s u : State} {h : Hdr} {c : HostCmd}

/-- A row whose own check answers a status and leaves the state. -/
theorem exec_err {st : Nat} (hr : Ready h c s) (hp : (s.serving h c).perform h c = Res.err st (s.serving h c))
    (ha : accepted st = false) : exec (instrOf h c) s = .next ((s.elapse h.at_).reply h c.opcode st false []) :=
  exec_refuses hr hp ha

/-- A row whose own check answers a status and leaves a trace of it. -/
theorem exec_err_after {st : Nat} {t : State} (hr : Ready h c s) (hp : (s.serving h c).perform h c = Res.err st t)
    (ha : accepted st = false) : exec (instrOf h c) s = .next (answered h c st [] t) :=
  exec_refuses_after hr hp ha

@[simp] theorem State.serving_burnForbidden (s : State) (h : Hdr) (c : HostCmd) :
    (s.serving h c).burnForbidden = s.burnForbidden := by
  simp [State.burnForbidden]

/-- What bars a burn: its lock, or a temperature at which nothing is burned (R454, R456). -/
def burnBarred (k : Nat) (s : State) : Prop :=
  bit s.otp.locks k = true ∨ 2 ≤ s.get Reg.THERM_STATUS_LEVEL ∨ s.getS Reg.THERM_STATUS_TJ < 0

theorem burnBarred_iff (k : Nat) : (bit u.otp.locks k = true ∨ u.burnForbidden = true) ↔ burnBarred k u := by
  simp [burnBarred, State.burnForbidden]

theorem burnBarred_serving (k : Nat) : burnBarred k (s.serving h c) ↔ burnBarred k s := by
  simp [burnBarred]

/-- The lowest blank generation. -/
def firstBlank (s : State) : Option Nat := (List.range 4).find? (fun g => isBlank (s.otp.gens.getD g []))

/-- OTP_BURN: the record, then the lock and the temperature, then a blank generation. -/
theorem cmdOtpBurn_eq (record : List Byte) : cmdOtpBurn record u =
    if recordValid record = false then Res.err stBadParam u
    else if bit u.otp.locks 0 = true ∨ u.burnForbidden = true then Res.err stBadState u
    else match firstBlank u with
      | none => Res.err stOtpExhausted u
      | some g =>
        if u.burnReadsBack then Res.okData (leBytes 1 g) { u.used with otp := { u.otp with
          gens := modAt (fun _ => record) g u.otp.gens, locks := u.otp.locks ||| bits (u8 record 2) 3 3 } }
        else Res.err stCheckFail { u.used with otp := { u.otp with gens := modAt (fun _ => spoiled) g u.otp.gens } } := by
  unfold cmdOtpBurn firstBlank
  cases (List.range 4).find? (fun g => isBlank (u.otp.gens.getD g [])) <;>
    cases recordValid record <;> rfl

theorem firstBlank_none (hb : ∀ g, g < 4 → ¬isBlank (u.otp.gens.getD g []) = true) : firstBlank u = none := by
  simpa [firstBlank, List.find?_eq_none] using hb

theorem firstBlank_some {g : Nat} (hg : g < 4) (hb : isBlank (u.otp.gens.getD g []) = true)
    (hlow : ∀ k, k < g → ¬isBlank (u.otp.gens.getD k []) = true) : firstBlank u = some g := by
  unfold firstBlank
  rw [List.find?_range_eq_some]
  exact ⟨hb, by simpa using hg, fun k hk => by simpa using hlow k hk⟩

/-- KEY_BURN: the hash, then the lock and the temperature, then a blank slot (R456). -/
theorem cmdKeyBurn_eq {slot : Nat} {hash : List Byte} (hv : HostCmd.valuesOk (.keyBurn slot hash) = true) :
    cmdKeyBurn slot hash u =
      if isBlank hash = true then Res.err stBadParam u
      else if bit u.otp.locks 1 = true ∨ u.burnForbidden = true then Res.err stBadState u
      else if isBlank (u.otp.keys.getD slot []) = false then Res.err stOtpExhausted u
      else if u.burnReadsBack then
        Res.ok { u.used with otp := { u.otp with keys := modAt (fun _ => hash) slot u.otp.keys } }
      else Res.err stCheckFail { u.used with otp := { u.otp with keys := modAt (fun _ => u.spoiledKey) slot u.otp.keys } } := by
  have hv : slot ≤ 1 := by simpa [HostCmd.valuesOk, upTo] using hv
  have hs : ¬1 < slot := by omega
  unfold cmdKeyBurn
  simp only [hs, false_or, Bool.not_eq_true']

theorem cmdPatchLoad_eq {offset : Nat} {data : List Byte} (hv : HostCmd.valuesOk (.patchLoad offset data) = true) :
    cmdPatchLoad offset data u = Res.ok { u with otp := { u.otp with staging := putStaging u.otp.staging offset data } } := by
  unfold cmdPatchLoad
  rw [if_pos (by simpa [HostCmd.valuesOk] using hv)]

/-- What bars a patch: its lock, or a running job (R460). -/
def patchBarred (s : State) : Prop := bit s.otp.locks 2 = true ∨ s.job.running ≠ none

/-- PATCH_ACTIVATE: the lock and the job, the image, the signature (R460). -/
theorem cmdPatchActivate_eq (size : Nat) (sign : List Byte) : cmdPatchActivate size sign u =
    if bit u.otp.locks 2 = true ∨ u.job.running.isSome = true then Res.err stBadState u
    else if u.otp.imageOk size = false then Res.err stBadParam u
    else if u.otp.signatureOk size sign = false then Res.err stSignatureFail (u.incSat Reg.OTP_PATCH_FAILS_COUNT 1)
    else Res.ok u := by
  unfold cmdPatchActivate
  simp only [Bool.not_eq_true']

theorem patchBarred_iff : (bit u.otp.locks 2 = true ∨ u.job.running.isSome = true) ↔ patchBarred u := by
  rw [patchBarred, Option.isSome_iff_ne_none]

/-- After its reply, PATCH_ACTIVATE takes the patch and restarts the firmware (R460). -/
theorem afterReply_patchActivate {size : Nat} {sign : List Byte} (v : State) :
    v.afterReply h (.patchActivate size sign) = v.takePatch.fwRestart := by
  unfold State.afterReply State.patchActs
  rfl

/-- Settles O32: each row by the order of its checks, and the burn by the free value that tells whether it reads back. -/
theorem otpCommandsComplete : Obligations.OtpCommandsComplete := by
  unfold Obligations.OtpCommandsComplete
  intro h s
  refine ⟨fun hr => ?_, fun record hr => ?_, fun slot hash hr => ?_, fun offset data hr => ?_, fun size sign hr => ?_⟩
  · refine exec_replies hr ?_ rfl fun _ => rfl
    show cmdOtpRead _ = _
    simp only [cmdOtpRead, State.serving_otp]
    rfl
  · intro c u refused blank locked
    have hotp : u.otp = s.otp := State.serving_otp s h c
    have hperf : u.perform h c = cmdOtpBurn record u := rfl
    have hlock : burnBarred 0 u ↔ locked := burnBarred_serving 0
    have hopen := fun hl : ¬locked => mt (burnBarred_iff (u := u) 0).mp (mt hlock.mp hl)
    rw [cmdOtpBurn_eq] at hperf
    refine ⟨fun hv => ?_, fun hv hl => ?_, fun hv hl hb => ?_, fun g hv hl hg hb hlow => ?_⟩
    · exact exec_err hr (hperf.trans (if_pos hv)) (by decide)
    · refine exec_err hr (hperf.trans ?_) (by decide)
      rw [if_neg (by simp [hv]), if_pos ((burnBarred_iff 0).mpr (hlock.mpr hl))]
    · refine exec_err hr (hperf.trans ?_) (by decide)
      rw [if_neg (by simp [hv]), if_neg (hopen hl), firstBlank_none (by rwa [hotp])]
    · rw [if_neg (by simp [hv]), if_neg (hopen hl),
        firstBlank_some hg (by rwa [hotp]) (by rwa [hotp])] at hperf
      dsimp only at hperf
      split
      next hback => exact exec_accepts hr (hperf.trans (if_pos hback)) rfl fun _ => rfl
      next hback => exact exec_err_after hr (hperf.trans (if_neg hback)) rfl
  · intro c u refused locked
    have hotp : u.otp = s.otp := State.serving_otp s h c
    have hperf : u.perform h c = cmdKeyBurn slot hash u := rfl
    have hlock : burnBarred 1 u ↔ locked := burnBarred_serving 1
    have hopen := fun hl : ¬locked => mt (burnBarred_iff (u := u) 1).mp (mt hlock.mp hl)
    rw [cmdKeyBurn_eq hr.values] at hperf
    refine ⟨fun hv => ?_, fun hv hl => ?_, fun hv hl hb => ?_, fun hv hl hb => ?_⟩
    · exact exec_err hr (hperf.trans (if_pos hv)) (by decide)
    · refine exec_err hr (hperf.trans ?_) (by decide)
      rw [if_neg (by simp [hv]), if_pos ((burnBarred_iff 1).mpr (hlock.mpr hl))]
    · refine exec_err hr (hperf.trans ?_) (by decide)
      rw [if_neg (by simp [hv]), if_neg (hopen hl), if_pos (by rwa [hotp])]
    · rw [if_neg (by simp [hv]), if_neg (hopen hl), if_neg (by rw [hotp]; simpa using hb)] at hperf
      split
      next hback => exact exec_accepts hr (hperf.trans (if_pos hback)) rfl fun _ => rfl
      next hback => exact exec_err_after hr (hperf.trans (if_neg hback)) rfl
  · exact exec_accepts hr (cmdPatchLoad_eq hr.values) rfl fun _ => rfl
  · intro c refused barred
    have hperf := cmdPatchActivate_eq (u := s.serving h c) size sign
    have hbar : patchBarred (s.serving h c) ↔ barred := by rw [patchBarred, State.serving_otp, State.serving_job]
    have hopen := fun hb : ¬barred => mt patchBarred_iff.mp (mt hbar.mp hb)
    rw [State.serving_otp] at hperf hopen
    refine ⟨fun hb => ?_, fun hb hi => ?_, fun hb hi hs => ?_, fun hb hi hs => ?_⟩
    · refine exec_err hr (hperf.trans (if_pos ?_)) (by decide)
      simpa using patchBarred_iff.mpr (hbar.mpr hb)
    · exact exec_err hr (hperf.trans ((if_neg (hopen hb)).trans (if_pos hi))) (by decide)
    · refine exec_err_after hr (hperf.trans ?_) (by decide)
      rw [if_neg (hopen hb), if_neg (by simp [hi]), if_pos hs]
    · rw [if_neg (hopen hb), if_neg (by simp [hi]), if_neg (by simp [hs])] at hperf
      exact (exec_replies_then hr hperf rfl).trans (congrArg _ (afterReply_patchActivate _))

end Sys2Proof.Machine
end

section
/-! SUPPORT. The rows of the ladder and of the memory: the check that decides each answer, and the effect. -/

namespace Sys2Proof.Machine

variable {s u : State} {h : Hdr} {c : HostCmd}

@[simp] theorem State.serving_port (s : State) (h : Hdr) (c : HostCmd) (p : Nat) : (s.serving h c).port p = s.port p := by
  simp [State.port]

section
variable {state wake : Nat}

/-- LADDER_SET of L0 or L1 (R474, R476). -/
theorem cmdLadderSet_l1 (hv : HostCmd.valuesOk (.ladderSet state wake) = true) (hs : state < 2) :
    cmdLadderSet state wake u = Res.ok
      (let v := (u.setB Reg.LADDER_CTRL_AUTO_L1 (state == 1)).modPower (fun x => { x with stay := false })
       if state = 0 ∧ u.get Reg.LADDER_STATE = 1 then v.set Reg.LADDER_STATE 0 else v) := by
  have hv : state ≤ 4 ∧ wake ≤ 4 := by simpa [HostCmd.valuesOk, upTo] using hv
  have hstate : ∀ f, ((u.setB Reg.LADDER_CTRL_AUTO_L1 (state == 1)).modPower f).get Reg.LADDER_STATE =
      u.get Reg.LADDER_STATE := fun f => State.get_setB_other u (by decide) _
  have hzero : (!(state == 1)) = decide (state = 0) := by
    have : state = 0 ∨ state = 1 := by omega
    rcases this with rfl | rfl <;> rfl
  unfold cmdLadderSet State.setAutoL1
  rw [if_neg (by omega), if_pos hs]
  simp only [hstate, hzero, Bool.and_eq_true, decide_eq_true_eq, beq_iff_eq]

/-- LADDER_SET of L2 to L4: the wake port, then the work under way, then the entry (R475). -/
theorem cmdLadderSet_deep (hv : HostCmd.valuesOk (.ladderSet state wake) = true) (hs : 2 ≤ state) :
    cmdLadderSet state wake u =
      if wake < 4 ∧ (u.port wake).isUp = false then Res.err stBadParam u
      else if u.working = true then Res.err stBadState u
      else Res.ok ((List.range 4).foldl State.orderIdle ((u.set Reg.LADDER_WAKE_CFG_WAKE_PORT wake).modPower
        (fun x => { x with entry := some (state, wake), stay := false }))) := by
  have hv : state ≤ 4 ∧ wake ≤ 4 := by simpa [HostCmd.valuesOk, upTo] using hv
  unfold cmdLadderSet
  rw [if_neg (by omega), if_neg (by omega)]
  simp only [Bool.not_eq_true']

end

theorem cmdVcoreFloor_eq {mv : Nat} (hv : HostCmd.valuesOk (.vcoreFloor mv) = true) :
    cmdVcoreFloor mv u = Res.ok (u.set Reg.LADDER_FLOOR_MV mv).raiseToFloor := by
  have hv : 720 ≤ mv ∧ mv ≤ 850 := by simpa [HostCmd.valuesOk] using hv
  unfold cmdVcoreFloor State.putFloor
  rw [if_neg (by omega)]
  rfl

/-- MEM_FILL of a legal range: the standby, the protected window, the fill (R280). -/
theorem cmdMemFill_eq {addr len pattern tag : Nat} {on : Iface}
    (hv : HostCmd.valuesOk (.memFill addr len pattern) = true) : cmdMemFill addr len pattern tag on u =
      if u.standby = true then Res.err stNotOwner (u.incSat Reg.MEMCTL_PROT_REFUSED_COUNT 1)
      else if touchesProt addr len = true then Res.err stProtected (u.incSat Reg.MEMCTL_PROT_REFUSED_COUNT 1)
      else Res.err stAccepted (u.modMem (fun m => { m with fills := m.fills ++ [⟨tag, on, addr, len, pattern, 0⟩] })) := by
  have hv : ((¬len = 0 ∧ addr % 64 = 0) ∧ len % 64 = 0) ∧ inDram addr len = true := by
    simpa [HostCmd.valuesOk] using hv
  obtain ⟨⟨⟨hlen, haddr⟩, hmul⟩, hin⟩ := hv
  unfold cmdMemFill
  rw [if_neg (by simp [hlen, haddr, hmul, hin])]

/-- MEM_MODE with no job running (R271). -/
theorem cmdMemMode_eq {mode : Nat} (hj : u.job.running = none) : cmdMemMode mode u =
    if mode = 1 ∧ u.flag Reg.MEMCTL_MODE_INIT = false then
      Res.ok ((u.waitAllFills.undefine 0 dramEnd).set Reg.MEMCTL_MODE_INIT 1)
    else Res.ok (u.set Reg.MEMCTL_MODE_INIT mode) := by
  unfold cmdMemMode
  rw [if_neg (by simp [hj])]
  simp only [Bool.not_eq_true']

/-- Work under way is a matter of the job, the axes, the DMA channels, the packer and what was accepted. -/
@[simp] theorem State.serving_working (s : State) (h : Hdr) (c : HostCmd) : (s.serving h c).working = s.working := by
  have hen : (s.serving h c).energised = s.energised := funext fun a => by simp [State.energised]
  simp only [State.working, hen, State.dmaRunning, State.dmaCh, State.acceptedWork, State.serving_job,
    State.serving_flag, State.serving_dma, State.serving_pack, State.serving_mem, State.serving_tone,
    State.serving_line, State.serving_therm, State.serving_ports]

/-- Settles O33: each row by the order of its checks. -/
theorem powerAndMemoryCommandsComplete : Obligations.PowerAndMemoryCommandsComplete := by
  unfold Obligations.PowerAndMemoryCommandsComplete
  intro h s
  refine ⟨fun state wake hr => ?_, fun hr => ?_, fun mv hr => ?_, fun addr len pattern hr => ?_, fun mode hr => ?_⟩
  · intro c u refused
    have hport : (u.port wake).isUp = (s.port wake).isUp := by rw [State.serving_port]
    have hget : u.get Reg.LADDER_STATE = s.get Reg.LADDER_STATE := State.serving_get s h c _
    refine ⟨fun hs => ?_, fun hs hw hup => ?_, fun hs hw hwork => ?_, fun hs hw hidle => ?_⟩
    · rw [← hget]
      exact exec_accepts hr (cmdLadderSet_l1 hr.values hs) rfl fun _ => rfl
    · exact exec_err hr ((cmdLadderSet_deep hr.values hs).trans (if_pos ⟨hw, hport.trans hup⟩)) (by decide)
    · refine exec_err hr ((cmdLadderSet_deep hr.values hs).trans ((if_neg ?_).trans (if_pos hwork))) (by decide)
      rintro ⟨h4, hup⟩; rw [State.serving_port, hw h4] at hup; cases hup
    · refine exec_accepts hr ((cmdLadderSet_deep hr.values hs).trans ((if_neg ?_).trans (if_neg ?_))) rfl fun _ => rfl
      · rintro ⟨h4, hup⟩; rw [State.serving_port, hw h4] at hup; cases hup
      · exact fun hwork => by rw [hidle] at hwork; cases hwork
  · refine exec_replies hr ?_ rfl fun _ => rfl
    show cmdLadderStatus _ = _
    simp only [cmdLadderStatus, State.pmbusOn, State.serving_get, State.serving_flag, State.serving_power]
    rfl
  · exact exec_accepts hr (cmdVcoreFloor_eq hr.values) rfl fun _ => rfl
  · intro c u
    have hperf := cmdMemFill_eq (u := u) (tag := h.tag) (on := h.iface) hr.values
    rw [State.serving_standby] at hperf
    refine ⟨fun hs => ?_, fun hs ht => ?_, fun hs ht => ?_⟩
    · exact exec_err_after hr (hperf.trans (if_pos hs)) (by decide)
    · exact exec_err_after hr (hperf.trans ((if_neg (by simp [hs])).trans (if_pos ht))) (by decide)
    · exact exec_accepts hr (hperf.trans ((if_neg (by simp [hs])).trans (if_neg (by simp [ht])))) (by decide) fun _ => rfl
  · intro u
    have hjob : u.job = s.job := State.serving_job s h _
    have hflag : u.flag Reg.MEMCTL_MODE_INIT = s.flag Reg.MEMCTL_MODE_INIT := State.serving_flag s h _ _
    have hperf := fun hj : s.job.running = none => cmdMemMode_eq (u := u) (mode := mode) (by rw [hjob, hj])
    rw [hflag] at hperf
    refine ⟨fun hj h1 hi => ?_, fun hj h0 => ?_, fun hj => ?_⟩
    · exact exec_accepts hr ((hperf hj).trans (if_pos ⟨h1, hi⟩)) rfl fun _ => rfl
    · refine exec_accepts hr ((hperf hj).trans (if_neg ?_)) rfl fun _ => rfl
      rintro ⟨h1, hi⟩
      rcases h0 with h0 | h0
      · omega
      · rw [hi] at h0; cases h0
    · exact exec_err hr (if_pos (by rw [State.serving_job]; exact Option.isSome_iff_ne_none.mpr hj)) (by decide)

end Sys2Proof.Machine
end

section
/-! SUPPORT. The rows of the DMA and of the packer: the check that decides each answer, and the job begun, resumed or
freed. -/

namespace Sys2Proof.Machine

variable {s u : State} {h : Hdr} {c : HostCmd}

/-! ### DMA_START (R319, R320) -/

/-- A descriptor that fails a check of R319 is not accepted. -/
theorem accepted_dmaCheck {n sh : Nat} {d : List Nat} (hne : u.dmaCheck n sh d ≠ stOk) :
    accepted (u.dmaCheck n sh d) = false := by
  have hst : u.dmaCheck n sh d ∈ [stOk, stBadParam, stNotOwner, stProtected, stBusy] := by
    unfold State.dmaCheck
    repeat' split
    all_goals decide
  simp only [List.mem_cons, List.not_mem_nil, or_false] at hst
  rcases hst with hst | hst | hst | hst | hst
  · exact absurd hst hne
  all_goals rw [hst]; decide

/-! ### PACK_START, UNPACK_START, PACK_RESUME and PACK_SLOT (R51, R333, R338) -/

/-- Ranges that fail R333 are not accepted. -/
theorem accepted_packRanges {src n dst m : Nat} (hne : u.packRanges src n dst m ≠ stOk) :
    accepted (u.packRanges src n dst m) = false := by
  have hst : u.packRanges src n dst m ∈ [stOk, stNotOwner, stBadParam, stProtected] := by
    unfold State.packRanges
    repeat' split
    all_goals decide
  simp only [List.mem_cons, List.not_mem_nil, or_false] at hst
  rcases hst with hst | hst | hst | hst
  · exact absurd hst hne
  all_goals rw [hst]; decide

@[simp] theorem State.serving_packRanges (s : State) (h : Hdr) (c : HostCmd) (src n dst m : Nat) :
    (s.serving h c).packRanges src n dst m = s.packRanges src n dst m := by
  simp only [State.packRanges, State.serving_standby]

@[simp] theorem State.serving_packSlot (s : State) (h : Hdr) (c : HostCmd) (k : Nat) :
    (s.serving h c).packSlot k = s.packSlot k := by
  simp [State.packSlot]

/-- The job that PACK_START or UNPACK_START begins (R334). -/
def freshJob (unpack : Bool) (level src dst n m tag : Nat) : PackJob :=
  { tag := tag, unpack := unpack, level := if unpack then 0 else level, src := src, srcLen := n, dst := dst, dstLen := m,
    used := 0, part := 0, pos := 0, runFrom := 0, crc := 0xFFFFFFFF, origLen := if unpack then 0 else n, consumed := 0,
    produced := 0, window := [] }

section
variable {unpack : Bool} {slot level src dst n m tag : Nat}

/-- A start with legal parameters: the ranges, then the slot, then the job. -/
theorem packAccept_eq (hs : slot ≤ 7) (hl : unpack = false → 1 ≤ level ∧ level ≤ 9) (hn : 1 ≤ n) (hm : 512 ≤ m) :
    packAccept unpack slot level src dst n m tag u =
      if u.packRanges src n dst m ≠ stOk then Res.err (u.packRanges src n dst m) u
      else if u.get (Reg.PACK_SLOT_STATE slot) ≠ 0 then Res.err stBusy u
      else Res.err stAccepted (u.packBegin slot (freshJob unpack level src dst n m tag)) := by
  unfold packAccept
  rw [if_neg (by cases unpack <;> simp at hl ⊢ <;> omega)]
  rfl

/-- A start by its three answers, for PACK_START and for UNPACK_START. -/
theorem exec_packAccept (hr : Ready h c s)
    (hp : ∀ u : State, u.perform h c = packAccept unpack slot level src dst n m h.tag u) (hs : slot ≤ 7)
    (hl : unpack = false → 1 ≤ level ∧ level ≤ 9) (hn : 1 ≤ n) (hm : 512 ≤ m)
    (haf : ∀ u : State, u.afterReply h c = u) :
    (s.packRanges src n dst m ≠ stOk → exec (instrOf h c) s =
      .next ((s.elapse h.at_).reply h c.opcode (s.packRanges src n dst m) false [])) ∧
    (s.packRanges src n dst m = stOk → s.get (Reg.PACK_SLOT_STATE slot) ≠ 0 →
      exec (instrOf h c) s = .next ((s.elapse h.at_).reply h c.opcode stBusy false [])) ∧
    (s.packRanges src n dst m = stOk → s.get (Reg.PACK_SLOT_STATE slot) = 0 →
      exec (instrOf h c) s = .next (answered h c stAccepted []
        ((s.serving h c).packBegin slot (freshJob unpack level src dst n m h.tag)))) := by
  have hperf := (hp (s.serving h c)).trans (packAccept_eq hs hl hn hm)
  rw [State.serving_packRanges, State.serving_get] at hperf
  refine ⟨fun hne => ?_, fun hok hbusy => ?_, fun hok hfree => ?_⟩
  · exact exec_err hr (hperf.trans (if_pos hne)) (accepted_packRanges hne)
  · exact exec_err hr (hperf.trans ((if_neg (by simpa using hok)).trans (if_pos hbusy))) (by decide)
  · exact exec_accepts hr (hperf.trans ((if_neg (by simpa using hok)).trans (if_neg (by simpa using hfree)))) (by decide) haf

end

/-- PACK_RESUME of a slot that holds a job: the ranges, then the state of the slot (R338). -/
theorem cmdPackResume_held {slot dst m tag : Nat} {j : PackJob} (hs : slot ≤ 7) (hm : 512 ≤ m)
    (hj : u.packSlot slot = some j) : cmdPackResume slot dst m tag u =
      if u.packRanges j.src j.srcLen dst m ≠ stOk then Res.err (u.packRanges j.src j.srcLen dst m) u
      else if u.get (Reg.PACK_SLOT_STATE slot) ≠ 2 then Res.err stBadState u
      else Res.err stAccepted (u.packBegin slot { j with dst := dst, dstLen := m, used := 0, tag := tag }) := by
  unfold cmdPackResume
  rw [if_neg (by omega), hj]

/-- PACK_SLOT (R51): a running slot is not released; otherwise its state and counts, and a stopped one is freed. -/
theorem cmdPackSlot_eq {slot release : Nat} (hv : HostCmd.valuesOk (.packSlot slot release) = true) :
    cmdPackSlot slot release u =
      let st := u.get (Reg.PACK_SLOT_STATE slot)
      if release = 1 ∧ st = 1 then Res.err stBadState u
      else Res.okData (leBytes 4 st ++ leBytes 4 (u.get (Reg.PACK_SLOT_CONSUMED slot)) ++
          leBytes 4 (u.get (Reg.PACK_SLOT_PRODUCED slot)))
        (if release = 1 ∧ st = 2 then (u.putPack slot none).set (Reg.PACK_SLOT_STATE slot) 0 else u) := by
  have hv : slot ≤ 7 ∧ release ≤ 1 := by simpa [HostCmd.valuesOk, upTo] using hv
  unfold cmdPackSlot
  rw [if_neg (by omega)]

/-- Settles O34: DMA_START by R319's check, the starts by the ranges and the slot, the rest by the slot's state. -/
theorem dmaAndPackCommandsComplete : Obligations.DmaAndPackCommandsComplete := by
  unfold Obligations.DmaAndPackCommandsComplete
  intro h s
  refine ⟨fun n toShadow desc hr => ?_, fun slot level src dst n m hr hn hm => ?_,
    fun slot level src dst n m hr hn hm => ?_, fun slot dst m j hr hm hj => ?_, fun slot release hr => ?_⟩
  · intro c u d
    have hperf : u.perform h c =
      if u.dmaCheck n toShadow d = stOk then Res.ok (u.dmaStart n d) else Res.err (u.dmaCheck n toShadow d) u := rfl
    have hrun : u.dmaRunning n = s.dmaRunning n := State.serving_flag s h c _
    refine ⟨fun hne => ?_, fun hok hidle => ?_, fun hok hbusy => ?_⟩
    · exact exec_err hr (hperf.trans (if_neg hne)) (accepted_dmaCheck hne)
    · refine exec_accepts hr (hperf.trans ((if_pos hok).trans ?_)) rfl fun _ => rfl
      unfold State.dmaStart
      rw [if_neg (by simp [hrun, hidle])]
      rfl
    · refine exec_accepts hr (hperf.trans ((if_pos hok).trans ?_)) rfl fun _ => rfl
      unfold State.dmaStart
      rw [if_pos (by simp [hrun, hbusy])]
      rfl
  · have hv : slot ≤ 7 ∧ 1 ≤ level ∧ level ≤ 9 := by
      have := hr.values; simp [HostCmd.valuesOk, upTo] at this; omega
    exact exec_packAccept (unpack := false) hr (fun _ => rfl) hv.1 (fun _ => hv.2) hn hm fun _ => rfl
  · have hv : slot ≤ 7 := by
      have := hr.values; simp [HostCmd.valuesOk, upTo] at this; omega
    exact exec_packAccept (unpack := true) hr (fun _ => rfl) hv (fun hf => by cases hf) hn hm fun _ => rfl
  · intro c
    have hv : slot ≤ 7 := by
      have := hr.values; simp [HostCmd.valuesOk, upTo] at this; omega
    have hperf := cmdPackResume_held (u := s.serving h c) (dst := dst) (tag := h.tag) hv hm (by rwa [State.serving_packSlot])
    rw [State.serving_packRanges, State.serving_get] at hperf
    refine ⟨fun hok hst => ?_, fun hok hst => ?_⟩
    · refine exec_accepts hr (hperf.trans ((if_neg ?_).trans (if_neg ?_))) (by decide) fun _ => rfl
      · simpa using hok
      · simpa using hst
    · exact exec_err hr (hperf.trans ((if_neg (by simpa using hok)).trans (if_pos hst))) (by decide)
  · intro c u st data
    have hperf := cmdPackSlot_eq (u := u) hr.values
    simp only [u, State.serving_get] at hperf
    refine ⟨fun hrel hst => ?_, fun hrel hst => ?_, fun hno => ?_⟩
    · exact exec_err hr (hperf.trans (if_pos ⟨hrel, hst⟩)) (by decide)
    · refine exec_accepts hr (hperf.trans ((if_neg ?_).trans ?_)) rfl fun _ => rfl
      · exact fun hx => absurd (hx.2.symm.trans hst) (by decide)
      · rw [if_pos ⟨hrel, hst⟩]; rfl
    · refine exec_replies hr (hperf.trans ((if_neg ?_).trans ?_)) rfl fun _ => rfl
      · omega
      · rw [if_neg (by omega)]; rfl

end Sys2Proof.Machine
end

section
/-! SUPPORT. The rows of the motion axes and their switches: the check that decides each answer, and the effect. -/

namespace Sys2Proof.Machine

variable {s u : State} {h : Hdr} {c : HostCmd} {a : Nat}

@[simp] theorem State.serving_axis (s : State) (h : Hdr) (c : HostCmd) (a : Nat) : (s.serving h c).axis a = s.axis a := by
  simp [State.axis]

@[simp] theorem State.serving_axisPos (s : State) (h : Hdr) (c : HostCmd) (a : Nat) :
    (s.serving h c).axisPos a = s.axisPos a := by
  simp [State.axisPos]

/-! ### AXIS_CONFIG and AXIS_MOVE -/

/-- AXIS_CONFIG: at rest, then a legal record, then the record with the energising that it asks for (R291). -/
theorem cmdAxisConfig_eq {record : List Byte} : cmdAxisConfig a record u =
    let v := (List.range 16).foldl (fun s w => s.set (Reg.MOTION_AX_CFG_WORD a w) (u32 record (4 * w))) u
    if u.moving a = true then Res.err stBadState u
    else if axisRecordOk record = false then Res.err stBadParam u
    else Res.ok (if aEnable record then v.energise a else if aEnable (u.axisRecord a) then v.deEnergise a else v) := by
  unfold cmdAxisConfig State.writeAxis
  cases u.moving a
  · cases axisRecordOk record <;> rfl
  · rfl

/-- The speed and the accelerations of a move lie in the ranges of the axis's record (R298). -/
def moveFits (r : List Byte) (vmax accel decel : Nat) : Prop :=
  1 ≤ vmax ∧ vmax ≤ aVmaxAbs r ∧ 1 ≤ accel ∧ accel ≤ aDmax r ∧ 1 ≤ decel ∧ decel ≤ aDmax r

/-- An axis that may be sent `d` further: energised, not lost, not barred, and with its start trigger armed (R298). -/
def State.mayMove (s : State) (a : Nat) (d : Int) : Prop :=
  s.energised a = true ∧ s.flag (Reg.MOTION_AX_STATUS_LOST a) = false ∧ s.barred a d = false ∧
    s.trigUnarmed a true = false

/-- The next move of an axis, and the bars of the camera loops that wait for it. -/
def State.acceptMove (s : State) (a : Nat) (target : Int) (vmax accel decel tag : Nat) : State :=
  let v := (s.markWait a true).modAxis a (fun x => { x with
    next := some ⟨target, rawSpeed vmax, rawAccel accel, rawAccel decel, tag⟩ })
  { v with loops := { v.loops with planes := v.loops.planes.map (fun x =>
    if x.barMove = some a then { x with barMove := none, waitDue := true } else x) } }

section
variable {target : Int} {vmax accel decel tag : Nat}

theorem State.axisMove_misfit (hf : ¬moveFits (u.axisRecord a) vmax accel decel) :
    u.axisMove a target vmax accel decel tag = (stBadParam, u) := by
  unfold moveFits at hf
  unfold State.axisMove
  rw [if_pos (by omega)]

/-- A move whose speeds fit: what bars it, then the move. -/
theorem State.axisMove_fits (hf : moveFits (u.axisRecord a) vmax accel decel) :
    u.axisMove a target vmax accel decel tag =
      if u.energised a = false ∨ u.flag (Reg.MOTION_AX_STATUS_LOST a) = true then (stBadState, u)
      else if u.barred a (target - u.axisPos a) = true then (stBadState, u)
      else if u.trigUnarmed a true = true then (stBadState, u)
      else (stAccepted, (u.markWait a true).modAxis a (fun x => { x with
        next := some ⟨target, rawSpeed vmax, rawAccel accel, rawAccel decel, tag⟩ })) := by
  unfold moveFits at hf
  unfold State.axisMove
  rw [if_neg (by omega)]
  simp only [Bool.not_eq_true']

theorem cmdAxisMove_misfit (hf : ¬moveFits (u.axisRecord a) vmax accel decel) :
    cmdAxisMove a target vmax accel decel tag u = Res.err stBadParam u := by
  unfold cmdAxisMove
  rw [State.axisMove_misfit hf]
  exact if_neg (by decide)

theorem cmdAxisMove_barred (hf : moveFits (u.axisRecord a) vmax accel decel)
    (hm : ¬u.mayMove a (target - u.axisPos a)) : cmdAxisMove a target vmax accel decel tag u = Res.err stBadState u := by
  have hmove : u.axisMove a target vmax accel decel tag = (stBadState, u) := by
    rw [State.axisMove_fits hf]
    split
    · rfl
    next hon =>
      split
      · rfl
      next hbar =>
        refine if_pos (by_contra fun htrig => hm ⟨?_, ?_, ?_, ?_⟩)
        · simpa using fun he => hon (.inl he)
        · simpa using fun hl => hon (.inr hl)
        · simpa using hbar
        · simpa using htrig
  unfold cmdAxisMove
  rw [hmove]
  exact if_neg (by decide)

theorem cmdAxisMove_accepts (hf : moveFits (u.axisRecord a) vmax accel decel)
    (hm : u.mayMove a (target - u.axisPos a)) : cmdAxisMove a target vmax accel decel tag u =
      Res.err stAccepted (u.acceptMove a target vmax accel decel tag) := by
  obtain ⟨hen, hlost, hbar, htrig⟩ := hm
  unfold cmdAxisMove
  rw [State.axisMove_fits hf, if_neg (by simp [hen, hlost]), if_neg (by simp [hbar]), if_neg (by simp [htrig])]
  rfl

end

/-! ### AXIS_TABLE -/

/-- AXIS_TABLE within the set: a shadow that waits, then a legal shadow with LAST, then an axis that may start. -/
theorem cmdAxisTable_eq {first last tag : Nat} {segs : List Byte}
    (hv : HostCmd.valuesOk (.axisTable a first last segs) = true) : cmdAxisTable a first last segs tag u =
      let n := segs.length / 16
      let v := u.putTabs false (segBase a (!u.activeB a) + 16 * first) segs
      if u.get (Reg.MOTION_AX_TABLE_SHADOW a) = 2 then Res.err stBusy u
      else if last = 1 ∧ v.shadowOk a (first + n - 1) = false then Res.err stBadParam u
      else if u.energised a = false ∨ u.flag (Reg.MOTION_AX_STATUS_LOST a) = true ∨
          (last = 1 ∧ u.trigUnarmed a false = true) then Res.err stBadState u
      else Res.ok (if last = 1 then v.commitTable a (first + n - 1) tag else v.set (Reg.MOTION_AX_TABLE_SHADOW a) 1) := by
  have hv : (a ≤ 3 ∧ last ≤ 1) ∧ 1 ≤ segs.length / 16 ∧ segs.length / 16 ≤ 254 ∧ first + segs.length / 16 ≤ 256 := by
    simpa [HostCmd.valuesOk, upTo] using hv
  have hn : ¬256 < first + segs.length / 16 := by omega
  unfold cmdAxisTable
  simp only [hn, if_false, Bool.not_eq_true']
  by_cases hl : last = 1
  · simp only [hl, if_true]
  · simp only [hl, if_false]

/-- Settles O28: each row by the order of its checks; the readings and the settings have none. -/
theorem axisCommandsComplete : Obligations.AxisCommandsComplete := by
  unfold Obligations.AxisCommandsComplete
  intro h a s
  refine ⟨fun record hr => ?_, fun target vmax accel decel hr => ?_, fun first last segs hr => ?_, fun mode hr => ?_,
    fun hr => ?_, fun pos hr => ?_, fun edge stuck hr => ?_⟩
  · intro c u v refused
    have hmoving : u.moving a = s.moving a := by simp [u, State.moving]
    have hperf : u.perform h c = _ := cmdAxisConfig_eq
    rw [hmoving] at hperf
    refine ⟨fun hm => ?_, fun hm hbad => ?_, fun hm hok => ?_⟩
    · exact exec_err hr (hperf.trans (if_pos hm)) (by decide)
    · exact exec_err hr (hperf.trans ((if_neg (by simp [hm])).trans (if_pos hbad))) (by decide)
    · exact exec_accepts hr (hperf.trans ((if_neg (by simp [hm])).trans (if_neg (by simp [hok])))) rfl fun _ => rfl
  · intro c u r fits may refused v
    have hmay : u.mayMove a (target - u.axisPos a) ↔ may := by
      have hen : u.energised a = s.energised a := by simp [u, State.energised]
      have hpos : u.axisPos a = s.axisPos a := State.serving_axisPos s h c a
      have hflag : u.flag (Reg.MOTION_AX_STATUS_LOST a) = s.flag (Reg.MOTION_AX_STATUS_LOST a) := State.serving_flag s h c _
      rw [State.mayMove, hen, hflag, hpos]
    refine ⟨fun hf hm => ?_, fun hf => ?_, fun hf hm => ?_⟩
    · exact exec_accepts hr (cmdAxisMove_accepts hf (hmay.mpr hm)) (by decide) fun _ => rfl
    · exact exec_err hr (cmdAxisMove_misfit hf) (by decide)
    · exact exec_err hr (cmdAxisMove_barred hf (mt hmay.mp hm)) (by decide)
  · intro c u n v refused busy bad may
    have hen : u.energised a = s.energised a := by simp [u, State.energised]
    have hget : u.get (Reg.MOTION_AX_TABLE_SHADOW a) = s.get (Reg.MOTION_AX_TABLE_SHADOW a) := State.serving_get s h c _
    have hlost : u.flag (Reg.MOTION_AX_STATUS_LOST a) = s.flag (Reg.MOTION_AX_STATUS_LOST a) := State.serving_flag s h c _
    have hact : u.activeB a = s.activeB a := State.serving_flag s h c _
    have hperf := cmdAxisTable_eq (u := u) (tag := h.tag) hr.values
    simp only [hen, hget, hlost, hact] at hperf
    have hmay : (s.energised a = false ∨ s.flag (Reg.MOTION_AX_STATUS_LOST a) = true ∨
        (last = 1 ∧ u.trigUnarmed a false = true)) ↔ ¬may := by
      simp only [may, not_and_or, Classical.not_imp, Bool.not_eq_true, Bool.not_eq_false]
    refine ⟨fun hb => ?_, fun hb hbad => ?_, fun hb hbad hm => ?_, fun hb hbad hm => ?_⟩
    · exact exec_err hr (hperf.trans (if_pos hb)) (by decide)
    · exact exec_err hr (hperf.trans ((if_neg hb).trans (if_pos hbad))) (by decide)
    · exact exec_err hr (hperf.trans ((if_neg hb).trans ((if_neg hbad).trans (if_pos (hmay.mpr hm))))) (by decide)
    · exact exec_accepts hr (hperf.trans ((if_neg hb).trans ((if_neg hbad).trans (if_neg fun hx => hmay.mp hx hm)))) rfl
        fun _ => rfl
  · exact exec_accepts hr rfl rfl fun _ => rfl
  · refine exec_replies hr ?_ rfl fun _ => rfl
    show cmdAxisRead _ _ = _
    simp only [cmdAxisRead, State.axisPassed, State.serving_get, State.serving_flag, State.serving_axisPos,
      State.serving_axis]
    rfl
  · intro c
    have hmoving : (s.serving h c).moving a = s.moving a := by simp [State.moving]
    refine ⟨fun hm => ?_, fun hm => ?_⟩
    · exact exec_err hr (if_pos (hmoving.trans hm)) (by decide)
    · exact exec_accepts hr (if_neg (by rw [hmoving, hm]; decide)) rfl fun _ => rfl
  · exact exec_accepts hr rfl rfl fun _ => rfl

end Sys2Proof.Machine
end

section
/-! SUPPORT. What an acknowledgement does to the DMA channels: the writes that leave their queues, and the progress of each
channel whose bursts they complete. -/

namespace Sys2Proof.Machine

variable {s u v : State} {n : Nat}

/-! ### Raising an event leaves the command that waits -/

theorem State.queueEvt_waiting (s : State) (e : Evt) : (s.queueEvt e).host.waiting = s.host.waiting := by
  unfold State.queueEvt
  dsimp only
  split_ifs <;> rfl

theorem State.logEvt_waiting (s : State) (e : Evt) : (s.logEvt e).host.waiting = s.host.waiting := by
  unfold State.logEvt
  split_ifs <;> rfl

theorem State.raise1_waiting (s : State) (c n : Nat) (a : List Byte) :
    (s.raise1 c n a).host.waiting = s.host.waiting := by
  unfold State.raise1
  exact (State.queueEvt_waiting _ _).trans (State.logEvt_waiting _ _)

@[simp] theorem State.raise_waiting (s : State) (c n : Nat) (a : List Byte) :
    (s.raise c n a).host.waiting = s.host.waiting := by
  unfold State.raise
  dsimp only
  split
  · exact (State.raise1_waiting _ _ _ _).trans (State.raise1_waiting s c n a)
  · exact State.raise1_waiting s c n a

/-! ### The writes that leave their queues -/

/-- Writes have left their queues: DRAM, the memory controller's record, the ports and the registers of memory. -/
structure Flushed (s u : State) : Prop where
  only : ∃ q r j d m, u = { s with ports := q, regs := r, just := j, dram := d, mem := m }
  get : ∀ q : Fld, q.offMemory → u.get q = s.get q

theorem Flushed.refl (s : State) : Flushed s s := ⟨⟨_, _, _, _, _, rfl⟩, fun _ _ => rfl⟩

theorem Flushed.trans (h : Flushed s u) (k : Flushed u v) : Flushed s v := by
  refine ⟨?_, fun q hq => (k.get q hq).trans (h.get q hq)⟩
  obtain ⟨_, _, _, _, _, rfl⟩ := h.only
  obtain ⟨_, _, _, _, _, rfl⟩ := k.only
  exact ⟨_, _, _, _, _, rfl⟩

theorem StoreFrame.flushed (h : StoreFrame s u) : Flushed s u := by
  refine ⟨?_, h.get⟩
  obtain ⟨_, _, _, _, rfl, -⟩ := h.only
  exact ⟨_, _, _, _, _, rfl⟩

theorem Flushed.mirrorWrite (s : State) (w : WReq) : Flushed s (s.mirrorWrite w) := by
  unfold State.mirrorWrite
  split
  · exact ⟨⟨_, _, _, _, _, rfl⟩, fun _ _ => rfl⟩
  · exact .refl s

/-- A write that reads nothing back: the fills that it waits for, and its mirror. -/
theorem State.commitWrite_mirrors {w : WReq} (hw : w.rmw = false) :
    s.commitWrite w = (s.waitFills w.addr w.data.length).mirrorWrite w := by
  unfold State.commitWrite
  rw [hw]
  rfl

theorem Flushed.commitWrite {w : WReq} (hw : w.rmw = false) (s : State) : Flushed s (s.commitWrite w) := by
  rw [State.commitWrite_mirrors hw]
  exact (StoreFrame.waitFills s _ _).flushed.trans (.mirrorWrite _ w)

theorem State.writes_mirrorWrite (s : State) (w : WReq) : (s.mirrorWrite w).mem.writes = s.mem.writes := by
  unfold State.mirrorWrite
  split
  · exact congrArg _ (State.sendTrans_mem ..)
  · rfl

theorem State.writes_commitWrite {w : WReq} (hw : w.rmw = false) (s : State) :
    (s.commitWrite w).mem.writes = s.mem.writes := by
  rw [State.commitWrite_mirrors hw, State.writes_mirrorWrite, State.writes_waitFills]

/-- The writes of a kind leave their queues, and the queues show. -/
def State.flush (s : State) (p : WReq → Bool) : State :=
  ((s.mem.writes.filter p).foldl State.commitWrite
    { s with mem := { s.mem with writes := s.mem.writes.filter (fun w => !p w) } }).showWrites

theorem State.commitWrites_eq (s : State) (p : WReq → Bool) : s.commitWrites p = (s.flush p).dmaAcked := rfl

section
variable (hw : ∀ w ∈ s.mem.writes, w.rmw = false) (p : WReq → Bool)
include hw

theorem Flushed.flush : Flushed s (s.flush p) := by
  have hfold : Flushed s ((s.mem.writes.filter p).foldl State.commitWrite
      { s with mem := { s.mem with writes := s.mem.writes.filter (fun w => !p w) } }) := by
    refine List.foldlRecOn (motive := Flushed s) _ State.commitWrite ⟨⟨_, _, _, _, _, rfl⟩, fun _ _ => rfl⟩ ?_
    intro u hu w hin
    exact hu.trans (.commitWrite (hw w (List.mem_filter.1 hin).1) u)
  refine hfold.trans ?_
  obtain ⟨⟨r, j, h⟩, hget⟩ := State.showWrites_keeps ((s.mem.writes.filter p).foldl State.commitWrite
    { s with mem := { s.mem with writes := s.mem.writes.filter (fun w => !p w) } })
  refine ⟨?_, hget⟩
  rw [State.flush] at *
  rw [h]
  exact ⟨_, _, _, _, _, rfl⟩

theorem State.writes_flush : (s.flush p).mem.writes = s.mem.writes.filter (fun w => !p w) := by
  unfold State.flush
  rw [State.mem_showWrites]
  refine List.foldlRecOn (motive := fun u : State => u.mem.writes = s.mem.writes.filter (fun w => !p w)) _
    State.commitWrite rfl ?_
  intro u hu w hin
  exact (State.writes_commitWrite (hw w (List.mem_filter.1 hin).1) u).trans hu

/-- With no zero fill under way the flush changes no byte. -/
theorem State.dram_flush (hf : s.mem.filling = []) : (s.flush p).dram = s.dram := by
  obtain ⟨q, hq⟩ := State.foldl_commitWrite_plain (l := s.mem.writes.filter p)
    (s := { s with mem := { s.mem with writes := s.mem.writes.filter (fun w => !p w) } }) hf
    fun w hin => hw w (List.mem_filter.1 hin).1
  obtain ⟨⟨r, j, h⟩, -⟩ := State.showWrites_keeps
    { s with ports := q, mem := { s.mem with writes := s.mem.writes.filter (fun w => !p w) } }
  unfold State.flush
  rw [hq, h]

end

/-! ### What belongs to one channel -/

/-- A field of a channel's own registers. -/
abbrev Fld.ofChannel (n : Nat) (f : Fld) : Prop := f.lo < 32 ∧ 0xA0000 + 128 * n ≤ f.addr ∧ f.addr < 0xA0000 + 128 * (n + 1)

/-- A field that a channel's progress leaves: neither its own, nor of the two maps of channels, nor one that an event
writes. -/
abbrev Fld.offChannel (n : Nat) (f : Fld) : Prop :=
  f.lo < 32 ∧ (f.addr < 0xA0000 + 128 * n ∨ 0xA0000 + 128 * (n + 1) ≤ f.addr) ∧ f.addr ≠ 0xA1000 ∧ f.addr ≠ 0xA1004 ∧
    f.key ∉ eventFields

theorem Fld.key_ne_of_channel {f q : Fld} (hf : f.ofChannel n) (hq : q.offChannel n) : q.key ≠ f.key := by
  obtain ⟨hqlo, hqaddr, -⟩ := hq
  obtain ⟨hlo, h1, h2⟩ := hf
  simp only [Fld.key]; omega

/-- A channel's own field lies off every other channel. -/
theorem Fld.ofChannel.off {f : Fld} {m : Nat} (hf : f.ofChannel n) (hn : n < 32) (hm : n ≠ m) : f.offChannel m := by
  obtain ⟨hlo, h1, h2⟩ := hf
  refine ⟨hlo, by omega, by omega, by omega, ?_⟩
  simp only [eventFields, List.mem_cons, List.not_mem_nil, or_false, Fld.key, Reg.LOG_STATUS_DROPPED,
    Reg.CMD_ERR_COUNT_EVT_LOST]
  omega

/-- A channel's progress: its own record and registers, the two maps of channels, an event, and a DMA_ABORT of the channel
that waits. -/
structure ChanStep (n : Nat) (s u : State) : Prop where
  only : ∃ h r j f d, u = { s with host := h, regs := r, just := j, free := f, dma := d } ∧ d.length = s.dma.length ∧
    ∀ m, m ≠ n → d.getD m .init = s.dma.getD m .init
  get : ∀ q : Fld, q.offChannel n → u.get q = s.get q
  waiting : u.host.waiting = s.host.waiting ∨
    (u.host.waiting = none ∧ ∃ h k, s.host.waiting = some ⟨h, .dmaAbort n, k⟩)

theorem ChanStep.refl (n : Nat) (s : State) : ChanStep n s s :=
  ⟨⟨_, _, _, _, _, rfl, rfl, fun _ _ => rfl⟩, fun _ _ => rfl, .inl rfl⟩

theorem ChanStep.trans (h : ChanStep n s u) (k : ChanStep n u v) : ChanStep n s v := by
  refine ⟨?_, fun q hq => (k.get q hq).trans (h.get q hq), ?_⟩
  · obtain ⟨_, _, _, _, _, rfl, hl, hd⟩ := h.only
    obtain ⟨_, _, _, _, _, rfl, kl, kd⟩ := k.only
    exact ⟨_, _, _, _, _, rfl, kl.trans hl, fun m hm => (kd m hm).trans (hd m hm)⟩
  · rcases k.waiting with hk | ⟨hk, hw⟩
    · rw [hk]; exact h.waiting
    · rcases h.waiting with hh | ⟨hh, -⟩
      · rw [hh] at hw; exact .inr ⟨hk, hw⟩
      · rw [hh] at hw; obtain ⟨_, _, hw⟩ := hw; cases hw

theorem ChanStep.set (s : State) {f : Fld} (hf : f.ofChannel n ∨ f.addr = 0xA1000 ∨ f.addr = 0xA1004) (hlo : f.lo < 32)
    (x : Nat) : ChanStep n s (s.set f x) := by
  refine ⟨⟨_, _, _, _, _, rfl, rfl, fun _ _ => rfl⟩, fun q hq => State.get_set_other s ?_ x, .inl rfl⟩
  rcases hf with hf | hf
  · exact Fld.key_ne_of_channel hf hq
  · obtain ⟨hqlo, -, h1, h2, -⟩ := hq
    simp only [Fld.key]; omega

theorem ChanStep.modDma (s : State) (g : DmaCh → DmaCh) : ChanStep n s (s.modDma n g) :=
  ⟨⟨_, _, _, _, _, rfl, modAt_length _ _ _, fun m hm => modAt_getD_other g .init n m s.dma hm⟩, fun _ _ => rfl, .inl rfl⟩

theorem ChanStep.raise (s : State) (c k : Nat) (a : List Byte) : ChanStep n s (s.raise c k a) := by
  refine ⟨?_, fun q hq => State.raise_get s c k a hq.2.2.2.2, .inl (State.raise_waiting s c k a)⟩
  obtain ⟨h, r, f, e⟩ := State.raise_onlyHost s c k a
  rw [e]
  exact ⟨_, _, _, _, _, rfl, rfl, fun _ _ => rfl⟩

theorem ChanStep.ite {c : Prop} [Decidable c] {u v : State} (hu : ChanStep n s u) (hv : ChanStep n s v) :
    ChanStep n s (if c then u else v) := by
  split
  · exact hu
  · exact hv

theorem ChanStep.dmaShow (n : Nat) (s : State) : ChanStep n s (s.dmaShow n) := by
  have h1 : (Reg.DMA_CH_STATUS_IN_FLIGHT n).ofChannel n := by simp only [Fld.ofChannel, Reg.DMA_CH_STATUS_IN_FLIGHT]; omega
  have h2 : (Reg.DMA_CH_DONE_LO n).ofChannel n := by simp only [Fld.ofChannel, Reg.DMA_CH_DONE_LO]; omega
  have h3 : (Reg.DMA_CH_DONE_HI n).ofChannel n := by simp only [Fld.ofChannel, Reg.DMA_CH_DONE_HI]; omega
  exact ((ChanStep.set s (.inl h1) h1.1 _).trans (.set _ (.inl h2) h2.1 _)).trans (.set _ (.inl h3) h3.1 _)

theorem ChanStep.dmaMarks (n : Nat) (s : State) (run : Bool) : ChanStep n s (s.dmaMarks n run) := by
  have h1 : (Reg.DMA_CH_STATUS_RUNNING n).ofChannel n := by simp only [Fld.ofChannel, Reg.DMA_CH_STATUS_RUNNING]; omega
  have h2 : (Reg.DMA_CH_STATUS_SHADOW n).ofChannel n := by simp only [Fld.ofChannel, Reg.DMA_CH_STATUS_SHADOW]; omega
  exact (((ChanStep.set s (.inl h1) h1.1 _).trans (.set _ (.inl h2) h2.1 _)).trans
    (.set _ (.inr (.inl rfl)) (by decide) _)).trans (.set _ (.inr (.inr rfl)) (by decide) _)

theorem ChanStep.dmaHalf (n : Nat) (s : State) : ChanStep n s (s.dmaHalf n) :=
  .ite ((ChanStep.modDma s _).trans (.raise _ _ _ _)) (.refl n s)

theorem ChanStep.dmaAbortReply (n : Nat) (s : State) : ChanStep n s (s.dmaAbortReply n) := by
  unfold State.dmaAbortReply
  split
  next h ch k hw =>
    split
    next hc =>
      obtain ⟨rfl, -⟩ := hc
      have hstep := (ChanStep.modDma s (n := ch) (fun c => { c with aborting := false, next := 0 })).trans
        (.dmaMarks ch _ false)
      obtain ⟨x, hx⟩ := State.reply_frame
        { (s.modDma ch (fun c => { c with aborting := false, next := 0 })).dmaMarks ch false with
          host := { (s.modDma ch (fun c => { c with aborting := false, next := 0 })).host with waiting := none } }
        h 0x0103 stOk false (leBytes 8 (s.dmaCh ch).done)
      refine ⟨?_, fun q hq => (State.reply_get ..).trans (hstep.get q hq), .inr ⟨?_, h, k, hw⟩⟩
      · obtain ⟨_, _, _, _, _, e, hl, hd⟩ := hstep.only
        dsimp only
        rw [hx, e]
        exact ⟨_, _, _, _, _, rfl, hl, hd⟩
      · dsimp only
        unfold State.reply
        split <;> rfl
    · exact .refl n s
  · exact .refl n s

/-! ### A channel's progress -/

/-- The channel after an acknowledgement. -/
def State.chanAcked (s : State) (n : Nat) : State :=
  if (s.dmaCh n).flight.isEmpty then s else ((s.dmaPush n false).dmaShow n).dmaProgress n

theorem State.dmaAcked_eq (s : State) : s.dmaAcked = (List.range 32).foldl State.chanAcked s := rfl

theorem State.chanAcked_empty (h : (s.dmaCh n).flight = []) : s.chanAcked n = s := by
  unfold State.chanAcked
  rw [h]
  rfl

/-- A channel whose writes are all issued has none to issue. -/
theorem State.dmaPush_issued (h : ∀ x ∈ (s.dmaCh n).flight, x.todo = []) (all : Bool) : s.dmaPush n all = s := by
  have hsum : ((s.dmaCh n).flight.map (fun b => b.todo.length)).sum = 0 := by
    rw [List.sum_eq_zero_iff]
    intro x hx
    obtain ⟨b, hb, rfl⟩ := List.mem_map.1 hx
    rw [h b hb]; rfl
  unfold State.dmaPush
  rw [hsum]
  rfl

/-- The progress of a channel whose first bursts, up to `b`, are acknowledged. -/
theorem State.dmaProgress_some {b : DmaBurst} (h : ((s.dmaCh n).flight.takeWhile (s.burstAcked n)).getLast? = some b) :
    s.dmaProgress n = (((s.modDma n (fun c => { c with
      flight := (s.dmaCh n).flight.dropWhile (s.burstAcked n), done := b.off + b.len })).dmaHalf n).dmaShow n).dmaAbortReply
        n := by
  have hdrop : (s.dmaCh n).flight.drop ((s.dmaCh n).flight.takeWhile (s.burstAcked n)).length =
      (s.dmaCh n).flight.dropWhile (s.burstAcked n) := by
    have happend := List.drop_left (l₁ := (s.dmaCh n).flight.takeWhile (s.burstAcked n))
      (l₂ := (s.dmaCh n).flight.dropWhile (s.burstAcked n))
    rwa [List.takeWhile_append_dropWhile] at happend
  unfold State.dmaProgress
  dsimp only
  rw [h, hdrop]

theorem State.dmaProgress_none (h : ((s.dmaCh n).flight.takeWhile (s.burstAcked n)).getLast? = none) :
    s.dmaProgress n = s := by
  unfold State.dmaProgress
  dsimp only
  rw [h]

theorem ChanStep.dmaProgress (n : Nat) (s : State) : ChanStep n s (s.dmaProgress n) := by
  cases h : ((s.dmaCh n).flight.takeWhile (s.burstAcked n)).getLast? with
  | none => rw [State.dmaProgress_none h]; exact .refl n s
  | some b =>
    rw [State.dmaProgress_some h]
    exact (((ChanStep.modDma s _).trans (.dmaHalf n _)).trans (.dmaShow n _)).trans (.dmaAbortReply n _)

theorem ChanStep.chanAcked (h : ∀ x ∈ (s.dmaCh n).flight, x.todo = []) : ChanStep n s (s.chanAcked n) := by
  unfold State.chanAcked
  rw [State.dmaPush_issued h]
  exact .ite (.refl n s) ((ChanStep.dmaShow n s).trans (.dmaProgress n _))

/-! ### The record of a channel through its own progress -/

theorem State.dmaCh_modDma_same (hn : n < s.dma.length) (g : DmaCh → DmaCh) : (s.modDma n g).dmaCh n = g (s.dmaCh n) :=
  modAt_getD_same g .init n s.dma hn

@[simp] theorem State.dmaCh_dmaShow (s : State) (n m : Nat) : (s.dmaShow n).dmaCh m = s.dmaCh m := rfl
@[simp] theorem State.dmaCh_dmaMarks (s : State) (n m : Nat) (run : Bool) : (s.dmaMarks n run).dmaCh m = s.dmaCh m := rfl

theorem State.get_dmaShow_other {q : Fld} (hlo : q.lo < 32) (h1 : q.key ≠ (Reg.DMA_CH_STATUS_IN_FLIGHT n).key)
    (h2 : q.addr ≠ 0xA0048 + 128 * n) (h3 : q.addr ≠ 0xA004C + 128 * n) : (s.dmaShow n).get q = s.get q := by
  unfold State.dmaShow
  dsimp only
  rw [State.get_set_other, State.get_set_other, State.get_set_other]
  · exact h1
  · simp only [Fld.key, Reg.DMA_CH_DONE_LO]; omega
  · simp only [Fld.key, Reg.DMA_CH_DONE_HI]; omega

@[simp] theorem State.dmaActive_dmaShow (s : State) (n : Nat) : (s.dmaShow n).dmaActive n = s.dmaActive n := by
  refine List.map_congr_left fun w hw => ?_
  have hw8 := List.mem_range.1 hw
  refine State.get_dmaShow_other (by simp [Reg.DMA_CH_ACTIVE]) ?_ ?_ ?_
  · simp only [Fld.key, Reg.DMA_CH_ACTIVE, Reg.DMA_CH_STATUS_IN_FLIGHT]; omega
  · simp only [Reg.DMA_CH_ACTIVE]; omega
  · simp only [Reg.DMA_CH_ACTIVE]; omega

theorem State.running_dmaShow (s : State) (n : Nat) :
    (s.dmaShow n).get (Reg.DMA_CH_STATUS_RUNNING n) = s.get (Reg.DMA_CH_STATUS_RUNNING n) := by
  refine State.get_dmaShow_other (by simp [Reg.DMA_CH_STATUS_RUNNING]) ?_ ?_ ?_
  · simp only [Fld.key, Reg.DMA_CH_STATUS_RUNNING, Reg.DMA_CH_STATUS_IN_FLIGHT]; omega
  · simp only [Reg.DMA_CH_STATUS_RUNNING]; omega
  · simp only [Reg.DMA_CH_STATUS_RUNNING]; omega

theorem State.burstAcked_congr (hm : u.mem = s.mem) (hc : u.dmaCh n = s.dmaCh n) (ha : u.dmaActive n = s.dmaActive n) :
    u.burstAcked n = s.burstAcked n := by
  funext b
  unfold State.burstAcked
  rw [hm, hc, ha]

@[simp] theorem State.burstAcked_dmaShow (s : State) (n : Nat) : (s.dmaShow n).burstAcked n = s.burstAcked n :=
  State.burstAcked_congr rfl rfl (State.dmaActive_dmaShow s n)

@[simp] theorem State.dmaActive_modDma (s : State) (n m : Nat) (g : DmaCh → DmaCh) :
    (s.modDma n g).dmaActive m = s.dmaActive m := rfl

/-- The half event is due: it is asked for, not yet raised, and BYTES_DONE has reached half of LEN (R321). -/
def State.halfDue (s : State) (n : Nat) : Bool :=
  bit (dCtrl (s.dmaActive n)) 0 && !(s.dmaCh n).halfRaised &&
    decide ((dLen (s.dmaActive n) + 1) / 2 ≤ (s.dmaCh n).done)

theorem State.dmaHalf_due (h : s.halfDue n = true) : s.dmaHalf n =
    (s.modDma n (fun c => { c with halfRaised := true })).raise evDmaHalf 0 (leBytes 8 n ++ leBytes 8 (s.dmaCh n).done) :=
  if_pos h

theorem State.dmaHalf_early (h : s.halfDue n = false) : s.dmaHalf n = s := 
  if_neg fun hc => by rw [show s.halfDue n = true from hc] at h; cases h

/-- The half event marks that it was raised. -/
theorem State.dmaCh_dmaHalf (hn : n < s.dma.length) : (s.dmaHalf n).dmaCh n =
    { s.dmaCh n with halfRaised := (s.dmaCh n).halfRaised || (bit (dCtrl (s.dmaActive n)) 0 &&
      decide ((dLen (s.dmaActive n) + 1) / 2 ≤ (s.dmaCh n).done)) } := by
  cases h : s.halfDue n with
  | true =>
    rw [State.dmaHalf_due h]
    have hraise : ∀ u : State, ∀ c k a, (u.raise c k a).dmaCh n = u.dmaCh n := fun u c k a => by
      unfold State.dmaCh; rw [State.raise_dma]
    rw [hraise, State.dmaCh_modDma_same hn]
    simp only [State.halfDue, Bool.and_eq_true, Bool.not_eq_true'] at h
    simp [h]
  | false =>
    rw [State.dmaHalf_early h]
    have hval : ((s.dmaCh n).halfRaised || (bit (dCtrl (s.dmaActive n)) 0 &&
        decide ((dLen (s.dmaActive n) + 1) / 2 ≤ (s.dmaCh n).done))) = (s.dmaCh n).halfRaised := by
      unfold State.halfDue at h
      revert h
      cases (s.dmaCh n).halfRaised <;> cases bit (dCtrl (s.dmaActive n)) 0 <;> simp
    rw [hval]

/-- A half event leaves the registers of the channels. -/
theorem State.get_dmaHalf {q : Fld} (hq : q.key ∉ eventFields) : (s.dmaHalf n).get q = s.get q := by
  unfold State.dmaHalf
  dsimp only
  split
  · exact State.raise_get _ _ _ _ hq
  · rfl

@[simp] theorem State.dmaHalf_waiting : (s.dmaHalf n).host.waiting = s.host.waiting := by
  unfold State.dmaHalf
  dsimp only
  split
  · exact State.raise_waiting _ _ _ _
  · rfl

theorem State.dmaAbortReply_none (h : s.host.waiting = none) : s.dmaAbortReply n = s := by
  unfold State.dmaAbortReply
  rw [h]

theorem State.dmaAbortReply_due {h : Hdr} {k : Nat} (hw : s.host.waiting = some ⟨h, .dmaAbort n, k⟩)
    (hf : (s.dmaCh n).flight = []) : s.dmaAbortReply n =
      ({ (s.modDma n (fun c => { c with aborting := false, next := 0 })).dmaMarks n false with
        host := { s.host with waiting := none } } : State).reply h 0x0103 stOk false (leBytes 8 (s.dmaCh n).done) := by
  unfold State.dmaAbortReply
  rw [hw]
  exact if_pos ⟨rfl, by rw [hf]; rfl⟩

/-- The answer to a DMA_ABORT leaves what its channel has done. -/
theorem State.dmaCh_dmaAbortReply (hn : n < s.dma.length) :
    ((s.dmaAbortReply n).dmaCh n).flight = (s.dmaCh n).flight ∧ ((s.dmaAbortReply n).dmaCh n).done = (s.dmaCh n).done ∧
      ((s.dmaAbortReply n).dmaCh n).halfRaised = (s.dmaCh n).halfRaised := by
  unfold State.dmaAbortReply
  split
  next h ch k hw =>
    split
    next hc =>
      obtain ⟨rfl, -⟩ := hc
      have hdma : ∀ u : State, ∀ a b c d e, (u.reply a b c d e).dmaCh ch = u.dmaCh ch := fun u a b c d e => by
        unfold State.dmaCh; rw [State.reply_dma]
      rw [hdma]
      have hch : (s.modDma ch (fun c => { c with aborting := false, next := 0 })).dmaCh ch =
        { s.dmaCh ch with aborting := false, next := 0 } := State.dmaCh_modDma_same hn _
      show ((s.modDma ch _).dmaCh ch).flight = _ ∧ ((s.modDma ch _).dmaCh ch).done = _ ∧
        ((s.modDma ch _).dmaCh ch).halfRaised = _
      rw [hch]
      exact ⟨rfl, rfl, rfl⟩
    · exact ⟨rfl, rfl, rfl⟩
  · exact ⟨rfl, rfl, rfl⟩

/-- A channel that its marks show idle. -/
theorem State.running_dmaMarks (s : State) (n : Nat) (run : Bool) :
    (s.dmaMarks n run).get (Reg.DMA_CH_STATUS_RUNNING n) = run.toNat := by
  unfold State.dmaMarks
  dsimp only
  rw [State.get_set_other, State.get_set_other]
  · unfold State.setB
    rw [State.get_set_other, State.get_set_same]
    · cases run <;> rfl
    · simp only [Fld.key, Reg.DMA_CH_STATUS_RUNNING, Reg.DMA_CH_STATUS_SHADOW]; omega
  · simp only [Fld.key, Reg.DMA_CH_STATUS_RUNNING, Reg.DMA_BUSY_CHANNELS]; omega
  · simp only [Fld.key, Reg.DMA_CH_STATUS_RUNNING, Reg.DMA_SHADOWED_CHANNELS]; omega

/-! ### The channel whose burst is acknowledged -/

/-- BYTES_DONE covers the bursts acknowledged from the start on, the last of which is `b`. -/
def State.chanDone (s : State) (n : Nat) (b : DmaBurst) : State :=
  ((s.dmaShow n).modDma n (fun c => { c with
    flight := (s.dmaCh n).flight.dropWhile (s.burstAcked n), done := b.off + b.len }))

section
variable {b : DmaBurst} (hn : n < s.dma.length) (hidle : ∀ x ∈ (s.dmaCh n).flight, x.todo = [])
  (hb : ((s.dmaCh n).flight.takeWhile (s.burstAcked n)).getLast? = some b)

include hidle hb in
theorem State.chanAcked_some : s.chanAcked n = (((s.chanDone n b).dmaHalf n).dmaShow n).dmaAbortReply n := by
  have hne : (s.dmaCh n).flight ≠ [] := fun h => by rw [h] at hb; cases hb
  unfold State.chanAcked
  rw [if_neg (by simpa using hne), State.dmaPush_issued hidle, State.dmaProgress_some (b := b)]
  · rw [State.burstAcked_dmaShow]; rfl
  · rw [State.burstAcked_dmaShow]; exact hb

include hn in
theorem State.dmaCh_chanDone : (s.chanDone n b).dmaCh n = { s.dmaCh n with
    flight := (s.dmaCh n).flight.dropWhile (s.burstAcked n), done := b.off + b.len } :=
  State.dmaCh_modDma_same (s := s.dmaShow n) hn _

@[simp] theorem State.dmaActive_chanDone : (s.chanDone n b).dmaActive n = s.dmaActive n := State.dmaActive_dmaShow s n

theorem State.running_chanDone :
    (s.chanDone n b).get (Reg.DMA_CH_STATUS_RUNNING n) = s.get (Reg.DMA_CH_STATUS_RUNNING n) := State.running_dmaShow s n

theorem running_notEvent (n : Nat) : (Reg.DMA_CH_STATUS_RUNNING n).key ∉ eventFields := by
  simp only [eventFields, List.mem_cons, List.not_mem_nil, or_false, Fld.key, Reg.LOG_STATUS_DROPPED,
    Reg.CMD_ERR_COUNT_EVT_LOST, Reg.DMA_CH_STATUS_RUNNING]
  omega

include hn in
theorem State.length_chanHalf : n < (((s.chanDone n b).dmaHalf n).dmaShow n).dma.length := by
  obtain ⟨_, _, _, _, _, e, hl, -⟩ := ((ChanStep.dmaShow n s).trans (.modDma _ _) : ChanStep n s (s.chanDone n b)).trans
    ((ChanStep.dmaHalf n _).trans (.dmaShow n _)) |>.only
  rw [e]
  exact hl ▸ hn

include hn hidle hb in
/-- What the record of the channel holds then. -/
theorem State.dmaCh_chanAcked : ((s.chanAcked n).dmaCh n).flight = (s.dmaCh n).flight.dropWhile (s.burstAcked n) ∧
    ((s.chanAcked n).dmaCh n).done = b.off + b.len ∧
    ((s.chanAcked n).dmaCh n).halfRaised = ((s.dmaCh n).halfRaised || (bit (dCtrl (s.dmaActive n)) 0 &&
      decide ((dLen (s.dmaActive n) + 1) / 2 ≤ b.off + b.len))) := by
  have hch := State.dmaCh_chanDone (b := b) hn
  have hlen : n < (s.chanDone n b).dma.length := (modAt_length _ n s.dma).symm ▸ hn
  obtain ⟨hf, hd, hh⟩ := State.dmaCh_dmaAbortReply (State.length_chanHalf (b := b) hn)
  rw [State.chanAcked_some hidle hb]
  rw [State.dmaCh_dmaShow, State.dmaCh_dmaHalf hlen, hch, State.dmaActive_chanDone] at hf hd hh
  exact ⟨hf, hd, hh⟩

include hidle hb in
theorem State.running_chanAcked (hw : s.host.waiting = none) :
    (s.chanAcked n).get (Reg.DMA_CH_STATUS_RUNNING n) = s.get (Reg.DMA_CH_STATUS_RUNNING n) := by
  rw [State.chanAcked_some hidle hb, State.dmaAbortReply_none, State.running_dmaShow,
    State.get_dmaHalf (running_notEvent n), State.running_chanDone]
  exact State.dmaHalf_waiting.trans hw

include hn hidle hb in
/-- A DMA_ABORT that waits for the last burst is answered: the channel is idle. -/
theorem State.aborted_chanAcked {h : Hdr} {k : Nat} (hw : s.host.waiting = some ⟨h, .dmaAbort n, k⟩)
    (he : (s.dmaCh n).flight.dropWhile (s.burstAcked n) = []) :
    (s.chanAcked n).host.waiting = none ∧ (s.chanAcked n).get (Reg.DMA_CH_STATUS_RUNNING n) = 0 := by
  have hlen : n < (s.chanDone n b).dma.length := (modAt_length _ n s.dma).symm ▸ hn
  have hwait : (((s.chanDone n b).dmaHalf n).dmaShow n).host.waiting = some ⟨h, .dmaAbort n, k⟩ :=
    State.dmaHalf_waiting.trans hw
  have hempty : ((((s.chanDone n b).dmaHalf n).dmaShow n).dmaCh n).flight = [] := by
    rw [State.dmaCh_dmaShow, State.dmaCh_dmaHalf hlen, State.dmaCh_chanDone hn]; exact he
  rw [State.chanAcked_some hidle hb, State.dmaAbortReply_due hwait hempty]
  refine ⟨?_, ?_⟩
  · unfold State.reply; split <;> rfl
  · rw [State.reply_get]; exact State.running_dmaMarks _ n false

end

/-! ### The channels one after another -/

/-- Where no other channel has a burst, an acknowledgement is that of the channel. -/
theorem State.dmaAcked_one (hn : n < 32) (hidle : ∀ x ∈ (s.dmaCh n).flight, x.todo = [])
    (hother : ∀ m, m < 32 → m ≠ n → (s.dmaCh m).flight = []) : s.dmaAcked = s.chanAcked n := by
  obtain ⟨l₁, l₂, hsplit⟩ := List.append_of_mem (List.mem_range.2 hn)
  have hnodup := List.nodup_range (n := 32)
  rw [hsplit] at hnodup
  have hmem : ∀ m, m ∈ l₁ ∨ m ∈ l₂ → m < 32 ∧ m ≠ n := by
    intro m hm
    have hin : m ∈ List.range 32 := by rw [hsplit]; simp; tauto
    refine ⟨List.mem_range.1 hin, ?_⟩
    rintro rfl
    obtain ⟨-, ⟨hafter, -⟩, hbefore⟩ : l₁.Nodup ∧ (m ∉ l₂ ∧ l₂.Nodup) ∧ ∀ a ∈ l₁, ¬a = m ∧ ∀ b ∈ l₂, ¬a = b := by
      simpa [List.nodup_append] using hnodup
    exact hm.elim (fun h => (hbefore m h).1 rfl) hafter
  have hskip : ∀ (l : List Nat) (u : State), (∀ m ∈ l, (u.dmaCh m).flight = []) → l.foldl State.chanAcked u = u := by
    intro l u hl
    exact List.foldlRecOn (motive := (· = u)) l _ rfl fun w hw m hm => by rw [hw, State.chanAcked_empty (hl m hm)]
  rw [State.dmaAcked_eq, hsplit, List.foldl_append, List.foldl_cons,
    hskip l₁ s fun m hm => hother m (hmem m (.inl hm)).1 (hmem m (.inl hm)).2]
  refine hskip l₂ _ fun m hm => ?_
  obtain ⟨h32, hne⟩ := hmem m (.inr hm)
  obtain ⟨_, _, _, _, _, e, -, hd⟩ := (ChanStep.chanAcked hidle).only
  rw [e]
  exact (congrArg DmaCh.flight (hd m hne)).trans (hother m h32 hne)

end Sys2Proof.Machine
end

section
/-! SUPPORT. DMA_ABORT (R325): on an idle channel, on a channel with nothing in flight, and the reply that waits for the
bursts in flight. -/

namespace Sys2Proof.Machine

variable {s u : State} {h : Hdr} {c : HostCmd} {n : Nat}

/-- DMA_ABORT of a channel that runs: the shadow is discarded, and the reply waits for what is in flight. -/
theorem cmdDmaAbort_running (hv : n ≤ 31) (hr : u.dmaRunning n = true) : cmdDmaAbort n u =
    let w := u.modDma n (fun c => { c with committed := false })
    if (w.dmaCh n).flight.isEmpty then
      Res.okData (leBytes 8 (u.dmaCh n).done) ((w.modDma n (fun c => { c with next := 0 })).dmaMarks n false)
    else ⟨stOk, [], (w.modDma n (fun c => { c with aborting := true })).dmaMarks n true, true⟩ := by
  unfold cmdDmaAbort
  rw [if_neg (by omega), if_neg (by simp [hr])]

theorem cmdDmaAbort_idle (hv : n ≤ 31) (hr : u.dmaRunning n = false) : cmdDmaAbort n u = Res.okData (leBytes 8 0) u := by
  unfold cmdDmaAbort
  rw [if_neg (by omega), if_pos (by simp [hr])]

/-- The state in which a DMA_ABORT waits for the bursts in flight. -/
def State.aborting (s : State) (n : Nat) (k : Cmd) : State :=
  { ((s.modDma n (fun c => { c with committed := false })).modDma n (fun c => { c with aborting := true })).dmaMarks n true
    with host := { s.host with outstanding := s.host.outstanding.drop 1, waiting := some k } }

theorem State.dmaCh_aborting (hn : n < s.dma.length) (k : Cmd) : (s.aborting n k).dmaCh n =
    { s.dmaCh n with committed := false, aborting := true } := by
  show ((s.modDma n _).modDma n _).dmaCh n = _
  rw [State.dmaCh_modDma_same (by simpa using hn), State.dmaCh_modDma_same hn]

/-- A command that waits is no longer outstanding, and replies later. -/
theorem exec_waitsForReply {t : State} (hr : Ready h c s) (hp : (s.serving h c).perform h c = ⟨stOk, [], t, true⟩) :
    exec (instrOf h c) s = .next { t with host := { t.host with
      outstanding := t.host.outstanding.drop 1, waiting := some ⟨h, c, 0xFE⟩ } } := by
  have hs : (s.serving h c).flag Reg.CMD_STATUS_READY = s.flag Reg.CMD_STATUS_READY := by simp
  rw [exec_instrOf, hostCommand_placed hr.toPlaced]
  unfold State.runCmd State.result
  simp only [hs, hr.serves, if_true, hp]

/-- A reply is no event. -/
@[simp] theorem State.reply_queued (op st : Nat) (dup : Bool) (d : List Byte) : (s.reply h op st dup d).queued = s.queued := by
  unfold State.reply State.queued
  split
  · rfl
  · simp [OutItem.evt?]

/-- Queue and marks show nothing of the active descriptor. -/
theorem State.dmaActive_dmaMarks (s : State) (h32 : n < 32) (run : Bool) :
    (s.dmaMarks n run).dmaActive n = s.dmaActive n := by
  refine List.map_congr_left fun w hw => ?_
  have hw8 := List.mem_range.1 hw
  unfold State.dmaMarks State.setB
  dsimp only
  rw [State.get_set_other, State.get_set_other, State.get_set_other, State.get_set_other]
  · simp only [Fld.key, Reg.DMA_CH_ACTIVE, Reg.DMA_CH_STATUS_RUNNING]; omega
  · simp only [Fld.key, Reg.DMA_CH_ACTIVE, Reg.DMA_CH_STATUS_SHADOW]; omega
  · simp only [Fld.key, Reg.DMA_CH_ACTIVE, Reg.DMA_BUSY_CHANNELS]; omega
  · simp only [Fld.key, Reg.DMA_CH_ACTIVE, Reg.DMA_SHADOWED_CHANNELS]; omega

theorem Flushed.dma (hf : Flushed s u) : u.dma = s.dma := by
  obtain ⟨_, _, _, _, _, rfl⟩ := hf.only
  rfl

theorem Flushed.host (hf : Flushed s u) : u.host = s.host := by
  obtain ⟨_, _, _, _, _, rfl⟩ := hf.only
  rfl

theorem Flushed.dmaCh (hf : Flushed s u) (n : Nat) : u.dmaCh n = s.dmaCh n := by
  unfold State.dmaCh; rw [hf.dma]

theorem Flushed.dmaActive (hf : Flushed s u) (n : Nat) : u.dmaActive n = s.dmaActive n := by
  refine List.map_congr_left fun w _ => hf.get (Reg.DMA_CH_ACTIVE n w) (Fld.offMemory_of_addr ?_ ?_)
  · simp [Reg.DMA_CH_ACTIVE]
  · simp only [Reg.DMA_CH_ACTIVE]; omega

/-- An acknowledgement on a channel with bursts in flight. -/
theorem State.dmaAck_flight {b : DmaBurst} {l : List DmaBurst} (hf : (s.dmaCh n).flight = b :: l) : s.dmaAck n =
    (s.flush (fun w => w.chan == some (n, (s.dmaCh n).pass) && inBurst (s.dmaActive n) b w)).dmaAcked := by
  unfold State.dmaAck
  rw [hf]
  exact State.commitWrites_eq _ _

/-- The writes of the burst acknowledged have left the queues: it is acknowledged. -/
theorem State.burstAcked_flush {b : DmaBurst} (hw : ∀ w ∈ s.mem.writes, w.rmw = false) (htodo : b.todo = [])
    (hbad : b.bad = []) :
    (s.flush (fun w => w.chan == some (n, (s.dmaCh n).pass) && inBurst (s.dmaActive n) b w)).burstAcked n b = true := by
  have hf := Flushed.flush hw (fun w => w.chan == some (n, (s.dmaCh n).pass) && inBurst (s.dmaActive n) b w)
  unfold State.burstAcked
  rw [State.writes_flush hw, hf.dmaCh, hf.dmaActive, htodo, hbad]
  simp only [List.isEmpty_nil, Bool.and_self, Bool.true_and, List.all_eq_true, List.mem_filter]
  rintro w ⟨-, hw⟩
  simpa [bne, ← Bool.not_and] using hw

@[simp] theorem State.dmaShow_host (s : State) (n : Nat) : (s.dmaShow n).host = s.host := rfl

theorem hierId_offChannel (h32 : n < 32) : Reg.HIER_ID.offChannel n :=
  ⟨by decide, .inr (by simp only [Reg.HIER_ID]; omega), by decide, by decide, by decide⟩

/-- The reply of a DMA_ABORT whose bursts are acknowledged, and the state that it is sent in. -/
theorem State.dmaAbortReply_answers {k : Nat} (hn : n < s.dma.length) (h32 : n < 32)
    (hwait : s.host.waiting = some ⟨h, .dmaAbort n, k⟩)
    (hf : (s.dmaCh n).flight = []) : ∃ v : State, s.dmaAbortReply n =
      v.reply h 0x0103 stOk false (leBytes 8 (v.dmaCh n).done) ∧ v.host = { s.host with waiting := none } ∧
      v.get (Reg.DMA_CH_STATUS_RUNNING n) = 0 ∧ v.get Reg.HIER_ID = s.get Reg.HIER_ID := by
  have hdone : ((s.modDma n (fun c => { c with aborting := false, next := 0 })).dmaCh n).done = (s.dmaCh n).done := by
    rw [State.dmaCh_modDma_same hn]
  have hstep : ChanStep n s ((s.modDma n (fun c => { c with aborting := false, next := 0 })).dmaMarks n false) :=
    (ChanStep.modDma s _).trans (.dmaMarks n _ false)
  refine ⟨{ (s.modDma n (fun c => { c with aborting := false, next := 0 })).dmaMarks n false with
    host := { s.host with waiting := none } }, ?_, rfl, ?_, ?_⟩
  · rw [State.dmaAbortReply_due hwait hf]
    exact congrArg (fun d => State.reply _ h 0x0103 stOk false (leBytes 8 d)) hdone.symm
  · exact State.running_dmaMarks _ n false
  · exact hstep.get _ (hierId_offChannel h32)

/-- The last burst of a channel whose DMA_ABORT waits is acknowledged, with no half event asked for: the channel is idle, and
the reply tells BYTES_DONE. -/
theorem State.chanAcked_aborts {b : DmaBurst} {k : Nat} (hn : n < s.dma.length) (h32 : n < 32)
    (hf : (s.dmaCh n).flight = [b]) (htodo : b.todo = []) (hacked : s.burstAcked n b = true)
    (hev : bit (dCtrl (s.dmaActive n)) 0 = false) (hwait : s.host.waiting = some ⟨h, .dmaAbort n, k⟩) :
    ∃ v : State, s.chanAcked n = v.reply h 0x0103 stOk false (leBytes 8 (v.dmaCh n).done) ∧
      v.host = { s.host with waiting := none } ∧ v.get (Reg.DMA_CH_STATUS_RUNNING n) = 0 ∧
      v.get Reg.HIER_ID = s.get Reg.HIER_ID := by
  have hidle : ∀ x ∈ (s.dmaCh n).flight, x.todo = [] := by rw [hf]; simpa using htodo
  have hb : ((s.dmaCh n).flight.takeWhile (s.burstAcked n)).getLast? = some b := by rw [hf]; simp [hacked]
  have he : (s.dmaCh n).flight.dropWhile (s.burstAcked n) = [] := by rw [hf]; simp [hacked]
  have hearly : (s.chanDone n b).dmaHalf n = s.chanDone n b := by
    refine State.dmaHalf_early ?_
    unfold State.halfDue
    rw [State.dmaActive_chanDone, hev]
    rfl
  have hlen := State.length_chanHalf (b := b) hn
  have hch : (((s.chanDone n b).dmaShow n).dmaCh n).flight = [] := by
    rw [State.dmaCh_dmaShow, State.dmaCh_chanDone hn]; exact he
  have hstep : ChanStep n s ((s.chanDone n b).dmaShow n) :=
    ((ChanStep.dmaShow n s).trans (.modDma _ _)).trans (.dmaShow n _)
  have hhost : ((s.chanDone n b).dmaShow n).host = s.host := by
    rw [State.dmaShow_host, State.chanDone, State.modDma_host, State.dmaShow_host]
  rw [hearly] at hlen
  rw [State.chanAcked_some hidle hb, hearly]
  generalize (s.chanDone n b).dmaShow n = z at hlen hch hstep hhost
  obtain ⟨v, hv, hvh, hrun, hid⟩ := State.dmaAbortReply_answers hlen h32 (by rw [hhost, hwait]) hch
  exact ⟨v, hv, by rw [hvh, hhost], hrun, by rw [hid, hstep.get _ (hierId_offChannel h32)]⟩

/-- The acknowledgement of the only burst under way, of a channel whose DMA_ABORT waits. -/
theorem State.dmaAck_aborts {b : DmaBurst} {k : Nat} (hn : n < s.dma.length) (h32 : n < 32)
    (hf : (s.dmaCh n).flight = [b]) (htodo : b.todo = []) (hbad : b.bad = []) (hw : ∀ w ∈ s.mem.writes, w.rmw = false)
    (hother : ∀ m, m < 32 → m ≠ n → (s.dmaCh m).flight = []) (hev : bit (dCtrl (s.dmaActive n)) 0 = false)
    (hwait : s.host.waiting = some ⟨h, .dmaAbort n, k⟩) :
    ∃ v : State, s.dmaAck n = v.reply h 0x0103 stOk false (leBytes 8 (v.dmaCh n).done) ∧
      v.host = { s.host with waiting := none } ∧ v.get (Reg.DMA_CH_STATUS_RUNNING n) = 0 ∧
      v.get Reg.HIER_ID = s.get Reg.HIER_ID := by
  rw [State.dmaAck_flight hf]
  have hacked := State.burstAcked_flush (n := n) hw htodo hbad
  have hfl := Flushed.flush hw (fun w => w.chan == some (n, (s.dmaCh n).pass) && inBurst (s.dmaActive n) b w)
  generalize s.flush (fun w => w.chan == some (n, (s.dmaCh n).pass) && inBurst (s.dmaActive n) b w) = y at hacked hfl
  have hyf : (y.dmaCh n).flight = [b] := by rw [hfl.dmaCh, hf]
  have hyn : n < y.dma.length := by rw [hfl.dma]; exact hn
  rw [State.dmaAcked_one h32 (by rw [hyf]; simpa using htodo) fun m hm hne => by rw [hfl.dmaCh, hother m hm hne]]
  obtain ⟨v, hv, hvh, hrun, hid⟩ := State.chanAcked_aborts hyn h32 hyf htodo hacked (by rw [hfl.dmaActive, hev])
    (by rw [hfl.host, hwait])
  exact ⟨v, hv, by rw [hvh, hfl.host], hrun, by rw [hid, hfl.get Reg.HIER_ID (by decide)]⟩

/-! ### The state that waits for the last burst -/

/-- The command interpreter holds no register. -/
theorem State.get_withHost (s : State) (x : HostIf) (q : Fld) : ({ s with host := x } : State).get q = s.get q := rfl

theorem State.aborting_get {q : Fld} (hq : q.offChannel n) (k : Cmd) : (s.aborting n k).get q = s.get q := by
  have hstep := ((ChanStep.modDma s (n := n) (fun c => { c with committed := false })).trans
    ((ChanStep.modDma _ (fun c => { c with aborting := true })).trans (.dmaMarks n _ true)))
  unfold State.aborting
  rw [State.get_withHost]
  exact hstep.get q hq

theorem State.dmaActive_withHost (s : State) (x : HostIf) (n : Nat) :
    ({ s with host := x } : State).dmaActive n = s.dmaActive n := rfl

theorem State.aborting_dmaActive (h32 : n < 32) (k : Cmd) : (s.aborting n k).dmaActive n = s.dmaActive n := by
  unfold State.aborting
  rw [State.dmaActive_withHost, State.dmaActive_dmaMarks _ h32, State.dmaActive_modDma, State.dmaActive_modDma]

@[simp] theorem State.aborting_mem (s : State) (n : Nat) (k : Cmd) : (s.aborting n k).mem = s.mem := rfl
@[simp] theorem State.aborting_dma_length (s : State) (n : Nat) (k : Cmd) : (s.aborting n k).dma.length = s.dma.length :=
  (modAt_length _ _ _).trans (modAt_length _ _ _)
@[simp] theorem State.aborting_waiting (s : State) (n : Nat) (k : Cmd) : (s.aborting n k).host.waiting = some k := rfl

@[simp] theorem State.elapse_dmaCh (s : State) (t m : Nat) : (s.elapse t).dmaCh m = s.dmaCh m := by
  unfold State.dmaCh; rw [State.elapse_dma]

@[simp] theorem State.elapse_dmaActive (s : State) (t m : Nat) : (s.elapse t).dmaActive m = s.dmaActive m := by
  unfold State.dmaActive; simp only [State.elapse_get]

@[simp] theorem State.serving_dmaCh (s : State) (h : Hdr) (c : HostCmd) (m : Nat) : (s.serving h c).dmaCh m = s.dmaCh m := by
  unfold State.dmaCh; rw [State.serving_dma]

@[simp] theorem State.serving_dmaActive (s : State) (h : Hdr) (c : HostCmd) (m : Nat) :
    (s.serving h c).dmaActive m = s.dmaActive m := by
  unfold State.dmaActive; simp only [State.serving_get]

theorem State.aborting_dmaCh_other {m : Nat} (hm : m ≠ n) (k : Cmd) : (s.aborting n k).dmaCh m = s.dmaCh m := by
  show (modAt _ n (modAt _ n s.dma)).getD m .init = _
  rw [modAt_getD_other _ _ _ _ _ hm, modAt_getD_other _ _ _ _ _ hm]
  rfl

theorem State.aborting_live (k : Cmd) (hl : Live s) : Live (s.aborting n k) := by
  have hstate : Reg.LADDER_STATE.offChannel n :=
    ⟨by decide, .inl (by simp only [Reg.LADDER_STATE]; omega), by decide, by decide, by decide⟩
  refine ⟨hl.1, ?_⟩
  have hl2 := hl.2
  unfold State.awake at hl2 ⊢
  rwa [State.aborting_get hstate]

/-- A channel that is being aborted starts no burst. -/
theorem State.dmaMayStart_aborting (ha : (s.dmaCh n).aborting = true) (pin : Bool) : s.dmaMayStart n pin = false := by
  simp [State.dmaMayStart, ha]

@[simp] theorem State.reply_waiting (op st : Nat) (dup : Bool) (d : List Byte) :
    (s.reply h op st dup d).host.waiting = s.host.waiting := by
  unfold State.reply; split <;> rfl

/-- A reply that is not suppressed joins the queue. -/
theorem State.reply_out_ok (hq : hdrFlag h flagQuiet = false) (op : Nat) (d : List Byte) :
    (s.reply h op stOk false d).host.out = s.host.out ++ [.reply h.iface
      { opcode := op, tag := h.tag, target := s.get Reg.HIER_ID, flags := 1, status := stOk, sequence := h.sequence,
        data := d }] := by
  unfold State.reply
  rw [if_neg (by simp [hq])]
  rfl

/-- Settles O35: the two replies at once by the command's own cases; the third by the state that waits, and by what the
acknowledgement of the last burst leaves. -/
theorem dmaAbortStopsTheChannel : Obligations.DmaAbortStopsTheChannel := by
  unfold Obligations.DmaAbortStopsTheChannel
  intro h n s hr hn c u
  have h31 : n ≤ 31 := by simpa [HostCmd.valuesOk, upTo] using hr.values
  have hrun : u.dmaRunning n = s.dmaRunning n := State.serving_flag s h c _
  have hch : u.dmaCh n = s.dmaCh n := by unfold State.dmaCh; rw [State.serving_dma]
  have hun : n < u.dma.length := by rw [State.serving_dma]; exact hn
  have hflight : ((u.modDma n (fun c => { c with committed := false })).dmaCh n).flight = (s.dmaCh n).flight := by
    rw [State.dmaCh_modDma_same hun, hch]
  refine ⟨fun hi => ?_, fun hb he => ?_, fun hb he => ?_⟩
  · exact exec_replies hr (cmdDmaAbort_idle h31 (hrun.trans hi)) rfl fun _ => rfl
  · have hperf := cmdDmaAbort_running (u := u) h31 (hrun.trans hb)
    simp only [hflight, he, List.isEmpty_nil, if_true, hch] at hperf
    exact exec_accepts hr hperf rfl fun _ => rfl
  · have hperf := cmdDmaAbort_running (u := u) h31 (hrun.trans hb)
    have hne : (s.dmaCh n).flight.isEmpty = false := by simpa using he
    simp only [hflight, hne, Bool.false_eq_true, if_false] at hperf
    have hexec : exec (.dmaAbort h n) s = .next (u.aborting n ⟨h, c, 0xFE⟩) := exec_waitsForReply hr hperf
    have hab := State.dmaCh_aborting hun ⟨h, c, 0xFE⟩
    rw [hch] at hab
    have h32 : n < 32 := by omega
    have hmod : n % 32 = n := Nat.mod_eq_of_lt h32
    have hlive : Live u := ⟨by simpa [u] using hr.running, by simpa [u, State.awake] using hr.awake⟩
    have hxlive := State.aborting_live (n := n) ⟨h, c, 0xFE⟩ hlive
    refine ⟨u.aborting n ⟨h, c, 0xFE⟩, hexec, State.serving_out s h c, rfl, rfl, by rw [hab], by rw [hab], by rw [hab],
      fun pin at_ => ?_, fun b at_ hfl htodo hbad hrmw hother hev => ?_⟩
    · show eventAwake at_ (fun s => s.when (s.dmaMayStart (n % 32) pin) (·.dmaBurst (n % 32))) _ = _
      rw [eventAwake_live hxlive, hmod, State.dmaMayStart_aborting, State.when_false]
      rw [State.elapse_dmaCh, hab]
    · obtain ⟨v, hv, hvh, hvrun, hvid⟩ := State.dmaAck_aborts (s := (u.aborting n ⟨h, c, 0xFE⟩).elapse at_) (h := h)
        (k := 0xFE) (b := b) (by simpa [u] using hn) h32 (by rw [State.elapse_dmaCh, hab]; exact hfl) htodo hbad
        (by simpa [u] using hrmw)
        (fun m hm hne => by
          rw [State.elapse_dmaCh, State.aborting_dmaCh_other hne, State.serving_dmaCh]; exact hother m hm hne)
        (by rw [State.elapse_dmaActive, State.aborting_dmaActive h32, State.serving_dmaActive]; exact hev)
        (by rw [State.elapse_host]; rfl)
      have hid : v.get Reg.HIER_ID = s.get Reg.HIER_ID := by
        rw [hvid, State.elapse_get, State.aborting_get (hierId_offChannel h32), State.serving_get]
      have hout : v.host.out = s.host.out := by
        rw [hvh, State.elapse_host]; exact State.serving_out s h c
      refine ⟨v.reply h 0x0103 stOk false (leBytes 8 (v.dmaCh n).done), (v.dmaCh n).done, ?_, ?_, ?_, ?_,
        fun hq => ⟨?_, ?_⟩⟩
      · show eventAwake at_ (·.dmaAck (n % 32)) _ = _
        rw [eventAwake_live hxlive, hmod, hv]
      · rw [State.reply_waiting, hvh]
      · unfold State.dmaRunning State.flag
        rw [State.reply_get, hvrun]
        rfl
      · rw [State.reply_queued]
        unfold State.queued
        rw [hout]
      · rw [State.reply_out_ok hq, hout, hid]
      · unfold State.dmaCh
        rw [State.reply_dma]

end Sys2Proof.Machine
end

section
/-! SUPPORT. The choppers of an axis, and the axis that an over-current stops. -/

namespace Sys2Proof.Machine

variable {s u : State} {t : Nat}

@[simp] theorem State.elapse_axis (s : State) (t a : Nat) : (s.elapse t).axis a = s.axis a := by
  unfold State.axis; rw [State.elapse_motion]

@[simp] theorem State.elapse_energised (s : State) (t a : Nat) : (s.elapse t).energised a = s.energised a := by
  unfold State.energised; rw [State.elapse_flag]

@[simp] theorem State.elapse_moving (s : State) (t a : Nat) : (s.elapse t).moving a = s.moving a := by
  unfold State.moving; rw [State.elapse_flag]

/-! ### An axis de-energised by an over-current (R287) -/

/-- A status bit of an axis below MODE. -/
abbrev Fld.axisBit (a : Nat) (f : Fld) : Prop := f.addr = 0x180058 + 256 * a ∧ f.lo < 12

theorem Fld.axisBit.key_ne {f g : Fld} {a : Nat} (hf : f.axisBit a) (hlo : g.lo < 32)
    (hg : g.addr = 0x180058 + 256 * a → 12 ≤ g.lo) : f.key ≠ g.key := by
  obtain ⟨haddr, hbit⟩ := hf
  simp only [Fld.key]; omega

theorem Fld.axisBit.notEvent {f : Fld} {a : Nat} (hf : f.axisBit a) : f.key ∉ eventFields := by
  obtain ⟨haddr, hbit⟩ := hf
  simp only [eventFields, List.mem_cons, List.not_mem_nil, or_false, Fld.key, Reg.LOG_STATUS_DROPPED,
    Reg.CMD_ERR_COUNT_EVT_LOST]
  omega

/-- Only registers differ, and none of the status bits below MODE of an axis. -/
structure BitsKept (a : Nat) (s u : State) : Prop where
  regs : RegsOnly s u
  get : ∀ f : Fld, f.axisBit a → u.get f = s.get f

theorem BitsKept.refl (a : Nat) (s : State) : BitsKept a s s := ⟨.refl s, fun _ _ => rfl⟩

theorem BitsKept.trans {v : State} {a : Nat} (h : BitsKept a s u) (k : BitsKept a u v) : BitsKept a s v :=
  ⟨h.regs.trans k.regs, fun f hf => (k.get f hf).trans (h.get f hf)⟩

theorem BitsKept.set {a : Nat} (s : State) {g : Fld} (n : Nat)
    (hg : g.lo < 32 ∧ (g.addr = 0x180058 + 256 * a → 12 ≤ g.lo)) : BitsKept a s (s.set g n) :=
  ⟨.set s g n, fun _ hf => State.get_set_other s (hf.key_ne hg.1 hg.2) n⟩

/-- Showing an axis is a matter of its position, its speed, its mode and its table. -/
theorem BitsKept.showAxis (a : Nat) (s : State) : BitsKept a s (s.showAxis a) := by
  have hpos : ∀ n m k j i l, BitsKept a s ((((((s.set (Reg.MOTION_AX_POS_LO a) n).set (Reg.MOTION_AX_POS_HI a) m).set
      (Reg.MOTION_AX_POS_FRAC a) k).set (Reg.MOTION_AX_VELOCITY a) j).set (Reg.MOTION_AX_STATUS_MODE a) i).set
      (Reg.MOTION_AX_TABLE_RUNNING a) l) := fun n m k j i l =>
    (((((BitsKept.set s n (by simp [Reg.MOTION_AX_POS_LO])).trans
      (.set _ m (by simp [Reg.MOTION_AX_POS_HI]))).trans
      (.set _ k (by simp [Reg.MOTION_AX_POS_FRAC]))).trans
      (.set _ j (by simp [Reg.MOTION_AX_VELOCITY]))).trans
      (.set _ i (by simp [Reg.MOTION_AX_STATUS_MODE]))).trans
      (.set _ l (by simp [Reg.MOTION_AX_TABLE_RUNNING]))
  unfold State.showAxis
  dsimp only
  split
  · exact (hpos _ _ _ _ _ _).trans ((BitsKept.set _ _ (by simp [Reg.MOTION_AX_TARGET_LO])).trans
      (.set _ _ (by simp [Reg.MOTION_AX_TARGET_HI])))
  · exact (hpos _ _ _ _ _ _).trans (.set _ _ (by simp [Reg.MOTION_AX_TABLE_SEGMENT]))
  · exact hpos _ _ _ _ _ _

/-! ### The record of an axis through the steps that stop it -/

/-- Only the record of one axis, registers and the bars of the camera loops may differ. -/
structure AxisStep (a : Nat) (s u : State) : Prop where
  length : u.motion.axes.length = s.motion.axes.length
  other : ∀ b, b ≠ a → u.axis b = s.axis b
  job : u.job = s.job

theorem AxisStep.refl (a : Nat) (s : State) : AxisStep a s s := ⟨rfl, fun _ _ => rfl, rfl⟩

theorem AxisStep.trans {v : State} {a : Nat} (h : AxisStep a s u) (k : AxisStep a u v) : AxisStep a s v :=
  ⟨k.length.trans h.length, fun b hb => (k.other b hb).trans (h.other b hb), k.job.trans h.job⟩

theorem AxisStep.regs {a : Nat} (h : RegsOnly s u) : AxisStep a s u := by
  obtain ⟨_, _, rfl⟩ := h
  exact ⟨rfl, fun _ _ => rfl, rfl⟩

theorem AxisStep.barEnds (a : Nat) (s : State) : AxisStep a s (s.barEnds a) := ⟨rfl, fun _ _ => rfl, rfl⟩

theorem AxisStep.modAxis (a : Nat) (s : State) (f : Axis → Axis) : AxisStep a s (s.modAxis a f) :=
  ⟨modAt_length _ _ _, fun b hb => modAt_getD_other f .init a b _ hb, rfl⟩

theorem AxisStep.setB (a : Nat) (s : State) (f : Fld) (b : Bool) : AxisStep a s (s.setB f b) := .regs (.set s f _)

theorem AxisStep.dropShadow (a : Nat) (s : State) : AxisStep a s (s.dropShadow a) :=
  (AxisStep.regs (RegsOnly.ite (.set s _ _) (.refl s))).trans (.modAxis a _ _)

theorem AxisStep.axisRest (a : Nat) (s : State) : AxisStep a s (s.axisRest a) :=
  ((AxisStep.modAxis a s _).trans (.setB a _ _ _)).trans (.barEnds a _)

theorem AxisStep.deEnergise (a : Nat) (s : State) : AxisStep a s (s.deEnergise a) :=
  (((AxisStep.modAxis a s _).trans (.setB a _ _ _)).trans (.setB a _ _ _)).trans (.setB a _ _ _)

section
variable {a : Nat} (ha : a < s.motion.axes.length)
include ha

theorem State.axis_axisRest : (s.axisRest a).axis a = { s.axis a with
    run := .rest, v := 0, brk := false, ovs := false, rev := false,
    restAt := if s.moving a && !s.flag (Reg.MOTION_AX_STATUS_WAIT_TRIG a) then some s.now else (s.axis a).restAt } :=
  State.axis_modAxis_same s _ ha

theorem State.axis_deEnergise : (s.deEnergise a).axis a = { s.axis a with
    phA := { (s.axis a).phA with phase := .slow, ts := 0, blank := none },
    phB := { (s.axis a).phB with phase := .slow, ts := 0, blank := none }, restAt := none } :=
  State.axis_modAxis_same s _ ha

theorem State.axis_dropShadow : (s.dropShadow a).axis a = { s.axis a with tableTag := none } := by
  have hkeep : (if s.get (Reg.MOTION_AX_TABLE_SHADOW a) = 2 then s.set (Reg.MOTION_AX_TABLE_SHADOW a) 0 else s).motion =
      s.motion := (RegsOnly.ite (.set s _ _) (.refl s)).motion
  unfold State.dropShadow
  rw [State.axis_modAxis_same _ _ (by rw [hkeep]; exact ha)]
  unfold State.axis
  rw [hkeep]

end

/-- An axis without its shadow and its next move, waiting for nothing. -/
def State.axisCleared (s : State) (a : Nat) : State :=
  ((s.dropShadow a).modAxis a (fun x => { x with next := none, stop := none })).setB (Reg.MOTION_AX_STATUS_WAIT_TRIG a) false

/-- What an over-current leaves before the axis is shown and the event tells. -/
def State.overcurrentBits (s : State) (a : Nat) : State :=
  (((s.axisCleared a).axisRest a).deEnergise a).setB (Reg.MOTION_AX_STATUS_OVERCURRENT a) true

theorem State.overcurrent_eq (s : State) (a : Nat) : s.overcurrent a =
    ((s.overcurrentBits a).showAxis a).raise evAxisStall 0 (leBytes 2 a ++ leBytes 2 0xFFFF ++ [0, 0, 0, 0] ++
      leInt 8 (((s.overcurrentBits a).showAxis a).axisPos a)) := rfl

theorem AxisStep.axisCleared (a : Nat) (s : State) : AxisStep a s (s.axisCleared a) :=
  ((AxisStep.dropShadow a s).trans (.modAxis a _ _)).trans (.setB a _ _ _)

theorem AxisStep.overcurrent (a : Nat) (s : State) : AxisStep a s (s.overcurrent a) := by
  have hbits : AxisStep a s (s.overcurrentBits a) :=
    (((AxisStep.axisCleared a s).trans (.axisRest a _)).trans (.deEnergise a _)).trans (.setB a _ _ _)
  rw [State.overcurrent_eq]
  refine (hbits.trans (.regs (BitsKept.showAxis a _).regs)).trans ⟨?_, fun b _ => ?_, ?_⟩
  · rw [State.raise_motion]
  · unfold State.axis; rw [State.raise_motion]
  · rw [State.raise_job]

/-- The axis that an over-current stops. -/
theorem State.axis_overcurrent {a : Nat} (ha : a < s.motion.axes.length) :
    ((s.overcurrent a).axis a).p = (s.axis a).p ∧ ((s.overcurrent a).axis a).next = none ∧
      ((s.overcurrent a).axis a).phA.phase = .slow ∧ ((s.overcurrent a).axis a).phB.phase = .slow := by
  have hlenCleared : a < (s.axisCleared a).motion.axes.length := by
    rw [(AxisStep.axisCleared a s).length]; exact ha
  have hlenRest : a < ((s.axisCleared a).axisRest a).motion.axes.length := by
    rw [(AxisStep.axisRest a _).length]; exact hlenCleared
  have hcleared : (s.axisCleared a).axis a = { s.axis a with tableTag := none, next := none, stop := none } := by
    unfold State.axisCleared
    rw [State.axis_setB, State.axis_modAxis_same _ _ (by rw [(AxisStep.dropShadow a s).length]; exact ha), State.axis_dropShadow ha]
  have hshown : (s.overcurrent a).axis a = (s.overcurrentBits a).axis a := by
    rw [State.overcurrent_eq]
    unfold State.axis
    rw [State.raise_motion, (BitsKept.showAxis a _).regs.motion]
  rw [hshown, State.overcurrentBits, State.axis_setB, State.axis_deEnergise hlenRest, State.axis_axisRest hlenCleared, hcleared]
  exact ⟨rfl, rfl, rfl, rfl⟩

/-- The status bits of an axis that an over-current stops. -/
theorem State.bits_overcurrent (s : State) (a : Nat) : (s.overcurrent a).get (Reg.MOTION_AX_STATUS_ENERGISED a) = 0 ∧
    (s.overcurrent a).get (Reg.MOTION_AX_STATUS_LOST a) = 1 ∧
    (s.overcurrent a).get (Reg.MOTION_AX_STATUS_OVERCURRENT a) = 1 ∧
    (s.overcurrent a).get (Reg.MOTION_AX_STATUS_MOVING a) = 0 := by
  have hshown : ∀ f : Fld, f.axisBit a → (s.overcurrent a).get f = (s.overcurrentBits a).get f := by
    intro f hf
    rw [State.overcurrent_eq, State.raise_get _ _ _ _ hf.notEvent, (BitsKept.showAxis a _).get f hf]
  have hwait : (s.axisCleared a).flag (Reg.MOTION_AX_STATUS_WAIT_TRIG a) = false :=
    State.flag_setB_same _ _ false (by simp [Reg.MOTION_AX_STATUS_WAIT_TRIG])
  have hmoving : ((s.axisCleared a).axisRest a).get (Reg.MOTION_AX_STATUS_MOVING a) = 0 := by
    show (State.setB _ (Reg.MOTION_AX_STATUS_MOVING a) _).get _ = 0
    rw [hwait]
    exact State.get_set_same _ _ 0
  refine ⟨?_, ?_, ?_, ?_⟩
  · rw [hshown _ ⟨rfl, by simp [Reg.MOTION_AX_STATUS_ENERGISED]⟩]
    unfold State.overcurrentBits State.deEnergise State.setB
    rw [State.get_set_other, State.get_set_other, State.get_set_other, State.get_set_same]
    · rfl
    all_goals simp [Fld.key, Reg.MOTION_AX_STATUS_ENERGISED, Reg.MOTION_AX_STATUS_LOST, Reg.MOTION_AX_STATUS_HOLD,
      Reg.MOTION_AX_STATUS_OVERCURRENT]
  · rw [hshown _ ⟨rfl, by simp [Reg.MOTION_AX_STATUS_LOST]⟩]
    unfold State.overcurrentBits State.deEnergise State.setB
    rw [State.get_set_other, State.get_set_other, State.get_set_same]
    · rfl
    all_goals simp [Fld.key, Reg.MOTION_AX_STATUS_LOST, Reg.MOTION_AX_STATUS_HOLD, Reg.MOTION_AX_STATUS_OVERCURRENT]
  · rw [hshown _ ⟨rfl, by simp [Reg.MOTION_AX_STATUS_OVERCURRENT]⟩]
    exact State.get_set_same _ _ 1
  · rw [hshown _ ⟨rfl, by simp [Reg.MOTION_AX_STATUS_MOVING]⟩]
    unfold State.overcurrentBits State.deEnergise State.setB
    rw [State.get_set_other, State.get_set_other, State.get_set_other, State.get_set_other]
    · exact hmoving
    all_goals simp [Fld.key, Reg.MOTION_AX_STATUS_ENERGISED, Reg.MOTION_AX_STATUS_LOST, Reg.MOTION_AX_STATUS_HOLD,
      Reg.MOTION_AX_STATUS_OVERCURRENT, Reg.MOTION_AX_STATUS_MOVING]

/-- Settles O45: each row by the branch that its conditions select; an over-current by what it leaves of the axis. -/
theorem chopperEventsComplete : Obligations.ChopperEventsComplete := by
  unfold Obligations.ChopperEventsComplete
  intro a onB t s hl hen hlen u x c
  have hax : u.axis a = x := State.elapse_axis s t a
  have hene : u.energised a = true := (State.elapse_energised s t a).trans hen
  have hev : ∀ (f : State → State) (g : State → Bool), g u = true →
      eventAwake t (fun s => s.when (g s) f) s = .next (f u) := fun f g hg => by
    rw [eventAwake_live hl]
    exact congrArg _ (by rw [hg, State.when_true])
  have hblank : ∀ b, c.blank = b → ((u.axis a).chop onB).blank = b := fun b hb => by rw [hax]; exact hb
  have hopen : c.blank = none → u.unblanked a onB = true := fun hb => by rw [State.unblanked, hblank none hb]; rfl
  refine ⟨fun i hd hb hs hi => ?_, fun i mean hd hb hi => ?_, fun e hb he => ?_, fun hts hlong => ?_, fun i hb hi => ?_,
    fun r hm hr hi => ?_⟩
  · refine (hev _ (·.energised a) hene).trans (congrArg _ ?_)
    unfold State.chopHigh
    rw [hax]
    exact if_pos ⟨hd, hopen hb, hs, hi⟩
  · refine (hev _ (·.energised a) hene).trans (congrArg _ ?_)
    unfold State.chopEnd
    rw [hax, State.elapse_getS, State.elapse_get]
    exact if_pos ⟨hd, hopen hb, hi⟩
  · refine hev _ (fun s => match ((s.axis a).chop onB).blank with | some e => decide (e ≤ s.now) | none => false) ?_
    rw [hblank _ hb]
    simpa using he
  · refine (hev _ (fun s => s.energised a && ((s.axis a).chop onB).ts != 0 &&
      decide (((s.axis a).chop onB).start + 8 * (200000 / max 1 (aFLo (s.axis a).record)) ≤ s.now)) ?_).trans ?_
    · rw [hene, hax]
      simpa using ⟨hts, hlong⟩
    · rw [hax]
  · refine ⟨u.overcurrent a, hev _ (fun s => s.energised a && s.unblanked a onB &&
      decide (aOcLimit (s.axis a).record < i.natAbs)) ?_, ?_⟩
    · rw [hene, hopen hb, hax]
      simpa using hi
    · have hlu : (a : Nat) < u.motion.axes.length := by rw [State.elapse_motion]; omega
      obtain ⟨he, hlost, hoc, hmov⟩ := State.bits_overcurrent u a
      obtain ⟨hp, hnext, hA, hB⟩ := State.axis_overcurrent hlu
      have hstep := AxisStep.overcurrent a u
      exact ⟨he, hlost, hoc, hmov, hA, hB, by rw [hp, hax], hnext,
        fun b hb => (hstep.other b hb).trans (State.elapse_axis s t b), hstep.job.trans (State.elapse_job s t)⟩
  · refine hev _ (fun s => s.energised a && !s.moving a && (match (s.axis a).restAt with
      | some r => decide (r + aHoldMs (s.axis a).record * msSteps ≤ s.now)
      | none => false)) ?_
    have hmu : u.moving a = false := (State.elapse_moving s t a).trans hm
    rw [hene, hmu, hax, hr]
    show (true && !false && decide (r + aHoldMs x.record * msSteps ≤ u.now)) = true
    rw [show msSteps = 800000 from rfl]
    simpa using hi

end Sys2Proof.Machine
end

section
/-! SUPPORT. The update of one axis: what it leaves of the other axes, of their registers and of the switches. -/

namespace Sys2Proof.Machine

variable {s u v : State} {a : Nat}

/-- A field that the update of axis `a` may write: of its own block, or below MOTION. -/
abbrev Fld.ofAxis (a : Nat) (f : Fld) : Prop :=
  f.lo < 32 ∧ (f.addr < 0x180000 ∨ 0x180000 + 256 * a ≤ f.addr ∧ f.addr < 0x180000 + 256 * (a + 1))

/-- A field of another axis's block. -/
abbrev Fld.offAxis (a : Nat) (f : Fld) : Prop :=
  f.lo < 32 ∧ 0x180000 ≤ f.addr ∧ (f.addr < 0x180000 + 256 * a ∨ 0x180000 + 256 * (a + 1) ≤ f.addr)

theorem Fld.key_ne_of_axis {f q : Fld} (hf : f.ofAxis a) (hq : q.offAxis a) : q.key ≠ f.key := by
  obtain ⟨hqlo, hq1, hq2⟩ := hq
  obtain ⟨hlo, hf⟩ := hf
  simp only [Fld.key]; omega

theorem Fld.offAxis.notEvent {q : Fld} (hq : q.offAxis a) : q.key ∉ eventFields := by
  obtain ⟨hqlo, hq1, -⟩ := hq
  simp only [eventFields, List.mem_cons, List.not_mem_nil, or_false, Fld.key, Reg.LOG_STATUS_DROPPED,
    Reg.CMD_ERR_COUNT_EVT_LOST]
  omega

/-- The update of one axis leaves the others, their registers and the instant of the update. -/
structure AxisTouch (a : Nat) (s u : State) : Prop where
  length : u.motion.axes.length = s.motion.axes.length
  updateAt : u.motion.updateAt = s.motion.updateAt
  other : ∀ b, b ≠ a → u.axis b = s.axis b
  get : ∀ q : Fld, q.offAxis a → u.get q = s.get q

theorem AxisTouch.refl (a : Nat) (s : State) : AxisTouch a s s := ⟨rfl, rfl, fun _ _ => rfl, fun _ _ => rfl⟩

theorem AxisTouch.trans (h : AxisTouch a s u) (k : AxisTouch a u v) : AxisTouch a s v :=
  ⟨k.length.trans h.length, k.updateAt.trans h.updateAt, fun b hb => (k.other b hb).trans (h.other b hb),
    fun q hq => (k.get q hq).trans (h.get q hq)⟩

theorem AxisTouch.ite {c : Prop} [Decidable c] (hu : AxisTouch a s u) (hv : AxisTouch a s v) :
    AxisTouch a s (if c then u else v) := by
  split
  · exact hu
  · exact hv

/-- `setB`, `setS`, `inc` and `incSat` are such writes. -/
theorem AxisTouch.set (s : State) {f : Fld} (hf : f.ofAxis a) (n : Nat) : AxisTouch a s (s.set f n) :=
  ⟨rfl, rfl, fun _ _ => rfl, fun _ hq => State.get_set_other s (Fld.key_ne_of_axis hf hq) n⟩

theorem AxisTouch.modAxis (a : Nat) (s : State) (f : Axis → Axis) : AxisTouch a s (s.modAxis a f) :=
  ⟨modAt_length _ _ _, rfl, fun b hb => modAt_getD_other f .init a b _ hb, fun _ _ => rfl⟩

/-- A change of parts beside MOTION and the registers. -/
theorem AxisTouch.of_parts (h : (u.motion, u.regs, u.just, u.act) = (s.motion, s.regs, s.just, s.act)) : AxisTouch a s u := by
  simp only [Prod.mk.injEq] at h
  obtain ⟨hm, hr, -, -⟩ := h
  exact ⟨by rw [hm], by rw [hm], fun b _ => by unfold State.axis; rw [hm], fun q _ => by unfold State.get; rw [hr]⟩

theorem AxisTouch.of_motion (hm : u.motion = s.motion) (hg : ∀ q : Fld, q.offAxis a → u.get q = s.get q) : AxisTouch a s u :=
  ⟨by rw [hm], by rw [hm], fun b _ => by unfold State.axis; rw [hm], hg⟩

theorem AxisTouch.raise (s : State) (c n : Nat) (l : List Byte) : AxisTouch a s (s.raise c n l) :=
  .of_motion (State.raise_motion ..) fun _ hq => State.raise_get s c n l hq.notEvent

theorem AxisTouch.raiseLimited (s : State) (c n k : Nat) (l : List Byte) : AxisTouch a s (s.raiseLimited c n k l) :=
  .of_motion (State.raiseLimited_motion ..) fun q hq => (EventFrame.raiseLimited s c n k l).get q hq.notEvent

theorem AxisTouch.foldl {α : Type} {f : State → α → State} {l : List α} (hf : ∀ s, ∀ x ∈ l, AxisTouch a s (f s x)) (s : State) :
    AxisTouch a s (l.foldl f s) :=
  List.foldlRecOn (motive := AxisTouch a s) l f (.refl a s) fun u hu x hx => hu.trans (hf u x hx)

/-! ### The steps of an update -/

theorem AxisTouch.axisNote (a : Nat) (s : State) : AxisTouch a s (s.axisNote a) := .modAxis a s _

theorem AxisTouch.showAxis (a : Nat) (s : State) : AxisTouch a s (s.showAxis a) := by
  have hshow : ∀ n m k j i l, AxisTouch a s ((((((s.set (Reg.MOTION_AX_POS_LO a) n).set (Reg.MOTION_AX_POS_HI a) m).set
      (Reg.MOTION_AX_POS_FRAC a) k).set (Reg.MOTION_AX_VELOCITY a) j).set (Reg.MOTION_AX_STATUS_MODE a) i).set
      (Reg.MOTION_AX_TABLE_RUNNING a) l) := fun n m k j i l =>
    (((((AxisTouch.set s (by simp only [Fld.ofAxis, Reg.MOTION_AX_POS_LO]; omega) n).trans
      (.set _ (by simp only [Fld.ofAxis, Reg.MOTION_AX_POS_HI]; omega) m)).trans
      (.set _ (by simp only [Fld.ofAxis, Reg.MOTION_AX_POS_FRAC]; omega) k)).trans
      (.set _ (by simp only [Fld.ofAxis, Reg.MOTION_AX_VELOCITY]; omega) j)).trans
      (.set _ (by simp only [Fld.ofAxis, Reg.MOTION_AX_STATUS_MODE]; omega) i)).trans
      (.set _ (by simp only [Fld.ofAxis, Reg.MOTION_AX_TABLE_RUNNING]; omega) l)
  unfold State.showAxis
  dsimp only
  split
  · exact (hshow _ _ _ _ _ _).trans ((AxisTouch.set _ (by simp only [Fld.ofAxis, Reg.MOTION_AX_TARGET_LO]; omega) _).trans
      (.set _ (by simp only [Fld.ofAxis, Reg.MOTION_AX_TARGET_HI]; omega) _))
  · exact (hshow _ _ _ _ _ _).trans (.set _ (by simp only [Fld.ofAxis, Reg.MOTION_AX_TABLE_SEGMENT]; omega) _)
  · exact hshow _ _ _ _ _ _

theorem AxisTouch.axisDone (a tag : Nat) (s : State) : AxisTouch a s (s.axisDone a tag) := .raise s _ _ _

theorem AxisTouch.doneFor (a : Nat) (tag : Option Nat) (s : State) : AxisTouch a s (s.doneFor a tag) := by
  cases tag with
  | none => exact .refl a s
  | some t => exact .axisDone a t s

theorem AxisTouch.dropShadow (a : Nat) (s : State) : AxisTouch a s (s.dropShadow a) :=
  (AxisTouch.ite (.set s (by simp only [Fld.ofAxis, Reg.MOTION_AX_TABLE_SHADOW]; omega) 0) (.refl a s)).trans (.modAxis a _ _)

theorem AxisTouch.waitTrig (a n : Nat) (s : State) : AxisTouch a s (s.set (Reg.MOTION_AX_STATUS_WAIT_TRIG a) n) :=
  .set s (by simp only [Fld.ofAxis, Reg.MOTION_AX_STATUS_WAIT_TRIG]; omega) n

theorem AxisTouch.moving (a n : Nat) (s : State) : AxisTouch a s (s.set (Reg.MOTION_AX_STATUS_MOVING a) n) :=
  .set s (by simp only [Fld.ofAxis, Reg.MOTION_AX_STATUS_MOVING]; omega) n

theorem AxisTouch.lost (a n : Nat) (s : State) : AxisTouch a s (s.set (Reg.MOTION_AX_STATUS_LOST a) n) :=
  .set s (by simp only [Fld.ofAxis, Reg.MOTION_AX_STATUS_LOST]; omega) n

theorem AxisTouch.axisRest (a : Nat) (s : State) : AxisTouch a s (s.axisRest a) :=
  ((AxisTouch.modAxis a s _).trans (.moving a _ _)).trans (.of_parts (s := _) rfl)

theorem AxisTouch.endAll (a : Nat) (s : State) : AxisTouch a s (s.endAll a) :=
  (((AxisTouch.dropShadow a s).trans (.modAxis a _ _)).trans (.waitTrig a _ _)).trans (.axisRest a _)

theorem AxisTouch.endWait (a : Nat) (s : State) : AxisTouch a s (s.endWait a) :=
  .ite ((((AxisTouch.dropShadow a s).trans (.modAxis a _ _)).trans (.waitTrig a _ _)).trans (.doneFor a _ _)) (.refl a s)

theorem AxisTouch.deEnergise (a : Nat) (s : State) : AxisTouch a s (s.deEnergise a) :=
  (((AxisTouch.modAxis a s _).trans
    (.set _ (by simp only [Fld.ofAxis, Reg.MOTION_AX_STATUS_ENERGISED]; omega) _)).trans (.lost a _ _)).trans
    (.set _ (by simp only [Fld.ofAxis, Reg.MOTION_AX_STATUS_HOLD]; omega) _)

theorem AxisTouch.stopNow (a : Nat) (tag : Option Nat) (s : State) : AxisTouch a s (s.stopNow a tag) :=
  (((AxisTouch.endAll a s).trans (.ite (.lost a _ _) (.refl a _))).trans (.showAxis a _)).trans (.doneFor a tag _)

theorem AxisTouch.takeStop (a mode : Nat) (s : State) : AxisTouch a s (s.takeStop a mode) := by
  have hwait : AxisTouch a s ((s.modAxis a (fun x => { x with stop := none })).endWait a) :=
    (AxisTouch.modAxis a s _).trans (.endWait a _)
  unfold State.takeStop
  refine hwait.trans (.ite (.ite ?_ ?_) (.ite ?_ ?_))
  · exact ((AxisTouch.endAll a _).trans (.showAxis a _)).trans (.doneFor a _ _)
  · exact (AxisTouch.dropShadow a _).trans (.modAxis a _ _)
  · exact (AxisTouch.stopNow a _ _).trans (.deEnergise a _)
  · exact .stopNow a _ _

theorem AxisTouch.moveStart (a : Nat) (m : Move) (s : State) : AxisTouch a s (s.moveStart a m) :=
  (((AxisTouch.ite (.dropShadow a s) (.refl a s)).trans (.modAxis a _ _)).trans (.moving a _ _)).trans (.waitTrig a _ _)

theorem AxisTouch.tableStart (a : Nat) (p0 v0 : Int) (s : State) : AxisTouch a s (s.tableStart a p0 v0) :=
  (((((AxisTouch.set s (by simp only [Fld.ofAxis, Reg.MOTION_AX_TABLE_ACTIVE_SET]; omega) _).trans
    (.set _ (by simp only [Fld.ofAxis, Reg.MOTION_AX_TABLE_SHADOW]; omega) _)).trans
    (.set _ (by simp only [Fld.ofAxis, Reg.MOTION_AX_TABLE_LAST]; omega) _)).trans (.modAxis a _ _)).trans
    (.moving a _ _)).trans (.waitTrig a _ _)

theorem AxisTouch.cancelWait (a : Nat) (s : State) : AxisTouch a s (s.cancelWait a) :=
  .ite ((AxisTouch.endWait a s).trans (.axisRest a _)) (.endWait a s)

theorem AxisTouch.takeNext (a : Nat) (s : State) : AxisTouch a s (s.takeNext a) := by
  unfold State.takeNext
  refine .ite (.ite (.refl a s) (.cancelWait a s)) ?_
  cases (s.axis a).next with
  | some m => exact .moveStart a m s
  | none => exact .ite (.tableStart a _ 0 s) (.refl a s)

theorem AxisTouch.putPv (a : Nat) (p w : Int) (s : State) : AxisTouch a s (s.putPv a p w) := .modAxis a s _

theorem AxisTouch.moveFinish (a tag : Nat) (s : State) : AxisTouch a s (s.moveFinish a tag) := by
  have hdone := (AxisTouch.axisRest a s).trans (.axisDone a tag _)
  exact .ite (hdone.trans (.tableStart a _ 0 _)) hdone

theorem AxisTouch.moveTurn (a : Nat) (s : State) : AxisTouch a s (s.moveTurn a) :=
  ((AxisTouch.ite ((AxisTouch.raise s _ _ _).trans
    (.set _ (by simp only [Fld.ofAxis, Reg.MOTION_AX_STATUS_OVERSHOOT]; omega) _)) (.refl a s)).trans
    (.ite (.raise _ _ _ _) (.refl a _))).trans (.modAxis a _ _)

theorem AxisTouch.moveStep (a : Nat) (v0 w : Int) (s : State) : AxisTouch a s (s.moveStep a v0 w) :=
  (AxisTouch.putPv a _ w s).trans (.ite (.moveTurn a _) (.refl a _))

theorem AxisTouch.moveBrake (a : Nat) (m : Move) (v0 r : Int) (s : State) : AxisTouch a s (s.moveBrake a m v0 r) := by
  unfold State.moveBrake
  refine AxisTouch.trans (.ite (.modAxis a s _) (.refl a s)) (.ite ?_ (.moveStep a _ _ _))
  exact (AxisTouch.putPv a _ 0 _).trans (.moveFinish a _ _)

theorem AxisTouch.moveUpdate (a : Nat) (m : Move) (s : State) : AxisTouch a s (s.moveUpdate a m) := by
  unfold State.moveUpdate
  refine .ite (.moveStep a _ _ s) (.ite (.moveFinish a _ s) (.ite (.moveBrake a m _ _ s) (.ite ?_ (.moveStep a _ _ s))))
  exact (AxisTouch.modAxis a s _).trans (.moveBrake a m _ _ _)

theorem AxisTouch.limitFlag (a : Nat) (d : Int) (s : State) : AxisTouch a s (s.limitFlag a d) := by
  refine .set s ?_ _
  split
  · simp only [Fld.ofAxis, Reg.MOTION_AX_STATUS_LIMIT_NEG]; omega
  · simp only [Fld.ofAxis, Reg.MOTION_AX_STATUS_LIMIT_POS]; omega

theorem AxisTouch.tableEnd (a tag : Nat) (p1 v1 : Int) (s : State) : AxisTouch a s (s.tableEnd a tag p1 v1) :=
  .ite (.tableStart a p1 v1 s) (.ite ((AxisTouch.axisRest a s).trans (.axisDone a tag _))
    ((AxisTouch.modAxis a s _).trans (.set _ (by simp only [Fld.ofAxis, Reg.MOTION_AX_STATUS_STARVED]; omega) _)))

theorem AxisTouch.tableUpdate (a tag seg n : Nat) (p0 v0 : Int) (s : State) :
    AxisTouch a s (s.tableUpdate a tag seg n p0 v0) := by
  unfold State.tableUpdate
  dsimp only
  split
  · exact (AxisTouch.limitFlag a _ s).trans (.takeStop a 1 _)
  · split
    · exact (AxisTouch.putPv a _ _ s).trans (.modAxis a _ _)
    · split
      · exact (AxisTouch.putPv a _ _ s).trans (.modAxis a _ _)
      · exact (AxisTouch.putPv a _ _ s).trans (.tableEnd a tag _ _ _)

theorem AxisTouch.brakeUpdate (a : Nat) (tag : Option Nat) (s : State) : AxisTouch a s (s.brakeUpdate a tag) :=
  (AxisTouch.putPv a _ _ s).trans (.ite ((AxisTouch.axisRest a _).trans (.doneFor a tag _)) (.refl a _))

theorem AxisTouch.axisRun (a : Nat) (s : State) : AxisTouch a s (s.axisRun a) := by
  unfold State.axisRun
  cases (s.axis a).run with
  | rest => exact .refl a s
  | move m => exact .moveUpdate a m s
  | table tag seg n p0 v0 => exact .tableUpdate a tag seg n p0 v0 s
  | brake tag => exact .brakeUpdate a tag s

/-! ### Compare units, load angle, stall, and the choppers -/

/-- A field below MOTION, or of the axis. -/
theorem AxisTouch.below (s : State) {f : Fld} (hlo : f.lo < 32) (hf : f.addr < 0x180000) (n : Nat) : AxisTouch a s (s.set f n) :=
  .set s ⟨hlo, .inl hf⟩ n

section
variable {k : Nat} (hk : k < 8)
include hk

theorem AxisTouch.cmpHits (n : Nat) (s : State) : AxisTouch a s (s.set (Reg.ENC_CMP_HITS k) n) :=
  .below s (Nat.lt_of_sub_eq_succ rfl) (by simp only [Reg.ENC_CMP_HITS]; omega) n

theorem AxisTouch.cmpFired (n : Nat) (s : State) : AxisTouch a s (s.set (Reg.ENC_CMP_STATUS_FIRED k) n) :=
  .below s (Nat.lt_of_sub_eq_succ rfl) (by simp only [Reg.ENC_CMP_STATUS_FIRED]; omega) n

theorem AxisTouch.cmpPosLo (n : Nat) (s : State) : AxisTouch a s (s.set (Reg.ENC_CMP_POS_LO k) n) :=
  .below s (Nat.lt_of_sub_eq_succ rfl) (by simp only [Reg.ENC_CMP_POS_LO]; omega) n

theorem AxisTouch.cmpPosHi (n : Nat) (s : State) : AxisTouch a s (s.set (Reg.ENC_CMP_POS_HI k) n) :=
  .below s (Nat.lt_of_sub_eq_succ rfl) (by simp only [Reg.ENC_CMP_POS_HI]; omega) n

theorem AxisTouch.cmpMissed (n : Nat) (s : State) : AxisTouch a s (s.set (Reg.ENC_CMP_MISSED k) n) :=
  .below s (Nat.lt_of_sub_eq_succ rfl) (by simp only [Reg.ENC_CMP_MISSED]; omega) n

theorem AxisTouch.cmpArmed (n : Nat) (s : State) : AxisTouch a s (s.set (Reg.ENC_CMP_CTRL_ARMED k) n) :=
  .below s (Nat.lt_of_sub_eq_succ rfl) (by simp only [Reg.ENC_CMP_CTRL_ARMED]; omega) n

theorem AxisTouch.cmpPassed (n : Nat) (s : State) : AxisTouch a s (s.set (Reg.ENC_CMP_STATUS_PASSED k) n) :=
  .below s (Nat.lt_of_sub_eq_succ rfl) (by simp only [Reg.ENC_CMP_STATUS_PASSED]; omega) n

theorem AxisTouch.cmpHit (pos : Int) (s : State) : AxisTouch a s (s.cmpHit k pos) := by
  have hedge : ∀ u : State, AxisTouch a u (u.dmaCompareEdge k) := fun u =>
    .of_motion (State.dmaEdge_regs u _).motion fun q hq => State.dmaEdge_get _ hq.1 (.inr (by have := hq.2.1; omega))
  have hpulse : ∀ (u : State) g, AxisTouch a u (u.modCmp k g) := fun u g => .of_parts rfl
  exact ((((AxisTouch.cmpHits hk _ s).trans (.cmpFired hk _ _)).trans (.ite (.raiseLimited _ _ _ _ _) (.refl a _))).trans
    (.ite (hpulse _ _) (.refl a _))).trans (hedge _)

theorem AxisTouch.moveCmpPos (pos : Int) (s : State) : AxisTouch a s (s.moveCmpPos k pos) := by
  have hmod : ∀ g, AxisTouch a s (s.modCmp k g) := fun g => .of_parts rfl
  exact ((hmod _).trans (.cmpPosLo hk _ _)).trans (.ite (.refl a _) (.cmpPosHi hk _ _))

theorem AxisTouch.cmpMove (x : Int) (s : State) : AxisTouch a s (s.cmpMove k x) := by
  unfold State.cmpMove
  exact AxisTouch.trans (.moveCmpPos hk _ s) (.cmpMissed hk _ _)

theorem AxisTouch.cmpEval (valid : Bool) (old new : Int) (s : State) : AxisTouch a s (s.cmpEval k valid old new) := by
  have hfire : ∀ u : State, AxisTouch a u (u.cmpFire k new) := by
    intro u
    unfold State.cmpFire
    exact AxisTouch.trans (.cmpHit hk _ u) (.ite (.cmpArmed hk _ _) (.cmpMove hk _ _))
  exact (AxisTouch.ite (.cmpPassed hk _ s) (.refl a s)).trans (.ite (hfire _) (.refl a _))

theorem AxisTouch.cmpEvalOld (src : Nat) (o : CmpOld) (valid : Bool) (old new : Int) (s : State) :
    AxisTouch a s (s.cmpEvalOld k src o valid old new) :=
  (AxisTouch.ite ((AxisTouch.cmpHit hk _ s).trans (.ite (.cmpArmed hk _ _) (.refl a _))) (.refl a s)).trans
    (.ite (.cmpPassed hk _ _) (.refl a _))

end

theorem AxisTouch.cmpEvalAll (src : Nat) (valid : Bool) (old new : Int) (s : State) :
    AxisTouch a s (s.cmpEvalAll src valid old new) := by
  refine AxisTouch.foldl (fun u k hk => ?_) s
  have hk8 := List.mem_range.1 hk
  cases u.cmpOld? k with
  | some o => exact .cmpEvalOld hk8 src o valid old new u
  | none => exact .ite (.cmpEval hk8 valid old new u) (.refl a u)

theorem AxisTouch.loadAngle (a : Nat) (m : AxisMeas) (s : State) : AxisTouch a s (s.loadAngle a m) := by
  have hvalid : ∀ n, AxisTouch a s (s.set (Reg.MOTION_AX_LOAD_ANGLE_VALID a) n) := fun n =>
    .set s (by simp only [Fld.ofAxis, Reg.MOTION_AX_LOAD_ANGLE_VALID]; omega) n
  have hangle : ∀ (u : State) n, AxisTouch a u (u.used.set (Reg.MOTION_AX_LOAD_ANGLE a) n) := fun u n =>
   
    (AxisTouch.of_parts (s := u) (u := u.used) rfl).trans
      (.set (a := a) _ (f := Reg.MOTION_AX_LOAD_ANGLE a) (by simp only [Fld.ofAxis, Reg.MOTION_AX_LOAD_ANGLE]; omega) n)
  exact (hvalid _).trans (.ite (hangle _ _) (.refl a _))

theorem AxisTouch.stallTest (a : Nat) (s : State) : AxisTouch a s (s.stallTest a) := by
  have hstall : ∀ (u : State) n, AxisTouch a u (u.set (Reg.MOTION_AX_STATUS_STALL a) n) := fun u n =>
    .set u (by simp only [Fld.ofAxis, Reg.MOTION_AX_STATUS_STALL]; omega) n
  have hcount : ∀ (u : State) n, AxisTouch a u (u.set (Reg.MOTION_AX_COUNTS_STALLS a) n) := fun u n =>
    .set u (by simp only [Fld.ofAxis, Reg.MOTION_AX_COUNTS_STALLS]; omega) n
  unfold State.stallTest
  refine AxisTouch.trans (.modAxis a s _) (.ite (.refl a _) ?_)
  exact ((((((AxisTouch.modAxis a _ _).trans (.stopNow a none _)).trans (.modAxis a _ _)).trans (hstall _ _)).trans
    (.lost a _ _)).trans (hcount _ _)).trans (.raise _ _ _ _)

theorem AxisTouch.followIndex (a : Nat) (s : State) : AxisTouch a s (s.followIndex a) :=
  .ite (.refl a s) ((AxisTouch.modAxis a s _).trans (.modAxis a _ _))

theorem AxisTouch.chopWakes (a : Nat) (s : State) : AxisTouch a s (s.chopWakes a) := by
  have hwake : ∀ (u : State) (onB : Bool), AxisTouch a u (u.chopWake a onB) := fun u onB => .ite (.modAxis a u _) (.refl a u)
  exact (hwake s false).trans (hwake _ true)

/-! ### The update -/

/-- An axis whose record is in force, and its pending stop or its next move taken. -/
def State.axisTaken (s : State) (a : Nat) : State :=
  let s := (s.axisNote a).modAxis a (fun x => { x with record := s.axisRecord a })
  match (s.axis a).stop with
  | some m => s.takeStop a m
  | none => s.takeNext a

/-- MOVING ends the hold, and the axis shows. -/
def State.axisHeld (s : State) (a : Nat) : State :=
  (if s.moving a then (s.modAxis a (fun x => { x with restAt := none })).setB (Reg.MOTION_AX_STATUS_HOLD a) false
    else s).showAxis a

/-- What follows the position of an axis: compare units, the load angle, the stall test, and the choppers. -/
def State.axisFollows (s : State) (a : Nat) (m : AxisMeas) (old : Int) : State :=
  ((((s.cmpEvalAll (4 + a) true old (s.axisPos a)).loadAngle a m).stallTest a).followIndex a).chopWakes a

theorem State.axisUpdate_eq (s : State) (a : Nat) (m : AxisMeas) : s.axisUpdate a m =
    ((((s.axisTaken a).modAxis a (fun x => { x with pOld := x.p })).axisRun a).axisHeld a).axisFollows a m (s.axisPos a) := rfl

theorem AxisTouch.axisTaken (a : Nat) (s : State) : AxisTouch a s (s.axisTaken a) := by
  have hrec : AxisTouch a s ((s.axisNote a).modAxis a (fun x => { x with record := s.axisRecord a })) :=
    (AxisTouch.axisNote a s).trans (.modAxis a _ _)
  unfold State.axisTaken
  dsimp only
  split
  · exact hrec.trans (.takeStop a _ _)
  · exact hrec.trans (.takeNext a _)

theorem AxisTouch.axisHeld (a : Nat) (s : State) : AxisTouch a s (s.axisHeld a) := by
  have hhold : ∀ (u : State) n, AxisTouch a u (u.set (Reg.MOTION_AX_STATUS_HOLD a) n) := fun u n =>
    .set u (by simp only [Fld.ofAxis, Reg.MOTION_AX_STATUS_HOLD]; omega) n
  exact (AxisTouch.ite ((AxisTouch.modAxis a s _).trans (hhold _ _)) (.refl a s)).trans (.showAxis a _)

theorem AxisTouch.axisFollows (a : Nat) (m : AxisMeas) (old : Int) (s : State) : AxisTouch a s (s.axisFollows a m old) :=
  ((((AxisTouch.cmpEvalAll _ _ _ _ s).trans (.loadAngle a m _)).trans (.stallTest a _)).trans (.followIndex a _)).trans
    (.chopWakes a _)

theorem AxisTouch.axisUpdate (a : Nat) (m : AxisMeas) (s : State) : AxisTouch a s (s.axisUpdate a m) := by
  rw [State.axisUpdate_eq]
  exact ((((AxisTouch.axisTaken a s).trans (.modAxis a _ _)).trans (.axisRun a _)).trans (.axisHeld a _)).trans
    (.axisFollows a m _ _)

/-! ### An axis at rest -/

/-- An axis stands at a position. -/
structure Still (a : Nat) (p : Int) (s : State) : Prop where
  here : a < s.motion.axes.length
  pos : (s.axis a).p = p
  old : (s.axis a).pOld = p

section
variable {p : Int}

theorem Still.of_motion (h : Still a p s) (hm : u.motion = s.motion) : Still a p u := by
  obtain ⟨hl, hp, ho⟩ := h
  refine ⟨by rw [hm]; exact hl, ?_, ?_⟩ <;> (unfold State.axis; rw [hm])
  · exact hp
  · exact ho

theorem Still.set (h : Still a p s) (f : Fld) (n : Nat) : Still a p (s.set f n) := h.of_motion rfl

theorem Still.raise (h : Still a p s) (c n : Nat) (l : List Byte) : Still a p (s.raise c n l) :=
  h.of_motion (State.raise_motion ..)

theorem Still.modAxis (h : Still a p s) {f : Axis → Axis} (hp : ∀ x, (f x).p = x.p)
    (ho : ∀ x, x.p = p → x.pOld = p → (f x).pOld = p) : Still a p (s.modAxis a f) := by
  have hx := State.axis_modAxis_same s f h.here
  exact ⟨(modAt_length _ _ _).symm ▸ h.here, by rw [hx, hp, h.pos], by rw [hx, ho _ h.pos h.old]⟩

/-- A change of an axis that leaves its position. -/
theorem Still.keeps (h : Still a p s) {f : Axis → Axis} (hp : ∀ x, (f x).p = x.p := by intro _; rfl)
    (ho : ∀ x, (f x).pOld = x.pOld := by intro _; rfl) : Still a p (s.modAxis a f) := h.modAxis hp fun x _ hx => (ho x).trans hx

theorem Still.ite {c : Prop} [Decidable c] (hu : Still a p u) (hv : Still a p v) : Still a p (if c then u else v) := by
  split
  · exact hu
  · exact hv

theorem Still.regs (h : Still a p s) (hr : RegsOnly s u) : Still a p u := h.of_motion hr.motion

/-- What touches another axis leaves this one. -/
theorem Still.touch {b : Nat} (h : Still a p s) (ht : AxisTouch b s u) (hb : a ≠ b) : Still a p u := by
  have hx := ht.other a hb
  exact ⟨by rw [ht.length]; exact h.here, by rw [hx, h.pos], by rw [hx, h.old]⟩

theorem Still.barEnds (h : Still a p s) (b : Nat) : Still a p (s.barEnds b) := h.of_motion rfl

theorem Still.axisRest (h : Still a p s) : Still a p (s.axisRest a) := (h.keeps.set _ _).barEnds a

theorem Still.dropShadow (h : Still a p s) : Still a p (s.dropShadow a) :=
  (Still.ite (h.set _ _) h).keeps

theorem Still.endAll (h : Still a p s) : Still a p (s.endAll a) :=
  ((h.dropShadow.modAxis (by intro _; rfl) (by intro _ hp _; exact hp)).set _ _).axisRest

theorem Still.stopNow (h : Still a p s) : Still a p (s.stopNow a none) :=
  (Still.ite (h.endAll.set _ _) h.endAll).regs (BitsKept.showAxis a _).regs

theorem Still.stallTest (h : Still a p s) : Still a p (s.stallTest a) :=
  .ite h.keeps (((((h.keeps.keeps.stopNow.keeps).set _ _).set _ _).set _ _).raise _ _ _)

theorem Still.followIndex (h : Still a p s) : Still a p (s.followIndex a) :=
  .ite h ((h.keeps).keeps)

theorem Still.modChop (h : Still a p s) (onB : Bool) (f : Chop → Chop) : Still a p (s.modChop a onB f) := by
  cases onB
  · exact h.keeps
  · exact h.keeps

theorem Still.chopStart (h : Still a p s) (onB : Bool) : Still a p (s.chopStart a onB) := by
  unfold State.chopStart
  exact h.modChop onB _

theorem Still.used (h : Still a p s) : Still a p s.used := h.of_motion rfl

theorem Still.chopWakes (h : Still a p s) : Still a p (s.chopWakes a) := by
  have hwake : ∀ {u : State} (onB : Bool), Still a p u → Still a p (u.chopWake a onB) := fun onB hu =>
    .ite (hu.chopStart onB) hu
  exact hwake true (hwake false h)

theorem Still.axisFollows (h : Still a p s) (m : AxisMeas) (old : Int) : Still a p (s.axisFollows a m old) := by
  have hcmp : Still a p (s.cmpEvalAll (4 + a) true old (s.axisPos a)) := h.touch (AxisTouch.cmpEvalAll (a := a + 1) _ _ _ _ s) (by omega)
  have hload : ∀ {u : State}, Still a p u → Still a p (u.loadAngle a m) := fun hu =>
    .ite ((hu.set _ _).used.set _ _) (hu.set _ _)
  exact (hload hcmp).stallTest.followIndex.chopWakes

/-- An axis with nothing pending: at rest, no next move, no stop asked for, and no table that waits. -/
structure Idle (a : Nat) (s : State) : Prop where
  rest : (s.axis a).run = .rest
  next : (s.axis a).next = none
  stop : (s.axis a).stop = none
  wait : s.flag (Reg.MOTION_AX_STATUS_WAIT_TRIG a) = false
  table : s.get (Reg.MOTION_AX_TABLE_SHADOW a) ≠ 2

/-- The update of an axis at rest with nothing pending leaves it where it stands. -/
theorem Idle.axisUpdate (h : Idle a s) (ha : a < s.motion.axes.length) (m : AxisMeas) :
    Still a (s.axis a).p (s.axisUpdate a m) := by
  obtain ⟨hrest, hnext, hstop, hwait, htable⟩ := h
  have hnote : a < (s.axisNote a).motion.axes.length := (modAt_length _ _ _).symm ▸ ha
  have hrec : ((s.axisNote a).modAxis a (fun x => { x with record := s.axisRecord a })).axis a =
      { s.axis a with record := s.axisRecord a, hist := (s.axis a).hist.filter (fun h => decide (s.now < h.1 + 801)) ++
        [(s.now, (s.axis a).position)] } := by
    rw [State.axis_modAxis_same _ _ hnote, State.axisNote, State.axis_modAxis_same _ _ ha]
  have htaken : s.axisTaken a = (s.axisNote a).modAxis a (fun x => { x with record := s.axisRecord a }) := by
    unfold State.axisTaken
    dsimp only
    rw [hrec, hstop]
    dsimp only
    unfold State.takeNext
    dsimp only
    rw [hrec, if_neg (by simp [State.axisNote, hwait]), hnext]
    exact if_neg fun hx => htable (by simpa [State.tableDue, State.axisNote] using hx.2)
  have hstill : Still a (s.axis a).p ((s.axisTaken a).modAxis a (fun x => { x with pOld := x.p })) := by
    have hlen : a < (s.axisTaken a).motion.axes.length := by rw [htaken]; exact (modAt_length _ _ _).symm ▸ hnote
    have hx := State.axis_modAxis_same (s.axisTaken a) (fun x => { x with pOld := x.p }) hlen
    rw [htaken, hrec] at hx
    exact ⟨(modAt_length _ _ _).symm ▸ hlen, by rw [htaken, hx], by rw [htaken, hx]⟩
  have hrun : (((s.axisTaken a).modAxis a (fun x => { x with pOld := x.p })).axis a).run = .rest := by
    have hlen : a < (s.axisTaken a).motion.axes.length := by rw [htaken]; exact (modAt_length _ _ _).symm ▸ hnote
    rw [State.axis_modAxis_same _ _ hlen, htaken, hrec]
    exact hrest
  rw [State.axisUpdate_eq]
  generalize (s.axisTaken a).modAxis a (fun x => { x with pOld := x.p }) = w at hstill hrun
  have hsame : w.axisRun a = w := by unfold State.axisRun; rw [hrun]
  rw [hsame]
  refine Still.axisFollows ?_ m _
  exact (Still.ite ((hstill.keeps).set _ _) hstill).regs (BitsKept.showAxis a _).regs

end

end Sys2Proof.Machine
end

section
/-! SUPPORT. The update of the four axes, the microstep index, and the levels of the switches. -/

namespace Sys2Proof.Machine

variable {s u v : State} {a k : Nat}

/-! ### The axes one after another -/

/-- The update of another axis leaves an axis idle. -/
theorem Idle.touch {b : Nat} (h : Idle a s) (ht : AxisTouch b s u) (hab : a ≠ b) : Idle a u := by
  have hx := ht.other a hab
  have hwait : (Reg.MOTION_AX_STATUS_WAIT_TRIG a).offAxis b := by
    simp only [Fld.offAxis, Reg.MOTION_AX_STATUS_WAIT_TRIG]; omega
  have htable : (Reg.MOTION_AX_TABLE_SHADOW a).offAxis b := by
    simp only [Fld.offAxis, Reg.MOTION_AX_TABLE_SHADOW]; omega
  obtain ⟨hrest, hnext, hstop, hw, htab⟩ := h
  exact ⟨by rw [hx, hrest], by rw [hx, hnext], by rw [hx, hstop], by unfold State.flag; rw [ht.get _ hwait]; exact hw,
    by rw [ht.get _ htable]; exact htab⟩

/-- The updates of axes in order. -/
def State.axisUpdates (s : State) (meas : Nat → AxisMeas) (l : List Nat) : State :=
  l.foldl (fun s a => s.axisUpdate a (meas a)) s

theorem State.axisUpdates_cons (meas : Nat → AxisMeas) (b : Nat) (l : List Nat) (s : State) :
    s.axisUpdates meas (b :: l) = (s.axisUpdate b (meas b)).axisUpdates meas l := by
  unfold State.axisUpdates
  exact List.foldl_cons ..

theorem Still.axisUpdates {p : Int} {meas : Nat → AxisMeas} {l : List Nat} (ha : a ∉ l) :
    ∀ {s : State}, Still a p s → Still a p (s.axisUpdates meas l) := by
  induction l with
  | nil => exact fun h => h
  | cons b l ih =>
    intro s h
    obtain ⟨hab, hl⟩ := not_or.1 (mt List.mem_cons.2 ha)
    rw [State.axisUpdates_cons]
    exact ih hl (h.touch (.axisUpdate b _ _) hab)

/-- An idle axis stands still through the updates of all. -/
theorem Idle.axisUpdates {meas : Nat → AxisMeas} {l : List Nat} (hd : l.Nodup) (hin : a ∈ l) :
    ∀ {s : State}, Idle a s → a < s.motion.axes.length → Still a (s.axis a).p (s.axisUpdates meas l) := by
  induction l with
  | nil => cases hin
  | cons b l ih =>
    intro s hi hlen
    have ht := AxisTouch.axisUpdate b (meas b) s
    obtain ⟨hb, hd⟩ := List.nodup_cons.1 hd
    rw [State.axisUpdates_cons]
    by_cases hab : a = b
    · subst hab
      exact .axisUpdates hb (hi.axisUpdate hlen (meas a))
    · have hrest := ih hd ((List.mem_cons.1 hin).resolve_left hab) (hi.touch ht hab) (by rw [ht.length]; exact hlen)
      rwa [ht.other a hab] at hrest

/-- The updates leave the instant of the last one. -/
theorem State.axisUpdates_updateAt (meas : Nat → AxisMeas) (l : List Nat) :
    ∀ s : State, (s.axisUpdates meas l).motion.updateAt = s.motion.updateAt := by
  induction l with
  | nil => intro s; rfl
  | cons b l ih =>
    intro s
    rw [State.axisUpdates_cons, ih]
    exact (AxisTouch.axisUpdate b (meas b) s).updateAt

/-! ### Switches (R308) -/

theorem State.swActive_level (s : State) (k : Nat) (level : Bool) (f : Switch → Switch) :
    ((s.setB (Reg.MOTION_SW_STATUS_LEVEL k) level).modSwitch k f).swActive k =
      (level != s.flag (Reg.MOTION_SW_CTRL_EDGE k)) := by
  unfold State.swActive
  rw [State.modSwitch_flag, State.modSwitch_flag, State.flag_setB_same _ _ _ (by simp [Reg.MOTION_SW_STATUS_LEVEL]),
    State.flag_setB_other]
  simp only [Fld.key, Reg.MOTION_SW_CTRL_EDGE, Reg.MOTION_SW_STATUS_LEVEL]; omega

/-- The level shown, and the switch no longer fresh. -/
def State.swShown (s : State) (k : Nat) (level : Bool) : State :=
  (s.setB (Reg.MOTION_SW_STATUS_LEVEL k) level).modSwitch k (fun x => { x with fresh := false })

/-- A switch goes inactive: it is armed, and nothing counts toward stuck. -/
theorem State.swLevel_idle {level : Bool} (h : level = s.flag (Reg.MOTION_SW_CTRL_EDGE k)) : s.swLevel k level =
    ((s.swShown k level).setB (Reg.MOTION_SW_STATUS_ARMED k) true).modSwitch k (fun x => { x with since := none }) := by
  unfold State.swLevel
  exact if_pos (by rw [State.swActive_level, h]; simp)

/-- A switch is active at its first level: it is left unarmed. -/
theorem State.swLevel_fresh {level : Bool} (h : level ≠ s.flag (Reg.MOTION_SW_CTRL_EDGE k))
    (hf : (s.motion.switches.getD k ⟨true, none⟩).fresh = true) :
    s.swLevel k level = (s.swShown k level).setB (Reg.MOTION_SW_STATUS_ARMED k) false := by
  unfold State.swLevel
  exact (if_neg (by rw [State.swActive_level]; simpa using h)).trans (if_pos hf)

/-- An armed switch becomes active: what it limits stops, and it latches. -/
theorem State.swLevel_latches {level : Bool} (h : level ≠ s.flag (Reg.MOTION_SW_CTRL_EDGE k))
    (hf : (s.motion.switches.getD k ⟨true, none⟩).fresh = false) (hw : s.swActive k = false)
    (ha : s.flag (Reg.MOTION_SW_STATUS_ARMED k) = true) :
    s.swLevel k level = ((s.swShown k level).limitStops k).swLatch k := by
  unfold State.swLevel
  refine (if_neg (by rw [State.swActive_level]; simpa using h)).trans ((if_neg (fun hx => by rw [hf] at hx; cases hx)).trans ?_)
  rw [hw, ha]
  rfl

/-- A field of a switch. -/
abbrev Fld.ofSwitch (k : Nat) (f : Fld) : Prop := f.lo < 32 ∧ 0x180800 + 128 * k ≤ f.addr ∧ f.addr < 0x180800 + 128 * (k + 1)

theorem Fld.ofSwitch.notEvent {f : Fld} (hf : f.ofSwitch k) : f.key ∉ eventFields := by
  obtain ⟨hlo, h1, -⟩ := hf
  simp only [eventFields, List.mem_cons, List.not_mem_nil, or_false, Fld.key, Reg.LOG_STATUS_DROPPED,
    Reg.CMD_ERR_COUNT_EVT_LOST]
  omega

/-- What stopping axes and counting at a switch leave: the job, time, and the fields of another kind. -/
structure SwitchKeeps (q : Fld) (s u : State) : Prop where
  job : u.job = s.job
  time : u.time = s.time
  get : u.get q = s.get q

section
variable {q : Fld}

theorem SwitchKeeps.refl (s : State) : SwitchKeeps q s s := ⟨rfl, rfl, rfl⟩

theorem SwitchKeeps.trans (h : SwitchKeeps q s u) (k : SwitchKeeps q u v) : SwitchKeeps q s v :=
  ⟨k.job.trans h.job, k.time.trans h.time, k.get.trans h.get⟩

theorem SwitchKeeps.ite {c : Prop} [Decidable c] (hu : SwitchKeeps q s u) (hv : SwitchKeeps q s v) :
    SwitchKeeps q s (if c then u else v) := by
  split
  · exact hu
  · exact hv

theorem SwitchKeeps.set (s : State) {f : Fld} (h : q.key ≠ f.key) (n : Nat) : SwitchKeeps q s (s.set f n) :=
  ⟨rfl, rfl, State.get_set_other s h n⟩

theorem SwitchKeeps.raise (s : State) (h : q.key ∉ eventFields) (c n : Nat) (l : List Byte) : SwitchKeeps q s (s.raise c n l) :=
  ⟨State.raise_job .., State.raise_time .., State.raise_get s c n l h⟩

theorem SwitchKeeps.askStop (s : State) (a m : Nat) : SwitchKeeps q s (s.askStop a m) := ⟨rfl, rfl, rfl⟩

theorem SwitchKeeps.foldl {f : State → Nat → State} {l : List Nat} (hf : ∀ u, ∀ a ∈ l, SwitchKeeps q u (f u a)) (s : State) :
    SwitchKeeps q s (l.foldl f s) :=
  List.foldlRecOn (motive := SwitchKeeps q s) l f (.refl s) fun u hu a ha => hu.trans (hf u a ha)

theorem SwitchKeeps.limitStops (hq : q.ofSwitch k) (j : Nat) (s : State) : SwitchKeeps q s (s.limitStops j) := by
  refine .foldl (fun u a ha => .ite (.trans (.set u ?_ _) (.askStop _ a 1)) (.refl u)) s
  have ha4 := List.mem_range.1 ha
  obtain ⟨hlo, h1, -⟩ := hq
  split
  · simp only [Fld.key, Reg.MOTION_AX_STATUS_LIMIT_NEG]; omega
  · simp only [Fld.key, Reg.MOTION_AX_STATUS_LIMIT_POS]; omega

theorem SwitchKeeps.latchStops (j : Nat) (s : State) : SwitchKeeps q s (s.latchStops j) :=
  .foldl (fun u _ _ => .ite (.askStop u _ _) (.refl u)) s

end

/-- The captures of a latch: the eight sources at the instant of the first sample. -/
def State.swCaps (s : State) (k : Nat) (caps : List Int) : State :=
  (List.range 8).foldl (fun s i =>
    (s.set (Reg.MOTION_SW_CAP_LO k i) (pat 64 (caps.getD i 0))).set (Reg.MOTION_SW_CAP_HI k i) (pat 64 (caps.getD i 0) / 2 ^ 32)) s

/-- What a latch shows. -/
def State.swShows (s : State) (k t : Nat) (caps : List Int) (inv : Nat) : State :=
  let s := ((s.swCaps k caps).set (Reg.MOTION_SW_CAP_TB1 k) (stepsNs t)).set (Reg.MOTION_SW_STATUS_ENC_INVALID k) inv
  ((s.setB (Reg.MOTION_SW_STATUS_LATCHED k) true).inc (Reg.MOTION_SW_LATCHES k)).setB (Reg.MOTION_SW_STATUS_ARMED k) false

/-- A latch but for the arming of a job that waits for it. -/
def State.swLatched (s : State) (k : Nat) : State :=
  let t := s.now - 800
  let caps := (List.range 8).map (fun i => s.sourceAt i t)
  let s := s.swShows k t caps ((List.range 4).foldl (fun m e => if (s.encAt e t).2 then m + 2 ^ e else m) 0)
  let s := s.modSwitch k (fun x => { x with since := some s.now })
  (s.raise evSwitchLatch 0 (leBytes 8 k ++ leInt 8 (caps.getD (s.get (Reg.MOTION_SW_CTRL_LATCH_SRC k)) 0))).latchStops k

/-- A latch, where no job waits for one. -/
theorem State.swLatch_plain (h : (s.swLatched k).job.queued = none) : s.swLatch k = s.swLatched k := by
  have hmatch : s.swLatch k = match (s.swLatched k).job.queued with
      | some j => (s.swLatched k).armLatch k (((List.range 8).map (fun i => s.sourceAt i (s.now - 800))).getD
          ((s.swLatched k).encOf (j.planeList.headD 0)) 0)
      | none => s.swLatched k := by
    unfold State.swLatch State.swLatched State.swShows State.swCaps
    rfl
  rw [hmatch, h]

end Sys2Proof.Machine
end

section
/-! SUPPORT. A latch of a switch, and the events of the axes. -/

namespace Sys2Proof.Machine

variable {s u : State} {k t : Nat} {q : Fld} {caps : List Int} {inv : Nat}

/-- The captures of a latch leave the other fields. -/
theorem SwitchKeeps.swCaps (hq : ∀ i, q.key ≠ (Reg.MOTION_SW_CAP_LO k i).key ∧ q.key ≠ (Reg.MOTION_SW_CAP_HI k i).key)
    (caps : List Int) (s : State) : SwitchKeeps q s (s.swCaps k caps) :=
  .foldl (fun u i _ => .trans (.set u (hq i).1 _) (.set _ (hq i).2 _)) s

/-- What a latch shows leaves the level. -/
theorem State.level_swShows (s : State) (k t : Nat) (caps : List Int) (inv : Nat) :
    (s.swShows k t caps inv).get (Reg.MOTION_SW_STATUS_LEVEL k) = s.get (Reg.MOTION_SW_STATUS_LEVEL k) := by
  have hcaps := SwitchKeeps.swCaps (q := Reg.MOTION_SW_STATUS_LEVEL k) (k := k) (fun i => by
    simp only [Fld.key, Reg.MOTION_SW_STATUS_LEVEL, Reg.MOTION_SW_CAP_LO, Reg.MOTION_SW_CAP_HI]; omega) caps s
  unfold State.swShows State.inc
  rw [State.get_setB_other, State.get_set_other, State.get_setB_other, State.get_set_other, State.get_set_other, hcaps.get] <;>
    (simp only [Fld.key, Reg.MOTION_SW_STATUS_LEVEL, Reg.MOTION_SW_STATUS_ARMED, Reg.MOTION_SW_LATCHES,
      Reg.MOTION_SW_STATUS_LATCHED, Reg.MOTION_SW_STATUS_ENC_INVALID, Reg.MOTION_SW_CAP_TB1]; omega)

theorem State.armed_swShows (s : State) (k t : Nat) (caps : List Int) (inv : Nat) :
    (s.swShows k t caps inv).get (Reg.MOTION_SW_STATUS_ARMED k) = 0 := by
  unfold State.swShows State.setB
  rw [State.get_set_same]
  rfl

theorem State.latched_swShows (s : State) (k t : Nat) (caps : List Int) (inv : Nat) :
    (s.swShows k t caps inv).get (Reg.MOTION_SW_STATUS_LATCHED k) = 1 := by
  unfold State.swShows State.inc State.setB
  rw [State.get_set_other, State.get_set_other, State.get_set_same]
  · rfl
  · simp only [Fld.key, Reg.MOTION_SW_STATUS_LATCHED, Reg.MOTION_SW_LATCHES]; omega
  · simp only [Fld.key, Reg.MOTION_SW_STATUS_LATCHED, Reg.MOTION_SW_STATUS_ARMED]; omega

theorem State.latches_swShows (s : State) (k t : Nat) (caps : List Int) (inv : Nat) :
    (s.swShows k t caps inv).get (Reg.MOTION_SW_LATCHES k) =
      (s.get (Reg.MOTION_SW_LATCHES k) + 1) % 2 ^ (Reg.MOTION_SW_LATCHES k).w := by
  have hcaps := SwitchKeeps.swCaps (q := Reg.MOTION_SW_LATCHES k) (k := k) (fun i => by
    simp only [Fld.key, Reg.MOTION_SW_LATCHES, Reg.MOTION_SW_CAP_LO, Reg.MOTION_SW_CAP_HI]; omega) caps s
  unfold State.swShows State.inc
  rw [State.get_setB_other, State.get_set_same, State.get_setB_other, State.get_set_other, State.get_set_other, hcaps.get]
  · rfl
  all_goals
    simp only [Fld.key, Reg.MOTION_SW_STATUS_ARMED, Reg.MOTION_SW_LATCHES, Reg.MOTION_SW_STATUS_LATCHED,
      Reg.MOTION_SW_STATUS_ENC_INVALID, Reg.MOTION_SW_CAP_TB1]; omega

theorem State.capTb1_swShows (s : State) (k t : Nat) (caps : List Int) (inv : Nat) :
    (s.swShows k t caps inv).get (Reg.MOTION_SW_CAP_TB1 k) = low (Reg.MOTION_SW_CAP_TB1 k).w (stepsNs t) := by
  unfold State.swShows State.inc
  rw [State.get_setB_other, State.get_set_other, State.get_setB_other, State.get_set_other, State.get_set_same] <;>
    (simp only [Fld.key, Reg.MOTION_SW_STATUS_ARMED, Reg.MOTION_SW_LATCHES, Reg.MOTION_SW_STATUS_LATCHED,
      Reg.MOTION_SW_STATUS_ENC_INVALID, Reg.MOTION_SW_CAP_TB1]; omega)

/-- What a latch shows leaves the job and time. -/
theorem State.swShows_job (s : State) (k t : Nat) (caps : List Int) (inv : Nat) : (s.swShows k t caps inv).job = s.job := by
  have hcaps := SwitchKeeps.swCaps (q := Reg.MOTION_SW_LATCHES k) (k := k) (fun i => by
    simp only [Fld.key, Reg.MOTION_SW_LATCHES, Reg.MOTION_SW_CAP_LO, Reg.MOTION_SW_CAP_HI]; omega) caps s
  unfold State.swShows
  rw [State.setB_job, State.inc_job, State.setB_job, State.set_job, State.set_job, hcaps.job]

/-- What follows the captures of a latch leaves the fields of the switch. -/
theorem SwitchKeeps.latch (hq : q.ofSwitch k) (f : Switch → Switch) (c n : Nat) (l : List Byte) (s : State) :
    SwitchKeeps q s (((s.modSwitch k f).raise c n l).latchStops k) := by
  have hmod : SwitchKeeps q s (s.modSwitch k f) := ⟨rfl, rfl, rfl⟩
  exact (hmod.trans (.raise _ hq.notEvent c n l)).trans (.latchStops k _)

/-- A latch shows its captures and its count, and leaves the job. -/
theorem State.swLatched_shows (s : State) (k : Nat) : ∃ caps inv, (s.swLatched k).job = s.job ∧
    ∀ f : Fld, f.ofSwitch k → (s.swLatched k).get f = (s.swShows k (s.now - 800) caps inv).get f := by
  refine ⟨(List.range 8).map (fun i => s.sourceAt i (s.now - 800)),
    (List.range 4).foldl (fun m e => if (s.encAt e (s.now - 800)).2 then m + 2 ^ e else m) 0, ?_⟩
  unfold State.swLatched
  dsimp only
  rw [← State.swShows_job s k (s.now - 800) ((List.range 8).map (fun i => s.sourceAt i (s.now - 800)))
    ((List.range 4).foldl (fun m e => if (s.encAt e (s.now - 800)).2 then m + 2 ^ e else m) 0)]
  generalize s.swShows k (s.now - 800) _ _ = w
  have hlevel : (Reg.MOTION_SW_STATUS_LEVEL k).ofSwitch k := by simp only [Fld.ofSwitch, Reg.MOTION_SW_STATUS_LEVEL]; omega
  exact ⟨(SwitchKeeps.latch hlevel _ _ _ _ w).job, fun f hf => (SwitchKeeps.latch hf _ _ _ _ w).get⟩

/-- What a level shows, and no axis. -/
theorem State.level_swShown (s : State) (k : Nat) (level : Bool) :
    (s.swShown k level).get (Reg.MOTION_SW_STATUS_LEVEL k) = level.toNat := by
  unfold State.swShown State.setB
  rw [State.modSwitch_get, State.get_set_same]
  cases level <;> rfl

theorem Fld.ofSwitch_level (k : Nat) : (Reg.MOTION_SW_STATUS_LEVEL k).ofSwitch k := by
  simp only [Fld.ofSwitch, Reg.MOTION_SW_STATUS_LEVEL]; omega

/-- The level shown, as a flag. -/
theorem State.flag_of_toNat {f : Fld} {b : Bool} (h : s.get f = b.toNat) : s.flag f = b := by
  unfold State.flag
  rw [h]
  cases b <;> rfl

/-- A switch latches: its registers, with the job left. -/
theorem State.swLevel_latch {level : Bool} (h : level ≠ s.flag (Reg.MOTION_SW_CTRL_EDGE k))
    (hf : (s.motion.switches.getD k ⟨true, none⟩).fresh = false) (hw : s.swActive k = false)
    (ha : s.flag (Reg.MOTION_SW_STATUS_ARMED k) = true) (hq : s.job.queued = none) :
    (s.swLevel k level).flag (Reg.MOTION_SW_STATUS_LEVEL k) = level ∧
      (s.swLevel k level).get (Reg.MOTION_SW_STATUS_ARMED k) = 0 ∧
      (s.swLevel k level).get (Reg.MOTION_SW_STATUS_LATCHED k) = 1 ∧ (s.swLevel k level).job = s.job ∧
      (s.swLevel k level).get (Reg.MOTION_SW_LATCHES k) =
        (s.get (Reg.MOTION_SW_LATCHES k) + 1) % 2 ^ (Reg.MOTION_SW_LATCHES k).w ∧
      (s.swLevel k level).get (Reg.MOTION_SW_CAP_TB1 k) = low (Reg.MOTION_SW_CAP_TB1 k).w (stepsNs (s.now - 800)) := by
  have hlimit := fun q (hq : Fld.ofSwitch k q) => SwitchKeeps.limitStops hq k (s.swShown k level)
  have hlevel := hlimit _ (Fld.ofSwitch_level k)
  have hnow : ((s.swShown k level).limitStops k).now = s.now := congrArg TimeSt.now hlevel.time
  have hjob : ((s.swShown k level).limitStops k).job = s.job := hlevel.job
  obtain ⟨caps, inv, hkeep, hget⟩ := State.swLatched_shows ((s.swShown k level).limitStops k) k
  rw [hjob] at hkeep
  rw [State.swLevel_latches h hf hw ha, State.swLatch_plain (by rw [hkeep, hq])]
  rw [hnow] at hget
  have hlatches : (Reg.MOTION_SW_LATCHES k).ofSwitch k := by simp only [Fld.ofSwitch, Reg.MOTION_SW_LATCHES]; omega
  have hshown : (s.swShown k level).get (Reg.MOTION_SW_LATCHES k) = s.get (Reg.MOTION_SW_LATCHES k) :=
    State.get_setB_other _ (by simp only [Fld.key, Reg.MOTION_SW_LATCHES, Reg.MOTION_SW_STATUS_LEVEL]; omega) _
  refine ⟨State.flag_of_toNat ?_, ?_, ?_, hkeep, ?_, ?_⟩
  · rw [hget _ (Fld.ofSwitch_level k), State.level_swShows, hlevel.get, State.level_swShown]
  · rw [hget _ (by simp only [Fld.ofSwitch, Reg.MOTION_SW_STATUS_ARMED]; omega), State.armed_swShows]
  · rw [hget _ (by simp only [Fld.ofSwitch, Reg.MOTION_SW_STATUS_LATCHED]; omega), State.latched_swShows]
  · rw [hget _ hlatches, State.latches_swShows, (hlimit _ hlatches).get, hshown]
  · rw [hget _ (by simp only [Fld.ofSwitch, Reg.MOTION_SW_CAP_TB1]; omega), State.capTb1_swShows]

/-- The motion of a block whose level has been shown. -/
theorem State.swLevel_idle_motion {level : Bool} (h : level = s.flag (Reg.MOTION_SW_CTRL_EDGE k))
    (hk : k < s.motion.switches.length) :
    (s.swLevel k level).motion.switches.getD k ⟨true, none⟩ = ⟨false, none⟩ := by
  rw [State.swLevel_idle h]
  show (modAt _ k (modAt _ k s.motion.switches)).getD k _ = _
  rw [modAt_getD_same _ _ _ _ (by rw [modAt_length]; exact hk), modAt_getD_same _ _ _ _ hk]

/-- The updates of the four axes at an instant. -/
def State.profiled (s : State) (meas : List AxisMeas) : State :=
  (List.range 4).foldl (fun s a => s.axisUpdate a (meas.getD a ⟨0, 0, 0, 0, 0, 0, 0, 0⟩))
    { s with motion := { s.motion with updateAt := s.now } }

theorem State.profiled_eq (s : State) (meas : List AxisMeas) : s.profiled meas =
    { s with motion := { s.motion with updateAt := s.now } }.axisUpdates
      (fun a => meas.getD a ⟨0, 0, 0, 0, 0, 0, 0, 0⟩) (List.range 4) := by
  unfold State.profiled State.axisUpdates
  rfl

theorem State.profiled_updateAt (s : State) (meas : List AxisMeas) : (s.profiled meas).motion.updateAt = s.now := by
  rw [State.profiled_eq, State.axisUpdates_updateAt]

theorem exec_profileUpdate (hl : Live s) (meas : List AxisMeas) (t : Nat) :
    exec (.profileUpdate meas t) s = .next ((s.elapse t).profiled meas) := by
  refine (eventAwake_live (f := fun s => s.profiled meas) (s := s) hl)

/-- An axis with nothing pending stands still through a profile update. -/
theorem State.profiled_idle {a : Nat} (hi : Idle a s) (ha : a < 4) (hlen : s.motion.axes.length = 4) (meas : List AxisMeas) :
    Still a (s.axis a).p (s.profiled meas) := by
  rw [State.profiled_eq]
  have hrange := List.mem_range.2 ha
  obtain ⟨hrest, hnext, hstop, hwait, htable⟩ := hi
  have hi' : Idle a { s with motion := { s.motion with updateAt := s.now } } := ⟨hrest, hnext, hstop, hwait, htable⟩
  exact hi'.axisUpdates List.nodup_range hrange (by rw [← hlen] at ha; exact ha)

/-- A switch active for its time raises its event, once. -/
theorem exec_evtSwitchStuck (hl : Live s) {k : Fin 8} {a t : Nat}
    (hsince : (s.motion.switches.getD k ⟨true, none⟩).since = some a) (hms : s.get (Reg.MOTION_SW_CTRL_STUCK_MS k) ≠ 0)
    (hdue : a + s.get (Reg.MOTION_SW_CTRL_STUCK_MS k) * 800000 ≤ (s.elapse t).now) :
    exec (.evtSwitchStuck k t) s = .next ((((s.elapse t).modSwitch k (fun x => { x with since := none })).setB
      (Reg.MOTION_SW_STATUS_STUCK k) true).raise evSwitchStuck 0 (leBytes 1 k)) := by
  have hguard : (s.get (Reg.MOTION_SW_CTRL_STUCK_MS k) != 0 &&
      decide (a + s.get (Reg.MOTION_SW_CTRL_STUCK_MS k) * 800000 ≤ (s.elapse t).now)) = true := by
    rw [Bool.and_eq_true, bne_iff_ne, decide_eq_true_iff]
    exact ⟨hms, hdue⟩
  have hexec : exec (.evtSwitchStuck k t) s = eventAwake t (fun s =>
      s.when (s.get (Reg.MOTION_SW_CTRL_STUCK_MS k) != 0 &&
        (match (s.motion.switches.getD k ⟨true, none⟩).since with
          | some a => decide (a + s.get (Reg.MOTION_SW_CTRL_STUCK_MS k) * msSteps ≤ s.now)
          | none => false))
        (fun s => ((s.modSwitch k (fun x => { x with since := none })).setB (Reg.MOTION_SW_STATUS_STUCK k) true).raise
          evSwitchStuck 0 (leBytes 1 k))) s := rfl
  rw [hexec, eventAwake_live hl, State.elapse_get, State.elapse_motion, hsince, show msSteps = 800000 from rfl]
  dsimp only
  rw [hguard]
  rfl

/-- Settles O46: PROFILE_UPDATE is a fold over the axes in which only an axis's own turn can move it, and an idle axis's turn
leaves it; the other events are the functions of the switches and of the microstep index. -/
theorem axisEventsComplete : Obligations.AxisEventsComplete := by
  unfold Obligations.AxisEventsComplete
  intro t s hl haxes hsw
  refine ⟨fun meas => ?_, fun a => ?_, fun k level => ?_, fun k a hsince hms hdue => ?_⟩
  · refine ⟨_, exec_profileUpdate hl meas t, State.profiled_updateAt _ _, rfl, fun a ha hrest hnext hstop hwait htab => ?_⟩
    have hi : Idle a (s.elapse t) := ⟨by rw [State.elapse_axis, hrest], by rw [State.elapse_axis, hnext],
      by rw [State.elapse_axis, hstop], by rw [State.elapse_flag, hwait], by rw [State.elapse_get]; exact htab⟩
    obtain ⟨-, hp, ho⟩ := State.profiled_idle hi ha (by rw [State.elapse_motion, haxes]) meas
    rw [State.elapse_axis] at hp ho
    exact ⟨hp, ho⟩
  · have hexec : exec (.microstepAdvance a t) s = .next (((s.elapse t).followIndex a).chopWakes a) :=
      eventAwake_live (f := fun s => (s.followIndex a).chopWakes a) hl
    dsimp only
    rw [hexec]
    unfold State.followIndex State.setIndex
    rw [State.elapse_axis]
  · have hk : (k : Nat) < (s.elapse t).motion.switches.length := by rw [State.elapse_motion, hsw]; exact k.isLt
    have hexec : exec (.switchLevelAccepted k level t) s = .next ((s.elapse t).swLevel k level) :=
      eventAwake_live (f := fun s => s.swLevel k level) hl
    refine ⟨fun hidle => ⟨_, hexec, ?_⟩, fun hact hfresh => ⟨_, hexec, ?_⟩, fun hact hfresh hwas harmed hjob => ⟨_, hexec, ?_⟩⟩
    · rw [← State.elapse_flag s t] at hidle
      refine ⟨State.flag_of_toNat ?_, ?_, ?_, ?_, State.swLevel_idle_motion hidle hk⟩ <;> rw [State.swLevel_idle hidle]
      · rw [State.modSwitch_get, State.get_setB_other, State.level_swShown]
        simp only [Fld.key, Reg.MOTION_SW_STATUS_LEVEL, Reg.MOTION_SW_STATUS_ARMED]; omega
      · rw [State.modSwitch_get, State.setB, State.get_set_same]
        rfl
      · exact (show _ = (s.elapse t).motion.axes from rfl).trans (congrArg MotionSt.axes (State.elapse_motion s t))
      · exact State.elapse_host s t
    · rw [← State.elapse_flag s t] at hact
      rw [State.swLevel_fresh hact (by rw [State.elapse_motion]; exact hfresh)]
      refine ⟨State.flag_of_toNat ?_, ?_, ?_, ?_⟩
      · rw [State.get_setB_other, State.level_swShown]
        simp only [Fld.key, Reg.MOTION_SW_STATUS_LEVEL, Reg.MOTION_SW_STATUS_ARMED]; omega
      · rw [State.setB, State.get_set_same]
        rfl
      · exact (show _ = (s.elapse t).motion.axes from rfl).trans (congrArg MotionSt.axes (State.elapse_motion s t))
      · exact State.elapse_host s t
    · have hlatch := State.swLevel_latch (s := s.elapse t) (k := k) (level := level)
      rw [State.elapse_flag, State.elapse_flag, State.elapse_motion, State.elapse_job, State.elapse_get] at hlatch
      exact hlatch hact hfresh (by unfold State.swActive at hwas ⊢; rw [State.elapse_flag, State.elapse_flag]; exact hwas)
        harmed hjob
  · exact exec_evtSwitchStuck hl hsince hms hdue

end Sys2Proof.Machine
end

section
/-! SUPPORT. Memories in canonical form. Conditionals, folds and results: what each function leaves in canonical form. -/

namespace Sys2Proof.Machine

@[simp] theorem Memory.wf_ite (c : Prop) [Decidable c] (s u : State) :
    Memory.wf (if c then s else u) = if c then Memory.wf s else Memory.wf u := by split <;> rfl

@[simp] theorem Memory.wf_mk (s : State) (a b c d e f m n o p q r t u v w x y z a1 b1 c1 d1 f1 g1 h1) :
  Memory.wf (State.mk a b c d e f s.dram s.tab0 s.tab1 s.mem m n o p q r t u v w x y z a1 b1 c1 d1 s.otp f1 g1 h1) =
      Memory.wf s := rfl
@[simp] theorem Memory.wf_mk_mem (s : State) (a b c d e f m n o p q r t u v w x y z a1 b1 c1 d1 f1 g1 h1) (m1 m2 m3 m4
    m5 m6 m7 m8 m9 m10 m11 m12 m13) :
  Memory.wf (State.mk a b c d e f s.dram s.tab0 s.tab1 (MemSt.mk s.mem.valid s.mem.undef m1 m2 m3 m4 m5 m6 m7 m8 m9 m10
      m11 m12 m13) m n o p q r t u v w x y z a1 b1 c1 d1 s.otp f1 g1 h1) = Memory.wf s := rfl
@[simp] theorem Memory.wf_mk_otp (s : State) (a b c d e f m n o p q r t u v w x y z a1 b1 c1 d1 f1 g1 h1) (m1 m2 m3 m4
    m5 m6) :
  Memory.wf (State.mk a b c d e f s.dram s.tab0 s.tab1 s.mem m n o p q r t u v w x y z a1 b1 c1 d1 (OtpSt.mk m1 m2 m3
      m4 m5 s.otp.staging s.otp.patchRam m6) f1 g1 h1) = Memory.wf s := rfl
@[simp] theorem Memory.wf_foldl_eq {α} {f : State → α → State} (hf : ∀ s a, Memory.wf (f s a) = Memory.wf s) (l : List
    α) (s : State) :
    Memory.wf (l.foldl f s) = Memory.wf s := by
  induction l generalizing s with
  | nil => rfl
  | cons a l ih => rw [List.foldl_cons, ih, hf]

theorem Memory.wf_foldl {α} {f : State → α → State} (hf : ∀ s a, Memory.wf s = true → Memory.wf (f s a) = true) (l :
    List α) {s : State} (h : Memory.wf s = true) :
    Memory.wf (l.foldl f s) = true := by
  induction l generalizing s with
  | nil => exact h
  | cons a l ih => exact ih (hf s a h)

@[simp] theorem Memory.wf_when_eq {f : State → State} (hf : ∀ s, Memory.wf (f s) = Memory.wf s) (s : State) (c : Bool) :
    Memory.wf (s.when c f) = Memory.wf s := by cases c <;> simp [hf]

end Sys2Proof.Machine
end

section
/-! SUPPORT. Memories in canonical form. Registers and operations: what each function leaves in canonical form. -/

namespace Sys2Proof.Machine

@[simp] theorem Memory.wf_when {f : State → State} (hf : ∀ s, Memory.wf s = true → Memory.wf (f s) = true) {s : State}
    (h : Memory.wf s = true) (c : Bool) :
    Memory.wf (s.when c f) = true := by cases c <;> simp [hf, h]

@[simp] theorem Res.ok_s (s : State) : (Res.ok s).s = s := rfl
@[simp] theorem Res.okData_s (d) (s : State) : (Res.okData d s).s = s := rfl
@[simp] theorem Res.err_s (n) (s : State) : (Res.err n s).s = s := rfl
@[simp] theorem Res.ite_s (c : Prop) [Decidable c] (a b : Res) :
    (if c then a else b).s = if c then a.s else b.s := by split <;> rfl

@[simp] theorem Res.guard_s (c) (n) (s) (k : Res) :
    (Res.guard c n s k).s = if c then k.s else s := by unfold Res.guard; split <;> rfl

@[simp] theorem Res.wf_checks (l) (s : State) (k : Res) (h : Memory.wf s = true) (hk : Memory.wf k.s = true) :
    Memory.wf (Res.checks l s k).s = true := by unfold Res.checks; split <;> simp [h, hk]

@[simp] theorem Memory.wf_ite2 (c : Prop) [Decidable c] {α} (s u : α × State) :
    Memory.wf (if c then s else u).2 = if c then Memory.wf s.2 else Memory.wf u.2 := by split <;> rfl

@[simp] theorem Memory.wf_ite1 (c : Prop) [Decidable c] {α} (s u : State × α) :
    Memory.wf (if c then s else u).1 = if c then Memory.wf s.1 else Memory.wf u.1 := by split <;> rfl

@[simp] theorem Memory.wf_clearOnes (s : State) (f : Fld) (x : Nat) :
    Memory.wf (State.clearOnes s f x) = Memory.wf s := rfl
@[simp] theorem Memory.wf_flipAll (s : State) (fs : List Fld) : Memory.wf (s.flipAll fs) = Memory.wf s :=
  Memory.wf_foldl_eq Memory.wf_flip fs s

@[simp] theorem Memory.wf_ok (s : State) :
    Memory.wf (Res.ok s).s = Memory.wf s := rfl
@[simp] theorem Memory.wf_okData (d : List Byte) (s : State) :
    Memory.wf (Res.okData d s).s = Memory.wf s := rfl
@[simp] theorem Memory.wf_err (st : Nat) (s : State) :
    Memory.wf (Res.err st s).s = Memory.wf s := rfl

end Sys2Proof.Machine
end

section
/-! SUPPORT. Memories in canonical form. Links and ports: what each function leaves in canonical form. -/

namespace Sys2Proof.Machine

@[simp] theorem Memory.wf_modPort (s : State) (p : Nat) (f : Port → Port) :
    Memory.wf (State.modPort s p f) = Memory.wf s := rfl
@[simp] theorem Memory.wf_modLane (s : State) (l : Nat) (f : Lane → Lane) :
    Memory.wf (State.modLane s l f) = Memory.wf s := rfl
@[simp] theorem Memory.wf_discard (s : State) (p : Nat) :
    Memory.wf (State.discard s p) = Memory.wf s := rfl
@[simp] theorem Memory.wf_sendTrans (s : State) (p : Nat) (src : Nat) (x : Trans) :
    Memory.wf (State.sendTrans s p src x) = Memory.wf s := rfl
@[simp] theorem Memory.wf_sendCpl (s : State) (p : Nat) (x : Trans) (status : Nat) (data : List Byte) :
    Memory.wf (State.sendCpl s p x status data) = Memory.wf s := rfl
@[simp] theorem Memory.wf_llDown {s : State} (h : Memory.wf s = true) (p : Nat) :
    Memory.wf (State.llDown s p) = true := by
  unfold State.llDown
  simp +contextual [h, Memory.wf_foldl]

@[simp] theorem Memory.wf_portMasks (s : State) (p : Nat) :
    Memory.wf (State.portMasks s p) = Memory.wf s := rfl
@[simp] theorem Memory.wf_loseLock (s : State) (l : Nat) :
    Memory.wf (State.loseLock s l) = Memory.wf s := rfl
@[simp] theorem Memory.wf_lanesReset (s : State) (p : Nat) :
    Memory.wf (State.lanesReset s p) = Memory.wf s := by
  unfold State.lanesReset
  simp

@[simp] theorem Memory.wf_leaveUp {s : State} (h : Memory.wf s = true) (p : Nat) (next : PortPhase) :
    Memory.wf (State.leaveUp s p next) = true := by
  unfold State.leaveUp
  simp [h]

@[simp] theorem Memory.wf_linkDown {s : State} (h : Memory.wf s = true) (p : Nat) (cause : Nat) (next : PortPhase) :
    Memory.wf (State.linkDown s p cause next) = true := by
  unfold State.linkDown
  simp [h]

@[simp] theorem Memory.wf_llFail {s : State} (h : Memory.wf s = true) (p : Nat) (llCause : Nat) :
    Memory.wf (State.llFail s p llCause) = true := by
  unfold State.llFail
  simp [h]

@[simp] theorem Memory.wf_applyConfig (s : State) (p : Nat) :
    Memory.wf (State.applyConfig s p) = Memory.wf s := rfl
@[simp] theorem Memory.wf_bringUp {s : State} (h : Memory.wf s = true) (p : Nat) :
    Memory.wf (State.bringUp s p) = true := by
  unfold State.bringUp
  simp +contextual [h, Memory.wf_foldl]

@[simp] theorem Memory.wf_restartPort {s : State} (h : Memory.wf s = true) (p : Nat) :
    Memory.wf (State.restartPort s p) = true := by
  unfold State.restartPort
  simp [h]

@[simp] theorem Memory.wf_resumePort {s : State} (h : Memory.wf s = true) (p : Nat) :
    Memory.wf (State.resumePort s p) = true := by
  unfold State.resumePort
  simp [h]

@[simp] theorem Memory.wf_linkUp (s : State) (p : Nat) :
    Memory.wf (State.linkUp s p) = Memory.wf s := by
  unfold State.linkUp
  simp

@[simp] theorem Memory.wf_linkAgain (s : State) (p : Nat) :
    Memory.wf (State.linkAgain s p) = Memory.wf s := rfl
@[simp] theorem Memory.wf_recordNode (s : State) (id : Nat) (parent : Nat) (port : Nat) (depth : Nat) :
    Memory.wf (State.recordNode s id parent port depth) = Memory.wf s := by
  unfold State.recordNode
  dsimp only
  repeat' split
  all_goals simp

@[simp] theorem Memory.wf_join (s : State) (p : Nat) (id : Nat) :
    Memory.wf (State.join s p id) = Memory.wf s := by
  unfold State.join
  simp

@[simp] theorem Memory.wf_takeId (s : State) (payload : List Byte) :
    Memory.wf (State.takeId s payload) = Memory.wf s := by
  unfold State.takeId
  simp

@[simp] theorem Memory.wf_activate (s : State) (p : Nat) :
    Memory.wf (State.activate s p) = Memory.wf s := by
  unfold State.activate
  dsimp only
  repeat' split
  all_goals simp

@[simp] theorem Memory.wf_onInit {s : State} (h : Memory.wf s = true) (p : Nat) (payload : List Byte) :
    Memory.wf (State.onInit s p payload) = true := by
  unfold State.onInit
  simp [h]

@[simp] theorem Memory.wf_onAck {s : State} (h : Memory.wf s = true) (p : Nat) (a : Nat) :
    Memory.wf (State.onAck s p a) = true := by
  unfold State.onAck
  simp [h]

@[simp] theorem Memory.wf_startReplay {s : State} (h : Memory.wf s = true) (p : Nat) (ack : Option Nat) :
    Memory.wf (State.startReplay s p ack) = true := by
  unfold State.startReplay
  simp [h]

@[simp] theorem Memory.wf_onNak {s : State} (h : Memory.wf s = true) (p : Nat) (a : Nat) :
    Memory.wf (State.onNak s p a) = true := by
  unfold State.onNak
  simp [h]

@[simp] theorem Memory.wf_causeNak (s : State) (p : Nat) :
    Memory.wf (State.causeNak s p) = Memory.wf s := by
  unfold State.causeNak
  simp

@[simp] theorem Memory.wf_consume (s : State) (p : Nat) (x : Trans) :
    Memory.wf (State.consume s p x) = Memory.wf s := by
  unfold State.consume
  simp

@[simp] theorem Memory.wf_strayTrans (s : State) (p : Nat) (x : Trans) :
    Memory.wf (State.strayTrans s p x) = Memory.wf s := by
  unfold State.strayTrans
  simp

@[simp] theorem Memory.wf_deliver {s : State} (h : Memory.wf s = true) (p : Nat) (payload : List Byte) :
    Memory.wf (State.deliver s p payload) = true := by
  unfold State.deliver
  simp [h]

@[simp] theorem Memory.wf_onData {s : State} (h : Memory.wf s = true) (p : Nat) (seq : Nat) (payload : List Byte) :
    Memory.wf (State.onData s p seq payload) = true := by
  unfold State.onData
  simp [h]

@[simp] theorem Memory.wf_onFlit {s : State} (h : Memory.wf s = true) (p : Nat) (f : List Byte) :
    Memory.wf (State.onFlit s p f) = true := by
  unfold State.onFlit
  simp [h]

@[simp] theorem Memory.wf_takeOffer (s : State) (p : Nat) (src : Nat) (x : Trans) :
    Memory.wf (State.takeOffer s p src x) = Memory.wf s := by
  unfold State.takeOffer
  simp

end Sys2Proof.Machine
end

section
/-! SUPPORT. Memories in canonical form. The DMA engine: what each function leaves in canonical form. -/

namespace Sys2Proof.Machine

@[simp] theorem Memory.wf_mirrorWrite (s : State) (w : WReq) :
    Memory.wf (State.mirrorWrite s w) = Memory.wf s := by
  unfold State.mirrorWrite
  simp

@[simp] theorem Memory.wf_showWrites (s : State) :
    Memory.wf (State.showWrites s) = Memory.wf s := by
  unfold State.showWrites
  simp

@[simp] theorem Memory.wf_modDma (s : State) (n : Nat) (f : DmaCh → DmaCh) :
    Memory.wf (State.modDma s n f) = Memory.wf s := rfl
@[simp] theorem Memory.wf_dmaMarks (s : State) (n : Nat) (run : Bool) :
    Memory.wf (State.dmaMarks s n run) = Memory.wf s := rfl
@[simp] theorem Memory.wf_dmaShow (s : State) (n : Nat) :
    Memory.wf (State.dmaShow s n) = Memory.wf s := rfl
@[simp] theorem Memory.wf_dmaPass (s : State) (n : Nat) :
    Memory.wf (State.dmaPass s n) = Memory.wf s := rfl
@[simp] theorem Memory.wf_dmaActivate {s : State} (h : Memory.wf s = true) (n : Nat) (d : List Nat) :
    Memory.wf (State.dmaActivate s n d) = true := by
  unfold State.dmaActivate
  simp +contextual [h, Memory.wf_foldl]

@[simp] theorem Memory.wf_dmaStart {s : State} (h : Memory.wf s = true) (n : Nat) (d : List Nat) :
    Memory.wf (State.dmaStart s n d) = true := by
  unfold State.dmaStart
  simp +contextual [h, Memory.wf_foldl]

@[simp] theorem Memory.wf_cmdDmaStart {s : State} (h : Memory.wf s = true) (channel : Nat) (toShadow : Nat) (desc :
    List Byte) :
    Memory.wf (cmdDmaStart channel toShadow desc s).s = true := by
  unfold cmdDmaStart
  simp [h]

@[simp] theorem Memory.wf_dmaCommit {s : State} (h : Memory.wf s = true) (n : Nat) :
    Memory.wf (State.dmaCommit s n).2 = true := by
  unfold State.dmaCommit
  simp [h]

@[simp] theorem Memory.wf_dmaEdge (s : State) (req : Nat) :
    Memory.wf (State.dmaEdge s req) = Memory.wf s := by
  unfold State.dmaEdge
  simp

@[simp] theorem Memory.wf_dmaCompareEdge (s : State) (u : Nat) :
    Memory.wf (State.dmaCompareEdge s u) = Memory.wf s := by
  unfold State.dmaCompareEdge
  simp

@[simp] theorem Memory.wf_dmaTriggerEdge (s : State) (k : Nat) :
    Memory.wf (State.dmaTriggerEdge s k) = Memory.wf s := by
  unfold State.dmaTriggerEdge
  simp

@[simp] theorem Memory.wf_dmaPut {s : State} (h : Memory.wf s = true) (n : Nat) (p : Nat × List Byte) :
    Memory.wf (State.dmaPut s n p) = true := by
  unfold State.dmaPut
  simp [h, Memory.wf_writePiece]

@[simp] theorem Memory.wf_dmaIssue {s : State} (hs : Memory.wf s = true) (n : Nat) (all : Bool) (k : Nat) :
    Memory.wf (s.dmaIssue n all k) = true := by
  induction k generalizing s with
  | zero => exact hs
  | succ k ih =>
    unfold State.dmaIssue
    split
    · exact hs
    · split
      · exact hs
      · exact ih (by simp [hs])

@[simp] theorem Memory.wf_dmaPush {s : State} (h : Memory.wf s = true) (n : Nat) (all : Bool) :
    Memory.wf (State.dmaPush s n all) = true := by
  unfold State.dmaPush
  simp [h]

@[simp] theorem Memory.wf_dmaBurst {s : State} (hs : Memory.wf s = true) (n : Nat) : Memory.wf (s.dmaBurst n) = true := by
  unfold State.dmaBurst
  extract_lets d o e u
  have hu : Memory.wf u = true := by simp [u, hs]
  have hr := Memory.wf_fetch hu (dSrc d + o) (e - o)
  generalize u.fetch (dSrc d + o) (e - o) = r at hr ⊢
  simp [hr]

@[simp] theorem Memory.wf_dmaHalf (s : State) (n : Nat) :
    Memory.wf (State.dmaHalf s n) = Memory.wf s := by
  unfold State.dmaHalf
  simp

@[simp] theorem Memory.wf_dmaAbortReply (s : State) (n : Nat) :
    Memory.wf (State.dmaAbortReply s n) = Memory.wf s := by
  unfold State.dmaAbortReply
  dsimp only
  repeat' split
  all_goals simp

@[simp] theorem Memory.wf_dmaProgress (s : State) (n : Nat) :
    Memory.wf (State.dmaProgress s n) = Memory.wf s := by
  unfold State.dmaProgress
  dsimp only
  repeat' split
  all_goals simp

@[simp] theorem Memory.wf_rmwFails (s : State) (w : WReq) :
    Memory.wf (State.rmwFails s w) = Memory.wf s := by
  unfold State.rmwFails
  dsimp only
  repeat' split
  all_goals simp

@[simp] theorem Memory.wf_commitWrite {s : State} (h : Memory.wf s = true) (w : WReq) :
    Memory.wf (State.commitWrite s w) = true := by
  unfold State.commitWrite
  simp [h, Memory.wf_writePiece, Memory.wf_waitFills]

@[simp] theorem Memory.wf_dmaAcked {s : State} (h : Memory.wf s = true)  :
    Memory.wf (State.dmaAcked s) = true := by
  unfold State.dmaAcked
  simp +contextual [h, Memory.wf_foldl]

@[simp] theorem Memory.wf_commitWrites {s : State} (h : Memory.wf s = true) (p : WReq → Bool) :
    Memory.wf (s.commitWrites p) = true := by
  have hu : Memory.wf { s with mem := { s.mem with writes := s.mem.writes.filter (fun w => !p w) } } = true := h
  refine Memory.wf_dmaAcked ?_
  rw [Memory.wf_showWrites]
  exact Memory.wf_foldl (fun _ w hv => Memory.wf_commitWrite hv w) _ hu

@[simp] theorem Memory.wf_commitOldest {s : State} (h : Memory.wf s = true) (c : Nat) :
    Memory.wf (State.commitOldest s c) = true := by
  unfold State.commitOldest
  dsimp only
  repeat' split
  all_goals simp +contextual [h]

@[simp] theorem Memory.wf_dmaAck {s : State} (h : Memory.wf s = true) (n : Nat) :
    Memory.wf (State.dmaAck s n) = true := by
  unfold State.dmaAck
  dsimp only
  repeat' split
  all_goals simp +contextual [h]

@[simp] theorem Memory.wf_dmaFlip {s : State} (h : Memory.wf s = true) (n : Nat) :
    Memory.wf (State.dmaFlip s n) = true := by
  unfold State.dmaFlip
  simp [h]

@[simp] theorem Memory.wf_dmaFinish {s : State} (h : Memory.wf s = true) (n : Nat) :
    Memory.wf (State.dmaFinish s n) = true := by
  unfold State.dmaFinish
  simp [h]

@[simp] theorem Memory.wf_dmaDrain {s : State} (h : Memory.wf s = true) (n : Nat) :
    Memory.wf (State.dmaDrain s n) = true := by
  unfold State.dmaDrain
  simp [h]

@[simp] theorem Memory.wf_dmaError {s : State} (h : Memory.wf s = true) (n : Nat) :
    Memory.wf (State.dmaError s n) = true := by
  unfold State.dmaError
  simp [h, Memory.wf_undefine]

@[simp] theorem Memory.wf_cmdDmaAbort (channel : Nat) (s : State) :
    Memory.wf (cmdDmaAbort channel s).s = Memory.wf s := by
  unfold cmdDmaAbort
  simp

@[simp] theorem Memory.wf_writeGpioDir (s : State) (v : Nat) :
    Memory.wf (State.writeGpioDir s v).2 = Memory.wf s := by
  unfold State.writeGpioDir
  simp

end Sys2Proof.Machine
end

section
/-! SUPPORT. Memories in canonical form. Encoders and compare units: what each function leaves in canonical form. -/

namespace Sys2Proof.Machine

@[simp] theorem Memory.wf_modEnc (s : State) (e : Nat) (f : Enc → Enc) :
    Memory.wf (State.modEnc s e f) = Memory.wf s := rfl
@[simp] theorem Memory.wf_modCmp (s : State) (u : Nat) (f : Cmp → Cmp) :
    Memory.wf (State.modCmp s u f) = Memory.wf s := rfl
@[simp] theorem Memory.wf_showDirection (s : State) (e : Nat) :
    Memory.wf (State.showDirection s e) = Memory.wf s := by
  unfold State.showDirection
  simp

@[simp] theorem Memory.wf_encTick (s : State) (e : Nat) :
    Memory.wf (State.encTick s e) = Memory.wf s := by
  unfold State.encTick
  simp

@[simp] theorem Memory.wf_moveCmpPos (s : State) (u : Nat) (pos : Int) :
    Memory.wf (State.moveCmpPos s u pos) = Memory.wf s := by
  unfold State.moveCmpPos
  simp

@[simp] theorem Memory.wf_cmpKeep (s : State) (u : Nat) (bySet : Bool) :
    Memory.wf (State.cmpKeep s u bySet) = Memory.wf s := rfl
@[simp] theorem Memory.wf_writeCmpPos (s : State) (u : Nat) (pos : Int) (x : Int) :
    Memory.wf (State.writeCmpPos s u pos x) = Memory.wf s := rfl
@[simp] theorem Memory.wf_cmpMove (s : State) (u : Nat) (x : Int) :
    Memory.wf (State.cmpMove s u x) = Memory.wf s := by
  unfold State.cmpMove
  simp

@[simp] theorem Memory.wf_cmpHit (s : State) (u : Nat) (pos : Int) :
    Memory.wf (State.cmpHit s u pos) = Memory.wf s := by
  unfold State.cmpHit
  simp

@[simp] theorem Memory.wf_cmpFire (s : State) (u : Nat) (x : Int) :
    Memory.wf (State.cmpFire s u x) = Memory.wf s := by
  unfold State.cmpFire
  simp

@[simp] theorem Memory.wf_cmpEvalOld (s : State) (u : Nat) (src : Nat) (o : CmpOld) (valid : Bool) (old : Int) (new :
    Int) :
    Memory.wf (State.cmpEvalOld s u src o valid old new) = Memory.wf s := by
  unfold State.cmpEvalOld
  simp

@[simp] theorem Memory.wf_cmpEval (s : State) (u : Nat) (valid : Bool) (old : Int) (new : Int) :
    Memory.wf (State.cmpEval s u valid old new) = Memory.wf s := by
  unfold State.cmpEval
  simp

@[simp] theorem Memory.wf_cmpEvalAll (s : State) (src : Nat) (valid : Bool) (old new : Int) :
    Memory.wf (s.cmpEvalAll src valid old new) = Memory.wf s := by
  refine Memory.wf_foldl_eq (fun u k => ?_) _ _
  split <;> simp

@[simp] theorem Memory.wf_cmpJump (s : State) (src : Nat) (x : Int) :
    Memory.wf (State.cmpJump s src x) = Memory.wf s := by
  unfold State.cmpJump
  simp

@[simp] theorem Memory.wf_compareSet (s : State) (axis : Nat → Int) (u : Nat) (src : Nat) (dir : Nat) (pos : Int) :
    Memory.wf (State.compareSet s axis u src dir pos).s = Memory.wf s := by
  unfold State.compareSet
  simp

@[simp] theorem Memory.wf_writeCmpLo (s : State) (axis : Nat → Int) (u : Nat) (v : Nat) :
    Memory.wf (State.writeCmpLo s axis u v) = Memory.wf s := rfl
@[simp] theorem Memory.wf_holdCmpHi (s : State) (u : Nat) (v : Nat) :
    Memory.wf (State.holdCmpHi s u v) = Memory.wf s := rfl
@[simp] theorem Memory.wf_flipEncLevel (s : State) (e : Nat) (ch : Nat) :
    Memory.wf (State.flipEncLevel s e ch) = Memory.wf s := rfl
@[simp] theorem Memory.wf_edgeRun (s : State) (e : Nat) (onB : Bool) :
    Memory.wf (State.edgeRun s e onB) = Memory.wf s := by
  unfold State.edgeRun
  simp

@[simp] theorem Memory.wf_leaveStandstill (s : State) (e : Nat) (fwd : Bool) :
    Memory.wf (State.leaveStandstill s e fwd) = Memory.wf s := by
  unfold State.leaveStandstill
  simp

@[simp] theorem Memory.wf_encNote (s : State) (e : Nat) :
    Memory.wf (State.encNote s e) = Memory.wf s := rfl
@[simp] theorem Memory.wf_encFault (s : State) (e : Nat) (cause : Fld) (last : Int) :
    Memory.wf (State.encFault s e cause last) = Memory.wf s := by
  unfold State.encFault
  simp

@[simp] theorem Memory.wf_countEdge (s : State) (e : Nat) (fwd : Bool) :
    Memory.wf (State.countEdge s e fwd) = Memory.wf s := by
  unfold State.countEdge
  simp

@[simp] theorem Memory.wf_encEdge (s : State) (e : Nat) (ch : Nat) :
    Memory.wf (State.encEdge s e ch) = Memory.wf s := by
  unfold State.encEdge
  simp

@[simp] theorem Memory.wf_encRaw (s : State) (e : Nat) (lvl : Nat) :
    Memory.wf (State.encRaw s e lvl) = Memory.wf s := rfl
@[simp] theorem Memory.wf_driftCheck (s : State) (e : Nat) (new : Int) (old : Int) :
    Memory.wf (State.driftCheck s e new old) = Memory.wf s := by
  unfold State.driftCheck
  simp

@[simp] theorem Memory.wf_indexLatch (s : State) (e : Nat) :
    Memory.wf (State.indexLatch s e) = Memory.wf s := by
  unfold State.indexLatch
  simp

@[simp] theorem Memory.wf_zEdge (s : State) (e : Nat) :
    Memory.wf (State.zEdge s e) = Memory.wf s := by
  unfold State.zEdge
  simp

@[simp] theorem Memory.wf_clearZFault (s : State) (e : Nat) :
    Memory.wf (State.clearZFault s e) = Memory.wf s := by
  unfold State.clearZFault
  simp

@[simp] theorem Memory.wf_encConfig (s : State) (prints : Bool) (e : Nat) (filter : Nat) (bw : Nat) (ms : Nat) (relay :
    Nat) :
    Memory.wf (State.encConfig s prints e filter bw ms relay).s = Memory.wf s := by
  unfold State.encConfig
  simp

@[simp] theorem Memory.wf_encLoad (s : State) (e : Nat) (count : Int) :
    Memory.wf (State.encLoad s e count) = Memory.wf s := by
  unfold State.encLoad
  simp

@[simp] theorem Memory.wf_cmdEncRead (e : Nat) (s : State) :
    Memory.wf (cmdEncRead e s).s = Memory.wf s := rfl
@[simp] theorem Memory.wf_modSsi (s : State) (k : Nat) (f : Ssi → Ssi) :
    Memory.wf (State.modSsi s k f) = Memory.wf s := rfl
@[simp] theorem Memory.wf_ssiDue (s : State) (k : Nat) :
    Memory.wf (State.ssiDue s k) = Memory.wf s := by
  unfold State.ssiDue
  simp

@[simp] theorem Memory.wf_ssiDone (s : State) (k : Nat) (start : Nat) (frame : List Bool) :
    Memory.wf (State.ssiDone s k start frame) = Memory.wf s := by
  unfold State.ssiDone
  simp

end Sys2Proof.Machine
end

section
/-! SUPPORT. Memories in canonical form. Composition: what each function leaves in canonical form. -/

namespace Sys2Proof.Machine

@[simp] theorem Memory.wf_modPlane (s : State) (p : Nat) (f : PlaneSt → PlaneSt) :
    Memory.wf (State.modPlane s p f) = Memory.wf s := rfl
@[simp] theorem Memory.wf_modRing (s : State) (p : Nat) (f : Ring → Ring) :
    Memory.wf (State.modRing s p f) = Memory.wf s := rfl
@[simp] theorem Memory.wf_lineFlips (s : State) (p : Nat) (rep : Bool) :
    Memory.wf (State.lineFlips s p rep) = Memory.wf s := by
  unfold State.lineFlips
  simp

@[simp] theorem Memory.wf_emptyProt {s : State} (h : Memory.wf s = true) (p : Nat) :
    Memory.wf (State.emptyProt s p) = true := by
  unfold State.emptyProt
  simp [h, Memory.wf_dropTab0]

@[simp] theorem Memory.wf_clearProt {s : State} (h : Memory.wf s = true) (p : Nat) :
    Memory.wf (State.clearProt s p) = true := by
  unfold State.clearProt
  simp [h]

@[simp] theorem Memory.wf_pload {s : State} (h : Memory.wf s = true) (prints : Bool) (p : Nat) (rects : Nat) (src :
    Nat) (len : Nat) (tag : Nat) (on : Iface) :
    Memory.wf (State.pload s prints p rects src len tag on).s = true := by
  unfold State.pload
  simp [h, Memory.wf_fetch]

@[simp] theorem Memory.wf_loadProt {s : State} (hs : Memory.wf s = true) (p rects src len : Nat) (head : List Byte) :
    Memory.wf (s.loadProt p rects src len head).1 = true := by
  unfold State.loadProt
  have hr := Memory.wf_fetch hs (src + 1024) (len - 1024)
  generalize s.fetch (src + 1024) (len - 1024) = r at hr ⊢
  simp [hr, Memory.wf_writeAcked, Memory.wf_putTabs]

@[simp] theorem Memory.wf_ploadDone {s : State} (hs : Memory.wf s = true) (p : Nat) :
    Memory.wf (s.ploadDone p) = true := by
  unfold State.ploadDone
  split
  · exact hs
  · simp [hs]

@[simp] theorem Memory.wf_plock (s : State) (prints : Bool) (p : Nat) :
    Memory.wf (State.plock s prints p).s = Memory.wf s := by
  unfold State.plock
  simp

@[simp] theorem Memory.wf_unlockProt (s : State) (p : Nat) :
    Memory.wf (State.unlockProt s p) = Memory.wf s := rfl
@[simp] theorem Memory.wf_punlock (s : State) (prints : Bool) (p : Nat) (token : Nat) :
    Memory.wf (State.punlock s prints p token).s = Memory.wf s := by
  unfold State.punlock
  simp

@[simp] theorem Memory.wf_startPass (s : State) (p : Nat) (rep : Nat) :
    Memory.wf (State.startPass s p rep) = Memory.wf s := by
  unfold State.startPass
  simp

@[simp] theorem Memory.wf_passDone {s : State} (h : Memory.wf s = true) (p : Nat) :
    Memory.wf (State.passDone s p).1 = true := by
  unfold State.passDone
  dsimp only
  repeat' split
  all_goals simp +contextual [h, Memory.wf_fetch]

end Sys2Proof.Machine
end

section
/-! SUPPORT. Memories in canonical form. The bases of the loops: what each function leaves in canonical form. -/

namespace Sys2Proof.Machine

@[simp] theorem Memory.wf_modLoop (s : State) (p : Nat) (f : LoopPlane → LoopPlane) :
    Memory.wf (State.modLoop s p f) = Memory.wf s := rfl
@[simp] theorem Memory.wf_waitMark (s : State) (p : Nat) :
    Memory.wf (State.waitMark s p) = Memory.wf s := rfl
@[simp] theorem Memory.wf_workWrite {s : State} (h : Memory.wf s = true) (p : Nat) (off : Nat) (bs : List Byte) :
    Memory.wf (State.workWrite s p off bs) = true := by
  unfold State.workWrite
  simp [h, Memory.wf_writeMem]

@[simp] theorem Memory.wf_takeRef {s : State} (h : Memory.wf s = true) (p : Nat) :
    Memory.wf (State.takeRef s p) = true := by
  unfold State.takeRef
  simp [h]

@[simp] theorem Memory.wf_showCorr {s : State} (h : Memory.wf s = true) (p : Nat) :
    Memory.wf (State.showCorr s p) = true := by
  unfold State.showCorr
  simp +contextual [h, Memory.wf_foldl]

@[simp] theorem Memory.wf_zeroCorr {s : State} (h : Memory.wf s = true) (p : Nat) :
    Memory.wf (State.zeroCorr s p) = true := by
  unfold State.zeroCorr
  simp [h]

@[simp] theorem Memory.wf_zeroMisses {s : State} (hs : Memory.wf s = true) (p : Nat) :
    Memory.wf (s.zeroMisses p) = true :=
  Memory.wf_workWrite hs ..

@[simp] theorem Memory.wf_loopFlip {s : State} (h : Memory.wf s = true) (p : Nat) (table : Nat) (xoff : List Int) :
    Memory.wf (State.loopFlip s p table xoff) = true := by
  unfold State.loopFlip
  simp [h]

end Sys2Proof.Machine
end

section
/-! SUPPORT. Memories in canonical form. Halftones and protected layers: what each function leaves in canonical form. -/

namespace Sys2Proof.Machine

@[simp] theorem Memory.wf_putTabBit (s : State) (f : Fld) (table : Nat) (b : Bool) :
    Memory.wf (State.putTabBit s f table b) = Memory.wf s := rfl
@[simp] theorem Memory.wf_tableLoad {s : State} (h : Memory.wf s = true) (loop : Bool) (p : Nat) (table : Nat) (flipAt
    : Nat) (src : Nat) (len : Nat) (tag : Nat) (on : Iface) :
    Memory.wf (State.tableLoad s loop p table flipAt src len tag on).s = true := by
  unfold State.tableLoad
  simp [h, Memory.wf_fetch]

@[simp] theorem Memory.wf_putDeadBits {s : State} (h : Memory.wf s = true) (bank : Bool) (base : Nat) (data : List
    Byte) (n : Nat) :
    Memory.wf (State.putDeadBits s bank base data n) = true := by
  unfold State.putDeadBits
  simp [h, Memory.wf_putTabs]

@[simp] theorem Memory.wf_storeScreen {s : State} (h : Memory.wf s = true) (p : Nat) :
    Memory.wf (State.storeScreen s p) = true := by
  unfold State.storeScreen
  simp [h, Memory.wf_dropTab0, Memory.wf_dropTab1]

@[simp] theorem Memory.wf_storeTable {s : State} (h : Memory.wf s = true) (c : TableCopy) (data : List Byte) :
    Memory.wf (State.storeTable s c data) = true := by
  unfold State.storeTable
  simp [h, Memory.wf_putTabs]

@[simp] theorem Memory.wf_deadEvents (s : State) (p : Nat) (total : Nat) :
    Memory.wf (State.deadEvents s p total) = Memory.wf s := by
  unfold State.deadEvents
  simp

@[simp] theorem Memory.wf_tableFlip {s : State} (h : Memory.wf s = true) (p : Nat) (table : Nat) (line : Nat) :
    Memory.wf (State.tableFlip s p table line) = true := by
  unfold State.tableFlip
  simp +contextual [h, Memory.wf_foldl]

@[simp] theorem Memory.wf_tableFlips {s : State} (h : Memory.wf s = true) (p : Nat) (line : Nat) (rep : Bool) :
    Memory.wf (State.tableFlips s p line rep) = true := by
  unfold State.tableFlips
  simp +contextual [h, Memory.wf_foldl]

@[simp] theorem Memory.wf_idleFlips {s : State} (h : Memory.wf s = true) (p : Nat) :
    Memory.wf (State.idleFlips s p) = true := by
  unfold State.idleFlips
  simp +contextual [h, Memory.wf_foldl]

@[simp] theorem Memory.wf_loadDone (s : State) (c : TableCopy) (st : Nat) :
    Memory.wf (State.loadDone s c st) = Memory.wf s := by
  unfold State.loadDone
  simp

@[simp] theorem Memory.wf_tableCopied {s : State} (h : Memory.wf s = true) (prints : Bool) (p table : Nat) :
    Memory.wf (s.tableCopied prints p table) = true := by
  unfold State.tableCopied
  split
  · exact h
  · rename_i c _
    extract_lets t u w
    have hw : Memory.wf w = true := by simp [w, u, h]
    have hr : Memory.wf (if table = 2 ∧ c.src = 0 then (w, [], [])
        else ((w.fetch c.src c.len).1, spliceAt (w.fetch c.src c.len).2.1 0 c.head, (w.fetch c.src c.len).2.2)).1 =
            true := by
      split
      · exact hw
      · exact Memory.wf_fetch hw _ _
    generalize (if table = 2 ∧ c.src = 0 then (w, [], []) else _) = r at hr ⊢
    simp [hr]

@[simp] theorem Memory.wf_showShape (s : State) (p : Nat) :
    Memory.wf (State.showShape s p) = Memory.wf s := rfl

end Sys2Proof.Machine
end

section
/-! SUPPORT. Memories in canonical form. The lines of a plane: what each function leaves in canonical form. -/

namespace Sys2Proof.Machine

@[simp] theorem Memory.wf_commitCpl (s : State) (p : Nat) :
    Memory.wf (State.commitCpl s p) = Memory.wf s := rfl
@[simp] theorem Memory.wf_showLookahead (s : State) (p : Nat) :
    Memory.wf (State.showLookahead s p) = Memory.wf s := rfl
@[simp] theorem Memory.wf_showJobs (s : State) :
    Memory.wf (State.showJobs s) = Memory.wf s := by
  unfold State.showJobs
  simp

@[simp] theorem Memory.wf_modRunning (s : State) (f : JobRun → JobRun) :
    Memory.wf (State.modRunning s f) = Memory.wf s := rfl
@[simp] theorem Memory.wf_modQueued (s : State) (f : JobRun → JobRun) :
    Memory.wf (State.modQueued s f) = Memory.wf s := rfl
@[simp] theorem Memory.wf_modJob (s : State) (seq : Nat) (f : JobRun → JobRun) :
    Memory.wf (State.modJob s seq f) = Memory.wf s := rfl
@[simp] theorem Memory.wf_mark (s : State) (p : Nat) (seq : Nat) (k : Nat) (at_ : Nat) :
    Memory.wf (State.mark s p seq k at_) = Memory.wf s := rfl
@[simp] theorem Memory.wf_putDefect (s : State) (d : DefectEnt) :
    Memory.wf (State.putDefect s d) = Memory.wf s := by
  unfold State.putDefect
  simp

@[simp] theorem Memory.wf_closeRun (s : State) (p : Nat) (stop : Int) :
    Memory.wf (State.closeRun s p stop) = Memory.wf s := by
  unfold State.closeRun
  dsimp only
  repeat' split
  all_goals simp

@[simp] theorem Memory.wf_missRun (s : State) (p : Nat) (cause : Nat) (k : Nat) (ref : Int) :
    Memory.wf (State.missRun s p cause k ref) = Memory.wf s := by
  unfold State.missRun
  split
  all_goals simp

@[simp] theorem Memory.wf_defectPop (s : State) :
    Memory.wf (State.defectPop s) = Memory.wf s := rfl
@[simp] theorem Memory.wf_modLine (s : State) (p : Nat) (seq : Nat) (k : Nat) (f : Line → Line) :
    Memory.wf (State.modLine s p seq k f) = Memory.wf s := rfl
@[simp] theorem Memory.wf_modHead (s : State) (q : Nat) (f : HeadPort → HeadPort) :
    Memory.wf (State.modHead s q f) = Memory.wf s := rfl
@[simp] theorem Memory.wf_missHead (s : State) (p : Nat) (seq : Nat) (k : Nat) (h : Nat) (cause : Nat) (at_ : Nat) :
    Memory.wf (State.missHead s p seq k h cause at_) = Memory.wf s := by
  unfold State.missHead
  dsimp only
  repeat' split
  all_goals simp

@[simp] theorem Memory.wf_gapEnds (s : State) (p : Nat) (ref : Int) :
    Memory.wf (State.gapEnds s p ref) = Memory.wf s := by
  unfold State.gapEnds
  dsimp only
  repeat' split
  all_goals simp

@[simp] theorem Memory.wf_settleLine (s : State) (p : Nat) (l : Line) :
    Memory.wf (State.settleLine s p l) = Memory.wf s := by
  unfold State.settleLine
  dsimp only
  repeat' split
  all_goals simp

@[simp] theorem Memory.wf_settle {s : State} (hs : Memory.wf s = true) (p n : Nat) : Memory.wf (s.settle p n) = true := by
  induction n generalizing s with
  | zero => exact hs
  | succ n ih =>
    unfold State.settle
    split
    · exact hs
    · split
      · exact ih (by simp [hs])
      · exact hs

@[simp] theorem Memory.wf_forget (s : State) (p : Nat) :
    Memory.wf (State.forget s p) = Memory.wf s := rfl
@[simp] theorem Memory.wf_planeStops {s : State} (h : Memory.wf s = true) (p : Nat) :
    Memory.wf (State.planeStops s p) = true := by
  unfold State.planeStops
  simp [h]

@[simp] theorem Memory.wf_settled {s : State} (h : Memory.wf s = true) (p : Nat) :
    Memory.wf (State.settled s p) = true := by
  unfold State.settled
  simp [h]

@[simp] theorem Memory.wf_useSlot (s : State) (p : Nat) (h : Nat) (l : Line) :
    Memory.wf (State.useSlot s p h l) = Memory.wf s := rfl
@[simp] theorem Memory.wf_lateLine {s : State} (h : Memory.wf s = true) (q p k : Nat) (l : Line) :
    Memory.wf (s.lateLine q p k l) = true := by
  unfold State.lateLine
  extract_lets r u v w x
  have hx : Memory.wf x = true := by simp [x, w, v, u, h]
  exact Memory.wf_settled hx p

@[simp] theorem Memory.wf_shiftStart {s : State} (h : Memory.wf s = true) (q : Nat) :
    Memory.wf (s.shiftStart q) = true := by
  unfold State.shiftStart
  repeat' split
  all_goals simp [h]

@[simp] theorem Memory.wf_latch (s : State) (q : Nat) :
    Memory.wf (State.latch s q) = Memory.wf s := by
  unfold State.latch
  dsimp only
  repeat' split
  all_goals simp

@[simp] theorem Memory.wf_freeRow (s : State) (q : Nat) (row : Nat) (at_ : Nat) :
    Memory.wf (State.freeRow s q row at_) = Memory.wf s := rfl
@[simp] theorem Memory.wf_overspeed (s : State) (p : Nat) (seq : Nat) (k : Nat) :
    Memory.wf (State.overspeed s p seq k) = Memory.wf s := by
  unfold State.overspeed
  dsimp only
  repeat' split
  all_goals simp

@[simp] theorem Memory.wf_fire {s : State} (hs : Memory.wf s = true) (q p h : Nat) (l : Line) (t : Nat) :
    Memory.wf (s.fire q p h l t) = true := by
  unfold State.fire
  simp [hs]

@[simp] theorem Memory.wf_trainStart {s : State} (h : Memory.wf s = true) (q : Nat) :
    Memory.wf (s.trainStart q) = true := by
  unfold State.trainStart
  split
  · exact h
  · split
    · exact Memory.wf_fire h _ _ _ _ _
    · exact h

@[simp] theorem Memory.wf_dropPort {s : State} (h : Memory.wf s = true) (q : Nat) :
    Memory.wf (State.dropPort s q) = true := by
  unfold State.dropPort
  dsimp only
  repeat' split
  all_goals simp +contextual [h]

@[simp] theorem Memory.wf_trainStop {s : State} (h : Memory.wf s = true) (q : Nat) (row : Nat) :
    Memory.wf (State.trainStop s q row) = true := by
  unfold State.trainStop
  dsimp only
  repeat' split
  all_goals simp +contextual [h]

@[simp] theorem Memory.wf_skipMissed (s : State) (p : Nat) (h : Nat) :
    Memory.wf (State.skipMissed s p h) = Memory.wf s := rfl
@[simp] theorem Memory.wf_freshPort (s : State) (q : Nat) :
    Memory.wf (State.freshPort s q) = Memory.wf s := by
  unfold State.freshPort
  dsimp only
  repeat' split
  all_goals simp

@[simp] theorem Memory.wf_commitLine (s : State) (p : Nat) (h : Nat) (l : Line) (t : Nat) :
    Memory.wf (State.commitLine s p h l t) = Memory.wf s := by
  unfold State.commitLine
  simp

@[simp] theorem Memory.wf_commitHead {s : State} (hs : Memory.wf s = true) (p h : Nat) (x v a : Int) (l : List Line) :
    Memory.wf (s.commitHead p h x v a l) = true := by
  induction l generalizing s with
  | nil => exact hs
  | cons l ls ih =>
    unfold State.commitHead
    repeat' split
    · exact ih hs
    · exact hs
    · exact ih (by simp [hs])
    · exact hs

@[simp] theorem Memory.wf_commitPlane {s : State} (h : Memory.wf s = true) (p : Nat) :
    Memory.wf (s.commitPlane p) = true :=
  Memory.wf_settled (Memory.wf_foldl (fun _ _ hu => Memory.wf_commitHead hu _ _ _ _ _ _) _ h) _

@[simp] theorem Memory.wf_encHalt {s : State} (h : Memory.wf s = true) (e : Nat) : Memory.wf (s.encHalt e) = true := by
  refine Memory.wf_foldl (fun u p hu => ?_) _ h
  split
  · refine Memory.wf_settled ?_ p
    rw [Memory.wf_mark]
    exact Memory.wf_foldl (fun v l hv => Memory.wf_foldl (fun w k hw => by simp [hw]) _ hv) _ hu
  · exact hu

@[simp] theorem Memory.wf_shiftJob {s : State} (h : Memory.wf s = true) (seq : Nat) (off : Int) :
    Memory.wf (State.shiftJob s seq off) = true := by
  unfold State.shiftJob
  simp +contextual [h, Memory.wf_foldl]

@[simp] theorem Memory.wf_encReference {s : State} (h : Memory.wf s = true) (e : Nat) (count : Int) :
    Memory.wf (s.encReference e count).s = true := by
  unfold State.encReference
  split
  · exact h
  · extract_lets off u on run v w
    have hv : Memory.wf v = true := by
      simp only [v]; split
      · split <;> simp [u, h]
      · simp [u, h]
    have hw : Memory.wf w = true := by
      simp only [w]; split
      · split <;> simp [hv]
      · exact hv
    rw [Res.ok_s]
    refine Memory.wf_foldl (fun x p hx => ?_) _ hw
    simp [hx]

@[simp] theorem Memory.wf_dropPassed {s : State} (h : Memory.wf s = true) (p : Nat) : Memory.wf (s.dropPassed p) = true :=
  Memory.wf_settled (Memory.wf_foldl (fun _ _ hv => Memory.wf_foldl (fun w k hw => by simp [hw]) _ hv) _ h) p

end Sys2Proof.Machine
end

section
/-! SUPPORT. Memories in canonical form. Thermal control and calibration: what each function leaves in canonical form. -/

namespace Sys2Proof.Machine

@[simp] theorem Memory.wf_crossCheck {s : State} (h : Memory.wf s = true) (raw : List Int) :
    Memory.wf (State.crossCheck s raw) = true := by
  unfold State.crossCheck
  simp +contextual [h, Memory.wf_foldl]

@[simp] theorem Memory.wf_publishTj (s : State) :
    Memory.wf (State.publishTj s) = Memory.wf s := rfl
@[simp] theorem Memory.wf_updateLevel (s : State) :
    Memory.wf (State.updateLevel s) = Memory.wf s := by
  unfold State.updateLevel
  simp

@[simp] theorem Memory.wf_updateThrottle (s : State) :
    Memory.wf (State.updateThrottle s) = Memory.wf s := by
  unfold State.updateThrottle
  simp

@[simp] theorem Memory.wf_correctRefs (s : State) :
    Memory.wf (State.correctRefs s) = Memory.wf s := rfl
@[simp] theorem Memory.wf_publishHk {s : State} (h : Memory.wf s = true) (hk : List Nat) :
    Memory.wf (State.publishHk s hk) = true := by
  unfold State.publishHk
  simp +contextual [h, Memory.wf_foldl]

@[simp] theorem Memory.wf_modChan (s : State) (c : Nat) (f : Chan → Chan) :
    Memory.wf (State.modChan s c f) = Memory.wf s := rfl
@[simp] theorem Memory.wf_acceptTraining (s : State) (c : Nat) (m : TrainMeas) :
    Memory.wf (State.acceptTraining s c m) = Memory.wf s := by
  unfold State.acceptTraining
  simp

@[simp] theorem Memory.wf_rejectChannel (s : State) (c : Nat) :
    Memory.wf (State.rejectChannel s c) = Memory.wf s := rfl
@[simp] theorem Memory.wf_track (s : State) (c : Nat) (m : TrainMeas) :
    Memory.wf (State.track s c m) = Memory.wf s := by
  unfold State.track
  simp

@[simp] theorem Memory.wf_dramTapStep (s : State) (c : Nat) :
    Memory.wf (State.dramTapStep s c) = Memory.wf s := by
  unfold State.dramTapStep
  simp

@[simp] theorem Memory.wf_modTap (s : State) (t : Nat) (u : Nat) (f : TapUnit → TapUnit) :
    Memory.wf (State.modTap s t u f) = Memory.wf s := rfl
@[simp] theorem Memory.wf_acceptTap (s : State) (t : Nat) (inService : Bool) (m : TapMeas) :
    Memory.wf (State.acceptTap s t inService m) = Memory.wf s := rfl
@[simp] theorem Memory.wf_rejectTap (s : State) (t : Nat) (u : Nat) :
    Memory.wf (State.rejectTap s t u) = Memory.wf s := by
  unfold State.rejectTap
  simp

@[simp] theorem Memory.wf_cmdThermRead (s : State) :
    Memory.wf (cmdThermRead s).s = Memory.wf s := rfl
@[simp] theorem Memory.wf_cmdHkRead (first : Nat) (count : Nat) (s : State) :
    Memory.wf (cmdHkRead first count s).s = Memory.wf s := by
  unfold cmdHkRead
  simp

@[simp] theorem Memory.wf_cmdCalDt (dt : Nat) (s : State) :
    Memory.wf (cmdCalDt dt s).s = Memory.wf s := by
  unfold cmdCalDt
  simp

@[simp] theorem Memory.wf_clearBroken (s : State) (mask : Nat) :
    Memory.wf (State.clearBroken s mask) = Memory.wf s := rfl
@[simp] theorem Memory.wf_roundStart (s : State) :
    Memory.wf (State.roundStart s) = Memory.wf s := by
  unfold State.roundStart
  simp

end Sys2Proof.Machine
end

section
/-! SUPPORT. Memories in canonical form. Jobs: what each function leaves in canonical form. -/

namespace Sys2Proof.Machine

@[simp] theorem Memory.wf_cmdJobDefine (id : Nat) (mask : Nat) (endMode : Nat) (endValue : Nat) (bindings : List Byte)
    (s : State) :
    Memory.wf (cmdJobDefine id mask endMode endValue bindings s).s = Memory.wf s := by
  unfold cmdJobDefine
  simp

@[simp] theorem Memory.wf_showRing (s : State) (p : Nat) :
    Memory.wf (State.showRing s p) = Memory.wf s := rfl
@[simp] theorem Memory.wf_showRings {s : State} (h : Memory.wf s = true)  :
    Memory.wf (State.showRings s) = true := by
  unfold State.showRings
  simp +contextual [h, Memory.wf_foldl]

@[simp] theorem Memory.wf_cmdStreamCommit (p : Nat) (w : Nat) (s : State) :
    Memory.wf (cmdStreamCommit p w s).s = Memory.wf s := by
  unfold cmdStreamCommit
  dsimp only
  repeat' split
  all_goals simp

@[simp] theorem Memory.wf_streamLow (s : State) (p : Nat) (b : Binding) :
    Memory.wf (State.streamLow s p b) = Memory.wf s := by
  unfold State.streamLow
  simp

theorem Memory.wf_res_ite {c : Prop} [Decidable c] {a b : Res} (ha : Memory.wf a.s = true) (hb : Memory.wf b.s = true) :
    Memory.wf (if c then a else b).s = true := by
  split
  · exact ha
  · exact hb

@[simp] theorem Memory.wf_cmdJobStart {s : State} (h : Memory.wf s = true) (id arm source : Nat) (position : Int) :
    Memory.wf (cmdJobStart id arm source position s).s = true := by
  unfold cmdJobStart
  split
  · exact h
  split
  · exact h
  extract_lets ps e cpl running c lead j job u
  have hu : Memory.wf u = true := h
  clear_value u
  iterate 5 refine Memory.wf_res_ite h ?_
  by_cases h0 : arm = 0
  · simp [h0, hu]
  by_cases h1 : arm = 1
  · simp [h1, hu]
  by_cases h3 : arm = 3
  · clear_value running
    cases running <;> simp [h3, hu]
  · simp [h0, h1, h3, hu]

@[simp] theorem Memory.wf_armLatch (s : State) (sw : Nat) (latched : Int) :
    Memory.wf (State.armLatch s sw latched) = Memory.wf s := by
  unfold State.armLatch
  dsimp only
  repeat' split
  all_goals simp

@[simp] theorem Memory.wf_lowerEnd (s : State) (n : Nat) (cause : Nat) :
    Memory.wf (State.lowerEnd s n cause) = Memory.wf s := by
  unfold State.lowerEnd
  dsimp only
  repeat' split
  all_goals simp

@[simp] theorem Memory.wf_dropQueued (s : State) :
    Memory.wf (State.dropQueued s) = Memory.wf s := by
  unfold State.dropQueued
  dsimp only
  repeat' split
  all_goals simp

@[simp] theorem Memory.wf_planesStop {s : State} (h : Memory.wf s = true) (was : List Nat) :
    Memory.wf (s.planesStop was) = true := by
  have hp : Memory.wf (was.foldl State.planeStops s) = true := Memory.wf_foldl (fun _ p hu => Memory.wf_planeStops hu
      p) _ h
  simp [State.planesStop, hp]

@[simp] theorem Memory.wf_cmdJobStop {s : State} (h : Memory.wf s = true) (when_ : Nat) (drop : Nat) :
    Memory.wf (cmdJobStop when_ drop s).s = true := by
  unfold cmdJobStop
  dsimp only
  repeat' split
  all_goals simp +contextual [h]

@[simp] theorem Memory.wf_cmdJobStatus (s : State) :
    Memory.wf (cmdJobStatus s).s = Memory.wf s := rfl
@[simp] theorem Memory.wf_clipCheck (s : State) (p : Nat) :
    Memory.wf (State.clipCheck s p) = Memory.wf s := by
  unfold State.clipCheck
  simp

@[simp] theorem Memory.wf_begin (s : State) (j : JobRun) :
    Memory.wf (State.begin s j) = Memory.wf s := by
  unfold State.begin
  simp

@[simp] theorem Memory.wf_keepView (s : State) (j : JobRun) (p : Nat) :
    Memory.wf (State.keepView s j p) = Memory.wf s := by
  unfold State.keepView
  simp

@[simp] theorem Memory.wf_endJob {s : State} (h : Memory.wf s = true) (j : JobRun) (cause : Nat) (pos : Int) :
    Memory.wf (State.endJob s j cause pos) = true := by
  unfold State.endJob
  simp [h]

@[simp] theorem Memory.wf_jobStarts {s : State} (h : Memory.wf s = true) (fresh : Bool) :
    Memory.wf (s.jobStarts fresh) = true := by
  unfold State.jobStarts
  split
  · exact h
  · rename_i j _
    extract_lets p0 u job v time w x y
    have hv : Memory.wf v = true := by simp [v, u, h]
    have hx : Memory.wf x = true := by
      simp only [x]
      split
      · exact Memory.wf_foldl (fun _ _ hz => Memory.wf_foldl (fun _ _ hy => by simp [hy]) _ hz) _ (by simp [w, hv])
      · simp [w, hv]
    simp [y, hx]

@[simp] theorem Memory.wf_planeFault {s : State} (h : Memory.wf s = true) (p : Nat) :
    Memory.wf (s.planeFault p) = true := by
  unfold State.planeFault
  extract_lets far a u v
  have hu : Memory.wf u = true := Memory.wf_foldl (fun _ _ hv => Memory.wf_foldl (fun w k hw => by simp [hw]) _ hv) _ h
  simp [v, h, hu]

@[simp] theorem Memory.wf_faultStop {s : State} (h : Memory.wf s = true) : Memory.wf s.faultStop = true := by
  unfold State.faultStop
  split
  · exact h
  · extract_lets was u v w
    have hu : Memory.wf u = true := Memory.wf_foldl (fun _ p hv => Memory.wf_planeFault hv p) _ h
    simp [w, hu]

@[simp] theorem Memory.wf_consumeRing (s : State) (p : Nat) (b : Binding) (k : Nat) (base : Nat) (last : Bool) :
    Memory.wf (State.consumeRing s p b k base last) = Memory.wf s := rfl
@[simp] theorem Memory.wf_underrun (s : State) (p : Nat) (j : JobRun) (k : Nat) :
    Memory.wf (State.underrun s p j k) = Memory.wf s := by
  unfold State.underrun
  simp

@[simp] theorem Memory.wf_produce (s : State) (p : Nat) (b : Binding) (k : Nat) (base : Nat) (last : Bool) (ref : Int) :
    Memory.wf (State.produce s p b k base last ref).1 = Memory.wf s := by
  unfold State.produce
  simp

@[simp] theorem Memory.wf_loopIssue (s : State) (p : Nat) (ref : Int) :
    Memory.wf (State.loopIssue s p ref) = Memory.wf s := rfl
@[simp] theorem Memory.wf_issue {s : State} (h : Memory.wf s = true) (p : Nat) (j : JobRun) (b : Binding) :
    Memory.wf (State.issue s p j b).1 = true := by
  unfold State.issue
  simp [h]

@[simp] theorem Memory.wf_lineIssue {s : State} (h : Memory.wf s = true) (p : Nat) :
    Memory.wf (State.lineIssue s p).1 = true := by
  unfold State.lineIssue
  dsimp only
  repeat' split
  all_goals simp +contextual [h]

@[simp] theorem Memory.wf_toFifo {s : State} (h : Memory.wf s = true) (q : Nat) : Memory.wf (s.toFifo q) = true := by
  unfold State.toFifo
  split
  · exact h
  · split
    · exact h
    · split <;> simp [h]

@[simp] theorem Memory.wf_planeTick {s : State} (h : Memory.wf s = true) (seq : Nat) (started : Bool) (p : Nat) (x :
    JobPlane) :
    Memory.wf (State.planeTick s seq started p x) = true := by
  unfold State.planeTick
  simp [h]

@[simp] theorem Memory.wf_jobTick {s : State} (h : Memory.wf s = true) (j : Option JobRun) :
    Memory.wf (s.jobTick j) = true := by
  unfold State.jobTick
  split
  · exact h
  · exact Memory.wf_foldl (fun _ _ hu => Memory.wf_planeTick hu _ _ _ _) _ h

@[simp] theorem Memory.wf_startTick {s : State} (h : Memory.wf s = true) : Memory.wf s.startTick = true := by
  unfold State.startTick
  split
  · split
    · exact h
    · split <;> simp [h]
  · exact h

@[simp] theorem Memory.wf_commitTick {s : State} (h : Memory.wf s = true)  :
    Memory.wf (State.commitTick s) = true := by
  unfold State.commitTick
  simp +contextual [h, Memory.wf_foldl]

@[simp] theorem Memory.wf_wspdTerms (s : State) :
    Memory.wf (State.wspdTerms s) = Memory.wf s := rfl
@[simp] theorem Memory.wf_wspdPeriod (s : State) :
    Memory.wf (State.wspdPeriod s) = Memory.wf s := rfl
@[simp] theorem Memory.wf_freeFlips {s : State} (h : Memory.wf s = true)  :
    Memory.wf (State.freeFlips s) = true := by
  unfold State.freeFlips
  simp +contextual [h, Memory.wf_foldl]

theorem Memory.wf_of_ite {c : Prop} [Decidable c] {s u : State} (hs : Memory.wf s = true) (hu : Memory.wf u = true) :
    Memory.wf (if c then s else u) = true := by
  split
  · exact hs
  · exact hu

@[simp] theorem Memory.wf_tick {s : State} (h : Memory.wf s = true) : Memory.wf s.tick = true := by
  have ht : Memory.wf ((List.range 4).foldl State.encTick s) = true := by
    rw [Memory.wf_foldl_eq Memory.wf_encTick]
    exact h
  unfold State.tick
  rw [Memory.wf_wspdTerms]
  exact Memory.wf_commitTick (Memory.wf_startTick (Memory.wf_freeFlips (Memory.wf_jobTick (Memory.wf_jobTick ht _) _)))

@[simp] theorem Memory.wf_takeover {s : State} (h : Memory.wf s = true) : Memory.wf s.takeover = true := by
  unfold State.takeover
  split
  · split <;> simp [h]
  · exact h

@[simp] theorem Memory.wf_jobEnd {s : State} (h : Memory.wf s = true) : Memory.wf s.jobEnd = true := by
  unfold State.jobEnd
  split
  · exact h
  · split <;> simp [h]

@[simp] theorem Memory.wf_markRelease (s : State) (p : Nat) :
    Memory.wf (State.markRelease s p) = Memory.wf s := rfl
@[simp] theorem Memory.wf_cmdLineConfig (p : Nat) (enc : Nat) (pitch : Nat) (delay : Nat) (cpl : Nat) (wobble : Nat)
    (la : Nat) (s : State) :
    Memory.wf (cmdLineConfig p enc pitch delay cpl wobble la s).s = Memory.wf s := by
  unfold cmdLineConfig
  simp

@[simp] theorem Memory.wf_cmdHeadOffset {s : State} (h : Memory.wf s = true) (p : Nat) (first : Nat) (offsets : List
    Int) :
    Memory.wf (cmdHeadOffset p first offsets s).s = true := by
  unfold cmdHeadOffset
  simp +contextual [h, Memory.wf_foldl]

@[simp] theorem Memory.wf_cmdWspdConfig (enable : Nat) (margin : Nat) (highWm : Nat) (s : State) :
    Memory.wf (cmdWspdConfig enable margin highWm s).s = Memory.wf s := by
  unfold cmdWspdConfig
  simp

@[simp] theorem Memory.wf_layerNow {s : State} (h : Memory.wf s = true) (p : Nat) (g : List Fld) :
    Memory.wf (State.layerNow s p g) = true := by
  unfold State.layerNow
  simp [h]

@[simp] theorem Memory.wf_cmdLayerSet {s : State} (h : Memory.wf s = true) (p : Nat) (layer : Nat) (enable : Nat)
    (alpha : Nat) (premult : Nat) (flipAt : Nat) (addr : Nat) (width : Nat) (height : Nat) (stride : Nat) :
    Memory.wf (cmdLayerSet p layer enable alpha premult flipAt addr width height stride s).s = true := by
  unfold cmdLayerSet
  simp [h]

@[simp] theorem Memory.wf_cmdKiteMove {s : State} (h : Memory.wf s = true) (p : Nat) (flipAt : Nat) (x : Nat) (y : Nat) :
    Memory.wf (cmdKiteMove p flipAt x y s).s = true := by
  unfold cmdKiteMove
  simp [h]

@[simp] theorem Memory.wf_cmdPload {s : State} (h : Memory.wf s = true) (p : Nat) (rects : Nat) (src : Nat) (len : Nat)
    (tag : Nat) (on : Iface) :
    Memory.wf (cmdPload p rects src len tag on s).s = true := by
  unfold cmdPload
  simp [h]

@[simp] theorem Memory.wf_cmdPlock (p : Nat) (s : State) :
    Memory.wf (cmdPlock p s).s = Memory.wf s := by
  unfold cmdPlock
  simp

@[simp] theorem Memory.wf_cmdPunlock (p : Nat) (token : Nat) (s : State) :
    Memory.wf (cmdPunlock p token s).s = Memory.wf s := by
  unfold cmdPunlock
  simp

@[simp] theorem Memory.wf_cmdTableLoad {s : State} (h : Memory.wf s = true) (p : Nat) (table : Nat) (flipAt : Nat) (src
    : Nat) (len : Nat) (tag : Nat) (on : Iface) :
    Memory.wf (cmdTableLoad p table flipAt src len tag on s).s = true := by
  unfold cmdTableLoad
  simp [h]

@[simp] theorem Memory.wf_cmdEncConfig (e : Nat) (filter : Nat) (bw : Nat) (ms : Nat) (relay : Nat) (s : State) :
    Memory.wf (cmdEncConfig e filter bw ms relay s).s = Memory.wf s := by
  unfold cmdEncConfig
  simp

end Sys2Proof.Machine
end

section
/-! SUPPORT. Memories in canonical form. OTP and patches: what each function leaves in canonical form. -/

namespace Sys2Proof.Machine

@[simp] theorem Memory.wf_applyRecord (s : State) :
    Memory.wf (State.applyRecord s) = Memory.wf s := by
  unfold State.applyRecord
  simp

@[simp] theorem Memory.wf_cmdOtpRead (s : State) :
    Memory.wf (cmdOtpRead s).s = Memory.wf s := rfl
@[simp] theorem Memory.wf_cmdOtpBurn (record : List Byte) (s : State) :
    Memory.wf (cmdOtpBurn record s).s = Memory.wf s := by
  unfold cmdOtpBurn
  dsimp only
  repeat' split
  all_goals simp

@[simp] theorem Memory.wf_cmdKeyBurn (slot : Nat) (hash : List Byte) (s : State) :
    Memory.wf (cmdKeyBurn slot hash s).s = Memory.wf s := by
  unfold cmdKeyBurn
  simp

@[simp] theorem Memory.wf_cmdPatchLoad {s : State} (h : Memory.wf s = true) (offset : Nat) (data : List Byte) :
    Memory.wf (cmdPatchLoad offset data s).s = true := by
  unfold cmdPatchLoad
  split
  · obtain ⟨hd, hv, hu, h0, h1, hs, hp⟩ := (Memory.wf_iff s).1 h
    exact (Memory.wf_iff _).2 ⟨hd, hv, hu, h0, h1, Sparse.wf_putStaging data offset hs, hp⟩
  · exact h

@[simp] theorem Memory.wf_takePatch {s : State} (h : Memory.wf s = true) : Memory.wf s.takePatch = true := by
  obtain ⟨hd, hv, hu, h0, h1, hs, hp⟩ := (Memory.wf_iff s).1 h
  exact (Memory.wf_iff _).2 ⟨hd, hv, hu, h0, h1, hs, hs⟩

end Sys2Proof.Machine
end

section
/-! SUPPORT. Memories in canonical form. Head ports: what each function leaves in canonical form. -/

namespace Sys2Proof.Machine

@[simp] theorem Memory.wf_showProfile {s : State} (h : Memory.wf s = true) (p : Nat) :
    Memory.wf (State.showProfile s p) = true := by
  unfold State.showProfile
  simp +contextual [h, Memory.wf_foldl]

@[simp] theorem Memory.wf_putPreheat (s : State) (q : Nat) (n : Nat) (w : Nat) :
    Memory.wf (State.putPreheat s q n w) = Memory.wf s := rfl
@[simp] theorem Memory.wf_sretRun (s : State) (q : Nat) :
    Memory.wf (State.sretRun s q) = Memory.wf s := rfl
@[simp] theorem Memory.wf_sretAfresh (s : State) (q : Nat) :
    Memory.wf (State.sretAfresh s q) = Memory.wf s := rfl
@[simp] theorem Memory.wf_cmdHeadProfile {s : State} (h : Memory.wf s = true) (p : Nat) (record : List Byte) :
    Memory.wf (cmdHeadProfile p record s).s = true := by
  unfold cmdHeadProfile
  simp +contextual [h, Memory.wf_foldl]

@[simp] theorem Memory.wf_showPort (s : State) (q : Nat) :
    Memory.wf (State.showPort s q) = Memory.wf s := by
  unfold State.showPort
  split
  all_goals simp

@[simp] theorem Memory.wf_enterMap (s : State) (p : Nat) (q : Nat) :
    Memory.wf (State.enterMap s p q) = Memory.wf s := rfl
@[simp] theorem Memory.wf_cmdHeadMap {s : State} (h : Memory.wf s = true) (p : Nat) (ports : List Nat) :
    Memory.wf (cmdHeadMap p ports s).s = true := by
  unfold cmdHeadMap
  simp +contextual [h, Memory.wf_foldl]

@[simp] theorem Memory.wf_enablePort {s : State} (h : Memory.wf s = true) (q : Nat) (on : Bool) :
    Memory.wf (State.enablePort s q on) = true := by
  unfold State.enablePort
  dsimp only
  repeat' split
  all_goals simp +contextual [h]

@[simp] theorem Memory.wf_cmdPortEnable {s : State} (h : Memory.wf s = true) (mask : Nat) (enable : Nat) :
    Memory.wf (cmdPortEnable mask enable s).s = true := by
  unfold cmdPortEnable
  simp +contextual [h, Memory.wf_foldl]

@[simp] theorem Memory.wf_putFaulted (s : State) (q : Nat) (b : Bool) :
    Memory.wf (State.putFaulted s q b) = Memory.wf s := rfl
@[simp] theorem Memory.wf_cutTrains (s : State) (q : Nat) (pads : Bool × Bool) :
    Memory.wf (State.cutTrains s q pads) = Memory.wf s := by
  unfold State.cutTrains
  split
  all_goals simp

@[simp] theorem Memory.wf_portFault {s : State} (h : Memory.wf s = true) (q : Nat) (causes : Nat) (pads : Bool × Bool) :
    Memory.wf (State.portFault s q causes pads) = true := by
  unfold State.portFault
  simp [h]

@[simp] theorem Memory.wf_clearPort (s : State) (q : Nat) :
    Memory.wf (State.clearPort s q) = Memory.wf s := by
  unfold State.clearPort
  simp

@[simp] theorem Memory.wf_cmdPortClear (mask : Nat) (s : State) :
    Memory.wf (cmdPortClear mask s).s = Memory.wf s := by
  unfold cmdPortClear
  simp

@[simp] theorem Memory.wf_cmdHeadRead (q : Nat) (s : State) :
    Memory.wf (cmdHeadRead q s).s = Memory.wf s := rfl
@[simp] theorem Memory.wf_cmdPreheatTarget {s : State} (h : Memory.wf s = true) (p : Nat) (target : Int) :
    Memory.wf (cmdPreheatTarget p target s).s = true := by
  unfold cmdPreheatTarget
  simp +contextual [h, Memory.wf_foldl]

@[simp] theorem Memory.wf_headTemp (s : State) (q : Nat) (temp : Int) :
    Memory.wf (State.headTemp s q temp) = Memory.wf s := by
  unfold State.headTemp
  simp

@[simp] theorem Memory.wf_sretFrame {s : State} (h : Memory.wf s = true) (q : Nat) (r : List Byte) (frame : List Byte) :
    Memory.wf (State.sretFrame s q r frame) = true := by
  unfold State.sretFrame
  simp [h]

@[simp] theorem Memory.wf_cutPad (s : State) (q : Nat) (rowB : Bool) (stuck : Bool) :
    Memory.wf (State.cutPad s q rowB stuck) = Memory.wf s := rfl
@[simp] theorem Memory.wf_strobeWd {s : State} (h : Memory.wf s = true) (q : Nat) (rowB : Bool) (stuck : Bool) :
    Memory.wf (State.strobeWd s q rowB stuck) = true := by
  unfold State.strobeWd
  simp [h]

@[simp] theorem Memory.wf_strobeHw {s : State} (h : Memory.wf s = true) (q : Nat) (rowB : Bool) (stuck : Bool) :
    Memory.wf (State.strobeHw s q rowB stuck) = true := by
  unfold State.strobeHw
  simp [h]

@[simp] theorem Memory.wf_vheadCheck {s : State} (h : Memory.wf s = true) (hk : List Nat) :
    Memory.wf (s.vheadCheck hk) = true := by
  refine Memory.wf_foldl (fun u g hu => ?_) _ h
  exact Memory.wf_foldl (fun v i hv => by simp [hv]) _ hu

@[simp] theorem Memory.wf_writeVheadNom (s : State) (g : Nat) (v : Nat) :
    Memory.wf (State.writeVheadNom s g v).2 = Memory.wf s := by
  unfold State.writeVheadNom
  simp

@[simp] theorem Memory.wf_writeStbMax (s : State) (g : Nat) (v : Nat) :
    Memory.wf (State.writeStbMax s g v).2 = Memory.wf s := by
  unfold State.writeStbMax
  simp

end Sys2Proof.Machine
end

section
/-! SUPPORT. Memories in canonical form. Cameras: what each function leaves in canonical form. -/

namespace Sys2Proof.Machine

@[simp] theorem Memory.wf_modCam (s : State) (c : Nat) (f : CamPort → CamPort) :
    Memory.wf (State.modCam s c f) = Memory.wf s := rfl
@[simp] theorem Memory.wf_showCam (s : State) (c : Nat) :
    Memory.wf (State.showCam s c) = Memory.wf s := by
  unfold State.showCam
  simp

@[simp] theorem Memory.wf_showCams (s : State) :
    Memory.wf (State.showCams s) = Memory.wf s := by
  unfold State.showCams
  simp

@[simp] theorem Memory.wf_takeInline (s : State) :
    Memory.wf (State.takeInline s) = Memory.wf s := by
  unfold State.takeInline
  dsimp only
  repeat' split
  all_goals simp

@[simp] theorem Memory.wf_cmdCamInline (port : Nat) (s : State) :
    Memory.wf (cmdCamInline port s).s = Memory.wf s := by
  unfold cmdCamInline
  simp

@[simp] theorem Memory.wf_camWrite {s : State} (h : Memory.wf s = true) (f : CamFrame) (a : Nat) (bs : List Byte) :
    Memory.wf (State.camWrite s f a bs).1 = true := by
  unfold State.camWrite
  simp [h, Memory.wf_writeMem]

@[simp] theorem Memory.wf_frameBegin (s : State) (c : Nat) :
    Memory.wf (State.frameBegin s c) = Memory.wf s := by
  unfold State.frameBegin
  simp

@[simp] theorem Memory.wf_camDrop (s : State) (c : Nat) :
    Memory.wf (State.camDrop s c) = Memory.wf s := by
  unfold State.camDrop
  simp

@[simp] theorem Memory.wf_framePlace {s : State} (h : Memory.wf s = true) (f : CamFrame) :
    Memory.wf (State.framePlace s f).1 = true := by
  unfold State.framePlace
  simp [h]

@[simp] theorem Memory.wf_frameLine {s : State} (h : Memory.wf s = true) (f : CamFrame) (pix : List Nat) (crcOk : Bool)
    (fixed : Bool) :
    Memory.wf (State.frameLine s f pix crcOk fixed).1 = true := by
  unfold State.frameLine
  simp [h]

@[simp] theorem Memory.wf_frameEvents (s : State) (f : CamFrame) (short : Bool) (long : Bool) :
    Memory.wf (State.frameEvents s f short long) = Memory.wf s := by
  unfold State.frameEvents
  simp

@[simp] theorem Memory.wf_frameEnd {s : State} (h : Memory.wf s = true) (c : Nat) :
    Memory.wf (State.frameEnd s c) = true := by
  unfold State.frameEnd
  dsimp only
  repeat' split
  all_goals simp +contextual [h]

@[simp] theorem Memory.wf_camLine {s : State} (h : Memory.wf s = true) (c : Nat) (pix : List Nat)
    (crcOk fixed overflow : Bool) : Memory.wf (s.camLine c pix crcOk fixed overflow) = true := by
  unfold State.camLine
  extract_lets u
  have hu : Memory.wf u = true := by simp [u, h]
  clear_value u
  split
  · exact hu
  · rename_i f _
    have hr : Memory.wf (if f.placed then (u, f) else u.framePlace f).1 = true := by simp [hu]
    generalize (if f.placed then (u, f) else u.framePlace f) = r at hr ⊢
    obtain ⟨v, g⟩ := r
    have hl := Memory.wf_frameLine hr g pix crcOk fixed
    dsimp only
    generalize v.frameLine g pix crcOk fixed = l at hl ⊢
    obtain ⟨w, k⟩ := l
    dsimp only at hl ⊢
    cases overflow && !k.inline_ && !k.dropped
    · exact Memory.wf_of_ite (by simp [hl]) (by simp [hl])
    · exact Memory.wf_of_ite (by simp [hl]) (by simp [hl])

@[simp] theorem Memory.wf_camHeader (s : State) (c : Nat) (ecc : Fin 3) :
    Memory.wf (State.camHeader s c ecc).1 = Memory.wf s := by
  unfold State.camHeader
  simp

@[simp] theorem Memory.wf_camStart {s : State} (h : Memory.wf s = true) (c : Nat) (vc : Nat) (ecc : Fin 3) :
    Memory.wf (State.camStart s c vc ecc) = true := by
  unfold State.camStart
  simp [h]

@[simp] theorem Memory.wf_camStop {s : State} (h : Memory.wf s = true) (c : Nat) (vc : Nat) (ecc : Fin 3) :
    Memory.wf (State.camStop s c vc ecc) = true := by
  unfold State.camStop
  simp [h]

@[simp] theorem Memory.wf_camLong {s : State} (h : Memory.wf s = true) (c : Nat) (vc : Nat) (dt : Nat) (ecc : Fin 3)
    (pix : List Nat) (crcOk : Bool) (overflow : Bool) :
    Memory.wf (State.camLong s c vc dt ecc pix crcOk overflow) = true := by
  unfold State.camLong
  simp [h]

@[simp] theorem Memory.wf_writeCam {s : State} (h : Memory.wf s = true) (c : Nat) (r : List Byte) :
    Memory.wf (State.writeCam s c r).2 = true := by
  unfold State.writeCam
  simp +contextual [h, Memory.wf_foldl]

@[simp] theorem Memory.wf_cmdCamConfig {s : State} (h : Memory.wf s = true) (c : Nat) (record : List Byte) :
    Memory.wf (cmdCamConfig c record s).s = true := by
  unfold cmdCamConfig
  simp [h]

@[simp] theorem Memory.wf_beginFrame {s : State} (h : Memory.wf s = true) (f : CamFrame) :
    Memory.wf (State.beginFrame s f).1 = true := by
  unfold State.beginFrame
  simp [h]

@[simp] theorem Memory.wf_readRaw {s : State} (h : Memory.wf s = true) (f : CamFrame) :
    Memory.wf (State.readRaw s f).1 = true := by
  unfold State.readRaw
  simp [h, Memory.wf_waitFills]

@[simp] theorem Memory.wf_procLine {s : State} (h : Memory.wf s = true) (f : CamFrame) :
    Memory.wf (State.procLine s f).1 = true := by
  unfold State.procLine
  simp [h]

@[simp] theorem Memory.wf_putFrame (s : State) (f : CamFrame) :
    Memory.wf (State.putFrame s f) = Memory.wf s := by
  unfold State.putFrame
  simp

@[simp] theorem Memory.wf_inlineLine {s : State} (h : Memory.wf s = true) (f : CamFrame) :
    Memory.wf (State.inlineLine s f) = true := by
  unfold State.inlineLine
  dsimp only
  repeat' split
  all_goals simp +contextual [h]

@[simp] theorem Memory.wf_memLine {s : State} (h : Memory.wf s = true) (f : CamFrame) :
    Memory.wf (s.memLine f) = true := by
  unfold State.memLine
  have hb := Memory.wf_beginFrame h f
  generalize s.beginFrame f = r at hb ⊢
  obtain ⟨u, g⟩ := r
  have hr := Memory.wf_readRaw hb g
  dsimp only
  generalize u.readRaw g = r at hr ⊢
  obtain ⟨v, k⟩ := r
  have hx : Memory.wf (if cKind k.record = 1 ∧ k.rows.length ≤ k.outs.length + 1 then v.readRaw k else (v, k)).1 = true
      := by
    split
    · exact Memory.wf_readRaw hr _
    · exact hr
  dsimp only
  generalize (if cKind k.record = 1 ∧ k.rows.length ≤ k.outs.length + 1 then v.readRaw k else (v, k)) = x at hx ⊢
  simp [hx]

@[simp] theorem Memory.wf_pipelineLine {s : State} (h : Memory.wf s = true) : Memory.wf s.pipelineLine = true := by
  unfold State.pipelineLine
  split
  · exact Memory.wf_inlineLine h _
  · split
    · exact Memory.wf_of_ite (Memory.wf_memLine h _) h
    · exact h

@[simp] theorem Memory.wf_cmdRoiSet {s : State} (h : Memory.wf s = true) (first : Nat) (records : List Byte) :
    Memory.wf (cmdRoiSet first records s).s = true := by
  unfold cmdRoiSet
  simp [h, Memory.wf_putTabs]

@[simp] theorem Memory.wf_roiUpdate (s : State) (f : CamFrame) (i : Nat) (r : List Byte) :
    Memory.wf (State.roiUpdate s f i r) = Memory.wf s := by
  unfold State.roiUpdate
  simp

@[simp] theorem Memory.wf_roiUpdates (s : State) (f : CamFrame) :
    Memory.wf (State.roiUpdates s f) = Memory.wf s := by
  unfold State.roiUpdates
  simp

@[simp] theorem Memory.wf_cmdStatsRead (first : Nat) (count : Nat) (s : State) :
    Memory.wf (cmdStatsRead first count s).s = Memory.wf s := by
  unfold cmdStatsRead
  simp

@[simp] theorem Memory.wf_finishFrame {s : State} (h : Memory.wf s = true) (f : CamFrame) :
    Memory.wf (State.finishFrame s f).1 = true := by
  unfold State.finishFrame
  simp [h]

@[simp] theorem Memory.wf_camPulse (s : State) (c : Nat) :
    Memory.wf (State.camPulse s c) = Memory.wf s := rfl

end Sys2Proof.Machine
end

section
/-! SUPPORT. Memories in canonical form. Blocks of a lane: what each function leaves in canonical form. -/

namespace Sys2Proof.Machine

@[simp] theorem Memory.wf_endBlock {s : State} (h : Memory.wf s = true) (p : Nat) (block : List Byte) :
    Memory.wf (State.endBlock s p block) = true := by
  unfold State.endBlock
  simp +contextual [h, Memory.wf_foldl]

@[simp] theorem Memory.wf_startBlock {s : State} (h : Memory.wf s = true) (p : Nat) (idle : Bool) :
    Memory.wf (State.startBlock s p idle) = true := by
  unfold State.startBlock
  simp +contextual [h, Memory.wf_foldl]

@[simp] theorem Memory.wf_sendBurst {s : State} (h : Memory.wf s = true) (p : Nat) :
    Memory.wf (State.sendBurst s p) = true := by
  unfold State.sendBurst
  simp +contextual [h, Memory.wf_foldl]

@[simp] theorem Memory.wf_sendBytes {s : State} (h : Memory.wf s = true) (p : Nat) (bs : List Byte) :
    Memory.wf (State.sendBytes s p bs) = true := by
  unfold State.sendBytes
  simp [h]

@[simp] theorem Memory.wf_sendIdleNext {s : State} (h : Memory.wf s = true) (p : Nat) :
    Memory.wf (s.sendIdleNext p) = true := by
  unfold State.sendIdleNext
  extract_lets q u
  have hu : Memory.wf u = true := by simp [u, h]
  exact Memory.wf_foldl (fun v k hv => by simp [hv]) _ hu

end Sys2Proof.Machine
end

section
/-! SUPPORT. Memories in canonical form. Lanes: what each function leaves in canonical form. -/

namespace Sys2Proof.Machine

@[simp] theorem Memory.wf_orient (s : State) (l : Nat) (m : Nat) :
    Memory.wf (State.orient s l m).1 = Memory.wf s := by
  unfold State.orient
  simp

@[simp] theorem Memory.wf_markerMiss {s : State} (h : Memory.wf s = true) (l : Nat) :
    Memory.wf (State.markerMiss s l) = true := by
  unfold State.markerMiss
  simp [h]

@[simp] theorem Memory.wf_loadSeed (s : State) (l : Nat) (seed : Nat) :
    Memory.wf (State.loadSeed s l seed) = Memory.wf s := by
  unfold State.loadSeed
  dsimp only
  repeat' split
  all_goals simp

@[simp] theorem Memory.wf_tryUp (s : State) (p : Nat) :
    Memory.wf (State.tryUp s p) = Memory.wf s := by
  unfold State.tryUp
  simp

@[simp] theorem Memory.wf_afterMarker {s : State} (h : Memory.wf s = true) (p : Nat) (l : Nat) :
    Memory.wf (State.afterMarker s p l) = true := by
  unfold State.afterMarker
  dsimp only
  repeat' split
  all_goals simp +contextual [h]

@[simp] theorem Memory.wf_acceptMarker (s : State) (l : Nat) (m : Nat) (skew : Nat) :
    Memory.wf (State.acceptMarker s l m skew) = Memory.wf s := by
  unfold State.acceptMarker
  simp

@[simp] theorem Memory.wf_judgeLock {s : State} (h : Memory.wf s = true) (l : Nat) :
    Memory.wf (State.judgeLock s l) = true := by
  unfold State.judgeLock
  simp +contextual [h]

@[simp] theorem Memory.wf_onMarker {s : State} (h : Memory.wf s = true) (l : Nat) (marker : Nat) (pad : Nat) (stuffs :
    Nat) (stuffErrs : Nat) (skew : Nat) :
    Memory.wf (State.onMarker s l marker pad stuffs stuffErrs skew) = true := by
  unfold State.onMarker
  simp [h]

@[simp] theorem Memory.wf_startTraining {s : State} (h : Memory.wf s = true) (p : Nat) :
    Memory.wf (State.startTraining s p) = true := by
  unfold State.startTraining
  simp +contextual [h, Memory.wf_foldl]

@[simp] theorem Memory.wf_windUpPort {s : State} (h : Memory.wf s = true) (p : Nat) (burst : Option Nat) (woken : Bool) :
    Memory.wf (State.windUpPort s p burst woken) = true := by
  unfold State.windUpPort
  simp [h]

@[simp] theorem Memory.wf_leaveIdle {s : State} (h : Memory.wf s = true) (p : Nat) :
    Memory.wf (State.leaveIdle s p) = true := by
  unfold State.leaveIdle
  simp [h]

@[simp] theorem Memory.wf_burstLock {s : State} (h : Memory.wf s = true) (p : Nat) :
    Memory.wf (State.burstLock s p) = true := by
  unfold State.burstLock
  simp +contextual [h, Memory.wf_foldl]

@[simp] theorem Memory.wf_rxSlot {s : State} (h : Memory.wf s = true) (p : Nat) {act : State → State}
    (hact : ∀ u, Memory.wf u = true → Memory.wf (act u) = true) : Memory.wf (s.rxSlot p act) = true :=
  Memory.wf_when (fun u hu => Memory.wf_when hact ((Memory.wf_modPort u p _).trans hu) _) h _

@[simp] theorem Memory.wf_cmdLinkConfig (port : Nat) (lanes : Nat) (rate : Nat) (pre : Nat) (main : Nat) (post : Nat)
    (s : State) :
    Memory.wf (cmdLinkConfig port lanes rate pre main post s).s = Memory.wf s := by
  unfold cmdLinkConfig
  simp

@[simp] theorem Memory.wf_cmdLinkStatus (port : Nat) (s : State) :
    Memory.wf (cmdLinkStatus port s).s = Memory.wf s := by
  unfold cmdLinkStatus
  simp

@[simp] theorem Memory.wf_disablePort {s : State} (h : Memory.wf s = true) (p : Nat) :
    Memory.wf (State.disablePort s p) = true := by
  unfold State.disablePort
  simp [h]

end Sys2Proof.Machine
end

section
/-! SUPPORT. Memories in canonical form. Time bases and triggers: what each function leaves in canonical form. -/

namespace Sys2Proof.Machine

@[simp] theorem Memory.wf_putTb (s : State) (k : Nat) (b : TBase) :
    Memory.wf (State.putTb s k b) = Memory.wf s := by
  unfold State.putTb
  simp

@[simp] theorem Memory.wf_captureTb (s : State) (k : Nat) :
    Memory.wf (State.captureTb s k) = Memory.wf s := rfl
@[simp] theorem Memory.wf_stepTb (s : State) (k : Nat) (ns : Nat) :
    Memory.wf (State.stepTb s k ns) = Memory.wf s := by
  unfold State.stepTb
  simp

@[simp] theorem Memory.wf_slewTb (s : State) (k : Nat) (ns : Int) :
    Memory.wf (State.slewTb s k ns) = Memory.wf s := by
  unfold State.slewTb
  simp

@[simp] theorem Memory.wf_rateTb (s : State) (k : Nat) (ppb : Int) :
    Memory.wf (State.rateTb s k ppb) = Memory.wf s := by
  unfold State.rateTb
  simp

@[simp] theorem Memory.wf_cmdTimeRead (tb : Nat) (s : State) :
    Memory.wf (cmdTimeRead tb s).s = Memory.wf s := by
  unfold cmdTimeRead
  simp

@[simp] theorem Memory.wf_cmdTimeSet (tb : Nat) (seconds : Nat) (ns : Nat) (s : State) :
    Memory.wf (cmdTimeSet tb seconds ns s).s = Memory.wf s := by
  unfold cmdTimeSet
  simp

@[simp] theorem Memory.wf_cmdTimeAdjust (tb : Nat) (rate : Int) (offset : Int) (s : State) :
    Memory.wf (cmdTimeAdjust tb rate offset s).s = Memory.wf s := by
  unfold cmdTimeAdjust
  simp

@[simp] theorem Memory.wf_discipline (s : State) (stampNs : Nat) :
    Memory.wf (State.discipline s stampNs) = Memory.wf s := by
  unfold State.discipline
  simp

@[simp] theorem Memory.wf_putTrigNext (s : State) (k : Nat) (ns : Nat) :
    Memory.wf (State.putTrigNext s k ns) = Memory.wf s := rfl
@[simp] theorem Memory.wf_setTrigger (s : State) (k tb startS startNs periodNs : Nat) :
    Memory.wf (s.setTrigger k tb startS startNs periodNs).2 = Memory.wf s := by
  unfold State.setTrigger
  rw [Memory.wf_ite2, Memory.wf_ite2, Memory.wf_ite2, Memory.wf_ite2]
  repeat' split
  · rfl
  · rfl
  · exact Memory.wf_setB ..
  · rfl
  · exact (Memory.wf_set ..).trans ((Memory.wf_putTrigNext ..).trans ((Memory.wf_setB ..).trans (Memory.wf_set ..)))

@[simp] theorem Memory.wf_fireTrigger (s : State) (k : Nat) : Memory.wf (s.fireTrigger k) = Memory.wf s := by
  unfold State.fireTrigger
  extract_lets per v u skipped
  have hu : Memory.wf u = Memory.wf s := Memory.wf_inc ..
  clear_value u
  split
  · exact (Memory.wf_setB ..).trans hu
  · exact (Memory.wf_putTrigNext ..).trans ((Memory.wf_incSat ..).trans hu)

end Sys2Proof.Machine
end

section
/-! SUPPORT. Memories in canonical form. Motion: what each function leaves in canonical form. -/

namespace Sys2Proof.Machine

@[simp] theorem Memory.wf_modAxis (s : State) (a : Nat) (f : Axis → Axis) :
    Memory.wf (State.modAxis s a f) = Memory.wf s := rfl
@[simp] theorem Memory.wf_axisNote (s : State) (a : Nat) :
    Memory.wf (State.axisNote s a) = Memory.wf s := rfl
@[simp] theorem Memory.wf_showAxis (s : State) (a : Nat) :
    Memory.wf (State.showAxis s a) = Memory.wf s := by
  unfold State.showAxis
  dsimp only
  repeat' split
  all_goals simp

@[simp] theorem Memory.wf_axisDone (s : State) (a : Nat) (tag : Nat) :
    Memory.wf (State.axisDone s a tag) = Memory.wf s := by
  unfold State.axisDone
  simp

@[simp] theorem Memory.wf_axisEvt (s : State) (code : Nat) (a : Nat) :
    Memory.wf (State.axisEvt s code a) = Memory.wf s := by
  unfold State.axisEvt
  simp

@[simp] theorem Memory.wf_axisRest (s : State) (a : Nat) :
    Memory.wf (State.axisRest s a) = Memory.wf s := rfl
@[simp] theorem Memory.wf_dropShadow (s : State) (a : Nat) :
    Memory.wf (State.dropShadow s a) = Memory.wf s := by
  unfold State.dropShadow
  simp

@[simp] theorem Memory.wf_deEnergise (s : State) (a : Nat) :
    Memory.wf (State.deEnergise s a) = Memory.wf s := rfl
@[simp] theorem Memory.wf_loadEntries (s : State) (a : Nat) :
    Memory.wf (State.loadEntries s a) = Memory.wf s := rfl
@[simp] theorem Memory.wf_setIndex (s : State) (a : Nat) (x : Int) :
    Memory.wf (State.setIndex s a x) = Memory.wf s := by
  unfold State.setIndex
  simp

@[simp] theorem Memory.wf_followIndex (s : State) (a : Nat) :
    Memory.wf (State.followIndex s a) = Memory.wf s := by
  unfold State.followIndex
  simp

@[simp] theorem Memory.wf_modChop (s : State) (a : Nat) (onB : Bool) (f : Chop → Chop) :
    Memory.wf (State.modChop s a onB f) = Memory.wf s := rfl
@[simp] theorem Memory.wf_chopStart (s : State) (a : Nat) (onB : Bool) :
    Memory.wf (State.chopStart s a onB) = Memory.wf s := rfl
@[simp] theorem Memory.wf_chopWake (s : State) (a : Nat) (onB : Bool) :
    Memory.wf (State.chopWake s a onB) = Memory.wf s := by
  unfold State.chopWake
  simp

@[simp] theorem Memory.wf_chopWakes (s : State) (a : Nat) :
    Memory.wf (State.chopWakes s a) = Memory.wf s := by
  unfold State.chopWakes
  simp

@[simp] theorem Memory.wf_energise (s : State) (a : Nat) :
    Memory.wf (State.energise s a) = Memory.wf s := by
  unfold State.energise
  simp

@[simp] theorem Memory.wf_chopHigh (s : State) (a : Nat) (onB : Bool) (i : Int) :
    Memory.wf (State.chopHigh s a onB i) = Memory.wf s := by
  unfold State.chopHigh
  simp

@[simp] theorem Memory.wf_chopEnd (s : State) (a : Nat) (onB : Bool) (i : Int) (mean : Int) :
    Memory.wf (State.chopEnd s a onB i mean) = Memory.wf s := by
  unfold State.chopEnd
  simp

@[simp] theorem Memory.wf_overcurrent (s : State) (a : Nat) :
    Memory.wf (State.overcurrent s a) = Memory.wf s := by
  unfold State.overcurrent
  simp

@[simp] theorem Memory.wf_tableStart (s : State) (a : Nat) (p0 : Int) (v0 : Int) :
    Memory.wf (State.tableStart s a p0 v0) = Memory.wf s := by
  unfold State.tableStart
  simp

@[simp] theorem Memory.wf_limitFlag (s : State) (a : Nat) (d : Int) :
    Memory.wf (State.limitFlag s a d) = Memory.wf s := rfl
@[simp] theorem Memory.wf_doneFor (s : State) (a : Nat) (tag : Option Nat) :
    Memory.wf (s.doneFor a tag) = Memory.wf s := by
  cases tag <;> simp [State.doneFor]

@[simp] theorem Memory.wf_endWait (s : State) (a : Nat) : Memory.wf (s.endWait a) = Memory.wf s := by
  simp [State.endWait]

@[simp] theorem Memory.wf_endAll (s : State) (a : Nat) :
    Memory.wf (State.endAll s a) = Memory.wf s := by
  unfold State.endAll
  simp

@[simp] theorem Memory.wf_stopNow (s : State) (a : Nat) (tag : Option Nat) :
    Memory.wf (s.stopNow a tag) = Memory.wf s := by
  simp [State.stopNow]

@[simp] theorem Memory.wf_askStop (s : State) (a : Nat) (mode : Nat) :
    Memory.wf (State.askStop s a mode) = Memory.wf s := rfl
@[simp] theorem Memory.wf_takeStop (s : State) (a mode : Nat) : Memory.wf (s.takeStop a mode) = Memory.wf s := by
  simp [State.takeStop]

@[simp] theorem Memory.wf_moveFinish (s : State) (a : Nat) (tag : Nat) :
    Memory.wf (State.moveFinish s a tag) = Memory.wf s := by
  unfold State.moveFinish
  simp

@[simp] theorem Memory.wf_moveTurn (s : State) (a : Nat) :
    Memory.wf (State.moveTurn s a) = Memory.wf s := by
  unfold State.moveTurn
  simp

@[simp] theorem Memory.wf_putPv (s : State) (a : Nat) (p : Int) (v : Int) :
    Memory.wf (State.putPv s a p v) = Memory.wf s := rfl
@[simp] theorem Memory.wf_moveStep (s : State) (a : Nat) (v0 : Int) (v : Int) :
    Memory.wf (State.moveStep s a v0 v) = Memory.wf s := by
  unfold State.moveStep
  simp

@[simp] theorem Memory.wf_moveBrake (s : State) (a : Nat) (m : Move) (v0 : Int) (r : Int) :
    Memory.wf (State.moveBrake s a m v0 r) = Memory.wf s := by
  unfold State.moveBrake
  simp

@[simp] theorem Memory.wf_moveUpdate (s : State) (a : Nat) (m : Move) :
    Memory.wf (State.moveUpdate s a m) = Memory.wf s := by
  unfold State.moveUpdate
  simp

@[simp] theorem Memory.wf_brakeUpdate (s : State) (a : Nat) (tag : Option Nat) :
    Memory.wf (s.brakeUpdate a tag) = Memory.wf s := by
  simp [State.brakeUpdate]

@[simp] theorem Memory.wf_tableEnd (s : State) (a : Nat) (tag : Nat) (p1 : Int) (v1 : Int) :
    Memory.wf (State.tableEnd s a tag p1 v1) = Memory.wf s := by
  unfold State.tableEnd
  simp

@[simp] theorem Memory.wf_tableUpdate (s : State) (a tag seg n : Nat) (p0 v0 : Int) :
    Memory.wf (s.tableUpdate a tag seg n p0 v0) = Memory.wf s := by
  simp [State.tableUpdate]

@[simp] theorem Memory.wf_moveStart (s : State) (a : Nat) (m : Move) :
    Memory.wf (State.moveStart s a m) = Memory.wf s := by
  unfold State.moveStart
  simp

@[simp] theorem Memory.wf_cancelWait (s : State) (a : Nat) : Memory.wf (s.cancelWait a) = Memory.wf s := by
  simp [State.cancelWait]

@[simp] theorem Memory.wf_takeNext (s : State) (a : Nat) : Memory.wf (s.takeNext a) = Memory.wf s := by
  unfold State.takeNext
  extract_lets x waits
  split
  · simp
  · split <;> simp

@[simp] theorem Memory.wf_axisRun (s : State) (a : Nat) : Memory.wf (s.axisRun a) = Memory.wf s := by
  unfold State.axisRun
  split <;> simp

@[simp] theorem Memory.wf_loadAngle (s : State) (a : Nat) (m : AxisMeas) :
    Memory.wf (State.loadAngle s a m) = Memory.wf s := by
  unfold State.loadAngle
  simp

@[simp] theorem Memory.wf_stallTest (s : State) (a : Nat) : Memory.wf (s.stallTest a) = Memory.wf s := by
  simp [State.stallTest]

@[simp] theorem Memory.wf_axisUpdate (s : State) (a : Nat) (m : AxisMeas) :
    Memory.wf (s.axisUpdate a m) = Memory.wf s := by
  unfold State.axisUpdate
  extract_lets old u v w x y z
  have hv : Memory.wf v = Memory.wf s := by
    simp only [v]
    split <;> simp [u]
  simp [z, y, x, w, hv]

@[simp] theorem Memory.wf_writeAxis {s : State} (h : Memory.wf s = true) (a : Nat) (r : List Byte) :
    Memory.wf (State.writeAxis s a r).2 = true := by
  unfold State.writeAxis
  simp +contextual [h, Memory.wf_foldl]

@[simp] theorem Memory.wf_cmdAxisConfig {s : State} (h : Memory.wf s = true) (a : Nat) (record : List Byte) :
    Memory.wf (cmdAxisConfig a record s).s = true := by
  unfold cmdAxisConfig
  simp [h]

@[simp] theorem Memory.wf_markWait (s : State) (a : Nat) (move : Bool) :
    Memory.wf (State.markWait s a move) = Memory.wf s := by
  unfold State.markWait
  dsimp only
  repeat' split
  all_goals simp

@[simp] theorem Memory.wf_axisMove (s : State) (a : Nat) (target : Int) (vmax : Nat) (accel : Nat) (decel : Nat) (tag :
    Nat) :
    Memory.wf (State.axisMove s a target vmax accel decel tag).2 = Memory.wf s := by
  unfold State.axisMove
  simp

@[simp] theorem Memory.wf_cmdAxisMove (a : Nat) (target : Int) (vmax : Nat) (accel : Nat) (decel : Nat) (tag : Nat) (s
    : State) :
    Memory.wf (cmdAxisMove a target vmax accel decel tag s).s = Memory.wf s := by
  unfold cmdAxisMove
  simp

@[simp] theorem Memory.wf_commitTable (s : State) (a : Nat) (last : Nat) (tag : Nat) :
    Memory.wf (State.commitTable s a last tag) = Memory.wf s := by
  unfold State.commitTable
  simp

@[simp] theorem Memory.wf_cmdAxisTable {s : State} (h : Memory.wf s = true) (a : Nat) (first : Nat) (last : Nat) (segs
    : List Byte) (tag : Nat) :
    Memory.wf (cmdAxisTable a first last segs tag s).s = true := by
  unfold cmdAxisTable
  simp [h, Memory.wf_putTabs]

@[simp] theorem Memory.wf_tableGo (s : State) (a : Nat) :
    Memory.wf (State.tableGo s a).2 = Memory.wf s := by
  unfold State.tableGo
  simp

@[simp] theorem Memory.wf_cmdAxisStop (a : Nat) (mode : Nat) (s : State) :
    Memory.wf (cmdAxisStop a mode s).s = Memory.wf s := rfl
@[simp] theorem Memory.wf_cmdAxisRead (a : Nat) (s : State) :
    Memory.wf (cmdAxisRead a s).s = Memory.wf s := rfl
@[simp] theorem Memory.wf_cmdAxisSetPos (a : Nat) (position : Int) (s : State) :
    Memory.wf (cmdAxisSetPos a position s).s = Memory.wf s := by
  unfold cmdAxisSetPos
  simp

@[simp] theorem Memory.wf_modSwitch (s : State) (k : Nat) (f : Switch → Switch) :
    Memory.wf (State.modSwitch s k f) = Memory.wf s := rfl
@[simp] theorem Memory.wf_latchStops (s : State) (k : Nat) :
    Memory.wf (State.latchStops s k) = Memory.wf s := by
  unfold State.latchStops
  simp

@[simp] theorem Memory.wf_swLatch {s : State} (h : Memory.wf s = true) (k : Nat) :
    Memory.wf (State.swLatch s k) = true := by
  unfold State.swLatch
  dsimp only
  repeat' split
  all_goals simp +contextual [h, Memory.wf_foldl]

@[simp] theorem Memory.wf_limitStops (s : State) (k : Nat) :
    Memory.wf (State.limitStops s k) = Memory.wf s := by
  unfold State.limitStops
  simp

@[simp] theorem Memory.wf_writeEdge (s : State) (k : Nat) (v : Nat) :
    Memory.wf (State.writeEdge s k v) = Memory.wf s := by
  unfold State.writeEdge
  simp

@[simp] theorem Memory.wf_cmdSwitchConfig (k : Nat) (edge : Nat) (stuckMs : Nat) (s : State) :
    Memory.wf (cmdSwitchConfig k edge stuckMs s).s = Memory.wf s := by
  unfold cmdSwitchConfig
  simp

@[simp] theorem Memory.wf_swLevel {s : State} (h : Memory.wf s = true) (k : Nat) (level : Bool) :
    Memory.wf (State.swLevel s k level) = true := by
  unfold State.swLevel
  simp [h]

@[simp] theorem Memory.wf_axisTrigger (s : State) (k : Nat) :
    Memory.wf (State.axisTrigger s k) = Memory.wf s := by
  unfold State.axisTrigger
  simp

end Sys2Proof.Machine
end

section
/-! SUPPORT. Memories in canonical form. The loops: what each function leaves in canonical form. -/

namespace Sys2Proof.Machine

@[simp] theorem Memory.wf_loopReset {s : State} (h : Memory.wf s = true) (l : Nat) :
    Memory.wf (s.loopReset l) = true := by
  unfold State.loopReset
  extract_lets lo u
  have hu : Memory.wf u = true := Memory.wf_of_ite h h
  exact Memory.wf_foldl (fun v p hv => by simp [hv]) _ hu

@[simp] theorem Memory.wf_loopEnters {s : State} (h : Memory.wf s = true) (l : Nat) :
    Memory.wf (State.loopEnters s l) = true := by
  unfold State.loopEnters
  simp +contextual [h, Memory.wf_foldl]

@[simp] theorem Memory.wf_cmdLoopCtrl {s : State} (h : Memory.wf s = true) (l mode limit : Nat) :
    Memory.wf (cmdLoopCtrl l mode limit s).s = true := by
  unfold cmdLoopCtrl
  refine Memory.wf_res_ite h (Memory.wf_res_ite h ?_)
  extract_lets old u v w lo x
  have hu : Memory.wf u = true := Memory.wf_of_ite h ((Memory.wf_set ..).trans h)
  have hv : Memory.wf v = true := Memory.wf_of_ite (Memory.wf_loopReset hu l) hu
  have hw : Memory.wf w = true := Memory.wf_of_ite (Memory.wf_loopEnters hv l) hv
  have hx : Memory.wf x = true := Memory.wf_of_ite hw hw
  clear_value x
  rw [Res.ok_s, Memory.wf_set]
  exact hx

@[simp] theorem Memory.wf_loopLoad {s : State} (h : Memory.wf s = true) (p : Nat) (table : Nat) (off : Nat) (data :
    List Byte) :
    Memory.wf (State.loopLoad s p table off data).2 = true := by
  unfold State.loopLoad
  simp [h]

@[simp] theorem Memory.wf_loopLimitEvt (s : State) (l : Nat) (p : Nat) (z : Nat) :
    Memory.wf (State.loopLimitEvt s l p z) = Memory.wf s := by
  unfold State.loopLimitEvt
  simp

@[simp] theorem Memory.wf_colourZone {s : State} (h : Memory.wf s = true) (p : Nat) (z : Nat) (ds : List Int) :
    Memory.wf (State.colourZone s p z ds) = true := by
  unfold State.colourZone
  simp [h]

@[simp] theorem Memory.wf_toneLoad {s s0 : State} (h : Memory.wf s = true) (h0 : Memory.wf s0 = true) (p : Nat) :
    Memory.wf (s.toneLoad s0 p) = true := by
  unfold State.toneLoad
  split
  rename_i u ref bad hf
  have hu : Memory.wf u = true := by
    have hr := Memory.wf_fetch h (s.workAddr p + 0x2000) 8192
    rw [hf] at hr
    exact hr
  refine Memory.wf_of_ite (by simp [h0]) ?_
  rw [Memory.wf_modLoop]
  exact Memory.wf_loopLoad hu ..

@[simp] theorem Memory.wf_colourFrame {s : State} (h : Memory.wf s = true) (p : Nat) (f : CamFrame) :
    Memory.wf (s.colourFrame p f) = true := by
  unfold State.colourFrame
  extract_lets is u loops v
  split
  · exact h
  · have hu : Memory.wf u = true := Memory.wf_foldl (fun w z hw => by simp [hw]) _ h
    have hv : Memory.wf v = true := hu
    simp [h, hv]

@[simp] theorem Memory.wf_readSamples {s : State} (h : Memory.wf s = true) (f : CamFrame) (yx : List (Nat × Nat)) :
    Memory.wf (State.readSamples s f yx).1 = true := by
  unfold State.readSamples
  simp +contextual [h, Memory.wf_foldl, Memory.wf_waitFills]

@[simp] theorem Memory.wf_deadLoad {s : State} (h : Memory.wf s = true) (p : Nat) :
    Memory.wf (State.deadLoad s p) = true := by
  unfold State.deadLoad
  simp [h]

@[simp] theorem Memory.wf_ladderCounts {s : State} (h : Memory.wf s = true) (p : Nat) (js : List Judged) :
    Memory.wf (State.ladderCounts s p js) = true := by
  unfold State.ladderCounts
  simp [h, Memory.wf_fetch]

@[simp] theorem Memory.wf_ladder {s : State} (h : Memory.wf s = true) (p : Nat) (f : CamFrame) (v : JobView) (rep : Nat) :
    Memory.wf (State.ladder s p f v rep) = true := by
  unfold State.ladder
  simp [h]

@[simp] theorem Memory.wf_nozzleFrame {s : State} (h : Memory.wf s = true) (p : Nat) (f : CamFrame) :
    Memory.wf (s.nozzleFrame p f) = true := by
  refine Memory.wf_foldl (fun u v hu => Memory.wf_foldl (fun w r hw => Memory.wf_ladder hw _ _ _ _) _ hu) _ ?_
  simp [h]

@[simp] theorem Memory.wf_alongStep (s : State) (p : Nat) (h : Nat) (e : Rat) :
    Memory.wf (State.alongStep s p h e).1 = Memory.wf s := by
  unfold State.alongStep
  simp

@[simp] theorem Memory.wf_crossStep (s : State) (p : Nat) (h : Nat) (r : Rat) :
    Memory.wf (State.crossStep s p h r).1 = Memory.wf s := by
  unfold State.crossStep
  simp

@[simp] theorem Memory.wf_barGo (s : State) (p : Nat) :
    Memory.wf (State.barGo s p) = Memory.wf s := by
  unfold State.barGo
  simp

@[simp] theorem Memory.wf_barStep (s : State) (p : Nat) (e : Rat) :
    Memory.wf (State.barStep s p e) = Memory.wf s := by
  unfold State.barStep
  simp

@[simp] theorem Memory.wf_rampStep (s : State) (p : Nat) (z : Nat) (d : Rat) :
    Memory.wf (State.rampStep s p z d) = Memory.wf s := rfl
@[simp] theorem Memory.wf_stitchLoad {s : State} (h : Memory.wf s = true) (p : Nat) :
    Memory.wf (State.stitchLoad s p) = true := by
  unfold State.stitchLoad
  simp [h]

@[simp] theorem Memory.wf_alignPlane {s : State} (h : Memory.wf s = true) (p : Nat) (ts : List (Option (Rat × Rat)))
    (mx : Rat) :
    Memory.wf (s.alignPlane p ts mx) = true := by
  unfold State.alignPlane
  extract_lets rp ref other lat off r u v w
  have hu : Memory.wf u = true := by
    refine Memory.wf_foldl (fun x k hx => ?_) _ h
    split
    · exact hx
    · split
      rename_i e _ y a ha
      have hy : Memory.wf y = true := by
        split at ha
        · obtain rfl : _ = y := congrArg Prod.fst ha
          simp [hx]
        · obtain rfl : x = y := congrArg Prod.fst ha
          exact hx
      simp [hy]
  have hv : Memory.wf v = true := by simp [v, hu]
  refine Memory.wf_stitchLoad (Memory.wf_foldl (fun x z hx => ?_) _ hv) p
  split <;> simp [hx]

@[simp] theorem Memory.wf_alignFrame {s : State} (h : Memory.wf s = true) (p : Nat) (f : CamFrame) :
    Memory.wf (s.alignFrame p f) = true := by
  unfold State.alignFrame
  extract_lets ys
  refine Memory.wf_of_ite h ?_
  have hr := Memory.wf_readSamples h f (ys.flatMap (s.tickReads p f))
  generalize s.readSamples f (ys.flatMap (s.tickReads p f)) = r at hr ⊢
  refine Memory.wf_of_ite (by simp [hr]) ?_
  extract_lets hs per es u mx my v lo w ts
  have hu : Memory.wf u = true := by simp [u, hr]
  have hw : Memory.wf w = true := Memory.wf_of_ite (Memory.wf_foldl (fun x q hx => (Memory.wf_setB ..).trans hx) _ hu) hu
  exact Memory.wf_of_ite hu (Memory.wf_of_ite (Memory.wf_alignPlane hw _ _ _) hw)

@[simp] theorem Memory.wf_planeFrame {s : State} (h : Memory.wf s = true) (f : CamFrame) (p : Nat) :
    Memory.wf (s.planeFrame f p) = true := by
  unfold State.planeFrame
  extract_lets mine patches colour nozzle align suits u stale used v w x
  have hv : Memory.wf v = true := by simp [v, u, h]
  have hw : Memory.wf w = true := Memory.wf_of_ite (Memory.wf_colourFrame hv _ _) hv
  have hx : Memory.wf x = true := Memory.wf_of_ite (Memory.wf_nozzleFrame hw _ _) hw
  refine Memory.wf_of_ite h (Memory.wf_of_ite hv ?_)
  exact Memory.wf_of_ite (Memory.wf_alignFrame hx _ _) hx

@[simp] theorem Memory.wf_frameProcessed {s : State} (h : Memory.wf s = true) (c : Nat) :
    Memory.wf (s.frameProcessed c) = true := by
  unfold State.frameProcessed
  split
  · exact h
  · exact Memory.wf_foldl (fun u p hu => Memory.wf_planeFrame hu _ p) _ (Memory.wf_finishFrame h _)

@[simp] theorem Memory.wf_cmdAlignRead (p : Nat) (s : State) :
    Memory.wf (cmdAlignRead p s).s = Memory.wf s := rfl
@[simp] theorem Memory.wf_cmdAlignRestore {s : State} (h : Memory.wf s = true) (p : Nat) (b : List Byte) :
    Memory.wf (cmdAlignRestore p b s).s = true := by
  unfold cmdAlignRestore
  simp [h]

end Sys2Proof.Machine
end

section
/-! SUPPORT. Memories in canonical form. The redundant pair: what each function leaves in canonical form. -/

namespace Sys2Proof.Machine

@[simp] theorem Memory.wf_modPair (s : State) (f : PairSt → PairSt) :
    Memory.wf (State.modPair s f) = Memory.wf s := rfl
@[simp] theorem Memory.wf_dropIlk (s : State) :
    Memory.wf (State.dropIlk s) = Memory.wf s := rfl
@[simp] theorem Memory.wf_clashCheck (s : State) :
    Memory.wf (State.clashCheck s) = Memory.wf s := by
  unfold State.clashCheck
  split
  all_goals simp

@[simp] theorem Memory.wf_wakePorts {s : State} (h : Memory.wf s = true)  :
    Memory.wf (State.wakePorts s) = true := by
  unfold State.wakePorts
  simp +contextual [h, Memory.wf_foldl]

@[simp] theorem Memory.wf_reachL1 (s : State) (deep : Nat) (port : Nat) :
    Memory.wf (State.reachL1 s deep port) = Memory.wf s := by
  unfold State.reachL1
  simp

@[simp] theorem Memory.wf_wakeDoze {s : State} (h : Memory.wf s = true)  :
    Memory.wf (State.wakeDoze s) = true := by
  unfold State.wakeDoze
  dsimp only
  repeat' split
  all_goals simp +contextual [h]

@[simp] theorem Memory.wf_toStandby {s : State} (h : Memory.wf s = true)  :
    Memory.wf (State.toStandby s) = true := by
  unfold State.toStandby
  simp [h]

@[simp] theorem Memory.wf_leaveStandby (s : State) :
    Memory.wf (State.leaveStandby s) = Memory.wf s := rfl
@[simp] theorem Memory.wf_cmdPairConfig (enable : Nat) (strings : Nat) (s : State) :
    Memory.wf (cmdPairConfig enable strings s).s = Memory.wf s := by
  unfold cmdPairConfig
  simp

@[simp] theorem Memory.wf_cmdPairStatus (s : State) :
    Memory.wf (cmdPairStatus s).s = Memory.wf s := rfl
@[simp] theorem Memory.wf_cmdPairRejoin (s : State) :
    Memory.wf (cmdPairRejoin s).s = Memory.wf s := by
  unfold cmdPairRejoin
  simp

@[simp] theorem Memory.wf_stringDue (s : State) :
    Memory.wf (State.stringDue s) = Memory.wf s := by
  unfold State.stringDue
  simp

@[simp] theorem Memory.wf_handOver {s : State} (h : Memory.wf s = true) (code : Nat) :
    Memory.wf (State.handOver s code) = true := by
  unfold State.handOver
  simp [h]

@[simp] theorem Memory.wf_pairFault {s : State} (h : Memory.wf s = true) (code : Nat) :
    Memory.wf (State.pairFault s code) = true := by
  unfold State.pairFault
  simp [h]

@[simp] theorem Memory.wf_passedOver {s : State} (h : Memory.wf s = true)  :
    Memory.wf (State.passedOver s) = true := by
  unfold State.passedOver
  simp +contextual [h]

@[simp] theorem Memory.wf_cmdPairHandover (s : State) :
    Memory.wf (cmdPairHandover s).s = Memory.wf s := by
  unfold cmdPairHandover
  simp

@[simp] theorem Memory.wf_performOp {s : State} (h : Memory.wf s = true) (x0 : CkptOp) :
    Memory.wf (State.performOp s x0) = true := by
  unfold State.performOp
  dsimp only
  repeat' split
  all_goals simp +contextual [h, Memory.wf_fetch]

/-- Job, line, tone and loops are no part of memory. -/
theorem Memory.wf_setPath (s : State) (j : JobSt) (l : LineSt) (n : ToneSt) (o : LoopSt) :
    Memory.wf { s with job := j, line := l, tone := n, loops := o } = Memory.wf s := rfl

/-- A change of registers and their flipped bits leaves memory. -/
theorem Memory.wf_setAct (s : State) (f : Fld) (n : Nat) (a : List (Nat × Nat)) :
    Memory.wf { s.set f n with act := a } = Memory.wf s := rfl

theorem Memory.wf_restoreRegs {s : State} (h : Memory.wf s = true) (b : List Byte) (l : List Fld) :
    Memory.wf (l.foldl (fun s f =>
    { s.set f (Config.ckptReg b f.key) with
      act := Sparse.put f.reset s.act f.key (low f.w (Config.ckptAct b f.key)) }) s) = true :=
  Memory.wf_foldl (fun _ _ hy => (Memory.wf_setAct ..).trans hy) _ h

theorem Memory.wf_restoreProt {s : State} (h : Memory.wf s = true) (l : List (Fld × Nat)) :
    Memory.wf (l.foldl (fun s x => s.set x.1 x.2) s) = true :=
  Memory.wf_foldl (fun _ _ hy => (Memory.wf_set ..).trans hy) _ h

theorem Memory.wf_restoreTokens {s : State} (h : Memory.wf s = true) (tokens : List Nat) (l : List Nat) :
    Memory.wf (l.foldl (fun (s : State) p => s.modPlane p (fun x => { x with token := tokens.getD p 0 })) s) = true :=
  Memory.wf_foldl (fun _ _ hy => (Memory.wf_modPlane ..).trans hy) _ h

theorem Memory.wf_restoreTabs {s : State} (h : Memory.wf s = true) (b : List Byte) (cells : List Nat) (l : List Bool) :
    Memory.wf (l.foldl (fun s bank => s.putTabs bank tabBase
      (cells.map (fun i => Config.ckptTable b bank (tabBase + i)))) s) = true :=
  Memory.wf_foldl (fun _ _ hy => Memory.wf_putTabs hy _ _ _) _ h

@[simp] theorem Memory.wf_restore {s : State} (h : Memory.wf s = true) (b : List Byte) :
    Memory.wf (s.restore b) = true := by
  unfold State.restore
  generalize List.range 0x328100 = cells
  generalize ckptFields = fields
  generalize protFields = prots
  extract_lets tokens prot u v w x
  have hu : Memory.wf u = true :=
    (Memory.wf_setPath s (Config.ckptJob b) (Config.ckptLine b) (Config.ckptTone b) (Config.ckptLoops b)).trans h
  clear_value u
  have hv : Memory.wf v = true := Memory.wf_restoreTokens hu tokens (List.range 4)
  clear_value v
  have hw : Memory.wf w = true := Memory.wf_restoreRegs hv b fields
  clear_value w
  have hx : Memory.wf x = true := Memory.wf_restoreProt hw (prots.zip prot)
  clear_value x
  exact Memory.wf_restoreTabs hx b cells [false, true]

@[simp] theorem Memory.wf_rebasePlane (s : State) (p : Nat) :
    Memory.wf (State.rebasePlane s p) = Memory.wf s := rfl
@[simp] theorem Memory.wf_openGap (s : State) (j : JobRun) (gaps : List Int) (p : Nat) :
    Memory.wf (State.openGap s j gaps p) = Memory.wf s := rfl

/-- Parts beside memory. -/
theorem Memory.wf_setJob (s : State) (j : JobSt) : Memory.wf { s with job := j } = Memory.wf s := rfl
@[simp] theorem Memory.wf_takeOver {s : State} (h : Memory.wf s = true) (cause : Nat) :
    Memory.wf (s.takeOver cause) = true := by
  unfold State.takeOver
  extract_lets +onlyGivenNames gaps u v
  have hu : Memory.wf u = true := Memory.wf_wakeDoze h
  have hv : Memory.wf v = true := Memory.wf_restore hu _
  clear_value v
  extract_lets +onlyGivenNames w
  have hw : Memory.wf w = Memory.wf v := (Memory.wf_foldl_eq (fun u p => Memory.wf_rebasePlane u p) (List.range 4)
      _).trans
    ((Memory.wf_modQueued ..).trans (Memory.wf_modRunning ..))
  clear_value w
  have hx : Memory.wf ({ w with job := { w.job with last := w.job.last.map w.rebase } } : State) = Memory.wf w :=
    Memory.wf_setJob w _
  generalize ({ w with job := { w.job with last := w.job.last.map w.rebase } } : State) = x at hx ⊢
  extract_lets y lead g k z a
  have hz : Memory.wf z = Memory.wf x := ((Memory.wf_set ..).trans (Memory.wf_set ..)).trans (Memory.wf_modPair ..)
  clear_value z
  have ha : Memory.wf a = Memory.wf z := by
    unfold a
    cases z.job.running with
    | none => rfl
    | some j => exact (Memory.wf_mark ..).trans (Memory.wf_foldl_eq (fun u p => Memory.wf_openGap u j gaps p)
        j.planeList z)
  clear_value a
  exact Memory.wf_showRings ((Memory.wf_showJobs a).trans (ha.trans (hz.trans (hx.trans (hw.trans hv)))))

@[simp] theorem Memory.wf_becomeActive (s : State) :
    Memory.wf (State.becomeActive s) = Memory.wf s := by
  unfold State.becomeActive
  simp

@[simp] theorem Memory.wf_stringFault (s : State) (wire : Bool) (code : Nat) :
    Memory.wf (State.stringFault s wire code) = Memory.wf s := by
  unfold State.stringFault
  simp

@[simp] theorem Memory.wf_stringOk (s : State) (wire : Bool) :
    Memory.wf (State.stringOk s wire) = Memory.wf s := rfl
@[simp] theorem Memory.wf_alive (s : State) :
    Memory.wf (State.alive s) = Memory.wf s := rfl
@[simp] theorem Memory.wf_releaseFlips {s : State} (h : Memory.wf s = true)  :
    Memory.wf (State.releaseFlips s) = true := by
  unfold State.releaseFlips
  simp [h]

@[simp] theorem Memory.wf_onString {s : State} (h : Memory.wf s = true) (b : List Byte) (partner : Nat) :
    Memory.wf (s.onString b partner) = true := by
  unfold State.onString
  extract_lets +onlyGivenNames code u x v
  have hv : Memory.wf v = true := (Memory.wf_modPair ..).trans ((Memory.wf_alive ..).trans ((Memory.wf_clashCheck
      s).trans h))
  clear_value v
  extract_lets +onlyGivenNames w
  have hw : Memory.wf w = true := Memory.wf_of_ite (Memory.wf_toStandby hv) (Memory.wf_of_ite (Memory.wf_passedOver hv)
      hv)
  clear_value w
  extract_lets y z own a f
  have hz : Memory.wf z = true :=
    Memory.wf_of_ite (Memory.wf_releaseFlips ((Memory.wf_modPair ..).trans ((Memory.wf_set ..).trans hw))) hw
  clear_value z
  have ha : Memory.wf a = true := Memory.wf_of_ite (Memory.wf_handOver hz _) hz
  clear_value a
  have hf : Memory.wf f = true := (Memory.wf_stringFault a _ _).trans ha
  exact Memory.wf_of_ite ha (Memory.wf_of_ite ((Memory.wf_stringOk ..).trans ha) (Memory.wf_of_ite (Memory.wf_takeOver
      hf _) hf))

@[simp] theorem Memory.wf_ckptDiscard (s : State) :
    Memory.wf (State.ckptDiscard s) = Memory.wf s := rfl
@[simp] theorem Memory.wf_ckptDrop (s : State) :
    Memory.wf (State.ckptDrop s) = Memory.wf s := by
  unfold State.ckptDrop
  simp

@[simp] theorem Memory.wf_ckptCurrent {s : State} (h : Memory.wf s = true) (half seq : Nat) (data : List Byte) :
    Memory.wf (s.ckptCurrent half seq data) = true := by
  unfold State.ckptCurrent
  extract_lets u v w
  have hu : Memory.wf u = true := Memory.wf_foldl (fun k op hk => Memory.wf_performOp hk op) _ h
  have hw : Memory.wf w = true := by simp [w, v, hu]
  exact Memory.wf_foldl (fun k e hk => (Memory.wf_setS ..).trans hk) _ hw

@[simp] theorem Memory.wf_onCkpt {s : State} (h : Memory.wf s = true) (b : List Byte) :
    Memory.wf (s.onCkpt b) = true := by
  unfold State.onCkpt
  extract_lets +onlyGivenNames seq off n first last half u v w
  have hu : Memory.wf u = true := Memory.wf_of_ite (by simp [h]) h
  have hw : Memory.wf w = true := (Memory.wf_setB ..).trans (Memory.wf_of_ite hu hu)
  clear_value w
  split
  · exact hw
  · refine Memory.wf_of_ite (by simp [hw]) ?_
    extract_lets base y data
    have hy : Memory.wf y = true := Memory.wf_putTabs hw _ _ _
    clear_value y
    refine Memory.wf_of_ite (by simp [hy]) (Memory.wf_of_ite (by simp [hy]) (Memory.wf_of_ite ?_ (Memory.wf_of_ite ?_
        ?_)))
    · exact Memory.wf_ckptCurrent hy _ _ _
    · simp [hy]
    · simp [hy]

@[simp] theorem Memory.wf_restTraining (s : State) (p : Nat) :
    Memory.wf (State.restTraining s p) = Memory.wf s := by
  unfold State.restTraining
  simp

@[simp] theorem Memory.wf_orderIdle (s : State) (p : Nat) :
    Memory.wf (State.orderIdle s p) = Memory.wf s := by
  unfold State.orderIdle
  simp

end Sys2Proof.Machine
end

section
/-! SUPPORT. Memories in canonical form. Core voltage: what each function leaves in canonical form. -/

namespace Sys2Proof.Machine

@[simp] theorem Memory.wf_modPower (s : State) (f : PowerSt → PowerSt) :
    Memory.wf (State.modPower s f) = Memory.wf s := rfl
@[simp] theorem Memory.wf_pmPut (s : State) (ops : List PmOp) :
    Memory.wf (State.pmPut s ops) = Memory.wf s := by
  unfold State.pmPut
  simp

@[simp] theorem Memory.wf_requestVcore (s : State) (mv : Nat) :
    Memory.wf (State.requestVcore s mv) = Memory.wf s := by
  unfold State.requestVcore
  simp

@[simp] theorem Memory.wf_raiseToFloor (s : State) :
    Memory.wf (State.raiseToFloor s) = Memory.wf s := by
  unfold State.raiseToFloor
  simp

@[simp] theorem Memory.wf_putFloor (s : State) (mv : Nat) :
    Memory.wf (State.putFloor s mv).2 = Memory.wf s := by
  unfold State.putFloor
  simp

@[simp] theorem Memory.wf_cmdVcoreFloor (mv : Nat) (s : State) :
    Memory.wf (cmdVcoreFloor mv s).s = Memory.wf s := by
  unfold cmdVcoreFloor
  simp

@[simp] theorem Memory.wf_pmFault (s : State) :
    Memory.wf (State.pmFault s) = Memory.wf s := rfl
@[simp] theorem Memory.wf_pmDone (s : State) (value : Nat) (op : PmOp) : Memory.wf (s.pmDone value op) = Memory.wf s := by
  cases op
  case readVout =>
    unfold State.pmDone
    dsimp only
    split
    · rfl
    · rfl
  all_goals simp [State.pmDone]

@[simp] theorem Memory.wf_pmEnd (s : State) (ok : Bool) (value : Nat) : Memory.wf (s.pmEnd ok value) = Memory.wf s := by
  unfold State.pmEnd
  split
  · rfl
  · split <;> simp

@[simp] theorem Memory.wf_settleVcore (s : State) :
    Memory.wf (State.settleVcore s) = Memory.wf s := by
  unfold State.settleVcore
  split
  all_goals simp

end Sys2Proof.Machine
end

section
/-! SUPPORT. Memories in canonical form. Reset and events of the print path: what each function leaves in canonical form. -/

namespace Sys2Proof.Machine

@[simp] theorem Memory.wf_haltIfNew {s : State} (h : Memory.wf s = true) (e : Nat) (was : Bool) :
    Memory.wf (State.haltIfNew s e was) = true := by
  unfold State.haltIfNew
  simp [h]

@[simp] theorem Memory.wf_abEdge {s : State} (h : Memory.wf s = true) (e : Nat) (ch : Nat) :
    Memory.wf (State.abEdge s e ch) = true := by
  unfold State.abEdge
  simp [h]

@[simp] theorem Memory.wf_acceptAt {s : State} (h : Memory.wf s = true) (e : Nat) (a : Bool) (b : Bool) (z : Bool) :
    Memory.wf (State.acceptAt s e a b z) = true := by
  unfold State.acceptAt
  simp [h]

@[simp] theorem Memory.wf_encRun {s : State} (h : Memory.wf s = true) (e : Nat) (lvl : Nat) (n : Nat) (t : Nat) :
    Memory.wf (State.encRun s e lvl n t) = true := by
  unfold State.encRun
  simp +contextual [h, Memory.wf_foldl]

@[simp] theorem Memory.wf_encRuns {s : State} (h : Memory.wf s = true) (e t : Nat) (l : List (Fin 8 × Nat)) :
    Memory.wf (s.encRuns e t l) = true := by
  induction l generalizing s with
  | nil => exact h
  | cons r l ih => exact ih (Memory.wf_encRun h _ _ _ _)

@[simp] theorem Memory.wf_wireFault {s : State} (h : Memory.wf s = true) (e : Nat) (onB : Bool) :
    Memory.wf (State.wireFault s e onB) = true := by
  unfold State.wireFault
  simp [h]

@[simp] theorem Memory.wf_zWireFault (s : State) (e : Nat) :
    Memory.wf (State.zWireFault s e) = Memory.wf s := rfl
@[simp] theorem Memory.wf_checkPass {s : State} (h : Memory.wf s = true) (p : Nat) :
    Memory.wf (s.checkPass p) = true := by
  have hp := Memory.wf_passDone h p
  unfold State.checkPass
  generalize s.passDone p = r at hp ⊢
  obtain ⟨u, o⟩ := r
  cases o <;> simp [hp]

@[simp] theorem Memory.wf_refclkLost {s : State} (h : Memory.wf s = true)  :
    Memory.wf (State.refclkLost s) = true := by
  unfold State.refclkLost
  simp [h]

@[simp] theorem Memory.wf_refclkBack (s : State) :
    Memory.wf (State.refclkBack s) = Memory.wf s := by
  unfold State.refclkBack
  simp

@[simp] theorem Memory.wf_paceRate (s : State) (e : Nat) (w : Nat) :
    Memory.wf (State.paceRate s e w) = Memory.wf s := rfl
@[simp] theorem Memory.wf_paceIdle (s : State) (e : Nat) :
    Memory.wf (State.paceIdle s e) = Memory.wf s := rfl
@[simp] theorem Memory.wf_paceEngines (s : State) (work : List (Option Nat)) :
    Memory.wf (s.paceEngines work) = Memory.wf s := by
  refine Memory.wf_foldl_eq (fun u e => ?_) _ _
  split <;> simp

@[simp] theorem Memory.wf_paceRequests (s : State) (m : Option Rat) :
    Memory.wf (State.paceRequests s m) = Memory.wf s := by
  unfold State.paceRequests
  simp

@[simp] theorem Memory.wf_paceWindow (s : State) (work : List (Option Nat)) :
    Memory.wf (s.paceWindow work) = Memory.wf s := by
  unfold State.paceWindow
  extract_lets u pace v m w x
  have hx : Memory.wf x = Memory.wf s := by simp [x, w, v, u]
  split
  · exact (Memory.wf_raiseLimited ..).trans hx
  · exact hx

end Sys2Proof.Machine
end

section
/-! SUPPORT. Memories in canonical form. Events of memory: what each function leaves in canonical form. -/

namespace Sys2Proof.Machine

@[simp] theorem Memory.wf_modMem (s : State) (f : MemSt → MemSt) (hv : (f s.mem).valid = s.mem.valid)
    (hu : (f s.mem).undef = s.mem.undef) : Memory.wf (s.modMem f) = Memory.wf s :=
  Memory.wf_congr rfl hv hu rfl rfl rfl rfl

@[simp] theorem Memory.wf_cmdMemFill (addr : Nat) (len : Nat) (pattern : Nat) (tag : Nat) (on : Iface) (s : State) :
    Memory.wf (cmdMemFill addr len pattern tag on s).s = Memory.wf s := by
  unfold cmdMemFill
  simp

@[simp] theorem Memory.wf_fillMore {s : State} (h : Memory.wf s = true) (f : MemFill) (n : Nat) :
    Memory.wf (State.fillMore s f n) = true := by
  unfold State.fillMore
  simp [h, Memory.wf_waitFills, Memory.wf_writeMem]

@[simp] theorem Memory.wf_fillBlock {s : State} (h : Memory.wf s = true) (c : Nat) :
    Memory.wf (s.fillBlock c) = true := by
  unfold State.fillBlock
  split
  · exact h
  · rename_i f rest hf
    have hmore := Memory.wf_fillMore h f 64
    generalize s.fillMore f 64 = u at hmore
    exact Memory.wf_of_ite (Memory.wf_commitOldest ((Memory.wf_modMem u _ rfl rfl).trans hmore) c) h

@[simp] theorem Memory.wf_fillDone {s : State} (h : Memory.wf s = true) : Memory.wf s.fillDone = true := by
  unfold State.fillDone
  split
  · exact h
  · rw [Memory.wf_cmdDone]
    refine Memory.wf_commitWrites (Memory.wf_fillMore ?_ _ _) _
    rw [Memory.wf_modMem _ _ rfl rfl]
    exact h

@[simp] theorem Memory.wf_cmdMemMode {s : State} (h : Memory.wf s = true) (mode : Nat) :
    Memory.wf (cmdMemMode mode s).s = true := by
  unfold cmdMemMode
  simp [h, Memory.wf_undefine, Memory.wf_waitAllFills]

@[simp] theorem Memory.wf_writeAck {s : State} (h : Memory.wf s = true) (c : Nat) : Memory.wf (s.writeAck c) = true :=
  Memory.wf_of_ite (Memory.wf_commitOldest h c) (Memory.wf_fillBlock h c)

@[simp] theorem Memory.wf_invalidate {s : State} (h : Memory.wf s = true) (count : Nat) :
    Memory.wf (s.invalidate count).2 = true := by
  have hu : Memory.wf (s.waitAllFills.commitWrites (fun _ => true)) = true := Memory.wf_commitWrites
      (Memory.wf_waitAllFills h) _
  unfold State.invalidate
  generalize s.waitAllFills.commitWrites (fun _ => true) = u at hu ⊢
  extract_lets first
  split
  · exact h
  · split
    · exact h
    · split
      · exact h
      · obtain ⟨hd, hv, hr⟩ := (Memory.wf_iff u).1 hu
        exact (Memory.wf_iff _).2 ⟨hd, Sparse.wf_dropRange (fun _ => false) hv _ _, hr⟩

@[simp] theorem Memory.wf_openRange {s : State} (h : Memory.wf s = true) (first count : Nat) :
    Memory.wf (s.openRange first count) = true := by
  refine Memory.wf_foldl (fun u i hu => ?_) _ h
  have hf := Memory.wf_finishFill hu (first + i)
  exact Memory.wf_of_ite hf (Memory.wf_undefine hf _ _)

@[simp] theorem Memory.wf_recover {s : State} (h : Memory.wf s = true) (active : Bool) (first : Nat) :
    Memory.wf (s.recover active first).2 = true := by
  simp [State.recover, h]

@[simp] theorem Memory.wf_correctedRead (s : State) (b : Nat) :
    Memory.wf (State.correctedRead s b) = Memory.wf s := by
  unfold State.correctedRead
  simp

@[simp] theorem Memory.wf_scrubLap (s : State) :
    Memory.wf (State.scrubLap s) = Memory.wf s := by
  unfold State.scrubLap
  simp

@[simp] theorem Memory.wf_scrubRead (s : State) (a : Nat) (corrected bad : Bool) :
    Memory.wf (s.scrubRead a corrected bad) = Memory.wf s := by
  unfold State.scrubRead
  extract_lets u v
  split
  · rw [Memory.wf_meetUe, Memory.wf_modMem _ _ rfl rfl, Memory.wf_set]
  · split
    · rw [Memory.wf_modMem _ _ rfl rfl, Memory.wf_set, Memory.wf_set, Memory.wf_incSat, Memory.wf_set]
    · rfl

@[simp] theorem Memory.wf_scrubBlock (s : State) (corrected bad : Bool) :
    Memory.wf (s.scrubBlock corrected bad) = Memory.wf s := by
  unfold State.scrubBlock
  split
  · simp
  · rename_i a ha
    extract_lets u
    have hu : Memory.wf u = Memory.wf s := Memory.wf_scrubRead ..
    clear_value u
    split
    · exact (Memory.wf_modMem u _ rfl rfl).trans hu
    · simp [hu]

@[simp] theorem Memory.wf_trainAll (s : State) (results : List (List TrainMeas)) :
    Memory.wf (s.trainAll results) = Memory.wf s := by
  unfold State.trainAll
  extract_lets u
  have hu : Memory.wf u = Memory.wf s := by
    refine Memory.wf_foldl_eq (fun v c => ?_) _ _
    split <;> simp
  simp [hu]

@[simp] theorem Memory.wf_runsMeasured (s : State) (target : Nat) (rejected : Bool) :
    Memory.wf (State.runsMeasured s target rejected) = Memory.wf s := by
  unfold State.runsMeasured
  simp

@[simp] theorem Memory.wf_retrained {s : State} (h : Memory.wf s = true) (results : List TrainMeas) :
    Memory.wf (s.retrained results) = true := by
  unfold State.retrained
  extract_lets go r
  have hr : Memory.wf r.1 = true := by
    refine foldl_keeps (P := fun x : State × Bool => Memory.wf x.1 = true) (fun x c hx => ?_) _ _ h
    simp only [go]
    split
    · split <;> simp [hx]
    · simp [hx]
  clear_value r
  simp [hr]

@[simp] theorem Memory.wf_bootReady {s : State} (h : Memory.wf s = true) : Memory.wf s.bootReady = true := by
  unfold State.bootReady
  extract_lets u v w x
  have hu : Memory.wf u = true := by
    obtain ⟨hd, hv, hu, ht⟩ := (Memory.wf_iff s).1 h
    refine Memory.wf_of_ite ?_ h
    exact (Memory.wf_iff _).2 ⟨rfl, rfl, rfl, ht⟩
  simp [x, w, v, hu]

end Sys2Proof.Machine
end

section
/-! SUPPORT. Memories in canonical form. Rounds and calibration runs: what each function leaves in canonical form. -/

namespace Sys2Proof.Machine

@[simp] theorem Memory.wf_modTherm (s : State) (f : ThermSt → ThermSt) :
    Memory.wf (State.modTherm s f) = Memory.wf s := rfl
@[simp] theorem Memory.wf_critStops {s : State} (h : Memory.wf s = true) (was : Nat) :
    Memory.wf (State.critStops s was) = true := by
  unfold State.critStops
  simp [h]

@[simp] theorem Memory.wf_refFault {s : State} (h : Memory.wf s = true)  :
    Memory.wf (State.refFault s) = true := by
  unfold State.refFault
  simp [h]

@[simp] theorem Memory.wf_goodRound {s : State} (h : Memory.wf s = true) (raw : List Int) :
    Memory.wf (State.goodRound s raw) = true := by
  unfold State.goodRound
  simp [h]

@[simp] theorem Memory.wf_dramTracking (s : State) (dram : List (Option TrainMeas)) :
    Memory.wf (s.dramTracking dram) = Memory.wf s := by
  refine Memory.wf_foldl_eq (fun u c => ?_) _ _
  split <;> simp

@[simp] theorem Memory.wf_startTracking (s : State) :
    Memory.wf (State.startTracking s) = Memory.wf s := rfl
@[simp] theorem Memory.wf_vcoreCheck (s : State) (mv : Nat) :
    Memory.wf (State.vcoreCheck s mv) = Memory.wf s := by
  unfold State.vcoreCheck
  simp

@[simp] theorem Memory.wf_roundEnd {s : State} (h : Memory.wf s = true) (raw : List Int) (hk : List Nat) (dram : List
    (Option TrainMeas)) :
    Memory.wf (s.roundEnd raw hk dram) = true := by
  unfold State.roundEnd
  extract_lets u v w x y z
  have hv : Memory.wf v = true := Memory.wf_of_ite (by simp [u, h]) (by simp [u, h])
  clear_value v
  have hw : Memory.wf w = true := by simp [w, hv]
  clear_value w
  have hy : Memory.wf y = true := by simp [y, x, hw]
  have hz : Memory.wf z = true := by simp [z, hy]
  clear_value z
  rw [Memory.wf_pmPut]
  rw [Memory.wf_vcoreCheck]
  exact Memory.wf_vheadCheck hz hk

@[simp] theorem Memory.wf_cmdCalRun (targets : Nat) (tag : Nat) (on : Iface) (s : State) :
    Memory.wf (cmdCalRun targets tag on s).s = Memory.wf s := by
  unfold cmdCalRun
  simp

@[simp] theorem Memory.wf_showDeskew (s : State) (target u : Nat) : Memory.wf (s.showDeskew target u) = Memory.wf s := by
  unfold State.showDeskew
  split
  · split <;> simp
  · rfl

@[simp] theorem Memory.wf_judgeTap (s : State) (target : Nat) (tracking : Bool) (results : List TapMeas) (u : Nat) :
    Memory.wf (s.judgeTap target tracking results u).1 = Memory.wf s := by
  unfold State.judgeTap
  split
  · split <;> simp
  · simp

@[simp] theorem Memory.wf_judgeTaps (s : State) (target : Nat) (tracking : Bool) (results : List TapMeas) (us : List
    Nat) :
    Memory.wf (s.judgeTaps target tracking results us).1 = Memory.wf s := by
  induction us generalizing s with
  | nil => rfl
  | cons u us ih => exact (ih _).trans (Memory.wf_judgeTap ..)

@[simp] theorem Memory.wf_measured {s : State} (h : Memory.wf s = true) (target : Nat) (results : List TapMeas) :
    Memory.wf (s.measured target results) = true := by
  simp [State.measured, h]

@[simp] theorem Memory.wf_tapStep (s : State) (target u : Nat) : Memory.wf (s.tapStep target u) = Memory.wf s := by
  simp [State.tapStep]

end Sys2Proof.Machine
end

section
/-! SUPPORT. Memories in canonical form. Flits and transactions: what each function leaves in canonical form. -/

namespace Sys2Proof.Machine

@[simp] theorem Memory.wf_emit {s : State} (h : Memory.wf s = true) (p : Nat) (kind : Nat) (seq : Nat) (payload : List
    Byte) :
    Memory.wf (State.emit s p kind seq payload) = true := by
  unfold State.emit
  simp [h]

@[simp] theorem Memory.wf_sendInit {s : State} (h : Memory.wf s = true) (p : Nat) :
    Memory.wf (State.sendInit s p) = true := by
  unfold State.sendInit
  simp [h]

@[simp] theorem Memory.wf_sendNak {s : State} (h : Memory.wf s = true) (p : Nat) :
    Memory.wf (State.sendNak s p) = true := by
  unfold State.sendNak
  simp [h]

@[simp] theorem Memory.wf_sendData {s : State} (h : Memory.wf s = true) (p seq : Nat) (x : Held) :
    Memory.wf (s.sendData p seq x) = true := (Memory.wf_inc ..).trans (Memory.wf_emit h _ _ _ _)

@[simp] theorem Memory.wf_sendReplay {s : State} (h : Memory.wf s = true) (p i : Nat) (x : Held) :
    Memory.wf (s.sendReplay p i x) = true := (Memory.wf_modPort ..).trans (Memory.wf_sendData h _ _ _)

@[simp] theorem Memory.wf_sendNext {s : State} (h : Memory.wf s = true) (p : Nat) (x : Held) :
    Memory.wf (s.sendNext p x) = true :=
  (Memory.wf_set ..).trans ((Memory.wf_modPort ..).trans (Memory.wf_sendData h _ _ _))

@[simp] theorem Memory.wf_startTrans {s : State} (h : Memory.wf s = true) (p src : Nat) (x : Trans) :
    Memory.wf (s.startTrans p src x) = true := by
  unfold State.startTrans
  extract_lets y fl u pr v
  have hu : Memory.wf u = true := (Memory.wf_modPort s p _).trans h
  clear_value u
  have hv : Memory.wf v = true := Memory.wf_of_ite ((Memory.wf_mk u ..).trans hu) hu
  clear_value v
  clear_value fl
  cases fl with
  | nil => exact hv
  | cons b l => exact Memory.wf_sendNext hv p b

@[simp] theorem Memory.wf_sendCopy {s : State} (h : Memory.wf s = true) : Memory.wf s.sendCopy = true := by
  have hnone : ∀ {u : State}, Memory.wf u = true → Memory.wf (u.emit 3 0 0 []) = true := fun hu => Memory.wf_emit hu _
      _ _ _
  unfold State.sendCopy
  split
  · exact hnone h
  · split
    · exact hnone ((Memory.wf_modPair ..).trans h)
    · rename_i n hn
      refine Memory.wf_of_ite (hnone h) ?_
      have hf := Memory.wf_fetch h (4096 * n) 4096
      generalize s.fetch (4096 * n) 4096 = r at hf ⊢
      obtain ⟨u, d, bad⟩ := r
      have hu : Memory.wf ((u.meetUes bad 11).modPair (fun y => { y with copyNext := some (n + 1) })) = true :=
        (Memory.wf_modPair ..).trans ((Memory.wf_meetUes ..).trans hf)
      exact Memory.wf_startTrans (Memory.wf_of_ite ((Memory.wf_inc ..).trans hu) hu) _ _ _

@[simp] theorem Memory.wf_sendAgain {s : State} (h : Memory.wf s = true) (p : Nat) (x : Trans) :
    Memory.wf (s.sendAgain p x) = true :=
  Memory.wf_of_ite (Memory.wf_startTrans ((Memory.wf_modPort s p _).trans h) _ _ _) (Memory.wf_emit h _ _ _ _)

@[simp] theorem Memory.wf_freshSlot {s : State} (h : Memory.wf s = true) (p : Nat) :
    Memory.wf (s.freshSlot p) = true := by
  unfold State.freshSlot
  split
  · exact Memory.wf_startTrans ((Memory.wf_modPort s p _).trans h) _ _ _
  · exact Memory.wf_startTrans ((Memory.wf_takeOffer ..).trans h) _ _ _
  · split
    · exact Memory.wf_startTrans ((Memory.wf_modPort ..).trans ((Memory.wf_takeOffer ..).trans h)) _ _ _
    · exact Memory.wf_of_ite (Memory.wf_sendCopy h) (Memory.wf_emit h _ _ _ _)

@[simp] theorem Memory.wf_freeSlot {s : State} (h : Memory.wf s = true) (p : Nat) : Memory.wf (s.freeSlot p) = true := by
  unfold State.freeSlot
  split
  · exact Memory.wf_sendAgain h _ _
  · exact Memory.wf_freshSlot h _

@[simp] theorem Memory.wf_flitSlot {s : State} (h : Memory.wf s = true) (p : Nat) : Memory.wf (s.flitSlot p) = true := by
  unfold State.flitSlot
  refine Memory.wf_of_ite (Memory.wf_sendInit h p) (Memory.wf_of_ite (Memory.wf_sendNak h p) ?_)
  split
  · exact Memory.wf_sendReplay h _ _ _
  · refine Memory.wf_of_ite (Memory.wf_emit h _ _ _ _) ?_
    split
    · exact Memory.wf_sendNext h _ _
    · exact Memory.wf_freeSlot h _

@[simp] theorem Memory.wf_fillSlot {s : State} (h : Memory.wf s = true) (p : Nat) :
    Memory.wf (State.fillSlot s p) = true := by
  unfold State.fillSlot
  simp [h]

@[simp] theorem Memory.wf_routeMem {s : State} (h : Memory.wf s = true) (p : Nat) (x : Trans) {here : State → State}
    (hhere : Memory.wf (here s) = true) : Memory.wf (s.routeMem p x here) = true := by
  unfold State.routeMem
  split
  · exact hhere
  · exact Memory.wf_of_ite ((Memory.wf_sendTrans ..).trans h) ((Memory.wf_sendCpl ..).trans h)
  · exact (Memory.wf_sendTrans ..).trans h
  · exact (Memory.wf_sendCpl ..).trans ((Memory.wf_discard ..).trans h)

@[simp] theorem Memory.wf_refuseWr (s : State) (p : Nat) (x : Trans) (st : Nat) :
    Memory.wf (State.refuseWr s p x st) = Memory.wf s := rfl
@[simp] theorem Memory.wf_writesFrom (s : State) (old : Nat) (src : Nat) :
    Memory.wf (State.writesFrom s old src) = Memory.wf s := rfl
@[simp] theorem Memory.wf_takeWr {s : State} (h : Memory.wf s = true) (p : Nat) (x : Trans) :
    Memory.wf (State.takeWr s p x) = true := by
  unfold State.takeWr
  simp [h, Memory.wf_writeMem, Memory.wf_putTabs]

@[simp] theorem Memory.wf_takeRd {s : State} (h : Memory.wf s = true) (p : Nat) (x : Trans) :
    Memory.wf (State.takeRd s p x) = true := by
  unfold State.takeRd
  simp [h, Memory.wf_fetch]

@[simp] theorem Memory.wf_replyUp (s : State) (p : Nat) (x : Trans) :
    Memory.wf (State.replyUp s p x) = Memory.wf s := by
  unfold State.replyUp
  simp

@[simp] theorem Memory.wf_eventUp (s : State) (p : Nat) (x : Trans) :
    Memory.wf (State.eventUp s p x) = Memory.wf s := by
  unfold State.eventUp
  simp

@[simp] theorem Memory.wf_cmdHierRead (s : State) :
    Memory.wf (cmdHierRead s).s = Memory.wf s := rfl
@[simp] theorem Memory.wf_lineBeacon (s : State) (e : Nat) (count : Int) :
    Memory.wf (State.lineBeacon s e count) = Memory.wf s := by
  unfold State.lineBeacon
  simp

@[simp] theorem Memory.wf_useBeacon (s : State) (x : Trans) :
    Memory.wf (State.useBeacon s x) = Memory.wf s := by
  unfold State.useBeacon
  simp

@[simp] theorem Memory.wf_beacon {s : State} (h : Memory.wf s = true) (x : Trans) :
    Memory.wf (State.beacon s x) = true := by
  unfold State.beacon
  simp +contextual [h, Memory.wf_foldl]

@[simp] theorem Memory.wf_sendBeacons {s : State} (h : Memory.wf s = true)  :
    Memory.wf (State.sendBeacons s) = true := by
  unfold State.sendBeacons
  simp +contextual [h, Memory.wf_foldl]

@[simp] theorem Memory.wf_triggerEvent (s : State) (k : Nat) :
    Memory.wf (State.triggerEvent s k) = Memory.wf s := by
  unfold State.triggerEvent
  simp

@[simp] theorem Memory.wf_cmdTriggerSet (k : Nat) (tb : Nat) (startS : Nat) (startNs : Nat) (periodNs : Nat) (s : State) :
    Memory.wf (cmdTriggerSet k tb startS startNs periodNs s).s = Memory.wf s := by
  unfold cmdTriggerSet
  simp

end Sys2Proof.Machine
end

section
/-! SUPPORT. Memories in canonical form. Packing: what each function leaves in canonical form. -/

namespace Sys2Proof.Machine

@[simp] theorem Memory.wf_putPack (s : State) (k : Nat) (j : Option PackJob) :
    Memory.wf (State.putPack s k j) = Memory.wf s := rfl
@[simp] theorem Memory.wf_showPack (s : State) (k : Nat) (j : PackJob) :
    Memory.wf (State.showPack s k j) = Memory.wf s := by
  unfold State.showPack
  simp

@[simp] theorem Memory.wf_packEnds (s : State) (k : Nat) (st : Nat) (j : PackJob) :
    Memory.wf (State.packEnds s k st j) = Memory.wf s := by
  unfold State.packEnds
  simp

theorem Memory.wf_putPiece {s : State} (h : Memory.wf s = true) (j : PackJob) (bs : List Byte) (next : PackJob → PackJob)
    {k : State → PackJob → PackEnd} (hk : ∀ u j, Memory.wf u = true → Memory.wf (k u j).s = true) :
    Memory.wf (s.putPiece j bs next k).s = true := by
  have hw := Memory.wf_writeMem h s.mirrors (j.dst + j.used) bs
  unfold State.putPiece
  generalize s.writeMem s.mirrors (j.dst + j.used) bs = r at hw ⊢
  obtain ⟨u, bad⟩ := r
  split
  · exact h
  · extract_lets bad
    split
    · exact h
    · exact hk _ _ hw

theorem Memory.wf_packRun (n : Nat) :
    ∀ {s : State}, Memory.wf s = true → ∀ j, Memory.wf (State.packRun n s j).s = true := by
  induction n with
  | zero => exact fun h _ => h
  | succ n ih =>
    intro s h j
    have hput : ∀ bs next, Memory.wf (s.putPiece j bs next (State.packRun n)).s = true := fun bs next =>
      Memory.wf_putPiece h j bs next fun u j hu => ih hu j
    unfold State.packRun
    extract_lets x
    split
    · split
      · exact h
      · exact hput _ _
    · split
      · split
        · exact ih h _
        · extract_lets bad lits
          split
          · exact h
          · split
            · exact h
            · exact hput _ _
        · extract_lets bad t
          split
          · exact h
          · split
            · exact h
            · exact hput _ _
      · exact Memory.wf_putPiece h _ _ _ fun u j hu => hu

theorem Memory.wf_unpackRun (n : Nat) :
    ∀ {s : State}, Memory.wf s = true → ∀ j, Memory.wf (State.unpackRun n s j).s = true := by
  induction n with
  | zero => exact fun h _ => h
  | succ n ih =>
    intro s h j
    unfold State.unpackRun
    extract_lets need
    have hneed : ∀ m k, (∀ b, Memory.wf (k b).s = true) → Memory.wf (need m k).s = true := by
      intro m k hk
      unfold need
      split
      · exact h
      · extract_lets bad
        split
        · exact h
        · exact hk _
    clear_value need
    split
    · refine hneed _ _ fun b => ?_
      split
      · exact h
      · exact ih h _
    · split
      · refine hneed _ _ fun b => ?_
        split
        · exact h
        · split
          · exact h
          · exact h
      · refine hneed _ _ fun g => hneed _ _ fun b => ?_
        split
        · exact h
        · exact Memory.wf_putPiece h _ _ _ fun u j hu => ih hu j

@[simp] theorem Memory.wf_packWork {s : State} (h : Memory.wf s = true) (k : Nat) (j : PackJob) :
    Memory.wf (s.packWork k j) = true := by
  have hs : Memory.wf (s.waitFills j.src j.srcLen) = true := Memory.wf_waitFills h _ _
  unfold State.packWork
  extract_lets u r v
  have hr : Memory.wf r.s = true := by
    unfold r
    split
    · exact Memory.wf_unpackRun _ hs j
    · exact Memory.wf_packRun _ hs j
  clear_value r
  exact (Memory.wf_packEnds ..).trans ((Memory.wf_meetUes ..).trans ((Memory.wf_used ..).trans ((Memory.wf_meetCes
      ..).trans hr)))

@[simp] theorem Memory.wf_packBegin (s : State) (k : Nat) (j : PackJob) :
    Memory.wf (State.packBegin s k j) = Memory.wf s := by
  unfold State.packBegin
  simp

@[simp] theorem Memory.wf_packAccept (unpack : Bool) (slot : Nat) (level : Nat) (src : Nat) (dst : Nat) (n : Nat) (m :
    Nat) (tag : Nat) (s : State) :
    Memory.wf (packAccept unpack slot level src dst n m tag s).s = Memory.wf s := by
  unfold packAccept
  simp

@[simp] theorem Memory.wf_cmdPackStart (slot : Nat) (level : Nat) (src : Nat) (dst : Nat) (n : Nat) (m : Nat) (tag :
    Nat) (s : State) :
    Memory.wf (cmdPackStart slot level src dst n m tag s).s = Memory.wf s := by
  unfold cmdPackStart
  simp

@[simp] theorem Memory.wf_cmdUnpackStart (slot : Nat) (level : Nat) (src : Nat) (dst : Nat) (n : Nat) (m : Nat) (tag :
    Nat) (s : State) :
    Memory.wf (cmdUnpackStart slot level src dst n m tag s).s = Memory.wf s := by
  unfold cmdUnpackStart
  simp

@[simp] theorem Memory.wf_cmdPackResume (slot : Nat) (dst : Nat) (m : Nat) (tag : Nat) (s : State) :
    Memory.wf (cmdPackResume slot dst m tag s).s = Memory.wf s := by
  unfold cmdPackResume
  dsimp only
  repeat' split
  all_goals simp

@[simp] theorem Memory.wf_cmdPackSlot (slot : Nat) (release : Nat) (s : State) :
    Memory.wf (cmdPackSlot slot release s).s = Memory.wf s := by
  unfold cmdPackSlot
  simp

@[simp] theorem Memory.wf_dmaMeets {s : State} (h : Memory.wf s = true) (n : Nat) (b : Nat) :
    Memory.wf (State.dmaMeets s n b) = true := by
  unfold State.dmaMeets
  simp [h]

@[simp] theorem Memory.wf_ueResponse {s : State} (h : Memory.wf s = true) (b req u : Nat) :
    Memory.wf (s.ueResponse b req u) = true := by
  unfold State.ueResponse
  split
  · exact Memory.wf_pairFault h _
  · exact Memory.wf_foldl (fun v c hv => Memory.wf_tableCopied hv _ _ _) _ h
  · split
    · exact Memory.wf_of_ite (Memory.wf_ploadDone h _) h
    · exact Memory.wf_of_ite (Memory.wf_checkPass h _) h
  · exact Memory.wf_dmaMeets h _ _
  · split
    · exact Memory.wf_of_ite (Memory.wf_packWork h _ _) h
    · exact h
  · exact h

@[simp] theorem Memory.wf_uncorrectable {s : State} (h : Memory.wf s = true) (b req u line : Nat) :
    Memory.wf (s.uncorrectable b req u line) = true := by
  unfold State.uncorrectable
  split
  · extract_lets v w
    have hv : Memory.wf v = true := (Memory.wf_modMem s _ rfl rfl).trans h
    clear_value v
    have hw : Memory.wf w = true := Memory.wf_of_ite ((Memory.wf_meetUe ..).trans hv) ((Memory.wf_meetUe ..).trans hv)
    clear_value w
    exact Memory.wf_ueResponse ((Memory.wf_modMem w _ rfl rfl).trans hw) _ _ _
  · exact h

/-- The state from reset with parts of its own: in canonical form as its OTP is. -/
theorem Memory.wf_reset_with (s : State) (o : OtpSt) (e : List Enc) (p : PowerSt) (hs : Sparse.wf (fun _ => 0)
    o.staging = true)
    (hp : Sparse.wf (fun _ => 0) o.patchRam = true) : Memory.wf { State.reset with
      pending := s.pending, free := s.free, tap := s.tap, otp := o, encs := e, power := p } = true :=
  (Memory.wf_iff _).2 ⟨rfl, rfl, rfl, rfl, rfl, hs, hp⟩

end Sys2Proof.Machine
end

section
/-! SUPPORT. Memories in canonical form. Power, reset and uncorrectable reads: what each function leaves in canonical form. -/

namespace Sys2Proof.Machine

@[simp] theorem Memory.wf_fullReset (s : State) {otp : OtpSt} (hs : Sparse.wf (fun _ => 0) otp.staging = true)
    (hp : Sparse.wf (fun _ => 0) otp.patchRam = true) (causes : List Fld) (side : Bool) :
    Memory.wf (s.fullReset otp causes side) = true := by
  unfold State.fullReset
  extract_lets +onlyGivenNames r0 e p u v
  have hu : Memory.wf u = true := Memory.wf_reset_with s otp _ _ hs hp
  clear_value u
  have hv : Memory.wf v = true := (Memory.wf_applyRecord ..).trans hu
  clear_value v
  extract_lets w x y z
  have hw : Memory.wf w = true := (Memory.wf_mk v ..).trans hv
  clear_value w
  have hx : Memory.wf x = true := (Memory.wf_setB ..).trans ((Memory.wf_foldl_eq (fun y f => Memory.wf_set ..)
      pinFields w).trans hw)
  clear_value x
  have hz : Memory.wf z = true := (Memory.wf_mk x ..).trans hx
  clear_value z
  exact Memory.wf_foldl (fun y f hy => (Memory.wf_setB ..).trans hy) _ ((Memory.wf_setB ..).trans hz)

@[simp] theorem Memory.wf_holdPins {s : State} (h : Memory.wf s = true)  :
    Memory.wf (State.holdPins s) = true := by
  unfold State.holdPins
  simp +contextual [h, Memory.wf_foldl]

@[simp] theorem Memory.wf_resetFalls {s : State} (h : Memory.wf s = true)  :
    Memory.wf (State.resetFalls s) = true := by
  unfold State.resetFalls
  simp [h]

@[simp] theorem Memory.wf_quietly {s : State} (h : Memory.wf s = true) {f : State → State}
    (hf : ∀ u, Memory.wf u = true → Memory.wf (f u) = true) : Memory.wf (s.quietly f) = true :=
  (Memory.wf_mk (f { s with host := HostIf.init }) ..).trans (hf _ ((Memory.wf_mk s ..).trans h))

@[simp] theorem Memory.wf_dmaStop {s : State} (h : Memory.wf s = true) (n : Nat) :
    Memory.wf (State.dmaStop s n) = true := by
  unfold State.dmaStop
  simp [h]

@[simp] theorem Memory.wf_stopWork {s : State} (h : Memory.wf s = true) : Memory.wf s.stopWork = true := by
  refine Memory.wf_quietly (Memory.wf_faultStop h) fun u hu => ?_
  extract_lets job v w x
  have hv : Memory.wf v = true := Memory.wf_showRings ((Memory.wf_showJobs ..).trans ((Memory.wf_setJob u _).trans hu))
  clear_value v
  have hw : Memory.wf w = true :=
    Memory.wf_foldl (fun y k hy => Memory.wf_of_ite ((Memory.wf_set ..).trans ((Memory.wf_putPack ..).trans hy)) hy) _ hv
  clear_value w
  have hx : Memory.wf x = true := Memory.wf_foldl (fun y k hy => Memory.wf_of_ite (Memory.wf_dmaStop hy _) hy) _ hw
  clear_value x
  exact Memory.wf_foldl (fun y k hy => Memory.wf_of_ite ((Memory.wf_stopNow ..).trans hy) hy) _ hx

@[simp] theorem Memory.wf_fwRestart {s : State} (h : Memory.wf s = true) : Memory.wf s.fwRestart = true := by
  have hclear : Memory.wf ((List.range 4).foldl State.clearProt s.stopWork) = true :=
    Memory.wf_foldl (fun u p hu => Memory.wf_clearProt hu p) _ (Memory.wf_stopWork h)
  unfold State.fwRestart
  extract_lets u v
  have hv : Memory.wf v = true := (Memory.wf_setB ..).trans ((Memory.wf_setB ..).trans hclear)
  clear_value v
  exact Memory.wf_of_ite hv ((Memory.wf_pmPut ..).trans hv)

@[simp] theorem Memory.wf_cmdReset (kind : Nat) (force : Nat) (s : State) :
    Memory.wf (cmdReset kind force s).s = Memory.wf s := by
  unfold cmdReset
  simp

theorem OtpSt.readArea_kept (o : OtpSt) : o.readArea.staging = o.staging ∧ o.readArea.patchRam = o.patchRam := by
  unfold OtpSt.readArea
  split
  · exact ⟨rfl, rfl⟩
  · exact ⟨rfl, rfl⟩

@[simp] theorem Memory.wf_resetActs {s : State} (h : Memory.wf s = true) (kind : Nat) :
    Memory.wf (s.resetActs kind) = true := by
  have hotp := OtpSt.readArea_kept { OtpSt.init with gens := s.otp.gens, keys := s.otp.keys, locks := s.otp.locks }
  obtain ⟨hs, hp⟩ := hotp
  refine Memory.wf_of_ite (Memory.wf_fwRestart h) ?_
  have hfull := Memory.wf_fullReset s (otp := s.otpRead) (by unfold State.otpRead; rw [hs]; rfl)
    (by unfold State.otpRead; rw [hp]; rfl) [Reg.LADDER_RESET_CAUSE_COMMAND] s.sidePin
  exact (Memory.wf_mk (s.fullReset s.otpRead [Reg.LADDER_RESET_CAUSE_COMMAND] s.sidePin) ..).trans hfull

@[simp] theorem Memory.wf_cmdPatchActivate (size : Nat) (signature : List Byte) (s : State) :
    Memory.wf (cmdPatchActivate size signature s).s = Memory.wf s := by
  unfold cmdPatchActivate
  simp

@[simp] theorem Memory.wf_patchActs {s : State} (h : Memory.wf s = true) : Memory.wf s.patchActs = true :=
  Memory.wf_fwRestart (Memory.wf_takePatch h)

@[simp] theorem Memory.wf_setAutoL1 (s : State) (on : Bool) :
    Memory.wf (State.setAutoL1 s on) = Memory.wf s := by
  unfold State.setAutoL1
  simp

@[simp] theorem Memory.wf_cmdLadderSet (state : Nat) (wakePort : Nat) (s : State) :
    Memory.wf (cmdLadderSet state wakePort s).s = Memory.wf s := by
  unfold cmdLadderSet
  simp

@[simp] theorem Memory.wf_cmdLadderStatus (s : State) :
    Memory.wf (cmdLadderStatus s).s = Memory.wf s := rfl
@[simp] theorem Memory.wf_sleep3 {s : State} (h : Memory.wf s = true) : Memory.wf s.sleep3 = true := by
  obtain ⟨hd, hv, hu, -, -, hs, -⟩ := (Memory.wf_iff s).1 h
  exact (Memory.wf_iff _).2 ⟨hd, hv, hu, rfl, rfl, hs, rfl⟩

@[simp] theorem Memory.wf_enter {s : State} (h : Memory.wf s = true) (state : Nat) :
    Memory.wf (s.enter state) = true := by
  have hrest : Memory.wf (((((List.range 4).foldl State.restTraining s).set Reg.LADDER_STATE state)).modPower
      (fun x => { x with entry := none })) = true :=
    (Memory.wf_modPower ..).trans ((Memory.wf_set ..).trans
      ((Memory.wf_foldl_eq (fun u p => Memory.wf_restTraining u p) (List.range 4) s).trans h))
  exact Memory.wf_of_ite (Memory.wf_sleep3 hrest) hrest

@[simp] theorem Memory.wf_lostCounts (s : State) :
    Memory.wf (State.lostCounts s) = Memory.wf s := rfl
@[simp] theorem Memory.wf_exitL4 {s : State} (_ : Memory.wf s = true) : Memory.wf s.exitL4 = true := by
  unfold State.exitL4
  extract_lets +onlyGivenNames w o otp r
  have hr : Memory.wf r = true := Memory.wf_fullReset s rfl rfl _ _
  clear_value r
  extract_lets kept regs tm u pr v
  have hu : Memory.wf u = true := (Memory.wf_mk r ..).trans hr
  clear_value u
  have hv : Memory.wf v = true := (Memory.wf_mk u ..).trans hu
  clear_value v
  exact (Memory.wf_lostCounts ..).trans ((Memory.wf_foldl_eq (fun y f => Memory.wf_set ..) _ v).trans hv)

@[simp] theorem Memory.wf_wake {s : State} (h : Memory.wf s = true) (cause : Nat) : Memory.wf (s.wake cause) = true := by
  unfold State.wake
  extract_lets deep u
  have hu : Memory.wf u = true :=
    Memory.wf_of_ite ((Memory.wf_lostCounts ..).trans h) (Memory.wf_of_ite (Memory.wf_exitL4 h) h)
  clear_value u
  exact (Memory.wf_reachL1 ..).trans (Memory.wf_wakePorts ((Memory.wf_modPower u _).trans hu))

@[simp] theorem Memory.wf_wakeEvent {s : State} (h : Memory.wf s = true) (cause : Nat) :
    Memory.wf (s.wakeEvent cause) = true := by
  unfold State.wakeEvent
  refine Memory.wf_of_ite ((Memory.wf_modPower ..).trans h) (Memory.wf_of_ite h ?_)
  split
  · exact Memory.wf_wake h _
  · exact Memory.wf_of_ite (Memory.wf_wake h _) h

@[simp] theorem Memory.wf_cmdLinkRestart (port : Nat) (s : State) :
    Memory.wf (cmdLinkRestart port s).s = Memory.wf s := by
  unfold cmdLinkRestart
  simp

@[simp] theorem Memory.wf_linkRestartActs {s : State} (h : Memory.wf s = true) (port : Nat) :
    Memory.wf (State.linkRestartActs s port) = true := by
  unfold State.linkRestartActs
  simp [h]

end Sys2Proof.Machine
end

section
/-! SUPPORT. Memories in canonical form. Reading registers: what each function leaves in canonical form. -/

namespace Sys2Proof.Machine

@[simp] theorem Memory.wf_capture (s : State) (a : Nat) :
    Memory.wf (State.capture s a) = Memory.wf s := by
  unfold State.capture
  dsimp only
  repeat' split
  all_goals simp

@[simp] theorem Memory.wf_readReg (s : State) (a : Nat) :
    Memory.wf (State.readReg s a).1 = Memory.wf s := by
  unfold State.readReg
  simp

theorem Memory.wf_readWords {s : State} (h : Memory.wf s = true) (a n : Nat) : Memory.wf (s.readWords a n).1 = true := by
  induction n generalizing s a with
  | zero => exact h
  | succ n ih =>
    unfold State.readWords
    extract_lets r x
    have hr : Memory.wf r.1 = true := by
      unfold r
      split
      · exact (Memory.wf_readReg ..).trans h
      · exact h
    exact ih hr _

theorem Memory.wf_hostRead {s : State} (h : Memory.wf s = true) (a n : Nat) : Memory.wf (s.hostRead a n).2.2 = true := by
  unfold State.hostRead
  have hf := Memory.wf_fetch h a (4 * n)
  generalize s.fetch a (4 * n) = r at hf ⊢
  obtain ⟨u, d, bad⟩ := r
  split
  · exact h
  · split
    · dsimp only
      split
      · exact hf
      · exact (Memory.wf_meetUes ..).trans hf
    · exact Memory.wf_readWords h _ _

@[simp] theorem Memory.wf_cmdRegRead {s : State} (h : Memory.wf s = true) (addr count : Nat) :
    Memory.wf (cmdRegRead addr count s).s = true := by
  have hr := Memory.wf_hostRead h addr count
  unfold cmdRegRead
  generalize s.hostRead addr count = r at hr ⊢
  obtain ⟨st, ws, u⟩ := r
  dsimp only
  split
  · exact hr
  · exact hr

end Sys2Proof.Machine
end

section
/-! SUPPORT. Memories in canonical form. Writing registers: what each function leaves in canonical form. -/

namespace Sys2Proof.Machine

@[simp] theorem Memory.wf_putWord (s : State) (a v : Nat) : Memory.wf (s.putWord a v) = Memory.wf s := by
  refine Memory.wf_foldl_eq (fun u f => ?_) _ s
  extract_lets x
  split
  · rfl
  · rfl
  · rfl
  · rfl
  · rfl

@[simp] theorem Memory.wf_guardWrite {s : State} {t : State} (hs : Memory.wf s = true) (ht : Memory.wf t = true) (ok :
    Bool) (st : Nat) :
    Memory.wf (guardWrite s ok st t).2 = true := by
  unfold guardWrite
  simp [hs, ht]

@[simp] theorem Memory.wf_clrMin {s : State} (h : Memory.wf s = true)  :
    Memory.wf (State.clrMin s) = true := by
  unfold State.clrMin
  simp +contextual [h, Memory.wf_foldl]

theorem Memory.wf_writes {r q : Nat × State} {c : Prop} [Decidable c] (hr : Memory.wf r.2 = true) (hq : Memory.wf q.2 =
    true) :
    Memory.wf (if c then r else q).2 = true := by
  split
  · exact hr
  · exact hq

@[simp] theorem Memory.wf_writeSys {s : State} (h : Memory.wf s = true) (a v : Nat) :
    Memory.wf (s.writeSys a v).2 = true := by
  have hput := (Memory.wf_putWord s a v).trans h
  unfold State.writeSys
  split
  · exact Memory.wf_of_ite (Memory.wf_clrMin hput) hput
  · split
    · simp [hput]
    · split
      · simp [h]
      · exact hput

@[simp] theorem Memory.wf_writeLadder {s : State} (h : Memory.wf s = true) (a v : Nat) :
    Memory.wf (s.writeLadder a v).2 = true := by
  have hput := (Memory.wf_putWord s a v).trans h
  unfold State.writeLadder
  split
  · simp [h]
  · split
    · simp [h]
    · exact hput

@[simp] theorem Memory.wf_writeTherm {s : State} (h : Memory.wf s = true) (a v : Nat) :
    Memory.wf (s.writeTherm a v).2 = true := by
  have hput := (Memory.wf_putWord s a v).trans h
  unfold State.writeTherm
  split
  · simp [h]
  · split
    · exact Memory.wf_guardWrite h hput _ _
    · split
      · exact Memory.wf_guardWrite h hput _ _
      · exact hput

@[simp] theorem Memory.wf_writeCal {s : State} (h : Memory.wf s = true) (a v : Nat) :
    Memory.wf (s.writeCal a v).2 = true := by
  have hput := (Memory.wf_putWord s a v).trans h
  unfold State.writeCal
  split
  · exact Memory.wf_guardWrite h hput _ _
  · exact hput

@[simp] theorem Memory.wf_writeMemctl {s : State} (h : Memory.wf s = true) (a v : Nat) :
    Memory.wf (s.writeMemctl a v).2 = true := by
  have hput := (Memory.wf_putWord s a v).trans h
  unfold State.writeMemctl
  split
  · split
    · extract_lets r
      split
      · exact Memory.wf_invalidate hput _
      · exact h
    · exact hput
  · split
    · exact Memory.wf_recover h _ _
    · split
      · exact Memory.wf_of_ite h hput
      · exact hput

@[simp] theorem Memory.wf_uePop (s : State) :
    Memory.wf (State.uePop s) = Memory.wf s := rfl
@[simp] theorem Memory.wf_writeEcc {s : State} (h : Memory.wf s = true) (a v : Nat) :
    Memory.wf (s.writeEcc a v).2 = true := by
  have hput := (Memory.wf_putWord s a v).trans h
  unfold State.writeEcc
  split
  · exact Memory.wf_of_ite ((Memory.wf_uePop ..).trans h) h
  · exact hput

@[simp] theorem Memory.wf_writeDma {s : State} (h : Memory.wf s = true) (a v : Nat) :
    Memory.wf (s.writeDma a v).2 = true := by
  have hput := (Memory.wf_putWord s a v).trans h
  unfold State.writeDma
  split
  · split
    · simp [h]
    · exact h
  · exact hput

@[simp] theorem Memory.wf_writeEnc {s : State} (h : Memory.wf s = true) (a v : Nat) :
    Memory.wf (s.writeEnc a v).2 = true := by
  have hput : ∀ w, Memory.wf (s.putWord a w) = true := fun w => (Memory.wf_putWord s a w).trans h
  have hlo : ∀ k, Memory.wf (s.writeCmpLo s.axisPos k v) = true := fun k => by simp [h]
  have hhi : ∀ k, Memory.wf (s.holdCmpHi k v) = true := fun k => by simp [h]
  have hfault : ∀ u k, Memory.wf (State.clearZFault u k) = Memory.wf u := fun u k => Memory.wf_clearZFault ..
  have hssi : ∀ u k, Memory.wf (State.ssiDue u k) = Memory.wf u := fun u k => Memory.wf_ssiDue ..
  unfold State.writeEnc
  refine Memory.wf_writes (Memory.wf_guardWrite h (hput v) _ _) (Memory.wf_writes ?_ (Memory.wf_writes ?_
    (Memory.wf_writes (hlo _) (Memory.wf_writes (hhi _) (hput v)))))
  · exact Memory.wf_of_ite ((hfault _ _).trans (hput _)) (hput _)
  · exact Memory.wf_of_ite ((hssi _ _).trans (hput _)) (hput _)

@[simp] theorem Memory.wf_writeHoff {s : State} (h : Memory.wf s = true) (a p o v : Nat) :
    Memory.wf (s.writeHoff a p o v).2 = true := by
  unfold State.writeHoff
  split
  · exact h
  · have hput := (Memory.wf_putWord s a v).trans h
    simp [hput]

@[simp] theorem Memory.wf_writePlane {s : State} (h : Memory.wf s = true) (a p r v : Nat) :
    Memory.wf (s.writePlane a p r v).2 = true := by
  have hput := (Memory.wf_putWord s a v).trans h
  unfold State.writePlane
  extract_lets t
  split
  · exact h
  · split
    · simp [t, h]
    · split
      · exact Memory.wf_guardWrite h (by simp [t, h]) _ _
      · exact hput

@[simp] theorem Memory.wf_writeLinegen {s : State} (h : Memory.wf s = true) (a v : Nat) :
    Memory.wf (s.writeLinegen a v).2 = true := by
  have hput := (Memory.wf_putWord s a v).trans h
  unfold State.writeLinegen
  extract_lets o
  split
  · exact Memory.wf_writePlane h _ _ _ _
  · split
    · exact (Memory.wf_mk (s.putWord a v) ..).trans hput
    · split
      · exact Memory.wf_of_ite ((Memory.wf_defectPop ..).trans h) h
      · split
        · exact Memory.wf_writeHoff h _ _ _ _
        · exact hput

@[simp] theorem Memory.wf_writeLayer {s : State} (h : Memory.wf s = true) (a p layer v : Nat) :
    Memory.wf (s.writeLayer a p layer v).2 = true := by
  have hput := (Memory.wf_putWord s a v).trans h
  unfold State.writeLayer
  extract_lets t l st
  split
  · simp [t, h]
  · exact h

@[simp] theorem Memory.wf_writeCompose {s : State} (h : Memory.wf s = true) (a v : Nat) :
    Memory.wf (s.writeCompose a v).2 = true := by
  have hput := (Memory.wf_putWord s a v).trans h
  unfold State.writeCompose
  extract_lets o p r
  split
  · exact hput
  · split
    · exact Memory.wf_writeLayer h _ _ _ _
    · split
      · exact Memory.wf_writeLayer h _ _ _ _
      · split
        · exact Memory.wf_writeLayer h _ _ _ _
        · split
          · simp [h]
          · exact hput

@[simp] theorem Memory.wf_writeHtone {s : State} (h : Memory.wf s = true) (a v : Nat) :
    Memory.wf (s.writeHtone a v).2 = true := by
  have hput := (Memory.wf_putWord s a v).trans h
  unfold State.writeHtone
  extract_lets o p r ok
  split
  · split
    · exact h
    · exact Memory.wf_guardWrite h (by simp [h]) _ _
  · exact hput

@[simp] theorem Memory.wf_writeHeadport {s : State} (h : Memory.wf s = true) (a v : Nat) :
    Memory.wf (s.writeHeadport a v).2 = true := by
  have hput := (Memory.wf_putWord s a v).trans h
  unfold State.writeHeadport
  extract_lets g o
  split
  · exact Memory.wf_of_ite (by simp [h]) hput
  · split
    · simp [h]
    · split
      · simp [h]
      · exact hput

@[simp] theorem Memory.wf_writeCamrx {s : State} (h : Memory.wf s = true) (a v : Nat) :
    Memory.wf (s.writeCamrx a v).2 = true := by
  have hput := (Memory.wf_putWord s a v).trans h
  unfold State.writeCamrx
  extract_lets o
  split
  · simp [h]
  · exact hput

@[simp] theorem Memory.wf_writeMeasure {s : State} (h : Memory.wf s = true) (a v : Nat) :
    Memory.wf (s.writeMeasure a v).2 = true := by
  have hput := (Memory.wf_putWord s a v).trans h
  unfold State.writeMeasure
  extract_lets o ok
  split
  · split
    · exact h
    · exact Memory.wf_guardWrite h hput _ _
  · split
    · exact Memory.wf_guardWrite h hput _ _
    · exact hput

@[simp] theorem Memory.wf_writeMotion {s : State} (h : Memory.wf s = true) (a v : Nat) :
    Memory.wf (s.writeMotion a v).2 = true := by
  have hput := (Memory.wf_putWord s a v).trans h
  unfold State.writeMotion
  extract_lets o r
  split
  · simp [h]
  · split
    · split
      · split
        · simp [r, h]
        · exact h
      · exact hput
    · split
      · simp [h]
      · exact hput

@[simp] theorem Memory.wf_writePortCfg {s : State} (h : Memory.wf s = true) (a p v : Nat) :
    Memory.wf (s.writePortCfg a p v) = true := by
  have hput := (Memory.wf_putWord s a v).trans h
  unfold State.writePortCfg
  extract_lets was u w
  have hw : Memory.wf w = true := Memory.wf_of_ite (Memory.wf_disablePort hput _) hput
  clear_value w
  exact Memory.wf_of_ite (Memory.wf_restartPort hw _) hw

@[simp] theorem Memory.wf_writeZphy {s : State} (h : Memory.wf s = true) (a v : Nat) :
    Memory.wf (s.writeZphy a v).2 = true := by
  have hput := (Memory.wf_putWord s a v).trans h
  unfold State.writeZphy
  extract_lets o
  split
  · exact Memory.wf_writePortCfg h _ _ _
  · split
    · exact Memory.wf_guardWrite h hput _ _
    · exact hput

@[simp] theorem Memory.wf_writePair {s : State} (h : Memory.wf s = true) (a v : Nat) :
    Memory.wf (s.writePair a v).2 = true := by
  have hput := (Memory.wf_putWord s a v).trans h
  unfold State.writePair
  split
  · simp [h]
  · exact hput

@[simp] theorem Memory.wf_writeReg {s : State} (h : Memory.wf s = true) (a v : Nat) :
    Memory.wf (s.writeReg a v).2 = true := by
  unfold State.writeReg
  split
  · exact h
  · split <;> simp [h]

@[simp] theorem Memory.wf_writeTabWord {s : State} (h : Memory.wf s = true) (addr v : Nat) :
    Memory.wf (s.writeTabWord addr v).2 = true := by
  have hput := Memory.wf_putTabs h (s.wordBank addr) addr (leBytes 4 v)
  unfold State.writeTabWord
  extract_lets st
  split
  · exact h
  · split
    · exact h
    · dsimp only
      exact hput

@[simp] theorem Memory.wf_writeWords {s : State} (h : Memory.wf s = true) (a : Nat) (ws : List Nat) :
    Memory.wf (s.writeWords a ws).2 = true := by
  induction ws generalizing s a with
  | nil => exact h
  | cons v ws ih =>
    unfold State.writeWords
    extract_lets r
    have hr : Memory.wf r.2 = true := by
      unfold r
      split
      · exact Memory.wf_writeReg h _ _
      · exact Memory.wf_writeTabWord h _ _
    split
    · exact ih hr _
    · exact hr

@[simp] theorem Memory.wf_hostWrite {s : State} (h : Memory.wf s = true) (a : Nat) (ws : List Nat) :
    Memory.wf (s.hostWrite a ws).2 = true := by
  have hprot := (Memory.wf_incSat s Reg.MEMCTL_PROT_REFUSED_COUNT 1).trans h
  have hw := Memory.wf_writeMem h true a (ws.flatMap (leBytes 4))
  have hwords := Memory.wf_writeWords h a ws
  unfold State.hostWrite
  generalize s.writeMem true a (ws.flatMap (leBytes 4)) = r at hw ⊢
  generalize s.writeWords a ws = x at hwords ⊢
  obtain ⟨t, bad⟩ := r
  refine Memory.wf_writes h (Memory.wf_writes (Memory.wf_writes hprot (Memory.wf_writes hprot (Memory.wf_writes hw ?_)))
    (Memory.wf_writes hwords h))
  exact (Memory.wf_meetUes s bad 7).trans h

@[simp] theorem Memory.wf_cmdRegWrite {s : State} (h : Memory.wf s = true) (addr : Nat) (words : List Nat) :
    Memory.wf (cmdRegWrite addr words s).s = true := Memory.wf_hostWrite h _ _

@[simp] theorem Memory.wf_cmdRegModify {s : State} (h : Memory.wf s = true) (addr mask value : Nat) :
    Memory.wf (cmdRegModify addr mask value s).s = true := by
  have hr := Memory.wf_hostRead h addr 1
  unfold cmdRegModify
  generalize s.hostRead addr 1 = r at hr ⊢
  obtain ⟨st, ws, u⟩ := r
  dsimp only
  split
  · exact hr
  · split
    · exact Memory.wf_hostWrite hr _ _
    · exact Memory.wf_hostWrite hr _ _

end Sys2Proof.Machine
end

section
/-! SUPPORT. Memories in canonical form. Commands: what each function leaves in canonical form. -/

namespace Sys2Proof.Machine

@[simp] theorem Memory.wf_cmdGetInfo (s : State) :
    Memory.wf (cmdGetInfo s).s = Memory.wf s := rfl
@[simp] theorem Memory.wf_cmdGetStatus (clear : Nat) (s : State) :
    Memory.wf (cmdGetStatus clear s).s = Memory.wf s := by
  unfold cmdGetStatus
  simp

@[simp] theorem Memory.wf_cmdLogRead (first : Nat) (count : Nat) (s : State) :
    Memory.wf (cmdLogRead first count s).s = Memory.wf s := rfl
@[simp] theorem Memory.wf_cmdLogClear (counters : Nat) (s : State) :
    Memory.wf (cmdLogClear counters s).s = Memory.wf s := by
  unfold cmdLogClear
  simp

@[simp] theorem Memory.wf_cmdCountersRead (n : Nat) (s : State) :
    Memory.wf (cmdCountersRead n s).s = Memory.wf s := rfl
@[simp] theorem Memory.wf_afterReply {s : State} (h : Memory.wf s = true) (x : Hdr) (c : HostCmd) :
    Memory.wf (s.afterReply x c) = true := by
  unfold State.afterReply
  split
  · exact Memory.wf_of_ite (Memory.wf_resetActs ((Memory.wf_mk s ..).trans h) _) (Memory.wf_resetActs h _)
  · simp [h]
  · exact Memory.wf_pairFault h _
  · exact Memory.wf_patchActs h
  · exact Memory.wf_of_ite ((Memory.wf_cmdDone ..).trans h) h
  · exact h

theorem Memory.wf_perform {s : State} (h : Memory.wf s = true) (x : Hdr) (c : HostCmd) :
    Memory.wf (s.perform x c).s = true := by
  cases c <;> simp [State.perform, h]

theorem Memory.wf_result {s : State} (h : Memory.wf s = true) (k : Cmd) : Memory.wf (s.result k).s = true := by
  unfold State.result
  split
  · exact Memory.wf_perform h _ _
  · exact h

@[simp] theorem Memory.wf_runCmd {s : State} (h : Memory.wf s = true) (k : Cmd) : Memory.wf (s.runCmd k) = true := by
  have hr := Memory.wf_result h k
  unfold State.runCmd
  generalize s.result k = r at hr ⊢
  extract_lets x u y v z w
  have hv : Memory.wf v = true := (Memory.wf_mk u ..).trans hr
  clear_value v
  have hw : Memory.wf w = true := (Memory.wf_reply v ..).trans hv
  clear_value w
  exact Memory.wf_of_ite ((Memory.wf_mk v ..).trans hv) (Memory.wf_of_ite (Memory.wf_afterReply hw _ _) hw)

@[simp] theorem Memory.wf_startNext {s : State} (h : Memory.wf s = true) : Memory.wf s.startNext = true := by
  unfold State.startNext
  split
  · exact Memory.wf_of_ite (Memory.wf_runCmd h _) h
  · exact h

@[simp] theorem Memory.wf_refuse (s : State) (k : Packet) (st : Nat) (dup : Bool) :
    Memory.wf (State.refuse s k st dup) = Memory.wf s := by
  unfold State.refuse
  simp

@[simp] theorem Memory.wf_take (s : State) (k : Packet) :
    Memory.wf (State.take s k) = Memory.wf s := by
  unfold State.take
  dsimp only
  repeat' split
  all_goals simp

@[simp] theorem Memory.wf_forwardCmd (s : State) (q : Nat) (k : Packet) :
    Memory.wf (State.forwardCmd s q k) = Memory.wf s := by
  unfold State.forwardCmd
  simp

@[simp] theorem Memory.wf_place {s : State} (h : Memory.wf s = true) (k : Packet) :
    Memory.wf (State.place s k) = true := by
  unfold State.place
  dsimp only
  repeat' split
  all_goals simp +contextual [h, Memory.wf_foldl]

@[simp] theorem Memory.wf_dropPacket (s : State) (i : Iface) :
    Memory.wf (State.dropPacket s i) = Memory.wf s := by
  unfold State.dropPacket
  simp

@[simp] theorem Memory.wf_packetIn {s : State} (h : Memory.wf s = true) (i : Iface) (src : Nat) (b : List Byte) :
    Memory.wf (State.packetIn s i src b) = true := by
  unfold State.packetIn
  simp [h]

@[simp] theorem Memory.wf_returns (s : State) (b : List Byte) :
    Memory.wf (State.returns s b) = Memory.wf s := rfl

end Sys2Proof.Machine
end

section
/-! SUPPORT. Memories in canonical form. Outcomes: what the wrappers of the commands keep. -/

namespace Sys2Proof.Machine

@[simp] theorem Memory.wf_arrive {s : State} (h : Memory.wf s = true) (i : Iface) {f : State → State}
    (hf : ∀ u, Memory.wf u = true → Memory.wf (f u) = true) : Memory.wf (s.arrive i f) = true := by
  have hu := Memory.wf_of_ite (c := s.awake) h (Memory.wf_wakeEvent h (wakeOf i))
  exact Memory.wf_of_ite (hf _ hu) hu

/-- An outcome whose next state, if any, holds its memories in canonical form. -/
def Memory.kept (o : Host.Outcome State Fault Refusal) : Prop := ∀ v, o = .next v → Memory.wf v = true

theorem Memory.kept_next {s : State} (h : Memory.wf s = true) : Memory.kept (.next s) := fun v hv => by
  cases hv
  exact h

section
variable {s : State} {t : Nat} {f : State → State}

theorem Memory.kept_event (hf : ∀ u, Memory.wf u = true → Memory.wf (f u) = true) (h : Memory.wf s = true) :
    Memory.kept (event t f s) := by
  have he := (Memory.wf_elapse s t).trans h
  exact Memory.kept_next (Memory.wf_of_ite (hf _ he) he)

theorem Memory.kept_eventAwake (hf : ∀ u, Memory.wf u = true → Memory.wf (f u) = true) (h : Memory.wf s = true) :
    Memory.kept (eventAwake t f s) :=
  Memory.kept_event (fun _ hu => Memory.wf_of_ite (hf _ hu) hu) h

theorem Memory.kept_regEvent (a v : Nat) (h : Memory.wf s = true) : Memory.kept (regEvent a v t s) :=
  Memory.kept_eventAwake (fun _ hu => Memory.wf_hostWrite hu _ _) h

theorem Memory.kept_spiFrame (n : Nat) (hf : ∀ u, Memory.wf u = true → Memory.wf (f u) = true) (h : Memory.wf s = true) :
    Memory.kept (spiFrame n t f s) := by
  refine Memory.kept_event (fun u hu => ?_) h
  have hw := Memory.wf_of_ite (c := u.awake) hu (Memory.wf_wakeEvent hu 4)
  exact Memory.wf_of_ite (hf _ hw) ((Memory.wf_returns ..).trans ((Memory.wf_used ..).trans hw))

theorem Memory.kept_tapStepOf (b : Bool) (hf : ∀ u, Memory.wf (f u) = Memory.wf u) (h : Memory.wf s = true) :
    Memory.kept (tapStepOf b t f s) :=
  Memory.kept_next ((Memory.wf_when_eq hf _ _).trans ((Memory.wf_elapse s t).trans h))

theorem Memory.kept_encInput (e : Nat) (runs : List (Fin 8 × Nat)) (h : Memory.wf s = true) :
    Memory.kept (encInput e runs t s) :=
  Memory.kept_next ((Memory.wf_elapse ..).trans (Memory.wf_of_ite (Memory.wf_encRuns h _ _ _)
    (Memory.wf_foldl (fun _ _ hu => (Memory.wf_encRaw ..).trans hu) _ h)))

theorem Memory.kept_hostCommand (x : Hdr) (c : HostCmd) (h : Memory.wf s = true) : Memory.kept (hostCommand x c s) := by
  refine Memory.kept_event (fun u hu => Memory.wf_when (fun v hv => Memory.wf_arrive hv _ fun w hw => ?_) hu _) h
  have hplace : ∀ k, Memory.wf (w.place k) = true := fun k => by simp [hw]
  exact Memory.wf_of_ite (by simp [hw]) (Memory.wf_of_ite (Memory.wf_startNext (hplace _)) (hplace _))

end

end Sys2Proof.Machine
end

section
/-! SUPPORT. Memories in canonical form. The rows of events, one by one. -/

namespace Sys2Proof.Machine

theorem Memory.kept_registerFieldWrite {s : State} (h : Memory.wf s = true) (addr value t : Nat) :
    Memory.kept (execRegisterFieldWrite addr value t s) :=
  Memory.kept_eventAwake (fun u hu => by simp [hu]) h

theorem Memory.kept_clrMin {s : State} (h : Memory.wf s = true) (t : Nat) :
    Memory.kept (execClrMin t s) :=
  Memory.kept_eventAwake (fun u hu => by simp [hu]) h

theorem Memory.kept_zFaultClear {s : State} (h : Memory.wf s = true) (e : Fin 4) (t : Nat) :
    Memory.kept (execZFaultClear e t s) :=
  Memory.kept_eventAwake (fun u hu => by simp [hu]) h

theorem Memory.kept_ssiStart {s : State} (h : Memory.wf s = true) (k : Fin 2) (t : Nat) :
    Memory.kept (execSsiStart k t s) :=
  Memory.kept_eventAwake (fun u hu => by simp [hu]) h

theorem Memory.kept_invalGo {s : State} (h : Memory.wf s = true) (t : Nat) :
    Memory.kept (execInvalGo t s) :=
  Memory.kept_eventAwake (fun u hu => by simp [hu]) h

theorem Memory.kept_recoverActiveWrite {s : State} (h : Memory.wf s = true) (active : Bool) (t : Nat) :
    Memory.kept (execRecoverActiveWrite active t s) :=
  Memory.kept_eventAwake (fun u hu => by simp [hu]) h

theorem Memory.kept_tableCommit {s : State} (h : Memory.wf s = true) (a : Fin 4) (t : Nat) :
    Memory.kept (execTableCommit a t s) :=
  Memory.kept_eventAwake (fun u hu => by simp [hu]) h

theorem Memory.kept_zphyPortRestart {s : State} (h : Memory.wf s = true) (p : Fin 4) (t : Nat) :
    Memory.kept (execZphyPortRestart p t s) :=
  Memory.kept_eventAwake (fun u hu => by simp [hu]) h

theorem Memory.kept_zphyPortDisable {s : State} (h : Memory.wf s = true) (p : Fin 4) (t : Nat) :
    Memory.kept (execZphyPortDisable p t s) :=
  Memory.kept_eventAwake (fun u hu => by simp [hu]) h

theorem Memory.kept_brokenClear {s : State} (h : Memory.wf s = true) (mask t : Nat) :
    Memory.kept (execBrokenClear mask t s) :=
  Memory.kept_eventAwake (fun u hu => by simp [hu]) h

theorem Memory.kept_spiWriteFrame {s : State} (h : Memory.wf s = true) (bytes : List Byte) (t : Nat) :
    Memory.kept (execSpiWriteFrame bytes t s) :=
  Memory.kept_spiFrame _ (fun u hu => by simp [hu]) h

theorem Memory.kept_spiStatusFrame {s : State} (h : Memory.wf s = true) (t : Nat) :
    Memory.kept (execSpiStatusFrame t s) :=
  Memory.kept_spiFrame _ (fun u hu => by simp [hu]) h

theorem Memory.kept_spiReadFrame {s : State} (h : Memory.wf s = true) (clocked : Nat) (t : Nat) :
    Memory.kept (execSpiReadFrame clocked t s) := by
  refine Memory.kept_spiFrame _ (fun u hu => ?_) h
  split <;> simp [hu]

theorem Memory.kept_commandExecute {s : State} (h : Memory.wf s = true) (t : Nat) :
    Memory.kept (execCommandExecute t s) :=
  Memory.kept_eventAwake (fun u hu => by simp [hu]) h

theorem Memory.kept_eventWindowEnd {s : State} (h : Memory.wf s = true) (code unit t : Nat) :
    Memory.kept (execEventWindowEnd code unit t s) := by
  refine Memory.kept_event (fun u hu => ?_) h
  split <;> simp [hu]

theorem Memory.kept_refclkSysLost {s : State} (h : Memory.wf s = true) (t : Nat) :
    Memory.kept (execRefclkSysLost t s) :=
  Memory.kept_event (fun u hu => by simp [hu]) h

theorem Memory.kept_wireFault {s : State} (h : Memory.wf s = true) (e : Fin 4) (ch : Fin 3) (t : Nat) :
    Memory.kept (execWireFault e ch t s) :=
  Memory.kept_event (fun u hu => Memory.wf_when (fun v hv => by simp [hv]) hu _) h

theorem Memory.kept_standstill {s : State} (h : Memory.wf s = true) (e : Fin 4) (t : Nat) :
    Memory.kept (execStandstill e t s) :=
  Memory.kept_event (fun u hu => Memory.wf_when (fun v hv => by simp [hv]) hu _) h

theorem Memory.kept_settlingEnd {s : State} (h : Memory.wf s = true) (e : Fin 4) (t : Nat) :
    Memory.kept (execSettlingEnd e t s) :=
  Memory.kept_event (fun u hu => Memory.wf_when (fun v hv => by simp [hv]) hu _) h

theorem Memory.kept_observerTick {s : State} (h : Memory.wf s = true) (t : Nat) :
    Memory.kept (execObserverTick t s) :=
  Memory.kept_event (fun u hu => Memory.wf_when (fun v hv => by simp [hv]) hu _) h

theorem Memory.kept_lineIssue {s : State} (h : Memory.wf s = true) (p : Fin 4) (t : Nat) :
    Memory.kept (execLineIssue p t s) :=
  Memory.kept_eventAwake (fun u hu => by simp [hu]) h

theorem Memory.kept_lineToFifo {s : State} (h : Memory.wf s = true) (q : Fin 48) (t : Nat) :
    Memory.kept (execLineToFifo q t s) :=
  Memory.kept_eventAwake (fun u hu => by simp [hu]) h

theorem Memory.kept_shiftStart {s : State} (h : Memory.wf s = true) (q : Fin 48) (t : Nat) :
    Memory.kept (execShiftStart q t s) :=
  Memory.kept_eventAwake (fun u hu => by simp [hu]) h

theorem Memory.kept_latch {s : State} (h : Memory.wf s = true) (q : Fin 48) (t : Nat) :
    Memory.kept (execLatch q t s) :=
  Memory.kept_eventAwake (fun u hu => by simp [hu]) h

theorem Memory.kept_strobeTrainStart {s : State} (h : Memory.wf s = true) (q : Fin 48) (t : Nat) :
    Memory.kept (execStrobeTrainStart q t s) :=
  Memory.kept_eventAwake (fun u hu => by simp [hu]) h

theorem Memory.kept_strobeTrainEnd {s : State} (h : Memory.wf s = true) (q : Fin 48) (rowB : Bool) (t : Nat) :
    Memory.kept (execStrobeTrainEnd q rowB t s) :=
  Memory.kept_eventAwake (fun u hu => by simp [hu]) h

theorem Memory.kept_defectMarkRelease {s : State} (h : Memory.wf s = true) (p : Fin 4) (t : Nat) :
    Memory.kept (execDefectMarkRelease p t s) :=
  Memory.kept_eventAwake (fun u hu => by simp [hu]) h

theorem Memory.kept_jobTakeover {s : State} (h : Memory.wf s = true) (t : Nat) :
    Memory.kept (execJobTakeover t s) :=
  Memory.kept_eventAwake (fun u hu => by simp [hu]) h

theorem Memory.kept_jobEnd {s : State} (h : Memory.wf s = true) (t : Nat) :
    Memory.kept (execJobEnd t s) :=
  Memory.kept_eventAwake (fun u hu => by simp [hu]) h

theorem Memory.kept_wspdPeriod {s : State} (h : Memory.wf s = true) (t : Nat) :
    Memory.kept (execWspdPeriod t s) :=
  Memory.kept_eventAwake (fun u hu => by simp [hu]) h

theorem Memory.kept_sretFrame {s : State} (h : Memory.wf s = true) (q : Fin 48) (frame : List Byte) (broken : Bool) (t : Nat) :
    Memory.kept (execSretFrame q frame broken t s) :=
  Memory.kept_eventAwake (fun u hu => Memory.wf_when (fun v hv => by simp [hv]) hu _) h

theorem Memory.kept_sretTimeout {s : State} (h : Memory.wf s = true) (q : Fin 48) (t : Nat) :
    Memory.kept (execSretTimeout q t s) :=
  Memory.kept_eventAwake (fun u hu => by simp [hu]) h

theorem Memory.kept_strobeWatchdog {s : State} (h : Memory.wf s = true) (q : Fin 48) (rowB stuck : Bool) (t : Nat) :
    Memory.kept (execStrobeWatchdog q rowB stuck t s) :=
  Memory.kept_eventAwake (fun u hu => by simp [hu]) h

theorem Memory.kept_strobeHwLimit {s : State} (h : Memory.wf s = true) (q : Fin 48) (rowB stuck : Bool) (t : Nat) :
    Memory.kept (execStrobeHwLimit q rowB stuck t s) :=
  Memory.kept_event (fun u hu => by simp [hu]) h

theorem Memory.kept_csiFrameStart {s : State} (h : Memory.wf s = true) (c : Fin 4) (vc : Nat) (ecc : Fin 3) (t : Nat) :
    Memory.kept (execCsiFrameStart c vc ecc t s) :=
  Memory.kept_eventAwake (fun u hu => Memory.wf_when (fun v hv => by simp [hv]) hu _) h

theorem Memory.kept_csiFrameEnd {s : State} (h : Memory.wf s = true) (c : Fin 4) (vc : Nat) (ecc : Fin 3) (t : Nat) :
    Memory.kept (execCsiFrameEnd c vc ecc t s) :=
  Memory.kept_eventAwake (fun u hu => Memory.wf_when (fun v hv => by simp [hv]) hu _) h

theorem Memory.kept_csiLongPacket {s : State} (h : Memory.wf s = true) (c : Fin 4) (vc dt : Nat) (ecc : Fin 3) (pix :
    List Nat) (crcOk overflow : Bool) (t : Nat) :
    Memory.kept (execCsiLongPacket c vc dt ecc pix crcOk overflow t s) :=
  Memory.kept_eventAwake (fun u hu => Memory.wf_when (fun v hv => by simp [hv]) hu _) h

theorem Memory.kept_camLineTimeout {s : State} (h : Memory.wf s = true) (c : Fin 4) (t : Nat) :
    Memory.kept (execCamLineTimeout c t s) :=
  Memory.kept_eventAwake (fun u hu => Memory.wf_when (fun v hv => by simp [hv]) hu _) h

theorem Memory.kept_pipelineLine {s : State} (h : Memory.wf s = true) (t : Nat) :
    Memory.kept (execPipelineLine t s) :=
  Memory.kept_eventAwake (fun u hu => by simp [hu]) h

theorem Memory.kept_frameProcessed {s : State} (h : Memory.wf s = true) (c : Fin 4) (t : Nat) :
    Memory.kept (execFrameProcessed c t s) :=
  Memory.kept_eventAwake (fun u hu => by simp [hu]) h

theorem Memory.kept_profileUpdate {s : State} (h : Memory.wf s = true) (meas : List AxisMeas) (t : Nat) :
    Memory.kept (execProfileUpdate meas t s) :=
  Memory.kept_eventAwake (fun u hu => by simp [hu]) h

theorem Memory.kept_microstepAdvance {s : State} (h : Memory.wf s = true) (a : Fin 4) (t : Nat) :
    Memory.kept (execMicrostepAdvance a t s) :=
  Memory.kept_eventAwake (fun u hu => by simp [hu]) h

theorem Memory.kept_chopHighThreshold {s : State} (h : Memory.wf s = true) (a : Fin 4) (onB : Bool) (i : Int) (t : Nat) :
    Memory.kept (execChopHighThreshold a onB i t s) :=
  Memory.kept_eventAwake (fun u hu => by simp [hu]) h

theorem Memory.kept_chopCycleEnd {s : State} (h : Memory.wf s = true) (a : Fin 4) (onB : Bool) (i mean : Int) (t : Nat) :
    Memory.kept (execChopCycleEnd a onB i mean t s) :=
  Memory.kept_eventAwake (fun u hu => by simp [hu]) h

theorem Memory.kept_chopBlankEnd {s : State} (h : Memory.wf s = true) (a : Fin 4) (onB : Bool) (t : Nat) :
    Memory.kept (execChopBlankEnd a onB t s) :=
  Memory.kept_eventAwake (fun u hu => Memory.wf_when (fun v hv => by simp [hv]) hu _) h

theorem Memory.kept_longCycle {s : State} (h : Memory.wf s = true) (a : Fin 4) (onB : Bool) (t : Nat) :
    Memory.kept (execLongCycle a onB t s) :=
  Memory.kept_eventAwake (fun u hu => Memory.wf_when (fun v hv => by simp [hv]) hu _) h

theorem Memory.kept_overcurrent {s : State} (h : Memory.wf s = true) (a : Fin 4) (onB : Bool) (i : Int) (t : Nat) :
    Memory.kept (execOvercurrent a onB i t s) :=
  Memory.kept_eventAwake (fun u hu => by simp [hu]) h

theorem Memory.kept_holdDelayExpiry {s : State} (h : Memory.wf s = true) (a : Fin 4) (t : Nat) :
    Memory.kept (execHoldDelayExpiry a t s) :=
  Memory.kept_eventAwake (fun u hu => by simp [hu]) h

theorem Memory.kept_switchLevelAccepted {s : State} (h : Memory.wf s = true) (k : Fin 8) (level : Bool) (t : Nat) :
    Memory.kept (execSwitchLevelAccepted k level t s) :=
  Memory.kept_eventAwake (fun u hu => by simp [hu]) h

theorem Memory.kept_evtSwitchStuck {s : State} (h : Memory.wf s = true) (k : Fin 8) (t : Nat) :
    Memory.kept (execEvtSwitchStuck k t s) :=
  Memory.kept_eventAwake (fun u hu => by simp [hu]) h

theorem Memory.kept_comparePulseEnd {s : State} (h : Memory.wf s = true) (u : Fin 8) (t : Nat) :
    Memory.kept (execComparePulseEnd u t s) :=
  Memory.kept_event (fun u hu => Memory.wf_when (fun v hv => by simp [hv]) hu _) h

theorem Memory.kept_ssiFramePeriod {s : State} (h : Memory.wf s = true) (k : Fin 2) (t : Nat) :
    Memory.kept (execSsiFramePeriod k t s) :=
  Memory.kept_eventAwake (fun u hu => by simp [hu]) h

theorem Memory.kept_ssiFrameDone {s : State} (h : Memory.wf s = true) (k : Fin 2) (start : Nat) (frame : List Bool) (t : Nat) :
    Memory.kept (execSsiFrameDone k start frame t s) :=
  Memory.kept_eventAwake (fun u hu => by simp [hu]) h

theorem Memory.kept_dmaBurstStart {s : State} (h : Memory.wf s = true) (ch : Fin 32) (pin : Bool) (t : Nat) :
    Memory.kept (execDmaBurstStart ch pin t s) :=
  Memory.kept_eventAwake (fun u hu => Memory.wf_when (fun v hv => by simp [hv]) hu _) h

theorem Memory.kept_dmaWriteAck {s : State} (h : Memory.wf s = true) (ch : Fin 32) (t : Nat) :
    Memory.kept (execDmaWriteAck ch t s) :=
  Memory.kept_eventAwake (fun u hu => by simp [hu]) h

theorem Memory.kept_dmaTransferComplete {s : State} (h : Memory.wf s = true) (ch : Fin 32) (t : Nat) :
    Memory.kept (execDmaTransferComplete ch t s) :=
  Memory.kept_eventAwake (fun u hu => Memory.wf_when (fun v hv => by simp [hv]) hu _) h

theorem Memory.kept_dmaReadError {s : State} (h : Memory.wf s = true) (ch : Fin 32) (t : Nat) :
    Memory.kept (execDmaReadError ch t s) :=
  Memory.kept_eventAwake (fun u hu => Memory.wf_when (fun v hv => by simp [hv]) hu _) h

theorem Memory.kept_evtPackDone {s : State} (h : Memory.wf s = true) (slot : Fin 8) (t : Nat) :
    Memory.kept (execEvtPackDone slot t s) := by
  refine Memory.kept_eventAwake (fun u hu => ?_) h
  split
  · exact Memory.wf_when (fun v hv => by simp [hv]) hu _
  · exact hu

theorem Memory.kept_memFillDone {s : State} (h : Memory.wf s = true) (t : Nat) :
    Memory.kept (execMemFillDone t s) :=
  Memory.kept_eventAwake (fun u hu => by simp [hu]) h

theorem Memory.kept_tableCopyDone {s : State} (h : Memory.wf s = true) (p : Fin 4) (table : Fin 6) (t : Nat) :
    Memory.kept (execTableCopyDone p table t s) :=
  Memory.kept_eventAwake (fun u hu => by simp [hu]) h

theorem Memory.kept_ploadCopyDone {s : State} (h : Memory.wf s = true) (p : Fin 4) (t : Nat) :
    Memory.kept (execPloadCopyDone p t s) :=
  Memory.kept_eventAwake (fun u hu => by simp [hu]) h

theorem Memory.kept_checkPassDone {s : State} (h : Memory.wf s = true) (p : Fin 4) (t : Nat) :
    Memory.kept (execCheckPassDone p t s) :=
  Memory.kept_eventAwake (fun u hu => by simp [hu]) h

theorem Memory.kept_memWriteAck {s : State} (h : Memory.wf s = true) (ch : Fin 8) (t : Nat) :
    Memory.kept (execMemWriteAck ch t s) :=
  Memory.kept_eventAwake (fun u hu => by simp [hu]) h

theorem Memory.kept_zeroFillDone {s : State} (h : Memory.wf s = true) (region t : Nat) :
    Memory.kept (execZeroFillDone region t s) :=
  Memory.kept_eventAwake (fun _ hu => Memory.wf_finishFill hu _) h

theorem Memory.kept_correctedRead {s : State} (h : Memory.wf s = true) (addr t : Nat) :
    Memory.kept (execCorrectedRead addr t s) :=
  Memory.kept_eventAwake (fun u hu => by simp [hu]) h

theorem Memory.kept_scrubRewrite {s : State} (h : Memory.wf s = true) (addr t : Nat) :
    Memory.kept (execScrubRewrite addr t s) :=
  Memory.kept_eventAwake (fun u hu => by simp [hu]) h

theorem Memory.kept_uncorrectableRead {s : State} (h : Memory.wf s = true) (addr requester u line t : Nat) :
    Memory.kept (execUncorrectableRead addr requester u line t s) :=
  Memory.kept_eventAwake (fun u hu => by simp [hu]) h

theorem Memory.kept_scrubBlock {s : State} (h : Memory.wf s = true) (corrected bad : Bool) (t : Nat) :
    Memory.kept (execScrubBlock corrected bad t s) :=
  Memory.kept_eventAwake (fun u hu => by simp [hu]) h

theorem Memory.kept_dramTapStep {s : State} (h : Memory.wf s = true) (ch : Fin 8) (t : Nat) :
    Memory.kept (execDramTapStep ch t s) :=
  Memory.kept_eventAwake (fun u hu => by simp [hu]) h

theorem Memory.kept_dramRetrainDone {s : State} (h : Memory.wf s = true) (results : List TrainMeas) (t : Nat) :
    Memory.kept (execDramRetrainDone results t s) :=
  Memory.kept_eventAwake (fun u hu => Memory.wf_when (fun v hv => by simp [hv]) hu _) h

theorem Memory.kept_evtReady {s : State} (h : Memory.wf s = true) (t : Nat) :
    Memory.kept (execEvtReady t s) :=
  Memory.kept_eventAwake (fun u hu => Memory.wf_when (fun v hv => by simp [hv]) hu _) h

theorem Memory.kept_alignmentMarker {s : State} (h : Memory.wf s = true) (l : Fin 16) (marker pad stuffs stuffErrs skew
    t : Nat) :
    Memory.kept (execAlignmentMarker l marker pad stuffs stuffErrs skew t s) :=
  Memory.kept_event (fun u hu => by simp [hu]) h

theorem Memory.kept_markerWindowMiss {s : State} (h : Memory.wf s = true) (l : Fin 16) (t : Nat) :
    Memory.kept (execMarkerWindowMiss l t s) :=
  Memory.kept_event (fun u hu => Memory.wf_when (fun v hv => by simp [hv]) hu _) h

theorem Memory.kept_laneActivityLost {s : State} (h : Memory.wf s = true) (l : Fin 16) (t : Nat) :
    Memory.kept (execLaneActivityLost l t s) :=
  Memory.kept_event (fun u hu => by simp [hu]) h

theorem Memory.kept_windupUnanswered {s : State} (h : Memory.wf s = true) (p : Fin 4) (t : Nat) :
    Memory.kept (execWindupUnanswered p t s) := by
  refine Memory.kept_event (fun u hu => ?_) h
  split
  · exact Memory.wf_when (fun v hv => by simp [hv]) hu _
  · exact hu

theorem Memory.kept_idleEntry {s : State} (h : Memory.wf s = true) (p : Fin 4) (t : Nat) :
    Memory.kept (execIdleEntry p t s) := by
  refine Memory.kept_event (fun u hu => ?_) h
  split
  · exact Memory.wf_when (fun v hv => by simp [hv]) hu _
  · exact hu

theorem Memory.kept_idleExit {s : State} (h : Memory.wf s = true) (p : Fin 4) (t : Nat) :
    Memory.kept (execIdleExit p t s) :=
  Memory.kept_event (fun u hu => by simp [hu]) h

theorem Memory.kept_replayTimeout {s : State} (h : Memory.wf s = true) (p : Fin 4) (t : Nat) :
    Memory.kept (execReplayTimeout p t s) :=
  Memory.kept_event (fun u hu => Memory.wf_when (fun v hv => by simp [hv]) hu _) h

theorem Memory.kept_nakRepeat {s : State} (h : Memory.wf s = true) (p : Fin 4) (t : Nat) :
    Memory.kept (execNakRepeat p t s) :=
  Memory.kept_event (fun u hu => Memory.wf_when (fun v hv => by simp [hv]) hu _) h

theorem Memory.kept_initTimeout {s : State} (h : Memory.wf s = true) (p : Fin 4) (t : Nat) :
    Memory.kept (execInitTimeout p t s) :=
  Memory.kept_event (fun u hu => Memory.wf_when (fun v hv => by simp [hv]) hu _) h

theorem Memory.kept_upstreamForward {s : State} (h : Memory.wf s = true) (p : Fin 4) (x : Trans) (t : Nat) :
    Memory.kept (execUpstreamForward p x t s) :=
  Memory.kept_event (fun u hu => by simp [hu]) h

theorem Memory.kept_memwr {s : State} (h : Memory.wf s = true) (p : Fin 4) (x : Trans) (t : Nat) :
    Memory.kept (execMemwr p x t s) :=
  Memory.kept_event (fun u hu => Memory.wf_when (fun v hv => by simp [hv]) hu _) h

theorem Memory.kept_memrd {s : State} (h : Memory.wf s = true) (p : Fin 4) (x : Trans) (t : Nat) :
    Memory.kept (execMemrd p x t s) :=
  Memory.kept_event (fun u hu => Memory.wf_when (fun v hv => by simp [hv]) hu _) h

theorem Memory.kept_beaconSend {s : State} (h : Memory.wf s = true) (t : Nat) :
    Memory.kept (execBeaconSend t s) :=
  Memory.kept_eventAwake (fun u hu => Memory.wf_when (fun v hv => by simp [hv]) hu _) h

theorem Memory.kept_evtBeaconLost {s : State} (h : Memory.wf s = true) (t : Nat) :
    Memory.kept (execEvtBeaconLost t s) :=
  Memory.kept_event (fun u hu => by simp [hu]) h

theorem Memory.kept_timeTriggerEvent {s : State} (h : Memory.wf s = true) (k : Fin 5) (t : Nat) :
    Memory.kept (execTimeTriggerEvent k t s) :=
  Memory.kept_event (fun u hu => by simp [hu]) h

theorem Memory.kept_camTrigPulseEnd {s : State} (h : Memory.wf s = true) (k : Fin 4) (t : Nat) :
    Memory.kept (execCamTrigPulseEnd k t s) :=
  Memory.kept_event (fun u hu => Memory.wf_when (fun v hv => by simp [hv]) hu _) h

theorem Memory.kept_hkRoundStart {s : State} (h : Memory.wf s = true) (t : Nat) :
    Memory.kept (execHkRoundStart t s) :=
  Memory.kept_event (fun u hu => by simp [hu]) h

theorem Memory.kept_calMeasureDone {s : State} (h : Memory.wf s = true) (target : Fin 3) (results : List TapMeas) (t :
    Nat) :
    Memory.kept (execCalMeasureDone target results t s) :=
  Memory.kept_eventAwake (fun u hu => by simp [hu]) h

theorem Memory.kept_tapStep {s : State} (h : Memory.wf s = true) (target : Fin 3) (u t : Nat) :
    Memory.kept (execTapStep target u t s) :=
  Memory.kept_eventAwake (fun u hu => by simp [hu]) h

theorem Memory.kept_stringReceived {s : State} (h : Memory.wf s = true) (x : Trans) (partner : Fin 3) (t : Nat) :
    Memory.kept (execStringReceived x partner t s) :=
  Memory.kept_event (fun u hu => Memory.wf_when (fun v hv => by simp [hv]) hu _) h

theorem Memory.kept_stringSend {s : State} (h : Memory.wf s = true) (t : Nat) :
    Memory.kept (execStringSend t s) :=
  Memory.kept_event (fun u hu => by simp [hu]) h

theorem Memory.kept_wireStringToggle {s : State} (h : Memory.wf s = true) (t : Nat) :
    Memory.kept (execWireStringToggle t s) :=
  Memory.kept_event (fun u hu => by simp [hu]) h

theorem Memory.kept_stringInEdge {s : State} (h : Memory.wf s = true) (t : Nat) :
    Memory.kept (execStringInEdge t s) :=
  Memory.kept_event (fun u hu => Memory.wf_when (fun v hv => by simp [hv]) hu _) h

theorem Memory.kept_stringSilent {s : State} (h : Memory.wf s = true) (wire : Bool) (t : Nat) :
    Memory.kept (execStringSilent wire t s) :=
  Memory.kept_event (fun u hu => Memory.wf_when (fun v hv => by simp [hv]) hu _) h

theorem Memory.kept_ilkInChange {s : State} (h : Memory.wf s = true) (level : Bool) (t : Nat) :
    Memory.kept (execIlkInChange level t s) :=
  Memory.kept_event (fun u hu => by simp [hu]) h

theorem Memory.kept_hwdogExpiry {s : State} (h : Memory.wf s = true) (t : Nat) :
    Memory.kept (execHwdogExpiry t s) :=
  Memory.kept_event (fun u hu => Memory.wf_when (fun v hv => by simp [hv]) hu _) h

theorem Memory.kept_pairListenEnd {s : State} (h : Memory.wf s = true) (t : Nat) :
    Memory.kept (execPairListenEnd t s) :=
  Memory.kept_event (fun u hu => Memory.wf_when (fun v hv => by simp [hv]) hu _) h

theorem Memory.kept_ckptReceived {s : State} (h : Memory.wf s = true) (x : Trans) (t : Nat) :
    Memory.kept (execCkptReceived x t s) :=
  Memory.kept_event (fun u hu => Memory.wf_when (fun v hv => by simp [hv]) hu _) h

theorem Memory.kept_evtStandbyReady {s : State} (h : Memory.wf s = true) (t : Nat) :
    Memory.kept (execEvtStandbyReady t s) :=
  Memory.kept_event (fun u hu => Memory.wf_when (fun v hv => by simp [hv]) hu _) h

theorem Memory.kept_dozeTimeout {s : State} (h : Memory.wf s = true) (t : Nat) :
    Memory.kept (execDozeTimeout t s) :=
  Memory.kept_eventAwake (fun u hu => by simp [hu]) h

theorem Memory.kept_autoL1Entry {s : State} (h : Memory.wf s = true) (t : Nat) :
    Memory.kept (execAutoL1Entry t s) :=
  Memory.kept_event (fun u hu => Memory.wf_when (fun v hv => by simp [hv]) hu _) h

theorem Memory.kept_l1Exit {s : State} (h : Memory.wf s = true) (t : Nat) :
    Memory.kept (execL1Exit t s) :=
  Memory.kept_event (fun u hu => Memory.wf_when (fun v hv => by simp [hv]) hu _) h

theorem Memory.kept_ladderEntry {s : State} (h : Memory.wf s = true) (t : Nat) :
    Memory.kept (execLadderEntry t s) := by
  refine Memory.kept_event (fun u hu => ?_) h
  split
  · exact Memory.wf_when (fun v hv => by simp [hv]) hu _
  · exact hu

theorem Memory.kept_evtLadderWake {s : State} (h : Memory.wf s = true) (cause t : Nat) :
    Memory.kept (execEvtLadderWake cause t s) :=
  Memory.kept_event (fun u hu => by simp [hu]) h

theorem Memory.kept_resetNFall {s : State} (h : Memory.wf s = true) (t : Nat) :
    Memory.kept (execResetNFall t s) :=
  Memory.kept_event (fun u hu => by simp [hu]) h

theorem Memory.kept_pmbusAlert {s : State} (h : Memory.wf s = true) (t : Nat) :
    Memory.kept (execPmbusAlert t s) :=
  Memory.kept_event (fun u hu => by simp [hu]) h

theorem Memory.kept_vsettleExpiry {s : State} (h : Memory.wf s = true) (t : Nat) :
    Memory.kept (execVsettleExpiry t s) :=
  Memory.kept_event (fun u hu => by simp [hu]) h

theorem Memory.kept_bypass {s : State} (h : Memory.wf s = true) (trst : Bool) (di : List Bool) (t : Nat) :
    Memory.kept (execBypass trst di t s) :=
  Memory.kept_tapStepOf _ (fun _ => rfl) h

theorem Memory.kept_idcode {s : State} (h : Memory.wf s = true) (trst : Bool) (di : List Bool) (t : Nat) :
    Memory.kept (execIdcode trst di t s) :=
  Memory.kept_tapStepOf _ (fun _ => rfl) h

theorem Memory.kept_clamp {s : State} (h : Memory.wf s = true) (trst : Bool) (di : List Bool) (t : Nat) :
    Memory.kept (execClamp trst di t s) :=
  Memory.kept_tapStepOf _ (fun _ => rfl) h

theorem Memory.kept_highz {s : State} (h : Memory.wf s = true) (trst : Bool) (di : List Bool) (t : Nat) :
    Memory.kept (execHighz trst di t s) :=
  Memory.kept_tapStepOf _ (fun _ => rfl) h

theorem Memory.kept_refclkSysReturn {s : State} (h : Memory.wf s = true) (t : Nat) :
    Memory.kept (execRefclkSysReturn t s) :=
  Memory.kept_event (fun u hu => by simp [hu]) h

theorem Memory.kept_wireFaultEnd {s : State} (h : Memory.wf s = true) (e : Fin 4) (ch : Fin 3) (t : Nat) :
    Memory.kept (execWireFaultEnd e ch t s) :=
  Memory.kept_event (fun u hu => by simp [hu]) h

theorem Memory.kept_diStuck {s : State} (h : Memory.wf s = true) (k : Fin 2) (t : Nat) :
    Memory.kept (execDiStuck k t s) :=
  Memory.kept_eventAwake (fun u hu => Memory.wf_when (fun v hv => by simp [hv]) hu _) h

theorem Memory.kept_laneClockSettled {s : State} (h : Memory.wf s = true) (p : Fin 4) (t : Nat) :
    Memory.kept (execLaneClockSettled p t s) :=
  Memory.kept_event (fun u hu => Memory.wf_when (fun v hv => by simp [hv]) hu _) h

theorem Memory.kept_bitLock {s : State} (h : Memory.wf s = true) (l : Fin 16) (t : Nat) :
    Memory.kept (execBitLock l t s) :=
  Memory.kept_event (fun u hu => Memory.wf_when (fun v hv => by simp [hv]) hu _) h

theorem Memory.kept_supplyOperatingRange {s : State} (h : Memory.wf s = true) (inside : Bool) (t : Nat) :
    Memory.kept (execSupplyOperatingRange inside t s) :=
  Memory.kept_next (by simp [h])

theorem Memory.kept_pmbusTransactionEnd {s : State} (h : Memory.wf s = true) (ok : Bool) (value t : Nat) :
    Memory.kept (execPmbusTransactionEnd ok value t s) :=
  Memory.kept_event (fun u hu => by simp [hu]) h

theorem Memory.kept_spiUnknownFrame {s : State} (h : Memory.wf s = true) (frame : Byte) (t : Nat) :
    Memory.kept (execSpiUnknownFrame frame t s) :=
  Memory.kept_spiFrame _ (fun _ hu => Memory.wf_when (fun _ hv => (Memory.wf_returns ..).trans hv) hu _) h

theorem Memory.kept_paceWindow {s : State} (h : Memory.wf s = true) (work : List (Option Nat)) (t : Nat) :
    Memory.kept (execPaceWindow work t s) :=
  Memory.kept_eventAwake (fun _ hu => (Memory.wf_paceWindow ..).trans hu) h

theorem Memory.kept_dramTraining {s : State} (h : Memory.wf s = true) (results : List (List TrainMeas)) (t : Nat) :
    Memory.kept (execDramTraining results t s) :=
  Memory.kept_eventAwake (fun _ hu => Memory.wf_when (fun _ hv => (Memory.wf_trainAll ..).trans hv) hu _) h

theorem Memory.kept_refclkZlLost {s : State} (h : Memory.wf s = true) (ppm : Int) (t : Nat) :
    Memory.kept (execRefclkZlLost ppm t s) :=
  Memory.kept_event (fun u hu => Memory.wf_foldl (fun v p hv => Memory.wf_linkDown hv _ _ _) _ (by simp [hu])) h

theorem Memory.kept_refclkZlRestored {s : State} (h : Memory.wf s = true) (ppm : Int) (t : Nat) :
    Memory.kept (execRefclkZlRestored ppm t s) :=
  Memory.kept_event (fun u hu => Memory.wf_foldl (fun v p hv => Memory.wf_of_ite (Memory.wf_resumePort hv _) hv) _
    (by simp [hu])) h

theorem Memory.kept_windUpBurstRx {s : State} (h : Memory.wf s = true) (p : Fin 4) (powered : Bool) (t : Nat) :
    Memory.kept (execWindUpBurstRx p powered t s) := by
  refine Memory.kept_event (fun u hu => Memory.wf_when (fun v hv => ?_) hu _) h
  extract_lets w
  have hw : Memory.wf w = true := by
    unfold w
    split
    · exact Memory.wf_windUpPort hv _ _ _
    · exact (Memory.wf_modPort ..).trans hv
    · exact hv
  clear_value w
  exact Memory.wf_when (fun x hx => Memory.wf_burstLock hx _) hw _

theorem Memory.kept_flitReceived {s : State} (h : Memory.wf s = true) (p : Fin 4) (flit : List Byte) (t : Nat) :
    Memory.kept (execFlitReceived p flit t s) :=
  Memory.kept_event (fun _ hu => Memory.wf_rxSlot hu _ fun _ hv => Memory.wf_onFlit hv _ _) h

theorem Memory.kept_initReceived {s : State} (h : Memory.wf s = true) (p : Fin 4) (payload : List Byte) (t : Nat) :
    Memory.kept (execInitReceived p payload t s) :=
  Memory.kept_event (fun _ hu => Memory.wf_rxSlot hu _ fun _ hv => Memory.wf_onInit hv _ _) h

theorem Memory.kept_nakReceived {s : State} (h : Memory.wf s = true) (p : Fin 4) (ack t : Nat) :
    Memory.kept (execNakReceived p ack t s) :=
  Memory.kept_event (fun _ hu => Memory.wf_rxSlot hu _ fun _ hv =>
    Memory.wf_when (fun _ hw => Memory.wf_onNak hw _ _) hv _) h

theorem Memory.kept_flitTransmit {s : State} (h : Memory.wf s = true) (p : Fin 4) (t : Nat) :
    Memory.kept (execFlitTransmit p t s) :=
  Memory.kept_event (fun _ hu => Memory.wf_of_ite (Memory.wf_flitSlot hu _)
    (Memory.wf_when (fun _ hv => Memory.wf_fillSlot hv _) hu _)) h

theorem Memory.kept_cmdTransaction {s : State} (h : Memory.wf s = true) (p : Fin 4) (x : Trans) (t : Nat) :
    Memory.kept (execCmdTransaction p x t s) := by
  refine Memory.kept_event (fun u hu => Memory.wf_when (fun v hv => ?_) hu _) h
  extract_lets w
  have hw : Memory.wf w = true := (Memory.wf_consume ..).trans hv
  clear_value w
  have hdrop : ∀ {y : State} q, Memory.wf y = true → Memory.wf (y.discard q) = true := fun q hy => (Memory.wf_discard ..).trans hy
  exact Memory.wf_of_ite (hdrop _ hw) (Memory.wf_of_ite
    (Memory.wf_of_ite ((Memory.wf_sendTrans ..).trans hw) (hdrop _ hw))
    (Memory.wf_arrive hw _ fun y hy => Memory.wf_of_ite (hdrop _ hy) (Memory.wf_packetIn hy _ _ _)))

theorem Memory.kept_memcpl {s : State} (h : Memory.wf s = true) (p : Fin 4) (x : Trans) (t : Nat) :
    Memory.kept (execMemcpl p x t s) := by
  refine Memory.kept_event (fun u hu => Memory.wf_when (fun v hv => ?_) hu _) h
  extract_lets w
  have hw : Memory.wf w = true := (Memory.wf_consume ..).trans hv
  clear_value w
  have hdrop : Memory.wf (w.discard p) = true := (Memory.wf_discard ..).trans hw
  refine Memory.wf_of_ite hdrop ?_
  split
  · exact hw
  · exact (Memory.wf_sendTrans ..).trans hw
  · exact hdrop

theorem Memory.kept_bcast {s : State} (h : Memory.wf s = true) (p : Fin 4) (x : Trans) (t : Nat) :
    Memory.kept (execBcast p x t s) := by
  refine Memory.kept_event (fun u hu => Memory.wf_when (fun v hv => ?_) hu _) h
  extract_lets w
  have hw : Memory.wf w = true := (Memory.wf_consume ..).trans hv
  clear_value w
  have hdrop : Memory.wf (w.discard p) = true := (Memory.wf_discard ..).trans hw
  refine Memory.wf_of_ite hdrop ?_
  split
  · exact (Memory.wf_useBeacon ..).trans hw
  · exact Memory.wf_beacon hw _
  · exact Memory.wf_when (fun y hy => (Memory.wf_sendTrans ..).trans hy) hw _
  · exact (Memory.wf_sendTrans ..).trans hw
  · exact hdrop

theorem Memory.kept_hkRoundEnd {s : State} (h : Memory.wf s = true) (raw : List Int) (hk : List Nat)
    (dram : List (Option TrainMeas)) (t : Nat) : Memory.kept (execHkRoundEnd raw hk dram t s) :=
  Memory.kept_eventAwake (fun _ hu => Memory.wf_when (fun _ hv => Memory.wf_roundEnd hv _ _ _) hu _) h

theorem Memory.kept_ilkRaise {s : State} (h : Memory.wf s = true) (t : Nat) : Memory.kept (execIlkRaise t s) := by
  refine Memory.kept_event (fun u hu => Memory.wf_when (fun v hv => ?_) hu _) h
  extract_lets w
  have hw : Memory.wf w = true := (Memory.wf_modPair ..).trans ((Memory.wf_setB ..).trans hv)
  exact Memory.wf_of_ite ((Memory.wf_becomeActive ..).trans hw) hw

theorem Memory.kept_checkpointSend {s : State} (h : Memory.wf s = true) (t : Nat) : Memory.kept (execCheckpointSend t s) :=
  Memory.kept_eventAwake (fun _ hu => Memory.wf_when (fun _ hv => (Memory.wf_modPair ..).trans
    (Memory.wf_foldl (fun _ _ hw => (Memory.wf_sendTrans ..).trans hw) _ ((Memory.wf_used ..).trans hv))) hu _) h

theorem Memory.kept_resetNRise {s : State} (h : Memory.wf s = true) (pwrgood side : Bool) (t : Nat) :
    Memory.kept (execResetNRise pwrgood side t s) := by
  refine Memory.kept_next (Memory.wf_when (fun u hu => ?_) ((Memory.wf_elapse s t).trans h) _)
  obtain ⟨hs, hp⟩ := OtpSt.readArea_kept { OtpSt.init with gens := u.otp.gens, keys := u.otp.keys, locks := u.otp.locks }
  exact Memory.wf_fullReset u (by unfold State.otpRead; rw [hs]; rfl) (by unfold State.otpRead; rw [hp]; rfl) _ _

theorem Memory.kept_pwrgoodFall {s : State} (h : Memory.wf s = true) (t : Nat) : Memory.kept (execPwrgoodFall t s) := by
  have he := (Memory.wf_elapse s t).trans h
  exact Memory.kept_next ((Memory.wf_modPower ..).trans (Memory.wf_of_ite (Memory.wf_resetFalls he) he))

theorem Memory.kept_samplePreload {s : State} (h : Memory.wf s = true) (trst : Bool) (pins : List (Bool × Bool)) (di : List Bool)
    (t : Nat) : Memory.kept (execSamplePreload trst pins di t s) := Memory.kept_tapStepOf _ (fun _ => rfl) h

theorem Memory.kept_extest {s : State} (h : Memory.wf s = true) (trst : Bool) (pins : List (Bool × Bool)) (di : List Bool)
    (t : Nat) : Memory.kept (execExtest trst pins di t s) := Memory.kept_tapStepOf _ (fun _ => rfl) h

end Sys2Proof.Machine
end

section
/-! SUPPORT. Memories in canonical form. Every command, and every step. -/

namespace Sys2Proof.Machine

theorem Memory.kept_exec {s : State} (h : Memory.wf s = true) (c : Instr) : Memory.kept (exec c s) := by
  cases c with
  | nop x => exact Memory.kept_hostCommand x _ h
  | getInfo x => exact Memory.kept_hostCommand x _ h
  | regRead x _ _ => exact Memory.kept_hostCommand x _ h
  | regWrite x _ _ => exact Memory.kept_hostCommand x _ h
  | regModify x _ _ _ => exact Memory.kept_hostCommand x _ h
  | reset x _ _ => exact Memory.kept_hostCommand x _ h
  | getStatus x _ => exact Memory.kept_hostCommand x _ h
  | memFill x _ _ _ => exact Memory.kept_hostCommand x _ h
  | memMode x _ => exact Memory.kept_hostCommand x _ h
  | dmaStart x _ _ _ => exact Memory.kept_hostCommand x _ h
  | dmaAbort x _ => exact Memory.kept_hostCommand x _ h
  | packStart x _ _ _ _ _ _ => exact Memory.kept_hostCommand x _ h
  | unpackStart x _ _ _ _ _ _ => exact Memory.kept_hostCommand x _ h
  | packResume x _ _ _ => exact Memory.kept_hostCommand x _ h
  | packSlot x _ _ => exact Memory.kept_hostCommand x _ h
  | jobDefine x _ _ _ _ _ => exact Memory.kept_hostCommand x _ h
  | jobStart x _ _ _ _ => exact Memory.kept_hostCommand x _ h
  | jobStop x _ _ => exact Memory.kept_hostCommand x _ h
  | jobStatus x => exact Memory.kept_hostCommand x _ h
  | streamCommit x _ _ => exact Memory.kept_hostCommand x _ h
  | layerSet x _ _ _ _ _ _ _ _ _ _ => exact Memory.kept_hostCommand x _ h
  | kiteMove x _ _ _ _ => exact Memory.kept_hostCommand x _ h
  | pload x _ _ _ _ => exact Memory.kept_hostCommand x _ h
  | plock x _ => exact Memory.kept_hostCommand x _ h
  | punlock x _ _ => exact Memory.kept_hostCommand x _ h
  | tableLoad x _ _ _ _ _ => exact Memory.kept_hostCommand x _ h
  | headProfile x _ _ => exact Memory.kept_hostCommand x _ h
  | headMap x _ _ => exact Memory.kept_hostCommand x _ h
  | portEnable x _ _ => exact Memory.kept_hostCommand x _ h
  | portClear x _ => exact Memory.kept_hostCommand x _ h
  | headRead x _ => exact Memory.kept_hostCommand x _ h
  | preheatTarget x _ _ => exact Memory.kept_hostCommand x _ h
  | encConfig x _ _ _ _ _ => exact Memory.kept_hostCommand x _ h
  | encReference x _ _ => exact Memory.kept_hostCommand x _ h
  | encRead x _ => exact Memory.kept_hostCommand x _ h
  | lineConfig x _ _ _ _ _ _ _ => exact Memory.kept_hostCommand x _ h
  | headOffset x _ _ _ => exact Memory.kept_hostCommand x _ h
  | compareSet x _ _ _ _ => exact Memory.kept_hostCommand x _ h
  | wspdConfig x _ _ _ => exact Memory.kept_hostCommand x _ h
  | camConfig x _ _ => exact Memory.kept_hostCommand x _ h
  | camInline x _ => exact Memory.kept_hostCommand x _ h
  | roiSet x _ _ => exact Memory.kept_hostCommand x _ h
  | statsRead x _ _ => exact Memory.kept_hostCommand x _ h
  | loopCtrl x _ _ _ => exact Memory.kept_hostCommand x _ h
  | alignRead x _ => exact Memory.kept_hostCommand x _ h
  | alignRestore x _ _ => exact Memory.kept_hostCommand x _ h
  | axisConfig x _ _ => exact Memory.kept_hostCommand x _ h
  | axisMove x _ _ _ _ _ => exact Memory.kept_hostCommand x _ h
  | axisTable x _ _ _ _ => exact Memory.kept_hostCommand x _ h
  | axisStop x _ _ => exact Memory.kept_hostCommand x _ h
  | axisRead x _ => exact Memory.kept_hostCommand x _ h
  | axisSetPos x _ _ => exact Memory.kept_hostCommand x _ h
  | switchConfig x _ _ _ => exact Memory.kept_hostCommand x _ h
  | timeRead x _ => exact Memory.kept_hostCommand x _ h
  | timeSet x _ _ _ => exact Memory.kept_hostCommand x _ h
  | timeAdjust x _ _ _ => exact Memory.kept_hostCommand x _ h
  | triggerSet x _ _ _ _ _ => exact Memory.kept_hostCommand x _ h
  | thermRead x => exact Memory.kept_hostCommand x _ h
  | hkRead x _ _ => exact Memory.kept_hostCommand x _ h
  | calRun x _ => exact Memory.kept_hostCommand x _ h
  | calDt x _ => exact Memory.kept_hostCommand x _ h
  | linkConfig x _ _ _ _ _ _ => exact Memory.kept_hostCommand x _ h
  | linkRestart x _ => exact Memory.kept_hostCommand x _ h
  | linkStatus x _ => exact Memory.kept_hostCommand x _ h
  | hierRead x => exact Memory.kept_hostCommand x _ h
  | pairConfig x _ _ => exact Memory.kept_hostCommand x _ h
  | pairStatus x => exact Memory.kept_hostCommand x _ h
  | pairHandover x => exact Memory.kept_hostCommand x _ h
  | pairRejoin x => exact Memory.kept_hostCommand x _ h
  | otpRead x => exact Memory.kept_hostCommand x _ h
  | otpBurn x _ => exact Memory.kept_hostCommand x _ h
  | keyBurn x _ _ => exact Memory.kept_hostCommand x _ h
  | patchLoad x _ _ => exact Memory.kept_hostCommand x _ h
  | patchActivate x _ _ => exact Memory.kept_hostCommand x _ h
  | ladderSet x _ _ => exact Memory.kept_hostCommand x _ h
  | ladderStatus x => exact Memory.kept_hostCommand x _ h
  | vcoreFloor x _ => exact Memory.kept_hostCommand x _ h
  | logRead x _ _ => exact Memory.kept_hostCommand x _ h
  | logClear x _ => exact Memory.kept_hostCommand x _ h
  | echo x _ => exact Memory.kept_hostCommand x _ h
  | countersRead x _ => exact Memory.kept_hostCommand x _ h
  | registerFieldWrite addr value t => exact Memory.kept_registerFieldWrite h addr value t
  | clrMin t => exact Memory.kept_clrMin h t
  | gpioDirWrite value t => exact Memory.kept_regEvent _ _ h
  | clkStatusLostClear t => exact Memory.kept_regEvent _ _ h
  | cmpPosLoWrite u value t => exact Memory.kept_regEvent _ _ h
  | zFaultClear e t => exact Memory.kept_zFaultClear h e t
  | ssiStart k t => exact Memory.kept_ssiStart h k t
  | cplHiWrite p value t => exact Memory.kept_regEvent _ _ h
  | defectPop t => exact Memory.kept_regEvent _ _ h
  | uePop t => exact Memory.kept_regEvent _ _ h
  | invalGo t => exact Memory.kept_invalGo h t
  | recoverActiveWrite active t => exact Memory.kept_recoverActiveWrite h active t
  | tableCommit a t => exact Memory.kept_tableCommit h a t
  | dmaCommit ch t => exact Memory.kept_regEvent _ _ h
  | zphyPortRestart p t => exact Memory.kept_zphyPortRestart h p t
  | zphyPortDisable p t => exact Memory.kept_zphyPortDisable h p t
  | brokenClear mask t => exact Memory.kept_brokenClear h mask t
  | pmbusFaultClear t => exact Memory.kept_regEvent _ _ h
  | spiWriteFrame bytes t => exact Memory.kept_spiWriteFrame h bytes t
  | spiStatusFrame t => exact Memory.kept_spiStatusFrame h t
  | spiReadFrame clocked t => exact Memory.kept_spiReadFrame h clocked t
  | spiUnknownFrame frame t => exact Memory.kept_spiUnknownFrame h frame t
  | commandExecute t => exact Memory.kept_commandExecute h t
  | eventWindowEnd code unit t => exact Memory.kept_eventWindowEnd h code unit t
  | refclkSysLost t => exact Memory.kept_refclkSysLost h t
  | paceWindow work t => exact Memory.kept_paceWindow h work t
  | encEdgeAccepted e levels samples t => exact Memory.kept_encInput _ _ h
  | indexLatch e levels samples t => exact Memory.kept_encInput _ _ h
  | wireFault e ch t => exact Memory.kept_wireFault h e ch t
  | standstill e t => exact Memory.kept_standstill h e t
  | settlingEnd e t => exact Memory.kept_settlingEnd h e t
  | observerTick t => exact Memory.kept_observerTick h t
  | lineIssue p t => exact Memory.kept_lineIssue h p t
  | lineToFifo q t => exact Memory.kept_lineToFifo h q t
  | shiftStart q t => exact Memory.kept_shiftStart h q t
  | latch q t => exact Memory.kept_latch h q t
  | strobeTrainStart q t => exact Memory.kept_strobeTrainStart h q t
  | strobeTrainEnd q rowB t => exact Memory.kept_strobeTrainEnd h q rowB t
  | defectMarkRelease p t => exact Memory.kept_defectMarkRelease h p t
  | jobTakeover t => exact Memory.kept_jobTakeover h t
  | jobEnd t => exact Memory.kept_jobEnd h t
  | wspdPeriod t => exact Memory.kept_wspdPeriod h t
  | sretFrame q frame broken t => exact Memory.kept_sretFrame h q frame broken t
  | sretTimeout q t => exact Memory.kept_sretTimeout h q t
  | strobeWatchdog q rowB stuck t => exact Memory.kept_strobeWatchdog h q rowB stuck t
  | strobeHwLimit q rowB stuck t => exact Memory.kept_strobeHwLimit h q rowB stuck t
  | csiFrameStart c vc ecc t => exact Memory.kept_csiFrameStart h c vc ecc t
  | csiFrameEnd c vc ecc t => exact Memory.kept_csiFrameEnd h c vc ecc t
  | csiLongPacket c vc dt ecc pix crcOk overflow t => exact Memory.kept_csiLongPacket h c vc dt ecc pix crcOk overflow t
  | camLineTimeout c t => exact Memory.kept_camLineTimeout h c t
  | pipelineLine t => exact Memory.kept_pipelineLine h t
  | frameProcessed c t => exact Memory.kept_frameProcessed h c t
  | profileUpdate meas t => exact Memory.kept_profileUpdate h meas t
  | microstepAdvance a t => exact Memory.kept_microstepAdvance h a t
  | chopHighThreshold a onB cur t => exact Memory.kept_chopHighThreshold h a onB cur t
  | chopCycleEnd a onB cur mean t => exact Memory.kept_chopCycleEnd h a onB cur mean t
  | chopBlankEnd a onB t => exact Memory.kept_chopBlankEnd h a onB t
  | longCycle a onB t => exact Memory.kept_longCycle h a onB t
  | overcurrent a onB cur t => exact Memory.kept_overcurrent h a onB cur t
  | holdDelayExpiry a t => exact Memory.kept_holdDelayExpiry h a t
  | switchLevelAccepted k level t => exact Memory.kept_switchLevelAccepted h k level t
  | evtSwitchStuck k t => exact Memory.kept_evtSwitchStuck h k t
  | comparePulseEnd u t => exact Memory.kept_comparePulseEnd h u t
  | ssiFramePeriod k t => exact Memory.kept_ssiFramePeriod h k t
  | ssiFrameDone k start frame t => exact Memory.kept_ssiFrameDone h k start frame t
  | dmaBurstStart ch pin t => exact Memory.kept_dmaBurstStart h ch pin t
  | dmaWriteAck ch t => exact Memory.kept_dmaWriteAck h ch t
  | dmaTransferComplete ch t => exact Memory.kept_dmaTransferComplete h ch t
  | dmaReadError ch t => exact Memory.kept_dmaReadError h ch t
  | evtPackDone slot t => exact Memory.kept_evtPackDone h slot t
  | memFillDone t => exact Memory.kept_memFillDone h t
  | tableCopyDone p table t => exact Memory.kept_tableCopyDone h p table t
  | ploadCopyDone p t => exact Memory.kept_ploadCopyDone h p t
  | checkPassDone p t => exact Memory.kept_checkPassDone h p t
  | memWriteAck ch t => exact Memory.kept_memWriteAck h ch t
  | zeroFillDone region t => exact Memory.kept_zeroFillDone h region t
  | correctedRead addr t => exact Memory.kept_correctedRead h addr t
  | scrubRewrite addr t => exact Memory.kept_scrubRewrite h addr t
  | uncorrectableRead addr requester unit line t => exact Memory.kept_uncorrectableRead h addr requester unit line t
  | scrubBlock corrected bad t => exact Memory.kept_scrubBlock h corrected bad t
  | dramTraining results t => exact Memory.kept_dramTraining h results t
  | dramTapStep ch t => exact Memory.kept_dramTapStep h ch t
  | dramRetrainDone results t => exact Memory.kept_dramRetrainDone h results t
  | evtReady t => exact Memory.kept_evtReady h t
  | alignmentMarker l marker pad stuffs stuffErrs skew t => exact Memory.kept_alignmentMarker h l marker pad stuffs stuffErrs skew t
  | markerWindowMiss l t => exact Memory.kept_markerWindowMiss h l t
  | refclkZlLost ppm t => exact Memory.kept_refclkZlLost h ppm t
  | refclkZlRestored ppm t => exact Memory.kept_refclkZlRestored h ppm t
  | laneActivityLost l t => exact Memory.kept_laneActivityLost h l t
  | windupUnanswered p t => exact Memory.kept_windupUnanswered h p t
  | windUpBurstRx p powered t => exact Memory.kept_windUpBurstRx h p powered t
  | idleEntry p t => exact Memory.kept_idleEntry h p t
  | idleExit p t => exact Memory.kept_idleExit h p t
  | flitReceived p flit t => exact Memory.kept_flitReceived h p flit t
  | initReceived p payload t => exact Memory.kept_initReceived h p payload t
  | nakReceived p ack t => exact Memory.kept_nakReceived h p ack t
  | replayTimeout p t => exact Memory.kept_replayTimeout h p t
  | nakRepeat p t => exact Memory.kept_nakRepeat h p t
  | initTimeout p t => exact Memory.kept_initTimeout h p t
  | flitTransmit p t => exact Memory.kept_flitTransmit h p t
  | cmdTransaction p x t => exact Memory.kept_cmdTransaction h p x t
  | upstreamForward p x t => exact Memory.kept_upstreamForward h p x t
  | memwr p x t => exact Memory.kept_memwr h p x t
  | memrd p x t => exact Memory.kept_memrd h p x t
  | memcpl p x t => exact Memory.kept_memcpl h p x t
  | bcast p x t => exact Memory.kept_bcast h p x t
  | beaconSend t => exact Memory.kept_beaconSend h t
  | evtBeaconLost t => exact Memory.kept_evtBeaconLost h t
  | timeTriggerEvent k t => exact Memory.kept_timeTriggerEvent h k t
  | camTrigPulseEnd k t => exact Memory.kept_camTrigPulseEnd h k t
  | hkRoundStart t => exact Memory.kept_hkRoundStart h t
  | hkRoundEnd raw hk dram t => exact Memory.kept_hkRoundEnd h raw hk dram t
  | calMeasureDone target results t => exact Memory.kept_calMeasureDone h target results t
  | tapStep target unit t => exact Memory.kept_tapStep h target unit t
  | stringReceived x partner t => exact Memory.kept_stringReceived h x partner t
  | stringSend t => exact Memory.kept_stringSend h t
  | wireStringToggle t => exact Memory.kept_wireStringToggle h t
  | stringInEdge t => exact Memory.kept_stringInEdge h t
  | stringSilent wire t => exact Memory.kept_stringSilent h wire t
  | ilkInChange level t => exact Memory.kept_ilkInChange h level t
  | ilkRaise t => exact Memory.kept_ilkRaise h t
  | hwdogExpiry t => exact Memory.kept_hwdogExpiry h t
  | pairListenEnd t => exact Memory.kept_pairListenEnd h t
  | checkpointSend t => exact Memory.kept_checkpointSend h t
  | ckptReceived x t => exact Memory.kept_ckptReceived h x t
  | evtStandbyReady t => exact Memory.kept_evtStandbyReady h t
  | dozeTimeout t => exact Memory.kept_dozeTimeout h t
  | autoL1Entry t => exact Memory.kept_autoL1Entry h t
  | l1Exit t => exact Memory.kept_l1Exit h t
  | ladderEntry t => exact Memory.kept_ladderEntry h t
  | evtLadderWake cause t => exact Memory.kept_evtLadderWake h cause t
  | resetNFall t => exact Memory.kept_resetNFall h t
  | resetNRise pwrgood side t => exact Memory.kept_resetNRise h pwrgood side t
  | pwrgoodFall t => exact Memory.kept_pwrgoodFall h t
  | pmbusAlert t => exact Memory.kept_pmbusAlert h t
  | vsettleExpiry t => exact Memory.kept_vsettleExpiry h t
  | bypass trst di t => exact Memory.kept_bypass h trst di t
  | idcode trst di t => exact Memory.kept_idcode h trst di t
  | samplePreload trst pins di t => exact Memory.kept_samplePreload h trst pins di t
  | extest trst pins di t => exact Memory.kept_extest h trst pins di t
  | clamp trst di t => exact Memory.kept_clamp h trst di t
  | highz trst di t => exact Memory.kept_highz h trst di t
  | refclkSysReturn t => exact Memory.kept_refclkSysReturn h t
  | wireFaultEnd e ch t => exact Memory.kept_wireFaultEnd h e ch t
  | diStuck k t => exact Memory.kept_diStuck h k t
  | laneClockSettled p t => exact Memory.kept_laneClockSettled h p t
  | bitLock l t => exact Memory.kept_bitLock h l t
  | supplyOperatingRange inside t => exact Memory.kept_supplyOperatingRange h inside t
  | pmbusTransactionEnd ok value t => exact Memory.kept_pmbusTransactionEnd h ok value t

/-- Settles O59: every function of the model that a command calls keeps the memories in canonical form, by the frame lemma of
each. -/
theorem everyStepKeepsMemoriesCanonical : Obligations.EveryStepKeepsMemoriesCanonical := by
  unfold Obligations.EveryStepKeepsMemoriesCanonical
  intro s s' hs hstep
  unfold step at hstep
  split at hstep
  · cases hstep
    exact hs
  · exact Memory.kept_exec ((Memory.wf_mk s ..).trans hs) _ _ hstep

end Sys2Proof.Machine
end

section
/-! SUPPORT. One-word writes of MEMCTL and DMA, zero fills that end, and what is committed before an invalidation. -/

namespace Sys2Proof.Machine

variable {s u v : State} {t : Nat}

/-! ### The words of MEMCTL and of a commit -/

theorem fieldsAt_invalCtrl : fieldsAt 0x80014 = [Reg.MEMCTL_INVAL_CTRL_COUNT, Reg.MEMCTL_INVAL_CTRL_GO] := by decide

theorem State.putWord_invalCtrl (s : State) {count : Nat} (hc : count < 2 ^ 18) :
    s.putWord 0x80014 (count + 2 ^ 31) = s.set Reg.MEMCTL_INVAL_CTRL_COUNT count := by
  have hb : bits (count + 2 ^ 31) 0 18 = count := by unfold bits; omega
  unfold State.putWord
  rw [fieldsAt_invalCtrl]
  exact congrArg (s.set Reg.MEMCTL_INVAL_CTRL_COUNT) hb

theorem State.writeReg_memctl (s : State) (a v : Nat) (ha : a / 0x10000 = 8) : s.writeReg a v = s.writeMemctl a v := by
  unfold State.writeReg
  have hown : ownerBlock a = false := by simp [ownerBlock, ha]
  rw [hown, Bool.and_false, if_neg (by simp), ha]
  rfl

theorem State.writeReg_invalCtrl (s : State) {count : Nat} (hc : count < 2 ^ 18)
    (hok : ((s.set Reg.MEMCTL_INVAL_CTRL_COUNT count).invalidate count).1 = stOk) :
    s.writeReg 0x80014 (count + 2 ^ 31) = (s.set Reg.MEMCTL_INVAL_CTRL_COUNT count).invalidate count := by
  have h31 : bit (count + 2 ^ 31) 31 = true := by simp [bit]; omega
  have hb : bits (count + 2 ^ 31) 0 18 = count := by unfold bits; omega
  rw [State.writeReg_memctl _ _ _ rfl]
  unfold State.writeMemctl
  rw [if_pos rfl, if_pos h31, State.putWord_invalCtrl s hc, hb]
  exact if_pos hok

theorem State.writeReg_recover (s : State) {first : Nat} (hf : first < 2 ^ 18) (active : Bool) :
    s.writeReg 0x80018 (first + (if active then 2 ^ 31 else 0)) = s.recover active first := by
  have h31 : bit (first + (if active then 2 ^ 31 else 0)) 31 = active := by cases active <;> simp [bit] <;> omega
  have hb : bits (first + (if active then 2 ^ 31 else 0)) 0 18 = first := by unfold bits; cases active <;> simp <;> omega
  rw [State.writeReg_memctl _ _ _ rfl]
  unfold State.writeMemctl
  rw [if_neg (by decide), if_pos rfl, h31, hb]

theorem exec_uePop (hl : Live s) : exec (.uePop t) s = .next (s.elapse t).uePop := by
  refine regEvent_writes hl rfl (by decide) ?_
  have hreg : ∀ u : State, u.writeReg 0x90018 1 = u.writeEcc 0x90018 1 := fun u => by
    have hown : ownerBlock 0x90018 = false := by decide
    unfold State.writeReg
    rw [hown, Bool.and_false, if_neg (by simp)]
    rfl
  exact (hreg _).trans rfl

theorem exec_recoverActiveWrite {active : Bool} {first : Nat} (hl : Live s) (hget : s.get Reg.MEMCTL_RECOVER_FIRST_REGION = first)
    (hf : first < 2 ^ 18) : exec (.recoverActiveWrite active t) s =
      .next (if ((s.elapse t).recover active first).1 = stOk then ((s.elapse t).recover active first).2 else s.elapse t) := by
  show execRecoverActiveWrite active t s = _
  unfold execRecoverActiveWrite
  rw [eventAwake_live hl, State.elapse_get, hget, State.hostWrite_register _ (rangeOk_register rfl (by decide)),
    State.writeReg_recover _ hf]
  split <;> rfl

theorem exec_invalGo {count : Nat} (hl : Live s) (hget : s.get Reg.MEMCTL_INVAL_CTRL_COUNT = count) (hc : count < 2 ^ 18)
    (hok : (((s.elapse t).set Reg.MEMCTL_INVAL_CTRL_COUNT count).invalidate count).1 = stOk) : exec (.invalGo t) s =
      .next (((s.elapse t).set Reg.MEMCTL_INVAL_CTRL_COUNT count).invalidate count).2 := by
  show execInvalGo t s = _
  unfold execInvalGo
  rw [eventAwake_live hl, State.elapse_get, hget, State.hostWrite_register _ (rangeOk_register rfl (by decide)),
    State.writeReg_invalCtrl _ hc hok, if_pos hok]

/-- A descriptor passes on no standby. -/
theorem State.dmaCheck_standby {n b : Nat} {d : List Nat} (hs : s.standby = true) : s.dmaCheck n b d ≠ stOk := by
  unfold State.dmaCheck
  split
  · decide
  · split
    · split
      · decide
      · decide
    · rw [if_neg (by simp)]
      decide

theorem State.writeReg_dmaCommit (s : State) (ch : Fin 32) (h : s.standby = false) :
    s.writeReg (Reg.DMA_CH_COMMIT_GO ch).addr (2 ^ 31) = s.dmaCommit ch := by
  have hk := ch.isLt
  have ha : (Reg.DMA_CH_COMMIT_GO ch).addr = 0xA0044 + 128 * ch := rfl
  generalize (Reg.DMA_CH_COMMIT_GO ch).addr = a at ha ⊢
  have hblock : a / 0x10000 = 10 := by omega
  have hch : (a - 0xA0000) / 128 = ch := by omega
  unfold State.writeReg
  rw [h, Bool.false_and, if_neg (by simp), hblock]
  show s.writeDma a (2 ^ 31) = _
  unfold State.writeDma
  rw [if_pos (by omega), if_pos (by decide), hch]

/-- The write of COMMIT starts a descriptor that passes, and nothing else. -/
theorem exec_dmaCommit (hl : Live s) (ch : Fin 32) : exec (.dmaCommit ch t) s =
    .next (if (s.elapse t).dmaCheck ch 1 ((s.elapse t).dmaShadow ch) = stOk then
      (s.elapse t).dmaStart ch ((s.elapse t).dmaShadow ch) else s.elapse t) := by
  have hk := ch.isLt
  refine (regEvent_live hl (by simp only [Reg.DMA_CH_COMMIT_GO]; omega)
    (by simp only [Reg.DMA_CH_COMMIT_GO, regBytes]; omega)).trans (congrArg _ ?_)
  rw [show low 32 (2 ^ 31) = 2 ^ 31 from rfl]
  generalize s.elapse t = u
  cases hs : u.standby with
  | false =>
    rw [State.writeReg_dmaCommit u ch hs]
    unfold State.dmaCommit
    dsimp only
    split
    · rfl
    · rfl
  | true =>
    have hblock : ownerBlock (Reg.DMA_CH_COMMIT_GO ch).addr = true := by
      have : (Reg.DMA_CH_COMMIT_GO ch).addr / 0x10000 = 10 := by simp only [Reg.DMA_CH_COMMIT_GO]; omega
      simp [ownerBlock, this]
    have hrefused : ∀ v, u.writeReg (Reg.DMA_CH_COMMIT_GO ch).addr v = (stNotOwner, u) := fun v => by
      unfold State.writeReg
      rw [hs, hblock]
      exact if_pos rfl
    rw [hrefused, if_neg (State.dmaCheck_standby hs)]
    rfl

end Sys2Proof.Machine
end

section
/-! SUPPORT. A port that goes down or comes up anew: its phase, and what it leaves. -/

namespace Sys2Proof.Machine

variable {s u v : State} {p : Nat}

/-- A field of a port's configuration, or of the phase and the width that its status shows. -/
abbrev Fld.ofPhase (p : Nat) (f : Fld) : Prop := f.lo < 6 ∧ (f.addr = 0x190000 + 256 * p ∨ f.addr = 0x190008 + 256 * p)

/-- What resetting the lanes of a port leaves. -/
structure LanesReset (p : Nat) (s u : State) : Prop where
  parts : u.host = s.host ∧ u.dram = s.dram ∧ u.job = s.job
  length : u.ports.length = s.ports.length
  other : ∀ q, q ≠ p → u.port q = s.port q
  phase : (u.port p).phase = (s.port p).phase
  get : ∀ f : Fld, f.ofPhase p → u.get f = s.get f

theorem LanesReset.refl (p : Nat) (s : State) : LanesReset p s s := ⟨⟨rfl, rfl, rfl⟩, rfl, fun _ _ => rfl, rfl, fun _ _ => rfl⟩

theorem LanesReset.trans (h : LanesReset p s u) (k : LanesReset p u v) : LanesReset p s v := by
  obtain ⟨⟨hh, hd, hj⟩, hl, ho, hp, hg⟩ := h
  obtain ⟨⟨kh, kd, kj⟩, kl, ko, kp, kg⟩ := k
  exact ⟨⟨kh.trans hh, kd.trans hd, kj.trans hj⟩, kl.trans hl, fun q hq => (ko q hq).trans (ho q hq), kp.trans hp,
    fun f hf => (kg f hf).trans (hg f hf)⟩

theorem LanesReset.ite {c : Prop} [Decidable c] (hu : LanesReset p s u) (hv : LanesReset p s v) :
    LanesReset p s (if c then u else v) := by
  split
  · exact hu
  · exact hv

theorem LanesReset.set (s : State) {f : Fld} (hf : ∀ q : Fld, q.ofPhase p → q.key ≠ f.key) (n : Nat) :
    LanesReset p s (s.set f n) :=
  ⟨⟨rfl, rfl, rfl⟩, rfl, fun _ _ => rfl, rfl, fun q hq => State.get_set_other s (hf q hq) n⟩

theorem LanesReset.modLane (s : State) (l : Nat) (f : Lane → Lane) : LanesReset p s (s.modLane l f) :=
  ⟨⟨rfl, rfl, rfl⟩, rfl, fun _ _ => rfl, rfl, fun _ _ => rfl⟩

/-- A change of a port that leaves its phase. -/
theorem LanesReset.modPort (s : State) {f : Port → Port} (hf : ∀ q, (f q).phase = q.phase) (hp : p < s.ports.length) :
    LanesReset p s (s.modPort p f) :=
  ⟨⟨rfl, rfl, rfl⟩, modAt_length _ _ _, fun q hq => modAt_getD_other f _ p q _ hq,
    (congrArg Port.phase (modAt_getD_same f _ p _ hp)).trans (hf _), fun _ _ => rfl⟩

section
variable (hp4 : p < 4)
include hp4

theorem Fld.laneKey {q f : Fld} (hq : q.ofPhase p) (hf : f.lo < 32 ∧ 0x190800 ≤ f.addr) : q.key ≠ f.key := by
  obtain ⟨hlo, hq⟩ := hq
  simp only [Fld.key]; omega

theorem LanesReset.lane (s : State) {f : Fld} (hf : f.lo < 32 ∧ 0x190800 ≤ f.addr) (n : Nat) : LanesReset p s (s.set f n) :=
  .set s (fun _ hq => Fld.laneKey hp4 hq hf) n

theorem LanesReset.status (s : State) {f : Fld} (hf : f.addr = 0x190008 + 256 * p ∧ 6 ≤ f.lo ∧ f.lo < 32) (n : Nat) :
    LanesReset p s (s.set f n) :=
  .set s (fun q hq => by
    obtain ⟨hlo, hq⟩ := hq
    simp only [Fld.key]; omega) n

end

theorem LanesReset.portMasks (hp4 : p < 4) (s : State) : LanesReset p s (s.portMasks p) := by
  have hset := fun (u : State) (f : Fld) hf n => LanesReset.status (p := p) hp4 u (f := f) hf n
  unfold State.portMasks
  exact ((((hset _ (Reg.ZPHY_PORT_STATUS_LOCKED p) (by simp [Reg.ZPHY_PORT_STATUS_LOCKED]) _).trans
    (hset _ (Reg.ZPHY_PORT_STATUS_SEEN_RX p) (by simp [Reg.ZPHY_PORT_STATUS_SEEN_RX]) _)).trans
    (hset _ (Reg.ZPHY_PORT_STATUS_LANE_ORDER p) (by simp [Reg.ZPHY_PORT_STATUS_LANE_ORDER]) _)).trans
    (hset _ (Reg.ZPHY_PORT_STATUS_WIDTH_MISMATCH p) (by simp [Reg.ZPHY_PORT_STATUS_WIDTH_MISMATCH]) _)).trans
    (hset _ (Reg.ZPHY_PORT_STATUS_SKEW_ERR p) (by simp [Reg.ZPHY_PORT_STATUS_SKEW_ERR]) _)

theorem LanesReset.foldl {f : State → Nat → State} {l : List Nat} (hf : ∀ u, ∀ k ∈ l, LanesReset p u (f u k)) (s : State) :
    LanesReset p s (l.foldl f s) :=
  List.foldlRecOn (motive := LanesReset p s) l f (.refl p s) fun u hu k hk => hu.trans (hf u k hk)

/-- The lanes of a port from the beginning. -/
theorem LanesReset.lanesReset (hp4 : p < 4) (hp : p < s.ports.length) : LanesReset p s (s.lanesReset p) := by
  have hlane := fun (u : State) (f : Fld) hf n => LanesReset.lane (p := p) hp4 u (f := f) hf n
  have hlock : ∀ (u : State) l n, LanesReset p u (u.set (Reg.ZPHY_LANE_STATUS_BIT_LOCK l) n) := fun u l =>
    hlane u _ (by simp [Reg.ZPHY_LANE_STATUS_BIT_LOCK])
  have hact : ∀ (u : State) l n, LanesReset p u (u.set (Reg.ZPHY_LANE_STATUS_ACTIVITY l) n) := fun u l =>
    hlane u _ (by simp [Reg.ZPHY_LANE_STATUS_ACTIVITY])
  have hmark : ∀ (u : State) l n, LanesReset p u (u.set (Reg.ZPHY_LANE_STATUS_MARKER_LOCK l) n) := fun u l =>
    hlane u _ (by simp [Reg.ZPHY_LANE_STATUS_MARKER_LOCK])
  have hpol : ∀ (u : State) l n, LanesReset p u (u.set (Reg.ZPHY_LANE_STATUS_POL_INV l) n) := fun u l =>
    hlane u _ (by simp [Reg.ZPHY_LANE_STATUS_POL_INV])
  have hseen : ∀ (u : State) l n, LanesReset p u (u.set (Reg.ZPHY_LANE_STATUS_SEEN_RX l) n) := fun u l =>
    hlane u _ (by simp [Reg.ZPHY_LANE_STATUS_SEEN_RX])
  have hidle : ∀ (u : State) l n, LanesReset p u (u.set (Reg.ZPHY_LANE_STATUS_IDLE_RX l) n) := fun u l =>
    hlane u _ (by simp [Reg.ZPHY_LANE_STATUS_IDLE_RX])
  have hfold : LanesReset p s ((List.range 4).foldl (fun u k =>
      let l := 4 * p + k
      let w := ((u.modLane l Lane.afresh).loseLock l).setB (Reg.ZPHY_LANE_STATUS_SEEN_RX l) false
      let w := w.setB (Reg.ZPHY_LANE_STATUS_IDLE_RX l) false
      if l ∈ s.lanesOf p ∧ (w.port p).phase ≠ .off then w
      else (w.setB (Reg.ZPHY_LANE_STATUS_BIT_LOCK l) false).setB (Reg.ZPHY_LANE_STATUS_ACTIVITY l) false) s) := by
    refine .foldl (fun u k _ => ?_) s
    have hw : LanesReset p u ((((u.modLane (4 * p + k) Lane.afresh).loseLock (4 * p + k)).setB
        (Reg.ZPHY_LANE_STATUS_SEEN_RX (4 * p + k)) false).setB (Reg.ZPHY_LANE_STATUS_IDLE_RX (4 * p + k)) false) :=
      ((((LanesReset.modLane u _ _).trans (hmark _ _ _)).trans (hpol _ _ _)).trans (hseen _ _ _)).trans (hidle _ _ _)
    exact .ite hw ((hw.trans (hlock _ _ _)).trans (hact _ _ _))
  have hlen := hfold.length
  exact (hfold.trans (.modPort _ (f := fun q => { q with rxFlits := 0 }) (fun _ => rfl) (by rw [hlen]; exact hp))).trans (.portMasks hp4 _)

theorem Fld.ofPhase_state (p : Nat) : (Reg.ZPHY_PORT_STATUS_STATE p).ofPhase p := by
  simp [Fld.ofPhase, Reg.ZPHY_PORT_STATUS_STATE]

theorem Fld.ofPhase_width (p : Nat) : (Reg.ZPHY_PORT_STATUS_WIDTH_USED p).ofPhase p := by
  simp [Fld.ofPhase, Reg.ZPHY_PORT_STATUS_WIDTH_USED]

theorem Fld.ofPhase_enable (p : Nat) : (Reg.ZPHY_PORT_CONFIG_ENABLE p).ofPhase p := by
  simp [Fld.ofPhase, Reg.ZPHY_PORT_CONFIG_ENABLE]

/-- A port that is not up goes down: its phase, and the state that it shows. -/
theorem State.leaveUp_down {next : PortPhase} (hup : (s.port p).isUp = false) : s.leaveUp p next =
    (((s.modPort p (fun q => { q with
      phase := next, seenDue := false, startAt := s.now, idleOrder := none, burstAt := none, woken := false,
      zeros := if (q.phase = .up ∨ q.phase = .waking) ∧ (next = .training ∨ next = .settling) then 4 else 0,
      txBlock := if next = .training ∨ next = .settling then q.txBlock else [] })).set (Reg.ZPHY_PORT_STATUS_STATE p)
        (if next = .off then 0 else 1)).setB (Reg.ZPHY_PORT_STATUS_IDLE p) false).lanesReset p := by
  unfold State.leaveUp
  exact if_neg (by rw [hup]; exact Bool.false_ne_true)

/-- What a port of another phase shows, with nothing else of the block changed. -/
structure PortMoved (p : Nat) (next : PortPhase) (s u : State) : Prop where
  parts : u.host = s.host ∧ u.dram = s.dram ∧ u.job = s.job
  length : u.ports.length = s.ports.length
  other : ∀ q, q ≠ p → u.port q = s.port q
  phase : (u.port p).phase = next

theorem PortMoved.reset {next : PortPhase} (h : PortMoved p next s u) (k : LanesReset p u v) : PortMoved p next s v := by
  obtain ⟨⟨hh, hd, hj⟩, hl, ho, hp⟩ := h
  obtain ⟨⟨kh, kd, kj⟩, kl, ko, kp, -⟩ := k
  exact ⟨⟨kh.trans hh, kd.trans hd, kj.trans hj⟩, kl.trans hl, fun q hq => (ko q hq).trans (ho q hq), kp.trans hp⟩

theorem PortMoved.set {next : PortPhase} (h : PortMoved p next s u) (f : Fld) (n : Nat) : PortMoved p next s (u.set f n) :=
  ⟨h.parts, h.length, h.other, h.phase⟩

/-- A port given a phase. -/
theorem PortMoved.modPort (s : State) {f : Port → Port} {next : PortPhase} (hf : (f (s.port p)).phase = next)
    (hp : p < s.ports.length) : PortMoved p next s (s.modPort p f) :=
  ⟨⟨rfl, rfl, rfl⟩, modAt_length _ _ _, fun q hq => modAt_getD_other f _ p q _ hq,
    (congrArg Port.phase (modAt_getD_same f _ p _ hp)).trans hf⟩

theorem PortMoved.leaveUp {next : PortPhase} (hp4 : p < 4) (hp : p < s.ports.length) (hup : (s.port p).isUp = false) :
    PortMoved p next s (s.leaveUp p next) := by
  rw [State.leaveUp_down hup]
  have hmod := ((PortMoved.modPort s (p := p) (f := fun q => { q with
      phase := next, seenDue := false, startAt := s.now, idleOrder := none, burstAt := none, woken := false,
      zeros := if (q.phase = .up ∨ q.phase = .waking) ∧ (next = .training ∨ next = .settling) then 4 else 0,
      txBlock := if next = .training ∨ next = .settling then q.txBlock else [] }) rfl hp).set
    (Reg.ZPHY_PORT_STATUS_STATE p) (if next = .off then 0 else 1)).set (Reg.ZPHY_PORT_STATUS_IDLE p) false.toNat
  exact hmod.reset (.lanesReset hp4 (by rw [hmod.length]; exact hp))

theorem State.get_leaveUp {next : PortPhase} (hp4 : p < 4) (hp : p < s.ports.length) (hup : (s.port p).isUp = false) :
    (s.leaveUp p next).get (Reg.ZPHY_PORT_STATUS_STATE p) = (if next = .off then 0 else 1) ∧
    (s.leaveUp p next).get (Reg.ZPHY_PORT_CONFIG_ENABLE p) = s.get (Reg.ZPHY_PORT_CONFIG_ENABLE p) := by
  rw [State.leaveUp_down hup]
  have hlen : p < (((s.modPort p (fun q => { q with
      phase := next, seenDue := false, startAt := s.now, idleOrder := none, burstAt := none, woken := false,
      zeros := if (q.phase = .up ∨ q.phase = .waking) ∧ (next = .training ∨ next = .settling) then 4 else 0,
      txBlock := if next = .training ∨ next = .settling then q.txBlock else [] })).set (Reg.ZPHY_PORT_STATUS_STATE p)
        (if next = .off then 0 else 1)).setB (Reg.ZPHY_PORT_STATUS_IDLE p) false).ports.length := by
    rw [State.setB_ports, State.set_ports, State.modPort_ports, modAt_length]
    exact hp
  have hreset := LanesReset.lanesReset hp4 hlen
  rw [hreset.get _ (Fld.ofPhase_state p), hreset.get _ (Fld.ofPhase_enable p), State.get_setB_other, State.get_set_same,
    State.get_setB_other, State.get_set_other]
  · exact ⟨by split <;> rfl, rfl⟩
  · simp only [Fld.key, Reg.ZPHY_PORT_STATUS_STATE, Reg.ZPHY_PORT_CONFIG_ENABLE]; omega
  · simp only [Fld.key, Reg.ZPHY_PORT_STATUS_IDLE, Reg.ZPHY_PORT_CONFIG_ENABLE]; omega
  · simp only [Fld.key, Reg.ZPHY_PORT_STATUS_IDLE, Reg.ZPHY_PORT_STATUS_STATE]; omega

end Sys2Proof.Machine
end

section
/-! SUPPORT. A restart of a port, its disabling, and the ACTIVE bit of a recovery range. -/

namespace Sys2Proof.Machine

variable {s u v : State} {p : Nat}

/-! ### A recovery range (R273) -/

theorem State.recover_inactive (s : State) (first : Nat) : s.recover false first =
    (stOk, (s.setB Reg.MEMCTL_RECOVER_FIRST_ACTIVE false).set Reg.MEMCTL_RECOVER_FIRST_REGION first) := rfl

theorem State.recover_opens {first : Nat} (h1 : 1 ≤ s.get Reg.MEMCTL_RECOVER_COUNT_REGIONS)
    (hp : first + s.get Reg.MEMCTL_RECOVER_COUNT_REGIONS ≤ protRegion) (hf : s.flag Reg.MEMCTL_RECOVER_FIRST_ACTIVE = false) :
    s.recover true first = (stOk, ((s.openRange first (s.get Reg.MEMCTL_RECOVER_COUNT_REGIONS)).set
      Reg.MEMCTL_RECOVER_FIRST_REGION first).setB Reg.MEMCTL_RECOVER_FIRST_ACTIVE true) := by
  have hnum : protRegion ≤ numRegions := by decide
  unfold State.recover
  rw [if_neg (by decide), if_neg (by omega), if_neg (by omega), if_neg (by rw [hf]; decide)]

theorem State.recover_active {first : Nat} (hf : s.flag Reg.MEMCTL_RECOVER_FIRST_ACTIVE = true) :
    (s.recover true first).1 ≠ stOk := by
  unfold State.recover
  rw [if_neg (by decide), if_pos hf]
  split
  · exact (by decide : stBadParam ≠ stOk)
  · split
    · exact (by decide : stProtected ≠ stOk)
    · exact (by decide : stBusy ≠ stOk)

/-- Every write of ACTIVE. -/
theorem recoverActiveWrite_cases {t : Nat} (hl : Live s) (active : Bool)
    (hf : s.get Reg.MEMCTL_RECOVER_FIRST_REGION < 2 ^ 18) :
    (active = false → exec (.recoverActiveWrite active t) s =
      .next (((s.elapse t).setB Reg.MEMCTL_RECOVER_FIRST_ACTIVE false).set Reg.MEMCTL_RECOVER_FIRST_REGION
        (s.get Reg.MEMCTL_RECOVER_FIRST_REGION))) ∧
    (active = true → 1 ≤ s.get Reg.MEMCTL_RECOVER_COUNT_REGIONS →
      s.get Reg.MEMCTL_RECOVER_FIRST_REGION + s.get Reg.MEMCTL_RECOVER_COUNT_REGIONS ≤ protRegion →
      s.flag Reg.MEMCTL_RECOVER_FIRST_ACTIVE = false → exec (.recoverActiveWrite active t) s =
        .next ((((s.elapse t).openRange (s.get Reg.MEMCTL_RECOVER_FIRST_REGION) (s.get Reg.MEMCTL_RECOVER_COUNT_REGIONS)).set
          Reg.MEMCTL_RECOVER_FIRST_REGION (s.get Reg.MEMCTL_RECOVER_FIRST_REGION)).setB Reg.MEMCTL_RECOVER_FIRST_ACTIVE true)) ∧
    (active = true → s.flag Reg.MEMCTL_RECOVER_FIRST_ACTIVE = true →
      exec (.recoverActiveWrite active t) s = .next (s.elapse t)) := by
  rw [exec_recoverActiveWrite hl rfl hf]
  refine ⟨fun ha => ?_, fun ha h1 hp hno => ?_, fun ha hyes => ?_⟩ <;> subst ha
  · rw [State.recover_inactive]
    exact congrArg _ (if_pos rfl)
  · have hopens := State.recover_opens (s := s.elapse t) (first := s.get Reg.MEMCTL_RECOVER_FIRST_REGION)
      (by rw [State.elapse_get]; exact h1) (by rw [State.elapse_get]; exact hp) (by rw [State.elapse_flag]; exact hno)
    rw [State.elapse_get] at hopens
    rw [hopens]
    exact congrArg _ (if_pos rfl)
  · exact congrArg _ (if_neg (State.recover_active (by rw [State.elapse_flag]; exact hyes)))

/-! ### A port that is restarted or disabled -/

/-- A port that comes up waits for its clock, or settles where the clock is good. -/
theorem PortMoved.bringUp (hp4 : p < 4) (hp : p < s.ports.length) :
    PortMoved p (if s.flag Reg.ZPHY_REFCLK_OK then .settling else .held) s (s.bringUp p) ∧
    (s.bringUp p).get (Reg.ZPHY_PORT_STATUS_STATE p) = 1 ∧
    ∀ f : Fld, f.ofPhase p → f.key ≠ (Reg.ZPHY_PORT_STATUS_STATE p).key → (s.bringUp p).get f = s.get f := by
  unfold State.bringUp
  extract_lets ok w x
  have hw : PortMoved p (if ok then .settling else .held) s w := .modPort s rfl hp
  have hwget : ∀ f : Fld, w.get f = s.get f := fun _ => rfl
  clear_value w
  have hx : LanesReset p w x := .foldl (fun u k _ => (LanesReset.modLane u _ _).trans
    (.lane hp4 _ (f := Reg.ZPHY_LANE_STATUS_BIT_LOCK (4 * p + k)) (by simp [Reg.ZPHY_LANE_STATUS_BIT_LOCK]) _)) w
  clear_value x
  have hlen : p < (x.set (Reg.ZPHY_PORT_STATUS_STATE p) 1).ports.length := by
    rw [State.set_ports, hx.length, hw.length]; exact hp
  have hreset := LanesReset.lanesReset hp4 hlen
  refine ⟨((hw.reset hx).set _ 1).reset hreset, ?_, fun f hf hne => ?_⟩
  · rw [hreset.get _ (Fld.ofPhase_state p), State.get_set_same]
    rfl
  · rw [hreset.get _ hf, State.get_set_other _ hne, hx.get _ hf, hwget]

theorem PortMoved.trans {next next' : PortPhase} (h : PortMoved p next s u) (k : PortMoved p next' u v) :
    PortMoved p next' s v := by
  obtain ⟨⟨hh, hd, hj⟩, hl, ho, -⟩ := h
  obtain ⟨⟨kh, kd, kj⟩, kl, ko, kp⟩ := k
  exact ⟨⟨kh.trans hh, kd.trans hd, kj.trans hj⟩, kl.trans hl, fun q hq => (ko q hq).trans (ho q hq), kp⟩

/-- Taking the stored width and rate. -/
theorem PortMoved.applyConfig (s : State) (hp : p < s.ports.length) :
    PortMoved p (s.port p).phase s (s.applyConfig p) := by
  have hmod : ∀ u : State, u.ports = s.ports → u.host = s.host ∧ u.dram = s.dram ∧ u.job = s.job → ∀ f : Port → Port,
      (∀ q, (f q).phase = q.phase) → PortMoved p (s.port p).phase s (u.modPort p f) := fun u hu hparts f hf =>
    ⟨hparts, (modAt_length _ _ _).trans (congrArg _ hu),
      fun q hq => (modAt_getD_other f _ p q _ hq).trans (congrArg (fun l : List Port => l.getD q _) hu),
      ((congrArg Port.phase (modAt_getD_same f _ p _ (by rw [hu]; exact hp))).trans (hf _)).trans
        (congrArg (fun l : List Port => (l.getD p _).phase) hu)⟩
  unfold State.applyConfig
  extract_lets w x eq
  exact hmod x rfl ⟨rfl, rfl, rfl⟩ (fun q => { q with eqUsed := eq, applied := true }) fun _ => rfl

theorem State.get_applyConfig (s : State) :
    (s.applyConfig p).get (Reg.ZPHY_PORT_CONFIG_ENABLE p) = s.get (Reg.ZPHY_PORT_CONFIG_ENABLE p) ∧
    (s.get (Reg.ZPHY_PORT_CONFIG_WIDTH p) < 3 →
      (s.applyConfig p).get (Reg.ZPHY_PORT_STATUS_WIDTH_USED p) = s.get (Reg.ZPHY_PORT_CONFIG_WIDTH p)) ∧
    (s.applyConfig p).flag Reg.ZPHY_REFCLK_OK = s.flag Reg.ZPHY_REFCLK_OK := by
  have hget : ∀ f : Fld, (s.applyConfig p).get f = ((s.set (Reg.ZPHY_PORT_STATUS_WIDTH_USED p)
      (if s.get (Reg.ZPHY_PORT_CONFIG_WIDTH p) = 3 then 2 else s.get (Reg.ZPHY_PORT_CONFIG_WIDTH p))).set
      (Reg.ZPHY_PORT_STATUS_RATE_USED p) (s.get (Reg.ZPHY_PORT_CONFIG_RATE p))).get f := fun _ => rfl
  refine ⟨?_, fun hw => ?_, ?_⟩
  · rw [hget, State.get_set_other, State.get_set_other]
    · simp only [Fld.key, Reg.ZPHY_PORT_CONFIG_ENABLE, Reg.ZPHY_PORT_STATUS_WIDTH_USED]; omega
    · simp only [Fld.key, Reg.ZPHY_PORT_CONFIG_ENABLE, Reg.ZPHY_PORT_STATUS_RATE_USED]; omega
  · rw [hget, State.get_set_other, State.get_set_same, if_neg (by omega)]
    · exact Nat.mod_eq_of_lt (Nat.lt_of_lt_of_le hw (by decide : 3 ≤ 2 ^ 2))
    simp only [Fld.key, Reg.ZPHY_PORT_STATUS_WIDTH_USED, Reg.ZPHY_PORT_STATUS_RATE_USED]; omega
  · unfold State.flag
    rw [hget, State.get_set_other, State.get_set_other]
    · simp only [Fld.key, Reg.ZPHY_REFCLK_OK, Reg.ZPHY_PORT_STATUS_WIDTH_USED]; omega
    · simp only [Fld.key, Reg.ZPHY_REFCLK_OK, Reg.ZPHY_PORT_STATUS_RATE_USED]; omega

/-- A restart of a port that is not up. -/
theorem zphyPortRestart_cases {t : Nat} (hl : Live s) (p : Fin 4) (hup : (s.port p).isUp = false) (hp : p < s.ports.length) :
    ∃ v, exec (.zphyPortRestart p t) s = .next v ∧
      PortMoved p (if s.flag Reg.ZPHY_REFCLK_OK then .settling else .held) s v ∧
      v.get (Reg.ZPHY_PORT_CONFIG_ENABLE p) = 1 ∧ v.get (Reg.ZPHY_PORT_STATUS_STATE p) = 1 ∧
      (s.get (Reg.ZPHY_PORT_CONFIG_WIDTH p) < 3 →
        v.get (Reg.ZPHY_PORT_STATUS_WIDTH_USED p) = s.get (Reg.ZPHY_PORT_CONFIG_WIDTH p)) := by
  refine ⟨(((s.elapse t).setB (Reg.ZPHY_PORT_CONFIG_ENABLE p) true).applyConfig p).bringUp p, ?_, ?_⟩
  · show execZphyPortRestart p t s = _
    unfold execZphyPortRestart
    rw [eventAwake_live hl]
    unfold State.restartPort
    exact congrArg (fun w : State => Host.Outcome.next (((w.setB (Reg.ZPHY_PORT_CONFIG_ENABLE p) true).applyConfig p).bringUp p))
      (if_neg (by rw [State.elapse_port, hup]; exact Bool.false_ne_true))
  · have hen : ∀ f : Fld, f.key ≠ (Reg.ZPHY_PORT_CONFIG_ENABLE p).key →
        ((s.elapse t).setB (Reg.ZPHY_PORT_CONFIG_ENABLE p) true).get f = s.get f := fun f hf =>
      (State.get_setB_other _ hf _).trans (State.elapse_get _ _ _)
    have hmoved : PortMoved p (s.port p).phase s ((s.elapse t).setB (Reg.ZPHY_PORT_CONFIG_ENABLE p) true) :=
      ⟨⟨State.elapse_host .., State.elapse_dram .., State.elapse_job ..⟩, congrArg List.length (State.elapse_ports ..),
        fun q _ => State.elapse_port .., congrArg Port.phase (State.elapse_port ..)⟩
    have hon : ((s.elapse t).setB (Reg.ZPHY_PORT_CONFIG_ENABLE p) true).get (Reg.ZPHY_PORT_CONFIG_ENABLE p) = 1 :=
      State.get_set_same ..
    generalize (s.elapse t).setB (Reg.ZPHY_PORT_CONFIG_ENABLE p) true = u at hen hmoved hon
    have happly := PortMoved.applyConfig u (p := p) (by rw [hmoved.length]; exact hp)
    obtain ⟨henable, hwidth, hclock⟩ := State.get_applyConfig (p := p) u
    have hflag : (u.applyConfig p).flag Reg.ZPHY_REFCLK_OK = s.flag Reg.ZPHY_REFCLK_OK := by
      rw [hclock]
      unfold State.flag
      rw [hen _ (by simp only [Fld.key, Reg.ZPHY_REFCLK_OK, Reg.ZPHY_PORT_CONFIG_ENABLE]; omega)]
    have hlen : p < (u.applyConfig p).ports.length := by rw [happly.length, hmoved.length]; exact hp
    obtain ⟨hup', hstate, hget⟩ := PortMoved.bringUp p.isLt hlen
    rw [hflag] at hup'
    refine ⟨(hmoved.trans happly).trans hup', ?_, hstate, fun hw => ?_⟩
    · rw [hget _ (Fld.ofPhase_enable p) (by
        simp only [Fld.key, Reg.ZPHY_PORT_CONFIG_ENABLE, Reg.ZPHY_PORT_STATUS_STATE]; omega), henable, hon]
    · have hsame : u.get (Reg.ZPHY_PORT_CONFIG_WIDTH p) = s.get (Reg.ZPHY_PORT_CONFIG_WIDTH p) :=
        hen _ (by simp only [Fld.key, Reg.ZPHY_PORT_CONFIG_WIDTH, Reg.ZPHY_PORT_CONFIG_ENABLE]; omega)
      rw [hget _ (Fld.ofPhase_width p) (by
        simp only [Fld.key, Reg.ZPHY_PORT_STATUS_WIDTH_USED, Reg.ZPHY_PORT_STATUS_STATE]; omega),
        hwidth (by rw [hsame]; exact hw), hsame]

/-- A port that is not up is taken off. -/
theorem zphyPortDisable_cases {t : Nat} (hl : Live s) (p : Fin 4) (hup : (s.port p).isUp = false) (hp : p < s.ports.length) :
    ∃ v, exec (.zphyPortDisable p t) s = .next v ∧ PortMoved p .off s v ∧ v.get (Reg.ZPHY_PORT_CONFIG_ENABLE p) = 0 ∧
      v.get (Reg.ZPHY_PORT_STATUS_STATE p) = 0 := by
  have hup' : (((s.elapse t).setB (Reg.ZPHY_PORT_CONFIG_ENABLE p) false).port p).isUp = false :=
    (congrArg Port.isUp (State.elapse_port ..)).trans hup
  refine ⟨((s.elapse t).setB (Reg.ZPHY_PORT_CONFIG_ENABLE p) false).leaveUp p .off, ?_, ?_⟩
  · show execZphyPortDisable p t s = _
    unfold execZphyPortDisable
    rw [eventAwake_live hl]
    unfold State.disablePort State.linkDown
    exact congrArg _ (if_neg (by rw [hup']; exact Bool.false_ne_true))
  · have hmoved : PortMoved p (s.port p).phase s ((s.elapse t).setB (Reg.ZPHY_PORT_CONFIG_ENABLE p) false) :=
      ⟨⟨State.elapse_host .., State.elapse_dram .., State.elapse_job ..⟩, congrArg List.length (State.elapse_ports ..),
        fun q _ => State.elapse_port .., congrArg Port.phase (State.elapse_port ..)⟩
    have hoff : ((s.elapse t).setB (Reg.ZPHY_PORT_CONFIG_ENABLE p) false).get (Reg.ZPHY_PORT_CONFIG_ENABLE p) = 0 :=
      State.get_set_same ..
    have hlen := (Nat.lt_of_lt_of_eq hp hmoved.length.symm)
    obtain ⟨hstate, henable⟩ := State.get_leaveUp (next := .off) p.isLt hlen hup'
    exact ⟨hmoved.trans (.leaveUp p.isLt hlen hup'), henable.trans hoff, hstate.trans (if_pos rfl)⟩

end Sys2Proof.Machine
end

section
/-! SUPPORT. What is committed before an invalidation: zero fills and writes, and what none of them reaches. -/

namespace Sys2Proof.Machine

variable {s u v w : State}

/-! ### Zero fills of states that store alike -/

/-- Two states of one DRAM, in initialisation mode in the same regions. -/
structure SameFill (s u : State) : Prop where
  dram : u.dram = s.dram
  mem : u.mem = s.mem
  init : ∀ r, u.initRegion r = s.initRegion r

theorem SameFill.ite {c : Prop} [Decidable c] (h : SameFill s u) (k : SameFill v w) :
    SameFill (if c then s else v) (if c then u else w) := by
  split
  · exact h
  · exact k

/-- Both states take one change of the record of the DRAM. -/
theorem SameFill.modMem (h : SameFill s u) (m : MemSt → MemSt) : SameFill (s.modMem m) (u.modMem m) :=
  ⟨h.dram, congrArg m h.mem, h.init⟩

theorem SameFill.setValid (h : SameFill s u) (r : Nat) (b : Bool) : SameFill (s.setValid r b) (u.setValid r b) :=
  h.modMem fun m => { m with valid := Sparse.put false m.valid r b }

theorem SameFill.cleanBlock (h : SameFill s u) (b : Nat) : SameFill (s.cleanBlock b) (u.cleanBlock b) :=
  h.modMem fun m => { m with ue := m.ue.filter (· != b), ce := m.ce.filter (· != b), rewrites := m.rewrites.filter (· != b) }

theorem SameFill.undefine (h : SameFill s u) (a n : Nat) : SameFill (s.undefine a n) (u.undefine a n) :=
  .ite h (h.modMem fun m => { m with undef := joinRange a (a + n) m.undef })

theorem SameFill.putDefined (h : SameFill s u) (a : Nat) (bs : List Byte) :
    SameFill ((s.define a bs.length).putBytes a bs) ((u.define a bs.length).putBytes a bs) := by
  obtain ⟨hd, hm, hi⟩ := h.modMem fun m => { m with undef := cutRanges a (a + bs.length) m.undef }
  exact ⟨congrArg (Sparse.putRange (fun _ => 0) · a bs) hd, hm, hi⟩

theorem SameFill.storePiece (h : SameFill s u) (p : Nat × List Byte) : SameFill (s.storePiece p) (u.storePiece p) := by
  have hvalid : SameFill (if s.initRegion (p.1 / regionBytes) then s.setValid (p.1 / regionBytes) true else s)
      (if u.initRegion (p.1 / regionBytes) then u.setValid (p.1 / regionBytes) true else u) := by
    rw [h.init]
    exact .ite (h.setValid _ _) h
  unfold State.storePiece
  dsimp only
  generalize (if s.initRegion (p.1 / regionBytes) then s.setValid (p.1 / regionBytes) true else s) = v at hvalid ⊢
  generalize (if u.initRegion (p.1 / regionBytes) then u.setValid (p.1 / regionBytes) true else u) = w at hvalid ⊢
  have hblock : SameFill (if wholeBlock p then v.cleanBlock p.1 else if v.initRegion (p.1 / regionBytes) then
      v.undefine (blockOf p.1) 64 else v) (if wholeBlock p then w.cleanBlock p.1 else if w.initRegion (p.1 / regionBytes) then
      w.undefine (blockOf p.1) 64 else w) := by
    rw [hvalid.init]
    exact .ite (hvalid.cleanBlock _) (.ite (hvalid.undefine _ _) hvalid)
  exact hblock.putDefined _ _

theorem SameFill.count (h : SameFill s u) {f : Fld} (hf : f.offInit) (m n : Nat) : SameFill (s.set f m) (u.set f n) :=
  ⟨h.dram, h.mem, fun r => by rw [State.initRegion_set _ hf, State.initRegion_set _ hf, h.init]⟩

theorem SameFill.zeroed (h : SameFill s u) (r : Nat) : SameFill (s.zeroed r) (u.zeroed r) := by
  obtain ⟨hd, hm, hi⟩ := (h.setValid r true).count (f := Reg.MEMCTL_FILLS_COUNT) (by decide)
    ((s.setValid r true).get Reg.MEMCTL_FILLS_COUNT + 1) ((u.setValid r true).get Reg.MEMCTL_FILLS_COUNT + 1)
  have hheld : u.mem.held = s.mem.held := by rw [h.mem]
  refine ⟨congrArg (Sparse.dropRange (r * regionBytes) (r * regionBytes + regionBytes)) hd, ?_, hi⟩
  unfold State.zeroed
  rw [hheld]
  exact congrArg (fun m : MemSt => { m with
    undef := cutRanges (r * regionBytes) (r * regionBytes + regionBytes) m.undef,
    ue := m.ue.filter (fun b => b / regionBytes != r), ce := m.ce.filter (fun b => b / regionBytes != r),
    filling := m.filling.filter (· != r), held := s.mem.held.filter (fun h => h.addr / regionBytes != r) }) hm

theorem SameFill.finishFill (h : SameFill s u) (r : Nat) : SameFill (s.finishFill r) (u.finishFill r) := by
  by_cases hr : r ∈ s.mem.filling
  · have hzero := h.zeroed r
    rw [State.finishFill_eq hr, State.finishFill_eq (by rw [h.mem]; exact hr), h.mem]
    generalize s.mem.held.filter (fun h => h.addr / regionBytes == r) = l
    generalize s.zeroed r = v at hzero
    generalize u.zeroed r = w at hzero
    induction l generalizing v w with
    | nil => exact hzero
    | cons x l ih => exact ih _ _ (hzero.storePiece _)
  · unfold State.finishFill
    rw [if_neg hr, if_neg (by rw [h.mem]; exact hr)]
    exact h

theorem SameFill.waitAllFills (h : SameFill s u) : SameFill s.waitAllFills u.waitAllFills := by
  unfold State.waitAllFills
  rw [h.mem]
  generalize s.mem.filling = l
  induction l generalizing s u with
  | nil => exact h
  | cons r l ih => exact ih (h.finishFill r)

/-! ### All zero fills end -/

theorem State.filling_storePiece (s : State) (p : Nat × List Byte) : (s.storePiece p).mem.filling = s.mem.filling := by
  obtain ⟨m, h, -, -, hf, -⟩ := State.storePiece_frame s p
  rw [h]
  exact hf

theorem State.filling_finishFill (s : State) (r : Nat) : (s.finishFill r).mem.filling = s.mem.filling.filter (· != r) := by
  by_cases hr : r ∈ s.mem.filling
  · rw [State.finishFill_eq hr]
    exact foldl_keeps (P := fun u : State => u.mem.filling = s.mem.filling.filter (· != r))
      (fun u h hu => (State.filling_storePiece u h.piece).trans hu) _ _ rfl
  · unfold State.finishFill
    rw [if_neg hr]
    exact (List.filter_eq_self.2 fun q hq => by simpa using fun e : q = r => hr (e ▸ hq)).symm

theorem State.filling_waitAllFills (s : State) : s.waitAllFills.mem.filling = [] := by
  have hleft : ∀ (l : List Nat) (u : State), (∀ r ∈ u.mem.filling, r ∈ l) → (l.foldl State.finishFill u).mem.filling = [] := by
    intro l
    induction l with
    | nil => exact fun u hu => List.eq_nil_iff_forall_not_mem.2 fun r hr => absurd (hu r hr) List.not_mem_nil
    | cons q l ih =>
      refine fun u hu => ih _ fun r hr => ?_
      rw [State.filling_finishFill, List.mem_filter] at hr
      rcases List.mem_cons.1 (hu r hr.1) with e | hl
      · simp [e] at hr
      · exact hl
  exact hleft _ s fun _ hr => hr

theorem State.writes_finishFill (s : State) (r : Nat) : (s.finishFill r).mem.writes = s.mem.writes := by
  by_cases hr : r ∈ s.mem.filling
  · rw [State.finishFill_eq hr]
    refine foldl_keeps (P := fun v : State => v.mem.writes = s.mem.writes)
      (fun v h hv => (State.writes_storePiece v h.piece).trans hv) _ _ ?_
    simp [State.zeroed, State.zeroFill, State.setValid]
  · unfold State.finishFill
    rw [if_neg hr]

theorem State.writes_waitAllFills (s : State) : s.waitAllFills.mem.writes = s.mem.writes :=
  foldl_keeps (P := fun u : State => u.mem.writes = s.mem.writes) (fun u r hu => (State.writes_finishFill u r).trans hu) _ _ rfl

theorem StoreFrame.waitAllFills (s : State) : StoreFrame s s.waitAllFills := .foldl StoreFrame.finishFill _ s

/-! ### What a commitment of every write can reach -/

/-- A commitment reaches the DRAM, the DMA channels, the link and the reports to the host. -/
def Committing (s u : State) : Prop := ∃ h q r j f d m c,
  u = { s with host := h, ports := q, regs := r, just := j, free := f, dram := d, mem := m, dma := c }

theorem Committing.refl (s : State) : Committing s s := ⟨_, _, _, _, _, _, _, _, rfl⟩

theorem Committing.trans (h : Committing s u) (k : Committing u v) : Committing s v := by
  obtain ⟨_, _, _, _, _, _, _, _, rfl⟩ := h
  obtain ⟨_, _, _, _, _, _, _, _, rfl⟩ := k
  exact ⟨_, _, _, _, _, _, _, _, rfl⟩

theorem StoreFrame.committing (h : StoreFrame s u) : Committing s u := by
  obtain ⟨_, _, _, _, h, -⟩ := h.only
  exact ⟨_, _, _, _, _, _, _, _, h⟩

theorem ReadFrame.committing (h : ReadFrame s u) : Committing s u := by
  obtain ⟨_, _, _, _, _, _, h⟩ := h.only
  exact ⟨_, _, _, _, _, _, _, _, h⟩

theorem Flushed.committing (h : Flushed s u) : Committing s u := by
  obtain ⟨_, _, _, _, _, h⟩ := h.only
  exact ⟨_, _, _, _, _, _, _, _, h⟩

theorem ChanStep.committing {n : Nat} (h : ChanStep n s u) : Committing s u := by
  obtain ⟨_, _, _, _, _, h, -⟩ := h.only
  exact ⟨_, _, _, _, _, _, _, _, h⟩

theorem Committing.set (s : State) (f : Fld) (n : Nat) : Committing s (s.set f n) := ⟨_, _, _, _, _, _, _, _, rfl⟩

theorem Committing.modDma (s : State) (n : Nat) (f : DmaCh → DmaCh) : Committing s (s.modDma n f) :=
  ⟨_, _, _, _, _, _, _, _, rfl⟩

theorem Committing.foldl {α : Type} {f : State → α → State} (hf : ∀ u a, Committing u (f u a)) (l : List α) (s : State) :
    Committing s (l.foldl f s) := foldl_keeps (P := Committing s) (fun u a hu => hu.trans (hf u a)) l s (.refl s)

theorem Committing.rmwFails (s : State) (w : WReq) : Committing s (s.rmwFails w) := by
  have hmeet := (ReadFrame.meetUe s (blockOf w.addr) 3 0 0xFFFFFFFF 0).committing
  unfold State.rmwFails
  generalize s.meetUe (blockOf w.addr) 3 0 0xFFFFFFFF 0 = u at hmeet
  dsimp only
  split
  · exact hmeet
  · split
    · exact hmeet
    · exact hmeet.trans (.modDma _ _ _)

theorem Committing.commitWrite (s : State) (w : WReq) : Committing s (s.commitWrite w) := by
  have hwait := (StoreFrame.waitFills s w.addr w.data.length).committing
  unfold State.commitWrite
  generalize s.waitFills w.addr w.data.length = u at hwait
  dsimp only
  split
  · have hwrite := (StoreFrame.writePiece u (w.addr, w.data)).committing
    split
    · exact (hwait.trans hwrite).trans (.rmwFails _ w)
    · exact (hwait.trans hwrite).trans (Flushed.mirrorWrite _ w).committing
  · exact hwait.trans (Flushed.mirrorWrite _ w).committing

theorem Committing.dmaPut (s : State) (n : Nat) (p : Nat × List Byte) : Committing s (s.dmaPut n p) := by
  have hwrite := (StoreFrame.writePiece s p).committing
  unfold State.dmaPut
  dsimp only
  refine .trans ?_ (StoreFrame.queueReqs _ _).committing
  split
  · exact .refl s
  · exact hwrite

theorem Committing.dmaIssue (n : Nat) (all : Bool) (k : Nat) (s : State) : Committing s (s.dmaIssue n all k) := by
  induction k generalizing s with
  | zero => exact .refl s
  | succ k ih =>
    unfold State.dmaIssue
    split
    · exact .refl s
    · split
      · exact .refl s
      · exact ((Committing.modDma s n _).trans (.dmaPut _ n _)).trans (ih _)

theorem Committing.chanAcked (s : State) (n : Nat) : Committing s (s.chanAcked n) := by
  unfold State.chanAcked
  split
  · exact .refl s
  · exact ((Committing.dmaIssue n false _ s).trans (ChanStep.dmaShow n _).committing).trans (ChanStep.dmaProgress n _).committing

theorem Committing.showWrites (s : State) : Committing s s.showWrites := by
  obtain ⟨⟨r, j, h⟩, -⟩ := State.showWrites_keeps s
  exact ⟨_, _, _, _, _, _, _, _, h⟩

theorem Committing.commitWrites (s : State) (p : WReq → Bool) : Committing s (s.commitWrites p) := by
  have hout : Committing s { s with mem := { s.mem with writes := s.mem.writes.filter (fun w => !p w) } } :=
    ⟨_, _, _, _, _, _, _, _, rfl⟩
  rw [State.commitWrites_eq, State.dmaAcked_eq]
  exact ((hout.trans (.foldl Committing.commitWrite _ _)).trans (.showWrites _)).trans (.foldl Committing.chanAcked _ _)

theorem Committing.parts (h : Committing s u) :
    u.tab0 = s.tab0 ∧ u.tab1 = s.tab1 ∧ u.job = s.job ∧ u.heads = s.heads := by
  obtain ⟨_, _, _, _, _, _, _, _, rfl⟩ := h
  exact ⟨rfl, rfl, rfl, rfl⟩

end Sys2Proof.Machine
end

section
/-! The one-word writes of MEMCTL, DMA and ZPHY (O37). -/

namespace Sys2Proof.Machine

variable {s u v : State} {t : Nat}

/-- An invalidation outside initialisation mode: the zero fills end, every write is committed, the valid bits go. -/
theorem State.invalidate_general {count : Nat} (h1 : 1 ≤ count)
    (hp : s.get Reg.MEMCTL_INVAL_FIRST_REGION + count ≤ protRegion) (hm : s.flag Reg.MEMCTL_MODE_INIT = false) :
    s.invalidate count = (stOk, (s.waitAllFills.commitWrites (fun _ => true)).modMem (fun m => { m with
      valid := Sparse.dropRange (s.get Reg.MEMCTL_INVAL_FIRST_REGION) (s.get Reg.MEMCTL_INVAL_FIRST_REGION + count) m.valid })) := by
  have hnum : protRegion ≤ numRegions := by decide
  unfold State.invalidate
  rw [if_neg (by omega), if_neg (by omega), if_neg (by rw [hm]; decide)]

/-- INVAL_GO of regions of general DRAM. -/
theorem exec_invalGo_general (hl : Live s) (h1 : 1 ≤ s.get Reg.MEMCTL_INVAL_CTRL_COUNT)
    (hc : s.get Reg.MEMCTL_INVAL_CTRL_COUNT < 2 ^ 18)
    (hp : s.get Reg.MEMCTL_INVAL_FIRST_REGION + s.get Reg.MEMCTL_INVAL_CTRL_COUNT ≤ protRegion)
    (hm : s.flag Reg.MEMCTL_MODE_INIT = false) : exec (.invalGo t) s = .next
      ((((s.elapse t).set Reg.MEMCTL_INVAL_CTRL_COUNT (s.get Reg.MEMCTL_INVAL_CTRL_COUNT)).waitAllFills.commitWrites
        (fun _ => true)).modMem (fun m => { m with
          valid := Sparse.dropRange (s.get Reg.MEMCTL_INVAL_FIRST_REGION) (s.get Reg.MEMCTL_INVAL_FIRST_REGION + s.get Reg.MEMCTL_INVAL_CTRL_COUNT) m.valid })) := by
  have hother : ∀ (f : Fld) n, f.key ≠ Reg.MEMCTL_INVAL_CTRL_COUNT.key →
      ((s.elapse t).set Reg.MEMCTL_INVAL_CTRL_COUNT n).get f = s.get f := fun f n hf =>
    (State.get_set_other _ hf n).trans (State.elapse_get s t f)
  have hfirst := hother Reg.MEMCTL_INVAL_FIRST_REGION (s.get Reg.MEMCTL_INVAL_CTRL_COUNT) (by decide)
  have hinval := State.invalidate_general (s := (s.elapse t).set Reg.MEMCTL_INVAL_CTRL_COUNT (s.get Reg.MEMCTL_INVAL_CTRL_COUNT))
    h1 (by rw [hfirst]; exact hp) (by unfold State.flag; rw [hother _ _ (by decide)]; exact hm)
  rw [hfirst] at hinval
  rw [exec_invalGo hl rfl hc (by rw [hinval]), hinval]

theorem State.validRegion_dropped (u : State) {a b r : Nat} (h1 : a ≤ r) (h2 : r < b) :
    (u.modMem (fun m => { m with valid := Sparse.dropRange a b m.valid })).validRegion r = false :=
  Sparse.get_dropRange_same h1 h2

theorem State.initRegion_set_inval (s : State) (n r : Nat) :
    (s.set Reg.MEMCTL_INVAL_CTRL_COUNT n).initRegion r = s.initRegion r := by
  unfold State.initRegion State.flag
  rw [State.get_set_other, State.get_set_other, State.get_set_other, State.get_set_other] <;> decide

/-- What an invalidation reaches, whatever is queued. -/
theorem invalGo_leaves (hl : Live s) (h1 : 1 ≤ s.get Reg.MEMCTL_INVAL_CTRL_COUNT)
    (hc : s.get Reg.MEMCTL_INVAL_CTRL_COUNT < 2 ^ 18)
    (hp : s.get Reg.MEMCTL_INVAL_FIRST_REGION + s.get Reg.MEMCTL_INVAL_CTRL_COUNT ≤ protRegion)
    (hm : s.flag Reg.MEMCTL_MODE_INIT = false) : ∃ v, exec (.invalGo t) s = .next v ∧
      (∀ r, s.get Reg.MEMCTL_INVAL_FIRST_REGION ≤ r →
        r < s.get Reg.MEMCTL_INVAL_FIRST_REGION + s.get Reg.MEMCTL_INVAL_CTRL_COUNT → v.validRegion r = false) ∧
      v.tab0 = s.tab0 ∧ v.tab1 = s.tab1 ∧ v.job = s.job ∧ v.heads = s.heads := by
  have he := exec_invalGo_general (t := t) hl h1 hc hp hm
  have hu : ((s.elapse t).set Reg.MEMCTL_INVAL_CTRL_COUNT (s.get Reg.MEMCTL_INVAL_CTRL_COUNT)).tab0 = s.tab0 ∧
      ((s.elapse t).set Reg.MEMCTL_INVAL_CTRL_COUNT (s.get Reg.MEMCTL_INVAL_CTRL_COUNT)).tab1 = s.tab1 ∧
      ((s.elapse t).set Reg.MEMCTL_INVAL_CTRL_COUNT (s.get Reg.MEMCTL_INVAL_CTRL_COUNT)).job = s.job ∧
      ((s.elapse t).set Reg.MEMCTL_INVAL_CTRL_COUNT (s.get Reg.MEMCTL_INVAL_CTRL_COUNT)).heads = s.heads :=
    ⟨State.elapse_tab0 s t, State.elapse_tab1 s t, State.elapse_job s t, State.elapse_heads s t⟩
  generalize (s.elapse t).set Reg.MEMCTL_INVAL_CTRL_COUNT (s.get Reg.MEMCTL_INVAL_CTRL_COUNT) = u at he hu
  have hreach : Committing u (u.waitAllFills.commitWrites fun _ => true) :=
    (StoreFrame.waitAllFills u).committing.trans (.commitWrites u.waitAllFills fun _ => true)
  generalize u.waitAllFills.commitWrites (fun _ => true) = w at he hreach
  obtain ⟨h0, h1, hj, hh⟩ := hreach.parts
  obtain ⟨k0, k1, kj, kh⟩ := hu
  exact ⟨_, he, fun r hr1 hr2 => State.validRegion_dropped _ hr1 hr2, h0.trans k0, h1.trans k1, hj.trans kj, hh.trans kh⟩

/-- An invalidation with no burst under way and no read-modify-write. -/
theorem invalGo_plain (hl : Live s) (h1 : 1 ≤ s.get Reg.MEMCTL_INVAL_CTRL_COUNT)
    (hc : s.get Reg.MEMCTL_INVAL_CTRL_COUNT < 2 ^ 18)
    (hp : s.get Reg.MEMCTL_INVAL_FIRST_REGION + s.get Reg.MEMCTL_INVAL_CTRL_COUNT ≤ protRegion)
    (hm : s.flag Reg.MEMCTL_MODE_INIT = false) (hidle : ∀ n, n < 32 → (s.dmaCh n).flight = [])
    (hw : ∀ w ∈ s.mem.writes, w.rmw = false) : ∃ v, exec (.invalGo t) s = .next v ∧ v.mem.writes = [] ∧
      v.dram = (s.elapse t).waitAllFills.dram ∧
      v.mem.valid = Sparse.dropRange (s.get Reg.MEMCTL_INVAL_FIRST_REGION)
        (s.get Reg.MEMCTL_INVAL_FIRST_REGION + s.get Reg.MEMCTL_INVAL_CTRL_COUNT) (s.elapse t).waitAllFills.mem.valid ∧
      v.host = s.host := by
  refine ⟨_, exec_invalGo_general hl h1 hc hp hm, ?_⟩
  have hsame : SameFill (s.elapse t) ((s.elapse t).set Reg.MEMCTL_INVAL_CTRL_COUNT (s.get Reg.MEMCTL_INVAL_CTRL_COUNT)) :=
    ⟨rfl, rfl, State.initRegion_set_inval _ _⟩
  have hhost : ((s.elapse t).set Reg.MEMCTL_INVAL_CTRL_COUNT (s.get Reg.MEMCTL_INVAL_CTRL_COUNT)).host = s.host :=
    State.elapse_host s t
  have hdma : ((s.elapse t).set Reg.MEMCTL_INVAL_CTRL_COUNT (s.get Reg.MEMCTL_INVAL_CTRL_COUNT)).dma = s.dma :=
    State.elapse_dma s t
  have hmem : ((s.elapse t).set Reg.MEMCTL_INVAL_CTRL_COUNT (s.get Reg.MEMCTL_INVAL_CTRL_COUNT)).mem = s.mem :=
    State.elapse_mem s t
  generalize (s.elapse t).set Reg.MEMCTL_INVAL_CTRL_COUNT (s.get Reg.MEMCTL_INVAL_CTRL_COUNT) = u at hsame hhost hdma hmem
  obtain ⟨hdram, hfilled, -⟩ := hsame.waitAllFills
  have hframe := StoreFrame.waitAllFills u
  have hwrites : ∀ w ∈ u.waitAllFills.mem.writes, w.rmw = false := by rw [State.writes_waitAllFills, hmem]; exact hw
  have hflight : ∀ n, n < 32 → (u.waitAllFills.dmaCh n).flight = [] := fun n hn => by
    unfold State.dmaCh
    rw [hframe.dma, hdma]
    exact hidle n hn
  have hcommitted := State.commitWrites_plain (State.filling_waitAllFills u) hwrites hflight fun _ => true
  have hgone : (u.waitAllFills.commitWrites (fun _ => true)).mem.writes = [] := by
    have hidle' : ∀ n, n < 32 → ((u.waitAllFills.flush fun _ => true).dmaCh n).flight = [] := fun n hn => by
      rw [(Flushed.flush hwrites fun _ => true).dmaCh]; exact hflight n hn
    rw [State.commitWrites_eq, State.dmaAcked_idle hidle', State.writes_flush hwrites]
    simp
  obtain ⟨q, r, j, w, h⟩ := hcommitted.only
  rw [h] at hgone ⊢
  have hvalid : u.waitAllFills.mem.valid = (s.elapse t).waitAllFills.mem.valid := by rw [hfilled]
  exact ⟨hgone, hdram, congrArg (Sparse.dropRange _ _) hvalid, hframe.host.trans hhost⟩

/-- Settles O37: each row is one write of a register, and what that write does is what the clause says. -/
theorem memoryAndLinkWriteRowsComplete : Obligations.MemoryAndLinkWriteRowsComplete := by
  unfold Obligations.MemoryAndLinkWriteRowsComplete
  intro t s hl
  refine ⟨exec_uePop hl, fun h1 hc hp hm => ⟨invalGo_leaves hl h1 hc hp hm, invalGo_plain hl h1 hc hp hm⟩,
    fun active hf => recoverActiveWrite_cases hl active hf, exec_dmaCommit hl, fun p hup hp => ⟨?_, ?_⟩⟩
  · obtain ⟨v, he, ⟨⟨hh, hd, hj⟩, -, ho, hphase⟩, hen, hst, hw⟩ := zphyPortRestart_cases hl p hup hp
    exact ⟨v, he, hphase, hen, hst, hw, ho, hh, hd, hj⟩
  · obtain ⟨v, he, ⟨⟨hh, hd, hj⟩, -, ho, hphase⟩, hen, hst⟩ := zphyPortDisable_cases hl p hup hp
    exact ⟨v, he, hphase, hen, hst, ho, hh, hd, hj⟩

end Sys2Proof.Machine
end

section
/-! SUPPORT. The training of the DRAM's channels, one after another. -/

namespace Sys2Proof.Machine

variable {s u v : State} {c d n : Nat} {t : Nat}

/-- A field of MEMCTL outside the training words of a channel. -/
abbrev Fld.offTrain (c : Nat) (f : Fld) : Prop :=
  f.lo < 32 ∧ 0x80000 ≤ f.addr ∧ (f.addr < 0x80108 + 32 * c ∨ 0x80128 + 32 * c ≤ f.addr)

/-- A field that the training of a channel may write. -/
abbrev Fld.ofTrain (c : Nat) (f : Fld) : Prop :=
  f.lo < 32 ∧ (f.addr < 0x80000 ∨ (0x80108 + 32 * c ≤ f.addr ∧ f.addr < 0x80128 + 32 * c))

theorem Fld.key_ne_of_train {q f : Fld} (hq : q.offTrain c) (hf : f.ofTrain c) : q.key ≠ f.key := by
  obtain ⟨hqlo, hq, hq'⟩ := hq
  obtain ⟨hflo, hf⟩ := hf
  simp only [Fld.key]; omega

/-- The training of a channel leaves the others, the fields of MEMCTL outside its words, DRAM and the runs. -/
structure TrainStep (c : Nat) (s u : State) : Prop where
  length : u.mem.chans.length = s.mem.chans.length
  other : ∀ d, d ≠ c → u.chan d = s.chan d
  parts : u.dram = s.dram ∧ u.therm = s.therm
  get : ∀ q : Fld, q.offTrain c → u.get q = s.get q

theorem TrainStep.refl (c : Nat) (s : State) : TrainStep c s s := ⟨rfl, fun _ _ => rfl, ⟨rfl, rfl⟩, fun _ _ => rfl⟩

theorem TrainStep.trans (h : TrainStep c s u) (k : TrainStep c u v) : TrainStep c s v := by
  obtain ⟨hl, ho, ⟨hd, ht⟩, hg⟩ := h
  obtain ⟨kl, ko, ⟨kd, kt⟩, kg⟩ := k
  exact ⟨kl.trans hl, fun d hd' => (ko d hd').trans (ho d hd'), ⟨kd.trans hd, kt.trans ht⟩, fun q hq => (kg q hq).trans (hg q hq)⟩

theorem TrainStep.set (s : State) {f : Fld} (hf : f.ofTrain c) (x : Nat) : TrainStep c s (s.set f x) :=
  ⟨rfl, fun _ _ => rfl, ⟨rfl, rfl⟩, fun _ hq => State.get_set_other s (Fld.key_ne_of_train hq hf) x⟩

theorem TrainStep.modChan (s : State) (c : Nat) (f : Chan → Chan) : TrainStep c s (s.modChan c f) :=
  ⟨modAt_length _ _ _, fun d hd => modAt_getD_other f _ c d _ hd, ⟨rfl, rfl⟩, fun _ _ => rfl⟩

/-- An event counts nothing in MEMCTL. -/
theorem eventFields_offMemctl {q : Fld} (hlo : q.lo < 32) (ha : 0x80000 ≤ q.addr) : q.key ∉ eventFields := by
  have hlt : ∀ k ∈ eventFields, k < 0x80000 * 32 := by decide
  intro hq
  have hk := hlt _ hq
  simp only [Fld.key] at hk
  omega

theorem TrainStep.raise (s : State) (k j : Nat) (a : List Byte) : TrainStep c s (s.raise k j a) := by
  have hmem : (s.raise k j a).mem = s.mem := State.raise_mem s k j a
  exact ⟨congrArg (fun m : MemSt => m.chans.length) hmem, fun d _ => congrArg (fun m : MemSt => m.chans.getD d .init) hmem,
    ⟨State.raise_dram s k j a, State.raise_therm s k j a⟩, fun q hq => State.raise_get s k j a (eventFields_offMemctl hq.1 hq.2.1)⟩

theorem State.chan_modChan (f : Chan → Chan) (hc : c < s.mem.chans.length) : (s.modChan c f).chan c = f (s.chan c) :=
  modAt_getD_same f _ c _ hc

/-! ### An accepted and a rejected channel -/

theorem Fld.ofTrain_train (c : Nat) : (Reg.MEMCTL_CH_TRAIN_EYE_MIN c).ofTrain c ∧ (Reg.MEMCTL_CH_TRAIN_VREF_DQ c).ofTrain c ∧
    (Reg.MEMCTL_CH_TRAIN_VREF_CA c).ofTrain c ∧ (Reg.MEMCTL_CH_TRAIN_TEMP_TEMP c).ofTrain c ∧
    (Reg.MEMCTL_CH_TRAIN_REJECTED c).ofTrain c := by
  simp only [Fld.ofTrain, Reg.MEMCTL_CH_TRAIN_EYE_MIN, Reg.MEMCTL_CH_TRAIN_VREF_DQ, Reg.MEMCTL_CH_TRAIN_VREF_CA,
    Reg.MEMCTL_CH_TRAIN_TEMP_TEMP, Reg.MEMCTL_CH_TRAIN_REJECTED]
  omega

/-- The record of a channel whose training is accepted. -/
theorem State.acceptTraining_spec (hc : c < s.mem.chans.length) (m : TrainMeas) :
    TrainStep c s (s.acceptTraining c m) ∧
    (s.acceptTraining c m).chan c = { s.chan c with
      centres := m.centres, osc := m.osc, taps := m.taps, targets := m.taps, running := false } ∧
    (s.acceptTraining c m).get (Reg.MEMCTL_CH_TRAIN_VREF_DQ c) = low (Reg.MEMCTL_CH_TRAIN_VREF_DQ c).w m.vrefDq ∧
    ((s.chan c).running = false → (s.acceptTraining c m).host = s.host) := by
  obtain ⟨heye, hdq, hca, htemp, -⟩ := Fld.ofTrain_train c
  unfold State.acceptTraining
  extract_lets u v w x
  have hu : TrainStep c s u ∧ u.chan c = s.chan c ∧ ((s.chan c).running = false → u.host = s.host) := by
    cases h : (s.chan c).running with
    | true =>
      have hu : u = s.raise evCalDone 0 (leBytes 1 1) := if_pos h
      rw [hu]
      exact ⟨.raise s _ _ _, congrArg (fun m : MemSt => m.chans.getD c .init) (State.raise_mem s _ _ _), fun h => by cases h⟩
    | false =>
      have hu : u = s := if_neg (by rw [h]; exact Bool.false_ne_true)
      rw [hu]
      exact ⟨.refl c s, rfl, fun _ => rfl⟩
  clear_value u
  obtain ⟨hstep, hchan, hhost⟩ := hu
  have hv : TrainStep c u v := .modChan u c _
  have hvc : v.chan c = { s.chan c with
      centres := m.centres, osc := m.osc, taps := m.taps, targets := m.taps, running := false } := by
    rw [State.chan_modChan _ (by rw [hstep.length]; exact hc), hchan]
  have hvh : v.host = u.host := rfl
  clear_value v
  have hw : TrainStep c v w := .set v heye _
  have hwc : w.chan c = v.chan c := rfl
  have hwh : w.host = v.host := rfl
  clear_value w
  have hx : TrainStep c w x := (TrainStep.set w hdq m.vrefDq).trans (.set _ hca m.vrefCa)
  have hxc : x.chan c = w.chan c := rfl
  have hxh : x.host = w.host := rfl
  have hxq : x.get (Reg.MEMCTL_CH_TRAIN_VREF_DQ c) = low (Reg.MEMCTL_CH_TRAIN_VREF_DQ c).w m.vrefDq :=
    (State.get_set_other _ (by simp only [Fld.key, Reg.MEMCTL_CH_TRAIN_VREF_DQ, Reg.MEMCTL_CH_TRAIN_VREF_CA]; omega) _).trans
      (State.get_set_same ..)
  clear_value x
  refine ⟨(((hstep.trans hv).trans hw).trans hx).trans (.set x htemp _), ?_, ?_, fun h => ?_⟩
  · exact (hxc.trans hwc).trans hvc
  · exact (State.get_set_other _ (by
      simp only [Fld.key, Reg.MEMCTL_CH_TRAIN_VREF_DQ, Reg.MEMCTL_CH_TRAIN_TEMP_TEMP]; omega) _).trans hxq
  · exact ((hxh.trans hwh).trans hvh).trans (hhost h)

theorem Fld.ofTrain_cal : (Reg.CAL_T_REJECTS_COUNT 0).ofTrain c ∧ (Reg.CAL_T_LAST_REJECT_UNIT 0).ofTrain c ∧
    (Reg.CAL_T_RUNS_COUNT 0).ofTrain c := by
  simp only [Fld.ofTrain, Reg.CAL_T_REJECTS_COUNT, Reg.CAL_T_LAST_REJECT_UNIT, Reg.CAL_T_RUNS_COUNT]
  omega

theorem State.rejectChannel_spec (s : State) (c : Nat) :
    TrainStep c s (s.rejectChannel c) ∧ (s.rejectChannel c).mem = s.mem ∧
    (s.rejectChannel c).flag (Reg.MEMCTL_CH_TRAIN_REJECTED c) = true := by
  obtain ⟨-, -, -, -, hrej⟩ := Fld.ofTrain_train c
  obtain ⟨hcount, hunit, -⟩ := Fld.ofTrain_cal (c := c)
  refine ⟨((TrainStep.set s hrej _).trans (.set _ hcount _)).trans (.set _ hunit c), rfl, ?_⟩
  have hget : (s.rejectChannel c).get (Reg.MEMCTL_CH_TRAIN_REJECTED c) = 1 := by
    unfold State.rejectChannel State.incSat
    rw [State.get_set_other, State.get_set_other]
    · exact State.get_set_same ..
    · simp only [Fld.key, Reg.MEMCTL_CH_TRAIN_REJECTED, Reg.CAL_T_REJECTS_COUNT]; omega
    · simp only [Fld.key, Reg.MEMCTL_CH_TRAIN_REJECTED, Reg.CAL_T_LAST_REJECT_UNIT]; omega
  unfold State.flag
  rw [hget]
  rfl

/-! ### The training of a start-up (R265) -/

/-- The channels below `n` have been trained at a start-up. -/
structure Trained (results : List (List TrainMeas)) (n : Nat) (s u : State) : Prop where
  length : u.mem.chans.length = s.mem.chans.length
  later : ∀ d, n ≤ d → u.chan d = s.chan d
  done : ∀ c, c < n → ∀ m, startResult (s.chan c) (results.getD c []) = some m →
    (u.chan c).taps = m.taps ∧ (u.chan c).centres = m.centres ∧ (u.chan c).running = false
  trained : u.get Reg.MEMCTL_MODE_TRAINED = s.get Reg.MEMCTL_MODE_TRAINED
  fail : u.flag Reg.MEMCTL_MODE_BOOT_FAIL = true ↔
    s.flag Reg.MEMCTL_MODE_BOOT_FAIL = true ∨ ∃ c, c < n ∧ startResult (s.chan c) (results.getD c []) = none
  host : (∀ c, c < n → startResult (s.chan c) (results.getD c []) ≠ none ∧ (s.chan c).running = false) → u.host = s.host

/-- One channel of a start-up is trained. -/
def State.trainOne (results : List (List TrainMeas)) (s : State) (c : Nat) : State :=
  match startResult (s.chan c) (results.getD c []) with
  | some m => s.acceptTraining c m
  | none => (s.setB Reg.MEMCTL_MODE_BOOT_FAIL true).raise evCalRejected 0 (leBytes 1 0 ++ leBytes 1 c)

theorem State.trainAll_eq (results : List (List TrainMeas)) (s : State) : s.trainAll results =
    if ((List.range 8).foldl (State.trainOne results) s).flag Reg.MEMCTL_MODE_BOOT_FAIL then
      (List.range 8).foldl (State.trainOne results) s
    else ((List.range 8).foldl (State.trainOne results) s).setB Reg.MEMCTL_MODE_TRAINED true := rfl

variable {results : List (List TrainMeas)}

theorem Trained.start (s : State) : Trained results 0 s s :=
  ⟨rfl, fun _ _ => rfl, fun c hc => absurd hc (Nat.not_lt_zero c), rfl,
    ⟨.inl, fun h => h.elim id fun ⟨c, hc, _⟩ => absurd hc (Nat.not_lt_zero c)⟩, fun _ => rfl⟩

/-- A channel whose attempts have a first good one. -/
theorem Trained.accept (h : Trained results n s u) (hn : n < s.mem.chans.length) {m : TrainMeas}
    (hm : startResult (s.chan n) (results.getD n []) = some m) : Trained results (n + 1) s (u.acceptTraining n m) := by
  obtain ⟨hl, hlater, hdone, htrained, hfail, hhost⟩ := h
  obtain ⟨⟨kl, ko, -, kg⟩, kchan, -, khost⟩ := State.acceptTraining_spec (s := u) (by rw [hl]; exact hn) m
  have hflag : (u.acceptTraining n m).flag Reg.MEMCTL_MODE_BOOT_FAIL = u.flag Reg.MEMCTL_MODE_BOOT_FAIL := by
    unfold State.flag
    rw [kg _ (by simp only [Fld.offTrain, Reg.MEMCTL_MODE_BOOT_FAIL]; omega)]
  refine ⟨kl.trans hl, fun d hd => (ko d (by omega)).trans (hlater d (by omega)), fun c hc m' hm' => ?_,
    (kg _ (by simp only [Fld.offTrain, Reg.MEMCTL_MODE_TRAINED]; omega)).trans htrained, ?_, fun hall => ?_⟩
  · by_cases hcn : c = n
    · subst hcn
      obtain rfl := Option.some.inj (hm.symm.trans hm')
      rw [kchan]
      exact ⟨rfl, rfl, rfl⟩
    · rw [ko c hcn]
      exact hdone c (by omega) m' hm'
  · rw [hflag, hfail]
    refine or_congr_right ⟨fun ⟨c, hc, hnone⟩ => ⟨c, by omega, hnone⟩, fun ⟨c, hc, hnone⟩ => ⟨c, ?_, hnone⟩⟩
    rcases Nat.lt_succ_iff_lt_or_eq.1 hc with hlt | rfl
    · exact hlt
    · rw [hm] at hnone; cases hnone
  · exact (khost (by rw [hlater n (Nat.le_refl n)]; exact (hall n (by omega)).2)).trans
      (hhost fun c hc => hall c (by omega))

/-- A channel none of whose attempts keeps the limits. -/
theorem Trained.fails (h : Trained results n s u) (hnone : startResult (s.chan n) (results.getD n []) = none)
    (a : List Byte) : Trained results (n + 1) s ((u.setB Reg.MEMCTL_MODE_BOOT_FAIL true).raise evCalRejected 0 a) := by
  obtain ⟨hl, hlater, hdone, htrained, hfail, -⟩ := h
  have hmem : ((u.setB Reg.MEMCTL_MODE_BOOT_FAIL true).raise evCalRejected 0 a).mem = u.mem := State.raise_mem _ _ _ _
  have hget : ∀ q : Fld, q.lo < 32 → 0x80000 ≤ q.addr → ((u.setB Reg.MEMCTL_MODE_BOOT_FAIL true).raise evCalRejected 0 a).get q =
      (u.setB Reg.MEMCTL_MODE_BOOT_FAIL true).get q := fun q hlo ha => State.raise_get _ _ _ _ (eventFields_offMemctl hlo ha)
  have hchan : ∀ d, ((u.setB Reg.MEMCTL_MODE_BOOT_FAIL true).raise evCalRejected 0 a).chan d = u.chan d := fun d =>
    congrArg (fun m : MemSt => m.chans.getD d .init) hmem
  generalize (u.setB Reg.MEMCTL_MODE_BOOT_FAIL true).raise evCalRejected 0 a = v at hmem hget hchan
  have htrue : v.flag Reg.MEMCTL_MODE_BOOT_FAIL = true := by
    unfold State.flag
    rw [hget _ (by decide) (by decide)]
    exact State.flag_setB_same _ _ _ (h := by decide)
  refine ⟨(congrArg (fun m : MemSt => m.chans.length) hmem).trans hl, fun d hd => (hchan d).trans (hlater d (by omega)),
    fun c hc m hm => ?_, ?_, iff_of_true htrue (.inr ⟨n, by omega, hnone⟩), fun hall => absurd hnone (hall n (by omega)).1⟩
  · have hcn : c ≠ n := by rintro rfl; rw [hm] at hnone; cases hnone
    rw [hchan]
    exact hdone c (by omega) m hm
  · rw [hget _ (by decide) (by decide), State.get_setB_other _ (by decide), htrained]

theorem Trained.step (h : Trained results n s u) (hn : n < s.mem.chans.length) :
    Trained results (n + 1) s (u.trainOne results n) := by
  unfold State.trainOne
  rw [h.later n (Nat.le_refl n)]
  split
  next m hm => exact h.accept hn hm
  next hnone => exact h.fails hnone _

theorem Trained.range (hn : n ≤ s.mem.chans.length) :
    Trained results n s ((List.range n).foldl (State.trainOne results) s) := by
  induction n with
  | zero => exact .start s
  | succ n ih =>
    rw [List.range_succ, List.foldl_append]
    exact (ih (by omega)).step hn

/-- A start-up's training, with every channel good and with one that is not. -/
theorem dramTraining_cases (hl : Live s) (hch : s.mem.chans.length = 8) (hun : s.untrained = true) :
    ((∀ c < 8, startResult (s.chan c) (results.getD c []) ≠ none) →
      ∃ v, exec (.dramTraining results t) s = .next v ∧ v.flag Reg.MEMCTL_MODE_TRAINED = true ∧
        v.flag Reg.MEMCTL_MODE_BOOT_FAIL = false ∧ ((∀ c < 8, (s.chan c).running = false) → v.host = s.host) ∧
        ∀ c < 8, ∀ m, startResult (s.chan c) (results.getD c []) = some m →
          (v.chan c).taps = m.taps ∧ (v.chan c).centres = m.centres ∧ (v.chan c).running = false) ∧
    ((∃ c < 8, startResult (s.chan c) (results.getD c []) = none) →
      ∃ v, exec (.dramTraining results t) s = .next v ∧ v.flag Reg.MEMCTL_MODE_TRAINED = false ∧
        v.flag Reg.MEMCTL_MODE_BOOT_FAIL = true) := by
  obtain ⟨⟨-, htrained⟩, hfail⟩ : (s.power.startup = true ∧ s.flag Reg.MEMCTL_MODE_TRAINED = false) ∧
      s.flag Reg.MEMCTL_MODE_BOOT_FAIL = false := by
    simpa [State.untrained, Bool.and_eq_true] using hun
  have hmem := State.elapse_mem s t
  have hchan : ∀ c, (s.elapse t).chan c = s.chan c := fun c => congrArg (fun m : MemSt => m.chans.getD c .init) hmem
  have hun' : (s.elapse t).untrained = true := by
    unfold State.untrained at hun ⊢
    rw [State.elapse_power, State.elapse_flag, State.elapse_flag]
    exact hun
  have he : exec (.dramTraining results t) s = .next ((s.elapse t).trainAll results) := by
    show execDramTraining results t s = _
    unfold execDramTraining
    rw [eventAwake_live hl]
    exact congrArg _ (if_pos hun')
  have h8 := Trained.range (s := s.elapse t) (results := results) (n := 8) (by rw [hmem, hch])
  obtain ⟨-, -, hdone, hsame, hiff, hhost⟩ := h8
  rw [he, State.trainAll_eq]
  simp only [hchan, State.elapse_get, State.elapse_flag, hfail, Bool.false_eq_true, false_or, State.elapse_host] at hdone hsame hiff hhost
  generalize (List.range 8).foldl (State.trainOne results) (s.elapse t) = v at hdone hsame hiff hhost
  constructor
  · intro hall
    have hno : v.flag Reg.MEMCTL_MODE_BOOT_FAIL = false :=
      Bool.eq_false_iff.2 fun h => by obtain ⟨c, hc, hnone⟩ := hiff.1 h; exact hall c hc hnone
    rw [if_neg (by rw [hno]; exact Bool.false_ne_true)]
    refine ⟨_, rfl, State.flag_setB_same _ _ _ (h := by decide), ?_, fun hrun => hhost fun c hc => ⟨hall c hc, hrun c hc⟩, hdone⟩
    unfold State.flag
    rw [State.get_setB_other _ (by decide)]
    exact hno
  · intro hsome
    have hyes := hiff.2 hsome
    rw [if_pos hyes]
    refine ⟨_, rfl, ?_, hyes⟩
    unfold State.flag at htrained ⊢
    rw [hsame]
    exact htrained

end Sys2Proof.Machine
end

section
/-! SUPPORT. A retraining of the DRAM's channels, the steps of their taps, and READY. -/

namespace Sys2Proof.Machine

variable {s u v : State} {c d n : Nat} {t : Nat} {results : List TrainMeas}

/-! ### A retraining (R266, R268) -/

/-- A channel that a retraining accepts. -/
abbrev retrainAccepts (s : State) (results : List TrainMeas) (c : Nat) (m : TrainMeas) : Prop :=
  results[c]? = some m ∧ trainOk false (s.chan c) (s.get (Reg.MEMCTL_CH_TRAIN_VREF_DQ c)) m = true

/-- A channel that a retraining rejects. -/
abbrev retrainRejects (s : State) (results : List TrainMeas) (c : Nat) : Prop :=
  results[c]? = none ∨ ∃ m, results[c]? = some m ∧
    trainOk false (s.chan c) (s.get (Reg.MEMCTL_CH_TRAIN_VREF_DQ c)) m = false

/-- The channels below `n` have been judged. -/
structure Retrained (results : List TrainMeas) (n : Nat) (s u : State) : Prop where
  length : u.mem.chans.length = s.mem.chans.length
  parts : u.dram = s.dram ∧ u.therm = s.therm
  later : ∀ d, n ≤ d → u.chan d = s.chan d ∧ u.get (Reg.MEMCTL_CH_TRAIN_VREF_DQ d) = s.get (Reg.MEMCTL_CH_TRAIN_VREF_DQ d)
  accepted : ∀ c, c < n → ∀ m, retrainAccepts s results c m → (u.chan c).taps = m.taps ∧
    u.get (Reg.MEMCTL_CH_TRAIN_VREF_DQ c) = low (Reg.MEMCTL_CH_TRAIN_VREF_DQ c).w m.vrefDq
  rejected : ∀ c, c < n → retrainRejects s results c →
    u.chan c = s.chan c ∧ u.flag (Reg.MEMCTL_CH_TRAIN_REJECTED c) = true

/-- One channel of a retraining is judged; whether one was rejected so far goes along. -/
def State.retrainOne (results : List TrainMeas) (x : State × Bool) (c : Nat) : State × Bool :=
  match results[c]? with
  | some m =>
    if trainOk false (x.1.chan c) (x.1.get (Reg.MEMCTL_CH_TRAIN_VREF_DQ c)) m then (x.1.acceptTraining c m, x.2)
    else (x.1.rejectChannel c, true)
  | none => (x.1.rejectChannel c, true)

theorem State.retrained_eq (s : State) (results : List TrainMeas) : s.retrained results =
    (if ((List.range 8).foldl (State.retrainOne results) (s, false)).2 then
        ((List.range 8).foldl (State.retrainOne results) (s, false)).1
      else ((List.range 8).foldl (State.retrainOne results) (s, false)).1.inc (Reg.CAL_T_RUNS_COUNT 0)).runsMeasured 0
      ((List.range 8).foldl (State.retrainOne results) (s, false)).2 := rfl

theorem Fld.offTrain_words (h : d ≠ c) : (Reg.MEMCTL_CH_TRAIN_VREF_DQ d).offTrain c ∧
    (Reg.MEMCTL_CH_TRAIN_REJECTED d).offTrain c := by
  simp only [Fld.offTrain, Reg.MEMCTL_CH_TRAIN_VREF_DQ, Reg.MEMCTL_CH_TRAIN_REJECTED]
  omega

/-- What a step of one channel leaves of the judgement of those before it. -/
theorem Retrained.next (h : Retrained results n s u) (k : TrainStep n u v)
    (haccept : ∀ m, retrainAccepts s results n m → (v.chan n).taps = m.taps ∧
      v.get (Reg.MEMCTL_CH_TRAIN_VREF_DQ n) = low (Reg.MEMCTL_CH_TRAIN_VREF_DQ n).w m.vrefDq)
    (hreject : retrainRejects s results n → v.chan n = s.chan n ∧ v.flag (Reg.MEMCTL_CH_TRAIN_REJECTED n) = true) :
    Retrained results (n + 1) s v := by
  obtain ⟨hl, ⟨hd, ht⟩, hlater, haccepted, hrejected⟩ := h
  obtain ⟨kl, ko, ⟨kd, kt⟩, kg⟩ := k
  refine ⟨kl.trans hl, ⟨kd.trans hd, kt.trans ht⟩, fun d hd => ?_, fun c hc m hm => ?_, fun c hc hr => ?_⟩
  · obtain ⟨hchan, hvref⟩ := hlater d (by omega)
    exact ⟨(ko d (by omega)).trans hchan, (kg _ (Fld.offTrain_words (by omega)).1).trans hvref⟩
  · by_cases hcn : c = n
    · subst hcn; exact haccept m hm
    · rw [ko c hcn, kg _ (Fld.offTrain_words hcn).1]
      exact haccepted c (by omega) m hm
  · by_cases hcn : c = n
    · subst hcn; exact hreject hr
    · obtain ⟨hchan, hflag⟩ := hrejected c (by omega) hr
      unfold State.flag at hflag ⊢
      rw [kg _ (Fld.offTrain_words hcn).2]
      exact ⟨(ko c hcn).trans hchan, hflag⟩

theorem Retrained.rejects (h : Retrained results n s u) (hr : retrainRejects s results n) :
    Retrained results (n + 1) s (u.rejectChannel n) := by
  obtain ⟨hstep, hmem, hflag⟩ := State.rejectChannel_spec u n
  refine h.next hstep (fun m hm => ?_) fun _ =>
    ⟨(congrArg (fun m : MemSt => m.chans.getD n .init) hmem).trans (h.later n (Nat.le_refl n)).1, hflag⟩
  rcases hr with hr | ⟨m', hr, hno⟩
  · exact absurd (hr.symm.trans hm.1) (by simp)
  · obtain rfl := Option.some.inj (hr.symm.trans hm.1)
    rw [hm.2] at hno; cases hno

theorem Retrained.step {b : Bool} (h : Retrained results n s u) (hn : n < s.mem.chans.length) :
    Retrained results (n + 1) s (State.retrainOne results (u, b) n).1 := by
  obtain ⟨hchan, hvref⟩ := h.later n (Nat.le_refl n)
  unfold State.retrainOne
  dsimp only
  rw [hchan, hvref]
  split
  next m hm =>
    cases hok : trainOk false (s.chan n) (s.get (Reg.MEMCTL_CH_TRAIN_VREF_DQ n)) m with
    | true =>
      rw [if_pos rfl]
      obtain ⟨hstep, hrecord, hdq, -⟩ := State.acceptTraining_spec (s := u) (by rw [h.length]; exact hn) m
      refine h.next hstep (fun m' hm' => ?_) fun hr => ?_
      · obtain rfl := Option.some.inj (hm.symm.trans hm'.1)
        exact ⟨congrArg Chan.taps hrecord, hdq⟩
      · rcases hr with hr | ⟨m', hr, hno⟩
        · rw [hm] at hr; cases hr
        · obtain rfl := Option.some.inj (hm.symm.trans hr)
          rw [hok] at hno; cases hno
    | false =>
      rw [if_neg Bool.false_ne_true]
      exact h.rejects (.inr ⟨m, hm, hok⟩)
  next hnone => exact h.rejects (.inl hnone)

theorem Retrained.range (hn : n ≤ s.mem.chans.length) :
    Retrained results n s ((List.range n).foldl (State.retrainOne results) (s, false)).1 := by
  induction n with
  | zero => exact ⟨rfl, ⟨rfl, rfl⟩, fun _ _ => ⟨rfl, rfl⟩, fun c hc => absurd hc (Nat.not_lt_zero c),
      fun c hc => absurd hc (Nat.not_lt_zero c)⟩
  | succ n ih =>
    rw [List.range_succ, List.foldl_append]
    exact (ih (by omega)).step hn

/-! ### The end of a run's measurement -/

theorem bit_zero_sub_one {n : Nat} (h : bit n 0 = true) : bit (n - 2 ^ 0) 0 = false := by
  have h1 : n % 2 = 1 := by simpa [bit] using h
  have h0 : (n - 1) % 2 = 0 := by omega
  simp [bit, h0]

/-- What the end of a measurement leaves: everything but the runs and the reports to the host. -/
theorem State.runsMeasured_spec (s : State) (rejected : Bool) :
    (s.runsMeasured 0 rejected).runMeasures 0 = false ∧ (s.runsMeasured 0 rejected).mem = s.mem ∧
    (s.runsMeasured 0 rejected).dram = s.dram ∧
    ∀ q : Fld, q.lo < 32 → 0x80000 ≤ q.addr → (s.runsMeasured 0 rejected).get q = s.get q := by
  unfold State.runsMeasured
  extract_lets runs x u
  have hu : u.runMeasures 0 = false ∧ u.mem = s.mem ∧ u.dram = s.dram ∧
      ∀ q : Fld, q.lo < 32 → 0x80000 ≤ q.addr → u.get q = s.get q := by
    refine ⟨?_, rfl, rfl, fun _ _ _ => rfl⟩
    have hruns : u.therm.runs = runs.filter (fun r => r.left != 0) := rfl
    unfold State.runMeasures
    rw [hruns, List.any_eq_false]
    intro r hr
    obtain ⟨r', -, rfl⟩ := List.mem_map.1 (List.mem_filter.1 hr).1
    split
    next hb => rw [bit_zero_sub_one hb]; exact Bool.false_ne_true
    next hb => exact hb
  clear_value u
  refine foldl_keeps (P := fun w : State => w.runMeasures 0 = false ∧ w.mem = s.mem ∧ w.dram = s.dram ∧
    ∀ q : Fld, q.lo < 32 → 0x80000 ≤ q.addr → w.get q = s.get q) (fun w r ⟨hr, hm, hd, hg⟩ => ⟨?_, ?_, ?_, ?_⟩) _ u hu
  · unfold State.runMeasures at hr ⊢
    rw [State.cmdDone_therm]
    exact hr
  · rw [State.cmdDone_mem]; exact hm
  · rw [State.cmdDone_dram]; exact hd
  · exact fun q hlo ha => (State.raise_get _ _ _ _ (eventFields_offMemctl hlo ha)).trans (hg q hlo ha)

theorem dramRetrainDone_cases (hl : Live s) (hch : s.mem.chans.length = 8) (hrun : s.runMeasures 0 = true) :
    ∃ v, exec (.dramRetrainDone results t) s = .next v ∧
      (∀ c < 8, ∀ m, retrainAccepts s results c m → (v.chan c).taps = m.taps ∧
        v.get (Reg.MEMCTL_CH_TRAIN_VREF_DQ c) = low (Reg.MEMCTL_CH_TRAIN_VREF_DQ c).w m.vrefDq) ∧
      (∀ c < 8, retrainRejects s results c → v.chan c = s.chan c ∧ v.flag (Reg.MEMCTL_CH_TRAIN_REJECTED c) = true) ∧
      v.runMeasures 0 = false ∧ v.dram = s.dram := by
  have hmem := State.elapse_mem s t
  have hchan : ∀ c, (s.elapse t).chan c = s.chan c := fun c => congrArg (fun m : MemSt => m.chans.getD c .init) hmem
  have hrun' : (s.elapse t).runMeasures 0 = true := by
    unfold State.runMeasures at hrun ⊢
    rw [State.elapse_therm]
    exact hrun
  have he : exec (.dramRetrainDone results t) s = .next ((s.elapse t).retrained results) := by
    show execDramRetrainDone results t s = _
    unfold execDramRetrainDone
    rw [eventAwake_live hl]
    exact congrArg _ (if_pos hrun')
  obtain ⟨-, ⟨hdram, -⟩, -, haccepted, hrejected⟩ := Retrained.range (s := s.elapse t) (results := results) (n := 8)
    (by rw [hmem, hch])
  simp only [retrainAccepts, retrainRejects, hchan, State.elapse_get, State.elapse_dram] at haccepted hrejected hdram
  rw [State.retrained_eq] at he
  generalize (List.range 8).foldl (State.retrainOne results) (s.elapse t, false) = r at haccepted hrejected hdram he
  obtain ⟨u, b⟩ := r
  have hcount : ∀ w : State, w = (if b then u else u.inc (Reg.CAL_T_RUNS_COUNT 0)) → w.mem = u.mem ∧ w.dram = u.dram ∧
      ∀ q : Fld, q.lo < 32 → 0x80000 ≤ q.addr → w.get q = u.get q := by
    rintro w rfl
    split
    · exact ⟨rfl, rfl, fun _ _ _ => rfl⟩
    · exact ⟨rfl, rfl, fun q hlo ha => State.get_set_other _ (by
        simp only [Fld.key, Reg.CAL_T_RUNS_COUNT]; omega) _⟩
  obtain ⟨hwm, hwd, hwg⟩ := hcount _ rfl
  generalize hw : (if b then u else u.inc (Reg.CAL_T_RUNS_COUNT 0)) = w at hwm hwd hwg
  dsimp only at he
  rw [hw] at he
  obtain ⟨hend, hem, hed, heg⟩ := State.runsMeasured_spec w b
  have hvchan : ∀ c, (w.runsMeasured 0 b).chan c = u.chan c := fun c =>
    congrArg (fun m : MemSt => m.chans.getD c .init) (hem.trans hwm)
  have hvget : ∀ q : Fld, q.lo < 32 → 0x80000 ≤ q.addr → (w.runsMeasured 0 b).get q = u.get q := fun q hlo ha =>
    (heg q hlo ha).trans (hwg q hlo ha)
  refine ⟨_, he, fun c hc m hm => ?_, fun c hc hr => ?_, hend, (hed.trans hwd).trans hdram⟩
  · rw [hvchan, hvget _ (by simp [Reg.MEMCTL_CH_TRAIN_VREF_DQ]) (by simp only [Reg.MEMCTL_CH_TRAIN_VREF_DQ]; omega)]
    exact haccepted c hc m hm
  · unfold State.flag
    rw [hvchan, hvget _ (by simp [Reg.MEMCTL_CH_TRAIN_REJECTED]) (by simp only [Reg.MEMCTL_CH_TRAIN_REJECTED]; omega)]
    exact hrejected c hc hr

/-! ### A step of a channel's taps (R267) -/

/-- A counter of CAL or MEMCTL is nothing that an event reads. -/
theorem EventInputs.setCount (s : State) {f : Fld} (hf : f.lo < 32 ∧ 0x60000 ≤ f.addr ∧ f.addr < 0x90000) (n : Nat) :
    EventInputs s (s.set f n) := by
  have hout : ∀ q ∈ eventReads, q.lo < 32 ∧ (q.addr < 0x60000 ∨ 0x90000 ≤ q.addr) := by decide
  refine ⟨rfl, rfl, rfl, fun q hq => State.get_set_other s ?_ n⟩
  have hq := hout q hq
  simp only [Fld.key]; omega

/-- The last step of a channel's taps is 1 ms old. -/
def Chan.late (x : Chan) (now : Nat) : Bool :=
  match x.stepAt with | some a => decide (a + msSteps ≤ now) | none => true

theorem exec_dramTapStep (hl : Live s) (ch : Fin 8) : exec (.dramTapStep ch t) s = .next ((s.elapse t).dramTapStep ch) := by
  show execDramTapStep ch t s = _
  unfold execDramTapStep
  exact eventAwake_live hl

theorem State.dramTapStep_idle (h : (s.chan c).running = false ∨ (s.chan c).late s.now = false) : s.dramTapStep c = s := by
  have hno : !(s.chan c).running ∨ !(s.chan c).late s.now := h.imp (by simp [·]) (by simp [·])
  exact if_pos hno

/-- A step that is due: every tap moves toward its target, and the run ends when all have arrived. -/
theorem State.dramTapStep_due (hr : (s.chan c).running = true) (hlate : (s.chan c).late s.now = true)
    (hlen : (s.chan c).taps.length = (s.chan c).targets.length) (hc : c < s.mem.chans.length) (hc8 : c < 8) :
    (s.dramTapStep c).chan c = { s.chan c with
      taps := stepTaps (s.chan c).taps (s.chan c).targets, stepAt := some s.now,
      running := stepTaps (s.chan c).taps (s.chan c).targets != (s.chan c).targets } ∧
    (s.dramTapStep c).host = (if stepTaps (s.chan c).taps (s.chan c).targets = (s.chan c).targets then
      (s.raise evCalDone 0 (leBytes 1 1)).host else s.host) := by
  have hdue : ¬(!(s.chan c).running ∨ !(s.chan c).late s.now) := by simp [hr, hlate]
  have heq : ∃ u, s.dramTapStep c = (if stepTaps (s.chan c).taps (s.chan c).targets == (s.chan c).targets then
      u.raise evCalDone 0 (leBytes 1 1) else u) ∧ EventInputs s u ∧ u.chan c = { s.chan c with
        taps := stepTaps (s.chan c).taps (s.chan c).targets, stepAt := some s.now,
        running := stepTaps (s.chan c).taps (s.chan c).targets != (s.chan c).targets } := by
    unfold State.dramTapStep
    extract_lets x due taps done y z
    have htaps : taps = stepTaps (s.chan c).taps (s.chan c).targets := if_pos hlen
    have hdone : done = (stepTaps (s.chan c).taps (s.chan c).targets == (s.chan c).targets) :=
      congrArg (· == (s.chan c).targets) htaps
    have hy : y.chan c = { s.chan c with taps := taps, stepAt := some s.now, running := !done } := State.chan_modChan _ hc
    have hz : EventInputs s z ∧ z.mem = y.mem := by
      have hsteps : ∀ (w : State) n, EventInputs w (w.set (Reg.MEMCTL_CH_TAP_STEPS_COUNT c) n) := fun w n =>
        .setCount w (by simp only [Reg.MEMCTL_CH_TAP_STEPS_COUNT]; omega) n
      have hrun : ∀ (w : State) n, EventInputs w (w.set (Reg.CAL_T_STEPS_COUNT 0) n) := fun w n => .setCount w (by decide) n
      have hy : EventInputs s y := ⟨rfl, rfl, rfl, fun _ _ => rfl⟩
      by_cases hsame : taps = x.taps
      · have hz : z = y := if_pos hsame
        rw [hz]
        exact ⟨hy, rfl⟩
      · have hz : z = (y.inc (Reg.MEMCTL_CH_TAP_STEPS_COUNT c)).inc (Reg.CAL_T_STEPS_COUNT 0) := if_neg hsame
        rw [hz]
        exact ⟨(hy.trans (hsteps _ _)).trans (hrun _ _), rfl⟩
    have hx : x.running = true := hr
    have hd : due = true := hlate
    rw [if_neg (by simp [hx, hd]), hdone]
    refine ⟨z, rfl, hz.1, (congrArg (fun m : MemSt => m.chans.getD c .init) hz.2).trans (hy.trans ?_)⟩
    rw [htaps, hdone]
    rfl
  obtain ⟨u, heq, hin, hchan⟩ := heq
  rw [heq]
  by_cases hdone : stepTaps (s.chan c).taps (s.chan c).targets = (s.chan c).targets
  · rw [if_pos (by rw [hdone]; exact beq_self_eq_true _), if_pos hdone]
    exact ⟨(congrArg (fun m : MemSt => m.chans.getD c .init) (State.raise_mem u _ _ _)).trans hchan, (hin.raise _ _ _).host⟩
  · rw [if_neg (by simpa using hdone), if_neg hdone]
    exact ⟨hchan, hin.host⟩

/-! ### READY (R265, R469) -/

/-- A transaction put at the end of the queue of the PMBus, where the bus is on. -/
theorem State.pmPut_spec (s : State) (ops : List PmOp) : (s.pmPut ops).regs = s.regs ∧ (s.pmPut ops).mem = s.mem ∧
    (s.pmPut ops).dram = s.dram ∧ (s.pmPut ops).power.startup = s.power.startup ∧
    (s.pmPut ops).power.pmQueue = s.power.pmQueue ++ (if s.pmbusOn then ops else []) := by
  unfold State.pmPut
  split
  · exact ⟨rfl, rfl, rfl, rfl, rfl⟩
  · exact ⟨rfl, rfl, rfl, rfl, (List.append_nil _).symm⟩

/-- The store that a boot begins with. -/
def State.bootStore (s : State) : State :=
  if s.power.startup then
    ({ s with dram := [] }.modMem (fun m => { m with
      valid := [], undef := [], ue := [], ce := [], met := [], rewrites := [], filling := [], held := [],
      writes := [], scrubNext := 0, lapStart := s.now, lapCorrected := 0 })).setB Reg.MEMCTL_MODE_INIT false
  else s

theorem State.bootStore_spec (s : State) : s.bootStore.power = s.power ∧
    (∀ q : Fld, q.key ≠ Reg.MEMCTL_MODE_INIT.key → s.bootStore.get q = s.get q) ∧
    (s.power.startup = true → s.bootStore.mem.valid = [] ∧ s.bootStore.flag Reg.MEMCTL_MODE_INIT = false ∧
      s.bootStore.dram = []) ∧
    (s.power.startup = false → s.bootStore.mem = s.mem ∧ s.bootStore.dram = s.dram) := by
  unfold State.bootStore
  split
  next h =>
    refine ⟨rfl, fun q hq => State.get_setB_other _ hq _, fun _ => ⟨rfl, State.flag_setB_same _ _ _ (h := by decide), rfl⟩,
      fun hno => ?_⟩
    rw [h] at hno; cases hno
  next h => exact ⟨rfl, fun _ _ => rfl, fun hyes => absurd hyes h, fun _ => ⟨rfl, rfl⟩⟩

/-- The boot is ready: what it leaves of the store, and the read of the PMBus that it queues. -/
theorem State.bootReady_spec (s : State) :
    s.bootReady.flag Reg.CMD_STATUS_READY = true ∧ s.bootReady.power.startup = false ∧
    s.bootReady.mem = s.bootStore.mem ∧ s.bootReady.dram = s.bootStore.dram ∧
    s.bootReady.flag Reg.MEMCTL_MODE_INIT = s.bootStore.flag Reg.MEMCTL_MODE_INIT ∧
    s.bootReady.power.pmQueue = s.power.pmQueue ++ (if s.pmbusOn then [.voutMode] else []) := by
  obtain ⟨hpower, hother, -, -⟩ := State.bootStore_spec s
  unfold State.bootReady
  extract_lets a b c d
  have ha : a = s.bootStore := rfl
  have hb : b.power = { a.power with startup := false } ∧ b.mem = a.mem ∧ b.dram = a.dram ∧
      b.flag Reg.CMD_STATUS_READY = true ∧ ∀ q : Fld, q.key ≠ Reg.CMD_STATUS_READY.key → b.get q = a.get q :=
    ⟨rfl, rfl, rfl, State.flag_setB_same _ _ _ (h := by decide), fun q hq => State.get_setB_other _ hq _⟩
  have hc : c.power = b.power ∧ c.mem = b.mem ∧ c.dram = b.dram ∧ ∀ q : Fld, q.key ∉ eventFields → c.get q = b.get q :=
    ⟨State.raise_power .., State.raise_mem .., State.raise_dram .., fun _ hq => State.raise_get _ _ _ _ hq⟩
  have hd : d.regs = c.regs ∧ d.mem = c.mem ∧ d.dram = c.dram ∧ d.power.startup = c.power.startup ∧
      d.power.pmQueue = c.power.pmQueue ++ (if c.pmbusOn then [.voutMode] else []) := State.pmPut_spec c _
  have he : ∀ w, w = (if d.flag Reg.PAIR_CTRL_ENABLE then d else
      d.modPair (fun x => { x with ilkWanted := !d.flag Reg.PAIR_STATUS_ILK_OUT })) →
      w.regs = d.regs ∧ w.mem = d.mem ∧ w.dram = d.dram ∧ w.power = d.power := by
    rintro w rfl
    split <;> exact ⟨rfl, rfl, rfl, rfl⟩
  obtain ⟨her, hem, hed, hep⟩ := he _ rfl
  generalize (if d.flag Reg.PAIR_CTRL_ENABLE then d else
    d.modPair (fun x => { x with ilkWanted := !d.flag Reg.PAIR_STATUS_ILK_OUT })) = w at her hem hed hep ⊢
  clear_value d c b a
  subst ha
  obtain ⟨hbp, hbm, hbd, hbr, hbg⟩ := hb
  obtain ⟨hcp, hcm, hcd, hcg⟩ := hc
  obtain ⟨hdr, hdm, hdd, hds, hdq⟩ := hd
  have hwc : ∀ q : Fld, w.get q = c.get q := fun q => by unfold State.get; rw [her, hdr]
  have hwflag : ∀ q : Fld, q.key ∉ eventFields → w.flag q = b.flag q := fun q hq => by
    unfold State.flag; rw [hwc, hcg q hq]
  have hon : c.pmbusOn = s.pmbusOn := by
    unfold State.pmbusOn State.flag
    rw [hcg _ (by decide), hbg _ (by decide), hother _ (by decide)]
  refine ⟨(hwflag _ (by decide)).trans hbr, ?_, ((hem.trans hdm).trans hcm).trans hbm, ((hed.trans hdd).trans hcd).trans hbd,
    ?_, ?_⟩
  · rw [hep, hds, hcp, hbp]
  · rw [hwflag _ (by decide)]
    unfold State.flag
    rw [hbg _ (by decide)]
  · rw [hep, hdq, hcp, hbp, hpower, hon]

theorem evtReady_cases (hl : Live s) (hr : s.flag Reg.CMD_STATUS_READY = false)
    (hb : s.flag Reg.MEMCTL_MODE_TRAINED = true ∨ s.power.startup = false) :
    ∃ v, exec (.evtReady t) s = .next v ∧ v.flag Reg.CMD_STATUS_READY = true ∧ v.power.startup = false ∧
      (s.power.startup = true → v.mem.valid = [] ∧ v.flag Reg.MEMCTL_MODE_INIT = false ∧ v.dram = []) ∧
      (s.power.startup = false → v.mem = s.mem ∧ v.dram = s.dram) ∧
      v.power.pmQueue = s.power.pmQueue ++ (if s.pmbusOn then [.voutMode] else []) := by
  have he : exec (.evtReady t) s = .next (s.elapse t).bootReady := by
    show execEvtReady t s = _
    unfold execEvtReady
    rw [eventAwake_live hl]
    refine congrArg _ (if_pos ?_)
    rw [State.elapse_flag, State.elapse_flag, State.elapse_power, hr]
    rcases hb with h | h <;> simp [h]
  obtain ⟨hready, hstart, hmem, hdram, hinit, hqueue⟩ := (s.elapse t).bootReady_spec
  obtain ⟨-, -, hfresh, hkept⟩ := (s.elapse t).bootStore_spec
  have hon : (s.elapse t).pmbusOn = s.pmbusOn := State.elapse_flag s t _
  rw [hon] at hqueue
  rw [State.elapse_power] at hqueue hfresh hkept
  rw [State.elapse_mem, State.elapse_dram] at hkept
  rw [← hmem, ← hdram, ← hinit] at hfresh
  rw [← hmem, ← hdram] at hkept
  exact ⟨_, he, hready, hstart, hfresh, hkept, hqueue⟩

end Sys2Proof.Machine
end

section
/-! The training of the DRAM and READY (O50). -/

namespace Sys2Proof.Machine

variable {s : State} {t : Nat}

theorem dramTapStep_due (hl : Live s) (hch : s.mem.chans.length = 8) (ch : Fin 8) (hr : (s.chan ch).running = true)
    (hlate : (s.chan ch).late (s.elapse t).now = true) (hlen : (s.chan ch).taps.length = (s.chan ch).targets.length) :
    ∃ v, exec (.dramTapStep ch t) s = .next v ∧ (v.chan ch).taps = stepTaps (s.chan ch).taps (s.chan ch).targets ∧
      (v.chan ch).targets = (s.chan ch).targets ∧ (v.chan ch).stepAt = some (s.elapse t).now ∧
      (v.chan ch).running = (stepTaps (s.chan ch).taps (s.chan ch).targets != (s.chan ch).targets) ∧
      v.host = (if stepTaps (s.chan ch).taps (s.chan ch).targets = (s.chan ch).targets then
        ((s.elapse t).raise evCalDone 0 (leBytes 1 1)).host else s.host) := by
  have hmem := State.elapse_mem s t
  have hchan : (s.elapse t).chan ch = s.chan ch := congrArg (fun m : MemSt => m.chans.getD ch .init) hmem
  have hstep := State.dramTapStep_due (s := s.elapse t) (c := ch) (by rw [hchan]; exact hr) (by rw [hchan]; exact hlate)
    (by rw [hchan]; exact hlen) (by rw [hmem, hch]; exact ch.isLt) ch.isLt
  rw [hchan, State.elapse_host] at hstep
  obtain ⟨hrecord, hhost⟩ := hstep
  refine ⟨_, exec_dramTapStep hl ch, ?_, ?_, ?_, ?_, hhost⟩ <;> rw [hrecord]

/-- Settles O50: the training and the retraining by induction on the channels, a step of the taps and READY directly. -/
theorem trainingAndReadyComplete : Obligations.TrainingAndReadyComplete := by
  unfold Obligations.TrainingAndReadyComplete
  intro t s hl hch
  refine ⟨fun results hun => dramTraining_cases hl hch hun, fun ch => ⟨fun h => ?_, fun hr hlate hlen => ?_⟩,
    fun results hrun => ?_, evtReady_cases hl⟩
  · have hchan : (s.elapse t).chan ch = s.chan ch := congrArg (fun m : MemSt => m.chans.getD ch .init) (State.elapse_mem s t)
    rw [exec_dramTapStep hl, State.dramTapStep_idle]
    rw [hchan]
    exact h
  · exact dramTapStep_due hl hch ch hr hlate hlen
  · obtain ⟨v, he, haccept, hreject, hend, hdram⟩ := dramRetrainDone_cases (t := t) hl hch hrun
    exact ⟨v, he, fun c hc m hm hok => haccept c hc m ⟨hm, hok⟩, hreject, hend, hdram⟩

end Sys2Proof.Machine
end

section
/-! SUPPORT. Reads that meet an error, and the scrubber. -/

namespace Sys2Proof.Machine

variable {s u v : State} {b t : Nat}

/-! ### A corrected error (R275) -/

theorem correctedRead_cases (hl : Live s) (addr : Nat) (hb : blockOf addr < dramEnd) (hr : s.reaches (blockOf addr) = true) :
    ∃ v, exec (.correctedRead addr t) s = .next v ∧ v.dram = s.dram ∧ v.host = s.host ∧ blockOf addr ∈ v.mem.ce ∧
      blockOf addr ∈ v.mem.rewrites ∧ v.get Reg.ECC_CE_COUNT = min (s.get Reg.ECC_CE_COUNT + 1) (2 ^ 32 - 1) ∧
      v.get Reg.ECC_CE_LAST_LO = low 32 (blockOf addr) ∧ v.get Reg.ECC_CE_LAST_HI = low 8 (blockOf addr / 2 ^ 32) := by
  have he : exec (.correctedRead addr t) s = .next ((s.elapse t).correctedRead (blockOf addr)) := by
    show execCorrectedRead addr t s = _
    unfold execCorrectedRead
    exact eventAwake_live hl
  have hreach : (s.elapse t).reaches (blockOf addr) = true := by
    rw [← hr]
    unfold State.reaches
    rw [State.validRegion_congr (s := s) (by rw [State.elapse_mem]), (SameData.elapse s t).init]
  generalize blockOf addr = b at *
  refine ⟨_, he, ?_⟩
  unfold State.correctedRead
  rw [if_pos ⟨hb, hreach⟩]
  have hread := ReadFrame.meetCe ((s.elapse t).modMem (fun m => { m with ce := if b ∈ m.ce then m.ce else m.ce ++ [b] })) b
  have hce : ∀ m : MemSt, b ∈ (if b ∈ m.ce then m.ce else m.ce ++ [b]) := fun m => by split <;> simp_all
  have hgets : ∀ u : State, (u.meetCe b).host = u.host ∧ (u.meetCe b).mem.ce = u.mem.ce ∧ b ∈ (u.meetCe b).mem.rewrites ∧
      (u.meetCe b).get Reg.ECC_CE_COUNT = min (u.get Reg.ECC_CE_COUNT + 1) (2 ^ 32 - 1) ∧
      (u.meetCe b).get Reg.ECC_CE_LAST_LO = low 32 b ∧ (u.meetCe b).get Reg.ECC_CE_LAST_HI = low 8 (b / 2 ^ 32) := fun u => by
    have hmeet : ∀ w : State, w.regs = (((u.incSat Reg.ECC_CE_COUNT 1).set Reg.ECC_CE_LAST_LO b).set Reg.ECC_CE_LAST_HI
        (b / 2 ^ 32)).regs →
        w.get Reg.ECC_CE_COUNT = min (u.get Reg.ECC_CE_COUNT + 1) (2 ^ 32 - 1) ∧
        w.get Reg.ECC_CE_LAST_LO = low 32 b ∧ w.get Reg.ECC_CE_LAST_HI = low 8 (b / 2 ^ 32) := by
      intro w hw
      have hget : ∀ q : Fld, w.get q = (((u.incSat Reg.ECC_CE_COUNT 1).set Reg.ECC_CE_LAST_LO b).set Reg.ECC_CE_LAST_HI
          (b / 2 ^ 32)).get q := fun q => by unfold State.get; rw [hw]
      rw [hget, hget, hget]
      refine ⟨?_, ?_, State.get_set_same ..⟩
      · rw [State.get_set_other _ (by decide), State.get_set_other _ (by decide)]
        exact State.get_incSat_same ..
      · rw [State.get_set_other _ (by decide)]
        exact State.get_set_same ..
    unfold State.meetCe
    dsimp only
    split
    next hin => exact ⟨rfl, rfl, hin, hmeet _ rfl⟩
    next => exact ⟨rfl, rfl, List.mem_append_right _ (List.mem_singleton_self b), hmeet _ rfl⟩
  obtain ⟨hhost, hmem, hrew, hcount, hlo, hhi⟩ := hgets ((s.elapse t).modMem (fun m => { m with
    ce := if b ∈ m.ce then m.ce else m.ce ++ [b] }))
  refine ⟨hread.dram.trans (State.elapse_dram ..), hhost.trans (State.elapse_host ..), ?_, hrew, ?_, hlo, hhi⟩
  · rw [hmem]
    exact hce (s.elapse t).mem
  · rw [hcount]
    exact congrArg (fun n => min (n + 1) (2 ^ 32 - 1)) (State.elapse_get s t _)

/-- The rewrite of a block that a read corrected. -/
theorem exec_scrubRewrite (hl : Live s) (addr : Nat) (hb : blockOf addr ∈ s.mem.rewrites) :
    exec (.scrubRewrite addr t) s = .next { s.elapse t with mem := { s.mem with
      ce := s.mem.ce.filter (· != blockOf addr), rewrites := s.mem.rewrites.filter (· != blockOf addr) } } := by
  have hin : decide (blockOf addr ∈ (s.elapse t).mem.rewrites) = true := by rw [State.elapse_mem]; exact decide_eq_true hb
  show execScrubRewrite addr t s = _
  unfold execScrubRewrite
  rw [eventAwake_live hl]
  have hmod : ∀ f : MemSt → MemSt, (s.elapse t).modMem f = { s.elapse t with mem := f s.mem } := fun f => by
    rw [← State.elapse_mem s t]; rfl
  exact congrArg _ ((if_pos hin).trans (hmod _))

/-! ### An uncorrectable block (R261, R272, R276) -/

/-- A block marked as uncorrectable. -/
def State.ueMarked (s : State) (b : Nat) : State :=
  { s with mem := { s.mem with ue := if b ∈ s.mem.ue then s.mem.ue else s.mem.ue ++ [b], ce := s.mem.ce.filter (· != b) } }

/-- The count of an uncorrectable block, once at an instant for a requester. -/
def State.ueCounted (s : State) (b req unit line : Nat) (web : Int) : State :=
  if (s.now, req, b) ∈ s.mem.met then s.ueMarked b
  else if s.initRegion (b / regionBytes) then (s.ueMarked b).incSat Reg.ECC_INIT_ERRORS 1
  else ((s.ueMarked b).incSat Reg.ECC_UE_COUNT 1).logUe b req (if req = 0 then unit else 0)
    (if req = 0 then line else 0xFFFFFFFF) (if req = 0 then web else 0)

theorem State.meetUe_ueMarked (s : State) (b req plane line : Nat) (web : Int) : (s.ueMarked b).meetUe b req plane line web =
    if (s.now, req, b) ∈ s.mem.met then s.ueMarked b
    else if s.initRegion (b / regionBytes) then (s.ueMarked b).incSat Reg.ECC_INIT_ERRORS 1
    else ((s.ueMarked b).incSat Reg.ECC_UE_COUNT 1).logUe b req plane line web := rfl

theorem ReadFrame.now (h : ReadFrame s u) : u.now = s.now := by
  obtain ⟨_, _, _, _, _, _, rfl⟩ := h.only
  rfl

theorem State.ueCounted_eq (s : State) (b req unit line : Nat) (web : Int) : s.ueCounted b req unit line web =
    if req = 0 then (s.ueMarked b).meetUe b 0 unit line web else (s.ueMarked b).meetUe b req 0 0xFFFFFFFF 0 := by
  rw [State.meetUe_ueMarked, State.meetUe_ueMarked]
  by_cases h : req = 0
  · subst h; rfl
  · unfold State.ueCounted
    rw [if_neg h, if_neg h, if_neg h, if_neg h]

theorem State.ueCounted_frame (s : State) (b req unit line : Nat) (web : Int) :
    ReadFrame (s.ueMarked b) (s.ueCounted b req unit line web) := by
  rw [State.ueCounted_eq]
  split
  · exact .meetUe ..
  · exact .meetUe ..

/-- What an uncorrectable block that a read reaches does. -/
theorem State.uncorrectable_eq (hb : b < dramEnd) (hr : s.reaches b = true) (req unit line : Nat) :
    s.uncorrectable b req unit line = ((s.ueCounted b req unit line (s.lineWeb unit line)).modMem (fun m => { m with
      met := (s.now, req, b) :: m.met.filter (fun x => decide (x.1 = s.now)) })).ueResponse b req unit := by
  have hnow := (State.ueCounted_frame s b req unit line (s.lineWeb unit line)).now
  have hmarked : (s.ueMarked b).now = s.now := rfl
  rw [hmarked] at hnow
  unfold State.uncorrectable
  rw [if_pos ⟨hb, hr⟩]
  extract_lets x y
  have hy : y = s.ueCounted b req unit line (s.lineWeb unit line) := (State.ueCounted_eq s b req unit line _).symm
  have hynow : y.now = s.now := by rw [hy, hnow]
  rw [← hy]
  clear_value y
  rw [hynow]

theorem State.lineWeb_elapse (s : State) (t unit line : Nat) : (s.elapse t).lineWeb unit line = s.lineWeb unit line := by
  unfold State.lineWeb
  rw [State.elapse_job]
  simp only [State.elapse_ref]

theorem State.get_logUe {q : Fld} (hq : q.key ∉ eventFields) (ho : q.key ≠ Reg.ECC_UE_LOG_STATUS_OVERFLOW.key)
    (s : State) (b req plane line : Nat) (web : Int) : (s.logUe b req plane line web).get q = s.get q := by
  have hnew : ∀ (u : State) (a : List Byte), (u.raiseLimited evMemUncorrectable 0 1 a).get q = u.get q := fun u a =>
    (EventFrame.raiseLimited u _ _ _ a).get q hq
  unfold State.logUe
  split
  · split
    · rfl
    · split
      · exact State.get_set_other _ ho _
      · exact hnew _ _
  · exact hnew _ _

/-- A block that a requester meets for the first time at an instant is counted. -/
theorem State.get_meetUe {req plane line : Nat} {web : Int} (hm : (s.now, req, b) ∉ s.mem.met) :
    (s.meetUe b req plane line web).get Reg.ECC_UE_COUNT = (if s.initRegion (b / regionBytes) then s.get Reg.ECC_UE_COUNT
      else min (s.get Reg.ECC_UE_COUNT + 1) (2 ^ 32 - 1)) ∧
    (s.meetUe b req plane line web).get Reg.ECC_INIT_ERRORS = (if s.initRegion (b / regionBytes) then
      min (s.get Reg.ECC_INIT_ERRORS + 1) (2 ^ 32 - 1) else s.get Reg.ECC_INIT_ERRORS) := by
  unfold State.meetUe
  rw [if_neg hm]
  split
  · exact ⟨State.get_set_other _ (by decide) _, State.get_incSat_same ..⟩
  · rw [State.get_logUe (by decide) (by decide), State.get_logUe (by decide) (by decide)]
    exact ⟨State.get_incSat_same .., State.get_set_other _ (by decide) _⟩

theorem State.get_meetUe_other {q : Fld} (hq : q.key ∉ eventFields) (hu : q.key ≠ Reg.ECC_UE_COUNT.key)
    (hi : q.key ≠ Reg.ECC_INIT_ERRORS.key) (ho : q.key ≠ Reg.ECC_UE_LOG_STATUS_OVERFLOW.key)
    (s : State) (b req plane line : Nat) (web : Int) : (s.meetUe b req plane line web).get q = s.get q := by
  unfold State.meetUe
  split
  · rfl
  · split
    · exact State.get_set_other _ hi _
    · rw [State.get_logUe hq ho]
      exact State.get_set_other _ hu _

theorem ReadFrame.marks (h : ReadFrame s u) : u.mem.ue = s.mem.ue ∧ u.mem.ce = s.mem.ce ∧ u.mem.met = s.mem.met := by
  obtain ⟨_, _, _, _, _, _, rfl⟩ := h.only
  exact ⟨rfl, rfl, rfl⟩

theorem mem_ueMarked (s : State) (b : Nat) : b ∈ (s.ueMarked b).mem.ue ∧ b ∉ (s.ueMarked b).mem.ce := by
  refine ⟨?_, fun h => by simp [State.ueMarked] at h⟩
  unfold State.ueMarked
  dsimp only
  split <;> simp_all

theorem exec_uncorrectableRead (hl : Live s) (addr req unit line : Nat) :
    exec (.uncorrectableRead addr req unit line t) s = .next ((s.elapse t).uncorrectable (blockOf addr) req unit line) := by
  show execUncorrectableRead addr req unit line t s = _
  unfold execUncorrectableRead
  exact eventAwake_live hl

theorem State.reaches_elapse (s : State) (t b : Nat) : (s.elapse t).reaches b = s.reaches b := by
  unfold State.reaches
  rw [State.validRegion_congr (s := s) (by rw [State.elapse_mem]), (SameData.elapse s t).init]

/-- A block met by a requester that has no operation to answer. -/
theorem State.uncorrectable_reads (hb : b < dramEnd) (hr : s.reaches b = true) {req unit line : Nat} (h5 : 5 ≤ req)
    (hm : (s.now, req, b) ∉ s.mem.met) :
    let v := s.uncorrectable b req unit line
    v.dram = s.dram ∧ b ∈ v.mem.ue ∧ b ∉ v.mem.ce ∧
      v.get Reg.ECC_UE_COUNT = (if s.initRegion (b / regionBytes) then s.get Reg.ECC_UE_COUNT
        else min (s.get Reg.ECC_UE_COUNT + 1) (2 ^ 32 - 1)) ∧
      v.get Reg.ECC_INIT_ERRORS = (if s.initRegion (b / regionBytes) then min (s.get Reg.ECC_INIT_ERRORS + 1) (2 ^ 32 - 1)
        else s.get Reg.ECC_INIT_ERRORS) := by
  have hresponse : ∀ u : State, u.ueResponse b req unit = u := fun u => by
    unfold State.ueResponse
    split <;> first | omega | rfl
  have hframe := State.ueCounted_frame s b req unit line (s.lineWeb unit line)
  have hcounts := State.get_meetUe (s := s.ueMarked b) (b := b) (req := req) (plane := 0) (line := 0xFFFFFFFF) (web := 0) hm
  have heq := State.ueCounted_eq s b req unit line (s.lineWeb unit line)
  rw [if_neg (by omega)] at heq
  obtain ⟨hue, hce, -⟩ := hframe.marks
  intro v
  have hv : v = (s.ueCounted b req unit line (s.lineWeb unit line)).modMem (fun m => { m with
      met := (s.now, req, b) :: m.met.filter (fun x => decide (x.1 = s.now)) }) :=
    (State.uncorrectable_eq hb hr req unit line).trans (hresponse _)
  rw [hv]
  refine ⟨hframe.dram, ?_, ?_, ?_⟩
  · exact hue ▸ (mem_ueMarked s b).1
  · exact hce ▸ (mem_ueMarked s b).2
  · rw [heq]
    exact hcounts

/-! ### The scrubber (R274) -/

theorem State.scrubs_congr (hv : u.mem.valid = s.mem.valid) (hg : ∀ q ∈ [Reg.MEMCTL_RECOVER_FIRST_ACTIVE,
    Reg.MEMCTL_RECOVER_FIRST_REGION, Reg.MEMCTL_RECOVER_COUNT_REGIONS], u.get q = s.get q) (r : Nat) : u.scrubs r = s.scrubs r := by
  simp only [List.forall_mem_cons, List.not_mem_nil, false_imp_iff, implies_true, and_true] at hg
  obtain ⟨ha, hf, hc⟩ := hg
  unfold State.scrubs State.flag
  rw [State.validRegion_congr hv, ha, hf, hc]

theorem State.scrubFrom_congr (hv : u.mem.valid = s.mem.valid) (hg : ∀ q ∈ [Reg.MEMCTL_RECOVER_FIRST_ACTIVE,
    Reg.MEMCTL_RECOVER_FIRST_REGION, Reg.MEMCTL_RECOVER_COUNT_REGIONS], u.get q = s.get q) (a : Nat) :
    u.scrubFrom a = s.scrubFrom a := by
  unfold State.scrubFrom
  rw [hv, State.scrubs_congr hv hg, funext fun r => State.scrubs_congr hv hg r]

/-- The scrubber's read of a block at `a`, which is uncorrectable, corrected or sound. -/
structure Scrubbed (a : Nat) (isBad isCorr : Bool) (s u : State) : Prop where
  dram : u.dram = s.dram
  time : u.time = s.time
  valid : u.mem.valid = s.mem.valid
  recover : ∀ q ∈ [Reg.MEMCTL_RECOVER_FIRST_ACTIVE, Reg.MEMCTL_RECOVER_FIRST_REGION, Reg.MEMCTL_RECOVER_COUNT_REGIONS],
    u.get q = s.get q
  pos : u.get Reg.MEMCTL_SCRUB_POS_REGION = low (Reg.MEMCTL_SCRUB_POS_REGION).w (a / regionBytes)
  marked : isBad = true → a ∈ u.mem.ue
  count : u.get Reg.ECC_CE_COUNT = (if isCorr then min (s.get Reg.ECC_CE_COUNT + 1) (2 ^ 32 - 1) else s.get Reg.ECC_CE_COUNT)
  rewritten : isCorr = true → a ∉ u.mem.ce ∧ a ∉ u.mem.rewrites
  host : isBad = false → isCorr = false → u.host = s.host

theorem Scrubbed.bad (s : State) (a : Nat) {isBad : Bool} (hbad : isBad = true) :
    Scrubbed a isBad false s (((s.set Reg.MEMCTL_SCRUB_POS_REGION (a / regionBytes)).modMem (fun m => { m with
      ue := if a ∈ m.ue then m.ue else m.ue ++ [a] })).meetUe a 10 0 0xFFFFFFFF 0) := by
  subst hbad
  have hin : ∀ m : MemSt, a ∈ (if a ∈ m.ue then m.ue else m.ue ++ [a]) := fun m => by split <;> simp_all
  have hpos : ∀ q : Fld, ((s.set Reg.MEMCTL_SCRUB_POS_REGION (a / regionBytes)).modMem (fun m => { m with
      ue := if a ∈ m.ue then m.ue else m.ue ++ [a] })).get q = (s.set Reg.MEMCTL_SCRUB_POS_REGION (a / regionBytes)).get q :=
    fun _ => rfl
  have hue : a ∈ ((s.set Reg.MEMCTL_SCRUB_POS_REGION (a / regionBytes)).modMem (fun m => { m with
      ue := if a ∈ m.ue then m.ue else m.ue ++ [a] })).mem.ue := hin s.mem
  have hparts : ((s.set Reg.MEMCTL_SCRUB_POS_REGION (a / regionBytes)).modMem (fun m => { m with
      ue := if a ∈ m.ue then m.ue else m.ue ++ [a] })).dram = s.dram ∧
      ((s.set Reg.MEMCTL_SCRUB_POS_REGION (a / regionBytes)).modMem (fun m => { m with
      ue := if a ∈ m.ue then m.ue else m.ue ++ [a] })).time = s.time ∧
      ((s.set Reg.MEMCTL_SCRUB_POS_REGION (a / regionBytes)).modMem (fun m => { m with
      ue := if a ∈ m.ue then m.ue else m.ue ++ [a] })).mem.valid = s.mem.valid := ⟨rfl, rfl, rfl⟩
  generalize (s.set Reg.MEMCTL_SCRUB_POS_REGION (a / regionBytes)).modMem (fun m => { m with
      ue := if a ∈ m.ue then m.ue else m.ue ++ [a] }) = u at hpos hue hparts
  have hframe := ReadFrame.meetUe u a 10 0 0xFFFFFFFF 0
  obtain ⟨hd, ht, hv⟩ := hparts
  refine ⟨hframe.dram.trans hd, ?_, hframe.data.2.1.trans hv, fun q hq => ?_, ?_, fun _ => ?_, ?_, nofun, nofun⟩
  · obtain ⟨_, _, _, _, _, _, h⟩ := hframe.only
    rw [h]; exact ht
  · have hkeys : ∀ q ∈ [Reg.MEMCTL_RECOVER_FIRST_ACTIVE, Reg.MEMCTL_RECOVER_FIRST_REGION, Reg.MEMCTL_RECOVER_COUNT_REGIONS],
        q.key ∉ eventFields ∧ q.key ≠ Reg.ECC_UE_COUNT.key ∧ q.key ≠ Reg.ECC_INIT_ERRORS.key ∧
        q.key ≠ Reg.ECC_UE_LOG_STATUS_OVERFLOW.key ∧ q.key ≠ Reg.MEMCTL_SCRUB_POS_REGION.key := by decide
    obtain ⟨h1, h2, h3, h4, h5⟩ := hkeys q hq
    rw [State.get_meetUe_other h1 h2 h3 h4, hpos, State.get_set_other _ h5]
  · rw [State.get_meetUe_other (by decide) (by decide) (by decide) (by decide), hpos, State.get_set_same]
  · rw [hframe.marks.1]; exact hue
  · rw [State.get_meetUe_other (by decide) (by decide) (by decide) (by decide), hpos, State.get_set_other _ (by decide)]
    rfl

theorem Scrubbed.corrected (s : State) (a : Nat) :
    Scrubbed a false true s (((((s.set Reg.MEMCTL_SCRUB_POS_REGION (a / regionBytes)).incSat Reg.ECC_CE_COUNT 1).set
      Reg.ECC_CE_LAST_LO a).set Reg.ECC_CE_LAST_HI (a / 2 ^ 32)).modMem (fun m => { m with
        ce := m.ce.filter (· != a), rewrites := m.rewrites.filter (· != a), lapCorrected := m.lapCorrected + 1 })) := by
  have hget : ∀ q : Fld, (((((s.set Reg.MEMCTL_SCRUB_POS_REGION (a / regionBytes)).incSat Reg.ECC_CE_COUNT 1).set
      Reg.ECC_CE_LAST_LO a).set Reg.ECC_CE_LAST_HI (a / 2 ^ 32)).modMem (fun m => { m with
        ce := m.ce.filter (· != a), rewrites := m.rewrites.filter (· != a), lapCorrected := m.lapCorrected + 1 })).get q =
      ((((s.set Reg.MEMCTL_SCRUB_POS_REGION (a / regionBytes)).incSat Reg.ECC_CE_COUNT 1).set
      Reg.ECC_CE_LAST_LO a).set Reg.ECC_CE_LAST_HI (a / 2 ^ 32)).get q := fun _ => rfl
  refine ⟨rfl, rfl, rfl, fun q hq => ?_, ?_, nofun, ?_, fun _ => ⟨?_, ?_⟩, nofun⟩
  · have hkeys : ∀ q ∈ [Reg.MEMCTL_RECOVER_FIRST_ACTIVE, Reg.MEMCTL_RECOVER_FIRST_REGION, Reg.MEMCTL_RECOVER_COUNT_REGIONS],
        q.key ≠ Reg.ECC_CE_COUNT.key ∧ q.key ≠ Reg.ECC_CE_LAST_LO.key ∧ q.key ≠ Reg.ECC_CE_LAST_HI.key ∧
        q.key ≠ Reg.MEMCTL_SCRUB_POS_REGION.key := by decide
    obtain ⟨h1, h2, h3, h4⟩ := hkeys q hq
    unfold State.incSat at hget ⊢
    rw [hget, State.get_set_other _ h3, State.get_set_other _ h2, State.get_set_other _ h1, State.get_set_other _ h4]
  · unfold State.incSat at hget ⊢
    rw [hget, State.get_set_other _ (by decide), State.get_set_other _ (by decide), State.get_set_other _ (by decide),
      State.get_set_same]
  · rw [hget, State.get_set_other _ (by decide), State.get_set_other _ (by decide), State.get_incSat_same,
      State.get_set_other _ (by decide)]
    rfl
  · simp [State.modMem]
  · simp [State.modMem]

theorem Scrubbed.sound (s : State) (a : Nat) :
    Scrubbed a false false s (s.set Reg.MEMCTL_SCRUB_POS_REGION (a / regionBytes)) := by
  refine ⟨rfl, rfl, rfl, fun q hq => State.get_set_other _ ?_ _, State.get_set_same .., nofun,
    State.get_set_other _ (by decide) _, nofun, fun _ _ => rfl⟩
  revert q
  decide

theorem State.scrubRead_cases (s : State) (a : Nat) (corrected bad : Bool) :
    Scrubbed a (bad || decide (a ∈ s.mem.ue)) (!(bad || decide (a ∈ s.mem.ue)) && (corrected || decide (a ∈ s.mem.ce))) s
      (s.scrubRead a corrected bad) := by
  unfold State.scrubRead
  dsimp only
  have hmem : (s.set Reg.MEMCTL_SCRUB_POS_REGION (a / regionBytes)).mem = s.mem := rfl
  rw [hmem]
  cases hbad : (bad || decide (a ∈ s.mem.ue)) with
  | true => exact Scrubbed.bad s a rfl
  | false =>
    rw [if_neg Bool.false_ne_true]
    cases hcorr : (corrected || decide (a ∈ s.mem.ce)) with
    | true => exact Scrubbed.corrected s a
    | false => exact Scrubbed.sound s a

/-- What the end of the scrubber's step leaves. -/
structure ScrubMoved (s u : State) : Prop where
  dram : u.dram = s.dram
  marks : u.mem.ue = s.mem.ue ∧ u.mem.ce = s.mem.ce ∧ u.mem.rewrites = s.mem.rewrites
  get : ∀ q ∈ [Reg.MEMCTL_SCRUB_POS_REGION, Reg.ECC_CE_COUNT], u.get q = s.get q

/-- A lap that ends. -/
theorem State.scrubLap_spec (s : State) : ScrubMoved s s.scrubLap ∧ s.scrubLap.mem.scrubNext = 0 ∧
    s.scrubLap.mem.lapStart = s.now ∧ s.scrubLap.mem.lapCorrected = 0 := by
  have hmem : s.scrubLap.mem = { s.mem with scrubNext := 0, lapStart := s.now, lapCorrected := 0 } := State.raise_mem ..
  rw [hmem]
  refine ⟨⟨State.raise_dram .., by rw [hmem]; exact ⟨rfl, rfl, rfl⟩, fun q hq => ?_⟩, rfl, rfl, rfl⟩
  have hkeys : ∀ q ∈ [Reg.MEMCTL_SCRUB_POS_REGION, Reg.ECC_CE_COUNT], q.key ∉ eventFields ∧
      q.key ≠ Reg.MEMCTL_SCRUB_LAP_MS.key := by decide
  obtain ⟨h1, h2⟩ := hkeys q hq
  exact (State.raise_get _ _ _ _ h1).trans (State.get_set_other _ h2 _)

theorem scrubBlock_cases (hl : Live s) (corrected bad : Bool) {a : Nat} (hen : s.flag Reg.MEMCTL_SCRUB_CTRL_EN = true)
    (hinit : s.flag Reg.MEMCTL_MODE_INIT = false) (hcrit : s.critical = false) (ha : s.scrubFrom s.mem.scrubNext = some a) :
    ∃ v, exec (.scrubBlock corrected bad t) s = .next v ∧ v.dram = s.dram ∧
      v.get Reg.MEMCTL_SCRUB_POS_REGION = low (Reg.MEMCTL_SCRUB_POS_REGION).w (a / regionBytes) ∧
      v.mem.scrubNext = (s.scrubFrom (a + 64)).getD 0 ∧
      (s.scrubFrom (a + 64) = none → v.mem.lapStart = (s.elapse t).now ∧ v.mem.lapCorrected = 0) ∧
      (let isBad := bad || decide (a ∈ s.mem.ue)
       let isCorr := !isBad && (corrected || decide (a ∈ s.mem.ce))
       (isBad = true → a ∈ v.mem.ue) ∧
       v.get Reg.ECC_CE_COUNT = (if isCorr then min (s.get Reg.ECC_CE_COUNT + 1) (2 ^ 32 - 1)
         else s.get Reg.ECC_CE_COUNT) ∧
       (isCorr = true → a ∉ v.mem.ce ∧ a ∉ v.mem.rewrites) ∧
       (isBad = false → isCorr = false → s.scrubFrom (a + 64) ≠ none → v.host = s.host)) := by
  have he : exec (.scrubBlock corrected bad t) s = .next ((s.elapse t).scrubBlock corrected bad) := by
    show execScrubBlock corrected bad t s = _
    unfold execScrubBlock
    rw [eventAwake_live hl]
    refine congrArg _ (if_pos ?_)
    rw [State.elapse_flag, State.elapse_flag, State.elapse_critical, hen, hinit, hcrit]
    rfl
  have hfrom : ∀ b, (s.elapse t).scrubFrom b = s.scrubFrom b :=
    State.scrubFrom_congr (by rw [State.elapse_mem]) fun q _ => State.elapse_get s t q
  have hscrubbed := (s.elapse t).scrubRead_cases a corrected bad
  rw [State.elapse_mem] at hscrubbed
  have hblock : (s.elapse t).scrubBlock corrected bad =
      (match s.scrubFrom (a + 64) with
        | some b => ((s.elapse t).scrubRead a corrected bad).modMem (fun m => { m with scrubNext := b })
        | none => ((s.elapse t).scrubRead a corrected bad).scrubLap) := by
    have hnext : ((s.elapse t).scrubRead a corrected bad).scrubFrom (a + 64) = s.scrubFrom (a + 64) :=
      (State.scrubFrom_congr hscrubbed.valid hscrubbed.recover _).trans (hfrom _)
    unfold State.scrubBlock
    rw [State.elapse_mem, hfrom, ha]
    dsimp only
    rw [hnext] <;> rfl
  rw [hblock] at he
  generalize (s.elapse t).scrubRead a corrected bad = x at hscrubbed he
  obtain ⟨hdram, htime, -, -, hpos, hmarked, hcount, hrewritten, hhost⟩ := hscrubbed
  rw [State.elapse_dram] at hdram
  rw [State.elapse_get] at hcount
  rw [State.elapse_host] at hhost
  have hnow : x.now = (s.elapse t).now := congrArg TimeSt.now htime
  refine ⟨_, he, ?_⟩
  cases hnext : s.scrubFrom (a + 64) with
  | some b => exact ⟨hdram, hpos, rfl, nofun, hmarked, hcount, hrewritten, fun h1 h2 _ => hhost h1 h2⟩
  | none =>
    obtain ⟨⟨ld, ⟨lue, lce, lrew⟩, lget⟩, lnext, lstart, lcorr⟩ := x.scrubLap_spec
    refine ⟨ld.trans hdram, (lget _ (by simp)).trans hpos, lnext, fun _ => ⟨lstart.trans hnow, lcorr⟩, ?_, ?_, ?_, ?_⟩
    · rw [lue]; exact hmarked
    · exact (lget _ (by simp)).trans hcount
    · rw [lce, lrew]; exact hrewritten
    · exact fun _ _ h => absurd rfl h

end Sys2Proof.Machine
end

section
/-! SUPPORT. The acknowledgement of a write and of the next block of a fill, and the end of a zero fill. -/

namespace Sys2Proof.Machine

variable {s u v : State} {t c n : Nat}

/-! ### What the queues show -/

theorem State.get_showWrites (s : State) (hc : c < 8) :
    s.showWrites.get (Reg.MEMCTL_CH_STATUS_WRITES c) = min 64 (s.mem.writes.filter (fun w => w.ch == c)).length ∧
    ((s.mem.writes.filter (fun w => w.ch == c)).length ≤ 16 → s.showWrites.get (Reg.MEMCTL_CH_STATUS_DRAIN c) = 0) := by
  unfold State.showWrites
  generalize hg : (fun (s : State) c =>
    let n := (s.mem.writes.filter (fun w => w.ch == c)).length
    let s := s.set (Reg.MEMCTL_CH_STATUS_WRITES c) (min n 64)
    if n ≤ 16 then s.setB (Reg.MEMCTL_CH_STATUS_DRAIN c) false else s) = g
  have hmem : ∀ u d, (g u d).mem = u.mem := fun u d => by
    subst hg; dsimp only; split <;> rfl
  have hother : ∀ u d, d < 8 → d ≠ c → ∀ q : Fld, q = Reg.MEMCTL_CH_STATUS_WRITES c ∨ q = Reg.MEMCTL_CH_STATUS_DRAIN c →
      (g u d).get q = u.get q := fun u d hd hne q hq => by
    have h1 : q.key ≠ (Reg.MEMCTL_CH_STATUS_WRITES d).key := by
      rcases hq with rfl | rfl <;> simp only [Fld.key, Reg.MEMCTL_CH_STATUS_WRITES, Reg.MEMCTL_CH_STATUS_DRAIN] <;> omega
    have h2 : q.key ≠ (Reg.MEMCTL_CH_STATUS_DRAIN d).key := by
      rcases hq with rfl | rfl <;> simp only [Fld.key, Reg.MEMCTL_CH_STATUS_WRITES, Reg.MEMCTL_CH_STATUS_DRAIN] <;> omega
    subst hg
    dsimp only
    split
    · exact (State.get_setB_other _ h2 _).trans (State.get_set_other _ h1 _)
    · exact State.get_set_other _ h1 _
  have hown : ∀ u, (g u c).get (Reg.MEMCTL_CH_STATUS_WRITES c) = min 64 (u.mem.writes.filter (fun w => w.ch == c)).length ∧
      ((u.mem.writes.filter (fun w => w.ch == c)).length ≤ 16 → (g u c).get (Reg.MEMCTL_CH_STATUS_DRAIN c) = 0) := fun u => by
    subst hg
    dsimp only
    generalize (u.mem.writes.filter (fun w => w.ch == c)).length = k
    have hlow : low (Reg.MEMCTL_CH_STATUS_WRITES c).w (min k 64) = min 64 k := by
      rw [Nat.min_comm]
      exact Nat.mod_eq_of_lt (Nat.lt_of_le_of_lt (Nat.min_le_left _ _) (by decide : 64 < 2 ^ 7))
    split
    · rw [State.get_setB_other, State.get_set_same]
      · exact ⟨hlow, fun _ => State.get_set_same ..⟩
      · simp only [Fld.key, Reg.MEMCTL_CH_STATUS_WRITES, Reg.MEMCTL_CH_STATUS_DRAIN]; omega
    · rw [State.get_set_same]
      exact ⟨hlow, fun h => by omega⟩
  clear hg
  have hfold : ∀ n, n ≤ 8 → ((List.range n).foldl g s).mem = s.mem ∧ (c < n →
      ((List.range n).foldl g s).get (Reg.MEMCTL_CH_STATUS_WRITES c) = min 64 (s.mem.writes.filter (fun w => w.ch == c)).length ∧
      ((s.mem.writes.filter (fun w => w.ch == c)).length ≤ 16 →
        ((List.range n).foldl g s).get (Reg.MEMCTL_CH_STATUS_DRAIN c) = 0)) := by
    intro n
    induction n with
    | zero => exact fun _ => ⟨rfl, fun h => absurd h (Nat.not_lt_zero c)⟩
    | succ n ih =>
      intro hn
      obtain ⟨hm, hrest⟩ := ih (by omega)
      rw [List.range_succ, List.foldl_append]
      show (g _ n).mem = _ ∧ (c < n + 1 → (g _ n).get _ = _ ∧ (_ → (g _ n).get _ = 0))
      refine ⟨(hmem _ n).trans hm, fun h => ?_⟩
      by_cases hcn : c = n
      · subst hcn
        have h := hown ((List.range c).foldl g s)
        rwa [hm] at h
      · rw [hother _ n (by omega) (by omega) _ (.inl rfl), hother _ n (by omega) (by omega) _ (.inr rfl)]
        exact hrest (by omega)
  exact (hfold 8 (Nat.le_refl 8)).2 hc

/-! ### The acknowledgement of a queued write -/

/-- The oldest write of a channel with no read-modify-write, no zero fill and no burst under way. -/
theorem State.commitOldest_plain {w : WReq} (hc : c < 8) (hf : s.mem.filling = []) (hidle : ∀ m, m < 32 → (s.dmaCh m).flight = [])
    (hfind : s.mem.writes.find? (fun w => w.ch == c) = some w) (hw : w.rmw = false) :
    (∃ q r j, s.commitOldest c = { s with ports := q, regs := r, just := j, mem := { s.mem with writes := s.mem.writes.erase w } }) ∧
    (s.commitOldest c).get (Reg.MEMCTL_CH_STATUS_WRITES c) =
      min 64 ((s.mem.writes.erase w).filter (fun w => w.ch == c)).length ∧
    (((s.mem.writes.erase w).filter (fun w => w.ch == c)).length ≤ 16 →
      (s.commitOldest c).get (Reg.MEMCTL_CH_STATUS_DRAIN c) = 0) := by
  obtain ⟨q, hq⟩ := State.commitWrite_plain (s := { s with mem := { s.mem with writes := s.mem.writes.erase w } }) hf hw
  have hold : s.commitOldest c =
      (State.showWrites { s with ports := q, mem := { s.mem with writes := s.mem.writes.erase w } }).dmaAcked := by
    unfold State.commitOldest
    rw [hfind]
    dsimp only
    rw [hq]
  obtain ⟨⟨r, j, hshow⟩, -⟩ := State.showWrites_keeps { s with ports := q, mem := { s.mem with writes := s.mem.writes.erase w } }
  rw [State.dmaAcked_idle (by rw [hshow]; exact hidle)] at hold
  rw [hold]
  exact ⟨⟨q, r, j, hshow⟩, State.get_showWrites _ hc⟩

theorem exec_memWriteAck (hl : Live s) (ch : Fin 8) : exec (.memWriteAck ch t) s =
    .next (if s.mem.writes.any (fun w => w.ch == (ch : Nat)) then (s.elapse t).commitOldest ch else (s.elapse t).fillBlock ch) := by
  show execMemWriteAck ch t s = _
  unfold execMemWriteAck
  rw [eventAwake_live hl]
  unfold State.writeAck
  rw [State.elapse_mem]

theorem exec_memWriteAck_none (hl : Live s) (ch : Fin 8) (hn : s.mem.writes.find? (fun w => w.ch == (ch : Nat)) = none) :
    exec (.memWriteAck ch t) s = .next ((s.elapse t).fillBlock ch) := by
  rw [exec_memWriteAck hl, if_neg]
  simpa [List.find?_eq_none] using hn

theorem memWriteAck_idle (hl : Live s) (ch : Fin 8) (hn : s.mem.writes.find? (fun w => w.ch == (ch : Nat)) = none)
    (hf : s.mem.fills = []) : exec (.memWriteAck ch t) s = .next (s.elapse t) := by
  rw [exec_memWriteAck_none hl ch hn]
  unfold State.fillBlock
  rw [State.elapse_mem, hf]

theorem memWriteAck_oldest (hl : Live s) (ch : Fin 8) (hf : s.mem.filling = []) (hidle : ∀ m, m < 32 → (s.dmaCh m).flight = [])
    (hw : ∀ w ∈ s.mem.writes, w.rmw = false) {w : WReq} (hfind : s.mem.writes.find? (fun w => w.ch == (ch : Nat)) = some w) :
    ∃ v, exec (.memWriteAck ch t) s = .next v ∧ v.mem.writes = s.mem.writes.erase w ∧ v.dram = s.dram ∧
      v.get (Reg.MEMCTL_CH_STATUS_WRITES ch) = min 64 ((s.mem.writes.erase w).filter (fun w => w.ch == (ch : Nat))).length ∧
      (((s.mem.writes.erase w).filter (fun w => w.ch == (ch : Nat))).length ≤ 16 →
        v.get (Reg.MEMCTL_CH_STATUS_DRAIN ch) = 0) := by
  have hmem := State.elapse_mem s t
  have hany : s.mem.writes.any (fun w => w.ch == (ch : Nat)) = true :=
    List.any_eq_true.2 ⟨w, List.mem_of_find?_eq_some hfind,
      List.find?_some (p := fun w : WReq => w.ch == (ch : Nat)) hfind⟩
  obtain ⟨⟨q, r, j, hv⟩, hget⟩ := State.commitOldest_plain (s := s.elapse t) ch.isLt (by rw [hmem]; exact hf)
    (fun m hm => by unfold State.dmaCh; rw [State.elapse_dma]; exact hidle m hm) (by rw [hmem]; exact hfind)
    (hw w (List.mem_of_find?_eq_some hfind))
  rw [hmem] at hget
  refine ⟨_, (exec_memWriteAck hl ch).trans (congrArg _ (if_pos hany)), ?_, ?_, hget⟩
  · rw [hv, hmem]
  · rw [hv]
    exact State.elapse_dram s t

/-! ### The next block of a fill -/

theorem piecesOf_block {a : Nat} {bs : List Byte} (ha : a % 64 = 0) (hl : bs.length = 64) : piecesOf 64 a bs = [(a, bs)] := by
  have hne : bs.isEmpty = false := by cases bs with | nil => simp at hl | cons => rfl
  have htake : bs.take (64 - a % 64) = bs := by rw [ha]; exact List.take_of_length_le (by omega)
  have hdrop : bs.drop (64 - a % 64) = [] := by rw [ha]; exact List.drop_of_length_le (by omega)
  unfold piecesOf
  rw [hne, if_neg Bool.false_ne_true, htake, hdrop]
  rfl

/-- The block that a fill writes next. -/
abbrev MemFill.block (f : MemFill) : Nat × List Byte := (f.addr + f.done, patternBytes 16 f.pattern)

/-- A block written to a valid region while no region is being filled. -/
theorem State.fillMore_block {f : MemFill} (hf : s.mem.filling = []) (ha : (f.addr + f.done) % 64 = 0)
    (hv : s.validRegion ((f.addr + f.done) / regionBytes) = true) :
    ∃ r j, s.fillMore f 64 = { s.storePiece f.block with regs := r, just := j, mem := { (s.storePiece f.block).mem with
      writes := s.mem.writes ++ [reqOf true f.block] } } := by
  have hlen : (patternBytes 16 f.pattern).length = 64 := length_patternBytes 16 f.pattern
  have hfilling := State.filling_storePiece s f.block
  have hwrite : s.writeMem true (f.addr + f.done) (patternBytes 16 f.pattern) =
      ((s.storePiece f.block).queueReqs [reqOf true f.block], []) := by
    unfold State.writeMem
    dsimp only
    rw [hlen, piecesOf_block ha hlen]
    unfold State.writePieces
    dsimp only
    rw [State.writePiece_stores (wholeBlock_iff.2 ⟨ha, hlen⟩) (.inr hv)]
    rfl
  unfold State.fillMore
  rw [show 64 / 4 = 16 from rfl, hwrite, ← State.writes_storePiece s f.block]
  generalize s.storePiece f.block = u at hfilling
  obtain ⟨r, j, hshow⟩ := State.showQueues_keeps { u with mem := { u.mem with
    writes := u.mem.writes ++ [reqOf true f.block] } }
  refine ⟨r, j, ?_⟩
  unfold State.queueReqs
  dsimp only
  rw [hshow]
  exact State.waitFills_none (by rw [← hf, ← hfilling]) _ _

theorem memWriteAck_block (hl : Live s) (ch : Fin 8) (hf : s.mem.filling = []) (hidle : ∀ m, m < 32 → (s.dmaCh m).flight = [])
    {m : MemFill} {l : List MemFill} (hnone : s.mem.writes.find? (fun w => w.ch == (ch : Nat)) = none)
    (hfills : s.mem.fills = m :: l) (hlt : m.done < m.len) (ha : (m.addr + m.done) % 64 = 0)
    (hch : channelOf (m.addr + m.done) = ch) (hv : s.validRegion ((m.addr + m.done) / regionBytes) = true) :
    ∃ v, exec (.memWriteAck ch t) s = .next v ∧ v.mem.fills = { m with done := m.done + 64 } :: l ∧
      v.mem.writes = s.mem.writes ∧ v.host = s.host ∧
      (∀ i < 64, v.byteAt (m.addr + m.done + i) = (leBytes 4 m.pattern).getD (i % 4) 0) ∧
      (∀ x, (x < m.addr + m.done ∨ m.addr + m.done + 64 ≤ x) → Sparse.get 0 v.dram x = Sparse.get 0 s.dram x) := by
  have hmem := State.elapse_mem s t
  have hvalid : ∀ r, (s.elapse t).validRegion r = s.validRegion r := State.validRegion_congr (by rw [hmem])
  have hlen : (patternBytes 16 m.pattern).length = 64 := length_patternBytes 16 m.pattern
  have hwhole : wholeBlock m.block = true := wholeBlock_iff.2 ⟨ha, hlen⟩
  have hstored := State.storePiece_whole (s := s.elapse t) hwhole
  have hframe := StoreFrame.storePiece (s.elapse t) m.block
  obtain ⟨r, j, hfill⟩ := State.fillMore_block (s := s.elapse t) (f := m) (by rw [hmem]; exact hf) ha (by rw [hvalid]; exact hv)
  have hstores : (s.elapse t).stores ((m.addr + m.done) / regionBytes) := .inr (by rw [hvalid]; exact hv)
  have he := exec_memWriteAck_none (t := t) hl ch hnone
  have hblock : (s.elapse t).fillBlock ch = (((s.elapse t).fillMore m 64).modMem (fun x => { x with
      fills := { m with done := m.done + 64 } :: l })).commitOldest ch := by
    unfold State.fillBlock
    rw [hmem, hfills]
    exact if_pos ⟨hlt, hch⟩
  rw [hblock, hfill] at he
  have hhost := hframe.host.trans (State.elapse_host s t)
  have hdma := hframe.dma.trans (State.elapse_dma s t)
  have hdram := State.elapse_dram s t
  have hfilling := hstored.filling
  rw [hmem] at he hfilling
  generalize (s.elapse t).storePiece m.block = u at *
  have hfind : (s.mem.writes ++ [reqOf true m.block]).find? (fun w => w.ch == (ch : Nat)) = some (reqOf true m.block) := by
    have hown : ((reqOf true m.block).ch == (ch : Nat)) = true := beq_iff_eq.2 hch
    rw [List.find?_append, hnone]
    simp [hown]
  have herase : (s.mem.writes ++ [reqOf true m.block]).erase (reqOf true m.block) = s.mem.writes := by
    have hnot : reqOf true m.block ∉ s.mem.writes := fun hin => by
      have hno := List.find?_eq_none.1 hnone _ hin
      exact hno (beq_iff_eq.2 hch)
    rw [List.erase_append_right _ hnot]
    simp
  generalize hx : State.modMem { u with regs := r, just := j, mem := { u.mem with
    writes := s.mem.writes ++ [reqOf true m.block] } } (fun x => { x with fills := { m with done := m.done + 64 } :: l }) = x at he
  have hxparts : x.dram = u.dram ∧ x.mem = { u.mem with
      writes := s.mem.writes ++ [reqOf true m.block], fills := { m with done := m.done + 64 } :: l } ∧ x.host = u.host ∧ x.dma = u.dma := by
    subst hx
    exact ⟨rfl, rfl, rfl, rfl⟩
  obtain ⟨hxd, hxm, hxh, hxa⟩ := hxparts
  obtain ⟨⟨q, r', j', hv'⟩, -⟩ := State.commitOldest_plain (s := x) ch.isLt (by rw [hxm]; exact hfilling.trans hf)
    (fun k hk => by unfold State.dmaCh; rw [hxa, hdma]; exact hidle k hk) (by rw [hxm]; exact hfind) rfl
  rw [hxm, herase] at hv'
  refine ⟨_, he, ?_, ?_, ?_, fun i hi => ?_, fun y hy => ?_⟩
  · rw [hv']
  · rw [hv']
  · rw [hv']
    exact hxh.trans hhost
  · have hshows : u.shows (m.addr + m.done + i) ((patternBytes 16 m.pattern).getD i 0) := by
      refine hstored.shows_own hwhole ⟨by simp, by simp only; omega⟩ (fun _ => by simp) ?_
      rwa [show (m.addr + m.done + i) / regionBytes = (m.addr + m.done) / regionBytes by simp only [regionBytes]; omega]
    rw [← getD_patternBytes m.pattern 16 i (by omega)]
    refine (hshows.congr ?_ ?_ ?_).byteAt
    · rw [hv']; exact hxd
    · rw [hv']
    · rw [hv']
  · rw [hv']
    show Sparse.get 0 x.dram y = _
    rw [hxd, hstored.get_other (by simp only [covers]; omega), hdram]

end Sys2Proof.Machine
end

section
/-! The events of the memory (O49). -/

namespace Sys2Proof.Machine

variable {s u v : State} {t a : Nat} {p : Nat × List Byte}

/-! ### The end of a zero fill (R269) -/

/-- A piece stored outside initialisation mode. -/
structure StoredPlain (p : Nat × List Byte) (s u : State) : Prop where
  dram : u.dram = Sparse.putRange (fun _ => 0) s.dram p.1 p.2
  valid : u.mem.valid = s.mem.valid
  defined : ∀ x, s.definedByte x = true → u.definedByte x = true
  queues : u.mem.filling = s.mem.filling ∧ u.mem.held = s.mem.held
  regs : u.regs = s.regs

theorem State.storePiece_plain (hi : s.initRegion (p.1 / regionBytes) = false) : StoredPlain p s (s.storePiece p) := by
  have hparts : ∀ v : State, v.regs = s.regs → v.dram = s.dram → v.mem.undef = s.mem.undef → v.mem.valid = s.mem.valid →
      v.mem.filling = s.mem.filling → v.mem.held = s.mem.held →
      StoredPlain p s ((v.define p.1 p.2.length).putBytes p.1 p.2) := fun v hr hd hu hv hf hh =>
    ⟨congrArg (Sparse.putRange _ · p.1 p.2) hd, hv, fun x hx => by
      have hdefined : v.definedByte x = s.definedByte x := by rw [State.definedByte, hu]; rfl
      exact (State.definedByte_define v p.1 p.2.length x).trans (by rw [hdefined, hx, Bool.or_true]), ⟨hf, hh⟩, hr⟩
  unfold State.storePiece
  dsimp only
  rw [hi, if_neg Bool.false_ne_true, hi, if_neg Bool.false_ne_true]
  split
  · exact hparts _ rfl rfl rfl rfl rfl rfl
  · exact hparts _ rfl rfl rfl rfl rfl rfl

/-- The byte at `a` that a write held back gives it, over the byte before. -/
abbrev HeldWrite.byteOver (a : Nat) (b : Byte) (h : HeldWrite) : Byte :=
  if h.addr ≤ a ∧ a < h.addr + h.data.length then h.data.getD (a - h.addr) 0 else b

theorem StoredPlain.get {h : HeldWrite} (k : StoredPlain h.piece s u) :
    Sparse.get 0 u.dram a = HeldWrite.byteOver a (Sparse.get 0 s.dram a) h := by
  rw [k.dram]
  unfold HeldWrite.byteOver
  split
  next hin =>
    have hget : h.data[a - h.addr]? = some (h.data.getD (a - h.addr) 0) := by
      rw [List.getD_eq_getElem?_getD, List.getElem?_eq_getElem (by omega)]
      rfl
    have hput := Sparse.get_putRange_same (fun _ => (0 : Byte)) s.dram h.addr hget
    rwa [Nat.add_sub_cancel' hin.1] at hput
  next hout => exact Sparse.get_putRange_other (fun _ => (0 : Byte)) s.dram h.addr h.data (by omega)

/-- What the writes held back for a region leave in it, stored in their order. -/
theorem storedHeld {r : Nat} (l : List HeldWrite) (hl : ∀ h ∈ l, h.addr % 64 + h.data.length ≤ 64) (s : State)
    (hi : s.initRegion r = false) :
    let u := (l.filter (fun h => h.addr / regionBytes == r)).foldl (fun s h => s.storePiece h.piece) s
    u.regs = s.regs ∧ u.mem.valid = s.mem.valid ∧ u.mem.filling = s.mem.filling ∧ u.mem.held = s.mem.held ∧
      (∀ x, s.definedByte x = true → u.definedByte x = true) ∧
      (∀ a, a / regionBytes = r → Sparse.get 0 u.dram a = l.foldl (HeldWrite.byteOver a) (Sparse.get 0 s.dram a)) ∧
      (∀ a, a / regionBytes ≠ r → Sparse.get 0 u.dram a = Sparse.get 0 s.dram a) := by
  induction l generalizing s with
  | nil => exact ⟨rfl, rfl, rfl, rfl, fun _ h => h, fun _ _ => rfl, fun _ _ => rfl⟩
  | cons h l ih =>
    rw [List.forall_mem_cons] at hl
    obtain ⟨hfits, hl⟩ := hl
    by_cases hr : h.addr / regionBytes = r
    · have hplain := State.storePiece_plain (p := h.piece) (s := s) (by rw [show h.piece.1 = h.addr from rfl, hr]; exact hi)
      have hinit : (s.storePiece h.piece).initRegion r = false :=
        (State.initRegion_congr (fun f _ _ _ => by unfold State.get; rw [hplain.regs]) r).trans hi
      obtain ⟨hregs, hvalid, hfilling, hheld, hdef, hin, hout⟩ := ih hl (s.storePiece h.piece) hinit
      rw [List.filter_cons_of_pos (by simpa using hr)]
      refine ⟨hregs.trans hplain.regs, hvalid.trans hplain.valid, hfilling.trans hplain.queues.1, hheld.trans hplain.queues.2,
        fun x hx => hdef x (hplain.defined x hx), fun a ha => ?_, fun a ha => ?_⟩
      · show _ = l.foldl (HeldWrite.byteOver a) (HeldWrite.byteOver a (Sparse.get 0 s.dram a) h)
        rw [← hplain.get]
        exact hin a ha
      · refine (hout a ha).trans (hplain.get.trans (if_neg fun hcov => ha ?_))
        rw [← hr]
        simp only [regionBytes]; omega
    · obtain ⟨hregs, hvalid, hfilling, hheld, hdef, hin, hout⟩ := ih hl s hi
      rw [List.filter_cons_of_neg (by simpa using hr)]
      refine ⟨hregs, hvalid, hfilling, hheld, hdef, fun a ha => ?_, hout⟩
      have hno : HeldWrite.byteOver a (Sparse.get 0 s.dram a) h = Sparse.get 0 s.dram a := if_neg fun hcov => hr (by
        rw [← ha]
        simp only [regionBytes]; omega)
      rw [List.foldl_cons, hno]
      exact hin a ha

theorem exec_zeroFillDone (hl : Live s) (r : Nat) : exec (.zeroFillDone r t) s = .next ((s.elapse t).finishFill r) := by
  show execZeroFillDone r t s = _
  unfold execZeroFillDone
  exact eventAwake_live hl

theorem zeroFillDone_idle (hl : Live s) {r : Nat} (hr : r ∉ s.mem.filling) : exec (.zeroFillDone r t) s = .next (s.elapse t) := by
  rw [exec_zeroFillDone hl]
  exact congrArg _ (if_neg (by rw [State.elapse_mem]; exact hr))

theorem zeroFillDone_region (hl : Live s) {r : Nat} (hr : r ∈ s.mem.filling) (hi : s.initRegion r = false)
    (hfits : ∀ h ∈ s.mem.held, h.addr % 64 + h.data.length ≤ 64) :
    ∃ v, exec (.zeroFillDone r t) s = .next v ∧ v.validRegion r = true ∧ r ∉ v.mem.filling ∧
      v.mem.held = s.mem.held.filter (fun h => h.addr / regionBytes != r) ∧
      v.get Reg.MEMCTL_FILLS_COUNT = low 32 (s.get Reg.MEMCTL_FILLS_COUNT + 1) ∧
      (∀ a, a / regionBytes = r → v.byteAt a = s.mem.held.foldl (HeldWrite.byteOver a) 0) ∧
      (∀ a, a / regionBytes ≠ r → Sparse.get 0 v.dram a = Sparse.get 0 s.dram a) := by
  have hmem := State.elapse_mem s t
  have he := exec_zeroFillDone (t := t) hl r
  rw [State.finishFill_eq (by rw [hmem]; exact hr), hmem] at he
  have hdram := State.elapse_dram s t
  have hget := State.elapse_get s t Reg.MEMCTL_FILLS_COUNT
  have hinit : (s.elapse t).initRegion r = false := ((SameData.elapse s t).init r).trans hi
  generalize s.elapse t = u at hmem he hdram hget hinit
  have hzinit : (u.zeroed r).initRegion r = false := by
    refine Eq.trans ?_ hinit
    show ((u.setValid r true).inc Reg.MEMCTL_FILLS_COUNT).initRegion r = _
    exact State.initRegion_set (u.setValid r true) (by decide) _ r
  have hzfilling : (u.zeroed r).mem.filling = u.mem.filling.filter (· != r) := rfl
  have hzheld : (u.zeroed r).mem.held = u.mem.held.filter (fun h => h.addr / regionBytes != r) := rfl
  have hzcount : (u.zeroed r).get Reg.MEMCTL_FILLS_COUNT = low 32 (u.get Reg.MEMCTL_FILLS_COUNT + 1) :=
    State.get_set_same (u.setValid r true) _ _
  have hzvalid := State.zeroed_valid_same u r
  have hzdefined : ∀ a, a / regionBytes = r → (u.zeroed r).definedByte a = true := fun a ha => by
    have hundef : (u.zeroed r).mem.undef = cutRanges (r * regionBytes) (r * regionBytes + regionBytes) u.mem.undef := by
      simp [State.zeroed, State.zeroFill, State.setValid]
    have hin : r * regionBytes ≤ a ∧ a < r * regionBytes + regionBytes := by simp only [regionBytes] at ha ⊢; omega
    rw [State.definedByte, hundef, all_cutRanges, decide_eq_true hin, Bool.true_or]
  have hzero : ∀ a, a / regionBytes = r → Sparse.get 0 (u.zeroed r).dram a = 0 := fun a ha =>
    Sparse.get_dropRange_same (by simp only [regionBytes] at ha ⊢; omega) (by simp only [regionBytes] at ha ⊢; omega)
  have hzother : ∀ a, a / regionBytes ≠ r → Sparse.get 0 (u.zeroed r).dram a = Sparse.get 0 u.dram a := fun a ha =>
    (State.zeroed_other (b := 0) ha).1
  obtain ⟨hregs, hvalid, hfilling, hheld, hdef, hin, hout⟩ := storedHeld (r := r) s.mem.held hfits (u.zeroed r) hzinit
  generalize (s.mem.held.filter (fun h => h.addr / regionBytes == r)).foldl (fun s h => s.storePiece h.piece) (u.zeroed r) = v
    at he hregs hvalid hfilling hheld hdef hin hout
  have hvr : v.validRegion r = true := (State.validRegion_congr hvalid r).trans hzvalid
  refine ⟨v, he, hvr, ?_, ?_, ?_, fun a ha => ?_, fun a ha => ?_⟩
  · rw [hfilling, hzfilling]
    simp
  · rw [hheld, hzheld, hmem]
  · rw [← hget, ← hzcount]
    unfold State.get
    rw [hregs]
  · have hshows : v.shows a (s.mem.held.foldl (HeldWrite.byteOver a) 0) :=
      ⟨by rw [ha]; exact hvr, hdef a (hzdefined a ha), by rw [hin a ha, hzero a ha]⟩
    exact hshows.byteAt
  · rw [hout a ha, hzother a ha, hdram]

/-! ### Blocks that no read reaches -/

theorem memoryRead_unreached (hl : Live s) {addr : Nat} (h : dramEnd ≤ blockOf addr ∨ s.reaches (blockOf addr) = false) :
    exec (.correctedRead addr t) s = .next (s.elapse t) ∧
    ∀ req plane line, exec (.uncorrectableRead addr req plane line t) s = .next (s.elapse t) := by
  have hno : ¬(blockOf addr < dramEnd ∧ (s.elapse t).reaches (blockOf addr) = true) := by
    rw [State.reaches_elapse]
    rintro ⟨h1, h2⟩
    rcases h with h | h
    · omega
    · rw [h] at h2; cases h2
  refine ⟨?_, fun req plane line => ?_⟩
  · show execCorrectedRead addr t s = _
    unfold execCorrectedRead
    rw [eventAwake_live hl]
    exact congrArg _ (if_neg hno)
  · rw [exec_uncorrectableRead hl]
    exact congrArg _ (if_neg hno)

/-- Settles O49: the write queues, the zero fill, the errors and the scrubber by their lemmas. -/
theorem memoryEventsComplete : Obligations.MemoryEventsComplete := by
  unfold Obligations.MemoryEventsComplete
  intro t s hl _
  refine ⟨fun ch => ⟨exec_memWriteAck hl ch, memWriteAck_idle hl ch, fun hf hidle hw => ⟨fun w hfind =>
      memWriteAck_oldest hl ch hf hidle hw hfind, fun m l hnone hfills hlt ha hch hv =>
      memWriteAck_block hl ch hf hidle hnone hfills hlt ha hch hv⟩⟩,
    fun r => ⟨zeroFillDone_idle hl, fun hr hi hfits => zeroFillDone_region hl hr hi hfits⟩,
    fun addr => ⟨fun hb hr => ⟨correctedRead_cases hl addr hb hr, fun req unit line => ?_, fun req unit line h5 hm => ?_⟩,
      memoryRead_unreached hl, exec_scrubRewrite hl addr⟩,
    fun corrected bad a hen hinit hcrit ha => scrubBlock_cases hl corrected bad hen hinit hcrit ha⟩
  · have hr' : (s.elapse t).reaches (blockOf addr) = true := (State.reaches_elapse s t _).trans hr
    have hmet : (s.elapse t).mem.met = s.mem.met := congrArg MemSt.met (State.elapse_mem s t)
    have hinit := (SameData.elapse s t).init (blockOf addr / regionBytes)
    have hweb := State.lineWeb_elapse s t unit line
    rw [exec_uncorrectableRead hl, State.uncorrectable_eq hb hr', State.ueCounted, hmet, hinit, hweb]
    intro w w'
    rfl
  · have hr' : (s.elapse t).reaches (blockOf addr) = true := (State.reaches_elapse s t _).trans hr
    have hm' : ((s.elapse t).now, req, blockOf addr) ∉ (s.elapse t).mem.met := by rw [State.elapse_mem]; exact hm
    obtain ⟨hd, hue, hce, hcount, hinits⟩ := State.uncorrectable_reads hb hr' (unit := unit) (line := line) h5 hm'
    rw [(SameData.elapse s t).init, State.elapse_get] at hcount hinits
    exact ⟨_, exec_uncorrectableRead hl addr req unit line, hd.trans (State.elapse_dram s t), hue, hce, hcount, hinits⟩

end Sys2Proof.Machine
end

section
/-! The DMA engine (O47): a level request is read when the burst starts. -/

namespace Sys2Proof.Machine

/-- At instant 0, channel 0 runs a transfer that GPIO pin 0 requests, and the pulse of compare unit 0 on that pin ends at
instant 1. -/
def pulseRequested : State :=
  let s := dmaOn (on [(Reg.ENC_CMP_CTRL_PULSE_EN 0, 1), (Reg.ENC_CMP_CTRL_PULSE_TARGET 0, 0)]) 0
    (wordsOf (leBytes 8 0 ++ leBytes 8 4096 ++ leBytes 8 128 ++ leBytes 4 (2 ^ 8 + 2 ^ 16) ++ leBytes 4 0)) []
  { s with cmps := modAt (fun c => { c with pulseEnd := some 1 }) 0 s.cmps }

/-- The request stands at instant 0, and no longer at instant 1. -/
theorem pulseRequested_mayStart : pulseRequested.dmaMayStart 0 false = true ∧
    (pulseRequested.elapse 1).dmaMayStart 0 false = false := by
  and_intros <;> decide

theorem exec_dmaBurstStart_barred {s : State} {t : Nat} {ch : Fin 32} {pin : Bool} (hl : Live s)
    (h : (s.elapse t).dmaMayStart ch pin = false) : exec (.dmaBurstStart ch pin t) s = .next (s.elapse t) := by
  show execDmaBurstStart ch pin t s = _
  unfold execDmaBurstStart
  rw [eventAwake_live hl, h, State.when_false]

/-- Refutes O47: whether a burst may start is asked of the state before time passes, but a request by a level is read at
the instant of the row. Where the pulse that requests the transfer ends in between, no burst comes. -/
theorem not_dmaEventsComplete : ¬ Obligations.DmaEventsComplete := by
  unfold Obligations.DmaEventsComplete
  intro h
  obtain ⟨hstart, -⟩ := h 0 1 pulseRequested (by decide) (by decide) (by decide) (by decide)
  obtain ⟨⟨v, he, hnext, -⟩, -⟩ := hstart false pulseRequested_mayStart.1
  rw [exec_dmaBurstStart_barred (by decide) pulseRequested_mayStart.2] at he
  cases he
  exact absurd hnext (by decide)

end Sys2Proof.Machine
end

section
/-! SUPPORT. The line of a lane and what undoes it: stuffing, the marker in front, the scrambler (R348, R349, R351). -/

namespace Sys2Proof.Machine

/-- Destuffing undoes stuffing, and goes on behind it with no bit to drop. -/
theorem destuff_stuff (bs rest : List Bool) (last : Option Bool) (run : Nat) : ∃ l r,
    (destuff last run false (stuff last run bs ++ rest)).1 = bs ++ (destuff l r false rest).1 := by
  induction bs generalizing last run with
  | nil => exact ⟨last, run, rfl⟩
  | cons b bs ih =>
    simp only [stuff]
    by_cases hn : (if last = some b then run + 1 else 1) = 31
    · obtain ⟨l, r, h⟩ := ih (some !b) 1
      refine ⟨l, r, ?_⟩
      simp [destuff, hn, h]
    · obtain ⟨l, r, h⟩ := ih (some b) (if last = some b then run + 1 else 1)
      refine ⟨l, r, ?_⟩
      simp [destuff, hn, h, beq_eq_false_iff_ne.2 hn]

/-- The scrambler is its own inverse. -/
theorem scramble_scramble (bs : List Bool) (x : Nat) : scramble x (scramble x bs) = bs := by
  induction bs generalizing x with
  | nil => rfl
  | cons b bs ih => simp [scramble, ih]

theorem scramble_length (bs : List Bool) (x : Nat) : (scramble x bs).length = bs.length := by
  induction bs generalizing x with
  | nil => rfl
  | cons b bs ih => simp [scramble, ih]

theorem bit_succ (m i : Nat) : bit m (i + 1) = bit (m / 2) i := by
  simp only [bit, Nat.div_div_eq_div_mul, Nat.pow_succ']

theorem foldr_lsbBits (n m : Nat) : (lsbBits n m).foldr (fun b x => b.toNat + 2 * x) 0 = m % 2 ^ n := by
  induction n generalizing m with
  | zero => simp [lsbBits, Nat.mod_one]
  | succ n ih =>
    have htail : (List.range n).map (bit m ∘ Nat.succ) = lsbBits n (m / 2) :=
      List.map_congr_left fun i _ => bit_succ m i
    have hbit : (bit m 0).toNat = m % 2 := by
      rcases Nat.mod_two_eq_zero_or_one m with h | h <;> simp [bit, h]
    rw [lsbBits, List.range_succ_eq_map, List.map_cons, List.map_map, htail, List.foldr_cons, ih, hbit,
      Nat.pow_succ', Nat.mod_mul]

theorem takeMarker_lsbBits {m : Nat} (hm : m < 2 ^ 64) (l : List Bool) : takeMarker (lsbBits 64 m ++ l) = (m, l) := by
  have hlen : (lsbBits 64 m).length = 64 := by simp [lsbBits]
  rw [takeMarker, List.take_left' hlen, List.drop_left' hlen, foldr_lsbBits, Nat.mod_eq_of_lt hm]

theorem seekMarker_here (n pad : Nat) {bs : List Bool} (h : bits (takeMarker bs).1 0 24 = markerSync) :
    seekMarker (n + 1) pad bs = some (pad, takeMarker bs) := by
  cases bs <;> exact if_pos h

/-- The receiver reads from a line the marker and the payload that it was formed from (R348). -/
theorem readBlock_stuff (last : Option Bool) (run : Nat) {marker seed : Nat} {payload : List Bool} (pad : List Bool)
    (hm : marker < 2 ^ 64) (hsync : bits marker 0 24 = markerSync) (hseed : bits marker 32 31 = seed)
    (hlen : payload.length = blockBits) :
    readBlock last run (stuff last run (lsbBits 64 marker ++ scramble seed payload) ++ pad) = some (marker, payload) := by
  obtain ⟨l, r, hline⟩ := destuff_stuff (lsbBits 64 marker ++ scramble seed payload) pad last run
  rw [List.append_assoc] at hline
  have hseek : seekMarker (padLimit + 1) 0 (destuff last run false (stuff last run (lsbBits 64 marker ++ scramble seed payload) ++ pad)).1 =
      some (0, marker, scramble seed payload ++ (destuff l r false pad).1) := by
    rw [hline, seekMarker_here, takeMarker_lsbBits hm]
    rwa [takeMarker_lsbBits hm]
  rw [readBlock, hseek, Option.map_some, hseed, List.take_left' ((scramble_length payload seed).trans hlen), scramble_scramble]

end Sys2Proof.Machine
end

section
/-! SUPPORT. Which registers the fall of a port touches, and what is left of the port. -/

namespace Sys2Proof.Machine

variable {s u v : State} {p : Nat} {P Q : Nat → Prop}

/-- A status flag of a lane: lock, polarity, SEEN, IDLE_NEXT and activity. -/
def Fld.laneFlag (f : Fld) : Prop := ∃ l < 16, ∃ j < 6, f = ⟨0x190800 + 64 * l, j, 1, .ro, 0, false⟩

/-- Keys of the status flags of the lanes of port `p`. -/
def laneKey (p k : Nat) : Prop := ∃ l j, l / 4 = p ∧ j < 6 ∧ k = (0x190800 + 64 * l) * 32 + j

/-- Keys that a port's phase, masks and counts of going down have. -/
def portKey (p k : Nat) : Prop := ∃ j < 32, j ∉ [2, 3, 4, 5] ∧ (k = (0x190008 + 256 * p) * 32 + j ∨ k = (0x190010 + 256 * p) * 32 + j)

/-- What a port is in, and since when it waits for an answer to its burst. -/
def Port.stand (q : Port) : PortPhase × Option Nat := (q.phase, q.burstAt)

/-- Only registers with keys in `P` are touched, a lane's flags are cleared and never set, and every port stands as it stood. -/
structure Touches (P : Nat → Prop) (s u : State) : Prop where
  get : ∀ f : Fld, ¬P f.key → u.get f = s.get f
  low : ∀ f : Fld, f.laneFlag → s.get f = 0 → u.get f = 0
  length : u.ports.length = s.ports.length
  stand : ∀ q, (u.port q).stand = (s.port q).stand

namespace Touches

theorem refl (s : State) : Touches P s s := ⟨fun _ _ => rfl, fun _ _ h => h, rfl, fun _ => rfl⟩

theorem trans (h : Touches P s u) (k : Touches P u v) : Touches P s v := by
  obtain ⟨hg, hl, hn, hs⟩ := h
  obtain ⟨kg, kl, kn, ks⟩ := k
  exact ⟨fun f hf => (kg f hf).trans (hg f hf), fun f hf h => kl f hf (hl f hf h), kn.trans hn, fun q => (ks q).trans (hs q)⟩

theorem mono (h : Touches P s u) (hPQ : ∀ k, P k → Q k) : Touches Q s u :=
  ⟨fun f hf => h.get f fun hp => hf (hPQ _ hp), h.low, h.length, h.stand⟩

/-- A change of neither registers nor ports. -/
theorem same (hr : u.regs = s.regs) (hp : u.ports = s.ports) : Touches P s u := by
  have hget : ∀ f, u.get f = s.get f := fun f => congrArg (fun r => Sparse.get f.reset r f.key) hr
  exact ⟨fun f _ => hget f, fun f _ h => (hget f).trans h, congrArg _ hp,
    fun q => congrArg (fun l : List Port => (l.getD q _).stand) hp⟩

theorem ite {c : Prop} [Decidable c] (hu : Touches P s u) (hv : Touches P s v) : Touches P s (if c then u else v) := by
  split
  · exact hu
  · exact hv

theorem foldl {α : Type} {f : State → α → State} {l : List α} (hf : ∀ u, ∀ k ∈ l, Touches P u (f u k)) (s : State) :
    Touches P s (l.foldl f s) :=
  List.foldlRecOn (motive := Touches P s) l f (.refl s) fun _ hu k hk => hu.trans (hf _ k hk)

/-- A register that is no flag of a lane. -/
theorem set (s : State) {g : Fld} (hg : P g.key) (hl : ∀ p < 4, ¬laneKey p g.key) (n : Nat) : Touches P s (s.set g n) := by
  refine ⟨fun f hf => State.get_set_other s (fun h => hf (h.symm ▸ hg)) n, fun f hf h => ?_, rfl, fun _ => rfl⟩
  refine (State.get_set_other s (fun hk => ?_) n).trans h
  obtain ⟨l, hl16, j, hj, rfl⟩ := hf
  exact hl (l / 4) (by omega) ⟨l, j, rfl, hj, hk.symm⟩

/-- A flag of a lane that is cleared. -/
theorem clear (s : State) {g : Fld} (hg : P g.key) (hl : g.laneFlag) : Touches P s (s.setB g false) := by
  refine ⟨fun f hf => State.get_set_other s (fun h => hf (h.symm ▸ hg)) 0, fun f hf h => ?_, rfl, fun _ => rfl⟩
  by_cases hk : f.key = g.key
  · obtain ⟨l, hl16, j, hj, rfl⟩ := hf
    obtain ⟨l', hl16', j', hj', rfl⟩ := hl
    have hl : l = l' ∧ j = j' := by simp only [Fld.key] at hk; omega
    obtain ⟨rfl, rfl⟩ := hl
    exact State.get_set_same _ _ _
  · exact (State.get_set_other s hk 0).trans h

theorem modLane (s : State) (l : Nat) (f : Lane → Lane) : Touches P s (s.modLane l f) := .same rfl rfl

theorem modPort (s : State) (p : Nat) {f : Port → Port} (hf : ∀ q, (f q).stand = q.stand) : Touches P s (s.modPort p f) :=
  ⟨fun _ _ => rfl, fun _ _ h => h, modAt_length _ _ _, fun q => modAt_getD_kept (g := Port.stand) hf p q _ _⟩

theorem raise (s : State) (hP : ∀ k ∈ eventFields, P k) (c n : Nat) (a : List Byte) : Touches P s (s.raise c n a) := by
  have hout : ∀ f : Fld, f.laneFlag → f.key ∉ eventFields := by
    rintro f ⟨l, hl, j, hj, rfl⟩
    simp [eventFields, Fld.key, Reg.LOG_STATUS_DROPPED, Reg.CMD_ERR_COUNT_EVT_LOST]
    omega
  exact ⟨fun f hf => State.raise_get _ _ _ _ fun h => hf (hP _ h), fun f hf h => (State.raise_get _ _ _ _ (hout f hf)).trans h,
    congrArg _ (State.raise_ports ..), fun q => congrArg (fun l : List Port => (l.getD q _).stand) (State.raise_ports ..)⟩

end Touches

/-! ### The lanes from the beginning, and the link layer stopped -/

theorem portKey_lane {p k : Nat} (hk : portKey p k) (q : Nat) : ¬laneKey q k := by
  rintro ⟨l, j, -, hj, rfl⟩
  obtain ⟨i, hi, -, hk⟩ := hk
  omega

theorem Touches.portMasks (s : State) (p : Nat) : Touches (portKey p) s (s.portMasks p) := by
  have hset : ∀ (u : State) (g : Fld) n, portKey p g.key → Touches (portKey p) u (u.set g n) := fun u g n hg =>
    .set u hg (fun q _ => portKey_lane hg q) n
  have hkey : ∀ j < 32, j ∉ [2, 3, 4, 5] → portKey p ((0x190008 + 256 * p) * 32 + j) := fun j hj hn => ⟨j, hj, hn, .inl rfl⟩
  unfold State.portMasks
  exact ((((hset _ (Reg.ZPHY_PORT_STATUS_LOCKED p) _ (hkey 16 (by decide) (by decide))).trans
    (hset _ (Reg.ZPHY_PORT_STATUS_SEEN_RX p) _ (hkey 20 (by decide) (by decide)))).trans
    (hset _ (Reg.ZPHY_PORT_STATUS_LANE_ORDER p) _ (hkey 8 (by decide) (by decide)))).trans
    (hset _ (Reg.ZPHY_PORT_STATUS_WIDTH_MISMATCH p) _ (hkey 7 (by decide) (by decide)))).trans
    (hset _ (Reg.ZPHY_PORT_STATUS_SKEW_ERR p) _ (hkey 9 (by decide) (by decide)))

theorem Touches.lanesReset (s : State) (hp : p < 4) :
    Touches (fun k => portKey p k ∨ laneKey p k) s (s.lanesReset p) := by
  have hclear : ∀ (u : State) k j, k < 4 → j < 6 → Touches (fun k => portKey p k ∨ laneKey p k) u
      (u.setB ⟨0x190800 + 64 * (4 * p + k), j, 1, .ro, 0, false⟩ false) := fun u k j hk hj =>
    .clear u (.inr ⟨4 * p + k, j, by omega, hj, rfl⟩) ⟨4 * p + k, by omega, j, hj, rfl⟩
  have hfold : Touches (fun k => portKey p k ∨ laneKey p k) s ((List.range 4).foldl (fun u k =>
      let l := 4 * p + k
      let w := ((u.modLane l Lane.afresh).loseLock l).setB (Reg.ZPHY_LANE_STATUS_SEEN_RX l) false
      let w := w.setB (Reg.ZPHY_LANE_STATUS_IDLE_RX l) false
      if l ∈ s.lanesOf p ∧ (w.port p).phase ≠ .off then w
      else (w.setB (Reg.ZPHY_LANE_STATUS_BIT_LOCK l) false).setB (Reg.ZPHY_LANE_STATUS_ACTIVITY l) false) s) := by
    refine .foldl (fun u k hk => ?_) s
    have hk4 : k < 4 := List.mem_range.1 hk
    have hlocks := ((((Touches.modLane u (4 * p + k) Lane.afresh).trans (hclear _ k 1 hk4 (by decide))).trans
      (hclear _ k 2 hk4 (by decide))).trans (hclear _ k 3 hk4 (by decide))).trans (hclear _ k 4 hk4 (by decide))
    exact .ite hlocks ((hlocks.trans (hclear _ k 0 hk4 (by decide))).trans (hclear _ k 5 hk4 (by decide)))
  exact (hfold.trans (.modPort _ p (f := fun q => { q with rxFlits := 0 }) fun _ => rfl)).trans
    ((Touches.portMasks _ p).mono fun _ => .inl)

/-- Keys that a link layer which stops touches besides its state. -/
def stopKey (p k : Nat) : Prop :=
  k ∈ eventFields ∨ k ∈ [(Reg.ZLINK_PORT_UNACKED_FLITS p).key, Reg.ZLINK_CKPT_STATUS_RECEIVING.key, Reg.PAIR_STATUS_STATE.key,
    Reg.PAIR_STATUS_PARTNER.key]

theorem stopKey_lane {p k : Nat} (hk : stopKey p k) (q : Nat) : q < 4 → ¬laneKey q k := by
  rintro hq ⟨l, j, hl, hj, rfl⟩
  simp only [stopKey, eventFields, List.mem_cons, List.not_mem_nil, or_false] at hk
  simp [Fld.key, Reg.LOG_STATUS_DROPPED, Reg.CMD_ERR_COUNT_EVT_LOST, Reg.ZLINK_PORT_UNACKED_FLITS,
    Reg.ZLINK_CKPT_STATUS_RECEIVING, Reg.PAIR_STATUS_STATE, Reg.PAIR_STATUS_PARTNER] at hk
  omega

end Sys2Proof.Machine
end

section
/-! SUPPORT. A port that goes down: its phase, its link layer, and the cause that it shows (R359, R375, R376). -/

namespace Sys2Proof.Machine

variable {s u v : State} {p : Nat}

theorem Touches.sendTrans {P : Nat → Prop} (s : State) (p src : Nat) (x : Trans) : Touches P s (s.sendTrans p src x) :=
  .modPort s p (f := fun q => { q with txq := q.txq ++ [(src, x)] }) fun _ => rfl

theorem Touches.stop (s : State) {g : Fld} (hp : p < 4) (hg : stopKey p g.key) (n : Nat) : Touches (stopKey p) s (s.set g n) :=
  .set s hg (fun q hq => stopKey_lane hg q hq) n

theorem Touches.stopSame (hr : u.regs = s.regs) (hports : u.ports = s.ports) {g : Fld} (hp : p < 4) (hg : stopKey p g.key)
    (n : Nat) : Touches (stopKey p) s (u.set g n) :=
  (Touches.same hr hports).trans (.stop u hp hg n)

/-- A link layer that stops: its state is 0, and besides that it touches the registers of `stopKey`. -/
theorem State.llDown_stops (s : State) (hp : p < 4) : (s.llDown p).get (Reg.ZLINK_PORT_STATUS_LL_STATE p) = 0 ∧
    Touches (fun k => stopKey p k ∨ k = (Reg.ZLINK_PORT_STATUS_LL_STATE p).key) s (s.llDown p) := by
  unfold State.llDown
  extract_lets +onlyGivenNames q keep lostMem fwds s1 s2 s3 host s5 s6
  have hstart : Touches (stopKey p) s s1 := .modPort s p fun _ => rfl
  clear_value s1
  have hstate : Touches (fun k => stopKey p k ∨ k = (Reg.ZLINK_PORT_STATUS_LL_STATE p).key) s1
      (s1.set (Reg.ZLINK_PORT_STATUS_LL_STATE p) 0) := .set s1 (.inr rfl) (fun q hq => by
    rintro ⟨l, j, hl, hj, hk⟩
    simp only [Fld.key, Reg.ZLINK_PORT_STATUS_LL_STATE] at hk
    omega) 0
  have hzero : (s1.set (Reg.ZLINK_PORT_STATUS_LL_STATE p) 0).get (Reg.ZLINK_PORT_STATUS_LL_STATE p) = 0 := State.get_set_same ..
  have hrest : Touches (stopKey p) (s1.set (Reg.ZLINK_PORT_STATUS_LL_STATE p) 0) s6 := by
    have hunacked : Touches (stopKey p) (s1.set (Reg.ZLINK_PORT_STATUS_LL_STATE p) 0) s2 :=
      .stop _ (g := Reg.ZLINK_PORT_UNACKED_FLITS p) hp (.inr (by simp)) 0
    clear_value s2
    have hcpl : Touches (stopKey p) s2 s3 := .foldl (fun u x _ => .sendTrans u _ _ _) s2
    have hhost : Touches (stopKey p) s3 s5 := .same rfl rfl
    clear_value s5
    exact ((hunacked.trans hcpl).trans hhost).trans (.foldl (fun u f _ => .same (State.reply_regs ..) (State.reply_ports ..)) s5)
  clear_value s6
  have hout : ¬stopKey p (Reg.ZLINK_PORT_STATUS_LL_STATE p).key := by
    simp [stopKey, eventFields, Fld.key, Reg.LOG_STATUS_DROPPED, Reg.CMD_ERR_COUNT_EVT_LOST, Reg.ZLINK_PORT_UNACKED_FLITS,
      Reg.ZLINK_CKPT_STATUS_RECEIVING, Reg.PAIR_STATUS_STATE, Reg.PAIR_STATUS_PARTNER, Reg.ZLINK_PORT_STATUS_LL_STATE]
    omega
  have hstopped : ∀ w, Touches (stopKey p) s6 w → w.get (Reg.ZLINK_PORT_STATUS_LL_STATE p) = 0 ∧
      Touches (fun k => stopKey p k ∨ k = (Reg.ZLINK_PORT_STATUS_LL_STATE p).key) s w := fun w hw =>
    have hafter := hrest.trans hw
    ⟨(hafter.get _ hout).trans hzero, ((hstart.mono fun _ => .inl).trans hstate).trans (hafter.mono fun _ => .inl)⟩
  refine hstopped _ (.ite ?_ (.refl _))
  extract_lets +onlyGivenNames s7 pr s8
  have hreceiving : Touches (stopKey p) s6 s7 := .stop _ (g := Reg.ZLINK_CKPT_STATUS_RECEIVING) hp (.inr (by simp)) _
  clear_value s7
  refine (hreceiving.trans (v := s8) (.same rfl rfl)).trans (.ite ?_ (.ite ?_ (.same rfl rfl)))
  · exact .stopSame (by rfl) (by rfl) hp (.inr (by simp)) 0
  · exact .stopSame (by rfl) (by rfl) hp (.inr (by simp)) 1

/-- Keys that a port which goes down touches, besides the flags of its lanes. -/
def fallKey (p k : Nat) : Prop := portKey p k ∨ stopKey p k ∨ k = (Reg.ZLINK_PORT_STATUS_LL_STATE p).key

/-- A port that leaves up or idle takes its next phase and waits for no answer; of one that was up the link layer stops. -/
theorem State.leaveUp_falls (s : State) (next : PortPhase) (hp4 : p < 4) (hp : p < s.ports.length) :
    ((s.leaveUp p next).port p).stand = (next, none) ∧ (s.leaveUp p next).ports.length = s.ports.length ∧
    (∀ f : Fld, ¬fallKey p f.key → ¬laneKey p f.key → (s.leaveUp p next).get f = s.get f) ∧
    (∀ f : Fld, f.laneFlag → s.get f = 0 → (s.leaveUp p next).get f = 0) ∧
    ((s.port p).isUp = true → (s.leaveUp p next).get (Reg.ZLINK_PORT_STATUS_LL_STATE p) = 0) := by
  unfold State.leaveUp
  extract_lets was s1 s2 s3
  have hmod : (s1.port p).stand = (next, none) := congrArg Port.stand (modAt_getD_same _ _ p _ hp)
  have hlen : s1.ports.length = s.ports.length := modAt_length _ _ _
  have hregs : s1.regs = s.regs := rfl
  clear_value s1
  have hshow : Touches (portKey p) s1 s2 :=
    (Touches.set s1 (g := Reg.ZPHY_PORT_STATUS_STATE p) ⟨0, by decide, by decide, .inl rfl⟩ (fun q _ => portKey_lane ⟨0, by decide, by decide, .inl rfl⟩ q) _).trans
      (.set _ (g := Reg.ZPHY_PORT_STATUS_IDLE p) ⟨6, by decide, by decide, .inl rfl⟩ (fun q _ => portKey_lane ⟨6, by decide, by decide, .inl rfl⟩ q) _)
  clear_value s2
  have hreset := (hshow.mono fun _ => .inl).trans (Touches.lanesReset s2 hp4)
  have hget : ∀ f, s1.get f = s.get f := fun f => congrArg (fun r => Sparse.get f.reset r f.key) hregs
  have hfell : Touches (fun k => portKey p k ∨ laneKey p k) s1 s3 := hreset
  clear_value s3
  have hfall : Touches (fun k => fallKey p k ∨ laneKey p k) s1 (if was.isUp = true then s3.llDown p else s3) := by
    refine .ite ((hfell.mono ?_).trans ((s3.llDown_stops hp4).2.mono ?_)) (hfell.mono ?_)
    · exact fun k hk => hk.imp .inl id
    · exact fun k hk => .inl (.inr hk)
    · exact fun k hk => hk.imp .inl id
  refine ⟨(hfall.stand p).trans hmod, hfall.length.trans hlen, fun f hf hl => ?_, fun f hf h => ?_, fun hup => ?_⟩
  · exact (hfall.get f (by rintro (h | h); exacts [hf h, hl h])).trans (hget f)
  · exact hfall.low f hf ((hget f).trans h)
  · rw [if_pos hup]
    exact (s3.llDown_stops hp4).1

/-- A port that goes down: its next phase, the cause that it shows where it was up, and what else it touches. -/
theorem State.linkDown_falls (s : State) (cause : Nat) (next : PortPhase) (hp4 : p < 4) (hp : p < s.ports.length) :
    ((s.linkDown p cause next).port p).stand = (next, none) ∧
    (∀ f : Fld, ¬fallKey p f.key → ¬laneKey p f.key → (s.linkDown p cause next).get f = s.get f) ∧
    (∀ f : Fld, f.laneFlag → s.get f = 0 → (s.linkDown p cause next).get f = 0) ∧
    ((s.port p).isUp = true → (s.linkDown p cause next).get (Reg.ZLINK_PORT_STATUS_LL_STATE p) = 0 ∧
      (s.linkDown p cause next).get (Reg.ZPHY_PORT_STATUS_LAST_CAUSE p) = low 3 cause) := by
  obtain ⟨hstand, -, hget, hlow, hstop⟩ := s.leaveUp_falls next hp4 hp
  unfold State.linkDown
  extract_lets up s1 s2
  have hup : up = (s.port p).isUp := rfl
  have hs1 : s.leaveUp p next = s1 := rfl
  rw [hs1] at hstand hget hlow hstop
  clear_value s1
  have hcause : s2.get (Reg.ZPHY_PORT_STATUS_LAST_CAUSE p) = low 3 cause := by
    refine (State.get_set_other _ ?_ _).trans (State.get_set_same ..)
    simp only [Fld.key, Reg.ZPHY_PORT_STATUS_LAST_CAUSE, Reg.ZPHY_PORT_DOWNS_COUNT]
    omega
  have hcount : Touches (portKey p) s1 s2 := by
    have hc : portKey p (Reg.ZPHY_PORT_STATUS_LAST_CAUSE p).key := ⟨24, by decide, by decide, .inl rfl⟩
    have hd : portKey p (Reg.ZPHY_PORT_DOWNS_COUNT p).key := ⟨0, by decide, by decide, .inr rfl⟩
    exact (Touches.set s1 hc (fun q _ => portKey_lane hc q) _).trans (.set _ hd (fun q _ => portKey_lane hd q) _)
  clear_value s2
  have hraise : Touches (stopKey p) s2 (s2.raise evLinkDown p (leBytes 1 p ++ leBytes 1 cause)) :=
    .raise s2 (fun _ => .inl) _ _ _
  have hout : ¬stopKey p (Reg.ZPHY_PORT_STATUS_LAST_CAUSE p).key ∧ ¬stopKey p (Reg.ZLINK_PORT_STATUS_LL_STATE p).key := by
    simp [stopKey, eventFields, Fld.key, Reg.LOG_STATUS_DROPPED, Reg.CMD_ERR_COUNT_EVT_LOST, Reg.ZLINK_PORT_UNACKED_FLITS,
      Reg.ZLINK_CKPT_STATUS_RECEIVING, Reg.PAIR_STATUS_STATE, Reg.PAIR_STATUS_PARTNER, Reg.ZLINK_PORT_STATUS_LL_STATE,
      Reg.ZPHY_PORT_STATUS_LAST_CAUSE]
    omega
  have hstate : ¬(portKey p (Reg.ZLINK_PORT_STATUS_LL_STATE p).key) := by
    rintro ⟨j, hj, -, hk⟩
    simp only [Fld.key, Reg.ZLINK_PORT_STATUS_LL_STATE] at hk
    omega
  cases hwas : up with
  | false =>
    rw [if_neg Bool.false_ne_true]
    exact ⟨hstand, hget, hlow, fun h => absurd (hup.symm.trans hwas) (by rw [h]; decide)⟩
  | true =>
    rw [if_pos rfl]
    have hall : Touches (fallKey p) s1 _ := (hcount.mono fun _ => .inl).trans (hraise.mono fun _ h => .inr (.inl h))
    refine ⟨(hall.stand p).trans hstand, fun f hf hl => (hall.get f hf).trans (hget f hf hl),
      fun f hf h => hall.low f hf (hlow f hf h), fun h => ⟨?_, (hraise.get _ hout.1).trans hcause⟩⟩
    exact (hraise.get _ hout.2).trans ((hcount.get _ hstate).trans (hstop (hup.symm.trans hwas)))

end Sys2Proof.Machine
end

section
/-! SUPPORT. ALIGNMENT_MARKER and the misses (R350 to R358): what a marker does to its lane and to the port. -/

namespace Sys2Proof.Machine

variable {s u v : State} {p l : Nat}

theorem State.port_modPort_same {f : Port → Port} (hp : p < s.ports.length) : (s.modPort p f).port p = f (s.port p) :=
  modAt_getD_same f _ p _ hp

theorem State.port_modPort_other {q : Nat} (f : Port → Port) (h : q ≠ p) : (s.modPort p f).port q = s.port q :=
  modAt_getD_other f _ p q _ h

theorem State.lane_modLane_same {f : Lane → Lane} (hl : l < s.lanes.length) : (s.modLane l f).lane l = f (s.lane l) :=
  modAt_getD_same f _ l _ hl

theorem State.lane_modLane_other {k : Nat} (f : Lane → Lane) (h : k ≠ l) : (s.modLane l f).lane k = s.lane k :=
  modAt_getD_other f _ l k _ h

/-- A lane that missed a marker, and its port that goes down at the fourth miss in a row (R353, R359 cause 1). -/
def Missed (s : State) (l : Nat) (v : State) : Prop :=
  v.get (Reg.ZPHY_LANE_MARKER_ERR_COUNT l) =
    min (s.get (Reg.ZPHY_LANE_MARKER_ERR_COUNT l) + 1) (2 ^ (Reg.ZPHY_LANE_MARKER_ERR_COUNT l).w - 1) ∧
  ((s.lane l).missed < 3 → (v.lane l).good = 0 ∧ (v.lane l).missed = (s.lane l).missed + 1 ∧ v.host = s.host) ∧
  (3 ≤ (s.lane l).missed → v.flag (Reg.ZPHY_LANE_STATUS_MARKER_LOCK l) = false ∧
    ((s.port (l / 4)).phase = .up → (v.port (l / 4)).phase = .training ∧
      v.get (Reg.ZPHY_PORT_STATUS_LAST_CAUSE (l / 4)) = 1 ∧ v.active (l / 4) = false))

theorem State.portMasks_parts (s : State) (p : Nat) : (s.portMasks p).ports = s.ports ∧ (s.portMasks p).lanes = s.lanes ∧
    (s.portMasks p).host = s.host := by
  simp [State.portMasks]

theorem laneFlag_markerLock (hl : l < 16) : (Reg.ZPHY_LANE_STATUS_MARKER_LOCK l).laneFlag := ⟨l, hl, 1, by decide, rfl⟩

/-- The count of marker errors is no register of a port's fall. -/
theorem markerErr_stays (hl : l < 16) (hp : p < 4) : ¬fallKey p (Reg.ZPHY_LANE_MARKER_ERR_COUNT l).key ∧
    ¬laneKey p (Reg.ZPHY_LANE_MARKER_ERR_COUNT l).key := by
  refine ⟨?_, ?_⟩
  · simp only [fallKey, portKey, stopKey, eventFields, List.mem_cons, List.not_mem_nil, or_false]
    simp only [Fld.key, Reg.LOG_STATUS_DROPPED, Reg.CMD_ERR_COUNT_EVT_LOST, Reg.ZLINK_PORT_UNACKED_FLITS,
      Reg.ZLINK_CKPT_STATUS_RECEIVING, Reg.PAIR_STATUS_STATE, Reg.PAIR_STATUS_PARTNER, Reg.ZLINK_PORT_STATUS_LL_STATE,
      Reg.ZPHY_LANE_MARKER_ERR_COUNT]
    omega
  · rintro ⟨k, j, -, hj, hk⟩
    simp only [Fld.key, Reg.ZPHY_LANE_MARKER_ERR_COUNT] at hk
    omega

theorem State.markerMiss_missed (s : State) (hl : l < 16) (hlanes : s.lanes.length = 16) (hports : s.ports.length = 4) :
    Missed s l (s.markerMiss l) := by
  have hp : l / 4 < 4 := by omega
  unfold State.markerMiss
  extract_lets p s1 s2 s3
  have hcount : s1.get (Reg.ZPHY_LANE_MARKER_ERR_COUNT l) =
      min (s.get (Reg.ZPHY_LANE_MARKER_ERR_COUNT l) + 1) (2 ^ (Reg.ZPHY_LANE_MARKER_ERR_COUNT l).w - 1) :=
    State.get_incSat_same ..
  have h1 : s1.lanes = s.lanes ∧ s1.ports = s.ports ∧ s1.host = s.host := ⟨rfl, rfl, rfl⟩
  clear_value s1
  obtain ⟨hlane1, hport1, hhost1⟩ := h1
  have hlane : s2.lane l = { (s.lane l).block false with
      good := 0, missed := (s.lane l).missed + 1, seen1 := 0, seen0 := 0, scr := (s.lane l).scr.map (prbsAdv blockBits) } := by
    have hsame : s1.lane l = s.lane l := congrArg (fun x : List Lane => x.getD l _) hlane1
    rw [← hsame]
    exact State.lane_modLane_same (by rw [hlane1]; omega)
  have h2 : s2.ports = s.ports ∧ s2.host = s.host := ⟨hport1, hhost1⟩
  have hget2 : ∀ f, s2.get f = s1.get f := fun _ => rfl
  clear_value s2
  obtain ⟨hport2, hhost2⟩ := h2
  have hmiss : (s2.lane l).missed = (s.lane l).missed + 1 := congrArg Lane.missed hlane
  by_cases hfour : 4 ≤ (s2.lane l).missed
  · rw [if_pos hfour]
    have hlock : s3.get (Reg.ZPHY_LANE_STATUS_MARKER_LOCK l) = 0 := by
      have hclear := State.get_set_same s2 (Reg.ZPHY_LANE_STATUS_MARKER_LOCK l) 0
      have hpol : Touches (fun _ => True) (s2.setB (Reg.ZPHY_LANE_STATUS_MARKER_LOCK l) false) (s2.loseLock l) :=
        .clear _ trivial ⟨l, hl, 2, by decide, rfl⟩
      exact (Touches.portMasks _ _).low _ (laneFlag_markerLock hl) (hpol.low _ (laneFlag_markerLock hl) hclear)
    have hget3 : s3.get (Reg.ZPHY_LANE_MARKER_ERR_COUNT l) = s1.get (Reg.ZPHY_LANE_MARKER_ERR_COUNT l) := by
      have hpk : ¬portKey p (Reg.ZPHY_LANE_MARKER_ERR_COUNT l).key := fun h => (markerErr_stays hl hp).1 (.inl h)
      refine ((Touches.portMasks _ _).get _ hpk).trans (((State.get_set_other _ ?_ _).trans (State.get_set_other _ ?_ _)).trans (hget2 _))
      all_goals simp only [Fld.key, Reg.ZPHY_LANE_MARKER_ERR_COUNT, Reg.ZPHY_LANE_STATUS_MARKER_LOCK, Reg.ZPHY_LANE_STATUS_POL_INV]; omega
    have hport3 : s3.ports = s.ports := (State.portMasks_parts _ _).1.trans hport2
    clear_value s3
    have hsame : s3.port p = s.port p := congrArg (fun x : List Port => x.getD p _) hport3
    refine ⟨?_, fun h => absurd h (by omega), fun _ => ?_⟩
    · split
      · rw [((s3.linkDown_falls 1 .training hp (by rw [hport3]; omega)).2.1 _ (markerErr_stays hl hp).1 (markerErr_stays hl hp).2),
          hget3, hcount]
      · exact hget3.trans hcount
    · rw [hsame]
      split
      next hup =>
        obtain ⟨hstand, -, hlow, hdown⟩ := s3.linkDown_falls 1 .training hp (Nat.lt_of_lt_of_eq hp (by rw [hport3, hports]))
        obtain ⟨hll, hcause⟩ := hdown (by rw [hsame, Port.isUp, hup]; rfl)
        refine ⟨decide_eq_false fun h => ?_, fun _ => ⟨congrArg Prod.fst hstand, hcause, ?_⟩⟩
        · exact absurd ((hlow _ (laneFlag_markerLock hl) hlock).symm.trans h) (by decide)
        · rw [State.active, hll]
          rfl
      next hup =>
        exact ⟨decide_eq_false fun h => absurd (hlock.symm.trans h) (by decide), fun h => absurd h hup⟩
  · rw [if_neg hfour]
    exact ⟨(hget2 _).trans hcount, fun _ => ⟨congrArg Lane.good hlane, hmiss, hhost2⟩, fun h => absurd h (by omega)⟩

end Sys2Proof.Machine
end

section
/-! SUPPORT. A valid marker: what it loads, the lock that it gives, and a port of one lane that comes up (R350, R357, R358). -/

namespace Sys2Proof.Machine

variable {s u v : State} {p l : Nat}

/-- What a lane's marker leaves of the registers that the judgement reads: lock and widths. -/
structure MarkerFrame (l : Nat) (s u : State) : Prop where
  lock : u.get (Reg.ZPHY_LANE_STATUS_MARKER_LOCK l) = s.get (Reg.ZPHY_LANE_STATUS_MARKER_LOCK l)
  width : u.get (Reg.ZPHY_PORT_STATUS_WIDTH_USED (l / 4)) = s.get (Reg.ZPHY_PORT_STATUS_WIDTH_USED (l / 4))
  ports : u.ports = s.ports

theorem MarkerFrame.trans (h : MarkerFrame l s u) (k : MarkerFrame l u v) : MarkerFrame l s v :=
  ⟨k.lock.trans h.lock, k.width.trans h.width, k.ports.trans h.ports⟩

/-- A register of the lane other than its lock. -/
theorem MarkerFrame.set (s : State) (hl : l < 16) {f : Fld} (hlo : f.lo < 32)
    (hf : f.addr = 0x190800 + 64 * l ∧ f.lo ≠ 1 ∨ f.addr ∈ [0x190804 + 64 * l, 0x190808 + 64 * l, 0x19080C + 64 * l,
      0x190810 + 64 * l, 0x190814 + 64 * l]) (n : Nat) :
    MarkerFrame l s (s.set f n) := by
  simp only [List.mem_cons, List.not_mem_nil, or_false] at hf
  refine ⟨State.get_set_other s ?_ n, State.get_set_other s ?_ n, rfl⟩
  · simp only [Fld.key, Reg.ZPHY_LANE_STATUS_MARKER_LOCK]; omega
  · simp only [Fld.key, Reg.ZPHY_PORT_STATUS_WIDTH_USED]; omega

/-- The scrambler that a marker loads (R350). -/
theorem State.loadSeed_loads (s : State) (hl : l < 16) (hlanes : s.lanes.length = 16) (seed : Nat) :
    MarkerFrame l s (s.loadSeed l seed) ∧ (s.loadSeed l seed).lanes.length = 16 ∧
      (s.loadSeed l seed).lane l = { s.lane l with scr := some seed } := by
  have hload : ∀ u : State, MarkerFrame l s u → u.lanes = s.lanes →
      MarkerFrame l s (u.modLane l (fun x => { x with scr := some seed })) ∧
      (u.modLane l (fun x => { x with scr := some seed })).lanes.length = 16 ∧
      (u.modLane l (fun x => { x with scr := some seed })).lane l = { s.lane l with scr := some seed } := fun u hu hsame => by
    have hlane : u.lane l = s.lane l := congrArg (fun x : List Lane => x.getD l _) hsame
    refine ⟨⟨hu.lock, hu.width, hu.ports⟩, (modAt_length _ _ _).trans (by rw [hsame, hlanes]), ?_⟩
    rw [← hlane]
    exact State.lane_modLane_same (by rw [hsame, hlanes]; exact hl)
  have hsame : MarkerFrame l s s := ⟨rfl, rfl, rfl⟩
  unfold State.loadSeed
  refine hload _ ?_ ?_
  · split
    · split
      · exact hsame
      · exact .set s hl (f := Reg.ZPHY_LANE_SEED_ERR_COUNT l) (Nat.zero_lt_succ _) (.inr (by simp [Reg.ZPHY_LANE_SEED_ERR_COUNT])) _
    · exact hsame
  · split
    · split <;> rfl
    · rfl

/-- What a valid marker leaves on its lane (R350, R357, R358, R362). -/
theorem State.acceptMarker_lane (s : State) (hl : l < 16) (hlanes : s.lanes.length = 16) (m skew : Nat) :
    let bad := bits m 24 2 != l % 4 || bits m 28 2 != s.get (Reg.ZPHY_PORT_STATUS_WIDTH_USED (l / 4)) || decide (400 < skew)
    let y := (s.acceptMarker l m skew).lane l
    MarkerFrame l s (s.acceptMarker l m skew) ∧ (s.acceptMarker l m skew).lanes.length = 16 ∧
      (s.acceptMarker l m skew).get (Reg.ZPHY_LANE_STATUS_SKEW l) = low 9 (min skew 511) ∧
      y.good = (if bad then 0 else (s.lane l).good + 1) ∧ y.missed = 0 ∧ y.scr = some (bits m 32 31) ∧
      y.seen1 = (if bit m 26 then (s.lane l).seen1 + 1 else 0) ∧ y.far = decide (400 < skew) := by
  obtain ⟨hframe, hlen, hlane⟩ := s.loadSeed_loads hl hlanes (bits m 32 31)
  unfold State.acceptMarker
  extract_lets +onlyGivenNames bad0 p s1 seen bad width far s2 s3
  have hwidth : width = (bits m 28 2 != s.get (Reg.ZPHY_PORT_STATUS_WIDTH_USED (l / 4))) :=
    congrArg (fun n => bits m 28 2 != n) hframe.width
  have hs1 : s.loadSeed l (bits m 32 31) = s1 := rfl
  rw [hs1] at hframe hlen hlane
  clear_value s1 width
  have h2 : MarkerFrame l s1 s2 :=
    (MarkerFrame.set s1 hl (f := Reg.ZPHY_LANE_STATUS_LANE_RX l) (by simp [Reg.ZPHY_LANE_STATUS_LANE_RX]) (.inl ⟨rfl, by simp [Reg.ZPHY_LANE_STATUS_LANE_RX]⟩) _).trans
      (.set _ hl (f := Reg.ZPHY_LANE_STATUS_SEEN_RX l) (by simp [Reg.ZPHY_LANE_STATUS_SEEN_RX]) (.inl ⟨rfl, by simp [Reg.ZPHY_LANE_STATUS_SEEN_RX]⟩) _)
  have h2lanes : s2.lanes = s1.lanes := rfl
  clear_value s2
  have h3 : MarkerFrame l s2 s3 :=
    (MarkerFrame.set s2 hl (f := Reg.ZPHY_LANE_STATUS_IDLE_RX l) (by simp [Reg.ZPHY_LANE_STATUS_IDLE_RX]) (.inl ⟨rfl, by simp [Reg.ZPHY_LANE_STATUS_IDLE_RX]⟩) _).trans
      (.set _ hl (f := Reg.ZPHY_LANE_STATUS_SKEW l) (by simp [Reg.ZPHY_LANE_STATUS_SKEW]) (.inl ⟨rfl, by simp [Reg.ZPHY_LANE_STATUS_SKEW]⟩) _)
  have h3lanes : s3.lanes = s1.lanes := h2lanes
  have hskew : s3.get (Reg.ZPHY_LANE_STATUS_SKEW l) = low 9 (min skew 511) := State.get_set_same ..
  clear_value s3
  have hall := (hframe.trans h2).trans h3
  have hsame : s3.lane l = s1.lane l := congrArg (fun x : List Lane => x.getD l _) h3lanes
  have hy : (s3.modLane l (fun x => { x.block seen with
      good := if bad || width || far then 0 else x.good + 1, missed := 0, badLane := bad, badWidth := width, far := far,
      seen1 := if seen then x.seen1 + 1 else 0, seen0 := if seen then 0 else x.seen0 + 1 })).lane l = { (s1.lane l).block seen with
      good := if bad || width || far then 0 else (s1.lane l).good + 1, missed := 0, badLane := bad, badWidth := width, far := far,
      seen1 := if seen then (s1.lane l).seen1 + 1 else 0, seen0 := if seen then 0 else (s1.lane l).seen0 + 1 } := by
    rw [← hsame]
    exact State.lane_modLane_same (by rw [h3lanes, hlen]; exact hl)
  have hbad : bad0 = (bad || width || far) := by rw [hwidth]
  have hgood := congrArg Lane.good hlane
  have hscr := congrArg Lane.scr hlane
  have hseen := congrArg Lane.seen1 hlane
  refine ⟨⟨hall.lock, hall.width, hall.ports⟩, (modAt_length _ _ _).trans (by rw [h3lanes, hlen]), hskew, ?_,
    congrArg Lane.missed hy, (congrArg Lane.scr hy).trans hscr, (congrArg Lane.seen1 hy).trans ?_, congrArg Lane.far hy⟩
  · rw [hbad, ← hgood]
    exact congrArg Lane.good hy
  · rw [← hseen]

/-- Lock, gained by the third valid marker in a row of a port that trains (R357). -/
theorem State.judgeLock_training (s : State) (hphase : (s.port (l / 4)).phase = .training) (hfar : (s.lane l).far = false) :
    (s.judgeLock l).lanes = s.lanes ∧ (s.judgeLock l).ports = s.ports ∧
    (s.judgeLock l).get (Reg.ZPHY_LANE_STATUS_SKEW l) = s.get (Reg.ZPHY_LANE_STATUS_SKEW l) ∧
    (s.judgeLock l).get (Reg.ZPHY_PORT_STATUS_WIDTH_USED (l / 4)) = s.get (Reg.ZPHY_PORT_STATUS_WIDTH_USED (l / 4)) ∧
    (s.judgeLock l).flag (Reg.ZPHY_LANE_STATUS_MARKER_LOCK l) =
      (s.flag (Reg.ZPHY_LANE_STATUS_MARKER_LOCK l) || decide (3 ≤ (s.lane l).good)) := by
  unfold State.judgeLock
  extract_lets q x had
  rw [if_neg (by rw [hfar]; decide)]
  cases hhad : had with
  | true =>
    rw [if_pos rfl]
    exact ⟨rfl, rfl, rfl, rfl, by rw [show s.flag (Reg.ZPHY_LANE_STATUS_MARKER_LOCK l) = true from hhad]; rfl⟩
  | false =>
    have hnot : s.flag (Reg.ZPHY_LANE_STATUS_MARKER_LOCK l) = false := hhad
    rw [if_neg Bool.false_ne_true, hnot, Bool.false_or]
    by_cases hthree : 3 ≤ (s.lane l).good
    · have hrest : (q.phase == .waking && q.woken) = false := by rw [show q.phase = .training from hphase]; rfl
      rw [if_pos (.inl hthree), hrest, State.when_false, decide_eq_true hthree]
      refine ⟨rfl, rfl, State.get_setB_other _ ?_ _, State.get_setB_other _ ?_ _, flag_setB_same _ _ _ Nat.one_ne_zero⟩
      all_goals
        simp only [Fld.key, Reg.ZPHY_LANE_STATUS_SKEW, Reg.ZPHY_LANE_STATUS_MARKER_LOCK, Reg.ZPHY_PORT_STATUS_WIDTH_USED]
        omega
    · rw [if_neg (by rintro (h | ⟨h, -, -⟩); exacts [hthree h, absurd (hphase.symm.trans h) (by decide)]), decide_eq_false hthree]
      exact ⟨rfl, rfl, rfl, rfl, hnot⟩

/-! ### A port that comes up -/

/-- Keys that a port which comes up touches. -/
def upKeys (p : Nat) : List Nat := [(Reg.ZPHY_PORT_STATUS_STATE p).key, (Reg.ZPHY_PORT_UPS_COUNT p).key,
  (Reg.ZPHY_PORT_UP_TIME_NS p).key, (Reg.ZLINK_PORT_STATUS_LL_STATE p).key] ++ eventFields

/-- A port that comes up: its phase, and what it leaves of its lanes and of the registers (R358, R369). -/
theorem State.linkUp_comes (s : State) (hp : p < s.ports.length) :
    ((s.linkUp p).port p).phase = .up ∧ ((s.linkUp p).port p).seenDue = (s.port p).seenDue ∧ (s.linkUp p).lanes = s.lanes ∧
    ∀ f : Fld, f.key ∉ upKeys p → (s.linkUp p).get f = s.get f := by
  unfold State.linkUp
  extract_lets q s1 s2 s3 s4
  have hport : (s1.port p).phase = .up ∧ (s1.port p).seenDue = (s.port p).seenDue := by
    have hsame := State.port_modPort_same (s := s) (f := fun q => { q with
      phase := .up, initOwed := true, initRx := false, ordered := false, upAt := s.now }) hp
    exact ⟨(congrArg Port.phase hsame :), (congrArg Port.seenDue hsame :)⟩
  have h1 : s1.lanes = s.lanes ∧ ∀ f, s1.get f = s.get f := ⟨rfl, fun _ => rfl⟩
  clear_value s1
  have h4 : s4.ports = s1.ports ∧ s4.lanes = s1.lanes := ⟨rfl, rfl⟩
  have hget : ∀ f : Fld, f.key ∉ upKeys p → s4.get f = s1.get f := fun f hf => by
    simp only [upKeys, List.cons_append, List.nil_append, List.mem_cons, not_or] at hf
    obtain ⟨hstate, hups, htime, hll, -⟩ := hf
    exact (State.get_set_other _ hll _).trans ((State.get_set_other _ htime _).trans
      ((State.get_set_other _ hups _).trans (State.get_set_other _ hstate _)))
  clear_value s4
  have hsame : ∀ c n a, (s4.raise c n a).port p = s1.port p := fun c n a =>
    congrArg (fun x : List Port => x.getD p _) ((State.raise_ports ..).trans h4.1)
  rw [hsame]
  refine ⟨hport.1, hport.2, (State.raise_lanes ..).trans (h4.2.trans h1.1), fun f hf => ?_⟩
  have hev : f.key ∉ eventFields := fun h => hf (List.mem_append_right _ h)
  exact ((State.raise_get _ _ _ _ hev).trans (hget f hf)).trans (h1.2 f)

end Sys2Proof.Machine
end

section
/-! SUPPORT. ALIGNMENT_MARKER of a port that trains (R350 to R358). -/

namespace Sys2Proof.Machine

variable {s u v : State} {p l : Nat}

/-- A port of one lane that trains: what the lane's marker makes of it (R358). -/
theorem State.afterMarker_training (s : State) (hl : l < 16) (hp : l / 4 < s.ports.length) (hphase : (s.port (l / 4)).phase = .training) :
    let lock := s.flag (Reg.ZPHY_LANE_STATUS_MARKER_LOCK l)
    let v := s.afterMarker (l / 4) l
    v.lanes = s.lanes ∧ v.flag (Reg.ZPHY_LANE_STATUS_MARKER_LOCK l) = lock ∧
    v.get (Reg.ZPHY_LANE_STATUS_SKEW l) = s.get (Reg.ZPHY_LANE_STATUS_SKEW l) ∧
    (s.lanesOf (l / 4) = [l] → (v.port (l / 4)).seenDue = lock ∧
      (v.port (l / 4)).phase =
        if lock = true ∧ (s.port (l / 4)).seenTx = true ∧ (s.port (l / 4)).zeros = 0 ∧ 2 ≤ (s.lane l).seen1
        then .up else .training) := by
  intro lock v
  have hkeys : (Reg.ZPHY_LANE_STATUS_MARKER_LOCK l).key ∉ upKeys (l / 4) ∧ (Reg.ZPHY_LANE_STATUS_SKEW l).key ∉ upKeys (l / 4) := by
    simp only [upKeys, eventFields, List.cons_append, List.nil_append, List.mem_cons, List.not_mem_nil, or_false, Fld.key,
      Reg.ZPHY_PORT_STATUS_STATE, Reg.ZPHY_PORT_UPS_COUNT, Reg.ZPHY_PORT_UP_TIME_NS, Reg.ZLINK_PORT_STATUS_LL_STATE,
      Reg.LOG_STATUS_DROPPED, Reg.CMD_ERR_COUNT_EVT_LOST, Reg.ZPHY_LANE_STATUS_MARKER_LOCK, Reg.ZPHY_LANE_STATUS_SKEW]
    omega
  have hafter : v = (s.modPort (l / 4) (fun q => { q with
      seenDue := s.allLanes (l / 4) (fun k => s.flag (Reg.ZPHY_LANE_STATUS_MARKER_LOCK k)) })).tryUp (l / 4) := by
    show s.afterMarker (l / 4) l = _
    unfold State.afterMarker
    extract_lets q locked
    rw [show q.phase = .training from hphase]
  rw [hafter]
  clear_value v
  clear hafter v
  generalize hx : s.modPort (l / 4) (fun q => { q with
      seenDue := s.allLanes (l / 4) (fun k => s.flag (Reg.ZPHY_LANE_STATUS_MARKER_LOCK k)) }) = x
  have hport : x.port (l / 4) = { s.port (l / 4) with
      seenDue := s.allLanes (l / 4) (fun k => s.flag (Reg.ZPHY_LANE_STATUS_MARKER_LOCK k)) } := by
    rw [← hx]
    exact State.port_modPort_same hp
  obtain ⟨hlanes, hregs, hlen⟩ : x.lanes = s.lanes ∧ (∀ f, x.get f = s.get f) ∧ x.ports.length = s.ports.length := by
    rw [← hx]
    exact ⟨rfl, fun _ => rfl, modAt_length _ _ _⟩
  obtain ⟨hupPhase, hupDue, hupLanes, hupGet⟩ := x.linkUp_comes (p := l / 4) (by rw [hlen]; exact hp)
  have hphasex : (x.port (l / 4)).phase = .training := by rw [hport]; exact hphase
  unfold State.tryUp
  extract_lets q
  have hlock : ∀ y : State, y.get (Reg.ZPHY_LANE_STATUS_MARKER_LOCK l) = s.get (Reg.ZPHY_LANE_STATUS_MARKER_LOCK l) →
      y.flag (Reg.ZPHY_LANE_STATUS_MARKER_LOCK l) = lock := fun y hy => congrArg (fun n => decide (n = 1)) hy
  have hone : s.lanesOf (l / 4) = [l] → s.allLanes (l / 4) (fun k => s.flag (Reg.ZPHY_LANE_STATUS_MARKER_LOCK k)) = lock ∧
      x.allLanes (l / 4) (fun k => 2 ≤ (x.lane k).seen1) = decide (2 ≤ (s.lane l).seen1) := fun h => by
    have hxl : x.lanesOf (l / 4) = [l] := by
      rw [← h]
      exact congrArg (fun n => (List.range (widthOf n)).map (4 * (l / 4) + ·)) (hregs _)
    have hlane : x.lane l = s.lane l := congrArg (fun y : List Lane => y.getD l _) hlanes
    rw [State.allLanes, State.allLanes, h, hxl, ← hlane]
    simp [lock]
  split
  next hup =>
    obtain ⟨-, hseenTx, hdue, hzeros, hseen⟩ := hup
    refine ⟨hupLanes.trans hlanes, hlock _ ((hupGet _ hkeys.1).trans (hregs _)), (hupGet _ hkeys.2).trans (hregs _), fun h => ?_⟩
    obtain ⟨hall, hsn⟩ := hone h
    have hduex : (x.port (l / 4)).seenDue = lock := (congrArg Port.seenDue hport).trans hall
    refine ⟨hupDue.trans hduex, hupPhase.trans (if_pos ⟨hduex.symm.trans hdue, ?_, ?_, ?_⟩).symm⟩
    · exact (congrArg Port.seenTx hport).symm.trans hseenTx
    · exact (congrArg Port.zeros hport).symm.trans hzeros
    · exact of_decide_eq_true (hsn.symm.trans hseen)
  next hup =>
    refine ⟨hlanes, hlock _ (hregs _), hregs _, fun h => ?_⟩
    obtain ⟨hall, hsn⟩ := hone h
    have hduex : (x.port (l / 4)).seenDue = lock := (congrArg Port.seenDue hport).trans hall
    refine ⟨hduex, hphasex.trans (if_neg ?_).symm⟩
    rintro ⟨hdue, hseenTx, hzeros, hseen⟩
    exact hup ⟨hphasex, (congrArg Port.seenTx hport).trans hseenTx, hduex.trans hdue, (congrArg Port.zeros hport).trans hzeros,
      hsn.trans (decide_eq_true hseen)⟩

/-- A marker that a lane of a port which trains takes, before it is judged: the lane's polarity is as it was. -/
theorem State.onMarker_training (s : State) (hl : l < 16) (hin : l ∈ s.lanesOf (l / 4))
    (hphase : (s.port (l / 4)).phase = .training) (hpol : s.flag (Reg.ZPHY_LANE_STATUS_POL_INV l) = false)
    {marker : Nat} (hm : marker < 2 ^ 64) (hanti : bits marker 0 24 ≠ markerAnti) (pad stuffs errs skew : Nat) :
    let w := (s.set (Reg.ZPHY_LANE_STUFFS_COUNT l) (s.get (Reg.ZPHY_LANE_STUFFS_COUNT l) + stuffs)).incSat
      (Reg.ZPHY_LANE_STUFF_ERR_COUNT l) errs
    s.onMarker l marker pad stuffs errs skew =
      if !markerValid marker || decide (padLimit < pad) then w.markerMiss l
      else ((((w.set (Reg.ZPHY_LANE_PAD_MAX_BITS l) (max (w.get (Reg.ZPHY_LANE_PAD_MAX_BITS l)) pad)).acceptMarker l marker skew).judgeLock
        l).portMasks (l / 4)).afterMarker (l / 4) l := by
  intro w
  have hpolw : w.flag (Reg.ZPHY_LANE_STATUS_POL_INV l) = false := by
    unfold State.flag at hpol ⊢
    rw [State.get_incSat_other, State.get_set_other]
    · exact hpol
    all_goals
      simp only [Fld.key, Reg.ZPHY_LANE_STATUS_POL_INV, Reg.ZPHY_LANE_STUFFS_COUNT, Reg.ZPHY_LANE_STUFF_ERR_COUNT]
      omega
  have horient : w.orient l marker = (w, marker) := by
    unfold State.orient
    rw [hpolw]
    have hlow : low 64 marker = marker := Nat.mod_eq_of_lt hm
    simp only [Bool.false_eq_true, if_false, hlow, if_neg hanti]
  unfold State.onMarker
  extract_lets p
  rw [if_neg (by rw [show (s.port p).phase = .training from hphase]; simp [p, hin])]
  rw [horient]

end Sys2Proof.Machine
end

section
/-! SUPPORT. What a port sends on its lanes: the wind-up burst, the blocks and their markers (R347 to R351, R364). -/

namespace Sys2Proof.Machine

variable {s u v : State} {p : Nat}

/-- Only the lanes, port `p` and the free values taken change. -/
structure OnlyLink (p : Nat) (s u : State) : Prop where
  same : u = { s with lanes := u.lanes, ports := u.ports, free := u.free }
  lanes : u.lanes.length = s.lanes.length
  length : u.ports.length = s.ports.length
  other : ∀ q, q ≠ p → u.port q = s.port q

namespace OnlyLink

theorem refl (s : State) : OnlyLink p s s := ⟨rfl, rfl, rfl, fun _ _ => rfl⟩

theorem trans (h : OnlyLink p s u) (k : OnlyLink p u v) : OnlyLink p s v := by
  obtain ⟨h, hl, hn, ho⟩ := h
  obtain ⟨k, kl, kn, ko⟩ := k
  exact ⟨by rw [k, h], kl.trans hl, kn.trans hn, fun q hq => (ko q hq).trans (ho q hq)⟩

theorem modLane (s : State) (l : Nat) (f : Lane → Lane) : OnlyLink p s (s.modLane l f) :=
  ⟨rfl, modAt_length _ _ _, rfl, fun _ _ => rfl⟩

theorem modPort (s : State) (f : Port → Port) : OnlyLink p s (s.modPort p f) :=
  ⟨rfl, rfl, modAt_length _ _ _, fun _ hq => State.port_modPort_other f hq⟩

theorem used (s : State) : OnlyLink p s s.used := ⟨rfl, rfl, rfl, fun _ _ => rfl⟩

theorem regs (h : OnlyLink p s u) : u.regs = s.regs := by rw [h.same]
theorem host (h : OnlyLink p s u) : u.host = s.host := by rw [h.same]
theorem get (h : OnlyLink p s u) (f : Fld) : u.get f = s.get f := congrArg (fun r => Sparse.get f.reset r f.key) h.regs

/-- Each lane of a list changed once. -/
theorem foldl (f : Nat → Lane → Lane) (ks : List Nat) (s : State) :
    OnlyLink p s (ks.foldl (fun r k => r.modLane (4 * p + k) (f k)) s) :=
  List.foldlRecOn (motive := OnlyLink p s) ks _ (.refl s) fun _ h k _ => h.trans (.modLane _ _ _)

end OnlyLink

theorem lane_foldl_other (f : Nat → Lane → Lane) {ks : List Nat} {k : Nat} (hk : k ∉ ks) (s : State) :
    (ks.foldl (fun r k => r.modLane (4 * p + k) (f k)) s).lane (4 * p + k) = s.lane (4 * p + k) := by
  induction ks generalizing s with
  | nil => rfl
  | cons j ks ih =>
    obtain ⟨hj, hks⟩ := not_or.1 (fun h => hk (List.mem_cons.2 h))
    exact (ih hks _).trans (State.lane_modLane_other _ (by omega))

theorem lane_foldl (f : Nat → Lane → Lane) {ks : List Nat} (hnd : ks.Nodup) {k : Nat} (hk : k ∈ ks) (s : State)
    (hl : 4 * p + k < s.lanes.length) :
    (ks.foldl (fun r k => r.modLane (4 * p + k) (f k)) s).lane (4 * p + k) = f k (s.lane (4 * p + k)) := by
  induction ks generalizing s with
  | nil => exact absurd hk List.not_mem_nil
  | cons j ks ih =>
    obtain ⟨hj, hks⟩ := List.nodup_cons.1 hnd
    rcases List.mem_cons.1 hk with rfl | hin
    · exact (lane_foldl_other f hj _).trans (State.lane_modLane_same hl)
    · have hne : k ≠ j := fun h => hj (h ▸ hin)
      refine (ih hks hin _ (Nat.lt_of_lt_of_eq hl (modAt_length _ _ _).symm)).trans ?_
      rw [State.lane_modLane_other _ (by omega)]

/-! ### Blocks and bursts -/

theorem port_foldl_modLane (f : Nat → Lane → Lane) (ks : List Nat) (s : State) (q : Nat) :
    (ks.foldl (fun r k => r.modLane (4 * p + k) (f k)) s).port q = s.port q :=
  List.foldlRecOn (motive := fun u : State => u.port q = s.port q) ks _ rfl fun _ h _ _ => h

/-- The next block of a port: the markers of its lanes, and SEEN. -/
theorem State.startBlock_starts (s : State) (idle : Bool) (hp : p < s.ports.length) : OnlyLink p s (s.startBlock p idle) ∧
    (s.startBlock p idle).port p = { s.port p with seenTx := (s.port p).nextSeen } ∧
    ∀ k < widthOf (s.port p).txWidth, 4 * p + k < s.lanes.length → (s.startBlock p idle).lane (4 * p + k) = { s.lane (4 * p + k) with
      txMarker := markWord k (s.port p).nextSeen idle (s.port p).txWidth (s.port p).txRate (s.lane (4 * p + k)).txScr } := by
  unfold State.startBlock
  extract_lets q
  have hfold := OnlyLink.foldl (p := p) (fun k x => { x with
      txMarker := markWord k q.nextSeen idle q.txWidth q.txRate x.txScr }) q.txLanes s
  have hport := port_foldl_modLane (p := p) (fun k x => { x with
      txMarker := markWord k q.nextSeen idle q.txWidth q.txRate x.txScr }) q.txLanes s p
  refine ⟨hfold.trans (.modPort _ _), ?_, fun k hk hl => lane_foldl _ List.nodup_range (List.mem_range.2 hk) s hl⟩
  rw [State.port_modPort_same (Nat.lt_of_lt_of_eq hp hfold.length.symm), hport]

theorem widthOf_le (c : Nat) : widthOf c ≤ 4 := by
  unfold widthOf
  split
  · decide
  · split <;> decide

/-- The wind-up burst of a port: it comes before the block that starts, and the scramblers are as they were (R364). -/
theorem State.sendBurst_sends (s : State) (hp4 : p < 4) (hlanes : s.lanes.length = 16) (hp : p < s.ports.length) :
    OnlyLink p s (s.sendBurst p) ∧ (s.sendBurst p).port p = { s.port p with
        txBurst := true, txBlock := [], seenTx := (s.port p).nextSeen } ∧
      ∀ k < widthOf (s.port p).txWidth, ((s.sendBurst p).lane (4 * p + k)).txScr = (s.lane (4 * p + k)).txScr ∧
        ((s.sendBurst p).lane (4 * p + k)).txMarker =
          markWord k (s.port p).nextSeen false (s.port p).txWidth (s.port p).txRate (s.lane (4 * p + k)).txScr := by
  unfold State.sendBurst
  extract_lets s1
  have h1 : OnlyLink p s s1 := .foldl (fun _ x => { x with txLast := none, txRun := 0, txLine := [], txMarker := 0 }) _ s
  have h1port : s1.port p = s.port p := port_foldl_modLane _ _ s p
  have h1lane : ∀ k < 4, s1.lane (4 * p + k) = { s.lane (4 * p + k) with txLast := none, txRun := 0, txLine := [], txMarker := 0 } :=
    fun k hk => lane_foldl (fun _ x => { x with txLast := none, txRun := 0, txLine := [], txMarker := 0 }) List.nodup_range
      (List.mem_range.2 hk) s (by omega)
  clear_value s1
  have h2 : OnlyLink p s1 (s1.modPort p (fun q => { q with txBurst := true, txBlock := [] })) := .modPort _ _
  have h2port : (s1.modPort p (fun q => { q with txBurst := true, txBlock := [] })).port p =
      { s.port p with txBurst := true, txBlock := [] } := by
    rw [State.port_modPort_same (Nat.lt_of_lt_of_eq hp h1.length.symm), h1port]
  have h2lane : ∀ k, (s1.modPort p (fun q => { q with txBurst := true, txBlock := [] })).lane k = s1.lane k := fun _ => rfl
  generalize s1.modPort p (fun q => { q with txBurst := true, txBlock := [] }) = s2 at h2 h2port h2lane
  have h12 := h1.trans h2
  obtain ⟨hlink, hport, hlane⟩ := s2.startBlock_starts (p := p) false (Nat.lt_of_lt_of_eq hp h12.length.symm)
  refine ⟨h12.trans hlink, by rw [hport, h2port]; rfl, fun k hk => ?_⟩
  have hk4 := Nat.lt_of_lt_of_le hk (widthOf_le _)
  rw [hlane k (by rw [h2port]; exact hk) (by rw [h12.lanes]; omega), h2lane, h1lane k hk4, h2port]
  exact ⟨rfl, rfl⟩

/-- The clock of the lanes settles: the port trains with the configuration in use, the reset scramblers and a burst (R349, R360). -/
theorem State.startTraining_trains (s : State) (hp4 : p < 4) (hlanes : s.lanes.length = 16) (hp : p < s.ports.length) :
    let w := s.get (Reg.ZPHY_PORT_STATUS_WIDTH_USED p)
    let r := s.get (Reg.ZPHY_PORT_STATUS_RATE_USED p)
    OnlyLink p s (s.startTraining p) ∧ ((s.startTraining p).port p).phase = .training ∧
      ((s.startTraining p).port p).txWidth = w ∧ ((s.startTraining p).port p).txRate = r ∧
      ((s.startTraining p).port p).txBurst = true ∧
      ∀ k < widthOf w, ((s.startTraining p).lane (4 * p + k)).txScr = 0x1D0C5A71 ^^^ k ∧
        ((s.startTraining p).lane (4 * p + k)).txMarker = markWord k false false w r (0x1D0C5A71 ^^^ k) := by
  intro w r
  unfold State.startTraining
  extract_lets s1
  have h1 : OnlyLink p s s1 := .modPort _ _
  have h1port : s1.port p = { s.port p with phase := .training, seenDue := false, txWidth := w, txRate := r } :=
    State.port_modPort_same hp
  clear_value s1
  have h2 := OnlyLink.foldl (p := p) (fun k x => { x with txScr := (Lane.init k).txScr }) (List.range 4) s1
  have h2port := port_foldl_modLane (p := p) (fun k x => { x with txScr := (Lane.init k).txScr }) (List.range 4) s1 p
  have h2lane := fun k (hk : k < 4) => lane_foldl (p := p) (fun k x => { x with txScr := (Lane.init k).txScr }) List.nodup_range
    (List.mem_range.2 hk) s1 (by rw [h1.lanes]; omega)
  generalize (List.range 4).foldl (fun s k => s.modLane (4 * p + k) (fun x => { x with txScr := (Lane.init k).txScr })) s1 = s2
    at h2 h2port h2lane
  have h12 := h1.trans h2
  rw [h1port] at h2port
  obtain ⟨hlink, hport, hlane⟩ := s2.sendBurst_sends hp4 (h12.lanes.trans hlanes) (Nat.lt_of_lt_of_eq hp h12.length.symm)
  refine ⟨h12.trans hlink, ?_, ?_, ?_, by rw [hport], fun k hk => ?_⟩
  · rw [hport, h2port]
  · rw [hport, h2port]
  · rw [hport, h2port]
  · have hk4 := Nat.lt_of_lt_of_le hk (widthOf_le _)
    obtain ⟨hscr, hmark⟩ := hlane k (by rw [h2port]; exact hk)
    have hinit : (s2.lane (4 * p + k)).txScr = 0x1D0C5A71 ^^^ k := congrArg Lane.txScr (h2lane k hk4)
    rw [hscr, hmark, hinit, h2port]
    exact ⟨rfl, rfl⟩

end Sys2Proof.Machine
end

section
/-! SUPPORT. The way into idle and out of it: IDLE_NEXT, the wind-up burst and the lock that it gives (R363 to R365). -/

namespace Sys2Proof.Machine

variable {s u v : State} {p : Nat}

/-- One lane of a port from its beginning. -/
def State.restLane (s : State) (p : Nat) (used : List Nat) (k : Nat) : State :=
  let l := 4 * p + k
  let s := ((s.modLane l Lane.afresh).loseLock l).setB (Reg.ZPHY_LANE_STATUS_SEEN_RX l) false
  let s := s.setB (Reg.ZPHY_LANE_STATUS_IDLE_RX l) false
  if l ∈ used ∧ (s.port p).phase ≠ .off then s
  else (s.setB (Reg.ZPHY_LANE_STATUS_BIT_LOCK l) false).setB (Reg.ZPHY_LANE_STATUS_ACTIVITY l) false

theorem State.lanesReset_eq (s : State) (p : Nat) : s.lanesReset p =
    (((List.range 4).foldl (fun s' k => s'.restLane p (s.lanesOf p) k) s).modPort p (fun q => { q with rxFlits := 0 })).portMasks p := rfl

theorem State.restLane_parts (s : State) (p : Nat) (used : List Nat) (k : Nat) : (s.restLane p used k).ports = s.ports ∧
    (s.restLane p used k).host = s.host ∧ (s.restLane p used k).lanes.length = s.lanes.length := by
  unfold State.restLane
  extract_lets l s1 s2
  have h2 : s2.ports = s.ports ∧ s2.host = s.host ∧ s2.lanes.length = s.lanes.length := ⟨rfl, rfl, modAt_length _ _ _⟩
  clear_value s2
  split
  · exact h2
  · exact h2

theorem State.restLane_touches (s : State) {p : Nat} (hp : p < 4) (used : List Nat) {k : Nat} (hk : k < 4) :
    Touches (laneKey p) s (s.restLane p used k) ∧
      (s.restLane p used k).get (Reg.ZPHY_LANE_STATUS_MARKER_LOCK (4 * p + k)) = 0 := by
  have hclear : ∀ (u : State) j, j < 6 → Touches (laneKey p) u
      (u.setB ⟨0x190800 + 64 * (4 * p + k), j, 1, .ro, 0, false⟩ false) := fun u j hj =>
    .clear u ⟨4 * p + k, j, by omega, hj, rfl⟩ ⟨4 * p + k, by omega, j, hj, rfl⟩
  have hflag := laneFlag_markerLock (l := 4 * p + k) (by omega)
  unfold State.restLane
  extract_lets l s1 s2
  have hlock := (Touches.modLane (P := laneKey p) s l Lane.afresh).trans (hclear _ 1 (by decide))
  have hzero : ((s.modLane l Lane.afresh).setB (Reg.ZPHY_LANE_STATUS_MARKER_LOCK l) false).get
      (Reg.ZPHY_LANE_STATUS_MARKER_LOCK (4 * p + k)) = 0 := State.get_set_same ..
  have hrest : Touches (laneKey p) ((s.modLane l Lane.afresh).setB (Reg.ZPHY_LANE_STATUS_MARKER_LOCK l) false) s2 :=
    ((hclear _ 2 (by decide)).trans (hclear _ 3 (by decide))).trans (hclear _ 4 (by decide))
  clear_value s2
  have hend : Touches (laneKey p) s2 (if l ∈ used ∧ (s2.port p).phase ≠ .off then s2
      else (s2.setB (Reg.ZPHY_LANE_STATUS_BIT_LOCK l) false).setB (Reg.ZPHY_LANE_STATUS_ACTIVITY l) false) :=
    .ite (.refl _) ((hclear _ 0 (by decide)).trans (hclear _ 5 (by decide)))
  exact ⟨(hlock.trans hrest).trans hend, hend.low _ hflag (hrest.low _ hflag hzero)⟩

theorem State.lanesReset_parts (s : State) (p : Nat) : (s.lanesReset p).ports = modAt (fun q => { q with rxFlits := 0 }) p s.ports ∧
    (s.lanesReset p).host = s.host ∧ (s.lanesReset p).lanes.length = s.lanes.length := by
  have hfold : ∀ (used ks : List Nat) (u : State), (ks.foldl (fun s' k => s'.restLane p used k) u).ports = u.ports ∧
      (ks.foldl (fun s' k => s'.restLane p used k) u).host = u.host ∧
      (ks.foldl (fun s' k => s'.restLane p used k) u).lanes.length = u.lanes.length := fun used ks u =>
    List.foldlRecOn (motive := fun w : State => w.ports = u.ports ∧ w.host = u.host ∧ w.lanes.length = u.lanes.length) ks _
      ⟨rfl, rfl, rfl⟩ fun w ⟨hp, hh, hl⟩ k _ => by
        obtain ⟨kp, kh, kl⟩ := w.restLane_parts p used k
        exact ⟨kp.trans hp, kh.trans hh, kl.trans hl⟩
  obtain ⟨hports, hhost, hlanes⟩ := hfold (s.lanesOf p) (List.range 4) s
  rw [State.lanesReset_eq]
  obtain ⟨mports, mlanes, mhost⟩ := State.portMasks_parts (((List.range 4).foldl (fun s' k => s'.restLane p (s.lanesOf p) k) s).modPort
    p (fun q => { q with rxFlits := 0 })) p
  rw [mports, mlanes, mhost]
  exact ⟨congrArg (modAt _ p) hports, hhost, hlanes⟩

/-- Lanes that begin anew have no lock. -/
theorem State.lanesReset_unlocks (s : State) (hp : p < 4) {k : Nat} (hk : k < 4) :
    (s.lanesReset p).get (Reg.ZPHY_LANE_STATUS_MARKER_LOCK (4 * p + k)) = 0 := by
  have hflag := laneFlag_markerLock (l := 4 * p + k) (by omega)
  have hkeep : ∀ (used ks : List Nat), (∀ j ∈ ks, j < 4) → ∀ u : State,
      u.get (Reg.ZPHY_LANE_STATUS_MARKER_LOCK (4 * p + k)) = 0 ∨ k ∈ ks →
      (ks.foldl (fun s' k => s'.restLane p used k) u).get (Reg.ZPHY_LANE_STATUS_MARKER_LOCK (4 * p + k)) = 0 := by
    intro used ks
    induction ks with
    | nil => exact fun _ u h => h.resolve_right List.not_mem_nil
    | cons j ks ih =>
      intro hks u h
      obtain ⟨htouch, hzero⟩ := u.restLane_touches hp used (hks j List.mem_cons_self)
      refine ih (fun i hi => hks i (List.mem_cons_of_mem _ hi)) _ ?_
      rcases h with h | h
      · exact .inl (htouch.low _ hflag h)
      · rcases List.mem_cons.1 h with rfl | h
        · exact .inl hzero
        · exact .inr h
  rw [State.lanesReset_eq]
  exact (Touches.portMasks _ p).low _ hflag
    (hkeep (s.lanesOf p) (List.range 4) (fun j hj => List.mem_range.1 hj) s (.inr (List.mem_range.2 hk)))

end Sys2Proof.Machine
end

section
/-! SUPPORT. The way into idle and out of it, continued (R363 to R365). -/

namespace Sys2Proof.Machine

variable {s u v : State} {p : Nat}

theorem State.mem_lanesOf {l : Nat} (h : l ∈ s.lanesOf p) : ∃ k < widthOf (s.get (Reg.ZPHY_PORT_STATUS_WIDTH_USED p)), l = 4 * p + k := by
  obtain ⟨k, hk, rfl⟩ := List.mem_map.1 h
  exact ⟨k, List.mem_range.1 hk, rfl⟩

theorem State.lanesOf_nodup (s : State) (p : Nat) : (s.lanesOf p).Nodup :=
  List.nodup_range.map fun _ _ h => Nat.add_left_cancel h

/-- A port in idle that sends its burst (R364). -/
theorem State.windUpPort_wakes (s : State) (hp4 : p < 4) (hlanes : s.lanes.length = 16) (hp : p < s.ports.length)
    (burst : Option Nat) (woken : Bool) :
    let v := s.windUpPort p burst woken
    ((v.port p).phase = .waking ∧ (v.port p).woken = woken ∧ (v.port p).burstAt = burst ∧ (v.port p).txBurst = true) ∧
      v.host = s.host ∧ v.lanes.length = 16 ∧ v.ports.length = s.ports.length ∧ v.lanesOf p = s.lanesOf p ∧
      ∀ k < 4, v.get (Reg.ZPHY_LANE_STATUS_MARKER_LOCK (4 * p + k)) = 0 := by
  unfold State.windUpPort
  generalize hx : s.modPort p (fun q => { q with phase := .waking, woken := woken, burstAt := burst }) = x
  have hport : x.port p = { s.port p with phase := .waking, woken := woken, burstAt := burst } := by
    rw [← hx]
    exact State.port_modPort_same hp
  obtain ⟨hxl, hxh, hxn, hxget⟩ : x.lanes = s.lanes ∧ x.host = s.host ∧ x.ports.length = s.ports.length ∧ ∀ f, x.get f = s.get f := by
    rw [← hx]
    exact ⟨rfl, rfl, modAt_length _ _ _, fun _ => rfl⟩
  obtain ⟨hrp, hrh, hrl⟩ := x.lanesReset_parts p
  have hunlock := fun k (hk : k < 4) => x.lanesReset_unlocks hp4 hk
  have hwidth : (x.lanesReset p).get (Reg.ZPHY_PORT_STATUS_WIDTH_USED p) = x.get (Reg.ZPHY_PORT_STATUS_WIDTH_USED p) := by
    refine (Touches.lanesReset x hp4).get _ ?_
    simp only [portKey, laneKey, Fld.key, Reg.ZPHY_PORT_STATUS_WIDTH_USED, List.mem_cons, List.not_mem_nil, or_false]
    omega
  have hrport : (x.lanesReset p).port p = { x.port p with rxFlits := 0 } := by
    have hx' := modAt_getD_same (fun q : Port => { q with rxFlits := 0 }) (Port.init false) p x.ports (Nat.lt_of_lt_of_eq hp hxn.symm)
    rw [← hrp] at hx'
    exact hx'
  have hrn : (x.lanesReset p).ports.length = s.ports.length := by rw [hrp, modAt_length, hxn]
  generalize x.lanesReset p = y at hrp hrh hrl hunlock hwidth hrport hrn
  obtain ⟨hlink, hsport, -⟩ := y.sendBurst_sends hp4 (by rw [hrl, hxl, hlanes]) (Nat.lt_of_lt_of_eq hp hrn.symm)
  rw [hrport, hport] at hsport
  refine ⟨⟨congrArg Port.phase hsport, congrArg Port.woken hsport, congrArg Port.burstAt hsport, congrArg Port.txBurst hsport⟩,
    hlink.host.trans (hrh.trans hxh), hlink.lanes.trans (by rw [hrl, hxl, hlanes]), hlink.length.trans hrn, ?_, fun k hk =>
    (hlink.get _).trans (hunlock k hk)⟩
  have hw := (hlink.get (Reg.ZPHY_PORT_STATUS_WIDTH_USED p)).trans (hwidth.trans (hxget _))
  unfold State.lanesOf
  rw [hw]

/-- Each lane of a list given lock, with its run of markers begun. -/
theorem foldl_burstLock (f : Lane → Lane) (ks : List Nat) (hnd : ks.Nodup) (s : State) (hks : ∀ l ∈ ks, l < s.lanes.length) :
    let v := ks.foldl (fun s l => (s.modLane l f).setB (Reg.ZPHY_LANE_STATUS_MARKER_LOCK l) true) s
    v.ports = s.ports ∧ v.host = s.host ∧
      (∀ l, v.lane l = if l ∈ ks then f (s.lane l) else s.lane l) ∧
      ∀ l, v.flag (Reg.ZPHY_LANE_STATUS_MARKER_LOCK l) = (decide (l ∈ ks) || s.flag (Reg.ZPHY_LANE_STATUS_MARKER_LOCK l)) := by
  induction ks generalizing s with
  | nil => exact ⟨rfl, rfl, fun l => (if_neg List.not_mem_nil).symm, fun l => rfl⟩
  | cons j ks ih =>
    obtain ⟨hj, hks'⟩ := List.nodup_cons.1 hnd
    have hjl := hks j List.mem_cons_self
    have hlane : ∀ l, ((s.modLane j f).setB (Reg.ZPHY_LANE_STATUS_MARKER_LOCK j) true).lane l = if l = j then f (s.lane l) else s.lane l := by
      intro l
      by_cases h : l = j
      · subst h
        rw [if_pos rfl]
        exact State.lane_modLane_same hjl
      · rw [if_neg h]
        exact State.lane_modLane_other _ h
    have hflag : ∀ l, ((s.modLane j f).setB (Reg.ZPHY_LANE_STATUS_MARKER_LOCK j) true).flag (Reg.ZPHY_LANE_STATUS_MARKER_LOCK l) =
        (decide (l = j) || s.flag (Reg.ZPHY_LANE_STATUS_MARKER_LOCK l)) := by
      intro l
      by_cases h : l = j
      · subst h
        rw [decide_eq_true rfl]
        exact State.flag_setB_same _ _ _ Nat.one_ne_zero
      · rw [decide_eq_false h, Bool.false_or]
        refine congrArg (fun n => decide (n = 1)) (State.get_setB_other (s.modLane j f) ?_ true)
        simp only [Fld.key, Reg.ZPHY_LANE_STATUS_MARKER_LOCK]
        omega
    have hparts : ((s.modLane j f).setB (Reg.ZPHY_LANE_STATUS_MARKER_LOCK j) true).ports = s.ports ∧
        ((s.modLane j f).setB (Reg.ZPHY_LANE_STATUS_MARKER_LOCK j) true).host = s.host ∧
        ((s.modLane j f).setB (Reg.ZPHY_LANE_STATUS_MARKER_LOCK j) true).lanes.length = s.lanes.length := ⟨rfl, rfl, modAt_length _ _ _⟩
    generalize hx : (s.modLane j f).setB (Reg.ZPHY_LANE_STATUS_MARKER_LOCK j) true = x at hlane hflag hparts
    obtain ⟨hp, hh, hn⟩ := hparts
    obtain ⟨ip, ih', il, ifl⟩ := ih hks' x (fun l hl => by rw [hn]; exact hks l (List.mem_cons_of_mem _ hl))
    intro v
    have hv : v = ks.foldl (fun s l => (s.modLane l f).setB (Reg.ZPHY_LANE_STATUS_MARKER_LOCK l) true) x := by rw [← hx]; rfl
    rw [hv]
    refine ⟨ip.trans hp, ih'.trans hh, fun l => ?_, fun l => ?_⟩
    · rw [il l, hlane l]
      by_cases h : l = j
      · subst h; simp [hj]
      · simp [h]
    · rw [ifl l, hflag l]
      by_cases h : l = j
      · simp [h]
      · simp [h]

/-- A powered receiver takes a burst's marker as its lock (R365). -/
theorem State.burstLock_locks (s : State) (hp4 : p < 4) (hlanes : s.lanes.length = 16) :
    (s.burstLock p).ports = s.ports ∧ (s.burstLock p).host = s.host ∧ ∀ l ∈ s.lanesOf p,
      (s.burstLock p).flag (Reg.ZPHY_LANE_STATUS_MARKER_LOCK l) = true ∧
      ((s.burstLock p).lane l).seen1 = (s.lane l).seen1 + 1 := by
  unfold State.burstLock
  have hfold := foldl_burstLock (fun x => { x.block true with good := x.good + 1, seen1 := x.seen1 + 1 }) (s.lanesOf p)
    (s.lanesOf_nodup p) s (fun l hl => by
      obtain ⟨k, hk, rfl⟩ := State.mem_lanesOf hl
      have := widthOf_le (s.get (Reg.ZPHY_PORT_STATUS_WIDTH_USED p))
      omega)
  dsimp only at hfold
  generalize (s.lanesOf p).foldl (fun s l => (s.modLane l (fun x => { x.block true with
    good := x.good + 1, seen1 := x.seen1 + 1 })).setB (Reg.ZPHY_LANE_STATUS_MARKER_LOCK l) true) s = x at hfold
  obtain ⟨hp, hh, hl, hf⟩ := hfold
  obtain ⟨mp, ml, mh⟩ := State.portMasks_parts x p
  refine ⟨mp.trans hp, mh.trans hh, fun l hin => ⟨?_, ?_⟩⟩
  · have hkeep : (x.portMasks p).get (Reg.ZPHY_LANE_STATUS_MARKER_LOCK l) = x.get (Reg.ZPHY_LANE_STATUS_MARKER_LOCK l) :=
      (Touches.portMasks x p).get _ fun h => portKey_lane h (l / 4) ⟨l, 1, rfl, by decide, rfl⟩
    refine (congrArg (fun n => decide (n = 1)) hkeep).trans ((hf l).trans ?_)
    rw [decide_eq_true hin]
    rfl
  · have hsame : (x.portMasks p).lane l = x.lane l := congrArg (fun y : List Lane => y.getD l _) ml
    rw [hsame, hl l, if_pos hin]

end Sys2Proof.Machine
end

section
/-! SUPPORT. Blocks that end, the markers of a port, and the marker that announces idle (R348, R351, R363). -/

namespace Sys2Proof.Machine

variable {s u v : State} {p : Nat}

/-! ### Markers -/

/-- A marker in its parts: the fields below CHECK, and CHECK. -/
theorem markWord_parts (k : Nat) (seen idle : Bool) (width rate seed : Nat) : ∃ c < 2,
    markWord k seen idle width rate seed = markerSync + 2 ^ 24 * (k % 4) + 2 ^ 26 * seen.toNat + 2 ^ 27 * idle.toNat +
      2 ^ 28 * (width % 4) + 2 ^ 30 * (rate % 4) + 2 ^ 32 * (seed % 2 ^ 31) + 2 ^ 63 * c := by
  unfold markWord
  extract_lets m
  by_cases h : oddOnes 63 m = true
  · exact ⟨0, by decide, if_pos h⟩
  · refine ⟨1, by decide, if_neg h⟩

theorem markWord_fields (k : Nat) (seen idle : Bool) (width rate seed : Nat) :
    let m := markWord k seen idle width rate seed
    m < 2 ^ 64 ∧ bits m 0 24 = markerSync ∧ bits m 32 31 = seed % 2 ^ 31 ∧ bit m 27 = idle := by
  obtain ⟨c, hc, hm⟩ := markWord_parts k seen idle width rate seed
  have hseen := Bool.toNat_lt seen
  have hidle := Bool.toNat_lt idle
  intro m
  rw [show m = _ from hm]
  simp only [bits, bit, markerSync]
  refine ⟨by omega, by omega, by omega, ?_⟩
  cases idle
  · exact decide_eq_false (by simp only [Bool.toNat_false]; omega)
  · exact decide_eq_true (by simp only [Bool.toNat_true]; omega)

/-! ### Blocks that end -/

theorem State.endBlock_ends (s : State) (block : List Byte) (hp : p < s.ports.length) :
    OnlyLink p s (s.endBlock p block) ∧ (s.endBlock p block).port p = { s.port p with
      txBurst := false, txBlock := [], zeros := if (s.port p).seenTx then (s.port p).zeros else (s.port p).zeros - 1 } ∧
    ∀ k < widthOf (s.port p).txWidth, 4 * p + k < s.lanes.length → ∃ pad,
      (s.endBlock p block).lane (4 * p + k) = { (s.lane (4 * p + k)).sent (s.laneLine p k block ++ pad) with
        txScr := prbsAdv blockBits (s.lane (4 * p + k)).txScr } := by
  unfold State.endBlock
  extract_lets q longest put
  have hput : put = fun r k => r.modLane (4 * p + k) ((fun k x => { x.sent (s.laneLine p k block ++
      padBits ((s.laneLine p k block).getLastD false) (padLen longest (s.laneLine p k block).length)) with
        txScr := prbsAdv blockBits x.txScr }) k) := rfl
  have hfold := OnlyLink.foldl (p := p) (fun k x => { x.sent (s.laneLine p k block ++
      padBits ((s.laneLine p k block).getLastD false) (padLen longest (s.laneLine p k block).length)) with
        txScr := prbsAdv blockBits x.txScr }) q.txLanes s
  have hport := port_foldl_modLane (p := p) (fun k x => { x.sent (s.laneLine p k block ++
      padBits ((s.laneLine p k block).getLastD false) (padLen longest (s.laneLine p k block).length)) with
        txScr := prbsAdv blockBits x.txScr }) q.txLanes s p
  rw [hput]
  refine ⟨hfold.trans (.modPort _ _), ?_, fun k hk hl => ⟨_, lane_foldl _ List.nodup_range (List.mem_range.2 hk) s hl⟩⟩
  rw [State.port_modPort_same (Nat.lt_of_lt_of_eq hp hfold.length.symm), hport]

/-- IDLE_NEXT on every lane of a port (R363). -/
theorem State.sendIdleNext_sends (s : State) (hp4 : p < 4) (hlanes : s.lanes.length = 16) (hp : p < s.ports.length) :
    OnlyLink p s (s.sendIdleNext p) ∧ ((s.sendIdleNext p).port p).replay = (s.port p).replay ∧
    ∀ k < widthOf (s.port p).txWidth, bit ((s.sendIdleNext p).lane (4 * p + k)).txMarker 27 = true := by
  obtain ⟨hend, hendport, -⟩ := s.endBlock_ends ((s.port p).txBlock ++ s.fillBytes ((s.port p).blockLen - (s.port p).txBlock.length)) hp
  have heq : s.sendIdleNext p = (s.port p).txLanes.foldl (fun r k => r.modLane (4 * p + k) (fun x =>
      x.sent (stuff x.txLast x.txRun (lsbBits 64 x.txMarker)))) (((s.endBlock p ((s.port p).txBlock ++
        s.fillBytes ((s.port p).blockLen - (s.port p).txBlock.length))).used).startBlock p true) := rfl
  rw [heq]
  clear heq
  generalize s.endBlock p ((s.port p).txBlock ++ s.fillBytes ((s.port p).blockLen - (s.port p).txBlock.length)) = x at hend hendport ⊢
  have hused := hend.trans (OnlyLink.used x)
  obtain ⟨hstart, hsport, hslane⟩ := x.used.startBlock_starts (p := p) true (Nat.lt_of_lt_of_eq hp hused.length.symm)
  have husedport : x.used.port p = x.port p := rfl
  rw [husedport, hendport] at hslane hsport
  generalize x.used.startBlock p true = s1 at hstart hsport hslane ⊢
  generalize hq : s.port p = q at hslane hsport ⊢
  have hreplay : (s1.port p).replay = q.replay := (congrArg Port.replay hsport :)
  have hlast := OnlyLink.foldl (p := p) (fun _ x => x.sent (stuff x.txLast x.txRun (lsbBits 64 x.txMarker))) q.txLanes s1
  have hlastport := port_foldl_modLane (p := p) (fun _ x => x.sent (stuff x.txLast x.txRun (lsbBits 64 x.txMarker))) q.txLanes s1 p
  refine ⟨(hused.trans hstart).trans hlast, (congrArg Port.replay hlastport).trans hreplay, fun k hk => ?_⟩
  have hk4 := Nat.lt_of_lt_of_le hk (widthOf_le _)
  have hlen : s1.lanes.length = 16 := hstart.lanes.trans (hused.lanes.trans hlanes)
  have hlane := lane_foldl (p := p) (fun _ x => x.sent (stuff x.txLast x.txRun (lsbBits 64 x.txMarker)))
    (ks := q.txLanes) List.nodup_range (List.mem_range.2 hk) s1 (by omega)
  refine (congrArg (fun x : Lane => bit x.txMarker 27) hlane).trans ?_
  have hmark := congrArg Lane.txMarker (hslane k hk (by rw [hused.lanes]; omega))
  rw [show ((s1.lane (4 * p + k)).sent (stuff (s1.lane (4 * p + k)).txLast (s1.lane (4 * p + k)).txRun
    (lsbBits 64 (s1.lane (4 * p + k)).txMarker))).txMarker = (s1.lane (4 * p + k)).txMarker from rfl, hmark]
  exact (markWord_fields ..).2.2.2

end Sys2Proof.Machine
end

section
/-! SUPPORT. The events of the lanes, one by one (O51). -/

namespace Sys2Proof.Machine

variable {s : State} {t : Nat}

theorem State.elapse_lane (s : State) (t l : Nat) : (s.elapse t).lane l = s.lane l :=
  congrArg (fun x : List Lane => x.getD l _) (State.elapse_lanes s t)

theorem State.elapse_lanesOf (s : State) (t p : Nat) : (s.elapse t).lanesOf p = s.lanesOf p := by
  unfold State.lanesOf
  rw [State.elapse_get]

theorem State.lanesOf_lt {p l : Nat} (hp : p < 4) (h : l ∈ s.lanesOf p) : ∃ k < 4, l = 4 * p + k := by
  obtain ⟨k, hk, rfl⟩ := State.mem_lanesOf h
  exact ⟨k, Nat.lt_of_lt_of_le hk (widthOf_le _), rfl⟩

theorem Missed.of_same {s u v : State} {l : Nat} (h : Missed u l v)
    (hget : u.get (Reg.ZPHY_LANE_MARKER_ERR_COUNT l) = s.get (Reg.ZPHY_LANE_MARKER_ERR_COUNT l))
    (hlanes : u.lanes = s.lanes) (hports : u.ports = s.ports) (hhost : u.host = s.host) : Missed s l v := by
  have hlane : u.lane l = s.lane l := congrArg (fun x : List Lane => x.getD l _) hlanes
  have hport : u.port (l / 4) = s.port (l / 4) := congrArg (fun x : List Port => x.getD (l / 4) _) hports
  unfold Missed at h ⊢
  rw [hget, hlane, hport, hhost] at h
  exact h

theorem alignmentMarker_ignored (hr : Running s) (l : Fin 16) (marker pad stuffs errs skew : Nat)
    (h : ¬(s.port (l / 4)).phase ∈ [.training, .up, .waking] ∨ (l : Nat) ∉ s.lanesOf (l / 4)) :
    exec (.alignmentMarker l marker pad stuffs errs skew t) s = .next (s.elapse t) := by
  show execAlignmentMarker l marker pad stuffs errs skew t s = _
  unfold execAlignmentMarker
  rw [event_running hr]
  exact congrArg _ (if_pos (by rw [State.elapse_port, State.elapse_lanesOf]; exact h))

/-- A marker of a lane that trains: taken where it is valid and in its place, else missed. -/
theorem alignmentMarker_training (hr : Running s) (hlanes : s.lanes.length = 16) (hports : s.ports.length = 4) (l : Fin 16)
    {marker : Nat} (pad stuffs errs skew : Nat) (hin : (l : Nat) ∈ s.lanesOf (l / 4))
    (hphase : (s.port (l / 4)).phase = .training) (hpol : s.flag (Reg.ZPHY_LANE_STATUS_POL_INV l) = false)
    (hm : marker < 2 ^ 64) (hanti : bits marker 0 24 ≠ markerAnti) :
    (markerValid marker = true → pad ≤ padLimit → bits marker 24 2 = l % 4 →
      bits marker 28 2 = s.get (Reg.ZPHY_PORT_STATUS_WIDTH_USED (l / 4)) → skew ≤ 400 →
      let lock := s.flag (Reg.ZPHY_LANE_STATUS_MARKER_LOCK l) || decide (3 ≤ (s.lane l).good + 1)
      let seen1 := if bit marker 26 then (s.lane l).seen1 + 1 else 0
      ∃ v, exec (.alignmentMarker l marker pad stuffs errs skew t) s = .next v ∧
        (v.lane l).good = (s.lane l).good + 1 ∧ (v.lane l).missed = 0 ∧ (v.lane l).seen1 = seen1 ∧
        (v.lane l).scr = some (bits marker 32 31) ∧ v.flag (Reg.ZPHY_LANE_STATUS_MARKER_LOCK l) = lock ∧
        v.get (Reg.ZPHY_LANE_STATUS_SKEW l) = skew ∧
        (s.lanesOf (l / 4) = [(l : Nat)] → (v.port (l / 4)).seenDue = lock ∧
          (v.port (l / 4)).phase =
            if lock = true ∧ (s.port (l / 4)).seenTx = true ∧ (s.port (l / 4)).zeros = 0 ∧ 2 ≤ seen1
            then .up else .training)) ∧
    (markerValid marker = false ∨ padLimit < pad →
      ∃ v, exec (.alignmentMarker l marker pad stuffs errs skew t) s = .next v ∧ Missed s l v) := by
  have hl := l.isLt
  have hp : (l : Nat) / 4 < s.ports.length := by omega
  have hexec : exec (.alignmentMarker l marker pad stuffs errs skew t) s =
      .next ((s.elapse t).onMarker l marker pad stuffs errs skew) := by
    show execAlignmentMarker l marker pad stuffs errs skew t s = _
    unfold execAlignmentMarker
    rw [event_running hr]
  have htrain := (s.elapse t).onMarker_training hl (by rw [State.elapse_lanesOf]; exact hin)
    (by rw [State.elapse_port]; exact hphase) (by rw [State.elapse_flag]; exact hpol) hm hanti pad stuffs errs skew
  dsimp only at htrain
  have hstuffs : MarkerFrame l (s.elapse t) (((s.elapse t).set (Reg.ZPHY_LANE_STUFFS_COUNT l)
      ((s.elapse t).get (Reg.ZPHY_LANE_STUFFS_COUNT l) + stuffs)).incSat (Reg.ZPHY_LANE_STUFF_ERR_COUNT l) errs) :=
    (MarkerFrame.set _ hl (f := Reg.ZPHY_LANE_STUFFS_COUNT l) (Nat.zero_lt_succ _) (.inr (by simp [Reg.ZPHY_LANE_STUFFS_COUNT])) _).trans
      (.set _ hl (f := Reg.ZPHY_LANE_STUFF_ERR_COUNT l) (Nat.zero_lt_succ _) (.inr (by simp [Reg.ZPHY_LANE_STUFF_ERR_COUNT])) _)
  have hmissed : (((s.elapse t).set (Reg.ZPHY_LANE_STUFFS_COUNT l)
      ((s.elapse t).get (Reg.ZPHY_LANE_STUFFS_COUNT l) + stuffs)).incSat (Reg.ZPHY_LANE_STUFF_ERR_COUNT l) errs).get
        (Reg.ZPHY_LANE_MARKER_ERR_COUNT l) = s.get (Reg.ZPHY_LANE_MARKER_ERR_COUNT l) := by
    rw [State.get_incSat_other, State.get_set_other, State.elapse_get]
    all_goals
      simp only [Fld.key, Reg.ZPHY_LANE_MARKER_ERR_COUNT, Reg.ZPHY_LANE_STUFFS_COUNT, Reg.ZPHY_LANE_STUFF_ERR_COUNT]
      omega
  have hsame : (((s.elapse t).set (Reg.ZPHY_LANE_STUFFS_COUNT l)
      ((s.elapse t).get (Reg.ZPHY_LANE_STUFFS_COUNT l) + stuffs)).incSat (Reg.ZPHY_LANE_STUFF_ERR_COUNT l) errs).lanes = s.lanes ∧
      (((s.elapse t).set (Reg.ZPHY_LANE_STUFFS_COUNT l)
      ((s.elapse t).get (Reg.ZPHY_LANE_STUFFS_COUNT l) + stuffs)).incSat (Reg.ZPHY_LANE_STUFF_ERR_COUNT l) errs).host = s.host :=
    ⟨State.elapse_lanes s t, State.elapse_host s t⟩
  generalize ((s.elapse t).set (Reg.ZPHY_LANE_STUFFS_COUNT l)
      ((s.elapse t).get (Reg.ZPHY_LANE_STUFFS_COUNT l) + stuffs)).incSat (Reg.ZPHY_LANE_STUFF_ERR_COUNT l) errs = w
    at htrain hstuffs hmissed hsame
  obtain ⟨hwl, hwh⟩ := hsame
  have hwp : w.ports = s.ports := hstuffs.ports.trans (State.elapse_ports s t)
  rw [htrain] at hexec
  refine ⟨fun hvalid hpad hlane hwidth hskew => ?_, fun hbad => ?_⟩
  · rw [if_neg (by simp [hvalid, Nat.not_lt.2 hpad])] at hexec
    have hpadset : MarkerFrame l w (w.set (Reg.ZPHY_LANE_PAD_MAX_BITS l) (max (w.get (Reg.ZPHY_LANE_PAD_MAX_BITS l)) pad)) :=
      .set w hl (f := Reg.ZPHY_LANE_PAD_MAX_BITS l) (Nat.zero_lt_succ _) (.inr (by simp [Reg.ZPHY_LANE_PAD_MAX_BITS])) _
    have hxl : (w.set (Reg.ZPHY_LANE_PAD_MAX_BITS l) (max (w.get (Reg.ZPHY_LANE_PAD_MAX_BITS l)) pad)).lanes = s.lanes := hwl
    generalize w.set (Reg.ZPHY_LANE_PAD_MAX_BITS l) (max (w.get (Reg.ZPHY_LANE_PAD_MAX_BITS l)) pad) = x at hexec hpadset hxl
    have hframe := hstuffs.trans hpadset
    have hxlane : x.lane l = s.lane l := congrArg (fun y : List Lane => y.getD l _) hxl
    obtain ⟨haccept, halen, haskew, hgood, hmiss, hscr, hseen, hfar⟩ := x.acceptMarker_lane hl (by rw [hxl, hlanes]) marker skew
    have hall := hframe.trans haccept
    have hwide : x.get (Reg.ZPHY_PORT_STATUS_WIDTH_USED (l / 4)) = s.get (Reg.ZPHY_PORT_STATUS_WIDTH_USED (l / 4)) :=
      hframe.width.trans (State.elapse_get s t _)
    rw [hwide, hxlane, hlane, hwidth, decide_eq_false (by omega)] at hgood
    rw [decide_eq_false (by omega)] at hfar
    rw [hxlane] at hseen
    have hgood' : ((x.acceptMarker l marker skew).lane l).good = (s.lane l).good + 1 := by rw [hgood]; simp
    generalize x.acceptMarker l marker skew = a at hexec haccept halen haskew hgood' hmiss hscr hseen hfar hall
    have haports : a.ports = s.ports := hall.ports.trans (State.elapse_ports s t)
    have hsameports : ∀ y : State, y.ports = s.ports → y.port (l / 4) = s.port (l / 4) := fun y hy =>
      congrArg (fun z : List Port => z.getD (l / 4) _) hy
    obtain ⟨hjl, hjp, hjskew, hjwidth, hjlock⟩ := a.judgeLock_training (l := l) (by rw [hsameports a haports]; exact hphase) hfar
    have hlockeq : a.flag (Reg.ZPHY_LANE_STATUS_MARKER_LOCK l) = s.flag (Reg.ZPHY_LANE_STATUS_MARKER_LOCK l) :=
      congrArg (fun n => decide (n = 1)) (hall.lock.trans (State.elapse_get s t _))
    rw [hlockeq, hgood'] at hjlock
    generalize a.judgeLock l = j at hexec hjl hjp hjskew hjwidth hjlock
    obtain ⟨hmp, hml, -⟩ := j.portMasks_parts (l / 4)
    have hmkeep : ∀ f : Fld, ¬portKey (l / 4) f.key → (j.portMasks (l / 4)).get f = j.get f := (Touches.portMasks j _).get
    have hnotport : ¬portKey (l / 4) (Reg.ZPHY_LANE_STATUS_MARKER_LOCK l).key ∧ ¬portKey (l / 4) (Reg.ZPHY_LANE_STATUS_SKEW l).key ∧
        ¬portKey (l / 4) (Reg.ZPHY_PORT_STATUS_WIDTH_USED (l / 4)).key := by
      simp only [portKey, Fld.key, Reg.ZPHY_LANE_STATUS_MARKER_LOCK, Reg.ZPHY_LANE_STATUS_SKEW, Reg.ZPHY_PORT_STATUS_WIDTH_USED,
        List.mem_cons, List.not_mem_nil, or_false]
      omega
    have hmlock : (j.portMasks (l / 4)).flag (Reg.ZPHY_LANE_STATUS_MARKER_LOCK l) =
        (s.flag (Reg.ZPHY_LANE_STATUS_MARKER_LOCK l) || decide (3 ≤ (s.lane l).good + 1)) :=
      (congrArg (fun n => decide (n = 1)) (hmkeep _ hnotport.1)).trans hjlock
    have hmskew := (hmkeep _ hnotport.2.1).trans (hjskew.trans haskew)
    have hmlanes : (j.portMasks (l / 4)).lanesOf (l / 4) = s.lanesOf (l / 4) := by
      unfold State.lanesOf
      rw [hmkeep _ hnotport.2.2, hjwidth, hall.width, State.elapse_get]
    generalize j.portMasks (l / 4) = m at hexec hmp hml hmlock hmskew hmlanes
    have hmports : m.ports = s.ports := (hmp.trans hjp).trans haports
    have hmport := hsameports m hmports
    have hmlane : m.lane l = a.lane l := congrArg (fun y : List Lane => y.getD l _) (hml.trans hjl)
    obtain ⟨hal, halock, haskw, haone⟩ := m.afterMarker_training hl (by rw [hmports]; exact hp) (by rw [hmport]; exact hphase)
    have hvlane : (m.afterMarker (l / 4) l).lane l = a.lane l :=
      (congrArg (fun y : List Lane => y.getD l _) hal : (m.afterMarker (l / 4) l).lane l = m.lane l).trans hmlane
    rw [hmlock, hmport, hmlane, hseen, hmlanes] at haone
    refine ⟨_, hexec, ?_, ?_, ?_, ?_, halock.trans hmlock, ?_, haone⟩
    · rw [hvlane]; exact hgood'
    · rw [hvlane]; exact hmiss
    · rw [hvlane]; exact hseen
    · rw [hvlane]; exact hscr
    · rw [haskw, hmskew, low, Nat.min_eq_left (by omega)]
      exact Nat.mod_eq_of_lt (Nat.lt_of_le_of_lt hskew (by decide))
  · rw [if_pos (by rcases hbad with h | h <;> simp [h])] at hexec
    exact ⟨_, hexec, (w.markerMiss_missed hl (by rw [hwl, hlanes]) (by rw [hwp, hports])).of_same hmissed hwl hwp hwh⟩

end Sys2Proof.Machine
end

section
/-! SUPPORT. The events of the lanes and of a port's clock, burst and idle; obligation O51. -/

namespace Sys2Proof.Machine

variable {s : State} {t : Nat}

theorem receives_decide {q : PortPhase} (h : q ∈ [PortPhase.training, .up, .waking]) :
    decide (q ∈ [PortPhase.training, .up, .waking]) = true := decide_eq_true h

theorem markerWindowMiss_misses (hr : Running s) (hlanes : s.lanes.length = 16) (hports : s.ports.length = 4) (l : Fin 16)
    (hin : (l : Nat) ∈ s.lanesOf (l / 4)) (hphase : (s.port (l / 4)).phase ∈ [.training, .up, .waking]) :
    ∃ v, exec (.markerWindowMiss l t) s = .next v ∧ Missed s l v := by
  refine ⟨(s.elapse t).markerMiss l, ?_, ?_⟩
  · show execMarkerWindowMiss l t s = _
    unfold execMarkerWindowMiss
    rw [event_running hr]
    exact congrArg _ (if_pos (by simp [State.elapse_lanesOf, State.elapse_port, hin, List.mem_cons.1 hphase, hphase]))
  · exact (State.markerMiss_missed _ l.isLt (by rw [State.elapse_lanes, hlanes]) (by rw [State.elapse_ports, hports])).of_same
      (State.elapse_get ..) (State.elapse_lanes ..) (State.elapse_ports ..) (State.elapse_host ..)

theorem bitLock_locks (hr : Running s) (l : Fin 16) (hin : (l : Nat) ∈ s.lanesOf (l / 4))
    (hphase : (s.port (l / 4)).phase ∈ [.training, .up, .waking]) : exec (.bitLock l t) s = .next
      (((s.elapse t).setB (Reg.ZPHY_LANE_STATUS_BIT_LOCK l) true).setB (Reg.ZPHY_LANE_STATUS_ACTIVITY l) true) := by
  show execBitLock l t s = _
  unfold execBitLock
  rw [event_running hr]
  exact congrArg _ (if_pos (by simp [State.elapse_lanesOf, State.elapse_port, hin, hphase]))

/-- Registers of a lane's activity and lock, seen past the two that lost activity clears. -/
theorem State.get_loseActivity (s : State) {l : Nat} {f : Fld} (hlo : f.lo < 32)
    (hf : f.addr ≠ 0x190800 + 64 * l ∨ (f.lo ≠ 0 ∧ f.lo ≠ 5)) :
    ((s.setB (Reg.ZPHY_LANE_STATUS_ACTIVITY l) false).setB (Reg.ZPHY_LANE_STATUS_BIT_LOCK l) false).get f = s.get f := by
  rw [State.get_setB_other, State.get_setB_other]
  all_goals
    simp only [Fld.key, Reg.ZPHY_LANE_STATUS_ACTIVITY, Reg.ZPHY_LANE_STATUS_BIT_LOCK]
    omega

theorem laneActivityLost_cases (hr : Running s) (hports : s.ports.length = 4) (l : Fin 16) :
    ((l : Nat) ∈ s.lanesOf (l / 4) → (s.port (l / 4)).phase = .up →
      s.flag (Reg.ZPHY_LANE_STATUS_IDLE_RX l) = false →
      ∃ v, exec (.laneActivityLost l t) s = .next v ∧ v.flag (Reg.ZPHY_LANE_STATUS_ACTIVITY l) = false ∧
        v.flag (Reg.ZPHY_LANE_STATUS_BIT_LOCK l) = false ∧ (v.port (l / 4)).phase = .training ∧
        v.get (Reg.ZPHY_PORT_STATUS_LAST_CAUSE (l / 4)) = 5) ∧
    (((l : Nat) ∉ s.lanesOf (l / 4) ∨ (s.port (l / 4)).phase ≠ .up ∨ s.flag (Reg.ZPHY_LANE_STATUS_IDLE_RX l) = true) →
      exec (.laneActivityLost l t) s = .next
        (((s.elapse t).setB (Reg.ZPHY_LANE_STATUS_ACTIVITY l) false).setB (Reg.ZPHY_LANE_STATUS_BIT_LOCK l) false)) := by
  have hl := l.isLt
  have hp : (l : Nat) / 4 < 4 := by omega
  have hexec : exec (.laneActivityLost l t) s = .next
      (let s := ((s.elapse t).setB (Reg.ZPHY_LANE_STATUS_ACTIVITY l) false).setB (Reg.ZPHY_LANE_STATUS_BIT_LOCK l) false
       if l.val ∈ s.lanesOf (l / 4) ∧ (s.port (l / 4)).phase = .up ∧ !s.flag (Reg.ZPHY_LANE_STATUS_IDLE_RX l) then
         s.linkDown (l / 4) 5 .training else s) := by
    show execLaneActivityLost l t s = _
    unfold execLaneActivityLost
    rw [event_running hr]
  have hget : ∀ f : Fld, f.lo < 32 → (f.addr ≠ 0x190800 + 64 * (l : Nat) ∨ (f.lo ≠ 0 ∧ f.lo ≠ 5)) →
      (((s.elapse t).setB (Reg.ZPHY_LANE_STATUS_ACTIVITY l) false).setB (Reg.ZPHY_LANE_STATUS_BIT_LOCK l) false).get f = s.get f :=
    fun f hlo hf => (State.get_loseActivity _ hlo hf).trans (State.elapse_get ..)
  have hact : (((s.elapse t).setB (Reg.ZPHY_LANE_STATUS_ACTIVITY l) false).setB (Reg.ZPHY_LANE_STATUS_BIT_LOCK l) false).get
      (Reg.ZPHY_LANE_STATUS_ACTIVITY l) = 0 := by
    refine (State.get_setB_other _ ?_ _).trans (State.get_set_same ..)
    simp only [Fld.key, Reg.ZPHY_LANE_STATUS_ACTIVITY, Reg.ZPHY_LANE_STATUS_BIT_LOCK]
    omega
  have hbit : (((s.elapse t).setB (Reg.ZPHY_LANE_STATUS_ACTIVITY l) false).setB (Reg.ZPHY_LANE_STATUS_BIT_LOCK l) false).get
      (Reg.ZPHY_LANE_STATUS_BIT_LOCK l) = 0 := State.get_set_same ..
  have hports' : (((s.elapse t).setB (Reg.ZPHY_LANE_STATUS_ACTIVITY l) false).setB (Reg.ZPHY_LANE_STATUS_BIT_LOCK l) false).ports =
      s.ports := State.elapse_ports s t
  generalize ((s.elapse t).setB (Reg.ZPHY_LANE_STATUS_ACTIVITY l) false).setB (Reg.ZPHY_LANE_STATUS_BIT_LOCK l) false = w
    at hexec hget hact hbit hports' ⊢
  dsimp only at hexec
  have hwl : w.lanesOf (l / 4) = s.lanesOf (l / 4) := by
    unfold State.lanesOf
    rw [hget _ (by simp [Reg.ZPHY_PORT_STATUS_WIDTH_USED]) (.inl (by simp only [Reg.ZPHY_PORT_STATUS_WIDTH_USED]; omega))]
  have hwp : w.port (l / 4) = s.port (l / 4) := congrArg (fun x : List Port => x.getD (l / 4) _) hports'
  have hwi : w.flag (Reg.ZPHY_LANE_STATUS_IDLE_RX l) = s.flag (Reg.ZPHY_LANE_STATUS_IDLE_RX l) :=
    congrArg (fun n => decide (n = 1)) (hget _ (by simp [Reg.ZPHY_LANE_STATUS_IDLE_RX]) (.inr (by simp [Reg.ZPHY_LANE_STATUS_IDLE_RX])))
  rw [hwl, hwp, hwi] at hexec
  refine ⟨fun hin hup hidle => ?_, fun hno => ?_⟩
  · rw [if_pos ⟨hin, hup, by rw [hidle]; rfl⟩] at hexec
    obtain ⟨hstand, -, hlow, hdown⟩ := w.linkDown_falls 5 .training hp (Nat.lt_of_lt_of_eq hp (by rw [hports', hports]))
    obtain ⟨-, hcause⟩ := hdown (by rw [hwp, Port.isUp, hup]; rfl)
    refine ⟨_, hexec, decide_eq_false fun h => ?_, decide_eq_false fun h => ?_, congrArg Prod.fst hstand, hcause⟩
    · exact absurd ((hlow _ ⟨l, hl, 5, by decide, rfl⟩ hact).symm.trans h) (by decide)
    · exact absurd ((hlow _ ⟨l, hl, 0, by decide, rfl⟩ hbit).symm.trans h) (by decide)
  · refine hexec.trans (congrArg _ (if_neg ?_))
    rintro ⟨hin, hup, hidle⟩
    rcases hno with h | h | h
    · exact h hin
    · exact h hup
    · rw [h] at hidle
      exact absurd hidle (by decide)

theorem laneClockSettled_waits (hr : Running s) (p : Fin 4) (h : (s.port p).phase ≠ .settling ∨ (s.port p).zeros ≠ 0) :
    exec (.laneClockSettled p t) s = .next (s.elapse t) := by
  show execLaneClockSettled p t s = _
  unfold execLaneClockSettled
  rw [event_running hr]
  refine congrArg _ (if_neg ?_)
  rw [State.elapse_port]
  simp only [Bool.and_eq_true, beq_iff_eq, not_and]
  exact fun h1 h2 => h.elim (fun h => h h1) (fun h => h h2)

theorem laneClockSettled_trains (hr : Running s) (hlanes : s.lanes.length = 16) (hports : s.ports.length = 4) (p : Fin 4)
    (hphase : (s.port p).phase = .settling) (hzeros : (s.port p).zeros = 0) :
    let w := s.get (Reg.ZPHY_PORT_STATUS_WIDTH_USED p)
    let r := s.get (Reg.ZPHY_PORT_STATUS_RATE_USED p)
    ∃ v, exec (.laneClockSettled p t) s = .next v ∧ (v.port p).phase = .training ∧ v.regs = s.regs ∧
      v.host = s.host ∧ (v.port p).txWidth = w ∧ (v.port p).txRate = r ∧ (v.port p).txBurst = true ∧
      ∀ l ∈ s.lanesOf p, (v.lane l).txScr = 0x1D0C5A71 ^^^ (l % 4) ∧
        (v.lane l).txMarker = markWord (l % 4) false false w r (0x1D0C5A71 ^^^ (l % 4)) := by
  have hp := p.isLt
  obtain ⟨hlink, htrain, hwidth, hrate, hburst, hlane⟩ := (s.elapse t).startTraining_trains hp (by rw [State.elapse_lanes, hlanes])
    (Nat.lt_of_lt_of_eq hp (by rw [State.elapse_ports, hports]))
  rw [State.elapse_get] at hwidth hrate
  rw [State.elapse_get, State.elapse_get] at hlane
  refine ⟨_, ?_, htrain, hlink.regs.trans (State.elapse_regs ..), hlink.host.trans (State.elapse_host ..), hwidth, hrate, hburst,
    fun l hl => ?_⟩
  · show execLaneClockSettled p t s = _
    unfold execLaneClockSettled
    rw [event_running hr]
    exact congrArg _ (if_pos (by rw [State.elapse_port, hphase, hzeros]; rfl))
  · obtain ⟨k, hk, rfl⟩ := State.mem_lanesOf hl
    have hk4 := Nat.lt_of_lt_of_le hk (widthOf_le _)
    rw [show (4 * (p : Nat) + k) % 4 = k by omega]
    exact hlane k hk

theorem windupUnanswered_down (hr : Running s) (hports : s.ports.length = 4) (p : Fin 4) {b : Nat}
    (hb : (s.port p).burstAt = some b) (hlate : b + 2 * msSteps ≤ (s.elapse t).now) :
    ∃ v, exec (.windupUnanswered p t) s = .next v ∧ (v.port p).phase = .training ∧ (v.port p).burstAt = none ∧
      ((s.port p).isUp = true → v.get (Reg.ZPHY_PORT_STATUS_LAST_CAUSE p) = 6) := by
  have hp := p.isLt
  obtain ⟨hstand, -, -, hdown⟩ := (s.elapse t).linkDown_falls 6 .training hp (Nat.lt_of_lt_of_eq hp (by rw [State.elapse_ports, hports]))
  rw [State.elapse_port] at hdown
  refine ⟨_, ?_, congrArg Prod.fst hstand, congrArg Prod.snd hstand, fun hup => (hdown hup).2⟩
  show execWindupUnanswered p t s = _
  unfold execWindupUnanswered
  rw [event_running hr, State.elapse_port, hb]
  exact congrArg _ (if_pos (decide_eq_true hlate))

end Sys2Proof.Machine
end

section
/-! SUPPORT. WIND_UP_BURST_RX, IDLE_ENTRY and IDLE_EXIT; obligation O51. -/

namespace Sys2Proof.Machine

variable {s : State} {t : Nat}

theorem State.elapse_wakePort (s : State) (t : Nat) : (s.elapse t).wakePort = s.wakePort := by
  unfold State.wakePort
  rw [State.elapse_power, State.elapse_get]

/-- The step of WIND_UP_BURST_RX at a receiver that is powered (`on`) or that the burst wakes. -/
def State.burstRx (s : State) (p : Nat) (on : Bool) : State :=
  let s := match (s.port p).phase with
    | .idle => s.windUpPort p none (!on)
    | .waking => s.modPort p (fun q => { q with burstAt := none })
    | _ => s
  s.when (on && (s.port p).phase == .waking && !(s.port p).woken) (·.burstLock p)

theorem windUpBurstRx_exec (hr : Running s) (p : Fin 4) (powered : Bool) :
    let on := powered && decide (s.get Reg.LADDER_STATE < 2)
    exec (.windUpBurstRx p powered t) s = .next ((s.elapse t).when (on || p.val == s.wakePort) (·.burstRx p on)) := by
  show execWindUpBurstRx p powered t s = _
  unfold execWindUpBurstRx
  rw [event_running hr, State.elapse_get, State.elapse_wakePort]
  rfl

theorem windUpBurstRx_ignored (hr : Running s) (p : Fin 4) (powered : Bool)
    (hon : (powered && decide (s.get Reg.LADDER_STATE < 2)) = false) (hp : p.val ≠ s.wakePort) :
    exec (.windUpBurstRx p powered t) s = .next (s.elapse t) := by
  rw [windUpBurstRx_exec hr]
  exact congrArg _ (if_neg (by rw [hon]; simp [hp]))

theorem windUpBurstRx_taken (hr : Running s) (p : Fin 4) (powered : Bool)
    (h : (powered && decide (s.get Reg.LADDER_STATE < 2)) = true ∨ p.val = s.wakePort) :
    exec (.windUpBurstRx p powered t) s = .next ((s.elapse t).burstRx p (powered && decide (s.get Reg.LADDER_STATE < 2))) := by
  rw [windUpBurstRx_exec hr]
  refine congrArg _ (if_pos ?_)
  rcases h with h | h
  · rw [h]
    rfl
  · rw [h]
    simp

/-- A burst that reaches a port in idle: it answers with its own, with lock where the receiver is powered (R364, R365). -/
theorem State.burstRx_idle (s : State) {p : Nat} (on : Bool) (hp4 : p < 4) (hlanes : s.lanes.length = 16) (hp : p < s.ports.length)
    (hphase : (s.port p).phase = .idle) :
    let v := s.burstRx p on
    (v.port p).phase = .waking ∧ (v.port p).woken = !on ∧ (v.port p).burstAt = none ∧ (v.port p).txBurst = true ∧ v.host = s.host ∧
      ∀ l ∈ s.lanesOf p, v.flag (Reg.ZPHY_LANE_STATUS_MARKER_LOCK l) = on := by
  obtain ⟨⟨hwake, hwoken, hburst, htx⟩, hhost, hlen, hports, hof, hunlock⟩ := s.windUpPort_wakes hp4 hlanes hp none (!on)
  unfold State.burstRx
  rw [hphase]
  dsimp only
  generalize s.windUpPort p none (!on) = x at hwake hwoken hburst htx hhost hlen hports hof hunlock
  rw [hwake, hwoken]
  cases on with
  | false =>
    refine ⟨hwake, hwoken, hburst, htx, hhost, fun l hl => ?_⟩
    obtain ⟨k, hk, rfl⟩ := State.lanesOf_lt hp4 hl
    exact decide_eq_false fun h => absurd ((hunlock k hk).symm.trans h) (by decide)
  | true =>
    obtain ⟨hbp, hbh, hbl⟩ := x.burstLock_locks hp4 hlen
    have hport : (x.burstLock p).port p = x.port p := congrArg (fun y : List Port => y.getD p _) hbp
    show ((x.burstLock p).port p).phase = _ ∧ ((x.burstLock p).port p).woken = _ ∧ ((x.burstLock p).port p).burstAt = _ ∧
      ((x.burstLock p).port p).txBurst = _ ∧ (x.burstLock p).host = _ ∧ _
    rw [hport]
    exact ⟨hwake, hwoken, hburst, htx, hbh.trans hhost, fun l hl => (hbl l (by rw [hof]; exact hl)).1⟩

/-- A burst that reaches a port which has sent its own: it waits for no answer any more, and locks where it is powered. -/
theorem State.burstRx_waking (s : State) {p : Nat} (on : Bool) (hphase : (s.port p).phase = .waking) (hp : p < s.ports.length) :
    s.burstRx p on = (s.modPort p (fun q => { q with burstAt := none })).when (on && !(s.port p).woken) (·.burstLock p) := by
  have hport := State.port_modPort_same (s := s) (f := fun q => { q with burstAt := none }) hp
  unfold State.burstRx
  rw [hphase]
  dsimp only
  rw [hport, hphase]
  exact congrArg (fun b => (s.modPort p (fun q => { q with burstAt := none })).when b (·.burstLock p)) (by simp)

theorem idleExit_cases (hr : Running s) (hlanes : s.lanes.length = 16) (hports : s.ports.length = 4) (p : Fin 4) :
    ((s.port p).phase = .idle → ∃ v, exec (.idleExit p t) s = .next v ∧ (v.port p).phase = .waking ∧
      (v.port p).burstAt = some (s.elapse t).now ∧ v.host = s.host) ∧
    ((s.port p).phase ≠ .idle → exec (.idleExit p t) s = .next (s.elapse t)) := by
  have hexec : exec (.idleExit p t) s = .next ((s.elapse t).leaveIdle p) := by
    show execIdleExit p t s = _
    unfold execIdleExit
    rw [event_running hr]
  unfold State.leaveIdle at hexec
  rw [State.elapse_port] at hexec
  refine ⟨fun h => ?_, fun h => hexec.trans (congrArg _ (if_neg h))⟩
  obtain ⟨⟨hwake, -, hburst, -⟩, hhost, -⟩ := (s.elapse t).windUpPort_wakes p.isLt (by rw [State.elapse_lanes, hlanes])
    (Nat.lt_of_lt_of_eq p.isLt (by rw [State.elapse_ports, hports])) (some (s.elapse t).now) false
  exact ⟨_, hexec.trans (congrArg _ (if_pos h)), hwake, hburst, hhost.trans (State.elapse_host ..)⟩

theorem idleEntry_enters (hr : Running s) (hlanes : s.lanes.length = 16) (hports : s.ports.length = 4) (p : Fin 4) {o : Nat}
    (ho : (s.port p).idleOrder = some o) (hphase : (s.port p).phase = .up)
    (hdue : (s.port p).replay = [] ∨ o + 10 * usSteps ≤ (s.elapse t).now) :
    ∃ v, exec (.idleEntry p t) s = .next v ∧ (v.port p).phase = .idle ∧ (v.port p).idleOrder = none ∧
      v.regs = ((s.elapse t).setB (Reg.ZPHY_PORT_STATUS_IDLE p) true).regs ∧ v.host = s.host ∧
      (v.port p).replay = (s.port p).replay ∧ ∀ k < widthOf (s.port p).txWidth, bit (v.lane (4 * p + k)).txMarker 27 = true := by
  have hlen : (p : Nat) < (s.elapse t).ports.length := Nat.lt_of_lt_of_eq p.isLt (by rw [State.elapse_ports, hports])
  obtain ⟨hlink, hreplay, hmark⟩ := (s.elapse t).sendIdleNext_sends p.isLt (by rw [State.elapse_lanes, hlanes]) hlen
  rw [State.elapse_port] at hreplay hmark
  have hexec : exec (.idleEntry p t) s = .next ((((s.elapse t).sendIdleNext p).modPort p (fun q => { q with
      phase := .idle, idleOrder := none })).setB (Reg.ZPHY_PORT_STATUS_IDLE p) true) := by
    show execIdleEntry p t s = _
    unfold execIdleEntry
    rw [event_running hr, State.elapse_port, ho]
    refine congrArg _ (if_pos ?_)
    rw [hphase]
    rcases hdue with h | h
    · simp [h]
    · rw [decide_eq_true h, Bool.or_true]
      rfl
  have hregs := hlink.regs
  have hhost := hlink.host.trans (State.elapse_host ..)
  have hlen' := Nat.lt_of_lt_of_eq hlen hlink.length.symm
  generalize (s.elapse t).sendIdleNext p = x at hexec hreplay hmark hregs hhost hlen'
  have hport : ((x.modPort p (fun q => { q with phase := .idle, idleOrder := none })).setB (Reg.ZPHY_PORT_STATUS_IDLE p) true).port p =
      { x.port p with phase := .idle, idleOrder := none } := State.port_modPort_same hlen'
  refine ⟨_, hexec, congrArg Port.phase hport, congrArg Port.idleOrder hport, ?_, hhost, (congrArg Port.replay hport).trans hreplay,
    hmark⟩
  exact congrArg (fun r => Sparse.put (Reg.ZPHY_PORT_STATUS_IDLE p).reset r (Reg.ZPHY_PORT_STATUS_IDLE p).key
    (low (Reg.ZPHY_PORT_STATUS_IDLE p).w true.toNat)) hregs

/-- Settles O51: the line is undone by destuffing behind the marker; each event of a lane is one lemma, and a port that goes
down, comes up, trains or wakes has one lemma each that the events share. -/
theorem laneEventsComplete : Obligations.LaneEventsComplete := by
  unfold Obligations.LaneEventsComplete
  refine ⟨fun last run seed marker payload pad hm hsync hseed hlen => readBlock_stuff last run pad hm hsync hseed hlen, ?_⟩
  intro t s hr hlanes hports u receives miss
  refine ⟨fun l marker pad stuffs errs skew => ⟨alignmentMarker_ignored hr l marker pad stuffs errs skew,
    fun hin hphase hpol hm hanti => ?_⟩, fun l => ⟨fun hin hphase => ⟨?_, bitLock_locks hr l hin hphase⟩, ?_, ?_⟩, fun p => ?_⟩
  · exact alignmentMarker_training hr hlanes hports l pad stuffs errs skew hin hphase hpol hm hanti
  · exact markerWindowMiss_misses hr hlanes hports l hin hphase
  · exact (laneActivityLost_cases hr hports l).1
  · exact (laneActivityLost_cases hr hports l).2
  · have hp4 : (p : Nat) < (s.elapse t).ports.length := Nat.lt_of_lt_of_eq p.isLt (by rw [State.elapse_ports, hports])
    have hlen : (s.elapse t).lanes.length = 16 := by rw [State.elapse_lanes, hlanes]
    refine ⟨laneClockSettled_waits hr p, laneClockSettled_trains hr hlanes hports p,
      fun b hb hlate => windupUnanswered_down hr hports p hb hlate, fun powered => ?_, (idleExit_cases hr hlanes hports p).1,
      (idleExit_cases hr hlanes hports p).2, fun o ho hphase hdue => idleEntry_enters hr hlanes hports p ho hphase hdue⟩
    intro on
    refine ⟨windUpBurstRx_ignored hr p powered, fun h hphase => ?_, fun hwake hphase hwoken => ?_, fun hon hphase hwoken => ?_⟩
    · obtain ⟨hwaking, hwoken, hburst, htx, hhost, hlock⟩ := (s.elapse t).burstRx_idle on p.isLt hlen hp4
        (by rw [State.elapse_port]; exact hphase)
      rw [State.elapse_lanesOf] at hlock
      exact ⟨_, windUpBurstRx_taken hr p powered h, hwaking, hwoken, hburst, htx, hhost.trans (State.elapse_host ..), hlock⟩
    · rw [windUpBurstRx_taken hr p powered (.inr hwake),
        (s.elapse t).burstRx_waking _ (by rw [State.elapse_port]; exact hphase) hp4, State.elapse_port, hwoken, Bool.not_true,
        Bool.and_false]
      rfl
    · have hx := windUpBurstRx_taken (t := t) hr p powered (.inl hon)
      rw [(s.elapse t).burstRx_waking _ (by rw [State.elapse_port]; exact hphase) hp4, State.elapse_port, hwoken,
        show (powered && decide (s.get Reg.LADDER_STATE < 2)) = true from hon] at hx
      obtain ⟨hbp, hbh, hbl⟩ := ((s.elapse t).modPort p (fun q => { q with burstAt := none })).burstLock_locks p.isLt hlen
      have hport : (((s.elapse t).modPort p (fun q => { q with burstAt := none })).burstLock p).port p =
          { (s.elapse t).port p with burstAt := none } :=
        (congrArg (fun y : List Port => y.getD p _) hbp).trans (State.port_modPort_same hp4)
      have hphase' : ((s.elapse t).port p).phase = .waking := (congrArg Port.phase (State.elapse_port ..)).trans hphase
      refine ⟨_, hx, (congrArg Port.phase hport).trans hphase', congrArg Port.burstAt hport, hbh.trans (State.elapse_host ..),
        fun l hl => ?_⟩
      obtain ⟨hlock, hseen⟩ := hbl l (by
        rw [← State.elapse_lanesOf s t] at hl
        exact hl)
      exact ⟨hlock, hseen.trans (congrArg (fun x : Lane => x.seen1 + 1) (State.elapse_lane s t l))⟩

end Sys2Proof.Machine
end

section
/-! SUPPORT. Flits received: the slot, the ACK, DATA in sequence and out of it (R366 to R374). -/

namespace Sys2Proof.Machine

variable {s : State} {p : Nat} {t : Nat}

/-! ### The slot -/

theorem State.elapse_flitHere (s : State) (t p : Nat) : (s.elapse t).flitHere p = s.flitHere p := by
  unfold State.flitHere State.rxBytes
  rw [State.elapse_lanesOf, State.elapse_port]
  simp only [State.elapse_lane]

theorem State.elapse_flits (s : State) (t p : Nat) : (s.elapse t).flits p = s.flits p := by
  unfold State.flits
  rw [State.elapse_port, State.elapse_get]

theorem State.flits_up (h : s.flits p = true) : (s.port p).phase = .up := by
  unfold State.flits at h
  exact eq_of_beq (Bool.and_eq_true_iff.1 h).1

theorem State.flits_isUp (h : s.flits p = true) : (s.port p).isUp = true := by
  rw [Port.isUp, State.flits_up h]
  rfl

/-- The receiver's state with a flit slot used. -/
def State.slot (s : State) (p : Nat) : State := s.modPort p (fun q => { q with rxFlits := q.rxFlits + 1 })

theorem State.rxSlot_absent (h : s.flitHere p = false) (act : State → State) : s.rxSlot p act = s := if_neg (by rw [h]; decide)

theorem State.rxSlot_taken (hhere : s.flitHere p = true) (hflits : s.flits p = true) (act : State → State) :
    s.rxSlot p act = act (s.slot p) :=
  (if_pos hhere).trans (if_pos hflits)

/-! ### Credits -/

/-- Changing a credit changes credits only. -/
theorem Port.modCred_with (q : Port) (c : Nat) (f : Credit → Credit) : ∃ x y z, q.modCred c f = { q with credP := x, credN := y, credC := z } := by
  unfold Port.modCred
  split
  · exact ⟨_, q.credN, q.credC, rfl⟩
  · split
    · exact ⟨q.credP, _, q.credC, rfl⟩
    · split
      · exact ⟨q.credP, q.credN, _, rfl⟩
      · exact ⟨q.credP, q.credN, q.credC, rfl⟩

theorem Port.cred_modCred_same (q : Port) {c : Nat} (hc : c < 3) (f : Credit → Credit) : (q.modCred c f).cred c = f (q.cred c) := by
  match c, hc with
  | 0, _ => rfl
  | 1, _ => rfl
  | 2, _ => rfl

/-- What the receiver has counted of a class. -/
def Credit.counts (x : Credit) : Nat × Nat := (x.rx, x.rxFreed)

/-- The latest count of freed flits touches nothing that the receiver counts. -/
theorem Port.cred_modCred_freed (q : Port) (cc c n : Nat) :
    ((q.modCred cc (fun x => { x with freed := n })).cred c).counts = (q.cred c).counts := by
  obtain ⟨x, y, z, hwith, hx, hy, hz⟩ : ∃ x y z, q.modCred cc (fun x => { x with freed := n }) =
      { q with credP := x, credN := y, credC := z } ∧ x.counts = q.credP.counts ∧ y.counts = q.credN.counts ∧
        z.counts = q.credC.counts := by
    unfold Port.modCred
    split
    · exact ⟨_, q.credN, q.credC, rfl, rfl, rfl, rfl⟩
    · split
      · exact ⟨q.credP, _, q.credC, rfl, rfl, rfl, rfl⟩
      · split
        · exact ⟨q.credP, q.credN, _, rfl, rfl, rfl, rfl⟩
        · exact ⟨q.credP, q.credN, q.credC, rfl, rfl, rfl, rfl⟩
  rw [hwith]
  unfold Port.cred
  split
  · exact hx
  · split
    · exact hy
    · exact hz

/-! ### The ACK -/

/-- Flits that an ACK of `a` acknowledges. -/
def Port.covered (q : Port) (a : Nat) : Nat := (a + 1 + 1024 - q.acked % 1024) % 1024

/-- A port whose ACK covers `d` more flits at `now`. -/
def Port.acks (q : Port) (d now : Nat) : Port :=
  { q with
    acked := q.acked + d, replay := q.replay.drop d, replayAt := q.replayAt.bind (q.replayFrom d),
    replayAck := if (q.replayAt.bind (q.replayFrom d)).isSome then q.replayAck else none,
    sameReplays := if d = 0 then q.sameReplays else 0, ackAt := if d = 0 then q.ackAt else now,
    unacked := q.unacked.filter (fun e => decide (q.acked + d < e.1)),
    fwdMem := q.fwdMem.filter (fun e => decide (q.acked + d < e.1)) }

theorem State.onAck_acks (s : State) {a : Nat} (hd : (s.port p).covered a ≤ (s.port p).replay.length) :
    s.onAck p a = (s.modPort p (fun q => q.acks ((s.port p).covered a) s.now)).set (Reg.ZLINK_PORT_UNACKED_FLITS p)
      ((s.port p).replay.length - (s.port p).covered a) := by
  unfold State.onAck
  exact if_neg (Nat.not_lt.2 hd)

/-- What an ACK leaves: everything but the port and the count of flits that wait. -/
structure AckFrame (p : Nat) (s u : State) : Prop where
  host : u.host = s.host
  dram : u.dram = s.dram
  now : u.now = s.now
  length : u.ports.length = s.ports.length
  get : ∀ f : Fld, f.key ≠ (Reg.ZLINK_PORT_UNACKED_FLITS p).key → u.get f = s.get f

theorem State.onAck_frame (s : State) {a : Nat} (hp : p < s.ports.length) (hd : (s.port p).covered a ≤ (s.port p).replay.length) :
    AckFrame p s (s.onAck p a) ∧ (s.onAck p a).port p = (s.port p).acks ((s.port p).covered a) s.now := by
  rw [s.onAck_acks hd]
  exact ⟨⟨rfl, rfl, rfl, modAt_length _ _ _, fun f hf => State.get_set_other _ hf _⟩,
    State.port_modPort_same (s := s) (f := fun q => q.acks ((s.port p).covered a) s.now) hp⟩

theorem State.active_of_get {u : State} (h : u.get (Reg.ZLINK_PORT_STATUS_LL_STATE p) = s.get (Reg.ZLINK_PORT_STATUS_LL_STATE p)) :
    u.active p = s.active p := by
  unfold State.active
  rw [h]

theorem llState_ne_unacked (p : Nat) : (Reg.ZLINK_PORT_STATUS_LL_STATE p).key ≠ (Reg.ZLINK_PORT_UNACKED_FLITS p).key := by
  simp only [Fld.key, Reg.ZLINK_PORT_STATUS_LL_STATE, Reg.ZLINK_PORT_UNACKED_FLITS]
  omega

/-! ### DATA -/

/-- A port that has counted a flit of the transaction whose bytes `part` begin. -/
def Port.counted (q : Port) (part : List Byte) : Port := q.modCred (classOf (u8 part 0)) (fun k => { k with rx := k.rx + 1 })

/-- A port that has freed the flits of a transaction which no row takes up. -/
def Port.freed (q : Port) (part : List Byte) : Port :=
  q.modCred (classOf (u8 part 0)) (fun k => { k with rxFreed := k.rxFreed + flitCount (parseTrans part) })

theorem classOf_string {n : Nat} (h : classOf n < 3) : n ≠ ttString := by
  rintro rfl
  exact absurd h (by decide)

/-- A DATA flit that the buffers hold (R374, R377). -/
theorem State.deliver_held (s : State) (payload : List Byte) {part : List Byte} (hpart : (s.port p).rxPart ++ payload = part)
    (hlen : u16 part 4 ≤ 4112) (hc : classOf (u8 part 0) < 3)
    (hcred : ((s.port p).cred (classOf (u8 part 0))).rx + 1 - ((s.port p).cred (classOf (u8 part 0))).rxFreed ≤ ownCredits) :
    s.deliver p payload =
      if part.length < 8 + u16 part 4 then s.modPort p (fun _ => { (s.port p).counted part with rxPart := part })
      else if strayOn p (parseTrans part) then
        (s.modPort p (fun _ => { ((s.port p).counted part).freed part with rxPart := [] })).strayTrans p (parseTrans part)
      else s.modPort p (fun _ => { (s.port p).counted part with
        rxPart := [], rxDone := ((s.port p).counted part).rxDone ++ [parseTrans part] }) := by
  have hq : ((s.port p).counted part).cred (classOf (u8 part 0)) = { (s.port p).cred (classOf (u8 part 0)) with
      rx := ((s.port p).cred (classOf (u8 part 0))).rx + 1 } := Port.cred_modCred_same _ hc _
  unfold State.deliver
  subst hpart
  refine (if_neg (Nat.not_lt.2 hlen)).trans ((if_neg (fun h => ?_)).trans ?_)
  · have h2 := h.2
    rw [show (s.port p).modCred (classOf (u8 ((s.port p).rxPart ++ payload) 0)) (fun k => { k with rx := k.rx + 1 }) = (s.port p).counted ((s.port p).rxPart ++ payload) from rfl, hq] at h2
    exact Nat.not_lt.2 hcred h2
  · refine if_congr Iff.rfl rfl (if_congr Iff.rfl rfl ?_)
    refine congrArg (fun l : List Trans => s.modPort p (fun _ => { (s.port p).counted ((s.port p).rxPart ++ payload) with
        rxPart := [], rxDone := l ++ [parseTrans ((s.port p).rxPart ++ payload)] })) (if_neg fun h => classOf_string hc h.1)

/-- What a flit of a transaction in progress leaves of its port: sequence numbers and what waits for an ACK. -/
def Port.seqs (q : Port) : Nat × Bool × Nat × Nat × List Held := (q.rxNext, q.nakOut, q.rxFlits, q.acked, q.replay)

/-- A transaction that no row takes up, sent on or counted, leaves the port but for what it has to send. -/
theorem State.strayTrans_frame (s : State) (hp : p < s.ports.length) (x : Trans) : let v := s.strayTrans p x
    ((v.port p).seqs = (s.port p).seqs ∧ (v.port p).rxPart = (s.port p).rxPart ∧ (v.port p).rxDone = (s.port p).rxDone) ∧
      v.host = s.host ∧ v.dram = s.dram ∧
      (∀ f : Fld, f.key ≠ (Reg.ZLINK_PORT_DISCARDS_COUNT p).key → v.get f = s.get f) := by
  unfold State.strayTrans
  split
  · refine ⟨?_, rfl, rfl, fun _ _ => rfl⟩
    by_cases h : p = 0
    · subst h
      have hsame : (s.sendTrans 0 0 x).port 0 = { s.port 0 with txq := (s.port 0).txq ++ [(0, x)] } := State.port_modPort_same hp
      rw [hsame]
      exact ⟨rfl, rfl, rfl⟩
    · have hsame : (s.sendTrans 0 p x).port p = s.port p := State.port_modPort_other _ h
      rw [hsame]
      exact ⟨rfl, rfl, rfl⟩
  · exact ⟨⟨rfl, rfl, rfl⟩, rfl, rfl, fun f hf => State.get_incSat_other hf _⟩

/-- A DATA flit that the buffers hold joins the transaction in progress, and a transaction that it ends is delivered (R374, R377). -/
theorem State.deliver_takes (s : State) (payload : List Byte) {part : List Byte} (hpart : (s.port p).rxPart ++ payload = part)
    (hp : p < s.ports.length) (hlen : u16 part 4 ≤ 4112) (hc : classOf (u8 part 0) < 3)
    (hcred : ((s.port p).cred (classOf (u8 part 0))).rx + 1 - ((s.port p).cred (classOf (u8 part 0))).rxFreed ≤ ownCredits) :
    let v := s.deliver p payload
    (v.port p).seqs = (s.port p).seqs ∧ v.host = s.host ∧ v.dram = s.dram ∧
      (∀ f : Fld, f.key ≠ (Reg.ZLINK_PORT_DISCARDS_COUNT p).key → v.get f = s.get f) ∧
      (part.length < 8 + u16 part 4 → (v.port p).rxPart = part ∧ (v.port p).rxDone = (s.port p).rxDone) ∧
      (8 + u16 part 4 ≤ part.length → (v.port p).rxPart = [] ∧ (v.port p).rxDone =
        if strayOn p (parseTrans part) then (s.port p).rxDone else (s.port p).rxDone ++ [parseTrans part]) := by
  have hput : ∀ r : Port, (s.modPort p (fun _ => r)).port p = r := fun r => State.port_modPort_same hp
  obtain ⟨a₁, a₂, a₃, hwith⟩ := Port.modCred_with (s.port p) (classOf (u8 part 0)) (fun k => { k with rx := k.rx + 1 })
  obtain ⟨b₁, b₂, b₃, hfree⟩ := Port.modCred_with ((s.port p).counted part) (classOf (u8 part 0))
    (fun k => { k with rxFreed := k.rxFreed + flitCount (parseTrans part) })
  have hcounted : (s.port p).counted part = { s.port p with credP := a₁, credN := a₂, credC := a₃ } := hwith
  have hfreed : ((s.port p).counted part).freed part = { s.port p with credP := b₁, credN := b₂, credC := b₃ } := by
    refine (show _ = _ from hfree).trans ?_
    rw [hcounted]
  rw [s.deliver_held payload hpart hlen hc hcred, hfreed, hcounted]
  by_cases hshort : part.length < 8 + u16 part 4
  · rw [if_pos hshort]
    refine ⟨?_, rfl, rfl, fun _ _ => rfl, fun _ => ?_, fun h => absurd hshort (Nat.not_lt.2 h)⟩
    · rw [hput]
      rfl
    · rw [hput]
      exact ⟨rfl, rfl⟩
  · rw [if_neg hshort]
    by_cases hstray : strayOn p (parseTrans part) = true
    · rw [if_pos hstray]
      obtain ⟨⟨hseqs, hrest, hdone⟩, hhost, hdram, hget⟩ := State.strayTrans_frame (p := p)
        (s.modPort p (fun _ => { s.port p with credP := b₁, credN := b₂, credC := b₃, rxPart := [] }))
        (by rw [State.modPort_ports, modAt_length]; exact hp) (parseTrans part)
      rw [hput] at hseqs hrest hdone
      exact ⟨hseqs, hhost, hdram, hget, fun h => absurd h hshort, fun _ => ⟨hrest, hdone.trans (if_pos hstray).symm⟩⟩
    · rw [if_neg hstray]
      refine ⟨?_, rfl, rfl, fun _ _ => rfl, fun h => absurd h hshort, fun _ => ?_⟩
      · rw [hput]
        rfl
      · rw [hput, if_neg hstray]
        exact ⟨rfl, rfl⟩

end Sys2Proof.Machine
end

section
/-! SUPPORT. FLIT_RECEIVED: a flit with a wrong CRC, and DATA in sequence or repeated (R366 to R374). -/

namespace Sys2Proof.Machine

variable {s : State} {p : Nat} {t : Nat} {f : List Byte}

theorem State.slot_port (hp : p < s.ports.length) : (s.slot p).port p = { s.port p with rxFlits := (s.port p).rxFlits + 1 } :=
  State.port_modPort_same hp

theorem State.slot_length (s : State) (p : Nat) : (s.slot p).ports.length = s.ports.length := modAt_length _ _ _

/-- A DATA flit with a matching CRC whose ACK names flits still held: the ACK counts, then the flit. -/
theorem State.onFlit_data (s : State) (hp : p < s.ports.length) (hcrc : crc32c (f.take 60) = u32 f 60)
    (hkind : bits (u32 f 0) 20 3 = 1) (hact : s.active p = true)
    (hd : (s.port p).covered (bits (u32 f 0) 10 10) ≤ (s.port p).replay.length) :
    ∃ x : State, s.onFlit p f = x.onData p (bits (u32 f 0) 0 10) ((f.drop 4).take 56) ∧ AckFrame p s x ∧
      ∃ q, x.port p = q.acks ((s.port p).covered (bits (u32 f 0) 10 10)) s.now ∧
        (∃ a b c, q = { s.port p with credP := a, credN := b, credC := c }) ∧ ∀ c, (q.cred c).counts = ((s.port p).cred c).counts := by
  generalize hq : (s.port p).modCred (bits (u32 f 0) 23 2) (fun c => { c with freed := bits (u32 f 0) 25 7 }) = q
  have hcounts : ∀ c, (q.cred c).counts = ((s.port p).cred c).counts := by
    rw [← hq]
    exact fun c => Port.cred_modCred_freed _ _ _ _
  obtain ⟨a, b, c, hwith⟩ := Port.modCred_with (s.port p) (bits (u32 f 0) 23 2) (fun c => { c with freed := bits (u32 f 0) 25 7 })
  rw [hq] at hwith
  generalize hy : s.modPort p (fun q => q.modCred (bits (u32 f 0) 23 2) (fun c => { c with freed := bits (u32 f 0) 25 7 })) = y
  have hyport : y.port p = q := by
    rw [← hy, ← hq]
    exact State.port_modPort_same hp
  obtain ⟨hyh, hyd, hyn, hyl, hyg⟩ : y.host = s.host ∧ y.dram = s.dram ∧ y.now = s.now ∧ y.ports.length = s.ports.length ∧
      ∀ g, y.get g = s.get g := by
    rw [← hy]
    exact ⟨rfl, rfl, rfl, modAt_length _ _ _, fun _ => rfl⟩
  have hcov : (y.port p).covered (bits (u32 f 0) 10 10) = (s.port p).covered (bits (u32 f 0) 10 10) := by
    rw [hyport, hwith]
    rfl
  have hrep : (y.port p).replay = (s.port p).replay := by rw [hyport, hwith]
  obtain ⟨⟨hxh, hxd, hxn, hxl, hxg⟩, hxport⟩ := y.onAck_frame (a := bits (u32 f 0) 10 10) (Nat.lt_of_lt_of_eq hp hyl.symm) (by
    rw [hcov, hrep]
    exact hd)
  rw [hcov, hyport, hyn] at hxport
  have hxact : (y.onAck p (bits (u32 f 0) 10 10)).active p = true :=
    (State.active_of_get ((hxg _ (llState_ne_unacked p)).trans (hyg _))).trans hact
  refine ⟨y.onAck p (bits (u32 f 0) 10 10), ?_, ⟨hxh.trans hyh, hxd.trans hyd, hxn.trans hyn, hxl.trans hyl,
    fun g hg => (hxg g hg).trans (hyg g)⟩, q, hxport, ⟨a, b, c, hwith⟩, hcounts⟩
  rw [← hy] at hxact ⊢
  unfold State.onFlit
  refine (if_neg (not_not_intro hcrc)).trans ((if_neg (by rw [hkind]; decide)).trans ((if_neg (by rw [hkind]; decide)).trans
    ((if_neg (by rw [hact]; decide)).trans ((if_neg (by rw [hkind]; decide)).trans ((if_neg ?_).trans (if_pos hkind))))))
  rw [hxact]
  decide

/-- A DATA flit of the slot, as the state that its ACK leaves takes it. -/
theorem flitReceived_acked (hr : Running s) (p : Fin 4) (hports : s.ports.length = 4) (hflits : s.flits p = true)
    (hhere : s.flitHere p = true) (hcrc : crc32c (f.take 60) = u32 f 60)
    (hkind : bits (u32 f 0) 20 3 = 1) (hact : s.active p = true)
    (hd : (s.port p).covered (bits (u32 f 0) 10 10) ≤ (s.port p).replay.length) :
    ∃ x : State, exec (.flitReceived p f t) s = .next (x.onData p (bits (u32 f 0) 0 10) ((f.drop 4).take 56)) ∧ x.host = s.host ∧
      x.dram = s.dram ∧ p < x.ports.length ∧ (∀ g : Fld, g.key ≠ (Reg.ZLINK_PORT_UNACKED_FLITS p).key → x.get g = s.get g) ∧
      (x.port p).seqs = ((s.port p).rxNext, (s.port p).nakOut, (s.port p).rxFlits + 1,
        (s.port p).acked + (s.port p).covered (bits (u32 f 0) 10 10), (s.port p).replay.drop ((s.port p).covered (bits (u32 f 0) 10 10))) ∧
      (x.port p).nakOwed = (s.port p).nakOwed ∧ (x.port p).rxPart = (s.port p).rxPart ∧ (x.port p).rxDone = (s.port p).rxDone ∧
      ∀ c, ((x.port p).cred c).counts = ((s.port p).cred c).counts := by
  have hlen : (p : Nat) < (s.elapse t).ports.length := Nat.lt_of_lt_of_eq p.isLt (by rw [State.elapse_ports, hports])
  have hslot := State.slot_port hlen
  rw [State.elapse_port] at hslot
  have hcov : (((s.elapse t).slot p).port p).covered (bits (u32 f 0) 10 10) = (s.port p).covered (bits (u32 f 0) 10 10) := by
    rw [hslot]
    rfl
  have hrep : (((s.elapse t).slot p).port p).replay = (s.port p).replay := by rw [hslot]
  obtain ⟨x, hx, ⟨hh, hdr, -, hl, hg⟩, q, hport, ⟨a, b, c, hwith⟩, hcounts⟩ := ((s.elapse t).slot p).onFlit_data (p := p)
    (Nat.lt_of_lt_of_eq hlen (State.slot_length _ _).symm) hcrc hkind ((State.elapse_active ..).trans hact) (by rw [hcov, hrep]; exact hd)
  have hexec : exec (.flitReceived p f t) s = .next (((s.elapse t).slot p).onFlit p f) := by
    show execFlitReceived p f t s = _
    unfold execFlitReceived
    rw [event_running hr, State.rxSlot_taken (by rw [State.elapse_flitHere]; exact hhere) (by rw [State.elapse_flits]; exact hflits)]
  rw [hslot] at hwith
  rw [hcov, hwith] at hport
  rw [hwith, hslot] at hcounts
  refine ⟨x, hexec.trans (congrArg _ hx), hh.trans (State.elapse_host ..), hdr.trans (State.elapse_dram ..),
    Nat.lt_of_lt_of_eq hlen (hl.trans (State.slot_length _ _)).symm, fun g hne => (hg g hne).trans (State.elapse_get ..), ?_, ?_, ?_, ?_,
    fun k => ?_⟩
  · rw [hport]; rfl
  · rw [hport]; rfl
  · rw [hport]; rfl
  · rw [hport]; rfl
  · rw [hport]; exact hcounts k

/-- DATA in sequence (R371, R374). -/
theorem flitReceived_inSequence (hr : Running s) (p : Fin 4) (hports : s.ports.length = 4) (hflits : s.flits p = true)
    (hhere : s.flitHere p = true) (hcrc : crc32c (f.take 60) = u32 f 60)
    (hkind : bits (u32 f 0) 20 3 = 1) (hact : s.active p = true)
    (hd : (s.port p).covered (bits (u32 f 0) 10 10) ≤ (s.port p).replay.length)
    {part : List Byte} (hpart : (s.port p).rxPart ++ (f.drop 4).take 56 = part)
    (hseq : bits (u32 f 0) 0 10 = (s.port p).rxNext % 1024) (hlen : u16 part 4 ≤ 4112) (hc : classOf (u8 part 0) < 3)
    (hcred : ((s.port p).cred (classOf (u8 part 0))).rx + 1 - ((s.port p).cred (classOf (u8 part 0))).rxFreed ≤ ownCredits) :
    ∃ v, exec (.flitReceived p f t) s = .next v ∧ (v.port p).rxNext = (s.port p).rxNext + 1 ∧ (v.port p).nakOut = false ∧
      (v.port p).rxFlits = (s.port p).rxFlits + 1 ∧
      (v.port p).acked = (s.port p).acked + (s.port p).covered (bits (u32 f 0) 10 10) ∧
      (v.port p).replay = (s.port p).replay.drop ((s.port p).covered (bits (u32 f 0) 10 10)) ∧
      v.get (Reg.ZLINK_PORT_RX_FLITS_COUNT p) = low 32 (s.get (Reg.ZLINK_PORT_RX_FLITS_COUNT p) + 1) ∧
      (part.length < 8 + u16 part 4 → (v.port p).rxPart = part ∧ (v.port p).rxDone = (s.port p).rxDone) ∧
      (8 + u16 part 4 ≤ part.length → (v.port p).rxPart = [] ∧ (v.port p).rxDone =
        if strayOn p (parseTrans part) then (s.port p).rxDone else (s.port p).rxDone ++ [parseTrans part]) ∧
      v.host = s.host ∧ v.dram = s.dram := by
  obtain ⟨x, hx, hxh, hxd, hxl, hxg, hseqs, -, hrest, hdone, hcounts⟩ := flitReceived_acked (t := t) hr p hports hflits hhere hcrc hkind hact hd
  have hnext : (x.port p).rxNext = (s.port p).rxNext := congrArg Prod.fst hseqs
  have hkeys : (Reg.ZLINK_PORT_RX_FLITS_COUNT p).key ≠ (Reg.ZLINK_PORT_UNACKED_FLITS p).key ∧
      (Reg.ZLINK_PORT_RX_FLITS_COUNT p).key ≠ (Reg.ZLINK_PORT_DISCARDS_COUNT p).key := by
    simp only [Fld.key, Reg.ZLINK_PORT_RX_FLITS_COUNT, Reg.ZLINK_PORT_UNACKED_FLITS, Reg.ZLINK_PORT_DISCARDS_COUNT]
    omega
  generalize hy : (x.modPort p (fun q => { q with rxNext := q.rxNext + 1, nakOut := false, nakOwed := false })).inc
    (Reg.ZLINK_PORT_RX_FLITS_COUNT p) = y
  have hdata : x.onData p (bits (u32 f 0) 0 10) ((f.drop 4).take 56) = y.deliver p ((f.drop 4).take 56) := by
    unfold State.onData
    rw [← hy]
    exact if_pos (hseq.trans (congrArg (· % 1024) hnext.symm))
  have hyport : y.port p = { x.port p with rxNext := (x.port p).rxNext + 1, nakOut := false, nakOwed := false } := by
    rw [← hy]
    exact State.port_modPort_same hxl
  have hyl : (p : Nat) < y.ports.length := by
    rw [← hy]
    exact Nat.lt_of_lt_of_eq hxl (modAt_length _ _ _).symm
  have hyparts : y.host = x.host ∧ y.dram = x.dram := by
    rw [← hy]
    exact ⟨rfl, rfl⟩
  have hycount : y.get (Reg.ZLINK_PORT_RX_FLITS_COUNT p) = low 32 (s.get (Reg.ZLINK_PORT_RX_FLITS_COUNT p) + 1) := by
    rw [← hxg _ hkeys.1, ← hy]
    exact State.get_set_same _ _ _
  have hycred : ((y.port p).cred (classOf (u8 part 0))).counts = ((s.port p).cred (classOf (u8 part 0))).counts := by
    rw [← hcounts, hyport]
    rfl
  have hyrest : (y.port p).rxPart = (s.port p).rxPart := (congrArg Port.rxPart hyport).trans hrest
  have hydone : (y.port p).rxDone = (s.port p).rxDone := (congrArg Port.rxDone hyport).trans hdone
  obtain ⟨hvseqs, hvh, hvd, hvg, hshort, hwhole⟩ := y.deliver_takes ((f.drop 4).take 56) (by rw [hyrest]; exact hpart) hyl hlen hc (by
    have hrx : ((y.port p).cred (classOf (u8 part 0))).rx = ((s.port p).cred (classOf (u8 part 0))).rx := congrArg Prod.fst hycred
    have hfr : ((y.port p).cred (classOf (u8 part 0))).rxFreed = ((s.port p).cred (classOf (u8 part 0))).rxFreed := congrArg Prod.snd hycred
    rw [hrx, hfr]
    exact hcred)
  rw [hydone] at hshort hwhole
  have hyseqs : (y.port p).seqs = ((s.port p).rxNext + 1, false, (s.port p).rxFlits + 1,
      (s.port p).acked + (s.port p).covered (bits (u32 f 0) 10 10), (s.port p).replay.drop ((s.port p).covered (bits (u32 f 0) 10 10))) := by
    obtain ⟨-, hseqs⟩ := Prod.ext_iff.1 hseqs
    obtain ⟨-, hseqs⟩ := Prod.ext_iff.1 hseqs
    rw [hyport, Port.seqs, hnext]
    exact congrArg (fun r => ((s.port p).rxNext + 1, false, r)) hseqs
  have hall := hvseqs.trans hyseqs
  refine ⟨_, hx.trans (congrArg _ hdata), congrArg Prod.fst hall, congrArg (fun r => r.2.1) hall, congrArg (fun r => r.2.2.1) hall,
    congrArg (fun r => r.2.2.2.1) hall, congrArg (fun r => r.2.2.2.2) hall, (hvg _ hkeys.2).trans hycount, hshort, hwhole,
    hvh.trans (hyparts.1.trans hxh), hvd.trans (hyparts.2.trans hxd)⟩

/-- DATA that repeats one of the last 256 flits is dropped (R371). -/
theorem flitReceived_repeated (hr : Running s) (p : Fin 4) (hports : s.ports.length = 4) (hflits : s.flits p = true)
    (hhere : s.flitHere p = true) (hcrc : crc32c (f.take 60) = u32 f 60)
    (hkind : bits (u32 f 0) 20 3 = 1) (hact : s.active p = true)
    (hd : (s.port p).covered (bits (u32 f 0) 10 10) ≤ (s.port p).replay.length)
    (hlow : 1 ≤ ((s.port p).rxNext + 1024 - bits (u32 f 0) 0 10) % 1024) (hhigh : ((s.port p).rxNext + 1024 - bits (u32 f 0) 0 10) % 1024 ≤ 256) :
    ∃ v, exec (.flitReceived p f t) s = .next v ∧ (v.port p).rxNext = (s.port p).rxNext ∧
      (v.port p).acked = (s.port p).acked + (s.port p).covered (bits (u32 f 0) 10 10) ∧
      (v.port p).rxDone = (s.port p).rxDone ∧ (v.port p).nakOwed = (s.port p).nakOwed := by
  obtain ⟨x, hx, -, -, -, -, hseqs, howed, -, hdone, -⟩ := flitReceived_acked (t := t) hr p hports hflits hhere hcrc hkind hact hd
  have hnext : (x.port p).rxNext = (s.port p).rxNext := congrArg Prod.fst hseqs
  have hdata : x.onData p (bits (u32 f 0) 0 10) ((f.drop 4).take 56) = x := by
    unfold State.onData
    refine (if_neg ?_).trans (if_pos ?_)
    · rw [hnext]
      intro h
      rw [h] at hlow
      omega
    · rw [hnext]
      exact ⟨hlow, hhigh⟩
  exact ⟨x, hx.trans (congrArg _ hdata), hnext, congrArg (fun r => r.2.2.2.1) hseqs, hdone, howed⟩

/-- A flit whose CRC fails is counted, and causes a NAK unless one is outstanding (R371). -/
theorem flitReceived_badCrc (hr : Running s) (p : Fin 4) (hports : s.ports.length = 4) (hflits : s.flits p = true)
    (hhere : s.flitHere p = true) (hcrc : crc32c (f.take 60) ≠ u32 f 60) :
    exec (.flitReceived p f t) s = .next
      (let v := ((s.elapse t).modPort p (fun q => { q with rxFlits := q.rxFlits + 1 })).incSat (Reg.ZLINK_PORT_CRC_ERRORS_COUNT p) 1
       if s.active p = true ∧ (s.port p).nakOut = false then
         v.modPort p (fun q => { q with nakOut := true, nakOwed := true, nakAt := (s.elapse t).now })
       else v) := by
  have hlen : (p : Nat) < (s.elapse t).ports.length := Nat.lt_of_lt_of_eq p.isLt (by rw [State.elapse_ports, hports])
  have hexec : exec (.flitReceived p f t) s = .next (((s.elapse t).slot p).onFlit p f) := by
    show execFlitReceived p f t s = _
    unfold execFlitReceived
    rw [event_running hr, State.rxSlot_taken (by rw [State.elapse_flitHere]; exact hhere) (by rw [State.elapse_flits]; exact hflits)]
  rw [hexec]
  refine congrArg _ ?_
  have hslot := State.slot_port hlen
  rw [State.elapse_port] at hslot
  have hcount : ∀ x : State, (x.incSat (Reg.ZLINK_PORT_CRC_ERRORS_COUNT p) 1).active p = x.active p := fun x =>
    State.active_of_get (State.get_incSat_other (by
      simp only [Fld.key, Reg.ZLINK_PORT_STATUS_LL_STATE, Reg.ZLINK_PORT_CRC_ERRORS_COUNT]
      omega) _)
  have hact := (hcount ((s.elapse t).slot p)).trans (State.elapse_active ..)
  have hport : (((s.elapse t).slot p).incSat (Reg.ZLINK_PORT_CRC_ERRORS_COUNT p) 1).port p = _ := hslot
  have hnow : (((s.elapse t).slot p).incSat (Reg.ZLINK_PORT_CRC_ERRORS_COUNT p) 1).now = (s.elapse t).now := rfl
  show _ = if s.active p = true ∧ (s.port p).nakOut = false then
      (((s.elapse t).slot p).incSat (Reg.ZLINK_PORT_CRC_ERRORS_COUNT p) 1).modPort p
        (fun q => { q with nakOut := true, nakOwed := true, nakAt := (s.elapse t).now })
    else ((s.elapse t).slot p).incSat (Reg.ZLINK_PORT_CRC_ERRORS_COUNT p) 1
  unfold State.onFlit
  refine (if_pos hcrc).trans ?_
  generalize ((s.elapse t).slot p).incSat (Reg.ZLINK_PORT_CRC_ERRORS_COUNT p) 1 = y at hact hport hnow
  show (if y.active p then y.causeNak p else y) = _
  unfold State.causeNak
  rw [hact, hport, hnow]
  cases s.active p <;> cases (s.port p).nakOut <;> rfl

end Sys2Proof.Machine
end

section
/-! SUPPORT. Failures of the link layer, replays, NAK_RECEIVED and the time-outs (R371, R372, R375). -/

namespace Sys2Proof.Machine

variable {s : State} {p : Nat} {t : Nat}

/-! ### Failures -/

theorem llCause_stays (hp : p < 4) : ¬fallKey p (Reg.ZLINK_PORT_STATUS_LL_CAUSE p).key ∧
    ¬laneKey p (Reg.ZLINK_PORT_STATUS_LL_CAUSE p).key := by
  refine ⟨?_, ?_⟩
  · simp only [fallKey, portKey, stopKey, eventFields, List.mem_cons, List.not_mem_nil, or_false]
    simp only [Fld.key, Reg.LOG_STATUS_DROPPED, Reg.CMD_ERR_COUNT_EVT_LOST, Reg.ZLINK_PORT_UNACKED_FLITS,
      Reg.ZLINK_CKPT_STATUS_RECEIVING, Reg.PAIR_STATUS_STATE, Reg.PAIR_STATUS_PARTNER, Reg.ZLINK_PORT_STATUS_LL_STATE,
      Reg.ZLINK_PORT_STATUS_LL_CAUSE]
    omega
  · rintro ⟨k, j, -, hj, hk⟩
    simp only [Fld.key, Reg.ZLINK_PORT_STATUS_LL_CAUSE] at hk
    omega

/-- A link layer that fails takes its port to training, with both causes shown (R375). -/
theorem State.llFail_fails (s : State) {c : Nat} (hc : c < 8) (hp4 : p < 4) (hp : p < s.ports.length) (hup : (s.port p).isUp = true) :
    (s.llFail p c).get (Reg.ZLINK_PORT_STATUS_LL_CAUSE p) = c ∧ ((s.llFail p c).port p).phase = .training ∧
      (s.llFail p c).get (Reg.ZPHY_PORT_STATUS_LAST_CAUSE p) = 3 ∧ (s.llFail p c).active p = false := by
  obtain ⟨hstand, hget, -, hdown⟩ := (s.set (Reg.ZLINK_PORT_STATUS_LL_CAUSE p) c).linkDown_falls 3 .training hp4 hp
  obtain ⟨hll, hcause⟩ := hdown hup
  obtain ⟨hfall, hlane⟩ := llCause_stays hp4
  have hset : (s.set (Reg.ZLINK_PORT_STATUS_LL_CAUSE p) c).get (Reg.ZLINK_PORT_STATUS_LL_CAUSE p) = c :=
    (State.get_set_same ..).trans (Nat.mod_eq_of_lt hc)
  refine ⟨(hget _ hfall hlane).trans hset, congrArg Prod.fst hstand, hcause, ?_⟩
  exact congrArg (· == 2) hll

/-! ### Replays -/

/-- The state in which a replay of every unacknowledged flit begins. -/
def State.replaying (s : State) (p : Nat) (ack : Option Nat) : State :=
  (s.modPort p (fun q => { q with
    replayAt := some 0, replayAck := ack, sameReplays := q.sameReplays + 1, ackAt := s.now })).incSat (Reg.ZLINK_PORT_REPLAYS_COUNT p) 1

theorem State.replaying_port (ack : Option Nat) (hp : p < s.ports.length) : (s.replaying p ack).port p = { s.port p with
    replayAt := some 0, replayAck := ack, sameReplays := (s.port p).sameReplays + 1, ackAt := s.now } :=
  State.port_modPort_same hp

theorem replaysCount_apart (p : Nat) : (Reg.ZLINK_PORT_CFG_REPLAY_LIMIT p).key ≠ (Reg.ZLINK_PORT_REPLAYS_COUNT p).key := by
  simp only [Fld.key, Reg.ZLINK_PORT_CFG_REPLAY_LIMIT, Reg.ZLINK_PORT_REPLAYS_COUNT]
  omega

theorem State.startReplay_starts (ack : Option Nat) (hp : p < s.ports.length) (hne : (s.port p).replay ≠ []) :
    s.startReplay p ack = if s.replayLimit p ≤ (s.port p).sameReplays + 1 then (s.replaying p ack).llFail p 3 else s.replaying p ack := by
  have hport := s.replaying_port ack hp
  have hlimit : (s.replaying p ack).replayLimit p = s.replayLimit p :=
    congrArg (max 1) (State.get_incSat_other (replaysCount_apart p) _)
  have hsame : ((s.replaying p ack).port p).sameReplays = (s.port p).sameReplays + 1 := congrArg Port.sameReplays hport
  unfold State.startReplay
  refine (if_neg (by rw [List.isEmpty_iff]; exact hne)).trans ?_
  show (if (s.replaying p ack).replayLimit p ≤ ((s.replaying p ack).port p).sameReplays then _ else _) = _
  rw [hlimit, hsame]
  rfl

/-- A replay that begins: the flits from the first one unacknowledged, or the failure that too many of them are. -/
theorem State.startReplay_cases (ack : Option Nat) (hp4 : p < 4) (hp : p < s.ports.length) (hup : (s.port p).isUp = true)
    (hne : (s.port p).replay ≠ []) : let v := s.startReplay p ack
    ((s.port p).sameReplays + 1 < s.replayLimit p → (v.port p).replay = (s.port p).replay ∧ (v.port p).replayAt = some 0 ∧
      (v.port p).replayAck = ack ∧ (v.port p).sameReplays = (s.port p).sameReplays + 1 ∧
      (∀ f : Fld, f.key ≠ (Reg.ZLINK_PORT_REPLAYS_COUNT p).key → v.get f = s.get f) ∧
      v.get (Reg.ZLINK_PORT_REPLAYS_COUNT p) = min (s.get (Reg.ZLINK_PORT_REPLAYS_COUNT p) + 1) (2 ^ 32 - 1) ∧ v.host = s.host) ∧
    (s.replayLimit p ≤ (s.port p).sameReplays + 1 → v.get (Reg.ZLINK_PORT_STATUS_LL_CAUSE p) = 3 ∧ (v.port p).phase = .training) := by
  have hport := s.replaying_port ack hp
  rw [State.startReplay_starts ack hp hne]
  refine ⟨fun hfew => ?_, fun hmany => ?_⟩
  · rw [if_neg (Nat.not_le.2 hfew), hport]
    exact ⟨rfl, rfl, rfl, rfl, fun f hf => State.get_incSat_other hf _, State.get_incSat_same .., rfl⟩
  · rw [if_pos hmany]
    obtain ⟨hcause, hphase, -, -⟩ := (s.replaying p ack).llFail_fails (c := 3) (by decide) hp4
      (Nat.lt_of_lt_of_eq hp (modAt_length _ _ _).symm) (by rw [hport]; exact hup)
    exact ⟨hcause, hphase⟩

/-! ### NAK_RECEIVED -/

/-- A NAK, as the state that its ACK leaves takes it. -/
theorem nakReceived_acked (hr : Running s) (p : Fin 4) (hports : s.ports.length = 4) (hflits : s.flits p = true)
    (hhere : s.flitHere p = true) (hact : s.active p = true) {a : Nat} (hcov : (s.port p).covered a ≤ (s.port p).replay.length)
    (hnone : (s.port p).replayAt = none) :
    ∃ x : State, exec (.nakReceived p a t) s = .next (x.startReplay p (some a)) ∧ x.host = s.host ∧ p < x.ports.length ∧
      (x.port p).isUp = true ∧ (∀ g : Fld, g.key ≠ (Reg.ZLINK_PORT_UNACKED_FLITS p).key → x.get g = s.get g) ∧
      (x.port p).replay = (s.port p).replay.drop ((s.port p).covered a) ∧ (x.port p).replayAt = none ∧
      (x.port p).sameReplays = if (s.port p).covered a = 0 then (s.port p).sameReplays else 0 := by
  have hlen : (p : Nat) < (s.elapse t).ports.length := Nat.lt_of_lt_of_eq p.isLt (by rw [State.elapse_ports, hports])
  have hslot := State.slot_port hlen
  rw [State.elapse_port] at hslot
  have hslotcov : (((s.elapse t).slot p).port p).covered a = (s.port p).covered a := by
    rw [hslot]
    rfl
  have hslotlen := Nat.lt_of_lt_of_eq hlen (State.slot_length (s.elapse t) p).symm
  have hslotact : ((s.elapse t).slot p).active p = true := (State.elapse_active ..).trans hact
  obtain ⟨⟨hh, -, -, hl, hg⟩, hport⟩ := ((s.elapse t).slot p).onAck_frame (p := p) (a := a) hslotlen (by rw [hslotcov, hslot]; exact hcov)
  rw [hslotcov, hslot] at hport
  have hexec : exec (.nakReceived p a t) s = .next (((s.elapse t).slot p).onNak p a) := by
    show execNakReceived p a t s = _
    unfold execNakReceived
    rw [event_running hr, State.rxSlot_taken (by rw [State.elapse_flitHere]; exact hhere) (by rw [State.elapse_flits]; exact hflits)]
    exact congrArg _ (if_pos hslotact)
  have hxact : (((s.elapse t).slot p).onAck p a).active p = true :=
    (State.active_of_get (hg _ (llState_ne_unacked p))).trans hslotact
  have hphase : ((((s.elapse t).slot p).onAck p a).port p).phase = (s.port p).phase := by
    rw [hport]
    rfl
  have hat : ((((s.elapse t).slot p).onAck p a).port p).replayAt = none := by
    rw [hport]
    exact congrArg (fun o : Option Nat => o.bind _) hnone
  have hnak : ((s.elapse t).slot p).onNak p a = (((s.elapse t).slot p).onAck p a).startReplay p (some a) := by
    unfold State.onNak
    refine (if_neg (by rw [hxact]; decide)).trans (if_neg ?_)
    rw [hat]
    exact fun h => absurd h.1 (by decide)
  refine ⟨_, hexec.trans (congrArg _ hnak), hh.trans (State.elapse_host ..), Nat.lt_of_lt_of_eq hslotlen hl.symm, ?_,
    fun g hne => (hg g hne).trans (State.elapse_get ..), ?_, hat, ?_⟩
  · rw [Port.isUp, hphase, State.flits_up hflits]
    rfl
  · rw [hport]; rfl
  · rw [hport]; rfl

/-- NAK_RECEIVED of flits still held, with no replay in progress (R372, R375). -/
theorem nakReceived_cases (hr : Running s) (p : Fin 4) (hports : s.ports.length = 4) (hflits : s.flits p = true)
    (hhere : s.flitHere p = true) (hact : s.active p = true) {a : Nat} (hcov : (s.port p).covered a ≤ (s.port p).replay.length)
    (hnone : (s.port p).replayAt = none) :
    let again := (if (s.port p).covered a = 0 then (s.port p).sameReplays else 0) + 1
    ((s.port p).covered a = (s.port p).replay.length → ∃ v, exec (.nakReceived p a t) s = .next v ∧ (v.port p).replay = [] ∧
      (v.port p).replayAt = none ∧ v.host = s.host) ∧
    ((s.port p).covered a < (s.port p).replay.length → again < s.replayLimit p →
      ∃ v, exec (.nakReceived p a t) s = .next v ∧ (v.port p).replay = (s.port p).replay.drop ((s.port p).covered a) ∧
        (v.port p).replayAt = some 0 ∧ (v.port p).replayAck = some a ∧ (v.port p).sameReplays = again ∧
        v.get (Reg.ZLINK_PORT_REPLAYS_COUNT p) = min (s.get (Reg.ZLINK_PORT_REPLAYS_COUNT p) + 1) (2 ^ 32 - 1) ∧
        v.host = s.host) ∧
    ((s.port p).covered a < (s.port p).replay.length → s.replayLimit p ≤ again →
      ∃ v, exec (.nakReceived p a t) s = .next v ∧ v.get (Reg.ZLINK_PORT_STATUS_LL_CAUSE p) = 3 ∧ (v.port p).phase = .training) := by
  intro again
  obtain ⟨x, hx, hxh, hxl, hxup, hxg, hxrep, hxat, hxsame⟩ := nakReceived_acked (t := t) hr p hports hflits hhere hact hcov hnone
  have hkeys : (Reg.ZLINK_PORT_REPLAYS_COUNT p).key ≠ (Reg.ZLINK_PORT_UNACKED_FLITS p).key ∧
      (Reg.ZLINK_PORT_CFG_REPLAY_LIMIT p).key ≠ (Reg.ZLINK_PORT_UNACKED_FLITS p).key := by
    simp only [Fld.key, Reg.ZLINK_PORT_REPLAYS_COUNT, Reg.ZLINK_PORT_UNACKED_FLITS, Reg.ZLINK_PORT_CFG_REPLAY_LIMIT]
    omega
  have hlimit : x.replayLimit p = s.replayLimit p := congrArg (max 1) (hxg _ hkeys.2)
  have hagain : (x.port p).sameReplays + 1 = again := congrArg (· + 1) hxsame
  have hne : (s.port p).covered a < (s.port p).replay.length → (x.port p).replay ≠ [] := fun h => by
    rw [hxrep]
    exact List.ne_nil_of_length_pos (by rw [List.length_drop]; omega)
  refine ⟨fun hall => ?_, fun hsome hfew => ?_, fun hsome hmany => ?_⟩
  · have hempty : (x.port p).replay = [] := by
      rw [hxrep, hall]
      exact List.drop_length
    have hstart : x.startReplay p (some a) = x := if_pos (by rw [hempty]; rfl)
    exact ⟨x, hx.trans (congrArg _ hstart), hempty, hxat, hxh⟩
  · obtain ⟨hrep, hat, hack, hsame, -, hcount, hhost⟩ := (State.startReplay_cases (some a) p.isLt hxl hxup (hne hsome)).1
      (by rw [hlimit, hagain]; exact hfew)
    rw [hxg _ hkeys.1] at hcount
    exact ⟨_, hx, hrep.trans hxrep, hat, hack, hsame.trans hagain, hcount, hhost.trans hxh⟩
  · obtain ⟨hcause, hphase⟩ := (State.startReplay_cases (some a) p.isLt hxl hxup (hne hsome)).2 (by rw [hlimit, hagain]; exact hmany)
    exact ⟨_, hx, hcause, hphase⟩

/-! ### Time-outs -/

theorem State.elapse_replayTime (s : State) (t p : Nat) : (s.elapse t).replayTime p = s.replayTime p := by
  unfold State.replayTime
  rw [State.elapse_get]

theorem replayTimeout_early (hr : Running s) (p : Fin 4) (h : (s.elapse t).now < (s.port p).ackAt + s.replayTime p) :
    exec (.replayTimeout p t) s = .next (s.elapse t) := by
  show execReplayTimeout p t s = _
  unfold execReplayTimeout
  rw [event_running hr, State.elapse_replayTime, State.elapse_port, decide_eq_false (Nat.not_le.2 h), Bool.and_false]
  rfl

/-- A time-out without progress replays, or fails at the limit (R372, R375). -/
theorem replayTimeout_cases (hr : Running s) (p : Fin 4) (hports : s.ports.length = 4) (hflits : s.flits p = true)
    (hact : s.active p = true) (hne : (s.port p).replay ≠ []) (hlate : (s.port p).ackAt + s.replayTime p ≤ (s.elapse t).now) :
    ((s.port p).sameReplays + 1 < s.replayLimit p → ∃ v, exec (.replayTimeout p t) s = .next v ∧
      (v.port p).replay = (s.port p).replay ∧ (v.port p).replayAt = some 0 ∧ (v.port p).replayAck = some (((s.port p).acked + 1023) % 1024) ∧
      (v.port p).sameReplays = (s.port p).sameReplays + 1 ∧
      v.get (Reg.ZLINK_PORT_TIMEOUTS_COUNT p) = min (s.get (Reg.ZLINK_PORT_TIMEOUTS_COUNT p) + 1) (2 ^ 32 - 1) ∧
      v.host = s.host) ∧
    (s.replayLimit p ≤ (s.port p).sameReplays + 1 → ∃ v, exec (.replayTimeout p t) s = .next v ∧
      v.get (Reg.ZLINK_PORT_STATUS_LL_CAUSE p) = 3 ∧ (v.port p).phase = .training) := by
  have hempty : (s.port p).replay.isEmpty = false := by simp [hne]
  have hexec : exec (.replayTimeout p t) s = .next (((s.elapse t).incSat (Reg.ZLINK_PORT_TIMEOUTS_COUNT p) 1).startReplay p
      (some (((s.port p).acked + 1023) % 1024))) := by
    show execReplayTimeout p t s = _
    unfold execReplayTimeout
    rw [event_running hr, State.elapse_replayTime, State.elapse_flits, State.elapse_active, State.elapse_port, hflits, hact, hempty,
      decide_eq_true hlate]
    refine congrArg _ ((if_pos rfl).trans ?_)
    dsimp only
    rw [State.elapse_port]
  have hkeys : (Reg.ZLINK_PORT_TIMEOUTS_COUNT p).key ≠ (Reg.ZLINK_PORT_REPLAYS_COUNT p).key ∧
      (Reg.ZLINK_PORT_CFG_REPLAY_LIMIT p).key ≠ (Reg.ZLINK_PORT_TIMEOUTS_COUNT p).key := by
    simp only [Fld.key, Reg.ZLINK_PORT_REPLAYS_COUNT, Reg.ZLINK_PORT_TIMEOUTS_COUNT, Reg.ZLINK_PORT_CFG_REPLAY_LIMIT]
    omega
  have hxport : ((s.elapse t).incSat (Reg.ZLINK_PORT_TIMEOUTS_COUNT p) 1).port p = s.port p := State.elapse_port ..
  have hxcount : ((s.elapse t).incSat (Reg.ZLINK_PORT_TIMEOUTS_COUNT p) 1).get (Reg.ZLINK_PORT_TIMEOUTS_COUNT p) =
      min (s.get (Reg.ZLINK_PORT_TIMEOUTS_COUNT p) + 1) (2 ^ 32 - 1) := by
    rw [State.get_incSat_same, State.elapse_get]
    rfl
  have hxlimit : ((s.elapse t).incSat (Reg.ZLINK_PORT_TIMEOUTS_COUNT p) 1).replayLimit p = s.replayLimit p :=
    congrArg (max 1) ((State.get_incSat_other hkeys.2 _).trans (State.elapse_get ..))
  have hxhost : ((s.elapse t).incSat (Reg.ZLINK_PORT_TIMEOUTS_COUNT p) 1).host = s.host := State.elapse_host ..
  have hxlen : (p : Nat) < ((s.elapse t).incSat (Reg.ZLINK_PORT_TIMEOUTS_COUNT p) 1).ports.length :=
    Nat.lt_of_lt_of_eq p.isLt (hports.symm.trans (congrArg List.length (State.elapse_ports s t).symm))
  generalize (s.elapse t).incSat (Reg.ZLINK_PORT_TIMEOUTS_COUNT p) 1 = x at hexec hxport hxcount hxlimit hxhost hxlen
  obtain ⟨hfewer, hmore⟩ := State.startReplay_cases (s := x) (some (((s.port p).acked + 1023) % 1024)) p.isLt hxlen
    (by rw [hxport]; exact State.flits_isUp hflits) (by rw [hxport]; exact hne)
  rw [hxport, hxlimit] at hfewer hmore
  refine ⟨fun hfew => ?_, fun hmany => ⟨_, hexec, (hmore hmany).1, (hmore hmany).2⟩⟩
  obtain ⟨hrep, hat, hack, hsame, hget, -, hhost⟩ := hfewer hfew
  exact ⟨_, hexec, hrep, hat, hack, hsame, (hget _ hkeys.1).trans hxcount, hhost.trans hxhost⟩

theorem nakRepeat_repeats (hr : Running s) (p : Fin 4) (hflits : s.flits p = true) (hout : (s.port p).nakOut = true) :
    exec (.nakRepeat p t) s = .next (if (s.port p).nakAt + s.replayTime p ≤ (s.elapse t).now then
      (s.elapse t).modPort p (fun q => { q with nakOwed := true, nakAt := (s.elapse t).now }) else s.elapse t) := by
  show execNakRepeat p t s = _
  unfold execNakRepeat
  rw [event_running hr, State.elapse_replayTime, State.elapse_flits, State.elapse_port, hflits, hout]
  by_cases hlate : (s.port p).nakAt + s.replayTime p ≤ (s.elapse t).now
  · rw [if_pos hlate, decide_eq_true hlate]
    rfl
  · rw [if_neg hlate, decide_eq_false hlate]
    rfl

theorem initTimeout_fails (hr : Running s) (p : Fin 4) (hports : s.ports.length = 4) (hflits : s.flits p = true)
    (hstate : s.get (Reg.ZLINK_PORT_STATUS_LL_STATE p) = 1) (hlate : (s.port p).upAt + msSteps ≤ (s.elapse t).now) :
    ∃ v, exec (.initTimeout p t) s = .next v ∧ v.get (Reg.ZLINK_PORT_STATUS_LL_CAUSE p) = 1 ∧ (v.port p).phase = .training ∧
      v.active p = false := by
  obtain ⟨hcause, hphase, -, hact⟩ := (s.elapse t).llFail_fails (c := 1) (by decide) p.isLt
    (Nat.lt_of_lt_of_eq p.isLt (by rw [State.elapse_ports, hports])) (by rw [State.elapse_port]; exact State.flits_isUp hflits)
  refine ⟨_, ?_, hcause, hphase, hact⟩
  show execInitTimeout p t s = _
  unfold execInitTimeout
  rw [event_running hr, State.elapse_get, State.elapse_port, hstate, decide_eq_true hlate]
  rfl

end Sys2Proof.Machine
end

section
/-! SUPPORT. INIT_RECEIVED (R369, R375 cause 2, R391). -/

namespace Sys2Proof.Machine

variable {s : State} {p : Nat} {t : Nat} {b : List Byte}

/-- An INIT payload of this version, with credits in range (R369). -/
def initOk (b : List Byte) : Prop := u8 b 0 = 1 ∧ ∀ i ∈ [4, 5, 6], 74 ≤ u8 b i ∧ u8 b i ≤ 127

theorem initOk_iff : initOk b ↔
    ¬(u8 b 0 ≠ 1 ∨ [u8 b 4, u8 b 5, u8 b 6].any (fun c => decide (c < 74 ∨ 127 < c)) = true) := by
  simp only [initOk, List.any_cons, List.any_nil, Bool.or_false, Bool.or_eq_true, decide_eq_true_iff, List.mem_cons,
    List.not_mem_nil, or_false, forall_eq_or_imp, forall_eq]
  omega

theorem u8_lt (b : List Byte) (o : Nat) : u8 b o < 256 := by
  unfold u8 uAt
  match h : (b.drop o).take 1 with
  | [] => decide
  | [x] => simpa [leNat] using x.isLt
  | x :: y :: l =>
    have hlen := congrArg List.length h
    simp only [List.length_take, List.length_cons] at hlen
    omega

/-- The port after an INIT that finds its link layer not active. -/
def Port.greeted (q : Port) (b : List Byte) : Port :=
  { q with
    initRx := true, initOwed := true,
    credP := { Credit.init with limit := u8 b 4 }, credN := { Credit.init with limit := u8 b 5 },
    credC := { Credit.init with limit := u8 b 6 } }

/-- What an INIT shows of the peer. -/
def State.peered (s : State) (p : Nat) (b : List Byte) : State :=
  ((s.set (Reg.ZLINK_PORT_STATUS_PEER_ID p) (u8 b 1)).setB (Reg.ZLINK_PORT_STATUS_PEER_HOST p) (bit (u8 b 2) 0)).set
    (Reg.ZLINK_PORT_STATUS_PEER_FW p) (u16 b 8)

/-- An INIT that finds the link layer not active: the peer, and its credits. -/
def State.greeted (s : State) (p : Nat) (b : List Byte) : State :=
  ((((s.peered p b).modPort p (·.greeted b)).set (Reg.ZLINK_PORT_PEER_CREDITS_P p) (u8 b 4)).set
    (Reg.ZLINK_PORT_PEER_CREDITS_N p) (u8 b 5)).set (Reg.ZLINK_PORT_PEER_CREDITS_C p) (u8 b 6)

theorem State.onInit_inactive (s : State) (hok : initOk b) (hact : s.active p = false) :
    s.onInit p b = if p = 0 then (s.greeted p b).takeId b else s.greeted p b := by
  unfold State.onInit
  refine (if_neg (initOk_iff.1 hok)).trans ?_
  rw [hact]
  rfl

theorem State.onInit_active (s : State) (hok : initOk b) (hact : s.active 0 = true) :
    s.onInit 0 b = ((s.peered 0 b).modPort 0 (fun q => { q with initOwed := true })).takeId b := by
  unfold State.onInit
  refine (if_neg (initOk_iff.1 hok)).trans ?_
  rw [hact]
  rfl

theorem State.onInit_bad (s : State) (hbad : ¬initOk b) : s.onInit p b = s.llFail p 2 := by
  unfold State.onInit
  exact if_pos (not_not.1 fun h => hbad (initOk_iff.2 h))

theorem State.greeted_parts (s : State) (p : Nat) (b : List Byte) : (s.greeted p b).ports = modAt (·.greeted b) p s.ports ∧
    (s.greeted p b).host = s.host ∧ (s.greeted p b).otp = s.otp := by
  simp only [State.greeted, State.peered, State.set_ports, State.modPort_ports, State.setB_ports, State.set_host, State.modPort_host,
    State.setB_host, State.set_otp, State.modPort_otp, State.setB_otp, and_self]

/-- What a first INIT shows and gives. -/
theorem State.greeted_shows (hp : p < s.ports.length) : let v := s.greeted p b
    v.get (Reg.ZLINK_PORT_STATUS_PEER_ID p) = u8 b 1 ∧ v.get (Reg.ZLINK_PORT_STATUS_PEER_FW p) = low 8 (u16 b 8) ∧
      v.port p = (s.port p).greeted b ∧ v.host = s.host ∧ v.otp = s.otp ∧ v.myId = s.myId ∧ v.ports.length = s.ports.length := by
  have hlow : low (Reg.ZLINK_PORT_STATUS_PEER_ID p).w (u8 b 1) = u8 b 1 := Nat.mod_eq_of_lt (u8_lt b 1)
  obtain ⟨hports, hhost, hotp⟩ := s.greeted_parts p b
  have hport : (s.greeted p b).port p = (s.port p).greeted b :=
    (congrArg (fun l : List Port => l.getD p _) hports).trans (modAt_getD_same _ _ p _ hp)
  refine ⟨?_, ?_, hport, hhost, hotp, ?_, (congrArg List.length hports).trans (modAt_length _ _ _)⟩
  · unfold State.greeted State.peered
    rw [State.get_set_other, State.get_set_other, State.get_set_other, State.modPort_get, State.get_set_other, State.get_setB_other,
      State.get_set_same, hlow]
    all_goals
      simp only [Fld.key, Reg.ZLINK_PORT_STATUS_PEER_ID, Reg.ZLINK_PORT_PEER_CREDITS_C, Reg.ZLINK_PORT_PEER_CREDITS_N,
        Reg.ZLINK_PORT_PEER_CREDITS_P, Reg.ZLINK_PORT_STATUS_PEER_FW, Reg.ZLINK_PORT_STATUS_PEER_HOST]
      omega
  · unfold State.greeted State.peered
    rw [State.get_set_other, State.get_set_other, State.get_set_other, State.modPort_get, State.get_set_same]
    · rfl
    all_goals
      simp only [Fld.key, Reg.ZLINK_PORT_PEER_CREDITS_C, Reg.ZLINK_PORT_PEER_CREDITS_N, Reg.ZLINK_PORT_PEER_CREDITS_P,
        Reg.ZLINK_PORT_STATUS_PEER_FW]
      omega
  · unfold State.greeted State.peered State.myId
    rw [State.get_set_other, State.get_set_other, State.get_set_other, State.modPort_get, State.get_set_other, State.get_setB_other,
      State.get_set_other]
    all_goals
      simp only [Fld.key, Reg.ZLINK_PORT_STATUS_PEER_ID, Reg.ZLINK_PORT_PEER_CREDITS_C, Reg.ZLINK_PORT_PEER_CREDITS_N,
        Reg.ZLINK_PORT_PEER_CREDITS_P, Reg.ZLINK_PORT_STATUS_PEER_FW, Reg.ZLINK_PORT_STATUS_PEER_HOST, Reg.HIER_ID]
      omega

/-! ### The id that a parent gives -/

/-- The id of a device in path mode below the peer of an INIT (R391). -/
def pathId (b : List Byte) : Nat :=
  if bit (u8 b 2) 0 then 0
  else if u8 b 1 ≤ 62 ∧ 1 ≤ u8 b 3 ∧ u8 b 3 ≤ 3 ∧ 3 * u8 b 1 + u8 b 3 ≤ 62 then 3 * u8 b 1 + u8 b 3 else 0xFF

theorem pathId_lt (b : List Byte) : pathId b < 256 := by
  unfold pathId
  split
  · decide
  · split
    · omega
    · decide

theorem State.takeId_fixed (hfix : u8 s.otp.active 1 ≠ 0xFF) : (s.takeId b).get Reg.HIER_ID = s.get Reg.HIER_ID := by
  unfold State.takeId
  refine (congrArg (fun x : State => x.get Reg.HIER_ID) (if_pos hfix)).trans ?_
  exact (State.get_set_other _ (by decide) _).trans (State.get_set_other _ (by decide) _)

/-- An active downlink owes its INIT anew. -/
def State.owesInit (s : State) (q : Nat) : State :=
  if s.active q && !s.isPairPort q then s.modPort q (fun x => { x with initOwed := true }) else s

theorem State.owesInit_frame (s : State) {q : Nat} (hq : q ≠ 0) : (s.owesInit q).regs = s.regs ∧ (s.owesInit q).port 0 = s.port 0 := by
  unfold State.owesInit
  split
  · exact ⟨rfl, State.port_modPort_other _ hq.symm⟩
  · exact ⟨rfl, rfl⟩

theorem foldl_owesInit (s : State) : ([1, 2, 3].foldl State.owesInit s).regs = s.regs ∧
    ([1, 2, 3].foldl State.owesInit s).port 0 = s.port 0 := by
  obtain ⟨h1, k1⟩ := s.owesInit_frame (q := 1) (by decide)
  obtain ⟨h2, k2⟩ := (s.owesInit 1).owesInit_frame (q := 2) (by decide)
  obtain ⟨h3, k3⟩ := ((s.owesInit 1).owesInit 2).owesInit_frame (q := 3) (by decide)
  exact ⟨h3.trans (h2.trans h1), k3.trans (k2.trans k1)⟩

/-- A device in path mode takes its id (R391), and its uplink is left. -/
theorem State.takeId_path (hpath : u8 s.otp.active 1 = 0xFF) :
    (s.takeId b).get Reg.HIER_PARENT_ID = u8 b 1 ∧ (s.takeId b).get Reg.HIER_ID = pathId b ∧
      ((s.takeId b).port 0).initRx = (s.port 0).initRx := by
  generalize hx : ((((s.set Reg.HIER_PARENT_ID (u8 b 1)).set Reg.HIER_PARENT_PORT (u8 b 3)).set Reg.HIER_ID (pathId b)).setB
    Reg.HIER_ID_MANAGER (pathId b == 0)).setB Reg.HIER_ID_PATH (pathId b != 0xFF) = x
  have hparent : x.get Reg.HIER_PARENT_ID = u8 b 1 := by
    rw [← hx, State.get_setB_other _ (by decide), State.get_setB_other _ (by decide), State.get_set_other _ (by decide),
      State.get_set_other _ (by decide), State.get_set_same]
    exact Nat.mod_eq_of_lt (u8_lt b 1)
  have hid : x.get Reg.HIER_ID = pathId b := by
    rw [← hx, State.get_setB_other _ (by decide), State.get_setB_other _ (by decide), State.get_set_same]
    exact Nat.mod_eq_of_lt (pathId_lt b)
  have hports : x.ports = s.ports := by
    rw [← hx]
    simp only [State.setB_ports, State.set_ports]
  obtain ⟨n, m, htake⟩ : ∃ (n : HierSt) (m : Nat), s.takeId b = (let y : State := { x with hier := n }
      if pathId b = m then y else [1, 2, 3].foldl State.owesInit y) := by
    rw [← hx]
    unfold State.takeId
    exact ⟨_, _, if_neg (not_not_intro hpath)⟩
  have hregs : ∀ y : State, y.regs = x.regs → y.get Reg.HIER_PARENT_ID = u8 b 1 ∧ y.get Reg.HIER_ID = pathId b := fun y hy => by
    refine ⟨(congrArg (fun r => Sparse.get _ r _) hy).trans hparent, (congrArg (fun r => Sparse.get _ r _) hy).trans hid⟩
  have hport : ∀ y : State, y.port 0 = x.port 0 → (y.port 0).initRx = (s.port 0).initRx := fun y hy =>
    congrArg Port.initRx (hy.trans (congrArg (fun l : List Port => l.getD 0 _) hports))
  rw [htake]
  dsimp only
  split
  · exact ⟨(hregs _ rfl).1, (hregs _ rfl).2, hport _ rfl⟩
  · obtain ⟨hr, hp⟩ := foldl_owesInit { x with hier := n }
    exact ⟨(hregs _ hr).1, (hregs _ hr).2, hport _ hp⟩

/-! ### The event -/

theorem initReceived_slot (hr : Running s) (p : Fin 4) (hflits : s.flits p = true) (hhere : s.flitHere p = true) (b : List Byte) :
    exec (.initReceived p b t) s = .next (((s.elapse t).slot p).onInit p b) := by
  show execInitReceived p b t s = _
  unfold execInitReceived
  rw [event_running hr, State.rxSlot_taken (by rw [State.elapse_flitHere]; exact hhere) (by rw [State.elapse_flits]; exact hflits)]

/-- What the slot of a flit leaves. -/
theorem slot_leaves (s : State) (t : Nat) (p : Fin 4) (hports : s.ports.length = 4) :
    p < ((s.elapse t).slot p).ports.length ∧ ((s.elapse t).slot p).port p = { s.port p with rxFlits := (s.port p).rxFlits + 1 } ∧
      (∀ q, ((s.elapse t).slot p).active q = s.active q) ∧ ((s.elapse t).slot p).host = s.host ∧
      ((s.elapse t).slot p).otp = s.otp ∧ ∀ f, ((s.elapse t).slot p).get f = s.get f := by
  have hlen : (p : Nat) < (s.elapse t).ports.length := Nat.lt_of_lt_of_eq p.isLt (by rw [State.elapse_ports, hports])
  have hslot := State.slot_port hlen
  rw [State.elapse_port] at hslot
  exact ⟨Nat.lt_of_lt_of_eq hlen (State.slot_length _ _).symm, hslot, fun q => State.elapse_active .., State.elapse_host .., State.elapse_otp ..,
    State.elapse_get s t⟩

theorem initReceived_downlink (hr : Running s) (p : Fin 4) (hports : s.ports.length = 4) (hflits : s.flits p = true)
    (hhere : s.flitHere p = true) (hok : initOk b) (hp : p ≠ 0) (hact : s.active p = false) :
    ∃ v, exec (.initReceived p b t) s = .next v ∧ v.get (Reg.ZLINK_PORT_STATUS_PEER_ID p) = u8 b 1 ∧
      v.get (Reg.ZLINK_PORT_STATUS_PEER_FW p) = low 8 (u16 b 8) ∧ (v.port p).initRx = true ∧ (v.port p).initOwed = true ∧
      (v.port p).credP = { Credit.init with limit := u8 b 4 } ∧
      (v.port p).credN = { Credit.init with limit := u8 b 5 } ∧
      (v.port p).credC = { Credit.init with limit := u8 b 6 } ∧ v.host = s.host := by
  obtain ⟨hlen, -, hactive, hhost, -, -⟩ := slot_leaves s t p hports
  obtain ⟨hid, hfw, hport, hgh, -⟩ := State.greeted_shows (b := b) hlen
  have hinit := ((s.elapse t).slot p).onInit_inactive hok ((hactive p).trans hact)
  rw [if_neg (fun h : (p : Nat) = 0 => hp (Fin.ext h))] at hinit
  refine ⟨_, (initReceived_slot hr p hflits hhere b).trans (congrArg _ hinit), hid, hfw, ?_, ?_, ?_, ?_, ?_, hgh.trans hhost⟩
  all_goals rw [hport]; rfl

theorem initReceived_uplink (hr : Running s) (hports : s.ports.length = 4) (hflits : s.flits 0 = true)
    (hhere : s.flitHere 0 = true) (hok : initOk b) (hact : s.active 0 = false) (hpath : u8 s.otp.active 1 = 0xFF) :
    ∃ v, exec (.initReceived 0 b t) s = .next v ∧ v.get Reg.HIER_PARENT_ID = u8 b 1 ∧ v.get Reg.HIER_ID = pathId b ∧
      (v.port 0).initRx = true := by
  obtain ⟨hlen, -, hactive, hhost, hotp, -⟩ := slot_leaves s t 0 hports
  obtain ⟨-, -, hport, -, hgo, -⟩ := State.greeted_shows (b := b) hlen
  obtain ⟨hparent, hid, hrx⟩ := State.takeId_path (b := b) (s := ((s.elapse t).slot 0).greeted 0 b) (by
    rw [show (((s.elapse t).slot 0).greeted 0 b).otp = s.otp from hgo.trans hotp]
    exact hpath)
  have hinit := (((s.elapse t).slot 0).onInit_inactive (p := 0) hok ((hactive 0).trans hact)).trans (if_pos rfl)
  refine ⟨_, (initReceived_slot hr 0 hflits hhere b).trans (congrArg _ hinit), hparent, hid, hrx.trans ?_⟩
  exact congrArg Port.initRx hport

theorem initReceived_fixed (hr : Running s) (hports : s.ports.length = 4) (hflits : s.flits 0 = true)
    (hhere : s.flitHere 0 = true) (hok : initOk b) (hfix : u8 s.otp.active 1 ≠ 0xFF) :
    ∃ v, exec (.initReceived 0 b t) s = .next v ∧ v.get Reg.HIER_ID = s.get Reg.HIER_ID := by
  obtain ⟨hlen, -, hactive, -, hotp, hget⟩ := slot_leaves s t 0 hports
  cases hact : s.active 0 with
  | false =>
    obtain ⟨-, -, -, -, hgo, hgid, -⟩ := State.greeted_shows (b := b) hlen
    have hinit := (((s.elapse t).slot 0).onInit_inactive (p := 0) hok ((hactive 0).trans hact)).trans (if_pos rfl)
    refine ⟨_, (initReceived_slot hr 0 hflits hhere b).trans (congrArg _ hinit), ?_⟩
    refine (State.takeId_fixed ?_).trans (hgid.trans (hget _))
    rw [show (((s.elapse t).slot 0).greeted 0 b).otp = s.otp from hgo.trans hotp]
    exact hfix
  | true =>
    have hinit := ((s.elapse t).slot 0).onInit_active hok ((hactive 0).trans hact)
    refine ⟨_, (initReceived_slot hr 0 hflits hhere b).trans (congrArg _ hinit), ?_⟩
    have hpo : (((s.elapse t).slot 0).peered 0 b).otp = s.otp := by
      simp only [State.peered, State.set_otp, State.setB_otp]
      exact hotp
    have hpid : (((s.elapse t).slot 0).peered 0 b).get Reg.HIER_ID = s.get Reg.HIER_ID := by
      unfold State.peered
      rw [State.get_set_other _ (by decide), State.get_setB_other _ (by decide), State.get_set_other _ (by decide)]
      exact hget _
    refine (State.takeId_fixed ?_).trans hpid
    show u8 (((s.elapse t).slot 0).peered 0 b).otp.active 1 ≠ 0xFF
    rw [hpo]
    exact hfix

theorem initReceived_invalid (hr : Running s) (p : Fin 4) (hports : s.ports.length = 4) (hflits : s.flits p = true)
    (hhere : s.flitHere p = true) (hbad : ¬initOk b) :
    ∃ v, exec (.initReceived p b t) s = .next v ∧ v.get (Reg.ZLINK_PORT_STATUS_LL_CAUSE p) = 2 ∧
      (v.port p).phase = .training ∧ v.get (Reg.ZPHY_PORT_STATUS_LAST_CAUSE p) = 3 := by
  obtain ⟨hlen, hslot, -⟩ := slot_leaves s t p hports
  obtain ⟨hcause, hphase, hlast, -⟩ := ((s.elapse t).slot p).llFail_fails (c := 2) (by decide) p.isLt hlen (by
    rw [hslot]
    exact State.flits_isUp hflits)
  exact ⟨_, (initReceived_slot hr p hflits hhere b).trans (congrArg _ (State.onInit_bad _ hbad)), hcause, hphase, hlast⟩

end Sys2Proof.Machine
end

section
/-! SUPPORT. Flits sent: the block in progress, and the lines of a block that a flit completes (R347 to R349, R367). -/

namespace Sys2Proof.Machine

variable {s : State} {p : Nat} {t : Nat}

theorem length_lanePayload (w k : Nat) (block : List Byte) : (lanePayload w k block).length = blockBits := by
  have hbytes : ∀ (n : Nat) (f : Nat → Nat), ((List.range n).flatMap (fun i => lsbBits 8 (f i))).length = n * 8 := fun n f => by
    simp [lsbBits, List.length_flatMap]
  exact hbytes blockBytes _

/-- Bytes sent: the block in progress grows, or ends and the next one starts (R347). -/
theorem State.sendBytes_sends (s : State) (bs : List Byte) (hp : p < s.ports.length) :
    OnlyLink p s (s.sendBytes p bs) ∧
    (∃ a b c d, (s.sendBytes p bs).port p = { s.port p with txBlock := a, txBurst := b, zeros := c, seenTx := d }) ∧
    ((s.port p).txBlock.length + bs.length < (s.port p).blockLen → ((s.sendBytes p bs).port p).txBlock = (s.port p).txBlock ++ bs) ∧
    ((s.port p).blockLen ≤ (s.port p).txBlock.length + bs.length → (s.port p).phase = .up →
      ∀ k < widthOf (s.port p).txWidth, 4 * p + k < s.lanes.length →
        let x := s.lane (4 * p + k)
        let y := (s.sendBytes p bs).lane (4 * p + k)
        (∃ pad, y.txLine = s.laneLine p k (((s.port p).txBlock ++ bs).take (s.port p).blockLen) ++ pad) ∧
          y.txScr = prbsAdv blockBits x.txScr ∧ y.txMarker = markWord k true false (s.port p).txWidth (s.port p).txRate y.txScr) := by
  by_cases hshort : ((s.port p).txBlock ++ bs).length < (s.port p).blockLen
  · have hsend : s.sendBytes p bs = s.modPort p (fun q => { q with txBlock := (s.port p).txBlock ++ bs }) := if_pos hshort
    have hport : (s.sendBytes p bs).port p = { s.port p with txBlock := (s.port p).txBlock ++ bs } := by
      rw [hsend]
      exact State.port_modPort_same hp
    refine ⟨?_, ⟨_, (s.port p).txBurst, (s.port p).zeros, (s.port p).seenTx, hport⟩, fun _ => congrArg Port.txBlock hport,
      fun h => absurd hshort (Nat.not_lt.2 (by rw [List.length_append]; exact h))⟩
    rw [hsend]
    exact .modPort s _
  · have hsend : s.sendBytes p bs = ((s.endBlock p (((s.port p).txBlock ++ bs).take (s.port p).blockLen)).startBlock p false).modPort p
        (fun q => { q with txBlock := ((s.port p).txBlock ++ bs).drop (s.port p).blockLen }) := if_neg hshort
    obtain ⟨hend, hendport, hendlane⟩ := s.endBlock_ends (((s.port p).txBlock ++ bs).take (s.port p).blockLen) hp
    generalize s.endBlock p (((s.port p).txBlock ++ bs).take (s.port p).blockLen) = e at hsend hend hendport hendlane
    obtain ⟨hstart, hstartport, hstartlane⟩ := e.startBlock_starts (p := p) false (Nat.lt_of_lt_of_eq hp hend.length.symm)
    rw [hendport] at hstartport hstartlane
    generalize e.startBlock p false = f at hsend hstart hstartport hstartlane
    have hport : (s.sendBytes p bs).port p = { f.port p with txBlock := ((s.port p).txBlock ++ bs).drop (s.port p).blockLen } := by
      rw [hsend]
      exact State.port_modPort_same (Nat.lt_of_lt_of_eq hp (hend.trans hstart).length.symm)
    rw [hstartport] at hport
    refine ⟨?_, ⟨_, _, _, _, hport⟩, fun h => absurd (by rw [List.length_append]; exact h) hshort, fun _ hup k hk hl => ?_⟩
    · rw [hsend]
      exact (hend.trans hstart).trans (.modPort f _)
    · obtain ⟨pad, hendk⟩ := hendlane k hk hl
      have hstartk := hstartlane k hk (by rw [hend.lanes]; exact hl)
      have hlane : (s.sendBytes p bs).lane (4 * p + k) = f.lane (4 * p + k) := by rw [hsend]; rfl
      have hline := congrArg Lane.txLine hendk
      have hscr := congrArg Lane.txScr hendk
      have hstartline := congrArg Lane.txLine hstartk
      have hstartscr := congrArg Lane.txScr hstartk
      have hmark := congrArg Lane.txMarker hstartk
      dsimp only at hline hscr hstartline hstartscr hmark ⊢
      rw [hlane, hmark, hstartline, hstartscr]
      refine ⟨⟨pad, hline⟩, hscr, ?_⟩
      have hseen : ∀ q : Port, q.phase = .up → q.nextSeen = true := fun q hq => by
        rw [Port.nextSeen, hq]
        rfl
      exact congrArg (fun b => markWord k b false (s.port p).txWidth (s.port p).txRate (e.lane (4 * p + k)).txScr) (hseen _ hup)

/-! ### A flit -/

/-- Payload padded to a flit. -/
def padded (b : List Byte) : List Byte := b ++ List.replicate (56 - b.length) 0

theorem length_mkFlit (hdr : Nat) {b : List Byte} (h : b.length ≤ 56) : (mkFlit hdr (padded b)).length = 64 := by
  simp [mkFlit, padded]
  omega

/-- The header of a flit of a kind (R367). -/
def Port.header (q : Port) (kind seq : Nat) : Nat :=
  if kind = 3 then flitHdr 0 0 3 3 0 else flitHdr seq (q.rxNext + 1023) kind q.turn ((q.cred q.turn).rxFreed)

/-- A port that has formed a flit. -/
def Port.formed (q : Port) (kind seq : Nat) (payload : List Byte) : Port :=
  { q with txFlit := mkFlit (q.header kind seq) (padded payload), turn := if kind = 3 then q.turn else (q.turn + 1) % 3 }

theorem State.emit_eq (s : State) (p kind seq : Nat) (payload : List Byte) :
    s.emit p kind seq payload = (s.modPort p (fun q => { q with
      txFlit := mkFlit ((s.port p).header kind seq) (padded payload), turn := if kind = 3 then q.turn else (q.turn + 1) % 3 })).sendBytes p
        (mkFlit ((s.port p).header kind seq) (padded payload)) := rfl

/-- A flit that leaves: the port with the flit formed, but for its block in progress. -/
theorem State.emit_sends (s : State) (kind seq : Nat) {payload : List Byte} (hlen : payload.length ≤ 56) (hp : p < s.ports.length) :
    let v := s.emit p kind seq payload
    let flit := mkFlit ((s.port p).header kind seq) (padded payload)
    OnlyLink p s v ∧
    (∃ a b c d, v.port p = { (s.port p).formed kind seq payload with txBlock := a, txBurst := b, zeros := c, seenTx := d }) ∧
    ((s.port p).txBlock.length + 64 < (s.port p).blockLen → (v.port p).txBlock = (s.port p).txBlock ++ flit) ∧
    ((s.port p).blockLen ≤ (s.port p).txBlock.length + 64 → (s.port p).phase = .up →
      ∀ k < widthOf (s.port p).txWidth, 4 * p + k < s.lanes.length →
        let x := s.lane (4 * p + k)
        let y := v.lane (4 * p + k)
        (∃ pad, y.txLine = s.laneLine p k (((s.port p).txBlock ++ flit).take (s.port p).blockLen) ++ pad) ∧
          y.txScr = prbsAdv blockBits x.txScr ∧ y.txMarker = markWord k true false (s.port p).txWidth (s.port p).txRate y.txScr) := by
  have hflit := length_mkFlit ((s.port p).header kind seq) hlen
  generalize hx : s.modPort p (fun q => { q with
      txFlit := mkFlit ((s.port p).header kind seq) (padded payload), turn := if kind = 3 then q.turn else (q.turn + 1) % 3 }) = x
  have hport : x.port p = (s.port p).formed kind seq payload := by
    rw [← hx]
    exact State.port_modPort_same hp
  have hlink : OnlyLink p s x := by
    rw [← hx]
    exact .modPort s _
  have hline : ∀ k block, x.laneLine p k block = s.laneLine p k block := fun k block => by
    have hl : ∀ l, x.lane l = s.lane l := fun l => by
      rw [← hx]
      rfl
    unfold State.laneLine
    rw [hport, hl]
    rfl
  have hlane : ∀ l, x.lane l = s.lane l := fun l => by
    rw [← hx]
    rfl
  obtain ⟨hsend, hform, hshort, hfull⟩ := x.sendBytes_sends (mkFlit ((s.port p).header kind seq) (padded payload))
    (Nat.lt_of_lt_of_eq hp hlink.length.symm)
  rw [State.emit_eq, hx]
  rw [hflit, hport] at hshort hfull
  rw [hport] at hform
  refine ⟨hlink.trans hsend, hform, hshort, fun hle hup k hk hl => ?_⟩
  have hlast := hfull hle hup k hk (by rw [hlink.lanes]; exact hl)
  rw [hline, hlane] at hlast
  exact hlast

/-- A flit of any length that leaves: the port with the flit formed, but for its block in progress. -/
theorem State.emit_forms (s : State) (kind seq : Nat) (payload : List Byte) (hp : p < s.ports.length) :
    OnlyLink p s (s.emit p kind seq payload) ∧
    ∃ a b c d, (s.emit p kind seq payload).port p =
      { (s.port p).formed kind seq payload with txBlock := a, txBurst := b, zeros := c, seenTx := d } := by
  generalize hx : s.modPort p (fun q => { q with
      txFlit := mkFlit ((s.port p).header kind seq) (padded payload), turn := if kind = 3 then q.turn else (q.turn + 1) % 3 }) = x
  have hport : x.port p = (s.port p).formed kind seq payload := by
    rw [← hx]
    exact State.port_modPort_same hp
  have hlink : OnlyLink p s x := by
    rw [← hx]
    exact .modPort s _
  obtain ⟨hsend, hform, -⟩ := x.sendBytes_sends (mkFlit ((s.port p).header kind seq) (padded payload))
    (Nat.lt_of_lt_of_eq hp hlink.length.symm)
  rw [State.emit_eq, hx]
  rw [hport] at hform
  exact ⟨hlink.trans hsend, hform⟩

/-- The line of a lane whose block a flit completes, read back (R348). -/
theorem readBlock_laneLine (s : State) {k : Nat} {seen idle : Bool} (hburst : (s.port p).txBurst = false)
    (hmark : (s.lane (4 * p + k)).txMarker =
      markWord k seen idle (s.port p).txWidth (s.port p).txRate (s.lane (4 * p + k)).txScr)
    (hscr : (s.lane (4 * p + k)).txScr < 2 ^ 31) (block pad) :
    readBlock (s.lane (4 * p + k)).txLast (s.lane (4 * p + k)).txRun (s.laneLine p k block ++ pad) =
      some ((s.lane (4 * p + k)).txMarker, lanePayload (widthOf (s.port p).txWidth) k block) := by
  obtain ⟨hlt, hsync, hseed, -⟩ := markWord_fields k seen idle (s.port p).txWidth (s.port p).txRate (s.lane (4 * p + k)).txScr
  rw [← hmark] at hlt hsync hseed
  rw [Nat.mod_eq_of_lt hscr] at hseed
  unfold State.laneLine
  dsimp only
  rw [hburst]
  exact readBlock_stuff _ _ pad hlt hsync hseed (length_lanePayload _ _ _)

end Sys2Proof.Machine
end

section
/-! SUPPORT. FLIT_TRANSMIT, by what the slot sends (R366 to R374). -/

namespace Sys2Proof.Machine

variable {s : State} {p : Nat} {t : Nat}

theorem State.elapse_initPayload (s : State) (t p : Nat) : (s.elapse t).initPayload p = s.initPayload p := by
  unfold State.initPayload
  rw [State.elapse_myId, State.elapse_isPairPort]

theorem length_initPayload (s : State) (p : Nat) : (s.initPayload p).length = 56 := by
  simp [State.initPayload]

theorem OnlyLink.active {u : State} (h : OnlyLink p s u) (q : Nat) : u.active q = s.active q := State.active_of_get (h.get _)

theorem modAt_congr {α : Type} {f g : α → α} {d : α} {n : Nat} {l : List α} (hn : n < l.length) (h : f (l.getD n d) = g (l.getD n d)) :
    modAt f n l = modAt g n l := by
  induction n generalizing l with
  | zero =>
    match l, hn with
    | x :: l, _ => exact congrArg (· :: l) h
  | succ n ih =>
    match l, hn with
    | x :: l, hn => exact congrArg (x :: ·) (ih (Nat.lt_of_succ_lt_succ hn) h)

theorem State.modPort_congr {f g : Port → Port} (hp : p < s.ports.length) (h : f (s.port p) = g (s.port p)) :
    s.modPort p f = s.modPort p g := by
  unfold State.modPort
  rw [modAt_congr hp h]

theorem flitTransmit_exec (hr : Running s) (p : Fin 4) (hflits : s.flits p = true) :
    exec (.flitTransmit p t) s = .next ((s.elapse t).flitSlot p) := by
  show execFlitTransmit p t s = _
  unfold execFlitTransmit
  rw [event_running hr]
  exact congrArg _ (if_pos (by rw [State.elapse_flits]; exact hflits))

theorem flitTransmit_rests (hr : Running s) (p : Fin 4) (hflits : s.flits p = false) (hsends : (s.port p).sends = false) :
    exec (.flitTransmit p t) s = .next (s.elapse t) := by
  show execFlitTransmit p t s = _
  unfold execFlitTransmit
  rw [event_running hr]
  refine congrArg _ ((if_neg (by rw [State.elapse_flits, hflits]; decide)).trans (if_neg ?_))
  rw [State.elapse_port, hsends]
  decide

/-- A port that sends blocks but no flits fills the block in progress. -/
theorem flitTransmit_fills (hr : Running s) (p : Fin 4) (hports : s.ports.length = 4) (hflits : s.flits p = false) {n : Nat}
    (hn : (if (s.port p).seenTx then 64 else min 64 ((s.port p).blockLen - (s.port p).txBlock.length)) = n)
    (hsends : (s.port p).sends = true) (hphase : (s.port p).phase ≠ .training)
    (hshort : (s.port p).txBlock.length + n < (s.port p).blockLen) :
    exec (.flitTransmit p t) s = .next
      ((s.elapse t).modPort p (fun q => { q with txBlock := q.txBlock ++ (s.elapse t).fillBytes n })).used := by
  have hlen : (p : Nat) < (s.elapse t).ports.length := Nat.lt_of_lt_of_eq p.isLt (by rw [State.elapse_ports, hports])
  have hexec : exec (.flitTransmit p t) s = .next ((s.elapse t).fillSlot p) := by
    show execFlitTransmit p t s = _
    unfold execFlitTransmit
    rw [event_running hr]
    refine congrArg _ ((if_neg (by rw [State.elapse_flits, hflits]; decide)).trans (if_pos ?_))
    rw [State.elapse_port]
    exact hsends
  have hfill : ((s.elapse t).fillBytes n).length = n := by simp [State.fillBytes]
  have hsend : (s.elapse t).sendBytes p ((s.elapse t).fillBytes n) =
      (s.elapse t).modPort p (fun q => { q with txBlock := (s.port p).txBlock ++ (s.elapse t).fillBytes n }) := by
    unfold State.sendBytes
    rw [State.elapse_port]
    exact if_pos (by rw [List.length_append, hfill]; exact hshort)
  have hsame : (s.elapse t).modPort p (fun q => { q with txBlock := (s.port p).txBlock ++ (s.elapse t).fillBytes n }) =
      (s.elapse t).modPort p (fun q => { q with txBlock := q.txBlock ++ (s.elapse t).fillBytes n }) := by
    refine State.modPort_congr hlen ?_
    rw [State.elapse_port]
  rw [hexec]
  unfold State.fillSlot
  dsimp only
  rw [State.elapse_port, hn, hsend, hsame]
  refine congrArg _ (if_neg ?_)
  rintro ⟨h, -⟩
  refine hphase (Eq.trans ?_ h)
  have hport := State.port_modPort_same (s := s.elapse t) (f := fun q => { q with txBlock := q.txBlock ++ (s.elapse t).fillBytes n }) hlen
  have hsame : ((s.elapse t).port p).phase = (s.port p).phase := congrArg Port.phase (State.elapse_port ..)
  exact ((congrArg Port.phase hport).trans hsame).symm

/-! ### INIT -/

/-- INIT on a link layer that is active: only the flit leaves, and no INIT is owed. -/
theorem flitTransmit_init (hr : Running s) (p : Fin 4) (hports : s.ports.length = 4) (hlanes : s.lanes.length = 16)
    (hflits : s.flits p = true) (hact : s.active p = true) (howed : (s.port p).initOwed = true) :
    ∃ v, exec (.flitTransmit p t) s = .next v ∧
      (v.port p).initOwed = false ∧ (v.port p).txFlit = mkFlit (flitHdr 0 0 3 3 0) (padded (s.initPayload p)) ∧
      v.host = s.host ∧
      ((s.port p).txBlock.length + 64 < (s.port p).blockLen → (v.port p).txBlock = (s.port p).txBlock ++ (v.port p).txFlit) ∧
      ((s.port p).blockLen ≤ (s.port p).txBlock.length + 64 → (s.port p).txBurst = false →
        ∀ k < widthOf (s.port p).txWidth, ∀ seen idle,
          let x := s.lane (4 * p + k)
          let y := v.lane (4 * p + k)
          x.txMarker = markWord k seen idle (s.port p).txWidth (s.port p).txRate x.txScr → 0 < x.txScr → x.txScr < 2 ^ 31 →
          readBlock x.txLast x.txRun y.txLine = some (x.txMarker,
            lanePayload (widthOf (s.port p).txWidth) k (((s.port p).txBlock ++ (v.port p).txFlit).take (s.port p).blockLen)) ∧
          y.txScr = prbsAdv blockBits x.txScr ∧ y.txMarker = markWord k true false (s.port p).txWidth (s.port p).txRate y.txScr) := by
  have hlen : (p : Nat) < (s.elapse t).ports.length := Nat.lt_of_lt_of_eq p.isLt (by rw [State.elapse_ports, hports])
  obtain ⟨hlink, ⟨a, b, c, d, hform⟩, hshort, hfull⟩ := (s.elapse t).emit_sends 3 0 (Nat.le_of_eq (length_initPayload s p)) hlen
  have hline : ∀ k block, (s.elapse t).laneLine p k block = s.laneLine p k block := fun k block => by
    unfold State.laneLine
    rw [State.elapse_port, State.elapse_lane]
  simp only [State.elapse_port, hline, State.elapse_lane, State.elapse_lanes, hlanes] at hform hshort hfull
  have hslot : (s.elapse t).flitSlot p = ((s.elapse t).emit p 3 0 (s.initPayload p)).modPort p (fun q => { q with initOwed := false }) := by
    unfold State.flitSlot
    rw [State.elapse_port]
    refine (if_pos (.inr howed)).trans ?_
    unfold State.sendInit
    rw [State.elapse_initPayload]
    refine if_neg fun h => ?_
    have hstill : (((s.elapse t).emit p 3 0 (s.initPayload p)).modPort p (fun q => { q with initOwed := false })).active p = true :=
      (hlink.active p).trans ((State.elapse_active ..).trans hact)
    rw [hstill] at h
    exact absurd h.1 (by decide)
  have hexec := (flitTransmit_exec (t := t) hr p hflits).trans (congrArg _ hslot)
  have hhost := hlink.host.trans (State.elapse_host ..)
  have hlen' := Nat.lt_of_lt_of_eq hlen hlink.length.symm
  generalize (s.elapse t).emit p 3 0 (s.initPayload p) = e at hexec hform hshort hfull hhost hlen'
  have hport : (e.modPort p (fun q => { q with initOwed := false })).port p = { e.port p with initOwed := false } :=
    State.port_modPort_same hlen'
  have hflit : ((e.modPort p (fun q => { q with initOwed := false })).port p).txFlit =
      mkFlit (flitHdr 0 0 3 3 0) (padded (s.initPayload p)) := by
    rw [hport]
    exact congrArg Port.txFlit hform
  have hlane : ∀ l, (e.modPort p (fun q => { q with initOwed := false })).lane l = e.lane l := fun _ => rfl
  have hheader : (s.port p).header 3 0 = flitHdr 0 0 3 3 0 := if_pos rfl
  rw [hheader] at hshort hfull
  refine ⟨_, hexec, congrArg Port.initOwed hport, hflit, hhost, fun h => ?_, fun hle hburst k hk seen idle => ?_⟩
  · rw [hflit]
    exact (congrArg Port.txBlock hport).trans (hshort h)
  · intro x y hmark hpos hscr
    obtain ⟨⟨pad, hl⟩, hs, hm⟩ := hfull hle (State.flits_up hflits) k hk (by
      have := widthOf_le (s.port p).txWidth
      have := p.isLt
      omega)
    rw [hflit]
    refine ⟨?_, hs, hm⟩
    rw [show y.txLine = _ from hl]
    exact readBlock_laneLine s hburst hmark hscr _ pad

/-- A child recorded below a port leaves the ports and every register but those of events and DUP_ID. -/
theorem State.join_frame (s : State) (p id : Nat) : (s.join p id).ports = s.ports ∧
    ∀ f : Fld, f.key ∉ eventFields → f.key ≠ Reg.HIER_STATUS_DUP_ID.key → (s.join p id).get f = s.get f := by
  have hrecord : ∀ (x : State) (d : Nat), (x.recordNode id x.myId p d).ports = x.ports ∧
      ∀ f : Fld, f.key ≠ Reg.HIER_STATUS_DUP_ID.key → (x.recordNode id x.myId p d).get f = x.get f := by
    intro x d
    unfold State.recordNode
    split
    · split
      · exact ⟨rfl, fun _ _ => rfl⟩
      · exact ⟨rfl, fun f hf => State.get_setB_other _ hf _⟩
    · exact ⟨rfl, fun _ _ => rfl⟩
  unfold State.join
  extract_lets +onlyGivenNames h x
  obtain ⟨hports, hget⟩ := hrecord x (x.depthBelow x.myId)
  generalize x.recordNode id x.myId p (x.depthBelow x.myId) = y at hports hget
  unfold State.when
  split
  · exact ⟨(State.raise_ports ..).trans hports, fun f hf hd => (State.raise_get _ _ _ _ hf).trans (hget f hd)⟩
  · exact ⟨hports, fun f _ hd => hget f hd⟩

/-- A link layer that becomes active keeps its port but for the INIT that it owes. -/
theorem State.activate_active (s : State) (hp : p < s.ports.length) : (s.activate p).active p = true ∧
    (s.activate p).port p = { s.port p with initOwed := false } := by
  have hkeys : (Reg.ZLINK_PORT_STATUS_LL_STATE p).key ∉ eventFields ∧
      (Reg.ZLINK_PORT_STATUS_LL_STATE p).key ≠ Reg.HIER_STATUS_DUP_ID.key ∧
      (Reg.ZLINK_PORT_STATUS_LL_STATE p).key ≠ Reg.PAIR_STATUS_STATE.key := by
    simp only [eventFields, List.mem_cons, List.not_mem_nil, or_false, Fld.key, Reg.ZLINK_PORT_STATUS_LL_STATE,
      Reg.LOG_STATUS_DROPPED, Reg.CMD_ERR_COUNT_EVT_LOST, Reg.HIER_STATUS_DUP_ID, Reg.PAIR_STATUS_STATE]
    omega
  generalize hx : (s.set (Reg.ZLINK_PORT_STATUS_LL_STATE p) 2).modPort p (fun q => { q with initOwed := false }) = x
  have hstate : x.get (Reg.ZLINK_PORT_STATUS_LL_STATE p) = 2 := by
    rw [← hx]
    exact State.get_set_same s (Reg.ZLINK_PORT_STATUS_LL_STATE p) 2
  have hport : x.port p = { s.port p with initOwed := false } := by
    rw [← hx]
    exact State.port_modPort_same (s := s.set (Reg.ZLINK_PORT_STATUS_LL_STATE p) 2) hp
  have hend : ∀ y : State, y.ports = x.ports → y.get (Reg.ZLINK_PORT_STATUS_LL_STATE p) = x.get (Reg.ZLINK_PORT_STATUS_LL_STATE p) →
      y.active p = true ∧ y.port p = { s.port p with initOwed := false } := fun y hy hg =>
    ⟨congrArg (· == 2) (hg.trans hstate), (congrArg (fun l : List Port => l.getD p _) hy).trans hport⟩
  have hact : s.activate p = (let peer := x.get (Reg.ZLINK_PORT_STATUS_PEER_ID p)
      if p = 0 then x
      else if x.isPairPort p then
        if x.standby ∧ x.pair.lost then
          ({ x with pair := { x.pair with lost := false, resyncAt := some x.now, ckptNew := false } } : State).set
            Reg.PAIR_STATUS_STATE 1
        else x
      else if peer < 63 then x.join p peer else x) := by
    rw [← hx]
    rfl
  rw [hact]
  dsimp only
  split
  · exact hend x rfl rfl
  · split
    · split
      · exact hend _ rfl (State.get_set_other _ hkeys.2.2 1)
      · exact hend x rfl rfl
    · split
      · obtain ⟨hports, hget⟩ := x.join_frame p (x.get (Reg.ZLINK_PORT_STATUS_PEER_ID p))
        exact hend _ hports (hget _ hkeys.1 hkeys.2.1)
      · exact hend x rfl rfl

/-- INIT after one from the peer: the link layer becomes active (R369). -/
theorem flitTransmit_activates (hr : Running s) (p : Fin 4) (hports : s.ports.length = 4) (hflits : s.flits p = true)
    (hact : s.active p = false) (hrx : (s.port p).initRx = true) :
    ∃ v, exec (.flitTransmit p t) s = .next v ∧ v.active p = true ∧
      (v.port p).initOwed = false ∧ (v.port p).txFlit = mkFlit (flitHdr 0 0 3 3 0) (padded (s.initPayload p)) := by
  have hlen : (p : Nat) < (s.elapse t).ports.length := Nat.lt_of_lt_of_eq p.isLt (by rw [State.elapse_ports, hports])
  obtain ⟨hlink, ⟨a, b, c, d, hform⟩⟩ := (s.elapse t).emit_forms 3 0 (s.initPayload p) hlen
  rw [State.elapse_port] at hform
  have hnot : (s.elapse t).active p = false := (State.elapse_active ..).trans hact
  have hslot : (s.elapse t).flitSlot p =
      (((s.elapse t).emit p 3 0 (s.initPayload p)).modPort p (fun q => { q with initOwed := false })).activate p := by
    unfold State.flitSlot
    refine (if_pos (.inl (by rw [hnot]; rfl))).trans ?_
    unfold State.sendInit
    rw [State.elapse_initPayload]
    refine if_pos ⟨?_, ?_⟩
    · have hstill : (((s.elapse t).emit p 3 0 (s.initPayload p)).modPort p (fun q => { q with initOwed := false })).active p = false :=
        (hlink.active p).trans hnot
      rw [hstill]
      rfl
    · rw [State.port_modPort_same (Nat.lt_of_lt_of_eq hlen hlink.length.symm)]
      exact (congrArg Port.initRx hform).trans hrx
  have hexec := (flitTransmit_exec (t := t) hr p hflits).trans (congrArg _ hslot)
  have hlen' := Nat.lt_of_lt_of_eq hlen hlink.length.symm
  generalize (s.elapse t).emit p 3 0 (s.initPayload p) = e at hexec hform hlen'
  have hport : (e.modPort p (fun q => { q with initOwed := false })).port p = { e.port p with initOwed := false } :=
    State.port_modPort_same hlen'
  obtain ⟨hactive, haport⟩ := (e.modPort p (fun q => { q with initOwed := false })).activate_active (p := p)
    (Nat.lt_of_lt_of_eq hlen' (modAt_length _ _ _).symm)
  refine ⟨_, hexec, hactive, congrArg Port.initOwed haport, ?_⟩
  exact (congrArg Port.txFlit haport).trans ((congrArg Port.txFlit hport).trans (congrArg Port.txFlit hform))

end Sys2Proof.Machine
end

section
/-! SUPPORT. NAK, replay and DATA out of the transmitter; obligation O52. -/

namespace Sys2Proof.Machine

variable {s : State} {t : Nat} {f : List Byte}

/-- NAK (R371). -/
theorem flitTransmit_nak (hr : Running s) (p : Fin 4) (hports : s.ports.length = 4) (hflits : s.flits p = true)
    (hact : s.active p = true) (hinit : (s.port p).initOwed = false) (hnak : (s.port p).nakOwed = true) :
    ∃ v, exec (.flitTransmit p t) s = .next v ∧ (v.port p).nakOwed = false ∧
      (v.port p).txFlit = mkFlit ((s.port p).header 2 0) (padded []) ∧ v.host = s.host := by
  have hlen : (p : Nat) < (s.elapse t).ports.length := Nat.lt_of_lt_of_eq p.isLt (by rw [State.elapse_ports, hports])
  obtain ⟨hlink, ⟨a, b, c, d, hform⟩⟩ := (s.elapse t).emit_forms 2 0 [] hlen
  rw [State.elapse_port] at hform
  have hslot : (s.elapse t).flitSlot p = (((s.elapse t).emit p 2 0 []).modPort p (fun q => { q with nakOwed := false })).incSat
      (Reg.ZLINK_PORT_NAKS_SENT_COUNT p) 1 := by
    unfold State.flitSlot
    rw [State.elapse_port]
    exact (if_neg (by rw [State.elapse_active, hact, hinit]; decide)).trans (if_pos hnak)
  have hexec := (flitTransmit_exec (t := t) hr p hflits).trans (congrArg _ hslot)
  have hhost := hlink.host.trans (State.elapse_host ..)
  have hlen' := Nat.lt_of_lt_of_eq hlen hlink.length.symm
  generalize (s.elapse t).emit p 2 0 [] = e at hexec hform hhost hlen'
  have hport : ((e.modPort p (fun q => { q with nakOwed := false })).incSat (Reg.ZLINK_PORT_NAKS_SENT_COUNT p) 1).port p =
      { e.port p with nakOwed := false } := State.port_modPort_same hlen'
  exact ⟨_, hexec, congrArg Port.nakOwed hport, (congrArg Port.txFlit hport).trans (congrArg Port.txFlit hform), hhost⟩

/-- The slot of a flit that is none of the link layer's own. -/
theorem State.flitSlot_data (hact : s.active p = true) (hinit : (s.port p).initOwed = false) (hnak : (s.port p).nakOwed = false) :
    s.flitSlot p = match (s.port p).replayAt.bind (fun i => ((s.port p).replay[i]?).map (fun h => (i, h))) with
      | some (i, h) => s.sendReplay p i h
      | none =>
        if 256 ≤ (s.port p).replay.length then s.emit p 0 0 []
        else match (s.port p).cur with
          | h :: _ => s.sendNext p h
          | [] => s.freeSlot p :=
  (if_neg (by rw [hact, hinit]; decide)).trans (if_neg (by rw [hnak]; decide))

/-- The next flit of a replay (R372). -/
theorem flitTransmit_replay (hr : Running s) (p : Fin 4) (hports : s.ports.length = 4) (hflits : s.flits p = true)
    {i : Nat} {h : Held} (hact : s.active p = true) (hinit : (s.port p).initOwed = false) (hnak : (s.port p).nakOwed = false)
    (hat : (s.port p).replayAt = some i) (hh : (s.port p).replay[i]? = some h) :
    ∃ v, exec (.flitTransmit p t) s = .next v ∧
      (v.port p).txFlit = mkFlit ((s.port p).header 1 ((s.port p).acked + i)) (padded h.payload) ∧
      (v.port p).replay = (s.port p).replay ∧
      (v.port p).replayAt = (if i + 1 < (s.port p).replay.length then some (i + 1) else none) ∧ v.host = s.host := by
  have hlen : (p : Nat) < (s.elapse t).ports.length := Nat.lt_of_lt_of_eq p.isLt (by rw [State.elapse_ports, hports])
  obtain ⟨hlink, ⟨a, b, c, d, hform⟩⟩ := (s.elapse t).emit_forms 1 ((s.port p).acked + i) h.payload hlen
  rw [State.elapse_port] at hform
  have hslot : (s.elapse t).flitSlot p = (((s.elapse t).emit p 1 ((s.port p).acked + i) h.payload).inc
      (Reg.ZLINK_PORT_TX_FLITS_COUNT p)).modPort p (fun q => { q with
        replayAt := if i + 1 < q.replay.length then some (i + 1) else none,
        replayAck := if i + 1 < q.replay.length then q.replayAck else none }) := by
    rw [State.flitSlot_data ((State.elapse_active ..).trans hact) (by rw [State.elapse_port]; exact hinit)
      (by rw [State.elapse_port]; exact hnak), State.elapse_port, hat]
    simp only [Option.bind_some, hh, Option.map_some]
    unfold State.sendReplay State.sendData
    rw [State.elapse_port]
  have hexec := (flitTransmit_exec (t := t) hr p hflits).trans (congrArg _ hslot)
  have hhost := hlink.host.trans (State.elapse_host ..)
  have hlen' := Nat.lt_of_lt_of_eq hlen hlink.length.symm
  generalize (s.elapse t).emit p 1 ((s.port p).acked + i) h.payload = e at hexec hform hhost hlen'
  have hport : ((e.inc (Reg.ZLINK_PORT_TX_FLITS_COUNT p)).modPort p (fun q => { q with
        replayAt := if i + 1 < q.replay.length then some (i + 1) else none,
        replayAck := if i + 1 < q.replay.length then q.replayAck else none })).port p = { e.port p with
          replayAt := if i + 1 < (e.port p).replay.length then some (i + 1) else none,
          replayAck := if i + 1 < (e.port p).replay.length then (e.port p).replayAck else none } :=
    State.port_modPort_same (s := e.inc (Reg.ZLINK_PORT_TX_FLITS_COUNT p)) hlen'
  have hreplay : (e.port p).replay = (s.port p).replay := (congrArg Port.replay hform :)
  refine ⟨_, hexec, (congrArg Port.txFlit hport).trans (congrArg Port.txFlit hform), (congrArg Port.replay hport).trans hreplay, ?_, hhost⟩
  rw [hport, ← hreplay]

/-- The next flit of the transaction in progress, held until it is acknowledged (R370, R374). -/
theorem flitTransmit_next (hr : Running s) (p : Fin 4) (hports : s.ports.length = 4) (hflits : s.flits p = true)
    {h : Held} {l : List Held} (hact : s.active p = true) (hinit : (s.port p).initOwed = false) (hnak : (s.port p).nakOwed = false)
    (hat : (s.port p).replayAt = none) (hroom : (s.port p).replay.length < 256) (hcur : (s.port p).cur = h :: l) :
    ∃ v, exec (.flitTransmit p t) s = .next v ∧
      (v.port p).txFlit = mkFlit ((s.port p).header 1 (s.port p).sentSeq) (padded h.payload) ∧ (v.port p).cur = l ∧
      (v.port p).sentSeq = (s.port p).sentSeq + 1 ∧ (v.port p).replay = (s.port p).replay ++ [h] ∧ v.host = s.host := by
  have hlen : (p : Nat) < (s.elapse t).ports.length := Nat.lt_of_lt_of_eq p.isLt (by rw [State.elapse_ports, hports])
  obtain ⟨hlink, ⟨a, b, c, d, hform⟩⟩ := (s.elapse t).emit_forms 1 (s.port p).sentSeq h.payload hlen
  rw [State.elapse_port] at hform
  have hhost := hlink.host.trans (State.elapse_host ..)
  have hlen' := Nat.lt_of_lt_of_eq hlen hlink.length.symm
  have hslot : (s.elapse t).flitSlot p = (s.elapse t).sendNext p h := by
    rw [State.flitSlot_data ((State.elapse_active ..).trans hact) (by rw [State.elapse_port]; exact hinit)
      (by rw [State.elapse_port]; exact hnak), State.elapse_port, hat, hcur]
    exact if_neg (Nat.not_le.2 hroom)
  have hsent : ∃ (x : State) (n : Nat), (s.elapse t).sendNext p h = x.set (Reg.ZLINK_PORT_UNACKED_FLITS p) n ∧
      x = (((s.elapse t).emit p 1 (s.port p).sentSeq h.payload).inc (Reg.ZLINK_PORT_TX_FLITS_COUNT p)).modPort p (fun q =>
        { (q.modCred q.curClass (fun c => { c with sent := c.sent + 1 })) with
          sentSeq := q.sentSeq + 1, replay := q.replay ++ [h], cur := q.cur.drop 1,
          ackAt := if q.replay.isEmpty then
            (((s.elapse t).emit p 1 (s.port p).sentSeq h.payload).inc (Reg.ZLINK_PORT_TX_FLITS_COUNT p)).now else q.ackAt }) := by
    unfold State.sendNext State.sendData
    rw [State.elapse_port]
    exact ⟨_, _, rfl, rfl⟩
  obtain ⟨x, n, hsend, hx⟩ := hsent
  have hexec := (flitTransmit_exec (t := t) hr p hflits).trans (congrArg _ (hslot.trans hsend))
  generalize (s.elapse t).emit p 1 (s.port p).sentSeq h.payload = e at hform hhost hlen' hx
  have hport : x.port p = _ := (congrArg (fun y : State => y.port p) hx).trans
    (State.port_modPort_same (s := e.inc (Reg.ZLINK_PORT_TX_FLITS_COUNT p)) hlen')
  obtain ⟨c₁, c₂, c₃, hcred⟩ := Port.modCred_with (e.port p) (e.port p).curClass (fun c => { c with sent := c.sent + 1 })
  have hsame : (e.inc (Reg.ZLINK_PORT_TX_FLITS_COUNT p)).port p = e.port p := rfl
  rw [hsame, hcred] at hport
  have hxhost : x.host = s.host := by
    rw [hx]
    exact hhost
  have hv : (x.set (Reg.ZLINK_PORT_UNACKED_FLITS p) n).port p = x.port p := rfl
  refine ⟨_, hexec, ?_, ?_, ?_, ?_, hxhost⟩
  · rw [hv]
    exact (congrArg Port.txFlit hport).trans (congrArg Port.txFlit hform)
  · rw [hv]
    refine (congrArg Port.cur hport).trans ?_
    exact (congrArg (fun q : Port => q.cur.drop 1) hform).trans (congrArg (List.drop 1) hcur)
  · rw [hv]
    exact (congrArg Port.sentSeq hport).trans (congrArg (fun q : Port => q.sentSeq + 1) hform :)
  · rw [hv]
    exact (congrArg Port.replay hport).trans (congrArg (fun q : Port => q.replay ++ [h]) hform :)

/-- A flit or an event of a slot that holds no flit has no effect. -/
theorem flitEvents_absent (hr : Running s) (p : Fin 4) (h : s.flitHere p = false) :
    (∀ f, exec (.flitReceived p f t) s = .next (s.elapse t)) ∧ (∀ b, exec (.initReceived p b t) s = .next (s.elapse t)) ∧
      ∀ a, exec (.nakReceived p a t) s = .next (s.elapse t) := by
  have habsent : ∀ act : State → State, event t (fun s => s.rxSlot p act) s = .next (s.elapse t) := fun act => by
    rw [event_running hr, State.rxSlot_absent (by rw [State.elapse_flitHere]; exact h)]
  exact ⟨fun f => habsent _, fun b => habsent _, fun a => habsent _⟩

/-- A flit of the kind INIT is the event of an INIT with its payload. -/
theorem flitReceived_isInit (p : Fin 4) (hcrc : crc32c (f.take 60) = u32 f 60) (hkind : bits (u32 f 0) 20 3 = 3) :
    exec (.flitReceived p f t) s = exec (.initReceived p ((f.drop 4).take 56) t) s := by
  have hact : (fun s : State => s.onFlit p f) = fun s : State => s.onInit p ((f.drop 4).take 56) := funext fun x => by
    unfold State.onFlit
    exact (if_neg (not_not_intro hcrc)).trans ((if_neg (by rw [hkind]; decide)).trans (if_pos hkind))
  show execFlitReceived p f t s = execInitReceived p _ t s
  unfold execFlitReceived execInitReceived
  rw [hact]

/-- Settles O52: each event, by what the slot or the time-out finds, is one lemma; a line that a flit completes reads back by
`readBlock_stuff`. -/
theorem flitEventsComplete : Obligations.FlitEventsComplete := by
  unfold Obligations.FlitEventsComplete
  intro p t s hr hports hlanes u q
  refine ⟨flitEvents_absent hr p, fun hflits => ⟨flitTransmit_rests hr p hflits, fun hsends hphase hshort =>
    flitTransmit_fills hr p hports hflits rfl hsends hphase hshort⟩, fun hflits => ?_⟩
  refine ⟨fun f hhere hcrc => flitReceived_badCrc hr p hports hflits hhere hcrc, fun f hhere hcrc hkind hact => ?_,
    fun f hcrc hkind => flitReceived_isInit p hcrc hkind, fun b hhere => ?_, fun a hhere hact hcov hnone => ?_,
    replayTimeout_early hr p, fun hact hne hlate => replayTimeout_cases hr p hports hflits hact hne hlate,
    nakRepeat_repeats hr p hflits, initTimeout_fails hr p hports hflits, ?_⟩
  · intro d part c behind hd
    refine ⟨fun hseq hlen hc hcred => ?_, fun hlow hhigh => ?_⟩
    · exact flitReceived_inSequence hr p hports hflits hhere hcrc hkind hact hd rfl hseq hlen hc hcred
    · exact flitReceived_repeated hr p hports hflits hhere hcrc hkind hact hd hlow hhigh
  · refine ⟨fun hok hp hact => initReceived_downlink hr p hports hflits hhere hok hp hact, fun hok hp hact hpath => ?_,
      fun hok hp hfix => ?_, fun hbad => initReceived_invalid hr p hports hflits hhere hbad⟩
    · subst hp
      exact initReceived_uplink hr hports hflits hhere hok hact hpath
    · subst hp
      exact initReceived_fixed hr hports hflits hhere hok hfix
  · exact nakReceived_cases hr p hports hflits hhere hact hcov hnone
  · exact ⟨flitTransmit_init hr p hports hlanes hflits, flitTransmit_activates hr p hports hflits,
      flitTransmit_nak hr p hports hflits, fun i h hact hinit hnak hat hh => flitTransmit_replay hr p hports hflits hact hinit hnak hat hh,
      fun h l hact hinit hnak hat hroom hcur => flitTransmit_next hr p hports hflits hact hinit hnak hat hroom hcur⟩

end Sys2Proof.Machine
end

section
/-! SUPPORT. Ports that rest, resume or wake leave everything of the block but the links (R363, R475, R476). -/

namespace Sys2Proof.Machine

variable {s u v : State} {p : Nat}

/-- Only ports, lanes, free values taken and registers from 0x190000 on change. -/
structure LinksOnly (s u : State) : Prop where
  same : u = { s with regs := u.regs, just := u.just, lanes := u.lanes, ports := u.ports, free := u.free }
  get : ∀ f : Fld, f.lo < 32 → f.addr < 0x190000 → u.get f = s.get f

namespace LinksOnly

theorem refl (s : State) : LinksOnly s s := ⟨rfl, fun _ _ _ => rfl⟩

theorem trans (h : LinksOnly s u) (k : LinksOnly u v) : LinksOnly s v := by
  obtain ⟨h, hg⟩ := h
  obtain ⟨k, kg⟩ := k
  exact ⟨by rw [k, h], fun f hlo hf => (kg f hlo hf).trans (hg f hlo hf)⟩

theorem ite {c : Prop} [Decidable c] (hu : LinksOnly s u) (hv : LinksOnly s v) : LinksOnly s (if c then u else v) := by
  split
  · exact hu
  · exact hv

theorem foldl {α : Type} {f : State → α → State} {l : List α} (hf : ∀ u k, LinksOnly u (f u k)) (s : State) :
    LinksOnly s (l.foldl f s) :=
  List.foldlRecOn (motive := LinksOnly s) l f (.refl s) fun _ hu k _ => hu.trans (hf _ k)

theorem set (s : State) {f : Fld} (hf : 0x190000 ≤ f.addr) (n : Nat) : LinksOnly s (s.set f n) :=
  ⟨rfl, fun q hlo hq => State.get_set_other s (by simp only [Fld.key]; omega) n⟩

theorem modPort (s : State) (p : Nat) (f : Port → Port) : LinksOnly s (s.modPort p f) := ⟨rfl, fun _ _ _ => rfl⟩

theorem modLane (s : State) (l : Nat) (f : Lane → Lane) : LinksOnly s (s.modLane l f) := ⟨rfl, fun _ _ _ => rfl⟩

theorem onlyLink (h : OnlyLink p s u) : LinksOnly s u := ⟨by rw [h.same], fun f _ _ => h.get f⟩

/-- A register of a lane. -/
theorem lane (s : State) (l j n : Nat) : LinksOnly s (s.set ⟨0x190800 + 64 * l, j, 1, .ro, 0, false⟩ n) :=
  .set s (by simp only; omega) n

/-- A register of a port. -/
theorem status (s : State) {f : Fld} (hf : f.addr = 0x190008 + 256 * p) (n : Nat) : LinksOnly s (s.set f n) :=
  .set s (by omega) n

theorem portMasks (s : State) (p : Nat) : LinksOnly s (s.portMasks p) := by
  unfold State.portMasks
  exact ((((LinksOnly.status s (p := p) (f := Reg.ZPHY_PORT_STATUS_LOCKED p) rfl _).trans
    (.status _ (f := Reg.ZPHY_PORT_STATUS_SEEN_RX p) rfl _)).trans
    (.status _ (f := Reg.ZPHY_PORT_STATUS_LANE_ORDER p) rfl _)).trans
    (.status _ (f := Reg.ZPHY_PORT_STATUS_WIDTH_MISMATCH p) rfl _)).trans
    (.status _ (f := Reg.ZPHY_PORT_STATUS_SKEW_ERR p) rfl _)

theorem restLane (s : State) (p : Nat) (used : List Nat) (k : Nat) : LinksOnly s (s.restLane p used k) := by
  unfold State.restLane
  extract_lets l s1 s2
  have h1 : LinksOnly s s1 := (((LinksOnly.modLane s l _).trans (.lane _ l 1 0)).trans (.lane _ l 2 0)).trans (.lane _ l 3 0)
  clear_value s1
  have h2 : LinksOnly s s2 := h1.trans (.lane s1 l 4 0)
  clear_value s2
  exact .ite h2 ((h2.trans (.lane _ l 0 0)).trans (.lane _ l 5 0))

theorem lanesReset (s : State) (p : Nat) : LinksOnly s (s.lanesReset p) := by
  rw [State.lanesReset_eq]
  have hfold : LinksOnly s ((List.range 4).foldl (fun s' k => s'.restLane p (s.lanesOf p) k) s) :=
    .foldl (fun u k => .restLane u p _ k) s
  exact (hfold.trans (.modPort _ p _)).trans (.portMasks _ p)

theorem applyConfig (s : State) (p : Nat) : LinksOnly s (s.applyConfig p) := by
  unfold State.applyConfig
  extract_lets w x eq
  have hx : LinksOnly s x := (LinksOnly.status s (p := p) (f := Reg.ZPHY_PORT_STATUS_WIDTH_USED p) rfl _).trans
    (.status _ (f := Reg.ZPHY_PORT_STATUS_RATE_USED p) rfl _)
  clear_value x eq
  exact hx.trans (.modPort x p _)

theorem bringUp (s : State) (p : Nat) : LinksOnly s (s.bringUp p) := by
  unfold State.bringUp
  extract_lets ok w x
  have hw : LinksOnly s w := .modPort s p _
  clear_value w
  have hx : LinksOnly w x := .foldl (fun u k => (LinksOnly.modLane u _ _).trans (.lane _ (4 * p + k) 0 0)) w
  clear_value x
  exact ((hw.trans hx).trans (.status x (f := Reg.ZPHY_PORT_STATUS_STATE p) rfl 1)).trans (.lanesReset _ p)

theorem resumePort (s : State) (p : Nat) : LinksOnly s (s.resumePort p) :=
  .ite (.bringUp s p) ((LinksOnly.applyConfig s p).trans (.bringUp _ p))

theorem startBlock (s : State) (p : Nat) (idle : Bool) : LinksOnly s (s.startBlock p idle) :=
  (LinksOnly.foldl (fun u _ => .modLane u _ _) s).trans (.modPort _ p _)

theorem sendBurst (s : State) (p : Nat) : LinksOnly s (s.sendBurst p) :=
  ((LinksOnly.foldl (fun u _ => .modLane u _ _) s).trans (.modPort _ p _)).trans (.startBlock _ p false)

theorem leaveIdle (s : State) (p : Nat) : LinksOnly s (s.leaveIdle p) :=
  .ite (((LinksOnly.modPort s p _).trans (.lanesReset _ p)).trans (.sendBurst _ p)) (.refl s)

theorem wakePorts (s : State) : LinksOnly s s.wakePorts :=
  .foldl (fun u p => .ite (.resumePort u p) (.leaveIdle u p)) s

theorem restTraining (s : State) (p : Nat) : LinksOnly s (s.restTraining p) :=
  .ite ((LinksOnly.modPort s p _).trans (.lanesReset _ p)) (.refl s)

end LinksOnly

theorem LinksOnly.host (h : LinksOnly s u) : u.host = s.host := by rw [h.same]
theorem LinksOnly.dram (h : LinksOnly s u) : u.dram = s.dram := by rw [h.same]
theorem LinksOnly.power (h : LinksOnly s u) : u.power = s.power := by rw [h.same]
theorem LinksOnly.job (h : LinksOnly s u) : u.job = s.job := by rw [h.same]
theorem LinksOnly.tab0 (h : LinksOnly s u) : u.tab0 = s.tab0 := by rw [h.same]
theorem LinksOnly.tab1 (h : LinksOnly s u) : u.tab1 = s.tab1 := by rw [h.same]

end Sys2Proof.Machine
end

section
/-! SUPPORT. AUTO_L1_ENTRY, L1_EXIT, LADDER_ENTRY, and a wake from L2 or L3 (R474 to R476). -/

namespace Sys2Proof.Machine

variable {s u v : State} {t : Nat}

/-! ### L1 -/

theorem State.elapse_restful (s : State) (t : Nat) : (s.elapse t).restful = s.restful := by
  unfold State.restful State.acceptedWork
  simp only [State.elapse_job, State.elapse_pack, State.elapse_host, State.elapse_tone, State.elapse_mem, State.elapse_cam,
    State.dmaRunning, State.elapse_flag, State.elapse_moving, State.elapse_line, State.elapse_therm, State.elapse_ports]

theorem autoL1Entry_cases (hr : Running s) :
    (s.flag Reg.LADDER_CTRL_AUTO_L1 = true → s.get Reg.LADDER_STATE = 0 → s.restful = true →
      exec (.autoL1Entry t) s = .next ((s.elapse t).set Reg.LADDER_STATE 1)) ∧
    ((s.flag Reg.LADDER_CTRL_AUTO_L1 = false ∨ s.get Reg.LADDER_STATE ≠ 0 ∨ s.restful = false) →
      exec (.autoL1Entry t) s = .next (s.elapse t)) := by
  have hexec : exec (.autoL1Entry t) s = .next ((s.elapse t).when
      (s.flag Reg.LADDER_CTRL_AUTO_L1 && s.get Reg.LADDER_STATE == 0 && s.restful) (fun s => s.set Reg.LADDER_STATE 1)) := by
    show execAutoL1Entry t s = _
    unfold execAutoL1Entry
    rw [event_running hr, State.elapse_flag, State.elapse_get, State.elapse_restful]
  refine ⟨fun hauto hstate hrest => hexec.trans (congrArg _ (if_pos ?_)), fun h => hexec.trans (congrArg _ (if_neg ?_))⟩
  · rw [hauto, hstate, hrest]
    rfl
  · simp only [Bool.and_eq_true, beq_iff_eq, not_and, Bool.not_eq_true]
    rintro ⟨hauto, hstate⟩
    rcases h with h | h | h
    · exact absurd (hauto.symm.trans h) (by decide)
    · exact absurd hstate h
    · exact h

theorem l1Exit_cases (hr : Running s) :
    (s.get Reg.LADDER_STATE = 1 → s.power.stay = false → exec (.l1Exit t) s = .next ((s.elapse t).set Reg.LADDER_STATE 0)) ∧
    ((s.get Reg.LADDER_STATE ≠ 1 ∨ s.power.stay = true) → exec (.l1Exit t) s = .next (s.elapse t)) := by
  have hexec : exec (.l1Exit t) s = .next ((s.elapse t).when
      (s.get Reg.LADDER_STATE == 1 && !s.power.stay) (fun s => s.set Reg.LADDER_STATE 0)) := by
    show execL1Exit t s = _
    unfold execL1Exit
    rw [event_running hr, State.elapse_get, State.elapse_power]
  refine ⟨fun hstate hstay => hexec.trans (congrArg _ (if_pos ?_)), fun h => hexec.trans (congrArg _ (if_neg ?_))⟩
  · rw [hstate, hstay]
    rfl
  · simp only [Bool.and_eq_true, beq_iff_eq, not_and, Bool.not_eq_true, Bool.not_eq_false']
    exact fun hstate => h.elim (fun h => absurd hstate h) id

/-! ### The ordered state -/

theorem Fld.key_div {f : Fld} (hlo : f.lo < 32) : f.key / 32 = f.addr := by
  simp only [Fld.key]
  omega

/-- A register that L3 keeps. -/
theorem State.get_sleep3 (s : State) {f : Fld} (hlo : f.lo < 32) (hkept : keptInL3 f.addr = true)
    (hid : f.key ≠ Reg.OTP_PATCH_ID.key) (hact : f.key ≠ Reg.OTP_PATCH_ACTIVE.key) : s.sleep3.get f = s.get f := by
  unfold State.sleep3
  refine (State.get_setB_other _ hact false).trans ((State.get_set_other _ hid 0).trans ?_)
  refine Sparse.get_filter_other _ fun e _ he => ?_
  rw [he, Fld.key_div hlo]
  exact hkept

/-- The state that a ladder entry reaches (R475). -/
theorem ladderEntry_enters (hr : Running s) {st w : Nat} (hentry : s.power.entry = some (st, w)) (h2 : 2 ≤ st) (h4 : st ≤ 4)
    (hrest : ∀ q ∈ s.ports, q.phase ≠ .up ∧ q.phase ≠ .waking) :
    ∃ v, exec (.ladderEntry t) s = .next v ∧ v.get Reg.LADDER_STATE = st ∧ v.power.entry = none ∧ v.dram = s.dram ∧
      v.host = s.host ∧ (st ≠ 3 → v.job = s.job ∧ v.tab0 = s.tab0 ∧ v.tab1 = s.tab1) ∧
      (st = 3 → v.job = .init ∧ v.tab0 = [] ∧ v.tab1 = [] ∧ v.otp.patch = none) := by
  have hall : (s.elapse t).ports.all (fun q => q.phase != .up && q.phase != .waking) = true := by
    rw [State.elapse_ports, List.all_eq_true]
    intro q hq
    obtain ⟨h1, h2⟩ := hrest q hq
    simp [h1, h2]
  have hexec : exec (.ladderEntry t) s = .next ((s.elapse t).enter st) := by
    show execLadderEntry t s = _
    unfold execLadderEntry
    rw [event_running hr, State.elapse_power, hentry]
    exact congrArg _ (if_pos hall)
  have hfold : LinksOnly (s.elapse t) ((List.range 4).foldl State.restTraining (s.elapse t)) :=
    .foldl (fun u p => .restTraining u p) _
  have hdram := hfold.dram.trans (State.elapse_dram ..)
  have hhost := hfold.host.trans (State.elapse_host ..)
  have hjob := hfold.job.trans (State.elapse_job ..)
  have htab0 := hfold.tab0.trans (State.elapse_tab0 s t)
  have htab1 := hfold.tab1.trans (State.elapse_tab1 s t)
  generalize hx : (List.range 4).foldl State.restTraining (s.elapse t) = x at hdram hhost hjob htab0 htab1
  generalize hy : (x.set Reg.LADDER_STATE st).modPower (fun x => { x with entry := none }) = y
  have henter : (s.elapse t).enter st = if st = 3 then y.sleep3 else y := by
    rw [← hy, ← hx]
    rfl
  have hstate : y.get Reg.LADDER_STATE = st := by
    rw [← hy]
    exact (State.get_set_same x Reg.LADDER_STATE st).trans (Nat.mod_eq_of_lt (Nat.lt_of_le_of_lt h4 (by decide)))
  obtain ⟨hyd, hyh, hyj, hy0, hy1, hye⟩ : y.dram = s.dram ∧ y.host = s.host ∧ y.job = s.job ∧ y.tab0 = s.tab0 ∧ y.tab1 = s.tab1 ∧
      y.power.entry = none := by
    rw [← hy]
    exact ⟨hdram, hhost, hjob, htab0, htab1, rfl⟩
  by_cases h3 : st = 3
  · rw [if_pos h3] at henter
    have hkeep := (y.get_sleep3 (f := Reg.LADDER_STATE) (by decide) (by decide) (by decide) (by decide)).trans hstate
    refine ⟨_, hexec.trans (congrArg _ henter), hkeep, hye, hyd, hyh, fun h => absurd h3 h, fun _ => ⟨rfl, rfl, rfl, rfl⟩⟩
  · rw [if_neg h3] at henter
    exact ⟨_, hexec.trans (congrArg _ henter), hstate, hye, hyd, hyh, fun _ => ⟨hyj, hy0, hy1⟩, fun h => absurd h h3⟩

end Sys2Proof.Machine
end

section
/-! SUPPORT. A restart from reset: its registers and parts, and what an L4 exit keeps (R466 to R468, R475). -/

namespace Sys2Proof.Machine

variable {A : Nat → Prop} {s u v : State} {t : Nat}

/-! ### Writes of registers at some addresses -/

/-- Only registers at the addresses of `A` change. -/
structure SetsAt (A : Nat → Prop) (s u : State) : Prop where
  same : u = { s with regs := u.regs, just := u.just }
  get : ∀ q : Fld, q.lo < 32 → ¬ A q.addr → u.get q = s.get q

namespace SetsAt

theorem refl (s : State) : SetsAt A s s := ⟨rfl, fun _ _ _ => rfl⟩

theorem trans (h : SetsAt A s u) (k : SetsAt A u v) : SetsAt A s v := by
  obtain ⟨h, hg⟩ := h
  obtain ⟨k, kg⟩ := k
  exact ⟨by rw [k, h], fun q hlo hq => (kg q hlo hq).trans (hg q hlo hq)⟩

theorem ite {c : Prop} [Decidable c] (hu : SetsAt A s u) (hv : SetsAt A s v) : SetsAt A s (if c then u else v) := by
  split
  · exact hu
  · exact hv

theorem set (s : State) {f : Fld} (hlo : f.lo < 32) (hf : A f.addr) (n : Nat) : SetsAt A s (s.set f n) :=
  ⟨rfl, fun q hq hA => State.get_set_other s (fun hk => hA (by
    have haddr : q.addr = f.addr := by rw [← Fld.key_div hq, ← Fld.key_div hlo, hk]
    rw [haddr]
    exact hf)) n⟩

theorem foldl {α : Type} {f : State → α → State} {l : List α} (s : State) (hf : ∀ u, ∀ k ∈ l, SetsAt A u (f u k)) :
    SetsAt A s (l.foldl f s) :=
  List.foldlRecOn (motive := SetsAt A s) l f (.refl s) fun u hu k hk => hu.trans (hf u k hk)

theorem keepFields (s w : State) {fs : List Fld} (hfs : ∀ f ∈ fs, f.lo < 32 ∧ A f.addr) : SetsAt A s (s.keepFields w fs) :=
  .foldl s fun u f hf => .set u (hfs f hf).1 (hfs f hf).2 _

theorem flag (h : SetsAt A s u) {q : Fld} (hlo : q.lo < 32) (hA : ¬ A q.addr) : u.flag q = s.flag q :=
  congrArg (· == 1) (h.get q hlo hA)

end SetsAt

/-! ### INVALID of every encoder -/

/-- What each step of a fold brings about for its own index, and no later step undoes, holds at the end. -/
theorem foldl_reaches {g : State → Nat → State} {Q : Nat → State → Prop} (hown : ∀ u k, Q k (g u k))
    (hkeep : ∀ u j k, Q j u → Q j (g u k)) {j : Nat} : ∀ {l : List Nat}, j ∈ l → ∀ s, Q j (l.foldl g s)
  | k :: l, hj, s => by
    rcases List.mem_cons.1 hj with rfl | hj
    · exact List.foldlRecOn (motive := Q j) l g (hown s j) fun u hu k _ => hkeep u j k hu
    · exact foldl_reaches hown hkeep hj (g s k)

theorem State.lostCounts_sets (s : State) : SetsAt (fun n => ∃ e < 4, n = 0xC002C + 256 * e) s s.lostCounts :=
  .foldl s fun u e he => .set u (f := Reg.ENC_STATUS_INVALID e) (by simp only [Reg.ENC_STATUS_INVALID]; omega)
    ⟨e, List.mem_range.1 he, rfl⟩ _

theorem State.lostCounts_invalid (s : State) (e : Fin 4) : s.lostCounts.flag (Reg.ENC_STATUS_INVALID e) = true := by
  refine foldl_reaches (g := fun s k => s.setB (Reg.ENC_STATUS_INVALID k) true)
    (Q := fun k u => u.flag (Reg.ENC_STATUS_INVALID k) = true)
    (fun u k => State.flag_setB_same u _ true Nat.one_ne_zero) (fun u j k hj => ?_) (List.mem_range.2 e.2) s
  by_cases hjk : j = k
  · rw [hjk]
    exact State.flag_setB_same u _ true Nat.one_ne_zero
  · rw [State.flag_setB_other u (by simp only [Fld.key, Reg.ENC_STATUS_INVALID]; omega)]
    exact hj

/-! ### From reset -/

/-- The settings of a port that the active record gives. -/
theorem State.applyRecord_port (s : State) (p w : Nat) : SetsAt (fun n => n = 0x20004 ∨ 0x190000 ≤ n) s
    (let x := ((s.set (Reg.ZPHY_PORT_CONFIG_ENABLE p) (bits w 0 1)).set (Reg.ZPHY_PORT_CONFIG_WIDTH p) (bits w 1 2)).set
      (Reg.ZPHY_PORT_CONFIG_RATE p) (bits w 4 2)
    if bit w 21 then
      ((x.set (Reg.ZPHY_PORT_EQ_PRE p) (bits w 6 4)).set (Reg.ZPHY_PORT_EQ_MAIN p) (bits w 10 6)).set
        (Reg.ZPHY_PORT_EQ_POST p) (bits w 16 5)
    else x) := by
  have hset : ∀ (u : State) (f : Fld) (n : Nat), f.lo < 32 → 0x190000 ≤ f.addr →
      SetsAt (fun n => n = 0x20004 ∨ 0x190000 ≤ n) u (u.set f n) := fun u f n hlo hf => .set u hlo (.inr hf) n
  have hconfig : ∀ (u : State) (j k n : Nat), j < 32 →
      SetsAt (fun n => n = 0x20004 ∨ 0x190000 ≤ n) u (u.set ⟨0x190000 + 256 * p, j, k, .rw, 0, false⟩ n) :=
    fun u j k n hj => hset u _ n hj (by simp only; omega)
  have heq : ∀ (u : State) (j k r n : Nat), j < 32 →
      SetsAt (fun n => n = 0x20004 ∨ 0x190000 ≤ n) u (u.set ⟨0x190004 + 256 * p, j, k, .rw, r, false⟩ n) :=
    fun u j k r n hj => hset u _ n hj (by simp only; omega)
  extract_lets x
  have hx : SetsAt _ s x := ((hset s (Reg.ZPHY_PORT_CONFIG_ENABLE p) _ (Nat.zero_lt_succ _)
    (Nat.le_add_right ..)).trans (hconfig _ 1 2 _ (by decide))).trans (hconfig _ 4 2 _ (by decide))
  clear_value x
  exact .ite (((hx.trans (heq x 0 4 3 _ (by decide))).trans (heq _ 8 6 48 _ (by decide))).trans
    (heq _ 16 5 12 _ (by decide))) hx

theorem State.applyRecord_sets (s : State) : SetsAt (fun n => n = 0x20004 ∨ 0x190000 ≤ n) s s.applyRecord := by
  unfold State.applyRecord
  extract_lets x id y
  have hx : SetsAt (fun n => n = 0x20004 ∨ 0x190000 ≤ n) s x := .set s (by decide) (.inl rfl) _
  have hy : SetsAt (fun n => n = 0x20004 ∨ 0x190000 ≤ n) x y :=
    (SetsAt.set x (by decide) (.inr (by decide)) _).trans (.set _ (by decide) (.inr (by decide)) _)
  exact (hx.trans hy).trans (.foldl y fun u p _ => State.applyRecord_port u p (u.recPreset p))

/-- A restart from reset, before RESET_CAUSE is shown. -/
def State.restarted (s : State) (otp : OtpSt) (side : Bool) : State :=
  let r := { State.reset with
    pending := s.pending, free := s.free, tap := s.tap, otp := otp,
    encs := s.encs.map (fun (x : Enc) => { Enc.init with raw := x.raw }),
    power := { PowerSt.init with supplyOk := s.power.supplyOk, vcore := s.power.vcore } }
  let r := r.applyRecord
  let r := { r with ports := (List.range 4).map (fun p => Port.init (r.flag (Reg.ZPHY_PORT_CONFIG_ENABLE p))) }
  let r := (r.keepFields s pinFields).setB Reg.PAIR_STATUS_SIDE (side != r.recSideInv)
  { r with pair := { r.pair with
    ilkLowSince := if r.flag Reg.PAIR_STATUS_ILK_IN then none else some 0 } }

theorem State.fullReset_eq (s : State) (otp : OtpSt) (causes : List Fld) (side : Bool) :
    s.fullReset otp causes side =
      causes.foldl (fun r f => r.setB f true) ((s.restarted otp side).setB Reg.LADDER_RESET_CAUSE_POWER_ON false) := rfl

theorem pinFields_at : ∀ f ∈ pinFields, f.lo < 32 ∧ 0xC0000 ≤ f.addr := by decide

/-- What a restart from reset leaves of a block (R466). -/
structure Restarted (s : State) (otp : OtpSt) (v : State) : Prop where
  pending : v.pending = s.pending
  dram : v.dram = []
  job : v.job = .init
  host : v.host = .init
  time : v.time = .init
  otp : v.otp = otp
  resetN : v.power.resetN = true
  startup : v.power.startup = true

theorem Restarted.sets {otp : OtpSt} (h : Restarted s otp u) (k : SetsAt A u v) : Restarted s otp v := by
  rw [k.same]
  exact ⟨h.pending, h.dram, h.job, h.host, h.time, h.otp, h.resetN, h.startup⟩

theorem State.restarted_parts (s : State) (otp : OtpSt) (side : Bool) : Restarted s otp (s.restarted otp side) ∧
    ∀ q : Fld, q.lo < 32 → q.addr < 0xC0000 → q.addr ≠ 0x20004 → (s.restarted otp side).get q = q.reset := by
  unfold State.restarted
  extract_lets src enc0 power0 r x y z
  have hr : Restarted s otp r := ⟨rfl, rfl, rfl, rfl, rfl, rfl, rfl, rfl⟩
  have hrget : ∀ q : Fld, q.lo < 32 → q.addr < 0xC0000 → r.get q = q.reset := fun q hlo hq =>
    State.get_reset (by simp only [Fld.key, Reg.ZPHY_PORT_CONFIG_ENABLE]; omega)
  clear_value r
  have hx : SetsAt _ r x := r.applyRecord_sets
  have hxr := hr.sets hx
  clear_value x
  have hyr : Restarted s otp y := ⟨hxr.pending, hxr.dram, hxr.job, hxr.host, hxr.time, hxr.otp, hxr.resetN, hxr.startup⟩
  have hyget : ∀ q : Fld, y.get q = x.get q := fun _ => rfl
  clear_value y
  have hz : SetsAt (fun n => 0xC0000 ≤ n) y z := (SetsAt.keepFields y s pinFields_at).trans (.set _ (by decide) (by decide) _)
  have hzr := hyr.sets hz
  clear_value z
  refine ⟨⟨hzr.pending, hzr.dram, hzr.job, hzr.host, hzr.time, hzr.otp, hzr.resetN, hzr.startup⟩, fun q hlo hq hne => ?_⟩
  calc z.get q = y.get q := hz.get q hlo (by omega)
    _ = x.get q := hyget q
    _ = r.get q := hx.get q hlo (by omega)
    _ = q.reset := hrget q hlo hq

end Sys2Proof.Machine
end

section
/-! SUPPORT. RESET_N_RISE, an L4 exit, and the wake events (R468, R475, R476). -/

namespace Sys2Proof.Machine

variable {s u v : State} {t cause : Nat}

/-! ### RESET_N_RISE -/

/-- What a restart for one cause shows of RESET_CAUSE and READY. -/
theorem State.fullReset_parts (s : State) (otp : OtpSt) (causes : List Fld) (side : Bool)
    (hcauses : ∀ f ∈ causes, f.lo < 32 ∧ f.addr = 0x10020) : Restarted s otp (s.fullReset otp causes side) ∧
    (∀ q : Fld, q.lo < 32 → q.addr < 0xC0000 → q.addr ≠ 0x20004 → q.addr ≠ 0x10020 →
      (s.fullReset otp causes side).get q = q.reset) := by
  rw [State.fullReset_eq]
  obtain ⟨hr, hget⟩ := s.restarted_parts otp side
  have hset : SetsAt (fun n => n = 0x10020) (s.restarted otp side)
      (causes.foldl (fun r f => r.setB f true) ((s.restarted otp side).setB Reg.LADDER_RESET_CAUSE_POWER_ON false)) :=
    (SetsAt.set (A := fun n => n = 0x10020) (f := Reg.LADDER_RESET_CAUSE_POWER_ON) _ (by decide) rfl _).trans (.foldl _ fun u f hf => .set u (hcauses f hf).1 (hcauses f hf).2 _)
  exact ⟨hr.sets hset, fun q hlo hq hne h20 => (hset.get q hlo h20).trans (hget q hlo hq hne)⟩

/-- A bit of RESET_CAUSE is set by its cause alone. -/
theorem State.restarted_cause (s : State) (otp : OtpSt) (side : Bool) {q : Fld} (hlo : q.lo < 32) (ha : q.addr = 0x10020)
    (h0 : q.reset = 0) (hq : q.key ≠ Reg.LADDER_RESET_CAUSE_POWER_ON.key) :
    ((s.restarted otp side).setB Reg.LADDER_RESET_CAUSE_POWER_ON false).flag q = false := by
  have hget := (s.restarted_parts otp side).2 q hlo (by omega) (by omega)
  rw [State.flag_setB_other _ hq, State.flag, hget, h0]
  rfl

theorem OtpSt.readArea_area (o : OtpSt) : o.readArea.gens = o.gens ∧ o.readArea.keys = o.keys := by
  unfold OtpSt.readArea
  split <;> exact ⟨rfl, rfl⟩

/-- RESET_N_RISE with PWRGOOD low, or with RESET_N high, changes nothing. -/
theorem resetNRise_without (pwrgood side : Bool) (h : s.power.resetN = true ∨ pwrgood = false) :
    exec (.resetNRise pwrgood side t) s = .next (s.elapse t) := by
  have hc : ¬ ((!(s.elapse t).power.resetN && pwrgood) = true) := by
    rw [State.elapse_power]
    rcases h with h | h <;> simp [h]
  exact congrArg _ (if_neg hc)

/-- RESET_N_RISE starts the block from reset, and shows its cause. -/
theorem resetNRise_restarts (side : Bool) (hheld : s.power.resetN = false) :
    ∃ v, exec (.resetNRise true side t) s = .next v ∧ v.power.resetN = true ∧ v.power.startup = true ∧
      v.flag Reg.CMD_STATUS_READY = false ∧ v.dram = [] ∧ v.job = .init ∧ v.host = .init ∧ v.time = .init ∧
      v.pending = s.pending ∧ v.otp.gens = s.otp.gens ∧ v.otp.keys = s.otp.keys ∧
      v.flag Reg.LADDER_RESET_CAUSE_PIN = !s.power.causePwrgood ∧
      v.flag Reg.LADDER_RESET_CAUSE_PWRGOOD = s.power.causePwrgood := by
  have hc : (!(s.elapse t).power.resetN && true) = true := by
    rw [State.elapse_power, hheld]
    rfl
  have hexec : exec (.resetNRise true side t) s = .next ((s.elapse t).fullReset (s.elapse t).otpRead
      (if s.power.causePwrgood then [Reg.LADDER_RESET_CAUSE_POWER_ON, Reg.LADDER_RESET_CAUSE_PWRGOOD]
        else [Reg.LADDER_RESET_CAUSE_PIN]) side) := by
    rw [← State.elapse_power s t]
    exact congrArg _ (if_pos hc)
  have hpend : (s.elapse t).pending = s.pending := State.elapse_pending ..
  have hotp : (s.elapse t).otpRead.gens = s.otp.gens ∧ (s.elapse t).otpRead.keys = s.otp.keys := by
    unfold State.otpRead
    rw [State.elapse_otp]
    exact OtpSt.readArea_area _
  generalize (s.elapse t).otpRead = otp at hexec hotp
  generalize s.elapse t = u at hexec hpend
  have hpin := u.restarted_cause otp side (q := Reg.LADDER_RESET_CAUSE_PIN) (by decide) rfl rfl (by decide)
  have hpwr := u.restarted_cause otp side (q := Reg.LADDER_RESET_CAUSE_PWRGOOD) (by decide) rfl rfl (by decide)
  have hparts := u.fullReset_parts otp (side := side)
    (if s.power.causePwrgood then [Reg.LADDER_RESET_CAUSE_POWER_ON, Reg.LADDER_RESET_CAUSE_PWRGOOD]
      else [Reg.LADDER_RESET_CAUSE_PIN]) (by split <;> decide)
  obtain ⟨hr, hget⟩ := hparts
  have hready := hget Reg.CMD_STATUS_READY (by decide) (by decide) (by decide) (by decide)
  refine ⟨_, hexec, hr.resetN, hr.startup, congrArg (· == 1) hready, hr.dram, hr.job, hr.host, hr.time, hr.pending.trans hpend,
    (congrArg OtpSt.gens hr.otp).trans hotp.1, (congrArg OtpSt.keys hr.otp).trans hotp.2, ?_⟩
  rw [State.fullReset_eq]
  cases s.power.causePwrgood with
  | true =>
    refine ⟨?_, State.flag_setB_same _ _ true Nat.one_ne_zero⟩
    exact ((State.flag_setB_other _ (by decide) true).trans (State.flag_setB_other _ (by decide) true)).trans hpin
  | false =>
    exact ⟨State.flag_setB_same _ _ true Nat.one_ne_zero, (State.flag_setB_other _ (by decide) true).trans hpwr⟩

/-! ### The wake events -/

theorem State.elapse_wakes (s : State) (t cause : Nat) : (s.elapse t).wakes cause = s.wakes cause := by
  unfold State.wakes
  simp only [State.elapse_wakePort, State.elapse_get]

/-- What a wake by a cause shows of a block that slept in the state `deep`. -/
structure Woken (deep cause : Nat) (b v : State) : Prop where
  state : v.get Reg.LADDER_STATE = 1
  sleptIn : v.get Reg.LADDER_STATE_FROM = low 3 deep
  lastWake : v.get Reg.LADDER_STATE_LAST_WAKE = low (Reg.LADDER_STATE_LAST_WAKE).w cause
  wakes : v.get Reg.LADDER_WAKES_COUNT = low (Reg.LADDER_WAKES_COUNT).w (b.get Reg.LADDER_WAKES_COUNT + 1)
  dram : v.dram = b.dram
  job : v.job = b.job
  get : ∀ q : Fld, q.lo < 32 → q.addr < 0x190000 → q.addr ≠ 0x10004 → q.addr ≠ 0x10024 → q.key ∉ eventFields →
    v.get q = b.get q

theorem State.reachL1_woken (s : State) (deep port : Nat) : Woken deep port s (s.reachL1 deep port) ∧
    (s.reachL1 deep port).power = s.power := by
  unfold State.reachL1
  generalize hx : ((s.set Reg.LADDER_STATE 1).set Reg.LADDER_STATE_LAST_WAKE port).set Reg.LADDER_STATE_FROM deep = x
  have hset : SetsAt (fun n => n = 0x10004) s x := by
    rw [← hx]
    exact ((SetsAt.set (A := fun n => n = 0x10004) s (f := Reg.LADDER_STATE) (by decide) rfl _).trans
      (.set (A := fun n => n = 0x10004) _ (f := Reg.LADDER_STATE_LAST_WAKE) (by decide) rfl _)).trans
      (.set (A := fun n => n = 0x10004) _ (f := Reg.LADDER_STATE_FROM) (by decide) rfl _)
  have hraise : ∀ q : Fld, q.key ∉ eventFields → q.key ≠ Reg.LADDER_WAKES_COUNT.key →
      ((x.inc Reg.LADDER_WAKES_COUNT).raise evLadderWake 0 (leBytes 1 deep ++ leBytes 1 port)).get q = x.get q :=
    fun q hev hq => (State.raise_get _ _ _ _ hev).trans (State.get_set_other x hq _)
  have hpower : x.power = s.power := by rw [hset.same]
  have hdram : x.dram = s.dram := by rw [hset.same]
  have hjob : x.job = s.job := by rw [hset.same]
  refine ⟨⟨(hraise _ (by decide) (by decide)).trans ?_, (hraise _ (by decide) (by decide)).trans ?_,
    (hraise _ (by decide) (by decide)).trans ?_, (State.raise_get _ _ _ _ (by decide)).trans ?_,
    (State.raise_dram ..).trans hdram, (State.raise_job ..).trans hjob,
    fun q hlo _ h4 h24 hev => (hraise q hev fun hk => ?_).trans (hset.get q hlo h4)⟩, (State.raise_power ..).trans hpower⟩
  · rw [← hx, State.get_set_other _ (by decide), State.get_set_other _ (by decide), State.get_set_same]
    rfl
  · rw [← hx, State.get_set_same]
    rfl
  · rw [← hx, State.get_set_other _ (by decide), State.get_set_same]
  · rw [State.inc, State.get_set_same, hset.get _ (by decide) (by decide)]
  · exact h24 (by rw [← Fld.key_div hlo, hk]; rfl)

/-- The state that a block wakes with: L3 loses the counts, L4 boots anew (R475, R476). -/
def State.wakeBase (s : State) : State :=
  if s.get Reg.LADDER_STATE = 3 then s.lostCounts else if s.get Reg.LADDER_STATE = 4 then s.exitL4 else s

theorem State.wake_woken (s : State) (cause : Nat) : Woken (s.get Reg.LADDER_STATE) cause s.wakeBase (s.wake cause) ∧
    (s.wake cause).power = { s.wakeBase.power with dozing := false, wakeHeld := none, stay := true } := by
  have heq : s.wake cause = (s.wakeBase.modPower (fun x =>
    { x with dozing := false, wakeHeld := none, stay := true })).wakePorts.reachL1 (s.get Reg.LADDER_STATE) cause := rfl
  rw [heq]
  generalize s.wakeBase = b
  have hlinks := LinksOnly.wakePorts (b.modPower (fun x => { x with dozing := false, wakeHeld := none, stay := true }))
  generalize (b.modPower (fun x => { x with dozing := false, wakeHeld := none, stay := true })).wakePorts = x at hlinks
  obtain ⟨h, hpower⟩ := x.reachL1_woken (s.get Reg.LADDER_STATE) cause
  exact ⟨⟨h.state, h.sleptIn, h.lastWake, h.wakes.trans (by rw [hlinks.get _ (by decide) (by decide)]; rfl),
    h.dram.trans hlinks.dram, h.job.trans hlinks.job, fun q hlo hq h4 h24 hev => (h.get q hlo hq h4 h24 hev).trans
      (hlinks.get q hlo hq)⟩, hpower.trans hlinks.power⟩

/-! ### The exit from L4 -/

/-- Entries put back in do not change another key. -/
theorem Sparse.get_foldl_ins {β : Type} (d : β) (l m : List (Nat × β)) {k : Nat} (h : ∀ e ∈ l, e.1 ≠ k) :
    Sparse.get d (l.foldl (fun m e => Sparse.ins e.1 e.2 m) m) k = Sparse.get d m k :=
  List.foldlRecOn (motive := fun x => Sparse.get d x k = Sparse.get d m k) l _ rfl fun _ hx e he =>
    (Sparse.get_ins_other d (h e he).symm _ _).trans hx

/-- What an L4 exit shows: the registers of reset but for those kept, RESET_CAUSE, and no encoder count (R475). -/
theorem State.exitL4_parts (s : State) : s.exitL4.job = .init ∧ s.exitL4.power.startup = true ∧
    s.exitL4.flag Reg.LADDER_RESET_CAUSE_L4_EXIT = true ∧ s.exitL4.flag Reg.CMD_STATUS_READY = false ∧
    ∀ e : Fin 4, s.exitL4.flag (Reg.ENC_STATUS_INVALID e) = true := by
  unfold State.exitL4
  extract_lets w otp0 otp r kept regs time0 x pair0 y
  obtain ⟨hr, hget⟩ := s.fullReset_parts otp [Reg.LADDER_RESET_CAUSE_L4_EXIT] s.sidePin (by decide)
  have hcause : r.flag Reg.LADDER_RESET_CAUSE_L4_EXIT = true := by
    rw [show r = _ from State.fullReset_eq ..]
    exact State.flag_setB_same _ _ true Nat.one_ne_zero
  have hready := hget Reg.CMD_STATUS_READY (by decide) (by decide) (by decide) (by decide)
  change Restarted s otp r at hr
  change r.get _ = _ at hready
  clear_value r
  have hregs : ∀ q : Fld, q.lo < 32 → keptInL4 w q.addr = false → Sparse.get q.reset regs q.key = r.get q := fun q hlo hq => by
    refine (Sparse.get_foldl_ins _ _ _ fun e he hk => ?_).trans (Sparse.get_filter_other _ fun e _ hk => ?_)
    · have hin := (List.mem_filter.1 he).2
      rw [hk, Fld.key_div hlo, hq] at hin
      exact absurd hin (by decide)
    · rw [hk, Fld.key_div hlo, hq]
      rfl
  have hfix : ∀ n, n < 0x40000 → keptInL4 w n = false := fun n hn => by
    simp only [keptInL4, Bool.or_eq_false_iff, Bool.and_eq_false_iff, beq_eq_false_iff_ne, decide_eq_false_iff_not]
    omega
  have hy : SetsAt (fun n => 0xC0000 ≤ n) y (y.keepFields s ((List.range 4).map Reg.ENC_CONFIG_RELAY_EN)).lostCounts := by
    refine (SetsAt.keepFields (fs := (List.range 4).map Reg.ENC_CONFIG_RELAY_EN) y s fun f hf => ?_).trans ?_
    · obtain ⟨e, -, rfl⟩ := List.mem_map.1 hf
      exact ⟨by simp only [Reg.ENC_CONFIG_RELAY_EN]; omega, by simp only [Reg.ENC_CONFIG_RELAY_EN]; omega⟩
    · have h := (y.keepFields s ((List.range 4).map Reg.ENC_CONFIG_RELAY_EN)).lostCounts_sets
      exact ⟨h.same, fun q hlo hq => h.get q hlo fun ⟨e, _, he⟩ => hq (by omega)⟩
  have hyregs : y.regs = regs := rfl
  have hyjob : y.job = .init := hr.job
  have hypower : y.power.startup = true := hr.startup
  have hyget : ∀ q : Fld, q.lo < 32 → q.addr < 0x40000 → y.get q = r.get q := fun q hlo hq =>
    (congrArg (Sparse.get q.reset · q.key) hyregs).trans (hregs q hlo (hfix _ hq))
  clear_value y
  refine ⟨?_, ?_, ?_, ?_, State.lostCounts_invalid _⟩
  · rw [hy.same]
    exact hyjob
  · rw [hy.same]
    exact hypower
  · exact (hy.flag (by decide) (by decide)).trans ((congrArg (· == 1) (hyget _ (by decide) (by decide))).trans hcause)
  · exact (hy.flag (by decide) (by decide)).trans
      (congrArg (· == 1) ((hyget Reg.CMD_STATUS_READY (by decide) (by decide)).trans hready))

/-- A wake during an entry is held. -/
theorem evtLadderWake_held (hr : Running s) (h : s.power.entry ≠ none) : exec (.evtLadderWake cause t) s = .next
    ((s.elapse t).modPower (fun x => { x with wakeHeld := some (x.wakeHeld.getD cause) })) := by
  show execEvtLadderWake cause t s = _
  unfold execEvtLadderWake
  rw [event_running hr]
  refine congrArg _ (if_pos ?_)
  rw [State.elapse_power]
  exact Option.isSome_iff_ne_none.2 h

theorem State.wakeEvent_noEntry (hentry : s.power.entry = none) (hheld : s.power.wakeHeld = none) :
    s.wakeEvent cause = if s.get Reg.LADDER_STATE < 2 then s else if s.wakes cause then s.wake cause else s := by
  unfold State.wakeEvent
  rw [hentry, hheld]
  rfl

/-- A cause that may not wake changes nothing. -/
theorem evtLadderWake_ignored (hr : Running s) (hentry : s.power.entry = none)
    (h : s.get Reg.LADDER_STATE < 2 ∨ (s.power.wakeHeld = none ∧ s.wakes cause = false)) :
    exec (.evtLadderWake cause t) s = .next (s.elapse t) := by
  show execEvtLadderWake cause t s = _
  unfold execEvtLadderWake
  rw [event_running hr]
  refine congrArg _ ((if_neg ?_).trans ?_)
  · rw [State.elapse_power, hentry]
    decide
  · rcases h with h | ⟨hheld, hwakes⟩
    · exact if_pos (by rwa [State.elapse_get])
    · rw [State.elapse_power, hheld, State.elapse_wakes, hwakes]
      exact ite_self _

/-- A cause that may wake takes the block to L1. -/
theorem evtLadderWake_wakes (hr : Running s) (hentry : s.power.entry = none) (hheld : s.power.wakeHeld = none)
    (hwakes : s.wakes cause = true) (hdeep : 2 ≤ s.get Reg.LADDER_STATE) :
    exec (.evtLadderWake cause t) s = .next ((s.elapse t).wake cause) := by
  show execEvtLadderWake cause t s = _
  unfold execEvtLadderWake
  rw [event_running hr, State.wakeEvent_noEntry (by rwa [State.elapse_power]) (by rwa [State.elapse_power]),
    if_neg (by rw [State.elapse_get]; omega), State.elapse_wakes, if_pos hwakes]

/-- The wake from L2 or L3. -/
theorem evtLadderWake_shallow (hr : Running s) (hentry : s.power.entry = none) (hheld : s.power.wakeHeld = none)
    (hwakes : s.wakes cause = true) (hdeep : s.get Reg.LADDER_STATE = 2 ∨ s.get Reg.LADDER_STATE = 3) :
    ∃ v, exec (.evtLadderWake cause t) s = .next v ∧ v.get Reg.LADDER_STATE = 1 ∧
      v.get Reg.LADDER_STATE_FROM = s.get Reg.LADDER_STATE ∧
      v.get Reg.LADDER_STATE_LAST_WAKE = low (Reg.LADDER_STATE_LAST_WAKE).w cause ∧
      v.get Reg.LADDER_WAKES_COUNT = low (Reg.LADDER_WAKES_COUNT).w (s.get Reg.LADDER_WAKES_COUNT + 1) ∧
      v.power.dozing = false ∧ v.power.stay = true ∧ v.dram = s.dram ∧
      (s.get Reg.LADDER_STATE = 3 → ∀ (e : Fin 4), v.flag (Reg.ENC_STATUS_INVALID e) = true) := by
  obtain ⟨h, hpower⟩ := (s.elapse t).wake_woken cause
  have hstate := State.elapse_get s t Reg.LADDER_STATE
  rw [hstate] at h
  have hbase : SetsAt (fun n => ∃ e < 4, n = 0xC002C + 256 * e) (s.elapse t) (s.elapse t).wakeBase := by
    unfold State.wakeBase
    rw [hstate, if_neg (show s.get Reg.LADDER_STATE ≠ 4 by omega)]
    exact .ite (State.lostCounts_sets _) (.refl _)
  have hwakesCount := (hbase.get Reg.LADDER_WAKES_COUNT (by decide) (fun ⟨e, _, he⟩ => by
    simp only [Reg.LADDER_WAKES_COUNT] at he; omega)).trans (State.elapse_get ..)
  have hdram : (s.elapse t).wakeBase.dram = s.dram := by
    rw [hbase.same]
    exact State.elapse_dram ..
  refine ⟨_, evtLadderWake_wakes hr hentry hheld hwakes (by omega), h.state, h.sleptIn.trans ?_, h.lastWake,
    h.wakes.trans (by rw [hwakesCount]), by rw [hpower], by rw [hpower], h.dram.trans hdram, fun h3 e => ?_⟩
  · rcases hdeep with h | h <;> rw [h] <;> rfl
  · have hlost : (s.elapse t).wakeBase = (s.elapse t).lostCounts := if_pos (hstate.trans h3)
    have hget := h.get (Reg.ENC_STATUS_INVALID e) (by simp only [Reg.ENC_STATUS_INVALID]; omega)
      (by simp only [Reg.ENC_STATUS_INVALID]; omega) (by simp only [Reg.ENC_STATUS_INVALID]; omega)
      (by simp only [Reg.ENC_STATUS_INVALID]; omega) (by decide +revert)
    rw [State.flag, hget, hlost]
    exact (s.elapse t).lostCounts_invalid e

/-- The wake from L4. -/
theorem evtLadderWake_deep (hr : Running s) (hentry : s.power.entry = none) (hheld : s.power.wakeHeld = none)
    (hwakes : s.wakes cause = true) (hdeep : s.get Reg.LADDER_STATE = 4) :
    ∃ v, exec (.evtLadderWake cause t) s = .next v ∧ v.get Reg.LADDER_STATE = 1 ∧
      v.flag Reg.LADDER_RESET_CAUSE_L4_EXIT = true ∧ v.flag Reg.CMD_STATUS_READY = false ∧
      v.job = .init ∧ v.power.startup = true ∧ v.power.stay = true ∧
      ∀ (e : Fin 4), v.flag (Reg.ENC_STATUS_INVALID e) = true := by
  obtain ⟨h, hpower⟩ := (s.elapse t).wake_woken cause
  have hstate := (State.elapse_get s t Reg.LADDER_STATE).trans hdeep
  have hbase : (s.elapse t).wakeBase = (s.elapse t).exitL4 := by
    unfold State.wakeBase
    rw [hstate]
    rfl
  obtain ⟨hjob, hstartup, hcause, hready, hinvalid⟩ := (s.elapse t).exitL4_parts
  rw [← hbase] at hjob hstartup hcause hready
  refine ⟨_, evtLadderWake_wakes hr hentry hheld hwakes (by omega), h.state, (congrArg (· == 1) (h.get _ (by decide) (by decide)
    (by decide) (by decide) (by decide))).trans hcause, (congrArg (· == 1) (h.get Reg.CMD_STATUS_READY (by decide) (by decide)
    (by decide) (by decide) (by decide))).trans hready, h.job.trans hjob, by rw [hpower]; exact hstartup, by rw [hpower],
    fun e => ?_⟩
  have hget := h.get (Reg.ENC_STATUS_INVALID e) (by simp only [Reg.ENC_STATUS_INVALID]; omega)
    (by simp only [Reg.ENC_STATUS_INVALID]; omega) (by simp only [Reg.ENC_STATUS_INVALID]; omega)
    (by simp only [Reg.ENC_STATUS_INVALID]; omega) (by decide +revert)
  rw [State.flag, hget, hbase]
  exact hinvalid e

end Sys2Proof.Machine
end

section
/-! SUPPORT. RESET_N_FALL, PWRGOOD_FALL, and the PMBus (R467, R469 to R472). -/

namespace Sys2Proof.Machine

variable {s u v : State} {t : Nat}

/-! ### The pins of a block that is held -/

/-- A property that a change of one element gives it holds of that element, where the default has it. -/
theorem modAt_getD_own {α : Type} {P : α → Prop} {f : α → α} {d : α} (hf : ∀ x, P (f x)) (hd : P d) (n : Nat) (l : List α) :
    P ((modAt f n l).getD n d) := by
  by_cases hn : n < l.length
  · rw [modAt_getD_same f d n l hn]
    exact hf _
  · rw [List.getD_eq_default _ _ (by rw [modAt_length]; omega)]
    exact hd

/-- A property that a change keeps holds of every element after it. -/
theorem modAt_getD_keep {α : Type} {P : α → Prop} {f : α → α} {d : α} (hf : ∀ x, P x → P (f x)) (n i : Nat) (l : List α)
    (h : P (l.getD i d)) : P ((modAt f n l).getD i d) := by
  by_cases hi : i = n
  · subst hi
    by_cases hn : i < l.length
    · rw [modAt_getD_same f d i l hn]
      exact hf _ h
    · rw [List.getD_eq_default _ _ (Nat.not_lt.1 hn)] at h
      rwa [List.getD_eq_default _ _ (by rw [modAt_length]; omega)]
  · rwa [modAt_getD_other f d n i l hi]

/-- Held pins touch neither memory nor the host, nor the interlock output once it fell. -/
structure Dark (s u : State) : Prop where
  dram : u.dram = s.dram
  host : u.host = s.host
  power : u.power = s.power
  ilk : u.flag Reg.PAIR_STATUS_ILK_OUT = s.flag Reg.PAIR_STATUS_ILK_OUT

theorem Dark.trans (h : Dark s u) (k : Dark u v) : Dark s v :=
  ⟨k.dram.trans h.dram, k.host.trans h.host, k.power.trans h.power, k.ilk.trans h.ilk⟩

theorem Dark.foldl {g : State → Nat → State} (hg : ∀ u k, Dark u (g u k)) (l : List Nat) (s : State) : Dark s (l.foldl g s) :=
  List.foldlRecOn (motive := Dark s) l g ⟨rfl, rfl, rfl, rfl⟩ fun u hu k _ => hu.trans (hg u k)

/-- A plane whose marks end and an axis that is off. -/
def State.darkAxis (s : State) (p : Nat) : State := (s.modPlane p (fun x => { x with marks := [] })).deEnergise p

/-- A head port whose pads are low. -/
def State.darkHead (s : State) (q : Nat) : State := s.modHead q (fun x => { x with padA := false, padB := false })

theorem State.holdPins_eq (s : State) : s.holdPins =
    (let x := (List.range 48).foldl State.darkHead ((List.range 4).foldl State.darkAxis
      (s.dropIlk.modPair (fun x => { x with strOut := false, ilkHold := 0 })))
    { x with line := { x.line with wspdDuty := 0 } }) := rfl

theorem State.darkAxis_dark (s : State) (p : Nat) : Dark s (s.darkAxis p) := by
  unfold State.darkAxis State.deEnergise
  extract_lets off x
  have hx : Dark s x := ⟨rfl, rfl, rfl, rfl⟩
  clear_value x
  refine hx.trans ⟨rfl, rfl, rfl, ?_⟩
  rw [State.flag_setB_other, State.flag_setB_other, State.flag_setB_other]
  all_goals
    simp only [Fld.key, Reg.PAIR_STATUS_ILK_OUT, Reg.MOTION_AX_STATUS_ENERGISED, Reg.MOTION_AX_STATUS_LOST,
      Reg.MOTION_AX_STATUS_HOLD]
    omega

theorem State.holdPins_parts (s : State) : s.holdPins.flag Reg.PAIR_STATUS_ILK_OUT = false ∧ s.holdPins.line.wspdDuty = 0 ∧
    (∀ (q : Fin 48), (s.holdPins.head q).padA = false ∧ (s.holdPins.head q).padB = false) ∧
    (∀ (p : Fin 4), (s.holdPins.plane p).marks = []) ∧ s.holdPins.dram = s.dram ∧ s.holdPins.host = s.host ∧
    s.holdPins.power = s.power := by
  rw [State.holdPins_eq]
  have hdrop : (s.dropIlk.modPair (fun x => { x with strOut := false, ilkHold := 0 })).flag Reg.PAIR_STATUS_ILK_OUT = false :=
    State.flag_setB_same s _ false Nat.one_ne_zero
  have hdropped : (s.dropIlk.modPair (fun x => { x with strOut := false, ilkHold := 0 })).dram = s.dram ∧
    (s.dropIlk.modPair (fun x => { x with strOut := false, ilkHold := 0 })).host = s.host ∧
    (s.dropIlk.modPair (fun x => { x with strOut := false, ilkHold := 0 })).power = s.power := ⟨rfl, rfl, rfl⟩
  generalize s.dropIlk.modPair (fun x => { x with strOut := false, ilkHold := 0 }) = a at hdrop hdropped
  have haxes := Dark.foldl State.darkAxis_dark (List.range 4) a
  have hmarks : ∀ p : Fin 4, (((List.range 4).foldl State.darkAxis a).plane p).marks = [] := fun p =>
    foldl_reaches (g := State.darkAxis) (Q := fun p u => (u.plane p).marks = [])
      (fun u k => modAt_getD_own (P := fun x : PlaneSt => x.marks = []) (fun _ => rfl) rfl k u.line.planes)
      (fun u j k hj => modAt_getD_keep (P := fun x : PlaneSt => x.marks = []) (fun _ _ => rfl) k j u.line.planes hj)
      (List.mem_range.2 p.2) a
  generalize (List.range 4).foldl State.darkAxis a = b at haxes hmarks
  have hheads : Dark b ((List.range 48).foldl State.darkHead b) := Dark.foldl (g := State.darkHead) (fun _ _ => ⟨rfl, rfl, rfl, rfl⟩) _ b
  have hpads : ∀ q : Fin 48, (((List.range 48).foldl State.darkHead b).head q).padA = false ∧
      (((List.range 48).foldl State.darkHead b).head q).padB = false := fun q =>
    foldl_reaches (g := State.darkHead) (Q := fun q u => (u.head q).padA = false ∧ (u.head q).padB = false)
      (fun u k => modAt_getD_own (P := fun x : HeadPort => x.padA = false ∧ x.padB = false) (fun _ => ⟨rfl, rfl⟩) ⟨rfl, rfl⟩ k u.heads)
      (fun u j k hj => modAt_getD_keep (P := fun x : HeadPort => x.padA = false ∧ x.padB = false) (fun _ _ => ⟨rfl, rfl⟩) k j u.heads hj)
      (List.mem_range.2 q.2) b
  have hplanes : ((List.range 48).foldl State.darkHead b).line = b.line :=
    List.foldlRecOn (motive := fun u : State => u.line = b.line) _ _ rfl fun _ hu _ _ => hu
  have hplane : ∀ p, ((List.range 48).foldl State.darkHead b).plane p = b.plane p := fun p =>
    congrArg (fun x : LineSt => x.planes.getD p .init) hplanes
  generalize (List.range 48).foldl State.darkHead b = c at hheads hpads hplane
  have h := haxes.trans hheads
  obtain ⟨hdram, hhost, hpower⟩ := hdropped
  exact ⟨h.ilk.trans hdrop, rfl, hpads, fun p => (congrArg PlaneSt.marks (hplane p)).trans (hmarks p), h.dram.trans hdram,
    h.host.trans hhost, h.power.trans hpower⟩

/-- RESET_N_FALL holds the block. -/
theorem resetNFall_holds (hr : Running s) : ∃ v, exec (.resetNFall t) s = .next v ∧ v.power.resetN = false ∧
    v.flag Reg.PAIR_STATUS_ILK_OUT = false ∧ v.line.wspdDuty = 0 ∧
    (∀ (q : Fin 48), (v.head q).padA = false ∧ (v.head q).padB = false) ∧
    (∀ (p : Fin 4), (v.plane p).marks = []) ∧ v.dram = s.dram ∧ v.host = s.host := by
  have hexec : exec (.resetNFall t) s = .next ((s.elapse t).holdPins.modPower (fun x => { x with resetN := false })) :=
    event_running hr
  obtain ⟨hilk, hduty, hheads, hmarks, hdram, hhost, -⟩ := (s.elapse t).holdPins_parts
  generalize (s.elapse t).holdPins = x at hexec hilk hduty hheads hmarks hdram hhost
  exact ⟨_, hexec, rfl, hilk, hduty, hheads, hmarks, hdram.trans (State.elapse_dram ..), hhost.trans (State.elapse_host ..)⟩

/-- PWRGOOD_FALL holds the block, and keeps its cause for the next start. -/
theorem pwrgoodFall_holds (hr : Running s) : ∃ v, exec (.pwrgoodFall t) s = .next v ∧ v.power.resetN = false ∧
    v.power.pwrGood = false ∧ v.power.causePwrgood = true ∧ v.flag Reg.PAIR_STATUS_ILK_OUT = false := by
  have hon : (s.elapse t).power.resetN = true := (congrArg PowerSt.resetN (State.elapse_power s t)).trans hr
  have hexec : exec (.pwrgoodFall t) s = .next
      (((s.elapse t).holdPins.modPower (fun x => { x with resetN := false })).modPower
        (fun x => { x with pwrGood := false, causePwrgood := true })) := by
    show execPwrgoodFall t s = _
    unfold execPwrgoodFall
    dsimp only
    rw [if_pos hon, State.resetFalls]
  obtain ⟨hilk, -⟩ := (s.elapse t).holdPins_parts
  generalize (s.elapse t).holdPins = x at hexec hilk
  exact ⟨_, hexec, rfl, rfl, rfl, hilk⟩

/-! ### The core voltage and the PMBus -/

theorem pmbusAlert_queues (hr : Running s) : exec (.pmbusAlert t) s = .next ((s.elapse t).pmPut [.statusWord]) :=
  event_running hr

theorem State.pmPut_core (s : State) (ops : List PmOp) : (s.pmPut ops).regs = s.regs ∧ (s.pmPut ops).host = s.host ∧
    (s.pmPut ops).power.vcore = s.power.vcore ∧ (s.pmPut ops).power.settleAt = s.power.settleAt := by
  unfold State.pmPut
  split <;> exact ⟨rfl, rfl, rfl, rfl⟩

theorem State.raiseToFloor_core (s : State) : s.raiseToFloor.regs = s.regs ∧ s.raiseToFloor.host = s.host ∧
    s.raiseToFloor.power.vcore = s.power.vcore ∧ s.raiseToFloor.power.settleAt = s.power.settleAt := by
  unfold State.raiseToFloor State.requestVcore
  dsimp only
  split
  · split
    · exact State.pmPut_core ..
    · exact ⟨rfl, rfl, rfl, rfl⟩
  · exact ⟨rfl, rfl, rfl, rfl⟩

/-- The voltage commanded comes into force when it has settled. -/
theorem vsettleExpiry_settles (hr : Running s) {mv e : Nat} (hat : s.power.settleAt = some (mv, e)) (hdue : e ≤ (s.elapse t).now) :
    ∃ v, exec (.vsettleExpiry t) s = .next v ∧ v.power.vcore = mv ∧ v.power.settleAt = none ∧ v.host = s.host ∧
      v.regs = s.regs := by
  have hexec : exec (.vsettleExpiry t) s = .next ((((s.elapse t).modPower (fun x =>
      { x with vcore := mv, settleAt := none })).pmPut [.readVout, .readIout]).raiseToFloor) := by
    show execVsettleExpiry t s = _
    unfold execVsettleExpiry State.settleVcore
    rw [event_running hr, State.elapse_power, hat]
    exact congrArg _ (if_neg (Nat.not_lt.2 hdue))
  generalize hx : (s.elapse t).modPower (fun x => { x with vcore := mv, settleAt := none }) = x at hexec
  have hxs : x.regs = s.regs ∧ x.host = s.host ∧ x.power.vcore = mv ∧ x.power.settleAt = none := by
    rw [← hx]
    exact ⟨State.elapse_regs s t, State.elapse_host s t, rfl, rfl⟩
  obtain ⟨hregs, hhost, hvcore, hsettle⟩ := hxs
  obtain ⟨hr1, hh1, hv1, hs1⟩ := x.pmPut_core [.readVout, .readIout]
  obtain ⟨hr2, hh2, hv2, hs2⟩ := (x.pmPut [.readVout, .readIout]).raiseToFloor_core
  exact ⟨_, hexec, hv2.trans (hv1.trans hvcore), hs2.trans (hs1.trans hsettle), hh2.trans (hh1.trans hhost),
    hr2.trans (hr1.trans hregs)⟩

theorem vsettleExpiry_idle (hr : Running s) (hat : s.power.settleAt = none) :
    exec (.vsettleExpiry t) s = .next (s.elapse t) := by
  show execVsettleExpiry t s = _
  unfold execVsettleExpiry State.settleVcore
  rw [event_running hr, State.elapse_power, hat]

/-- The end of the oldest PMBus transaction. -/
theorem pmbusTransactionEnd_ends (hr : Running s) (hon : s.pmbusOn = true) (ok : Bool) (value : Nat) :
    exec (.pmbusTransactionEnd ok value t) s = .next ((s.elapse t).pmEnd ok value) := by
  have hc : (s.elapse t).pmbusOn = true := (State.elapse_flag s t Reg.LADDER_PMBUS_CFG_ENABLE).trans hon
  exact (event_running hr).trans (congrArg _ (if_pos hc))

/-- What the queue's oldest transaction leaves before its result: a VOUT_COMMAND is shown as requested. -/
def State.pmTaken (s : State) (l : List PmOp) : PmOp → State
  | .voutCommand mv => ((s.modPower (fun x => { x with pmQueue := l })).set Reg.LADDER_VCORE_REQ_MV mv).modPower (fun x =>
      { x with voutCode := x.voutExp.map (fun e => voutCodeOf e mv) })
  | _ => s.modPower (fun x => { x with pmQueue := l })

theorem State.pmEnd_cons (s : State) {op : PmOp} {l : List PmOp} (hq : s.power.pmQueue = op :: l) (ok : Bool) (value : Nat) :
    s.pmEnd ok value = if ok then (s.pmTaken l op).pmDone value op else (s.pmTaken l op).pmFault := by
  unfold State.pmEnd
  rw [hq]
  cases op <;> rfl

/-- A transaction that ends well. -/
theorem pmbusTransactionEnd_done (hr : Running s) (hon : s.pmbusOn = true) {op : PmOp} {l : List PmOp}
    (hq : s.power.pmQueue = op :: l) (value : Nat) :
    exec (.pmbusTransactionEnd true value t) s = .next (((s.elapse t).pmTaken l op).pmDone value op) :=
  (pmbusTransactionEnd_ends hr hon true value).trans (congrArg _ (State.pmEnd_cons _
    ((congrArg PowerSt.pmQueue (State.elapse_power s t)).trans hq) true value))

theorem State.pmTaken_parts (s : State) (l : List PmOp) (op : PmOp) : (s.pmTaken l op).power.pmQueue = l ∧
    (s.pmTaken l op).power.vcore = s.power.vcore ∧
    (s.pmTaken l op).get Reg.LADDER_PMBUS_STATUS_ERRORS = s.get Reg.LADDER_PMBUS_STATUS_ERRORS := by
  cases op with
  | voutCommand mv => exact ⟨rfl, rfl, State.get_set_other (s.modPower _) (by decide) mv⟩
  | _ => exact ⟨rfl, rfl, rfl⟩

/-- A transaction that fails, or a fault bit, withdraws the requests that wait. -/
theorem pmbusTransactionEnd_fails (hr : Running s) (hon : s.pmbusOn = true) {op : PmOp} {l : List PmOp}
    (hq : s.power.pmQueue = op :: l) {ok : Bool} {value : Nat} (h : ok = false ∨ (op = .statusWord ∧ low 16 value ≠ 0)) :
    ∃ v, exec (.pmbusTransactionEnd ok value t) s = .next v ∧ v.flag Reg.LADDER_PMBUS_STATUS_FAULT = true ∧
      v.power.pmQueue = l.filter (fun o => !o.isVout) ∧ v.power.vcore = s.power.vcore ∧
      v.get Reg.LADDER_PMBUS_STATUS_ERRORS = min (s.get Reg.LADDER_PMBUS_STATUS_ERRORS + 1)
        (2 ^ (Reg.LADDER_PMBUS_STATUS_ERRORS).w - 1) := by
  have hfault : (s.elapse t).pmEnd ok value = ((s.elapse t).pmTaken l op).pmFault := by
    rw [State.pmEnd_cons _ ((congrArg PowerSt.pmQueue (State.elapse_power s t)).trans hq)]
    rcases h with rfl | ⟨rfl, hv⟩
    · rfl
    · cases ok
      · rfl
      · exact if_neg hv
  obtain ⟨hqueue, hvcore, herrors⟩ := (s.elapse t).pmTaken_parts l op
  rw [State.elapse_power] at hvcore
  rw [State.elapse_get] at herrors
  have hexec := (pmbusTransactionEnd_ends (t := t) hr hon ok value).trans (congrArg _ hfault)
  generalize (s.elapse t).pmTaken l op = x at hexec hqueue hvcore herrors
  refine ⟨_, hexec, ?_, congrArg _ hqueue, hvcore, ?_⟩
  · exact (congrArg (· == 1) (State.get_incSat_other (by decide) 1)).trans (State.flag_setB_same x _ true Nat.one_ne_zero)
  · refine (State.get_incSat_same ..).trans ?_
    rw [State.get_setB_other x (by decide), herrors]

/-- Settles O56: L1, the ladder's entry and wake, reset, PWRGOOD and the PMBus. -/
theorem ladderAndResetEventsComplete : Obligations.LadderAndResetEventsComplete := by
  intro t s u
  refine ⟨fun hr => ?_, fun pwrgood side h => resetNRise_without pwrgood side h, fun side h => resetNRise_restarts side h⟩
  obtain ⟨hauto, hnoauto⟩ := autoL1Entry_cases (t := t) hr
  obtain ⟨hexit, hnoexit⟩ := l1Exit_cases (t := t) hr
  refine ⟨hauto, hnoauto, hexit, hnoexit, fun st w hentry h2 h4 hrest => ladderEntry_enters hr hentry h2 h4 hrest,
    fun cause => ⟨evtLadderWake_held hr, evtLadderWake_ignored hr, fun hentry hheld hwakes =>
      ⟨evtLadderWake_shallow hr hentry hheld hwakes, evtLadderWake_deep hr hentry hheld hwakes⟩⟩,
    resetNFall_holds hr, pwrgoodFall_holds hr, pmbusAlert_queues hr, fun mv e => vsettleExpiry_settles hr,
    vsettleExpiry_idle hr, fun value hon => ⟨fun mv l hq => ?_, fun l hq => pmbusTransactionEnd_done hr hon hq value,
      fun l e hq he => ?_, fun l hq => pmbusTransactionEnd_done hr hon hq value,
      fun op l ok hq h => pmbusTransactionEnd_fails hr hon hq h⟩⟩
  · have hvs : (u.pmTaken l (.voutCommand mv)).get Reg.LADDER_PMBUS_CFG_VSETTLE_US = s.get Reg.LADDER_PMBUS_CFG_VSETTLE_US :=
      (State.get_set_other (u.modPower _) (by decide) mv).trans (State.elapse_get ..)
    rw [pmbusTransactionEnd_done hr hon hq value, State.pmDone, hvs]
    rfl
  · have hexp : (u.pmTaken l .readVout).power.voutExp = some e :=
      (congrArg PowerSt.voutExp (State.elapse_power s t)).trans he
    rw [pmbusTransactionEnd_done hr hon hq value, State.pmDone, hexp]
    rfl

end Sys2Proof.Machine
end

section
/-! SUPPORT. An active that does not hold the interlock, and a STRING with ROLE 1: the fault stop of its last job flips a
dead map that waits, which writes DRAM (R180, R249, R407). -/

namespace Sys2Proof.Machine

variable {s : State}

/-! ### What writes no DRAM on the way to the standby role -/

theorem State.showRings_dram (s : State) : s.showRings.dram = s.dram := foldl_dram (f := State.showRing) (fun _ _ => rfl) _ s

/-- A hand-over writes what the fault stop writes. -/
theorem State.handOver_dram (s : State) (code : Nat) : (s.handOver code).dram = s.dropIlk.faultStop.dram := by
  unfold State.handOver
  exact State.raise_dram ..

theorem State.handOver_role (s : State) (code : Nat) : (s.handOver code).get Reg.PAIR_STATUS_ROLE = 2 := by
  unfold State.handOver State.toStandby
  dsimp only
  rw [State.raise_get _ _ _ _ (by decide)]
  exact (State.get_set_other (r := Reg.PAIR_STATUS_STATE) (q := Reg.PAIR_STATUS_ROLE) _ (by decide) 0).trans (State.get_set_same ..)

/-- A STRING, taken as a sign of life (R407, R415). -/
def State.hears (s : State) (b : List Byte) : State :=
  s.clashCheck.alive.modPair (fun y => { y with
    peerCkpt := u32 b 4,
    msg := { s.clashCheck.alive.pair.msg with
      last := some s.clashCheck.alive.now, silent := false, faulted := u8 b 1 != 0,
      raised := s.clashCheck.alive.pair.msg.raised && u8 b 1 != 0 } })

/-- A STRING with ROLE 1 and no fault, on an active that does not hold the interlock and does not wait to. -/
theorem State.onString_passes {b : List Byte} (partner : Nat) (hb : u8 b 0 = 1) (hcode : u8 b 1 = 0)
    (hlisten : (s.hears b).pair.listenEnd = none) (hwanted : (s.hears b).pair.ilkWanted = false)
    (hfault : (s.hears b).pair.faultCode = 0)
    (hrole : (s.hears b).get Reg.PAIR_STATUS_ROLE = 1) (hilk : (s.hears b).ilkOut = false) :
    (s.onString b partner).dram = (s.hears b).dropIlk.faultStop.dram := by
  have hpassed : (s.hears b).passedOver = (s.hears b).handOver 0 := by
    unfold State.passedOver
    rw [hrole, hilk]
    exact congrArg (s.hears b).handOver hfault
  have hstandby := (s.hears b).handOver_role 0
  have hdram := (s.hears b).handOver_dram 0
  unfold State.onString
  extract_lets +onlyGivenNames code x msg heard taken told
  have hheard : heard = s.hears b := rfl
  clear_value heard
  subst hheard
  have htaken : taken = (s.hears b).handOver 0 := by
    rw [← hpassed]
    refine (if_neg ?_).trans (if_pos ?_)
    · rw [hlisten]
      exact fun h => absurd h.1 (by decide)
    · rw [hwanted]
      exact ⟨hb, rfl⟩
  clear_value taken
  subst htaken
  dsimp only
  have hnotActive : ∀ P : Prop, ¬ (((s.hears b).handOver 0).get Reg.PAIR_STATUS_ROLE = 1 ∧ P) := fun P h =>
    absurd (hstandby.symm.trans h.1) (by decide)
  rw [if_neg (hnotActive _), if_neg (hnotActive _)]
  by_cases hon : (!((s.hears b).handOver 0).stringOn false) = true
  · exact (congrArg State.dram (if_pos hon)).trans hdram
  · exact (congrArg State.dram ((if_neg hon).trans (if_pos hcode))).trans hdram

theorem State.planesStop_dram (s : State) (was : List Nat) : (s.planesStop was).dram = (was.foldl State.planeStops s).dram :=
  (State.showRings_dram _).trans (State.showJobs_dram _)

/-- A plane that stops without a run of missed lines flips the tables that wait. -/
theorem State.planeStops_flips {p : Nat} (hp : s.prints p = false) (hmiss : (s.plane p).miss = none) :
    s.planeStops p = s.idleFlips p := by
  unfold State.planeStops State.closeRun
  rw [hp, hmiss]
  rfl

/-- With no plane printing, a fault stop ends the job. -/
theorem State.faultStop_quiet {j : JobRun} (hj : s.job.running = some j) (hprints : ∀ p < 4, s.prints p = false) :
    s.faultStop =
      (({ s with job := { s.job with queued := none } }).endJob j 3 (s.enc j.enc).count).planesStop [] := by
  have hwas : s.printing = [] := List.filter_eq_nil_iff.2 fun p hp => by
    rw [hprints p (List.mem_range.1 hp)]
    decide
  have hfaults : (List.range 4).foldl State.planeFault s = s :=
    List.foldlRecOn (motive := (· = s)) _ _ rfl fun u hu p hp => by
      rw [hu, State.planeFault, hprints p (List.mem_range.1 hp)]
      rfl
  unfold State.faultStop
  rw [hj]
  dsimp only
  rw [hwas, hfaults, hj, Option.getD_some]
  rfl

/-- A job on plane 0 that ends. -/
theorem State.endJob_single {j : JobRun} (hj : j.planeList = [0]) (cause : Nat) (pos : Int) : s.endJob j cause pos =
    ((({ s with job := { s.job with running := none, last := some j } }).keepView j 0).raise evJobEnd 0
      (leBytes 1 j.id ++ leBytes 1 cause ++ leBytes 6 0 ++ leInt 8 pos)).planesStop [0] := by
  unfold State.endJob
  rw [hj]
  rfl

/-! ### The counterexample -/

/-- A STRING of an active: ROLE 1, no fault. -/
def activeString : Trans := ⟨ttString, 0xFD, 0xFD, 0, 0, 1 :: List.replicate 15 0⟩

/-- An active of a pair, without ILK_OUT, whose running job has issued its one line on plane 0. A dead map loaded by the
host waits for its flip (R180), the first miss count of the plane in the work area at address 0 is 1 (R249), and the
STRING of the partner waits at the pair port. -/
def doubleActive : State :=
  let s := (lastLineOut.set Reg.PAIR_STATUS_ROLE 1).set Reg.PAIR_CTRL_ENABLE 1
  { s with
    line := { s.line with planes := List.replicate 4 .init }
    ports := modAt (fun q => { q with rxOld := [activeString] }) 3 s.ports }

/-- The STRING is taken. -/
def stringHeard : State := (doubleActive.consume 3 activeString).hears activeString.body

/-- The block on the way to the standby role, as its job ends with the fault stop. -/
def jobEnded : State :=
  (({ stringHeard.dropIlk with job := { stringHeard.dropIlk.job with queued := none, running := none, last := some lastLineJob }
    }).keepView lastLineJob 0).raise evJobEnd 0 (leBytes 1 lastLineJob.id ++ leBytes 1 3 ++ leBytes 6 0 ++ leInt 8 0)

/-- What stands in DRAM once the dead map is in use. -/
def deadMapInUse : State :=
  ((jobEnded.deadMapFlips 0 noLine).modLoop 0 (fun x => { x with loads := x.loads.filter (· != 4) })).waitMark 0

/-- The fault stop writes what the flip of the dead map writes. -/
theorem faultStop_stringHeard : stringHeard.dropIlk.faultStop.dram = (jobEnded.idleFlips 0).dram := by
  have hpos : (stringHeard.dropIlk.enc lastLineJob.enc).count = 0 := by decide
  rw [State.faultStop_quiet (j := lastLineJob) rfl (by decide), hpos, State.planesStop_dram,
    State.endJob_single (by decide), List.foldl_nil, State.planesStop_dram, List.foldl_cons, List.foldl_nil]
  exact congrArg State.dram (State.planeStops_flips (s := jobEnded) (by decide) (by decide))

theorem tableFlip_jobEnded : jobEnded.tableFlip 0 4 noLine = deadMapInUse.zeroMisses 0 :=
  State.tableFlip_deadMap (by decide) noLine

theorem zeroMisses_deadMapInUse : Sparse.get 0 (deadMapInUse.zeroMisses 0).dram 0x40000 = 0 := by
  have hflag : deadMapInUse.flag Reg.MEASURE_WORK_HI_VALID = true := by decide
  have harea : deadMapInUse.workAddr 0 = 0 := by decide
  have hvalid : ∀ r < 6, deadMapInUse.validRegion (4 + r) = true := by decide
  have h := State.zeroMisses_dram (p := 0) hflag (by decide) fun i hi => by
    obtain ⟨r, hr, he⟩ : ∃ r < 6, (deadMapInUse.workAddr 0 + 0x40000 + i) / regionBytes = 4 + r :=
      ⟨i / 0x10000, by omega, by rw [harea]; unfold regionBytes; omega⟩
    rw [he]
    exact hvalid r hr
  rwa [harea] at h

/-- Of the plane's tables the dead map alone waits. -/
theorem jobEnded_pending (table : Nat) : jobEnded.tabBit (Reg.HTONE_PL_TABLES_PENDING 0) table = bit 16 table :=
  congrArg (bit · table) ((State.raise_get _ _ _ _ (by decide)).trans (by decide))

theorem jobEnded_flipHeld (table : Nat) : jobEnded.flipHeld 0 table = false := by
  have hheld : jobEnded.pair.heldFlips = [] := (congrArg PairSt.heldFlips (State.raise_pair ..)).trans rfl
  rw [State.flipHeld, hheld]
  exact Bool.and_false _

theorem idleFlips_jobEnded : Sparse.get 0 (jobEnded.idleFlips 0).dram 0x40000 = 0 := by
  have hlast : ∀ u : State, (if u.tabBit (Reg.HTONE_PL_TABLES_PENDING 0) 5 && !u.flipHeld 0 5 then u.tableFlip 0 5 noLine
      else u).dram = u.dram := fun u => by
    split
    · exact State.tableFlip_dram (by decide) (by decide) noLine
    · rfl
  have hwait : ∀ t, (jobEnded.tabBit (Reg.HTONE_PL_TABLES_PENDING 0) t && !jobEnded.flipHeld 0 t) = bit 16 t := fun t => by
    rw [jobEnded_pending, jobEnded_flipHeld]
    exact Bool.and_true _
  have hstays : ∀ t < 4, (if jobEnded.tabBit (Reg.HTONE_PL_TABLES_PENDING 0) t && !jobEnded.flipHeld 0 t then
      jobEnded.tableFlip 0 t noLine else jobEnded) = jobEnded := fun t ht => if_neg (by
    rw [hwait]
    decide +revert)
  have hflips : (if jobEnded.tabBit (Reg.HTONE_PL_TABLES_PENDING 0) 4 && !jobEnded.flipHeld 0 4 then
      jobEnded.tableFlip 0 4 noLine else jobEnded) = deadMapInUse.zeroMisses 0 :=
    (if_pos (hwait 4)).trans tableFlip_jobEnded
  have hsix : List.range 6 = [0, 1, 2, 3, 4, 5] := rfl
  unfold State.idleFlips
  rw [hsix, List.foldl_cons, hstays 0 (by decide), List.foldl_cons, hstays 1 (by decide), List.foldl_cons,
    hstays 2 (by decide), List.foldl_cons, hstays 3 (by decide), List.foldl_cons, hflips, List.foldl_cons, List.foldl_nil,
    hlast]
  exact zeroMisses_deadMapInUse

/-- Refutes O55: a STRING with ROLE 1 can write DRAM. The active that does not hold the interlock becomes a standby (R407),
its job ends, so the plane stops printing, its waiting dead map flips (R180), and the flip zeroes the miss counts (R249). -/
theorem not_pairEventsComplete : ¬ Obligations.PairEventsComplete := by
  unfold Obligations.PairEventsComplete
  intro h
  obtain ⟨-, -, hstring, -⟩ := h 0 doubleActive rfl rfl rfl
  obtain ⟨v, hv, -, -, -, -, hpassed, -⟩ := hstring activeString 0 (by decide) (by decide) (by decide) rfl rfl rfl rfl rfl rfl
  obtain ⟨-, -, hdram⟩ := hpassed (by decide)
  have hexec : exec (.stringReceived activeString 0 0) doubleActive =
      .next ((doubleActive.consume 3 activeString).onString activeString.body 0) := by
    show execStringReceived activeString 0 0 doubleActive = _
    unfold execStringReceived
    rw [event_running (s := doubleActive) rfl, show doubleActive.elapse 0 = doubleActive from rfl]
    refine congrArg _ ((if_pos (by decide)).trans ?_)
    dsimp only
    rw [if_neg (by decide), if_neg (by decide), if_neg (by decide)]
    rfl
  obtain rfl := Host.Outcome.next.inj (hexec.symm.trans hv)
  have hzero : Sparse.get 0 ((doubleActive.consume 3 activeString).onString activeString.body 0).dram 0x40000 = 0 := by
    rw [State.onString_passes (b := activeString.body) 0 (by decide) (by decide) rfl rfl rfl (by decide) (by decide)]
    exact (congrArg (Sparse.get 0 · 0x40000) faultStop_stringHeard).trans idleFlips_jobEnded
  rw [hdram] at hzero
  exact absurd hzero (by decide)

end Sys2Proof.Machine
end
